-- ==== Sys2Proof/Word.lean ====
section
/-! DEFINITION. Word.lean: the words the machine computes with, and the plain containers the state uses. -/
namespace Sys2Proof

/-- A register, 00_scope.md R6. -/
abbrev Word := BitVec 32
/-- A 256-bit pattern word, 02_vector_sequencer.md R46. -/
abbrev PatWord := BitVec 256
/-- A 64-byte G6 line, 12_memory_system.md R410. -/
abbrev Line512 := BitVec 512

/-- Sparse data by key: key and value pairs, keys rising, no entry equal to what an unlisted key reads as
(the operations are in Machine/Store.lean). -/
abbrev Sparse (α : Type) := List (Nat × α)

/-- A bit field of a register: its lowest bit and its width. -/
structure Fld where
  lo : Nat
  w : Nat
deriving DecidableEq, Repr

/-- What an access to a protected word met (an operand of the commands that read one, since upsets come from
outside the machine): nothing, a correctable error, an uncorrectable error. -/
inductive Ecc where | clean | ce | ue
deriving DecidableEq, Repr, Inhabited

end Sys2Proof
end

