-- ==== Sys2Proof/Syntax.lean ====
section
/-! DEFINITION. Syntax.lean: the commands the block takes, one constructor per row of spec/opcode_table.json,
and the operand records they carry. An operand that the machine cannot know (a comparator sample, an upset, a
temperature, what another device sent) comes in with the command. -/
namespace Sys2Proof

/-- Bus responses, 00_scope.md and 12_memory_system.md R446, best first. -/
inductive Resp where
  | ok | errTimeout | errData | errVault | errDenied | errAbsent | errDecode
deriving DecidableEq, Repr

/-- What one G6 burst meets outside the model's own state: the condition of the four ECC words (12 R436; worse of
this and the stored mark), how many times its EDC CRC fails (R429), the row it activates as (bank, row) (R433), and
an uncorrectable word of a queue's own SRAM (R441). -/
structure G6Env where
  ecc : List Ecc
  edc : Nat
  act : Option (Nat × Nat)
  buf : Bool
deriving DecidableEq, Repr

/-- A bus access: its source identity (12 R415), its 48-bit address, its size in bytes, whether it writes, the write
data (bytes, first byte lowest), the byte enables as a mask, and the DEBUG attribute (00 R11, 15 R509). -/
structure Access where
  src : Nat
  addr : Nat
  size : Nat
  write : Bool
  data : List Nat
  mask : Nat
  debug : Bool
deriving DecidableEq, Repr

/-- A transition of a comparator output at the balls of a group: the lane (0 to 31 CMH, 32 to 63 CML of the pins, 04
R118), its time in units of 125 fs, its new level. -/
structure CmpEdge where
  lane : Nat
  time : Nat
  level : Bool
deriving DecidableEq, Repr

/-- Which counter a COUNTER_READ names (05 R163): pin or group counter i of group g, site partial s of die d, die
total, site total, device total. -/
inductive CounterRef where
  | group (g : Fin 24) (i : Fin 33)
  | site (d : Fin 6) (s : Fin 256)
  | die (d : Fin 6)
  | siteTotal (s : Fin 256)
  | device
deriving DecidableEq, Repr

/-- Why a group is stopped from outside its program (02 R83, R85, R87): its meadow fenced, its die fenced or its clock
lost, an integrity halt. -/
inductive StopWhy where | src | fence | integ
deriving DecidableEq, Repr

/-- What the manager makes of a new link of the tree (08 R278). -/
inductive LinkVerdict where | fits | breaks | duplicate
deriving DecidableEq, Repr

/-- What the fabric gives an enabled block RAM port at a clock edge (09 R311, R312): the block (hamper or cooler: region,
column, number from the bottom), the port, the address, whether it writes, the byte lanes of a cooler, the data. -/
structure RamOp where
  cooler : Bool
  rrow : Fin 6
  rcol : Fin 8
  col : Fin 5
  n : Fin 12
  portB : Bool
  addr : Nat
  write : Bool
  lanes : BitVec 18
  data : BitVec 144
deriving DecidableEq, Repr

/-- Coolers stand in region rows 1 to 4, four in a column of a region (09 R301). -/
def ramExists (o : RamOp) : Bool := !o.cooler || decide (1 ≤ o.rrow.val ∧ o.rrow.val ≤ 4 ∧ o.n.val < 4)

/-- What the fabric gives a multiplier slice at a clock edge (09 R314): region, multiplier column in it, tile in the column,
slice in the tile; A1, A2, B and K. -/
structure SliceOp where
  rrow : Fin 6
  rcol : Fin 8
  col : Fin 4
  tile : Fin 4
  slice : Fin 8
  a1 : BitVec 26
  a2 : BitVec 26
  b : BitVec 26
  k : BitVec 60
deriving DecidableEq, Repr

/-- What stands at a GPIO cell at a clock edge (09 R331): bank and pin; the fabric's output, its output for the low half with
double data rate, the output enable; the level from outside at the edge and at the falling edge before it, none where nothing
outside drives the pin. -/
structure GpioOp where
  bank : Fin 4
  pin : Fin 24
  out : Bool
  outLow : Bool
  oe : Bool
  pad : Option Bool
  padLow : Option Bool
deriving DecidableEq, Repr

/-- The two sides of a fabric promenade port (09 R340). -/
inductive PortSide | initiator | target
deriving DecidableEq, Repr

/-- A REQ transfer (09 R341): ID, address, beats less 1, WR, DBG. -/
structure PortReq where
  id : BitVec 8
  addr : BitVec 48
  len : BitVec 6
  wr : Bool
  dbg : Bool
deriving DecidableEq, Repr

/-- A transaction over the tree (20 R623): one of this device's requesters to another device, with the answer that comes
back, or one of another device to offset `off` of this one. -/
inductive RemoteOp where
  | send (a : Access) (resp : Resp) (data : List Nat)
  | recv (off : Nat) (a : Access) (envs : List G6Env)
deriving DecidableEq, Repr

/-- What a BIST slice finds (17 R557, BIST_FAILINFO.KIND). -/
inductive SliceResult | pass | compare | ue | signature | prbs
deriving DecidableEq, Repr

end Sys2Proof
namespace Sys2Proof

/-- The commands: one constructor per row of spec/opcode_table.json. -/
inductive Instr where
  /-- NEXT (R50): Pattern word NEXT is issued and the program continues with the following word. -/
  | pwNext (g : Fin 24) (e : List Ecc)
  /-- JMP (R50): Pattern word JMP is issued and the program continues at its target. -/
  | pwJmp (g : Fin 24) (e : List Ecc)
  /-- JC (R45): Conditional jump is issued; a state condition is decided at issue, and a ball or gang condition opens a decision window and a fork. -/
  | pwJc (g : Fin 24) (e : List Ecc)
  /-- CALL (R52): CALL is issued; when its condition is true it pushes the return address or faults at depth 16. -/
  | pwCall (g : Fin 24) (e : List Ecc)
  /-- RET (R52): RET is issued; when its condition is true it pops an address or faults at depth 0 or on an end mark. -/
  | pwRet (g : Fin 24) (e : List Ecc)
  /-- LBEG (R54): LBEG copies LRn into LCn and skips the loop when the count is 0. -/
  | pwLbeg (g : Fin 24) (e : List Ecc)
  /-- LEND (R54): LEND decrements LCn and branches back to the body while it stays above 0. -/
  | pwLend (g : Fin 24) (e : List Ecc)
  /-- RPT (R56): RPT issues N identical vectors. -/
  | pwRpt (g : Fin 24) (e : List Ecc)
  /-- MATCH (R60): MATCH starts repeating its vector, each repetition being a deciding vector. -/
  | pwMatch (g : Fin 24) (e : List Ecc)
  /-- SYNC (R66): SYNC makes a gang member repeat its vector as a barrier, or acts as NEXT outside a gang. -/
  | pwSync (g : Fin 24) (e : List Ecc)
  /-- ESC (R69): ESC marks an escape point and with FORCE inserts the escape subroutine even at a count of 0. -/
  | pwEsc (g : Fin 24) (e : List Ecc)
  /-- TRIG (R57): TRIG sends a trigger of its class to the RAE, DMA, an MDSP, the interrupt tree or the fabric 4 ns after its vector ends. -/
  | pwTrig (g : Fin 24) (e : List Ecc)
  /-- SETA (R55): SETA changes one loop, reload or general register by the selected operation. -/
  | pwSeta (g : Fin 24) (e : List Ecc)
  /-- STREAM_ENTER (R72): STREAM ENTER continues at stream index 0 of the armed stream. -/
  | pwStreamEnter (g : Fin 24) (e : List Ecc)
  /-- STREAM_EXIT (R72): STREAM EXIT continues at an instruction RAM address. -/
  | pwStreamExit (g : Fin 24) (e : List Ecc)
  /-- STREAM_ARM (R72): STREAM ARM sets VSQ_SBASE from a general register and starts fetching. -/
  | pwStreamArm (g : Fin 24) (e : List Ecc)
  /-- PAUSE (R58): PAUSE repeats its vector, enters PAUSED and stores its code. -/
  | pwPause (g : Fin 24) (e : List Ecc)
  /-- HALT (R59): HALT ends the run DONE or ABORTED at the ball end of its vector. -/
  | pwHalt (g : Fin 24) (e : List Ecc)
  /-- JC_DECISION (R47): At the decision point of a JC the true condition starts the target, otherwise the issued path continues. -/
  | jcDecision (g : Fin 24)
  /-- MATCH_DECISION (R60): At the decision point of the deciding repetition MATCH ends, stores VSQ_MCNT and MFAIL and the next word starts. -/
  | matchDecision (g : Fin 24)
  /-- SYNC_RELEASE (R66): At the first boundary at or after the release time each SYNC member starts its next word. -/
  | syncRelease (g : Fin 24)
  /-- GANG_LOST (R67): When the loss of a gang member becomes known each other member aborts at its next vector boundary. -/
  | gangLost (g : Fin 24)
  /-- ESCAPE_EXPIRY (R68): The escape timer expires and adds 1 to the saturating escape count. -/
  | escapeExpiry (g : Fin 24)
  /-- VECTOR_START (R135): A vector reaches the balls 40 ns after issue and its transitions and strobes take place. -/
  | vectorStart (g : Fin 24) (cm : List CmpEdge) (uf : List (Nat × BitVec 8)) (upsets : List Nat)
  /-- STREAM_FETCH (R73): A stream word fetched from G6 arrives in the stream window. -/
  | streamFetch (g : Fin 24) (env : G6Env)
  /-- VSQ_START (R81): A write of 1 to VSQ_CTRL.START starts a run, or arms it for a package-time start. -/
  | vsqStart (g : Fin 24) (smode : BitVec 2)
  /-- VSQ_ARMED_START (R82): An ARMED VSQ issues its first word when package time reaches VSQ_START_PT. -/
  | vsqArmedStart (g : Fin 24)
  /-- VSQ_ABORT (R84): A write of 1 to VSQ_CTRL.ABORT disarms or aborts the run. -/
  | vsqAbort (g : Fin 24)
  /-- VSQ_RESUME (R58): A write of 1 to VSQ_CTRL.RESUME ends a PAUSE at the first boundary 40 ns later. -/
  | vsqResume (g : Fin 24)
  /-- SCTRL_ARM (R72): A write of 1 to VSQ_SCTRL.ARM empties the stream window and starts fetching. -/
  | sctrlArm (g : Fin 24)
  /-- SCTRL_DISARM (R72): A write of 1 to VSQ_SCTRL.DISARM stops fetching and empties the window. -/
  | sctrlDisarm (g : Fin 24)
  /-- VCNT_LO_READ (R79): A read of VSQ_VCNT_LO returns VCNT and latches its high part and epoch. -/
  | vcntLoRead (g : Fin 24) (debug : Bool)
  /-- INSTR_RAM_READ (R36): A promenade read of instruction RAM checks and corrects its granules. -/
  | instrRamRead (g : Fin 24) (off len : Nat) (upset : List Ecc)
  /-- INSTR_RAM_WRITE (R36): A promenade write of instruction RAM writes or merges granules with fresh check bits. -/
  | instrRamWrite (g : Fin 24) (off : Nat) (data : List Nat) (upset : List Ecc)
  /-- GROUP_FENCE_STOP (R85): A fence, fenced data meadow or integrity halt stops the group at its next vector boundary. -/
  | groupFenceStop (g : Fin 24) (why : StopWhy)
  /-- GROUP_RELEASE (R123): A write to CH_GCTRL.REL releases the group or returns it to idle. -/
  | groupRelease (g : Fin 24) (rel : Bool)
  /-- CAL_TRIM (R140): A write of 1 to CH_CAL.TRIM starts a trim of the group. -/
  | calTrim (g : Fin 24)
  /-- TRIM_END (R140): A trim completes, applies its results, stores CH_CALTEMP and sets CALDONE. -/
  | trimEnd (g : Fin 24) (inRange : Bool)
  /-- TDRIFT_CHECK (R141): Every 1 ms the die temperature is compared with CH_CALTEMP and TDRIFT updated. -/
  | tdriftCheck (g : Fin 24)
  /-- EDGE_STAMP (R144): A selected transition on an edge-timer lane is stamped into a record. -/
  | edgeStamp (g : Fin 24) (pin : Fin 32) (cml rising : Bool) (time : Nat)
  /-- STAMP_LO_READ (R149): A read of CH_STAMP_LO returns the head record's low half and latches its high half. -/
  | stampLoRead (g : Fin 24) (debug : Bool)
  /-- STAMP_HI_READ (R149): A read of CH_STAMP_HI returns the latched bits and removes the head record. -/
  | stampHiRead (g : Fin 24) (debug : Bool)
  /-- STAMP_FLUSH (R149): A write of 1 to CH_STCTRL.FLUSH empties the lane buffers and queue and clears CH_STLOST_CNT. -/
  | stampFlush (g : Fin 24)
  /-- FABRIC_DATA_WORD (R151): A valid fabric data word enters the data queue or is dropped with FOVER. -/
  | fabricDataWord (g : Fin 24) (w : BitVec 1024)
  /-- FABRIC_DATA_TAKE (R151): A vector takes the head data word 24 ns before its ball start. -/
  | fabricDataTake (g : Fin 24)
  /-- FAIL_PORT_WORD (R153): The fail port presents a vector's fail word in the first port cycle 10 ns after its ball end. -/
  | failPortWord (g : Fin 24)
  /-- SITE_MASK_ARRIVE (R161): A site-mask bit arrives over the seam SYNC lanes and is set on another die. -/
  | siteMaskArrive (d : Fin 6) (site : Fin 256)
  /-- FCD_SMASK_WRITE (R162): A write of 1 to a bit of FCD_SMASKi sets that mask bit on its die. -/
  | fcdSmaskWrite (d : Fin 6) (i : Fin 8) (bits : BitVec 32)
  /-- CLRSMASK (R162): FCD_CMD.CLRSMASK clears the die's site mask when no group runs. -/
  | clrsmask (d : Fin 6)
  /-- CLRSITE (R169): FCD_CMD.CLRSITE clears the die's site partials when no group runs. -/
  | clrsite (d : Fin 6)
  /-- CLRCNT (R169): FCU_CMD.CLRCNT clears the group's pin and group counters. -/
  | clrcnt (g : Fin 24)
  /-- LRESET (R177): FCU_CMD.LRESET resets the log ring pointers and loss count. -/
  | lreset (g : Fin 24)
  /-- CRESET (R179): FCU_CMD.CRESET resets the capture ring pointers and loss count. -/
  | creset (g : Fin 24)
  /-- COUNTER_READ (R166): A counter read returns the checked or computed count and flags. -/
  | counterRead (ref : CounterRef) (flag : Bool) (upsets : List Nat)
  /-- LOG_RECORD_ENTER (R173): A fail log record enters the burst buffer at its vector's ball end plus 10 ns, or is lost. -/
  | logRecordEnter (g : Fin 24)
  /-- LOG_TAKE (R173): At a take tick the log writer takes the head record and writes it to the ring. -/
  | logTake (g : Fin 24) (env : G6Env)
  /-- LOG_WRITE_DONE (R174): A log record write receives its response and FCU_LWPTR advances. -/
  | logWriteDone (g : Fin 24)
  /-- CAPTURE_ENTER (R179): A capture entry enters the capture buffer or is lost. -/
  | captureEnter (g : Fin 24)
  /-- CAPTURE_TAKE (R179): Every 20 ns the capture writer takes the head entry. -/
  | captureTake (g : Fin 24) (envs : List G6Env)
  /-- CAPTURE_WRITE_DONE (R176): A capture write receives its response and FCU_CWPTR advances. -/
  | captureWriteDone (g : Fin 24)
  /-- LINE_UPDATE_ENTER (R181): A bitmap line update enters its FCU queue or is lost. -/
  | lineUpdateEnter (g : Fin 24)
  /-- CATCH_TAKE (R181): The catch cache takes one line update every 0.5 ns and ORs or allocates it. -/
  | catchTake (d : Fin 6) (lineUe : Bool) (env : G6Env)
  /-- OR_WRITE_DONE (R182): A near-memory OR write of an evicted or flushed line completes or fails. -/
  | orWriteDone (d : Fin 6) (lineUe : Bool) (env : G6Env)
  /-- BMFLUSH (R183): FCD_CMD.BMFLUSH writes every line held in the catch cache to its plane. -/
  | bmflush (d : Fin 6)
  /-- FLUSH_DONE (R183): The last OR write of a flush completes and BMBUSY falls. -/
  | flushDone (d : Fin 6)
  /-- BMCLR (R183): FCD_CMD.BMCLRn clears a plane's status and counts. -/
  | bmclr (d : Fin 6) (planes : BitVec 4)
  /-- RAE_FEED_ENTER (R184): A fail address enters the FCU RAE queue, or a loss marker stands in for it. -/
  | raeFeedEnter (g : Fin 24)
  /-- SIGDONE (R187): Once a run's counts, records and signatures are final FCU_CAUSE.SIGDONE is set. -/
  | sigdone (g : Fin 24)
  /-- RAE_INTAKE (R193): At an intake slot the RAE takes one fail address or loss marker from the FCU queues. -/
  | raeIntake (d : Fin 6)
  /-- MISS_DONE (R201): A domain miss completes after 64 ns and intake resumes. -/
  | missDone (d : Fin 6) (envs : List G6Env)
  /-- SOLVE_ALL (R206): Command SOLVE_ALL queues a solve of every enabled site. -/
  | solveAll (d : Fin 6)
  /-- SOLVE_SITE (R206): Command SOLVE_SITE queues a solve of one site's scope. -/
  | solveSite (d : Fin 6) (site : Fin 256)
  /-- CLEAR_ALL (R210): Command CLEAR_ALL queues a clear of the whole domain space and counts. -/
  | clearAll (d : Fin 6)
  /-- CLEAR_SITE (R210): Command CLEAR_SITE queues a clear of one site's scope. -/
  | clearSite (d : Fin 6) (site : Fin 256)
  /-- RAE_CMD_START (R209): A queued command starts once earlier commands end and its cut has drained. -/
  | raeCmdStart (d : Fin 6)
  /-- CLEAR_DONE (R210): A clear completes and intake resumes. -/
  | clearDone (d : Fin 6)
  /-- DOMAIN_SOLVE (R216): A solve writes one domain's result record once the ring has room. -/
  | domainSolve (d : Fin 6) (envs : List G6Env)
  /-- RESULT_WRITE_DONE (R217): A result record write receives its response and RAE_RWPTR advances. -/
  | resultWriteDone (d : Fin 6)
  /-- NOP (R235): MDSP arithmetic NOP performs no arithmetic beside its moves. -/
  | mdNop (m : Fin 24) (upset : List Ecc)
  /-- CMPY (R237): MDSP CMPY writes a complex product into an accumulator pair. -/
  | mdCmpy (m : Fin 24) (upset : List Ecc)
  /-- CMAC (R235): MDSP CMAC adds a complex product to an accumulator pair. -/
  | mdCmac (m : Fin 24) (upset : List Ecc)
  /-- CMSU (R235): MDSP CMSU subtracts a complex product from an accumulator pair. -/
  | mdCmsu (m : Fin 24) (upset : List Ecc)
  /-- DMPY (R235): MDSP DMPY forms two real products into two accumulators. -/
  | mdDmpy (m : Fin 24) (upset : List Ecc)
  /-- DMAC (R235): MDSP DMAC adds two real products to two accumulators. -/
  | mdDmac (m : Fin 24) (upset : List Ecc)
  /-- DMSU (R235): MDSP DMSU subtracts two real products from two accumulators. -/
  | mdDmsu (m : Fin 24) (upset : List Ecc)
  /-- CADD (R235): MDSP CADD adds or subtracts a complex register to an accumulator pair. -/
  | mdCadd (m : Fin 24) (upset : List Ecc)
  /-- CLD (R235): MDSP CLD loads a complex register, optionally negated, into an accumulator pair. -/
  | mdCld (m : Fin 24) (upset : List Ecc)
  /-- CLR (R235): MDSP CLR clears an accumulator pair. -/
  | mdClr (m : Fin 24) (upset : List Ecc)
  /-- BADD (R240): MDSP BADD forms a butterfly sum and difference, optionally halved. -/
  | mdBadd (m : Fin 24) (upset : List Ecc)
  /-- BEXP (R242): MDSP BEXP lowers BX to the redundant sign bits of a complex register. -/
  | mdBexp (m : Fin 24) (upset : List Ecc)
  /-- EXP (R242): MDSP EXP stores the exponent of an accumulator in a data register. -/
  | mdExp (m : Fin 24) (upset : List Ecc)
  /-- NORM (R242): MDSP NORM normalises an accumulator and stores the shift. -/
  | mdNorm (m : Fin 24) (upset : List Ecc)
  /-- ASH (R235): MDSP ASH shifts an accumulator by a signed register amount. -/
  | mdAsh (m : Fin 24) (upset : List Ecc)
  /-- RND (R240): MDSP RND rounds an accumulator at bit 16. -/
  | mdRnd (m : Fin 24) (upset : List Ecc)
  /-- MDSP_HALT (R259): MDSP HALT stops the core and sets MDSP_CAUSE.HALT. -/
  | mdHalt (m : Fin 24) (stop : Bool) (upset : List Ecc)
  /-- MDSP_JMP (R249): MDSP JMP continues at its target. -/
  | mdJmp (m : Fin 24) (upset : List Ecc)
  /-- JCC (R250): MDSP JCC continues at its target when its SR condition holds. -/
  | mdJcc (m : Fin 24) (upset : List Ecc)
  /-- MDSP_CALL (R251): MDSP CALL pushes the return address and continues at its target. -/
  | mdCall (m : Fin 24) (upset : List Ecc)
  /-- MDSP_RET (R251): MDSP RET pops an address and continues there. -/
  | mdRet (m : Fin 24) (upset : List Ecc)
  /-- REP (R252): MDSP REP opens a repeat block with an immediate count. -/
  | mdRep (m : Fin 24) (upset : List Ecc)
  /-- REPR (R252): MDSP REPR opens a repeat block with a count from a data register. -/
  | mdRepr (m : Fin 24) (upset : List Ecc)
  /-- LDI (R249): MDSP LDI loads an immediate into a register. -/
  | mdLdi (m : Fin 24) (upset : List Ecc)
  /-- MOVE (R249): MDSP MOVE copies one register to another. -/
  | mdMove (m : Fin 24) (upset : List Ecc)
  /-- LD (R249): MDSP LD loads a half word from X, Y or P memory. -/
  | mdLd (m : Fin 24) (upset : List Ecc)
  /-- ST (R249): MDSP ST stores a register into half of an X or Y word. -/
  | mdSt (m : Fin 24) (upset : List Ecc)
  /-- SRM (R249): MDSP SRM sets or clears masked SR bits. -/
  | mdSrm (m : Fin 24) (upset : List Ecc)
  /-- WAITE (R254): MDSP WAITE consumes a pending event or enters WAIT. -/
  | mdWaite (m : Fin 24) (upset : List Ecc)
  /-- SIG (R255): MDSP SIG stores a code and sets MDSP_CAUSE.SIG, or raises a DMA request. -/
  | mdSig (m : Fin 24) (upset : List Ecc)
  /-- HINC (R256): MDSP HINC increments a clamped histogram count in memory. -/
  | mdHinc (m : Fin 24) (upset : List Ecc)
  /-- MDSP_START (R258): A write of 1 to MDSP_CTRL.START starts the core at MDSP_ENTRY. -/
  | mdspStart (m : Fin 24)
  /-- MDSP_STOP (R259): A write of 1 to MDSP_CTRL.STOP stops the core after its current instruction. -/
  | mdspStop (m : Fin 24)
  /-- MDSP_EVSET (R254): A write to MDSP_EVSET makes an event pending. -/
  | mdspEvset (m : Fin 24) (ev : Fin 256)
  /-- MDSP_TRIG_EVENT (R254): A VSQ TRIG of class 0x2 makes an MDSP event pending within 8 ns. -/
  | mdspTrigEvent (m : Fin 24)
  /-- WAIT_WAKE (R254): A core in WAIT sees its event set, clears it and continues. -/
  | waitWake (m : Fin 24)
  /-- MDSP_MEM_ACCESS (R227): A promenade access to MDSP memory is served with bank waits and ECC checks. -/
  | mdspMemAccess (m : Fin 24) (off len : Nat) (write : Bool) (data : List Nat) (upset : List Ecc)
  /-- FRAME_LAUNCH (R269): A tether port launches frame k at package time k times 340/7 ns. -/
  | frameLaunch (p : Fin 12)
  /-- FRAME_RECEIVE (R271): A tether frame is received, decoded and its slots and flits delivered. -/
  | frameReceive (p : Fin 12) (payload : BitVec 5140) (acks errs : Nat)
  /-- PTB (R272): A PTB slot delivers the upper package time bits downstream. -/
  | slotPtb (p : Fin 12) (dev : BitVec 6) (fnum : BitVec 16) (pay : BitVec 50)
  /-- COND (R282): A COND slot reports gang results upward for combination. -/
  | slotCond (p : Fin 12) (dev : BitVec 6) (gid : Fin 16) (pay : BitVec 50)
  /-- DECIDE (R282): A DECIDE slot delivers combined gang results downstream. -/
  | slotDecide (p : Fin 12) (dev : BitVec 6) (gid : Fin 16) (pay : BitVec 50)
  /-- SARR (R286): A SARR slot reports a device's arrival at a cross-device SYNC. -/
  | slotSarr (p : Fin 12) (dev : BitVec 6) (gid : Fin 16) (pay : BitVec 50)
  /-- SREL (R286): A SREL slot delivers the release time of a cross-device SYNC. -/
  | slotSrel (p : Fin 12) (dev : BitVec 6) (gid : Fin 16) (pay : BitVec 50)
  /-- SLOT_START (R280): A START slot sets VSQ_START_PT of every enrolled armed group. -/
  | slotStart (p : Fin 12) (dev : BitVec 6) (pay : BitVec 50)
  /-- LOST (R285): A LOST slot reports a gang loss or configuration failure and aborts members. -/
  | slotLost (p : Fin 12) (dev : BitVec 6) (gid : Fin 16) (pay : BitVec 50)
  /-- GCFG (R283): A GCFG slot lets the manager check a gang's LG and COMB. -/
  | slotGcfg (p : Fin 12) (dev : BitVec 6) (gid : Fin 16) (pay : BitVec 50)
  /-- CAL (R274): A CAL slot starts a hop latency measurement and carries the previous H. -/
  | slotCal (p : Fin 12) (dev : BitVec 6) (pay : BitVec 50)
  /-- CALR (R274): A CALR slot returns TURN and the upstream end computes H. -/
  | slotCalr (p : Fin 12) (dev : BitVec 6) (pay : BitVec 50)
  /-- FLIT_RETRY (R271): A tether flit not acknowledged within 400 ns is sent again. -/
  | flitRetry (p : Fin 12)
  /-- LINKDN (R271): A tether port leaves UP on codeword errors, lock loss or 1 µs without a frame. -/
  | linkdn (p : Fin 12) (lost : Bool)
  /-- PORT_ENABLE (R279): A write of TSY_PORTq_CTRL.EN enables a tether port and starts training. -/
  | portEnable (p : Fin 12) (en : Bool)
  /-- TRAIN_END (R279): A tether port completes TRAIN and enters CAL. -/
  | trainEnd (p : Fin 12)
  /-- CAL_END (R279): A tether port completes CAL and enters UP. -/
  | calEnd (p : Fin 12) (peer : BitVec 6) (depth : BitVec 2) (verdict : LinkVerdict)
  /-- HOP_RECAL (R276): Every 1 ms an UP link remeasures its hop latency. -/
  | hopRecal (p : Fin 12)
  /-- BCAST_GO (R280): A write of 1 to TSY_BCAST_CTRL.GO sends a broadcast start. -/
  | bcastGo (cls : BitVec 4)
  /-- GANG_LOCAL_RESULT (R282): A member device forms its local gang result 16 ns after the deciding vector ends. -/
  | gangLocalResult (g : Fin 24)
  /-- GANG_COMBINE (R282): A relay or the manager combines gang results 8 ns after the last report arrives. -/
  | gangCombine (gid : Fin 16)
  /-- DECISION_HANDOFF (R282): A member device hands a delivered decision to its groups 4 ns after delivery. -/
  | decisionHandoff (g : Fin 24)
  /-- FAILOVER (R288): A worker switches to its other upstream port when the active one leaves UP. -/
  | failover
  /-- PTOFS_STEP (R289): A worker steps its fine time by TSY_PTOFS once no group runs. -/
  | ptofsStep (passed : Option (BitVec 32))
  /-- TAKEOVER (R290): The standby manager becomes acting manager when its mate and upstream links are lost. -/
  | takeover
  /-- LED_COMMIT (R293): A write to LED_COMMIT commits ledger records and writes their headers. -/
  | ledCommit (n : BitVec 9) (envs : List G6Env)
  /-- MIRROR_RECORD (R294): The mate receives a ledger record, writes it to its mirror and acknowledges it. -/
  | mirrorRecord (rec : BitVec 1024) (envs : List G6Env)
  /-- MIRROR_ACK (R294): An acknowledgement sets MIR and advances LED_MSEQ. -/
  | mirrorAck (env : G6Env)
  /-- MIRROR_NAK (R294): A negative acknowledgement sets LED_CAUSE.MERR. -/
  | mirrorNak
  /-- MATELOST (R295): Loss of port 11 or a 100 µs old unacknowledged record puts the ledger in SOLO. -/
  | matelost
  /-- PAIRING (R291): With the ledger enabled and port 11 UP the devices pair, resend and enter PAIRED. -/
  | pairing (dev : BitVec 6) (epoch : Word) (size : BitVec 5) (envs : List G6Env)
  /-- FCS_ENABLE (R318): A change of FAB_FCSk_CTRL.EN to 1 starts a synthesiser locking. -/
  | fcsEnable (d : Fin 6) (k : Fin 2) (en : Bool)
  /-- FCS_LOCK (R318): A synthesiser locks and starts its output on its grid. -/
  | fcsLock (d : Fin 6) (k : Fin 2) (locked : Bool)
  /-- PORT_REQ (R341): A fabric promenade port transfers a request. -/
  | portReq (d : Fin 6) (p : Fin 16) (side : PortSide) (req : PortReq) (envs : List G6Env)
  /-- PORT_WDAT (R341): A fabric promenade port transfers a write data beat. -/
  | portWdat (d : Fin 6) (p : Fin 16) (side : PortSide) (data : Line512) (be : BitVec 64) (last : Bool) (envs : List G6Env)
  /-- PORT_RDAT (R341): A fabric promenade port transfers a read data beat. -/
  | portRdat (d : Fin 6) (p : Fin 16) (side : PortSide) (id : BitVec 8) (data : Line512) (resp : BitVec 3) (last : Bool)
  /-- PORT_WRSP (R341): A fabric promenade port transfers a write response. -/
  | portWrsp (d : Fin 6) (p : Fin 16) (side : PortSide) (id : BitVec 8) (resp : BitVec 3)
  /-- FABRIC_IRQ_EDGE (R339): A rising edge of a fabric interrupt line sets its FAB_CAUSE bit. -/
  | fabricIrqEdge (d : Fin 6) (i : Fin 16) (level : Bool)
  /-- BANK_SUPPLY_CHANGE (R332): A declared GPIO bank's supply stops matching and its outputs return to high-Z. -/
  | bankSupplyChange (d : Fin 6) (b : Fin 4)
  /-- SEAM_RETRAIN (R359): A write of 1 to SEAM_CTRL.RETRAIN starts training a seam port. -/
  | seamRetrain (d : Fin 6) (k : Fin 3)
  /-- SEAM_FENCE (R364): A write of 1 to SEAM_CTRL.FENCE fences a seam link. -/
  | seamFence (d : Fin 6) (k : Fin 3)
  /-- ATTEMPT_END (R359): A training attempt ends and the link comes up or retrains. -/
  | attemptEnd (d : Fin 6) (k : Fin 3) (rxd rxe : BitVec 48) (echo : Bool)
  /-- LANE_FAIL (R362): A seam lane loses bit lock or exceeds ETHR errored words and fails. -/
  | laneFail (d : Fin 6) (k : Fin 3) (l : Fin 48)
  /-- SEAM_FLIT_RETRY (R353): A PROM flit not acknowledged within 100 ns is sent again. -/
  | seamFlitRetry (d : Fin 6) (k : Fin 3)
  /-- FAB_RELEASE (R357): FAB roles of a link are released at the first whole microsecond with the link UP and both dies past WREN. -/
  | fabRelease (d : Fin 6) (k : Fin 3)
  /-- FENCE_PUBLISH (R364): A fenced link's state reaches every die over the remaining SYNC lanes. -/
  | fencePublish
  /-- DIE_ISOLATED (R365): A die becomes isolated and its groups stop with FAULT_FENCE. -/
  | dieIsolated (d : Fin 6)
  /-- BOOT_SEARCH (R372): Once INIT_B is high die 0 reads the boot directory and tries the image slots. -/
  | bootSearch (dir1 dir8 again flash : List Nat)
  /-- CFG_DATA_WRITE (R376): A write to CFG_DATA passes bitstream bytes to the configuration engine. -/
  | cfgDataWrite (bytes : List Nat)
  /-- FWRITE (R383): Command FWRITE writes N frames from a frame address onward. -/
  | fwrite
  /-- DCRC (R385): Command DCRC reads back the frames written and checks their CRC. -/
  | dcrc
  /-- DEND (R383): Command DEND ends a die section. -/
  | dend
  /-- CMD_NOP (R383): Command NOP of the command stream does nothing. -/
  | cmdNop
  /-- LEG_END (R389): At the end of a leg its tag and hash are checked and its key zeroised. -/
  | legEnd
  /-- DIE_ABSENT_TIMEOUT (R390): A die not reachable within 100 ms of its turn fails the load with ABSENT. -/
  | dieAbsentTimeout
  /-- LOCK_STEP (R396): Start-up step LOCK waits for every enabled synthesiser to lock. -/
  | lockStep
  /-- OUTREL (R396): Start-up step OUTREL lets GPIO outputs follow the fabric. -/
  | outrel
  /-- SETREL (R396): Start-up step SETREL releases GSR. -/
  | setrel
  /-- WREN_STEP (R396): Start-up step WREN raises WREN and makes target sides reachable. -/
  | wrenStep
  /-- DONE_RISE (R397): DONE rises 1 µs after the last start-up step of a full load. -/
  | doneRise
  /-- RELOAD (R393): CFG_CTRL.RELOAD clears every die and restarts the boot search. -/
  | reload
  /-- HOSTLOAD (R393): CFG_CTRL.HOSTLOAD clears every die and enters WAITHOST. -/
  | hostload
  /-- PLOAD (R401): CFG_CTRL.PLOAD starts a partial load through CFG_DATA. -/
  | pload
  /-- DIELOAD (R393): CFG_CTRL.DIELOAD clears and reloads one die. -/
  | dieload (die : BitVec 3) (dsrc : Bool)
  /-- CFG_ABORT (R404): CFG_CTRL.ABORT ends the running load with ABORT. -/
  | cfgAbort
  /-- MEADOW_FENCE (R400): CFG_MDCTRL.FENCE requests a fence of a meadow. -/
  | meadowFence (d : Fin 6) (m : Fin 32)
  /-- MEADOW_FENCE_TAKE (R400): The meadow fence takes effect at the first whole microsecond at least 1 µs after the write. -/
  | meadowFenceTake (d : Fin 6) (m : Fin 32)
  /-- UNFENCE (R400): CFG_MDCTRL.UNFENCE runs the meadow's start-up with its current frames. -/
  | unfence (d : Fin 6) (m : Fin 32)
  /-- SCRUB_FRAME (R405): The configuration scrubber checks one frame and corrects or reports errors. -/
  | scrubFrame (d : Fin 6) (fa : Word) (flips : List (Nat × BitVec 72)) (tmr : Bool)
  /-- SCRUB_CLR (R406): CFG_SCRUB_CTRL.CLR clears the scrubber counts and first address. -/
  | scrubClr (d : Fin 6)
  /-- RBADDR_WRITE (R408): A write to CFG_RBADDR copies a frame into CFG_RBDATA. -/
  | rbaddrWrite (d : Fin 6) (fa : Word)
  /-- G6_READ (R436): A read reaches a G6 port, is ECC-checked and passes the vault stage. -/
  | g6Read (src addr len : Nat) (env : G6Env)
  /-- G6_FULL_WRITE (R438): A full line write is encrypted as needed and written with fresh check bits. -/
  | g6FullWrite (src addr : Nat) (data : Line512) (env : G6Env)
  /-- G6_PARTIAL_WRITE (R438): A partial write reads, checks, merges and writes the line as one step or is refused. -/
  | g6PartialWrite (src addr : Nat) (data : Line512) (mask : BitVec 64) (env : G6Env)
  /-- G6_OR_WRITE (R439): A near-memory OR write merges its bits into the corrected line. -/
  | g6OrWrite (d : Fin 6) (addr : Nat) (data : Line512) (env : G6Env)
  /-- MEMP_INIT (R426): MEMP_CTRL.INIT trains the G6 port. -/
  | mempInit (q : Fin 24)
  /-- MEMP_TRAIN_DONE (R426): Training ends in READY or ERROR. -/
  | mempTrainDone (q : Fin 24) (dens : BitVec 2) (ok : Bool)
  /-- MEMP_ZERO (R428): MEMP_CTRL.ZERO starts zeroing every line of the port. -/
  | mempZero (q : Fin 24)
  /-- ZERO_DONE (R428): Zeroing completes and the port returns to READY. -/
  | zeroDone (q : Fin 24)
  /-- REFRESH_DUE (R430): An all-bank refresh falls due and is issued or postponed. -/
  | refreshDue (q : Fin 24) (waiting : Bool)
  /-- BANK_REFRESH (R431): A bank reaches its per-bank refresh interval and is refreshed. -/
  | bankRefresh (q : Fin 24) (bank : Fin 16)
  /-- RH_WINDOW (R432): A row-hammer window starts and every activation count returns to 0. -/
  | rhWindow (q : Fin 24)
  /-- PROM_SCR_GO (R442): PROM_SCR_CTRL.GO starts a scrub pass. -/
  | promScrGo (d : Fin 6) (fix : Bool)
  /-- PROM_SCR_STOP (R444): PROM_SCR_CTRL.STOP ends the pass after its current line. -/
  | promScrStop (d : Fin 6)
  /-- SCRUB_LINE (R443): A scrub pass checks one line and optionally writes it back corrected. -/
  | scrubLine (d : Fin 6) (env : G6Env)
  /-- TRANSACTION_TIMEOUT (R447): A transaction without a response after PROM_TMO ends with ERR_TIMEOUT. -/
  | transactionTimeout (d : Fin 6) (src : BitVec 10) (addr : BitVec 48)
  /-- LATE_RESPONSE (R447): A response after its transaction timed out is dropped. -/
  | lateResponse (d : Fin 6) (src : BitVec 10) (addr : BitVec 48)
  /-- REGION_CTRL_WRITE (R423): A write to PROM_REGr_CTRL enables or disables a region after its checks. -/
  | regionCtrlWrite (r : Fin 16) (v : Word)
  /-- VAULT_ENABLE (R451): A write of 1 to VLT_Vv_CTRL.EN enables a vault, derives keys and starts initialisation. -/
  | vaultEnable (v : Fin 64) (w : Word)
  /-- VAULT_DISABLE (R473): A write of 0 to EN disables a vault and zeroises its keys. -/
  | vaultDisable (v : Fin 64)
  /-- RKGO (R466): VLT_Vv_CTRL.RKGO starts or resumes a rekey. -/
  | rkgo (v : Fin 64)
  /-- REKEY_START (R466): WCNT reaching LIMIT starts a rekey within 1 µs. -/
  | rekeyStart (v : Fin 64)
  /-- REKEY_LINE (R467): The rekey engine rewrites one line under the next generation. -/
  | rekeyLine (v : Fin 64) (env : G6Env)
  /-- INIT_LINE (R472): The initialisation engine writes one line as encrypted zeros. -/
  | initLine (v : Fin 64) (env : G6Env)
  /-- INTEGRITY_HALT (R463): The integrity halt reaches a die and stops groups, ports, keys and tethers. -/
  | integrityHalt (d : Fin 6)
  /-- DMA_START (R483): DMA_CHc_CTRL.START fetches the first descriptor and enters RUN. -/
  | dmaStart (d : Fin 6) (c : Fin 32)
  /-- DMA_STOP (R483): DMA_CHc_CTRL.STOP writes data already read and enters IDLE. -/
  | dmaStop (d : Fin 6) (c : Fin 32)
  /-- DMA_CLR (R483): DMA_CHc_CTRL.CLR leaves ERROR for IDLE. -/
  | dmaClr (d : Fin 6) (c : Fin 32)
  /-- SWREQ (R487): DMA_CHc_CTRL.SWREQ adds one pending request. -/
  | swreq (d : Fin 6) (c : Fin 32)
  /-- PERIPHERAL_PULSE (R487): A pulse request source adds 1 to the channel's PEND. -/
  | peripheralPulse (d : Fin 6) (c : Fin 32)
  /-- DESC_FETCH_DONE (R478): A descriptor fetch completes and the channel starts its COPY or FENCE. -/
  | descFetchDone (d : Fin 6) (c : Fin 32) (envs : List G6Env)
  /-- PACED_BURST_START (R488): A paced burst starts once PEND is above 0 or the level source is high. -/
  | pacedBurstStart (d : Fin 6) (c : Fin 32) (line : Bool)
  /-- BEAT_ISSUE (R485): The engine issues a beat of the highest-priority ready channel. -/
  | beatIssue (d : Fin 6) (wr : Bool)
  /-- READ_RESPONSE (R475): A read beat response fills the staging buffer. -/
  | readResponse (d : Fin 6) (c : Fin 32) (envs : List G6Env)
  /-- WRITE_RESPONSE (R481): A write beat response is received by the channel. -/
  | writeResponse (d : Fin 6) (c : Fin 32) (envs : List G6Env)
  /-- CORE_RUN (R502): CC_CTRL.RUN starts the core at CC_BOOT. -/
  | coreRun  (m : Fin 12)
  /-- CORE_RST (R502): CC_CTRL.RST performs a core reset. -/
  | coreRst  (m : Fin 12)
  /-- CORE_INSTRUCTION (R494): A control core executes one RV64IMAC instruction. -/
  | coreInstruction  (m : Fin 12) (evict : List Nat) (envs : List G6Env)
  /-- CORE_FENCE (R498): A FENCE with W waits for every earlier uncached write response. -/
  | coreFence  (m : Fin 12) (evict : List Nat) (envs : List G6Env)
  /-- CORE_AMO (R500): An AMO or LR/SC is performed atomically or raises a store access fault. -/
  | coreAmo  (m : Fin 12) (evict : List Nat) (envs : List G6Env)
  /-- EBREAK (R511): EBREAK halts the core or raises the breakpoint exception. -/
  | ebreak  (m : Fin 12) (evict : List Nat) (envs : List G6Env)
  /-- POSTED_WRITE_ERROR (R498): An error response to a posted write is recorded in CC_BERR. -/
  | postedWriteError  (m : Fin 12)
  /-- TIMER_INTERRUPT (R501): Package time reaching CC_MTIMECMP makes the machine timer interrupt pending. -/
  | timerInterrupt  (m : Fin 12)
  /-- L2OP_GO (R497): CC_L2OP_CTRL.GO starts a clean or invalidate of L2 lines. -/
  | l2opGo (d : Fin 6) (op : BitVec 2)
  /-- L2DONE (R518): An L2 operation's write-backs complete and BUSY falls. -/
  | l2done (d : Fin 6) (envs : List G6Env)
  /-- WDT_KICK (R503): A write of 0xA5 to CC_WDT_KICK reloads the watchdog. -/
  | wdtKick  (m : Fin 12) (key : Word)
  /-- WDT_TICK (R503): The watchdog counts down once per microsecond. -/
  | wdtTick  (m : Fin 12)
  /-- WDT_EXPIRY (R504): The watchdog reaches 0 and resets its core. -/
  | wdtExpiry  (m : Fin 12)
  /-- EXTEST (R506): TAP instruction EXTEST drives GPIO and control outputs from the boundary register. -/
  | extest (bits : Nat)
  /-- SAMPLE_PRELOAD (R506): TAP instruction SAMPLE/PRELOAD accesses the boundary register. -/
  | samplePreload (bits : Nat)
  /-- IDCODE (R506): TAP instruction IDCODE selects the identification register. -/
  | idcode
  /-- BYPASS (R506): TAP instruction BYPASS selects the 1-bit register. -/
  | bypass
  /-- DBGAUTH (R534): TAP instruction DBGAUTH selects the authorisation exchange register. -/
  | dbgauth
  /-- DBGACC (R507): TAP instruction DBGACC selects the debug access register. -/
  | dbgacc (busy : Bool)
  /-- DBGACC_READ (R507): A DBGACC read operation reads 32 bits through the debug bus master. -/
  | dbgaccRead (addr : BitVec 48) (inc busy : Bool) (envs : List G6Env)
  /-- DBGACC_WRITE (R507): A DBGACC write operation writes 32 bits through the debug bus master. -/
  | dbgaccWrite (addr : BitVec 48) (data : Word) (inc busy : Bool) (envs : List G6Env)
  /-- DBGAUTH_PUSH (R534): A DBGAUTH push places a word in the keeper input queue. -/
  | dbgauthPush (w : Word)
  /-- DBGAUTH_POP (R534): A DBGAUTH pop removes the head of the output queue. -/
  | dbgauthPop
  /-- DBGAUTH_FLUSH (R534): A DBGAUTH flush empties the input queue. -/
  | dbgauthFlush
  /-- OPEN_PWD (R536): Message OPEN_PWD opens debug to a level with a password. -/
  | openPwd
  /-- CHAL (R537): Message CHAL issues a nonce for the TAP path. -/
  | chal
  /-- OPEN_SIG (R537): Message OPEN_SIG opens debug with a signed challenge. -/
  | openSig
  /-- DBG_LOCK (R535): Message LOCK sets the debug state to CLOSED. -/
  | dbgLock
  /-- AUTH_STATUS (R535): Message STATUS returns a status word. -/
  | authStatus
  /-- HALTREQ (R511): DBG_CTRL.HALTREQ halts the core at the next instruction boundary. -/
  | haltreq  (m : Fin 12)
  /-- DBG_RESUME (R513): DBG_CTRL.RESUME resumes the core, or steps one instruction. -/
  | dbgResume  (m : Fin 12)
  /-- DBG_ACMD (R515): A write to DBG_ACMD reads or writes one register of a halted core. -/
  | dbgAcmd  (m : Fin 12) (v : Word)
  /-- DTX_WRITE (R517): A write to DBG_DTX stores a value for the debugger or sets TXOVF. -/
  | dtxWrite  (m : Fin 12) (v : Word)
  /-- TXACK (R517): DBG_VTSTAT.TXACK clears TXFULL. -/
  | txack  (m : Fin 12)
  /-- DRX_WRITE (R517): A write to DBG_DRX stores a value for the core or sets RXOVF. -/
  | drxWrite  (m : Fin 12) (v : Word)
  /-- DRX_READ (R517): A read of DBG_DRX returns and clears the value. -/
  | drxRead  (m : Fin 12) (dbg : Bool)
  /-- FUSE_READ (R524): Keeper command FUSE_READ returns a fuse field. -/
  | fuseRead (src : BitVec 10) (arg : BitVec 8)
  /-- FUSE_PROG (R525): Keeper command FUSE_PROG blows and verifies a fuse field and its lock. -/
  | fuseProg (src : BitVec 10) (arg : BitVec 8)
  /-- LC_ADVANCE (R531): Keeper command LC_ADVANCE blows a new life-cycle state and resets the device. -/
  | lcAdvance (src : BitVec 10) (arg : BitVec 8)
  /-- AUTH_CHAL (R537): Keeper command AUTH_CHAL issues a nonce for the mailbox path. -/
  | authChal (src : BitVec 10) (arg : BitVec 8)
  /-- RB_COMMIT (R527): Keeper command RB_COMMIT raises the anti-rollback counter to LOADED. -/
  | rbCommit (src : BitVec 10) (arg : BitVec 8)
  /-- ZEROISE (R547): Keeper command ZEROISE clears every key and acts as an integrity halt. -/
  | zeroise (src : BitVec 10) (arg : BitVec 8)
  /-- RANDOM (R522): Keeper command RANDOM returns 8 random words. -/
  | random (src : BitVec 10) (arg : BitVec 8)
  /-- KEEPER_CMD_DONE (R520): A keeper command ends, writes its result and sets KPR_CAUSE.DONE. -/
  | keeperCmdDone (vpp good : Bool) (bist : List Nat)
  /-- NONCE_EXPIRY (R537): A nonce expires 60 s after it was issued. -/
  | nonceExpiry (box : Bool)
  /-- LOCKOUT_EXPIRY (R539): The 100 ms lockout after an AUTH result ends. -/
  | lockoutExpiry
  /-- SLICE_START (R554): Every GAP µs the scheduler starts a slice of the next eligible target. -/
  | sliceStart (d : Fin 6)
  /-- SLICE_END (R557): A slice completes and passes or fails its signature check. -/
  | sliceEnd (d : Fin 6) (r : SliceResult) (ces : Nat)
  /-- SLICE_ABANDON (R558): A service request to a block under test abandons the slice and is then served. -/
  | sliceAbandon (d : Fin 6)
  /-- RETEST (R561): BIST_CMD.RETEST runs one pass of a target at once. -/
  | retest (d : Fin 6) (tgt : BitVec 6)
  /-- MSIX_EOI (R572): A write to MSIX_EOI resends a vector whose condition is still 1. -/
  | msixEoi (v : Word)
  /-- MSIX_UNMASK (R571): Unmasking or enabling MSI-X sends a pending vector whose condition holds. -/
  | msixUnmask (en fmask : Bool)
  /-- MSIX_SEND (R571): A vector condition rising from 0 to 1 sends its message or sets its pending bit. -/
  | msixSend (v : Fin 64)
  /-- MON_CLR (R575): MON_CMD.CLR clears a monitor counter and its overflow bit. -/
  | monClr (d : Fin 6) (mask : BitVec 16)
  /-- MON_ARM (R576): MON_CMD.ARM arms a snapshot at MON_SNAP_PT. -/
  | monArm (d : Fin 6)
  /-- MON_DISARM (R576): MON_CMD.DISARM cancels an armed snapshot. -/
  | monDisarm (d : Fin 6)
  /-- MON_SNAPSHOT (R576): At package time T every counter of the die is copied into MON_SNAPi. -/
  | monSnapshot (d : Fin 6)
  /-- POWER_ON_RESET (R588): PORST_B rises and the device runs its power-up sequence. -/
  | powerOnReset (role : BitVec 2) (refOk : Bool) (bist : List Nat)
  /-- SYSRST (R582): SYSRST_B low starts a device reset. -/
  | sysrst
  /-- PKG_RST_DEVICE (R580): PKG_RST.DEVICE with key 0xA5 starts a device reset. -/
  | pkgRstDevice (key : BitVec 8) (bist : List Nat)
  /-- DIEHOLD (R580): PKG_RST.DIEHOLD holds or releases a die in die reset. -/
  | diehold (d : Fin 6) (hold bad : Bool)
  /-- PCIE_PERST (R585): PCIE_PERST_B resets only the PCI Express endpoint. -/
  | pciePerst
  /-- PWR_REQ_PARK (R597): A request for PARK stops the VSQ domain and lanes when every group is parked. -/
  | pwrReqPark (src : BitVec 10)
  /-- PWR_REQ_RUN (R597): A request for RUN returns from PARK or wakes from SLEEP. -/
  | pwrReqRun (src : BitVec 10) (therm : List Nat)
  /-- PWR_REQ_SLEEP (R598): A request for SLEEP from PARK runs the SLEEP entry steps. -/
  | pwrReqSleep (src : BitVec 10)
  /-- WAKE_PT (R599): Package time reaching PKG_WAKE_PT wakes the device from SLEEP. -/
  | wakePt (therm : List Nat)
  /-- SMB_STATUS (R612): SMBus STATUS returns the device status word. -/
  | smbStatus
  /-- TEMP_MAX (R612): SMBus TEMP_MAX returns the hottest die temperature. -/
  | tempMax
  /-- TEMP_DIE (R612): SMBus TEMP_DIEn returns one die's temperature. -/
  | tempDie (d : Fin 6) (t : BitVec 11)
  /-- RAIL (R612): SMBus RAIL returns a supply voltage. -/
  | rail (code : BitVec 8) (mv : BitVec 16)
  /-- POWER (R612): SMBus POWER returns the device power. -/
  | power (dw : BitVec 16)
  /-- RSTCAUSE (R612): SMBus RSTCAUSE returns PKG_RSTCAUSE. -/
  | rstcause
  /-- SMB_PWR_REQ (R612): SMBus PWR_REQ acts as a write of PKG_PWR.REQ. -/
  | smbPwrReq (v : BitVec 8) (pec : Bool) (therm : List Nat)
  /-- SYSRESET (R612): SMBus SYSRESET with 0xA5 starts a device reset. -/
  | sysreset (v : BitVec 8) (pec : Bool) (bist : List Nat)
  /-- REF_LOSS (R592): The cleaner's input shows no edge for 100 ns and the cleaner enters holdover. -/
  | refLoss
  /-- REF_RETURN (R593): A returned input valid for 1 ms is slewed into lock. -/
  | refReturn
  /-- PLL_LOCK_LOSS (R595): A PLL loses lock and its die's clock is lost. -/
  | pllLockLoss (d : Fin 6) (pll : Fin 5)
  /-- TWARN (R605): A die reaches its warning temperature limit. -/
  | twarn (d : Fin 6) (t : BitVec 11)
  /-- THERMAL_TRIP (R605): A die reaching 160 °C enters the safe state and holds the device in reset. -/
  | thermalTrip (d : Fin 6) (t : BitVec 11)
  /-- THERMAL_RECOVER (R605): Every die below 140 °C lets the device leave thermal reset. -/
  | thermalRecover (temps : List (BitVec 11)) (bist : List Nat)
  /-- CLRMAX (R616): DCR_TWARN.CLRMAX sets the recorded maximum temperature to the current value. -/
  | clrmax (d : Fin 6)
  /-- LATCH_READ (R621): A read of a latching LO register loads the shared HI latch. -/
  | latchRead (src : BitVec 10) (addr : BitVec 48) (size : Nat) (dbg : Bool) (envs : List G6Env)
  /-- REGISTER_WRITE (R11): A write to a register without a row of its own acts by its access type. -/
  | registerWrite (src : BitVec 10) (addr : BitVec 48) (data : List Nat) (dbg : Bool) (envs : List G6Env)
  /-- PCIE_INBOUND (R626): An inbound PCI Express request through a BAR becomes a die 0 transaction. -/
  | pcieInbound (bar : Fin 3) (off : Nat) (write : Bool) (size : Nat) (data : List Nat) (envs : List G6Env)
  /-- REMOTE_TRANSACTION (R623): An access to the remote window travels over the tether tree to another device. -/
  | remoteTransaction (op : RemoteOp)
  /-- PORST_B_LOW (R580): PORST_B goes low, or VDD_AON falls below its minimum, and a power-on reset resets everything and ends SCAN. -/
  | porstBLow
  /-- SYSRST_B_RELEASE (R588): SYSRST_B rises and the device reset runs its steps 2 to 6. -/
  | sysrstBRelease (role : BitVec 2) (bist : List Nat)
  /-- HOLDUP_B_CHANGE (R333): HOLDUP_B changes level and every high-Z GPIO cell gains or loses its weak pull-up. -/
  | holdupBChange (level : Bool)
  /-- BANKOK_RISE (R332): The supply of a declared GPIO bank comes to match its standard and BANKOK rises to 1. -/
  | bankokRise (d : Fin 6) (b : Fin 4)
  /-- GLOBAL_NET_RISING_EDGE (R305): A rising edge of a global clock net clocks the flip-flops, block RAM ports and multiplier slices selected on it. -/
  | globalNetRisingEdge (d : Fin 6) (net : Fin 32) (en : Bool) (uf : List (Fin 4 × BitVec 8)) (rams : List RamOp) (slices : List SliceOp) (gpio : List GpioOp)
  /-- FAB_LANE_WORD (R352): Each nanosecond a FAB lane word arrives, is corrected, or keeps the previous crossing values and counts SEAM_FABERR_CNT. -/
  | fabLaneWord (d : Fin 6) (k : Fin 3) (f : Fin 12) (ecc : Ecc)
  /-- DBGAUTH_MESSAGE_END (R535): The keeper finishes a DBGAUTH message, queues its status word and output, and sets the debug state. -/
  | dbgauthMessageEnd
  /-- ADDRESS_RESOLUTION_PROTOCOL (R611): An SMBus Address Resolution Protocol command reaches the target, which takes part with its UDID after the fuse sense. -/
  | addressResolutionProtocol (assign : Option (BitVec 7))
deriving DecidableEq, Repr

end Sys2Proof
end

