-- ==== Sys2Proof/Decode.lean ====
section
/-! DEFINITION. Decode.lean: commands from the bits of spec/opcode_table.json. No row of the table gives bits (its
commands come from outside by name), so no word spells a command. -/
namespace Sys2Proof

/-- The command that a word spells by the table's bits: none (notes/assumptions/1.md). -/
def decodeTableWord (_nbits _w : Nat) : Option Instr := none

end Sys2Proof
end

