-- ==== Sys2Proof/Config.lean ====
section
/-! DEFINITION. Config.lean: what an implementation fixes and the spec does not, and the functions the spec takes from
a standard by name without giving them. None has a body, so no proof can see a value. -/
namespace Sys2Proof

/-! What the settings frames of a die choose (09 R311 to R316, R328, R331, R340). The spec names the settings and not
their bits. -/

/-- One port of a block RAM: its width (code as in R311: 2^width for 0 to 5, 6 is 64, 7 is 64E), its write view (0 old,
1 new, 2 hold), its ECC setting, the regional net that clocks it. -/
structure RamSet where
  width : Fin 8
  view : Fin 3
  ecc : Bool
  net : Nat
deriving DecidableEq, Repr

/-- A multiplier slice: its operation (0 A x B, 1 R + A x B, 2 R - A x B, 3 K + A x B, 4 U + A x B, 5 zero), what A is (0 A1,
1 A1 + A2, 2 A1 - A2), the registers on A1, A2, B, on the product and behind R, its regional net. -/
structure SliceSet where
  op : Fin 6
  pre : Fin 3
  regA1 : Bool
  regA2 : Bool
  regB : Bool
  regP : Bool
  regQ : Bool
  net : Nat
deriving DecidableEq, Repr

/-- Termination of a GPIO cell. -/
inductive Term | none | up | down | keeper
deriving DecidableEq, Repr

/-- A GPIO cell: its registers and their double-data-rate modes, drive (0 4 mA, 1 8 mA, 2 12 mA), fast slew, termination,
the region that holds it, its regional net. The I/O standard is its bank's. -/
structure GpioSet where
  inReg : Bool
  outReg : Bool
  inDdr : Bool
  outDdr : Bool
  drive : Fin 3
  fast : Bool
  term : Term
  region : Nat
  net : Nat
deriving DecidableEq, Repr

/-- The source of a global net (09 R315): a synthesiser, FP_CLK of a group of the die, a clock-capable GPIO (pin 22 or 23 of
a bank) in a region, a fabric signal through a clock input tile in a region. -/
inductive NetSrc
  | off
  | fcs (k : Nat)
  | fp (k : Nat)
  | gpio (bank : Nat) (pin23 : Bool) (region : Nat)
  | logic (region : Nat)
deriving DecidableEq, Repr

/-- The settings of a die. `regional`: the global net of regional net n of a region, by 24 x region + n. `ram`, `slice`: by
block number. `gpio`: by 24 x bank + pin. `net`: the sources of the global nets. `port`: initiator side, target side and
global net of a promenade port. What is not listed is not used. -/
structure FabricSets where
  regional : List (Nat × Nat)
  ram : List (Nat × RamSet)
  slice : List (Nat × SliceSet)
  gpio : List (Nat × GpioSet)
  net : List (Nat × NetSrc)
  port : List (Nat × Bool × Bool × Nat)
deriving DecidableEq, Repr, Inhabited

/-- An output of a block tile (09 R309): bit i of a RAM port's read output and its COR and UNC, bit i of R of slice j of a
multiplier tile and its OVF, the input of a GPIO cell (of the falling edge with `fall`), a group's trigger, another. -/
inductive BlkOut
  | ramQ (portB : Bool) (i : Nat)
  | cor (portB : Bool)
  | unc (portB : Bool)
  | sliceR (j i : Nat)
  | sliceOvf (j : Nat)
  | gpio (cell : Nat) (fall : Bool)
  | trg (i : Nat)
  | other
deriving DecidableEq, Repr

/-- The settings that the settings frames (TYPE 0x1, 0x3, 0x4, 0x6) of a die choose. -/
opaque Config.fabricSets : List (Nat × BitVec 4608) → FabricSets

/-- The output that code n names in a block tile (column, row): the n-th of the block's output list, which the spec does
not give; none beyond the list (09 R309). -/
opaque Config.blockOut : Nat → Nat → Nat → Option BlkOut

/-- Of the wires of one name that end in a tile at the die's edge, all shortened there (09 R308), the one that a select
code means, as its distance: column, row, direction, length code, index. -/
opaque Config.edgeStart : Nat → Nat → Nat → Nat → Nat → Nat

/-- The region that holds the tile of interrupt line i (0 to 15) or DMA request line i - 16 of a die (09 R339). -/
opaque Config.lineRegion : Nat → Nat

/-- A value the spec leaves open, drawn by a counter of the state (notes/assumptions/2.md). -/
opaque Config.freeValue : Nat → Nat

/-- Counter-mode KDF of NIST SP 800-108 with HMAC-SHA-384 (13 R456): device key, SALT, vault number, generation. -/
opaque Config.vaultKdf : BitVec 256 → Nat → Nat → Nat → BitVec 896

/-- AES-256-XTS over one 64-byte line (13 R458): key, tweak. A permutation, as IEEE 1619 makes it. -/
opaque Config.xts : BitVec 512 → BitVec 128 → Equiv.Perm (BitVec 512)

/-- AES-256 on one block (13 R459). -/
opaque Config.aes256 : BitVec 256 → BitVec 128 → BitVec 128

/-- SHA-384 (11 R381, 16 R536) of bytes. -/
opaque Config.sha384 : List Nat → BitVec 384

/-- ECDSA P-384 with SHA-384 (11 R386, 16 R537): public key, hash, signature. -/
opaque Config.ecdsaOk : BitVec 768 → BitVec 384 → BitVec 768 → Bool

/-- AES key unwrap of NIST SP 800-38F (11 R380, R388): the key-encryption key, the wrapped key. -/
opaque Config.keyUnwrap : BitVec 256 → BitVec 320 → Option (BitVec 256)

/-- AES-256-GCM (11 R381): key, IV, additional data, ciphertext; the plaintext and the tag. -/
opaque Config.gcm : BitVec 256 → BitVec 96 → List Nat → List Nat → List Nat × BitVec 128

/-- The 30 parity symbols of RS(544,514) of IEEE 802.3 clause 91 for 514 payload symbols (08 R268). -/
opaque Config.rsParity : BitVec 5140 → BitVec 300

/-- Where the 64 data bits and the 8 check bits of a protected word stand in its SECDED code, which the spec does not give
(09 R312; notes/assumptions/3.md). -/
opaque Config.eccData : Equiv.Perm (Fin 64)
opaque Config.eccCheck : Equiv.Perm (Fin 8)

/-- What the boundary register's bits have EXTEST drive on a GPIO pin, numbered over the dies and banks; none leaves it high-Z.
The order of the register is open (15 R506). -/
opaque Config.scanCell : Nat → Nat → Option Bool

/-- A bit of the fabric that the spec leaves open: by draw and by place. -/
opaque Config.freeBit : Nat → Nat → Bool

end Sys2Proof
end

