-- ==== Sys2Proof/Machine/Store.lean ====
section
/-! DEFINITION. Machine/Store.lean: the operations of a sparse store, of bit fields and of byte order. -/
namespace Sys2Proof

/-- The entry at a key, if one is listed. -/
def Sparse.find {α : Type} (m : Sparse α) (k : Nat) : Option α :=
  match m with
  | [] => none
  | (j, v) :: r => if j = k then some v else Sparse.find r k

/-- What a key reads as: its entry, or what an unlisted key reads as. -/
def Sparse.get {α : Type} (dflt : Nat → α) (m : Sparse α) (k : Nat) : α :=
  (Sparse.find m k).getD (dflt k)

/-- Every entry but those at a key. -/
def Sparse.del {α : Type} (m : Sparse α) (k : Nat) : Sparse α :=
  m.filter (fun e => e.1 != k)

/-- An entry put before the first larger key. -/
def Sparse.ins {α : Type} (m : Sparse α) (k : Nat) (v : α) : Sparse α :=
  match m with
  | [] => [(k, v)]
  | (j, u) :: r => if k < j then (k, v) :: (j, u) :: r else (j, u) :: Sparse.ins r k v

/-- Write a key. The value an unlisted key reads as is stored by removing the entry (canonical form). -/
def Sparse.put {α : Type} [DecidableEq α] (dflt : Nat → α) (m : Sparse α) (k : Nat) (v : α) : Sparse α :=
  if v = dflt k then Sparse.del m k else Sparse.ins (Sparse.del m k) k v

/-- Keys strictly rising from `lo` on. -/
def Sparse.risesFrom {α : Type} (lo : Nat) (m : Sparse α) : Bool :=
  match m with
  | [] => true
  | (j, _) :: r => decide (lo ≤ j) && Sparse.risesFrom (j + 1) r

/-- The canonical form: keys strictly rising, no entry equal to what an unlisted key reads as. -/
def Sparse.canon {α : Type} [DecidableEq α] (dflt : Nat → α) (m : Sparse α) : Bool :=
  Sparse.risesFrom 0 m && m.all (fun e => decide (e.2 ≠ dflt e.1))

/-- Every entry whose key fails a test goes (a reset of a range). -/
def Sparse.keep {α : Type} (p : Nat → Bool) (m : Sparse α) : Sparse α :=
  m.filter (fun e => p e.1)

/-! Bit fields -/

/-- The bits of a field, in place. -/
def Fld.mask (f : Fld) : Word := BitVec.ofNat 32 (2 ^ f.w - 1) <<< f.lo

/-- The value of a field of a word. -/
def Fld.get (f : Fld) (v : Word) : Nat := (v >>> f.lo).toNat % 2 ^ f.w

/-- A word with one field replaced; a value wider than the field keeps its low bits. -/
def Fld.set (f : Fld) (v : Word) (x : Nat) : Word :=
  (v &&& ~~~ f.mask) ||| (BitVec.ofNat 32 (x % 2 ^ f.w) <<< f.lo)

/-- Bits hi down to lo of a number. -/
def bitsOf (v lo w : Nat) : Nat := v / 2 ^ lo % 2 ^ w

/-- Bit i of a number. -/
def bitOf (v i : Nat) : Bool := Nat.testBit v i

/-- 1 for true, 0 for false. -/
def b2n (b : Bool) : Nat := if b then 1 else 0

/-- Two's complement reading of the low w bits. -/
def signedOf (w v : Nat) : Int :=
  if v % 2 ^ w < 2 ^ (w - 1) then (v % 2 ^ w : Nat) else (v % 2 ^ w : Nat) - (2 ^ w : Nat)

/-- The low w bits of an integer, as a number. -/
def unsignedOf (w : Nat) (v : Int) : Nat := (v % (2 ^ w : Nat)).toNat

/-- Bytes to a number, the first byte least significant (R6: little-endian). -/
def leOf (bs : List Nat) : Nat :=
  match bs with
  | [] => 0
  | b :: r => b % 256 + 256 * leOf r

/-- A number as n bytes, least significant first. -/
def leBytes (n v : Nat) : List Nat :=
  match n with
  | 0 => []
  | k + 1 => v % 256 :: leBytes k (v / 256)

/-- Replace element i of a list; a list too short is unchanged. -/
def setAt {α : Type} (l : List α) (i : Nat) (v : α) : List α := l.set i v

/-- Run a state transformer for each i of a list, in order. -/
def forEach {α σ : Type} (l : List α) (f : α → σ → σ) (s : σ) : σ :=
  l.foldl (fun acc x => f x acc) s

end Sys2Proof
end

