-- ==== Sys2Proof/Machine/RegAddr.lean ====
section
/-! DEFINITION. Machine/RegAddr.lean: the physical address of every register of the register tables (20_register_map.md R617, R619, R622 for the blocks' places). -/
namespace Sys2Proof.Machine

/-- The window of die n, 20_register_map.md R617. -/
def dieBase (d : Nat) : Nat := 0x100000000000 + d * 0x100000000
/-- Group g is 4 x die + k, 00_scope.md R8; its sequencer block, R619. -/
def vsqBase (g : Nat) : Nat := dieBase (g / 4) + (g % 4) * 0x1000000
def fcuBase (g : Nat) : Nat := dieBase (g / 4) + 0x4000000 + (g % 4) * 0x400000
def fcdBase (d : Nat) : Nat := dieBase d + 0x4200000
def raeBase (d : Nat) : Nat := dieBase d + 0x5000000
def mdspBase (m : Nat) : Nat := dieBase (m / 4) + 0x6000000 + (m % 4) * 0x100000
def mempBase (q : Nat) : Nat := dieBase (q / 4) + 0x7000000 + (q % 4) * 0x10000
def vltBase (d : Nat) : Nat := dieBase d + 0x7080000
def dmaBase (d : Nat) : Nat := dieBase d + 0x7100000
def promBase (d : Nat) : Nat := dieBase d + 0x7200000
def seamBase (d k : Nat) : Nat := dieBase d + 0x7300000 + k * 0x1000
def seamdBase (d : Nat) : Nat := dieBase d + 0x7303000
def cfgBase (d : Nat) : Nat := dieBase d + 0x7400000
def fabBase (d : Nat) : Nat := dieBase d + 0x7408000
def ccBase (m : Nat) : Nat := dieBase (m / 2) + 0x7500000 + (m % 2) * 0x1000
def ccdBase (d : Nat) : Nat := dieBase d + 0x7502000
def dbgdBase (d : Nat) : Nat := dieBase d + 0x7508000
def dbgBase (m : Nat) : Nat := dieBase (m / 2) + 0x7508100 + (m % 2) * 0x100
def intBase (d : Nat) : Nat := dieBase d + 0x7600000
def monBase (d : Nat) : Nat := dieBase d + 0x7700000
def bistBase (d : Nat) : Nat := dieBase d + 0x7800000
def dcrBase (d : Nat) : Nat := dieBase d + 0x7900000
/-- The package-level blocks, R622. -/
def packageBase : Nat := 0x1FFF00000000
def kprBase : Nat := packageBase + 0x10000
def pcieBase : Nat := packageBase + 0x20000
def ptBase : Nat := packageBase + 0x40000
def tsyBase : Nat := packageBase + 0x50000
def ledBase : Nat := packageBase + 0x60000
def gisBase : Nat := packageBase + 0x70000
def pkgBase : Nat := packageBase + 0x80000
namespace R


/-! ### VSQ -/

/-- VSQ_CTRL: 02_vector_sequencer.md R90. -/
def VSQ_CTRL (g : Nat) : Nat := vsqBase g + 0x0
/-- VSQ_STAT: 02_vector_sequencer.md R90. -/
def VSQ_STAT (g : Nat) : Nat := vsqBase g + 0x4
/-- VSQ_FAULT: 02_vector_sequencer.md R90. -/
def VSQ_FAULT (g : Nat) : Nat := vsqBase g + 0x8
/-- VSQ_ENTRY: 02_vector_sequencer.md R90. -/
def VSQ_ENTRY (g : Nat) : Nat := vsqBase g + 0xc
/-- VSQ_START_PT_LO: 02_vector_sequencer.md R90. -/
def VSQ_START_PT_LO (g : Nat) : Nat := vsqBase g + 0x10
/-- VSQ_START_PT_HI: 02_vector_sequencer.md R90. -/
def VSQ_START_PT_HI (g : Nat) : Nat := vsqBase g + 0x14
/-- VSQ_GANG: 02_vector_sequencer.md R90. -/
def VSQ_GANG (g : Nat) : Nat := vsqBase g + 0x18
/-- VSQ_CMASK: 02_vector_sequencer.md R90. -/
def VSQ_CMASK (g i : Nat) : Nat := vsqBase g + 0x20 + i * 0x4
/-- VSQ_LR: 02_vector_sequencer.md R90. -/
def VSQ_LR (g i : Nat) : Nat := vsqBase g + 0x40 + i * 0x4
/-- VSQ_LC: 02_vector_sequencer.md R90. -/
def VSQ_LC (g i : Nat) : Nat := vsqBase g + 0x60 + i * 0x4
/-- VSQ_G: 02_vector_sequencer.md R90. -/
def VSQ_G (g i : Nat) : Nat := vsqBase g + 0x80 + i * 0x4
/-- VSQ_VCNT_LO: 02_vector_sequencer.md R90. -/
def VSQ_VCNT_LO (g : Nat) : Nat := vsqBase g + 0x90
/-- VSQ_VCNT_HI: 02_vector_sequencer.md R90. -/
def VSQ_VCNT_HI (g : Nat) : Nat := vsqBase g + 0x94
/-- VSQ_MCNT: 02_vector_sequencer.md R90. -/
def VSQ_MCNT (g : Nat) : Nat := vsqBase g + 0x98
/-- VSQ_PCODE: 02_vector_sequencer.md R90. -/
def VSQ_PCODE (g : Nat) : Nat := vsqBase g + 0x9c
/-- VSQ_TCODE: 02_vector_sequencer.md R90. -/
def VSQ_TCODE (g : Nat) : Nat := vsqBase g + 0xa0
/-- VSQ_UFLAG: 02_vector_sequencer.md R90. -/
def VSQ_UFLAG (g : Nat) : Nat := vsqBase g + 0xa4
/-- VSQ_ESC_CTRL: 02_vector_sequencer.md R90. -/
def VSQ_ESC_CTRL (g : Nat) : Nat := vsqBase g + 0xb0
/-- VSQ_ESC_PER: 02_vector_sequencer.md R90. -/
def VSQ_ESC_PER (g : Nat) : Nat := vsqBase g + 0xb4
/-- VSQ_ESC_ADDR: 02_vector_sequencer.md R90. -/
def VSQ_ESC_ADDR (g : Nat) : Nat := vsqBase g + 0xb8
/-- VSQ_SBASE_LO: 02_vector_sequencer.md R90. -/
def VSQ_SBASE_LO (g : Nat) : Nat := vsqBase g + 0xc0
/-- VSQ_SBASE_HI: 02_vector_sequencer.md R90. -/
def VSQ_SBASE_HI (g : Nat) : Nat := vsqBase g + 0xc4
/-- VSQ_SCTRL: 02_vector_sequencer.md R90. -/
def VSQ_SCTRL (g : Nat) : Nat := vsqBase g + 0xc8
/-- VSQ_SSTAT: 02_vector_sequencer.md R90. -/
def VSQ_SSTAT (g : Nat) : Nat := vsqBase g + 0xcc
/-- VSQ_CAUSE: 02_vector_sequencer.md R90. -/
def VSQ_CAUSE (g : Nat) : Nat := vsqBase g + 0xd0
/-- VSQ_CAUSE_EN: 02_vector_sequencer.md R90. -/
def VSQ_CAUSE_EN (g : Nat) : Nat := vsqBase g + 0xd4
/-- APG_CTRL: 03_pattern_generator.md R117. -/
def APG_CTRL (g : Nat) : Nat := vsqBase g + 0x10000
/-- APG_STAT: 03_pattern_generator.md R117. -/
def APG_STAT (g : Nat) : Nat := vsqBase g + 0x10004
/-- APG_XC: 03_pattern_generator.md R117. -/
def APG_XC (g : Nat) : Nat := vsqBase g + 0x10010
/-- APG_XB: 03_pattern_generator.md R117. -/
def APG_XB (g : Nat) : Nat := vsqBase g + 0x10014
/-- APG_XMIN: 03_pattern_generator.md R117. -/
def APG_XMIN (g : Nat) : Nat := vsqBase g + 0x10018
/-- APG_XMAX: 03_pattern_generator.md R117. -/
def APG_XMAX (g : Nat) : Nat := vsqBase g + 0x1001c
/-- APG_XI: 03_pattern_generator.md R117. -/
def APG_XI (g : Nat) : Nat := vsqBase g + 0x10020
/-- APG_YC: 03_pattern_generator.md R117. -/
def APG_YC (g : Nat) : Nat := vsqBase g + 0x10030
/-- APG_YB: 03_pattern_generator.md R117. -/
def APG_YB (g : Nat) : Nat := vsqBase g + 0x10034
/-- APG_YMIN: 03_pattern_generator.md R117. -/
def APG_YMIN (g : Nat) : Nat := vsqBase g + 0x10038
/-- APG_YMAX: 03_pattern_generator.md R117. -/
def APG_YMAX (g : Nat) : Nat := vsqBase g + 0x1003c
/-- APG_YI: 03_pattern_generator.md R117. -/
def APG_YI (g : Nat) : Nat := vsqBase g + 0x10040
/-- APG_BG_LO: 03_pattern_generator.md R117. -/
def APG_BG_LO (g : Nat) : Nat := vsqBase g + 0x10060
/-- APG_BG_HI: 03_pattern_generator.md R117. -/
def APG_BG_HI (g : Nat) : Nat := vsqBase g + 0x10064
/-- APG_BGA_LO: 03_pattern_generator.md R117. -/
def APG_BGA_LO (g : Nat) : Nat := vsqBase g + 0x10068
/-- APG_BGA_HI: 03_pattern_generator.md R117. -/
def APG_BGA_HI (g : Nat) : Nat := vsqBase g + 0x1006c
/-- APG_BW_LO: 03_pattern_generator.md R117. -/
def APG_BW_LO (g : Nat) : Nat := vsqBase g + 0x10070
/-- APG_BW_HI: 03_pattern_generator.md R117. -/
def APG_BW_HI (g : Nat) : Nat := vsqBase g + 0x10074
/-- APG_BTAB: 03_pattern_generator.md R117. -/
def APG_BTAB (g i : Nat) : Nat := vsqBase g + 0x10080 + i * 0x4
/-- APG_SCR1: 03_pattern_generator.md R117. -/
def APG_SCR1 (g i : Nat) : Nat := vsqBase g + 0x10100 + i * 0x4
/-- APG_SCR2: 03_pattern_generator.md R117. -/
def APG_SCR2 (g i : Nat) : Nat := vsqBase g + 0x10200 + i * 0x4
/-- APG_DTF_SEL0: 03_pattern_generator.md R117. -/
def APG_DTF_SEL0 (g i : Nat) : Nat := vsqBase g + 0x10400 + i * 0x40
/-- APG_DTF_SEL1: 03_pattern_generator.md R117. -/
def APG_DTF_SEL1 (g i : Nat) : Nat := vsqBase g + 0x10404 + i * 0x40
/-- APG_DTF_TT: 03_pattern_generator.md R117. -/
def APG_DTF_TT (g i j : Nat) : Nat := vsqBase g + 0x10420 + i * 0x40 + j * 0x4
/-- CH_GCTRL: 04_pin_channels.md R155. -/
def CH_GCTRL (g : Nat) : Nat := vsqBase g + 0x20000
/-- CH_GSTAT: 04_pin_channels.md R155. -/
def CH_GSTAT (g : Nat) : Nat := vsqBase g + 0x20004
/-- CH_CAL: 04_pin_channels.md R155. -/
def CH_CAL (g : Nat) : Nat := vsqBase g + 0x20008
/-- CH_CALTEMP: 04_pin_channels.md R155. -/
def CH_CALTEMP (g : Nat) : Nat := vsqBase g + 0x2000c
/-- CH_CAUSE: 04_pin_channels.md R155. -/
def CH_CAUSE (g : Nat) : Nat := vsqBase g + 0x20010
/-- CH_CAUSE_EN: 04_pin_channels.md R155. -/
def CH_CAUSE_EN (g : Nat) : Nat := vsqBase g + 0x20014
/-- CH_FUNDER_CNT: 04_pin_channels.md R155. -/
def CH_FUNDER_CNT (g : Nat) : Nat := vsqBase g + 0x20018
/-- CH_STLOST_CNT: 04_pin_channels.md R155. -/
def CH_STLOST_CNT (g : Nat) : Nat := vsqBase g + 0x2001c
/-- CH_STCTRL: 04_pin_channels.md R155. -/
def CH_STCTRL (g : Nat) : Nat := vsqBase g + 0x20020
/-- CH_STSTAT: 04_pin_channels.md R155. -/
def CH_STSTAT (g : Nat) : Nat := vsqBase g + 0x20024
/-- CH_STAMP_LO: 04_pin_channels.md R155. -/
def CH_STAMP_LO (g : Nat) : Nat := vsqBase g + 0x20028
/-- CH_STAMP_HI: 04_pin_channels.md R155. -/
def CH_STAMP_HI (g : Nat) : Nat := vsqBase g + 0x2002c
/-- CH_TS_PERIOD: 04_pin_channels.md R155. -/
def CH_TS_PERIOD (g i : Nat) : Nat := vsqBase g + 0x21000 + i * 0x8
/-- CH_TS_CTRL: 04_pin_channels.md R155. -/
def CH_TS_CTRL (g i : Nat) : Nat := vsqBase g + 0x21004 + i * 0x8
/-- CH_PIN_CFG: 04_pin_channels.md R155. -/
def CH_PIN_CFG (g i : Nat) : Nat := vsqBase g + 0x22000 + i * 0x40
/-- CH_PIN_WMAP: 04_pin_channels.md R155. -/
def CH_PIN_WMAP (g i j : Nat) : Nat := vsqBase g + 0x22004 + i * 0x40 + j * 0x4
/-- CH_PIN_DSKTX: 04_pin_channels.md R155. -/
def CH_PIN_DSKTX (g i : Nat) : Nat := vsqBase g + 0x22014 + i * 0x40
/-- CH_PIN_DSKRX: 04_pin_channels.md R155. -/
def CH_PIN_DSKRX (g i : Nat) : Nat := vsqBase g + 0x22018 + i * 0x40
/-- CH_WAV_CFG: 04_pin_channels.md R155. -/
def CH_WAV_CFG (g i : Nat) : Nat := vsqBase g + 0x40000 + i * 0x80
/-- CH_WAV_DOFS: 04_pin_channels.md R155. -/
def CH_WAV_DOFS (g i : Nat) : Nat := vsqBase g + 0x40004 + i * 0x80
/-- CH_WAV_SOFS: 04_pin_channels.md R155. -/
def CH_WAV_SOFS (g i : Nat) : Nat := vsqBase g + 0x40008 + i * 0x80
/-- CH_WAV_SLOT: 04_pin_channels.md R155. -/
def CH_WAV_SLOT (g i j : Nat) : Nat := vsqBase g + 0x40040 + i * 0x80 + j * 0x4

/-! ### FCU -/

/-- FCU_CTRL: 05_fail_capture.md R191. -/
def FCU_CTRL (g : Nat) : Nat := fcuBase g + 0x0
/-- FCU_CMD: 05_fail_capture.md R191. -/
def FCU_CMD (g : Nat) : Nat := fcuBase g + 0x4
/-- FCU_STAT: 05_fail_capture.md R191. -/
def FCU_STAT (g : Nat) : Nat := fcuBase g + 0x8
/-- FCU_CAUSE: 05_fail_capture.md R191. -/
def FCU_CAUSE (g : Nat) : Nat := fcuBase g + 0xc
/-- FCU_CAUSE_EN: 05_fail_capture.md R191. -/
def FCU_CAUSE_EN (g : Nat) : Nat := fcuBase g + 0x10
/-- FCU_DPINS: 05_fail_capture.md R191. -/
def FCU_DPINS (g : Nat) : Nat := fcuBase g + 0x14
/-- FCU_LLIMIT: 05_fail_capture.md R191. -/
def FCU_LLIMIT (g : Nat) : Nat := fcuBase g + 0x18
/-- FCU_LBASE_LO: 05_fail_capture.md R191. -/
def FCU_LBASE_LO (g : Nat) : Nat := fcuBase g + 0x20
/-- FCU_LBASE_HI: 05_fail_capture.md R191. -/
def FCU_LBASE_HI (g : Nat) : Nat := fcuBase g + 0x24
/-- FCU_LSIZE: 05_fail_capture.md R191. -/
def FCU_LSIZE (g : Nat) : Nat := fcuBase g + 0x30
/-- FCU_CBASE_LO: 05_fail_capture.md R191. -/
def FCU_CBASE_LO (g : Nat) : Nat := fcuBase g + 0x28
/-- FCU_CBASE_HI: 05_fail_capture.md R191. -/
def FCU_CBASE_HI (g : Nat) : Nat := fcuBase g + 0x2c
/-- FCU_CSIZE: 05_fail_capture.md R191. -/
def FCU_CSIZE (g : Nat) : Nat := fcuBase g + 0x34
/-- FCU_LWPTR: 05_fail_capture.md R191. -/
def FCU_LWPTR (g : Nat) : Nat := fcuBase g + 0x40
/-- FCU_LRPTR: 05_fail_capture.md R191. -/
def FCU_LRPTR (g : Nat) : Nat := fcuBase g + 0x44
/-- FCU_CWPTR: 05_fail_capture.md R191. -/
def FCU_CWPTR (g : Nat) : Nat := fcuBase g + 0x48
/-- FCU_CRPTR: 05_fail_capture.md R191. -/
def FCU_CRPTR (g : Nat) : Nat := fcuBase g + 0x4c
/-- FCU_LLOST: 05_fail_capture.md R191. -/
def FCU_LLOST (g : Nat) : Nat := fcuBase g + 0x50
/-- FCU_CLOST: 05_fail_capture.md R191. -/
def FCU_CLOST (g : Nat) : Nat := fcuBase g + 0x54
/-- FCU_BLOST: 05_fail_capture.md R191. -/
def FCU_BLOST (g : Nat) : Nat := fcuBase g + 0x58
/-- FCU_RLOST: 05_fail_capture.md R191. -/
def FCU_RLOST (g : Nat) : Nat := fcuBase g + 0x5c
/-- FCU_MISR_LO: 05_fail_capture.md R191. -/
def FCU_MISR_LO (g i : Nat) : Nat := fcuBase g + 0x60 + i * 0x8
/-- FCU_MISR_HI: 05_fail_capture.md R191. -/
def FCU_MISR_HI (g i : Nat) : Nat := fcuBase g + 0x64 + i * 0x8
/-- FCU_MEXP_LO: 05_fail_capture.md R191. -/
def FCU_MEXP_LO (g i : Nat) : Nat := fcuBase g + 0x70 + i * 0x8
/-- FCU_MEXP_HI: 05_fail_capture.md R191. -/
def FCU_MEXP_HI (g i : Nat) : Nat := fcuBase g + 0x74 + i * 0x8
/-- FCU_PINSITE: 05_fail_capture.md R191. -/
def FCU_PINSITE (g i : Nat) : Nat := fcuBase g + 0x100 + i * 0x4
/-- FCU_CNT_VAL: 05_fail_capture.md R191. -/
def FCU_CNT_VAL (g i : Nat) : Nat := fcuBase g + 0x1000 + i * 0x8
/-- FCU_CNT_FLG: 05_fail_capture.md R191. -/
def FCU_CNT_FLG (g i : Nat) : Nat := fcuBase g + 0x1004 + i * 0x8

/-! ### FCD -/

/-- FCD_CMD: 05_fail_capture.md R192. -/
def FCD_CMD (d : Nat) : Nat := fcdBase d + 0x0
/-- FCD_STAT: 05_fail_capture.md R192. -/
def FCD_STAT (d : Nat) : Nat := fcdBase d + 0x4
/-- FCD_SMASK: 05_fail_capture.md R192. -/
def FCD_SMASK (d i : Nat) : Nat := fcdBase d + 0x10 + i * 0x4
/-- FCD_SMOFF: 05_fail_capture.md R192. -/
def FCD_SMOFF (d i : Nat) : Nat := fcdBase d + 0x30 + i * 0x4
/-- FCD_DIE_VAL: 05_fail_capture.md R191. -/
def FCD_DIE_VAL (d : Nat) : Nat := fcdBase d + 0x50
/-- FCD_DIE_FLG: 05_fail_capture.md R191. -/
def FCD_DIE_FLG (d : Nat) : Nat := fcdBase d + 0x54
/-- FCD_DEV_VAL: 05_fail_capture.md R191. -/
def FCD_DEV_VAL (d : Nat) : Nat := fcdBase d + 0x58
/-- FCD_DEV_FLG: 05_fail_capture.md R191. -/
def FCD_DEV_FLG (d : Nat) : Nat := fcdBase d + 0x5c
/-- FCD_BM_BASE_LO: 05_fail_capture.md R192. -/
def FCD_BM_BASE_LO (d i : Nat) : Nat := fcdBase d + 0x100 + i * 0x20
/-- FCD_BM_BASE_HI: 05_fail_capture.md R192. -/
def FCD_BM_BASE_HI (d i : Nat) : Nat := fcdBase d + 0x104 + i * 0x20
/-- FCD_BM_GEOM: 05_fail_capture.md R192. -/
def FCD_BM_GEOM (d i : Nat) : Nat := fcdBase d + 0x108 + i * 0x20
/-- FCD_BM_STAT: 05_fail_capture.md R192. -/
def FCD_BM_STAT (d i : Nat) : Nat := fcdBase d + 0x10c + i * 0x20
/-- FCD_BM_LOST: 05_fail_capture.md R192. -/
def FCD_BM_LOST (d i : Nat) : Nat := fcdBase d + 0x110 + i * 0x20
/-- FCD_BM_ERR: 05_fail_capture.md R192. -/
def FCD_BM_ERR (d i : Nat) : Nat := fcdBase d + 0x114 + i * 0x20
/-- FCD_SITE_VAL: 05_fail_capture.md R191. -/
def FCD_SITE_VAL (d i : Nat) : Nat := fcdBase d + 0x1000 + i * 0x8
/-- FCD_SITE_FLG: 05_fail_capture.md R191. -/
def FCD_SITE_FLG (d i : Nat) : Nat := fcdBase d + 0x1004 + i * 0x8
/-- FCD_SITE_TOTVAL: 05_fail_capture.md R191. -/
def FCD_SITE_TOTVAL (d i : Nat) : Nat := fcdBase d + 0x2000 + i * 0x8
/-- FCD_SITE_TOTFLG: 05_fail_capture.md R191. -/
def FCD_SITE_TOTFLG (d i : Nat) : Nat := fcdBase d + 0x2004 + i * 0x8

/-! ### RAE -/

/-- RAE_CTRL: 06_repair_analysis.md R220. -/
def RAE_CTRL (d : Nat) : Nat := raeBase d + 0x0
/-- RAE_CMD: 06_repair_analysis.md R220. -/
def RAE_CMD (d : Nat) : Nat := raeBase d + 0x4
/-- RAE_STAT: 06_repair_analysis.md R220. -/
def RAE_STAT (d : Nat) : Nat := raeBase d + 0x8
/-- RAE_CAUSE: 06_repair_analysis.md R220. -/
def RAE_CAUSE (d : Nat) : Nat := raeBase d + 0xc
/-- RAE_CAUSE_EN: 06_repair_analysis.md R220. -/
def RAE_CAUSE_EN (d : Nat) : Nat := raeBase d + 0x10
/-- RAE_SEQ: 06_repair_analysis.md R220. -/
def RAE_SEQ (d : Nat) : Nat := raeBase d + 0x14
/-- RAE_LOSS_CNT: 06_repair_analysis.md R220. -/
def RAE_LOSS_CNT (d : Nat) : Nat := raeBase d + 0x20
/-- RAE_BADMAP_CNT: 06_repair_analysis.md R220. -/
def RAE_BADMAP_CNT (d : Nat) : Nat := raeBase d + 0x24
/-- RAE_LATE_CNT: 06_repair_analysis.md R220. -/
def RAE_LATE_CNT (d : Nat) : Nat := raeBase d + 0x28
/-- RAE_MISS_CNT: 06_repair_analysis.md R220. -/
def RAE_MISS_CNT (d : Nat) : Nat := raeBase d + 0x2c
/-- RAE_CMDLOST_CNT: 06_repair_analysis.md R220. -/
def RAE_CMDLOST_CNT (d : Nat) : Nat := raeBase d + 0x30
/-- RAE_SPBASE_LO: 06_repair_analysis.md R220. -/
def RAE_SPBASE_LO (d : Nat) : Nat := raeBase d + 0x40
/-- RAE_SPBASE_HI: 06_repair_analysis.md R220. -/
def RAE_SPBASE_HI (d : Nat) : Nat := raeBase d + 0x44
/-- RAE_RBASE_LO: 06_repair_analysis.md R220. -/
def RAE_RBASE_LO (d : Nat) : Nat := raeBase d + 0x48
/-- RAE_RBASE_HI: 06_repair_analysis.md R220. -/
def RAE_RBASE_HI (d : Nat) : Nat := raeBase d + 0x4c
/-- RAE_RSIZE: 06_repair_analysis.md R220. -/
def RAE_RSIZE (d : Nat) : Nat := raeBase d + 0x50
/-- RAE_RWPTR: 06_repair_analysis.md R220. -/
def RAE_RWPTR (d : Nat) : Nat := raeBase d + 0x54
/-- RAE_RRPTR: 06_repair_analysis.md R220. -/
def RAE_RRPTR (d : Nat) : Nat := raeBase d + 0x58
/-- RAE_TMPL_GEOM: 06_repair_analysis.md R220. -/
def RAE_TMPL_GEOM (d i : Nat) : Nat := raeBase d + 0x100 + i * 0x10
/-- RAE_TMPL_DOM: 06_repair_analysis.md R220. -/
def RAE_TMPL_DOM (d i : Nat) : Nat := raeBase d + 0x104 + i * 0x10
/-- RAE_TMPL_SPARE: 06_repair_analysis.md R220. -/
def RAE_TMPL_SPARE (d i : Nat) : Nat := raeBase d + 0x108 + i * 0x10
/-- RAE_SITE: 06_repair_analysis.md R220. -/
def RAE_SITE (d i : Nat) : Nat := raeBase d + 0x1000 + i * 0x4

/-! ### MDSP -/

/-- MDSP_CTRL: 07_measurement_dsp.md R263. -/
def MDSP_CTRL (m : Nat) : Nat := mdspBase m + 0xF0000 + 0x0
/-- MDSP_STAT: 07_measurement_dsp.md R263. -/
def MDSP_STAT (m : Nat) : Nat := mdspBase m + 0xF0000 + 0x4
/-- MDSP_ENTRY: 07_measurement_dsp.md R263. -/
def MDSP_ENTRY (m : Nat) : Nat := mdspBase m + 0xF0000 + 0x8
/-- MDSP_PC: 07_measurement_dsp.md R263. -/
def MDSP_PC (m : Nat) : Nat := mdspBase m + 0xF0000 + 0xc
/-- MDSP_FAULT: 07_measurement_dsp.md R263. -/
def MDSP_FAULT (m : Nat) : Nat := mdspBase m + 0xF0000 + 0x10
/-- MDSP_CAUSE: 07_measurement_dsp.md R263. -/
def MDSP_CAUSE (m : Nat) : Nat := mdspBase m + 0xF0000 + 0x14
/-- MDSP_CAUSE_EN: 07_measurement_dsp.md R263. -/
def MDSP_CAUSE_EN (m : Nat) : Nat := mdspBase m + 0xF0000 + 0x18
/-- MDSP_SCODE: 07_measurement_dsp.md R263. -/
def MDSP_SCODE (m : Nat) : Nat := mdspBase m + 0xF0000 + 0x1c
/-- MDSP_CYC: 07_measurement_dsp.md R263. -/
def MDSP_CYC (m : Nat) : Nat := mdspBase m + 0xF0000 + 0x20
/-- MDSP_EVSET: 07_measurement_dsp.md R263. -/
def MDSP_EVSET (m : Nat) : Nat := mdspBase m + 0xF0000 + 0x24
/-- MDSP_EVPEND: 07_measurement_dsp.md R263. -/
def MDSP_EVPEND (m i : Nat) : Nat := mdspBase m + 0xF0000 + 0x40 + i * 0x4
/-- MDSP_REG: 07_measurement_dsp.md R263. -/
def MDSP_REG (m i : Nat) : Nat := mdspBase m + 0xF0000 + 0x100 + i * 0x4

/-! ### PT -/

/-- PT_LO: 08_time_sync_scaleout.md R299. -/
def PT_LO : Nat := ptBase + 0x0
/-- PT_HI: 08_time_sync_scaleout.md R299. -/
def PT_HI : Nat := ptBase + 0x4
/-- PT_FRAC: 08_time_sync_scaleout.md R299. -/
def PT_FRAC : Nat := ptBase + 0x8
/-- PT_STAT: 08_time_sync_scaleout.md R299. -/
def PT_STAT : Nat := ptBase + 0xc

/-! ### TSY -/

/-- TSY_CTRL: 08_time_sync_scaleout.md R299. -/
def TSY_CTRL : Nat := tsyBase + 0x0
/-- TSY_STAT: 08_time_sync_scaleout.md R299. -/
def TSY_STAT : Nat := tsyBase + 0x4
/-- TSY_CAUSE: 08_time_sync_scaleout.md R299. -/
def TSY_CAUSE : Nat := tsyBase + 0x8
/-- TSY_CAUSE_EN: 08_time_sync_scaleout.md R299. -/
def TSY_CAUSE_EN : Nat := tsyBase + 0xc
/-- TSY_PTOFS: 08_time_sync_scaleout.md R299. -/
def TSY_PTOFS : Nat := tsyBase + 0x10
/-- TSY_BCAST_PT_LO: 08_time_sync_scaleout.md R299. -/
def TSY_BCAST_PT_LO : Nat := tsyBase + 0x20
/-- TSY_BCAST_PT_HI: 08_time_sync_scaleout.md R299. -/
def TSY_BCAST_PT_HI : Nat := tsyBase + 0x24
/-- TSY_BCAST_CTRL: 08_time_sync_scaleout.md R299. -/
def TSY_BCAST_CTRL : Nat := tsyBase + 0x28
/-- TSY_PORT_CTRL: 08_time_sync_scaleout.md R299. -/
def TSY_PORT_CTRL (i : Nat) : Nat := tsyBase + 0x100 + i * 0x10
/-- TSY_PORT_STAT: 08_time_sync_scaleout.md R299. -/
def TSY_PORT_STAT (i : Nat) : Nat := tsyBase + 0x104 + i * 0x10
/-- TSY_PORT_HOP: 08_time_sync_scaleout.md R299. -/
def TSY_PORT_HOP (i : Nat) : Nat := tsyBase + 0x108 + i * 0x10
/-- TSY_PORT_FEC: 08_time_sync_scaleout.md R299. -/
def TSY_PORT_FEC (i : Nat) : Nat := tsyBase + 0x10c + i * 0x10
/-- TSY_GCLASS: 08_time_sync_scaleout.md R299. -/
def TSY_GCLASS (i : Nat) : Nat := tsyBase + 0x200 + i * 0x4
/-- TSY_GANG_CFG: 08_time_sync_scaleout.md R299. -/
def TSY_GANG_CFG (i : Nat) : Nat := tsyBase + 0x300 + i * 0x10
/-- TSY_GANG_MLO: 08_time_sync_scaleout.md R299. -/
def TSY_GANG_MLO (i : Nat) : Nat := tsyBase + 0x304 + i * 0x10
/-- TSY_GANG_MHI: 08_time_sync_scaleout.md R299. -/
def TSY_GANG_MHI (i : Nat) : Nat := tsyBase + 0x308 + i * 0x10

/-! ### LED -/

/-- LED_CTRL: 08_time_sync_scaleout.md R299. -/
def LED_CTRL : Nat := ledBase + 0x0
/-- LED_COMMIT: 08_time_sync_scaleout.md R299. -/
def LED_COMMIT : Nat := ledBase + 0x4
/-- LED_STAT: 08_time_sync_scaleout.md R299. -/
def LED_STAT : Nat := ledBase + 0x8
/-- LED_CAUSE: 08_time_sync_scaleout.md R299. -/
def LED_CAUSE : Nat := ledBase + 0xc
/-- LED_CAUSE_EN: 08_time_sync_scaleout.md R299. -/
def LED_CAUSE_EN : Nat := ledBase + 0x10
/-- LED_EPOCH: 08_time_sync_scaleout.md R299. -/
def LED_EPOCH : Nat := ledBase + 0x14
/-- LED_BASE_LO: 08_time_sync_scaleout.md R299. -/
def LED_BASE_LO : Nat := ledBase + 0x20
/-- LED_BASE_HI: 08_time_sync_scaleout.md R299. -/
def LED_BASE_HI : Nat := ledBase + 0x24
/-- LED_MBASE_LO: 08_time_sync_scaleout.md R299. -/
def LED_MBASE_LO : Nat := ledBase + 0x28
/-- LED_MBASE_HI: 08_time_sync_scaleout.md R299. -/
def LED_MBASE_HI : Nat := ledBase + 0x2c
/-- LED_NEXTSEQ_LO: 08_time_sync_scaleout.md R299. -/
def LED_NEXTSEQ_LO : Nat := ledBase + 0x40
/-- LED_NEXTSEQ_HI: 08_time_sync_scaleout.md R299. -/
def LED_NEXTSEQ_HI : Nat := ledBase + 0x44
/-- LED_MSEQ_LO: 08_time_sync_scaleout.md R299. -/
def LED_MSEQ_LO : Nat := ledBase + 0x48
/-- LED_MSEQ_HI: 08_time_sync_scaleout.md R299. -/
def LED_MSEQ_HI : Nat := ledBase + 0x4c
/-- LED_RSEQ_LO: 08_time_sync_scaleout.md R299. -/
def LED_RSEQ_LO : Nat := ledBase + 0x50
/-- LED_RSEQ_HI: 08_time_sync_scaleout.md R299. -/
def LED_RSEQ_HI : Nat := ledBase + 0x54
/-- LED_TSEQ_LO: 08_time_sync_scaleout.md R299. -/
def LED_TSEQ_LO : Nat := ledBase + 0x58
/-- LED_TSEQ_HI: 08_time_sync_scaleout.md R299. -/
def LED_TSEQ_HI : Nat := ledBase + 0x5c

/-! ### FAB -/

/-- FAB_STAT: 09_fabric.md R347. -/
def FAB_STAT (d : Nat) : Nat := fabBase d + 0x0
/-- FAB_CAUSE: 09_fabric.md R347. -/
def FAB_CAUSE (d : Nat) : Nat := fabBase d + 0x4
/-- FAB_CAUSE_EN: 09_fabric.md R347. -/
def FAB_CAUSE_EN (d : Nat) : Nat := fabBase d + 0x8
/-- FAB_FCS_CTRL: 09_fabric.md R347. -/
def FAB_FCS_CTRL (d i : Nat) : Nat := fabBase d + 0x10 + i * 0x4
/-- FAB_FCS_STAT: 09_fabric.md R347. -/
def FAB_FCS_STAT (d i : Nat) : Nat := fabBase d + 0x18 + i * 0x4
/-- FAB_PORT_STAT: 09_fabric.md R347. -/
def FAB_PORT_STAT (d i : Nat) : Nat := fabBase d + 0x40 + i * 0x4

/-! ### SEAM -/

/-- SEAM_CTRL: 10_seams.md R369. -/
def SEAM_CTRL (d k : Nat) : Nat := seamBase d k + 0x0
/-- SEAM_STAT: 10_seams.md R369. -/
def SEAM_STAT (d k : Nat) : Nat := seamBase d k + 0x4
/-- SEAM_ROLE: 10_seams.md R369. -/
def SEAM_ROLE (d k : Nat) : Nat := seamBase d k + 0x8
/-- SEAM_CAUSE: 10_seams.md R369. -/
def SEAM_CAUSE (d k : Nat) : Nat := seamBase d k + 0x70
/-- SEAM_CAUSE_EN: 10_seams.md R369. -/
def SEAM_CAUSE_EN (d k : Nat) : Nat := seamBase d k + 0x74
/-- SEAM_RETRY_CNT: 10_seams.md R369. -/
def SEAM_RETRY_CNT (d k : Nat) : Nat := seamBase d k + 0x78
/-- SEAM_FABERR_CNT: 10_seams.md R369. -/
def SEAM_FABERR_CNT (d k : Nat) : Nat := seamBase d k + 0x7c
/-- SEAM_LMAP_TX: 10_seams.md R369. -/
def SEAM_LMAP_TX (d k i : Nat) : Nat := seamBase d k + 0x10 + i * 0x4
/-- SEAM_LMAP_RX: 10_seams.md R369. -/
def SEAM_LMAP_RX (d k i : Nat) : Nat := seamBase d k + 0x40 + i * 0x4
/-- SEAM_FVAL: 10_seams.md R369. -/
def SEAM_FVAL (d k i : Nat) : Nat := seamBase d k + 0x100 + i * 0x4

/-! ### SEAMD -/

/-- SEAM_DIEID: 10_seams.md R369. -/
def SEAM_DIEID (d : Nat) : Nat := seamdBase d + 0x0
/-- SEAM_DSTAT: 10_seams.md R369. -/
def SEAM_DSTAT (d : Nat) : Nat := seamdBase d + 0x4
/-- SEAM_ROUTE: 10_seams.md R369. -/
def SEAM_ROUTE (d i : Nat) : Nat := seamdBase d + 0x10 + i * 0x4

/-! ### CFG -/

/-- CFG_CTRL: 11_configuration.md R409. -/
def CFG_CTRL (d : Nat) : Nat := cfgBase d + 0x0
/-- CFG_STAT: 11_configuration.md R409. -/
def CFG_STAT (d : Nat) : Nat := cfgBase d + 0x4
/-- CFG_ERR: 11_configuration.md R409. -/
def CFG_ERR (d : Nat) : Nat := cfgBase d + 0x8
/-- CFG_DESIGNID: 11_configuration.md R409. -/
def CFG_DESIGNID (d : Nat) : Nat := cfgBase d + 0xc
/-- CFG_DSTAT: 11_configuration.md R409. -/
def CFG_DSTAT (d : Nat) : Nat := cfgBase d + 0x20
/-- CFG_CAUSE: 11_configuration.md R409. -/
def CFG_CAUSE (d : Nat) : Nat := cfgBase d + 0x24
/-- CFG_CAUSE_EN: 11_configuration.md R409. -/
def CFG_CAUSE_EN (d : Nat) : Nat := cfgBase d + 0x28
/-- CFG_MDCTRL: 11_configuration.md R409. -/
def CFG_MDCTRL (d : Nat) : Nat := cfgBase d + 0x30
/-- CFG_MDDEF: 11_configuration.md R409. -/
def CFG_MDDEF (d : Nat) : Nat := cfgBase d + 0x34
/-- CFG_MDFENCE: 11_configuration.md R409. -/
def CFG_MDFENCE (d : Nat) : Nat := cfgBase d + 0x38
/-- CFG_SCRUB_CTRL: 11_configuration.md R409. -/
def CFG_SCRUB_CTRL (d : Nat) : Nat := cfgBase d + 0x40
/-- CFG_SCRUB_SBE: 11_configuration.md R409. -/
def CFG_SCRUB_SBE (d : Nat) : Nat := cfgBase d + 0x44
/-- CFG_SCRUB_MBE: 11_configuration.md R409. -/
def CFG_SCRUB_MBE (d : Nat) : Nat := cfgBase d + 0x48
/-- CFG_SCRUB_MBEADDR: 11_configuration.md R409. -/
def CFG_SCRUB_MBEADDR (d : Nat) : Nat := cfgBase d + 0x4c
/-- CFG_RBADDR: 11_configuration.md R409. -/
def CFG_RBADDR (d : Nat) : Nat := cfgBase d + 0x60
/-- CFG_RBDATA: 11_configuration.md R409. -/
def CFG_RBDATA (d i : Nat) : Nat := cfgBase d + 0x1000 + i * 0x4
/-- CFG_DATA: 11_configuration.md R409. -/
def CFG_DATA (d i : Nat) : Nat := cfgBase d + 0x2000 + i * 0x4

/-! ### PROM -/

/-- PROM_TMO: 12_memory_system.md R448. -/
def PROM_TMO (d : Nat) : Nat := promBase d + 0x0
/-- PROM_CAUSE: 12_memory_system.md R448. -/
def PROM_CAUSE (d : Nat) : Nat := promBase d + 0x4
/-- PROM_CAUSE_EN: 12_memory_system.md R448. -/
def PROM_CAUSE_EN (d : Nat) : Nat := promBase d + 0x8
/-- PROM_TMO_CNT: 12_memory_system.md R448. -/
def PROM_TMO_CNT (d : Nat) : Nat := promBase d + 0xc
/-- PROM_TSRC: 12_memory_system.md R448. -/
def PROM_TSRC (d : Nat) : Nat := promBase d + 0x10
/-- PROM_TADDR_LO: 12_memory_system.md R448. -/
def PROM_TADDR_LO (d : Nat) : Nat := promBase d + 0x14
/-- PROM_TADDR_HI: 12_memory_system.md R448. -/
def PROM_TADDR_HI (d : Nat) : Nat := promBase d + 0x18
/-- PROM_REG_BASE: 12_memory_system.md R448. -/
def PROM_REG_BASE (d i : Nat) : Nat := promBase d + 0x100 + i * 0x10
/-- PROM_REG_SIZE: 12_memory_system.md R448. -/
def PROM_REG_SIZE (d i : Nat) : Nat := promBase d + 0x104 + i * 0x10
/-- PROM_REG_CTRL: 12_memory_system.md R448. -/
def PROM_REG_CTRL (d i : Nat) : Nat := promBase d + 0x108 + i * 0x10
/-- PROM_REG_CHOFS: 12_memory_system.md R448. -/
def PROM_REG_CHOFS (d i : Nat) : Nat := promBase d + 0x10c + i * 0x10
/-- PROM_SCR_CTRL: 12_memory_system.md R448. -/
def PROM_SCR_CTRL (d : Nat) : Nat := promBase d + 0x200
/-- PROM_SCR_STAT: 12_memory_system.md R448. -/
def PROM_SCR_STAT (d : Nat) : Nat := promBase d + 0x204
/-- PROM_SCR_START_LO: 12_memory_system.md R448. -/
def PROM_SCR_START_LO (d : Nat) : Nat := promBase d + 0x208
/-- PROM_SCR_START_HI: 12_memory_system.md R448. -/
def PROM_SCR_START_HI (d : Nat) : Nat := promBase d + 0x20c
/-- PROM_SCR_END_LO: 12_memory_system.md R448. -/
def PROM_SCR_END_LO (d : Nat) : Nat := promBase d + 0x210
/-- PROM_SCR_END_HI: 12_memory_system.md R448. -/
def PROM_SCR_END_HI (d : Nat) : Nat := promBase d + 0x214
/-- PROM_SCR_CHK: 12_memory_system.md R448. -/
def PROM_SCR_CHK (d : Nat) : Nat := promBase d + 0x218
/-- PROM_SCR_COR: 12_memory_system.md R448. -/
def PROM_SCR_COR (d : Nat) : Nat := promBase d + 0x21c
/-- PROM_SCR_UNC: 12_memory_system.md R448. -/
def PROM_SCR_UNC (d : Nat) : Nat := promBase d + 0x220
/-- PROM_SCR_FIRST_LO: 12_memory_system.md R448. -/
def PROM_SCR_FIRST_LO (d : Nat) : Nat := promBase d + 0x228
/-- PROM_SCR_FIRST_HI: 12_memory_system.md R448. -/
def PROM_SCR_FIRST_HI (d : Nat) : Nat := promBase d + 0x22c
/-- PROM_SCR_LAST_LO: 12_memory_system.md R448. -/
def PROM_SCR_LAST_LO (d : Nat) : Nat := promBase d + 0x230
/-- PROM_SCR_LAST_HI: 12_memory_system.md R448. -/
def PROM_SCR_LAST_HI (d : Nat) : Nat := promBase d + 0x234

/-! ### MEMP -/

/-- MEMP_CTRL: 12_memory_system.md R449. -/
def MEMP_CTRL (q : Nat) : Nat := mempBase q + 0x0
/-- MEMP_STAT: 12_memory_system.md R449. -/
def MEMP_STAT (q : Nat) : Nat := mempBase q + 0x4
/-- MEMP_CAUSE: 12_memory_system.md R449. -/
def MEMP_CAUSE (q : Nat) : Nat := mempBase q + 0x8
/-- MEMP_CAUSE_EN: 12_memory_system.md R449. -/
def MEMP_CAUSE_EN (q : Nat) : Nat := mempBase q + 0xc
/-- MEMP_RH_CTRL: 12_memory_system.md R449. -/
def MEMP_RH_CTRL (q : Nat) : Nat := mempBase q + 0x10
/-- MEMP_RH_THR: 12_memory_system.md R449. -/
def MEMP_RH_THR (q : Nat) : Nat := mempBase q + 0x14
/-- MEMP_RH_SRC: 12_memory_system.md R449. -/
def MEMP_RH_SRC (q : Nat) : Nat := mempBase q + 0x18
/-- MEMP_CE_CNT: 12_memory_system.md R449. -/
def MEMP_CE_CNT (q : Nat) : Nat := mempBase q + 0x20
/-- MEMP_UE_CNT: 12_memory_system.md R449. -/
def MEMP_UE_CNT (q : Nat) : Nat := mempBase q + 0x24
/-- MEMP_EDC_CNT: 12_memory_system.md R449. -/
def MEMP_EDC_CNT (q : Nat) : Nat := mempBase q + 0x28
/-- MEMP_RH_CNT: 12_memory_system.md R449. -/
def MEMP_RH_CNT (q : Nat) : Nat := mempBase q + 0x2c
/-- MEMP_ELOG_LO: 12_memory_system.md R449. -/
def MEMP_ELOG_LO (q : Nat) : Nat := mempBase q + 0x30
/-- MEMP_ELOG_HI: 12_memory_system.md R449. -/
def MEMP_ELOG_HI (q : Nat) : Nat := mempBase q + 0x34

/-! ### VLT -/

/-- VLT_CAUSE: 13_vaults.md R474. -/
def VLT_CAUSE (d : Nat) : Nat := vltBase d + 0x0
/-- VLT_CAUSE_EN: 13_vaults.md R474. -/
def VLT_CAUSE_EN (d : Nat) : Nat := vltBase d + 0x4
/-- VLT_HALT_LO: 13_vaults.md R474. -/
def VLT_HALT_LO (d : Nat) : Nat := vltBase d + 0x8
/-- VLT_HALT_HI: 13_vaults.md R474. -/
def VLT_HALT_HI (d : Nat) : Nat := vltBase d + 0xc
/-- VLT_V_CTRL: 13_vaults.md R474. -/
def VLT_V_CTRL (d i : Nat) : Nat := vltBase d + 0x1000 + i * 0x40
/-- VLT_V_STAT: 13_vaults.md R474. -/
def VLT_V_STAT (d i : Nat) : Nat := vltBase d + 0x1004 + i * 0x40
/-- VLT_V_BASE: 13_vaults.md R474. -/
def VLT_V_BASE (d i : Nat) : Nat := vltBase d + 0x1008 + i * 0x40
/-- VLT_V_SIZE: 13_vaults.md R474. -/
def VLT_V_SIZE (d i : Nat) : Nat := vltBase d + 0x100c + i * 0x40
/-- VLT_V_SALT: 13_vaults.md R474. -/
def VLT_V_SALT (d i : Nat) : Nat := vltBase d + 0x1010 + i * 0x40
/-- VLT_V_LIMIT_LO: 13_vaults.md R474. -/
def VLT_V_LIMIT_LO (d i : Nat) : Nat := vltBase d + 0x1014 + i * 0x40
/-- VLT_V_LIMIT_HI: 13_vaults.md R474. -/
def VLT_V_LIMIT_HI (d i : Nat) : Nat := vltBase d + 0x1018 + i * 0x40
/-- VLT_V_WCNT_LO: 13_vaults.md R474. -/
def VLT_V_WCNT_LO (d i : Nat) : Nat := vltBase d + 0x101c + i * 0x40
/-- VLT_V_WCNT_HI: 13_vaults.md R474. -/
def VLT_V_WCNT_HI (d i : Nat) : Nat := vltBase d + 0x1020 + i * 0x40
/-- VLT_V_RKPTR_LO: 13_vaults.md R474. -/
def VLT_V_RKPTR_LO (d i : Nat) : Nat := vltBase d + 0x1024 + i * 0x40
/-- VLT_V_RKPTR_HI: 13_vaults.md R474. -/
def VLT_V_RKPTR_HI (d i : Nat) : Nat := vltBase d + 0x1028 + i * 0x40

/-! ### DMA -/

/-- DMA_DONE: 14_dma.md R492. -/
def DMA_DONE (d : Nat) : Nat := dmaBase d + 0x0
/-- DMA_DONE_EN: 14_dma.md R492. -/
def DMA_DONE_EN (d : Nat) : Nat := dmaBase d + 0xc
/-- DMA_ERR: 14_dma.md R492. -/
def DMA_ERR (d : Nat) : Nat := dmaBase d + 0x4
/-- DMA_ERR_EN: 14_dma.md R492. -/
def DMA_ERR_EN (d : Nat) : Nat := dmaBase d + 0x10
/-- DMA_ROVF: 14_dma.md R492. -/
def DMA_ROVF (d : Nat) : Nat := dmaBase d + 0x8
/-- DMA_ROVF_EN: 14_dma.md R492. -/
def DMA_ROVF_EN (d : Nat) : Nat := dmaBase d + 0x14
/-- DMA_CAUSE: 14_dma.md R492. -/
def DMA_CAUSE (d : Nat) : Nat := dmaBase d + 0x18
/-- DMA_CAUSE_EN: 14_dma.md R492. -/
def DMA_CAUSE_EN (d : Nat) : Nat := dmaBase d + 0x1c
/-- DMA_ERRLOG_ALO: 14_dma.md R492. -/
def DMA_ERRLOG_ALO (d : Nat) : Nat := dmaBase d + 0x20
/-- DMA_ERRLOG_AHI: 14_dma.md R492. -/
def DMA_ERRLOG_AHI (d : Nat) : Nat := dmaBase d + 0x24
/-- DMA_ERRLOG_DLO: 14_dma.md R492. -/
def DMA_ERRLOG_DLO (d : Nat) : Nat := dmaBase d + 0x28
/-- DMA_ERRLOG_DHI: 14_dma.md R492. -/
def DMA_ERRLOG_DHI (d : Nat) : Nat := dmaBase d + 0x2c
/-- DMA_ERRLOG_INFO: 14_dma.md R492. -/
def DMA_ERRLOG_INFO (d : Nat) : Nat := dmaBase d + 0x30
/-- DMA_CH_CTRL: 14_dma.md R492. -/
def DMA_CH_CTRL (d i : Nat) : Nat := dmaBase d + 0x1000 + i * 0x20
/-- DMA_CH_STAT: 14_dma.md R492. -/
def DMA_CH_STAT (d i : Nat) : Nat := dmaBase d + 0x1004 + i * 0x20
/-- DMA_CH_DESC_LO: 14_dma.md R492. -/
def DMA_CH_DESC_LO (d i : Nat) : Nat := dmaBase d + 0x1008 + i * 0x20
/-- DMA_CH_DESC_HI: 14_dma.md R492. -/
def DMA_CH_DESC_HI (d i : Nat) : Nat := dmaBase d + 0x100c + i * 0x20
/-- DMA_CH_COUNT: 14_dma.md R492. -/
def DMA_CH_COUNT (d i : Nat) : Nat := dmaBase d + 0x1010 + i * 0x20

/-! ### CC -/

/-- CC_CTRL: 15_control_cores_debug.md R518. -/
def CC_CTRL (m : Nat) : Nat := ccBase m + 0x0
/-- CC_STAT: 15_control_cores_debug.md R518. -/
def CC_STAT (m : Nat) : Nat := ccBase m + 0x4
/-- CC_BOOT_LO: 15_control_cores_debug.md R518. -/
def CC_BOOT_LO (m : Nat) : Nat := ccBase m + 0x8
/-- CC_BOOT_HI: 15_control_cores_debug.md R518. -/
def CC_BOOT_HI (m : Nat) : Nat := ccBase m + 0xc
/-- CC_MTIMECMP_LO: 15_control_cores_debug.md R518. -/
def CC_MTIMECMP_LO (m : Nat) : Nat := ccBase m + 0x10
/-- CC_MTIMECMP_HI: 15_control_cores_debug.md R518. -/
def CC_MTIMECMP_HI (m : Nat) : Nat := ccBase m + 0x14
/-- CC_MSIP: 15_control_cores_debug.md R518. -/
def CC_MSIP (m : Nat) : Nat := ccBase m + 0x18
/-- CC_WDT_CTRL: 15_control_cores_debug.md R518. -/
def CC_WDT_CTRL (m : Nat) : Nat := ccBase m + 0x20
/-- CC_WDT_RELOAD: 15_control_cores_debug.md R518. -/
def CC_WDT_RELOAD (m : Nat) : Nat := ccBase m + 0x24
/-- CC_WDT_CNT: 15_control_cores_debug.md R518. -/
def CC_WDT_CNT (m : Nat) : Nat := ccBase m + 0x28
/-- CC_WDT_KICK: 15_control_cores_debug.md R518. -/
def CC_WDT_KICK (m : Nat) : Nat := ccBase m + 0x2c
/-- CC_BERR_LO: 15_control_cores_debug.md R518. -/
def CC_BERR_LO (m : Nat) : Nat := ccBase m + 0x30
/-- CC_BERR_HI: 15_control_cores_debug.md R518. -/
def CC_BERR_HI (m : Nat) : Nat := ccBase m + 0x34

/-! ### CCD -/

/-- CC_CAUSE: 15_control_cores_debug.md R518. -/
def CC_CAUSE (d : Nat) : Nat := ccdBase d + 0x0
/-- CC_CAUSE_EN: 15_control_cores_debug.md R518. -/
def CC_CAUSE_EN (d : Nat) : Nat := ccdBase d + 0x4
/-- CC_CWIN: 15_control_cores_debug.md R518. -/
def CC_CWIN (d : Nat) : Nat := ccdBase d + 0x8
/-- CC_L2OP_ADDR_LO: 15_control_cores_debug.md R518. -/
def CC_L2OP_ADDR_LO (d : Nat) : Nat := ccdBase d + 0x10
/-- CC_L2OP_ADDR_HI: 15_control_cores_debug.md R518. -/
def CC_L2OP_ADDR_HI (d : Nat) : Nat := ccdBase d + 0x14
/-- CC_L2OP_LEN: 15_control_cores_debug.md R518. -/
def CC_L2OP_LEN (d : Nat) : Nat := ccdBase d + 0x18
/-- CC_L2OP_CTRL: 15_control_cores_debug.md R518. -/
def CC_L2OP_CTRL (d : Nat) : Nat := ccdBase d + 0x1c

/-! ### DBGD -/

/-- DBG_FREEZE: 15_control_cores_debug.md R518. -/
def DBG_FREEZE (d : Nat) : Nat := dbgdBase d + 0x0

/-! ### DBG -/

/-- DBG_CTRL: 15_control_cores_debug.md R518. -/
def DBG_CTRL (m : Nat) : Nat := dbgBase m + 0x0
/-- DBG_STAT: 15_control_cores_debug.md R518. -/
def DBG_STAT (m : Nat) : Nat := dbgBase m + 0x4
/-- DBG_DPC_LO: 15_control_cores_debug.md R518. -/
def DBG_DPC_LO (m : Nat) : Nat := dbgBase m + 0x8
/-- DBG_ACMD: 15_control_cores_debug.md R518. -/
def DBG_ACMD (m : Nat) : Nat := dbgBase m + 0x10
/-- DBG_DATA0: 15_control_cores_debug.md R518. -/
def DBG_DATA0 (m : Nat) : Nat := dbgBase m + 0x14
/-- DBG_DATA1: 15_control_cores_debug.md R518. -/
def DBG_DATA1 (m : Nat) : Nat := dbgBase m + 0x18
/-- DBG_DTX: 15_control_cores_debug.md R518. -/
def DBG_DTX (m : Nat) : Nat := dbgBase m + 0x20
/-- DBG_DRX: 15_control_cores_debug.md R518. -/
def DBG_DRX (m : Nat) : Nat := dbgBase m + 0x24
/-- DBG_VTSTAT: 15_control_cores_debug.md R518. -/
def DBG_VTSTAT (m : Nat) : Nat := dbgBase m + 0x28
/-- DBG_DPC_HI: 15_control_cores_debug.md R518. -/
def DBG_DPC_HI (m : Nat) : Nat := dbgBase m + 0xc
/-- DBG_BP_ADDR_LO: 15_control_cores_debug.md R518. -/
def DBG_BP_ADDR_LO (m i : Nat) : Nat := dbgBase m + 0x40 + i * 0x10
/-- DBG_BP_ADDR_HI: 15_control_cores_debug.md R518. -/
def DBG_BP_ADDR_HI (m i : Nat) : Nat := dbgBase m + 0x44 + i * 0x10
/-- DBG_BP_CTRL: 15_control_cores_debug.md R518. -/
def DBG_BP_CTRL (m i : Nat) : Nat := dbgBase m + 0x48 + i * 0x10

/-! ### KPR -/

/-- KPR_MBOX_CMD: 16_security_lifecycle.md R548. -/
def KPR_MBOX_CMD : Nat := kprBase + 0x0
/-- KPR_MBOX_STAT: 16_security_lifecycle.md R548. -/
def KPR_MBOX_STAT : Nat := kprBase + 0x4
/-- KPR_CAUSE: 16_security_lifecycle.md R548. -/
def KPR_CAUSE : Nat := kprBase + 0x8
/-- KPR_CAUSE_EN: 16_security_lifecycle.md R548. -/
def KPR_CAUSE_EN : Nat := kprBase + 0xc
/-- KPR_STAT: 16_security_lifecycle.md R548. -/
def KPR_STAT : Nat := kprBase + 0x10
/-- KPR_RBCNT: 16_security_lifecycle.md R548. -/
def KPR_RBCNT : Nat := kprBase + 0x14
/-- KPR_POLICY: 16_security_lifecycle.md R548. -/
def KPR_POLICY : Nat := kprBase + 0x18
/-- KPR_FLOCK: 16_security_lifecycle.md R548. -/
def KPR_FLOCK : Nat := kprBase + 0x1c
/-- KPR_SERIAL_LO: 16_security_lifecycle.md R548. -/
def KPR_SERIAL_LO : Nat := kprBase + 0x20
/-- KPR_SERIAL_HI: 16_security_lifecycle.md R548. -/
def KPR_SERIAL_HI : Nat := kprBase + 0x24
/-- KPR_MBOX_DATA: 16_security_lifecycle.md R548. -/
def KPR_MBOX_DATA (i : Nat) : Nat := kprBase + 0x100 + i * 0x4

/-! ### BIST -/

/-- BIST_CTRL: 17_self_test.md R562. -/
def BIST_CTRL (d : Nat) : Nat := bistBase d + 0x0
/-- BIST_CMD: 17_self_test.md R562. -/
def BIST_CMD (d : Nat) : Nat := bistBase d + 0x4
/-- BIST_STAT: 17_self_test.md R562. -/
def BIST_STAT (d : Nat) : Nat := bistBase d + 0x8
/-- BIST_CAUSE: 17_self_test.md R562. -/
def BIST_CAUSE (d : Nat) : Nat := bistBase d + 0xc
/-- BIST_CAUSE_EN: 17_self_test.md R562. -/
def BIST_CAUSE_EN (d : Nat) : Nat := bistBase d + 0x10
/-- BIST_HOLD_LO: 17_self_test.md R562. -/
def BIST_HOLD_LO (d : Nat) : Nat := bistBase d + 0x1c
/-- BIST_HOLD_HI: 17_self_test.md R562. -/
def BIST_HOLD_HI (d : Nat) : Nat := bistBase d + 0x20
/-- BIST_SLICE_CNT: 17_self_test.md R562. -/
def BIST_SLICE_CNT (d : Nat) : Nat := bistBase d + 0x24
/-- BIST_ABORT_CNT: 17_self_test.md R562. -/
def BIST_ABORT_CNT (d : Nat) : Nat := bistBase d + 0x28
/-- BIST_CE_CNT: 17_self_test.md R562. -/
def BIST_CE_CNT (d : Nat) : Nat := bistBase d + 0x2c
/-- BIST_FAILINFO: 17_self_test.md R562. -/
def BIST_FAILINFO (d : Nat) : Nat := bistBase d + 0x30
/-- BIST_TEN_LO: 17_self_test.md R562. -/
def BIST_TEN_LO (d : Nat) : Nat := bistBase d + 0x14
/-- BIST_TEN_HI: 17_self_test.md R562. -/
def BIST_TEN_HI (d : Nat) : Nat := bistBase d + 0x18

/-! ### INT -/

/-- DIS: 18_interrupts_events.md R578. -/
def DIS (d : Nat) : Nat := intBase d + 0x0
/-- DIS_HEN: 18_interrupts_events.md R578. -/
def DIS_HEN (d : Nat) : Nat := intBase d + 0x4
/-- DIS_CEN: 18_interrupts_events.md R578. -/
def DIS_CEN (d i : Nat) : Nat := intBase d + 0x8 + i * 0x4
/-- DIS_VMAP: 18_interrupts_events.md R578. -/
def DIS_VMAP (d i : Nat) : Nat := intBase d + 0x10 + i * 0x4

/-! ### GIS -/

/-- GIS: 18_interrupts_events.md R578. -/
def GIS : Nat := gisBase + 0x0
/-- GIS_EN: 18_interrupts_events.md R578. -/
def GIS_EN : Nat := gisBase + 0x4
/-- GIS_CTRL: 18_interrupts_events.md R578. -/
def GIS_CTRL : Nat := gisBase + 0x8
/-- MSIX_EOI: 18_interrupts_events.md R578. -/
def MSIX_EOI : Nat := gisBase + 0xc

/-! ### MON -/

/-- MON_SEL: 18_interrupts_events.md R579. -/
def MON_SEL (d i : Nat) : Nat := monBase d + 0x0 + i * 0x4
/-- MON_CNT_LO: 18_interrupts_events.md R579. -/
def MON_CNT_LO (d i : Nat) : Nat := monBase d + 0x40 + i * 0x8
/-- MON_CNT_HI: 18_interrupts_events.md R579. -/
def MON_CNT_HI (d i : Nat) : Nat := monBase d + 0x44 + i * 0x8
/-- MON_SNAP_LO: 18_interrupts_events.md R579. -/
def MON_SNAP_LO (d i : Nat) : Nat := monBase d + 0xc0 + i * 0x8
/-- MON_SNAP_HI: 18_interrupts_events.md R579. -/
def MON_SNAP_HI (d i : Nat) : Nat := monBase d + 0xc4 + i * 0x8
/-- MON_CMD: 18_interrupts_events.md R579. -/
def MON_CMD (d : Nat) : Nat := monBase d + 0x140
/-- MON_OVF: 18_interrupts_events.md R579. -/
def MON_OVF (d : Nat) : Nat := monBase d + 0x144
/-- MON_CAUSE: 18_interrupts_events.md R579. -/
def MON_CAUSE (d : Nat) : Nat := monBase d + 0x148
/-- MON_CAUSE_EN: 18_interrupts_events.md R579. -/
def MON_CAUSE_EN (d : Nat) : Nat := monBase d + 0x14c
/-- MON_SNAP_PT_LO: 18_interrupts_events.md R579. -/
def MON_SNAP_PT_LO (d : Nat) : Nat := monBase d + 0x150
/-- MON_SNAP_PT_HI: 18_interrupts_events.md R579. -/
def MON_SNAP_PT_HI (d : Nat) : Nat := monBase d + 0x154

/-! ### PKG -/

/-- PKG_PWR: 19_reset_clocks_power_pins.md R615. -/
def PKG_PWR : Nat := pkgBase + 0x0
/-- PKG_EVT: 19_reset_clocks_power_pins.md R615. -/
def PKG_EVT : Nat := pkgBase + 0x4
/-- PKG_WAKE_PT_LO: 19_reset_clocks_power_pins.md R615. -/
def PKG_WAKE_PT_LO : Nat := pkgBase + 0x8
/-- PKG_WAKE_PT_HI: 19_reset_clocks_power_pins.md R615. -/
def PKG_WAKE_PT_HI : Nat := pkgBase + 0xc
/-- PKG_RST: 19_reset_clocks_power_pins.md R615. -/
def PKG_RST : Nat := pkgBase + 0x10
/-- PKG_RSTCAUSE: 19_reset_clocks_power_pins.md R615. -/
def PKG_RSTCAUSE : Nat := pkgBase + 0x14
/-- PKG_REF: 19_reset_clocks_power_pins.md R615. -/
def PKG_REF : Nat := pkgBase + 0x18
/-- PKG_EVT_EN: 19_reset_clocks_power_pins.md R615. -/
def PKG_EVT_EN : Nat := pkgBase + 0x1c

/-! ### DCR -/

/-- DCR_ID: 19_reset_clocks_power_pins.md R616. -/
def DCR_ID (d : Nat) : Nat := dcrBase d + 0x0
/-- DCR_CLKSTAT: 19_reset_clocks_power_pins.md R616. -/
def DCR_CLKSTAT (d : Nat) : Nat := dcrBase d + 0x4
/-- DCR_TEMP: 19_reset_clocks_power_pins.md R616. -/
def DCR_TEMP (d : Nat) : Nat := dcrBase d + 0x8
/-- DCR_TWARN: 19_reset_clocks_power_pins.md R616. -/
def DCR_TWARN (d : Nat) : Nat := dcrBase d + 0xc
/-- DCR_EVT: 19_reset_clocks_power_pins.md R616. -/
def DCR_EVT (d : Nat) : Nat := dcrBase d + 0x10

/-! ### PCIE -/

/-- PCIE_G6WIN: 20_register_map.md R627. -/
def PCIE_G6WIN : Nat := pcieBase + 0x0
end R
end Sys2Proof.Machine
end

