-- ==== Sys2Proof/Machine/Fields.lean ====
section
/-! DEFINITION. Machine/Fields.lean: the bit fields of every register, as the register tables of the spec give them (file and rule of each register: Machine/RegAddr.lean). -/
namespace Sys2Proof.Machine

namespace F

/-! ### VSQ -/

def VSQ_CTRL_START : Fld := ⟨0, 1⟩
def VSQ_CTRL_ABORT : Fld := ⟨1, 1⟩
def VSQ_CTRL_RESUME : Fld := ⟨2, 1⟩
def VSQ_CTRL_SMODE : Fld := ⟨4, 2⟩
def VSQ_STAT_STATE : Fld := ⟨0, 3⟩
def VSQ_STAT_MFAIL : Fld := ⟨3, 1⟩
def VSQ_STAT_STREAM : Fld := ⟨4, 1⟩
def VSQ_STAT_ESCCNT : Fld := ⟨8, 4⟩
def VSQ_STAT_DEPTH : Fld := ⟨12, 5⟩
def VSQ_FAULT_CODE : Fld := ⟨0, 8⟩
def VSQ_FAULT_INSTREAM : Fld := ⟨8, 1⟩
def VSQ_FAULT_ADDR : Fld := ⟨16, 16⟩
def VSQ_ENTRY_ADDR : Fld := ⟨0, 16⟩
def VSQ_START_PT_LO_PT : Fld := ⟨0, 32⟩
def VSQ_START_PT_HI_PT : Fld := ⟨0, 32⟩
def VSQ_GANG_GID : Fld := ⟨0, 4⟩
def VSQ_GANG_EN : Fld := ⟨4, 1⟩
def VSQ_GANG_COMB : Fld := ⟨5, 1⟩
def VSQ_GANG_SPAN : Fld := ⟨6, 2⟩
def VSQ_CMASK_PINS : Fld := ⟨0, 32⟩
def VSQ_LR_COUNT : Fld := ⟨0, 32⟩
def VSQ_LC_COUNT : Fld := ⟨0, 32⟩
def VSQ_G_VALUE : Fld := ⟨0, 32⟩
def VSQ_VCNT_LO_VCNT : Fld := ⟨0, 32⟩
def VSQ_VCNT_HI_VCNT : Fld := ⟨0, 16⟩
def VSQ_VCNT_HI_EPOCH : Fld := ⟨16, 8⟩
def VSQ_MCNT_K : Fld := ⟨0, 24⟩
def VSQ_PCODE_CODE : Fld := ⟨0, 24⟩
def VSQ_TCODE_CODE : Fld := ⟨0, 24⟩
def VSQ_UFLAG_FLAG : Fld := ⟨0, 8⟩
def VSQ_ESC_CTRL_EN : Fld := ⟨0, 1⟩
def VSQ_ESC_PER_NS : Fld := ⟨0, 32⟩
def VSQ_ESC_ADDR_ADDR : Fld := ⟨0, 16⟩
def VSQ_SBASE_LO_ADDR : Fld := ⟨5, 27⟩
def VSQ_SBASE_HI_ADDR : Fld := ⟨0, 8⟩
def VSQ_SCTRL_ARM : Fld := ⟨0, 1⟩
def VSQ_SCTRL_DISARM : Fld := ⟨1, 1⟩
def VSQ_SSTAT_AHEAD : Fld := ⟨0, 14⟩
def VSQ_SSTAT_READY : Fld := ⟨14, 1⟩
def VSQ_CAUSE_DONE : Fld := ⟨0, 1⟩
def VSQ_CAUSE_PAUSED : Fld := ⟨1, 1⟩
def VSQ_CAUSE_FAULT : Fld := ⟨2, 1⟩
def VSQ_CAUSE_TRIG : Fld := ⟨3, 1⟩
def VSQ_CAUSE_MFAIL : Fld := ⟨4, 1⟩
def VSQ_CAUSE_ESCOVF : Fld := ⟨5, 1⟩
def VSQ_CAUSE_CMDERR : Fld := ⟨6, 1⟩
def VSQ_CAUSE_EN_EN : Fld := ⟨0, 7⟩
def APG_CTRL_SCR : Fld := ⟨0, 1⟩
def APG_CTRL_ESAVE : Fld := ⟨1, 1⟩
def APG_CTRL_EDLY : Fld := ⟨8, 6⟩
def APG_STAT_XRANGE : Fld := ⟨0, 1⟩
def APG_STAT_YRANGE : Fld := ⟨1, 1⟩
def APG_XC_VALUE : Fld := ⟨0, 32⟩
def APG_XB_VALUE : Fld := ⟨0, 32⟩
def APG_XMIN_VALUE : Fld := ⟨0, 32⟩
def APG_XMAX_VALUE : Fld := ⟨0, 32⟩
def APG_XI_VALUE : Fld := ⟨0, 32⟩
def APG_YC_VALUE : Fld := ⟨0, 32⟩
def APG_YB_VALUE : Fld := ⟨0, 32⟩
def APG_YMIN_VALUE : Fld := ⟨0, 32⟩
def APG_YMAX_VALUE : Fld := ⟨0, 32⟩
def APG_YI_VALUE : Fld := ⟨0, 32⟩
def APG_BG_LO_VALUE : Fld := ⟨0, 32⟩
def APG_BG_HI_VALUE : Fld := ⟨0, 32⟩
def APG_BGA_LO_VALUE : Fld := ⟨0, 32⟩
def APG_BGA_HI_VALUE : Fld := ⟨0, 32⟩
def APG_BW_LO_VALUE : Fld := ⟨0, 32⟩
def APG_BW_HI_VALUE : Fld := ⟨0, 32⟩
def APG_BTAB_T0 : Fld := ⟨0, 5⟩
def APG_BTAB_T1 : Fld := ⟨8, 5⟩
def APG_BTAB_T2 : Fld := ⟨16, 5⟩
def APG_BTAB_T3 : Fld := ⟨24, 5⟩
def APG_SCR1_SEL0 : Fld := ⟨0, 7⟩
def APG_SCR1_SEL1 : Fld := ⟨8, 7⟩
def APG_SCR1_SEL2 : Fld := ⟨16, 7⟩
def APG_SCR1_SEL3 : Fld := ⟨24, 7⟩
def APG_SCR2_T0 : Fld := ⟨0, 7⟩
def APG_SCR2_T1 : Fld := ⟨8, 7⟩
def APG_SCR2_T2 : Fld := ⟨16, 7⟩
def APG_SCR2_T3 : Fld := ⟨24, 7⟩
def APG_SCR2_AND : Fld := ⟨31, 1⟩
def APG_DTF_SEL0_S0 : Fld := ⟨0, 7⟩
def APG_DTF_SEL0_S1 : Fld := ⟨8, 7⟩
def APG_DTF_SEL0_S2 : Fld := ⟨16, 7⟩
def APG_DTF_SEL0_S3 : Fld := ⟨24, 7⟩
def APG_DTF_SEL0_LOG : Fld := ⟨31, 1⟩
def APG_DTF_SEL1_S0 : Fld := ⟨0, 7⟩
def APG_DTF_SEL1_S1 : Fld := ⟨8, 7⟩
def APG_DTF_SEL1_S2 : Fld := ⟨16, 7⟩
def APG_DTF_SEL1_S3 : Fld := ⟨24, 7⟩
def APG_DTF_TT_ENTRY : Fld := ⟨0, 32⟩
def CH_GCTRL_REL : Fld := ⟨0, 1⟩
def CH_GCTRL_FDEN : Fld := ⟨1, 1⟩
def CH_GCTRL_TXSWING : Fld := ⟨4, 3⟩
def CH_GSTAT_CALBUSY : Fld := ⟨0, 1⟩
def CH_GSTAT_TRIMOK : Fld := ⟨1, 1⟩
def CH_GSTAT_TDRIFT : Fld := ⟨2, 1⟩
def CH_GSTAT_FDLEVEL : Fld := ⟨8, 7⟩
def CH_CAL_TRIM : Fld := ⟨0, 1⟩
def CH_CALTEMP_TEMP : Fld := ⟨0, 11⟩
def CH_CAUSE_TSPACE : Fld := ⟨0, 1⟩
def CH_CAUSE_WRSV : Fld := ⟨1, 1⟩
def CH_CAUSE_CMBOTH : Fld := ⟨2, 1⟩
def CH_CAUSE_FUNDER : Fld := ⟨3, 1⟩
def CH_CAUSE_STLOST : Fld := ⟨4, 1⟩
def CH_CAUSE_CALDONE : Fld := ⟨5, 1⟩
def CH_CAUSE_TDRIFT : Fld := ⟨6, 1⟩
def CH_CAUSE_FOVER : Fld := ⟨7, 1⟩
def CH_CAUSE_EN_EN : Fld := ⟨0, 8⟩
def CH_FUNDER_CNT_COUNT : Fld := ⟨0, 32⟩
def CH_STLOST_CNT_COUNT : Fld := ⟨0, 32⟩
def CH_STCTRL_FLUSH : Fld := ⟨0, 1⟩
def CH_STCTRL_THR : Fld := ⟨16, 13⟩
def CH_STSTAT_COUNT : Fld := ⟨0, 13⟩
def CH_STAMP_LO_RECORD : Fld := ⟨0, 32⟩
def CH_STAMP_HI_RECORD : Fld := ⟨0, 32⟩
def CH_TS_PERIOD_P : Fld := ⟨0, 32⟩
def CH_TS_CTRL_VALID : Fld := ⟨0, 1⟩
def CH_PIN_CFG_SRC : Fld := ⟨0, 1⟩
def CH_PIN_CFG_MODE : Fld := ⟨1, 1⟩
def CH_PIN_CFG_DSEL : Fld := ⟨8, 6⟩
def CH_PIN_CFG_ETL : Fld := ⟨16, 2⟩
def CH_PIN_CFG_ETE : Fld := ⟨18, 2⟩
def CH_PIN_WMAP_E0 : Fld := ⟨0, 8⟩
def CH_PIN_WMAP_E1 : Fld := ⟨8, 8⟩
def CH_PIN_WMAP_E2 : Fld := ⟨16, 8⟩
def CH_PIN_WMAP_E3 : Fld := ⟨24, 8⟩
def CH_PIN_DSKTX_DRV : Fld := ⟨0, 16⟩
def CH_PIN_DSKTX_ENA : Fld := ⟨16, 16⟩
def CH_PIN_DSKRX_CMH : Fld := ⟨0, 16⟩
def CH_PIN_DSKRX_CML : Fld := ⟨16, 16⟩
def CH_WAV_CFG_SCODE : Fld := ⟨0, 3⟩
def CH_WAV_DOFS_OFS : Fld := ⟨0, 32⟩
def CH_WAV_SOFS_OFS : Fld := ⟨0, 32⟩
def CH_WAV_SLOT_DRV0 : Fld := ⟨0, 3⟩
def CH_WAV_SLOT_STB0 : Fld := ⟨3, 3⟩
def CH_WAV_SLOT_BEAT0 : Fld := ⟨6, 5⟩
def CH_WAV_SLOT_DRV1 : Fld := ⟨16, 3⟩
def CH_WAV_SLOT_STB1 : Fld := ⟨19, 3⟩
def CH_WAV_SLOT_BEAT1 : Fld := ⟨22, 5⟩

/-! ### FCU -/

def FCU_CTRL_LEN : Fld := ⟨0, 1⟩
def FCU_CTRL_CEN : Fld := ⟨1, 1⟩
def FCU_CTRL_BEN : Fld := ⟨2, 1⟩
def FCU_CTRL_REN : Fld := ⟨3, 1⟩
def FCU_CTRL_CMODE : Fld := ⟨4, 1⟩
def FCU_CTRL_ASRC : Fld := ⟨5, 1⟩
def FCU_CTRL_LPHYS : Fld := ⟨6, 1⟩
def FCU_CTRL_CLRSTART : Fld := ⟨7, 1⟩
def FCU_CTRL_BPLANE : Fld := ⟨8, 2⟩
def FCU_CTRL_CLANE : Fld := ⟨10, 1⟩
def FCU_CMD_CLRCNT : Fld := ⟨0, 1⟩
def FCU_CMD_LRESET : Fld := ⟨1, 1⟩
def FCU_CMD_CRESET : Fld := ⟨2, 1⟩
def FCU_STAT_SIGVALID : Fld := ⟨0, 1⟩
def FCU_STAT_SIGOK0 : Fld := ⟨1, 1⟩
def FCU_STAT_SIGOK1 : Fld := ⟨2, 1⟩
def FCU_STAT_LINC : Fld := ⟨3, 1⟩
def FCU_STAT_CINC : Fld := ⟨4, 1⟩
def FCU_STAT_BINC : Fld := ⟨5, 1⟩
def FCU_STAT_RINC : Fld := ⟨6, 1⟩
def FCU_STAT_LLIM : Fld := ⟨7, 1⟩
def FCU_STAT_LFULL : Fld := ⟨8, 1⟩
def FCU_CAUSE_LOVR : Fld := ⟨0, 1⟩
def FCU_CAUSE_COVR : Fld := ⟨1, 1⟩
def FCU_CAUSE_BOVR : Fld := ⟨2, 1⟩
def FCU_CAUSE_ROVR : Fld := ⟨3, 1⟩
def FCU_CAUSE_WERR : Fld := ⟨4, 1⟩
def FCU_CAUSE_CSAT : Fld := ⟨5, 1⟩
def FCU_CAUSE_CINV : Fld := ⟨6, 1⟩
def FCU_CAUSE_SMASK : Fld := ⟨7, 1⟩
def FCU_CAUSE_SIGDONE : Fld := ⟨8, 1⟩
def FCU_CAUSE_LFULL : Fld := ⟨9, 1⟩
def FCU_CAUSE_EN_EN : Fld := ⟨0, 10⟩
def FCU_DPINS_PINS : Fld := ⟨0, 32⟩
def FCU_LLIMIT_N : Fld := ⟨0, 32⟩
def FCU_LBASE_LO_ADDR : Fld := ⟨5, 27⟩
def FCU_LBASE_HI_ADDR : Fld := ⟨0, 8⟩
def FCU_LSIZE_SIZE : Fld := ⟨0, 5⟩
def FCU_CBASE_LO_ADDR : Fld := ⟨5, 27⟩
def FCU_CBASE_HI_ADDR : Fld := ⟨0, 8⟩
def FCU_CSIZE_SIZE : Fld := ⟨0, 5⟩
def FCU_LWPTR_PTR : Fld := ⟨0, 32⟩
def FCU_LRPTR_PTR : Fld := ⟨0, 32⟩
def FCU_CWPTR_PTR : Fld := ⟨0, 32⟩
def FCU_CRPTR_PTR : Fld := ⟨0, 32⟩
def FCU_LLOST_COUNT : Fld := ⟨0, 32⟩
def FCU_CLOST_COUNT : Fld := ⟨0, 32⟩
def FCU_BLOST_COUNT : Fld := ⟨0, 32⟩
def FCU_RLOST_COUNT : Fld := ⟨0, 32⟩
def FCU_MISR_LO_VALUE : Fld := ⟨0, 32⟩
def FCU_MISR_HI_VALUE : Fld := ⟨0, 32⟩
def FCU_MEXP_LO_VALUE : Fld := ⟨0, 32⟩
def FCU_MEXP_HI_VALUE : Fld := ⟨0, 32⟩
def FCU_PINSITE_SITE : Fld := ⟨0, 8⟩
def FCU_PINSITE_SHARED : Fld := ⟨8, 1⟩
def FCU_CNT_VAL_COUNT : Fld := ⟨0, 32⟩
def FCU_CNT_FLG_SAT : Fld := ⟨0, 1⟩
def FCU_CNT_FLG_INVALID : Fld := ⟨1, 1⟩
def FCU_CNT_FLG_ABSENT : Fld := ⟨2, 1⟩

/-! ### FCD -/

def FCD_CMD_CLRSMASK : Fld := ⟨0, 1⟩
def FCD_CMD_CLRSITE : Fld := ⟨1, 1⟩
def FCD_CMD_BMFLUSH : Fld := ⟨2, 1⟩
def FCD_CMD_BMCLR : Fld := ⟨4, 4⟩
def FCD_STAT_BMBUSY : Fld := ⟨0, 1⟩
def FCD_STAT_CMDERR : Fld := ⟨1, 1⟩
def FCD_SMASK_MASK : Fld := ⟨0, 32⟩
def FCD_SMOFF_EN : Fld := ⟨0, 32⟩
def FCD_DIE_VAL_COUNT : Fld := ⟨0, 32⟩
def FCD_DIE_FLG_SAT : Fld := ⟨0, 1⟩
def FCD_DIE_FLG_INVALID : Fld := ⟨1, 1⟩
def FCD_DIE_FLG_ABSENT : Fld := ⟨2, 1⟩
def FCD_DEV_VAL_COUNT : Fld := ⟨0, 32⟩
def FCD_DEV_FLG_SAT : Fld := ⟨0, 1⟩
def FCD_DEV_FLG_INVALID : Fld := ⟨1, 1⟩
def FCD_DEV_FLG_ABSENT : Fld := ⟨2, 1⟩
def FCD_BM_BASE_LO_ADDR : Fld := ⟨6, 26⟩
def FCD_BM_BASE_HI_ADDR : Fld := ⟨0, 8⟩
def FCD_BM_GEOM_XW : Fld := ⟨0, 6⟩
def FCD_BM_GEOM_YW : Fld := ⟨8, 6⟩
def FCD_BM_GEOM_IW : Fld := ⟨16, 3⟩
def FCD_BM_STAT_INCOMPLETE : Fld := ⟨0, 1⟩
def FCD_BM_STAT_GEOMERR : Fld := ⟨1, 1⟩
def FCD_BM_LOST_COUNT : Fld := ⟨0, 32⟩
def FCD_BM_ERR_COUNT : Fld := ⟨0, 32⟩
def FCD_SITE_VAL_COUNT : Fld := ⟨0, 32⟩
def FCD_SITE_FLG_SAT : Fld := ⟨0, 1⟩
def FCD_SITE_FLG_INVALID : Fld := ⟨1, 1⟩
def FCD_SITE_FLG_ABSENT : Fld := ⟨2, 1⟩
def FCD_SITE_TOTVAL_COUNT : Fld := ⟨0, 32⟩
def FCD_SITE_TOTFLG_SAT : Fld := ⟨0, 1⟩
def FCD_SITE_TOTFLG_INVALID : Fld := ⟨1, 1⟩
def FCD_SITE_TOTFLG_ABSENT : Fld := ⟨2, 1⟩

/-! ### RAE -/

def RAE_CTRL_EN : Fld := ⟨0, 1⟩
def RAE_CTRL_TLIM : Fld := ⟨16, 10⟩
def RAE_CMD_SITE : Fld := ⟨0, 8⟩
def RAE_CMD_OP : Fld := ⟨12, 4⟩
def RAE_STAT_BUSY : Fld := ⟨0, 1⟩
def RAE_STAT_CUTWAIT : Fld := ⟨1, 1⟩
def RAE_STAT_CQ : Fld := ⟨2, 3⟩
def RAE_STAT_LOSS : Fld := ⟨5, 1⟩
def RAE_STAT_RFULL : Fld := ⟨6, 1⟩
def RAE_CAUSE_SOLVED : Fld := ⟨0, 1⟩
def RAE_CAUSE_UNREP : Fld := ⟨1, 1⟩
def RAE_CAUSE_LOSS : Fld := ⟨2, 1⟩
def RAE_CAUSE_LATE : Fld := ⟨3, 1⟩
def RAE_CAUSE_BADMAP : Fld := ⟨4, 1⟩
def RAE_CAUSE_MEMERR : Fld := ⟨5, 1⟩
def RAE_CAUSE_CMDERR : Fld := ⟨6, 1⟩
def RAE_CAUSE_RFULL : Fld := ⟨7, 1⟩
def RAE_CAUSE_RWERR : Fld := ⟨8, 1⟩
def RAE_CAUSE_EN_EN : Fld := ⟨0, 9⟩
def RAE_SEQ_SEQ : Fld := ⟨0, 32⟩
def RAE_LOSS_CNT_COUNT : Fld := ⟨0, 32⟩
def RAE_BADMAP_CNT_COUNT : Fld := ⟨0, 32⟩
def RAE_LATE_CNT_COUNT : Fld := ⟨0, 32⟩
def RAE_MISS_CNT_COUNT : Fld := ⟨0, 32⟩
def RAE_CMDLOST_CNT_COUNT : Fld := ⟨0, 32⟩
def RAE_SPBASE_LO_ADDR : Fld := ⟨16, 16⟩
def RAE_SPBASE_HI_ADDR : Fld := ⟨0, 8⟩
def RAE_RBASE_LO_ADDR : Fld := ⟨7, 25⟩
def RAE_RBASE_HI_ADDR : Fld := ⟨0, 8⟩
def RAE_RSIZE_SIZE : Fld := ⟨0, 5⟩
def RAE_RWPTR_PTR : Fld := ⟨0, 32⟩
def RAE_RRPTR_PTR : Fld := ⟨0, 32⟩
def RAE_TMPL_GEOM_RW : Fld := ⟨0, 5⟩
def RAE_TMPL_GEOM_XSH : Fld := ⟨8, 5⟩
def RAE_TMPL_GEOM_CYW : Fld := ⟨16, 4⟩
def RAE_TMPL_GEOM_YSH : Fld := ⟨24, 5⟩
def RAE_TMPL_DOM_IW : Fld := ⟨0, 3⟩
def RAE_TMPL_DOM_XDW : Fld := ⟨4, 4⟩
def RAE_TMPL_DOM_YDW : Fld := ⟨8, 4⟩
def RAE_TMPL_DOM_IDW : Fld := ⟨12, 3⟩
def RAE_TMPL_SPARE_SR : Fld := ⟨0, 5⟩
def RAE_TMPL_SPARE_SC : Fld := ⟨8, 5⟩
def RAE_SITE_DBASE : Fld := ⟨0, 16⟩
def RAE_SITE_TMPL : Fld := ⟨16, 4⟩
def RAE_SITE_EN : Fld := ⟨31, 1⟩

/-! ### MDSP -/

def MDSP_CTRL_START : Fld := ⟨0, 1⟩
def MDSP_CTRL_STOP : Fld := ⟨1, 1⟩
def MDSP_STAT_STATE : Fld := ⟨0, 2⟩
def MDSP_STAT_DEPTH : Fld := ⟨2, 4⟩
def MDSP_STAT_RDEPTH : Fld := ⟨6, 2⟩
def MDSP_STAT_CACHED : Fld := ⟨8, 1⟩
def MDSP_ENTRY_ADDR : Fld := ⟨0, 15⟩
def MDSP_PC_ADDR : Fld := ⟨0, 15⟩
def MDSP_FAULT_CODE : Fld := ⟨0, 4⟩
def MDSP_FAULT_ADDR : Fld := ⟨16, 15⟩
def MDSP_CAUSE_HALT : Fld := ⟨0, 1⟩
def MDSP_CAUSE_FAULT : Fld := ⟨1, 1⟩
def MDSP_CAUSE_SIG : Fld := ⟨2, 1⟩
def MDSP_CAUSE_EVOVF : Fld := ⟨3, 1⟩
def MDSP_CAUSE_ECCCOR : Fld := ⟨4, 1⟩
def MDSP_CAUSE_CMDERR : Fld := ⟨5, 1⟩
def MDSP_CAUSE_EN_EN : Fld := ⟨0, 6⟩
def MDSP_SCODE_CODE : Fld := ⟨0, 16⟩
def MDSP_CYC_COUNT : Fld := ⟨0, 32⟩
def MDSP_EVSET_EVENT : Fld := ⟨0, 8⟩
def MDSP_EVPEND_PEND : Fld := ⟨0, 32⟩
def MDSP_REG_VALUE : Fld := ⟨0, 16⟩

/-! ### PT -/

def PT_LO_PT : Fld := ⟨0, 32⟩
def PT_HI_PT : Fld := ⟨0, 32⟩
def PT_FRAC_FRAC : Fld := ⟨0, 13⟩
def PT_STAT_ALIGNED : Fld := ⟨0, 1⟩
def PT_STAT_HOLD : Fld := ⟨1, 1⟩

/-! ### TSY -/

def TSY_CTRL_DEVID : Fld := ⟨0, 6⟩
def TSY_CTRL_REFSRC : Fld := ⟨6, 1⟩
def TSY_CTRL_STBY : Fld := ⟨7, 1⟩
def TSY_CTRL_UPPRI : Fld := ⟨8, 4⟩
def TSY_CTRL_UPSEC : Fld := ⟨12, 4⟩
def TSY_CTRL_SECEN : Fld := ⟨16, 1⟩
def TSY_STAT_ROLE : Fld := ⟨0, 2⟩
def TSY_STAT_TREE : Fld := ⟨2, 2⟩
def TSY_STAT_DEPTH : Fld := ⟨4, 2⟩
def TSY_STAT_UPACT : Fld := ⟨6, 4⟩
def TSY_STAT_MGR : Fld := ⟨10, 1⟩
def TSY_CAUSE_LINKDN : Fld := ⟨0, 1⟩
def TSY_CAUSE_FAILOVER : Fld := ⟨1, 1⟩
def TSY_CAUSE_TOPO : Fld := ⟨2, 1⟩
def TSY_CAUSE_DUPID : Fld := ⟨3, 1⟩
def TSY_CAUSE_GLOST : Fld := ⟨4, 1⟩
def TSY_CAUSE_BLATE : Fld := ⟨5, 1⟩
def TSY_CAUSE_HDRIFT : Fld := ⟨6, 1⟩
def TSY_CAUSE_TAKEOVER : Fld := ⟨7, 1⟩
def TSY_CAUSE_SLOTERR : Fld := ⟨8, 1⟩
def TSY_CAUSE_CMDERR : Fld := ⟨9, 1⟩
def TSY_CAUSE_EN_EN : Fld := ⟨0, 10⟩
def TSY_PTOFS_OFS : Fld := ⟨0, 32⟩
def TSY_BCAST_PT_LO_PT : Fld := ⟨0, 32⟩
def TSY_BCAST_PT_HI_PT : Fld := ⟨0, 32⟩
def TSY_BCAST_CTRL_CLASS : Fld := ⟨0, 4⟩
def TSY_BCAST_CTRL_GO : Fld := ⟨31, 1⟩
def TSY_PORT_CTRL_EN : Fld := ⟨0, 1⟩
def TSY_PORT_STAT_STATE : Fld := ⟨0, 2⟩
def TSY_PORT_STAT_UP : Fld := ⟨2, 1⟩
def TSY_PORT_HOP_H : Fld := ⟨0, 32⟩
def TSY_PORT_FEC_COUNT : Fld := ⟨0, 32⟩
def TSY_GCLASS_CLASS : Fld := ⟨0, 4⟩
def TSY_GCLASS_EN : Fld := ⟨4, 1⟩
def TSY_GANG_CFG_LG : Fld := ⟨0, 10⟩
def TSY_GANG_CFG_COMB : Fld := ⟨10, 1⟩
def TSY_GANG_CFG_EN : Fld := ⟨11, 1⟩
def TSY_GANG_MLO_MASK : Fld := ⟨0, 32⟩
def TSY_GANG_MHI_MASK : Fld := ⟨0, 32⟩

/-! ### LED -/

def LED_CTRL_EN : Fld := ⟨0, 1⟩
def LED_CTRL_TKEN : Fld := ⟨1, 1⟩
def LED_CTRL_SIZE : Fld := ⟨8, 5⟩
def LED_COMMIT_COUNT : Fld := ⟨0, 9⟩
def LED_STAT_STATE : Fld := ⟨0, 2⟩
def LED_STAT_TAKEN : Fld := ⟨2, 1⟩
def LED_CAUSE_PAIRED : Fld := ⟨0, 1⟩
def LED_CAUSE_MATELOST : Fld := ⟨1, 1⟩
def LED_CAUSE_TAKEN : Fld := ⟨2, 1⟩
def LED_CAUSE_FULL : Fld := ⟨3, 1⟩
def LED_CAUSE_MERR : Fld := ⟨4, 1⟩
def LED_CAUSE_CFG : Fld := ⟨5, 1⟩
def LED_CAUSE_CMDERR : Fld := ⟨6, 1⟩
def LED_CAUSE_EN_EN : Fld := ⟨0, 7⟩
def LED_EPOCH_EPOCH : Fld := ⟨0, 32⟩
def LED_BASE_LO_ADDR : Fld := ⟨7, 25⟩
def LED_BASE_HI_ADDR : Fld := ⟨0, 8⟩
def LED_MBASE_LO_ADDR : Fld := ⟨7, 25⟩
def LED_MBASE_HI_ADDR : Fld := ⟨0, 8⟩
def LED_NEXTSEQ_LO_SEQ : Fld := ⟨0, 32⟩
def LED_NEXTSEQ_HI_SEQ : Fld := ⟨0, 32⟩
def LED_MSEQ_LO_SEQ : Fld := ⟨0, 32⟩
def LED_MSEQ_HI_SEQ : Fld := ⟨0, 32⟩
def LED_RSEQ_LO_SEQ : Fld := ⟨0, 32⟩
def LED_RSEQ_HI_SEQ : Fld := ⟨0, 32⟩
def LED_TSEQ_LO_SEQ : Fld := ⟨0, 32⟩
def LED_TSEQ_HI_SEQ : Fld := ⟨0, 32⟩

/-! ### FAB -/

def FAB_STAT_GSR : Fld := ⟨0, 1⟩
def FAB_STAT_WREN : Fld := ⟨1, 1⟩
def FAB_STAT_BANKOK : Fld := ⟨2, 4⟩
def FAB_STAT_IRQ : Fld := ⟨16, 16⟩
def FAB_CAUSE_IRQ : Fld := ⟨0, 16⟩
def FAB_CAUSE_TMERGE : Fld := ⟨16, 1⟩
def FAB_CAUSE_BANKV : Fld := ⟨17, 1⟩
def FAB_CAUSE_LATE : Fld := ⟨18, 1⟩
def FAB_CAUSE_PROTO : Fld := ⟨19, 1⟩
def FAB_CAUSE_FCSLOCK : Fld := ⟨20, 1⟩
def FAB_CAUSE_EN_EN : Fld := ⟨0, 21⟩
def FAB_FCS_CTRL_EN : Fld := ⟨0, 1⟩
def FAB_FCS_CTRL_DIV : Fld := ⟨8, 8⟩
def FAB_FCS_STAT_LOCKED : Fld := ⟨0, 1⟩
def FAB_PORT_STAT_INIT : Fld := ⟨0, 1⟩
def FAB_PORT_STAT_TGT : Fld := ⟨1, 1⟩
def FAB_PORT_STAT_ABSENT : Fld := ⟨2, 1⟩
def FAB_PORT_STAT_OUTST : Fld := ⟨8, 7⟩

/-! ### SEAM -/

def SEAM_CTRL_RETRAIN : Fld := ⟨0, 1⟩
def SEAM_CTRL_FENCE : Fld := ⟨1, 1⟩
def SEAM_CTRL_ETHR : Fld := ⟨8, 5⟩
def SEAM_STAT_STATE : Fld := ⟨0, 2⟩
def SEAM_STAT_ATTEMPT : Fld := ⟨2, 2⟩
def SEAM_STAT_FALLBK : Fld := ⟨4, 1⟩
def SEAM_STAT_FABREL : Fld := ⟨5, 1⟩
def SEAM_STAT_SPTX : Fld := ⟨8, 6⟩
def SEAM_STAT_SPRX : Fld := ⟨14, 6⟩
def SEAM_ROLE_PROM : Fld := ⟨0, 6⟩
def SEAM_ROLE_FAB : Fld := ⟨8, 6⟩
def SEAM_ROLE_SYNC : Fld := ⟨16, 6⟩
def SEAM_ROLE_SPARE : Fld := ⟨24, 6⟩
def SEAM_CAUSE_UP : Fld := ⟨0, 1⟩
def SEAM_CAUSE_FENCED : Fld := ⟨1, 1⟩
def SEAM_CAUSE_SPARED : Fld := ⟨2, 1⟩
def SEAM_CAUSE_DEGR : Fld := ⟨3, 1⟩
def SEAM_CAUSE_ROLEMIS : Fld := ⟨4, 1⟩
def SEAM_CAUSE_FABERR : Fld := ⟨5, 1⟩
def SEAM_CAUSE_EN_EN : Fld := ⟨0, 6⟩
def SEAM_RETRY_CNT_COUNT : Fld := ⟨0, 32⟩
def SEAM_FABERR_CNT_COUNT : Fld := ⟨0, 32⟩
def SEAM_LMAP_TX_ROLE0 : Fld := ⟨0, 3⟩
def SEAM_LMAP_TX_IDX0 : Fld := ⟨3, 5⟩
def SEAM_LMAP_TX_ROLE1 : Fld := ⟨8, 3⟩
def SEAM_LMAP_TX_IDX1 : Fld := ⟨11, 5⟩
def SEAM_LMAP_TX_ROLE2 : Fld := ⟨16, 3⟩
def SEAM_LMAP_TX_IDX2 : Fld := ⟨19, 5⟩
def SEAM_LMAP_TX_ROLE3 : Fld := ⟨24, 3⟩
def SEAM_LMAP_TX_IDX3 : Fld := ⟨27, 5⟩
def SEAM_LMAP_RX_ROLE0 : Fld := ⟨0, 3⟩
def SEAM_LMAP_RX_IDX0 : Fld := ⟨3, 5⟩
def SEAM_LMAP_RX_ROLE1 : Fld := ⟨8, 3⟩
def SEAM_LMAP_RX_IDX1 : Fld := ⟨11, 5⟩
def SEAM_LMAP_RX_ROLE2 : Fld := ⟨16, 3⟩
def SEAM_LMAP_RX_IDX2 : Fld := ⟨19, 5⟩
def SEAM_LMAP_RX_ROLE3 : Fld := ⟨24, 3⟩
def SEAM_LMAP_RX_IDX3 : Fld := ⟨27, 5⟩
def SEAM_FVAL_FV0 : Fld := ⟨0, 2⟩
def SEAM_FVAL_FV1 : Fld := ⟨2, 2⟩
def SEAM_FVAL_FV2 : Fld := ⟨4, 2⟩
def SEAM_FVAL_FV3 : Fld := ⟨6, 2⟩
def SEAM_FVAL_FV4 : Fld := ⟨8, 2⟩
def SEAM_FVAL_FV5 : Fld := ⟨10, 2⟩
def SEAM_FVAL_FV6 : Fld := ⟨12, 2⟩
def SEAM_FVAL_FV7 : Fld := ⟨14, 2⟩
def SEAM_FVAL_FV8 : Fld := ⟨16, 2⟩
def SEAM_FVAL_FV9 : Fld := ⟨18, 2⟩
def SEAM_FVAL_FV10 : Fld := ⟨20, 2⟩
def SEAM_FVAL_FV11 : Fld := ⟨22, 2⟩
def SEAM_FVAL_FV12 : Fld := ⟨24, 2⟩
def SEAM_FVAL_FV13 : Fld := ⟨26, 2⟩
def SEAM_FVAL_FV14 : Fld := ⟨28, 2⟩
def SEAM_FVAL_FV15 : Fld := ⟨30, 2⟩

/-! ### SEAMD -/

def SEAM_DIEID_ID : Fld := ⟨0, 3⟩
def SEAM_DIEID_ROOT : Fld := ⟨3, 1⟩
def SEAM_DIEID_ROW : Fld := ⟨4, 1⟩
def SEAM_DIEID_COL : Fld := ⟨5, 2⟩
def SEAM_DIEID_PORTS : Fld := ⟨8, 3⟩
def SEAM_DSTAT_ABSENT : Fld := ⟨0, 6⟩
def SEAM_ROUTE_PRI : Fld := ⟨0, 8⟩
def SEAM_ROUTE_ALT : Fld := ⟨8, 8⟩

/-! ### CFG -/

def CFG_CTRL_RELOAD : Fld := ⟨0, 1⟩
def CFG_CTRL_HOSTLOAD : Fld := ⟨1, 1⟩
def CFG_CTRL_PLOAD : Fld := ⟨2, 1⟩
def CFG_CTRL_DIELOAD : Fld := ⟨3, 1⟩
def CFG_CTRL_DSRC : Fld := ⟨4, 1⟩
def CFG_CTRL_DIE : Fld := ⟨8, 3⟩
def CFG_CTRL_ABORT : Fld := ⟨11, 1⟩
def CFG_STAT_STATE : Fld := ⟨0, 3⟩
def CFG_STAT_BUSY : Fld := ⟨3, 1⟩
def CFG_STAT_ENCSEEN : Fld := ⟨4, 1⟩
def CFG_STAT_OCTAL : Fld := ⟨5, 1⟩
def CFG_STAT_SLOT : Fld := ⟨6, 2⟩
def CFG_STAT_INITB : Fld := ⟨8, 1⟩
def CFG_STAT_DONE : Fld := ⟨9, 1⟩
def CFG_ERR_CODE : Fld := ⟨0, 4⟩
def CFG_ERR_SRC : Fld := ⟨4, 2⟩
def CFG_ERR_SLOT : Fld := ⟨6, 2⟩
def CFG_ERR_DIE : Fld := ⟨8, 3⟩
def CFG_ERR_LEG : Fld := ⟨16, 16⟩
def CFG_DESIGNID_ID : Fld := ⟨0, 32⟩
def CFG_DSTAT_CONF : Fld := ⟨0, 1⟩
def CFG_DSTAT_LOADING : Fld := ⟨1, 1⟩
def CFG_CAUSE_LOADOK : Fld := ⟨0, 1⟩
def CFG_CAUSE_LOADERR : Fld := ⟨1, 1⟩
def CFG_CAUSE_PLOADOK : Fld := ⟨2, 1⟩
def CFG_CAUSE_PLOADERR : Fld := ⟨3, 1⟩
def CFG_CAUSE_SCRUBSBE : Fld := ⟨4, 1⟩
def CFG_CAUSE_SCRUBMBE : Fld := ⟨5, 1⟩
def CFG_CAUSE_SCRUBTMR : Fld := ⟨6, 1⟩
def CFG_CAUSE_CMDERR : Fld := ⟨7, 1⟩
def CFG_CAUSE_EN_EN : Fld := ⟨0, 8⟩
def CFG_MDCTRL_MEADOW : Fld := ⟨0, 5⟩
def CFG_MDCTRL_FENCE : Fld := ⟨8, 1⟩
def CFG_MDCTRL_UNFENCE : Fld := ⟨9, 1⟩
def CFG_MDDEF_MASK : Fld := ⟨0, 32⟩
def CFG_MDFENCE_MASK : Fld := ⟨0, 32⟩
def CFG_SCRUB_CTRL_EN : Fld := ⟨0, 1⟩
def CFG_SCRUB_CTRL_MBEFENCE : Fld := ⟨1, 1⟩
def CFG_SCRUB_CTRL_CLR : Fld := ⟨2, 1⟩
def CFG_SCRUB_SBE_VALUE : Fld := ⟨0, 32⟩
def CFG_SCRUB_MBE_VALUE : Fld := ⟨0, 32⟩
def CFG_SCRUB_MBEADDR_VALUE : Fld := ⟨0, 32⟩
def CFG_RBADDR_FA : Fld := ⟨0, 32⟩
def CFG_RBDATA_WORD : Fld := ⟨0, 32⟩
def CFG_DATA_BYTES : Fld := ⟨0, 32⟩

/-! ### PROM -/

def PROM_TMO_US : Fld := ⟨0, 20⟩
def PROM_CAUSE_TMO : Fld := ⟨0, 1⟩
def PROM_CAUSE_LATE : Fld := ⟨1, 1⟩
def PROM_CAUSE_CMDERR : Fld := ⟨2, 1⟩
def PROM_CAUSE_SCRDONE : Fld := ⟨3, 1⟩
def PROM_CAUSE_EN_EN : Fld := ⟨0, 4⟩
def PROM_TMO_CNT_COUNT : Fld := ⟨0, 32⟩
def PROM_TSRC_SRC : Fld := ⟨0, 10⟩
def PROM_TADDR_LO_ADDR : Fld := ⟨0, 32⟩
def PROM_TADDR_HI_ADDR : Fld := ⟨0, 16⟩
def PROM_REG_BASE_BASE : Fld := ⟨0, 20⟩
def PROM_REG_SIZE_SIZE : Fld := ⟨0, 21⟩
def PROM_REG_CTRL_EN : Fld := ⟨0, 1⟩
def PROM_REG_CTRL_KIND : Fld := ⟨1, 1⟩
def PROM_REG_CTRL_COUNT : Fld := ⟨2, 2⟩
def PROM_REG_CTRL_DIE : Fld := ⟨4, 3⟩
def PROM_REG_CTRL_CHBASE : Fld := ⟨8, 3⟩
def PROM_REG_CTRL_DMASK : Fld := ⟨16, 6⟩
def PROM_REG_CTRL_GRAIN : Fld := ⟨24, 4⟩
def PROM_REG_CHOFS_CHOFS : Fld := ⟨0, 11⟩
def PROM_SCR_CTRL_GO : Fld := ⟨0, 1⟩
def PROM_SCR_CTRL_STOP : Fld := ⟨1, 1⟩
def PROM_SCR_CTRL_FIX : Fld := ⟨2, 1⟩
def PROM_SCR_STAT_BUSY : Fld := ⟨0, 1⟩
def PROM_SCR_STAT_CUT : Fld := ⟨1, 1⟩
def PROM_SCR_STAT_NEXT : Fld := ⟨6, 26⟩
def PROM_SCR_START_LO_ADDR : Fld := ⟨6, 26⟩
def PROM_SCR_START_HI_ADDR : Fld := ⟨0, 8⟩
def PROM_SCR_END_LO_ADDR : Fld := ⟨6, 26⟩
def PROM_SCR_END_HI_ADDR : Fld := ⟨0, 8⟩
def PROM_SCR_CHK_COUNT : Fld := ⟨0, 32⟩
def PROM_SCR_COR_COUNT : Fld := ⟨0, 32⟩
def PROM_SCR_UNC_COUNT : Fld := ⟨0, 32⟩
def PROM_SCR_FIRST_LO_ADDR : Fld := ⟨6, 26⟩
def PROM_SCR_FIRST_HI_ADDR : Fld := ⟨0, 8⟩
def PROM_SCR_LAST_LO_ADDR : Fld := ⟨6, 26⟩
def PROM_SCR_LAST_HI_ADDR : Fld := ⟨0, 8⟩

/-! ### MEMP -/

def MEMP_CTRL_INIT : Fld := ⟨0, 1⟩
def MEMP_CTRL_ZERO : Fld := ⟨1, 1⟩
def MEMP_CTRL_RATE : Fld := ⟨2, 3⟩
def MEMP_CTRL_EXPD : Fld := ⟨5, 2⟩
def MEMP_CTRL_REFMODE : Fld := ⟨7, 1⟩
def MEMP_CTRL_POSTPONE : Fld := ⟨8, 4⟩
def MEMP_STAT_STATE : Fld := ⟨0, 3⟩
def MEMP_STAT_DENS : Fld := ⟨3, 2⟩
def MEMP_STAT_OWED : Fld := ⟨5, 4⟩
def MEMP_CAUSE_READY : Fld := ⟨0, 1⟩
def MEMP_CAUSE_TRAINERR : Fld := ⟨1, 1⟩
def MEMP_CAUSE_CECC : Fld := ⟨2, 1⟩
def MEMP_CAUSE_UECC : Fld := ⟨3, 1⟩
def MEMP_CAUSE_PWREF : Fld := ⟨4, 1⟩
def MEMP_CAUSE_EDCFAIL : Fld := ⟨5, 1⟩
def MEMP_CAUSE_RHTHR : Fld := ⟨6, 1⟩
def MEMP_CAUSE_RHFC : Fld := ⟨7, 1⟩
def MEMP_CAUSE_CMDERR : Fld := ⟨8, 1⟩
def MEMP_CAUSE_EN_EN : Fld := ⟨0, 9⟩
def MEMP_RH_CTRL_EN : Fld := ⟨0, 1⟩
def MEMP_RH_CTRL_WIN : Fld := ⟨1, 2⟩
def MEMP_RH_CTRL_GAP : Fld := ⟨8, 10⟩
def MEMP_RH_THR_THR : Fld := ⟨0, 20⟩
def MEMP_RH_SRC_SRC : Fld := ⟨0, 10⟩
def MEMP_RH_SRC_CH : Fld := ⟨10, 1⟩
def MEMP_RH_SRC_BANK : Fld := ⟨11, 4⟩
def MEMP_CE_CNT_COUNT : Fld := ⟨0, 32⟩
def MEMP_UE_CNT_COUNT : Fld := ⟨0, 32⟩
def MEMP_EDC_CNT_COUNT : Fld := ⟨0, 32⟩
def MEMP_RH_CNT_COUNT : Fld := ⟨0, 32⟩
def MEMP_ELOG_LO_ADDR : Fld := ⟨6, 26⟩
def MEMP_ELOG_HI_ADDR : Fld := ⟨0, 8⟩
def MEMP_ELOG_HI_KIND : Fld := ⟨8, 3⟩
def MEMP_ELOG_HI_SRC : Fld := ⟨16, 10⟩

/-! ### VLT -/

def VLT_CAUSE_HALT : Fld := ⟨0, 1⟩
def VLT_CAUSE_INITDONE : Fld := ⟨1, 1⟩
def VLT_CAUSE_RKDONE : Fld := ⟨2, 1⟩
def VLT_CAUSE_RKERR : Fld := ⟨3, 1⟩
def VLT_CAUSE_GENEND : Fld := ⟨4, 1⟩
def VLT_CAUSE_ACCESS : Fld := ⟨5, 1⟩
def VLT_CAUSE_CMDERR : Fld := ⟨6, 1⟩
def VLT_CAUSE_EN_EN : Fld := ⟨0, 7⟩
def VLT_HALT_LO_ADDR : Fld := ⟨6, 26⟩
def VLT_HALT_HI_ADDR : Fld := ⟨0, 8⟩
def VLT_HALT_HI_KIND : Fld := ⟨8, 3⟩
def VLT_HALT_HI_SRC : Fld := ⟨16, 10⟩
def VLT_HALT_HI_VAULT : Fld := ⟨26, 6⟩
def VLT_V_CTRL_EN : Fld := ⟨0, 1⟩
def VLT_V_CTRL_MODE : Fld := ⟨1, 2⟩
def VLT_V_CTRL_ADOPT : Fld := ⟨3, 1⟩
def VLT_V_CTRL_NOHOST : Fld := ⟨4, 1⟩
def VLT_V_CTRL_NODBG : Fld := ⟨5, 1⟩
def VLT_V_CTRL_NOFAB : Fld := ⟨6, 1⟩
def VLT_V_CTRL_RKGO : Fld := ⟨8, 1⟩
def VLT_V_CTRL_GEN : Fld := ⟨16, 16⟩
def VLT_V_STAT_STATE : Fld := ⟨0, 3⟩
def VLT_V_STAT_RKPEND : Fld := ⟨3, 1⟩
def VLT_V_BASE_BASE : Fld := ⟨0, 24⟩
def VLT_V_SIZE_SIZE : Fld := ⟨0, 24⟩
def VLT_V_SALT_SALT : Fld := ⟨0, 32⟩
def VLT_V_LIMIT_LO_LIMIT : Fld := ⟨0, 32⟩
def VLT_V_LIMIT_HI_LIMIT : Fld := ⟨0, 8⟩
def VLT_V_WCNT_LO_COUNT : Fld := ⟨0, 32⟩
def VLT_V_WCNT_HI_COUNT : Fld := ⟨0, 8⟩
def VLT_V_RKPTR_LO_ADDR : Fld := ⟨6, 26⟩
def VLT_V_RKPTR_HI_ADDR : Fld := ⟨0, 8⟩

/-! ### DMA -/

def DMA_DONE_CH : Fld := ⟨0, 32⟩
def DMA_DONE_EN_EN : Fld := ⟨0, 32⟩
def DMA_ERR_CH : Fld := ⟨0, 32⟩
def DMA_ERR_EN_EN : Fld := ⟨0, 32⟩
def DMA_ROVF_CH : Fld := ⟨0, 32⟩
def DMA_ROVF_EN_EN : Fld := ⟨0, 32⟩
def DMA_CAUSE_CMDERR : Fld := ⟨0, 1⟩
def DMA_CAUSE_EN_EN : Fld := ⟨0, 1⟩
def DMA_ERRLOG_ALO_ADDR : Fld := ⟨0, 32⟩
def DMA_ERRLOG_AHI_ADDR : Fld := ⟨0, 16⟩
def DMA_ERRLOG_DLO_DESC : Fld := ⟨0, 32⟩
def DMA_ERRLOG_DHI_DESC : Fld := ⟨0, 16⟩
def DMA_ERRLOG_INFO_CH : Fld := ⟨0, 5⟩
def DMA_ERRLOG_INFO_KIND : Fld := ⟨5, 3⟩
def DMA_ERRLOG_INFO_RESP : Fld := ⟨8, 3⟩
def DMA_ERRLOG_INFO_DONE : Fld := ⟨11, 1⟩
def DMA_CH_CTRL_START : Fld := ⟨0, 1⟩
def DMA_CH_CTRL_STOP : Fld := ⟨1, 1⟩
def DMA_CH_CTRL_CLR : Fld := ⟨2, 1⟩
def DMA_CH_CTRL_SWREQ : Fld := ⟨3, 1⟩
def DMA_CH_CTRL_PRIO : Fld := ⟨8, 3⟩
def DMA_CH_CTRL_RSEL : Fld := ⟨16, 5⟩
def DMA_CH_STAT_STATE : Fld := ⟨0, 3⟩
def DMA_CH_STAT_PEND : Fld := ⟨8, 8⟩
def DMA_CH_DESC_LO_ADDR : Fld := ⟨5, 27⟩
def DMA_CH_DESC_HI_ADDR : Fld := ⟨0, 16⟩
def DMA_CH_COUNT_COUNT : Fld := ⟨0, 32⟩

/-! ### CC -/

def CC_CTRL_RUN : Fld := ⟨0, 1⟩
def CC_CTRL_RST : Fld := ⟨1, 1⟩
def CC_STAT_STATE : Fld := ⟨0, 2⟩
def CC_STAT_WDTRST : Fld := ⟨2, 1⟩
def CC_BOOT_LO_ADDR : Fld := ⟨2, 30⟩
def CC_BOOT_HI_ADDR : Fld := ⟨0, 16⟩
def CC_MTIMECMP_LO_CMP : Fld := ⟨0, 32⟩
def CC_MTIMECMP_HI_CMP : Fld := ⟨0, 32⟩
def CC_MSIP_MSIP : Fld := ⟨0, 1⟩
def CC_WDT_CTRL_EN : Fld := ⟨0, 1⟩
def CC_WDT_RELOAD_TICKS : Fld := ⟨0, 32⟩
def CC_WDT_CNT_TICKS : Fld := ⟨0, 32⟩
def CC_WDT_KICK_KEY : Fld := ⟨0, 32⟩
def CC_BERR_LO_ADDR : Fld := ⟨0, 32⟩
def CC_BERR_HI_ADDR : Fld := ⟨0, 16⟩
def CC_BERR_HI_RESP : Fld := ⟨16, 3⟩

/-! ### CCD -/

def CC_CAUSE_WDT : Fld := ⟨0, 2⟩
def CC_CAUSE_BERR : Fld := ⟨2, 2⟩
def CC_CAUSE_VTRX : Fld := ⟨4, 2⟩
def CC_CAUSE_L2DONE : Fld := ⟨6, 1⟩
def CC_CAUSE_CMDERR : Fld := ⟨7, 1⟩
def CC_CAUSE_EN_EN : Fld := ⟨0, 8⟩
def CC_CWIN_BASE : Fld := ⟨0, 12⟩
def CC_CWIN_SIZE : Fld := ⟨16, 12⟩
def CC_L2OP_ADDR_LO_ADDR : Fld := ⟨6, 26⟩
def CC_L2OP_ADDR_HI_ADDR : Fld := ⟨0, 8⟩
def CC_L2OP_LEN_LINES : Fld := ⟨0, 32⟩
def CC_L2OP_CTRL_GO : Fld := ⟨0, 1⟩
def CC_L2OP_CTRL_OP : Fld := ⟨1, 2⟩
def CC_L2OP_CTRL_BUSY : Fld := ⟨8, 1⟩

/-! ### DBGD -/

def DBG_FREEZE_WDT : Fld := ⟨0, 2⟩
def DBG_FREEZE_MDSP : Fld := ⟨2, 1⟩
def DBG_FREEZE_DMA : Fld := ⟨3, 1⟩
def DBG_FREEZE_PEER : Fld := ⟨4, 1⟩

/-! ### DBG -/

def DBG_CTRL_HALTREQ : Fld := ⟨0, 1⟩
def DBG_CTRL_RESUME : Fld := ⟨1, 1⟩
def DBG_CTRL_STEP : Fld := ⟨2, 1⟩
def DBG_CTRL_STEPIE : Fld := ⟨3, 1⟩
def DBG_CTRL_HOR : Fld := ⟨4, 1⟩
def DBG_CTRL_EBREAKM : Fld := ⟨5, 1⟩
def DBG_CTRL_EBREAKU : Fld := ⟨6, 1⟩
def DBG_STAT_HALTED : Fld := ⟨0, 1⟩
def DBG_STAT_CAUSE : Fld := ⟨1, 3⟩
def DBG_STAT_AERR : Fld := ⟨4, 1⟩
def DBG_STAT_BPHIT : Fld := ⟨8, 3⟩
def DBG_DPC_LO_PC : Fld := ⟨0, 32⟩
def DBG_ACMD_REGNO : Fld := ⟨0, 16⟩
def DBG_ACMD_WRITE : Fld := ⟨16, 1⟩
def DBG_DATA0_VALUE : Fld := ⟨0, 32⟩
def DBG_DATA1_VALUE : Fld := ⟨0, 32⟩
def DBG_DTX_DATA : Fld := ⟨0, 32⟩
def DBG_DRX_DATA : Fld := ⟨0, 32⟩
def DBG_VTSTAT_TXFULL : Fld := ⟨0, 1⟩
def DBG_VTSTAT_RXFULL : Fld := ⟨1, 1⟩
def DBG_VTSTAT_TXACK : Fld := ⟨2, 1⟩
def DBG_VTSTAT_TXOVF : Fld := ⟨3, 1⟩
def DBG_VTSTAT_RXOVF : Fld := ⟨4, 1⟩
def DBG_DPC_HI_PC : Fld := ⟨0, 16⟩
def DBG_BP_ADDR_LO_ADDR : Fld := ⟨0, 32⟩
def DBG_BP_ADDR_HI_ADDR : Fld := ⟨0, 16⟩
def DBG_BP_CTRL_X : Fld := ⟨0, 1⟩
def DBG_BP_CTRL_R : Fld := ⟨1, 1⟩
def DBG_BP_CTRL_W : Fld := ⟨2, 1⟩
def DBG_BP_CTRL_MASK : Fld := ⟨8, 5⟩

/-! ### KPR -/

def KPR_MBOX_CMD_CMD : Fld := ⟨0, 8⟩
def KPR_MBOX_CMD_ARG : Fld := ⟨8, 8⟩
def KPR_MBOX_STAT_BUSY : Fld := ⟨0, 1⟩
def KPR_MBOX_STAT_RESULT : Fld := ⟨8, 8⟩
def KPR_MBOX_STAT_LEN : Fld := ⟨16, 7⟩
def KPR_CAUSE_DONE : Fld := ⟨0, 1⟩
def KPR_CAUSE_CMDERR : Fld := ⟨1, 1⟩
def KPR_CAUSE_AUTHFAIL : Fld := ⟨2, 1⟩
def KPR_CAUSE_DBGCHG : Fld := ⟨3, 1⟩
def KPR_CAUSE_ZERO : Fld := ⟨4, 1⟩
def KPR_CAUSE_THERM : Fld := ⟨5, 1⟩
def KPR_CAUSE_EN_EN : Fld := ⟨0, 6⟩
def KPR_STAT_LC : Fld := ⟨0, 4⟩
def KPR_STAT_DBG : Fld := ⟨8, 2⟩
def KPR_STAT_KEYSRC : Fld := ⟨10, 1⟩
def KPR_STAT_LOCKOUT : Fld := ⟨11, 1⟩
def KPR_STAT_FAILS : Fld := ⟨12, 5⟩
def KPR_RBCNT_COUNT : Fld := ⟨0, 7⟩
def KPR_RBCNT_LOADED : Fld := ⟨8, 7⟩
def KPR_POLICY_BITS : Fld := ⟨0, 32⟩
def KPR_FLOCK_LOCK : Fld := ⟨0, 4⟩
def KPR_SERIAL_LO_SERIAL : Fld := ⟨0, 32⟩
def KPR_SERIAL_HI_SERIAL : Fld := ⟨0, 32⟩
def KPR_MBOX_DATA_WORD : Fld := ⟨0, 32⟩

/-! ### BIST -/

def BIST_CTRL_EN : Fld := ⟨0, 1⟩
def BIST_CTRL_GAP : Fld := ⟨16, 12⟩
def BIST_CMD_TGT : Fld := ⟨0, 6⟩
def BIST_CMD_RETEST : Fld := ⟨8, 1⟩
def BIST_STAT_BUSY : Fld := ⟨0, 1⟩
def BIST_STAT_RETEST : Fld := ⟨1, 1⟩
def BIST_STAT_CURT : Fld := ⟨8, 6⟩
def BIST_CAUSE_FAIL : Fld := ⟨0, 1⟩
def BIST_CAUSE_LANE : Fld := ⟨1, 1⟩
def BIST_CAUSE_RTDONE : Fld := ⟨2, 1⟩
def BIST_CAUSE_CE : Fld := ⟨3, 1⟩
def BIST_CAUSE_CMDERR : Fld := ⟨4, 1⟩
def BIST_CAUSE_SAFE : Fld := ⟨5, 1⟩
def BIST_CAUSE_EN_EN : Fld := ⟨0, 6⟩
def BIST_HOLD_LO_TGT : Fld := ⟨0, 32⟩
def BIST_HOLD_HI_TGT : Fld := ⟨0, 32⟩
def BIST_SLICE_CNT_COUNT : Fld := ⟨0, 32⟩
def BIST_ABORT_CNT_COUNT : Fld := ⟨0, 32⟩
def BIST_CE_CNT_COUNT : Fld := ⟨0, 32⟩
def BIST_FAILINFO_TGT : Fld := ⟨0, 6⟩
def BIST_FAILINFO_SEG : Fld := ⟨8, 6⟩
def BIST_FAILINFO_KIND : Fld := ⟨16, 2⟩
def BIST_TEN_LO_TGT : Fld := ⟨0, 32⟩
def BIST_TEN_HI_TGT : Fld := ⟨0, 2⟩

/-! ### INT -/

def DIS_SUM : Fld := ⟨0, 32⟩
def DIS_HEN_EN : Fld := ⟨0, 32⟩
def DIS_CEN_EN : Fld := ⟨0, 32⟩
def DIS_VMAP_VEC0 : Fld := ⟨0, 3⟩
def DIS_VMAP_VEC1 : Fld := ⟨4, 3⟩
def DIS_VMAP_VEC2 : Fld := ⟨8, 3⟩
def DIS_VMAP_VEC3 : Fld := ⟨12, 3⟩
def DIS_VMAP_VEC4 : Fld := ⟨16, 3⟩
def DIS_VMAP_VEC5 : Fld := ⟨20, 3⟩
def DIS_VMAP_VEC6 : Fld := ⟨24, 3⟩
def DIS_VMAP_VEC7 : Fld := ⟨28, 3⟩

/-! ### GIS -/

def GIS_DIE : Fld := ⟨0, 6⟩
def GIS_PKG : Fld := ⟨8, 4⟩
def GIS_ABSENT : Fld := ⟨16, 1⟩
def GIS_EN_DIE : Fld := ⟨0, 6⟩
def GIS_EN_PKG : Fld := ⟨8, 4⟩
def GIS_EN_ABSENT : Fld := ⟨16, 1⟩
def GIS_CTRL_PINEN : Fld := ⟨0, 1⟩
def MSIX_EOI_VEC : Fld := ⟨0, 6⟩

/-! ### MON -/

def MON_SEL_EVT : Fld := ⟨0, 8⟩
def MON_SEL_EN : Fld := ⟨8, 1⟩
def MON_CNT_LO_COUNT : Fld := ⟨0, 32⟩
def MON_CNT_HI_COUNT : Fld := ⟨0, 16⟩
def MON_SNAP_LO_COUNT : Fld := ⟨0, 32⟩
def MON_SNAP_HI_COUNT : Fld := ⟨0, 16⟩
def MON_CMD_CLR : Fld := ⟨0, 16⟩
def MON_CMD_ARM : Fld := ⟨16, 1⟩
def MON_CMD_DISARM : Fld := ⟨17, 1⟩
def MON_OVF_SAT : Fld := ⟨0, 16⟩
def MON_CAUSE_OVF : Fld := ⟨0, 16⟩
def MON_CAUSE_SNAP : Fld := ⟨16, 1⟩
def MON_CAUSE_CMDERR : Fld := ⟨17, 1⟩
def MON_CAUSE_EN_EN : Fld := ⟨0, 18⟩
def MON_SNAP_PT_LO_PT : Fld := ⟨0, 32⟩
def MON_SNAP_PT_HI_PT : Fld := ⟨0, 32⟩

/-! ### PKG -/

def PKG_PWR_REQ : Fld := ⟨0, 2⟩
def PKG_PWR_STATE : Fld := ⟨4, 2⟩
def PKG_PWR_WAKEPT : Fld := ⟨8, 1⟩
def PKG_EVT_PWRERR : Fld := ⟨0, 1⟩
def PKG_EVT_CLKLOSS : Fld := ⟨1, 1⟩
def PKG_WAKE_PT_LO_PT : Fld := ⟨0, 32⟩
def PKG_WAKE_PT_HI_PT : Fld := ⟨0, 32⟩
def PKG_RST_DEVICE : Fld := ⟨0, 1⟩
def PKG_RST_DIEHOLD : Fld := ⟨1, 5⟩
def PKG_RST_KEY : Fld := ⟨24, 8⟩
def PKG_RSTCAUSE_CAUSE : Fld := ⟨0, 3⟩
def PKG_RSTCAUSE_BISTFAIL : Fld := ⟨3, 1⟩
def PKG_RSTCAUSE_DIE : Fld := ⟨4, 3⟩
def PKG_REF_REFOK : Fld := ⟨0, 1⟩
def PKG_REF_SRC : Fld := ⟨1, 1⟩
def PKG_REF_HOLD : Fld := ⟨2, 1⟩
def PKG_REF_LOCKED : Fld := ⟨3, 1⟩
def PKG_EVT_EN_EN : Fld := ⟨0, 2⟩

/-! ### DCR -/

def DCR_ID_GRADE : Fld := ⟨0, 2⟩
def DCR_ID_REV : Fld := ⟨4, 4⟩
def DCR_CLKSTAT_LOCK : Fld := ⟨0, 7⟩
def DCR_CLKSTAT_PKGLOCK : Fld := ⟨8, 4⟩
def DCR_TEMP_NOW : Fld := ⟨0, 11⟩
def DCR_TEMP_MAX : Fld := ⟨16, 11⟩
def DCR_TWARN_LIMIT : Fld := ⟨0, 11⟩
def DCR_TWARN_CLRMAX : Fld := ⟨16, 1⟩
def DCR_EVT_TWARN : Fld := ⟨0, 1⟩
def DCR_EVT_CLKERR : Fld := ⟨1, 1⟩

/-! ### PCIE -/

def PCIE_G6WIN_SEL : Fld := ⟨0, 3⟩
end F
end Sys2Proof.Machine
end

