-- ==== Sys2Proof/Machine/RegTable.lean ====
section
/-! DEFINITION. Machine/RegTable.lean: every register's offset, instances, access types and reset values (00_scope.md R10, R11), and the block an address belongs to (20_register_map.md R617 to R622). -/
namespace Sys2Proof.Machine

/-- The access types of 00_scope.md R11. -/
inductive Acc where | rw | ro | wo | w1c | w1s | rc
deriving DecidableEq, Repr
/-- A field of a register table: its bits, its access type, its reset value. -/
structure FieldRow where
  fld : Fld
  acc : Acc
  reset : Nat
deriving DecidableEq, Repr
/-- A register: its offset in the block, its instances as (count, stride) pairs, whether it exists on die 0 only. -/
structure RegRow where
  name : String
  off : Nat
  dims : List (Nat × Nat)
  die0 : Bool
  fields : List FieldRow
deriving DecidableEq, Repr

def tabVSQa : List RegRow := [
  ⟨"VSQ_CTRL", 0x0, [], false, [⟨F.VSQ_CTRL_START, .wo, 0⟩, ⟨F.VSQ_CTRL_ABORT, .wo, 0⟩, ⟨F.VSQ_CTRL_RESUME, .wo, 0⟩, ⟨F.VSQ_CTRL_SMODE, .rw, 0⟩]⟩,
  ⟨"VSQ_STAT", 0x4, [], false, [⟨F.VSQ_STAT_STATE, .ro, 0⟩, ⟨F.VSQ_STAT_MFAIL, .ro, 0⟩, ⟨F.VSQ_STAT_STREAM, .ro, 0⟩, ⟨F.VSQ_STAT_ESCCNT, .ro, 0⟩, ⟨F.VSQ_STAT_DEPTH, .ro, 0⟩]⟩,
  ⟨"VSQ_FAULT", 0x8, [], false, [⟨F.VSQ_FAULT_CODE, .ro, 0⟩, ⟨F.VSQ_FAULT_INSTREAM, .ro, 0⟩, ⟨F.VSQ_FAULT_ADDR, .ro, 0⟩]⟩,
  ⟨"VSQ_ENTRY", 0xc, [], false, [⟨F.VSQ_ENTRY_ADDR, .rw, 0⟩]⟩,
  ⟨"VSQ_START_PT_LO", 0x10, [], false, [⟨F.VSQ_START_PT_LO_PT, .rw, 0⟩]⟩,
  ⟨"VSQ_START_PT_HI", 0x14, [], false, [⟨F.VSQ_START_PT_HI_PT, .rw, 0⟩]⟩,
  ⟨"VSQ_GANG", 0x18, [], false, [⟨F.VSQ_GANG_GID, .rw, 0⟩, ⟨F.VSQ_GANG_EN, .rw, 0⟩, ⟨F.VSQ_GANG_COMB, .rw, 0⟩, ⟨F.VSQ_GANG_SPAN, .rw, 1⟩]⟩,
  ⟨"VSQ_CMASK", 0x20, [(4, 0x4)], false, [⟨F.VSQ_CMASK_PINS, .rw, 0⟩]⟩,
  ⟨"VSQ_LR", 0x40, [(8, 0x4)], false, [⟨F.VSQ_LR_COUNT, .rw, 0⟩]⟩,
  ⟨"VSQ_LC", 0x60, [(8, 0x4)], false, [⟨F.VSQ_LC_COUNT, .rw, 0⟩]⟩,
  ⟨"VSQ_G", 0x80, [(4, 0x4)], false, [⟨F.VSQ_G_VALUE, .rw, 0⟩]⟩,
  ⟨"VSQ_VCNT_LO", 0x90, [], false, [⟨F.VSQ_VCNT_LO_VCNT, .ro, 0⟩]⟩,
  ⟨"VSQ_VCNT_HI", 0x94, [], false, [⟨F.VSQ_VCNT_HI_VCNT, .ro, 0⟩, ⟨F.VSQ_VCNT_HI_EPOCH, .ro, 0⟩]⟩,
  ⟨"VSQ_MCNT", 0x98, [], false, [⟨F.VSQ_MCNT_K, .ro, 0⟩]⟩,
  ⟨"VSQ_PCODE", 0x9c, [], false, [⟨F.VSQ_PCODE_CODE, .ro, 0⟩]⟩,
  ⟨"VSQ_TCODE", 0xa0, [], false, [⟨F.VSQ_TCODE_CODE, .ro, 0⟩]⟩]
def tabVSQb : List RegRow := [
  ⟨"VSQ_UFLAG", 0xa4, [], false, [⟨F.VSQ_UFLAG_FLAG, .ro, 0⟩]⟩,
  ⟨"VSQ_ESC_CTRL", 0xb0, [], false, [⟨F.VSQ_ESC_CTRL_EN, .rw, 0⟩]⟩,
  ⟨"VSQ_ESC_PER", 0xb4, [], false, [⟨F.VSQ_ESC_PER_NS, .rw, 0x3e8⟩]⟩,
  ⟨"VSQ_ESC_ADDR", 0xb8, [], false, [⟨F.VSQ_ESC_ADDR_ADDR, .rw, 0⟩]⟩,
  ⟨"VSQ_SBASE_LO", 0xc0, [], false, [⟨F.VSQ_SBASE_LO_ADDR, .rw, 0⟩]⟩,
  ⟨"VSQ_SBASE_HI", 0xc4, [], false, [⟨F.VSQ_SBASE_HI_ADDR, .rw, 0⟩]⟩,
  ⟨"VSQ_SCTRL", 0xc8, [], false, [⟨F.VSQ_SCTRL_ARM, .wo, 0⟩, ⟨F.VSQ_SCTRL_DISARM, .wo, 0⟩]⟩,
  ⟨"VSQ_SSTAT", 0xcc, [], false, [⟨F.VSQ_SSTAT_AHEAD, .ro, 0⟩, ⟨F.VSQ_SSTAT_READY, .ro, 0⟩]⟩,
  ⟨"VSQ_CAUSE", 0xd0, [], false, [⟨F.VSQ_CAUSE_DONE, .w1c, 0⟩, ⟨F.VSQ_CAUSE_PAUSED, .w1c, 0⟩, ⟨F.VSQ_CAUSE_FAULT, .w1c, 0⟩, ⟨F.VSQ_CAUSE_TRIG, .w1c, 0⟩, ⟨F.VSQ_CAUSE_MFAIL, .w1c, 0⟩, ⟨F.VSQ_CAUSE_ESCOVF, .w1c, 0⟩, ⟨F.VSQ_CAUSE_CMDERR, .w1c, 0⟩]⟩,
  ⟨"VSQ_CAUSE_EN", 0xd4, [], false, [⟨F.VSQ_CAUSE_EN_EN, .rw, 0⟩]⟩,
  ⟨"APG_CTRL", 0x10000, [], false, [⟨F.APG_CTRL_SCR, .rw, 0⟩, ⟨F.APG_CTRL_ESAVE, .rw, 1⟩, ⟨F.APG_CTRL_EDLY, .rw, 0⟩]⟩,
  ⟨"APG_STAT", 0x10004, [], false, [⟨F.APG_STAT_XRANGE, .w1c, 0⟩, ⟨F.APG_STAT_YRANGE, .w1c, 0⟩]⟩,
  ⟨"APG_XC", 0x10010, [], false, [⟨F.APG_XC_VALUE, .rw, 0⟩]⟩,
  ⟨"APG_XB", 0x10014, [], false, [⟨F.APG_XB_VALUE, .rw, 0⟩]⟩,
  ⟨"APG_XMIN", 0x10018, [], false, [⟨F.APG_XMIN_VALUE, .rw, 0⟩]⟩,
  ⟨"APG_XMAX", 0x1001c, [], false, [⟨F.APG_XMAX_VALUE, .rw, 0xffffffff⟩]⟩]
def tabVSQc : List RegRow := [
  ⟨"APG_XI", 0x10020, [], false, [⟨F.APG_XI_VALUE, .rw, 0⟩]⟩,
  ⟨"APG_YC", 0x10030, [], false, [⟨F.APG_YC_VALUE, .rw, 0⟩]⟩,
  ⟨"APG_YB", 0x10034, [], false, [⟨F.APG_YB_VALUE, .rw, 0⟩]⟩,
  ⟨"APG_YMIN", 0x10038, [], false, [⟨F.APG_YMIN_VALUE, .rw, 0⟩]⟩,
  ⟨"APG_YMAX", 0x1003c, [], false, [⟨F.APG_YMAX_VALUE, .rw, 0xffffffff⟩]⟩,
  ⟨"APG_YI", 0x10040, [], false, [⟨F.APG_YI_VALUE, .rw, 0⟩]⟩,
  ⟨"APG_BG_LO", 0x10060, [], false, [⟨F.APG_BG_LO_VALUE, .rw, 0⟩]⟩,
  ⟨"APG_BG_HI", 0x10064, [], false, [⟨F.APG_BG_HI_VALUE, .rw, 0⟩]⟩,
  ⟨"APG_BGA_LO", 0x10068, [], false, [⟨F.APG_BGA_LO_VALUE, .rw, 0⟩]⟩,
  ⟨"APG_BGA_HI", 0x1006c, [], false, [⟨F.APG_BGA_HI_VALUE, .rw, 0⟩]⟩,
  ⟨"APG_BW_LO", 0x10070, [], false, [⟨F.APG_BW_LO_VALUE, .ro, 0⟩]⟩,
  ⟨"APG_BW_HI", 0x10074, [], false, [⟨F.APG_BW_HI_VALUE, .ro, 0⟩]⟩,
  ⟨"APG_BTAB", 0x10080, [(8, 0x4)], false, [⟨F.APG_BTAB_T0, .rw, 4⟩, ⟨F.APG_BTAB_T1, .rw, 4⟩, ⟨F.APG_BTAB_T2, .rw, 4⟩, ⟨F.APG_BTAB_T3, .rw, 4⟩]⟩,
  ⟨"APG_SCR1", 0x10100, [(16, 0x4)], false, [⟨F.APG_SCR1_SEL0, .rw, 4⟩, ⟨F.APG_SCR1_SEL1, .rw, 4⟩, ⟨F.APG_SCR1_SEL2, .rw, 4⟩, ⟨F.APG_SCR1_SEL3, .rw, 4⟩]⟩,
  ⟨"APG_SCR2", 0x10200, [(64, 0x4)], false, [⟨F.APG_SCR2_T0, .rw, 0x7f⟩, ⟨F.APG_SCR2_T1, .rw, 0x7f⟩, ⟨F.APG_SCR2_T2, .rw, 0x7f⟩, ⟨F.APG_SCR2_T3, .rw, 0x7f⟩, ⟨F.APG_SCR2_AND, .rw, 0⟩]⟩,
  ⟨"APG_DTF_SEL0", 0x10400, [(16, 0x40)], false, [⟨F.APG_DTF_SEL0_S0, .rw, 0x7f⟩, ⟨F.APG_DTF_SEL0_S1, .rw, 0x7f⟩, ⟨F.APG_DTF_SEL0_S2, .rw, 0x7f⟩, ⟨F.APG_DTF_SEL0_S3, .rw, 0x7f⟩, ⟨F.APG_DTF_SEL0_LOG, .rw, 0⟩]⟩]
def tabVSQd : List RegRow := [
  ⟨"APG_DTF_SEL1", 0x10404, [(16, 0x40)], false, [⟨F.APG_DTF_SEL1_S0, .rw, 0x7f⟩, ⟨F.APG_DTF_SEL1_S1, .rw, 0x7f⟩, ⟨F.APG_DTF_SEL1_S2, .rw, 0x7f⟩, ⟨F.APG_DTF_SEL1_S3, .rw, 0x7f⟩]⟩,
  ⟨"APG_DTF_TT", 0x10420, [(16, 0x40), (8, 0x4)], false, [⟨F.APG_DTF_TT_ENTRY, .rw, 0⟩]⟩,
  ⟨"CH_GCTRL", 0x20000, [], false, [⟨F.CH_GCTRL_REL, .rw, 0⟩, ⟨F.CH_GCTRL_FDEN, .rw, 0⟩, ⟨F.CH_GCTRL_TXSWING, .rw, 2⟩]⟩,
  ⟨"CH_GSTAT", 0x20004, [], false, [⟨F.CH_GSTAT_CALBUSY, .ro, 0⟩, ⟨F.CH_GSTAT_TRIMOK, .ro, 0⟩, ⟨F.CH_GSTAT_TDRIFT, .ro, 0⟩, ⟨F.CH_GSTAT_FDLEVEL, .ro, 0⟩]⟩,
  ⟨"CH_CAL", 0x20008, [], false, [⟨F.CH_CAL_TRIM, .wo, 0⟩]⟩,
  ⟨"CH_CALTEMP", 0x2000c, [], false, [⟨F.CH_CALTEMP_TEMP, .ro, 0⟩]⟩,
  ⟨"CH_CAUSE", 0x20010, [], false, [⟨F.CH_CAUSE_TSPACE, .w1c, 0⟩, ⟨F.CH_CAUSE_WRSV, .w1c, 0⟩, ⟨F.CH_CAUSE_CMBOTH, .w1c, 0⟩, ⟨F.CH_CAUSE_FUNDER, .w1c, 0⟩, ⟨F.CH_CAUSE_STLOST, .w1c, 0⟩, ⟨F.CH_CAUSE_CALDONE, .w1c, 0⟩, ⟨F.CH_CAUSE_TDRIFT, .w1c, 0⟩, ⟨F.CH_CAUSE_FOVER, .w1c, 0⟩]⟩,
  ⟨"CH_CAUSE_EN", 0x20014, [], false, [⟨F.CH_CAUSE_EN_EN, .rw, 0⟩]⟩,
  ⟨"CH_FUNDER_CNT", 0x20018, [], false, [⟨F.CH_FUNDER_CNT_COUNT, .ro, 0⟩]⟩,
  ⟨"CH_STLOST_CNT", 0x2001c, [], false, [⟨F.CH_STLOST_CNT_COUNT, .ro, 0⟩]⟩,
  ⟨"CH_STCTRL", 0x20020, [], false, [⟨F.CH_STCTRL_FLUSH, .wo, 0⟩, ⟨F.CH_STCTRL_THR, .rw, 0x100⟩]⟩,
  ⟨"CH_STSTAT", 0x20024, [], false, [⟨F.CH_STSTAT_COUNT, .ro, 0⟩]⟩,
  ⟨"CH_STAMP_LO", 0x20028, [], false, [⟨F.CH_STAMP_LO_RECORD, .ro, 0⟩]⟩,
  ⟨"CH_STAMP_HI", 0x2002c, [], false, [⟨F.CH_STAMP_HI_RECORD, .ro, 0⟩]⟩,
  ⟨"CH_TS_PERIOD", 0x21000, [(256, 0x8)], false, [⟨F.CH_TS_PERIOD_P, .rw, 0x1f40⟩]⟩,
  ⟨"CH_TS_CTRL", 0x21004, [(256, 0x8)], false, [⟨F.CH_TS_CTRL_VALID, .rw, 0⟩]⟩]
def tabVSQe : List RegRow := [
  ⟨"CH_PIN_CFG", 0x22000, [(32, 0x40)], false, [⟨F.CH_PIN_CFG_SRC, .rw, 0⟩, ⟨F.CH_PIN_CFG_MODE, .rw, 0⟩, ⟨F.CH_PIN_CFG_DSEL, .rw, 0⟩, ⟨F.CH_PIN_CFG_ETL, .rw, 0⟩, ⟨F.CH_PIN_CFG_ETE, .rw, 0⟩]⟩,
  ⟨"CH_PIN_WMAP", 0x22004, [(32, 0x40), (4, 0x4)], false, [⟨F.CH_PIN_WMAP_E0, .rw, 0⟩, ⟨F.CH_PIN_WMAP_E1, .rw, 0⟩, ⟨F.CH_PIN_WMAP_E2, .rw, 0⟩, ⟨F.CH_PIN_WMAP_E3, .rw, 0⟩]⟩,
  ⟨"CH_PIN_DSKTX", 0x22014, [(32, 0x40)], false, [⟨F.CH_PIN_DSKTX_DRV, .rw, 0⟩, ⟨F.CH_PIN_DSKTX_ENA, .rw, 0⟩]⟩,
  ⟨"CH_PIN_DSKRX", 0x22018, [(32, 0x40)], false, [⟨F.CH_PIN_DSKRX_CMH, .rw, 0⟩, ⟨F.CH_PIN_DSKRX_CML, .rw, 0⟩]⟩,
  ⟨"CH_WAV_CFG", 0x40000, [(256, 0x80)], false, [⟨F.CH_WAV_CFG_SCODE, .rw, 0⟩]⟩,
  ⟨"CH_WAV_DOFS", 0x40004, [(256, 0x80)], false, [⟨F.CH_WAV_DOFS_OFS, .rw, 0⟩]⟩,
  ⟨"CH_WAV_SOFS", 0x40008, [(256, 0x80)], false, [⟨F.CH_WAV_SOFS_OFS, .rw, 0⟩]⟩,
  ⟨"CH_WAV_SLOT", 0x40040, [(256, 0x80), (16, 0x4)], false, [⟨F.CH_WAV_SLOT_DRV0, .rw, 0⟩, ⟨F.CH_WAV_SLOT_STB0, .rw, 0⟩, ⟨F.CH_WAV_SLOT_BEAT0, .rw, 0⟩, ⟨F.CH_WAV_SLOT_DRV1, .rw, 0⟩, ⟨F.CH_WAV_SLOT_STB1, .rw, 0⟩, ⟨F.CH_WAV_SLOT_BEAT1, .rw, 0⟩]⟩]
/-- The registers of block VSQ: 02_vector_sequencer.md. -/
def tabVSQ : List RegRow := tabVSQa ++ tabVSQb ++ tabVSQc ++ tabVSQd ++ tabVSQe
def tabFCUa : List RegRow := [
  ⟨"FCU_CTRL", 0x0, [], false, [⟨F.FCU_CTRL_LEN, .rw, 0⟩, ⟨F.FCU_CTRL_CEN, .rw, 0⟩, ⟨F.FCU_CTRL_BEN, .rw, 0⟩, ⟨F.FCU_CTRL_REN, .rw, 0⟩, ⟨F.FCU_CTRL_CMODE, .rw, 0⟩, ⟨F.FCU_CTRL_ASRC, .rw, 0⟩, ⟨F.FCU_CTRL_LPHYS, .rw, 1⟩, ⟨F.FCU_CTRL_CLRSTART, .rw, 1⟩, ⟨F.FCU_CTRL_BPLANE, .rw, 0⟩, ⟨F.FCU_CTRL_CLANE, .rw, 0⟩]⟩,
  ⟨"FCU_CMD", 0x4, [], false, [⟨F.FCU_CMD_CLRCNT, .wo, 0⟩, ⟨F.FCU_CMD_LRESET, .wo, 0⟩, ⟨F.FCU_CMD_CRESET, .wo, 0⟩]⟩,
  ⟨"FCU_STAT", 0x8, [], false, [⟨F.FCU_STAT_SIGVALID, .ro, 0⟩, ⟨F.FCU_STAT_SIGOK0, .ro, 0⟩, ⟨F.FCU_STAT_SIGOK1, .ro, 0⟩, ⟨F.FCU_STAT_LINC, .ro, 0⟩, ⟨F.FCU_STAT_CINC, .ro, 0⟩, ⟨F.FCU_STAT_BINC, .ro, 0⟩, ⟨F.FCU_STAT_RINC, .ro, 0⟩, ⟨F.FCU_STAT_LLIM, .ro, 0⟩, ⟨F.FCU_STAT_LFULL, .ro, 0⟩]⟩,
  ⟨"FCU_CAUSE", 0xc, [], false, [⟨F.FCU_CAUSE_LOVR, .w1c, 0⟩, ⟨F.FCU_CAUSE_COVR, .w1c, 0⟩, ⟨F.FCU_CAUSE_BOVR, .w1c, 0⟩, ⟨F.FCU_CAUSE_ROVR, .w1c, 0⟩, ⟨F.FCU_CAUSE_WERR, .w1c, 0⟩, ⟨F.FCU_CAUSE_CSAT, .w1c, 0⟩, ⟨F.FCU_CAUSE_CINV, .w1c, 0⟩, ⟨F.FCU_CAUSE_SMASK, .w1c, 0⟩, ⟨F.FCU_CAUSE_SIGDONE, .w1c, 0⟩, ⟨F.FCU_CAUSE_LFULL, .w1c, 0⟩]⟩,
  ⟨"FCU_CAUSE_EN", 0x10, [], false, [⟨F.FCU_CAUSE_EN_EN, .rw, 0⟩]⟩,
  ⟨"FCU_DPINS", 0x14, [], false, [⟨F.FCU_DPINS_PINS, .rw, 0⟩]⟩,
  ⟨"FCU_LLIMIT", 0x18, [], false, [⟨F.FCU_LLIMIT_N, .rw, 0⟩]⟩,
  ⟨"FCU_LBASE_LO", 0x20, [], false, [⟨F.FCU_LBASE_LO_ADDR, .rw, 0⟩]⟩,
  ⟨"FCU_LBASE_HI", 0x24, [], false, [⟨F.FCU_LBASE_HI_ADDR, .rw, 0⟩]⟩,
  ⟨"FCU_LSIZE", 0x30, [], false, [⟨F.FCU_LSIZE_SIZE, .rw, 4⟩]⟩,
  ⟨"FCU_CBASE_LO", 0x28, [], false, [⟨F.FCU_CBASE_LO_ADDR, .rw, 0⟩]⟩,
  ⟨"FCU_CBASE_HI", 0x2c, [], false, [⟨F.FCU_CBASE_HI_ADDR, .rw, 0⟩]⟩,
  ⟨"FCU_CSIZE", 0x34, [], false, [⟨F.FCU_CSIZE_SIZE, .rw, 4⟩]⟩,
  ⟨"FCU_LWPTR", 0x40, [], false, [⟨F.FCU_LWPTR_PTR, .ro, 0⟩]⟩,
  ⟨"FCU_LRPTR", 0x44, [], false, [⟨F.FCU_LRPTR_PTR, .rw, 0⟩]⟩,
  ⟨"FCU_CWPTR", 0x48, [], false, [⟨F.FCU_CWPTR_PTR, .ro, 0⟩]⟩]
def tabFCUb : List RegRow := [
  ⟨"FCU_CRPTR", 0x4c, [], false, [⟨F.FCU_CRPTR_PTR, .rw, 0⟩]⟩,
  ⟨"FCU_LLOST", 0x50, [], false, [⟨F.FCU_LLOST_COUNT, .ro, 0⟩]⟩,
  ⟨"FCU_CLOST", 0x54, [], false, [⟨F.FCU_CLOST_COUNT, .ro, 0⟩]⟩,
  ⟨"FCU_BLOST", 0x58, [], false, [⟨F.FCU_BLOST_COUNT, .ro, 0⟩]⟩,
  ⟨"FCU_RLOST", 0x5c, [], false, [⟨F.FCU_RLOST_COUNT, .ro, 0⟩]⟩,
  ⟨"FCU_MISR_LO", 0x60, [(2, 0x8)], false, [⟨F.FCU_MISR_LO_VALUE, .ro, 0xffffffff⟩]⟩,
  ⟨"FCU_MISR_HI", 0x64, [(2, 0x8)], false, [⟨F.FCU_MISR_HI_VALUE, .ro, 0xffffffff⟩]⟩,
  ⟨"FCU_MEXP_LO", 0x70, [(2, 0x8)], false, [⟨F.FCU_MEXP_LO_VALUE, .rw, 0⟩]⟩,
  ⟨"FCU_MEXP_HI", 0x74, [(2, 0x8)], false, [⟨F.FCU_MEXP_HI_VALUE, .rw, 0⟩]⟩,
  ⟨"FCU_PINSITE", 0x100, [(32, 0x4)], false, [⟨F.FCU_PINSITE_SITE, .rw, 0⟩, ⟨F.FCU_PINSITE_SHARED, .rw, 1⟩]⟩,
  ⟨"FCU_CNT_VAL", 0x1000, [(33, 0x8)], false, [⟨F.FCU_CNT_VAL_COUNT, .ro, 0⟩]⟩,
  ⟨"FCU_CNT_FLG", 0x1004, [(33, 0x8)], false, [⟨F.FCU_CNT_FLG_SAT, .ro, 0⟩, ⟨F.FCU_CNT_FLG_INVALID, .ro, 0⟩, ⟨F.FCU_CNT_FLG_ABSENT, .ro, 0⟩]⟩]
/-- The registers of block FCU: 05_fail_capture.md. -/
def tabFCU : List RegRow := tabFCUa ++ tabFCUb
def tabFCDa : List RegRow := [
  ⟨"FCD_CMD", 0x0, [], false, [⟨F.FCD_CMD_CLRSMASK, .wo, 0⟩, ⟨F.FCD_CMD_CLRSITE, .wo, 0⟩, ⟨F.FCD_CMD_BMFLUSH, .wo, 0⟩, ⟨F.FCD_CMD_BMCLR, .wo, 0⟩]⟩,
  ⟨"FCD_STAT", 0x4, [], false, [⟨F.FCD_STAT_BMBUSY, .ro, 0⟩, ⟨F.FCD_STAT_CMDERR, .w1c, 0⟩]⟩,
  ⟨"FCD_SMASK", 0x10, [(8, 0x4)], false, [⟨F.FCD_SMASK_MASK, .w1s, 0⟩]⟩,
  ⟨"FCD_SMOFF", 0x30, [(8, 0x4)], false, [⟨F.FCD_SMOFF_EN, .rw, 0⟩]⟩,
  ⟨"FCD_DIE_VAL", 0x50, [], false, [⟨F.FCD_DIE_VAL_COUNT, .ro, 0⟩]⟩,
  ⟨"FCD_DIE_FLG", 0x54, [], false, [⟨F.FCD_DIE_FLG_SAT, .ro, 0⟩, ⟨F.FCD_DIE_FLG_INVALID, .ro, 0⟩, ⟨F.FCD_DIE_FLG_ABSENT, .ro, 0⟩]⟩,
  ⟨"FCD_DEV_VAL", 0x58, [], true, [⟨F.FCD_DEV_VAL_COUNT, .ro, 0⟩]⟩,
  ⟨"FCD_DEV_FLG", 0x5c, [], true, [⟨F.FCD_DEV_FLG_SAT, .ro, 0⟩, ⟨F.FCD_DEV_FLG_INVALID, .ro, 0⟩, ⟨F.FCD_DEV_FLG_ABSENT, .ro, 0⟩]⟩,
  ⟨"FCD_BM_BASE_LO", 0x100, [(4, 0x20)], false, [⟨F.FCD_BM_BASE_LO_ADDR, .rw, 0⟩]⟩,
  ⟨"FCD_BM_BASE_HI", 0x104, [(4, 0x20)], false, [⟨F.FCD_BM_BASE_HI_ADDR, .rw, 0⟩]⟩,
  ⟨"FCD_BM_GEOM", 0x108, [(4, 0x20)], false, [⟨F.FCD_BM_GEOM_XW, .rw, 0⟩, ⟨F.FCD_BM_GEOM_YW, .rw, 0⟩, ⟨F.FCD_BM_GEOM_IW, .rw, 0⟩]⟩,
  ⟨"FCD_BM_STAT", 0x10c, [(4, 0x20)], false, [⟨F.FCD_BM_STAT_INCOMPLETE, .w1c, 0⟩, ⟨F.FCD_BM_STAT_GEOMERR, .w1c, 0⟩]⟩,
  ⟨"FCD_BM_LOST", 0x110, [(4, 0x20)], false, [⟨F.FCD_BM_LOST_COUNT, .ro, 0⟩]⟩,
  ⟨"FCD_BM_ERR", 0x114, [(4, 0x20)], false, [⟨F.FCD_BM_ERR_COUNT, .ro, 0⟩]⟩,
  ⟨"FCD_SITE_VAL", 0x1000, [(256, 0x8)], false, [⟨F.FCD_SITE_VAL_COUNT, .ro, 0⟩]⟩,
  ⟨"FCD_SITE_FLG", 0x1004, [(256, 0x8)], false, [⟨F.FCD_SITE_FLG_SAT, .ro, 0⟩, ⟨F.FCD_SITE_FLG_INVALID, .ro, 0⟩, ⟨F.FCD_SITE_FLG_ABSENT, .ro, 0⟩]⟩]
def tabFCDb : List RegRow := [
  ⟨"FCD_SITE_TOTVAL", 0x2000, [(256, 0x8)], true, [⟨F.FCD_SITE_TOTVAL_COUNT, .ro, 0⟩]⟩,
  ⟨"FCD_SITE_TOTFLG", 0x2004, [(256, 0x8)], true, [⟨F.FCD_SITE_TOTFLG_SAT, .ro, 0⟩, ⟨F.FCD_SITE_TOTFLG_INVALID, .ro, 0⟩, ⟨F.FCD_SITE_TOTFLG_ABSENT, .ro, 0⟩]⟩]
/-- The registers of block FCD: 05_fail_capture.md. -/
def tabFCD : List RegRow := tabFCDa ++ tabFCDb
def tabRAEa : List RegRow := [
  ⟨"RAE_CTRL", 0x0, [], false, [⟨F.RAE_CTRL_EN, .rw, 0⟩, ⟨F.RAE_CTRL_TLIM, .rw, 0x64⟩]⟩,
  ⟨"RAE_CMD", 0x4, [], false, [⟨F.RAE_CMD_SITE, .wo, 0⟩, ⟨F.RAE_CMD_OP, .wo, 0⟩]⟩,
  ⟨"RAE_STAT", 0x8, [], false, [⟨F.RAE_STAT_BUSY, .ro, 0⟩, ⟨F.RAE_STAT_CUTWAIT, .ro, 0⟩, ⟨F.RAE_STAT_CQ, .ro, 0⟩, ⟨F.RAE_STAT_LOSS, .ro, 0⟩, ⟨F.RAE_STAT_RFULL, .ro, 0⟩]⟩,
  ⟨"RAE_CAUSE", 0xc, [], false, [⟨F.RAE_CAUSE_SOLVED, .w1c, 0⟩, ⟨F.RAE_CAUSE_UNREP, .w1c, 0⟩, ⟨F.RAE_CAUSE_LOSS, .w1c, 0⟩, ⟨F.RAE_CAUSE_LATE, .w1c, 0⟩, ⟨F.RAE_CAUSE_BADMAP, .w1c, 0⟩, ⟨F.RAE_CAUSE_MEMERR, .w1c, 0⟩, ⟨F.RAE_CAUSE_CMDERR, .w1c, 0⟩, ⟨F.RAE_CAUSE_RFULL, .w1c, 0⟩, ⟨F.RAE_CAUSE_RWERR, .w1c, 0⟩]⟩,
  ⟨"RAE_CAUSE_EN", 0x10, [], false, [⟨F.RAE_CAUSE_EN_EN, .rw, 0⟩]⟩,
  ⟨"RAE_SEQ", 0x14, [], false, [⟨F.RAE_SEQ_SEQ, .ro, 0⟩]⟩,
  ⟨"RAE_LOSS_CNT", 0x20, [], false, [⟨F.RAE_LOSS_CNT_COUNT, .ro, 0⟩]⟩,
  ⟨"RAE_BADMAP_CNT", 0x24, [], false, [⟨F.RAE_BADMAP_CNT_COUNT, .ro, 0⟩]⟩,
  ⟨"RAE_LATE_CNT", 0x28, [], false, [⟨F.RAE_LATE_CNT_COUNT, .ro, 0⟩]⟩,
  ⟨"RAE_MISS_CNT", 0x2c, [], false, [⟨F.RAE_MISS_CNT_COUNT, .ro, 0⟩]⟩,
  ⟨"RAE_CMDLOST_CNT", 0x30, [], false, [⟨F.RAE_CMDLOST_CNT_COUNT, .ro, 0⟩]⟩,
  ⟨"RAE_SPBASE_LO", 0x40, [], false, [⟨F.RAE_SPBASE_LO_ADDR, .rw, 0⟩]⟩,
  ⟨"RAE_SPBASE_HI", 0x44, [], false, [⟨F.RAE_SPBASE_HI_ADDR, .rw, 0⟩]⟩,
  ⟨"RAE_RBASE_LO", 0x48, [], false, [⟨F.RAE_RBASE_LO_ADDR, .rw, 0⟩]⟩,
  ⟨"RAE_RBASE_HI", 0x4c, [], false, [⟨F.RAE_RBASE_HI_ADDR, .rw, 0⟩]⟩,
  ⟨"RAE_RSIZE", 0x50, [], false, [⟨F.RAE_RSIZE_SIZE, .rw, 4⟩]⟩]
def tabRAEb : List RegRow := [
  ⟨"RAE_RWPTR", 0x54, [], false, [⟨F.RAE_RWPTR_PTR, .ro, 0⟩]⟩,
  ⟨"RAE_RRPTR", 0x58, [], false, [⟨F.RAE_RRPTR_PTR, .rw, 0⟩]⟩,
  ⟨"RAE_TMPL_GEOM", 0x100, [(16, 0x10)], false, [⟨F.RAE_TMPL_GEOM_RW, .rw, 0⟩, ⟨F.RAE_TMPL_GEOM_XSH, .rw, 0⟩, ⟨F.RAE_TMPL_GEOM_CYW, .rw, 0⟩, ⟨F.RAE_TMPL_GEOM_YSH, .rw, 0⟩]⟩,
  ⟨"RAE_TMPL_DOM", 0x104, [(16, 0x10)], false, [⟨F.RAE_TMPL_DOM_IW, .rw, 0⟩, ⟨F.RAE_TMPL_DOM_XDW, .rw, 0⟩, ⟨F.RAE_TMPL_DOM_YDW, .rw, 0⟩, ⟨F.RAE_TMPL_DOM_IDW, .rw, 0⟩]⟩,
  ⟨"RAE_TMPL_SPARE", 0x108, [(16, 0x10)], false, [⟨F.RAE_TMPL_SPARE_SR, .rw, 0⟩, ⟨F.RAE_TMPL_SPARE_SC, .rw, 0⟩]⟩,
  ⟨"RAE_SITE", 0x1000, [(256, 0x4)], false, [⟨F.RAE_SITE_DBASE, .rw, 0⟩, ⟨F.RAE_SITE_TMPL, .rw, 0⟩, ⟨F.RAE_SITE_EN, .rw, 0⟩]⟩]
/-- The registers of block RAE: 06_repair_analysis.md. -/
def tabRAE : List RegRow := tabRAEa ++ tabRAEb
def tabMDSPa : List RegRow := [
  ⟨"MDSP_CTRL", 0x0, [], false, [⟨F.MDSP_CTRL_START, .wo, 0⟩, ⟨F.MDSP_CTRL_STOP, .wo, 0⟩]⟩,
  ⟨"MDSP_STAT", 0x4, [], false, [⟨F.MDSP_STAT_STATE, .ro, 0⟩, ⟨F.MDSP_STAT_DEPTH, .ro, 0⟩, ⟨F.MDSP_STAT_RDEPTH, .ro, 0⟩, ⟨F.MDSP_STAT_CACHED, .ro, 0⟩]⟩,
  ⟨"MDSP_ENTRY", 0x8, [], false, [⟨F.MDSP_ENTRY_ADDR, .rw, 0⟩]⟩,
  ⟨"MDSP_PC", 0xc, [], false, [⟨F.MDSP_PC_ADDR, .ro, 0⟩]⟩,
  ⟨"MDSP_FAULT", 0x10, [], false, [⟨F.MDSP_FAULT_CODE, .ro, 0⟩, ⟨F.MDSP_FAULT_ADDR, .ro, 0⟩]⟩,
  ⟨"MDSP_CAUSE", 0x14, [], false, [⟨F.MDSP_CAUSE_HALT, .w1c, 0⟩, ⟨F.MDSP_CAUSE_FAULT, .w1c, 0⟩, ⟨F.MDSP_CAUSE_SIG, .w1c, 0⟩, ⟨F.MDSP_CAUSE_EVOVF, .w1c, 0⟩, ⟨F.MDSP_CAUSE_ECCCOR, .w1c, 0⟩, ⟨F.MDSP_CAUSE_CMDERR, .w1c, 0⟩]⟩,
  ⟨"MDSP_CAUSE_EN", 0x18, [], false, [⟨F.MDSP_CAUSE_EN_EN, .rw, 0⟩]⟩,
  ⟨"MDSP_SCODE", 0x1c, [], false, [⟨F.MDSP_SCODE_CODE, .ro, 0⟩]⟩,
  ⟨"MDSP_CYC", 0x20, [], false, [⟨F.MDSP_CYC_COUNT, .ro, 0⟩]⟩,
  ⟨"MDSP_EVSET", 0x24, [], false, [⟨F.MDSP_EVSET_EVENT, .wo, 0⟩]⟩,
  ⟨"MDSP_EVPEND", 0x40, [(8, 0x4)], false, [⟨F.MDSP_EVPEND_PEND, .ro, 0⟩]⟩,
  ⟨"MDSP_REG", 0x100, [(63, 0x4)], false, [⟨F.MDSP_REG_VALUE, .rw, 0⟩]⟩]
/-- The registers of block MDSP: 07_measurement_dsp.md. -/
def tabMDSP : List RegRow := tabMDSPa
def tabPTa : List RegRow := [
  ⟨"PT_LO", 0x0, [], false, [⟨F.PT_LO_PT, .ro, 0⟩]⟩,
  ⟨"PT_HI", 0x4, [], false, [⟨F.PT_HI_PT, .ro, 0⟩]⟩,
  ⟨"PT_FRAC", 0x8, [], false, [⟨F.PT_FRAC_FRAC, .ro, 0⟩]⟩,
  ⟨"PT_STAT", 0xc, [], false, [⟨F.PT_STAT_ALIGNED, .ro, 0⟩, ⟨F.PT_STAT_HOLD, .ro, 0⟩]⟩]
/-- The registers of block PT: 08_time_sync_scaleout.md. -/
def tabPT : List RegRow := tabPTa
def tabTSYa : List RegRow := [
  ⟨"TSY_CTRL", 0x0, [], false, [⟨F.TSY_CTRL_DEVID, .rw, 0⟩, ⟨F.TSY_CTRL_REFSRC, .rw, 0⟩, ⟨F.TSY_CTRL_STBY, .rw, 0⟩, ⟨F.TSY_CTRL_UPPRI, .rw, 0⟩, ⟨F.TSY_CTRL_UPSEC, .rw, 0⟩, ⟨F.TSY_CTRL_SECEN, .rw, 0⟩]⟩,
  ⟨"TSY_STAT", 0x4, [], false, [⟨F.TSY_STAT_ROLE, .ro, 0⟩, ⟨F.TSY_STAT_TREE, .ro, 0⟩, ⟨F.TSY_STAT_DEPTH, .ro, 0⟩, ⟨F.TSY_STAT_UPACT, .ro, 0⟩, ⟨F.TSY_STAT_MGR, .ro, 0⟩]⟩,
  ⟨"TSY_CAUSE", 0x8, [], false, [⟨F.TSY_CAUSE_LINKDN, .w1c, 0⟩, ⟨F.TSY_CAUSE_FAILOVER, .w1c, 0⟩, ⟨F.TSY_CAUSE_TOPO, .w1c, 0⟩, ⟨F.TSY_CAUSE_DUPID, .w1c, 0⟩, ⟨F.TSY_CAUSE_GLOST, .w1c, 0⟩, ⟨F.TSY_CAUSE_BLATE, .w1c, 0⟩, ⟨F.TSY_CAUSE_HDRIFT, .w1c, 0⟩, ⟨F.TSY_CAUSE_TAKEOVER, .w1c, 0⟩, ⟨F.TSY_CAUSE_SLOTERR, .w1c, 0⟩, ⟨F.TSY_CAUSE_CMDERR, .w1c, 0⟩]⟩,
  ⟨"TSY_CAUSE_EN", 0xc, [], false, [⟨F.TSY_CAUSE_EN_EN, .rw, 0⟩]⟩,
  ⟨"TSY_PTOFS", 0x10, [], false, [⟨F.TSY_PTOFS_OFS, .ro, 0⟩]⟩,
  ⟨"TSY_BCAST_PT_LO", 0x20, [], false, [⟨F.TSY_BCAST_PT_LO_PT, .rw, 0⟩]⟩,
  ⟨"TSY_BCAST_PT_HI", 0x24, [], false, [⟨F.TSY_BCAST_PT_HI_PT, .rw, 0⟩]⟩,
  ⟨"TSY_BCAST_CTRL", 0x28, [], false, [⟨F.TSY_BCAST_CTRL_CLASS, .rw, 0⟩, ⟨F.TSY_BCAST_CTRL_GO, .wo, 0⟩]⟩,
  ⟨"TSY_PORT_CTRL", 0x100, [(12, 0x10)], false, [⟨F.TSY_PORT_CTRL_EN, .rw, 0⟩]⟩,
  ⟨"TSY_PORT_STAT", 0x104, [(12, 0x10)], false, [⟨F.TSY_PORT_STAT_STATE, .ro, 0⟩, ⟨F.TSY_PORT_STAT_UP, .ro, 0⟩]⟩,
  ⟨"TSY_PORT_HOP", 0x108, [(12, 0x10)], false, [⟨F.TSY_PORT_HOP_H, .ro, 0⟩]⟩,
  ⟨"TSY_PORT_FEC", 0x10c, [(12, 0x10)], false, [⟨F.TSY_PORT_FEC_COUNT, .ro, 0⟩]⟩,
  ⟨"TSY_GCLASS", 0x200, [(24, 0x4)], false, [⟨F.TSY_GCLASS_CLASS, .rw, 0⟩, ⟨F.TSY_GCLASS_EN, .rw, 0⟩]⟩,
  ⟨"TSY_GANG_CFG", 0x300, [(16, 0x10)], false, [⟨F.TSY_GANG_CFG_LG, .rw, 0x190⟩, ⟨F.TSY_GANG_CFG_COMB, .rw, 0⟩, ⟨F.TSY_GANG_CFG_EN, .rw, 0⟩]⟩,
  ⟨"TSY_GANG_MLO", 0x304, [(16, 0x10)], false, [⟨F.TSY_GANG_MLO_MASK, .rw, 0⟩]⟩,
  ⟨"TSY_GANG_MHI", 0x308, [(16, 0x10)], false, [⟨F.TSY_GANG_MHI_MASK, .rw, 0⟩]⟩]
/-- The registers of block TSY: 08_time_sync_scaleout.md. -/
def tabTSY : List RegRow := tabTSYa
def tabLEDa : List RegRow := [
  ⟨"LED_CTRL", 0x0, [], false, [⟨F.LED_CTRL_EN, .rw, 0⟩, ⟨F.LED_CTRL_TKEN, .rw, 0⟩, ⟨F.LED_CTRL_SIZE, .rw, 4⟩]⟩,
  ⟨"LED_COMMIT", 0x4, [], false, [⟨F.LED_COMMIT_COUNT, .wo, 0⟩]⟩,
  ⟨"LED_STAT", 0x8, [], false, [⟨F.LED_STAT_STATE, .ro, 0⟩, ⟨F.LED_STAT_TAKEN, .ro, 0⟩]⟩,
  ⟨"LED_CAUSE", 0xc, [], false, [⟨F.LED_CAUSE_PAIRED, .w1c, 0⟩, ⟨F.LED_CAUSE_MATELOST, .w1c, 0⟩, ⟨F.LED_CAUSE_TAKEN, .w1c, 0⟩, ⟨F.LED_CAUSE_FULL, .w1c, 0⟩, ⟨F.LED_CAUSE_MERR, .w1c, 0⟩, ⟨F.LED_CAUSE_CFG, .w1c, 0⟩, ⟨F.LED_CAUSE_CMDERR, .w1c, 0⟩]⟩,
  ⟨"LED_CAUSE_EN", 0x10, [], false, [⟨F.LED_CAUSE_EN_EN, .rw, 0⟩]⟩,
  ⟨"LED_EPOCH", 0x14, [], false, [⟨F.LED_EPOCH_EPOCH, .rw, 0⟩]⟩,
  ⟨"LED_BASE_LO", 0x20, [], false, [⟨F.LED_BASE_LO_ADDR, .rw, 0⟩]⟩,
  ⟨"LED_BASE_HI", 0x24, [], false, [⟨F.LED_BASE_HI_ADDR, .rw, 0⟩]⟩,
  ⟨"LED_MBASE_LO", 0x28, [], false, [⟨F.LED_MBASE_LO_ADDR, .rw, 0⟩]⟩,
  ⟨"LED_MBASE_HI", 0x2c, [], false, [⟨F.LED_MBASE_HI_ADDR, .rw, 0⟩]⟩,
  ⟨"LED_NEXTSEQ_LO", 0x40, [], false, [⟨F.LED_NEXTSEQ_LO_SEQ, .rw, 0⟩]⟩,
  ⟨"LED_NEXTSEQ_HI", 0x44, [], false, [⟨F.LED_NEXTSEQ_HI_SEQ, .rw, 0⟩]⟩,
  ⟨"LED_MSEQ_LO", 0x48, [], false, [⟨F.LED_MSEQ_LO_SEQ, .ro, 0⟩]⟩,
  ⟨"LED_MSEQ_HI", 0x4c, [], false, [⟨F.LED_MSEQ_HI_SEQ, .ro, 0⟩]⟩,
  ⟨"LED_RSEQ_LO", 0x50, [], false, [⟨F.LED_RSEQ_LO_SEQ, .rw, 0⟩]⟩,
  ⟨"LED_RSEQ_HI", 0x54, [], false, [⟨F.LED_RSEQ_HI_SEQ, .rw, 0⟩]⟩]
def tabLEDb : List RegRow := [
  ⟨"LED_TSEQ_LO", 0x58, [], false, [⟨F.LED_TSEQ_LO_SEQ, .ro, 0⟩]⟩,
  ⟨"LED_TSEQ_HI", 0x5c, [], false, [⟨F.LED_TSEQ_HI_SEQ, .ro, 0⟩]⟩]
/-- The registers of block LED: 08_time_sync_scaleout.md. -/
def tabLED : List RegRow := tabLEDa ++ tabLEDb
def tabFABa : List RegRow := [
  ⟨"FAB_STAT", 0x0, [], false, [⟨F.FAB_STAT_GSR, .ro, 1⟩, ⟨F.FAB_STAT_WREN, .ro, 0⟩, ⟨F.FAB_STAT_BANKOK, .ro, 0⟩, ⟨F.FAB_STAT_IRQ, .ro, 0⟩]⟩,
  ⟨"FAB_CAUSE", 0x4, [], false, [⟨F.FAB_CAUSE_IRQ, .w1c, 0⟩, ⟨F.FAB_CAUSE_TMERGE, .w1c, 0⟩, ⟨F.FAB_CAUSE_BANKV, .w1c, 0⟩, ⟨F.FAB_CAUSE_LATE, .w1c, 0⟩, ⟨F.FAB_CAUSE_PROTO, .w1c, 0⟩, ⟨F.FAB_CAUSE_FCSLOCK, .w1c, 0⟩]⟩,
  ⟨"FAB_CAUSE_EN", 0x8, [], false, [⟨F.FAB_CAUSE_EN_EN, .rw, 0⟩]⟩,
  ⟨"FAB_FCS_CTRL", 0x10, [(2, 0x4)], false, [⟨F.FAB_FCS_CTRL_EN, .rw, 0⟩, ⟨F.FAB_FCS_CTRL_DIV, .rw, 2⟩]⟩,
  ⟨"FAB_FCS_STAT", 0x18, [(2, 0x4)], false, [⟨F.FAB_FCS_STAT_LOCKED, .ro, 0⟩]⟩,
  ⟨"FAB_PORT_STAT", 0x40, [(16, 0x4)], false, [⟨F.FAB_PORT_STAT_INIT, .ro, 0⟩, ⟨F.FAB_PORT_STAT_TGT, .ro, 0⟩, ⟨F.FAB_PORT_STAT_ABSENT, .ro, 1⟩, ⟨F.FAB_PORT_STAT_OUTST, .ro, 0⟩]⟩]
/-- The registers of block FAB: 09_fabric.md. -/
def tabFAB : List RegRow := tabFABa
def tabSEAMa : List RegRow := [
  ⟨"SEAM_CTRL", 0x0, [], false, [⟨F.SEAM_CTRL_RETRAIN, .wo, 0⟩, ⟨F.SEAM_CTRL_FENCE, .wo, 0⟩, ⟨F.SEAM_CTRL_ETHR, .rw, 8⟩]⟩,
  ⟨"SEAM_STAT", 0x4, [], false, [⟨F.SEAM_STAT_STATE, .ro, 0⟩, ⟨F.SEAM_STAT_ATTEMPT, .ro, 0⟩, ⟨F.SEAM_STAT_FALLBK, .ro, 0⟩, ⟨F.SEAM_STAT_FABREL, .ro, 0⟩, ⟨F.SEAM_STAT_SPTX, .ro, 0⟩, ⟨F.SEAM_STAT_SPRX, .ro, 0⟩]⟩,
  ⟨"SEAM_ROLE", 0x8, [], false, [⟨F.SEAM_ROLE_PROM, .ro, 0⟩, ⟨F.SEAM_ROLE_FAB, .ro, 0⟩, ⟨F.SEAM_ROLE_SYNC, .ro, 0⟩, ⟨F.SEAM_ROLE_SPARE, .ro, 0⟩]⟩,
  ⟨"SEAM_CAUSE", 0x70, [], false, [⟨F.SEAM_CAUSE_UP, .w1c, 0⟩, ⟨F.SEAM_CAUSE_FENCED, .w1c, 0⟩, ⟨F.SEAM_CAUSE_SPARED, .w1c, 0⟩, ⟨F.SEAM_CAUSE_DEGR, .w1c, 0⟩, ⟨F.SEAM_CAUSE_ROLEMIS, .w1c, 0⟩, ⟨F.SEAM_CAUSE_FABERR, .w1c, 0⟩]⟩,
  ⟨"SEAM_CAUSE_EN", 0x74, [], false, [⟨F.SEAM_CAUSE_EN_EN, .rw, 0⟩]⟩,
  ⟨"SEAM_RETRY_CNT", 0x78, [], false, [⟨F.SEAM_RETRY_CNT_COUNT, .ro, 0⟩]⟩,
  ⟨"SEAM_FABERR_CNT", 0x7c, [], false, [⟨F.SEAM_FABERR_CNT_COUNT, .ro, 0⟩]⟩,
  ⟨"SEAM_LMAP_TX", 0x10, [(12, 0x4)], false, [⟨F.SEAM_LMAP_TX_ROLE0, .ro, 4⟩, ⟨F.SEAM_LMAP_TX_IDX0, .ro, 0⟩, ⟨F.SEAM_LMAP_TX_ROLE1, .ro, 4⟩, ⟨F.SEAM_LMAP_TX_IDX1, .ro, 0⟩, ⟨F.SEAM_LMAP_TX_ROLE2, .ro, 4⟩, ⟨F.SEAM_LMAP_TX_IDX2, .ro, 0⟩, ⟨F.SEAM_LMAP_TX_ROLE3, .ro, 4⟩, ⟨F.SEAM_LMAP_TX_IDX3, .ro, 0⟩]⟩,
  ⟨"SEAM_LMAP_RX", 0x40, [(12, 0x4)], false, [⟨F.SEAM_LMAP_RX_ROLE0, .ro, 4⟩, ⟨F.SEAM_LMAP_RX_IDX0, .ro, 0⟩, ⟨F.SEAM_LMAP_RX_ROLE1, .ro, 4⟩, ⟨F.SEAM_LMAP_RX_IDX1, .ro, 0⟩, ⟨F.SEAM_LMAP_RX_ROLE2, .ro, 4⟩, ⟨F.SEAM_LMAP_RX_IDX2, .ro, 0⟩, ⟨F.SEAM_LMAP_RX_ROLE3, .ro, 4⟩, ⟨F.SEAM_LMAP_RX_IDX3, .ro, 0⟩]⟩,
  ⟨"SEAM_FVAL", 0x100, [(24, 0x4)], false, [⟨F.SEAM_FVAL_FV0, .rw, 0⟩, ⟨F.SEAM_FVAL_FV1, .rw, 0⟩, ⟨F.SEAM_FVAL_FV2, .rw, 0⟩, ⟨F.SEAM_FVAL_FV3, .rw, 0⟩, ⟨F.SEAM_FVAL_FV4, .rw, 0⟩, ⟨F.SEAM_FVAL_FV5, .rw, 0⟩, ⟨F.SEAM_FVAL_FV6, .rw, 0⟩, ⟨F.SEAM_FVAL_FV7, .rw, 0⟩, ⟨F.SEAM_FVAL_FV8, .rw, 0⟩, ⟨F.SEAM_FVAL_FV9, .rw, 0⟩, ⟨F.SEAM_FVAL_FV10, .rw, 0⟩, ⟨F.SEAM_FVAL_FV11, .rw, 0⟩, ⟨F.SEAM_FVAL_FV12, .rw, 0⟩, ⟨F.SEAM_FVAL_FV13, .rw, 0⟩, ⟨F.SEAM_FVAL_FV14, .rw, 0⟩, ⟨F.SEAM_FVAL_FV15, .rw, 0⟩]⟩]
/-- The registers of block SEAM: 10_seams.md. -/
def tabSEAM : List RegRow := tabSEAMa
def tabSEAMDa : List RegRow := [
  ⟨"SEAM_DIEID", 0x0, [], false, [⟨F.SEAM_DIEID_ID, .ro, 0⟩, ⟨F.SEAM_DIEID_ROOT, .ro, 0⟩, ⟨F.SEAM_DIEID_ROW, .ro, 0⟩, ⟨F.SEAM_DIEID_COL, .ro, 0⟩, ⟨F.SEAM_DIEID_PORTS, .ro, 0⟩]⟩,
  ⟨"SEAM_DSTAT", 0x4, [], false, [⟨F.SEAM_DSTAT_ABSENT, .ro, 0⟩]⟩,
  ⟨"SEAM_ROUTE", 0x10, [(6, 0x4)], false, [⟨F.SEAM_ROUTE_PRI, .rw, 0⟩, ⟨F.SEAM_ROUTE_ALT, .rw, 0⟩]⟩]
/-- The registers of block SEAMD: 10_seams.md. -/
def tabSEAMD : List RegRow := tabSEAMDa
def tabCFGa : List RegRow := [
  ⟨"CFG_CTRL", 0x0, [], true, [⟨F.CFG_CTRL_RELOAD, .wo, 0⟩, ⟨F.CFG_CTRL_HOSTLOAD, .wo, 0⟩, ⟨F.CFG_CTRL_PLOAD, .wo, 0⟩, ⟨F.CFG_CTRL_DIELOAD, .wo, 0⟩, ⟨F.CFG_CTRL_DSRC, .rw, 0⟩, ⟨F.CFG_CTRL_DIE, .rw, 0⟩, ⟨F.CFG_CTRL_ABORT, .wo, 0⟩]⟩,
  ⟨"CFG_STAT", 0x4, [], true, [⟨F.CFG_STAT_STATE, .ro, 0⟩, ⟨F.CFG_STAT_BUSY, .ro, 0⟩, ⟨F.CFG_STAT_ENCSEEN, .ro, 0⟩, ⟨F.CFG_STAT_OCTAL, .ro, 0⟩, ⟨F.CFG_STAT_SLOT, .ro, 0⟩, ⟨F.CFG_STAT_INITB, .ro, 0⟩, ⟨F.CFG_STAT_DONE, .ro, 0⟩]⟩,
  ⟨"CFG_ERR", 0x8, [], true, [⟨F.CFG_ERR_CODE, .ro, 0⟩, ⟨F.CFG_ERR_SRC, .ro, 0⟩, ⟨F.CFG_ERR_SLOT, .ro, 0⟩, ⟨F.CFG_ERR_DIE, .ro, 0⟩, ⟨F.CFG_ERR_LEG, .ro, 0⟩]⟩,
  ⟨"CFG_DESIGNID", 0xc, [], true, [⟨F.CFG_DESIGNID_ID, .ro, 0⟩]⟩,
  ⟨"CFG_DSTAT", 0x20, [], false, [⟨F.CFG_DSTAT_CONF, .ro, 0⟩, ⟨F.CFG_DSTAT_LOADING, .ro, 0⟩]⟩,
  ⟨"CFG_CAUSE", 0x24, [], false, [⟨F.CFG_CAUSE_LOADOK, .w1c, 0⟩, ⟨F.CFG_CAUSE_LOADERR, .w1c, 0⟩, ⟨F.CFG_CAUSE_PLOADOK, .w1c, 0⟩, ⟨F.CFG_CAUSE_PLOADERR, .w1c, 0⟩, ⟨F.CFG_CAUSE_SCRUBSBE, .w1c, 0⟩, ⟨F.CFG_CAUSE_SCRUBMBE, .w1c, 0⟩, ⟨F.CFG_CAUSE_SCRUBTMR, .w1c, 0⟩, ⟨F.CFG_CAUSE_CMDERR, .w1c, 0⟩]⟩,
  ⟨"CFG_CAUSE_EN", 0x28, [], false, [⟨F.CFG_CAUSE_EN_EN, .rw, 0⟩]⟩,
  ⟨"CFG_MDCTRL", 0x30, [], false, [⟨F.CFG_MDCTRL_MEADOW, .rw, 0⟩, ⟨F.CFG_MDCTRL_FENCE, .wo, 0⟩, ⟨F.CFG_MDCTRL_UNFENCE, .wo, 0⟩]⟩,
  ⟨"CFG_MDDEF", 0x34, [], false, [⟨F.CFG_MDDEF_MASK, .ro, 0⟩]⟩,
  ⟨"CFG_MDFENCE", 0x38, [], false, [⟨F.CFG_MDFENCE_MASK, .ro, 0⟩]⟩,
  ⟨"CFG_SCRUB_CTRL", 0x40, [], false, [⟨F.CFG_SCRUB_CTRL_EN, .rw, 1⟩, ⟨F.CFG_SCRUB_CTRL_MBEFENCE, .rw, 0⟩, ⟨F.CFG_SCRUB_CTRL_CLR, .wo, 0⟩]⟩,
  ⟨"CFG_SCRUB_SBE", 0x44, [], false, [⟨F.CFG_SCRUB_SBE_VALUE, .ro, 0⟩]⟩,
  ⟨"CFG_SCRUB_MBE", 0x48, [], false, [⟨F.CFG_SCRUB_MBE_VALUE, .ro, 0⟩]⟩,
  ⟨"CFG_SCRUB_MBEADDR", 0x4c, [], false, [⟨F.CFG_SCRUB_MBEADDR_VALUE, .ro, 0⟩]⟩,
  ⟨"CFG_RBADDR", 0x60, [], false, [⟨F.CFG_RBADDR_FA, .rw, 0⟩]⟩,
  ⟨"CFG_RBDATA", 0x1000, [(144, 0x4)], false, [⟨F.CFG_RBDATA_WORD, .ro, 0⟩]⟩]
def tabCFGb : List RegRow := [
  ⟨"CFG_DATA", 0x2000, [(1024, 0x4)], true, [⟨F.CFG_DATA_BYTES, .wo, 0⟩]⟩]
/-- The registers of block CFG: 11_configuration.md. -/
def tabCFG : List RegRow := tabCFGa ++ tabCFGb
def tabPROMa : List RegRow := [
  ⟨"PROM_TMO", 0x0, [], false, [⟨F.PROM_TMO_US, .rw, 0x2710⟩]⟩,
  ⟨"PROM_CAUSE", 0x4, [], false, [⟨F.PROM_CAUSE_TMO, .w1c, 0⟩, ⟨F.PROM_CAUSE_LATE, .w1c, 0⟩, ⟨F.PROM_CAUSE_CMDERR, .w1c, 0⟩, ⟨F.PROM_CAUSE_SCRDONE, .w1c, 0⟩]⟩,
  ⟨"PROM_CAUSE_EN", 0x8, [], false, [⟨F.PROM_CAUSE_EN_EN, .rw, 0⟩]⟩,
  ⟨"PROM_TMO_CNT", 0xc, [], false, [⟨F.PROM_TMO_CNT_COUNT, .ro, 0⟩]⟩,
  ⟨"PROM_TSRC", 0x10, [], false, [⟨F.PROM_TSRC_SRC, .ro, 0⟩]⟩,
  ⟨"PROM_TADDR_LO", 0x14, [], false, [⟨F.PROM_TADDR_LO_ADDR, .ro, 0⟩]⟩,
  ⟨"PROM_TADDR_HI", 0x18, [], false, [⟨F.PROM_TADDR_HI_ADDR, .ro, 0⟩]⟩,
  ⟨"PROM_REG_BASE", 0x100, [(16, 0x10)], false, [⟨F.PROM_REG_BASE_BASE, .rw, 0⟩]⟩,
  ⟨"PROM_REG_SIZE", 0x104, [(16, 0x10)], false, [⟨F.PROM_REG_SIZE_SIZE, .rw, 0⟩]⟩,
  ⟨"PROM_REG_CTRL", 0x108, [(16, 0x10)], false, [⟨F.PROM_REG_CTRL_EN, .rw, 0⟩, ⟨F.PROM_REG_CTRL_KIND, .rw, 0⟩, ⟨F.PROM_REG_CTRL_COUNT, .rw, 0⟩, ⟨F.PROM_REG_CTRL_DIE, .rw, 0⟩, ⟨F.PROM_REG_CTRL_CHBASE, .rw, 0⟩, ⟨F.PROM_REG_CTRL_DMASK, .rw, 0⟩, ⟨F.PROM_REG_CTRL_GRAIN, .rw, 0⟩]⟩,
  ⟨"PROM_REG_CHOFS", 0x10c, [(16, 0x10)], false, [⟨F.PROM_REG_CHOFS_CHOFS, .rw, 0⟩]⟩,
  ⟨"PROM_SCR_CTRL", 0x200, [], false, [⟨F.PROM_SCR_CTRL_GO, .wo, 0⟩, ⟨F.PROM_SCR_CTRL_STOP, .wo, 0⟩, ⟨F.PROM_SCR_CTRL_FIX, .rw, 1⟩]⟩,
  ⟨"PROM_SCR_STAT", 0x204, [], false, [⟨F.PROM_SCR_STAT_BUSY, .ro, 0⟩, ⟨F.PROM_SCR_STAT_CUT, .ro, 0⟩, ⟨F.PROM_SCR_STAT_NEXT, .ro, 0⟩]⟩,
  ⟨"PROM_SCR_START_LO", 0x208, [], false, [⟨F.PROM_SCR_START_LO_ADDR, .rw, 0⟩]⟩,
  ⟨"PROM_SCR_START_HI", 0x20c, [], false, [⟨F.PROM_SCR_START_HI_ADDR, .rw, 0⟩]⟩,
  ⟨"PROM_SCR_END_LO", 0x210, [], false, [⟨F.PROM_SCR_END_LO_ADDR, .rw, 0⟩]⟩]
def tabPROMb : List RegRow := [
  ⟨"PROM_SCR_END_HI", 0x214, [], false, [⟨F.PROM_SCR_END_HI_ADDR, .rw, 0⟩]⟩,
  ⟨"PROM_SCR_CHK", 0x218, [], false, [⟨F.PROM_SCR_CHK_COUNT, .ro, 0⟩]⟩,
  ⟨"PROM_SCR_COR", 0x21c, [], false, [⟨F.PROM_SCR_COR_COUNT, .ro, 0⟩]⟩,
  ⟨"PROM_SCR_UNC", 0x220, [], false, [⟨F.PROM_SCR_UNC_COUNT, .ro, 0⟩]⟩,
  ⟨"PROM_SCR_FIRST_LO", 0x228, [], false, [⟨F.PROM_SCR_FIRST_LO_ADDR, .ro, 0⟩]⟩,
  ⟨"PROM_SCR_FIRST_HI", 0x22c, [], false, [⟨F.PROM_SCR_FIRST_HI_ADDR, .ro, 0⟩]⟩,
  ⟨"PROM_SCR_LAST_LO", 0x230, [], false, [⟨F.PROM_SCR_LAST_LO_ADDR, .ro, 0⟩]⟩,
  ⟨"PROM_SCR_LAST_HI", 0x234, [], false, [⟨F.PROM_SCR_LAST_HI_ADDR, .ro, 0⟩]⟩]
/-- The registers of block PROM: 12_memory_system.md. -/
def tabPROM : List RegRow := tabPROMa ++ tabPROMb
def tabMEMPa : List RegRow := [
  ⟨"MEMP_CTRL", 0x0, [], false, [⟨F.MEMP_CTRL_INIT, .wo, 0⟩, ⟨F.MEMP_CTRL_ZERO, .wo, 0⟩, ⟨F.MEMP_CTRL_RATE, .rw, 4⟩, ⟨F.MEMP_CTRL_EXPD, .rw, 0⟩, ⟨F.MEMP_CTRL_REFMODE, .rw, 0⟩, ⟨F.MEMP_CTRL_POSTPONE, .rw, 8⟩]⟩,
  ⟨"MEMP_STAT", 0x4, [], false, [⟨F.MEMP_STAT_STATE, .ro, 0⟩, ⟨F.MEMP_STAT_DENS, .ro, 0⟩, ⟨F.MEMP_STAT_OWED, .ro, 0⟩]⟩,
  ⟨"MEMP_CAUSE", 0x8, [], false, [⟨F.MEMP_CAUSE_READY, .w1c, 0⟩, ⟨F.MEMP_CAUSE_TRAINERR, .w1c, 0⟩, ⟨F.MEMP_CAUSE_CECC, .w1c, 0⟩, ⟨F.MEMP_CAUSE_UECC, .w1c, 0⟩, ⟨F.MEMP_CAUSE_PWREF, .w1c, 0⟩, ⟨F.MEMP_CAUSE_EDCFAIL, .w1c, 0⟩, ⟨F.MEMP_CAUSE_RHTHR, .w1c, 0⟩, ⟨F.MEMP_CAUSE_RHFC, .w1c, 0⟩, ⟨F.MEMP_CAUSE_CMDERR, .w1c, 0⟩]⟩,
  ⟨"MEMP_CAUSE_EN", 0xc, [], false, [⟨F.MEMP_CAUSE_EN_EN, .rw, 0⟩]⟩,
  ⟨"MEMP_RH_CTRL", 0x10, [], false, [⟨F.MEMP_RH_CTRL_EN, .rw, 1⟩, ⟨F.MEMP_RH_CTRL_WIN, .rw, 1⟩, ⟨F.MEMP_RH_CTRL_GAP, .rw, 0x64⟩]⟩,
  ⟨"MEMP_RH_THR", 0x14, [], false, [⟨F.MEMP_RH_THR_THR, .rw, 0x4000⟩]⟩,
  ⟨"MEMP_RH_SRC", 0x18, [], false, [⟨F.MEMP_RH_SRC_SRC, .ro, 0⟩, ⟨F.MEMP_RH_SRC_CH, .ro, 0⟩, ⟨F.MEMP_RH_SRC_BANK, .ro, 0⟩]⟩,
  ⟨"MEMP_CE_CNT", 0x20, [], false, [⟨F.MEMP_CE_CNT_COUNT, .ro, 0⟩]⟩,
  ⟨"MEMP_UE_CNT", 0x24, [], false, [⟨F.MEMP_UE_CNT_COUNT, .ro, 0⟩]⟩,
  ⟨"MEMP_EDC_CNT", 0x28, [], false, [⟨F.MEMP_EDC_CNT_COUNT, .ro, 0⟩]⟩,
  ⟨"MEMP_RH_CNT", 0x2c, [], false, [⟨F.MEMP_RH_CNT_COUNT, .ro, 0⟩]⟩,
  ⟨"MEMP_ELOG_LO", 0x30, [], false, [⟨F.MEMP_ELOG_LO_ADDR, .ro, 0⟩]⟩,
  ⟨"MEMP_ELOG_HI", 0x34, [], false, [⟨F.MEMP_ELOG_HI_ADDR, .ro, 0⟩, ⟨F.MEMP_ELOG_HI_KIND, .ro, 0⟩, ⟨F.MEMP_ELOG_HI_SRC, .ro, 0⟩]⟩]
/-- The registers of block MEMP: 12_memory_system.md. -/
def tabMEMP : List RegRow := tabMEMPa
def tabVLTa : List RegRow := [
  ⟨"VLT_CAUSE", 0x0, [], false, [⟨F.VLT_CAUSE_HALT, .w1c, 0⟩, ⟨F.VLT_CAUSE_INITDONE, .w1c, 0⟩, ⟨F.VLT_CAUSE_RKDONE, .w1c, 0⟩, ⟨F.VLT_CAUSE_RKERR, .w1c, 0⟩, ⟨F.VLT_CAUSE_GENEND, .w1c, 0⟩, ⟨F.VLT_CAUSE_ACCESS, .w1c, 0⟩, ⟨F.VLT_CAUSE_CMDERR, .w1c, 0⟩]⟩,
  ⟨"VLT_CAUSE_EN", 0x4, [], false, [⟨F.VLT_CAUSE_EN_EN, .rw, 0⟩]⟩,
  ⟨"VLT_HALT_LO", 0x8, [], false, [⟨F.VLT_HALT_LO_ADDR, .ro, 0⟩]⟩,
  ⟨"VLT_HALT_HI", 0xc, [], false, [⟨F.VLT_HALT_HI_ADDR, .ro, 0⟩, ⟨F.VLT_HALT_HI_KIND, .ro, 0⟩, ⟨F.VLT_HALT_HI_SRC, .ro, 0⟩, ⟨F.VLT_HALT_HI_VAULT, .ro, 0⟩]⟩,
  ⟨"VLT_V_CTRL", 0x1000, [(64, 0x40)], false, [⟨F.VLT_V_CTRL_EN, .rw, 0⟩, ⟨F.VLT_V_CTRL_MODE, .rw, 0⟩, ⟨F.VLT_V_CTRL_ADOPT, .rw, 0⟩, ⟨F.VLT_V_CTRL_NOHOST, .rw, 0⟩, ⟨F.VLT_V_CTRL_NODBG, .rw, 0⟩, ⟨F.VLT_V_CTRL_NOFAB, .rw, 0⟩, ⟨F.VLT_V_CTRL_RKGO, .wo, 0⟩, ⟨F.VLT_V_CTRL_GEN, .rw, 0⟩]⟩,
  ⟨"VLT_V_STAT", 0x1004, [(64, 0x40)], false, [⟨F.VLT_V_STAT_STATE, .ro, 0⟩, ⟨F.VLT_V_STAT_RKPEND, .ro, 0⟩]⟩,
  ⟨"VLT_V_BASE", 0x1008, [(64, 0x40)], false, [⟨F.VLT_V_BASE_BASE, .rw, 0⟩]⟩,
  ⟨"VLT_V_SIZE", 0x100c, [(64, 0x40)], false, [⟨F.VLT_V_SIZE_SIZE, .rw, 0⟩]⟩,
  ⟨"VLT_V_SALT", 0x1010, [(64, 0x40)], false, [⟨F.VLT_V_SALT_SALT, .rw, 0⟩]⟩,
  ⟨"VLT_V_LIMIT_LO", 0x1014, [(64, 0x40)], false, [⟨F.VLT_V_LIMIT_LO_LIMIT, .rw, 0⟩]⟩,
  ⟨"VLT_V_LIMIT_HI", 0x1018, [(64, 0x40)], false, [⟨F.VLT_V_LIMIT_HI_LIMIT, .rw, 1⟩]⟩,
  ⟨"VLT_V_WCNT_LO", 0x101c, [(64, 0x40)], false, [⟨F.VLT_V_WCNT_LO_COUNT, .rw, 0⟩]⟩,
  ⟨"VLT_V_WCNT_HI", 0x1020, [(64, 0x40)], false, [⟨F.VLT_V_WCNT_HI_COUNT, .rw, 0⟩]⟩,
  ⟨"VLT_V_RKPTR_LO", 0x1024, [(64, 0x40)], false, [⟨F.VLT_V_RKPTR_LO_ADDR, .ro, 0⟩]⟩,
  ⟨"VLT_V_RKPTR_HI", 0x1028, [(64, 0x40)], false, [⟨F.VLT_V_RKPTR_HI_ADDR, .ro, 0⟩]⟩]
/-- The registers of block VLT: 13_vaults.md. -/
def tabVLT : List RegRow := tabVLTa
def tabDMAa : List RegRow := [
  ⟨"DMA_DONE", 0x0, [], false, [⟨F.DMA_DONE_CH, .w1c, 0⟩]⟩,
  ⟨"DMA_DONE_EN", 0xc, [], false, [⟨F.DMA_DONE_EN_EN, .rw, 0⟩]⟩,
  ⟨"DMA_ERR", 0x4, [], false, [⟨F.DMA_ERR_CH, .w1c, 0⟩]⟩,
  ⟨"DMA_ERR_EN", 0x10, [], false, [⟨F.DMA_ERR_EN_EN, .rw, 0⟩]⟩,
  ⟨"DMA_ROVF", 0x8, [], false, [⟨F.DMA_ROVF_CH, .w1c, 0⟩]⟩,
  ⟨"DMA_ROVF_EN", 0x14, [], false, [⟨F.DMA_ROVF_EN_EN, .rw, 0⟩]⟩,
  ⟨"DMA_CAUSE", 0x18, [], false, [⟨F.DMA_CAUSE_CMDERR, .w1c, 0⟩]⟩,
  ⟨"DMA_CAUSE_EN", 0x1c, [], false, [⟨F.DMA_CAUSE_EN_EN, .rw, 0⟩]⟩,
  ⟨"DMA_ERRLOG_ALO", 0x20, [], false, [⟨F.DMA_ERRLOG_ALO_ADDR, .ro, 0⟩]⟩,
  ⟨"DMA_ERRLOG_AHI", 0x24, [], false, [⟨F.DMA_ERRLOG_AHI_ADDR, .ro, 0⟩]⟩,
  ⟨"DMA_ERRLOG_DLO", 0x28, [], false, [⟨F.DMA_ERRLOG_DLO_DESC, .ro, 0⟩]⟩,
  ⟨"DMA_ERRLOG_DHI", 0x2c, [], false, [⟨F.DMA_ERRLOG_DHI_DESC, .ro, 0⟩]⟩,
  ⟨"DMA_ERRLOG_INFO", 0x30, [], false, [⟨F.DMA_ERRLOG_INFO_CH, .ro, 0⟩, ⟨F.DMA_ERRLOG_INFO_KIND, .ro, 0⟩, ⟨F.DMA_ERRLOG_INFO_RESP, .ro, 0⟩, ⟨F.DMA_ERRLOG_INFO_DONE, .ro, 0⟩]⟩,
  ⟨"DMA_CH_CTRL", 0x1000, [(32, 0x20)], false, [⟨F.DMA_CH_CTRL_START, .wo, 0⟩, ⟨F.DMA_CH_CTRL_STOP, .wo, 0⟩, ⟨F.DMA_CH_CTRL_CLR, .wo, 0⟩, ⟨F.DMA_CH_CTRL_SWREQ, .wo, 0⟩, ⟨F.DMA_CH_CTRL_PRIO, .rw, 0⟩, ⟨F.DMA_CH_CTRL_RSEL, .rw, 0⟩]⟩,
  ⟨"DMA_CH_STAT", 0x1004, [(32, 0x20)], false, [⟨F.DMA_CH_STAT_STATE, .ro, 0⟩, ⟨F.DMA_CH_STAT_PEND, .ro, 0⟩]⟩,
  ⟨"DMA_CH_DESC_LO", 0x1008, [(32, 0x20)], false, [⟨F.DMA_CH_DESC_LO_ADDR, .rw, 0⟩]⟩]
def tabDMAb : List RegRow := [
  ⟨"DMA_CH_DESC_HI", 0x100c, [(32, 0x20)], false, [⟨F.DMA_CH_DESC_HI_ADDR, .rw, 0⟩]⟩,
  ⟨"DMA_CH_COUNT", 0x1010, [(32, 0x20)], false, [⟨F.DMA_CH_COUNT_COUNT, .ro, 0⟩]⟩]
/-- The registers of block DMA: 14_dma.md. -/
def tabDMA : List RegRow := tabDMAa ++ tabDMAb
def tabCCa : List RegRow := [
  ⟨"CC_CTRL", 0x0, [], false, [⟨F.CC_CTRL_RUN, .rw, 0⟩, ⟨F.CC_CTRL_RST, .wo, 0⟩]⟩,
  ⟨"CC_STAT", 0x4, [], false, [⟨F.CC_STAT_STATE, .ro, 0⟩, ⟨F.CC_STAT_WDTRST, .ro, 0⟩]⟩,
  ⟨"CC_BOOT_LO", 0x8, [], false, [⟨F.CC_BOOT_LO_ADDR, .rw, 0⟩]⟩,
  ⟨"CC_BOOT_HI", 0xc, [], false, [⟨F.CC_BOOT_HI_ADDR, .rw, 0⟩]⟩,
  ⟨"CC_MTIMECMP_LO", 0x10, [], false, [⟨F.CC_MTIMECMP_LO_CMP, .rw, 0xffffffff⟩]⟩,
  ⟨"CC_MTIMECMP_HI", 0x14, [], false, [⟨F.CC_MTIMECMP_HI_CMP, .rw, 0xffffffff⟩]⟩,
  ⟨"CC_MSIP", 0x18, [], false, [⟨F.CC_MSIP_MSIP, .rw, 0⟩]⟩,
  ⟨"CC_WDT_CTRL", 0x20, [], false, [⟨F.CC_WDT_CTRL_EN, .rw, 0⟩]⟩,
  ⟨"CC_WDT_RELOAD", 0x24, [], false, [⟨F.CC_WDT_RELOAD_TICKS, .rw, 0xffffffff⟩]⟩,
  ⟨"CC_WDT_CNT", 0x28, [], false, [⟨F.CC_WDT_CNT_TICKS, .ro, 0xffffffff⟩]⟩,
  ⟨"CC_WDT_KICK", 0x2c, [], false, [⟨F.CC_WDT_KICK_KEY, .wo, 0⟩]⟩,
  ⟨"CC_BERR_LO", 0x30, [], false, [⟨F.CC_BERR_LO_ADDR, .ro, 0⟩]⟩,
  ⟨"CC_BERR_HI", 0x34, [], false, [⟨F.CC_BERR_HI_ADDR, .ro, 0⟩, ⟨F.CC_BERR_HI_RESP, .ro, 0⟩]⟩]
/-- The registers of block CC: 15_control_cores_debug.md. -/
def tabCC : List RegRow := tabCCa
def tabCCDa : List RegRow := [
  ⟨"CC_CAUSE", 0x0, [], false, [⟨F.CC_CAUSE_WDT, .w1c, 0⟩, ⟨F.CC_CAUSE_BERR, .w1c, 0⟩, ⟨F.CC_CAUSE_VTRX, .w1c, 0⟩, ⟨F.CC_CAUSE_L2DONE, .w1c, 0⟩, ⟨F.CC_CAUSE_CMDERR, .w1c, 0⟩]⟩,
  ⟨"CC_CAUSE_EN", 0x4, [], false, [⟨F.CC_CAUSE_EN_EN, .rw, 0⟩]⟩,
  ⟨"CC_CWIN", 0x8, [], false, [⟨F.CC_CWIN_BASE, .rw, 0⟩, ⟨F.CC_CWIN_SIZE, .rw, 0⟩]⟩,
  ⟨"CC_L2OP_ADDR_LO", 0x10, [], false, [⟨F.CC_L2OP_ADDR_LO_ADDR, .rw, 0⟩]⟩,
  ⟨"CC_L2OP_ADDR_HI", 0x14, [], false, [⟨F.CC_L2OP_ADDR_HI_ADDR, .rw, 0⟩]⟩,
  ⟨"CC_L2OP_LEN", 0x18, [], false, [⟨F.CC_L2OP_LEN_LINES, .rw, 0⟩]⟩,
  ⟨"CC_L2OP_CTRL", 0x1c, [], false, [⟨F.CC_L2OP_CTRL_GO, .wo, 0⟩, ⟨F.CC_L2OP_CTRL_OP, .rw, 1⟩, ⟨F.CC_L2OP_CTRL_BUSY, .ro, 0⟩]⟩]
/-- The registers of block CCD: 15_control_cores_debug.md. -/
def tabCCD : List RegRow := tabCCDa
def tabDBGDa : List RegRow := [
  ⟨"DBG_FREEZE", 0x0, [], false, [⟨F.DBG_FREEZE_WDT, .rw, 3⟩, ⟨F.DBG_FREEZE_MDSP, .rw, 0⟩, ⟨F.DBG_FREEZE_DMA, .rw, 0⟩, ⟨F.DBG_FREEZE_PEER, .rw, 0⟩]⟩]
/-- The registers of block DBGD: 15_control_cores_debug.md. -/
def tabDBGD : List RegRow := tabDBGDa
def tabDBGa : List RegRow := [
  ⟨"DBG_CTRL", 0x0, [], false, [⟨F.DBG_CTRL_HALTREQ, .wo, 0⟩, ⟨F.DBG_CTRL_RESUME, .wo, 0⟩, ⟨F.DBG_CTRL_STEP, .rw, 0⟩, ⟨F.DBG_CTRL_STEPIE, .rw, 0⟩, ⟨F.DBG_CTRL_HOR, .rw, 0⟩, ⟨F.DBG_CTRL_EBREAKM, .rw, 0⟩, ⟨F.DBG_CTRL_EBREAKU, .rw, 0⟩]⟩,
  ⟨"DBG_STAT", 0x4, [], false, [⟨F.DBG_STAT_HALTED, .ro, 0⟩, ⟨F.DBG_STAT_CAUSE, .ro, 0⟩, ⟨F.DBG_STAT_AERR, .w1c, 0⟩, ⟨F.DBG_STAT_BPHIT, .ro, 0⟩]⟩,
  ⟨"DBG_DPC_LO", 0x8, [], false, [⟨F.DBG_DPC_LO_PC, .rw, 0⟩]⟩,
  ⟨"DBG_ACMD", 0x10, [], false, [⟨F.DBG_ACMD_REGNO, .wo, 0⟩, ⟨F.DBG_ACMD_WRITE, .wo, 0⟩]⟩,
  ⟨"DBG_DATA0", 0x14, [], false, [⟨F.DBG_DATA0_VALUE, .rw, 0⟩]⟩,
  ⟨"DBG_DATA1", 0x18, [], false, [⟨F.DBG_DATA1_VALUE, .rw, 0⟩]⟩,
  ⟨"DBG_DTX", 0x20, [], false, [⟨F.DBG_DTX_DATA, .rw, 0⟩]⟩,
  ⟨"DBG_DRX", 0x24, [], false, [⟨F.DBG_DRX_DATA, .rc, 0⟩]⟩,
  ⟨"DBG_VTSTAT", 0x28, [], false, [⟨F.DBG_VTSTAT_TXFULL, .ro, 0⟩, ⟨F.DBG_VTSTAT_RXFULL, .ro, 0⟩, ⟨F.DBG_VTSTAT_TXACK, .wo, 0⟩, ⟨F.DBG_VTSTAT_TXOVF, .w1c, 0⟩, ⟨F.DBG_VTSTAT_RXOVF, .w1c, 0⟩]⟩,
  ⟨"DBG_DPC_HI", 0xc, [], false, [⟨F.DBG_DPC_HI_PC, .rw, 0⟩]⟩,
  ⟨"DBG_BP_ADDR_LO", 0x40, [(8, 0x10)], false, [⟨F.DBG_BP_ADDR_LO_ADDR, .rw, 0⟩]⟩,
  ⟨"DBG_BP_ADDR_HI", 0x44, [(8, 0x10)], false, [⟨F.DBG_BP_ADDR_HI_ADDR, .rw, 0⟩]⟩,
  ⟨"DBG_BP_CTRL", 0x48, [(8, 0x10)], false, [⟨F.DBG_BP_CTRL_X, .rw, 0⟩, ⟨F.DBG_BP_CTRL_R, .rw, 0⟩, ⟨F.DBG_BP_CTRL_W, .rw, 0⟩, ⟨F.DBG_BP_CTRL_MASK, .rw, 0⟩]⟩]
/-- The registers of block DBG: 15_control_cores_debug.md. -/
def tabDBG : List RegRow := tabDBGa
def tabKPRa : List RegRow := [
  ⟨"KPR_MBOX_CMD", 0x0, [], false, [⟨F.KPR_MBOX_CMD_CMD, .wo, 0⟩, ⟨F.KPR_MBOX_CMD_ARG, .wo, 0⟩]⟩,
  ⟨"KPR_MBOX_STAT", 0x4, [], false, [⟨F.KPR_MBOX_STAT_BUSY, .ro, 0⟩, ⟨F.KPR_MBOX_STAT_RESULT, .ro, 0⟩, ⟨F.KPR_MBOX_STAT_LEN, .ro, 0⟩]⟩,
  ⟨"KPR_CAUSE", 0x8, [], false, [⟨F.KPR_CAUSE_DONE, .w1c, 0⟩, ⟨F.KPR_CAUSE_CMDERR, .w1c, 0⟩, ⟨F.KPR_CAUSE_AUTHFAIL, .w1c, 0⟩, ⟨F.KPR_CAUSE_DBGCHG, .w1c, 0⟩, ⟨F.KPR_CAUSE_ZERO, .w1c, 0⟩, ⟨F.KPR_CAUSE_THERM, .w1c, 0⟩]⟩,
  ⟨"KPR_CAUSE_EN", 0xc, [], false, [⟨F.KPR_CAUSE_EN_EN, .rw, 0⟩]⟩,
  ⟨"KPR_STAT", 0x10, [], false, [⟨F.KPR_STAT_LC, .ro, 0⟩, ⟨F.KPR_STAT_DBG, .ro, 0⟩, ⟨F.KPR_STAT_KEYSRC, .ro, 0⟩, ⟨F.KPR_STAT_LOCKOUT, .ro, 0⟩, ⟨F.KPR_STAT_FAILS, .ro, 0⟩]⟩,
  ⟨"KPR_RBCNT", 0x14, [], false, [⟨F.KPR_RBCNT_COUNT, .ro, 0⟩, ⟨F.KPR_RBCNT_LOADED, .ro, 0⟩]⟩,
  ⟨"KPR_POLICY", 0x18, [], false, [⟨F.KPR_POLICY_BITS, .ro, 0⟩]⟩,
  ⟨"KPR_FLOCK", 0x1c, [], false, [⟨F.KPR_FLOCK_LOCK, .ro, 0⟩]⟩,
  ⟨"KPR_SERIAL_LO", 0x20, [], false, [⟨F.KPR_SERIAL_LO_SERIAL, .ro, 0⟩]⟩,
  ⟨"KPR_SERIAL_HI", 0x24, [], false, [⟨F.KPR_SERIAL_HI_SERIAL, .ro, 0⟩]⟩,
  ⟨"KPR_MBOX_DATA", 0x100, [(64, 0x4)], false, [⟨F.KPR_MBOX_DATA_WORD, .rw, 0⟩]⟩]
/-- The registers of block KPR: 16_security_lifecycle.md. -/
def tabKPR : List RegRow := tabKPRa
def tabBISTa : List RegRow := [
  ⟨"BIST_CTRL", 0x0, [], false, [⟨F.BIST_CTRL_EN, .rw, 1⟩, ⟨F.BIST_CTRL_GAP, .rw, 0x3e8⟩]⟩,
  ⟨"BIST_CMD", 0x4, [], false, [⟨F.BIST_CMD_TGT, .wo, 0⟩, ⟨F.BIST_CMD_RETEST, .wo, 0⟩]⟩,
  ⟨"BIST_STAT", 0x8, [], false, [⟨F.BIST_STAT_BUSY, .ro, 0⟩, ⟨F.BIST_STAT_RETEST, .ro, 0⟩, ⟨F.BIST_STAT_CURT, .ro, 0⟩]⟩,
  ⟨"BIST_CAUSE", 0xc, [], false, [⟨F.BIST_CAUSE_FAIL, .w1c, 0⟩, ⟨F.BIST_CAUSE_LANE, .w1c, 0⟩, ⟨F.BIST_CAUSE_RTDONE, .w1c, 0⟩, ⟨F.BIST_CAUSE_CE, .w1c, 0⟩, ⟨F.BIST_CAUSE_CMDERR, .w1c, 0⟩, ⟨F.BIST_CAUSE_SAFE, .w1c, 0⟩]⟩,
  ⟨"BIST_CAUSE_EN", 0x10, [], false, [⟨F.BIST_CAUSE_EN_EN, .rw, 0⟩]⟩,
  ⟨"BIST_HOLD_LO", 0x1c, [], false, [⟨F.BIST_HOLD_LO_TGT, .ro, 0⟩]⟩,
  ⟨"BIST_HOLD_HI", 0x20, [], false, [⟨F.BIST_HOLD_HI_TGT, .ro, 0⟩]⟩,
  ⟨"BIST_SLICE_CNT", 0x24, [], false, [⟨F.BIST_SLICE_CNT_COUNT, .ro, 0⟩]⟩,
  ⟨"BIST_ABORT_CNT", 0x28, [], false, [⟨F.BIST_ABORT_CNT_COUNT, .ro, 0⟩]⟩,
  ⟨"BIST_CE_CNT", 0x2c, [], false, [⟨F.BIST_CE_CNT_COUNT, .ro, 0⟩]⟩,
  ⟨"BIST_FAILINFO", 0x30, [], false, [⟨F.BIST_FAILINFO_TGT, .ro, 0⟩, ⟨F.BIST_FAILINFO_SEG, .ro, 0⟩, ⟨F.BIST_FAILINFO_KIND, .ro, 0⟩]⟩,
  ⟨"BIST_TEN_LO", 0x14, [], false, [⟨F.BIST_TEN_LO_TGT, .rw, 0xffffffff⟩]⟩,
  ⟨"BIST_TEN_HI", 0x18, [], false, [⟨F.BIST_TEN_HI_TGT, .rw, 3⟩]⟩]
/-- The registers of block BIST: 17_self_test.md. -/
def tabBIST : List RegRow := tabBISTa
def tabINTa : List RegRow := [
  ⟨"DIS", 0x0, [], false, [⟨F.DIS_SUM, .ro, 0⟩]⟩,
  ⟨"DIS_HEN", 0x4, [], false, [⟨F.DIS_HEN_EN, .rw, 0⟩]⟩,
  ⟨"DIS_CEN", 0x8, [(2, 0x4)], false, [⟨F.DIS_CEN_EN, .rw, 0⟩]⟩,
  ⟨"DIS_VMAP", 0x10, [(3, 0x4)], false, [⟨F.DIS_VMAP_VEC0, .rw, 0⟩, ⟨F.DIS_VMAP_VEC1, .rw, 0⟩, ⟨F.DIS_VMAP_VEC2, .rw, 0⟩, ⟨F.DIS_VMAP_VEC3, .rw, 0⟩, ⟨F.DIS_VMAP_VEC4, .rw, 0⟩, ⟨F.DIS_VMAP_VEC5, .rw, 0⟩, ⟨F.DIS_VMAP_VEC6, .rw, 0⟩, ⟨F.DIS_VMAP_VEC7, .rw, 0⟩]⟩]
/-- The registers of block INT: 18_interrupts_events.md. -/
def tabINT : List RegRow := tabINTa
def tabGISa : List RegRow := [
  ⟨"GIS", 0x0, [], false, [⟨F.GIS_DIE, .ro, 0⟩, ⟨F.GIS_PKG, .ro, 0⟩, ⟨F.GIS_ABSENT, .ro, 0⟩]⟩,
  ⟨"GIS_EN", 0x4, [], false, [⟨F.GIS_EN_DIE, .rw, 0⟩, ⟨F.GIS_EN_PKG, .rw, 0⟩, ⟨F.GIS_EN_ABSENT, .rw, 0⟩]⟩,
  ⟨"GIS_CTRL", 0x8, [], false, [⟨F.GIS_CTRL_PINEN, .rw, 1⟩]⟩,
  ⟨"MSIX_EOI", 0xc, [], false, [⟨F.MSIX_EOI_VEC, .wo, 0⟩]⟩]
/-- The registers of block GIS: 18_interrupts_events.md. -/
def tabGIS : List RegRow := tabGISa
def tabMONa : List RegRow := [
  ⟨"MON_SEL", 0x0, [(16, 0x4)], false, [⟨F.MON_SEL_EVT, .rw, 0⟩, ⟨F.MON_SEL_EN, .rw, 0⟩]⟩,
  ⟨"MON_CNT_LO", 0x40, [(16, 0x8)], false, [⟨F.MON_CNT_LO_COUNT, .ro, 0⟩]⟩,
  ⟨"MON_CNT_HI", 0x44, [(16, 0x8)], false, [⟨F.MON_CNT_HI_COUNT, .ro, 0⟩]⟩,
  ⟨"MON_SNAP_LO", 0xc0, [(16, 0x8)], false, [⟨F.MON_SNAP_LO_COUNT, .ro, 0⟩]⟩,
  ⟨"MON_SNAP_HI", 0xc4, [(16, 0x8)], false, [⟨F.MON_SNAP_HI_COUNT, .ro, 0⟩]⟩,
  ⟨"MON_CMD", 0x140, [], false, [⟨F.MON_CMD_CLR, .wo, 0⟩, ⟨F.MON_CMD_ARM, .wo, 0⟩, ⟨F.MON_CMD_DISARM, .wo, 0⟩]⟩,
  ⟨"MON_OVF", 0x144, [], false, [⟨F.MON_OVF_SAT, .ro, 0⟩]⟩,
  ⟨"MON_CAUSE", 0x148, [], false, [⟨F.MON_CAUSE_OVF, .w1c, 0⟩, ⟨F.MON_CAUSE_SNAP, .w1c, 0⟩, ⟨F.MON_CAUSE_CMDERR, .w1c, 0⟩]⟩,
  ⟨"MON_CAUSE_EN", 0x14c, [], false, [⟨F.MON_CAUSE_EN_EN, .rw, 0⟩]⟩,
  ⟨"MON_SNAP_PT_LO", 0x150, [], false, [⟨F.MON_SNAP_PT_LO_PT, .rw, 0⟩]⟩,
  ⟨"MON_SNAP_PT_HI", 0x154, [], false, [⟨F.MON_SNAP_PT_HI_PT, .rw, 0⟩]⟩]
/-- The registers of block MON: 18_interrupts_events.md. -/
def tabMON : List RegRow := tabMONa
def tabPKGa : List RegRow := [
  ⟨"PKG_PWR", 0x0, [], false, [⟨F.PKG_PWR_REQ, .wo, 0⟩, ⟨F.PKG_PWR_STATE, .ro, 0⟩, ⟨F.PKG_PWR_WAKEPT, .rw, 0⟩]⟩,
  ⟨"PKG_EVT", 0x4, [], false, [⟨F.PKG_EVT_PWRERR, .w1c, 0⟩, ⟨F.PKG_EVT_CLKLOSS, .w1c, 0⟩]⟩,
  ⟨"PKG_WAKE_PT_LO", 0x8, [], false, [⟨F.PKG_WAKE_PT_LO_PT, .rw, 0⟩]⟩,
  ⟨"PKG_WAKE_PT_HI", 0xc, [], false, [⟨F.PKG_WAKE_PT_HI_PT, .rw, 0⟩]⟩,
  ⟨"PKG_RST", 0x10, [], false, [⟨F.PKG_RST_DEVICE, .wo, 0⟩, ⟨F.PKG_RST_DIEHOLD, .rw, 0⟩, ⟨F.PKG_RST_KEY, .wo, 0⟩]⟩,
  ⟨"PKG_RSTCAUSE", 0x14, [], false, [⟨F.PKG_RSTCAUSE_CAUSE, .ro, 0⟩, ⟨F.PKG_RSTCAUSE_BISTFAIL, .ro, 0⟩, ⟨F.PKG_RSTCAUSE_DIE, .ro, 0⟩]⟩,
  ⟨"PKG_REF", 0x18, [], false, [⟨F.PKG_REF_REFOK, .ro, 0⟩, ⟨F.PKG_REF_SRC, .ro, 0⟩, ⟨F.PKG_REF_HOLD, .ro, 0⟩, ⟨F.PKG_REF_LOCKED, .ro, 0⟩]⟩,
  ⟨"PKG_EVT_EN", 0x1c, [], false, [⟨F.PKG_EVT_EN_EN, .rw, 0⟩]⟩]
/-- The registers of block PKG: 19_reset_clocks_power_pins.md. -/
def tabPKG : List RegRow := tabPKGa
def tabDCRa : List RegRow := [
  ⟨"DCR_ID", 0x0, [], false, [⟨F.DCR_ID_GRADE, .ro, 0⟩, ⟨F.DCR_ID_REV, .ro, 0⟩]⟩,
  ⟨"DCR_CLKSTAT", 0x4, [], false, [⟨F.DCR_CLKSTAT_LOCK, .ro, 0⟩, ⟨F.DCR_CLKSTAT_PKGLOCK, .ro, 0⟩]⟩,
  ⟨"DCR_TEMP", 0x8, [], false, [⟨F.DCR_TEMP_NOW, .ro, 0⟩, ⟨F.DCR_TEMP_MAX, .ro, 0⟩]⟩,
  ⟨"DCR_TWARN", 0xc, [], false, [⟨F.DCR_TWARN_LIMIT, .rw, 0x244⟩, ⟨F.DCR_TWARN_CLRMAX, .wo, 0⟩]⟩,
  ⟨"DCR_EVT", 0x10, [], false, [⟨F.DCR_EVT_TWARN, .w1c, 0⟩, ⟨F.DCR_EVT_CLKERR, .w1c, 0⟩]⟩]
/-- The registers of block DCR: 19_reset_clocks_power_pins.md. -/
def tabDCR : List RegRow := tabDCRa
def tabPCIEa : List RegRow := [
  ⟨"PCIE_G6WIN", 0x0, [], false, [⟨F.PCIE_G6WIN_SEL, .rw, 0⟩]⟩]
/-- The registers of block PCIE: 20_register_map.md. -/
def tabPCIE : List RegRow := tabPCIEa
end Sys2Proof.Machine
end

