-- ==== Sys2Proof/Machine/RegFile.lean ====
section
/-! DEFINITION. Machine/RegFile.lean: which register an address names (20_register_map.md R617 to R622), and what it
reads right after reset (00_scope.md R10). -/
namespace Sys2Proof.Machine

/-- The register blocks. -/
inductive Blk where
  | vsq | fcu | fcd | rae | mdsp | memp | vlt | dma | prom | seam | seamd | cfg | fab | cc | ccd | dbgd | dbg
  | int | mon | bist | dcr | kpr | pcie | pt | tsy | led | gis | pkg
deriving DecidableEq, Repr

/-- The register table of a block. -/
def Blk.rows (b : Blk) : List RegRow :=
  match b with
  | .vsq => tabVSQ | .fcu => tabFCU | .fcd => tabFCD | .rae => tabRAE | .mdsp => tabMDSP | .memp => tabMEMP
  | .vlt => tabVLT | .dma => tabDMA | .prom => tabPROM | .seam => tabSEAM | .seamd => tabSEAMD | .cfg => tabCFG
  | .fab => tabFAB | .cc => tabCC | .ccd => tabCCD | .dbgd => tabDBGD | .dbg => tabDBG | .int => tabINT
  | .mon => tabMON | .bist => tabBIST | .dcr => tabDCR | .kpr => tabKPR | .pcie => tabPCIE | .pt => tabPT
  | .tsy => tabTSY | .led => tabLED | .gis => tabGIS | .pkg => tabPKG

/-- An address inside a block: the block, its die, its local number, the offset in it. -/
structure BlkAt where
  blk : Blk
  die : Nat
  k : Nat
  off : Nat
deriving DecidableEq, Repr

/-- The block at offset x of die window d (R619). -/
def dieBlock (d x : Nat) : Option BlkAt :=
  if x < 0x4000000 then
    if x % 0x1000000 < 0x800000 then some ⟨.vsq, d, x / 0x1000000, x % 0x1000000⟩ else none
  else if x < 0x5000000 then
    if 0x4200000 ≤ x ∧ x < 0x4400000 then some ⟨.fcd, d, 0, x - 0x4200000⟩
    else some ⟨.fcu, d, (x - 0x4000000) / 0x400000, (x - 0x4000000) % 0x400000⟩
  else if x < 0x6000000 then some ⟨.rae, d, 0, x - 0x5000000⟩
  else if x < 0x6400000 then
    if 0xF0000 ≤ x % 0x100000 then some ⟨.mdsp, d, (x - 0x6000000) / 0x100000, x % 0x100000 - 0xF0000⟩ else none
  else if x < 0x7000000 then none
  else if x < 0x7040000 then some ⟨.memp, d, (x - 0x7000000) / 0x10000, x % 0x10000⟩
  else if x < 0x7080000 then none
  else if x < 0x7100000 then some ⟨.vlt, d, 0, x - 0x7080000⟩
  else if x < 0x7200000 then some ⟨.dma, d, 0, x - 0x7100000⟩
  else if x < 0x7300000 then some ⟨.prom, d, 0, x - 0x7200000⟩
  else if x < 0x7303000 then some ⟨.seam, d, (x - 0x7300000) / 0x1000, x % 0x1000⟩
  else if x < 0x7400000 then some ⟨.seamd, d, 0, x - 0x7303000⟩
  else if x < 0x7408000 then some ⟨.cfg, d, 0, x - 0x7400000⟩
  else if x < 0x7500000 then some ⟨.fab, d, 0, x - 0x7408000⟩
  else if x < 0x7502000 then some ⟨.cc, d, (x - 0x7500000) / 0x1000, x % 0x1000⟩
  else if x < 0x7508000 then some ⟨.ccd, d, 0, x - 0x7502000⟩
  else if x < 0x7508100 then some ⟨.dbgd, d, 0, x - 0x7508000⟩
  else if x < 0x7508300 then some ⟨.dbg, d, (x - 0x7508100) / 0x100, (x - 0x7508100) % 0x100⟩
  else if x < 0x7600000 then none
  else if x < 0x7700000 then some ⟨.int, d, 0, x - 0x7600000⟩
  else if x < 0x7800000 then some ⟨.mon, d, 0, x - 0x7700000⟩
  else if x < 0x7900000 then some ⟨.bist, d, 0, x - 0x7800000⟩
  else if x < 0x7A00000 then some ⟨.dcr, d, 0, x - 0x7900000⟩
  else none

/-- The package-level block at offset x (R622). -/
def packageBlock (x : Nat) : Option BlkAt :=
  match x / 0x10000 with
  | 1 => some ⟨.kpr, 0, 0, x % 0x10000⟩
  | 2 => some ⟨.pcie, 0, 0, x % 0x10000⟩
  | 4 => some ⟨.pt, 0, 0, x % 0x10000⟩
  | 5 => some ⟨.tsy, 0, 0, x % 0x10000⟩
  | 6 => some ⟨.led, 0, 0, x % 0x10000⟩
  | 7 => some ⟨.gis, 0, 0, x % 0x10000⟩
  | 8 => some ⟨.pkg, 0, 0, x % 0x10000⟩
  | _ => none

/-- The block an address lies in. -/
def blockAt (a : Nat) : Option BlkAt :=
  if 0x100000000000 ≤ a ∧ a < 0x100600000000 then
    dieBlock ((a - 0x100000000000) / 0x100000000) (a % 0x100000000)
  else if packageBase ≤ a ∧ a < 0x200000000000 then packageBlock (a - packageBase)
  else none

/-- The instance numbers of an offset in a register row, if the row holds it. -/
def RegRow.index (r : RegRow) (off : Nat) : Option (List Nat) :=
  match r.dims with
  | [] => if off = r.off then some [] else none
  | [(c, st)] =>
    if r.off ≤ off ∧ (off - r.off) % st = 0 ∧ (off - r.off) / st < c then some [(off - r.off) / st] else none
  | [(c, st), (c', st')] =>
    if r.off ≤ off ∧ (off - r.off) / st < c ∧ (off - r.off) % st % st' = 0 ∧ (off - r.off) % st / st' < c' then
      some [(off - r.off) / st, (off - r.off) % st / st']
    else none
  | _ => none

/-- The first row of a table that holds an offset. -/
def findRow (rows : List RegRow) (off : Nat) : Option (RegRow × List Nat) :=
  match rows with
  | [] => none
  | r :: rest =>
    match r.index off with
    | some ix => some (r, ix)
    | none => findRow rest off

/-- The window of a seam port that its die does not have: the dies of the left column have no port 0, those of the right
column no port 1 (10_seams.md R348). -/
def BlkAt.noPort (b : BlkAt) : Bool :=
  decide (b.blk = .seam) && ((b.k == 0 && b.die % 3 == 0) || (b.k == 1 && b.die % 3 == 2))

/-- The register an address names: its place, its row, its instance numbers. Registers of die 0 only do not exist on
dies 1 to 5 (05 R192, 11 R409), those of a seam port that the die lacks not at all (10). -/
def regAt (a : Nat) : Option (BlkAt × RegRow × List Nat) :=
  match blockAt a with
  | none => none
  | some b =>
    match findRow b.blk.rows b.off with
    | none => none
    | some (r, ix) => if (r.die0 && b.die != 0) || b.noPort then none else some (b, r, ix)

/-- A word with every field of a row at its reset value. -/
def resetWord (fs : List FieldRow) : Word :=
  fs.foldl (fun v f => f.fld.set v f.reset) 0#32

/-- Four fields of 8 bits each, at their index (03 R117: the identity of APG_BTAB and APG_SCR1). -/
def identityQuad (n : Nat) : Word := BitVec.ofNat 32 (4 * n + 256 * (4 * n + 1) + 65536 * (4 * n + 2) + 16777216 * (4 * n + 3))

/-- A path as hop codes, two bits a hop from bit 0, code 3 ending it (10 R366). -/
def hopByte (l : List Nat) : Nat :=
  nth4 l 0 + 4 * nth4 l 1 + 16 * nth4 l 2 + 64 * nth4 l 3
where
  /-- Hop i, or the end code. -/
  nth4 (l : List Nat) (i : Nat) : Nat := l.getD i 3

/-- Horizontal hops from column a to column b: port 1 goes right, port 0 left (10 R348). -/
def hops (a b : Nat) : List Nat :=
  if a ≤ b then List.replicate (b - a) 1 else List.replicate (a - b) 0

/-- The reset routes of 10 R367 from die s to die t (primary, alternate). -/
def resetRoute (s t : Nat) : List Nat × List Nat :=
  let h := hops (s % 3) (t % 3)
  if s = t then ([], [])
  else if s / 3 = t / 3 then (h, 2 :: h ++ [2])
  else if s % 3 = t % 3 then ([2], if s % 3 = 0 then [1, 2, 0] else [0, 2, 1])
  else (h ++ [2], 2 :: h)

/-- SEAM_ROUTEt of die s after reset. The die's own entry, for which R367 gives no route and which is ignored, holds two
empty paths (DESIGN CHOICE, notes/assumptions/102.md). -/
def resetRouteWord (s t : Nat) : Word :=
  if s = t then 0xFFFF#32
  else BitVec.ofNat 32 (hopByte (resetRoute s t).1 + 256 * hopByte (resetRoute s t).2)

/-- The ports a die has, as a mask (10 R348). -/
def portMask (d : Nat) : Nat :=
  (if d % 3 = 0 then 0 else 1) + (if d % 3 = 2 then 0 else 2) + 4

/-- SEAM_DIEID: the straps (10 R369, 01 R15). -/
def dieIdWord (d : Nat) : Word :=
  BitVec.ofNat 32 (d + (if d = 0 then 8 else 0) + 16 * (d / 3) + 32 * (d % 3) + 256 * portMask d)

/-- What a register holds after its reset (R10). The resets that depend on the instance are 03 R117 and 10 R369;
07 R263 gives SR and BX; 16 R533: the debug state of a blank device is FULL; 19 R616: DCR_ID shows fuses, here grade -3J. -/
def resetOfAt (b : BlkAt) (r : RegRow) (ix : List Nat) : Word :=
  if b.blk = .vsq ∧ (r.off = 0x10080 ∨ r.off = 0x10100) then identityQuad (ix.headD 0)
  else if b.blk = .seamd ∧ r.off = 4 then BitVec.ofNat 32 (0x3F - 2 ^ b.die)
  else if b.blk = .seamd ∧ r.off = 0 then dieIdWord b.die
  else if b.blk = .seamd ∧ r.off = 0x10 then resetRouteWord b.die (ix.headD 0)
  else if b.blk = .mdsp ∧ r.off = 0x100 then (if ix.headD 0 = 0x3C then 1 else if ix.headD 0 = 0x3D then 15 else 0)
  else if b.blk = .kpr ∧ r.off = 0x10 then 0x200#32
  else if b.blk = .dcr ∧ r.off = 0 then 2#32
  else resetWord r.fields

/-- What an address of the register space reads right after reset; 0 where no register lies. -/
def resetOf (a : Nat) : Word :=
  match regAt a with
  | none => 0
  | some (b, r, ix) => resetOfAt b r ix

end Sys2Proof.Machine
end

