-- ==== Sys2Proof/Machine/State.lean ====
section
/-! DEFINITION. Machine/State.lean: everything the spec gives the machine, as plain data, and the machine right after
reset. The registers of the register tables are one sparse store (their reset values: Machine/RegTable.lean and
Machine/Ops.lean); the structures below hold the state that is no register. -/
namespace Sys2Proof.Machine

/-! ### Vector sequencer, APG, pin channels (02, 03, 04) -/

/-- Where a pattern word stands: an instruction RAM address or a stream index (02 R52). -/
structure Loc where
  stream : Bool
  idx : Nat
deriving DecidableEq, Repr

/-- A call stack entry: a return address, or the end mark of 02 R53 (`none`); `esc` marks the entry an escape
pushed (02 R69, 03 R114). -/
structure Ret where
  loc : Option Loc
  esc : Bool
deriving DecidableEq, Repr

/-- The APG registers an escape saves (03 R114). -/
structure ApgWork where
  xc : Nat
  xb : Nat
  xi : Nat
  yc : Nat
  yb : Nat
  yi : Nat
  b : Nat
  a : Nat
deriving DecidableEq, Repr

/-- What the expect delay line keeps of one vector (03 R110, R112): the values its beat words are computed from. -/
structure BeatSrc where
  x : Nat
  y : Nat
  bg : Nat
  dop : Nat
  vcnt : Nat
deriving DecidableEq, Repr

/-- How many vectors an issued word produces: a fixed number, or as many as a decision, a release or a resume ends
(MATCH, SYNC, PAUSE). -/
inductive Reps where
  | fixed (n : Nat)
  | untilMatch
  | untilSync
  | untilResume
deriving DecidableEq, Repr

/-- A pattern word that has been issued and whose vectors have not all reached the balls (02 R38, R39). -/
structure PatEntry where
  word : PatWord
  loc : Loc
  /-- Ball start of its first vector, in units of 125 fs. -/
  bs : Nat
  /-- The vector period of its timing set. -/
  period : Nat
  reps : Reps
  /-- Vectors of the word that have started. -/
  done : Nat
  /-- The word belongs to an escape subroutine (05 R171). -/
  inEsc : Bool
  /-- First word of an escape subroutine with ESAVE: the APG state is saved before it (03 R114). -/
  save : Bool
  /-- The RET that ends an escape subroutine: the APG state is restored after it. -/
  restore : Bool
  /-- A HALT ends the run here: `some abort` (02 R59). -/
  halt : Option Bool
deriving DecidableEq, Repr

/-- A JC with a ball or gang condition whose decision point has not come (02 R45 to R48). -/
structure Decision where
  /-- COND of the word, the word's place, its target field. -/
  cond : Nat
  loc : Loc
  arg : Nat
  /-- Ball end of the deciding vector, decision latency (units of 125 fs), decision index (08 R281). -/
  be : Nat
  lat : Nat
  didx : Nat
  /-- The decision point, once an issued window word spans the latency. -/
  dp : Option Nat
deriving DecidableEq, Repr

/-- A stop that takes effect when the vectors already issued have run (02 R85, faults found at issue). -/
structure Stop where
  code : Nat
  loc : Loc
deriving DecidableEq, Repr

/-- A word in the stream window (02 R73): its bits, or the error response its fetch met (02 R76). -/
inductive StreamWord where
  | ok (w : PatWord)
  | err
deriving DecidableEq, Repr

/-- One output lane of a pin channel: its level and the time of the last transition placed (04 R138). -/
structure Lane where
  level : Bool
  last : Option Nat
deriving DecidableEq, Repr

/-- A transition placed on an output lane (04 R135): the lane (0 to 31 DRV, 32 to 63 ENA), its time in units of
125 fs, its new level. -/
structure Edge where
  lane : Nat
  time : Nat
  level : Bool
deriving DecidableEq, Repr

/-- The stamper of one input lane (04 R145, R148): the last stamped transition, the two loss marks the next record
carries, and the lane buffer (oldest first). -/
structure Stamper where
  last : Option Nat
  miss : Bool
  lost : Bool
  buf : List (BitVec 64)
deriving DecidableEq, Repr

/-! ### Fail capture (05) -/

/-- A stored counter: its value, SAT and INVALID (05 R165, R167). -/
structure Counter where
  val : Nat
  sat : Bool
  inv : Bool
deriving DecidableEq, Repr

/-- What one run's log still owes (05 R173, R175, R187). -/
structure RunLog where
  no : Nat
  /-- FCU_CTRL.LEN at START. -/
  len : Bool
  /-- Records created, lost and suppressed in the run. -/
  made : Nat
  lost : Nat
  supp : Nat
  /-- The next record stored carries LOSS. -/
  pendLoss : Bool
  /-- Once the run has ended: its stop boundary, and the end record's VCNT with epoch, state and fault code. -/
  ended : Option (Nat × Nat × Nat × Nat)
  /-- The end record has been taken, and is settled (stored or lost). -/
  endTaken : Bool
  endDone : Bool
deriving DecidableEq, Repr

/-- A fail log record or capture record on its way: its run, the time it enters the buffer, its 256 bits, and the
capture word behind it (0 for a log record). -/
structure LogItem where
  run : Nat
  time : Nat
  rec256 : BitVec 256
  cap : BitVec 1024
deriving DecidableEq, Repr

/-- A write of the log or capture writer that awaits its response (05 R174, R176): the run, whether it is an end
record, whether the response is an error. -/
structure LogFly where
  run : Nat
  isEnd : Bool
  err : Bool
deriving DecidableEq, Repr

/-- A line update (05 R181): the plane, the line's G6 byte address, the bits, the time it enters. -/
structure LineUpd where
  plane : Nat
  addr : Nat
  bits : BitVec 512
  time : Nat
deriving DecidableEq, Repr

/-- An entry of an RAE queue (05 R184): a fail address (its cell, its site, the pin's SHARED mark), or a loss marker;
`ballEnd` is that of its vector. -/
structure RaeItem where
  marker : Bool
  x : Nat
  y : Nat
  io : Nat
  site : Nat
  shared : Bool
  ballEnd : Nat
  time : Nat
deriving DecidableEq, Repr

/-- Counter increments of one vector that have not reached the stored counters (05 R163, R166): its ball end, the
counts by pin, the group's count, the counts by site, the counter words that hold an uncorrectable error (0 to 31 pins,
32 group, 64 + s site partial). -/
structure CntInc where
  be : Nat
  pins : List (Nat × Nat)
  grp : Nat
  sites : List (Nat × Nat)
  bad : List Nat
deriving DecidableEq, Repr

/-- One group: sequencer, pin channels and FCU, beyond their registers. -/
structure Group where
  /-- Instruction RAM words that do not read 0 (02 R36). -/
  iram : Sparse PatWord
  /-- Granules (8-byte units) of instruction RAM that hold an uncorrectable error. -/
  iramUe : List Nat
  /-- The next word to issue; `none` past address 0xFFFF (02 R53). -/
  pc : Option Loc
  stack : List Ret
  /-- Ball start of the next word to issue. -/
  nextBs : Nat
  /-- The word issued last is an escape point; `some force` (02 R69). -/
  escPt : Option Bool
  inEsc : Bool
  /-- An escape has just been taken: the next word issued is the first of the subroutine. -/
  escFirst : Bool
  /-- The program is in STREAM mode (02 R72); an escape does not leave it. -/
  smode : Bool
  pipe : List PatEntry
  dec : Option Decision
  /-- End of the fork span of the last ball or gang decision (02 R48). -/
  forkEnd : Nat
  /-- Local condition results of deciding vectors: ball end, decision index, result (02 R43, R65), newest first. -/
  results : List (Nat × Nat × Bool)
  /-- Decisions of a gang across devices handed to this group (08 R282), by decision index. -/
  combined : List (Nat × Bool)
  /-- Gang decision index (08 R282). -/
  didx : Nat
  /-- SYNC: ball end of the first SYNC vector; the release time once known (02 R66). -/
  syncArr : Option Nat
  syncRel : Option Nat
  /-- A PAUSE's resume time (02 R58), until the last vector of the PAUSE is known; from then on `resumed`. -/
  resumeAt : Option Nat
  resumed : Bool
  stop : Option Stop
  /-- An ABORT that has been accepted: the boundary it stops at (02 R84, R88). -/
  abortAt : Option Nat
  /-- VCNT and epoch: vectors started since START, modulo 2^56 (02 R77). -/
  vcnt : Nat
  /-- Number of the current or last run, its first issue time and first ball start, its last ball end. -/
  run : Nat
  issue0 : Nat
  ball0 : Nat
  /-- First ball start of the run before it, whose grids hold until `ball0` (05 R173). -/
  grid0 : Nat
  lastEnd : Nat
  /-- Escape timer expiries counted (02 R68). -/
  escN : Nat
  /-- GANG_LOST becomes known at this time (02 R67). -/
  lostAt : Option Nat
  /-- Stream: armed, F, H + 1, the window, each word with its arrival (02 R73, R74). -/
  sArmed : Bool
  sF : Nat
  sH1 : Nat
  sWin : Sparse (Nat × StreamWord)
  /-- APG: working backgrounds B is in its registers; the alternate A, the saved state, the expect delay line. -/
  apgA : Nat
  apgSave : Option ApgWork
  expect : List BeatSrc
  /-- Pin channels: output lanes (0 to 31 DRV, 32 to 63 ENA), transitions placed (newest first). -/
  lanes : Vector Lane 64
  edges : List Edge
  /-- Transitions of the comparator lanes that samples to come may still see (04 R131, R135). -/
  cmIn : List CmpEdge
  /-- Issue times to come of vectors whose waves hold a reserved code (04 R130, R131). -/
  wrsv : List Nat
  /-- A trim: its start time. `trimEnd` is the end of the last completed trim; `tempN` comparisons done since. -/
  trimAt : Option Nat
  trimmed : Option Nat
  tempN : Nat
  /-- Edge-timer mode: 64 stampers (CMH 0 to 31, CML 32 to 63), the stamp queue, the last drain (ns), the HI latch. -/
  stampers : Vector Stamper 64
  stampQ : List (BitVec 64)
  stampNs : Nat
  /-- Fabric data queue (04 R151), the word the next vectors took, and the words presented on the fail port. -/
  fdq : List (BitVec 1024)
  fdTaken : List (BitVec 1024)
  ffStage : List (Nat × BitVec 1024 × Nat × Nat × Nat)
  /-- FCU counters: pins 0 to 31, group 32. -/
  cnt : Vector Counter 33
  cntStage : List CntInc
  runs : List RunLog
  /-- Records on their way into the burst buffer, in it, and writes in flight; the same for capture. -/
  logStage : List LogItem
  logBuf : List LogItem
  logFly : List LogFly
  logTick : Nat
  capStage : List LogItem
  capBuf : List LogItem
  capFly : List LogFly
  /-- A capture entry was lost since the last one stored. -/
  capLoss : Bool
  capTick : Nat
  /-- Changes of the user flags that the fabric drives, newest first: time, flags (09 R335). -/
  uf : List (Nat × BitVec 8)
  /-- Trigger pulses into the fabric: input, start of the FP_CLK cycle (09 R336). -/
  trgs : List (Nat × Nat)
  /-- FP_CLK (09 R319): the number of the last run before the group was released, the time FP_CLK has stood still since. -/
  relRun : Nat
  fpOff : Option Nat
  bmStage : List LineUpd
  bmQ : List LineUpd
  raeStage : List RaeItem
  raeQ : List RaeItem
deriving DecidableEq, Repr

/-! ### Die-level fail capture and repair analysis (05, 06) -/

/-- A site mask bit that has been set on a die and the times from which it is in effect (05 R161, R162): `fast` for
the group `grp`, `slow` for every other group of the die. -/
structure MaskEff where
  site : Nat
  grp : Nat
  fast : Nat
  slow : Nat
deriving DecidableEq, Repr

/-- A line of the catch cache (05 R182): the plane and the address of the line, its bits, and whether a flush has
claimed it (R183). -/
structure CatchLine where
  plane : Nat
  addr : Nat
  bits : BitVec 512
  flush : Bool
deriving DecidableEq, Repr

/-- An OR write of the catch cache in flight: the plane, the flush mark, whether its response is an error. -/
structure OrFly where
  plane : Nat
  flush : Bool
  err : Bool
deriving DecidableEq, Repr

/-- States of a repair domain, and the cause of UNREP (06 R200, R204). -/
inductive DomState where | open_ | unrepMust | unrepEarly | overflow
deriving DecidableEq, Repr

/-- A repair domain (06 R200), with the template's spare counts that hold for it. -/
structure Dom where
  fails : Nat
  rows : List Nat
  cols : List Nat
  list : List (Nat × Nat)
  st : DomState
  memerr : Bool
  touched : Bool
deriving DecidableEq, Repr

/-- A queued RAE command (06 R206 to R208). -/
structure RaeCmd where
  op : Nat
  site : Nat
  cut : Nat
deriving DecidableEq, Repr

/-- The RAE command that executes; of a solve the sites still to do and the next domain's index in the first one's
scope. -/
structure RaeRun where
  cmd : RaeCmd
  sites : List Nat
  k : Nat
deriving DecidableEq, Repr

/-- A domain miss in progress (06 R201): its end, the domain loaded, the one evicted, whether the load reads G6, and the
fail that waits for it: the template's spare rows and columns, its row and column. -/
structure Miss where
  until_ : Nat
  dom : Nat
  evicted : Option Nat
  reads : Bool
  fail : Option (Nat × Nat × Nat × Nat)
deriving DecidableEq, Repr

/-- The RAE and FCD of one die, beyond their registers. -/
structure Capture where
  maskEff : List MaskEff
  /-- Mask bits on their way from another die (site, arrival). -/
  maskTravel : List (Nat × Nat)
  sitePart : Sparse Counter
  /-- Catch cache lines, most recently used first. -/
  catch_ : List CatchLine
  catchRr : Nat
  /-- The earliest time of the next take of the catch cache. -/
  catchSlot : Nat
  orFly : List OrFly
  doms : Sparse Dom
  /-- Resident domains, most recently used first (06 R201). -/
  resident : List Nat
  raeRr : Nat
  /-- The earliest time of the next intake slot. -/
  raeSlot : Nat
  /-- Intake pauses for a miss. -/
  miss : Option Miss
  cmdQ : List RaeCmd
  cmdRun : Option RaeRun
  /-- The time the running solve has reached (06 R216). -/
  solveAt : Nat
  /-- Late fails of each domain in the running solve (06 R211). -/
  late : Sparse Nat
  /-- Result record writes in flight: whether the response is an error. -/
  resFly : List Bool
  /-- What is due later (02 R57, 05 R161): time, class, parameter. Classes 1 to 3: triggers on their way to the DMA channels
  and MDSP cores; 8 to 12: see `State.giveDue`. -/
  trigs : List (Nat × Nat × Nat)
deriving DecidableEq, Repr

/-! ### Measurement DSP cores (07) -/

/-- An active repeat block: its first and last address, the iterations not yet completed (07 R252), whether the current one
began with the cache holding another block (R233). -/
structure RepBlk where
  first : Nat
  last : Nat
  left : Nat
  fromP : Bool
deriving DecidableEq, Repr

/-- One MDSP beyond its registers. The register file of R228 is MDSP_REGr. -/
structure Mdsp where
  /-- X, Y and P memory: words that do not read 0. -/
  x : Sparse Word
  y : Sparse Word
  p : Sparse Word
  /-- Check granules that hold an uncorrectable error: memory (0 X, 1 Y, 2 P) x 32,768 + granule. -/
  ue : List Nat
  stack : List Nat
  /-- Active repeat blocks, innermost first. -/
  reps : List RepBlk
  /-- The block the repeat cache holds (07 R233). -/
  held : Option (Nat × Nat)
  /-- WAIT: the event and when the wait began. -/
  waitEv : Option (Nat × Nat)
deriving DecidableEq, Repr

/-! ### G6 memory and vaults (12, 13) -/

/-- A stored G6 line (12 R435): its 64 bytes as stored (ciphertext in an encrypted vault), its TAG, and what the check
bits of its four ECC words make of them. -/
structure GLine where
  data : Line512
  tag : BitVec 28
  m0 : Ecc
  m1 : Ecc
  m2 : Ecc
  m3 : Ecc
deriving DecidableEq, Repr

/-- One G6 port beyond its registers: whether unlisted lines read as zeroed lines (12 R428) or are undefined (R628);
row activation counts of the current window as (channel, bank, row, count) and the throttled sources as (source,
channel, bank, time of their last activation there) (R432, R433), and the number of that window. -/
structure MemPort where
  zeroed : Bool
  rh : List (Nat × Nat × Nat × Nat)
  throttled : List (Nat × Nat × Nat × Nat)
  win : Nat
deriving DecidableEq, Repr

/-- A vault's keys, by generation (13 R456): K1, K2, KH and KT as one 896-bit string; and the next line of a rekey or
initialisation (R467), which VLT_Vv_RKPTR shows. -/
structure Vault where
  keys : List (Nat × BitVec 896)
  ptr : Nat
  init : Bool
  /-- The rekey starts within 1 us of this time (13 R466). -/
  dueAt : Option Nat
deriving DecidableEq, Repr

/-- A transaction that has timed out and whose response has not come (12 R447): the die of its bridge, its source
identity, its address. -/
structure Txn where
  die : Nat
  src : Nat
  addr : Nat
deriving DecidableEq, Repr

/-- The scrub pass of a die (12 R442): the next line's address and its end. -/
structure Scrub where
  next : Nat
  stop : Nat
deriving DecidableEq, Repr

/-! ### Tethers and the ledger (08) -/

/-- A sync slot (08 R272): TYPE, DEV, GID and the payload, bits 63:14 of the slot. -/
structure TSlot where
  typ : Nat
  dev : Nat
  gid : Nat
  pay : Nat
deriving DecidableEq, Repr

/-- A flit on its way to the far end of a tether (08 R270, R271): its number, its bits, when it was last sent. -/
structure Flit where
  no : Nat
  bits : Line512
  sent : Nat
deriving DecidableEq, Repr

/-- One tether port beyond its registers. -/
structure Tether where
  /-- Number of the next frame to launch (08 R269). -/
  frame : Nat
  /-- Consecutive correctable codewords, four of which are the lock, consecutive uncorrectable ones, and the arrival of the
  last valid frame (08 R271). -/
  good : Nat
  bad : Nat
  lastFrame : Nat
  /-- The launch of the last frame received, recovered from its FNUM (08 R269). -/
  launched : Nat
  /-- Sync messages that wait for a frame, in order of origin: a START stands once for each frame it goes in (08 R280), a
  CAL and a CALR get their payload at the launch (08 R274). -/
  outq : List TSlot
  /-- Flits to send, flits sent and not acknowledged, the next flit number, the flits of the last frame received. -/
  flitq : List Flit
  unacked : List Flit
  nextFlit : Nat
  recv : List Line512
  /-- Hop calibration (08 R274, R276): the launch of the last CAL, the delivery of one that a CALR answers, the hop latency
  used at alignment. -/
  calSent : Option Nat
  calGot : Option Nat
  aligned : Nat
  /-- The far end's device number, and its hops from the acting manager (08 R278). -/
  peer : Option Nat
  depth : Nat
deriving DecidableEq, Repr

/-- A report on a decision of a gang across devices (08 R282): decision index, the port it came by (12 for the device
itself), the result, the time of its arrival. -/
structure GangReport where
  didx : Nat
  from_ : Nat
  val : Bool
  time : Nat
deriving DecidableEq, Repr

/-- A gang across devices on this device (08 R281 to R286). -/
structure XGang where
  /-- The next decision index whose local result is to be formed. -/
  formed : Nat
  reports : List GangReport
  /-- SYNC: arrivals as (index, port, ball end), the index this device has reported. -/
  arrivals : List (Nat × Nat × Nat)
  sarr : Option Nat
  /-- Decisions delivered: index, result, time; the release time delivered, with its index. -/
  decided : List (Nat × Bool × Nat)
  release : Option (Nat × Nat)
  /-- Members that have announced themselves from below (GCFG, 08 R283): the port, the device, its way up in units of
  1/56,000 ns. -/
  via : List (Nat × Nat × Nat)
deriving DecidableEq, Repr

/-- The tether sync unit and the ledger beyond their registers. -/
structure TimeSync where
  port : Vector Tether 12
  gang : Vector XGang 16
  /-- The upstream path has been switched and the new alignment is to be measured; the offset still to step (R289). -/
  measure : Bool
  ptofs : Option Int
  /-- The STARTs acted on whose further copies may still arrive: start time, class, arrival of the first copy (R280). -/
  starts : List (Nat × Nat × Nat)
  /-- The active upstream port has left UP, and no path has been taken up again (R288). -/
  hold : Bool
  /-- Ledger records sent and not acknowledged (SEQ, time), the lowest SEQ that was refused, the lowest SEQ of the mate
  not in the mirror, and whether the next mirror record is the first since pairing. -/
  unacked : List (Nat × Nat)
  nacked : Option Nat
  mateSeq : Nat
  fresh : Bool
deriving DecidableEq, Repr


/-! ### The keeper (16) -/

/-- The fuse array (16 R524). `ue` marks an uncorrectable word. -/
structure Fuses where
  lc : BitVec 16
  antirb : BitVec 128
  devkey : BitVec 256
  bshash : BitVec 384
  pwdhash : BitVec 384
  dbgkhash : BitVec 384
  policy : BitVec 64
  lock : BitVec 8
  serial : BitVec 64
  mfg : BitVec 1024
  /-- What DCR_ID shows (19 R616); the spec does not say in which fuses they lie. -/
  grade : BitVec 2
  rev : BitVec 4
  ue : Bool
deriving DecidableEq, Repr

/-- A nonce and the time it was issued (16 R537). -/
structure Nonce where
  val : BitVec 256
  time : Nat
deriving DecidableEq, Repr

/-- What the thermos holds in SLEEP (16 R542): the draw of the ephemeral root, the debug state, FAILS, the keys by vault. -/
structure Thermos where
  root : Option Nat
  dbg : Nat
  fails : Nat
  keys : List (Nat × List (Nat × BitVec 896))
deriving DecidableEq, Repr

/-- The keeper beyond its registers. -/
structure Keeper where
  fuses : Fuses
  /-- The ephemeral root, as the number of the free value it was drawn as; none in SCAN and with a device key. -/
  root : Option Nat
  /-- The mailbox command that runs: code and argument. -/
  cmd : Option (Nat × Nat)
  nonceTap : Option Nonce
  nonceBox : Option Nonce
  /-- LOCKOUT holds until this time (16 R539). -/
  lockUntil : Nat
  inq : List Word
  outq : List Word
  /-- The DBGAUTH message being processed: its command word and its input words. -/
  msg : Option (Word × List Word)
  thermos : Option Thermos
deriving DecidableEq, Repr


/-! ### Fabric, seams, configuration (09, 10, 11) -/

/-- A configuration frame (11 R370). -/
abbrev Frame := BitVec 4608

/-- A meadow's definition (11 R398): its region mask (bit 8u + v), its fence values N, E, S, W. -/
structure Meadow where
  valid : Bool
  mask : BitVec 48
  fv : BitVec 8
deriving DecidableEq, Repr

/-- A block RAM port (09 R311 to R313): its read output, COR and UNC of its last read, and its last write: the time and
what it replaced, as (first bit, number of bits, bits). -/
structure RamPort where
  out : BitVec 144
  cor : Bool
  unc : Bool
  wAt : Option Nat
  old : List (Nat × Nat × Nat)
deriving DecidableEq, Repr

/-- A multiplier slice (09 R314): the registers on A1, A2, B and on the product, R, the register behind R, OVF. -/
structure Slice where
  a1 : BitVec 26
  a2 : BitVec 26
  b : BitVec 26
  p : BitVec 52
  r : BitVec 60
  q : BitVec 60
  ovf : Bool
deriving DecidableEq, Repr

/-- A GPIO cell (09 R331): what it drives in the high and in the low half of its clock and its output enable, the level at
its pin that lies outside (none where nothing drives it), the pin's last level, its input registers. -/
structure Gpio where
  out : Bool
  outLow : Bool
  oe : Bool
  pad : Option Bool
  level : Bool
  inp : Bool
  inpLow : Bool
deriving DecidableEq, Repr

/-- The logic of a die before the edges of an instant: the edges of two nets at one time see the same values. -/
structure Before where
  time : Nat
  ff : Sparse Bool
  slice : Sparse Slice
  ram : Sparse RamPort
  gpio : Sparse Gpio
deriving DecidableEq, Repr

/-- The fabric of one die beyond its registers. -/
structure Fabric where
  /-- Frames that are not all zero, by frame address (R323); TYPE 0x2 and 0x5 are hamper and cooler contents. -/
  frames : Sparse Frame
  /-- What the settings frames choose (R328). -/
  sets : FabricSets
  /-- Words of 64 bits that hold an uncorrectable error: frame address x 128 + word. -/
  badWords : List Nat
  /-- Flip-flops that do not hold INIT: ((column x 216 + row) x 16 + cell) x 2 + flip-flop. -/
  ff : Sparse Bool
  /-- Multiplier slices, block RAM ports and GPIO cells that are not as after reset, by number. -/
  slice : Sparse Slice
  ram : Sparse RamPort
  gpio : Sparse Gpio
  /-- The logic before this instant's edges, the last edge of each global net, the last edge of each net's source. -/
  pre : Option Before
  netAt : List (Nat × Nat)
  srcAt : List (Nat × Nat)
  /-- Wires that hold their last value while their meadow is fenced: the ones at 1. -/
  heldWires : List Nat
  meadows : List Meadow
  /-- The time of the WREN step (R321); OUTREL has taken place; banks held in high-Z since (R332). -/
  wrenAt : Option Nat
  outrel : Bool
  bankZ : List Nat
  /-- I/O standard declared for each bank, 3 unused (11 R378). -/
  gpioStd : List Nat
  /-- Meadows that have been fenced: the time of their WREN step since, none while their WREN is low (R322). -/
  mdWren : List (Nat × Option Nat)
  /-- Meadows whose own GSR is asserted. -/
  mdGsr : List Nat
  /-- Levels of the 32 DMA request lines (R339). -/
  reqs : BitVec 32
deriving DecidableEq, Repr

/-- A transaction at a fabric promenade port (09 R341): its requester's source identity, its ID, address, beats, whether
it writes, DBG, the data beats so far with their byte enables, and whether a beat has broken the rules (R346). -/
structure FabReq where
  src : Nat
  id : Nat
  addr : Nat
  beats : Nat
  write : Bool
  dbg : Bool
  data : List (Line512 × BitVec 64)
  bad : Bool
deriving DecidableEq, Repr

/-- A response that waits at an initiator side: ID, direction, response, the beats to transfer, whether one has been. -/
structure FabResp where
  id : Nat
  write : Bool
  resp : Resp
  beats : List Line512
  begun : Bool
deriving DecidableEq, Repr

/-- A fabric promenade port: requests of the initiator side that await write data, responses on their way; requests
to the target side that wait for REQ, and those in flight in the fabric. -/
structure FabPort where
  ini : List FabReq
  resp : List FabResp
  tgtWait : List FabReq
  tgt : List FabReq
  /-- IDs of target requests that timed out: their later answer is dropped (R345). -/
  tgtDead : List Nat
  /-- Target requests that have their answer, until their requester takes it. -/
  tgtDone : List (FabReq × Resp × List Nat)
deriving DecidableEq, Repr

/-- A seam port beyond its registers: the intersection of its receive masks over the attempts made and whether both sides
published the same role counts (10 R360), the values of incoming crossings by FAB lane (R352), the words on their way (FAB
lane, arrival, word; 09 R338), the FAB lanes being replaced and since when (R363), the next PROM flit it sends and those not
acknowledged (number, last sent; R353), the fence values in force from before a write that waits for the next fence
(crossing, FV; R369), the uncorrectable words of the last 1 us (FAB lane, time; R362). -/
structure SeamEnd where
  acc : BitVec 48
  same : Bool
  xin : Sparse (BitVec 32)
  wire : List (Nat × Nat × BitVec 32)
  repl : List (Nat × Nat)
  nextFlit : Nat
  unacked : List (Nat × Nat)
  fvals : List (Nat × Nat)
  errs : List (Nat × Nat)
deriving DecidableEq, Repr

/-- A transaction that a die's bridge keeps until its response has returned (10 R368, 12 R413): its tag, the die that serves
it, what it is, the path it was sent on and the other one, whether both came to hold a FENCED link, when it was issued (12 R447). -/
structure SeamTxn where
  tag : Nat
  die : Nat
  acc : Access
  path : Nat
  other : Nat
  lost : Bool
  time : Nat
deriving DecidableEq, Repr

/-- The seam bridge of a die (10 R368): the next tag, what it has sent, and of the last 512 transactions of each source die
that it has performed the source, the tag and the first response. -/
structure Bridge where
  next : Nat
  sent : List SeamTxn
  served : List (Nat × Nat × Resp × List Nat)
deriving DecidableEq, Repr

/-- A leg that has arrived whole (11 R381, R382): whether its tag and hash are right, LAST, what names the next one. -/
structure LegDone where
  good : Bool
  last : Bool
  key : BitVec 256
  iv : BitVec 96
  hash : BitVec 384
deriving DecidableEq, Repr

/-- A running load (11 R372 to R404). -/
structure Load where
  /-- 0 full, 1 DIELOAD, 2 PLOAD. -/
  kind : Nat
  /-- 0 flash 1S-1S-1S, 1 flash 8D-8D-8D, 2 CFG_DATA; the slot and its flash offset. -/
  src : Nat
  slot : Nat
  off : Nat
  /-- Bytes not yet taken up, bytes taken up so far, bytes to pass over before the next leg; the accepted header. -/
  inbuf : List Nat
  pos : Nat
  skip : Nat
  header : List Nat
  /-- The die whose section is loaded, since when (R390), the leg within it, the stored bytes of the section so far. -/
  die : Nat
  turn : Nat
  leg : Nat
  stored : Nat
  key : BitVec 256
  iv : BitVec 96
  hash : BitVec 384
  /-- The command stream not yet executed, the leg it came with, an FWRITE that goes on (address, frames left). -/
  words : List Word
  done : Option LegDone
  fw : Option (Nat × Nat)
  /-- Frames written since the last DCRC, newest first; the last command was a DCRC; DEND has come, at what time
  (R395). -/
  written : List Nat
  crcLast : Bool
  ended : Bool
  endAt : Nat
  /-- Image slots still to try: slot, flash offset. -/
  slots : List (Nat × Nat)
deriving DecidableEq, Repr

/-- Start-up steps under way (11 R395): the dies, the meadow of a partial load or an UNFENCE, the order, the next step
and its time, the kind of the load (3 for an UNFENCE). -/
structure Startup where
  dies : List Nat
  meadow : Option Nat
  order : Nat
  step : Nat
  time : Nat
  kind : Nat
deriving DecidableEq, Repr

/-- The configuration engine. -/
structure Config11 where
  load : Option Load
  startup : Option Startup
  /-- The load whose start-up runs or has run. -/
  started : Option Load
  /-- When synthesisers locked, by 2 x die + number (R395). -/
  locks : List (Nat × Nat)
  /-- The start-up orders of partial loads: die, meadow, STARTUP (R403). -/
  orders : List (Nat × Nat × Nat)
  /-- The load whose start-up has run: its end at this time, its kind, its dies (11 R397, R403). -/
  doneAt : Option (Nat × Nat × List Nat)
  /-- What the flash holds, as last read from it. -/
  flash : List Nat
  /-- Meadow fences requested: die, meadow, the time F. -/
  fences : List (Nat × Nat × Nat)
  /-- Start-ups of meadows by UNFENCE. -/
  unfence : List Startup
  /-- The header of the last full load; flash offset and slot of the last one from flash. -/
  header : List Nat
  slotOff : Nat
  fullSlot : Nat
deriving DecidableEq, Repr



/-! ### DMA (14) -/

/-- A beat of the DMA engine: where the bytes lie (address and number), whether it writes, the bytes of a write, the
descriptor it belongs to. -/
structure Beat where
  addr : Nat
  len : Nat
  write : Bool
  data : List Nat
  desc : Nat
  /-- The channel still wants its data; an error drops it (R489). -/
  live : Bool
  /-- The region registers under which its address was decoded (12 R423); its port has been trained anew since (12 R426); when
  it was issued (12 R447). -/
  map : List Word
  gone : Bool
  time : Nat
deriving DecidableEq, Repr

/-- A DMA channel beyond its registers (14 R475 to R491). -/
structure DmaCh where
  /-- The 32 bytes of the current descriptor, once fetched; a fetch is under way. -/
  desc : Option (BitVec 256)
  fetching : Bool
  /-- The burst in progress: bytes of the descriptor before it, its bytes, the bytes asked for, the bytes written. -/
  burst : Option (Nat × Nat × Nat × Nat)
  /-- Bytes of the burst read and not yet written (the staging buffer). -/
  stage : List Nat
  /-- Beats in flight, oldest first. -/
  fly : List Beat
  /-- STOP has been asked for. -/
  stop : Bool
  /-- The current or last burst was paced (R488). -/
  paced : Bool
  /-- The address of the current descriptor, which DMA_CHc_DESC shows while the chain runs (R492). -/
  descAt : Nat
  /-- The error that DMA_ERRLOG takes once every beat in flight has its response (R489): address, descriptor, KIND, RESP,
  and whether COUNT was 0. -/
  err : Option (Nat × Nat × Nat × Nat × Bool)
deriving DecidableEq, Repr

/-- A die's DMA engine: its channels, the channel served last (R485). -/
structure Dma where
  ch : Vector DmaCh 32
  cur : Nat
deriving DecidableEq, Repr

/-! ### Control cores (15) -/

/-- A control core (15 R494): RV64IMAC with machine and user modes. -/
structure Core where
  pc : BitVec 64
  x : Vector (BitVec 64) 32
  machine : Bool
  /-- CSRs that store a value and do not read 0, by number. -/
  csr : Sparse (BitVec 64)
  /-- The line of the reservation (R500, R512). -/
  resv : Option Nat
  /-- Posted writes whose error response has not come (R498): address, response. -/
  posted : List (Nat × Resp)
  /-- L1 instruction cache, by line address (R496). -/
  l1i : Sparse Line512
  /-- Lines the L1 data cache holds; their data is the L2's (R496). -/
  l1d : List Nat
  /-- RESUME with STEP: one instruction, then HALT (R513). -/
  stepping : Bool
  /-- The other core's HALT halted this one (R516). -/
  byPeer : Bool
  /-- The instruction at the program counter (its bits) has an access whose answer has not come. -/
  waiting : Option Nat
  /-- A halt that takes effect once that instruction has completed (R511); whether it is the other core's (R516). -/
  haltPend : Option Bool
  /-- Posted writes whose response has not come (R498). -/
  flight : List Access
  /-- When the core last entered HALT (R504). -/
  haltAt : Nat
deriving DecidableEq, Repr

/-- The L2 of a die: its lines and whether they are dirty; the operation that runs (R496, R497). -/
structure L2 where
  lines : Sparse (Line512 × Bool)
  op : Option (List (Nat × Line512))
deriving DecidableEq, Repr

/-- The test access port (15 R506, R507): instruction, boundary register, the data register as last captured; DBGACC's
last address, read data and response, the DROP mark, and an operation whose answer has not come. -/
structure Tap where
  ir : BitVec 6
  bsr : Nat
  dr : BitVec 84
  addr : BitVec 48
  data : Word
  resp : Resp
  drop : Bool
  op : Option Access
deriving DecidableEq, Repr

/-! ### Self-test, monitors, PCI Express, power (17, 18, 19, 20) -/

/-- The BIST scheduler of a die: the slice that runs (target, segment, start), the retest under way (target), the target
last started, the last GAP instant, the next segment of each target. -/
structure Bist where
  run : Option (Nat × Nat × Nat)
  retest : Option Nat
  last : Nat
  lastT : Nat
  segs : Sparse Nat
deriving DecidableEq, Repr

/-- The monitor counters of a die (18 R573): counts, MON_CAUSE.OVF, the time of an armed snapshot, the time up to which
clock cycles are counted. -/
structure Mon where
  cnt : Vector Nat 16
  ovf : BitVec 16
  snap : Option Nat
  sync : Nat
deriving DecidableEq, Repr

/-- The PCI Express endpoint (18 R571, 20 R625, R626): MSI-X enable and function mask, the table by 32-bit word, the
pending bits, the conditions as last seen, the two kinds recorded in advanced error reporting. -/
structure Pcie where
  en : Bool
  fmask : Bool
  table : Sparse Word
  pba : BitVec 64
  prev : BitVec 64
  aerUr : Bool
  aerCa : Bool
deriving DecidableEq, Repr

/-- Reset and power (19): PORST_B low, SYSRST_B low, held by a thermal trip, start-up done, the device safe state, the
level of ROLE, the SMBus address, the time a SLEEP began, the power state a wake leads to. -/
structure Power where
  porLow : Bool
  sysLow : Bool
  hot : Bool
  up : Bool
  safe : Bool
  role : BitVec 2
  smb : BitVec 7
  slept : Option Nat
deriving DecidableEq, Repr

/-! ### The outside -/

/-- The answer to the last bus access, link read or SMBus command (the model's own: what the requester sees); no response
while a fabric target has not answered. -/
structure Reply where
  resp : Option Resp
  data : List Nat
deriving DecidableEq, Repr

/-- What the device has put on a pin or a port: a channel-free record, newest first (the model's own). -/
inductive Output where
  /-- A fabric trigger pulse of a group (02 R57, 09 R336): group, input, start of its port cycle. -/
  | trg (g n time : Nat)
  /-- A word on the fabric fail port (04 R153): group, fail word, pin fail bits, VCNT with epoch, flags. -/
  | failWord (g : Nat) (w : BitVec 1024) (pins vcnt flags : Nat)
  /-- A tether frame (08 R268, R270): port, the payload of its codeword, and the codeword's even symbols, on lane 2q, and odd
  ones, on lane 2q + 1. -/
  | frame (port : Nat) (payload : BitVec 5140) (even odd : BitVec 2720)
  /-- A step of fine time that a relay passes to a downstream device (08 R289); the pairing message to the mate (R291). -/
  | ptStep (port : Nat) (ofs : Int)
  | pairing (dev epoch size : Nat)
  /-- A ledger record on its way to the mate, and an answer to one of the mate's (08 R294). -/
  | ledRecord (seq : Nat) (rec : BitVec 1024)
  | ledAnswer (seq : Nat) (ok : Bool)
  /-- A read of port A or B of a block RAM met a correctable (COR) or an uncorrectable (UNC) word (09 R312); a slice
  overflowed (R314). -/
  | ramPulse (die block : Nat) (portB unc : Bool)
  | sliceOvf (die slice : Nat)
  /-- A posted message of MSI-X vector v (18 R571). -/
  | msix (v : Nat) (addr : BitVec 64) (data : Word)
  /-- A transaction sent to another device of the tree (20 R623): device, offset, access. -/
  | remote (dev off : Nat) (a : Access)
deriving DecidableEq, Repr

/-- Why a command stops with a fault. -/
inductive Fault where
  /-- No command of this machine faults (a block reports errors in its state): kept for the interface. Safe. -/
  | none_
deriving DecidableEq, Repr

/-- Why a command has no meaning. -/
inductive Refusal where
  /-- Raised by Dispatch for a command without a meaning yet, and by nothing else. Safe: no state follows. -/
  | notModelled (mnemonic : String)
deriving DecidableEq, Repr

/-- The whole block. -/
structure State where
  /-- Commands that wait, first in first out. -/
  pending : List Instr
  /-- Time since power-up in units of 125 fs (the model's own; package time is computed from it). -/
  now : Nat
  /-- Counter of the free values taken (the model's own). -/
  freeCtr : Nat
  /-- Every register of the register tables that does not read its reset value, by physical address. -/
  regs : Sparse Word
  /-- The HI latches, by the HI register's address (20 R621). -/
  latch : Sparse Word
  reply : Reply
  out : List Output
  grp : Vector Group 24
  cap : Vector Capture 6
  port : Vector MemPort 24
  /-- G6 lines by device channel x 2^25 + line number; `some` where written, `none` where undefined. -/
  lines : Sparse (Option GLine)
  vault : Vector Vault 64
  /-- Transactions that timed out before their response came. -/
  txns : List Txn
  /-- Answers of other devices that their requesters have not taken: access, response, data (20 R623, R624). -/
  remoteDone : List (Access × Resp × List Nat)
  /-- Accesses to other devices that have no answer yet. -/
  remoteOut : List Access
  scrub : Vector (Option Scrub) 6
  /-- An integrity halt has started (13 R463), and the dies it has reached. -/
  haltReq : Bool
  haltOn : Vector Bool 6
  tsy : TimeSync
  /-- Dies isolated or without their clock (10 R365, 19 R595). -/
  isolated : Vector Bool 6
  /-- Dies whose frames are loaded and whose start-up steps are done (11 R391). -/
  cfgUp : Vector Bool 6
  mdsp : Vector Mdsp 24
  keeper : Keeper
  fab : Vector Fabric 6
  /-- Promenade ports of the fabric: port 16 x die + p. -/
  fport : Vector FabPort 96
  /-- Seam ports: port 3 x die + k. -/
  seam : Vector SeamEnd 18
  bridge : Vector Bridge 6
  /-- Dies that hold role counts (10 R358); dies in reset or without their clock. -/
  hasRoles : Vector Bool 6
  dieDown : Vector Bool 6
  cfg : Config11
  /-- Level of HOLDUP_B (09 R333). -/
  holdupB : Bool
  dma : Vector Dma 6
  core : Vector Core 12
  l2 : Vector L2 6
  tap : Tap
  bist : Vector Bist 6
  mon : Vector Mon 6
  pcie : Pcie
  power : Power
deriving DecidableEq, Repr

/-! ### Reset -/

/-- A lane at power-up: idle (04 R122). -/
def Lane.reset : Lane := ⟨false, none⟩
/-- A stamper at reset. -/
def Stamper.reset : Stamper := ⟨none, false, false, []⟩
/-- A counter at reset. -/
def Counter.zero : Counter := ⟨0, false, false⟩

/-- A group at reset: nothing issued, nothing queued. -/
def Group.reset : Group where
  iram := []
  iramUe := []
  pc := none
  stack := []
  nextBs := 0
  escPt := none
  inEsc := false
  escFirst := false
  smode := false
  pipe := []
  dec := none
  forkEnd := 0
  results := []
  combined := []
  didx := 0
  syncArr := none
  syncRel := none
  resumeAt := none
  resumed := false
  stop := none
  abortAt := none
  vcnt := 0
  run := 0
  issue0 := 0
  ball0 := 0
  grid0 := 0
  lastEnd := 0
  escN := 0
  lostAt := none
  sArmed := false
  sF := 0
  sH1 := 0
  sWin := []
  apgA := 0
  apgSave := none
  expect := []
  lanes := Vector.replicate 64 Lane.reset
  edges := []
  cmIn := []
  wrsv := []
  trimAt := none
  trimmed := none
  tempN := 0
  stampers := Vector.replicate 64 Stamper.reset
  stampQ := []
  stampNs := 0
  fdq := []
  fdTaken := []
  ffStage := []
  cnt := Vector.replicate 33 Counter.zero
  cntStage := []
  runs := []
  logStage := []
  logBuf := []
  logFly := []
  logTick := 0
  capStage := []
  capBuf := []
  capFly := []
  capLoss := false
  capTick := 0
  uf := []
  trgs := []
  relRun := 0
  fpOff := some 0
  bmStage := []
  bmQ := []
  raeStage := []
  raeQ := []

/-- The fail capture block and RAE of a die at reset. -/
def Capture.reset : Capture where
  maskEff := []
  maskTravel := []
  sitePart := []
  catch_ := []
  catchRr := 0
  catchSlot := 0
  orFly := []
  doms := []
  resident := []
  raeRr := 0
  raeSlot := 0
  miss := none
  cmdQ := []
  cmdRun := none
  solveAt := 0
  late := []
  resFly := []
  trigs := []

def MemPort.reset : MemPort := ⟨false, [], [], 0⟩
def Vault.reset : Vault := ⟨[], 0, false, none⟩

/-- A tether port at reset. -/
def Tether.reset : Tether := ⟨0, 0, 0, 0, 0, [], [], [], 0, [], none, none, 0, none, 0⟩
def XGang.reset : XGang := ⟨0, [], [], none, [], none, []⟩
def TimeSync.reset : TimeSync where
  port := Vector.replicate 12 Tether.reset
  gang := Vector.replicate 16 XGang.reset
  measure := false
  ptofs := none
  starts := []
  hold := false
  unacked := []
  nacked := none
  mateSeq := 0
  fresh := false

/-- An MDSP at reset (07 R257). -/
def Mdsp.reset : Mdsp := ⟨[], [], [], [], [], [], none, none⟩
/-- A blank fuse array. -/
def Fuses.blank : Fuses := ⟨0, 0, 0, 0, 0, 0, 0, 0, 0, 0, 2, 0, false⟩
/-- The keeper at power-on: BLANK, the ephemeral root drawn (16 R528). -/
def Keeper.reset : Keeper := ⟨Fuses.blank, some 0, none, none, none, 0, [], [], none, none⟩
/-- A die's fabric after a clear (11 R371). -/
def FabricSets.none : FabricSets := ⟨[], [], [], [], [], []⟩
def Fabric.reset : Fabric where
  frames := []
  sets := FabricSets.none
  badWords := []
  ff := []
  slice := []
  ram := []
  gpio := []
  pre := none
  netAt := []
  srcAt := []
  heldWires := []
  meadows := []
  wrenAt := none
  outrel := false
  bankZ := []
  gpioStd := []
  mdWren := []
  mdGsr := []
  reqs := 0
def FabPort.reset : FabPort := ⟨[], [], [], [], [], []⟩
def SeamEnd.reset : SeamEnd := ⟨BitVec.allOnes 48, true, [], [], [], 0, [], [], []⟩
def Bridge.reset : Bridge := ⟨0, [], []⟩
def Config11.reset : Config11 := ⟨none, none, none, [], [], none, [], [], [], [], 0, 0⟩

def DmaCh.reset : DmaCh := ⟨none, false, none, [], [], false, false, 0, none⟩
def Dma.reset : Dma := ⟨Vector.replicate 32 DmaCh.reset, 31⟩
/-- A core after a reset of its die (15 R502). -/
def Core.reset : Core := ⟨0, Vector.replicate 32 0, true, [], none, [], [], [], false, false, none, none, [], 0⟩
def L2.reset : L2 := ⟨[], none⟩
/-- The TAP after reset: IDCODE, as IEEE 1149.1 has it. -/
def Tap.reset : Tap := ⟨2, 0, 0, 0, 0, .ok, false, none⟩
def Bist.reset : Bist := ⟨none, none, 63, 0, []⟩
def Mon.reset : Mon := ⟨Vector.replicate 16 0, 0, none, 0⟩
/-- MSI-X is off and no vector is masked by the function; table words read as `msixDefault` of Machine/Interrupts.lean. -/
def Pcie.reset : Pcie := ⟨false, false, [], 0, 0, false, false⟩
/-- At power-up: nothing held in reset, the start-up sequence not yet run (19 R588). -/
def Power.reset : Power := ⟨false, false, false, false, false, 0, 0x4A, none⟩
/-- The machine right after power-on reset. -/
def State.reset : State where
  pending := []
  now := 0
  freeCtr := 1
  regs := []
  latch := []
  reply := ⟨some .ok, []⟩
  out := []
  grp := Vector.replicate 24 Group.reset
  cap := Vector.replicate 6 Capture.reset
  port := Vector.replicate 24 MemPort.reset
  lines := []
  vault := Vector.replicate 64 Vault.reset
  txns := []
  remoteDone := []
  remoteOut := []
  scrub := Vector.replicate 6 none
  haltReq := false
  haltOn := Vector.replicate 6 false
  tsy := TimeSync.reset
  isolated := Vector.ofFn (fun d => d.val != 0)
  cfgUp := Vector.replicate 6 false
  mdsp := Vector.replicate 24 Mdsp.reset
  keeper := Keeper.reset
  fab := Vector.replicate 6 Fabric.reset
  fport := Vector.replicate 96 FabPort.reset
  seam := Vector.replicate 18 SeamEnd.reset
  bridge := Vector.replicate 6 Bridge.reset
  hasRoles := Vector.replicate 6 false
  dieDown := Vector.replicate 6 false
  cfg := Config11.reset
  holdupB := false
  dma := Vector.replicate 6 Dma.reset
  core := Vector.replicate 12 Core.reset
  l2 := Vector.replicate 6 L2.reset
  tap := Tap.reset
  bist := Vector.replicate 6 Bist.reset
  mon := Vector.replicate 6 Mon.reset
  pcie := Pcie.reset
  power := Power.reset

end Sys2Proof.Machine
end

