-- ==== Sys2Proof/Machine/Ops.lean ====
section
/-! DEFINITION. Machine/Ops.lean: the named operations every meaning is written with: registers and their fields, time,
free values, the outputs, and the parts of the state. -/
namespace Sys2Proof

/-- The worse of two responses, 12 R446. -/
def Resp.rank (r : Resp) : Nat :=
  match r with
  | .ok => 0 | .errTimeout => 1 | .errData => 2 | .errVault => 3 | .errDenied => 4 | .errAbsent => 5 | .errDecode => 6

def Resp.worse (a b : Resp) : Resp := if b.rank ≤ a.rank then a else b

end Sys2Proof
namespace Sys2Proof.Machine

/-- The outcome type of every meaning. -/
abbrev Out := Host.Outcome State Fault Refusal

/-! Registers -/

/-- A register's stored value. -/
def State.rd (s : State) (a : Nat) : Word := Sparse.get resetOf s.regs a

/-- Store a register. -/
def State.wr (s : State) (a : Nat) (v : Word) : State := { s with regs := Sparse.put resetOf s.regs a v }

/-- A field of a register. -/
def State.fld (s : State) (a : Nat) (f : Fld) : Nat := f.get (s.rd a)

/-- Store a field of a register. -/
def State.setF (s : State) (a : Nat) (f : Fld) (x : Nat) : State := s.wr a (f.set (s.rd a) x)

/-- A one-bit field as a truth value. -/
def State.flag (s : State) (a : Nat) (f : Fld) : Bool := s.fld a f != 0

/-- Store a one-bit field. -/
def State.setB (s : State) (a : Nat) (f : Fld) (b : Bool) : State := s.setF a f (b2n b)

/-- Set a one-bit field: hardware raises a cause (00 R12). -/
def State.raise (s : State) (a : Nat) (f : Fld) : State := s.setF a f 1

/-- Add to a counter field that saturates at all ones. -/
def State.bump (s : State) (a : Nat) (f : Fld) (n : Nat) : State :=
  s.setF a f (min (s.fld a f + n) (2 ^ f.w - 1))

/-- A value in a LO/HI pair of registers. -/
def State.rdPair (s : State) (lo hi : Nat) : Nat := (s.rd lo).toNat + 4294967296 * (s.rd hi).toNat

/-- Store a value in a LO/HI pair. -/
def State.wrPair (s : State) (lo hi v : Nat) : State :=
  (s.wr lo (BitVec.ofNat 32 v)).wr hi (BitVec.ofNat 32 (v / 4294967296))

/-- The bits of a register that a write stores. -/
def rwMask (fs : List FieldRow) : Word :=
  fs.foldl (fun m f => if f.acc = .rw then m ||| f.fld.mask else m) 0#32

/-- A write of a register's RW fields (00 R11); every other bit keeps its value. -/
def State.wrRW (s : State) (a : Nat) (v : Word) : State :=
  match regAt a with
  | none => s
  | some (_, r, _) => s.wr a ((s.rd a &&& ~~~(rwMask r.fields)) ||| (v &&& rwMask r.fields))

/-- Every register of a range returns to its reset value. -/
def State.dropRegs (s : State) (inRange : Nat → Bool) : State :=
  { s with regs := Sparse.keep (fun a => !inRange a) s.regs
           latch := Sparse.keep (fun a => !inRange a) s.latch }

/-! Time (the model's clock counts units of 125 fs; 08 R264) -/

/-- Units of 125 fs in a nanosecond. -/
def ns : Nat := 8000

/-- Package time in ns without the offset of TSY_PTOFS (08 R264). -/
def State.ptime (s : State) : Nat := s.now / ns

/-- Package time holds for the device: it is no worker (ROLE 0b10), or it has aligned (08 R265, R299). -/
def State.aligned (s : State) : Bool :=
  s.fld R.TSY_STAT F.TSY_STAT_ROLE != 2 || s.flag R.PT_STAT F.PT_STAT_ALIGNED

/-- An event whose time the spec fixes takes place then, or now if that has passed. -/
def State.at_ (s : State) (t : Nat) : State := { s with now := max s.now t }

/-- Time passes with no command. -/
def State.tick (s : State) : State := { s with now := s.now + 1 }

/-! Free values: one that nothing constrains -/

/-- A value the spec leaves open. -/
def State.freeVal (s : State) : Nat := Config.freeValue s.freeCtr

/-- The counter moves on, so that the next free value is another one. -/
def State.used (s : State) : State := { s with freeCtr := s.freeCtr + 1 }

/-- Free lines, and the counter past them. -/
def State.freeLines (s : State) (n : Nat) : List Line512 :=
  (List.range n).map (fun i => BitVec.ofNat 512 (Config.freeValue (s.freeCtr + i)))
def State.usedN (s : State) (n : Nat) : State := { s with freeCtr := s.freeCtr + n }

/-! Outputs and replies -/

def State.emit (s : State) (o : Output) : State := { s with out := o :: s.out }

def State.answer (s : State) (r : Resp) (data : List Nat) : State := { s with reply := ⟨some r, data⟩ }

/-- Bits as a number, the first lowest. -/
def bitsNat (l : List Bool) : Nat :=
  match l with
  | [] => 0
  | b :: r => b2n b + 2 * bitsNat r

/-! Parts of the state -/

def State.g (s : State) (g : Fin 24) : Group := s.grp[g]
def State.setG (s : State) (g : Fin 24) (x : Group) : State := { s with grp := s.grp.set g x }
def State.modG (s : State) (g : Fin 24) (f : Group → Group) : State := s.setG g (f (s.g g))
def State.c (s : State) (d : Fin 6) : Capture := s.cap[d]
def State.setC (s : State) (d : Fin 6) (x : Capture) : State := { s with cap := s.cap.set d x }
def State.modC (s : State) (d : Fin 6) (f : Capture → Capture) : State := s.setC d (f (s.c d))
def State.p (s : State) (q : Fin 24) : MemPort := s.port[q]
def State.setP (s : State) (q : Fin 24) (x : MemPort) : State := { s with port := s.port.set q x }
def State.v (s : State) (v : Fin 64) : Vault := s.vault[v]
def State.setV (s : State) (v : Fin 64) (x : Vault) : State := { s with vault := s.vault.set v x }

/-- The die of a group, 00 R8. -/
def dieOf (g : Fin 24) : Fin 6 := ⟨g.val / 4, by omega⟩

/-- The four groups of a die. -/
def groupsOf (d : Fin 6) : List (Fin 24) :=
  [⟨4 * d.val, by omega⟩, ⟨4 * d.val + 1, by omega⟩, ⟨4 * d.val + 2, by omega⟩, ⟨4 * d.val + 3, by omega⟩]

/-! Monitor counters (18 R573 to R575) -/

/-- The largest value of a monitor counter. -/
def monMax : Nat := 281474976710655

/-- Add n to the counters selected; one that reaches its largest value sets its bit of OVF. -/
def Mon.add (m : Mon) (sel : Nat → Bool) (n : Nat) : Mon :=
  { m with
    cnt := Vector.ofFn fun i => if sel i.val then min (m.cnt[i] + n) monMax else m.cnt[i]
    ovf := (List.finRange 16).foldl (fun o i =>
      if sel i.val && decide (m.cnt[i] < monMax ∧ monMax ≤ m.cnt[i] + n) then o ||| BitVec.ofNat 16 (2 ^ i.val) else o) m.ovf }

/-- Counter i of die d counts event `code`. -/
def State.counts (s : State) (d code i : Nat) : Bool :=
  code != 0 && s.flag (R.MON_SEL d i) F.MON_SEL_EN && s.fld (R.MON_SEL d i) F.MON_SEL_EVT == code

/-- n occurrences of event `code` of die d (18 R573, R574). -/
def State.tally (s : State) (d code n : Nat) : State :=
  if h : d < 6 then { s with mon := s.mon.set d (s.mon[d].add (s.counts d code) n) h } else s

/-- A self-test target of a die is held (17 R559). -/
def State.bistHeld (s : State) (d t : Nat) : Bool :=
  bitOf (s.rdPair (R.BIST_HOLD_LO d) (R.BIST_HOLD_HI d)) t

/-- A list's element by number. -/
def nth {α : Type} (l : List α) (i : Nat) (d : α) : α := l.getD i d

/-- 2 to the width of a counter, less one. -/
def sat32 (n : Nat) : Nat := min n 4294967295

end Sys2Proof.Machine
end

