-- ==== Sys2Proof/Machine/Frames.lean ====
section
/-! DEFINITION. Machine/Frames.lean: configuration memory: frame addresses, their order, frames and their CRC
(09_fabric.md R323, R324; 11_configuration.md R370, R373, R384). -/
namespace Sys2Proof.Machine

/-- The fields of a frame address (09 R323). -/
structure FrameAddr where
  die : Nat
  rrow : Nat
  rcol : Nat
  typ : Nat
  col : Nat
  minor : Nat
deriving DecidableEq, Repr

def frameAddr (w : Nat) : FrameAddr := ⟨bitsOf w 29 3, bitsOf w 26 3, bitsOf w 23 3, bitsOf w 20 3, bitsOf w 14 6, bitsOf w 0 8⟩

def FrameAddr.word (f : FrameAddr) : Nat :=
  f.die * 2 ^ 29 + f.rrow * 2 ^ 26 + f.rcol * 2 ^ 23 + f.typ * 2 ^ 20 + f.col * 2 ^ 14 + f.minor

/-- Columns of a type in a region, minors of a column (09 R323, R324). -/
def colsOf (typ : Nat) : Nat := match typ with | 0 => 40 | 3 => 4 | 6 => 1 | 7 => 0 | _ => 5
def minorsOf (typ : Nat) : Nat := match typ with | 0 => 32 | 1 => 16 | 2 => 96 | 3 => 16 | 4 => 16 | 5 => 256 | 6 => 4 | _ => 0

/-- A type exists in a region row. -/
def typeIn (typ rrow : Nat) : Bool := decide (typ ≤ 6) && (typ != 5 || decide (1 ≤ rrow ∧ rrow ≤ 4))

/-- A valid frame address (09 R324). -/
def FrameAddr.valid (f : FrameAddr) : Bool :=
  decide (f.die < 6 ∧ f.rrow < 6 ∧ f.rcol < 8) && typeIn f.typ f.rrow && decide (f.col < colsOf f.typ ∧ f.minor < minorsOf f.typ)

/-- Bits 13:8 of an address word are 0. -/
def addrValid (w : Nat) : Bool := bitsOf w 8 6 == 0 && decide (w < 2 ^ 32) && (frameAddr w).valid

/-- The region of a frame: bit 8u + v of a meadow's mask (11 R398). -/
def FrameAddr.region (f : FrameAddr) : Nat := 8 * f.rrow + f.rcol

/-- The next type of a region after one. -/
def nextType (typ rrow : Nat) : Option Nat := (List.range 7).find? (fun t => decide (typ < t) && typeIn t rrow)

/-- The successor of a frame address within an FWRITE (11 R384); none beyond region row 5. -/
def FrameAddr.next (f : FrameAddr) : Option FrameAddr :=
  if f.minor + 1 < minorsOf f.typ then some { f with minor := f.minor + 1 }
  else if f.col + 1 < colsOf f.typ then some { f with minor := 0, col := f.col + 1 }
  else
    match nextType f.typ f.rrow with
    | some t => some { f with minor := 0, col := 0, typ := t }
    | none =>
      if f.rcol < 7 then some { f with minor := 0, col := 0, typ := 0, rcol := f.rcol + 1 }
      else if f.rrow < 5 then some { f with minor := 0, col := 0, typ := 0, rcol := 0, rrow := f.rrow + 1 }
      else none

/-- Frames of this type carry check bits (11 R370). -/
def checkedType (typ : Nat) : Bool := decide (typ ≤ 6) && typ != 2 && typ != 5

def State.fabric (s : State) (d : Fin 6) : Fabric := s.fab[d]
def State.modFab (s : State) (d : Fin 6) (f : Fabric → Fabric) : State := { s with fab := s.fab.set d (f s.fab[d]) }

/-- A frame by its address word; all zero where nothing is written. -/
def Fabric.frame (x : Fabric) (fa : Nat) : Frame := Sparse.get (fun _ => 0) x.frames fa
def Fabric.setFrame (x : Fabric) (fa : Nat) (v : Frame) : Fabric := { x with frames := Sparse.put (fun _ => 0) x.frames fa v }

/-- Frames of some regions of a die become 0, with their marks (11 R371, R401). -/
def Fabric.clearRegions (x : Fabric) (mask : Nat) : Fabric :=
  { x with frames := Sparse.keep (fun fa => !bitOf mask (frameAddr fa).region) x.frames
           badWords := x.badWords.filter (fun w => !bitOf mask (frameAddr (w / 128)).region) }

/-- One byte into a CRC-32C register, reflected (11 R373). -/
def crcByte (c b : Nat) : Nat :=
  (List.range 8).foldl (fun c _ => if c % 2 = 1 then (c / 2) ^^^ 0x82F63B78 else c / 2) (c ^^^ (b % 256))

/-- CRC-32C of bytes. -/
def crc32c (bs : List Nat) : Nat := (bs.foldl crcByte 0xFFFFFFFF) ^^^ 0xFFFFFFFF

/-- CRC-32C over frames in order, each as 576 bytes, low bit first (11 R385). -/
def crcFrames (fs : List Frame) : Nat :=
  (fs.foldl (fun c f => (leBytes 576 f.toNat).foldl crcByte c) 0xFFFFFFFF) ^^^ 0xFFFFFFFF

/-! Meadows (11 R398, R399) -/

def State.meadow (s : State) (d : Fin 6) (m : Nat) : Meadow := nth (s.fabric d).meadows m ⟨false, 0, 0⟩

/-- The valid meadow that a region lies in; none where it is static. -/
def State.meadowOf (s : State) (d : Fin 6) (region : Nat) : Option Nat :=
  (List.range 32).find? (fun m => (s.meadow d m).valid && bitOf (s.meadow d m).mask.toNat region)

/-- A meadow is fenced. -/
def State.mdFenced (s : State) (d : Fin 6) (m : Nat) : Bool := bitOf (s.rd (R.CFG_MDFENCE d)).toNat m

/-- A region counts as fenced: its meadow is, or its die is loading or not started (11 R391). -/
def State.regionFenced (s : State) (d : Fin 6) (region : Nat) : Bool :=
  !s.cfgUp[d] || (match s.meadowOf d region with | none => false | some m => s.mdFenced d m)

/-- The data port, the user flags and the triggers of a group lie in a fenced meadow (02 R83, 11 R391, R399): its tiles lie
in region row 0, region columns 2k and 2k + 1 (09 R337). -/
def State.fdFenced (s : State) (g : Fin 24) : Bool :=
  s.regionFenced (dieOf g) (2 * (g.val % 4)) || s.regionFenced (dieOf g) (2 * (g.val % 4) + 1)

/-- Interrupt line n of a die's fabric, or DMA request line n - 16, can be other than 0 (09 R339, 11 R391, R399). -/
def State.lineLive (s : State) (d : Fin 6) (n : Nat) : Bool := !s.regionFenced d (Config.lineRegion n)

/-- The WREN step of a region has taken place and its meadow is not fenced: its promenade ports carry requests (09 R345,
11 R399, R403). -/
def State.regionWren (s : State) (d : Fin 6) (region : Nat) : Bool :=
  s.flag (R.FAB_STAT d) F.FAB_STAT_WREN &&
  (match s.meadowOf d region with
   | none => true
   | some m => !s.mdFenced d m && ((s.fabric d).mdWren.lookup m != some none))

end Sys2Proof.Machine
end

