-- ==== Sys2Proof/Machine/G6.lean ====
section
/-! DEFINITION. Machine/G6.lean: the way of a transaction to a G6 line: regions, reachability, the vault stage, the
port's ECC (12_memory_system.md, 13_vaults.md). Every access to G6 in the model goes through `g6Access`. -/
namespace Sys2Proof

def Ecc.pick (n : Nat) : Ecc := if n % 3 = 0 then .clean else if n % 3 = 1 then .ce else .ue

/-- The worse of two conditions of a word. -/
def Ecc.worst (a b : Ecc) : Ecc :=
  match a, b with
  | .ue, _ => .ue
  | _, .ue => .ue
  | .ce, _ => .ce
  | _, .ce => .ce
  | .clean, .clean => .clean

/-- A burst that meets nothing. -/
def G6Env.none_ : G6Env := ⟨[], 0, none, false⟩

end Sys2Proof
namespace Sys2Proof.Machine

/-! Reaching a die (10 R365, R366) -/

/-- The die that port k of die d faces (R348). -/
def neighbour (d k : Nat) : Option Nat :=
  match k with
  | 0 => if d % 3 = 0 then none else some (d - 1)
  | 1 => if d % 3 = 2 then none else some (d + 1)
  | 2 => some ((d + 3) % 6)
  | _ => none

/-- The port of the neighbour that faces back. -/
def facing (k : Nat) : Nat := if k = 0 then 1 else if k = 1 then 0 else 2

/-- SEAM_STAT.STATE of a port: 0 DOWN, 1 TRAIN, 2 UP, 3 FENCED. -/
def State.link (s : State) (d k : Nat) : Nat := s.fld (R.SEAM_STAT d k) F.SEAM_STAT_STATE

/-- The states of the two ends of a seam. -/
def State.setSeam (s : State) (d k : Nat) (f : SeamEnd → SeamEnd) : State :=
  { s with seam := Vector.ofFn (fun i => if i.val = 3 * d + k then f s.seam[i] else s.seam[i]) }

/-- The bridge of a die (R368). -/
def State.bridgeAt (s : State) (d : Nat) : Bridge := s.bridge.toList.getD d Bridge.reset
def State.setBridge (s : State) (d : Nat) (f : Bridge → Bridge) : State :=
  { s with bridge := Vector.ofFn (fun i => if i.val = d then f s.bridge[i] else s.bridge[i]) }

/-- A path of hop codes from die d holds a FENCED link. -/
def pathFenced (s : State) (fuel d path : Nat) : Bool :=
  match fuel with
  | 0 => false
  | n + 1 =>
    if path % 4 = 3 then false
    else
      match neighbour d (path % 4) with
      | none => true
      | some e => s.link d (path % 4) == 3 || s.link e (facing (path % 4)) == 3 || pathFenced s n e (path / 4)

/-- The primary and the alternate path of die a to die t (R366). -/
def State.priPath (s : State) (a t : Nat) : Nat := s.fld (R.SEAM_ROUTE a t) F.SEAM_ROUTE_PRI
def State.altPath (s : State) (a t : Nat) : Nat := s.fld (R.SEAM_ROUTE a t) F.SEAM_ROUTE_ALT

/-- Both paths of die a to die t hold a FENCED link. -/
def State.bothFenced (s : State) (a t : Nat) : Bool := pathFenced s 4 a (s.priPath a t) && pathFenced s 4 a (s.altPath a t)

/-- The path on which die a sends to die t, and the other one (R366). -/
def State.routeTo (s : State) (a t : Nat) : Nat × Nat :=
  if pathFenced s 4 a (s.priPath a t) then (s.altPath a t, s.priPath a t) else (s.priPath a t, s.altPath a t)

/-- A transaction from die a to die t finds it isolated or unreachable (R365, R366); one to an isolated die 0 does from
every die. -/
def State.unreachable (s : State) (a t : Nat) : Bool :=
  (t == 0 && s.isolated[0]) || a != t && (bitOf (s.fld (R.SEAM_DSTAT a) F.SEAM_DSTAT_ABSENT) t ||
    s.bothFenced a t)

/-! PROM flits (R353) -/

/-- A link end sends a flit; one sent more than 100 ns ago has been acknowledged. -/
def SeamEnd.flit (x : SeamEnd) (now : Nat) : SeamEnd :=
  { x with nextFlit := x.nextFlit + 1
           unacked := x.unacked.filter (fun f => decide (now ≤ f.2 + 100 * ns)) ++ [(x.nextFlit, now)] }

/-- A flit goes over every link of a path, and is counted at each (18 R574; notes/assumptions/101.md). -/
def State.sendFlit (s : State) (fuel d path : Nat) : State :=
  match fuel with
  | 0 => s
  | n + 1 =>
    if path % 4 = 3 then s
    else
      match neighbour d (path % 4) with
      | none => s
      | some e => ((s.setSeam d (path % 4) (fun x => x.flit s.now)).tally d (0x60 + path % 4) 1).sendFlit n e (path / 4)

/-- A flit of die a for die t. -/
def State.carry (s : State) (a t : Nat) : State := if a = t then s else s.sendFlit 4 a (s.routeTo a t).1

/-- The flits of a transaction of die a at die t and of its response. -/
def State.roundTrip (s : State) (a t : Nat) : State := if s.unreachable a t then s else (s.carry a t).carry t a

/-! Regions (12 R420 to R422) -/

/-- Channel capacity in bytes by density code. -/
def channelBytes (dens : Nat) : Nat :=
  match dens with
  | 1 => 512 * 1048576
  | 2 => 1024 * 1048576
  | 3 => 2048 * 1048576
  | _ => 0

/-- The density the device's channels have (12 R423: MEMP_CTRL.EXPD of MEMP[0]). -/
def State.density (s : State) : Nat := s.fld (R.MEMP_CTRL 0) F.MEMP_CTRL_EXPD

/-- The fields of a region (12 R421). -/
structure Region where
  en : Bool
  base : Nat
  size : Nat
  kind : Nat
  count : Nat
  die : Nat
  chbase : Nat
  dmask : Nat
  grain : Nat
  chofs : Nat
deriving DecidableEq, Repr

/-- A region from the words of its four registers. -/
def regionOf (base size ctrl chofs : Word) : Region where
  en := F.PROM_REG_CTRL_EN.get ctrl != 0
  base := F.PROM_REG_BASE_BASE.get base * 1048576
  size := F.PROM_REG_SIZE_SIZE.get size * 1048576
  kind := F.PROM_REG_CTRL_KIND.get ctrl
  count := 2 ^ F.PROM_REG_CTRL_COUNT.get ctrl
  die := F.PROM_REG_CTRL_DIE.get ctrl
  chbase := F.PROM_REG_CTRL_CHBASE.get ctrl
  dmask := F.PROM_REG_CTRL_DMASK.get ctrl
  grain := 256 * 2 ^ F.PROM_REG_CTRL_GRAIN.get ctrl
  chofs := F.PROM_REG_CHOFS_CHOFS.get chofs * 1048576

/-- A region of the device: die 0 holds the master copy (12 R424). -/
def State.region (s : State) (r : Nat) : Region :=
  regionOf (s.rd (R.PROM_REG_BASE 0 r)) (s.rd (R.PROM_REG_SIZE 0 r)) (s.rd (R.PROM_REG_CTRL 0 r)) (s.rd (R.PROM_REG_CHOFS 0 r))

/-- The dies of a mask, lowest first. -/
def diesOf (mask : Nat) : List Nat := (List.range 6).filter (bitOf mask)

/-- Channels in the interleave set. -/
def Region.channels (r : Region) : Nat := if r.kind = 0 then r.count else 8 * (diesOf r.dmask).length

/-- Device channel and channel address of offset o of a region (12 R421). -/
def Region.place (r : Region) (o : Nat) : Nat × Nat :=
  let k := o / r.grain
  if r.kind = 0 then
    (8 * r.die + (r.chbase + k % r.count), r.chofs + k / r.count * r.grain + o % r.grain)
  else
    let ds := diesOf r.dmask
    let n := ds.length
    (8 * nth ds (k % n) 0 + k / n % 8, r.chofs + k / (8 * n) * r.grain + o % r.grain)

/-- The region registers, four words a region. -/
def State.regionMap (s : State) : List Word :=
  (List.range 16).flatMap (fun r => [s.rd (R.PROM_REG_BASE 0 r), s.rd (R.PROM_REG_SIZE 0 r), s.rd (R.PROM_REG_CTRL 0 r), s.rd (R.PROM_REG_CHOFS 0 r)])

/-- The machine with these region registers. -/
def State.setRegionMap (s : State) (m : List Word) : State :=
  forEach (List.range 16) (fun r s =>
    (((s.wr (R.PROM_REG_BASE 0 r) (nth m (4 * r) 0)).wr (R.PROM_REG_SIZE 0 r) (nth m (4 * r + 1) 0)).wr (R.PROM_REG_CTRL 0 r)
      (nth m (4 * r + 2) 0)).wr (R.PROM_REG_CHOFS 0 r) (nth m (4 * r + 3) 0)) s

/-- Where a G6 address lies: the lowest-numbered enabled region that contains it, its device channel and line number;
none is ERR_DECODE (12 R422). -/
def State.place (s : State) (a : Nat) : Option (Nat × Nat) :=
  match (List.range 16).find? (fun r => (s.region r).en && decide ((s.region r).base ≤ a ∧ a < (s.region r).base + (s.region r).size)) with
  | none => none
  | some r =>
    let pl := (s.region r).place (a - (s.region r).base)
    if pl.2 < channelBytes s.density / 8 * 7 then some (pl.1, pl.2 / 64) else none

/-- The store's key of a line. -/
def lineKey (ch line : Nat) : Nat := ch * 33554432 + line

/-- The G6 port of a device channel: port p of die n is 4n + p, with channels 2p and 2p + 1 (12 R419). -/
def portOf (ch : Nat) : Nat := ch / 2

/-! Lines -/

/-- A line of zeros with valid check bits and TAG 0 (12 R428). -/
def GLine.zero : GLine := ⟨0, 0, .clean, .clean, .clean, .clean⟩

/-- What an unlisted line holds: zeros where its port was zeroed since power-up, else nothing (12 R628). -/
def State.lineDefault (s : State) (key : Nat) : Option GLine :=
  if (s.port.toList.getD (portOf (key / 33554432)) MemPort.reset).zeroed then some GLine.zero else none

def State.line (s : State) (key : Nat) : Option GLine := Sparse.get s.lineDefault s.lines key

def State.setLine (s : State) (key : Nat) (l : Option GLine) : State :=
  { s with lines := Sparse.put s.lineDefault s.lines key l }

/-- An undefined line: any data, any TAG, any mix of word conditions (12 R628). -/
def freeLine (n : Nat) : GLine :=
  ⟨BitVec.ofNat 512 n, BitVec.ofNat 28 (n / 2 ^ 512), Ecc.pick (n / 2 ^ 540), Ecc.pick (n / 2 ^ 540 / 3),
   Ecc.pick (n / 2 ^ 540 / 9), Ecc.pick (n / 2 ^ 540 / 27)⟩

/-- The line a read finds. -/
def State.lineFound (s : State) (key : Nat) : GLine :=
  match s.line key with
  | some l => l
  | none => freeLine s.freeVal

/-- The machine after a read of a line: an undefined line draws a free value. -/
def State.lineRead (s : State) (key : Nat) : State :=
  match s.line key with
  | some _ => s
  | none => s.used

/-- The conditions of the four words: the stored mark or what this burst meets, whichever is worse. -/
def GLine.conds (l : GLine) (e : List Ecc) : List Ecc :=
  [Ecc.worst l.m0 (nth e 0 .clean), Ecc.worst l.m1 (nth e 1 .clean), Ecc.worst l.m2 (nth e 2 .clean),
   Ecc.worst l.m3 (nth e 3 .clean)]

/-- The line with what a burst has met: an upset of stored bits stays until the line is written. -/
def GLine.worsen (l : GLine) (e : List Ecc) : GLine :=
  { l with m0 := Ecc.worst l.m0 (nth e 0 .clean), m1 := Ecc.worst l.m1 (nth e 1 .clean),
           m2 := Ecc.worst l.m2 (nth e 2 .clean), m3 := Ecc.worst l.m3 (nth e 3 .clean) }

/-- The stored marks of a defined line after a burst. -/
def State.keepMarks (s : State) (key : Nat) (e : List Ecc) : State :=
  match s.line key with
  | some l => s.setLine key (some (l.worsen e))
  | none => s

/-- The bits of the bytes a 64-bit mask enables. -/
def byteMask (m : Nat) : Nat :=
  (List.range 64).foldl (fun acc i => if bitOf m i then acc + 255 * 2 ^ (8 * i) else acc) 0

/-- Replace the enabled bytes of a line. -/
def mergeBytes (old new : Line512) (mask : Nat) : Line512 :=
  let m := BitVec.ofNat 512 (byteMask mask)
  (old &&& ~~~ m) ||| (new &&& m)

/-- The ECC words a byte mask touches. -/
def wordsOf (mask : Nat) : List Nat := (List.range 4).filter (fun w => bitsOf mask (16 * w) 16 != 0)

/-! Vaults (13) -/

def State.vctrl (s : State) (v : Nat) (f : Fld) : Nat := s.fld (R.VLT_V_CTRL 0 v) f
def State.vstate (s : State) (v : Nat) : Nat := s.fld (R.VLT_V_STAT 0 v) F.VLT_V_STAT_STATE
def State.vbase (s : State) (v : Nat) : Nat := s.fld (R.VLT_V_BASE 0 v) F.VLT_V_BASE_BASE * 65536
def State.vsize (s : State) (v : Nat) : Nat := s.fld (R.VLT_V_SIZE 0 v) F.VLT_V_SIZE_SIZE * 65536

/-- The enabled vault that covers an address (13 R450; enabled vaults do not overlap, R451). -/
def State.vaultOf (s : State) (a : Nat) : Option (Fin 64) :=
  (List.finRange 64).find? (fun v => s.vctrl v F.VLT_V_CTRL_EN == 1 && decide (s.vbase v ≤ a ∧ a < s.vbase v + s.vsize v))

/-- The generation an access to a line uses (13 R467, R468). -/
def State.genOf (s : State) (v : Fin 64) (a : Nat) : Nat :=
  let g := s.vctrl v F.VLT_V_CTRL_GEN
  if (s.vstate v == 3 || (s.vstate v == 4 && !(s.v v).init)) && decide (a < (s.v v).ptr) then g + 1 else g

/-- The keys of a vault's generation, zeros once zeroised. -/
def State.keyOf (s : State) (v : Fin 64) (gen : Nat) : BitVec 896 :=
  (((s.v v).keys.find? (fun k => k.1 == gen)).map (·.2)).getD 0

/-- The 128-bit tweak of a line (13 R458). -/
def tweak (a gen : Nat) : BitVec 128 := BitVec.ofNat 128 (a / 64 % 2 ^ 34 + gen % 65536 * 2 ^ 34)

/-- K1 and K2 (bits 0 to 511 of the KDF output), KH (512 to 639), KT (640 to 895): 13 R456. -/
def keyXts (k : BitVec 896) : BitVec 512 := k.extractLsb' 0 512
def keyHash (k : BitVec 896) : BitVec 128 := k.extractLsb' 512 128
def keyTag (k : BitVec 896) : BitVec 256 := k.extractLsb' 640 256

/-- One step of the multiplication of NIST SP 800-38D: z accumulates v where the bit of x is 1, v moves one place. -/
def gfStep (x : Nat) (i : Nat) (zv : Nat × Nat) : Nat × Nat :=
  (if bitOf x (127 - i) then zv.1 ^^^ zv.2 else zv.1,
   if zv.2 % 2 = 1 then (zv.2 / 2) ^^^ (0xE1 * 2 ^ 120) else zv.2 / 2)

/-- The product in GF(2^128), operands as big-endian numbers whose top bit is the coefficient of x^0. -/
def gfMul (x y : Nat) : Nat := ((List.range 128).foldl (fun zv i => gfStep x i zv) (0, y)).1

/-- A 16-byte block, byte 0 lowest, as a big-endian number, and back. -/
def blockBE (b : Nat) : Nat := (List.range 16).foldl (fun acc i => acc * 256 + b / 2 ^ (8 * i) % 256) 0

/-- The tag of a line (13 R459). -/
def lineTag (k : BitVec 896) (a gen : Nat) (c : Line512) : BitVec 28 :=
  let kh := blockBE (keyHash k).toNat
  let t := tweak a gen
  let s := (List.range 4).foldl (fun s w => gfMul (s ^^^ blockBE (bitsOf c.toNat (128 * w) 128)) kh) 0
  let s := gfMul (s ^^^ blockBE t.toNat) kh
  BitVec.ofNat 28 (blockBE s ^^^ (Config.aes256 (keyTag k) t).toNat)

/-- The stored form of a plaintext line at an address (13 R454, R458, R460): ciphertext and TAG. -/
def State.seal (s : State) (vault : Option (Fin 64)) (a : Nat) (plain : Line512) : Line512 × BitVec 28 :=
  match vault with
  | none => (plain, 0)
  | some v =>
    let gen := s.genOf v a
    let k := s.keyOf v gen
    match s.vctrl v F.VLT_V_CTRL_MODE with
    | 1 => (Config.xts (keyXts k) (tweak a gen) plain, 0)
    | 2 => let c := Config.xts (keyXts k) (tweak a gen) plain; (c, lineTag k a gen c)
    | _ => (plain, 0)

/-- The plaintext of stored data. -/
def State.open_ (s : State) (vault : Option (Fin 64)) (a : Nat) (stored : Line512) : Line512 :=
  match vault with
  | none => stored
  | some v =>
    let gen := s.genOf v a
    match s.vctrl v F.VLT_V_CTRL_MODE with
    | 1 => (Config.xts (keyXts (s.keyOf v gen)) (tweak a gen)).symm stored
    | 2 => (Config.xts (keyXts (s.keyOf v gen)) (tweak a gen)).symm stored
    | _ => stored

/-- The tag of a line matches (13 R461 step 3). -/
def State.tagOk (s : State) (vault : Option (Fin 64)) (a : Nat) (l : GLine) : Bool :=
  match vault with
  | none => true
  | some v =>
    if s.vctrl v F.VLT_V_CTRL_MODE = 2 then l.tag == lineTag (s.keyOf v (s.genOf v a)) a (s.genOf v a) l.data else true

/-! Requests -/

/-- What a request does with a line: read the bytes of a mask, write all of it, write the bytes of a mask, OR into it. -/
inductive G6Kind where
  | read (mask : Nat)
  | full (data : Line512)
  | part (data : Line512) (mask : Nat)
  | or_ (data : Line512)
deriving DecidableEq, Repr

def G6Kind.isWrite (k : G6Kind) : Bool :=
  match k with
  | .read _ => false
  | _ => true

/-- The kind code of MEMP_ELOG and VLT_HALT (12 R440, 13 R474). -/
def G6Kind.code (k : G6Kind) : Nat :=
  match k with
  | .read _ => 0
  | .full _ => 1
  | .part _ _ => 1
  | .or_ _ => 2

/-- The source's local code and die (12 R415). -/
def srcLocal (src : Nat) : Nat := src % 128
def srcDie (src : Nat) : Nat := src / 128 % 8

/-- A request is of the FC class at the ports of die d: of another die's it travels as GEN (12 R415, R418). -/
def isFC (d src : Nat) : Bool := decide (0x44 ≤ srcLocal src ∧ srcLocal src ≤ 0x49) && srcDie src == d

/-- The access rights of a vault refuse a source (13 R455). -/
def State.rightsRefuse (s : State) (v : Fin 64) (src : Nat) : Bool :=
  (s.vctrl v F.VLT_V_CTRL_NOHOST == 1 && srcLocal src == 0x60) ||
  (s.vctrl v F.VLT_V_CTRL_NODBG == 1 && srcLocal src == 0x62) ||
  (s.vctrl v F.VLT_V_CTRL_NOFAB == 1 && decide (srcLocal src < 0x10))

/-- The mandatory-vault policy bit of the fuses (13 R453). -/
def State.mandatoryVaults (s : State) : Bool := bitOf (s.fld R.KPR_POLICY F.KPR_POLICY_BITS) 0

/-- MEMP_ELOG of a port (12 R440). -/
def State.elog (s : State) (q a kind src : Nat) : State :=
  (s.wr (R.MEMP_ELOG_LO q) (BitVec.ofNat 32 (a / 64 * 64))).wr (R.MEMP_ELOG_HI q)
    (BitVec.ofNat 32 (a / 4294967296 % 256 + kind * 256 + src * 65536))

/-- Count the corrected words. -/
def State.countCe (s : State) (q n : Nat) : State :=
  if n = 0 then s
  else ((s.tally (q / 4) (0x50 + q % 4) n).bump (R.MEMP_CE_CNT q) F.MEMP_CE_CNT_COUNT n).raise (R.MEMP_CAUSE q) F.MEMP_CAUSE_CECC

/-- Count the uncorrectable words and log the error. -/
def State.countUe (s : State) (q n a kind src : Nat) : State :=
  if n = 0 then s
  else ((s.bump (R.MEMP_UE_CNT q) F.MEMP_UE_CNT_COUNT n).raise (R.MEMP_CAUSE q) F.MEMP_CAUSE_UECC).elog q a kind src

/-- How many of the words listed are in a condition. -/
def countWords (cs : List Ecc) (ws : List Nat) (e : Ecc) : Nat := (ws.filter (fun w => nth cs w .clean == e)).length

/-- The length of a row-hammer window in ns (R432). -/
def rhWin (code : Nat) : Nat := if code = 0 then 16000000 else if code = 2 then 64000000 else 32000000

/-- The window length of a port. -/
def State.rhLen (s : State) (q : Nat) : Nat := rhWin (s.fld (R.MEMP_RH_CTRL q) F.MEMP_RH_CTRL_WIN) * ns

/-- What the window under way has counted at a port: nothing yet where it has begun since the last count. -/
def State.rhNow (s : State) (q : Fin 24) : State :=
  let w := s.now / s.rhLen q
  if (s.p q).win = w then s else s.setP q { s.p q with rh := [], throttled := [], win := w }

/-- GAP in the model's time unit: values below 10 ns act as 10. -/
def State.rhGap (s : State) (q : Nat) : Nat := max 10 (s.fld (R.MEMP_RH_CTRL q) F.MEMP_RH_CTRL_GAP) * ns

/-- A source throttled on a bank: its activation there issues GAP after its last one, or once the window has ended (12 R433);
the access under way stands for that moment. -/
def State.throttleWait (s : State) (q : Fin 24) (ch src bank : Nat) : State :=
  match (s.p q).throttled.find? (fun e => decide ((e.1, e.2.1, e.2.2.1) = (src, ch, bank))) with
  | none => s
  | some e =>
    let t := min (e.2.2.2 + s.rhGap q) ((s.now / s.rhLen q + 1) * s.rhLen q)
    if s.now < t then ((s.tally (q.val / 4) (0x54 + q.val % 4) 1).at_ t).rhNow q else s

/-- A throttled source's last activation on a bank is now; `new` throttles it (12 R433). -/
def State.throttleAt (s : State) (q : Fin 24) (ch src bank : Nat) (new : Bool) : State :=
  let mine := fun e : Nat × Nat × Nat × Nat => decide ((e.1, e.2.1, e.2.2.1) = (src, ch, bank))
  let l := (s.p q).throttled
  if new || l.any mine then s.setP q { s.p q with throttled := (src, ch, bank, s.now) :: l.filter (fun e => !mine e) } else s

/-- An activation of a row counts; one that reaches the threshold throttles its source, but for the FC class (12 R432 to
R434). -/
def State.countRow (s : State) (q : Fin 24) (ch src bank row : Nat) : State :=
  if s.flag (R.MEMP_RH_CTRL q) F.MEMP_RH_CTRL_EN then
    let p := s.p q
    let old := ((p.rh.find? (fun e => e.1 == ch && e.2.1 == bank && e.2.2.1 == row)).map (fun e => e.2.2.2)).getD 0
    let n := old + 1
    let rest := p.rh.filter (fun e => !(e.1 == ch && e.2.1 == bank && e.2.2.1 == row))
    let thr := max 1024 (s.fld (R.MEMP_RH_THR q) F.MEMP_RH_THR_THR)
    let s := s.setP q { p with rh := (ch, bank, row, n) :: rest }
    if n < thr then s
    else if isFC (q.val / 4) src then s.raise (R.MEMP_CAUSE q) F.MEMP_CAUSE_RHFC
    else
      let s := s.throttleAt q ch src bank true
      let s := s.bump (R.MEMP_RH_CNT q) F.MEMP_RH_CNT_COUNT 1
      let s := s.wr (R.MEMP_RH_SRC q) (BitVec.ofNat 32 (src + ch % 2 * 1024 + bank % 16 * 2048))
      s.raise (R.MEMP_CAUSE q) F.MEMP_CAUSE_RHTHR
  else s

/-- The activation of a burst, if it needs one: counted by the monitors, in its window, and at its row. -/
def State.activate (s : State) (q : Fin 24) (ch src : Nat) (act : Option (Nat × Nat)) : State :=
  match act with
  | none => s
  | some (bank, row) =>
    let s := (s.tally (q.val / 4) (0x48 + q.val % 4) 1).rhNow q
    (((s.throttleWait q ch src bank).throttleAt q ch src bank false).countRow q ch src bank row)

/-- A tag failure starts an integrity halt (13 R463): VLT_HALT and VLT_CAUSE.HALT on die 0. A halt that has started
keeps its record (notes/assumptions/20.md). -/
def State.tagFailure (s : State) (v : Nat) (a kind src : Nat) : State :=
  if s.haltReq then s
  else
    let s := (s.wr (R.VLT_HALT_LO 0) (BitVec.ofNat 32 (a / 64 * 64))).wr (R.VLT_HALT_HI 0)
      (BitVec.ofNat 32 (a / 4294967296 % 256 + kind * 256 + src * 65536 + v * 67108864))
    { s.raise (R.VLT_CAUSE 0) F.VLT_CAUSE_HALT with haltReq := true }

/-- A write into a vault counts (13 R466, R469): at LIMIT a rekey becomes due, or stays pending while one runs. -/
def State.countWrite (s : State) (v : Fin 64) : State :=
  let n := min (s.rdPair (R.VLT_V_WCNT_LO 0 v) (R.VLT_V_WCNT_HI 0 v) + 1) (2 ^ 40 - 1)
  let lim := max 1 (s.rdPair (R.VLT_V_LIMIT_LO 0 v) (R.VLT_V_LIMIT_HI 0 v))
  let s := s.wrPair (R.VLT_V_WCNT_LO 0 v) (R.VLT_V_WCNT_HI 0 v) n
  if n < lim then s
  else if s.vstate v = 2 then
    match (s.v v).dueAt with
    | none => s.setV v { s.v v with dueAt := some s.now }
    | some _ => s
  else if s.vstate v = 3 ∨ s.vstate v = 4 then s.raise (R.VLT_V_STAT 0 v) F.VLT_V_STAT_RKPEND
  else s

/-- The checks that end a request before it touches its line (12 R446's order): region, reachability and port state,
the halt, then the vault's rights and states. -/
def State.g6Refuse (s : State) (src a : Nat) (kind : G6Kind) : Option Resp :=
  match s.place a with
  | none => some .errDecode
  | some (ch, _) =>
    if s.unreachable (srcDie src) (ch / 8) then some .errAbsent
    else if s.fld (R.MEMP_STAT (portOf ch)) F.MEMP_STAT_STATE != 2 then some .errAbsent
    else if s.haltOn.toList.getD (ch / 8) false then some .errDenied
    else
      match s.vaultOf a with
      | none => if s.mandatoryVaults then some .errVault else none
      | some v =>
        if s.rightsRefuse v src then some .errVault
        else if s.vstate v = 1 then some .errVault
        else if s.vstate v = 5 ∧ kind.isWrite then some .errVault
        else if s.mandatoryVaults ∧ s.vctrl v F.VLT_V_CTRL_MODE = 0 then some .errVault
        else none

/-- A refusal by access rights sets VLT_CAUSE.ACCESS on the die of the port (13 R455). -/
def State.noteAccess (s : State) (src a : Nat) : State :=
  match s.place a, s.vaultOf a with
  | some (ch, _), some v => if s.rightsRefuse v src then s.raise (R.VLT_CAUSE (ch / 8)) F.VLT_CAUSE_ACCESS else s
  | _, _ => s

/-- The answer of an access: its response, the line's plaintext for a read, the machine after it. -/
structure G6Ans where
  resp : Resp
  data : Line512
  st : State

/-- A read at its port (12 R436, 13 R461). -/
def State.g6ReadLine (s : State) (q : Fin 24) (key src a mask : Nat) (e : List Ecc) : G6Ans :=
  let l := s.lineFound key
  let cs := l.conds e
  let ws := wordsOf mask
  let s := (s.lineRead key).keepMarks key e
  let s := s.countCe q (countWords cs ws .ce)
  let s := s.countUe q (countWords cs ws .ue) a 0 src
  if countWords cs ws .ue != 0 then ⟨.errData, 0, s⟩
  else if s.tagOk (s.vaultOf a) a l then ⟨.ok, s.open_ (s.vaultOf a) a l.data, s⟩
  else ⟨.errVault, 0, s.tagFailure (((s.vaultOf a).map Fin.val).getD 0) a 0 src⟩

/-- Store a plaintext line with fresh check bits; a vault counts it. -/
def State.storeLine (s : State) (key a : Nat) (plain : Line512) : State :=
  let sealed := s.seal (s.vaultOf a) a plain
  let s := s.setLine key (some ⟨sealed.1, sealed.2, .clean, .clean, .clean, .clean⟩)
  match s.vaultOf a with
  | none => s
  | some v => s.countWrite v

/-- A partial or OR write at its port (12 R438, R439, 13 R460, R462): checked whole, merged in plaintext, or refused. -/
def State.g6Merge (s : State) (q : Fin 24) (key src a kind : Nat) (merge : Line512 → Line512) (e : List Ecc) : G6Ans :=
  let l := s.lineFound key
  let cs := l.conds e
  let ws := [0, 1, 2, 3]
  let s := (s.lineRead key).keepMarks key e
  let s := s.countCe q (countWords cs ws .ce)
  let s := s.countUe q (countWords cs ws .ue) a kind src
  if countWords cs ws .ue != 0 then ⟨.errData, 0, s.raise (R.MEMP_CAUSE q) F.MEMP_CAUSE_PWREF⟩
  else if s.tagOk (s.vaultOf a) a l then ⟨.ok, 0, s.storeLine key a (merge (s.open_ (s.vaultOf a) a l.data))⟩
  else ⟨.errVault, 0, s.tagFailure (((s.vaultOf a).map Fin.val).getD 0) a kind src⟩

/-- The EDC retries of a burst (12 R429). -/
def State.edcRetry (s : State) (q n : Nat) : State :=
  if n = 0 then s else s.bump (R.MEMP_EDC_CNT q) F.MEMP_EDC_CNT_COUNT (min n 3)

/-- The access at its port, once nothing refuses it. -/
def State.g6AtPort (s : State) (q : Fin 24) (ch line src a : Nat) (kind : G6Kind) (env : G6Env) : G6Ans :=
  let key := lineKey ch line
  let s := s.tally (q.val / 4) ((if kind.isWrite then 0x44 else 0x40) + q.val % 4) 1
  let s := if isFC (q.val / 4) src then s.tally (q.val / 4) (0x58 + q.val % 4) 1 else s
  let s := (s.activate q ch src env.act).edcRetry q env.edc
  if env.buf then ⟨.errData, 0, s⟩
  else if 4 ≤ env.edc then
    let s := (s.raise (R.MEMP_CAUSE q) F.MEMP_CAUSE_EDCFAIL).elog q a 4 src
    ⟨.errData, 0, if kind.isWrite then s.setLine key none else s⟩
  else
    match kind with
    | .read m => s.g6ReadLine q key src a m env.ecc
    | .full d => ⟨.ok, 0, s.storeLine key a d⟩
    | .part d m => s.g6Merge q key src a 1 (fun o => mergeBytes o d m) env.ecc
    | .or_ d => s.g6Merge q key src a 2 (fun o => o ||| d) env.ecc

/-- An access to the line of an address crosses the seams to its port. -/
def State.g6Trip (s : State) (src a : Nat) : State :=
  match s.place a with
  | none => s
  | some (ch, _) => s.roundTrip (srcDie src) (ch / 8)

/-- One access to the line that holds address a (12 R414: one step). -/
def State.g6Access (s : State) (src a : Nat) (kind : G6Kind) (env : G6Env) : G6Ans :=
  let a := a / 64 * 64
  let s := if 0x38 ≤ srcLocal src ∧ srcLocal src < 0x60 then s.tally (srcDie src) 0x68 1 else s
  let s := s.g6Trip src a
  match s.g6Refuse src a kind with
  | some r => ⟨r, 0, if r = .errVault then s.noteAccess src a else s⟩
  | none =>
    match s.place a with
    | none => ⟨.errDecode, 0, s⟩
    | some (ch, line) =>
      if h : portOf ch < 24 then s.g6AtPort ⟨portOf ch, h⟩ ch line src a kind env else ⟨.errDecode, 0, s⟩

/-- A write of bytes that start at an address and may span lines, a line at a time (the first error response wins
by its rank, 12 R446). `len` counts the lines left. -/
def State.g6WriteBytes (s : State) (src a : Nat) (bytes : List Nat) (envs : List G6Env) (fuel : Nat) : Resp × State :=
  match fuel with
  | 0 => (.ok, s)
  | n + 1 =>
    if bytes.isEmpty then (.ok, s)
    else
      let o := a % 64
      let now := bytes.take (64 - o)
      let data := BitVec.ofNat 512 (leOf now * 2 ^ (8 * o))
      let kind := if now.length = 64 then G6Kind.full data
        else G6Kind.part data ((2 ^ now.length - 1) * 2 ^ o)
      let r := s.g6Access src a kind (envs.headD G6Env.none_)
      let rest := r.st.g6WriteBytes src (a / 64 * 64 + 64) (bytes.drop (64 - o)) envs.tail n
      (r.resp.worse rest.1, rest.2)

/-- A read of bytes, in the same way. -/
def State.g6ReadBytes (s : State) (src a len : Nat) (envs : List G6Env) (fuel : Nat) : Resp × List Nat × State :=
  match fuel with
  | 0 => (.ok, [], s)
  | n + 1 =>
    if len = 0 then (.ok, [], s)
    else
      let o := a % 64
      let k := min len (64 - o)
      let r := s.g6Access src a (.read ((2 ^ k - 1) * 2 ^ o)) (envs.headD G6Env.none_)
      let rest := r.st.g6ReadBytes src (a / 64 * 64 + 64) (len - k) envs.tail n
      (r.resp.worse rest.1, leBytes k (bitsOf r.data.toNat (8 * o) (8 * k)) ++ rest.2.1, rest.2.2)

end Sys2Proof.Machine
end

