-- ==== Sys2Proof/Machine/Apg.lean ====
section
/-! DEFINITION. Machine/Apg.lean: the algorithmic pattern generator of a group (03_pattern_generator.md): address units,
scrambler, data unit, burst unroller. -/
namespace Sys2Proof.Machine

/-- The five registers of an address unit. -/
structure AUnit where
  c : Nat
  b : Nat
  mn : Nat
  mx : Nat
  i : Nat
deriving DecidableEq, Repr

/-- The X unit of a group, from its registers. -/
def State.unitX (s : State) (g : Nat) : AUnit :=
  ⟨(s.rd (R.APG_XC g)).toNat, (s.rd (R.APG_XB g)).toNat, (s.rd (R.APG_XMIN g)).toNat, (s.rd (R.APG_XMAX g)).toNat,
   (s.rd (R.APG_XI g)).toNat⟩

/-- The Y unit of a group. -/
def State.unitY (s : State) (g : Nat) : AUnit :=
  ⟨(s.rd (R.APG_YC g)).toNat, (s.rd (R.APG_YB g)).toNat, (s.rd (R.APG_YMIN g)).toNat, (s.rd (R.APG_YMAX g)).toNat,
   (s.rd (R.APG_YI g)).toNat⟩

/-- An arithmetic step of d on C (R97 to R99): the new C, the carry, and whether WRAP found C or its limits out of
range. -/
def arithStep (wrap : Bool) (u : AUnit) (d : Int) : Nat × Int × Bool :=
  if wrap ∧ u.mn ≤ u.mx ∧ u.mn ≤ u.c ∧ u.c ≤ u.mx then
    let n : Int := (u.mx : Int) - u.mn + 1
    let t : Int := (u.c : Int) - u.mn + d
    (u.mn + (t % n).toNat, if n ≤ t then 1 else if t < 0 then -1 else 0, false)
  else
    let t : Int := (u.c : Int) + d
    (unsignedOf 32 t, if (4294967296 : Int) ≤ t then 1 else if t < 0 then -1 else 0, wrap)

/-- The fields of an X or Y operation (R93). -/
def opCode (op : Nat) : Nat := bitsOf op 20 4
def opSrc (op : Nat) : Nat := bitsOf op 18 2
def opWrap (op : Nat) : Bool := bitOf op 17
def opCry (op : Nat) : Bool := bitOf op 16
def opImm (op : Nat) : Nat := bitsOf op 0 16

/-- The operand SRC selects (R95). -/
def operand (op : Nat) (u other : AUnit) : Nat :=
  match opSrc op with
  | 0 => unsignedOf 32 (signedOf 16 (opImm op))
  | 1 => u.i
  | 2 => u.b
  | _ => other.c

/-- A unit's own operation (R94): the unit for the next vector, its carry, its range flag. -/
def unitOp (op : Nat) (u other : AUnit) : AUnit × Int × Bool :=
  let x := operand op u other
  let arith (d : Int) : AUnit × Int × Bool :=
    let r := arithStep (opWrap op) u d
    ({ u with c := r.1 }, r.2.1, r.2.2)
  match opCode op with
  | 1 => arith 1
  | 2 => arith (-1)
  | 3 => arith (signedOf 32 x)
  | 4 => arith (-(signedOf 32 x))
  | 5 => ({ u with c := x }, 0, false)
  | 6 => ({ u with c := other.c }, 0, false)
  | 7 => ({ u with c := u.c ^^^ x }, 0, false)
  | 8 => ({ u with i := x }, 0, false)
  | 9 => ({ u with i := (u.i + x) % 4294967296 }, 0, false)
  | 10 => ({ u with b := u.c }, 0, false)
  | _ => (u, 0, false)

/-- The carry step the other unit's CRY gives (R100). -/
def carryStep (give : Bool) (carry : Int) (wrap : Bool) (u : AUnit) : AUnit × Bool :=
  if give ∧ carry ≠ 0 then
    let r := arithStep wrap u carry
    ({ u with c := r.1 }, r.2.2)
  else (u, false)

/-- The X, Y and D operations of a pattern word (02 R34). -/
def wordX (w : PatWord) : Nat := bitsOf w.toNat 176 24
def wordY (w : PatWord) : Nat := bitsOf w.toNat 152 24
def wordD (w : PatWord) : Nat := bitsOf w.toNat 128 24

/-- Both units after a vector, and their range flags. -/
def unitsAfter (ox oy : Nat) (x y : AUnit) : AUnit × AUnit × Bool × Bool :=
  let rx := unitOp ox x y
  let ry := unitOp oy y x
  let x' := carryStep (opCry oy) ry.2.1 (opWrap ox) rx.1
  let y' := carryStep (opCry ox) rx.2.1 (opWrap oy) ry.1
  (x'.1, y'.1, rx.2.2 || x'.2, ry.2.2 || y'.2)

/-- Store a unit's changed registers. -/
def State.setUnitX (s : State) (g : Nat) (u : AUnit) : State :=
  ((s.wr (R.APG_XC g) (BitVec.ofNat 32 u.c)).wr (R.APG_XB g) (BitVec.ofNat 32 u.b)).wr (R.APG_XI g) (BitVec.ofNat 32 u.i)

def State.setUnitY (s : State) (g : Nat) (u : AUnit) : State :=
  ((s.wr (R.APG_YC g) (BitVec.ofNat 32 u.c)).wr (R.APG_YB g) (BitVec.ofNat 32 u.b)).wr (R.APG_YI g) (BitVec.ofNat 32 u.i)

/-- The working background B (APG_BW shows it). -/
def State.bgB (s : State) (g : Nat) : Nat := s.rdPair (R.APG_BW_LO g) (R.APG_BW_HI g)

/-- All ones in 64 bits. -/
def ones64 : Nat := 18446744073709551615

/-- The background operation of a D operation (R107): the new B and A. -/
def bgAfter (dop b a bg : Nat) : Nat × Nat :=
  match bitsOf dop 16 2 with
  | 1 => (b ^^^ ones64, a)
  | 2 => (a, b)
  | 3 => (bg, a)
  | _ => (b, a)

/-- The values a vector's beat words are computed from (R92): the registers at its start. -/
def State.beatSrc (s : State) (g : Fin 24) (w : PatWord) (vcnt : Nat) : BeatSrc :=
  ⟨(s.unitX g).c, (s.unitY g).c, s.bgB g, wordD w, vcnt⟩

/-- The three operations of a vector change the registers for the next one (R92). -/
def State.apgAdvance (s : State) (g : Fin 24) (w : PatWord) : State :=
  let r := unitsAfter (wordX w) (wordY w) (s.unitX g) (s.unitY g)
  let bg := bgAfter (wordD w) (s.bgB g) (s.g g).apgA (s.rdPair (R.APG_BG_LO g) (R.APG_BG_HI g))
  let s := (s.setUnitX g r.1).setUnitY g r.2.1
  let s := s.wrPair (R.APG_BW_LO g) (R.APG_BW_HI g) bg.1
  let s := s.modG g (fun x => { x with apgA := bg.2 })
  let s := if r.2.2.1 then s.raise (R.APG_STAT g) F.APG_STAT_XRANGE else s
  if r.2.2.2 then s.raise (R.APG_STAT g) F.APG_STAT_YRANGE else s

/-! Scrambler (R101 to R103) -/

/-- A 7-bit select in a register of four, at bit 8m. -/
def sel7 (v : Word) (m : Nat) : Nat := bitsOf v.toNat (8 * m) 7

/-- Stage 1: bit j of C1. -/
def State.scr1 (s : State) (g l j : Nat) : Bool :=
  let c := sel7 (s.rd (R.APG_SCR1 g (j / 4))) (j % 4)
  if c < 64 then bitOf l c else c == 0x41

/-- A term of stage 2. -/
def State.scrTerm (s : State) (g l c : Nat) : Bool := if c < 64 then s.scr1 g l c else false

/-- Stage 2: bit j of P. -/
def State.scr2 (s : State) (g l j : Nat) : Bool :=
  let v := s.rd (R.APG_SCR2 g j)
  let t (m : Nat) := s.scrTerm g l (sel7 v m)
  let base := (s.scr1 g l j ^^ t 0) ^^ t 1
  if bitOf v.toNat 31 then base ^^ (t 2 && t 3) else (base ^^ t 2) ^^ t 3

/-- The physical address of logical (x, y). -/
def State.physical (s : State) (g x y : Nat) : Nat × Nat :=
  if s.flag (R.APG_CTRL g) F.APG_CTRL_SCR then
    let l := x + 4294967296 * y
    let p := (List.range 64).foldl (fun acc j => if s.scr2 g l j then acc + 2 ^ j else acc) 0
    (p % 4294967296, p / 4294967296)
  else (x, y)

/-! Burst unroller and data unit (R104 to R109) -/

/-- The beat count of a D operation. -/
def beatCount (dop : Nat) : Nat := 2 ^ bitsOf dop 13 3

/-- T[b] of the burst table. -/
def State.btab (s : State) (g b : Nat) : Nat := bitsOf (s.rd (R.APG_BTAB g (b / 4))).toNat (8 * (b % 4)) 5

/-- The logical column of beat b; beats past the count repeat (R109). -/
def State.logicalY (s : State) (g : Nat) (v : BeatSrc) (b : Nat) : Nat :=
  let bl := beatCount v.dop
  let b := b % bl
  match bitsOf v.dop 11 2 with
  | 0 => (v.y + b) % 4294967296
  | 1 => (v.y - v.y % bl + (v.y + b) % bl) % 4294967296
  | 2 => v.y ^^^ b
  | _ => (v.y + s.btab g b) % 4294967296

/-- The physical cell address of beat b. -/
def State.beatAddr (s : State) (g : Nat) (v : BeatSrc) (b : Nat) : Nat × Nat := s.physical g v.x (s.logicalY g v b)

/-- An input of a topology function (R106). -/
def dtfInput (x y i b c : Nat) : Bool :=
  if c < 0x20 then bitOf x c
  else if c < 0x40 then bitOf y (c - 0x20)
  else if c < 0x46 then bitOf i (c - 0x40)
  else if c < 0x4B then bitOf b (c - 0x46)
  else false

/-- Topology function n for beat b and data bit i. -/
def State.topology (s : State) (g : Nat) (v : BeatSrc) (n b i : Nat) : Bool :=
  let sel0 := s.rd (R.APG_DTF_SEL0 g n)
  let sel1 := s.rd (R.APG_DTF_SEL1 g n)
  let a := if bitOf sel0.toNat 31 then (v.x, s.logicalY g v b) else s.beatAddr g v b
  let inp (m : Nat) := dtfInput a.1 a.2 i (b % 32) (sel7 (if m < 4 then sel0 else sel1) (m % 4))
  let e := (List.range 8).foldl (fun acc m => if inp m then acc + 2 ^ m else acc) 0
  bitOf (s.rd (R.APG_DTF_TT g n (e / 32))).toNat (e % 32)

/-- Data bit i of beat b (R105). Beats past the count repeat (R109). -/
def State.beatBit (s : State) (g : Nat) (v : BeatSrc) (b i : Nat) : Bool :=
  let b := b % beatCount v.dop
  let f := if bitOf v.dop 19 then s.topology g v (bitsOf v.dop 20 4) b i else false
  (bitOf v.bg i ^^ f) ^^ bitOf v.dop 18

/-- The APG field faults its word at issue (R96, R104). -/
def apgIllegal (w : PatWord) : Bool :=
  let bad (op : Nat) : Bool :=
    decide (10 < opCode op) ||
    ([0, 1, 2, 6, 10].contains (opCode op) && (opSrc op != 0 || opImm op != 0))
  bad (wordX w) || bad (wordY w) || (opCry (wordX w) && opCry (wordY w)) ||
    bitsOf (wordD w) 0 11 != 0 || decide (5 < bitsOf (wordD w) 13 3)

/-- START (R113). -/
def State.apgStart (s : State) (g : Fin 24) : State :=
  let s := s.wr (R.APG_XC g) (s.rd (R.APG_XB g))
  let s := s.wr (R.APG_YC g) (s.rd (R.APG_YB g))
  let s := s.wr (R.APG_BW_LO g) (s.rd (R.APG_BG_LO g))
  let s := s.wr (R.APG_BW_HI g) (s.rd (R.APG_BG_HI g))
  s.modG g (fun x => { x with apgA := s.rdPair (R.APG_BGA_LO g) (R.APG_BGA_HI g), expect := [], apgSave := none })

/-- The state an escape saves (R114). -/
def State.apgCapture (s : State) (g : Fin 24) : ApgWork :=
  ⟨(s.unitX g).c, (s.unitX g).b, (s.unitX g).i, (s.unitY g).c, (s.unitY g).b, (s.unitY g).i, s.bgB g, (s.g g).apgA⟩

/-- The RET of an escape restores it (R114). -/
def State.apgRestore (s : State) (g : Fin 24) : State :=
  match (s.g g).apgSave with
  | none => s
  | some w =>
    let s := s.setUnitX g { s.unitX g with c := w.xc, b := w.xb, i := w.xi }
    let s := s.setUnitY g { s.unitY g with c := w.yc, b := w.yb, i := w.yi }
    let s := s.wrPair (R.APG_BW_LO g) (R.APG_BW_HI g) w.b
    s.modG g (fun x => { x with apgA := w.a, apgSave := none })

end Sys2Proof.Machine
end

