-- ==== Sys2Proof/Machine/Pins.lean ====
section
/-! DEFINITION. Machine/Pins.lean: waves, drive, strobes and the fabric data queue of a group (04_pin_channels.md). -/
namespace Sys2Proof.Machine

/-- The eight fields a pattern word's vector uses (02 R34, R35). -/
def wordOpc (w : PatWord) : Nat := bitsOf w.toNat 248 8
def wordCond (w : PatWord) : Nat := bitsOf w.toNat 240 8
def wordArg (w : PatWord) : Nat := bitsOf w.toNat 216 24
def wordTset (w : PatWord) : Nat := bitsOf w.toNat 208 8
def wordCtl (w : PatWord) : Nat := bitsOf w.toNat 200 8
def ctlCap (w : PatWord) : Bool := bitOf w.toNat 207
def ctlMsk (w : PatWord) : Bool := bitOf w.toNat 206
def ctlEsc (w : PatWord) : Bool := bitOf w.toNat 205
def ctlTag (w : PatWord) : Bool := bitOf w.toNat 204
def ctlSig (w : PatWord) : Bool := bitOf w.toNat 203
def wordPin (w : PatWord) (p : Nat) : Nat := bitsOf w.toNat (4 * p) 4

/-- The period of a timing set (R125). -/
def State.period (s : State) (g t : Nat) : Nat := (s.rd (R.CH_TS_PERIOD g t)).toNat

/-- The wave of pin p under wave code c (R129). -/
def State.waveOf (s : State) (g p c : Nat) : Nat := bitsOf (s.rd (R.CH_PIN_WMAP g p (c / 4))).toNat (8 * (c % 4)) 8

/-- Slots of a wave (R128). -/
def State.slotCount (s : State) (g w : Nat) : Nat := 2 ^ s.fld (R.CH_WAV_CFG g w) F.CH_WAV_CFG_SCODE

/-- The 16 bits of slot j. -/
def State.slot (s : State) (g w j : Nat) : Nat := bitsOf (s.rd (R.CH_WAV_SLOT g w (j / 2))).toNat (16 * (j % 2)) 16
def slotDrv (x : Nat) : Nat := bitsOf x 0 3
def slotStb (x : Nat) : Nat := bitsOf x 3 3
def slotBeat (x : Nat) : Nat := bitsOf x 6 5
def State.dofs (s : State) (g w : Nat) : Nat := (s.rd (R.CH_WAV_DOFS g w)).toNat
def State.sofs (s : State) (g w : Nat) : Nat := (s.rd (R.CH_WAV_SOFS g w)).toNat

/-- The shortest slot and the least spacing of transitions, in units of 125 fs: 250, on a -2J device 320 (R127, R138; 19 R613,
R616). -/
def State.minSlot (s : State) (g : Nat) : Nat := if s.fld (R.DCR_ID (g / 4)) F.DCR_ID_GRADE = 1 then 320 else 250

/-- A wave cannot be used under a period (R127). -/
def State.waveBad (s : State) (g w period : Nat) : Bool :=
  decide (5 < s.fld (R.CH_WAV_CFG g w) F.CH_WAV_CFG_SCODE) || decide (period / s.slotCount g w < s.minSlot g) ||
  decide (period / s.slotCount g w ≤ s.dofs g w) || decide (period / s.slotCount g w ≤ s.sofs g w)

/-- The timing set of a word is invalid for its vectors (R127). -/
def State.tsetBad (s : State) (g : Nat) (w : PatWord) : Bool :=
  let t := wordTset w
  !s.flag (R.CH_TS_CTRL g t) F.CH_TS_CTRL_VALID || decide (s.period g t < 8000) ||
  (List.range 32).any (fun p => s.waveBad g (s.waveOf g p (wordPin w p)) (s.period g t))

/-- A reserved drive or strobe code stands in a slot of the word's waves (R130, R131). -/
def State.waveReserved (s : State) (g : Nat) (w : PatWord) : Bool :=
  (List.range 32).any (fun p =>
    let v := s.waveOf g p (wordPin w p)
    (List.range (s.slotCount g v)).any (fun j => decide (5 < slotDrv (s.slot g v j)) || slotStb (s.slot g v j) == 7))

/-- Slot start times (R126). -/
def slotTime (period n j : Nat) : Nat := j * period / n

/-- Data of a vector: its own beat source, the one v - E vectors back (R110, R111), its fabric data word. -/
structure VecData where
  own : BeatSrc
  back : Option BeatSrc
  fd : BitVec 1024
deriving DecidableEq, Repr

/-- The data bit of a slot (R134); a CD or CN slot without beat words has none. -/
def State.dataBit (s : State) (g p j beat : Nat) (v : VecData) (expect : Bool) : Option Bool :=
  if s.flag (R.CH_PIN_CFG g p) F.CH_PIN_CFG_SRC then some (v.fd.getLsbD (32 * p + j))
  else
    let i := s.fld (R.CH_PIN_CFG g p) F.CH_PIN_CFG_DSEL
    if expect then v.back.map (fun b => s.beatBit g b beat i) else some (s.beatBit g v.own beat i)

/-! Drive -/

/-- A programmed time plus a signed deskew. -/
def shifted (t : Nat) (deskew : Nat) : Nat := ((t : Int) + signedOf 16 deskew).toNat

/-- Put a lane at a level at a programmed time (R135, R138). -/
def State.place1 (s : State) (g : Fin 24) (lane : Fin 64) (time : Nat) (level : Bool) : State :=
  let l := (s.g g).lanes[lane]
  if l.level = level then s
  else
    let t := match l.last with
      | none => time
      | some u => max time (u + s.minSlot g)
    let s := s.modG g (fun x => { x with lanes := x.lanes.set lane ⟨level, some t⟩, edges := ⟨lane, t, level⟩ :: x.edges })
    if time < t then s.raise (R.CH_CAUSE g) F.CH_CAUSE_TSPACE else s

/-- DRV and ENA lanes of a pin. -/
def drvLane (p : Fin 32) : Fin 64 := ⟨p.val, by omega⟩
def enaLane (p : Fin 32) : Fin 64 := ⟨32 + p.val, by omega⟩

/-- Drive codes (R130): the new DRV level and ENA level, `none` unchanged. -/
def driveLevels (code : Nat) (d : Bool) : Option Bool × Option Bool :=
  match code with
  | 0 => (some false, some true)
  | 1 => (some true, some true)
  | 2 => (none, some false)
  | 4 => (some d, some true)
  | 5 => (some !d, some true)
  | _ => (none, none)

/-- Drive one slot of one pin. -/
def State.driveSlot (s : State) (g : Fin 24) (p : Fin 32) (w j bs period : Nat) (v : VecData) : State :=
  let x := s.slot g w j
  let d := (s.dataBit g p j (slotBeat x) v false).getD false
  let lv := driveLevels (slotDrv x) d
  let t := bs + slotTime period (s.slotCount g w) j + s.dofs g w
  let s := match lv.1 with
    | none => s
    | some b => s.place1 g (drvLane p) (shifted t (s.fld (R.CH_PIN_DSKTX g p) F.CH_PIN_DSKTX_DRV)) b
  match lv.2 with
  | none => s
  | some b => s.place1 g (enaLane p) (shifted t (s.fld (R.CH_PIN_DSKTX g p) F.CH_PIN_DSKTX_ENA)) b

/-- The frames of a die are loading, from the clear to the OUTREL step (11 R391): a full load or a DIELOAD of the die
runs, or its start-up. A die that no load is under way for is not loading (DEDUCED: notes/assumptions/91.md). -/
def State.dieLoading (s : State) (d : Nat) : Bool :=
  (match s.cfg.load with | none => false | some l => l.kind == 0 || (l.kind == 1 && l.die == d)) ||
  (match s.cfg.startup with
    | none => false
    | some u => u.meadow.isNone && u.dies.contains d && !(s.fab.toList[d]?.map (·.outrel)).getD false)

/-- Drive a vector; the channels are idle while the configuration loads (R122). -/
def State.driveVector (s : State) (g : Fin 24) (w : PatWord) (bs period : Nat) (v : VecData) : State :=
  if s.dieLoading (dieOf g).val then s
  else forEach (List.finRange 32) (fun p s =>
    let wv := s.waveOf g p (wordPin w p)
    forEach (List.range (s.slotCount g wv)) (fun j s => s.driveSlot g p wv j bs period v) s) s

/-- The channels of a group take the idle state at a ball time (R122, R124): later transitions never leave the balls. -/
def State.idleAt (s : State) (g : Fin 24) (t : Nat) : State :=
  let bound (lane : Nat) : Nat :=
    shifted t (if lane < 32 then s.fld (R.CH_PIN_DSKTX g lane) F.CH_PIN_DSKTX_DRV
      else s.fld (R.CH_PIN_DSKTX g (lane - 32)) F.CH_PIN_DSKTX_ENA)
  s.modG g (fun x =>
    let kept := x.edges.filter (fun e => decide (e.time < bound e.lane))
    let level (lane : Nat) : Bool := ((kept.find? (fun e => e.lane == lane)).map (·.level)).getD false
    let falls := ((List.range 64).filter level).map (fun lane => Edge.mk lane (bound lane) false)
    { x with edges := falls ++ kept
             lanes := Vector.ofFn (fun lane => ⟨false, ((falls ++ kept).find? (fun e => e.lane == lane.val)).map (·.time)⟩) })

/-! Strobes -/

/-- One strobe's outcome (R131 to R133). -/
structure Strobe where
  pin : Fin 32
  slot : Nat
  beat : Nat
  cmh : Bool
  cml : Bool
  fail : Bool
deriving DecidableEq, Repr

/-- The fail bit of a strobe code (R131, R132); e is the slot's data bit, absent before beat words arrive (R111). -/
def strobeFail (code : Nat) (h l : Bool) (e : Option Bool) : Bool :=
  match code with
  | 1 => !h || (h && l)
  | 2 => !l || (h && l)
  | 3 => h || l
  | 5 => match e with
    | none => false
    | some true => !h || (h && l)
    | some false => !l || (h && l)
  | 6 => match e with
    | none => false
    | some false => !h || (h && l)
    | some true => !l || (h && l)
  | _ => false

/-- The level of a comparator lane at a time: that of its last transition at or before it, 0 before any. -/
def cmpLevel (l : List CmpEdge) (lane : Nat) (time : Int) : Bool :=
  ((l.filter (fun e => e.lane == lane && decide ((e.time : Int) ≤ time))).foldl
    (fun acc e => match acc with | none => some e | some b => if b.time ≤ e.time then some e else acc) none).elim false (·.level)

/-- The time a lane's sampler takes a sample programmed for a time: later by the lane's deskew (R135 to R137). -/
def sampleTime (t deskew : Nat) : Int := (t : Int) + signedOf 16 deskew

/-- The strobes of one pin in a vector with ball start `bs` and a period: each samples CMH and CML once, at bs + T_j + SOFS
and the lane's deskew (R131, R135); a pin in edge-timer mode gives none (R143). -/
def State.strobesOf (s : State) (g : Nat) (p : Fin 32) (w : PatWord) (bs period : Nat) (v : VecData) (cm : List CmpEdge) :
    List Strobe :=
  if s.flag (R.CH_PIN_CFG g p) F.CH_PIN_CFG_MODE then []
  else
    let wv := s.waveOf g p (wordPin w p)
    (List.range (s.slotCount g wv)).filterMap (fun j =>
      let x := s.slot g wv j
      let code := slotStb x
      if code = 0 ∨ code = 7 then none
      else
        let t := bs + slotTime period (s.slotCount g wv) j + s.sofs g wv
        let h := cmpLevel cm p (sampleTime t (s.fld (R.CH_PIN_DSKRX g p) F.CH_PIN_DSKRX_CMH))
        let l := cmpLevel cm (32 + p.val) (sampleTime t (s.fld (R.CH_PIN_DSKRX g p) F.CH_PIN_DSKRX_CML))
        some ⟨p, j, slotBeat x, h, l, strobeFail code h l (s.dataBit g p j (slotBeat x) v true)⟩)

/-- The strobes of a vector. -/
def State.strobes (s : State) (g : Nat) (w : PatWord) (bs period : Nat) (v : VecData) (cm : List CmpEdge) : List Strobe :=
  (List.finRange 32).flatMap (fun p => s.strobesOf g p w bs period v cm)

/-- The transitions that samples after a time can still see: those after it, and each lane's last before it. -/
def cmpKeep (l : List CmpEdge) (t : Nat) : List CmpEdge :=
  l.filter (fun e => decide (t < e.time) || !l.any (fun f => f.lane == e.lane && decide (e.time < f.time ∧ f.time ≤ t)))

/-- An invalid sample (R132). -/
def Strobe.invalid (x : Strobe) : Bool := x.cmh && x.cml

/-- A 1,024-bit word with bit 32p + j set for the strobes listed. -/
def strobeWord (l : List Strobe) : BitVec 1024 :=
  l.foldl (fun acc x => acc ||| (1#1024 <<< (32 * x.pin.val + x.slot))) 0

/-- A 32-bit mask of the pins listed. -/
def pinMask (l : List Nat) : Nat := (List.range 32).foldl (fun acc p => if l.contains p then acc + 2 ^ p else acc) 0

/-! Fabric data queue (R151, R152) -/

/-- One take of the head word; an empty queue counts an underrun and gives zeros. -/
def State.fdTake (s : State) (g : Fin 24) : State :=
  match (s.g g).fdq with
  | [] =>
    ((s.modG g (fun x => { x with fdTaken := x.fdTaken ++ [0] })).bump (R.CH_FUNDER_CNT g) F.CH_FUNDER_CNT_COUNT 1).raise
      (R.CH_CAUSE g) F.CH_CAUSE_FUNDER
  | w :: r => s.modG g (fun x => { x with fdq := r, fdTaken := x.fdTaken ++ [w] })

/-- The fabric data word of the vector that starts: the one taken for it, taken now if that has not happened. -/
def State.fdWord (s : State) (g : Fin 24) : BitVec 1024 × State :=
  if s.flag (R.CH_GCTRL g) F.CH_GCTRL_FDEN then
    let s := if (s.g g).fdTaken.isEmpty then s.fdTake g else s
    ((s.g g).fdTaken.headD 0, s.modG g (fun x => { x with fdTaken := x.fdTaken.tail }))
  else (0, s)

end Sys2Proof.Machine
end

