-- ==== Sys2Proof/Machine/FailVector.lean ====
section
/-! DEFINITION. Machine/FailVector.lean: what a vector's strobes do in the fail capture unit (05_fail_capture.md R156 to
R185): site masks, counters, records, line updates, fail addresses, signatures. -/
namespace Sys2Proof.Machine

/-! Sites (R159 to R162) -/

/-- The site of a pin; a shared pin has none. -/
def State.siteOf (s : State) (g p : Nat) : Option Nat :=
  if s.flag (R.FCU_PINSITE g p) F.FCU_PINSITE_SHARED then none else some (s.fld (R.FCU_PINSITE g p) F.FCU_PINSITE_SITE)

/-- Bit s of the site mask is in effect for a vector of a group that starts at a ball time. -/
def State.maskInEffect (s : State) (g : Fin 24) (site bs : Nat) : Bool :=
  (s.c (dieOf g)).maskEff.any (fun e => e.site == site && decide ((if e.grp = g.val then e.fast else e.slow) ≤ bs))

/-- The pin is masked for a vector (R160). -/
def State.pinMasked (s : State) (g : Fin 24) (bs p : Nat) : Bool :=
  match s.siteOf g p with
  | none => false
  | some x => s.maskInEffect g x bs

def State.smaskBit (s : State) (d site : Nat) : Bool := bitOf (s.rd (R.FCD_SMASK d (site / 32))).toNat (site % 32)

def State.smaskSet (s : State) (d site : Nat) : State :=
  s.wr (R.FCD_SMASK d (site / 32)) (s.rd (R.FCD_SMASK d (site / 32)) ||| (1#32 <<< (site % 32)))

/-- The parameter of what falls due for a group, in `Capture.trigs`. -/
def dueParam (g p : Nat) : Nat := g * 1048576 + p

/-- Bit s is set on the die for a vector that ends at be (R161). -/
def State.smaskBefore (s : State) (d : Fin 6) (site be : Nat) : Bool :=
  s.smaskBit d site || (s.c d).trigs.any (fun e => e.2.1 == 11 && e.2.2 % 1048576 == site && decide (e.1 < be)) ||
  (s.c d).maskTravel.any (fun e => e.1 == site && decide (e.2 < be))

/-- The FIRST flag of a record. -/
def recFirstBit : Nat := 2 ^ 70

/-- A vector that ends at be sets bit s first: vectors of the die that end later are no setting vectors of that site, though
they started before (R161). What their start noted of it is taken back: the bit, its effect, its way to the other dies,
and, where it was the vector's only site, the cause and FIRST in its records. -/
def State.unset (s : State) (d : Fin 6) (site be : Nat) : State :=
  forEach ((s.c d).trigs.filter (fun e => e.2.1 == 11 && e.2.2 % 1048576 == site && decide (be < e.1))) (fun e s =>
    let h : Fin 24 := ⟨e.2.2 / 1048576 % 24, by omega⟩
    let s := s.modC d (fun c => { c with
      trigs := (c.trigs.erase e).erase (e.1, 10, dueParam h 0)
      maskEff := c.maskEff.erase ⟨site, h, e.1 + 4 * ns, e.1 + 6 * ns⟩ })
    let s := forEach (List.finRange 6) (fun k s =>
      if k = d then s else s.modC k (fun c => { c with maskTravel := c.maskTravel.erase (site, e.1 + 16 * ns) })) s
    if (s.c d).trigs.contains (e.1, 10, dueParam h 0) then s
    else
      let fix (x : LogItem) : LogItem :=
        if x.time = e.1 + 10 * ns then { x with rec256 := x.rec256 &&& ~~~(BitVec.ofNat 256 recFirstBit) } else x
      s.modG h (fun x => { x with logStage := x.logStage.map fix, capStage := x.capStage.map fix })) s

/-- A setting vector of a group sets its site's bit (R161): on its own die at the ball end, on the others 16 ns later. -/
def State.maskOnFail (s : State) (g : Fin 24) (site be : Nat) : State :=
  let d := dieOf g
  let s := s.modC d (fun c => { c with
    maskEff := ⟨site, g, be + 4 * ns, be + 6 * ns⟩ :: c.maskEff
    trigs := c.trigs ++ [(be, 11, dueParam g site), (be, 10, dueParam g 0)] })
  forEach (List.finRange 6) (fun e s =>
    if e = d then s else s.modC e (fun c => { c with maskTravel := c.maskTravel ++ [(site, be + 16 * ns)] })) s

/-! Counters (R163 to R169) -/

/-- One update of a stored counter; an uncorrectable word makes it INVALID, an INVALID one is not updated. -/
def Counter.add (c : Counter) (n : Nat) (bad : Bool) : Counter :=
  if c.inv then c
  else if bad then ⟨0, c.sat, true⟩
  else ⟨min (c.val + n) 4294967295, c.sat || decide (4294967295 ≤ c.val + n), false⟩

/-- INVALID reaches a stored ancestor. -/
def Counter.spoil (c : Counter) : Counter := ⟨0, c.sat, true⟩

def State.cntAt (s : State) (g : Fin 24) (i : Nat) : Counter := (s.g g).cnt.toList.getD i Counter.zero

def State.setCnt (s : State) (g : Fin 24) (i : Nat) (c : Counter) : State :=
  s.modG g (fun x => { x with cnt := Vector.ofFn (fun j => if j.val = i then c else x.cnt[j]) })

def State.siteAt (s : State) (d : Fin 6) (i : Nat) : Counter := Sparse.get (fun _ => Counter.zero) (s.c d).sitePart i

def State.setSite (s : State) (d : Fin 6) (i : Nat) (c : Counter) : State :=
  s.modC d (fun x => { x with sitePart := Sparse.put (fun _ => Counter.zero) x.sitePart i c })

/-- Raise CSAT and CINV where a pin or group counter has just saturated or become INVALID. -/
def State.cntCauses (s : State) (g : Fin 24) (old new : Counter) : State :=
  let s := if new.sat && !old.sat then s.raise (R.FCU_CAUSE g) F.FCU_CAUSE_CSAT else s
  if new.inv && !old.inv then s.raise (R.FCU_CAUSE g) F.FCU_CAUSE_CINV else s

/-- Update a pin or group counter. -/
def State.cntUpdate (s : State) (g : Fin 24) (i n : Nat) (bad : Bool) : State :=
  let old := s.cntAt g i
  let new := old.add n bad
  (s.setCnt g i new).cntCauses g old new

/-- Mark a pin or group counter INVALID. -/
def State.cntSpoil (s : State) (g : Fin 24) (i : Nat) : State :=
  let old := s.cntAt g i
  (s.setCnt g i old.spoil).cntCauses g old old.spoil

/-- A pin counter that has become INVALID marks its group and its site partial (R167). -/
def State.spoilAncestors (s : State) (g : Fin 24) (p : Nat) : State :=
  let s := s.cntSpoil g 32
  match s.siteOf g p with
  | none => s
  | some x => s.setSite (dieOf g) x (s.siteAt (dieOf g) x).spoil

/-- The increments of one vector reach the stored counters. -/
def State.applyInc (s : State) (g : Fin 24) (v : CntInc) : State :=
  let s := forEach v.pins (fun pn s =>
    let bad := v.bad.contains pn.1 && !(s.cntAt g pn.1).inv
    let s := s.cntUpdate g pn.1 pn.2 bad
    if bad then s.spoilAncestors g pn.1 else s) s
  let s := if v.grp = 0 then s else s.cntUpdate g 32 v.grp (v.bad.contains 32)
  forEach v.sites (fun sn s => s.setSite (dieOf g) sn.1 ((s.siteAt (dieOf g) sn.1).add sn.2 (v.bad.contains (64 + sn.1)))) s

/-- The increments of every vector whose ball end is at or before a time reach the counters. -/
def State.settleCnt (s : State) (g : Fin 24) (t : Nat) : State :=
  let due := (s.g g).cntStage.filter (fun v => decide (v.be ≤ t))
  let s := s.modG g (fun x => { x with cntStage := x.cntStage.filter (fun v => !decide (v.be ≤ t)) })
  forEach due (fun v s => s.applyInc g v) s

/-! Records (R170 to R172, R175) -/

/-- A vector as the FCU sees it. -/
structure FcuVec where
  word : PatWord
  loc : Loc
  bs : Nat
  be : Nat
  vcnt : Nat
  inEsc : Bool
  overrun : Bool
  /-- The address source (R157). -/
  src : Option BeatSrc
  strobes : List Strobe
  /-- Pins that fail in the vector (R156). -/
  fails : List Nat
  first : Bool
deriving DecidableEq, Repr

/-- The failing strobes of failing pins. -/
def FcuVec.failStrobes (v : FcuVec) : List Strobe := v.strobes.filter (fun x => x.fail && v.fails.contains x.pin.val)

/-- FLAGS of R171, without LOSS and END. -/
def State.recFlags (s : State) (g : Nat) (v : FcuVec) : Nat :=
  b2n (ctlTag v.word) + 2 * b2n (ctlCap v.word) + 4 * b2n v.loc.stream + 8 * b2n v.inEsc + 16 * b2n v.overrun +
  32 * b2n v.src.isNone + 128 * b2n (v.strobes.any Strobe.invalid) + 256 * s.fld (R.FCU_CTRL g) F.FCU_CTRL_LPHYS +
  512 * b2n v.first

/-- X and Y of a record. -/
def State.recAddr (s : State) (g : Nat) (v : FcuVec) : Nat × Nat :=
  match v.src with
  | none => (0, 0)
  | some b => if s.flag (R.FCU_CTRL g) F.FCU_CTRL_LPHYS then s.beatAddr g b 0 else (b.x, s.logicalY g b 0)

/-- A record's 256 bits from its fields. -/
def packRec (vcnt grp flags vindex x y beats pins : Nat) : BitVec 256 :=
  BitVec.ofNat 256 (vcnt % 2 ^ 56 + grp * 2 ^ 56 + flags * 2 ^ 61 + vindex % 2 ^ 32 * 2 ^ 96 + x % 2 ^ 32 * 2 ^ 128 +
    y % 2 ^ 32 * 2 ^ 160 + beats % 2 ^ 32 * 2 ^ 192 + pins % 2 ^ 32 * 2 ^ 224)

/-- The LOSS bit of a record, and its END bit. -/
def recLossBit : Nat := 2 ^ 67
def withLoss (r : BitVec 256) : BitVec 256 := r ||| BitVec.ofNat 256 recLossBit

def State.record (s : State) (g : Nat) (v : FcuVec) : BitVec 256 :=
  packRec v.vcnt g (s.recFlags g v) v.loc.idx (s.recAddr g v).1 (s.recAddr g v).2
    (pinMask (v.failStrobes.map Strobe.beat)) (pinMask v.fails)

/-- Change the log account of a run. -/
def State.modRun (s : State) (g : Fin 24) (no : Nat) (f : RunLog → RunLog) : State :=
  s.modG g (fun x => { x with runs := x.runs.map (fun r => if r.no = no then f r else r) })

/-- A failing vector creates its record, or LLIMIT suppresses it (R170, R175). -/
def State.logVector (s : State) (g : Fin 24) (v : FcuVec) : State :=
  if s.flag (R.FCU_CTRL g) F.FCU_CTRL_LEN && !v.fails.isEmpty then
    let no := (s.g g).run
    let made := (((s.g g).runs.find? (fun r => r.no == no)).map (·.made)).getD 0
    let lim := (s.rd (R.FCU_LLIMIT g)).toNat
    if lim ≠ 0 ∧ lim ≤ made then
      (s.modRun g no (fun r => { r with supp := sat32 (r.supp + 1) })).raise (R.FCU_STAT g) F.FCU_STAT_LLIM
    else
      let s := s.modRun g no (fun r => { r with made := r.made + 1 })
      s.modG g (fun x => { x with logStage := x.logStage ++ [⟨no, v.be + 10 * ns, s.record g v, 0⟩] })
  else s

/-- The capture word (R178). -/
def State.captureWord (s : State) (g : Nat) (v : FcuVec) : BitVec 1024 :=
  let cml := s.flag (R.FCU_CTRL g) F.FCU_CTRL_CLANE
  strobeWord (v.strobes.filter (fun x => if cml then x.cml else x.cmh))

def State.captureVector (s : State) (g : Fin 24) (v : FcuVec) : State :=
  if s.flag (R.FCU_CTRL g) F.FCU_CTRL_CEN && ctlCap v.word then
    s.modG g (fun x => { x with capStage := x.capStage ++ [⟨x.run, v.be + 10 * ns, s.record g v, s.captureWord g v⟩] })
  else s

/-! Bitmap planes and RAE feed (R158, R180, R181, R184) -/

/-- The cells of the failing strobes of pins selected in FCU_DPINS: pin, X, Y, IO index. -/
def State.failCells (s : State) (g : Nat) (v : FcuVec) : List (Nat × Nat × Nat × Nat) :=
  match v.src with
  | none => []
  | some b =>
    (v.failStrobes.filter (fun x => bitOf (s.rd (R.FCU_DPINS g)).toNat x.pin)).map (fun x =>
      let a := s.beatAddr g b x.beat
      (x.pin.val, a.1, a.2, s.fld (R.CH_PIN_CFG g x.pin) F.CH_PIN_CFG_DSEL))

/-- Geometry of a plane: row, column and IO bits; IW 7 acts as 6. -/
def State.geom (s : State) (d n : Nat) : Nat × Nat × Nat :=
  (s.fld (R.FCD_BM_GEOM d n) F.FCD_BM_GEOM_XW, s.fld (R.FCD_BM_GEOM d n) F.FCD_BM_GEOM_YW,
   min 6 (s.fld (R.FCD_BM_GEOM d n) F.FCD_BM_GEOM_IW))

/-- Bit address in G6 of a cell in a plane (R180): byte address times 8 plus the bit. -/
def State.cellBit (s : State) (d n x y io : Nat) : Nat :=
  let q := s.geom d n
  let o := x % 2 ^ q.1 * 2 ^ (q.2.1 + q.2.2) + y % 2 ^ q.2.1 * 2 ^ q.2.2 + io % 2 ^ q.2.2
  s.rdPair (R.FCD_BM_BASE_LO d n) (R.FCD_BM_BASE_HI d n) * 8 + o

/-- Insert a number into a rising list, once. -/
def insertOnce (x : Nat) (l : List Nat) : List Nat :=
  match l with
  | [] => [x]
  | y :: r => if x = y then y :: r else if x < y then x :: y :: r else y :: insertOnce x r

/-- The line updates of a vector, by rising line address. -/
def lineUpdates (plane time : Nat) (bits : List Nat) : List LineUpd :=
  let ls := bits.foldl (fun acc b => insertOnce (b / 512) acc) []
  ls.map (fun l => ⟨plane, l * 64, bits.foldl (fun acc b => if b / 512 = l then acc ||| (1#512 <<< (b % 512)) else acc) 0, time⟩)

def State.bitmapVector (s : State) (g : Fin 24) (v : FcuVec) : State :=
  let cells := s.failCells g v
  if s.flag (R.FCU_CTRL g) F.FCU_CTRL_BEN && !cells.isEmpty then
    let n := s.fld (R.FCU_CTRL g) F.FCU_CTRL_BPLANE
    let d := (dieOf g).val
    let q := s.geom d n
    if 38 < q.1 + q.2.1 + q.2.2 then s.raise (R.FCD_BM_STAT d n) F.FCD_BM_STAT_GEOMERR
    else
      let ups := lineUpdates n (v.be + 10 * ns) (cells.map (fun c => s.cellBit d n c.2.1 c.2.2.1 c.2.2.2))
      s.modG g (fun x => { x with bmStage := x.bmStage ++ ups })
  else s

/-- The order of fail addresses in a vector: X, then Y, then IO index. -/
def cellKey (c : Nat × Nat × Nat × Nat) : Nat := c.2.1 * 2 ^ 38 + c.2.2.1 * 2 ^ 6 + c.2.2.2

/-- The fail addresses of a vector, each distinct cell once, for its lowest pin (notes/assumptions/24.md). -/
def State.failItems (s : State) (g : Nat) (v : FcuVec) : List RaeItem :=
  let cells := s.failCells g v
  let keys := cells.foldl (fun acc c => insertOnce (cellKey c) acc) []
  keys.filterMap (fun k =>
    (cells.find? (fun c => cellKey c == k)).map (fun c =>
      ⟨false, c.2.1, c.2.2.1, c.2.2.2, (s.siteOf g c.1).getD 0, (s.siteOf g c.1).isNone, v.be, v.be + 10 * ns⟩))

def State.raeVector (s : State) (g : Fin 24) (v : FcuVec) : State :=
  if s.flag (R.FCU_CTRL g) F.FCU_CTRL_REN then
    s.modG g (fun x => { x with raeStage := x.raeStage ++ s.failItems g v })
  else s

/-! Signatures (R185) -/

def misrStep (m : BitVec 64) : BitVec 64 := (m <<< 1) ^^^ (if m.getLsbD 63 then 0x1B#64 else 0#64)

/-- Fold a 1,024-bit word and the vector's number into a MISR. -/
def misrFold (m : BitVec 64) (w : BitVec 1024) (vcnt : Nat) : BitVec 64 :=
  let m := (List.range 16).foldl (fun m i => misrStep m ^^^ w.extractLsb' (64 * i) 64) m
  misrStep m ^^^ BitVec.ofNat 64 (vcnt % 2 ^ 56)

def State.misr (s : State) (g m : Nat) : BitVec 64 := BitVec.ofNat 64 (s.rdPair (R.FCU_MISR_LO g m) (R.FCU_MISR_HI g m))

def State.misrVector (s : State) (g : Fin 24) (v : FcuVec) : State :=
  if ctlSig v.word then
    let w := strobeWord (v.strobes.filter (fun x => x.fail && !s.pinMasked g v.bs x.pin))
    let s := s.wrPair (R.FCU_MISR_LO g 0) (R.FCU_MISR_HI g 0) (misrFold (s.misr g 0) w v.vcnt).toNat
    if ctlCap v.word then
      s.wrPair (R.FCU_MISR_LO g 1) (R.FCU_MISR_HI g 1) (misrFold (s.misr g 1) (s.captureWord g v) v.vcnt).toNat
    else s
  else s

/-! The whole -/

/-- The sites of the failing pins, rising. -/
def State.failSites (s : State) (g : Nat) (fails : List Nat) : List Nat :=
  fails.foldl (fun acc p => match s.siteOf g p with | none => acc | some x => insertOnce x acc) []

/-- How many strobes, or 1, a failing pin counts (R163). -/
def pinCount (cmode : Bool) (v : FcuVec) (p : Nat) : Nat :=
  if cmode then (v.failStrobes.filter (fun x => x.pin.val == p)).length else 1

def State.countVector (s : State) (g : Fin 24) (v : FcuVec) (bad : List Nat) : State :=
  if v.fails.isEmpty then s
  else
    let cm := s.flag (R.FCU_CTRL g) F.FCU_CTRL_CMODE
    let pins := v.fails.map (fun p => (p, pinCount cm v p))
    let sites := (s.failSites g v.fails).map (fun x =>
      (x, if cm then ((v.fails.filter (fun p => s.siteOf g p == some x)).map (pinCount cm v)).sum else 1))
    let inc : CntInc := ⟨v.be, pins, if cm then (pins.map (·.2)).sum else 1, sites, bad⟩
    (s.modG g (fun x => { x with cntStage := x.cntStage ++ [inc] })).settleCnt g (v.be - 20 * ns)

/-- The fail port's word for a vector (R153): raw fail bits, pin fail bits, VCNT with epoch, MSK and CAP. -/
def State.failPortStage (s : State) (g : Fin 24) (v : FcuVec) : State :=
  let fw := v.strobes.filter (fun x => x.fail)
  let due := (s.g g).ball0 + ((v.be + 10 * ns - (s.g g).ball0 + (2 * ns - 1)) / (2 * ns)) * (2 * ns)
  s.modG g (fun x => { x with ffStage := x.ffStage ++
    [(due, strobeWord fw, pinMask (fw.map (fun x => x.pin.val)), v.vcnt, b2n (ctlMsk v.word) + 2 * b2n (ctlCap v.word))] })

/-- Everything the FCU does with one vector. -/
def State.fcuVector (s : State) (g : Fin 24) (v : FcuVec) (bad : List Nat) : State :=
  let raw := (List.range 32).filter (fun p => v.strobes.any (fun x => x.fail && x.pin.val == p))
  let fails := if ctlMsk v.word then [] else raw.filter (fun p => !s.pinMasked g v.bs p)
  let setting := (s.failSites g fails).filter (fun x =>
    bitOf (s.rd (R.FCD_SMOFF (dieOf g).val (x / 32))).toNat (x % 32) && !s.smaskBefore (dieOf g) x v.be)
  let v := { v with fails := fails, first := !setting.isEmpty }
  let s := if fails.isEmpty then s
    else (s.tally (g.val / 4) (0xC + g.val % 4) 1).tally (g.val / 4) (0x10 + g.val % 4) v.failStrobes.length
  let s := (s.countVector g v bad).logVector g v
  let s := ((s.captureVector g v).bitmapVector g v).raeVector g v
  let s := (s.misrVector g v).failPortStage g v
  forEach setting (fun x s => (s.unset (dieOf g) x v.be).maskOnFail g x v.be) s

end Sys2Proof.Machine
end

