-- ==== Sys2Proof/Machine/FailCapture.lean ====
section
/-! DEFINITION. Machine/FailCapture.lean: the commands of the fail capture units and of the die-level fail capture block
(05_fail_capture.md). -/
namespace Sys2Proof.Machine

/-- VSQ_STAT.STATE of a group: 0 IDLE, 1 ARMED, 2 RUN, 3 PAUSED, 4 DONE, 5 ABORTED, 6 FAULT (02 R80). -/
def State.vstat (s : State) (g : Nat) : Nat := s.fld (R.VSQ_STAT g) F.VSQ_STAT_STATE

/-- The group is in ARMED, RUN or PAUSED. -/
def State.active (s : State) (g : Nat) : Bool := s.vstat g == 1 || s.vstat g == 2 || s.vstat g == 3

/-- Some group of the die is in ARMED, RUN or PAUSED. -/
def State.dieActive (s : State) (d : Nat) : Bool := (List.range 4).any (fun k => s.active (4 * d + k))

/-- A command or write is ignored: VSQ_CAUSE.CMDERR. -/
def State.vsqCmdErr (s : State) (g : Nat) : State := s.raise (R.VSQ_CAUSE g) F.VSQ_CAUSE_CMDERR

/-! Site masks and counters -/

/-- A mask bit that travels is set on a die (R161). -/
def State.maskArrive (s : State) (d : Fin 6) (e : Nat × Nat) : State :=
  (s.modC d (fun c => { c with maskTravel := c.maskTravel.erase e
                               maskEff := ⟨e.1, 24, e.2, e.2⟩ :: c.maskEff })).smaskSet d e.1

/-- A mask bit arrives from another die (R161); one that has not been sent does not arrive. -/
def execSiteMaskArrive (d : Fin 6) (site : Fin 256) (s : State) : Out :=
  match (s.c d).maskTravel.find? (fun e => e.1 == site.val) with
  | none => .next s
  | some e => .next ((s.at_ e.2).maskArrive d e)

/-- A write to FCD_SMASKi sets bits, in effect 40 ns later (R162). -/
def execFcdSmaskWrite (d : Fin 6) (i : Fin 8) (bits : BitVec 32) (s : State) : Out :=
  let s := s.wr (R.FCD_SMASK d i) (s.rd (R.FCD_SMASK d i) ||| bits)
  let t := s.now + 40 * ns
  .next (s.modC d (fun c => { c with
    maskEff := ((List.range 32).filter (fun b => bitOf bits.toNat b)).map (fun b => ⟨32 * i + b, 24, t, t⟩) ++ c.maskEff }))

/-- FCD_STAT.CMDERR. -/
def State.fcdCmdErr (s : State) (d : Nat) : State := s.raise (R.FCD_STAT d) F.FCD_STAT_CMDERR

/-- CLRSITE (R169). -/
def execClrsite (d : Fin 6) (s : State) : Out :=
  if s.dieActive d then .next (s.fcdCmdErr d)
  else
    let s := forEach (groupsOf d) (fun g s => s.settleCnt g s.now) s
    .next (s.modC d (fun c => { c with sitePart := [] }))

/-- The pin and group counters of a group return to 0 (R169); increments on their way are settled first, so that the
site partials keep theirs. -/
def State.clearCounters (s : State) (g : Fin 24) : State :=
  (s.settleCnt g s.now).modG g (fun x => { x with cnt := Vector.replicate 33 Counter.zero })

/-- CLRCNT (R169, R191). -/
def execClrcnt (g : Fin 24) (s : State) : Out :=
  if s.active g then .next (s.vsqCmdErr g) else .next (s.clearCounters g)

/-- Ring sizes: values below 4 act as 4, above 24 as 24. -/
def ringSize (x : Nat) : Nat := 2 ^ min 24 (max 4 x)

def State.logFull (s : State) (g : Fin 24) : Bool :=
  let w := (s.rd (R.FCU_LWPTR g)).toNat + (s.g g).logFly.length
  decide (ringSize (s.fld (R.FCU_LSIZE g) F.FCU_LSIZE_SIZE) ≤ (w + 4294967296 - (s.rd (R.FCU_LRPTR g)).toNat) % 4294967296)

def State.capFull (s : State) (g : Fin 24) : Bool :=
  let w := (s.rd (R.FCU_CWPTR g)).toNat + (s.g g).capFly.length
  decide (ringSize (s.fld (R.FCU_CSIZE g) F.FCU_CSIZE_SIZE) ≤ (w + 4294967296 - (s.rd (R.FCU_CRPTR g)).toNat) % 4294967296)

/-- FCU_STAT.LFULL follows the ring; its rise sets the cause (R174). -/
def State.updLfull (s : State) (g : Fin 24) : State :=
  let full := s.logFull g
  let was := s.flag (R.FCU_STAT g) F.FCU_STAT_LFULL
  let s := s.setB (R.FCU_STAT g) F.FCU_STAT_LFULL full
  if full && !was then s.raise (R.FCU_CAUSE g) F.FCU_CAUSE_LFULL else s

/-- LRESET (R177). -/
def execLreset (g : Fin 24) (s : State) : Out :=
  if s.active g then .next (s.vsqCmdErr g)
  else
    let s := ((s.wr (R.FCU_LWPTR g) 0).wr (R.FCU_LRPTR g) 0).wr (R.FCU_LLOST g) 0
    .next ((s.setB (R.FCU_STAT g) F.FCU_STAT_LINC false).updLfull g)

/-- CRESET (R179). -/
def execCreset (g : Fin 24) (s : State) : Out :=
  if s.active g then .next (s.vsqCmdErr g)
  else
    let s := ((s.wr (R.FCU_CWPTR g) 0).wr (R.FCU_CRPTR g) 0).wr (R.FCU_CLOST g) 0
    .next (s.setB (R.FCU_STAT g) F.FCU_STAT_CINC false)

/-- What a read of a stored node shows: value, SAT, INVALID (R166, R167). -/
structure CntView where
  val : Nat
  sat : Bool
  inv : Bool
  absent : Bool
deriving DecidableEq, Repr

def Counter.view (c : Counter) : CntView := ⟨if c.inv then 0 else c.val, c.sat, c.inv, false⟩

/-- A computed summary (R165, R167, R168). -/
def CntView.sum (l : List CntView) : CntView :=
  let n := (l.map (·.val)).sum
  if l.any (·.absent) then ⟨0, false, true, true⟩
  else if l.any (·.inv) then ⟨0, decide (4294967295 ≤ n) || l.any (·.sat), true, false⟩
  else ⟨min n 4294967295, decide (4294967295 ≤ n) || l.any (·.sat), false, false⟩

/-- The machine as a read sees it: every vector that ended 20 ns ago is counted, and of those that ended since a free
choice is, group by group (R166). -/
def State.cntSnapshot (s : State) (g : Fin 24) : State :=
  let late := (s.g g).cntStage.filter (fun v => decide (v.be ≤ s.now))
  forEach ((List.range late.length).filter (fun i => bitOf (Config.freeValue (s.freeCtr + g.val)) i)) (fun i s =>
    match late[i]? with
    | none => s
    | some v => s.applyInc g v) s

/-- The groups whose increments a counter takes part of. -/
def refGroups (r : CounterRef) : List (Fin 24) :=
  match r with
  | .group g _ => [g]
  | .site d _ => groupsOf d
  | .die d => groupsOf d
  | .siteTotal _ => List.finRange 24
  | .device => List.finRange 24

/-- An uncorrectable word found by the read marks its node and stored ancestors (R167). The codes: for a group node its
own number (32 the group); for a site or site total 0 or the die; for a die or device the group. -/
def State.readMarks (s : State) (r : CounterRef) (bad : List Nat) : State :=
  match r with
  | .group g i =>
    if bad.isEmpty || (s.cntAt g i).inv then s
    else if i.val = 32 then s.cntSpoil g 32
    else (s.cntSpoil g i).spoilAncestors g i
  | .site d x => if bad.isEmpty then s else s.setSite d x (s.siteAt d x).spoil
  | .die d => forEach (groupsOf d) (fun g s => if bad.contains g.val then s.cntSpoil g 32 else s) s
  | .siteTotal x => forEach (List.finRange 6) (fun d s => if bad.contains d.val then s.setSite d x (s.siteAt d x).spoil else s) s
  | .device => forEach (List.finRange 24) (fun g s => if bad.contains g.val then s.cntSpoil g 32 else s) s

/-- A die's group counters. -/
def State.dieView (s : State) (d : Fin 6) : CntView := CntView.sum ((groupsOf d).map (fun g => (s.cntAt g 32).view))

/-- An operand on die d, as die 0 sees it (R168). -/
def State.orAbsent (s : State) (d : Fin 6) (v : CntView) : CntView :=
  if s.unreachable 0 d then ⟨0, false, true, true⟩ else v

/-- The value of a counter. -/
def State.cntView (s : State) (r : CounterRef) : CntView :=
  match r with
  | .group g i => (s.cntAt g i).view
  | .site d x => (s.siteAt d x).view
  | .die d => s.dieView d
  | .siteTotal x => CntView.sum ((List.finRange 6).map (fun d => s.orAbsent d (s.siteAt d x).view))
  | .device => CntView.sum ((List.finRange 6).map (fun d => s.orAbsent d (s.dieView d)))

/-- The word a _VAL or _FLG register of a counter reads. -/
def CntView.word (v : CntView) (flag : Bool) : Nat :=
  if flag then b2n v.sat + 2 * b2n v.inv + 4 * b2n v.absent else v.val

/-- A counter read: the word, and the machine after it. -/
def State.counterRead (s : State) (r : CounterRef) (flag : Bool) (bad : List Nat) : Nat × State :=
  let s := forEach (refGroups r) (fun g s => s.settleCnt g (s.now - 20 * ns)) s
  let s := s.readMarks r bad
  let open_ := (refGroups r).any (fun g => (s.g g).cntStage.any (fun v => decide (v.be ≤ s.now)))
  let snap := forEach (refGroups r) (fun g s => s.cntSnapshot g) s
  ((snap.cntView r).word flag, if open_ then s.usedN 24 else s)

/-- COUNTER_READ: the same with and without the DEBUG attribute (R167). -/
def execCounterRead (r : CounterRef) (flag : Bool) (bad : List Nat) (s : State) : Out :=
  let a := s.counterRead r flag bad
  .next (a.2.answer .ok (leBytes 4 a.1))

/-! A slot of a ring (05 R176, 06 R217) -/

/-- The bytes of a part of one line become undefined; a line whose write was refused is not the requester's, and keeps
them (DESIGN CHOICE: notes/assumptions/93.md). -/
def State.undefineLine (s : State) (src a len : Nat) : State :=
  let la := a / 64 * 64
  match s.g6Refuse src la (.full 0), s.place la with
  | none, some (ch, line) =>
    match s.line (lineKey ch line) with
    | none => s
    | some l =>
      let m := (2 ^ len - 1) * 2 ^ (a % 64)
      let v := s.vaultOf la
      let sealed := s.seal v la (mergeBytes (s.open_ v la l.data) (BitVec.ofNat 512 s.freeVal) m)
      (s.setLine (lineKey ch line) (some { l with data := sealed.1, tag := sealed.2 })).used
  | _, _ => s

/-- The bytes of a slot become undefined, line by line. -/
def State.undefineSlot (s : State) (src a len : Nat) (fuel : Nat) : State :=
  match fuel with
  | 0 => s
  | n + 1 =>
    if len = 0 then s
    else
      let k := min len (64 - a % 64)
      (s.undefineLine src a k).undefineSlot src (a + k) (len - k) n

/-- A record is written to its slot; after an error response the slot's contents are undefined. Whether there was one. -/
def State.writeSlot (s : State) (src a : Nat) (bytes : List Nat) (envs : List G6Env) : Bool × State :=
  let w := s.g6WriteBytes src a bytes envs 4
  if w.1 = .ok then (false, w.2) else (true, w.2.undefineSlot src a bytes.length 4)

/-! The log (R173 to R177) -/

/-- A record is lost: the count and the marks of R173 and R176. -/
def State.countLogLoss (s : State) (g : Fin 24) (run : Nat) : State :=
  let s := ((s.tally (g.val / 4) (0x18 + g.val % 4) 1).bump (R.FCU_LLOST g) F.FCU_LLOST_COUNT 1).raise (R.FCU_STAT g) F.FCU_STAT_LINC
  (s.raise (R.FCU_CAUSE g) F.FCU_CAUSE_LOVR).modRun g run (fun r => { r with lost := sat32 (r.lost + 1), pendLoss := true })

/-- The record that enters the burst buffer next does so, or is lost (R173). -/
def State.logEnter (s : State) (g : Fin 24) : State :=
  match (s.g g).logStage with
  | [] => s
  | r :: rest =>
    let s := (s.at_ r.time).modG g (fun x => { x with logStage := rest })
    if (s.g g).logBuf.length < 16384 then
      let loss := (s.g g).runs.any (fun q => q.no == r.run && q.pendLoss)
      let r' := if loss then { r with rec256 := withLoss r.rec256 } else r
      (s.modG g (fun x => { x with logBuf := x.logBuf ++ [r'] })).modRun g r.run (fun q => { q with pendLoss := false })
    else s.countLogLoss g r.run

/-- LOG_RECORD_ENTER. -/
def execLogRecordEnter (g : Fin 24) (s : State) : Out := .next (s.logEnter g)

/-- Repeat what n records do. -/
def times (n : Nat) (f : State → State) (s : State) : State := forEach (List.range n) (fun _ s => f s) s

/-- The records that enter at or before a time have entered: one that enters at a take tick enters before the take. -/
def State.logEnterTo (s : State) (g : Fin 24) (t : Nat) : State :=
  times ((s.g g).logStage.takeWhile (fun r => decide (r.time ≤ t))).length (fun s => s.logEnter g) s

/-- The first point of a grid at or after a time. -/
def gridFrom (origin step t : Nat) : Nat :=
  if t ≤ origin then origin else origin + (t - origin + (step - 1)) / step * step

/-- The next point of a group's grid of a step at or after a time (R173): the grid of the run before goes on until the ball
start of the latest run, which is a point of both. -/
def Group.grid (x : Group) (step t : Nat) : Nat :=
  if t < x.ball0 then min (gridFrom x.grid0 step t) x.ball0 else gridFrom x.ball0 step t

/-- The two origins of FP_CLK (09 R319): of the grid before a time, and that time; even nanoseconds until the first run after
the release. -/
def Group.fpGrid (x : Group) : Nat × Nat :=
  (if x.run ≤ x.relRun + 1 then 0 else x.grid0, if x.run ≤ x.relRun then 0 else x.ball0)

/-- The first rising edge of FP_CLK at or after a time, and the last at or before it. The low phase before a ball start is the
one that is stretched. -/
def Group.fpEdge (x : Group) (t : Nat) : Nat :=
  let o := x.fpGrid
  if o.2 ≤ t then gridFrom o.2 (2 * ns) t
  else
    let e := gridFrom o.1 (2 * ns) t
    if e + 2 * ns ≤ o.2 then e else o.2
def Group.fpLast (x : Group) (t : Nat) : Nat :=
  let o := x.fpGrid
  if o.2 ≤ t then t - (t - o.2) % (2 * ns)
  else
    let e := t - (t - o.1) % (2 * ns)
    if e + 2 * ns ≤ o.2 then e else e - 2 * ns

/-- The user flags at a time (09 R335): what the port took at the last edge of FP_CLK, the value just before it. -/
def Group.ufAt (x : Group) (t : Nat) : BitVec 8 :=
  let e := x.fpLast (match x.fpOff with | none => t | some u => min t u)
  ((x.uf.find? (fun c => decide (c.1 < e))).map (·.2)).getD 0

/-- A change of the user flags, in its place by time; what no sample from `now` on can see is dropped. -/
def Group.ufChange (x : Group) (now : Nat) (c : Nat × BitVec 8) : Group :=
  let l := x.uf.filter (fun e => decide (c.1 < e.1)) ++ c :: x.uf.filter (fun e => decide (e.1 < c.1))
  let cut := x.fpLast now
  let n := (l.takeWhile (fun e => decide (cut ≤ e.1))).length
  { x with uf := l.take (n + 1) }

/-- The user flags read 0 from now on. -/
def Group.ufStop (x : Group) (now : Nat) : Group :=
  let l := x.uf.filter (fun e => decide (e.1 < now))
  { x with uf := if (l.head?.map (·.2)).getD 0 = 0 then l else (now, 0) :: l }

/-- The end record of a run (R175). -/
def endRecord (r : RunLog) (e : Nat × Nat × Nat × Nat) : BitVec 256 :=
  let rec_ := packRec e.2.1 0 1024 0 r.lost (e.2.2.1 + 256 * e.2.2.2) r.supp 0
  if r.lost = 0 then rec_ else withLoss rec_

/-- The run whose end record is due at a tick: of the runs that still owe one the first, if it has ended 10 ns ago and none
of its records waits (R175, R187). -/
def State.endDue (s : State) (g : Fin 24) (tick : Nat) : Option RunLog :=
  match (s.g g).runs.find? (fun r => r.len && !r.endTaken) with
  | none => none
  | some r =>
    if (match r.ended with | none => false | some e => decide (e.1 + 10 * ns ≤ tick)) &&
      !(s.g g).logBuf.any (fun x => x.run == r.no) && !(s.g g).logStage.any (fun x => x.run == r.no)
    then some r else none

/-- The source of a group's log and capture writer (12 R415). -/
def fcuSrc (g : Fin 24) : Nat := (g.val / 4) * 128 + 0x44 + g.val % 4

/-- Write record number n of the log ring. -/
def State.writeRecord (s : State) (g : Fin 24) (r : BitVec 256) (env : G6Env) : Bool × State :=
  let n := (s.rd (R.FCU_LWPTR g)).toNat + (s.g g).logFly.length
  let a := s.rdPair (R.FCU_LBASE_LO g) (R.FCU_LBASE_HI g) + 32 * (n % ringSize (s.fld (R.FCU_LSIZE g) F.FCU_LSIZE_SIZE))
  s.writeSlot (fcuSrc g) a (leBytes 32 r.toNat) [env]

/-- The next take ticks of the log writer and of the capture writer. -/
def State.logTickAt (s : State) (g : Fin 24) : Nat := (s.g g).grid (4 * ns) (max s.now (s.g g).logTick)
def State.capTickAt (s : State) (g : Fin 24) : Nat := (s.g g).grid (20 * ns) (max s.now (s.g g).capTick)

/-- A take tick of the log writer (R173 to R175). -/
def execLogTake (g : Fin 24) (env : G6Env) (s : State) : Out :=
  let tick := s.logTickAt g
  let s := s.logEnterTo g tick
  let s := ((s.at_ tick).modG g (fun x => { x with logTick := tick + 1 })).updLfull g
  if s.logFull g then .next s
  else
    match s.endDue g tick with
    | some r =>
      match r.ended with
      | none => .next s
      | some e =>
        let w := s.writeRecord g (endRecord r e) env
        let s := w.2.modG g (fun x => { x with logFly := x.logFly ++ [⟨r.no, true, w.1⟩] })
        .next ((s.modRun g r.no (fun q => { q with endTaken := true, pendLoss := false })).updLfull g)
    | none =>
      match (s.g g).logBuf with
      | [] => .next s
      | r :: rest =>
        let s := s.modG g (fun x => { x with logBuf := rest })
        let w := s.writeRecord g r.rec256 env
        .next ((w.2.modG g (fun x => { x with logFly := x.logFly ++ [⟨r.run, false, w.1⟩] })).updLfull g)

/-- A log write's response (R174, R176). A loss is its own run's; once that run's end record has been taken it is counted in
FCU_LLOST only, since no loss marks a record of a later run (R173). -/
def execLogWriteDone (g : Fin 24) (s : State) : Out :=
  match (s.g g).logFly with
  | [] => .next s
  | f :: rest =>
    let s := s.modG g (fun x => { x with logFly := rest })
    let s := s.wr (R.FCU_LWPTR g) (s.rd (R.FCU_LWPTR g) + 1)
    let s := if f.isEnd then s.modRun g f.run (fun q => { q with endDone := true }) else s
    let s := if f.err then (s.countLogLoss g f.run).raise (R.FCU_CAUSE g) F.FCU_CAUSE_WERR
      else if f.isEnd then s else s.tally (g.val / 4) (0x14 + g.val % 4) 1
    .next (s.updLfull g)

/-! Capture (R179) -/

/-- A capture entry is lost: CLOST, CINC, COVR. -/
def State.countCapLoss (s : State) (g : Fin 24) : State :=
  let s := (s.bump (R.FCU_CLOST g) F.FCU_CLOST_COUNT 1).raise (R.FCU_STAT g) F.FCU_STAT_CINC
  s.raise (R.FCU_CAUSE g) F.FCU_CAUSE_COVR

/-- The capture entry that enters the capture buffer next does so, or is lost and marks the next one stored. -/
def State.capEnter (s : State) (g : Fin 24) : State :=
  match (s.g g).capStage with
  | [] => s
  | r :: rest =>
    let s := (s.at_ r.time).modG g (fun x => { x with capStage := rest })
    if (s.g g).capBuf.length < 256 then
      let r' := if (s.g g).capLoss then { r with rec256 := withLoss r.rec256 } else r
      s.modG g (fun x => { x with capBuf := x.capBuf ++ [r'], capLoss := false })
    else (s.countCapLoss g).modG g (fun x => { x with capLoss := true })

/-- CAPTURE_ENTER. -/
def execCaptureEnter (g : Fin 24) (s : State) : Out := .next (s.capEnter g)

def State.capEnterTo (s : State) (g : Fin 24) (t : Nat) : State :=
  times ((s.g g).capStage.takeWhile (fun r => decide (r.time ≤ t))).length (fun s => s.capEnter g) s

/-- The capture writer takes one entry every 20 ns. -/
def execCaptureTake (g : Fin 24) (envs : List G6Env) (s : State) : Out :=
  let tick := s.capTickAt g
  let s := s.capEnterTo g tick
  let s := (s.at_ tick).modG g (fun x => { x with capTick := tick + 1 })
  if s.capFull g then .next s
  else
    match (s.g g).capBuf with
    | [] => .next s
    | r :: rest =>
      let n := (s.rd (R.FCU_CWPTR g)).toNat + (s.g g).capFly.length
      let a := s.rdPair (R.FCU_CBASE_LO g) (R.FCU_CBASE_HI g) + 160 * (n % ringSize (s.fld (R.FCU_CSIZE g) F.FCU_CSIZE_SIZE))
      let w := (s.modG g (fun x => { x with capBuf := rest })).writeSlot (fcuSrc g) a
        (leBytes 32 r.rec256.toNat ++ leBytes 128 r.cap.toNat) envs
      .next (w.2.modG g (fun x => { x with capFly := x.capFly ++ [⟨r.run, false, w.1⟩] }))

/-- A capture write's response (R176); it marks no later entry. -/
def execCaptureWriteDone (g : Fin 24) (s : State) : Out :=
  match (s.g g).capFly with
  | [] => .next s
  | f :: rest =>
    let s := s.modG g (fun x => { x with capFly := rest })
    let s := s.wr (R.FCU_CWPTR g) (s.rd (R.FCU_CWPTR g) + 1)
    .next (if f.err then (s.countCapLoss g).raise (R.FCU_CAUSE g) F.FCU_CAUSE_WERR else s)

/-! Bitmap planes (R181 to R183) -/

/-- The line update that enters its queue next does so, or is lost (R181); with the catch cache held every update is lost
(17 R559). -/
def State.bmEnter (s : State) (g : Fin 24) : State :=
  match (s.g g).bmStage with
  | [] => s
  | u :: rest =>
    let s := (s.at_ u.time).modG g (fun x => { x with bmStage := rest })
    if (s.g g).bmQ.length < 512 && !s.bistHeld (dieOf g).val 0x0C then s.modG g (fun x => { x with bmQ := x.bmQ ++ [u] })
    else
      let d := (dieOf g).val
      let s := (s.tally d (0x1C + g.val % 4) 1).bump (R.FCU_BLOST g) F.FCU_BLOST_COUNT 1
      let s := s.bump (R.FCD_BM_LOST d u.plane) F.FCD_BM_LOST_COUNT 1
      let s := (s.raise (R.FCU_STAT g) F.FCU_STAT_BINC).raise (R.FCU_CAUSE g) F.FCU_CAUSE_BOVR
      s.raise (R.FCD_BM_STAT d u.plane) F.FCD_BM_STAT_INCOMPLETE

/-- LINE_UPDATE_ENTER. -/
def execLineUpdateEnter (g : Fin 24) (s : State) : Out := .next (s.bmEnter g)

def State.bmEnterTo (s : State) (g : Fin 24) (t : Nat) : State :=
  times ((s.g g).bmStage.takeWhile (fun u => decide (u.time ≤ t))).length (fun s => s.bmEnter g) s

/-- The bits of a plane's line are lost (R182). -/
def State.lineLost (s : State) (d plane : Nat) : State :=
  (s.bump (R.FCD_BM_ERR d plane) F.FCD_BM_ERR_COUNT 1).raise (R.FCD_BM_STAT d plane) F.FCD_BM_STAT_INCOMPLETE

/-- The groups of a die in the order a round robin serves them after group k. -/
def rrOrder (d : Fin 6) (k : Nat) : List (Fin 24) := (groupsOf d).rotate ((k + 1) % 4)

/-- The set of a line in the catch cache. -/
def catchSet (a : Nat) : Nat := a / 64 % 4096

/-- Write a catch cache line to its plane by a near-memory OR (12 R439). -/
def State.orLine (s : State) (d : Fin 6) (l : CatchLine) (env : G6Env) : State :=
  let r := s.g6Access (d.val * 128 + 0x48) l.addr (.or_ l.bits) env
  r.st.modC d (fun c => { c with orFly := c.orFly ++ [⟨l.plane, l.flush, r.resp != .ok⟩] })

/-- An update that hits: its bits join the line, which becomes the most recently used; an uncorrectable line loses its
bits and is filled anew by the update. -/
def State.catchHit (s : State) (d : Fin 6) (u : LineUpd) (l : CatchLine) (lineUe : Bool) : State :=
  let l' : CatchLine := if lineUe then ⟨u.plane, u.addr, u.bits, false⟩ else { l with bits := l.bits ||| u.bits }
  let s := s.modC d (fun c => { c with catch_ := l' :: c.catch_.erase l })
  if lineUe then s.lineLost d l.plane else s

/-- An update that misses: a line is allocated, and the least recently used of a full set leaves as an OR write. -/
def State.catchMiss (s : State) (d : Fin 6) (u : LineUpd) (lineUe : Bool) (env : G6Env) : State :=
  let set := (s.c d).catch_.filter (fun l => catchSet l.addr == catchSet u.addr)
  let add (s : State) : State := s.modC d (fun c => { c with catch_ := ⟨u.plane, u.addr, u.bits, false⟩ :: c.catch_ })
  if set.length < 16 then add s
  else
    match set.getLast? with
    | none => add s
    | some l =>
      let s := s.modC d (fun c => { c with catch_ := c.catch_.erase l })
      add (if lineUe then s.lineLost d l.plane else s.orLine d l env)

/-- The next take of the catch cache: two a nanosecond. -/
def State.catchSlotAt (s : State) (d : Fin 6) : Nat := gridFrom 0 4000 (max s.now (s.c d).catchSlot)

/-- The catch cache takes one line update (R181, R182); those that enter at the instant of the take enter before it. -/
def execCatchTake (d : Fin 6) (lineUe : Bool) (env : G6Env) (s : State) : Out :=
  let slot := s.catchSlotAt d
  let s := forEach (groupsOf d) (fun g s => s.bmEnterTo g slot) s
  let s := (s.at_ slot).modC d (fun c => { c with catchSlot := slot + 1 })
  match (rrOrder d (s.c d).catchRr).find? (fun g => !(s.g g).bmQ.isEmpty) with
  | none => .next s
  | some g =>
    match (s.g g).bmQ with
    | [] => .next s
    | u :: rest =>
      let s := ((s.tally d 0x20 1).modG g (fun x => { x with bmQ := rest })).modC d (fun c => { c with catchRr := g.val % 4 })
      match (s.c d).catch_.find? (fun l => l.addr == u.addr && l.plane == u.plane) with
      | some l => .next (s.catchHit d u l lineUe)
      | none => .next ((s.tally d 0x21 1).catchMiss d u lineUe env)

/-- The oldest OR write in flight completes; with none in flight the flush writes its next line, which completes
(R182, R183). -/
def execOrWriteDone (d : Fin 6) (lineUe : Bool) (env : G6Env) (s : State) : Out :=
  let finish (s : State) : State :=
    match (s.c d).orFly with
    | [] => s
    | f :: rest =>
      let s := s.modC d (fun c => { c with orFly := rest })
      if f.err then s.lineLost d f.plane else s
  match (s.c d).orFly with
  | _ :: _ => .next (finish s)
  | [] =>
    match (s.c d).catch_.reverse.find? (fun l => l.flush) with
    | none => .next s
    | some l =>
      let s := s.modC d (fun c => { c with catch_ := c.catch_.erase l })
      if lineUe then .next (s.lineLost d l.plane) else .next (finish (s.orLine d l env))

/-- BMFLUSH claims every line the cache holds (R183). -/
def execBmflush (d : Fin 6) (s : State) : Out :=
  .next ((s.modC d (fun c => { c with catch_ := c.catch_.map (fun l => { l with flush := true }) })).raise
    (R.FCD_STAT d) F.FCD_STAT_BMBUSY)

/-- A flush ends once no claimed line is left in the cache or in flight. -/
def execFlushDone (d : Fin 6) (s : State) : Out :=
  if (s.c d).catch_.any (fun l => l.flush) || (s.c d).orFly.any (fun f => f.flush) then .next s
  else .next (s.setB (R.FCD_STAT d) F.FCD_STAT_BMBUSY false)

/-- BMCLRn clears a plane's status and counts (R183). -/
def execBmclr (d : Fin 6) (planes : BitVec 4) (s : State) : Out :=
  .next (forEach ((List.range 4).filter (fun n => planes.getLsbD n)) (fun n s =>
    ((s.wr (R.FCD_BM_STAT d n) 0).wr (R.FCD_BM_LOST d n) 0).wr (R.FCD_BM_ERR d n) 0) s)

/-- The fail address that enters its RAE queue next does so, or a loss marker stands for it (R184). -/
def State.raeEnter (s : State) (g : Fin 24) : State :=
  match (s.g g).raeStage with
  | [] => s
  | i :: rest =>
    let s := (s.at_ i.time).modG g (fun x => { x with raeStage := rest })
    if ((s.g g).raeQ.filter (fun x => !x.marker)).length < 1024 then
      s.modG g (fun x => { x with raeQ := x.raeQ ++ [i] })
    else
      let s := (s.bump (R.FCU_RLOST g) F.FCU_RLOST_COUNT 1).raise (R.FCU_STAT g) F.FCU_STAT_RINC
      let s := s.raise (R.FCU_CAUSE g) F.FCU_CAUSE_ROVR
      let tailMarker := ((s.g g).raeQ.getLast?.map (·.marker)).getD false
      if tailMarker then s
      else s.modG g (fun x => { x with raeQ := x.raeQ ++ [{ i with marker := true, x := 0, y := 0, io := 0, site := 0 }] })

/-- RAE_FEED_ENTER. -/
def execRaeFeedEnter (g : Fin 24) (s : State) : Out := .next (s.raeEnter g)

def State.raeEnterTo (s : State) (g : Fin 24) (t : Nat) : State :=
  times ((s.g g).raeStage.takeWhile (fun i => decide (i.time ≤ t))).length (fun s => s.raeEnter g) s

/-- A run's results are final (R187). -/
def State.runSettled (s : State) (g : Fin 24) (r : RunLog) : Bool :=
  r.ended.isSome &&
  !(s.g g).capStage.any (fun x => x.run == r.no) && !(s.g g).capBuf.any (fun x => x.run == r.no) &&
  !(s.g g).capFly.any (fun x => x.run == r.no) &&
  (!r.len || (r.endDone && !(s.g g).logStage.any (fun x => x.run == r.no) && !(s.g g).logBuf.any (fun x => x.run == r.no) &&
    !(s.g g).logFly.any (fun x => x.run == r.no)))

/-- SIGDONE for the oldest run (R187). -/
def execSigdone (g : Fin 24) (s : State) : Out :=
  match (s.g g).runs with
  | [] => .next s
  | r :: rest =>
    if s.runSettled g r then
      let s := s.settleCnt g (max s.now (((r.ended).map (·.1)).getD 0))
      .next ((s.modG g (fun x => { x with runs := rest })).raise (R.FCU_CAUSE g) F.FCU_CAUSE_SIGDONE)
    else .next s

/-- The fail port presents the next fail word (04 R153). -/
def execFailPortWord (g : Fin 24) (s : State) : Out :=
  match (s.g g).ffStage with
  | [] => .next s
  | f :: rest =>
    .next (((s.at_ f.1).modG g (fun x => { x with ffStage := rest })).emit (.failWord g f.2.1 f.2.2.1 f.2.2.2.1 f.2.2.2.2))

end Sys2Proof.Machine
end

