-- ==== Sys2Proof/Machine/Repair.lean ====
section
/-! DEFINITION. Machine/Repair.lean: the repair analysis engine of a die (06_repair_analysis.md). -/
namespace Sys2Proof.Machine

/-! Mapping (R196 to R199) -/

/-- A domain template. -/
structure Tmpl where
  rw_ : Nat
  xsh : Nat
  cyw : Nat
  ysh : Nat
  iw : Nat
  xdw : Nat
  ydw : Nat
  idw : Nat
  sr : Nat
  sc : Nat
deriving DecidableEq, Repr

def State.tmpl (s : State) (d t : Nat) : Tmpl where
  rw_ := s.fld (R.RAE_TMPL_GEOM d t) F.RAE_TMPL_GEOM_RW
  xsh := s.fld (R.RAE_TMPL_GEOM d t) F.RAE_TMPL_GEOM_XSH
  cyw := s.fld (R.RAE_TMPL_GEOM d t) F.RAE_TMPL_GEOM_CYW
  ysh := s.fld (R.RAE_TMPL_GEOM d t) F.RAE_TMPL_GEOM_YSH
  iw := s.fld (R.RAE_TMPL_DOM d t) F.RAE_TMPL_DOM_IW
  xdw := s.fld (R.RAE_TMPL_DOM d t) F.RAE_TMPL_DOM_XDW
  ydw := s.fld (R.RAE_TMPL_DOM d t) F.RAE_TMPL_DOM_YDW
  idw := s.fld (R.RAE_TMPL_DOM d t) F.RAE_TMPL_DOM_IDW
  sr := s.fld (R.RAE_TMPL_SPARE d t) F.RAE_TMPL_SPARE_SR
  sc := s.fld (R.RAE_TMPL_SPARE d t) F.RAE_TMPL_SPARE_SC

/-- R197. -/
def Tmpl.valid (t : Tmpl) : Bool :=
  decide (t.rw_ ≤ 16 ∧ t.iw ≤ 6 ∧ t.idw ≤ 6 ∧ t.cyw + t.iw ≤ 14 ∧ t.xdw + t.ydw + t.idw ≤ 16 ∧ t.sr ≤ 16 ∧ t.sc ≤ 16)

/-- Row, column and local index of a cell (R196). -/
def Tmpl.map (t : Tmpl) (x y io : Nat) : Nat × Nat × Nat :=
  (x / 2 ^ t.xsh % 2 ^ t.rw_,
   io % 2 ^ t.iw * 2 ^ t.cyw + y / 2 ^ t.ysh % 2 ^ t.cyw,
   (x / 2 ^ (t.xsh + t.rw_) % 2 ^ t.xdw * 2 ^ t.ydw + y / 2 ^ (t.ysh + t.cyw) % 2 ^ t.ydw) * 2 ^ t.idw + io / 2 ^ t.iw % 2 ^ t.idw)

def State.siteEn (s : State) (d x : Nat) : Bool := s.flag (R.RAE_SITE d x) F.RAE_SITE_EN
def State.siteTmpl (s : State) (d x : Nat) : Nat := s.fld (R.RAE_SITE d x) F.RAE_SITE_TMPL
def State.siteBase (s : State) (d x : Nat) : Nat := s.fld (R.RAE_SITE d x) F.RAE_SITE_DBASE

/-- Domains in a site's scope, cut at the end of the domain space (R199, notes/assumptions/27.md). -/
def State.scopeSize (s : State) (d x : Nat) : Nat :=
  let t := s.tmpl d (s.siteTmpl d x)
  min (2 ^ (t.xdw + t.ydw + t.idw)) (65536 - s.siteBase d x)

/-- The domain, row and column of a fail address; none is a bad map (R198). -/
def State.raeMap (s : State) (d : Nat) (i : RaeItem) : Option (Nat × Nat × Nat) :=
  let t := s.tmpl d (s.siteTmpl d i.site)
  if i.shared || !s.siteEn d i.site || !t.valid then none
  else
    let m := t.map i.x i.y i.io
    if 65535 < s.siteBase d i.site + m.2.2 then none else some (s.siteBase d i.site + m.2.2, m.1, m.2.1)

/-! Domains (R200, R204) -/

/-- An untouched domain. -/
def Dom.fresh : Dom := ⟨0, [], [], [], .open_, false, false⟩

def State.dom (s : State) (d : Fin 6) (n : Nat) : Dom := Sparse.get (fun _ => Dom.fresh) (s.c d).doms n
def State.setDom (s : State) (d : Fin 6) (n : Nat) (x : Dom) : State :=
  s.modC d (fun c => { c with doms := Sparse.put (fun _ => Dom.fresh) c.doms n x })

def rowCount (l : List (Nat × Nat)) (x : Nat) : Nat := (l.filter (fun e => e.1 == x)).length
def colCount (l : List (Nat × Nat)) (y : Nat) : Nat := (l.filter (fun e => e.2 == y)).length

/-- The lowest number of a list that passes a test. -/
def lowest (l : List Nat) (p : Nat → Bool) : Option Nat :=
  (l.filter p).foldl (fun acc x => match acc with | none => some x | some y => some (min x y)) none

/-- The must-repair loop (R204 phase 1). -/
def mustRepair (fuel sr sc : Nat) (d : Dom) : Dom :=
  match fuel with
  | 0 => d
  | n + 1 =>
    match lowest (d.list.map (·.1)) (fun x => decide (sc - d.cols.length < rowCount d.list x)) with
    | some x =>
      if sr - d.rows.length = 0 then { d with st := .unrepMust }
      else mustRepair n sr sc { d with rows := d.rows ++ [x], list := d.list.filter (fun e => e.1 != x) }
    | none =>
      match lowest (d.list.map (·.2)) (fun y => decide (sr - d.rows.length < colCount d.list y)) with
      | none => d
      | some y =>
        if sc - d.cols.length = 0 then { d with st := .unrepMust }
        else mustRepair n sr sc { d with cols := d.cols ++ [y], list := d.list.filter (fun e => e.2 != y) }

/-- One fail reaches its domain (R204). -/
def Dom.fail (d : Dom) (sr sc r c : Nat) : Dom :=
  let d := { d with fails := min (d.fails + 1) 4294967295, touched := true }
  if d.st ≠ .open_ then d
  else if d.rows.contains r || d.cols.contains c || d.list.contains (r, c) then d
  else
    let d := mustRepair 64 sr sc { d with list := d.list ++ [(r, c)] }
    if d.st ≠ .open_ then d
    else if 2 * (sr - d.rows.length) * (sc - d.cols.length) < d.list.length then { d with st := .unrepEarly }
    else if 64 < d.list.length then { d with list := d.list.erase (r, c), st := .overflow }
    else d

def Dom.unrep (d : Dom) : Bool := d.st == .unrepMust || d.st == .unrepEarly

/-! The domain cache (R201) -/

/-- A domain becomes the most recently used; one that is not resident misses until t + 64 ns, and a fail waits for it. -/
def State.domTouch (s : State) (d : Fin 6) (n t : Nat) (fail : Option (Nat × Nat × Nat × Nat)) : State :=
  if (s.c d).resident.contains n then s.modC d (fun c => { c with resident := n :: c.resident.erase n })
  else
    let full := decide (4096 ≤ (s.c d).resident.length)
    let ev := if full then (s.c d).resident.getLast? else none
    let keep := if full then (s.c d).resident.dropLast else (s.c d).resident
    let s := (s.tally d 0x23 1).bump (R.RAE_MISS_CNT d) F.RAE_MISS_CNT_COUNT 1
    s.modC d (fun c => { c with resident := n :: keep, miss := some ⟨t + 64 * ns, n, ev, (s.dom d n).touched, fail⟩ })

/-- The address of a domain in the spill region. -/
def State.spillAddr (s : State) (d : Fin 6) (n : Nat) : Nat := s.rdPair (R.RAE_SPBASE_LO d) (R.RAE_SPBASE_HI d) + 512 * n

/-- A spill transfer that failed loses the domain's state and marks it (R203, R218; notes/assumptions/94.md). -/
def State.memErr (s : State) (d : Fin 6) (n : Nat) : State :=
  (s.setDom d n { Dom.fresh with memerr := true, touched := true }).raise (R.RAE_CAUSE d) F.RAE_CAUSE_MEMERR

/-- A fail reaches a resident domain (R204, R205). -/
def State.domFail (s : State) (d : Fin 6) (n sr sc r c : Nat) : State :=
  let old := s.dom d n
  let new := old.fail sr sc r c
  let s := s.setDom d n new
  if new.unrep && !old.unrep then s.raise (R.RAE_CAUSE d) F.RAE_CAUSE_UNREP else s

/-- A miss completes after 64 ns: the evicted domain has been written to the spill region (its layout there is not
given: free bytes), the loaded one read; then the fail that waited reaches it. -/
def execMissDone (d : Fin 6) (envs : List G6Env) (s : State) : Out :=
  match (s.c d).miss with
  | none => .next s
  | some m =>
    let s := (s.at_ m.until_).modC d (fun c => { c with miss := none })
    let src := d.val * 128 + 0x49
    let s := match m.evicted with
      | none => s
      | some e =>
        let w := s.used.g6WriteBytes src (s.spillAddr d e) (leBytes 512 s.freeVal) envs 8
        if w.1 = .ok then w.2 else w.2.memErr d e
    let s :=
      if m.reads then
        let r := s.g6ReadBytes src (s.spillAddr d m.dom) 512 (envs.drop 8) 8
        if r.1 = .ok then r.2.2 else r.2.2.memErr d m.dom
      else s
    match m.fail with
    | none => .next s
    | some (sr, sc, r, c) => .next (s.domFail d m.dom sr sc r c)

/-! Intake (R193 to R195, R209, R211) -/

/-- A domain lies in the scope of the running solve and its record has not been written (R211). -/
def State.solvePending (s : State) (d : Fin 6) (n : Nat) : Bool :=
  match (s.c d).cmdRun with
  | none => false
  | some r =>
    decide (r.cmd.op < 2) &&
    (match r.sites with
     | [] => false
     | x :: rest =>
       decide (s.siteBase d x + r.k ≤ n ∧ n < s.siteBase d x + s.scopeSize d x) ||
       rest.any (fun y => decide (s.siteBase d y ≤ n ∧ n < s.siteBase d y + s.scopeSize d y)))

/-- A clear runs: intake stops (R210). -/
def State.clearing (s : State) (d : Fin 6) : Bool :=
  match (s.c d).cmdRun with
  | none => false
  | some r => decide (2 ≤ r.cmd.op)

/-- One entry is taken with RAE_CTRL.EN = 1. -/
def State.raeTake (s : State) (d : Fin 6) (i : RaeItem) (t : Nat) : State :=
  if i.marker then
    let s := (s.bump (R.RAE_LOSS_CNT d) F.RAE_LOSS_CNT_COUNT 1).raise (R.RAE_STAT d) F.RAE_STAT_LOSS
    s.raise (R.RAE_CAUSE d) F.RAE_CAUSE_LOSS
  else
    let s := s.tally d 0x22 1
    match s.raeMap d i with
    | none => (s.bump (R.RAE_BADMAP_CNT d) F.RAE_BADMAP_CNT_COUNT 1).raise (R.RAE_CAUSE d) F.RAE_CAUSE_BADMAP
    | some (n, r, c) =>
      if s.solvePending d n then
        let s := (s.bump (R.RAE_LATE_CNT d) F.RAE_LATE_CNT_COUNT 1).raise (R.RAE_CAUSE d) F.RAE_CAUSE_LATE
        s.modC d (fun x => { x with late := Sparse.put (fun _ => 0) x.late n (sat32 (Sparse.get (fun _ => 0) x.late n + 1)) })
      else
        let tm := s.tmpl d (s.siteTmpl d i.site)
        let hit := (s.c d).resident.contains n
        let s := s.domTouch d n t (some (tm.sr, tm.sc, r, c))
        if hit then s.domFail d n tm.sr tm.sc r c else s

/-! Commands (R206 to R212) -/

def State.raeCmdErr (s : State) (d : Nat) : State := s.raise (R.RAE_CAUSE d) F.RAE_CAUSE_CMDERR

/-- A command reaches the RAE with its cut (R206 to R208). -/
def State.raeCommand (s : State) (d : Fin 6) (op site cut : Nat) : State :=
  if 3 < op then s.raeCmdErr d
  else if op = 1 ∧ !s.siteEn d site then s.raeCmdErr d
  else if 4 ≤ (s.c d).cmdQ.length + (if (s.c d).cmdRun.isSome then 1 else 0) then
    (s.bump (R.RAE_CMDLOST_CNT d) F.RAE_CMDLOST_CNT_COUNT 1).raeCmdErr d
  else s.modC d (fun c => { c with cmdQ := c.cmdQ ++ [⟨op, site, cut⟩] })

/-- The 16-bit parameter of a TRIG or of RAE_CMD (R206). -/
def State.raeParam (s : State) (d : Fin 6) (p cut : Nat) : State :=
  if bitsOf p 8 4 ≠ 0 then s.raeCmdErr d else s.raeCommand d (bitsOf p 12 4) (bitsOf p 0 8) cut

/-! What falls due: TRIGs (02 R57), mask bits at the ball end (05 R161) -/

/-- The order of delivery: by nanosecond, then by group (R208). -/
def dueKey (e : Nat × Nat × Nat) : Nat := e.1 / ns * 32 + e.2.2 / 1048576 % 32

/-- Insert what is due behind everything of its order and before. -/
def putDue (x : Nat × Nat × Nat) (l : List (Nat × Nat × Nat)) : List (Nat × Nat × Nat) :=
  match l with
  | [] => [x]
  | y :: r => if dueKey x < dueKey y then x :: y :: r else y :: putDue x r

/-- A pulse on fabric trigger input p of a group in the FP_CLK cycle at or after a time; two in one cycle are one pulse and
set TMERGE (09 R336). -/
def State.pulseTrg (s : State) (g : Fin 24) (p t : Nat) : State :=
  let cycle := (s.g g).fpEdge t
  if (s.g g).trgs.contains (p, cycle) then s.raise (R.FAB_CAUSE (dieOf g)) F.FAB_CAUSE_TMERGE
  else
    (s.modG g (fun x => { x with
      trgs := (p, cycle) :: x.trgs.filter (fun e => decide (t < e.2 + 8 * ns)) })).emit (.trg g p cycle)

/-- Trigger input p of a group is high just before what happens now. -/
def Group.trgHigh (x : Group) (p now : Nat) : Bool :=
  x.trgs.any (fun e => e.1 == p && decide (e.2 < now ∧ now ≤ x.fpEdge (e.2 + 1)))

/-- One thing that is due on a die: 8 a TRIG to the RAE, 9 a TRIG to the core, 10 the cause of a setting vector, 11 its
mask bit, 12 a TRIG to the fabric. -/
def State.giveDue (s : State) (d : Fin 6) (e : Nat × Nat × Nat) : State :=
  let g : Fin 24 := ⟨e.2.2 / 1048576 % 24, by omega⟩
  let p := e.2.2 % 1048576
  match e.2.1 with
  | 8 => s.raeParam d (p % 65536) (e.1 - 4 * ns)
  | 9 => (s.setF (R.VSQ_TCODE g) F.VSQ_TCODE_CODE (p % 65536)).raise (R.VSQ_CAUSE g) F.VSQ_CAUSE_TRIG
  | 10 => s.raise (R.FCU_CAUSE g) F.FCU_CAUSE_SMASK
  | 11 => s.smaskSet d p
  | _ => s.pulseTrg g p e.1

/-- Everything due on a die at or before a time takes place. -/
def State.deliverDie (s : State) (d : Fin 6) (t : Nat) : State :=
  let due := (s.c d).trigs.filter (fun e => decide (8 ≤ e.2.1 ∧ e.1 ≤ t))
  let s := if due.isEmpty then s
    else forEach (due.foldl (fun l e => putDue e l) []) (fun e s => s.giveDue d e)
      (s.modC d (fun c => { c with trigs := c.trigs.filter (fun e => !decide (8 ≤ e.2.1 ∧ e.1 ≤ t)) }))
  forEach ((s.c d).maskTravel.filter (fun e => decide (e.2 ≤ t))) (fun e s => s.maskArrive d e) s

/-- Reserved wave codes met at vectors issued by a time (04 R130, R131). -/
def State.raiseWrsv (s : State) (g : Fin 24) (t : Nat) : State :=
  if (s.g g).wrsv.any (fun u => decide (u ≤ t)) then
    (s.modG g (fun x => { x with wrsv := x.wrsv.filter (fun u => !decide (u ≤ t)) })).raise (R.CH_CAUSE g) F.CH_CAUSE_WRSV
  else s

/-- Everything due at or before a time takes place; counts of vectors that ended 20 ns before it have reached their counters
(05 R165, R166). -/
def State.deliver (s : State) (t : Nat) : State :=
  forEach (List.finRange 24) (fun g s => (s.raiseWrsv g t).settleCnt g (t - 20 * ns)) (forEach (List.finRange 6) (fun d s => s.deliverDie d t) s)

/-- Before the next command of an RAE starts: its clock stands at the first TRIG that has yet to reach it. -/
def State.nextTrig (s : State) (d : Fin 6) : State :=
  match (s.c d).cmdQ, ((s.c d).trigs.filter (fun e => e.2.1 == 8)).foldl (fun l e => putDue e l) [] with
  | [], e :: _ => (s.at_ e.1).deliver (max s.now e.1)
  | _, _ => s.deliver s.now

/-- The next intake slot: an even nanosecond of package time (R193). -/
def State.raeSlotAt (s : State) (d : Fin 6) : Nat := gridFrom 0 (2 * ns) (max s.now (s.c d).raeSlot)

/-- An intake slot; the entries that enter at its instant enter before the take (R193). -/
def execRaeIntake (d : Fin 6) (s : State) : Out :=
  let slot := s.raeSlotAt d
  let s := forEach (groupsOf d) (fun g s => s.raeEnterTo g slot) s
  let s := ((s.at_ slot).deliver slot).modC d (fun c => { c with raeSlot := slot + 1 })
  if (s.c d).miss.isSome || s.clearing d then .next s
  else
    let ok (i : RaeItem) : Bool := match (s.c d).cmdQ with
      | [] => true
      | q :: _ => decide (i.ballEnd ≤ q.cut)
    match (rrOrder d (s.c d).raeRr).find? (fun g => match (s.g g).raeQ with | [] => false | i :: _ => ok i) with
    | none => .next s
    | some g =>
      match (s.g g).raeQ with
      | [] => .next s
      | i :: rest =>
        let s := (s.modG g (fun x => { x with raeQ := rest })).modC d (fun c => { c with raeRr := g.val % 4 })
        .next (if s.flag (R.RAE_CTRL d) F.RAE_CTRL_EN then s.raeTake d i slot else s)

/-- CLRSMASK (R162). -/
def execClrsmask (d : Fin 6) (s : State) : Out :=
  let s := s.deliver s.now
  if s.dieActive d then .next (s.fcdCmdErr d)
  else
    .next ((forEach (List.range 8) (fun i s => s.wr (R.FCD_SMASK d i) 0) s).modC d (fun c => { c with maskEff := [] }))

/-- A command written to RAE_CMD: a TRIG that arrives at the same instant comes first (R207, R208). -/
def State.raeWritten (s : State) (d : Fin 6) (op site : Nat) : State := (s.deliver s.now).raeCommand d op site (s.now - 20 * ns)

def execSolveAll (d : Fin 6) (s : State) : Out := .next (s.raeWritten d 0 0)
def execSolveSite (d : Fin 6) (site : Fin 256) (s : State) : Out := .next (s.raeWritten d 1 site)
def execClearAll (d : Fin 6) (s : State) : Out := .next (s.raeWritten d 2 0)
def execClearSite (d : Fin 6) (site : Fin 256) (s : State) : Out := .next (s.raeWritten d 3 site)

/-- No queue holds an entry at or before a cut (R209). -/
def State.cutDrained (s : State) (d : Fin 6) (cut : Nat) : Bool :=
  (groupsOf d).all (fun g => !(s.g g).raeQ.any (fun i => decide (i.ballEnd ≤ cut)) &&
    !(s.g g).raeStage.any (fun i => decide (i.ballEnd ≤ cut)))

/-- A solve ends (R216). -/
def State.solveEnd (s : State) (d : Fin 6) : State :=
  (s.modC d (fun c => { c with cmdRun := none })).raise (R.RAE_CAUSE d) F.RAE_CAUSE_SOLVED

/-- The effects of a command's start: RAE_SEQ of a solve, the counts of CLEAR_ALL. -/
def State.raeBegin (s : State) (d : Fin 6) (q : RaeCmd) (rest : List RaeCmd) : State :=
  let run (s : State) (sites : List Nat) : State :=
    s.modC d (fun c => { c with cmdQ := rest, cmdRun := some ⟨q, sites, 0⟩, late := [], solveAt := s.now })
  let seq (s : State) : State := s.wr (R.RAE_SEQ d) (s.rd (R.RAE_SEQ d) + 1)
  match q.op with
  | 0 =>
    let sites := (List.range 256).filter (fun x => s.siteEn d x)
    let s := run (seq s) sites
    if sites.isEmpty then s.solveEnd d else s
  | 1 => run (seq s) [q.site]
  | 2 =>
    let s := forEach [R.RAE_LOSS_CNT d, R.RAE_BADMAP_CNT d, R.RAE_LATE_CNT d, R.RAE_MISS_CNT d, R.RAE_CMDLOST_CNT d, R.RAE_SEQ d]
      (fun a s => s.wr a 0) s
    run (s.setB (R.RAE_STAT d) F.RAE_STAT_LOSS false) []
  | _ => run s []

/-- A queued command starts (R209). -/
def execRaeCmdStart (d : Fin 6) (s : State) : Out :=
  let s := s.nextTrig d
  match (s.c d).cmdQ with
  | [] => .next s
  | q :: rest =>
    if (s.c d).cmdRun.isSome || !s.cutDrained d q.cut then .next s
    else .next ((s.at_ (q.cut + 10 * ns)).raeBegin d q rest)

/-- A clear completes (R210): every domain of its scope is untouched. -/
def execClearDone (d : Fin 6) (s : State) : Out :=
  match (s.c d).cmdRun with
  | none => .next s
  | some r =>
    match r.cmd.op with
    | 2 => .next (s.modC d (fun c => { c with cmdRun := none, doms := [], resident := [], miss := none }))
    | 3 =>
      let lo := s.siteBase d r.cmd.site
      let hi := lo + s.scopeSize d r.cmd.site
      .next (s.modC d (fun c => { c with
        cmdRun := none
        doms := Sparse.keep (fun n => !decide (lo ≤ n ∧ n < hi)) c.doms
        miss := c.miss.map (fun m => if lo ≤ m.dom ∧ m.dom < hi then { m with reads := false, fail := none } else m) }))
    | _ => .next s

/-! The final solve (R213 to R218) -/

/-- A search node waiting: the spares of its branch and the assignment it makes (row or column). -/
structure Node where
  rows : List Nat
  cols : List Nat
  isRow : Bool
  at_ : Nat
deriving DecidableEq, Repr

/-- What a search has found: the best rows and columns, the nodes evaluated, whether it stopped at the limit. -/
structure Found where
  best : Option (List Nat × List Nat)
  nodes : Nat
  cut : Bool
deriving DecidableEq, Repr

/-- The nodes a branch opens at its first uncovered fail (R213 step 2). -/
def branches (fr fc : Nat) (rows cols : List Nat) (f : Nat × Nat) : List Node :=
  (if rows.length < fr then [⟨rows, cols, true, f.1⟩] else []) ++ (if cols.length < fc then [⟨rows, cols, false, f.2⟩] else [])

/-- The first fail no spare of a branch covers. -/
def uncovered (fails : List (Nat × Nat)) (rows cols : List Nat) : Option (Nat × Nat) :=
  fails.find? (fun f => !rows.contains f.1 && !cols.contains f.2)

/-- The search (R213, R214); the fuel is the node limit. -/
def search (fuel fr fc : Nat) (fails : List (Nat × Nat)) (stack : List Node) (best : Option (List Nat × List Nat)) (nodes : Nat) :
    Found :=
  match stack with
  | [] => ⟨best, nodes, false⟩
  | x :: rest =>
    match fuel with
    | 0 => ⟨best, nodes, true⟩
    | n + 1 =>
      let rows := if x.isRow then x.rows ++ [x.at_] else x.rows
      let cols := if x.isRow then x.cols else x.cols ++ [x.at_]
      let used := rows.length + cols.length
      let bestN := best.map (fun b => b.1.length + b.2.length)
      match uncovered fails rows cols with
      | none =>
        let better := match bestN with | none => true | some m => decide (used < m)
        search n fr fc fails rest (if better then some (rows, cols) else best) (nodes + 1)
      | some f =>
        let cut := match bestN with | none => false | some m => decide (m ≤ used + 1)
        search n fr fc fails (if cut then rest else branches fr fc rows cols f ++ rest) best (nodes + 1)

/-- The fails in search order: by row, then by column. -/
def searchOrder (l : List (Nat × Nat)) : List (Nat × Nat) := l.mergeSort (fun a b => decide (a.1 < b.1 ∨ (a.1 = b.1 ∧ a.2 ≤ b.2)))

/-- TLIM: 0 acts as 1, above 1,000 as 1,000. -/
def State.nodeLimit (s : State) (d : Nat) : Nat := 1250 * min 1000 (max 1 (s.fld (R.RAE_CTRL d) F.RAE_CTRL_TLIM))

/-- The verdict on a domain (R215): STATE, FLAGS without LOSS and LATE, spare rows, spare columns, RESID, nodes. -/
structure Verdict where
  st : Nat
  flags : Nat
  rows : List Nat
  cols : List Nat
  resid : Nat
  nodes : Nat
deriving DecidableEq, Repr

def Dom.verdict (x : Dom) (sr sc limit : Nat) : Verdict :=
  if x.memerr then ⟨3, 32, [], [], 0, 0⟩
  else if x.fails = 0 then ⟨0, 0, [], [], 0, 0⟩
  else
    match x.st with
    | .unrepMust => ⟨2, 0, x.rows, x.cols, x.list.length, 0⟩
    | .unrepEarly => ⟨2, 16, x.rows, x.cols, x.list.length, 0⟩
    | .overflow => ⟨3, 4, x.rows, x.cols, x.list.length, 0⟩
    | .open_ =>
      match searchOrder x.list with
      | [] => ⟨1, 8, x.rows, x.cols, 0, 0⟩
      | f :: fs =>
        let fr := sr - x.rows.length
        let fc := sc - x.cols.length
        let r := search limit fr fc (f :: fs) (branches fr fc [] [] f) none 0
        match r.best with
        | some b => ⟨if r.cut then 3 else 1, 8, x.rows ++ b.1, x.cols ++ b.2, x.list.length, r.nodes⟩
        | none => ⟨if r.cut then 3 else 2, 0, x.rows, x.cols, x.list.length, r.nodes⟩

/-- Entries of 16 bits, entry 0 lowest. -/
def pack16 (l : List Nat) : Nat := l.foldr (fun x acc => x % 65536 + 65536 * acc) 0

/-- A result record (R217). -/
def State.resultRecord (s : State) (d : Fin 6) (site n : Nat) (v : Verdict) : Nat :=
  let late := Sparse.get (fun _ => 0) (s.c d).late n
  let flags := v.flags + b2n (s.flag (R.RAE_STAT d) F.RAE_STAT_LOSS) + (if late = 0 then 0 else 2)
  n + site * 2 ^ 16 + s.siteTmpl d site * 2 ^ 24 + v.st * 2 ^ 28 + flags * 2 ^ 32 + v.rows.length * 2 ^ 40 +
  v.cols.length * 2 ^ 48 + v.resid * 2 ^ 56 + (s.dom d n).fails * 2 ^ 64 + v.nodes * 2 ^ 96 +
  (s.rd (R.RAE_SEQ d)).toNat * 2 ^ 128 + late * 2 ^ 160 + pack16 v.rows * 2 ^ 256 + pack16 v.cols * 2 ^ 512

/-- The result ring's size: values below 4 act as 4, above 20 as 20. -/
def State.resultRing (s : State) (d : Nat) : Nat := 2 ^ min 20 (max 4 (s.fld (R.RAE_RSIZE d) F.RAE_RSIZE_SIZE))

def State.resultFull (s : State) (d : Nat) : Bool :=
  decide (s.resultRing d ≤ ((s.rd (R.RAE_RWPTR d)).toNat + 4294967296 - (s.rd (R.RAE_RRPTR d)).toNat) % 4294967296)

/-- RAE_STAT.RFULL follows the ring; its rise sets the cause, and a solve goes on from the time room appears (R216). -/
def State.updRfull (s : State) (d : Fin 6) : State :=
  let full := s.resultFull d
  let was := s.flag (R.RAE_STAT d) F.RAE_STAT_RFULL
  let s := s.setB (R.RAE_STAT d) F.RAE_STAT_RFULL full
  if full && !was then s.raise (R.RAE_CAUSE d) F.RAE_CAUSE_RFULL
  else if was && !full then s.modC d (fun c => { c with solveAt := max c.solveAt s.now })
  else s

/-- The solve moves to its next domain. -/
def State.solveNext (s : State) (d : Fin 6) (r : RaeRun) (x : Nat) (rest : List Nat) : State :=
  let r' : RaeRun := if r.k + 1 < s.scopeSize d x then { r with k := r.k + 1 } else { r with sites := rest, k := 0 }
  s.modC d (fun c => { c with cmdRun := some r' })

/-- A solve writes one domain's record once the ring has room and the record before it has its response; a domain that is
not resident misses first (R216, notes/assumptions/28.md). -/
def execDomainSolve (d : Fin 6) (envs : List G6Env) (s : State) : Out :=
  match (s.c d).cmdRun with
  | none => .next s
  | some r =>
    match r.sites with
    | [] => .next s
    | x :: rest =>
      if 2 ≤ r.cmd.op ∨ (s.c d).resFly ≠ [] ∨ (s.c d).miss ≠ none then .next s
      else if s.resultFull d then .next (s.updRfull d)
      else
        let s := s.updRfull d
        let n := s.siteBase d x + r.k
        let t0 := (s.c d).solveAt
        let live := (s.dom d n).touched
        if live && !(s.c d).resident.contains n then
          .next ((s.domTouch d n t0 none).modC d (fun c => { c with solveAt := t0 + 64 * ns }))
        else
          let s := if live then s.domTouch d n t0 none else s
          let t := s.tmpl d (s.siteTmpl d x)
          let v := (s.dom d n).verdict t.sr t.sc (s.nodeLimit d)
          let t1 := t0 + (if live then 16 * ns + 6400 * v.nodes else 4 * ns)
          let s := (s.at_ t1).modC d (fun c => { c with solveAt := t1 })
          let a := s.rdPair (R.RAE_RBASE_LO d) (R.RAE_RBASE_HI d) + 128 * ((s.rd (R.RAE_RWPTR d)).toNat % s.resultRing d)
          let w := s.writeSlot (d.val * 128 + 0x49) a (leBytes 128 (s.resultRecord d x n v)) envs
          .next (((w.2.tally d 0x24 v.nodes).modC d (fun c => { c with resFly := [w.1] })).solveNext d r x rest)

/-- A result record's write receives its response (R217); the last one ends the solve. -/
def execResultWriteDone (d : Fin 6) (s : State) : Out :=
  match (s.c d).resFly with
  | [] => .next s
  | e :: rest =>
    let s := s.modC d (fun c => { c with resFly := rest })
    let s := (s.wr (R.RAE_RWPTR d) (s.rd (R.RAE_RWPTR d) + 1)).updRfull d
    let s := if e then s.raise (R.RAE_CAUSE d) F.RAE_CAUSE_RWERR else s
    match (s.c d).cmdRun with
    | none => .next s
    | some r => .next (if r.cmd.op < 2 ∧ r.sites = [] then s.solveEnd d else s)

end Sys2Proof.Machine
end

