-- ==== Sys2Proof/Machine/Tether.lean ====
section
/-! DEFINITION. Machine/Tether.lean: the ports of the tree, the frame grid, and messages and flits put on a port
(08_time_sync_scaleout.md R269 to R273, R277, R278, R283). -/
namespace Sys2Proof.Machine

/-- ROLE: 0 standalone, 1 manager, 2 worker; 3 acts as standalone (R277). -/
def State.role (s : State) : Nat := s.fld R.TSY_STAT F.TSY_STAT_ROLE

/-- The device is the acting manager. -/
def State.isMgr (s : State) : Bool := s.flag R.TSY_STAT F.TSY_STAT_MGR

def State.devId (s : State) : Nat := s.fld R.TSY_CTRL F.TSY_CTRL_DEVID

def State.tport (s : State) (p : Fin 12) : Tether := s.tsy.port[p]
def State.modPort (s : State) (p : Fin 12) (f : Tether → Tether) : State :=
  { s with tsy := { s.tsy with port := s.tsy.port.set p (f s.tsy.port[p]) } }
def State.xgang (s : State) (n : Fin 16) : XGang := s.tsy.gang[n]
def State.modGang (s : State) (n : Fin 16) (f : XGang → XGang) : State :=
  { s with tsy := { s.tsy with gang := s.tsy.gang.set n (f s.tsy.gang[n]) } }

/-- State of a port: 0 DOWN, 1 TRAIN, 2 CAL, 3 UP (R279). -/
def State.pstate (s : State) (p : Nat) : Nat := s.fld (R.TSY_PORT_STAT p) F.TSY_PORT_STAT_STATE
def State.setPstate (s : State) (p : Nat) (n : Nat) : State := s.setF (R.TSY_PORT_STAT p) F.TSY_PORT_STAT_STATE n

/-- An upstream port of a worker, primary or secondary (R278). -/
def State.upstream (s : State) (p : Nat) : Bool :=
  s.role == 2 && !s.isMgr && decide (p < 11) &&
    (p == s.fld R.TSY_CTRL F.TSY_CTRL_UPPRI ||
     (s.flag R.TSY_CTRL F.TSY_CTRL_SECEN && p == s.fld R.TSY_CTRL F.TSY_CTRL_UPSEC))

/-- The active upstream port. -/
def State.activeUp (s : State) (p : Nat) : Bool := s.upstream p && p == s.fld R.TSY_STAT F.TSY_STAT_UPACT

/-- A port of the tree: standalone devices have none, and port 11 never is one (R277, R278). -/
def State.treePort (s : State) (p : Nat) : Bool := (s.role == 1 || s.role == 2) && decide (p < 11)

/-- A downstream port. -/
def State.downstream (s : State) (p : Nat) : Bool := s.treePort p && !s.upstream p

/-! Times (R269, R273) -/

/-- The value nearest to x whose low w bits are those of v (within half the span of w bits). -/
def nearest (w x v : Nat) : Nat := (x + 2 ^ (w - 1)) - (x + 2 ^ (w - 1) + 2 ^ w - v % 2 ^ w) % 2 ^ w

/-- Launch of frame k: k times 340/7 ns. -/
def frameTime (k : Nat) : Nat := k * 2720000 / 7

/-- The number of the first frame that launches at or after a time. -/
def frameAfter (t : Nat) : Nat := (7 * t + 2719999) / 2720000

/-- The launch of the frame whose package time in ns is known. -/
def launchOf (pt : Nat) : Nat := frameTime (frameAfter (pt * ns))

/-- A time a port holds moves with the fine time: it lies as far from the new now as from the old one. -/
def moved (old new t : Nat) : Nat := ((t : Int) + new - old).toNat

/-- A port after a jump of the fine time: its frames start on the grid of the new time, and what it has sent and got keeps
its age (R269, R279). -/
def Tether.jump (x : Tether) (old new : Nat) : Tether :=
  { x with
    frame := frameAfter new, lastFrame := moved old new x.lastFrame, launched := moved old new x.launched
    unacked := x.unacked.map (fun f => { f with sent := moved old new f.sent })
    calSent := x.calSent.map (moved old new), calGot := x.calGot.map (moved old new) }

/-- The fine time is loaded, or stepped (R279, R289). -/
def State.jump (s : State) (t : Nat) : State :=
  { s with now := t, tsy := { s.tsy with port := s.tsy.port.map (fun x => x.jump s.now t) } }

/-! The payload of a frame (R270, R272) -/

/-- The 64 bits of a slot. -/
def TSlot.word (m : TSlot) : Nat := (m.typ % 16 + 16 * (m.dev % 64) + 1024 * (m.gid % 16) + 16384 * m.pay) % 2 ^ 64

/-- A slot from its 64 bits. -/
def slotOf (w : Nat) : TSlot := ⟨bitsOf w 0 4, bitsOf w 4 6, bitsOf w 10 4, bitsOf w 14 50⟩

/-- FNUM, KIND, slot i at bit 20 + 64i, flit j at bit 1,556 + 512j. -/
def framePayload (fnum kind : Nat) (slots : List (Nat × TSlot)) (flits : List Line512) : BitVec 5140 :=
  BitVec.ofNat 5140 (fnum % 65536 + 65536 * (kind % 4) +
    slots.foldl (fun acc m => acc + m.2.word * 2 ^ (20 + 64 * m.1)) 0 +
    (List.range flits.length).foldl (fun acc j => acc + (nth flits j 0#512).toNat * 2 ^ (1556 + 512 * j)) 0)

/-- A codeword: the payload, then the parity (R268; PRESUMED, notes/assumptions/96.md). -/
def codewordOf (pay : BitVec 5140) : BitVec 5440 := Config.rsParity pay ++ pay

/-- The 10-bit symbols of a codeword with an even or an odd number: those of one lane (R268). -/
def laneSymbols (pay : BitVec 5140) (odd : Nat) : BitVec 2720 :=
  let w := (codewordOf pay).toNat
  BitVec.ofNat 2720 ((List.range 272).foldl (fun acc i => acc + bitsOf w (10 * (2 * i + odd)) 10 * 2 ^ (10 * i)) 0)

/-- The frame of a payload on the two lanes of a port. -/
def frameOut (p : Nat) (pay : BitVec 5140) : Output := .frame p pay (laneSymbols pay 0) (laneSymbols pay 1)

def payFnum (w : BitVec 5140) : Nat := bitsOf w.toNat 0 16
def payKind (w : BitVec 5140) : Nat := bitsOf w.toNat 16 2
def paySlots (w : BitVec 5140) : List TSlot := (List.range 24).map (fun i => slotOf (bitsOf w.toNat (20 + 64 * i) 64))
def payFlits (w : BitVec 5140) : List Line512 :=
  (List.range 7).map (fun j => BitVec.ofNat 512 (bitsOf w.toNat (1556 + 512 * j) 512))

/-! Messages and flits that wait -/

/-- A message waits for the next frames of a port. -/
def State.toPort (s : State) (p : Fin 12) (m : TSlot) : State := s.modPort p (fun x => { x with outq := x.outq ++ [m] })

/-- A message to the upstream device. -/
def State.sendUp (s : State) (m : TSlot) : State :=
  forEach ((List.finRange 12).filter (fun p => s.activeUp p.val && s.pstate p.val == 3)) (fun p s => s.toPort p m) s

/-- A message to every downstream device. -/
def State.sendDown (s : State) (m : TSlot) : State :=
  forEach ((List.finRange 12).filter (fun p => s.downstream p.val && s.pstate p.val == 3)) (fun p s => s.toPort p m) s

/-- The LOST of a decision index and a time, or of a configuration failure: up, and from the manager down (R285). -/
def State.sendLost (s : State) (gid didx t : Nat) (cfg : Bool) : State :=
  let m : TSlot := ⟨7, s.devId, gid, didx % 65536 + 65536 * (t % 4294967296) + 2 ^ 48 * b2n cfg⟩
  if s.isMgr then s.sendDown m else s.sendUp m

/-! Data flits (R270, R271; 20 R624; 08 R294). What they hold the spec does not say (notes/assumptions/96.md). -/

/-- Flits with free contents wait for the next frames of a port. -/
def State.putFlits (s : State) (p : Fin 12) (n : Nat) : State :=
  (s.modPort p (fun x => { x with
    flitq := x.flitq ++ (List.range n).map (fun i => ⟨x.nextFlit + i, BitVec.ofNat 512 (Config.freeValue (s.freeCtr + i)), 0⟩)
    nextFlit := x.nextFlit + n })).usedN n

/-- The port by which a device of the tree is reached: its own, the way up, or one of the ports down, which the spec leaves
open for a device behind a relay. -/
def State.pathTo (s : State) (dev : Nat) : Option (Fin 12) :=
  let down := (List.finRange 12).filter (fun p => s.downstream p.val && s.pstate p.val == 3)
  match down.find? (fun p => (s.tport p).peer == some dev) with
  | some p => some p
  | none =>
    match (List.finRange 12).find? (fun p => s.activeUp p.val && (s.pstate p.val == 3 || s.tsy.hold)) with
    | some p => some p
    | none => if down.isEmpty then none else down[s.freeVal % down.length]?

/-! Members of a gang across devices (R281, R283) -/

/-- Device d is in the mask of the gang. -/
def State.xmask (s : State) (n d : Nat) : Bool := bitOf (s.rdPair (R.TSY_GANG_MLO n) (R.TSY_GANG_MHI n)) d

/-- The device's own bit of a gang's member mask. -/
def State.memberHere (s : State) (n : Nat) : Bool := s.xmask n s.devId

/-- A hop of a port, F + H, in units of 1/56,000 ns, for F is 340/7 ns. -/
def State.hopUnits (s : State) (p : Nat) : Nat := 2720000 + 7 * s.fld (R.TSY_PORT_HOP p) F.TSY_PORT_HOP_H

/-- The downstream port whose far end is device d, whatever its state. -/
def State.linkTo (s : State) (d : Nat) : Option (Fin 12) :=
  (List.finRange 12).find? (fun p => s.downstream p.val && (s.tport p).peer == some d)

/-- The ways up of the gang's members, as the manager knows them: its own is 0, those of direct neighbours one hop, those of
the devices that have announced themselves as they were then. -/
def State.memberWays (s : State) (n : Fin 16) : List Nat :=
  ((List.finRange 12).filter (fun p => s.downstream p.val && (match (s.tport p).peer with | none => false | some d => s.xmask n d))).map
    (fun p => s.hopUnits p.val) ++ (s.xgang n).via.map (fun v => v.2.2)

/-- Every member is at most one hop from the manager. -/
def State.allDirect (s : State) (n : Fin 16) : Bool :=
  (List.range 64).all (fun d => !(s.xmask n d || (s.xgang n).via.any (fun v => v.2.1 == d)) || d == s.devId || (s.linkTo d).isSome)

/-- The manager's checks of LG (R283). -/
def State.lgFits (s : State) (n : Fin 16) (lg : Nat) : Bool :=
  decide (28 * 56000 + 2 * (s.memberWays n).foldl max 0 ≤ lg * 56000) && decide (lg ≤ if s.allDirect n then 400 else 800)

/-- The manager's checks of a member's settings (R283): those of its own entry, and the bounds. -/
def State.gcfgOk (s : State) (n : Fin 16) (lg : Nat) (comb : Bool) : Bool :=
  lg == s.fld (R.TSY_GANG_CFG n) F.TSY_GANG_CFG_LG && comb == s.flag (R.TSY_GANG_CFG n) F.TSY_GANG_CFG_COMB &&
  s.flag (R.TSY_GANG_CFG n) F.TSY_GANG_CFG_EN && s.lgFits n lg

/-- Every source that a combination of the gang needs (R282, R286): 12 for the device itself, the port of every member below
it; a member in the manager's mask that no port is known for is 13, which nothing comes from. -/
def State.needed (s : State) (n : Fin 16) : List Nat :=
  (List.range 64).filterMap (fun d =>
    if !s.xmask n d then none
    else if d = s.devId then some 12
    else match (s.xgang n).via.find? (fun v => v.2.1 == d), s.linkTo d with
      | some v, _ => some v.1
      | none, some p => some p.val
      | none, none => if s.isMgr then some 13 else none) ++
  (if s.isMgr then [] else (s.xgang n).via.map (fun v => v.1))

/-- Nothing comes from below: the device's own result is all it has to send up. -/
def State.leaf (s : State) (n : Fin 16) : Bool := !s.isMgr && (s.needed n).all (fun p => p == 12)

/-- Two decision indices belong to one stretch of a run: they are less than 1,024 apart, modulo 2^16. -/
def nearIdx (d e : Nat) : Bool :=
  decide ((d + 65536 - e % 65536) % 65536 < 1024) || decide ((e + 65536 - d % 65536) % 65536 < 1024)

end Sys2Proof.Machine
end

