-- ==== Sys2Proof/Machine/Conditions.lean ====
section
/-! DEFINITION. Machine/Conditions.lean: conditions, gangs and decision latencies of the sequencers, and the end of a
run (02_vector_sequencer.md R40 to R48, R63 to R67, R85, R86). -/
namespace Sys2Proof.Machine

/-! Conditions (R40 to R44) -/

/-- The class of a COND code. -/
inductive CondClass where | state | ball | gang | reserved
deriving DecidableEq, Repr

def isBallCode (c : Nat) : Bool := c == 1 || decide (4 ≤ c ∧ c ≤ 0xB) || decide (0x10 ≤ c ∧ c ≤ 0x17)

def condClass (cond : Nat) : CondClass :=
  let c := cond % 128
  if c = 0 ∨ (0x20 ≤ c ∧ c ≤ 0x26) then .state
  else if isBallCode c then .ball
  else if 0x40 ≤ c ∧ isBallCode (c - 0x40) then .gang
  else .reserved

/-- Bit 7 inverts a condition's result. -/
def condInv (cond : Nat) : Bool := bitOf cond 7

def State.lc (s : State) (g n : Nat) : Nat := (s.rd (R.VSQ_LC g n)).toNat
def State.gr (s : State) (g n : Nat) : Nat := (s.rd (R.VSQ_G g n)).toNat
def State.escCount (s : State) (g : Nat) : Nat := s.fld (R.VSQ_STAT g) F.VSQ_STAT_ESCCNT

/-- Escape timer period (R68). -/
def State.escPeriod (s : State) (g : Nat) : Nat := max 1000 (s.rd (R.VSQ_ESC_PER g)).toNat * ns

/-- The escape count as of an issue time: with the expiries up to it, without those counted after it (R68, R69). After a
write of VSQ_ESC_PER in PAUSED, expiry n is at n times the new period from the run start (DESIGN CHOICE:
notes/assumptions/84.md). -/
def State.escAsOf (s : State) (g : Fin 24) (t : Nat) : Nat :=
  let n := (t - (s.g g).issue0) / s.escPeriod g
  if (s.g g).escN ≤ n then min 15 (s.escCount g + (n - (s.g g).escN)) else s.escCount g - ((s.g g).escN - n)

/-- A state condition, at the issue time of the word that carries it (R42). -/
def State.condState (s : State) (g : Fin 24) (cond : Nat) : Bool :=
  let c := cond % 128
  let v :=
    if c = 0 then true
    else if c < 0x24 then s.gr g (c - 0x20) == 0
    else if c = 0x24 then s.gr g 0 == s.gr g 1
    else if c = 0x25 then s.flag (R.VSQ_STAT g) F.VSQ_STAT_MFAIL
    else decide (0 < s.escAsOf g ((s.g g).nextBs - 40 * ns))
  v != condInv cond

/-- The source of a ball condition, before the invert bit: pins that fail in the deciding vector, user flags at its
ball end. -/
def State.condBall (s : State) (g : Nat) (cond fails uflags : Nat) : Bool :=
  let c := cond % 64
  let m := (s.rd (R.VSQ_CMASK g (c % 4))).toNat
  if c = 1 then fails != 0
  else if c < 8 then m &&& fails != 0
  else if c < 0x10 then m &&& fails == m
  else bitOf uflags (c - 0x10)

/-! Gangs (R63 to R67) -/

def State.gangEn (s : State) (g : Nat) : Bool := s.flag (R.VSQ_GANG g) F.VSQ_GANG_EN
def State.gid (s : State) (g : Nat) : Nat := s.fld (R.VSQ_GANG g) F.VSQ_GANG_GID
def State.span (s : State) (g : Nat) : Nat := s.fld (R.VSQ_GANG g) F.VSQ_GANG_SPAN
def State.comb (s : State) (g : Nat) : Bool := s.flag (R.VSQ_GANG g) F.VSQ_GANG_COMB

/-- The members of a group's gang on this device, itself among them. -/
def State.members (s : State) (g : Fin 24) : List (Fin 24) :=
  (List.finRange 24).filter (fun m => m = g || (s.gangEn m && s.gangEn g && s.gid m == s.gid g))

/-- Decision latency in units of 125 fs (01 R24). -/
def State.latency (s : State) (g : Nat) (gang : Bool) : Nat :=
  if !gang then 4 * ns
  else match s.span g with
    | 1 => 6 * ns
    | 3 => s.fld (R.TSY_GANG_CFG (s.gid g)) F.TSY_GANG_CFG_LG * ns
    | _ => 16 * ns

/-- Ball start of the next vector of a group. -/
def Group.nextVec (x : Group) : Nat :=
  match x.pipe with
  | [] => x.nextBs
  | e :: _ => e.bs + e.done * e.period

/-- The group issues or runs vectors. -/
def State.running (s : State) (g : Nat) : Bool := s.vstat g == 2 || s.vstat g == 3

/-- What is known of a decision: it waits for another member's vectors, a member did not reach it (R65), its
cross-device decision is missing (08 R285), or its result. -/
inductive Known where
  | wait | skew | lost
  | val (b : Bool)
deriving DecidableEq, Repr

/-- The local result of a gang's deciding vector that ends at a ball time. -/
def Group.localAt (x : Group) (be : Nat) : Option Bool :=
  (x.results.find? (fun r => r.1 == be && decide (r.2.1 < 65536))).map (·.2.2)

/-- A single group's own result. -/
def Group.ownAt (x : Group) (be : Nat) : Option Bool := (x.results.find? (fun r => r.1 == be)).map (·.2.2)

/-- Combine members' results (R43). -/
def combineBits (andMode : Bool) (l : List Bool) : Bool := if andMode then l.all id else l.any id

/-- The result of a decision whose deciding vector ends at `be`, with the invert bit applied (R43). -/
def State.known (s : State) (g : Fin 24) (cond be didx : Nat) : Known :=
  if condClass cond = .gang then
    let ms := s.members g
    if ms.any (fun m => m != g && s.running m && decide ((s.g m).nextVec < be)) then .wait
    else if ms.any (fun m => ((s.g m).localAt be).isNone) then .skew
    else if s.span g = 3 then
      match (s.g g).combined.find? (fun r => r.1 == didx) with
      | none => .lost
      | some r => .val (r.2 != condInv cond)
    else .val (combineBits (s.comb g) (ms.map (fun m => ((s.g m).localAt be).getD false)) != condInv cond)
  else
    match (s.g g).ownAt be with
    | none => .wait
    | some b => .val (b != condInv cond)

/-! The end of a run (R59, R85, R86, R124) -/

/-- VSQ_FAULT. -/
def State.setFault (s : State) (g code : Nat) (l : Loc) : State :=
  let s := s.wr (R.VSQ_FAULT g) (BitVec.ofNat 32 (code + 256 * b2n l.stream + 65536 * (l.idx % 65536)))
  s.raise (R.VSQ_CAUSE g) F.VSQ_CAUSE_FAULT

/-- Signatures at the end of a run (05 R186). -/
def State.judgeSig (s : State) (g : Nat) (done : Bool) : State :=
  let ok (m : Nat) : Bool := done && s.misr g m == BitVec.ofNat 64 (s.rdPair (R.FCU_MEXP_LO g m) (R.FCU_MEXP_HI g m))
  let s := s.setB (R.FCU_STAT g) F.FCU_STAT_SIGVALID done
  (s.setB (R.FCU_STAT g) F.FCU_STAT_SIGOK0 (ok 0)).setB (R.FCU_STAT g) F.FCU_STAT_SIGOK1 (ok 1)

/-- CH_GSTAT.FDLEVEL shows the data queue. -/
def State.showFd (s : State) (g : Fin 24) : State := s.setF (R.CH_GSTAT g) F.CH_GSTAT_FDLEVEL (s.g g).fdq.length

/-- The data queue is emptied (04 R151). -/
def State.emptyFd (s : State) (g : Fin 24) : State :=
  (s.modG g (fun x => { x with fdq := [], fdTaken := [] })).showFd g

/-- The end of a member is known to the other members after the gang's latency (R67); across devices as LOST, with the
decision index it was at (08 R285). -/
def State.tellGang (s : State) (g : Fin 24) (t didx : Nat) : State :=
  if s.gangEn g then
    let lat := s.latency g true
    let s := forEach ((s.members g).filter (fun m => m != g && s.active m)) (fun m s =>
      s.modG m (fun x => { x with lostAt := some (match x.lostAt with | none => t + lat | some u => min u (t + lat)) })) s
    if s.span g = 3 then s.sendLost (s.gid g) didx t false else s
  else s

/-- A run ends at ball time t in a state, with a fault code (0 none) at a place; the gang is not told. VSQ_STAT.STREAM keeps
what it showed at the last word (DESIGN CHOICE: notes/assumptions/85.md); vectors that were to be issued later raise
nothing. -/
def State.endQuiet (s : State) (g : Fin 24) (st code : Nat) (l : Loc) (t : Nat) : State :=
  let s := ((s.at_ t).idleAt g t).emptyFd g
  let s := s.setF (R.VSQ_STAT g) F.VSQ_STAT_STATE st
  let s := if st = 4 then s.raise (R.VSQ_CAUSE g) F.VSQ_CAUSE_DONE else s
  let s := if code = 0 then s else s.setFault g code l
  let s := s.judgeSig g (st == 4)
  s.modG g (fun x => { x with
    pipe := [], dec := none, stop := none, abortAt := none, escPt := none, resumeAt := none, resumed := false, lostAt := none,
    syncArr := none, syncRel := none, wrsv := x.wrsv.filter (fun u => decide (u ≤ t)),
    runs := x.runs.map (fun r => if r.no = x.run then { r with ended := some (t, x.vcnt, st, code) } else r) })

/-- A run ends, and the gang is told. -/
def State.endRun (s : State) (g : Fin 24) (st code : Nat) (l : Loc) (t : Nat) : State :=
  (s.endQuiet g st code l t).tellGang g t (s.g g).didx

/-- The boundary a stop in ball time takes effect at: the end of the vector at the balls (R84, R85). -/
def State.boundary (s : State) (g : Fin 24) : Nat := max (s.g g).lastEnd (min s.now (s.g g).nextVec)

/-- The word concerned of a stop in ball time: the one whose vector would start next. -/
def Group.nextLoc (x : Group) : Loc :=
  match x.pipe with
  | e :: _ => e.loc
  | [] => x.pc.getD ⟨false, 0xFFFF⟩

/-- A group stops in ball time with a fault; one that is ARMED has no vector to wait for. The gang is not told. -/
def State.stopQuiet (s : State) (g : Fin 24) (st code : Nat) : State :=
  if s.vstat g = 1 then
    (s.setF (R.VSQ_STAT g) F.VSQ_STAT_STATE st).setFault g code ⟨false, s.fld (R.VSQ_ENTRY g) F.VSQ_ENTRY_ADDR⟩
  else s.endQuiet g st code (s.g g).nextLoc (s.boundary g)

/-- A group stops in ball time with a fault, and the gang is told. -/
def State.stopNow (s : State) (g : Fin 24) (st code : Nat) : State :=
  (s.stopQuiet g st code).tellGang g (if s.vstat g = 1 then s.now else s.boundary g) (s.g g).didx

/-! Gangs across devices (08 R283, R285) -/

/-- The members of a gang across devices on this device. -/
def State.xmembers (s : State) (gid : Nat) : List (Fin 24) :=
  (List.finRange 24).filter (fun g => s.gangEn g && s.gid g == gid && s.span g == 3)

/-- A LOST takes effect on this device's members, which send none of their own: a failed configuration on those in ARMED
or RUN (R283), a loss on every one (R285). -/
def State.takeLost (s : State) (gid t : Nat) (cfg : Bool) : State :=
  forEach ((s.xmembers gid).filter (fun g => if cfg then s.vstat g.val == 1 || s.vstat g.val == 2 else s.active g.val)) (fun (g : Fin 24) s =>
    if cfg then s.stopQuiet g 6 0x0C
    else
      let u := t + s.latency g true
      s.modG g (fun x => { x with lostAt := some (match x.lostAt with | none => u | some v => min u v) })) s

end Sys2Proof.Machine
end

