-- ==== Sys2Proof/Machine/Issue.lean ====
section
/-! DEFINITION. Machine/Issue.lean: the issue of pattern words (02_vector_sequencer.md R36 to R76): fetch, the checks of a
word, its path effects, escape points. Words that follow an open-ended word (MATCH, SYNC in a gang, PAUSE) are issued
once that word's last vector is known; what their issue reads is then taken as of their issue time
(notes/assumptions/5.md). -/
namespace Sys2Proof.Machine

/-! Fetch -/

/-- A pattern word of instruction RAM. -/
def State.iramWord (s : State) (g : Fin 24) (a : Nat) : PatWord := Sparse.get (fun _ => 0) (s.g g).iram a

/-- Where the next word comes from, or why it cannot be issued. -/
inductive Fetched where
  | word (w : PatWord)
  | bad (code : Nat)
deriving DecidableEq, Repr

/-- R36, R74, R76: `e` is what the check bits make of the word's four granules. A stream word counts if it had arrived at
the issue time. A word outside the window is not fetched, also where the program reaches one below it by no target
(DESIGN CHOICE: notes/assumptions/86.md). -/
def State.fetch (s : State) (g : Fin 24) (e : List Ecc) (l : Loc) : Fetched :=
  if l.stream then
    match Sparse.find (s.g g).sWin l.idx with
    | none => .bad 0x06
    | some (t, w) =>
      if (s.g g).nextBs - 40 * ns < t then .bad 0x06
      else match w with
        | .err => .bad 0x07
        | .ok w => .word w
  else if (List.range 4).any (fun i => nth e i .clean == .ue || (s.g g).iramUe.contains (4 * l.idx + i)) then .bad 0x07
  else .word (s.iramWord g l.idx)

/-- The granules of instruction RAM found uncorrectable at an issue stay so until they are rewritten (R36). -/
def State.markIram (s : State) (g : Fin 24) (e : List Ecc) (l : Loc) : State :=
  if l.stream then s
  else s.modG g (fun x => { x with iramUe := (List.range 4).foldl (fun acc i =>
    if nth e i .clean = .ue then insertOnce (4 * l.idx + i) acc else acc) x.iramUe })

/-! Checks (R50, R51, R57, R72, R96) -/

/-- The classes of COND an opcode admits. -/
def condFits (opc cond : Nat) : Bool :=
  match opc with
  | 2 => condClass cond != .reserved
  | 3 => condClass cond == .state
  | 4 => condClass cond == .state
  | 8 => condClass cond == .ball || condClass cond == .gang
  | _ => cond == 0

/-- The ARG bits an opcode admits. -/
def argFits (opc arg : Nat) : Bool :=
  match opc with
  | 0 => arg == 0
  | 1 => bitsOf arg 16 8 == 0
  | 2 => bitsOf arg 16 8 == 0
  | 3 => bitsOf arg 16 8 == 0
  | 4 => arg == 0
  | 5 => bitsOf arg 16 5 == 0
  | 6 => bitsOf arg 16 5 == 0
  | 7 => arg != 0
  | 8 => arg != 0
  | 9 => true
  | 0xA => decide (arg < 2)
  | 0xB =>
    match bitsOf arg 20 4 with
    | 0 => bitsOf arg 16 4 == 0
    | 1 => bitsOf arg 5 15 == 0
    | 2 => bitsOf arg 16 4 == 0 && bitsOf arg 2 6 == 0
    | 3 => bitsOf arg 16 4 == 0
    | 4 => bitsOf arg 3 17 == 0
    | _ => false
  | 0xC => decide (bitsOf arg 19 5 < 0x14) && decide (bitsOf arg 16 3 < 5) &&
      (bitsOf arg 16 3 != 4 || decide (bitsOf arg 0 16 < 4))
  | 0xD =>
    match bitsOf arg 22 2 with
    | 0 => bitsOf arg 0 22 == 0
    | 1 => bitsOf arg 16 6 == 0
    | 2 => bitsOf arg 2 20 == 0
    | _ => false
  | 0xE => true
  | 0xF => decide (arg < 2)
  | _ => false

/-- The word's encoding is legal (FAULT_OPC otherwise). -/
def wordLegal (w : PatWord) : Bool :=
  condFits (wordOpc w) (wordCond w) && argFits (wordOpc w) (wordArg w) && wordCtl w % 8 == 0 && !apgIllegal w

/-- The word is a gang decision: a gang condition, or SYNC in a gang (R45). -/
def State.gangWord (s : State) (g : Nat) (w : PatWord) : Bool :=
  condClass (wordCond w) == .gang || (wordOpc w == 9 && s.gangEn g)

/-- The word makes a ball or gang decision (R48). -/
def State.deciding (s : State) (g : Nat) (w : PatWord) : Bool :=
  condClass (wordCond w) == .ball || s.gangWord g w

/-- FAULT_GCFG at issue (R44, 08 R284). -/
def State.gangBad (s : State) (g : Nat) (w : PatWord) : Bool :=
  s.gangWord g w &&
    (!s.gangEn g || s.span g == 0 || (s.span g == 3 && decide (s.period g (wordTset w) < 4 * ns)))

/-- The first check a word fails, 0 if none; `inWin` says that it starts in a decision window (R46, R48). The order of the
checks is the code's: the word's own fields, the gang rules of R44, the spacing of decisions, the window, the fork span of
a STREAM word, the timing set; a word with a ball or gang decision in a window gets FAULT_SPACE, a STREAM word there
FAULT_WIN (DESIGN CHOICE: notes/assumptions/9.md). -/
def State.wordFault (s : State) (g : Fin 24) (w : PatWord) (inWin : Bool) : Nat :=
  if !wordLegal w then 0x01
  else if s.gangBad g w then 0x0C
  else if s.deciding g w && (inWin || decide ((s.g g).nextBs < (s.g g).forkEnd)) then 0x03
  else if inWin && !(wordOpc w == 0 || wordOpc w == 7 || wordOpc w == 0xB || wordOpc w == 0xC) then 0x02
  else if wordOpc w = 0xD ∧ (s.g g).nextBs < (s.g g).forkEnd then 0x03
  else if s.tsetBad g w then 0x0D
  else 0

/-! Flow (R52 to R55, R72, R74) -/

/-- The word after a place; none past 0xFFFF (R53). -/
def Loc.next (l : Loc) : Option Loc :=
  if l.stream then some ⟨true, l.idx + 1⟩
  else if l.idx < 0xFFFF then some ⟨false, l.idx + 1⟩ else none

/-- The stream index a 16-bit target names, with h1 = H + 1 (R74); none: no index of the range carries those bits. -/
def streamTarget (h1 t : Nat) : Option Nat :=
  let lo : Int := (h1 : Int) - 4097
  let i : Int := lo + (((t : Int) - lo) % 65536)
  if i < lo + 8192 ∧ 0 ≤ i then some i.toNat else none

/-- Where a target leads, or the fault it gives. -/
def State.target (s : State) (g : Fin 24) (l : Loc) (t : Nat) : Loc ⊕ Nat :=
  if l.stream then
    match streamTarget (max (s.g g).sH1 (l.idx + 1)) t with
    | none => .inr 0x05
    | some i => if i + 8192 < (s.g g).sF then .inr 0x05 else .inl ⟨true, i⟩
  else .inl ⟨false, t⟩

def State.showDepth (s : State) (g : Fin 24) : State := s.setF (R.VSQ_STAT g) F.VSQ_STAT_DEPTH (s.g g).stack.length

def State.setPc (s : State) (g : Fin 24) (p : Option Loc) : State := s.modG g (fun x => { x with pc := p })

/-- Continue at a target, or fault. -/
def State.jumpTo (s : State) (g : Fin 24) (l : Loc) (t : Nat) : State ⊕ Nat :=
  match s.target g l t with
  | .inl p => .inl (s.setPc g (some p))
  | .inr c => .inr c

/-- CALL (R52). -/
def State.flowCall (s : State) (g : Fin 24) (l : Loc) (cond t : Nat) : State ⊕ Nat :=
  if s.condState g cond then
    if 16 ≤ (s.g g).stack.length then .inr 0x04
    else ((s.modG g (fun x => { x with stack := ⟨l.next, false⟩ :: x.stack })).showDepth g).jumpTo g l t
  else .inl (s.setPc g l.next)

/-- RET (R52, R53); the entry an escape pushed ends the escape. A RET that meets the end mark leaves it on the stack
(DESIGN CHOICE: notes/assumptions/85.md). -/
def State.flowRet (s : State) (g : Fin 24) (l : Loc) (cond : Nat) : State ⊕ Nat :=
  if s.condState g cond then
    match (s.g g).stack with
    | [] => .inr 0x04
    | r :: rest =>
      match r.loc with
      | none => .inr 0x10
      | some p => .inl (((s.modG g (fun x => { x with stack := rest, inEsc := x.inEsc && !r.esc })).showDepth g).setPc g (some p))
  else .inl (s.setPc g l.next)

/-- LBEG (R54). -/
def State.flowLbeg (s : State) (g : Fin 24) (l : Loc) (arg : Nat) : State ⊕ Nat :=
  let n := bitsOf arg 21 3
  let s := s.wr (R.VSQ_LC g n) (s.rd (R.VSQ_LR g n))
  if s.lc g n = 0 then
    match s.target g l (bitsOf arg 0 16) with
    | .inl p => .inl (s.setPc g p.next)
    | .inr c => .inr c
  else .inl (s.setPc g l.next)

/-- LEND (R54). -/
def State.flowLend (s : State) (g : Fin 24) (l : Loc) (arg : Nat) : State ⊕ Nat :=
  let n := bitsOf arg 21 3
  let s := s.wr (R.VSQ_LC g n) (BitVec.ofNat 32 (s.lc g n - 1))
  if s.lc g n = 0 then .inl (s.setPc g l.next) else s.jumpTo g l (bitsOf arg 0 16)

/-- The register a SETA code names. -/
def setaReg (g code : Nat) : Nat :=
  if code < 8 then R.VSQ_LR g code else if code < 16 then R.VSQ_LC g (code - 8) else R.VSQ_G g (code - 16)

/-- SETA's value (R55). -/
def setaValue (isLc : Bool) (op imm old gv : Nat) : Nat :=
  match op with
  | 0 => imm
  | 1 => imm * 65536 + old % 65536
  | 2 => if isLc then min (old + imm) 4294967295 else (old + imm) % 4294967296
  | 3 => if isLc then old - imm else (old + 4294967296 - imm) % 4294967296
  | _ => gv

def State.flowSeta (s : State) (g : Fin 24) (l : Loc) (arg : Nat) : State ⊕ Nat :=
  let r := bitsOf arg 19 5
  let imm := bitsOf arg 0 16
  let a := setaReg g r
  let v := setaValue (decide (8 ≤ r ∧ r < 16)) (bitsOf arg 16 3) imm (s.rd a).toNat (s.gr g (imm % 4))
  .inl ((s.wr a (BitVec.ofNat 32 v)).setPc g l.next)

/-- VSQ_SSTAT (R73). -/
def State.showStream (s : State) (g : Fin 24) : State :=
  let ahead := (s.g g).sF - (s.g g).sH1
  (s.setF (R.VSQ_SSTAT g) F.VSQ_SSTAT_AHEAD ahead).setB (R.VSQ_SSTAT g) F.VSQ_SSTAT_READY (ahead == 4096)

/-- Empty the window and start fetching at VSQ_SBASE (R72). -/
def State.streamArm (s : State) (g : Fin 24) : State :=
  (s.modG g (fun x => { x with sArmed := true, sF := 0, sH1 := 0, sWin := [] })).showStream g

/-- STREAM (R72). -/
def State.flowStream (s : State) (g : Fin 24) (l : Loc) (arg : Nat) : State ⊕ Nat :=
  match bitsOf arg 22 2 with
  | 0 => .inl ((s.modG g (fun x => { x with smode := true })).setPc g (some ⟨true, 0⟩))
  | 1 => .inl ((s.modG g (fun x => { x with smode := false })).setPc g (some ⟨false, bitsOf arg 0 16⟩))
  | _ => .inl (((s.wrPair (R.VSQ_SBASE_LO g) (R.VSQ_SBASE_HI g) (32 * s.gr g (arg % 4))).streamArm g).setPc g l.next)

/-- The path after a word: the machine with the next place, or a fault of the word (R52 to R55, R72, R74). -/
def State.flow (s : State) (g : Fin 24) (l : Loc) (w : PatWord) : State ⊕ Nat :=
  let arg := wordArg w
  match wordOpc w with
  | 1 => s.jumpTo g l (bitsOf arg 0 16)
  | 2 =>
    if condClass (wordCond w) = .state ∧ s.condState g (wordCond w) then s.jumpTo g l (bitsOf arg 0 16)
    else .inl (s.setPc g l.next)
  | 3 => s.flowCall g l (wordCond w) (bitsOf arg 0 16)
  | 4 => s.flowRet g l (wordCond w)
  | 5 => s.flowLbeg g l arg
  | 6 => s.flowLend g l arg
  | 0xC => s.flowSeta g l arg
  | 0xD => s.flowStream g l arg
  | _ => .inl (s.setPc g l.next)

/-! Escape points (R68 to R71) -/

/-- n further expiries. -/
def State.escAdd (s : State) (g : Fin 24) (n : Nat) : State :=
  let c := s.escCount g
  let s := s.setF (R.VSQ_STAT g) F.VSQ_STAT_ESCCNT (min 15 (c + n))
  let s := if 15 < c + n then s.raise (R.VSQ_CAUSE g) F.VSQ_CAUSE_ESCOVF else s
  s.modG g (fun x => { x with escN := x.escN + n })

/-- Every expiry at or before an issue time is counted. -/
def State.escCatch (s : State) (g : Fin 24) (t : Nat) : State :=
  s.escAdd g ((t - (s.g g).issue0) / s.escPeriod g - (s.g g).escN)

/-- The escape count at the issue time of a ball time (R68, R69). -/
def State.escBefore (s : State) (g : Fin 24) (boundary : Nat) : Nat := s.escAsOf g (boundary - 40 * ns)

/-- An escape point whose last vector ends at a ball time can be taken (R69, R70); `force` is FORCE of an ESC word. -/
def State.escTaken (s : State) (g : Fin 24) (force : Bool) (boundary : Nat) : Bool :=
  s.flag (R.VSQ_ESC_CTRL g) F.VSQ_ESC_CTRL_EN && (force || decide (0 < s.escBefore g boundary)) &&
  decide ((s.g g).stack.length < 16) && !(s.g g).inEsc && (s.g g).dec.isNone && decide ((s.g g).forkEnd ≤ boundary)

/-- The escape subroutine is inserted; it returns to `back`. The count goes down unless it was 0 at the issue time and
FORCE inserts it (R69). -/
def State.escInsert (s : State) (g : Fin 24) (back : Option Loc) (boundary : Nat) : State :=
  let s := if s.escBefore g boundary = 0 then s else s.setF (R.VSQ_STAT g) F.VSQ_STAT_ESCCNT (s.escCount g - 1)
  (s.modG g (fun x => { x with
    stack := ⟨back, true⟩ :: x.stack
    pc := some ⟨false, s.fld (R.VSQ_ESC_ADDR g) F.VSQ_ESC_ADDR_ADDR⟩
    inEsc := true
    escFirst := true })).showDepth g

/-- The escape point of the word issued last, if it is one. -/
def State.takeEscape (s : State) (g : Fin 24) : State :=
  match (s.g g).escPt with
  | none => s
  | some force =>
    let b := (s.g g).nextBs
    let s := (s.modG g (fun x => { x with escPt := none })).escCatch g (b - 40 * ns)
    if s.escTaken g force b then s.escInsert g (s.g g).pc b else s

/-- The escape point at the end of a MATCH or SYNC word, which ends at ball time t (R71): judged before that boundary's
own fork span begins (DEDUCED: notes/assumptions/87.md). -/
def State.escAtEnd (s : State) (g : Fin 24) (w : PatWord) (t : Nat) : State :=
  if ctlEsc w then
    let s := s.escCatch g (t - 40 * ns)
    if s.escTaken g false t then s.escInsert g (s.g g).pc t else s
  else s

/-- The first boundary of an entry's vectors at or after a time, counted in vectors, at least one. -/
def vectorsTo (bs period t : Nat) : Nat := max 1 ((t - bs + (period - 1)) / period)

/-- The repetition after which a PAUSE ends as far as it is known at a time, and whether an escape ends it (R58, R71):
escape points are judged 40 ns before the end of a repetition, and a RESUME names the first end at or after its time. -/
def State.pauseEnd (s : State) (g : Fin 24) (e : PatEntry) (t : Nat) : Option (Nat × Bool) :=
  let from_ := max 1 e.done
  let esc := if ctlEsc e.word then
      ((List.range ((t + 40 * ns - e.bs) / e.period + 1)).map (from_ + ·)).find? (fun k =>
        let b := e.bs + k * e.period
        decide (b ≤ t + 40 * ns) && (s.escCatch g (b - 40 * ns)).escTaken g false b)
    else none
  match esc, (s.g g).resumeAt.map (fun r => max e.done (vectorsTo e.bs e.period r)) with
  | some k, some n => some (if k < n then (k, true) else (n, false))
  | some k, none => some (k, true)
  | none, some n => some (n, false)
  | none, none => none

/-- A PAUSE whose last repetition is known becomes a word of that many vectors; what follows it is then known. -/
def State.closePause (s : State) (g : Fin 24) (t : Nat) : State :=
  match (s.g g).pipe with
  | [e] =>
    if e.reps = .untilResume ∧ 1 ≤ e.done then
      match s.pauseEnd g e t with
      | none => s
      | some (k, esc) =>
        let b := e.bs + k * e.period
        let s := s.modG g (fun x => { x with
          pipe := if k ≤ e.done then [] else [{ e with reps := .fixed k }]
          nextBs := b
          resumeAt := if esc then x.resumeAt else none
          resumed := !esc
          escPt := if !esc && ctlEsc e.word then some false else none })
        if esc then (s.escCatch g (b - 40 * ns)).escInsert g (some e.loc) b else s
    else s
  | _ => s

/-! Issue -/

/-- How many vectors a word produces (R50). -/
def State.repsOf (s : State) (g : Nat) (w : PatWord) : Reps :=
  match wordOpc w with
  | 7 => .fixed (wordArg w)
  | 8 => .untilMatch
  | 9 => if s.gangEn g then .untilSync else .fixed 1
  | 0xE => .untilResume
  | _ => .fixed 1

/-- No later word can be issued yet: a word whose length is open, a HALT, or a JC whose decision point has come. A word
behind a MATCH that tests MFAIL sees that MATCH's result, also where its issue time lies before the MATCH's end
(DESIGN CHOICE: notes/assumptions/88.md). -/
def State.issueBlocked (s : State) (g : Fin 24) : Bool :=
  let x := s.g g
  !s.running g || x.stop.isSome ||
  x.pipe.any (fun e => e.halt.isSome || (match e.reps with | .fixed _ => false | _ => true)) ||
  (match x.dec with | none => false | some d => decide (d.be + d.lat ≤ x.nextBs))

/-- A fault found at issue (R85): the group stops after the last vector issued before the word. -/
def State.issueFault (s : State) (g : Fin 24) (code : Nat) (l : Loc) : State :=
  s.modG g (fun x => { x with stop := some ⟨code, l⟩ })

/-- The JC decision that a word opens (R45). -/
def State.openDecision (s : State) (g : Fin 24) (l : Loc) (w : PatWord) (bs period : Nat) : Option Decision :=
  if wordOpc w = 2 ∧ condClass (wordCond w) ≠ .state then
    some ⟨wordCond w, l, bitsOf (wordArg w) 0 16, bs + period, s.latency g (condClass (wordCond w) == .gang), 0, none⟩
  else none

/-- The decision point, once a word of n vectors reaches the end of the latency (R45). -/
def Decision.reach (d : Decision) (bs period n : Nat) : Decision :=
  match d.dp with
  | some _ => d
  | none =>
    if d.be + d.lat ≤ bs + n * period then { d with dp := some (bs + vectorsTo bs period (d.be + d.lat) * period) } else d

/-- The entry of an issued word. -/
def State.entryOf (s : State) (g : Fin 24) (l : Loc) (w : PatWord) (wasEsc restore : Bool) : PatEntry :=
  { word := w, loc := l, bs := (s.g g).nextBs, period := s.period g (wordTset w), reps := s.repsOf g w, done := 0
    inEsc := wasEsc, save := (s.g g).escFirst && s.flag (R.APG_CTRL g) F.APG_CTRL_ESAVE
    restore := restore && s.flag (R.APG_CTRL g) F.APG_CTRL_ESAVE
    halt := if wordOpc w = 0xF then some (bitOf (wordArg w) 0) else none }

/-- How many vectors an issued word is known to produce. -/
def Reps.known (r : Reps) : Nat := match r with | .fixed n => n | _ => 0

/-- The JC decision that is open once a word has been issued (R45). -/
def State.decisionAfter (s : State) (g : Fin 24) (l : Loc) (w : PatWord) : Option Decision :=
  match s.openDecision g l w (s.g g).nextBs (s.period g (wordTset w)) with
  | some d => some d
  | none => (s.g g).dec.map (fun d => d.reach (s.g g).nextBs (s.period g (wordTset w)) (s.repsOf g w).known)

/-- The issue times of a word's vectors after the first that come before its first ball start. -/
def earlyIssues (bs period n : Nat) : List Nat :=
  ((List.range ((40 * ns + period - 1) / period)).filter (fun j => decide (1 ≤ j ∧ j < n))).map (fun j => bs + j * period - 40 * ns)

/-- The group with a word put behind those already issued. A word of the escape subroutine, its RET among them, is no
escape point (R70). A STREAM ARM leaves H at -1, also where it is a stream word itself (R73). -/
def State.pushed (s : State) (g : Fin 24) (l : Loc) (w : PatWord) (wasEsc restore : Bool) (x : Group) : Group :=
  { x with
    pipe := x.pipe ++ [s.entryOf g l w wasEsc restore]
    nextBs := x.nextBs + (s.repsOf g w).known * s.period g (wordTset w)
    dec := s.decisionAfter g l w
    escFirst := false
    escPt := if (ctlEsc w || wordOpc w == 0xA) && !wasEsc then some (wordOpc w == 0xA && bitOf (wordArg w) 0) else none
    sH1 := if l.stream && !(wordOpc w == 0xD && bitsOf (wordArg w) 22 2 == 2) then max x.sH1 (l.idx + 1) else x.sH1
    wrsv := if s.waveReserved g w then
        x.wrsv ++ earlyIssues x.nextBs (s.period g (wordTset w)) (s.repsOf g w).known
      else x.wrsv }

/-- The machine with a word put behind those already issued, and VSQ_STAT.STREAM and VSQ_SSTAT as they then are. -/
def State.pushShown (s : State) (g : Fin 24) (l : Loc) (w : PatWord) (wasEsc restore : Bool) : State :=
  ((s.modG g (s.pushed g l w wasEsc restore)).setB (R.VSQ_STAT g) F.VSQ_STAT_STREAM l.stream).showStream g

/-- A checked word is put behind the words already issued; its first vector is issued now, and a reserved wave code is
found then (04 R130, R131). -/
def State.pushWord (s : State) (g : Fin 24) (l : Loc) (w : PatWord) (wasEsc restore : Bool) : State :=
  if (s.pushShown g l w wasEsc restore).waveReserved g w then
    (s.pushShown g l w wasEsc restore).raise (R.CH_CAUSE g) F.CH_CAUSE_WRSV
  else s.pushShown g l w wasEsc restore

/-- Issue a fetched word. -/
def State.issueWord (s : State) (g : Fin 24) (l : Loc) (w : PatWord) : State :=
  let code := s.wordFault g w (s.g g).dec.isSome
  if code ≠ 0 then s.issueFault g code l
  else
    let wasEsc := (s.g g).inEsc
    match s.flow g l w with
    | .inr c => s.issueFault g c l
    | .inl s' =>
      let restore := wasEsc && !(s'.g g).inEsc
      s'.pushWord g l w wasEsc restore

/-- The step of an issue command: the next word of the program, if it is one the command stands for, is issued; if it
cannot be fetched, the fault is found. A word the command does not stand for leaves the machine unchanged. -/
def State.issue (s : State) (g : Fin 24) (e : List Ecc) (mine : PatWord → Bool) : State :=
  let t := s.closePause g s.now
  if t.issueBlocked g then s
  else
    let t := t.takeEscape g
    let t := t.at_ ((t.g g).nextBs - 40 * ns)
    match (t.g g).pc with
    | none => t.issueFault g 0x10 ⟨false, 0xFFFF⟩
    | some l =>
      match t.fetch g e l with
      | .bad c => (t.markIram g e l).issueFault g c l
      | .word w => if mine w then t.issueWord g l w else s

/-- The opcode is n. -/
def opIs (n : Nat) (w : PatWord) : Bool := wordOpc w == n

/-- A STREAM word with operation n. -/
def streamIs (n : Nat) (w : PatWord) : Bool := wordOpc w == 0xD && bitsOf (wordArg w) 22 2 == n

/-- NEXT; a reserved opcode is found by this command too (R50). -/
def execPwNext (g : Fin 24) (e : List Ecc) (s : State) : Out :=
  .next (s.issue g e (fun w => opIs 0 w || decide (0x10 ≤ wordOpc w)))
def execPwJmp (g : Fin 24) (e : List Ecc) (s : State) : Out := .next (s.issue g e (opIs 1))
def execPwJc (g : Fin 24) (e : List Ecc) (s : State) : Out := .next (s.issue g e (opIs 2))
def execPwCall (g : Fin 24) (e : List Ecc) (s : State) : Out := .next (s.issue g e (opIs 3))
def execPwRet (g : Fin 24) (e : List Ecc) (s : State) : Out := .next (s.issue g e (opIs 4))
def execPwLbeg (g : Fin 24) (e : List Ecc) (s : State) : Out := .next (s.issue g e (opIs 5))
def execPwLend (g : Fin 24) (e : List Ecc) (s : State) : Out := .next (s.issue g e (opIs 6))
def execPwRpt (g : Fin 24) (e : List Ecc) (s : State) : Out := .next (s.issue g e (opIs 7))
def execPwMatch (g : Fin 24) (e : List Ecc) (s : State) : Out := .next (s.issue g e (opIs 8))
def execPwSync (g : Fin 24) (e : List Ecc) (s : State) : Out := .next (s.issue g e (opIs 9))
def execPwEsc (g : Fin 24) (e : List Ecc) (s : State) : Out := .next (s.issue g e (opIs 0xA))
def execPwTrig (g : Fin 24) (e : List Ecc) (s : State) : Out := .next (s.issue g e (opIs 0xB))
def execPwSeta (g : Fin 24) (e : List Ecc) (s : State) : Out := .next (s.issue g e (opIs 0xC))
def execPwStreamEnter (g : Fin 24) (e : List Ecc) (s : State) : Out := .next (s.issue g e (streamIs 0))
def execPwStreamExit (g : Fin 24) (e : List Ecc) (s : State) : Out := .next (s.issue g e (streamIs 1))
/-- ARM; the reserved operation is found by this command too (R72). -/
def execPwStreamArm (g : Fin 24) (e : List Ecc) (s : State) : Out :=
  .next (s.issue g e (fun w => streamIs 2 w || streamIs 3 w))
def execPwPause (g : Fin 24) (e : List Ecc) (s : State) : Out := .next (s.issue g e (opIs 0xE))
def execPwHalt (g : Fin 24) (e : List Ecc) (s : State) : Out := .next (s.issue g e (opIs 0xF))

end Sys2Proof.Machine
end

