-- ==== Sys2Proof/Machine/Sequencer.lean ====
section
/-! DEFINITION. Machine/Sequencer.lean: vectors at the balls, decisions, and the run control of a sequencer
(02_vector_sequencer.md). VECTOR_START is the group's next vector boundary: the next vector starts there, or the run
ends there (notes/assumptions/6.md). -/
namespace Sys2Proof.Machine

/-! One vector -/

/-- The beat source of vector v - E (03 R110, R111). -/
def State.delayed (s : State) (g : Fin 24) (own : BeatSrc) : Option BeatSrc :=
  match s.fld (R.APG_CTRL g) F.APG_CTRL_EDLY with
  | 0 => some own
  | n + 1 => (s.g g).expect[n]?

/-- The MATCH repetition r of an entry (from 1) and its decision index. -/
def PatEntry.repEnd (e : PatEntry) (r : Nat) : Nat := e.bs + r * e.period

/-- Decision index of the deciding vector that ends at a ball time. -/
def Group.didxAt (x : Group) (be : Nat) : Nat := ((x.results.find? (fun r => r.1 == be)).map (·.2.1)).getD 65536

/-- What is known of repetition r of a MATCH. -/
def State.matchKnown (s : State) (g : Fin 24) (e : PatEntry) (r : Nat) : Known :=
  s.known g (wordCond e.word) (e.repEnd r) ((s.g g).didxAt (e.repEnd r))

/-- Overrun vectors of a MATCH (R60). -/
def State.overruns (s : State) (g : Nat) (e : PatEntry) : Nat :=
  let l := s.latency g (condClass (wordCond e.word) == .gang)
  (l + (e.period - 1)) / e.period

/-- Whether the next vector of the entry is an overrun vector; unknown where the deciding repetition of a gang across
devices is (its mark is then free: notes/assumptions/2.md). -/
def State.overrunNow (s : State) (g : Fin 24) (e : PatEntry) : Option Bool :=
  if wordOpc e.word ≠ 8 then some false
  else if wordArg e.word ≤ e.done then some true
  else
    let v := s.overruns g e
    let recent := (List.range v).filterMap (fun i => if i < e.done then some (s.matchKnown g e (e.done - i)) else none)
    if recent.contains (.val true) then some true else if recent.contains .lost then none else some false

/-- The local result of a deciding vector is stored (R43, R65), but for an overrun vector (R61); decision indices count
gang decisions (08 R281). -/
def State.storeResult (s : State) (g : Fin 24) (e : PatEntry) (isOver : Bool) (be : Nat) (fails uflags : Nat) : State :=
  let opc := wordOpc e.word
  let cls := condClass (wordCond e.word)
  if (opc = 2 ∧ e.done = 0 ∨ opc = 8 ∧ !isOver) ∧ cls ≠ .state then
    let v := s.condBall g (wordCond e.word) fails uflags
    s.modG g (fun x =>
      { x with results := (be, if cls = .gang then x.didx else 65536, v) :: x.results
               didx := if cls = .gang then (x.didx + 1) % 65536 else x.didx
               dec := x.dec.map (fun d => if d.be = be then { d with didx := if cls = .gang then x.didx else 65536 } else d) })
  else s

/-- A SYNC member arrives with its first SYNC vector (R66). -/
def State.storeArrival (s : State) (g : Fin 24) (e : PatEntry) (be : Nat) : State :=
  if e.reps = .untilSync ∧ e.done = 0 then s.modG g (fun x => { x with syncArr := some be, didx := (x.didx + 1) % 65536 }) else s

/-- A TRIG fires 4 ns after its vector's ball end (R57). -/
def State.fireTrig (s : State) (g : Fin 24) (w : PatWord) (be : Nat) : State :=
  if wordOpc w ≠ 0xB then s
  else
    let p := bitsOf (wordArg w) 0 20
    let due (k q : Nat) : State := s.modC (dieOf g) (fun c => { c with trigs := c.trigs ++ [(be + 4 * ns, k, q)] })
    match bitsOf (wordArg w) 20 4 with
    | 0 => due 8 (dueParam g p)
    | 1 => due 1 p
    | 2 => due 2 p
    | 3 => due 9 (dueParam g p)
    | _ => due 12 (dueParam g p)

/-- STATE, PCODE and the cause at the start of a vector (R58, R80); a PAUSE that begins has not been resumed. -/
def State.showPause (s : State) (g : Fin 24) (e : PatEntry) : State :=
  if wordOpc e.word = 0xE then
    if e.done = 0 then
      (((s.modG g (fun x => { x with resumed := false })).setF (R.VSQ_STAT g) F.VSQ_STAT_STATE 3).setF (R.VSQ_PCODE g) F.VSQ_PCODE_CODE (wordArg e.word)).raise
        (R.VSQ_CAUSE g) F.VSQ_CAUSE_PAUSED
    else s
  else s.setF (R.VSQ_STAT g) F.VSQ_STAT_STATE 2

/-- The pins whose fail bit counts for conditions (R41). -/
def State.condFails (s : State) (g : Fin 24) (bs : Nat) (st : List Strobe) : Nat :=
  pinMask ((List.range 32).filter (fun p => st.any (fun x => x.fail && x.pin.val == p) && !s.pinMasked g bs p))

/-- A reserved wave code is found at the issue of every vector (04 R130, R131): of a word of known length the vector whose
issue time comes next is noted; a repetition of an open-ended word is found at its start (DESIGN CHOICE:
notes/assumptions/89.md). -/
def State.wrsvNext (s : State) (g : Fin 24) (e : PatEntry) : State :=
  if s.waveReserved g e.word then
    match e.reps with
    | .fixed n =>
      let j := e.done + (40 * ns + e.period - 1) / e.period
      if j < n then s.modG g (fun x => { x with wrsv := x.wrsv ++ [e.bs + j * e.period - 40 * ns] }) else s
    | _ => if e.done = 0 then s else s.raise (R.CH_CAUSE g) F.CH_CAUSE_WRSV
  else s

/-- The front entry after its vector: gone once its vectors are done, but for a HALT, which ends the run. -/
def PatEntry.advance (e : PatEntry) (rest : List PatEntry) : List PatEntry :=
  let e' := { e with done := e.done + 1 }
  match e.reps with
  | .fixed n => if n ≤ e.done + 1 ∧ e.halt = none then rest else e' :: rest
  | _ => e' :: rest

/-- One vector of the front entry (R21, R37, R77; 03 R91 to R116; 04 R135; 05). -/
def State.runVector (s : State) (g : Fin 24) (e : PatEntry) (rest : List PatEntry) (cm : List CmpEdge)
    (upsets : List Nat) : State :=
  let bs := e.bs + e.done * e.period
  let be := bs + e.period
  let s := (s.at_ bs).deliver bs
  let s := if e.save ∧ e.done = 0 then s.modG g (fun x => { x with apgSave := some (s.apgCapture g) }) else s
  let s := s.showPause g e
  let fd := s.fdWord g
  let s := fd.2.showFd g
  let own := s.beatSrc g e.word (s.g g).vcnt
  let back := s.delayed g own
  let v : VecData := ⟨own, back, fd.1⟩
  let s := s.driveVector g e.word bs e.period v
  let seen := (s.g g).cmIn ++ cm
  let st := s.strobes g e.word bs e.period v seen
  let s := if st.any Strobe.invalid then s.raise (R.CH_CAUSE g) F.CH_CAUSE_CMBOTH else s
  let s := s.wrsvNext g e
  let ov := s.overrunNow g e
  let isOver := ov.getD (s.freeVal % 2 == 1)
  let s := if ov.isNone then s.used else s
  let s := (s.storeResult g e (ov == some true) be (s.condFails g bs st) ((s.g g).ufAt be).toNat).storeArrival g e be
  let src := if s.flag (R.FCU_CTRL g) F.FCU_CTRL_ASRC then back else some own
  let s := s.fcuVector g
    { word := e.word, loc := e.loc, bs := bs, be := be, vcnt := (s.g g).vcnt, inEsc := e.inEsc, overrun := isOver
      src := src, strobes := st, fails := [], first := false } upsets
  let s := s.apgAdvance g e.word
  let s := if e.restore then s.apgRestore g else s
  let s := s.modG g (fun x => { x with
    cmIn := cmpKeep seen (be - 20000)
    expect := (own :: x.expect).take 64
    vcnt := (x.vcnt + 1) % 2 ^ 56
    lastEnd := be
    pipe := e.advance rest })
  s.fireTrig g e.word be

/-! Boundaries -/

/-- Another running member of the gang is behind a ball time. -/
def State.gangBehind (s : State) (g : Fin 24) (t : Nat) : Bool :=
  (s.members g).any (fun m => m != g && s.running m && decide ((s.g m).nextVec < t))

/-- The release time of a SYNC, once every member has arrived (R66); across devices it is delivered (08 R286). -/
def State.syncTime (s : State) (g : Fin 24) : Option Nat :=
  match (s.g g).syncRel with
  | some t => some t
  | none =>
    if s.span g = 3 then (s.tsy.gang[s.gid g]?).bind (fun n => n.release.bind (fun r =>
      if r.1 = ((s.g g).didx + 65535) % 65536 then some r.2 else none))
    else if (s.members g).all (fun m => (s.g m).syncArr.isSome) then
      some ((s.members g).foldl (fun acc m => max acc ((s.g m).syncArr.getD 0)) 0 + s.latency g true)
    else none

/-- What a vector boundary holds for the front entry of a group. -/
inductive Boundary where
  /-- A decision, a release or a loss comes first, by its own command, or another member has to catch up. -/
  | wait
  /-- The run ends: STATE, fault code. -/
  | stop (st code : Nat)
  /-- A PAUSE is over, or an escape is taken from it. -/
  | paused
  /-- The next vector starts. -/
  | vector
deriving DecidableEq, Repr

/-- A MATCH at a boundary (R60): repetition done - V is judged; its end is MATCH_DECISION's. -/
def State.matchBoundary (s : State) (g : Fin 24) (e : PatEntry) (t : Nat) : Boundary :=
  let r := e.done - s.overruns g e
  if condClass (wordCond e.word) = .gang ∧ s.gangBehind g t then .wait
  else if r = 0 then .vector
  else if r = wordArg e.word then .wait
  else match s.matchKnown g e r with
    | .val false => .vector
    | _ => .wait

/-- A SYNC at a boundary (R66). -/
def State.syncBoundary (s : State) (g : Fin 24) (e : PatEntry) (t : Nat) : Boundary :=
  if e.done = 0 then .vector
  else if (match s.syncTime g with | none => false | some r => decide (r ≤ t)) then .wait
  else if wordArg e.word ≠ 0 ∧ wordArg e.word ≤ e.done then .stop 6 0x0B
  else if (s.g g).syncRel.isSome then .vector
  else if (s.members g).any (fun m => m != g && s.running m && (s.g m).syncArr.isNone &&
      decide ((s.g m).nextVec + s.latency g true < t)) then .wait
  else .vector

/-- A PAUSE at a boundary (R58, R71). -/
def State.pauseBoundary (s : State) (g : Fin 24) (e : PatEntry) (t : Nat) : Boundary :=
  if e.done = 0 then .vector
  else match s.pauseEnd g e t with
    | none => .vector
    | some (k, _) => if k ≤ e.done then .paused else .vector

/-- The boundary at which the front entry's next vector would start. -/
def State.boundaryOf (s : State) (g : Fin 24) (e : PatEntry) : Boundary :=
  let t := e.bs + e.done * e.period
  if (match (s.g g).lostAt with | none => false | some l => decide (l ≤ t)) then .wait
  else if (match (s.g g).dec with | none => false | some d => decide (d.dp = some t)) then .wait
  else match e.reps with
    | .fixed n =>
      if n ≤ e.done then (match e.halt with | some true => .stop 5 0 | _ => .stop 4 0) else .vector
    | .untilMatch => s.matchBoundary g e t
    | .untilSync => s.syncBoundary g e t
    | .untilResume => s.pauseBoundary g e t

/-- An accepted ABORT stops the group at a boundary; a fault of that boundary comes first, a HALT does not (R84, R88). -/
def State.abortOver (s : State) (g : Fin 24) (t : Nat) (b : Boundary) : Boundary :=
  match (s.g g).abortAt, b with
  | none, _ => b
  | some _, .wait => .wait
  | some _, .stop 6 code => .stop 6 code
  | some a, _ => if a ≤ t then .stop 5 0 else b

/-- The user flags change as the fabric drives them; those of a fenced meadow stay 0 (09 R335, 11 R391, R399). -/
def State.setUf (s : State) (g : Fin 24) (l : List (Nat × BitVec 8)) : State :=
  if s.fdFenced g then s else s.modG g (fun x => l.foldl (fun x c => x.ufChange s.now c) x)

/-- VECTOR_START: the group's next boundary. `cm` brings the transitions of the comparator lanes up to the last sample of
the vector that starts, up to 2.5 ns past its end; `uf` the changes of the user flags up to its end. -/
def execVectorStart (g : Fin 24) (cm : List CmpEdge) (uf : List (Nat × BitVec 8)) (upsets : List Nat) (s : State) : Out :=
  if !s.running g then .next s
  else
    match (s.g g).pipe with
    | [] =>
      match (s.g g).stop, (s.g g).abortAt with
      | some f, _ => .next (s.endRun g 6 f.code f.loc (s.g g).nextBs)
      | none, some a => if (s.g g).dec.isSome then .next s else .next (s.endRun g 5 0 (s.g g).nextLoc a)
      | none, none => .next s
    | e :: rest =>
      let t := e.bs + e.done * e.period
      match s.abortOver g t (s.boundaryOf g e) with
      | .wait => .next s
      | .stop st code => .next (s.endRun g st code e.loc t)
      | .paused => .next ((s.at_ t).closePause g t)
      | .vector => .next ((s.tally (g.val / 4) (8 + g.val % 4) 1).setUf g uf |>.runVector g e rest cm upsets)

/-! Decisions -/

/-- Every local member faults with GANG_SKEW at its next boundary (R65). -/
def State.skewAll (s : State) (g : Fin 24) : State :=
  forEach ((s.members g).filter (fun m => s.running m.val)) (fun m s => s.stopNow m 6 0x0A) s

/-- The cross-device decision of an index is missing: the member aborts with GANG_LOST and sends LOST (08 R285). -/
def State.decisionLost (s : State) (g : Fin 24) (l : Loc) (t didx : Nat) : State :=
  ((s.endQuiet g 5 0x09 l t).tellGang g t didx).raise R.TSY_CAUSE F.TSY_CAUSE_GLOST

/-- The boundary a group has reached: nothing but a decision is left to do before it. -/
def State.reached (s : State) (g : Fin 24) (t : Nat) : Bool := (s.g g).nextVec == t

/-- JC_DECISION: at the decision point (R47 to R49). -/
def execJcDecision (g : Fin 24) (s : State) : Out :=
  match (s.g g).dec with
  | none => .next s
  | some d =>
    match d.dp with
    | none => .next s
    | some t =>
      if !s.running g || !s.reached g t then .next s
      else
        match s.known g d.cond d.be d.didx with
        | .wait => .next s
        | .skew => .next (s.skewAll g)
        | .lost => .next (s.decisionLost g d.loc t d.didx)
        | .val taken =>
          let s := (s.at_ t).modG g (fun x => { x with dec := none, forkEnd := t + 40 * ns })
          if taken then
            let s := s.modG g (fun x => { x with
              pipe := [], nextBs := t, escPt := none, wrsv := x.wrsv.filter (fun u => decide (u + 40 * ns < t)) })
            match s.jumpTo g d.loc d.arg with
            | .inl s' => .next s'
            | .inr c => .next (s.issueFault g c d.loc)
          else .next s

/-- The end of a MATCH (R60, R62, R71). -/
def State.endMatch (s : State) (g : Fin 24) (e : PatEntry) (rest : List PatEntry) (k : Nat) (ok : Bool) (t : Nat) : State :=
  let s := ((s.at_ t).modG g (fun x => { x with pipe := rest, nextBs := t, escPt := none })).escAtEnd g e.word t
  let s := s.modG g (fun x => { x with forkEnd := t + 40 * ns })
  let s := (s.setF (R.VSQ_MCNT g) F.VSQ_MCNT_K k).setB (R.VSQ_STAT g) F.VSQ_STAT_MFAIL (!ok)
  if ok then s else s.raise (R.VSQ_CAUSE g) F.VSQ_CAUSE_MFAIL

/-- MATCH_DECISION: at the decision point of repetition done - V (R60). -/
def execMatchDecision (g : Fin 24) (s : State) : Out :=
  match (s.g g).pipe with
  | [] => .next s
  | e :: rest =>
    let t := e.bs + e.done * e.period
    let r := e.done - s.overruns g e
    if !s.running g || e.reps != .untilMatch || r == 0 then .next s
    else
      match s.matchKnown g e r with
      | .wait => .next s
      | .skew => .next (s.skewAll g)
      | .lost => .next (s.decisionLost g e.loc t ((s.g g).didxAt (e.repEnd r)))
      | .val ok => if ok || r == wordArg e.word then .next (s.endMatch g e rest r ok t) else .next s

/-- SYNC_RELEASE: the first boundary at or after the release time (R66). The arrivals that made the release are used up:
members still in their SYNC keep the release time. -/
def execSyncRelease (g : Fin 24) (s : State) : Out :=
  match (s.g g).pipe with
  | [] => .next s
  | e :: rest =>
    let t := e.bs + e.done * e.period
    match s.syncTime g with
    | none => .next s
    | some r =>
      if !s.running g || e.reps != .untilSync || e.done == 0 || decide (t < r) then .next s
      else
        let s := forEach (s.members g) (fun m s =>
          s.modG m (fun x => if x.syncArr.isSome then { x with syncArr := none, syncRel := some r } else x)) s
        let s := ((s.at_ t).modG g (fun x => { x with
          pipe := rest, nextBs := t, syncArr := none, syncRel := none, escPt := none })).escAtEnd g e.word t
        .next (s.modG g (fun x => { x with forkEnd := t + 40 * ns }))

/-- GANG_LOST: the loss of a member is known (R67). The others have been told already. -/
def execGangLost (g : Fin 24) (s : State) : Out :=
  match (s.g g).lostAt with
  | none => .next s
  | some l =>
    if s.vstat g = 1 then .next ((s.at_ l).stopQuiet g 5 0x09)
    else if !s.running g || decide ((s.g g).nextVec < l) then .next s
    else
      let t := (s.g g).nextVec
      match (s.g g).pipe, (s.g g).stop with
      | [], some f => .next (s.endRun g 6 f.code f.loc t)
      | _, _ => .next (s.endQuiet g 5 0x09 (s.g g).nextLoc t)

/-- ESCAPE_EXPIRY: the next expiry of the escape timer (R68). -/
def execEscapeExpiry (g : Fin 24) (s : State) : Out :=
  if s.running g then
    .next ((s.at_ ((s.g g).issue0 + ((s.g g).escN + 1) * s.escPeriod g)).escAdd g 1)
  else .next s

/-! Stream fetch (R73, R76) -/

/-- The source of a group's stream fetches (12 R415). -/
def vsqSrc (g : Fin 24) : Nat := (g.val / 4) * 128 + 0x40 + g.val % 4

/-- STREAM_FETCH: the word at index F arrives. A fetch that ends with another error than ERR_DATA leaves the word not
arrived (DESIGN CHOICE: notes/assumptions/86.md). -/
def execStreamFetch (g : Fin 24) (env : G6Env) (s : State) : Out :=
  let x := s.g g
  if !x.sArmed || decide (x.sH1 + 4096 ≤ x.sF) then .next s
  else
    let a := s.rdPair (R.VSQ_SBASE_LO g) (R.VSQ_SBASE_HI g) + 32 * x.sF
    let r := s.g6ReadBytes (vsqSrc g) a 32 [env] 1
    let put (w : StreamWord) : State :=
      (r.2.2.modG g (fun x => { x with
        sF := x.sF + 1
        sWin := Sparse.keep (fun k => decide (x.sF + 1 ≤ k + 8192)) x.sWin ++ [(x.sF, r.2.2.now, w)] })).showStream g
    match r.1 with
    | .ok => .next ((put (.ok (BitVec.ofNat 256 (leOf r.2.1)))).tally (g.val / 4) (0x28 + g.val % 4) 1)
    | .errData => .next (put .err)
    | _ => .next r.2.2

/-! Run control (R81 to R89) -/

/-- A pin takes fabric data from a fenced meadow (R83). -/
def State.srcBad (s : State) (g : Fin 24) : Bool :=
  s.fdFenced g && (List.range 32).any (fun p => s.flag (R.CH_PIN_CFG g p) F.CH_PIN_CFG_SRC)

/-- The group is held (17 R551, R559). -/
def State.groupHeld (s : State) (g : Nat) : Bool :=
  [0, 4, 8, 0x14].any (fun b => s.bistHeld (g / 4) (b + g % 4))

/-- The gang's settings disagree, or its span is broken or reserved (R63). -/
def State.gangSplit (s : State) (g : Fin 24) : Bool :=
  s.gangEn g &&
    ((s.members g).any (fun m => s.comb m != s.comb g || s.span m != s.span g) || s.span g == 0 ||
     (s.span g == 1 && (s.members g).any (fun m => dieOf m != dieOf g)))

/-- A group is refused at START: FAULT, with no word concerned; VSQ_FAULT.ADDR holds VSQ_ENTRY, INSTREAM 0 (DESIGN CHOICE:
notes/assumptions/85.md). -/
def State.refuseStart (s : State) (g : Fin 24) (code : Nat) : State :=
  ((s.setF (R.VSQ_STAT g) F.VSQ_STAT_STATE 6).setFault g code ⟨false, s.fld (R.VSQ_ENTRY g) F.VSQ_ENTRY_ADDR⟩).judgeSig g false

/-- Every member of a gang refused at START faults with FAULT_GCFG (R63), and its signatures are invalid (R86). -/
def State.refuseGang (s : State) (g : Fin 24) : State :=
  forEach (s.members g) (fun m s => if s.running m then s.stopNow m 6 0x0C else s.refuseStart m 0x0C) s

/-- The first word will be issued at a time: the run begins (R82). -/
def State.beginRun (s : State) (g : Fin 24) (issue : Nat) : State :=
  let b := issue + 40 * ns
  let s := s.setF (R.VSQ_STAT g) F.VSQ_STAT_STATE 2
  let entry := s.fld (R.VSQ_ENTRY g) F.VSQ_ENTRY_ADDR
  s.modG g (fun x => { x with
    run := x.run + 1, issue0 := issue, grid0 := x.ball0, ball0 := b, nextBs := b, lastEnd := b, pc := some ⟨false, entry⟩
    runs := x.runs ++ [⟨x.run + 1, s.flag (R.FCU_CTRL g) F.FCU_CTRL_LEN, 0, 0, 0, false, none, false, false⟩] })

/-- What START clears at once (R81; 04 R151). -/
def State.startClear (s : State) (g : Fin 24) : State :=
  let s := (((s.wr (R.VSQ_FAULT g) 0).setB (R.VSQ_STAT g) F.VSQ_STAT_MFAIL false).setF
    (R.VSQ_STAT g) F.VSQ_STAT_ESCCNT 0).setB (R.VSQ_STAT g) F.VSQ_STAT_STREAM false
  let s := (s.wr (R.CH_FUNDER_CNT g) 0).emptyFd g
  (s.modG g (fun x => { x with
    vcnt := 0, stack := [], escN := 0, escPt := none, inEsc := false, escFirst := false, smode := false, pipe := []
    dec := none, forkEnd := 0, results := [], combined := [], didx := 0, syncArr := none, syncRel := none
    resumeAt := none, resumed := false, stop := none, abortAt := none, lostAt := none })).showDepth g

/-- What START does to the FCU and the APG (03 R113; 05 R169, R185, R190). -/
def State.startUnits (s : State) (g : Fin 24) : State :=
  let s := if s.flag (R.FCU_CTRL g) F.FCU_CTRL_CLRSTART then s.clearCounters g else s
  let s := forEach [0, 1] (fun m s => s.wrPair (R.FCU_MISR_LO g m) (R.FCU_MISR_HI g m) ones64) s
  let s := ((s.setB (R.FCU_STAT g) F.FCU_STAT_SIGVALID false).setB (R.FCU_STAT g) F.FCU_STAT_SIGOK0 false).setB
    (R.FCU_STAT g) F.FCU_STAT_SIGOK1 false
  let s := ((s.setB (R.FCU_STAT g) F.FCU_STAT_BINC false).setB (R.FCU_STAT g) F.FCU_STAT_RINC false).setB
    (R.FCU_STAT g) F.FCU_STAT_LLIM false
  ((s.wr (R.FCU_BLOST g) 0).wr (R.FCU_RLOST g) 0).apgStart g

/-- A member of a gang across devices that accepts START announces its settings upward (08 R283); the first member to
start begins the gang's decisions anew. -/
def State.announce (s : State) (g : Fin 24) : State :=
  if s.gangEn g ∧ s.span g = 3 then
    let n : Fin 16 := ⟨s.gid g % 16, by omega⟩
    let s := if (s.members g).any (fun m => m != g && s.active m) then s
      else s.modGang n (fun x => { XGang.reset with via := x.via })
    s.sendUp ⟨8, s.devId, n, s.fld (R.TSY_GANG_CFG n) F.TSY_GANG_CFG_LG + 1024 * s.fld (R.TSY_GANG_CFG n) F.TSY_GANG_CFG_COMB⟩
  else s

/-- The manager checks a group of its own that has accepted START as it checks a GCFG (08 R283). -/
def State.ownGcfg (s : State) (g : Fin 24) : State :=
  let n : Fin 16 := ⟨s.gid g % 16, by omega⟩
  if s.isMgr && s.gangEn g && s.span g == 3 &&
      !s.gcfgOk n (s.fld (R.TSY_GANG_CFG n) F.TSY_GANG_CFG_LG) (s.flag (R.TSY_GANG_CFG n) F.TSY_GANG_CFG_COMB) then
    (s.sendLost n 0 s.now true).takeLost n s.now true
  else s

/-- Package time of VSQ_START_PT. -/
def State.startPt (s : State) (g : Nat) : Nat := s.rdPair (R.VSQ_START_PT_LO g) (R.VSQ_START_PT_HI g)

/-- START is ignored (R81, R82; 04 R123, R140; 08 R265; 17 R559). -/
def State.startIgnored (s : State) (g : Fin 24) (smode : Nat) : Bool :=
  s.active g || decide (2 ≤ smode) || !s.flag (R.CH_GCTRL g) F.CH_GCTRL_REL || s.flag (R.CH_GSTAT g) F.CH_GSTAT_CALBUSY ||
  s.groupHeld g ||
  (smode == 1 && (!s.aligned || decide (s.startPt g < s.ptime + 100)))

/-- VSQ_START: a write of VSQ_CTRL with START (R81 to R83). -/
def execVsqStart (g : Fin 24) (smode : BitVec 2) (s : State) : Out :=
  let s := s.setF (R.VSQ_CTRL g) F.VSQ_CTRL_SMODE smode.toNat
  if s.startIgnored g smode.toNat then .next (s.vsqCmdErr g)
  else
    let s := (s.startClear g).startUnits g
    if s.gangSplit g then .next (s.refuseGang g)
    else if s.srcBad g then .next (s.refuseStart g 0x08)
    else
      let s := s.announce g
      let s := if smode.toNat = 1 then s.setF (R.VSQ_STAT g) F.VSQ_STAT_STATE 1 else s.beginRun g ((s.now / ns + 1) * ns)
      .next (s.ownGcfg g)

/-- VSQ_ARMED_START: package time reaches VSQ_START_PT, as the register then stands (R82; DESIGN CHOICE:
notes/assumptions/85.md). -/
def execVsqArmedStart (g : Fin 24) (s : State) : Out :=
  if s.vstat g = 1 then
    let t := s.startPt g * ns
    .next ((s.at_ t).beginRun g t)
  else .next s

/-- VSQ_ABORT (R84, R88): at the end of the vector at the balls; a fault at the same boundary wins. -/
def execVsqAbort (g : Fin 24) (s : State) : Out :=
  if s.vstat g = 1 then .next ((s.setF (R.VSQ_STAT g) F.VSQ_STAT_STATE 0).tellGang g s.now (s.g g).didx)
  else if s.running g then
    .next (s.modG g (fun x => { x with abortAt := some (match x.abortAt with | none => s.boundary g | some a => a) }))
  else .next s

/-- VSQ_RESUME (R58); a PAUSE that has been resumed is over at a boundary already known. -/
def execVsqResume (g : Fin 24) (s : State) : Out :=
  if s.vstat g = 3 ∧ (s.g g).resumed = false then
    .next (s.modG g (fun x => { x with resumeAt := some (match x.resumeAt with | none => s.now + 40 * ns | some r => r) }))
  else .next s

/-- SCTRL_ARM (R72, R89). -/
def execSctrlArm (g : Fin 24) (s : State) : Out := .next (s.streamArm g)

/-- SCTRL_DISARM (R72, R90). -/
def execSctrlDisarm (g : Fin 24) (s : State) : Out :=
  if (s.g g).smode && s.running g then .next s
  else .next ((s.modG g (fun x => { x with sArmed := false, sF := 0, sH1 := 0, sWin := [] })).showStream g)

/-- VCNT_LO_READ (R79): the number of vectors started; without DEBUG the high part is latched. -/
def execVcntLoRead (g : Fin 24) (debug : Bool) (s : State) : Out :=
  let v := (s.g g).vcnt
  let s := if debug then s
    else { s with latch := Sparse.put resetOf s.latch (R.VSQ_VCNT_HI g) (BitVec.ofNat 32 (v / 4294967296)) }
  .next (s.answer .ok (leBytes 4 v))

/-! Instruction RAM from the promenade (R36, R89) -/

/-- The granules an access touches. -/
def granules (off len : Nat) : List Nat := (List.range ((off + len + 7) / 8 - off / 8)).map (fun i => off / 8 + i)

/-- An access finds a granule uncorrectable: its mark, or the upset that comes with the access. -/
def State.granuleBad (s : State) (g : Fin 24) (off k : Nat) (upset : List Ecc) : Bool :=
  (s.g g).iramUe.contains k || nth upset (k - off / 8) .clean == .ue

/-- A byte of instruction RAM. -/
def State.iramByte (s : State) (g : Fin 24) (a : Nat) : Nat := bitsOf (s.iramWord g (a / 32)).toNat (8 * (a % 32)) 8

/-- The upsets an access finds stay as marks. -/
def State.markGranules (s : State) (g : Fin 24) (off len : Nat) (upset : List Ecc) : State :=
  s.modG g (fun x => { x with iramUe := (granules off len).foldl (fun acc k =>
    if nth upset (k - off / 8) .clean = .ue then insertOnce k acc else acc) x.iramUe })

/-- INSTR_RAM_READ. -/
def execInstrRamRead (g : Fin 24) (off len : Nat) (upset : List Ecc) (s : State) : Out :=
  let s := s.markGranules g off len upset
  if (granules off len).any (fun k => s.granuleBad g off k upset) then .next (s.answer .errData [])
  else .next (s.answer .ok ((List.range len).map (fun i => s.iramByte g (off + i))))

/-- Write bytes of instruction RAM. -/
def State.iramPut (s : State) (g : Fin 24) (off : Nat) (data : List Nat) : State :=
  s.modG g (fun x => { x with
    iram := (List.range data.length).foldl (fun m i =>
      let a := off + i
      let w : PatWord := Sparse.get (fun _ => 0) m (a / 32)
      let sh := 8 * (a % 32)
      Sparse.put (fun _ => 0) m (a / 32) ((w &&& ~~~ (0xFF#256 <<< sh)) ||| (BitVec.ofNat 256 (nth data i 0 % 256) <<< sh))) x.iram
    iramUe := x.iramUe.filter (fun k => !decide (off ≤ 8 * k ∧ 8 * k + 8 ≤ off + data.length)) })

/-- A granule is covered whole. -/
def covered (off len k : Nat) : Bool := decide (off ≤ 8 * k ∧ 8 * k + 8 ≤ off + len)

/-- INSTR_RAM_WRITE. -/
def execInstrRamWrite (g : Fin 24) (off : Nat) (data : List Nat) (upset : List Ecc) (s : State) : Out :=
  if s.vstat g = 1 ∨ s.vstat g = 2 then .next ((s.vsqCmdErr g).answer .errDenied [])
  else
    let s := s.markGranules g off data.length upset
    if (granules off data.length).any (fun k => !covered off data.length k && s.granuleBad g off k upset) then
      .next (s.answer .errData [])
    else .next ((s.iramPut g off data).answer .ok [])

/-! Stops from outside the program (R83, R85; 13 R463; 17 R560) -/

/-- The cause of a stop holds for the group. -/
def State.stopCause (s : State) (g : Fin 24) (why : StopWhy) : Bool :=
  match why with
  | .src => s.srcBad g
  | .fence => s.isolated[dieOf g]
  | .integ => s.haltOn[dieOf g]

/-- VSQ_FAULT code of such a stop. -/
def stopCodeOf (why : StopWhy) : Nat := match why with | .src => 0x08 | .fence => 0x0E | .integ => 0x0F

/-- GROUP_FENCE_STOP. -/
def execGroupFenceStop (g : Fin 24) (why : StopWhy) (s : State) : Out :=
  if s.active g && s.stopCause g why then .next (s.stopNow g 6 (stopCodeOf why)) else .next s

end Sys2Proof.Machine
end

