-- ==== Sys2Proof/Machine/Channels.lean ====
section
/-! DEFINITION. Machine/Channels.lean: release, trim, edge stamps and the fabric data port of a group
(04_pin_channels.md). -/
namespace Sys2Proof.Machine

/-! Release and trim (R123, R140 to R142) -/

/-- A running trim is abandoned (R140). -/
def State.trimAbandon (s : State) (g : Fin 24) : State :=
  if s.flag (R.CH_GSTAT g) F.CH_GSTAT_CALBUSY then
    let s := (s.setB (R.CH_GSTAT g) F.CH_GSTAT_CALBUSY false).setB (R.CH_GSTAT g) F.CH_GSTAT_TRIMOK false
    (s.raise (R.CH_CAUSE g) F.CH_CAUSE_CALDONE).modG g (fun x => { x with trimAt := none })
  else s

/-- REL of a group; FP_CLK starts and stops with it (09 R319). -/
def State.setRel (s : State) (g : Fin 24) (rel : Bool) : State :=
  let was := s.flag (R.CH_GCTRL g) F.CH_GCTRL_REL
  let s := s.setB (R.CH_GCTRL g) F.CH_GCTRL_REL rel
  if was = rel then s
  else if rel then s.modG g (fun x => { x with fpOff := none, relRun := x.run })
  else s.modG g (fun x => { x with fpOff := some s.now })

/-- GROUP_RELEASE: a write of CH_GCTRL.REL; a held group and a device in PARK refuse the release (17 R559, 19 R597). -/
def execGroupRelease (g : Fin 24) (rel : Bool) (s : State) : Out :=
  if rel then
    if s.groupHeld g || s.fld R.PKG_PWR F.PKG_PWR_STATE != 0 then .next (s.vsqCmdErr g)
    else if s.active g then .next s
    else .next (s.setRel g true)
  else if s.active g then .next (s.vsqCmdErr g)
  else .next ((s.setRel g false).trimAbandon g)

/-- CAL_TRIM. -/
def execCalTrim (g : Fin 24) (s : State) : Out :=
  if !s.flag (R.CH_GCTRL g) F.CH_GCTRL_REL || s.active g || s.flag (R.CH_GSTAT g) F.CH_GSTAT_CALBUSY then .next (s.vsqCmdErr g)
  else .next ((s.setB (R.CH_GSTAT g) F.CH_GSTAT_CALBUSY true).modG g (fun x => { x with trimAt := some s.now }))

/-- The temperature of a group's die, in units of 0.25 degrees. -/
def State.dieTemp (s : State) (g : Fin 24) : Int := signedOf 11 (s.fld (R.DCR_TEMP (dieOf g)) F.DCR_TEMP_NOW)

/-- TRIM_END: `inRange` says whether every lane trimmed within range. -/
def execTrimEnd (g : Fin 24) (inRange : Bool) (s : State) : Out :=
  match (s.g g).trimAt with
  | none => .next s
  | some _ =>
    let s := s.setF (R.CH_CALTEMP g) F.CH_CALTEMP_TEMP (unsignedOf 11 (s.dieTemp g))
    let s := (s.setB (R.CH_GSTAT g) F.CH_GSTAT_CALBUSY false).setB (R.CH_GSTAT g) F.CH_GSTAT_TRIMOK inRange
    .next ((s.raise (R.CH_CAUSE g) F.CH_CAUSE_CALDONE).modG g (fun x => { x with
      trimAt := none, trimmed := some s.now, tempN := 0 }))

/-- TDRIFT_CHECK: at whole milliseconds from the end of the last completed trim. -/
def execTdriftCheck (g : Fin 24) (s : State) : Out :=
  match (s.g g).trimmed with
  | none => .next s
  | some t =>
    let s := (s.at_ (t + ((s.g g).tempN + 1) * 1000000 * ns)).modG g (fun x => { x with tempN := x.tempN + 1 })
    let d := s.dieTemp g - signedOf 11 (s.fld (R.CH_CALTEMP g) F.CH_CALTEMP_TEMP)
    let far := decide (40 < d ∨ d < -40)
    let was := s.flag (R.CH_GSTAT g) F.CH_GSTAT_TDRIFT
    let s := s.setB (R.CH_GSTAT g) F.CH_GSTAT_TDRIFT far
    .next (if far && !was then s.raise (R.CH_CAUSE g) F.CH_CAUSE_TDRIFT else s)

/-! Edge stamps (R143 to R149) -/

/-- The lane of a stamper: CMH 0 to 31, CML 32 to 63. -/
def stampLane (p : Fin 32) (cml : Bool) : Fin 64 := if cml then enaLane p else drvLane p

/-- EPOCH:STAMP of a record. -/
def stampTime (r : BitVec 64) : Nat := bitsOf r.toNat 0 48

/-- A record comes before another one (R147): by EPOCH:STAMP modulo 2^48, then by PIN, then by LANE. -/
def stampBefore (r q : BitVec 64) : Bool :=
  let d := (stampTime q + 2 ^ 48 - stampTime r) % 2 ^ 48
  let key (x : BitVec 64) : Nat := 2 * bitsOf x.toNat 48 5 + bitsOf x.toNat 53 1
  if d = 0 then decide (key r < key q) else decide (d < 2 ^ 47)

/-- The lane whose head record goes next. -/
def Group.stampNext (x : Group) : Option (Fin 64 × BitVec 64) :=
  (List.finRange 64).foldl (fun acc l =>
    match x.stampers[l].buf with
    | [] => acc
    | r :: _ => match acc with
      | none => some (l, r)
      | some (m, q) => if stampBefore r q then some (l, r) else some (m, q)) none

/-- Move up to n records from the lane buffers to the stamp queue. -/
def Group.drainStamps (n : Nat) (x : Group) : Group :=
  match n with
  | 0 => x
  | k + 1 =>
    if 4096 ≤ x.stampQ.length then x
    else
      match x.stampNext with
      | none => x
      | some (l, r) =>
        Group.drainStamps k { x with
          stampQ := x.stampQ ++ [r]
          stampers := x.stampers.set l { x.stampers[l] with buf := x.stampers[l].buf.tail } }

/-- CH_STSTAT.COUNT. -/
def State.showStamps (s : State) (g : Fin 24) : State := s.setF (R.CH_STSTAT g) F.CH_STSTAT_COUNT (s.g g).stampQ.length

/-- The queue takes 2 records a nanosecond (R148). -/
def State.stampsTo (s : State) (g : Fin 24) (t : Nat) : State :=
  (s.modG g (fun x => { x.drainStamps (min 1024 (2 * (t / ns - x.stampNs))) with stampNs := max x.stampNs (t / ns) })).showStamps g

/-- Records in the stamp queue once it has taken what it can by now. -/
def State.stampCount (s : State) (g : Fin 24) : Nat := ((s.stampsTo g s.now).g g).stampQ.length

/-- The record of a transition (R144, R146). -/
def stampRecord (t : Nat) (pin : Nat) (cml rising miss lost run : Bool) : BitVec 64 :=
  BitVec.ofNat 64 (t % 2 ^ 48 + pin * 2 ^ 48 + b2n cml * 2 ^ 53 + b2n rising * 2 ^ 54 + b2n miss * 2 ^ 55 +
    b2n lost * 2 ^ 56 + b2n run * 2 ^ 57 + 2 ^ 63)

/-- The channel stamps transitions of this lane in this direction (R143, R144). -/
def State.stamping (s : State) (g : Nat) (p : Nat) (cml rising : Bool) : Bool :=
  s.flag (R.CH_GCTRL g) F.CH_GCTRL_REL && s.flag (R.CH_PIN_CFG g p) F.CH_PIN_CFG_MODE &&
  bitOf (s.fld (R.CH_PIN_CFG g p) F.CH_PIN_CFG_ETL) (b2n cml) &&
  bitOf (s.fld (R.CH_PIN_CFG g p) F.CH_PIN_CFG_ETE) (b2n !rising)

/-- EDGE_STAMP: a transition arrives at the ball at a fine time. -/
def execEdgeStamp (g : Fin 24) (p : Fin 32) (cml rising : Bool) (time : Nat) (s : State) : Out :=
  if !s.stamping g p cml rising then .next s
  else
    let s := (s.at_ time).stampsTo g time
    let l := stampLane p cml
    let st := (s.g g).stampers[l]
    if (match st.last with | none => false | some u => decide (time < u + ns)) then
      .next (s.modG g (fun x => { x with stampers := x.stampers.set l { st with miss := true } }))
    else
      let dsk := s.fld (R.CH_PIN_DSKRX g p) (if cml then F.CH_PIN_DSKRX_CML else F.CH_PIN_DSKRX_CMH)
      let t := unsignedOf 48 ((time : Int) - signedOf 16 dsk)
      if 16 ≤ st.buf.length ∨ 4096 ≤ (s.g g).stampQ.length then
        let s := s.modG g (fun x => { x with stampers := x.stampers.set l { st with last := some time, miss := false, lost := true } })
        .next ((s.bump (R.CH_STLOST_CNT g) F.CH_STLOST_CNT_COUNT 1).raise (R.CH_CAUSE g) F.CH_CAUSE_STLOST)
      else
        let r := stampRecord t p cml rising st.miss st.lost (s.running g)
        .next (s.modG g (fun x => { x with stampers := x.stampers.set l ⟨some time, false, false, st.buf ++ [r]⟩ }))

/-- STAMP_LO_READ. -/
def execStampLoRead (g : Fin 24) (debug : Bool) (s : State) : Out :=
  let s := s.stampsTo g s.now
  let r := ((s.g g).stampQ.headD 0).toNat
  let s := if debug then s
    else { s with latch := Sparse.put resetOf s.latch (R.CH_STAMP_HI g) (BitVec.ofNat 32 (r / 4294967296)) }
  .next (s.answer .ok (leBytes 4 r))

/-- STAMP_HI_READ: under DEBUG the current bits of the head record (20 R621), which stays. -/
def execStampHiRead (g : Fin 24) (debug : Bool) (s : State) : Out :=
  let s := s.stampsTo g s.now
  if debug then .next (s.answer .ok (leBytes 4 (((s.g g).stampQ.headD 0).toNat / 4294967296)))
  else
    let v := Sparse.get resetOf s.latch (R.CH_STAMP_HI g)
    .next (((s.modG g (fun x => { x with stampQ := x.stampQ.tail })).showStamps g).answer .ok (leBytes 4 v.toNat))

/-- STAMP_FLUSH. -/
def execStampFlush (g : Fin 24) (s : State) : Out :=
  let s := s.modG g (fun x => { x with
    stampQ := [], stampNs := max x.stampNs (s.now / ns)
    stampers := Vector.ofFn (fun l => { x.stampers[l] with buf := [] }) })
  .next ((s.wr (R.CH_STLOST_CNT g) 0).showStamps g)

/-! Fabric data port (R151, R152) -/

/-- FABRIC_DATA_WORD. -/
def execFabricDataWord (g : Fin 24) (w : BitVec 1024) (s : State) : Out :=
  if s.fdFenced g then .next s
  else if 64 ≤ (s.g g).fdq.length then .next (s.raise (R.CH_CAUSE g) F.CH_CAUSE_FOVER)
  else .next ((s.modG g (fun x => { x with fdq := x.fdq ++ [w] })).showFd g)

/-- The ball start of the k-th vector ahead that a pipe holds. An open-ended word goes on repeating as far as is known
(DESIGN CHOICE: notes/assumptions/92.md); `tail` is the ball start of the vector after the last word, where one follows. -/
def ballOf (pipe : List PatEntry) (tail : Option Nat) (k : Nat) : Option Nat :=
  match pipe with
  | [] => if k = 0 then tail else none
  | e :: rest =>
    match e.reps with
    | .fixed n =>
      if e.done + k < n then some (e.bs + (e.done + k) * e.period) else ballOf rest tail (k - (n - e.done))
    | _ => some (e.bs + (e.done + k) * e.period)

/-- FABRIC_DATA_TAKE: 24 ns before the ball start of the next vector that has no word yet. The vector at the decision point
of a JC is known before the decision is. -/
def execFabricDataTake (g : Fin 24) (s : State) : Out :=
  if s.running g && s.flag (R.CH_GCTRL g) F.CH_GCTRL_FDEN then
    let x := s.g g
    match ballOf x.pipe (x.dec.bind (fun d => d.dp)) x.fdTaken.length with
    | none => .next s
    | some b => .next (((s.at_ (b - 24 * ns)).fdTake g).showFd g)
  else .next s

end Sys2Proof.Machine
end

