-- ==== Sys2Proof/Machine/Mdsp.lean ====
section
/-! DEFINITION. Machine/Mdsp.lean: the measurement DSP cores (07_measurement_dsp.md): registers, arithmetic format with its
parallel moves, control format, repeat blocks, events, run control, memory accesses. -/
namespace Sys2Proof

/-- A step of d on a pointer (R244): the new pointer, and whether it found its pointer outside a circular buffer. -/
def pointerStep (p b l : Nat) (d : Int) : Nat × Bool :=
  if l = 0 then (unsignedOf 16 ((p : Int) + d), false)
  else if b ≤ p ∧ p ≤ b + l - 1 then (((b : Int) + ((p : Int) - b + d) % (l : Int)).toNat % 65536, false)
  else (unsignedOf 16 ((p : Int) + d), true)

/-- The bits of a 16-bit value in reverse order. -/
def reverse16 (v : Nat) : Nat := (List.range 16).foldl (fun acc i => acc + b2n (bitOf v i) * 2 ^ (15 - i)) 0

/-- A reverse-carry add (R245). -/
def reverseAdd (p m : Nat) : Nat := reverse16 ((reverse16 p + reverse16 m) % 65536)

/-- Leading bits of a list that equal the sign. -/
def signRun (s : Bool) (l : List Bool) : Nat :=
  match l with
  | [] => 0
  | b :: r => if b = s then 1 + signRun s r else 0

/-- rsb of a 16-bit value (R242). -/
def rsb (v : Nat) : Nat := signRun (bitOf v 15) ((List.range 15).map (fun i => bitOf v (14 - i)))

/-- exp of a 40-bit accumulator (R242). -/
def expOf (v : Int) : Int :=
  let u := unsignedOf 40 v
  (signRun (bitOf u 39) ((List.range 39).map (fun i => bitOf u (38 - i))) : Int) - 8

/-- A shift left by k; to the right it rounds half up (R240). -/
def shiftRound (v : Int) (k : Int) : Int :=
  if 0 ≤ k then v * 2 ^ k.toNat else (v + 2 ^ ((-k).toNat - 1)) / 2 ^ (-k).toNat

/-- A value a store takes from an accumulator (R241): the stored part, and whether it was limited. -/
def storePart (v : Int) : Int × Bool :=
  let r := (v + 32768) / 65536
  if 32767 < r then (32767, true) else if r < -32768 then (-32768, true) else (r, false)

/-- An accumulator's value after the overflow rule (R238), and whether it overflowed. -/
def accLimit (sat : Bool) (v : Int) : Int × Bool :=
  if -(2 : Int) ^ 39 ≤ v ∧ v ≤ 2 ^ 39 - 1 then (v, false)
  else if sat then (if 0 ≤ v then 2 ^ 39 - 1 else -(2 : Int) ^ 39, true)
  else (signedOf 40 (unsignedOf 40 v), true)

end Sys2Proof
namespace Sys2Proof.Machine

/-! Registers (R228 to R230) -/

def State.md (s : State) (m : Fin 24) : Mdsp := s.mdsp[m]
def State.modMd (s : State) (m : Fin 24) (f : Mdsp → Mdsp) : State := { s with mdsp := s.mdsp.set m (f s.mdsp[m]) }

/-- A core register by code, as stored. -/
def State.mreg (s : State) (m : Fin 24) (r : Nat) : Nat := (s.rd (R.MDSP_REG m r)).toNat % 65536

/-- Store a core register by code, whole. -/
def State.mset (s : State) (m : Fin 24) (r v : Nat) : State := s.wr (R.MDSP_REG m r) (BitVec.ofNat 32 (v % 65536))

/-- Accumulator n. -/
def State.acc (s : State) (m : Fin 24) (n : Nat) : Int :=
  signedOf 40 (s.mreg m (0x32 + 3 * n) + 65536 * s.mreg m (0x31 + 3 * n) + 4294967296 * (s.mreg m (0x30 + 3 * n) % 256))

/-- The sign extension of 8 bits to 16, as An.G reads. -/
def sext8 (v : Nat) : Nat := unsignedOf 16 (signedOf 8 v)

/-- Store accumulator n. -/
def State.setAcc (s : State) (m : Fin 24) (n : Nat) (v : Int) : State :=
  let u := unsignedOf 40 v
  ((s.mset m (0x32 + 3 * n) (u % 65536)).mset m (0x31 + 3 * n) (u / 65536 % 65536)).mset m (0x30 + 3 * n) (sext8 (u / 4294967296))

/-- A D register, signed. -/
def State.dreg (s : State) (m : Fin 24) (n : Nat) : Int := signedOf 16 (s.mreg m n)

/-- SR's writable bits, and a write of them. -/
def srWritten (old v : Nat) : Nat := v % 64 + old / 64 % 1024 * 64

/-- Write a register by code, with the effects of R229. -/
def State.mwrite (s : State) (m : Fin 24) (r v : Nat) : State :=
  if r < 0x30 then s.mset m r v
  else if r < 0x3C then
    let n := (r - 0x30) / 3
    match (r - 0x30) % 3 with
    | 0 => s.mset m r (sext8 v)
    | 1 => ((s.mset m r v).mset m (0x30 + 3 * n) (if bitOf v 15 then 65535 else 0)).mset m (0x32 + 3 * n) 0
    | _ => s.mset m r v
  else if r = 0x3C then s.mset m r (srWritten (s.mreg m r) v)
  else if r = 0x3D then s.mset m r (v % 16)
  else s

/-- Bits of SR. -/
def State.sr (s : State) (m : Fin 24) (i : Nat) : Bool := bitOf (s.mreg m 0x3C) i
def State.setSr (s : State) (m : Fin 24) (i : Nat) (b : Bool) : State :=
  let v := s.mreg m 0x3C
  s.mset m 0x3C (if b then (if bitOf v i then v else v + 2 ^ i) else if bitOf v i then v - 2 ^ i else v)
def State.orSr (s : State) (m : Fin 24) (i : Nat) (b : Bool) : State := if b then s.setSr m i true else s

/-! Memory (R223, R227) -/

/-- A core's memory: 0 X, 1 Y, 2 P. -/
def Mdsp.mem (c : Mdsp) (k : Nat) : Sparse Word := match k with | 0 => c.x | 1 => c.y | _ => c.p
def Mdsp.read (c : Mdsp) (k w : Nat) : Nat := (Sparse.get (fun _ => (0 : Word)) (c.mem k) w).toNat
def Mdsp.write (c : Mdsp) (k w v : Nat) : Mdsp :=
  let n := Sparse.put (fun _ => (0 : Word)) (c.mem k) w (BitVec.ofNat 32 v)
  match k with | 0 => { c with x := n } | 1 => { c with y := n } | _ => { c with p := n }

/-- The check granule of a word. -/
def mdGran (k w : Nat) : Nat := k * 32768 + w / 2

/-- What an access meets: a mark, or an upset. -/
def State.mdEcc (s : State) (m : Fin 24) (k w : Nat) (u : Ecc) : Ecc :=
  if (s.md m).ue.contains (mdGran k w) then .ue else u

/-- An uncorrectable upset stays as a mark. -/
def State.mdMark (s : State) (m : Fin 24) (k w : Nat) (u : Ecc) : State :=
  if u = .ue then s.modMd m (fun c => { c with ue := insertOnce (mdGran k w) c.ue }) else s

/-! Status -/

def State.mdState (s : State) (m : Nat) : Nat := s.fld (R.MDSP_STAT m) F.MDSP_STAT_STATE
def State.setMdState (s : State) (m : Nat) (v : Nat) : State := s.setF (R.MDSP_STAT m) F.MDSP_STAT_STATE v
def State.mdPc (s : State) (m : Nat) : Nat := s.fld (R.MDSP_PC m) F.MDSP_PC_ADDR

/-- The innermost block's iteration is cached (R233). -/
def Mdsp.cached (c : Mdsp) : Bool :=
  match c.reps with
  | [] => false
  | b :: _ => c.held == some (b.first, b.last)

/-- MDSP_STAT and LC follow the stacks (R228, R263). -/
def State.mdShow (s : State) (m : Fin 24) : State :=
  let c := s.md m
  let s := (s.setF (R.MDSP_STAT m) F.MDSP_STAT_DEPTH c.stack.length).setF (R.MDSP_STAT m) F.MDSP_STAT_RDEPTH c.reps.length
  let s := s.setB (R.MDSP_STAT m) F.MDSP_STAT_CACHED c.cached
  s.mset m 0x3E ((c.reps.head?.map (·.left)).getD 0)

/-- The end of the body of active blocks at an address (R252, R233): the remaining blocks, the cache, which an
iteration fetched from P memory fills, and the next address. -/
def blockEnd (a : Nat) (held : Option (Nat × Nat)) (l : List RepBlk) : List RepBlk × Option (Nat × Nat) × Nat :=
  match l with
  | [] => ([], held, (a + 1) % 32768)
  | b :: r =>
    if b.last = a then
      let held := if b.fromP && decide (b.last + 1 - b.first ≤ 16) then some (b.first, b.last) else held
      if 1 < b.left then ({ b with left := b.left - 1, fromP := held != some (b.first, b.last) } :: r, held, b.first)
      else blockEnd a held r
    else (b :: r, held, (a + 1) % 32768)

/-- Continue in sequence after an address. -/
def State.mdNext (s : State) (m : Fin 24) (a : Nat) : State :=
  let c := s.md m
  let e := blockEnd a c.held c.reps
  ((s.modMd m (fun c => { c with reps := e.1, held := e.2.1 })).setF (R.MDSP_PC m) F.MDSP_PC_ADDR e.2.2).mdShow m

/-- A fault (R260): the instruction has no effect. -/
def State.mdFault (s : State) (m : Fin 24) (code a : Nat) : State :=
  let s := (s.setMdState m 3).raise (R.MDSP_CAUSE m) F.MDSP_CAUSE_FAULT
  (s.setF (R.MDSP_FAULT m) F.MDSP_FAULT_CODE code).setF (R.MDSP_FAULT m) F.MDSP_FAULT_ADDR a

/-- Cycles (R232, R263). -/
def State.mdCycles (s : State) (m : Nat) (n : Nat) : State :=
  (s.bump (R.MDSP_CYC m) F.MDSP_CYC_COUNT n).tally (m / 4) (0x30 + m % 4) n

/-- The cycles of a wait. -/
def State.mdWaited (s : State) (m : Nat) (n : Nat) : State :=
  (s.bump (R.MDSP_CYC m) F.MDSP_CYC_COUNT n).tally (m / 4) (0x34 + m % 4) n

/-- The die's MDSPs are frozen: a control core of the die is halted with the option set (R262, 15 R516). -/
def State.haltFrozen (s : State) (d : Nat) (f : Fld) : Bool :=
  s.flag (R.DBG_FREEZE d) f && (s.flag (R.DBG_STAT (2 * d)) F.DBG_STAT_HALTED || s.flag (R.DBG_STAT (2 * d + 1)) F.DBG_STAT_HALTED)

def State.mdFrozen (s : State) (m : Fin 24) : Bool := s.haltFrozen (m.val / 4) F.DBG_FREEZE_MDSP

/-- What a core in WAIT has waited so far counts; while it is frozen nothing does (R262, R263). -/
def State.mdSettle (s : State) (m : Fin 24) : State :=
  match (s.md m).waitEv with
  | none => s
  | some (e, t) =>
    if s.mdState m ≠ 2 then s
    else if s.mdFrozen m then s.modMd m (fun c => { c with waitEv := some (e, s.now) })
    else
      let n := (s.now - t) / 6400
      (s.mdWaited m n).modMd m (fun c => { c with waitEv := some (e, t + 6400 * n) })

/-- The same for the four cores of a die. -/
def State.mdSettleDie (s : State) (d : Nat) : State :=
  forEach ((List.finRange 24).filter (fun m => m.val / 4 == d)) (fun m s => s.mdSettle m) s

/-- The core leaves its stacks behind (R259). -/
def State.mdDiscard (s : State) (m : Fin 24) : State :=
  (s.modMd m (fun c => { c with stack := [], reps := [], waitEv := none })).mdShow m

/-- Fetch an instruction and act on it, if it is one the command stands for. -/
def State.mdStep (s : State) (m : Fin 24) (upset : List Ecc) (mine : Nat → Bool) (body : Nat → Nat → State → State) : State :=
  if s.mdState m ≠ 1 ∨ s.mdFrozen m then s
  else
    let a := s.mdPc m
    let w := (s.md m).read 2 a
    let fromP := !(s.md m).cached
    let u := if fromP then nth upset 0 .clean else .clean
    if fromP && s.mdEcc m 2 a u == .ue then (s.mdMark m 2 a u).mdFault m 4 a
    else if mine w then body a w (if u = .ce then s.raise (R.MDSP_CAUSE m) F.MDSP_CAUSE_ECCCOR else s)
    else s

/-! Arithmetic format (R234 to R248) -/

/-- The fields of an arithmetic-format word. -/
structure AFld where
  pmv : Nat
  d : Nat
  a : Nat
  b : Nat
  opt : Bool
  xm : Nat
  xp : Nat
  xs : Bool
  xr : Nat
  ym : Nat
  yp : Nat
  ys : Bool
  yr : Nat
deriving DecidableEq, Repr

def aFields (w : Nat) : AFld where
  pmv := bitsOf w 25 2
  d := bitsOf w 23 2
  a := bitsOf w 20 3
  b := bitsOf w 17 3
  opt := bitOf w 16
  xm := bitsOf w 14 2
  xp := bitsOf w 12 2
  xs := bitOf w 11
  xr := bitsOf w 8 3
  ym := bitsOf w 6 2
  yp := bitsOf w 4 2
  ys := bitOf w 3
  yr := bitsOf w 0 3

/-- What an arithmetic operation computes, exactly: accumulators, a D register, a new BX, and the accumulator Z and N
describe. -/
structure AluRes where
  accs : List (Nat × Int)
  dreg : Option (Nat × Nat)
  bx : Option Nat
  zn : Option Nat
deriving DecidableEq, Repr

/-- A product of R235. -/
def prod (x y : Int) : Int := 2 * x * y

/-- Parts of a complex register. -/
def State.cre (s : State) (m : Fin 24) (n : Nat) : Int := s.dreg m (2 * n)
def State.cim (s : State) (m : Fin 24) (n : Nat) : Int := s.dreg m (2 * n + 1)

/-- The complex product (R237). -/
def State.cmul (s : State) (m : Fin 24) (f : AFld) : Int × Int :=
  let xr := s.cre m f.a
  let xi := s.cim m f.a
  let yr := s.cre m f.b
  let yi := s.cim m f.b
  if f.opt then (prod xr yr + prod xi yi, prod xi yr - prod xr yi)
  else (prod xr yr - prod xi yi, prod xr yi + prod xi yr)

/-- The two real products (R235, DMPY). -/
def State.dmul (s : State) (m : Fin 24) (f : AFld) : Int × Int :=
  let y0 := if f.opt then s.cim m f.b else s.cre m f.b
  let y1 := if f.opt then s.cre m f.b else s.cim m f.b
  (prod (s.cre m f.a) y0, prod (s.cim m f.a) y1)

/-- A result in the accumulator pair of D. -/
def pairRes (f : AFld) (x y : Int) : AluRes := ⟨[(2 * f.d, x), (2 * f.d + 1, y)], none, none, some (2 * f.d)⟩

/-- A result in accumulator D alone. -/
def oneRes (f : AFld) (x : Int) (r : Option (Nat × Nat)) : AluRes := ⟨[(f.d, x)], r, none, some f.d⟩

def aluNop (_ : State) (_ : Fin 24) (_ : AFld) : AluRes := ⟨[], none, none, none⟩
def aluCmpy (s : State) (m : Fin 24) (f : AFld) : AluRes := pairRes f (s.cmul m f).1 (s.cmul m f).2
def aluCmac (s : State) (m : Fin 24) (f : AFld) : AluRes :=
  pairRes f (s.acc m (2 * f.d) + (s.cmul m f).1) (s.acc m (2 * f.d + 1) + (s.cmul m f).2)
def aluCmsu (s : State) (m : Fin 24) (f : AFld) : AluRes :=
  pairRes f (s.acc m (2 * f.d) - (s.cmul m f).1) (s.acc m (2 * f.d + 1) - (s.cmul m f).2)
def aluDmpy (s : State) (m : Fin 24) (f : AFld) : AluRes := pairRes f (s.dmul m f).1 (s.dmul m f).2
def aluDmac (s : State) (m : Fin 24) (f : AFld) : AluRes :=
  pairRes f (s.acc m (2 * f.d) + (s.dmul m f).1) (s.acc m (2 * f.d + 1) + (s.dmul m f).2)
def aluDmsu (s : State) (m : Fin 24) (f : AFld) : AluRes :=
  pairRes f (s.acc m (2 * f.d) - (s.dmul m f).1) (s.acc m (2 * f.d + 1) - (s.dmul m f).2)
def aluCadd (s : State) (m : Fin 24) (f : AFld) : AluRes :=
  let k : Int := if f.opt then -65536 else 65536
  pairRes f (s.acc m (2 * f.d) + k * s.cre m f.a) (s.acc m (2 * f.d + 1) + k * s.cim m f.a)
def aluCld (s : State) (m : Fin 24) (f : AFld) : AluRes :=
  let k : Int := if f.opt then -65536 else 65536
  pairRes f (k * s.cre m f.a) (k * s.cim m f.a)
def aluClr (_ : State) (_ : Fin 24) (f : AFld) : AluRes := pairRes f 0 0
def aluBadd (s : State) (m : Fin 24) (f : AFld) : AluRes :=
  let h (v : Int) : Int := if f.opt then (v + 1) / 2 else v
  let tr := 65536 * s.cre m f.a
  let ti := 65536 * s.cim m f.a
  ⟨[(0, h (tr + s.acc m 2)), (1, h (ti + s.acc m 3)), (2, h (tr - s.acc m 2)), (3, h (ti - s.acc m 3))], none, none, some 0⟩
def aluBexp (s : State) (m : Fin 24) (f : AFld) : AluRes :=
  ⟨[], none, some (min (s.mreg m 0x3D) (min (rsb (s.mreg m (2 * f.a))) (rsb (s.mreg m (2 * f.a + 1))))), none⟩
def aluExp (s : State) (m : Fin 24) (f : AFld) : AluRes :=
  ⟨[], some (2 * f.a + b2n f.opt, unsignedOf 16 (expOf (s.acc m f.d))), none, none⟩
def aluNorm (s : State) (m : Fin 24) (f : AFld) : AluRes :=
  let e := expOf (s.acc m f.d)
  oneRes f (shiftRound (s.acc m f.d) e) (some (2 * f.a + b2n f.opt, unsignedOf 16 e))
def aluAsh (s : State) (m : Fin 24) (f : AFld) : AluRes :=
  oneRes f (shiftRound (s.acc m f.d) (max (-39) (min 39 (s.dreg m (2 * f.a + b2n f.opt))))) none
def aluRnd (s : State) (m : Fin 24) (f : AFld) : AluRes := oneRes f ((s.acc m f.d + 32768) / 65536 * 65536) none

/-- D, A, B and OPT an operation admits (R235, R236). -/
def aluLegal (aop : Nat) (f : AFld) : Bool :=
  let dOk := if aop = 0 ∨ aop = 0xA ∨ aop = 0xB then f.d == 0 else if aop < 0xC then decide (f.d < 2) else true
  let aOk := if aop = 0 ∨ aop = 9 ∨ aop = 0xF then f.a == 0 else true
  let bOk := if 1 ≤ aop ∧ aop ≤ 6 then true else f.b == 0
  let oOk := if aop = 0 ∨ aop = 9 ∨ aop = 0xB ∨ aop = 0xF then !f.opt else true
  dOk && aOk && bOk && oOk

/-- The moves are legal (R248). -/
def movesLegal (aop : Nat) (f : AFld) : Bool :=
  let xLoad := f.xm != 0 && !f.xs
  let yLoad := f.ym != 0 && !f.ys
  let pLoad := f.pmv != 0
  (f.xm != 0 || (f.xp == 0 && !f.xs && f.xr == 0)) && (f.ym != 0 || (f.yp == 0 && !f.ys && f.yr == 0)) &&
  !(xLoad && yLoad && f.xr == f.yr) && !(pLoad && ((xLoad && f.xr == 7) || (yLoad && f.yr == 7))) &&
  !((aop == 0xC || aop == 0xD) && ((xLoad && f.xr == f.a) || (yLoad && f.yr == f.a) || (pLoad && f.a == 7))) &&
  !(f.ym != 0 && f.yp == 3 && pLoad)

/-- The word a store writes (R246, R241): the word, whether a part was limited, the rsb of its parts. -/
def State.storeWord (s : State) (m : Fin 24) (r : Nat) : Nat × Bool × List Nat :=
  if r < 6 then (s.mreg m (2 * r) + 65536 * s.mreg m (2 * r + 1), false, [])
  else
    let n := r - 6
    let p0 := storePart (s.acc m (2 * n))
    let p1 := storePart (s.acc m (2 * n + 1))
    let u0 := unsignedOf 16 p0.1
    let u1 := unsignedOf 16 p1.1
    (u0 + 65536 * u1, p0.2 || p1.2, [rsb u0, rsb u1])

/-- Update pointer n after a move of a mode (R243 to R245). -/
def State.movePtr (s : State) (m : Fin 24) (n mode : Nat) (old : State) : State :=
  let p := old.mreg m (0x10 + n)
  if mode = 3 then s.mset m (0x10 + n) (reverseAdd p (old.mreg m (0x18 + n)))
  else
    let d : Int := if mode = 1 then 1 else signedOf 16 (old.mreg m (0x18 + n))
    let r := pointerStep p (old.mreg m (0x20 + n)) (old.mreg m (0x28 + n)) d
    (s.mset m (0x10 + n) r.1).orSr m 4 r.2

/-- Load word v into complex register r (R246). -/
def State.loadC (s : State) (m : Fin 24) (r v : Nat) : State := (s.mset m (2 * r) (v % 65536)).mset m (2 * r + 1) (v / 65536)

/-- An X (k = 0) or Y (k = 1) move, from the machine `old` at the start of the instruction. -/
def State.moveXY (s : State) (m : Fin 24) (k n mode : Nat) (store : Bool) (r : Nat) (old : State) : State :=
  if mode = 0 then s
  else
    let w := old.mreg m (0x10 + n)
    let s :=
      if store then
        let v := old.storeWord m r
        let s := (s.modMd m (fun c => c.write k w v.1)).orSr m 3 v.2.1
        if old.sr m 1 then s.mset m 0x3D (v.2.2.foldl min (s.mreg m 0x3D)) else s
      else s.loadC m r ((old.md m).read k w)
    s.movePtr m n mode old

/-- The P move (R247). -/
def State.moveP (s : State) (m : Fin 24) (mode : Nat) (old : State) : State :=
  if mode = 0 then s else (s.loadC m 7 ((old.md m).read 2 (old.mreg m 0x17 % 32768))).movePtr m 7 mode old

/-- Accumulators written, with AV, AE, Z and N (R238, R239). -/
def State.putAccs (s : State) (m : Fin 24) (r : AluRes) : State :=
  let sat := s.sr m 0
  let lim := r.accs.map (fun e => (e.1, accLimit sat e.2))
  let s := forEach lim (fun e s => (s.setAcc m e.1 e.2.1).orSr m 2 e.2.2) s
  match r.zn with
  | none => s
  | some n =>
    let ae := lim.any (fun e => let g := unsignedOf 40 e.2.1 / 2 ^ 31; g != 0 && g != 511)
    ((s.setSr m 8 ae).setSr m 9 (s.acc m n == 0)).setSr m 10 (decide (s.acc m n < 0))

/-- The memory words an arithmetic-format word touches: memory, word, upset. -/
def State.arithTouch (s : State) (m : Fin 24) (f : AFld) (upset : List Ecc) : List (Nat × Nat × Ecc) :=
  (if f.xm = 0 then [] else [(0, s.mreg m (0x10 + f.xp), nth upset 1 .clean)]) ++
  (if f.ym = 0 then [] else [(1, s.mreg m (0x14 + f.yp), nth upset 2 .clean)]) ++
  (if f.pmv = 0 then [] else [(2, s.mreg m 0x17 % 32768, nth upset 3 .clean)])

/-- Act on the errors of the words touched (R227): the machine, or a fault. -/
def State.mdTouch (s : State) (m : Fin 24) (l : List (Nat × Nat × Ecc)) : Bool × State :=
  let s' := forEach l (fun e s => s.mdMark m e.1 e.2.1 e.2.2) s
  (l.any (fun e => s.mdEcc m e.1 e.2.1 e.2.2 == .ue),
   if l.any (fun e => e.2.2 == .ce) then s'.raise (R.MDSP_CAUSE m) F.MDSP_CAUSE_ECCCOR else s')

/-- The effect of a fetched arithmetic-format instruction. -/
def State.arithBody (s : State) (m : Fin 24) (upset : List Ecc) (aop : Nat) (alu : State → Fin 24 → AFld → AluRes)
    (pc w : Nat) : State :=
  let f := aFields w
  if !aluLegal aop f || !movesLegal aop f then s.mdFault m 1 pc
  else
    let t := s.mdTouch m (s.arithTouch m f upset)
    if t.1 then t.2.mdFault m 4 pc
    else
      let r := alu s m f
      let n := t.2.putAccs m r
      let n := match r.bx with | none => n | some b => n.mset m 0x3D b
      let n := (n.moveXY m 0 f.xp f.xm f.xs f.xr s).moveXY m 1 (4 + f.yp) f.ym f.ys f.yr s
      let n := n.moveP m f.pmv s
      let n := match r.dreg with | none => n | some d => n.mset m d.1 d.2
      (n.mdCycles m (if f.pmv ≠ 0 ∧ !(s.md m).cached then 2 else 1)).mdNext m pc

/-- The word is the arithmetic operation of a code. -/
def aopIs (aop w : Nat) : Bool := !bitOf w 31 && bitsOf w 27 4 == aop

/-- An arithmetic-format instruction. -/
def State.mdArith (s : State) (m : Fin 24) (upset : List Ecc) (aop : Nat) (alu : State → Fin 24 → AFld → AluRes) : State :=
  s.mdStep m upset (aopIs aop) (fun pc w s => s.arithBody m upset aop alu pc w)

/-- NOP; a reserved control code is found by this command too (R249). -/
def execMdNop (m : Fin 24) (u : List Ecc) (s : State) : Out :=
  .next (s.mdStep m u (fun w => aopIs 0 w || (bitOf w 31 && decide (0xF ≤ bitsOf w 26 5))) (fun pc w s =>
    if bitOf w 31 then s.mdFault m 1 pc else s.arithBody m u 0 aluNop pc w))
def execMdCmpy (m : Fin 24) (u : List Ecc) (s : State) : Out := .next (s.mdArith m u 1 aluCmpy)
def execMdCmac (m : Fin 24) (u : List Ecc) (s : State) : Out := .next (s.mdArith m u 2 aluCmac)
def execMdCmsu (m : Fin 24) (u : List Ecc) (s : State) : Out := .next (s.mdArith m u 3 aluCmsu)
def execMdDmpy (m : Fin 24) (u : List Ecc) (s : State) : Out := .next (s.mdArith m u 4 aluDmpy)
def execMdDmac (m : Fin 24) (u : List Ecc) (s : State) : Out := .next (s.mdArith m u 5 aluDmac)
def execMdDmsu (m : Fin 24) (u : List Ecc) (s : State) : Out := .next (s.mdArith m u 6 aluDmsu)
def execMdCadd (m : Fin 24) (u : List Ecc) (s : State) : Out := .next (s.mdArith m u 7 aluCadd)
def execMdCld (m : Fin 24) (u : List Ecc) (s : State) : Out := .next (s.mdArith m u 8 aluCld)
def execMdClr (m : Fin 24) (u : List Ecc) (s : State) : Out := .next (s.mdArith m u 9 aluClr)
def execMdBadd (m : Fin 24) (u : List Ecc) (s : State) : Out := .next (s.mdArith m u 0xA aluBadd)
def execMdBexp (m : Fin 24) (u : List Ecc) (s : State) : Out := .next (s.mdArith m u 0xB aluBexp)
def execMdExp (m : Fin 24) (u : List Ecc) (s : State) : Out := .next (s.mdArith m u 0xC aluExp)
def execMdNorm (m : Fin 24) (u : List Ecc) (s : State) : Out := .next (s.mdArith m u 0xD aluNorm)
def execMdAsh (m : Fin 24) (u : List Ecc) (s : State) : Out := .next (s.mdArith m u 0xE aluAsh)
def execMdRnd (m : Fin 24) (u : List Ecc) (s : State) : Out := .next (s.mdArith m u 0xF aluRnd)

/-! Control format (R249 to R256) -/

/-- A control-format instruction: its code, the bits it defines beside 31:26, its body. A reserved bit that is not 0
faults. -/
def State.mdCtl (s : State) (m : Fin 24) (upset : List Ecc) (cop mask : Nat) (body : Nat → Nat → State → State) : State :=
  s.mdStep m upset (fun w => bitOf w 31 && bitsOf w 26 5 == cop) (fun pc w s =>
    if bitsOf w 0 26 &&& (67108863 ^^^ mask) != 0 then s.mdFault m 1 pc else body pc w s)

/-- Continue at an address. -/
def State.mdJump (s : State) (m : Fin 24) (t cyc : Nat) : State :=
  ((s.setF (R.MDSP_PC m) F.MDSP_PC_ADDR t).mdCycles m cyc).mdShow m

/-- One cycle, and the next instruction. -/
def State.mdSeq (s : State) (m : Fin 24) (pc : Nat) : State := (s.mdCycles m 1).mdNext m pc

/-- HALT (R259); a STOP write on its boundary wins over it, a fault wins over both (R261). -/
def execMdHalt (m : Fin 24) (stop : Bool) (u : List Ecc) (s : State) : Out :=
  .next (s.mdCtl m u 0 0 (fun pc _ s =>
    let s := (((s.mdCycles m 1).setF (R.MDSP_PC m) F.MDSP_PC_ADDR ((pc + 1) % 32768)).setMdState m 0).mdDiscard m
    if stop then s else s.raise (R.MDSP_CAUSE m) F.MDSP_CAUSE_HALT))

/-- A flow instruction faults while a block is active (R253). -/
def State.mdFlow (s : State) (m : Fin 24) (pc : Nat) (k : State) : State :=
  if (s.md m).reps.isEmpty then k else s.mdFault m 2 pc

def execMdJmp (m : Fin 24) (u : List Ecc) (s : State) : Out :=
  .next (s.mdCtl m u 1 0x7FFF (fun pc w s => s.mdFlow m pc (s.mdJump m (bitsOf w 0 15) 2)))

/-- A JCC condition (R250). -/
def State.jccHolds (s : State) (m : Fin 24) (c : Nat) : Bool :=
  match c with
  | 0 => true
  | 1 => s.sr m 9
  | 2 => !s.sr m 9
  | 3 => s.sr m 10
  | 4 => !s.sr m 10
  | 5 => s.sr m 2
  | 6 => !s.sr m 2
  | 7 => s.sr m 8
  | _ => !s.sr m 8

def execMdJcc (m : Fin 24) (u : List Ecc) (s : State) : Out :=
  .next (s.mdCtl m u 2 0xF7FFF (fun pc w s =>
    if 8 < bitsOf w 16 4 then s.mdFault m 1 pc
    else s.mdFlow m pc (if s.jccHolds m (bitsOf w 16 4) then s.mdJump m (bitsOf w 0 15) 2 else s.mdSeq m pc)))

def execMdCall (m : Fin 24) (u : List Ecc) (s : State) : Out :=
  .next (s.mdCtl m u 3 0x7FFF (fun pc w s => s.mdFlow m pc (
    if 8 ≤ (s.md m).stack.length then s.mdFault m 3 pc
    else (s.modMd m (fun c => { c with stack := ((pc + 1) % 32768) :: c.stack })).mdJump m (bitsOf w 0 15) 2)))

def execMdRet (m : Fin 24) (u : List Ecc) (s : State) : Out :=
  .next (s.mdCtl m u 4 0 (fun pc _ s => s.mdFlow m pc (
    match (s.md m).stack with
    | [] => s.mdFault m 3 pc
    | a :: r => (s.modMd m (fun c => { c with stack := r })).mdJump m a 2)))

/-- Begin a repeat block, or skip it (R252, R253). -/
def State.mdRepeat (s : State) (m : Fin 24) (pc count last : Nat) : State :=
  let l := (s.md m).reps
  if last < pc + 1 ∨ 3 ≤ l.length ∨ l.any (fun b => decide (b.last < last) || b.last == pc) then s.mdFault m 2 pc
  else if count = 0 then s.mdSeq m last
  else ((s.modMd m (fun c => { c with reps := ⟨pc + 1, last, count, c.held != some (pc + 1, last)⟩ :: c.reps })).mdJump m (pc + 1) 1)

def execMdRep (m : Fin 24) (u : List Ecc) (s : State) : Out :=
  .next (s.mdCtl m u 5 0x1FFFFFF (fun pc w s =>
    if bitsOf w 15 10 = 0 then s.mdFault m 1 pc else s.mdRepeat m pc (bitsOf w 15 10) (bitsOf w 0 15)))
def execMdRepr (m : Fin 24) (u : List Ecc) (s : State) : Out :=
  .next (s.mdCtl m u 6 0x7FFFF (fun pc w s => s.mdRepeat m pc (s.mreg m (bitsOf w 15 4)) (bitsOf w 0 15)))

def execMdLdi (m : Fin 24) (u : List Ecc) (s : State) : Out :=
  .next (s.mdCtl m u 7 0x3FFFFF (fun pc w s =>
    if bitsOf w 16 6 = 0x3F then s.mdFault m 1 pc else (s.mwrite m (bitsOf w 16 6) (bitsOf w 0 16)).mdSeq m pc))

def execMdMove (m : Fin 24) (u : List Ecc) (s : State) : Out :=
  .next (s.mdCtl m u 8 0xFFF (fun pc w s =>
    if bitsOf w 6 6 = 0x3F ∨ bitsOf w 0 6 = 0x3F then s.mdFault m 1 pc
    else (s.mwrite m (bitsOf w 6 6) (s.mreg m (bitsOf w 0 6))).mdSeq m pc))

/-- The word a control-format memory operand names: memory k, address. -/
def ldWord (k a : Nat) : Nat := if k = 2 then a % 32768 else a

def execMdLd (m : Fin 24) (u : List Ecc) (s : State) : Out :=
  .next (s.mdCtl m u 9 0x3BFFFFF (fun pc w s =>
    let k := bitsOf w 24 2
    if k = 3 ∨ bitsOf w 16 6 = 0x3F then s.mdFault m 1 pc
    else
      let a := ldWord k (bitsOf w 0 16)
      let t := s.mdTouch m [(k, a, nth u 1 .clean)]
      if t.1 then t.2.mdFault m 4 pc
      else
        let v := (s.md m).read k a
        let n := t.2.mwrite m (bitsOf w 16 6) (if bitOf w 23 then v / 65536 else v % 65536)
        (n.mdCycles m (if k = 2 ∧ !(s.md m).cached then 2 else 1)).mdNext m pc))

def execMdSt (m : Fin 24) (u : List Ecc) (s : State) : Out :=
  .next (s.mdCtl m u 0xA 0x1BFFFFF (fun pc w s =>
    let k := bitsOf w 24 1
    if bitsOf w 16 6 = 0x3F then s.mdFault m 1 pc
    else
      let a := bitsOf w 0 16
      let t := s.mdTouch m [(k, a, nth u 1 .clean)]
      if t.1 then t.2.mdFault m 4 pc
      else
        let old := (s.md m).read k a
        let v := s.mreg m (bitsOf w 16 6)
        (t.2.modMd m (fun c => c.write k a (if bitOf w 23 then old % 65536 + 65536 * v else old / 65536 * 65536 + v))).mdSeq m pc))

def execMdSrm (m : Fin 24) (u : List Ecc) (s : State) : Out :=
  .next (s.mdCtl m u 0xB 0x1FFFF (fun pc w s =>
    let mask := bitsOf w 0 6
    let v := s.mreg m 0x3C
    let bits := if bitOf w 16 then v ||| mask else v &&& (65535 ^^^ mask)
    (s.mset m 0x3C bits).mdSeq m pc))

/-! Events (R254) -/

def State.evPending (s : State) (m e : Nat) : Bool := bitOf (s.rd (R.MDSP_EVPEND m (e / 32))).toNat (e % 32)
def State.evSet (s : State) (m e : Nat) (b : Bool) : State :=
  let w := s.rd (R.MDSP_EVPEND m (e / 32))
  s.wr (R.MDSP_EVPEND m (e / 32)) (if b then w ||| (1#32 <<< (e % 32)) else w &&& ~~~ (1#32 <<< (e % 32)))

/-- An event is made pending. -/
def State.eventAt (s : State) (m : Fin 24) (e : Nat) : State :=
  if s.evPending m e then s.raise (R.MDSP_CAUSE m) F.MDSP_CAUSE_EVOVF else s.evSet m e true

/-- WAITE: continues, or waits with the next instruction already chosen. -/
def execMdWaite (m : Fin 24) (u : List Ecc) (s : State) : Out :=
  .next (s.mdCtl m u 0xC 0xFF (fun pc w s =>
    let e := bitsOf w 0 8
    if s.evPending m e then (s.evSet m e false).mdSeq m pc
    else ((s.mdSeq m pc).setMdState m 2).modMd m (fun c => { c with waitEv := some (e, s.now) })))

/-- WAIT_WAKE: a core in WAIT sees its event; the cycles waited count. -/
def execWaitWake (m : Fin 24) (s : State) : Out :=
  match (s.md m).waitEv with
  | none => .next s
  | some (e, _) =>
    if s.mdState m ≠ 2 ∨ s.mdFrozen m ∨ !s.evPending m e then .next s
    else .next ((((s.mdSettle m).evSet m e false).setMdState m 1).modMd m (fun c => { c with waitEv := none }))

def execMdspEvset (m : Fin 24) (ev : Fin 256) (s : State) : Out := .next (s.eventAt m ev)

/-- MDSP_TRIG_EVENT: the oldest class 0x2 trigger of the die for this core (02 R57). -/
def execMdspTrigEvent (m : Fin 24) (s : State) : Out :=
  let d : Fin 6 := ⟨m.val / 4, by omega⟩
  match (s.c d).trigs.find? (fun t => t.2.1 == 2 && t.2.2 % 4 == m.val % 4) with
  | none => .next s
  | some t =>
    .next (((s.at_ t.1).modC d (fun c => { c with trigs := c.trigs.erase t })).eventAt m (t.2.2 / 256 % 256))

def execMdSig (m : Fin 24) (u : List Ecc) (s : State) : Out :=
  .next (s.mdCtl m u 0xD 0x3FFFF (fun pc w s =>
    match bitsOf w 16 2 with
    | 0 => ((s.setF (R.MDSP_SCODE m) F.MDSP_SCODE_CODE (bitsOf w 0 16)).raise (R.MDSP_CAUSE m) F.MDSP_CAUSE_SIG).mdSeq m pc
    | 1 => (s.modC ⟨m.val / 4, by omega⟩ (fun c => { c with trigs := c.trigs ++ [(s.now, 3, bitsOf w 0 5)] })).mdSeq m pc
    | _ => s.mdFault m 1 pc))

/-- HINC (R256). -/
def execMdHinc (m : Fin 24) (u : List Ecc) (s : State) : Out :=
  .next (s.mdCtl m u 0xE 0x13F8000 (fun pc w s =>
    let k := bitsOf w 24 1
    let n := bitsOf w 19 3
    let l := s.mreg m (0x28 + n)
    let i := s.dreg m (bitsOf w 15 4) - signedOf 16 (s.mreg m (0x18 + n))
    let i := if l = 0 then i else max 0 (min ((l : Int) - 1) i)
    let a := unsignedOf 16 ((s.mreg m (0x20 + n) : Int) + i)
    let t := s.mdTouch m [(k, a, nth u 1 .clean)]
    if t.1 then t.2.mdFault m 4 pc
    else
      let v := (s.md m).read k a
      let n := if v = 4294967295 then t.2.orSr m 5 true else t.2.modMd m (fun c => c.write k a (v + 1))
      n.mdSeq m pc))

/-! Run control (R257 to R259) -/

/-- The core is held by self-test (17 R559). -/
def State.coreHeld (s : State) (m : Nat) : Bool := s.bistHeld (m / 4) (0x10 + m % 4)

def execMdspStart (m : Fin 24) (s : State) : Out :=
  if s.mdState m = 1 ∨ s.mdState m = 2 ∨ s.coreHeld m then .next (s.raise (R.MDSP_CAUSE m) F.MDSP_CAUSE_CMDERR)
  else
    let s := s.modMd m (fun c => { c with stack := [], reps := [], held := none, waitEv := none })
    let s := (s.setF (R.MDSP_PC m) F.MDSP_PC_ADDR (s.fld (R.MDSP_ENTRY m) F.MDSP_ENTRY_ADDR)).mset m 0x3C 1
    let s := ((s.mset m 0x3D 15).wr (R.MDSP_FAULT m) 0).wr (R.MDSP_CYC m) 0
    .next ((s.setMdState m 1).mdShow m)

def execMdspStop (m : Fin 24) (s : State) : Out :=
  if s.mdState m = 1 then .next ((s.setMdState m 0).mdDiscard m)
  else if s.mdState m = 2 then .next (((s.mdSettle m).setMdState m 0).mdDiscard m)
  else .next s

/-! Accesses from the promenade (R224 to R227) -/

/-- The memory and byte offset an offset of the window names. -/
def mdPlace (off : Nat) : Option (Nat × Nat) :=
  if off < 0x40000 then some (0, off)
  else if off < 0x80000 then some (1, off - 0x40000)
  else if off < 0xA0000 then some (2, off - 0x80000)
  else none

/-- A byte of a core's memory. -/
def Mdsp.byte (c : Mdsp) (k a : Nat) : Nat := bitsOf (c.read k (a / 4)) (8 * (a % 4)) 8
def Mdsp.putByte (c : Mdsp) (k a v : Nat) : Mdsp :=
  let w := c.read k (a / 4)
  c.write k (a / 4) (w - bitsOf w (8 * (a % 4)) 8 * 2 ^ (8 * (a % 4)) + v % 256 * 2 ^ (8 * (a % 4)))

/-- A byte of the window (R224). -/
def Mdsp.winByte (c : Mdsp) (o : Nat) : Nat := match mdPlace o with | none => 0 | some (k, a) => c.byte k a
def Mdsp.putWin (c : Mdsp) (o v : Nat) : Mdsp := match mdPlace o with | none => c | some (k, a) => c.putByte k a v

/-- The memory and the first word of a check granule of the window. -/
def mdWinGran (g : Nat) : Nat × Nat := match mdPlace (8 * g) with | none => (0, 0) | some (k, a) => (k, a / 4)

/-- MDSP_MEM_ACCESS: upsets are by granule of the access. -/
def execMdspMemAccess (m : Fin 24) (off len : Nat) (write : Bool) (data : List Nat) (upset : List Ecc) (s : State) : Out :=
  let len := if write then data.length else len
  if 0xA0000 < off + len then .next (s.answer .errDecode [])
  else if 0x80000 < off + len ∧ (s.mdState m = 1 ∨ s.mdState m = 2) then .next (s.answer .errDenied [])
  else
    let gs := granules off len
    let u (g : Nat) : Ecc := nth upset (g - off / 8) .clean
    let bad (g : Nat) : Bool := s.mdEcc m (mdWinGran g).1 (mdWinGran g).2 (u g) == .ue
    let s := forEach gs (fun g s => s.mdMark m (mdWinGran g).1 (mdWinGran g).2 (u g)) s
    if write then
      if gs.any (fun g => !covered off len g && bad g) then .next (s.answer .errData [])
      else
        let s := s.modMd m (fun c => (List.range len).foldl (fun c i => c.putWin (off + i) (nth data i 0)) c)
        .next ((s.modMd m (fun c => { c with ue := c.ue.filter (fun x =>
          !gs.any (fun g => covered off len g && x == mdGran (mdWinGran g).1 (mdWinGran g).2)) })).answer .ok [])
    else if gs.any bad then .next (s.answer .errData [])
    else .next (s.answer .ok ((List.range len).map (fun i => (s.md m).winByte (off + i))))

end Sys2Proof.Machine
end

