-- ==== Sys2Proof/Machine/Tree.lean ====
section
/-! DEFINITION. Machine/Tree.lean: the interrupt tree and the conditions of the MSI-X vectors (18_interrupts_events.md R563 to
R571). -/
namespace Sys2Proof.Machine

/-! The tree (R563 to R568). Summary registers store nothing. -/

/-- A leaf requests. -/
def State.leafReq (s : State) (cause en : Nat) : Bool := (s.rd cause &&& s.rd en) != 0

/-- MON_CAUSE as it reads: its OVF bits stand with the counters. -/
def State.monCause (s : State) (d : Fin 6) : Word := s.rd (R.MON_CAUSE d) ||| (s.mon[d].ovf.setWidth 32)

/-- DIS of a die as it reads (R564), die isolation apart. -/
def State.disBits (s : State) (d : Fin 6) : List Bool :=
  [0, 1, 2, 3].map (fun k =>
      s.leafReq (R.VSQ_CAUSE (4 * d.val + k)) (R.VSQ_CAUSE_EN (4 * d.val + k)) ||
      s.leafReq (R.CH_CAUSE (4 * d.val + k)) (R.CH_CAUSE_EN (4 * d.val + k)) ||
      s.leafReq (R.FCU_CAUSE (4 * d.val + k)) (R.FCU_CAUSE_EN (4 * d.val + k))) ++
  [s.leafReq (R.RAE_CAUSE d) (R.RAE_CAUSE_EN d)] ++
  [0, 1, 2, 3].map (fun c => s.leafReq (R.MDSP_CAUSE (4 * d.val + c)) (R.MDSP_CAUSE_EN (4 * d.val + c))) ++
  [s.leafReq (R.DMA_DONE d) (R.DMA_DONE_EN d) || s.leafReq (R.DMA_ERR d) (R.DMA_ERR_EN d) ||
     s.leafReq (R.DMA_ROVF d) (R.DMA_ROVF_EN d) || s.leafReq (R.DMA_CAUSE d) (R.DMA_CAUSE_EN d),
   s.leafReq (R.PROM_CAUSE d) (R.PROM_CAUSE_EN d),
   [0, 1, 2, 3].any (fun p => s.leafReq (R.MEMP_CAUSE (4 * d.val + p)) (R.MEMP_CAUSE_EN (4 * d.val + p))),
   s.leafReq (R.VLT_CAUSE d) (R.VLT_CAUSE_EN d),
   [0, 1, 2].any (fun k => s.leafReq (R.SEAM_CAUSE d k) (R.SEAM_CAUSE_EN d k)),
   s.leafReq (R.CFG_CAUSE d) (R.CFG_CAUSE_EN d),
   s.leafReq (R.FAB_CAUSE d) (R.FAB_CAUSE_EN d),
   s.leafReq (R.CC_CAUSE d) (R.CC_CAUSE_EN d),
   s.leafReq (R.BIST_CAUSE d) (R.BIST_CAUSE_EN d),
   (s.monCause d &&& s.rd (R.MON_CAUSE_EN d)) != 0,
   d == 0 && s.leafReq R.PKG_EVT R.PKG_EVT_EN,
   d == 0 && s.leafReq R.KPR_CAUSE R.KPR_CAUSE_EN,
   d == 0 && s.leafReq R.TSY_CAUSE R.TSY_CAUSE_EN,
   d == 0 && s.leafReq R.LED_CAUSE R.LED_CAUSE_EN]

/-- DIS of a die (R564). -/
def State.dis (s : State) (d : Fin 6) : Word := BitVec.ofNat 32 (bitsNat (s.disBits d))

/-- The die is isolated (10 R365): GIS takes nothing from it (R568). -/
def State.cut (s : State) (d : Nat) : Bool := s.isolated.toList.getD d true

/-- The host path of a die: DIS AND DIS_HEN without bits 19 to 22 (R565). -/
def State.hostBits (s : State) (d : Fin 6) : Word := s.dis d &&& s.rd (R.DIS_HEN d) &&& 0xFF87FFFF#32

/-- GIS as it reads (R566, R568). -/
def State.gis (s : State) : Word :=
  BitVec.ofNat 32 (bitsNat ((List.finRange 6).map (fun d => !s.cut d.val && s.hostBits d != 0) ++ [false, false] ++
    [s.leafReq R.KPR_CAUSE R.KPR_CAUSE_EN, s.leafReq R.TSY_CAUSE R.TSY_CAUSE_EN, s.leafReq R.LED_CAUSE R.LED_CAUSE_EN,
     s.leafReq R.PKG_EVT R.PKG_EVT_EN, false, false, false, false, s.fld (R.SEAM_DSTAT 0) F.SEAM_DSTAT_ABSENT != 0]))

/-- The device or package is held in reset. -/
def State.inReset (s : State) : Bool := s.power.porLow || s.power.sysLow || s.power.hot

/-- IRQ_B is driven low (R566). -/
def State.irqLow (s : State) : Bool :=
  s.flag R.GIS_CTRL F.GIS_CTRL_PINEN && (s.gis &&& s.rd R.GIS_EN) != 0 && !s.inReset

/-- The machine external interrupt of core c of a die (R565). -/
def State.extIrq (s : State) (d : Fin 6) (c : Nat) : Bool := (s.dis d &&& s.rd (R.DIS_CEN d c)) != 0

/-! MSI-X (R570 to R572) -/

/-- DIS_VMAP's field of DIS bit b (R578). -/
def State.vmap (s : State) (d b : Nat) : Nat := bitsOf (s.rd (R.DIS_VMAP d (b / 8))).toNat (b % 8 * 4) 3

/-- The condition of a vector (R570). -/
def State.vecCond (s : State) (v : Nat) : Bool :=
  if h : v < 48 then
    let d : Fin 6 := ⟨v / 8, by omega⟩
    !s.cut d.val && (List.range 23).any (fun b => bitOf (s.hostBits d).toNat b && s.vmap d.val b == v % 8)
  else
    match v with
    | 48 => bitOf (s.gis &&& s.rd R.GIS_EN).toNat 8
    | 49 => bitOf (s.gis &&& s.rd R.GIS_EN).toNat 9
    | 50 => bitOf (s.gis &&& s.rd R.GIS_EN).toNat 10
    | 51 => bitOf (s.gis &&& s.rd R.GIS_EN).toNat 16
    | 52 => bitOf (s.gis &&& s.rd R.GIS_EN).toNat 11
    | _ => false

/-- What a word of the MSI-X table reads after a reset of the endpoint: every vector masked (PRESUMED from the PCI
Express specification, notes/assumptions/60.md). -/
def msixDefault (w : Nat) : Word := if w % 4 = 3 then 1 else 0

/-- A word of the MSI-X table: word 4v holds the address, 4v + 2 the data, 4v + 3 the mask. -/
def State.msixWord (s : State) (w : Nat) : Word := Sparse.get msixDefault s.pcie.table w

/-- A vector can be sent: MSI-X is enabled and neither the vector nor the function is masked. -/
def State.vecOpen (s : State) (v : Nat) : Bool :=
  s.pcie.en && !s.pcie.fmask && (s.msixWord (4 * v + 3)).toNat % 2 == 0

/-- Bit v of a 64-bit mask set or cleared. -/
def setBit64 (m : BitVec 64) (v : Nat) (b : Bool) : BitVec 64 :=
  if b then m ||| BitVec.ofNat 64 (2 ^ v) else m &&& ~~~(BitVec.ofNat 64 (2 ^ v))

def State.setPending (s : State) (v : Nat) (b : Bool) : State :=
  { s with pcie := { s.pcie with pba := setBit64 s.pcie.pba v b } }

/-- Send a vector's message, or set its pending bit (R571). -/
def State.sendVec (s : State) (v : Nat) : State :=
  if s.vecOpen v then s.emit (.msix v ((s.msixWord (4 * v + 1)) ++ (s.msixWord (4 * v))) (s.msixWord (4 * v + 2)))
  else s.setPending v true

/-- Conditions that have fallen are noted, so that the next rise is an edge (R571). -/
def State.noteFalls (s : State) : State :=
  let p := BitVec.ofNat 64 (bitsNat ((List.range 64).map (fun v => bitOf s.pcie.prev.toNat v && s.vecCond v)))
  { s with pcie := { s.pcie with prev := p } }

end Sys2Proof.Machine
end

