-- ==== Sys2Proof/Machine/DmaCtl.lean ====
section
/-! DEFINITION. Machine/DmaCtl.lean: the channels of the DMA engine: states, commands, requests, completion, errors
(14_dma.md R478 to R490). -/
namespace Sys2Proof.Machine

def State.dm (s : State) (d : Fin 6) (c : Fin 32) : DmaCh := (s.dma[d]).ch[c]

def State.setDm (s : State) (d : Fin 6) (c : Fin 32) (x : DmaCh) : State :=
  let e := s.dma[d]
  { s with dma := s.dma.set d { e with ch := e.ch.set c x } }

/-- DMA_CHc_STAT.STATE: 0 IDLE, 1 RUN, 2 WAITREQ, 3 FENCE, 4 DONE, 5 ERROR (R482). -/
def State.dmaState (s : State) (d : Fin 6) (c : Fin 32) : Nat := s.fld (R.DMA_CH_STAT d c) F.DMA_CH_STAT_STATE
def State.setDmaState (s : State) (d : Fin 6) (c : Fin 32) (n : Nat) : State := s.setF (R.DMA_CH_STAT d c) F.DMA_CH_STAT_STATE n
def State.dmaPend (s : State) (d : Fin 6) (c : Fin 32) : Nat := s.fld (R.DMA_CH_STAT d c) F.DMA_CH_STAT_PEND
def State.dmaCount (s : State) (d : Fin 6) (c : Fin 32) : Nat := (s.rd (R.DMA_CH_COUNT d c)).toNat
def State.dmaCmdErr (s : State) (d : Fin 6) : State := s.raise (R.DMA_CAUSE d) F.DMA_CAUSE_CMDERR

/-- RUN, WAITREQ or FENCE. -/
def State.dmaBusy (s : State) (d : Fin 6) (c : Fin 32) : Bool := [1, 2, 3].contains (s.dmaState d c)

/-- A bit of one of the die's channel masks DMA_DONE, DMA_ERR, DMA_ROVF. -/
def State.dmaBit (s : State) (reg : Nat) (c : Fin 32) : State := s.wr reg (s.rd reg ||| BitVec.ofNat 32 (2 ^ c.val))

/-! Descriptors (R478, R479) -/

def descOp (v : BitVec 256) : Nat := bitsOf v.toNat 0 4
def descSfix (v : BitVec 256) : Bool := bitOf v.toNat 4
def descDfix (v : BitVec 256) : Bool := bitOf v.toNat 5
def descElem (v : BitVec 256) : Nat := if bitOf v.toNat 6 then 8 else 4
def descPace (v : BitVec 256) : Bool := bitOf v.toNat 7
def descBurst (v : BitVec 256) : Nat := 64 * 2 ^ bitsOf v.toNat 8 3
def descIrq (v : BitVec 256) : Bool := bitOf v.toNat 11
def descLast (v : BitVec 256) : Bool := bitOf v.toNat 12
def descCount (v : BitVec 256) : Nat := bitsOf v.toNat 32 32
def descSaddr (v : BitVec 256) : Nat := bitsOf v.toNat 64 48
def descSwrap (v : BitVec 256) : Nat := bitsOf v.toNat 112 5
def descDaddr (v : BitVec 256) : Nat := bitsOf v.toNat 128 48
def descDwrap (v : BitVec 256) : Nat := bitsOf v.toNat 176 5
def descNext (v : BitVec 256) : Nat := bitsOf v.toNat 192 48

/-- A format error of R479. -/
def descBad (v : BitVec 256) : Bool :=
  let fixedBad (fix : Bool) (a : Nat) : Bool := fix && (descCount v % descElem v != 0 || a % descElem v != 0)
  decide (2 ≤ descOp v) || bitsOf v.toNat 8 3 == 7 || bitsOf v.toNat 13 19 != 0 || bitsOf v.toNat 117 11 != 0 ||
  bitsOf v.toNat 181 11 != 0 || bitsOf v.toNat 240 16 != 0 || (descOp v == 0 && descCount v == 0) ||
  (descOp v == 1 && descCount v != 0) || decide (1 ≤ descSwrap v ∧ descSwrap v ≤ 5) ||
  decide (1 ≤ descDwrap v ∧ descDwrap v ≤ 5) || fixedBad (descSfix v) (descSaddr v) || fixedBad (descDfix v) (descDaddr v) ||
  (!descLast v && descNext v % 32 != 0)

/-- The address of byte i on one side of a descriptor (R476, R477). -/
def descAddr (fix : Bool) (elem a wrap i : Nat) : Nat :=
  if fix then a + i % elem
  else if wrap = 0 then (a + i) % 2 ^ 48
  else a - a % 2 ^ wrap + (a + i) % 2 ^ wrap

/-- The bytes of the beat at byte i with n bytes left: an element half of 4 bytes at a fixed address, else up to the end
of the 64-byte line (R475, R476). -/
def beatLen (fix : Bool) (a n : Nat) : Nat := min n (if fix then 4 else 64 - a % 64)

/-! Going on (R480, R481, R483, R488) -/

/-- A channel that STOP ends enters IDLE once it holds no data that it has read. -/
def State.dmaSettle (s : State) (d : Fin 6) (c : Fin 32) : State :=
  let x := s.dm d c
  if x.stop && x.stage.isEmpty && !x.fly.any (fun b => !b.write) then
    (s.setDm d c { x with stop := false, burst := none, desc := none, fetching := false }).setDmaState d c 0
  else s

/-- The next burst of the current descriptor: begun, or waiting for its request. -/
def State.dmaBurst (s : State) (d : Fin 6) (c : Fin 32) (v : BitVec 256) : State :=
  let left := s.dmaCount d c
  let x := s.dm d c
  if descPace v then (s.setDm d c { x with burst := none, paced := true }).setDmaState d c 2
  else (s.setDm d c { x with burst := some (descCount v - left, min left (descBurst v), 0, 0), paced := false }).setDmaState d c 1

/-- A descriptor completes: its interrupt, then the next descriptor or DONE. -/
def State.dmaComplete (s : State) (d : Fin 6) (c : Fin 32) (v : BitVec 256) : State :=
  let x := s.dm d c
  let s := if descIrq v then s.dmaBit (R.DMA_DONE d) c else s
  if descLast v then (s.setDm d c { x with desc := none, burst := none, stop := false }).setDmaState d c 4
  else (s.setDm d c { x with desc := none, burst := none, descAt := descNext v, fetching := true }).setDmaState d c 1

/-- A FENCE completes once no write is in flight. -/
def State.dmaFence (s : State) (d : Fin 6) (c : Fin 32) : State :=
  match (s.dm d c).desc with
  | some v => if s.dmaState d c = 3 ∧ !(s.dm d c).fly.any (fun b => b.write) then s.dmaComplete d c v else s
  | none => s

/-! Errors (R489, R490) -/

/-- The error is recorded once no beat is in flight. -/
def State.dmaErrEnd (s : State) (d : Fin 6) (c : Fin 32) : State :=
  let x := s.dm d c
  match x.err with
  | some (a, desc, kind, resp, done) =>
    if x.fly.isEmpty then
      let s := (s.setDm d c { x with err := none }).dmaBit (R.DMA_ERR d) c
      let s := s.wrPair (R.DMA_ERRLOG_ALO d) (R.DMA_ERRLOG_AHI d) (a % 2 ^ 48)
      let s := s.wrPair (R.DMA_ERRLOG_DLO d) (R.DMA_ERRLOG_DHI d) (desc % 2 ^ 48)
      s.wr (R.DMA_ERRLOG_INFO d) (BitVec.ofNat 32 (c.val + 32 * kind + 256 * resp + 2048 * b2n done))
    else s
  | none => s

/-- A channel enters ERROR; one that is there already does not again. -/
def State.dmaError (s : State) (d : Fin 6) (c : Fin 32) (a desc kind resp : Nat) : State :=
  if s.dmaState d c = 5 then s.dmaErrEnd d c
  else
    let x := s.dm d c
    let x : DmaCh := { x with
      desc := none
      fetching := false
      burst := none
      stage := []
      stop := false
      fly := x.fly.map (fun b => { b with live := false })
      err := some (a, desc, kind, resp, s.dmaCount d c == 0) }
    ((s.setDm d c x).setDmaState d c 5).dmaErrEnd d c

/-! Requests (R487, R488) -/

def State.dmaRsel (s : State) (d : Fin 6) (c : Fin 32) : Nat := s.fld (R.DMA_CH_CTRL d c) F.DMA_CH_CTRL_RSEL

/-- A pulse: PEND + 1, or lost at 255. -/
def State.dmaPulse (s : State) (d : Fin 6) (c : Fin 32) : State :=
  if s.dmaPend d c = 255 then s.dmaBit (R.DMA_ROVF d) c
  else s.setF (R.DMA_CH_STAT d c) F.DMA_CH_STAT_PEND (s.dmaPend d c + 1)

/-- The level of a channel's fabric request line (09 R339, 11 R391, R399). -/
def State.dmaLine (s : State) (d : Fin 6) (c : Fin 32) : Bool := bitOf (s.fabric d).reqs.toNat c && s.lineLive d (16 + c.val)

/-- A channel's fabric request line takes a level; a rise is a pulse for a channel that counts them (R487). -/
def State.setReq (s : State) (d : Fin 6) (c : Fin 32) (level : Bool) : State :=
  let v := level && s.lineLive d (16 + c.val)
  let rise := v && !s.dmaLine d c
  let s := s.modFab d (fun x => { x with
    reqs := if v then x.reqs ||| BitVec.ofNat 32 (2 ^ c.val) else x.reqs &&& ~~~BitVec.ofNat 32 (2 ^ c.val) })
  if rise ∧ s.dmaRsel d c = 13 then s.dmaPulse d c else s

/-- The level source of a channel is high. -/
def State.dmaLevel (s : State) (d : Fin 6) (c : Fin 32) : Bool :=
  let r := s.dmaRsel d c
  let g (k : Nat) : Fin 24 := ⟨4 * d.val + k % 4, by omega⟩
  if r = 1 then s.dmaLine d c
  else if 4 ≤ r ∧ r ≤ 7 then
    decide (max 1 (s.fld (R.CH_STCTRL (g (r - 4))) F.CH_STCTRL_THR) ≤ s.stampCount (g (r - 4)))
  else if 8 ≤ r ∧ r ≤ 11 then s.rd (R.FCU_LWPTR (g (r - 8))) != s.rd (R.FCU_LRPTR (g (r - 8)))
  else if r = 12 then s.rd (R.RAE_RWPTR d) != s.rd (R.RAE_RRPTR d)
  else false

/-- PERIPHERAL_PULSE: a trigger of class 0x1 or a SIG of kind 1 reaches the channel, or its fabric line rises. -/
def execPeripheralPulse (d : Fin 6) (c : Fin 32) (s : State) : Out :=
  let r := s.dmaRsel d c
  if r = 13 then .next ((s.setReq d c false).setReq d c true)
  else if r = 2 ∨ r = 3 then
    match (s.c d).trigs.find? (fun t => t.2.1 == (if r = 2 then 1 else 3) && t.2.2 == c.val) with
    | some t => .next (((s.at_ t.1).modC d (fun k => { k with trigs := k.trigs.erase t })).dmaPulse d c)
    | none => .next s
  else .next s

/-- PACED_BURST_START: a burst that waits starts from PEND, or from its level once the previous paced burst has its read
responses. `line` is the level of the channel's fabric request line. -/
def execPacedBurstStart (d : Fin 6) (c : Fin 32) (line : Bool) (s : State) : Out :=
  let s := s.setReq d c line
  let x := s.dm d c
  match x.desc with
  | some v =>
    if s.dmaState d c = 2 then
      let go (s : State) : State :=
        let left := s.dmaCount d c
        (s.setDm d c { x with burst := some (descCount v - left, min left (descBurst v), 0, 0) }).setDmaState d c 1
      if s.dmaPend d c != 0 then .next (go (s.setF (R.DMA_CH_STAT d c) F.DMA_CH_STAT_PEND (s.dmaPend d c - 1)))
      else if s.dmaLevel d c && !x.fly.any (fun b => !b.write) then .next (go s)
      else .next s
    else .next s
  | none => .next s

/-! Commands (R483, R484) -/

/-- START: accepted in IDLE and DONE. -/
def State.dmaStart (s : State) (d : Fin 6) (c : Fin 32) : State :=
  if s.dmaState d c = 0 ∨ s.dmaState d c = 4 then
    let x := s.dm d c
    let desc := s.rdPair (R.DMA_CH_DESC_LO d c) (R.DMA_CH_DESC_HI d c)
    (s.setDm d c { x with desc := none, fetching := true, burst := none, stage := [], stop := false, descAt := desc }).setDmaState d c 1
  else s.dmaCmdErr d

/-- STOP in RUN, WAITREQ or FENCE; elsewhere it is ignored. -/
def State.dmaStop (s : State) (d : Fin 6) (c : Fin 32) : State :=
  if s.dmaBusy d c then
    let x := s.dm d c
    (s.setDm d c { x with stop := true }).dmaSettle d c
  else s.dmaCmdErr d

/-- CLR: accepted in ERROR only. -/
def State.dmaClr (s : State) (d : Fin 6) (c : Fin 32) : State :=
  if s.dmaState d c = 5 then
    let x := s.dm d c
    let s := (s.setDm d c { x with err := none }).setDmaState d c 0
    (s.wr (R.DMA_ERR d) (s.rd (R.DMA_ERR d) &&& ~~~(BitVec.ofNat 32 (2 ^ c.val)))).noteFalls
  else s.dmaCmdErr d

/-- A write of RSEL: pulses that have reached the channel for the old source are past. -/
def State.dmaSetRsel (s : State) (d : Fin 6) (c : Fin 32) (n : Nat) : State :=
  if n = s.dmaRsel d c then s
  else if s.dmaBusy d c then s.dmaCmdErr d
  else
    let t0 := s.now
    let s := s.modC d (fun k => { k with
      trigs := k.trigs.filter (fun t => !((t.2.1 == 1 || t.2.1 == 3) && t.2.2 == c.val && decide (t.1 ≤ t0))) })
    s.setF (R.DMA_CH_CTRL d c) F.DMA_CH_CTRL_RSEL n

/-- A write of DMA_CHc_CTRL. -/
def State.dmaCtrl (s : State) (d : Fin 6) (c : Fin 32) (v : Word) : State :=
  let s := s.setF (R.DMA_CH_CTRL d c) F.DMA_CH_CTRL_PRIO (F.DMA_CH_CTRL_PRIO.get v)
  let s := s.dmaSetRsel d c (F.DMA_CH_CTRL_RSEL.get v)
  let s := if F.DMA_CH_CTRL_CLR.get v = 1 then s.dmaClr d c else s
  let s := if F.DMA_CH_CTRL_SWREQ.get v = 1 then s.dmaPulse d c else s
  if F.DMA_CH_CTRL_STOP.get v = 1 then s.dmaStop d c
  else if F.DMA_CH_CTRL_START.get v = 1 then s.dmaStart d c
  else s

/-- A write of one register of the pair DMA_CHc_DESC. -/
def State.dmaDesc (s : State) (d : Fin 6) (c : Fin 32) (a : Nat) (v : Word) : State :=
  if s.dmaBusy d c then s.dmaCmdErr d else s.wrRW a v

/-- DMA_START, DMA_STOP, DMA_CLR, SWREQ: the writes of DMA_CHc_CTRL that set one bit. -/
def execDmaStart (d : Fin 6) (c : Fin 32) (s : State) : Out := .next (s.dmaStart d c)
def execDmaStop (d : Fin 6) (c : Fin 32) (s : State) : Out := .next (s.dmaStop d c)
def execDmaClr (d : Fin 6) (c : Fin 32) (s : State) : Out := .next (s.dmaClr d c)
def execSwreq (d : Fin 6) (c : Fin 32) (s : State) : Out := .next (s.dmaPulse d c)

end Sys2Proof.Machine
end

