-- ==== Sys2Proof/Machine/Fabric.lean ====
section
/-! DEFINITION. Machine/Fabric.lean: what configured logic computes: wires, cells, block outputs, and the crossings of a
seam (09_fabric.md R300 to R310, R320 to R329, 10_seams.md R352 to R356). The frame layout of block settings and of region
clocks, and the order of a block's outputs, are not in the spec: Config holds them (notes/assumptions/3.md). -/
namespace Sys2Proof.Machine

/-! Tiles (R300, R301) -/

/-- What a tile column holds, with its number among the columns of its kind in the region. -/
inductive TileKind where
  | basket (i : Nat) | hamper (i : Nat) | cooler (i : Nat) | mult (i : Nat)
deriving DecidableEq, Repr

def hamperCols : List Nat := [4, 15, 26, 37, 48]
def coolerCols : List Nat := [7, 18, 29, 40, 51]
def multCols : List Nat := [10, 21, 32, 43]

def tileKind (c : Nat) : TileKind :=
  let x := c % 54
  if hamperCols.contains x then .hamper (hamperCols.idxOf x)
  else if coolerCols.contains x then .cooler (coolerCols.idxOf x)
  else if multCols.contains x then .mult (multCols.idxOf x)
  else .basket (x - ((hamperCols ++ coolerCols ++ multCols).filter (fun y => decide (y < x))).length)

/-- TYPE and COL of the frames of a tile column (R323). -/
def TileKind.frames (k : TileKind) : Nat × Nat :=
  match k with
  | .basket i => (0, i)
  | .hamper i => (1, i)
  | .mult i => (3, i)
  | .cooler i => (4, i)

def TileKind.isBasket (k : TileKind) : Bool := match k with | .basket _ => true | _ => false

/-- The region of a tile. -/
def regionOfTile (c r : Nat) : Nat := 8 * (r / 36) + c / 54

/-- 128 x n bits of a tile from minor m on, the lowest minor lowest (R325, R328). -/
def Fabric.tileField (x : Fabric) (d c r m n : Nat) : Nat :=
  let k := (tileKind c).frames
  (List.range n).foldl (fun acc j =>
    acc + bitsOf (x.frame (FrameAddr.word ⟨d, r / 36, c / 54, k.1, k.2, m + j⟩)).toNat (128 * (r % 36)) 128 * 2 ^ (128 * j)) 0

/-- Routing input select k, wire driver select w, crossbar select n of a tile. -/
def Fabric.rinSel (x : Fabric) (d c r k : Nat) : Nat :=
  bitsOf (x.tileField d c r (if (tileKind c).isBasket then 22 else 0) 4) (7 * k) 7
def Fabric.wireSel (x : Fabric) (d c r w : Nat) : Nat :=
  bitsOf (x.tileField d c r (if (tileKind c).isBasket then 26 else 4) 5) (5 * w) 5
def Fabric.pinSel (x : Fabric) (d c r n : Nat) : Nat := bitsOf (x.tileField d c r 14 8) (7 * n) 7

/-- The table of a cell, its settings word (R326), its basket's settings (R327). -/
def Fabric.table (x : Fabric) (d c r cell : Nat) : Nat := bitsOf (x.tileField d c r (cell / 2) 1) (64 * (cell % 2)) 64
def Fabric.cellSet (x : Fabric) (d c r cell : Nat) : Nat := bitsOf (x.tileField d c r (8 + cell / 4) 1) (32 * (cell % 4)) 32
def Fabric.basketSet (x : Fabric) (d c r : Nat) : Nat := x.tileField d c r 12 1

/-- Settings of flip-flop w (0 FF1, 1 FF2) of a cell: CKSEL, CESEL, SRSEL, INIT, SRVAL. -/
structure FfCfg where
  ck : Nat
  ce : Nat
  sr : Nat
  init : Bool
  srval : Bool
deriving DecidableEq, Repr

def ffCfg (set w : Nat) : FfCfg :=
  let v := bitsOf set (4 + 8 * w) 8
  ⟨bitsOf v 0 1, bitsOf v 1 3, bitsOf v 4 2, bitOf v 6, bitOf v 7⟩

/-- The store's key of a flip-flop, and back. -/
def ffKey (c r cell w : Nat) : Nat := ((c * 216 + r) * 16 + cell) * 2 + w

/-- INIT of a flip-flop. -/
def Fabric.initOf (x : Fabric) (d k : Nat) : Bool :=
  (ffCfg (x.cellSet d (k / 2 / 16 / 216) (k / 2 / 16 % 216) (k / 2 % 16)) (k % 2)).init

/-- GSR of a region (R320, R322): the die's or its meadow's. -/
def State.gsrAt (s : State) (d : Fin 6) (region : Nat) : Bool :=
  s.flag (R.FAB_STAT d) F.FAB_STAT_GSR ||
    (match s.meadowOf d region with | none => false | some m => (s.fabric d).mdGsr.contains m)

/-! Clock nets (R315, R316, R321) -/

/-- A regional net of a region takes this global net; 32 is constant low. -/
def Fabric.globalOf (x : Fabric) (region n : Nat) : Nat :=
  if 24 ≤ n then 32 else (x.sets.regional.lookup (24 * region + n)).getD 32

/-- A WREN step is in effect for what a net clocks: the net has had an edge at least 20 ns after it (R321). -/
def wrenSince (step edge : Option Nat) : Bool :=
  match step, edge with
  | some u, some e => decide (u + 20 * ns ≤ e)
  | _, _ => false

/-- WREN for what a global net clocks in a region. -/
def State.wrenOf (s : State) (d : Fin 6) (region net : Nat) : Bool :=
  let x := s.fabric d
  let e := x.netAt.lookup net
  s.flag (R.FAB_STAT d) F.FAB_STAT_WREN && wrenSince x.wrenAt e &&
  (match s.meadowOf d region with
   | none => true
   | some m => match x.mdWren.lookup m with | none => true | some t => wrenSince t e)

/-! Places of blocks (R301, R311, R314, R328) -/

/-- The first frame of a block RAM's contents; a hamper has 8 frames, a cooler 64. -/
def ramBaseAt (cooler : Bool) (d rrow rcol col n : Nat) : Nat :=
  FrameAddr.word ⟨d, rrow, rcol, if cooler then 5 else 2, col, if cooler then 64 * n else 8 * n⟩

/-- A slice's number on its die: 4 columns in each of 8 region columns, 192 slices in each from the bottom. -/
def sliceNo (rcol col rrow tile slice : Nat) : Nat := (4 * rcol + col) * 192 + (rrow * 4 + tile) * 8 + slice
def sliceRegion (k : Nat) : Nat := 8 * (k % 192 / 32) + k / 192 / 4

def RamPort.reset : RamPort := ⟨0, false, false, none, []⟩
def Fabric.ramPort (x : Fabric) (k : Nat) : RamPort := Sparse.get (fun _ => RamPort.reset) x.ram k
def Fabric.setRamPort (x : Fabric) (k : Nat) (p : RamPort) : Fabric := { x with ram := Sparse.put (fun _ => RamPort.reset) x.ram k p }
def Slice.reset : Slice := ⟨0, 0, 0, 0, 0, 0, false⟩
def Fabric.sliceAt (x : Fabric) (k : Nat) : Slice := Sparse.get (fun _ => Slice.reset) x.slice k
def Fabric.setSlice (x : Fabric) (k : Nat) (v : Slice) : Fabric := { x with slice := Sparse.put (fun _ => Slice.reset) x.slice k v }
def Gpio.reset : Gpio := ⟨false, false, false, none, false, false, false⟩
def Fabric.cell (x : Fabric) (k : Nat) : Gpio := Sparse.get (fun _ => Gpio.reset) x.gpio k
def Fabric.setCell (x : Fabric) (k : Nat) (v : Gpio) : Fabric := { x with gpio := Sparse.put (fun _ => Gpio.reset) x.gpio k v }

/-- A value the spec leaves open, by the place it stands at. -/
def State.freeBit (s : State) (k : Nat) : Bool := Config.freeBit s.freeCtr k

/-- The value of an output of the block in a tile (R309). -/
def State.blkOut (s : State) (d : Fin 6) (c r : Nat) (o : BlkOut) : Bool :=
  let x := s.fabric d
  let port (b : Bool) : RamPort :=
    match tileKind c with
    | .hamper i => x.ramPort (ramBaseAt false d (r / 36) (c / 54) i (r % 36 / 3) * 2 + b2n b)
    | .cooler i => x.ramPort (ramBaseAt true d (r / 36) (c / 54) i (r % 36 / 9) * 2 + b2n b)
    | _ => RamPort.reset
  let slice (j : Nat) : Slice :=
    match tileKind c with
    | .mult i => x.sliceAt (sliceNo (c / 54) i (r / 36) (r % 36 / 9) (j % 8))
    | _ => Slice.reset
  match o with
  | .ramQ b i => bitOf (port b).out.toNat i
  | .cor b => (port b).cor
  | .unc b => (port b).unc
  | .sliceR j i => bitOf (slice j).q.toNat i
  | .sliceOvf j => (slice j).ovf
  | .gpio k fall =>
    match x.sets.gpio.lookup k with
    | none => false
    | some set => if set.inReg then (if fall then (x.cell k).inpLow else (x.cell k).inp) else (x.cell k).level
  | .trg i =>
    let g : Fin 24 := ⟨(4 * d.val + c / 54 / 2) % 24, by omega⟩
    !s.fdFenced g && (s.g g).trgHigh i s.now
  | .other => s.freeBit ((c * 216 + r) * 64 * 2)

/-! Crossings (10 R352 to R356) -/

def State.seamEnd (s : State) (d k : Nat) : SeamEnd := s.seam.toList.getD (3 * d + k) SeamEnd.reset

/-- FAB lanes of a link. -/
def State.fabLanes (s : State) (d k : Nat) : Nat := s.fld (R.SEAM_ROLE d k) F.SEAM_ROLE_FAB

/-- The region of the far end's edge tile behind an incoming crossing: left and right edges face each other, and port 2
of a die of row 0 is at its bottom edge. -/
def farRegion (k tile e : Nat) : Nat :=
  match k with
  | 0 => regionOfTile 431 tile
  | 1 => regionOfTile 0 tile
  | _ => if e < 3 then regionOfTile tile 0 else regionOfTile tile 215

/-- The FAB lane of an incoming crossing is being replaced: until its traffic flows again, 20 us at most (10 R363). -/
def State.laneReplaced (s : State) (d k f : Nat) : Bool :=
  (s.seamEnd d k).repl.any (fun e => e.1 == f && decide (s.now < e.2 + 20000 * ns))

/-- An incoming crossing has its fence value (10 R356). -/
def State.crossFenced (s : State) (d k n : Nat) : Bool :=
  s.link d k != 2 || !s.flag (R.SEAM_STAT d k) F.SEAM_STAT_FABREL || s.laneReplaced d k (n / 32) ||
  (match neighbour d k with
   | none => true
   | some e => if h : e < 6 then s.regionFenced ⟨e, h⟩ (farRegion k (n / 2) e) else true)

/-- The fence value of an incoming crossing: what SEAM_FVALw held when its fence began (10 R369). -/
def State.fenceValue (s : State) (d k n : Nat) : Nat :=
  ((s.seamEnd d k).fvals.lookup n).getD (bitsOf (s.rd (R.SEAM_FVAL d k (n / 16))).toNat (2 * (n % 16)) 2)

/-- The value of incoming crossing n of a port; constant 0 where the link has none (10 R355). -/
def State.crossing (s : State) (d k n : Nat) : Bool :=
  if 32 * s.fabLanes d k ≤ n then false
  else
    let live := bitOf (Sparse.get (fun _ => (0 : BitVec 32)) (s.seamEnd d k).xin (n / 32)).toNat (n % 32)
    if s.crossFenced d k n then
      match s.fenceValue d k n with
      | 1 => true
      | 2 => live
      | _ => false
    else live

/-- Before a write of SEAM_FVALw: crossings that are fenced keep their fence value. -/
def State.keepFvals (s : State) (d k w : Nat) : State :=
  let now := ((List.range 16).map (fun m => 16 * w + m)).filter (s.crossFenced d k)
  s.setSeam d k (fun x => { x with fvals := now.map (fun n => (n, s.fenceValue d k n)) ++ x.fvals.filter (fun e => !now.contains e.1) })

/-- Crossings whose fence has ended follow SEAM_FVALw again. -/
def State.dropFvals (s : State) (d k : Nat) : State :=
  s.setSeam d k (fun x => { x with fvals := x.fvals.filter (fun e => s.crossFenced d k e.1) })

/-! Values of the logic (R303 to R310) -/

/-- A point of the logic: wire i of length code T (1, 2, 4, 12) started in direction D (N, E, S, W) at a tile; the
wire that ends there; a routing input; a crossbar pin; a cell's YL or YW; its carry in; its output n of R306. -/
inductive FabNode where
  | wire (c r D T i : Nat)
  | ended (c r D T i : Nat)
  | rin (c r k : Nat)
  | pin (c r n : Nat)
  | yl (c r cell : Nat)
  | yw (c r cell : Nat)
  | carry (c r cell : Nat)
  | out (c r n : Nat)
deriving DecidableEq, Repr

def wireLen (T : Nat) : Nat := match T with | 0 => 1 | 1 => 2 | 2 => 4 | _ => 12
def wireNo (D T i : Nat) : Nat := 28 * D + 8 * T + i

/-- An edge of the die that faces a seam port: the tiles of a side, seen in the direction that leaves it (10 R348, R354). -/
def seamSide (d D : Nat) : Option Nat :=
  match D with
  | 1 => if d % 3 < 2 then some 1 else none
  | 3 => if 0 < d % 3 then some 0 else none
  | 0 => if 3 ≤ d then some 2 else none
  | _ => if d < 3 then some 2 else none

/-- How far a wire of length code T that ends in a tile travelling D has come: its length, but in the last tile before the
die's edge, where the shortened wires end too (R308); a crossing does not end there (10 R354). -/
def wireDist (d c r D T i : Nat) : Nat :=
  let last : Bool := match D with | 0 => r == 215 | 1 => c == 431 | 2 => r == 0 | _ => c == 0
  if last && !(T == 0 && decide (i < 2) && (seamSide d D).isSome) then Config.edgeStart c r D T i % (wireLen T + 1) else wireLen T

/-- Where the wire of length code T that ends in a tile travelling D starts. -/
def wireStart (d c r D T i : Nat) : Option (Nat × Nat) :=
  let l := wireDist d c r D T i
  match D with
  | 0 => if l ≤ r then some (c, r - l) else none
  | 1 => if l ≤ c then some (c - l, r) else none
  | 2 => if r + l < 216 then some (c, r + l) else none
  | _ => if c + l < 432 then some (c + l, r) else none

/-- The incoming crossing behind a length-1 wire that comes from beyond the die's edge (10 R354, R355): port and
number. -/
def edgeCrossing (d c r D i : Nat) : Option (Nat × Nat) :=
  match D with
  | 1 => (seamSide d 3).map (fun k => (k, 2 * r + i))
  | 3 => (seamSide d 1).map (fun k => (k, 2 * r + i))
  | 0 => (seamSide d 2).map (fun k => (k, 2 * c + i))
  | _ => (seamSide d 0).map (fun k => (k, 2 * c + i))

/-- The fence value of a meadow's side: N, E, S, W; 2 is the value held. -/
def fenceOf (m : Meadow) (D : Nat) : Nat := bitsOf m.fv.toNat (2 * D) 2

/-- The sources of a wire's driver (R309): a tile output, or the wire that ends here. -/
def wireSource (T i code : Nat) : Option (Nat ⊕ (Nat × Nat × Nat)) :=
  if code = 0 ∨ 16 < code then none
  else if code ≤ 8 then some (.inl (8 * (code - 1) + i))
  else if code ≤ 12 then some (.inr (code - 9, T, i))
  else some (.inr (code - 13, if T = 0 then 1 else if T = 1 then 2 else if T = 2 then 3 else 2, if T = 2 then i % 4 else i))

/-- The wire that a routing input selects (R310): direction, length code, index. -/
def rinSource (code : Nat) : Option (Nat × Nat × Nat) :=
  if code = 0 ∨ 0x60 < code then none
  else some ((code - 1) % 32 / 8, (code - 1) / 32, (code - 1) % 8)

/-- The value of a point. `fuel` bounds the depth; a value that a loop of logic would leave undetermined is free. -/
def State.fabVal (s : State) (d : Fin 6) (fuel : Nat) (n : FabNode) : Bool :=
  match fuel with
  | 0 => s.freeBit 0
  | f + 1 =>
    let x := s.fabric d
    match n with
    | .wire c r D T i =>
      match wireSource T i (x.wireSel d c r (wireNo D T i)) with
      | none => false
      | some (.inl o) => s.fabVal d f (.out c r o)
      | some (.inr (D', T', i')) => s.fabVal d f (.ended c r D' T' i')
    | .ended c r D T i =>
      match wireStart d c r D T i with
      | none =>
        if T = 0 ∧ i < 2 ∧ !(match s.meadowOf d (regionOfTile c r) with | none => false | some m => s.mdFenced d m) then
          match edgeCrossing d c r D i with
          | none => false
          | some (k, n) => s.crossing d k n
        else false
      | some (c', r') =>
        let m := s.meadowOf d (regionOfTile c' r')
        let m' := s.meadowOf d (regionOfTile c r)
        if m != m' && (match m' with | none => false | some b => s.mdFenced d b) then false
        else
          match m with
          | none => s.fabVal d f (.wire c' r' D T i)
          | some a =>
            if m ≠ m' ∧ s.mdFenced d a then
              match fenceOf (s.meadow d a) D with
              | 1 => true
              | 2 => x.heldWires.contains ((c' * 216 + r') * 128 + wireNo D T i)
              | _ => false
            else s.fabVal d f (.wire c' r' D T i)
    | .rin c r k =>
      match rinSource (x.rinSel d c r k) with
      | none => false
      | some (D, T, i) => s.fabVal d f (.ended c r D T i)
    | .pin c r n =>
      let code := x.pinSel d c r n
      if 1 ≤ code ∧ code ≤ 0x40 then s.fabVal d f (.rin c r (code - 1))
      else if 0x41 ≤ code ∧ code ≤ 0x60 then
        if (code - 0x41) % 2 = 0 then s.fabVal d f (.yw c r ((code - 0x41) / 2)) else s.fabVal d f (.yl c r ((code - 0x41) / 2))
      else false
    | .yw c r cell =>
      let e := (List.range 6).foldl (fun acc i => acc + (b2n (s.fabVal d f (.pin c r (8 * cell + i)))) * 2 ^ i) 0
      let t := x.table d c r cell
      if bitOf (x.cellSet d c r cell) 0 then bitOf t (32 + e % 32) else bitOf t e
    | .yl c r cell =>
      let e := (List.range 5).foldl (fun acc i => acc + (b2n (s.fabVal d f (.pin c r (8 * cell + i)))) * 2 ^ i) 0
      let t := x.table d c r cell
      if bitOf (x.cellSet d c r cell) 1 then xor (bitOf t (32 + e)) (s.fabVal d f (.carry c r cell)) else bitOf t e
    | .carry c r cell =>
      match cell with
      | 0 =>
        match bitsOf (x.basketSet d c r) 12 2 with
        | 0 => if r = 0 then false else s.fabVal d f (.carry c (r - 1) 16)
        | 1 => false
        | 2 => true
        | _ => s.fabVal d f (.pin c r 134)
      | p + 1 =>
        if bitOf (x.cellSet d c r p) 1 then
          let e := (List.range 5).foldl (fun acc i => acc + (b2n (s.fabVal d f (.pin c r (8 * p + i)))) * 2 ^ i) 0
          let t := x.table d c r p
          bitOf t e || (bitOf t (32 + e) && s.fabVal d f (.carry c r p))
        else s.freeBit (((c * 216 + r) * 16 + p) * 2 + 1)
    | .out c r n =>
      if (tileKind c).isBasket then
        if n % 4 = 0 then s.fabVal d f (.yw c r (n / 4))
        else if n % 4 = 1 then s.fabVal d f (.yl c r (n / 4))
        else
          let w := n % 4 - 2
          let cfg := ffCfg (x.cellSet d c r (n / 4)) w
          if s.gsrAt d (regionOfTile c r) then cfg.init
          else Sparse.get (x.initOf d) x.ff (ffKey c r (n / 4) w)
      else
        match Config.blockOut c r n with
        | none => false
        | some o => s.blkOut d c r o

/-- The depth of logic that is looked at. -/
def fabFuel : Nat := 100000

/-! Flip-flops (R305, R320, R321) -/

/-- The global net of clock code ck (0 or 1) of a basket; 32 never rises. -/
def State.clockOf (s : State) (d : Fin 6) (c r ck : Nat) : Nat :=
  let x := s.fabric d
  x.globalOf (regionOfTile c r) (bitsOf (x.basketSet d c r) (5 * ck) 5)

/-- An asynchronous set/reset line holds a flip-flop at SRVAL. -/
def State.ffHeld (s : State) (d : Fin 6) (c r cell w : Nat) : Bool :=
  let x := s.fabric d
  let cfg := ffCfg (x.cellSet d c r cell) w
  (cfg.sr == 1 || cfg.sr == 2) && bitOf (x.basketSet d c r) (9 + cfg.sr) && !s.gsrAt d (regionOfTile c r) &&
    s.wrenOf d (regionOfTile c r) (s.clockOf d c r cfg.ck) && s.fabVal d fabFuel (.pin c r (131 + cfg.sr))

/-- What a flip-flop takes at an edge of a net, if anything. -/
def State.ffNext (s : State) (d : Fin 6) (net c r cell w : Nat) : Option Bool :=
  let x := s.fabric d
  let set := x.cellSet d c r cell
  let cfg := ffCfg set w
  let pin (n : Nat) : Bool := s.fabVal d fabFuel (.pin c r n)
  if s.gsrAt d (regionOfTile c r) || s.clockOf d c r cfg.ck != net || !s.wrenOf d (regionOfTile c r) net then none
  else if (cfg.sr == 1 || cfg.sr == 2) && pin (131 + cfg.sr) then some cfg.srval
  else if cfg.ce = 4 || (decide (cfg.ce < 4) && pin (128 + cfg.ce)) then
    some (if bitOf set (2 + w) then pin (8 * cell + 6 + w)
      else s.fabVal d fabFuel (if w = 0 then .yw c r cell else .yl c r cell))
  else none

/-- The basket columns of a die that hold any configuration: only their flip-flops can leave INIT. -/
def Fabric.activeCols (x : Fabric) : List (Nat × Nat) :=
  x.frames.foldl (fun acc e =>
    let f := frameAddr e.1
    if f.typ = 0 then
      match (List.range 54).find? (fun c => tileKind c == .basket f.col) with
      | none => acc
      | some c => if acc.contains (54 * f.rcol + c, f.rrow) then acc else (54 * f.rcol + c, f.rrow) :: acc
    else acc) []

/-- Every flip-flop of a column of a region. -/
def ffsOf (c u : Nat) : List (Nat × Nat × Nat × Nat) :=
  (List.range 36).flatMap (fun r => (List.range 16).flatMap (fun cell => [(c, 36 * u + r, cell, 0), (c, 36 * u + r, cell, 1)]))

/-- All flip-flops take what `f` gives them, together. -/
def State.setFfs (s : State) (d : Fin 6) (f : Nat → Nat → Nat → Nat → Option Bool) : State :=
  let x := s.fabric d
  let news := (x.activeCols.flatMap (fun cu => ffsOf cu.1 cu.2)).filterMap (fun q =>
    (f q.1 q.2.1 q.2.2.1 q.2.2.2).map (fun v => (ffKey q.1 q.2.1 q.2.2.1 q.2.2.2, v)))
  s.modFab d (fun x => { x with ff := news.foldl (fun m e => Sparse.put (x.initOf d) m e.1 e.2) x.ff })

/-- The flip-flops that an asynchronous line holds have its value; one may assert the line of another, so more than once
(notes/assumptions/45.md). -/
def settleRounds : Nat := 16
def State.settle (s : State) (d : Fin 6) : State :=
  forEach (List.range settleRounds) (fun _ s => s.setFfs d (fun c r cell w =>
    if s.ffHeld d c r cell w then some (ffCfg ((s.fabric d).cellSet d c r cell) w).srval else none)) s

/-- The logic as it stood before this instant's edges. -/
def Fabric.before (x : Fabric) (t : Nat) : Fabric :=
  match x.pre with
  | some b => if b.time = t then { x with ff := b.ff, slice := b.slice, ram := b.ram, gpio := b.gpio } else x
  | none => x

/-- The first edge of an instant keeps the logic before it. -/
def Fabric.keep (x : Fabric) (t : Nat) : Fabric :=
  let b := x.before t
  { x with pre := some ⟨t, b.ff, b.slice, b.ram, b.gpio⟩ }

/-- The flip-flops on a net at an edge, from the values before the instant. -/
def State.clockFfs (s : State) (d : Fin 6) (net : Nat) : State :=
  let s0 := s.modFab d (fun x => x.before s.now)
  s.setFfs d (fun c r cell w => s0.ffNext d net c r cell w)

/-! Crossings on their way (R338, 10 R352 to R355) -/

/-- The edge tile of outgoing crossings 2n and 2n + 1 of a port, and the direction that leaves it. -/
def seamTile (d k n : Nat) : Nat × Nat × Nat :=
  match k with
  | 0 => (0, n, 3)
  | 1 => (431, n, 1)
  | _ => if d < 3 then (n, 0, 2) else (n, 215, 0)

/-- The 32 values that a die drives into the crossings of FAB lane f of a port. -/
def State.laneWord (s : State) (d : Fin 6) (k f : Nat) : BitVec 32 :=
  BitVec.ofNat 32 (bitsNat ((List.range 32).map (fun i =>
    let n := 32 * f + i
    let p := seamTile d k (n / 2)
    s.fabVal d fabFuel (.wire p.1 p.2.1 p.2.2 0 (n % 2)))))

/-- The incoming crossings of a lane take a word; those with a fence value keep what they had before the fence. -/
def State.takeWord (s : State) (d k f : Nat) (w : BitVec 32) : BitVec 32 :=
  let old := Sparse.get (fun _ => (0 : BitVec 32)) (s.seamEnd d k).xin f
  BitVec.ofNat 32 (bitsNat ((List.range 32).map (fun i =>
    if s.crossFenced d k (32 * f + i) then bitOf old.toNat i else bitOf w.toNat i)))

end Sys2Proof.Machine
end

