-- ==== Sys2Proof/Machine/Blocks.lean ====
section
/-! DEFINITION. Machine/Blocks.lean: block RAM, multiplier slices, GPIO cells, the clocks, and a rising edge of a global net
(09_fabric.md R311 to R319, R321, R330 to R335). -/
namespace Sys2Proof.Machine

/-! SECDED (R312). The spec names the code and not its columns: they are odd-weight columns, in an order that Config leaves
open (notes/assumptions/3.md). -/

def weight8 (v : Nat) : Nat := ((List.range 8).filter (fun i => bitOf v i)).length

def eccCols : List Nat :=
  (List.range 256).filter (fun b => weight8 b == 3) ++ ((List.range 256).filter (fun b => weight8 b == 5)).take 8

/-- The column of data bit i: which check bits it changes. -/
def eccCol (i : Fin 64) : BitVec 8 :=
  let c := nth eccCols (Config.eccData i).val 0
  BitVec.ofNat 8 (bitsNat ((List.finRange 8).map (fun j => bitOf c (Config.eccCheck j).val)))

/-- The check bits of 64 data bits. -/
def secded (v : BitVec 64) : BitVec 8 :=
  (List.finRange 64).foldl (fun acc i => if bitOf v.toNat i.val then acc ^^^ eccCol i else acc) 0

/-- What a decoder makes of data and check bits: one wrong bit is corrected, two are found. -/
def secdedRead (v : BitVec 64) (c : BitVec 8) : BitVec 64 × Ecc :=
  let syn := secded v ^^^ c
  if syn = 0 then (v, .clean)
  else if weight8 syn.toNat = 1 then (v, .ce)
  else
    match (List.finRange 64).find? (fun i => eccCol i == syn) with
    | some i => (v ^^^ BitVec.ofNat 64 (2 ^ i.val), .ce)
    | none => (v, .ue)

/-! Block RAM (R311 to R313, R328) -/

def ramBase (o : RamOp) (d : Nat) : Nat := ramBaseAt o.cooler d o.rrow o.rcol o.col o.n

/-- Bits of a block RAM, counted through its frames. -/
def Fabric.ramBits (x : Fabric) (base lo len : Nat) : Nat := bitsOf (x.frame (base + lo / 4608)).toNat (lo % 4608) len

def Fabric.setRamBits (x : Fabric) (base lo len v : Nat) : Fabric :=
  let fa := base + lo / 4608
  let m : Frame := BitVec.ofNat 4608 ((2 ^ len - 1) * 2 ^ (lo % 4608))
  x.setFrame fa ((x.frame fa &&& ~~~m) ||| BitVec.ofNat 4608 (v % 2 ^ len * 2 ^ (lo % 4608)))

/-- The width in bits and the depth of a hamper port (R311). -/
def hamperShape (w : Nat) : Nat × Nat :=
  match w with
  | 6 => (64, 576)
  | 7 => (64, 512)
  | _ => (2 ^ w, 36864 / 2 ^ w)

/-- The first bit, the length, and whether the address is in range. -/
def ramSpan (o : RamOp) (width : Nat) : Nat × Nat × Bool :=
  if o.cooler then (144 * o.addr, 144, decide (o.addr < 2048))
  else (o.addr * (hamperShape width).1, (hamperShape width).1, decide (o.addr < (hamperShape width).2))

/-- The number of a RAM port. -/
def ramKey (o : RamOp) (d : Nat) (b : Bool) : Nat := ramBase o d * 2 + b2n b

/-- The other port wrote less than 300 ps ago (R313). -/
def RamPort.recent (p : RamPort) (now : Nat) : Bool := match p.wAt with | none => false | some t => decide (now < t + 2400)

/-- What a port's last write replaced at a bit, if that write is recent and reached it. -/
def RamPort.oldBit (p : RamPort) (now j : Nat) : Option Bool :=
  if p.recent now then (p.old.find? (fun e => decide (e.1 ≤ j ∧ j < e.1 + e.2.1))).map (fun e => bitOf e.2.2 (j - e.1)) else none

/-- Bits that overlap a recent write of the other port take what they held before it. -/
def oldView (p : RamPort) (now lo len v : Nat) : Nat :=
  bitsNat ((List.range len).map (fun i => (p.oldBit now (lo + i)).getD (bitOf v i)))

/-- Bits that a recent write of port A reached keep its data. -/
def keepView (p : RamPort) (now lo len cur v : Nat) : Nat :=
  bitsNat ((List.range len).map (fun i => if (p.oldBit now (lo + i)).isSome then bitOf cur i else bitOf v i))

/-- A cooler word after a write: with ECC the lanes of a half act together, and the check lanes are the cooler's own. -/
def ramCoolerData (o : RamOp) (ecc : Bool) (old : Nat) : Nat :=
  let half (h : Nat) : Bool := bitsOf o.lanes.toNat (8 * h) 8 != 0
  let on (l : Nat) : Bool :=
    if ecc then (if l < 16 then half (l / 8) else half (l - 16)) else bitOf o.lanes.toNat l
  let src (l : Nat) : Nat :=
    if ecc ∧ 16 ≤ l then (secded (BitVec.ofNat 64 (bitsOf o.data.toNat (64 * (l - 16)) 64))).toNat
    else bitsOf o.data.toNat (8 * l) 8
  (List.range 18).foldl (fun acc l => acc + (if on l then src l else bitsOf old (8 * l) 8) * 2 ^ (8 * l)) 0

/-- A protected read: data and check bits; the data, the worst condition of its words. -/
def ramChecked (cooler : Bool) (set : RamSet) (v chk : Nat) : Nat × Ecc :=
  if cooler && set.ecc then
    let h (k : Nat) := secdedRead (BitVec.ofNat 64 (bitsOf v (64 * k) 64)) (BitVec.ofNat 8 (bitsOf v (128 + 8 * k) 8))
    ((h 0).1.toNat + (h 1).1.toNat * 2 ^ 64 + bitsOf v 128 16 * 2 ^ 128, Ecc.worst (h 0).2 (h 1).2)
  else if !cooler && set.width.val == 7 then
    let r := secdedRead (BitVec.ofNat 64 v) (BitVec.ofNat 8 chk)
    (r.1.toNat, r.2)
  else (v, .clean)

/-- A port that only reads (width 64 and 64E: A) or only writes (B). -/
def ramAllowed (o : RamOp) (width : Nat) : Bool := o.cooler || decide (width < 6) || o.portB == o.write

/-- The region of a block RAM. -/
def ramRegion (o : RamOp) : Nat := 8 * o.rrow.val + o.rcol.val

/-- A port writes. -/
def State.ramWrite (s : State) (d : Fin 6) (o : RamOp) (set : RamSet) : State :=
  let x := s.fabric d
  let base := ramBase o d
  let sp := ramSpan o set.width
  let lo := sp.1
  let len := sp.2.1
  let me := x.ramPort (ramKey o d o.portB)
  let other := x.ramPort (ramKey o d (!o.portB))
  if sp.2.2 then
    let cur := x.ramBits base lo len
    let v := if o.cooler then ramCoolerData o set.ecc cur else o.data.toNat % 2 ^ len
    let v := if o.portB then keepView other s.now lo len cur v else v
    let out : BitVec 144 := if set.view = 0 then BitVec.ofNat 144 cur else if set.view = 1 then BitVec.ofNat 144 v else me.out
    let ecc := !o.cooler && set.width.val == 7
    let at_ := 32768 + lo / 8
    let old := (lo, len, cur) :: (if ecc then [(at_, 8, x.ramBits base at_ 8)] else [])
    s.modFab d (fun x =>
      let x := x.setRamBits base lo len v
      let x := if ecc then x.setRamBits base at_ 8 (secded (BitVec.ofNat 64 v)).toNat else x
      x.setRamPort (ramKey o d o.portB) { me with out := out, wAt := some s.now, old := old })
  else if set.view = 2 then s
  else s.modFab d (fun x => x.setRamPort (ramKey o d o.portB) { me with out := 0 })

/-- A port reads. -/
def State.ramRead (s : State) (d : Fin 6) (o : RamOp) (set : RamSet) : State :=
  let x := s.fabric d
  let base := ramBase o d
  let sp := ramSpan o set.width
  let me := x.ramPort (ramKey o d o.portB)
  let other := x.ramPort (ramKey o d (!o.portB))
  let see (lo len : Nat) : Nat := oldView other s.now lo len (x.ramBits base lo len)
  let r := if sp.2.2 then ramChecked o.cooler set (see sp.1 sp.2.1) (see (32768 + sp.1 / 8) 8) else (0, .clean)
  let s := s.modFab d (fun x => x.setRamPort (ramKey o d o.portB)
    { me with out := BitVec.ofNat 144 r.1, cor := r.2 == .ce, unc := r.2 == .ue })
  if r.2 = .clean then s else s.emit (.ramPulse d base o.portB (r.2 == .ue))

/-- An enabled port of a block RAM at an edge of a net: the net has to be its clock. -/
def State.ramStep (s : State) (d : Fin 6) (net : Nat) (o : RamOp) : State :=
  let x := s.fabric d
  match x.sets.ram.lookup (ramKey o d o.portB) with
  | none => s
  | some set =>
    if x.globalOf (ramRegion o) set.net != net || !ramExists o || !(ramAllowed o set.width) then s
    else if !o.write then s.ramRead d o set
    else if s.wrenOf d (ramRegion o) net then s.ramWrite d o set
    else s

/-- COR and UNC of the ports on a net last one cycle. -/
def Fabric.endPulses (x : Fabric) (net : Nat) : Fabric :=
  forEach (x.sets.ram.filter (fun e => x.globalOf (frameAddr (e.1 / 2)).region e.2.net == net))
    (fun e x => x.setRamPort e.1 { x.ramPort e.1 with cor := false, unc := false }) x

/-! Multiplier slices (R314) -/

/-- A slice's number. -/
def sliceKey (o : SliceOp) : Nat := sliceNo o.rcol o.col o.rrow o.tile o.slice

/-- A as the operation takes it: A1, or the pre-adder's sum or difference of two 25-bit values. -/
def sliceA (pre : Nat) (a1 a2 : BitVec 26) : Int :=
  let a25 (v : BitVec 26) : Int := signedOf 25 v.toNat
  if pre = 0 then a1.toInt else if pre = 1 then a25 a1 + a25 a2 else a25 a1 - a25 a2

/-- The exact result of an operation. -/
def sliceExact (op : Nat) (p : Int) (r u k : BitVec 60) : Int :=
  match op with
  | 0 => p
  | 1 => r.toInt + p
  | 2 => r.toInt - p
  | 3 => k.toInt + p
  | 4 => u.toInt + p
  | _ => 0

/-- A slice's next values from those before the edge: R of the slice below, what the fabric gives. -/
def Slice.next (c : Slice) (set : SliceSet) (u : BitVec 60) (a1 a2 b : BitVec 26) (k : BitVec 60) : Slice :=
  let prod := sliceA set.pre (if set.regA1 then c.a1 else a1) (if set.regA2 then c.a2 else a2) * (if set.regB then c.b else b).toInt
  let v := sliceExact set.op (if set.regP then c.p.toInt else prod) c.r u k
  let r := BitVec.ofInt 60 v
  ⟨a1, a2, b, BitVec.ofInt 52 prod, r, if set.regQ then c.r else r, decide (v < -(2 ^ 59 : Int) ∨ (2 ^ 59 : Int) ≤ v)⟩

/-- One slice at an edge; `x0` is the fabric before it. A slice that the command gives nothing takes 0. -/
def State.sliceStep (s : State) (d : Fin 6) (net : Nat) (x0 : Fabric) (ops : List SliceOp) (k : Nat) (set : SliceSet) : State :=
  if x0.globalOf (sliceRegion k) set.net != net || !s.wrenOf d (sliceRegion k) net then s
  else
    let u := if k % 192 = 0 then 0 else (x0.sliceAt (k - 1)).r
    let c := match ops.find? (fun o => sliceKey o == k) with
      | none => (x0.sliceAt k).next set u 0 0 0 0
      | some o => (x0.sliceAt k).next set u o.a1 o.a2 o.b o.k
    let s := s.modFab d (fun x => x.setSlice k c)
    if c.ovf then s.emit (.sliceOvf d k) else s

/-! GPIO cells (R330 to R334) -/

/-- Pins 0 and 1 of bank 0 of die 0 are the SMBus target's (R334). -/
def smbPin (d b i : Nat) : Bool := d == 0 && b == 0 && decide (i < 2)

/-- The meadow of a region is fenced. -/
def State.regionHeld (s : State) (d : Fin 6) (region : Nat) : Bool :=
  match s.meadowOf d region with | none => false | some m => s.mdFenced d m

/-- A GPIO cell is high-Z (R332, R333): before OUTREL, with its bank held, with its region's meadow held in reset. -/
def State.gpioOff (s : State) (d : Fin 6) (b i : Nat) : Bool :=
  let x := s.fabric d
  !x.outrel || x.bankZ.contains b ||
    (match x.sets.gpio.lookup (24 * b + i) with | none => true | some set => s.regionHeld d set.region)

/-- A cell that is high-Z has its weak pull-up: HOLDUP_B is low (R333). -/
def State.gpioPull (s : State) (d : Fin 6) (b i : Nat) : Bool := s.gpioOff d b i && !s.holdupB

/-- What a cell drives on its pin; while EXTEST is the test access port's instruction, what the boundary register gives the pin
(15 R506; which of its bits, notes/assumptions/71.md). -/
def State.gpioDrive (s : State) (d : Fin 6) (b i : Nat) (c : Gpio) : Option Bool :=
  if s.tap.ir = 0 then Config.scanCell s.tap.bsr (96 * d.val + 24 * b + i)
  else if s.gpioOff d b i || !c.oe then none else some c.out

/-- The level at the pin of a cell (R331): driven, given from outside, pulled, kept, or open. -/
def State.pinLevel (s : State) (d : Fin 6) (b i : Nat) (c : Gpio) : Bool :=
  match s.gpioDrive d b i c, c.pad with
  | some v, _ => v
  | none, some v => v
  | none, none =>
    if s.gpioPull d b i then true
    else
      let term : Term := if s.gpioOff d b i then .none else (((s.fabric d).sets.gpio.lookup (24 * b + i)).map (·.term)).getD .none
      match term with
      | .up => true
      | .down => false
      | .keeper => c.level
      | .none => s.freeBit (24 * b + i)

/-- One cell at an edge: its registers on the net, else what stands at it. -/
def State.gpioStep (s : State) (d : Fin 6) (net : Nat) (o : GpioOp) : State :=
  let x := s.fabric d
  match x.sets.gpio.lookup (24 * o.bank.val + o.pin.val) with
  | none => s
  | some set =>
    if smbPin d o.bank o.pin then s
    else
      let c := x.cell (24 * o.bank.val + o.pin.val)
      let on := x.globalOf set.region set.net == net && s.wrenOf d set.region net
      let take := on || !set.outReg
      let seen := s.pinLevel d o.bank o.pin { c with pad := o.pad }
      let seenLow := s.pinLevel d o.bank o.pin { c with pad := o.padLow, out := c.outLow }
      let c' := { c with
        pad := o.pad
        out := if take then o.out else c.out
        outLow := if take then (if set.outDdr then o.outLow else o.out) else c.outLow
        oe := o.oe
        inp := if on && set.inReg then seen else c.inp
        inpLow := if on && set.inReg && set.inDdr then seenLow else c.inpLow }
      s.modFab d (fun x => x.setCell (24 * o.bank.val + o.pin.val) { c' with level := s.pinLevel d o.bank o.pin c' })

/-! Clocks (R315, R317 to R319) -/

/-- The divider of a synthesiser: 0 is 256, 1 acts as 2. -/
def fcsDiv (n : Nat) : Nat := if n = 0 then 256 else max 2 n

/-- EN of a synthesiser: on a change it is not locked (R318). -/
def State.setFcs (s : State) (d : Fin 6) (k : Nat) (en : Bool) : State :=
  let old := s.flag (R.FAB_FCS_CTRL d k) F.FAB_FCS_CTRL_EN
  let s := s.setB (R.FAB_FCS_CTRL d k) F.FAB_FCS_CTRL_EN en
  if old = en then s else s.setB (R.FAB_FCS_STAT d k) F.FAB_FCS_STAT_LOCKED false

/-- The first rising edge of a net's source at or after a time; none while the source stands still. The edges of a GPIO and
of a fabric signal come with the command. -/
def State.sourceAt (s : State) (d : Fin 6) (net t : Nat) : Option Nat :=
  match ((s.fabric d).sets.net.lookup net).getD .off with
  | .off => none
  | .fcs k =>
    let a := R.FAB_FCS_CTRL d (k % 2)
    if s.flag a F.FAB_FCS_CTRL_EN && s.flag (R.FAB_FCS_STAT d (k % 2)) F.FAB_FCS_STAT_LOCKED then
      some (gridFrom 0 (fcsDiv (s.fld a F.FAB_FCS_CTRL_DIV) * ns) t)
    else none
  | .fp k =>
    let g : Fin 24 := ⟨4 * d.val + k % 4, by omega⟩
    if s.flag (R.CH_GCTRL g) F.CH_GCTRL_REL then some ((s.g g).fpEdge t) else none
  | .gpio _ _ region => if s.regionHeld d region then none else some t
  | .logic region => if s.regionHeld d region then none else some t

/-- The next edge of a net's source. -/
def State.netEdge (s : State) (d : Fin 6) (net : Nat) : Option Nat :=
  s.sourceAt d net (match (s.fabric d).srcAt.lookup net with | none => s.now | some u => max s.now (u + 1))

/-- A net that its enable has stopped: its source has had an edge that the net has not. -/
def Fabric.netStopped (x : Fabric) (net : Nat) : Bool :=
  match x.srcAt.lookup net, x.netAt.lookup net with
  | some u, some v => decide (v < u)
  | some _, none => true
  | none, _ => false

/-- Remember the last edge of a net. -/
def putNet (l : List (Nat × Nat)) (net t : Nat) : List (Nat × Nat) := (net, t) :: l.filter (fun e => e.1 != net)

/-- GLOBAL_NET_RISING_EDGE: the next rising edge of the net's source. With its enable low (`en`) the net stays low; else
everything that it clocks acts, from the values before the edge. `uf` are the user flags that change with it. -/
def execGlobalNetRisingEdge (d : Fin 6) (net : Fin 32) (en : Bool) (uf : List (Fin 4 × BitVec 8)) (rams : List RamOp)
    (slices : List SliceOp) (gpio : List GpioOp) (s : State) : Out :=
  match s.netEdge d net with
  | none => .next s
  | some t =>
    let s := ((s.at_ t).deliver t).modFab d (fun x => { x with srcAt := putNet x.srcAt net t })
    if !en then .next s
    else
      let s := s.modFab d (fun x => { (x.keep t) with netAt := putNet x.netAt net t })
      let x0 := (s.fabric d).before t
      let s := ((s.clockFfs d net).used).modFab d (fun x => x.endPulses net)
      let s := forEach rams (fun o s => s.ramStep d net o) s
      let s := forEach x0.sets.slice (fun e s => s.sliceStep d net x0 slices e.1 e.2) s
      let s := forEach gpio (fun o s => s.gpioStep d net o) s
      .next (forEach uf (fun e s => s.setUf ⟨4 * d.val + e.1.val, by omega⟩ [(t, e.2)]) (s.settle d))

end Sys2Proof.Machine
end

