-- ==== Sys2Proof/Machine/Memory.lean ====
section
/-! DEFINITION. Machine/Memory.lean: the commands of the promenade and the G6 ports (12_memory_system.md). -/
namespace Sys2Proof.Machine

/-! Accesses (R436 to R439) -/

/-- The bytes of one line that an access of len bytes at an address names; it does not pass the end of the line. -/
def spanMask (a len : Nat) : Nat := (2 ^ min len (64 - a % 64) - 1) * 2 ^ (a % 64)

/-- G6_READ: len bytes at an address, within one line. The requester gets the bytes with OK. -/
def execG6Read (src addr len : Nat) (env : G6Env) (s : State) : Out :=
  let r := s.g6Access src addr (.read (spanMask addr len)) env
  let k := min len (64 - addr % 64)
  .next (r.st.answer r.resp (if r.resp = .ok then leBytes k (bitsOf r.data.toNat (8 * (addr % 64)) (8 * k)) else []))

/-- G6_FULL_WRITE: the line that holds the address. -/
def execG6FullWrite (src addr : Nat) (data : Line512) (env : G6Env) (s : State) : Out :=
  let r := s.g6Access src addr (.full data) env
  .next (r.st.answer r.resp [])

/-- G6_PARTIAL_WRITE: the bytes of a mask of the line; with every byte enabled it is a full write (R438). -/
def execG6PartialWrite (src addr : Nat) (data : Line512) (mask : BitVec 64) (env : G6Env) (s : State) : Out :=
  let kind := if mask = BitVec.allOnes 64 then G6Kind.full data else .part data mask.toNat
  let r := s.g6Access src addr kind env
  .next (r.st.answer r.resp [])

/-- G6_OR_WRITE: an OR write of a die's catch cache (R439). -/
def execG6OrWrite (d : Fin 6) (addr : Nat) (data : Line512) (env : G6Env) (s : State) : Out :=
  let r := s.g6Access (128 * d.val + 0x48) addr (.or_ data) env
  .next (r.st.answer r.resp [])

/-! Training and zeroing (R426, R428) -/

/-- MEMP_STAT.STATE. -/
def State.mstate (s : State) (q : Nat) : Nat := s.fld (R.MEMP_STAT q) F.MEMP_STAT_STATE

/-- The port enters READY. -/
def State.memReady (s : State) (q : Nat) : State :=
  (s.setF (R.MEMP_STAT q) F.MEMP_STAT_STATE 2).raise (R.MEMP_CAUSE q) F.MEMP_CAUSE_READY

/-- What a port has accepted ends with ERR_ABSENT (R426). -/
def State.endAccepted (s : State) (q : Nat) : State :=
  let hit (b : Beat) : Bool := decide (b.addr < 0x10000000000) && (s.place b.addr).map (fun c => portOf c.1) == some q
  { s with dma := Vector.ofFn (fun d => let e := s.dma[d]
      { e with ch := Vector.ofFn (fun c => let x := e.ch[c]
          { x with fly := x.fly.map (fun b => if hit b then { b with gone := true } else b) }) }) }

/-- MEMP_INIT (R426). -/
def execMempInit (q : Fin 24) (s : State) : Out :=
  if s.mstate q = 0 ∨ s.mstate q = 4 then .next (s.setF (R.MEMP_STAT q) F.MEMP_STAT_STATE 1)
  else if s.mstate q = 2 then .next ((s.endAccepted q).setF (R.MEMP_STAT q) F.MEMP_STAT_STATE 1)
  else .next (s.raise (R.MEMP_CAUSE q) F.MEMP_CAUSE_CMDERR)

/-- MEMP_TRAIN_DONE: training ends with the density read and whether every step passed. -/
def execMempTrainDone (q : Fin 24) (dens : BitVec 2) (ok : Bool) (s : State) : Out :=
  if s.mstate q = 1 then
    let s := s.setF (R.MEMP_STAT q) F.MEMP_STAT_DENS dens.toNat
    let expd := s.fld (R.MEMP_CTRL q) F.MEMP_CTRL_EXPD
    if ok && dens.toNat == expd && expd != 0 then .next (s.memReady q)
    else .next ((s.setF (R.MEMP_STAT q) F.MEMP_STAT_STATE 4).raise (R.MEMP_CAUSE q) F.MEMP_CAUSE_TRAINERR)
  else .next s

/-- MEMP_ZERO (R428). -/
def execMempZero (q : Fin 24) (s : State) : Out :=
  if s.mstate q = 2 then .next (s.setF (R.MEMP_STAT q) F.MEMP_STAT_STATE 5)
  else .next (s.raise (R.MEMP_CAUSE q) F.MEMP_CAUSE_CMDERR)

/-- Every line of a port is as its default: none listed. -/
def State.dropLines (s : State) (q : Nat) : State :=
  { s with lines := Sparse.keep (fun k => portOf (k / 33554432) != q) s.lines }

/-- ZERO_DONE: every data line is 0 with valid check bits, every TAG 0. -/
def execZeroDone (q : Fin 24) (s : State) : Out :=
  if s.mstate q = 5 then .next (((s.dropLines q).setP q { s.p q with zeroed := true }).memReady q)
  else .next s

/-! Refresh and row hammer (R430 to R434) -/

/-- REFRESH_DUE: an all-bank refresh falls due while requests wait at the port or none does. -/
def execRefreshDue (q : Fin 24) (waiting : Bool) (s : State) : Out :=
  if s.mstate q = 2 ∧ s.fld (R.MEMP_CTRL q) F.MEMP_CTRL_REFMODE = 0 then
    let owed := s.fld (R.MEMP_STAT q) F.MEMP_STAT_OWED
    let lim := min 8 (s.fld (R.MEMP_CTRL q) F.MEMP_CTRL_POSTPONE)
    if waiting && decide (owed < lim) then .next (s.setF (R.MEMP_STAT q) F.MEMP_STAT_OWED (owed + 1))
    else .next ((s.setF (R.MEMP_STAT q) F.MEMP_STAT_OWED 0).tally (q.val / 4) (0x4C + q.val % 4) (owed + 1))
  else .next s

/-- BANK_REFRESH: a bank is refreshed (R431). The rows of the bank keep their data; the monitors count the command. -/
def execBankRefresh (q : Fin 24) (_bank : Fin 16) (s : State) : Out :=
  if s.mstate q = 2 ∧ s.fld (R.MEMP_CTRL q) F.MEMP_CTRL_REFMODE = 1 then .next (s.tally (q.val / 4) (0x4C + q.val % 4) 1)
  else .next s

/-- RH_WINDOW: the next window starts; every count returns to 0 and every throttle ends. -/
def execRhWindow (q : Fin 24) (s : State) : Out :=
  let w := s.rhLen q
  let n := if (s.p q).win = s.now / w then s.now / w + 1 else s.now / w
  let s := s.at_ (n * w)
  .next (s.setP q { s.p q with rh := [], throttled := [], win := n })

/-! Scrub passes (R442 to R444) -/

def State.scrStart (s : State) (d : Nat) : Nat :=
  s.fld (R.PROM_SCR_START_LO d) F.PROM_SCR_START_LO_ADDR * 64 + s.fld (R.PROM_SCR_START_HI d) F.PROM_SCR_START_HI_ADDR * 4294967296
def State.scrEnd (s : State) (d : Nat) : Nat :=
  s.fld (R.PROM_SCR_END_LO d) F.PROM_SCR_END_LO_ADDR * 64 + s.fld (R.PROM_SCR_END_HI d) F.PROM_SCR_END_HI_ADDR * 4294967296

def State.setScrub (s : State) (d : Fin 6) (x : Option Scrub) : State := { s with scrub := s.scrub.set d x }

/-- PROM_SCR_STAT.NEXT shows the next line. -/
def State.scrNext (s : State) (d a : Nat) : State := s.setF (R.PROM_SCR_STAT d) F.PROM_SCR_STAT_NEXT (a / 64 % 67108864)

/-- PROM_SCR_GO, with the FIX bit of its write. -/
def execPromScrGo (d : Fin 6) (fix : Bool) (s : State) : Out :=
  let s := s.setB (R.PROM_SCR_CTRL d) F.PROM_SCR_CTRL_FIX fix
  if s.scrub[d].isSome || decide (s.scrEnd d ≤ s.scrStart d) then .next (s.raise (R.PROM_CAUSE d) F.PROM_CAUSE_CMDERR)
  else
    let s := ((s.wr (R.PROM_SCR_CHK d) 0).wr (R.PROM_SCR_COR d) 0).wr (R.PROM_SCR_UNC d) 0
    let s := (s.wrPair (R.PROM_SCR_FIRST_LO d) (R.PROM_SCR_FIRST_HI d) 0).wrPair (R.PROM_SCR_LAST_LO d) (R.PROM_SCR_LAST_HI d) 0
    let s := (s.setB (R.PROM_SCR_STAT d) F.PROM_SCR_STAT_BUSY true).setB (R.PROM_SCR_STAT d) F.PROM_SCR_STAT_CUT false
    .next ((s.scrNext d (s.scrStart d)).setScrub d (some ⟨s.scrStart d, s.scrEnd d⟩))

/-- A scrub pass ends. -/
def State.scrDone (s : State) (d : Fin 6) (cut : Bool) : State :=
  let s := (s.setB (R.PROM_SCR_STAT d) F.PROM_SCR_STAT_BUSY false).setB (R.PROM_SCR_STAT d) F.PROM_SCR_STAT_CUT cut
  (s.setScrub d none).raise (R.PROM_CAUSE d) F.PROM_CAUSE_SCRDONE

/-- PROM_SCR_STOP: the pass ends after its current line (a line is one step here); no effect outside a pass. -/
def execPromScrStop (d : Fin 6) (s : State) : Out :=
  if s.scrub[d].isSome then .next (s.scrDone d true) else .next s

/-- The summary of a line with errors. -/
def State.scrNote (s : State) (d : Fin 6) (a ce ue : Nat) : State :=
  let first := (s.rd (R.PROM_SCR_COR d)).toNat == 0 && (s.rd (R.PROM_SCR_UNC d)).toNat == 0
  let s := s.bump (R.PROM_SCR_CHK d) F.PROM_SCR_CHK_COUNT 4
  let s := (s.bump (R.PROM_SCR_COR d) F.PROM_SCR_COR_COUNT ce).bump (R.PROM_SCR_UNC d) F.PROM_SCR_UNC_COUNT ue
  if ce + ue = 0 then s
  else
    let s := if first then s.wrPair (R.PROM_SCR_FIRST_LO d) (R.PROM_SCR_FIRST_HI d) a else s
    s.wrPair (R.PROM_SCR_LAST_LO d) (R.PROM_SCR_LAST_HI d) a

/-- A line is written back with fresh check bits; its data and TAG stay. -/
def GLine.clean (l : GLine) : GLine := ⟨l.data, l.tag, .clean, .clean, .clean, .clean⟩

/-- One line of a pass at its port: its four words are checked without the vault stage; errors count at the port as of
any read (R436, R440 kind 3). -/
def State.scrCheck (s : State) (d : Fin 6) (q : Nat) (key a : Nat) (env : G6Env) : State :=
  let l := s.lineFound key
  let cs := l.conds env.ecc
  let ce := countWords cs [0, 1, 2, 3] .ce
  let ue := countWords cs [0, 1, 2, 3] .ue
  let s := (s.lineRead key).keepMarks key env.ecc
  let s := (s.countCe q ce).countUe q ue a 3 (128 * d.val + 0x52)
  let s := s.scrNote d a ce ue
  if s.flag (R.PROM_SCR_CTRL d) F.PROM_SCR_CTRL_FIX && ce != 0 && ue == 0 then s.setLine key (some l.clean) else s

/-- The read of one line of a pass (R429, R432, R442): one that fails on the pins or in a buffer checks no word. -/
def State.scrRead (s : State) (d : Fin 6) (q : Fin 24) (ch line a : Nat) (env : G6Env) : State :=
  let src := 128 * d.val + 0x52
  let s := ((s.tally d (0x40 + q.val % 4) 1).activate q ch src env.act).edcRetry q env.edc
  if env.buf then s
  else if 4 ≤ env.edc then (s.raise (R.MEMP_CAUSE q) F.MEMP_CAUSE_EDCFAIL).elog q a 4 src
  else s.scrCheck d q (lineKey ch line) a env

/-- SCRUB_LINE: the next 64-byte address of a pass. One that lies on no READY port of the die is passed over. -/
def execScrubLine (d : Fin 6) (env : G6Env) (s : State) : Out :=
  match s.scrub[d] with
  | none => .next s
  | some p =>
    let s := match s.place p.next with
      | none => s
      | some (ch, line) =>
        if h : ch / 8 = d.val ∧ s.mstate (portOf ch) = 2 ∧ s.haltOn[d] = false then
          s.scrRead d ⟨portOf ch, by have := d.isLt; unfold portOf; omega⟩ ch line p.next env
        else s
    let s := s.scrNext d (p.next + 64)
    if p.stop ≤ p.next + 64 then .next (s.scrDone d false)
    else .next (s.setScrub d (some ⟨p.next + 64, p.stop⟩))

/-! Regions (R423, R424) -/

/-- The checks of a write that enables a region. -/
def State.regionOk (s : State) (r : Region) : Bool :=
  let m := r.channels
  let dies := (diesOf r.dmask).length
  (if r.kind = 0 then decide (r.die < 6) && r.chbase % r.count == 0
   else dies == 2 || dies == 3 || dies == 6) &&
  decide (r.grain ≤ 65536) && r.size % (m * r.grain) == 0 &&
  s.density != 0 && decide (r.chofs + r.size / m ≤ channelBytes s.density / 8 * 7)

/-- REGION_CTRL_WRITE: a write of PROM_REGr_CTRL of die 0. -/
def execRegionCtrlWrite (r : Fin 16) (v : Word) (s : State) : Out :=
  let new := regionOf (s.rd (R.PROM_REG_BASE 0 r)) (s.rd (R.PROM_REG_SIZE 0 r)) v (s.rd (R.PROM_REG_CHOFS 0 r))
  if new.en && ((s.region r).en || !s.regionOk new) then .next (s.raise (R.PROM_CAUSE 0) F.PROM_CAUSE_CMDERR)
  else .next (s.wrRW (R.PROM_REG_CTRL 0 r) v)

end Sys2Proof.Machine
end

