-- ==== Sys2Proof/Machine/Vaults.lean ====
section
/-! DEFINITION. Machine/Vaults.lean: enabling, rekeying and disabling vaults, and the integrity halt (13_vaults.md). The
registers of die 0 are the master copy; the dies read them (R452). -/
namespace Sys2Proof.Machine

/-! Keys (R456, 16 R528, R533) -/

/-- The 256-bit key the keeper derives vault keys with: the device key, the ephemeral root, or none in SCAN. -/
def State.keySource (s : State) : BitVec 256 :=
  if s.fld R.KPR_STAT F.KPR_STAT_DBG = 3 then 0
  else if s.fld R.KPR_STAT F.KPR_STAT_LC = 1 ∨ s.fld R.KPR_STAT F.KPR_STAT_LC = 2 then s.keeper.fuses.devkey
  else match s.keeper.root with
    | none => 0
    | some n => BitVec.ofNat 256 (Config.freeValue n)

/-- The keys of a generation of a vault. -/
def State.deriveKeys (s : State) (v : Fin 64) (gen : Nat) : BitVec 896 :=
  Config.vaultKdf s.keySource (s.rd (R.VLT_V_SALT 0 v)).toNat v.val gen

/-- A cause of the vault block of die 0. -/
def State.vltCause (s : State) (f : Fld) : State := s.raise (R.VLT_CAUSE 0) f

def State.setVstate (s : State) (v : Nat) (n : Nat) : State := s.setF (R.VLT_V_STAT 0 v) F.VLT_V_STAT_STATE n

/-- VLT_Vv_RKPTR and the engine's next line. -/
def State.setPtr (s : State) (v : Fin 64) (a : Nat) : State :=
  (s.setV v { s.v v with ptr := a }).wrPair (R.VLT_V_RKPTR_LO 0 v) (R.VLT_V_RKPTR_HI 0 v) (a / 64 * 64)

/-! Enabling (R451, R472) -/

/-- Every address of a range lies in an enabled region: from region end to region end. -/
def State.covered (s : State) (fuel a stop : Nat) : Bool :=
  match fuel with
  | 0 => decide (stop ≤ a)
  | n + 1 =>
    if stop ≤ a then true
    else
      match (List.range 16).find? (fun r => (s.region r).en && decide ((s.region r).base ≤ a ∧ a < (s.region r).base + (s.region r).size)) with
      | none => false
      | some r => s.covered n ((s.region r).base + (s.region r).size) stop

/-- A range overlaps an enabled vault. -/
def State.overlaps (s : State) (base stop : Nat) : Bool :=
  (List.finRange 64).any (fun v => s.vctrl v F.VLT_V_CTRL_EN == 1 && decide (base < s.vbase v + s.vsize v ∧ s.vbase v < stop))

/-- A write of 1 to EN is accepted. -/
def State.enableOk (s : State) (v : Fin 64) (w : Word) : Bool :=
  let base := s.vbase v
  let stop := base + s.vsize v
  s.vsize v != 0 && decide (stop ≤ 2 ^ 40) && !s.overlaps base stop && s.covered 17 base stop &&
  F.VLT_V_CTRL_MODE.get w != 3 && !(F.VLT_V_CTRL_MODE.get w == 0 && s.mandatoryVaults)

/-- The vault is enabled: its keys are derived, and it is initialised or adopted. -/
def State.enableVault (s : State) (v : Fin 64) (w : Word) : State :=
  let s := s.wrRW (R.VLT_V_CTRL 0 v) w
  let gen := s.vctrl v F.VLT_V_CTRL_GEN
  let s := s.setV v ⟨[(gen, s.deriveKeys v gen)], (s.v v).ptr, false, none⟩
  if s.vctrl v F.VLT_V_CTRL_ADOPT = 0 ∧ s.vctrl v F.VLT_V_CTRL_MODE ≠ 0 then
    ((s.setV v { s.v v with init := true }).setPtr v (s.vbase v)).setVstate v 1
  else s.setVstate v 2

/-! Rekey (R465 to R470) -/

/-- A rekey starts, or is refused at the last generation. -/
def State.startRekey (s : State) (v : Fin 64) : State :=
  let g := s.vctrl v F.VLT_V_CTRL_GEN
  let s := s.setV v { s.v v with dueAt := none }
  let s := s.setB (R.VLT_V_STAT 0 v) F.VLT_V_STAT_RKPEND false
  if g = 65535 then (s.setVstate v 5).vltCause F.VLT_CAUSE_GENEND
  else
    let s := s.wrPair (R.VLT_V_WCNT_LO 0 v) (R.VLT_V_WCNT_HI 0 v) 0
    let s := s.setV v { s.v v with keys := (s.v v).keys ++ [(g + 1, s.deriveKeys v (g + 1))], init := false }
    (s.setPtr v (s.vbase v)).setVstate v 3

/-- RKGO (R466, R468, R469). -/
def State.rkgo (s : State) (v : Fin 64) : State :=
  if s.vstate v = 2 then s.startRekey v
  else if s.vstate v = 4 then s.setVstate v (if (s.v v).init then 1 else 3)
  else s.vltCause F.VLT_CAUSE_CMDERR

/-- EN changes to 0 (R473): the keys go. -/
def State.disableVault (s : State) (v : Fin 64) : State :=
  let s := s.setB (R.VLT_V_CTRL 0 v) F.VLT_V_CTRL_EN false
  let s := s.setV v { s.v v with keys := [], init := false, dueAt := none }
  (s.setB (R.VLT_V_STAT 0 v) F.VLT_V_STAT_RKPEND false).setVstate v 0

/-- The fields that can change while EN is 1: ADOPT and the rights. -/
def State.storeRights (s : State) (v : Fin 64) (w : Word) : State :=
  let put (f : Fld) (s : State) : State := s.setF (R.VLT_V_CTRL 0 v) f (f.get w)
  put F.VLT_V_CTRL_NOFAB (put F.VLT_V_CTRL_NODBG (put F.VLT_V_CTRL_NOHOST (put F.VLT_V_CTRL_ADOPT s)))

/-- A change of MODE or GEN while EN is 1 is ignored with CMDERR (R473). -/
def State.vaultMoved (s : State) (v : Fin 64) (w : Word) : State :=
  if F.VLT_V_CTRL_MODE.get w != s.vctrl v F.VLT_V_CTRL_MODE || F.VLT_V_CTRL_GEN.get w != s.vctrl v F.VLT_V_CTRL_GEN then
    s.vltCause F.VLT_CAUSE_CMDERR
  else s

/-- A write of VLT_Vv_CTRL on die 0. -/
def State.vaultCtrl (s : State) (v : Fin 64) (w : Word) : State :=
  let en := F.VLT_V_CTRL_EN.get w = 1
  let go (s : State) : State := if F.VLT_V_CTRL_RKGO.get w = 1 then s.rkgo v else s
  if s.vctrl v F.VLT_V_CTRL_EN = 0 then
    if en then
      if s.enableOk v w then go (s.enableVault v w) else s.vltCause F.VLT_CAUSE_CMDERR
    else go (s.wrRW (R.VLT_V_CTRL 0 v) w)
  else if en then
    go ((s.vaultMoved v w).storeRights v w)
  else if s.vstate v = 1 ∨ s.vstate v = 3 then s.vltCause F.VLT_CAUSE_CMDERR
  else go (((s.vaultMoved v w).storeRights v w).disableVault v)

/-- VAULT_ENABLE: the write's word, with EN at 1. -/
def execVaultEnable (v : Fin 64) (w : Word) (s : State) : Out := .next (s.vaultCtrl v (F.VLT_V_CTRL_EN.set w 1))

/-- VAULT_DISABLE: a write that clears EN and changes nothing else. -/
def execVaultDisable (v : Fin 64) (s : State) : Out :=
  .next (s.vaultCtrl v (F.VLT_V_CTRL_EN.set (s.rd (R.VLT_V_CTRL 0 v)) 0))

/-- RKGO: a write of 1 to RKGO that changes nothing else. -/
def execRkgo (v : Fin 64) (s : State) : Out := .next (s.rkgo v)

/-- REKEY_START: WCNT has reached LIMIT in READY. -/
def execRekeyStart (v : Fin 64) (s : State) : Out :=
  match (s.v v).dueAt with
  | none => .next s
  | some t => if s.vstate v = 2 then .next ((s.at_ t).startRekey v) else .next s

/-! The engine of die 0, source 0x51 (R467, R468) -/

/-- The engine cannot reach a line; in SLEEP it waits (R471). -/
def State.engineRefuse (s : State) (a : Nat) : Option Resp :=
  if s.power.slept.isSome then some .errDenied else
  match s.place a with
  | none => some .errDecode
  | some (ch, _) =>
    if s.unreachable 0 (ch / 8) then some .errAbsent
    else if s.mstate (portOf ch) != 2 then some .errAbsent
    else if s.haltOn.toList.getD (ch / 8) false then some .errDenied
    else none

/-- The way of one access of the engine to its port: its trip over the seams, the monitors' line, the activation and the
retries on the pins (10 R362; 12 R429, R432; 18 R574). -/
def State.engineAt (s : State) (q : Fin 24) (ch ev : Nat) (env : G6Env) : State :=
  ((((s.roundTrip 0 (ch / 8)).tally (q.val / 4) (ev + q.val % 4) 1).activate q ch 0x51 env.act).edcRetry q env.edc)

/-- The engine stops at its line. -/
def State.rekeyError (s : State) (v : Fin 64) : State := (s.setVstate v 4).vltCause F.VLT_CAUSE_RKERR

/-- The engine has done the last line of a rekey. -/
def State.rekeyEnd (s : State) (v : Fin 64) : State :=
  let g := s.vctrl v F.VLT_V_CTRL_GEN
  let s := (s.setF (R.VLT_V_CTRL 0 v) F.VLT_V_CTRL_GEN (g + 1)).setVstate v 2
  let s := s.setV v { s.v v with keys := (s.v v).keys.filter (fun k => k.1 != g) }
  let s := s.vltCause F.VLT_CAUSE_RKDONE
  if s.flag (R.VLT_V_STAT 0 v) F.VLT_V_STAT_RKPEND then s.startRekey v else s

/-- The engine moves past a line. -/
def State.engineNext (s : State) (v : Fin 64) : State :=
  let a := (s.v v).ptr + 64
  let s := s.setPtr v a
  if a < s.vbase v + s.vsize v then s
  else if s.vstate v = 1 then ((s.setV v { s.v v with init := false }).setVstate v 2).vltCause F.VLT_CAUSE_INITDONE
  else s.rekeyEnd v

/-- The stored form of a plaintext under a generation. -/
def State.sealGen (s : State) (v : Fin 64) (gen a : Nat) (plain : Line512) : GLine :=
  let k := s.keyOf v gen
  match s.vctrl v F.VLT_V_CTRL_MODE with
  | 1 => ⟨Config.xts (keyXts k) (tweak a gen) plain, 0, .clean, .clean, .clean, .clean⟩
  | 2 =>
    let c := Config.xts (keyXts k) (tweak a gen) plain
    ⟨c, lineTag k a gen c, .clean, .clean, .clean, .clean⟩
  | _ => ⟨plain, 0, .clean, .clean, .clean, .clean⟩

/-- One line of a rekey at its port: read, and written once it has passed its checks. -/
def State.rekeyAt (s : State) (v : Fin 64) (q : Fin 24) (ch key a : Nat) (env : G6Env) : State :=
  let src := 0x51
  let s := s.engineAt q ch 0x40 env
  if env.buf then s.rekeyError v
  else if 4 ≤ env.edc then ((s.raise (R.MEMP_CAUSE q) F.MEMP_CAUSE_EDCFAIL).elog q a 4 src).rekeyError v
  else
    let l := s.lineFound key
    let cs := l.conds env.ecc
    let ue := countWords cs [0, 1, 2, 3] .ue
    let s := (s.lineRead key).keepMarks key env.ecc
    let s := (s.countCe q (countWords cs [0, 1, 2, 3] .ce)).countUe q ue a 0 src
    if ue != 0 then s.rekeyError v
    else if s.tagOk (some v) a l then
      let g := s.vctrl v F.VLT_V_CTRL_GEN
      let s := (s.roundTrip 0 (ch / 8)).tally (q.val / 4) (0x44 + q.val % 4) 1
      (s.setLine key (some (s.sealGen v (g + 1) a (s.open_ (some v) a l.data)))).engineNext v
    else s.tagFailure v a 5 src

/-- REKEY_LINE. -/
def execRekeyLine (v : Fin 64) (env : G6Env) (s : State) : Out :=
  if s.vstate v = 3 then
    let a := (s.v v).ptr
    match s.engineRefuse a, s.place a with
    | some .errDenied, _ => .next s
    | some _, _ => .next (s.rekeyError v)
    | none, some (ch, line) =>
      if h : portOf ch < 24 then .next (s.rekeyAt v ⟨portOf ch, h⟩ ch (lineKey ch line) a env) else .next s
    | none, none => .next s
  else .next s

/-- One line of an initialisation at its port: 64 zero bytes under GEN. -/
def State.initAt (s : State) (v : Fin 64) (q : Fin 24) (ch key a : Nat) (env : G6Env) : State :=
  let s := s.engineAt q ch 0x44 env
  if env.buf then s.rekeyError v
  else if 4 ≤ env.edc then
    (((s.raise (R.MEMP_CAUSE q) F.MEMP_CAUSE_EDCFAIL).elog q a 4 0x51).setLine key none).rekeyError v
  else (s.setLine key (some (s.sealGen v (s.vctrl v F.VLT_V_CTRL_GEN) a 0))).engineNext v

/-- INIT_LINE. -/
def execInitLine (v : Fin 64) (env : G6Env) (s : State) : Out :=
  if s.vstate v = 1 then
    let a := (s.v v).ptr
    match s.engineRefuse a, s.place a with
    | some .errDenied, _ => .next s
    | some _, _ => .next (s.rekeyError v)
    | none, some (ch, line) =>
      if h : portOf ch < 24 then .next (s.initAt v ⟨portOf ch, h⟩ ch (lineKey ch line) a env) else .next s
    | none, none => .next s
  else .next s

/-! The integrity halt (R463, 16 R546) -/

/-- A tether port stops and goes DOWN (08 R271: leaving UP sets LINKDN). -/
def State.portDown (s : State) (q : Nat) : State :=
  let up := s.fld (R.TSY_PORT_STAT q) F.TSY_PORT_STAT_STATE == 3
  let s := s.setF (R.TSY_PORT_STAT q) F.TSY_PORT_STAT_STATE 0
  if up then s.raise R.TSY_CAUSE F.TSY_CAUSE_LINKDN else s

/-- A VSQ in ARMED, RUN or PAUSED stops with FAULT_INTEG. -/
def State.integStop (s : State) (g : Fin 24) : State :=
  if s.vstat g = 1 ∨ s.vstat g = 2 ∨ s.vstat g = 3 then s.stopNow g 6 0x0F else s

/-- Vault keys, leg keys, nonces and the thermos are zeroised. -/
def State.zeroKeys (s : State) : State :=
  let s := forEach (List.finRange 64) (fun v s => s.setV v { s.v v with keys := [] }) s
  let noKey (l : Load) : Load := { l with key := 0, done := l.done.map (fun x => { x with key := 0 }) }
  { s with keeper := { s.keeper with nonceTap := none, nonceBox := none, thermos := none }
           cfg := { s.cfg with load := s.cfg.load.map noKey } }

/-- INTEGRITY_HALT: the halt reaches a die. -/
def execIntegrityHalt (d : Fin 6) (s : State) : Out :=
  if s.haltReq && !s.haltOn[d] then
    let s := { s with haltOn := s.haltOn.set d true }
    let s := forEach (groupsOf d) (fun g s => s.integStop g) s
    let s := (s.portDown (2 * d.val)).portDown (2 * d.val + 1)
    .next s.zeroKeys
  else .next s

/-! The integrity halt on every die (13 R463), and the device safe state (17 R560) -/

/-- The effects of R463 and R464 on a die, with the code its groups stop with; VLT_HALT is not written. -/
def State.haltDie (s : State) (code : Nat) (d : Fin 6) : State :=
  let s := { s with haltOn := s.haltOn.set d true }
  let s := forEach (groupsOf d) (fun g s => if s.active g then s.stopNow g 6 code else s) s
  (s.portDown (2 * d.val)).portDown (2 * d.val + 1)

/-- The whole device halts and every key is cleared: ZEROISE (16 R547), SCAN entry (16 R541). -/
def State.haltAll (s : State) (code : Nat) : State :=
  let s := { s with haltReq := true }
  (forEach (List.finRange 6) (fun d s => s.haltDie code d) s).zeroKeys.raise (R.VLT_CAUSE 0) F.VLT_CAUSE_HALT

/-- The device safe state (17 R560): FAULT_FENCE, DONE low, BIST_CAUSE.SAFE on die 0. -/
def State.safeState (s : State) : State :=
  let s := (s.haltAll 0x0E).setB (R.CFG_STAT 0) F.CFG_STAT_DONE false
  { s.raise (R.BIST_CAUSE 0) F.BIST_CAUSE_SAFE with power := { s.power with safe := true } }

end Sys2Proof.Machine
end

