-- ==== Sys2Proof/Machine/Seam.lean ====
section
/-! DEFINITION. Machine/Seam.lean: seam links: training, lane roles, sparing, fences, and which dies can be reached
(10_seams.md). A link has two ends, ports of two dies of this device; a command names one of them. -/
namespace Sys2Proof.Machine

/-! Ends -/

/-- The other end of a link: its die and port. -/
def farEnd (d k : Nat) : Option (Nat × Nat) := (neighbour d k).map (fun e => (e, facing k))

/-- The state of a link's end; one that is not UP has no crossings and no flits under way. -/
def State.setLink (s : State) (d k n : Nat) : State :=
  let s := s.setF (R.SEAM_STAT d k) F.SEAM_STAT_STATE n
  if n = 2 then s
  else (s.setB (R.SEAM_STAT d k) F.SEAM_STAT_FABREL false).setSeam d k (fun x => { x with wire := [], repl := [], unacked := [], errs := [] })

/-- A state transformer on both ends of a link. -/
def State.bothEnds (s : State) (d k : Nat) (f : Nat → Nat → State → State) : State :=
  match farEnd d k with
  | none => s
  | some (e, j) => f e j (f d k s)

/-! Reach (R365, R366; 08 R267) -/

/-- A die that runs. -/
def State.dieRuns (s : State) (d : Nat) : Bool := !s.dieDown.toList.getD d true

/-- The dies next to a die over links that are UP. -/
def State.upNeighbours (s : State) (d : Nat) : List Nat :=
  [0, 1, 2].filterMap (fun k => if s.link d k = 2 then (neighbour d k).filter (fun e => s.dieRuns e) else none)

/-- Dies within n links of a list of dies. -/
def State.within (s : State) (n : Nat) (l : List Nat) : List Nat :=
  match n with
  | 0 => l
  | m + 1 => s.within m (l.foldl (fun acc d => (s.upNeighbours d).foldl (fun acc e => insertOnce e acc) acc) l)

/-- A die is isolated: in reset, without its clock, with every link FENCED, or with no way to die 0 (R365). -/
def State.cutOff (s : State) (d : Nat) : Bool :=
  !s.dieRuns d || !(s.within 5 [d]).contains 0 ||
  [0, 1, 2].all (fun k => (neighbour d k).isNone || s.link d k == 3)

/-- SEAM_DSTAT.ABSENT of a die. -/
def State.showAbsent (s : State) (d : Nat) : State :=
  let reach := s.within 5 [d]
  s.setF (R.SEAM_DSTAT d) F.SEAM_DSTAT_ABSENT
    ((List.range 6).foldl (fun acc e => if e = d ∨ (reach.contains e ∧ !s.cutOff e) then acc else acc + 2 ^ e) 0)

/-- Which dies are present is known on every die; vectors whose condition ends with it are ready for the next rise. -/
def State.publish (s : State) : State :=
  let s := { s with isolated := Vector.ofFn (fun d => s.cutOff d) }
  (forEach (List.range 6) (fun d s => s.showAbsent d) s).noteFalls

/-- Two members of a group's gang are more than four links apart. -/
def State.gangSevered (s : State) (g : Fin 24) : Bool :=
  (s.members g).any (fun m => (s.members g).any (fun k => !(s.within 4 [(dieOf m).val]).contains (dieOf k).val))

/-- Every member of a gang with SPAN = 2 two of whose members are more than four links apart is lost 16 ns after a fence
(08 R267). -/
def State.gangReach (s : State) : State :=
  let t := s.now + 16 * ns
  forEach ((List.finRange 24).filter (fun g => s.active g.val && s.gangEn g.val && s.span g.val == 2)) (fun g s =>
    if s.gangSevered g then
      s.modG g (fun x => { x with lostAt := some (match x.lostAt with | none => t | some u => min t u) })
    else s) s

/-! Transactions under way (R366, R368) -/

/-- What a bridge does with a transaction it keeps when a link fences: one whose path is cut goes again on the other path;
with that cut too it is lost. -/
def State.reroute (s : State) (d : Nat) (x : SeamTxn) : SeamTxn :=
  if x.lost || !pathFenced s 4 d x.path then x
  else if pathFenced s 4 d x.other then { x with lost := true }
  else { x with path := x.other, other := x.path }

/-- A request that has no requester any more: its answer is dropped. -/
def nobody : Nat := 1024

/-- A lost transaction's request at a fabric target or on its way to another device loses its requester. -/
def State.orphan (s : State) (x : SeamTxn) : State :=
  let off (i : Nat) : Nat := 0x100080000000 + i / 16 * 0x100000000 + i % 16 * 0x8000000
  let cut (i : Nat) (r : FabReq) : FabReq := if r.src = x.acc.src ∧ off i + r.addr = x.acc.addr then { r with src := nobody } else r
  { s with
    fport := Vector.ofFn (fun i => let p := s.fport[i]
      { p with tgtWait := p.tgtWait.map (cut i), tgt := p.tgt.map (cut i)
               tgtDone := p.tgtDone.filter (fun e => (cut i e.1).src != nobody) })
    remoteOut := s.remoteOut.erase x.acc
    remoteDone := s.remoteDone.filter (fun e => e.1 != x.acc) }

/-- Every bridge looks at the transactions it keeps. -/
def State.rerouteAll (s : State) : State :=
  forEach (List.range 6) (fun d s =>
    let old := (s.bridgeAt d).sent
    let s := s.setBridge d (fun b => { b with sent := b.sent.map (s.reroute d) })
    forEach old (fun x s =>
      let y := s.reroute d x
      if y.lost && !x.lost then s.orphan x else if y.path != x.path then s.sendFlit 4 d y.path else s) s) s

/-- A link is FENCED: it carries nothing at either end (R364). -/
def State.fenceLink (s : State) (d k : Nat) : State :=
  (s.bothEnds d k (fun e j s => (s.setLink e j 3).raise (R.SEAM_CAUSE e j) F.SEAM_CAUSE_FENCED)).rerouteAll.gangReach

/-- SEAM_FENCE. -/
def execSeamFence (d : Fin 6) (k : Fin 3) (s : State) : Out := .next (s.fenceLink d k)

/-- FENCE_PUBLISH: the states of the links reach every die, within 2 us (R364). -/
def execFencePublish (s : State) : Out := .next s.publish

/-- DIE_ISOLATED: the neighbours fence their ports to the die; one that runs stops its groups with FAULT_FENCE. -/
def execDieIsolated (d : Fin 6) (s : State) : Out :=
  if s.cutOff d then
    let s := forEach [0, 1, 2] (fun k s => if (neighbour d k).isSome && (s.link d k == 0 || s.link d k == 2) then s.fenceLink d k else s) s
    let s := s.publish
    let s := if d = 0 then s.safeState else s
    .next (forEach (groupsOf d) (fun g s => if s.active g then s.stopNow g 6 0x0E else s) s)
  else .next s

/-! Lane roles (R350, R351) -/

/-- Role counts of a port: PROM, FAB, SYNC, SPARE. -/
structure Roles where
  prom : Nat
  fab : Nat
  sync : Nat
  spare : Nat
deriving DecidableEq, Repr

def State.roles (s : State) (d k : Nat) : Roles :=
  ⟨s.fld (R.SEAM_ROLE d k) F.SEAM_ROLE_PROM, s.fld (R.SEAM_ROLE d k) F.SEAM_ROLE_FAB, s.fld (R.SEAM_ROLE d k) F.SEAM_ROLE_SYNC,
   s.fld (R.SEAM_ROLE d k) F.SEAM_ROLE_SPARE⟩

def Roles.word (r : Roles) : Word := BitVec.ofNat 32 (r.prom + r.fab * 256 + r.sync * 65536 + r.spare * 16777216)
def Roles.required (r : Roles) : Nat := r.prom + r.fab + r.sync

/-- A header's role counts are within the limits (R350). -/
def Roles.ok (r : Roles) : Bool :=
  r.prom + r.fab + r.sync + r.spare == 48 && r.sync == 2 && (r.prom == 16 || r.prom == 24 || r.prom == 32) && decide (r.fab ≤ 12)

/-- Lanes of a mask, in ascending order. -/
def lanesOf (mask : BitVec 48) : List Nat := (List.range 48).filter (fun l => bitOf mask.toNat l)

/-- The map byte of the i-th good lane: ROLE (0 PROM, 1 FAB, 2 SYNC, 3 SPARE) and IDX. -/
def roleAt (r : Roles) (i : Nat) : Nat :=
  let b (role idx : Nat) : Nat := role + 8 * (idx % 32)
  if i < r.sync then b 2 i
  else if i < r.sync + r.prom then b 0 (i - r.sync)
  else if i < r.required then b 1 (i - r.sync - r.prom)
  else b 3 (i - r.required)

/-- The map of a direction: one byte a lane, 4 for BAD. -/
def laneMap (r : Roles) (mask : BitVec 48) : List Nat :=
  let good := lanesOf mask
  (List.range 48).map (fun l => if good.contains l then roleAt r (good.idxOf l) else 4)

/-- The map registers of a direction at its two ends. -/
def State.writeMap (s : State) (reg : Nat → Nat) (m : List Nat) : State :=
  forEach (List.range 12) (fun i s => s.wr (reg i) (BitVec.ofNat 32 (leOf ((m.drop (4 * i)).take 4)))) s

def State.readMap (s : State) (reg : Nat → Nat) : List Nat :=
  (List.range 48).map (fun l => bitsOf (s.rd (reg (l / 4))).toNat (8 * (l % 4)) 8)

/-- Spare lanes of a map. -/
def spares (m : List Nat) : Nat := (m.filter (fun b => b % 8 == 3)).length

/-- A direction sent by die d at port k has a map. -/
def State.setMap (s : State) (d k : Nat) (m : List Nat) : State :=
  match farEnd d k with
  | none => s
  | some (e, j) =>
    let s := s.writeMap (fun i => R.SEAM_LMAP_TX d k i) m
    let s := s.writeMap (fun i => R.SEAM_LMAP_RX e j i) m
    (s.setF (R.SEAM_STAT d k) F.SEAM_STAT_SPTX (spares m)).setF (R.SEAM_STAT e j) F.SEAM_STAT_SPRX (spares m)

/-! Training (R358 to R361) -/

/-- Training begins at both ends: attempt 1. -/
def State.train (s : State) (d k : Nat) : State :=
  s.bothEnds d k (fun e j s =>
    let s := (s.setLink e j 1).setF (R.SEAM_STAT e j) F.SEAM_STAT_ATTEMPT 0
    let s := s.setB (R.SEAM_STAT e j) F.SEAM_STAT_FALLBK false
    s.setSeam e j (fun x => { x with acc := BitVec.allOnes 48, same := true }))

/-- SEAM_RETRAIN: also the end of a fence (R364). -/
def execSeamRetrain (d : Fin 6) (k : Fin 3) (s : State) : Out :=
  if (farEnd d k).isSome then .next (s.train d k) else .next s

def State.holdsRoles (s : State) (d : Nat) : Bool := s.hasRoles.toList.getD d false

/-- Bytes lo to lo + n - 1 of a device header, as a little-endian number (11 R377). -/
def hdr (h : List Nat) (lo n : Nat) : Nat := leOf ((h.drop lo).take n)

/-- Die and port of the first end of each link in the header's order: L01, L12, L34, L45, L03, L14, L25. -/
def headerLinks : List (Nat × Nat) := [(0, 1), (1, 1), (3, 1), (4, 1), (0, 2), (1, 2), (2, 2)]

def hdrRoles (h : List Nat) (i : Nat) : Roles :=
  ⟨hdr h (20 + 4 * i) 1, hdr h (21 + 4 * i) 1, hdr h (22 + 4 * i) 1, hdr h (23 + 4 * i) 1⟩

/-- A die takes the role counts of its links from a header. -/
def State.giveRoles (s : State) (h : List Nat) (d : Nat) : State :=
  let s := forEach [0, 1, 2] (fun k s =>
    match headerLinks.findIdx? (fun l => l == (d, k) || farEnd l.1 l.2 == some (d, k)) with
    | none => s
    | some i => s.wr (R.SEAM_ROLE d k) (hdrRoles h i).word) s
  { s with hasRoles := Vector.ofFn (fun i => if i.val = d then true else s.hasRoles[i]) }

/-- The header of the full load under way. -/
def State.fullHeader (s : State) : Option (List Nat) :=
  s.cfg.load.bind (fun l => if l.kind = 0 ∧ l.header ≠ [] then some l.header else none)

/-- A die without role counts takes them as its first link comes up: from the header of the full load under way, else its
peer's, for all its links (R358). -/
def State.adopt (s : State) (d e j : Nat) : State :=
  if s.holdsRoles d || !s.holdsRoles e then s
  else
    match s.fullHeader with
    | some h => s.giveRoles h d
    | none =>
      let w := (s.roles e j).word
      let s := forEach ([0, 1, 2].filter (fun k => (neighbour d k).isSome)) (fun k s => s.wr (R.SEAM_ROLE d k) w) s
      { s with hasRoles := Vector.ofFn (fun i => if i.val = d then true else s.hasRoles[i]) }

/-- The role counts an attempt on a link works with: a die without any takes its peer's. -/
def State.linkRoles (s : State) (d k e j : Nat) : Roles := if s.holdsRoles d then s.roles d k else s.roles e j

/-- The link comes up with the good lanes of the direction that (d, k) sends and of the one it receives. -/
def State.linkUp (s : State) (d k : Nat) (tx rx : BitVec 48) (fall : Bool) : State :=
  match farEnd d k with
  | none => s
  | some (e, j) =>
    let s := (s.adopt d e j).adopt e d k
    let r := s.roles d k
    let s := (s.setMap d k (laneMap r tx)).setMap e j (laneMap r rx)
    let degr := decide ((lanesOf tx).length < r.required + r.spare) || decide ((lanesOf rx).length < r.required + r.spare)
    let s := s.bothEnds d k (fun e j s =>
      let s := (s.setLink e j 2).setB (R.SEAM_STAT e j) F.SEAM_STAT_FALLBK fall
      let s := s.raise (R.SEAM_CAUSE e j) F.SEAM_CAUSE_UP
      if degr then s.raise (R.SEAM_CAUSE e j) F.SEAM_CAUSE_DEGR else s)
    s.publish

/-- A failed attempt at both ends: the masks of all attempts are kept; the fourth applies the fall-back (R360). -/
def State.attemptFailed (s : State) (d k e j : Nat) (rxd rxe : BitVec 48) (mism : Bool) : State :=
  let s := s.setSeam d k (fun x => { x with acc := x.acc &&& rxd, same := x.same && !mism })
  let s := s.setSeam e j (fun x => { x with acc := x.acc &&& rxe, same := x.same && !mism })
  let n := s.fld (R.SEAM_STAT d k) F.SEAM_STAT_ATTEMPT
  if n < 3 then s.bothEnds d k (fun e j s => s.setF (R.SEAM_STAT e j) F.SEAM_STAT_ATTEMPT (n + 1))
  else
    let tx := (s.seamEnd e j).acc
    let rx := (s.seamEnd d k).acc
    let need := (s.linkRoles d k e j).required
    if !(s.seamEnd d k).same then
      (s.bothEnds d k (fun e j s => s.raise (R.SEAM_CAUSE e j) F.SEAM_CAUSE_ROLEMIS)).fenceLink d k
    else if 0 < need ∧ need ≤ (lanesOf tx).length ∧ need ≤ (lanesOf rx).length then s.linkUp d k tx rx true
    else s.fenceLink d k

/-- ATTEMPT_END: the receive masks of the two ends, and whether each side had its own echoed unchanged. A link that is
DOWN trains since its die left reset. With no role counts on either side there is nothing to confirm yet (R358). -/
def execAttemptEnd (d : Fin 6) (k : Fin 3) (rxd rxe : BitVec 48) (echo : Bool) (s : State) : Out :=
  match farEnd d k with
  | none => .next s
  | some (e, j) =>
    if 1 < s.link d k then .next s
    else
      let s := if s.link d k = 0 ∨ s.link e j ≠ 1 then s.train d k else s
      if !s.dieRuns d || !s.dieRuns e then .next (s.attemptFailed d k e j 0 0 false)
      else if !s.holdsRoles d && !s.holdsRoles e then .next s
      else
        let mism := s.holdsRoles d && s.holdsRoles e && s.roles d k != s.roles e j
        let need := (s.linkRoles d k e j).required
        if echo && !mism && decide (need ≤ (lanesOf rxd).length ∧ need ≤ (lanesOf rxe).length) then .next (s.linkUp d k rxe rxd false)
        else .next (s.attemptFailed d k e j rxd rxe mism)

/-! Lanes (R362, R363) -/

/-- The PROM flits that an end has sent without an acknowledgement are sent again, in order (R353, R363). -/
def State.resendFlits (s : State) (d k : Nat) : State :=
  let due := (s.seamEnd d k).unacked.filter (fun f => decide (s.now ≤ f.2 + 100 * ns))
  let s := s.setSeam d k (fun x => { x with unacked := due.map (fun f => (f.1, s.now)) })
  (s.bump (R.SEAM_RETRY_CNT d k) F.SEAM_RETRY_CNT_COUNT due.length).tally d (0x63 + k) due.length

/-- What the traffic of a lane replaced meets until it flows again (R363): (d, k) receives, (e, j) sends. -/
def State.laneGap (s : State) (d k e j byte : Nat) : State :=
  match byte % 8 with
  | 0 => s.resendFlits e j
  | 1 => s.setSeam d k (fun x => { x with repl := (byte / 8, s.now) :: x.repl.filter (fun r => r.1 != byte / 8) })
  | _ => s

/-- Lane l of the direction that (d, k) receives fails. The lowest SPARE lane takes its role and index; with
none left the link is fenced and trains again. -/
def State.laneFail (s : State) (d k l : Nat) : State :=
  match farEnd d k with
  | none => s
  | some (e, j) =>
    if s.link d k ≠ 2 then s
    else
      let m := s.readMap (fun i => R.SEAM_LMAP_RX d k i)
      let role := nth m l 4 % 8
      if role = 4 then s
      else if role = 3 then s.setMap e j (m.set l 4)
      else
        match (List.range 48).find? (fun i => nth m i 4 % 8 == 3) with
        | some sp =>
          ((s.setMap e j ((m.set sp (nth m l 4)).set l 4)).raise (R.SEAM_CAUSE d k) F.SEAM_CAUSE_SPARED).laneGap d k e j (nth m l 4)
        | none => ((s.setMap e j (m.set l 4)).fenceLink d k).train d k

/-- LANE_FAIL. -/
def execLaneFail (d : Fin 6) (k : Fin 3) (l : Fin 48) (s : State) : Out := .next (s.laneFail d k l)

/-- The oldest PROM flit of an end that may still lack its acknowledgement. -/
def State.waitingFlit (s : State) (d k : Nat) : Option (Nat × Nat) :=
  (s.seamEnd d k).unacked.find? (fun f => decide (s.now ≤ f.2 + 100 * ns))

/-- SEAM_FLIT_RETRY: the oldest PROM flit has no acknowledgement 100 ns after it was sent and is sent again (R353). -/
def execSeamFlitRetry (d : Fin 6) (k : Fin 3) (s : State) : Out :=
  match s.waitingFlit d k with
  | none => .next s
  | some f =>
    let t := s.at_ (f.2 + 100 * ns)
    let t := t.setSeam d k (fun x => { x with unacked :=
      (x.unacked.filter (fun g => decide (s.now ≤ g.2 + 100 * ns))).replace f (f.1, t.now) })
    .next ((t.bump (R.SEAM_RETRY_CNT d k) F.SEAM_RETRY_CNT_COUNT 1).tally d (0x63 + k.val) 1)

/-! Crossings (R352, R357) -/

/-- FAB_RELEASE: at the first whole microsecond with the link UP and both dies past their WREN step. -/
def execFabRelease (d : Fin 6) (k : Fin 3) (s : State) : Out :=
  match farEnd d k with
  | none => .next s
  | some (e, j) =>
    if s.link d k = 2 ∧ s.link e j = 2 ∧ s.flag (R.FAB_STAT d) F.FAB_STAT_WREN ∧ s.flag (R.FAB_STAT e) F.FAB_STAT_WREN then
      let s := s.at_ ((s.now + 1000 * ns - 1) / (1000 * ns) * (1000 * ns))
      .next (s.bothEnds d k (fun e j s => (s.raise (R.SEAM_STAT e j) F.SEAM_STAT_FABREL).dropFvals e j))
    else .next s

/-- An uncorrectable word of FAB lane f: it is counted, and the lane fails with SEAM_CTRL.ETHR of them within 1 us (R352,
R362). -/
def State.badWord (s : State) (d k f : Nat) : State :=
  let s := (s.bump (R.SEAM_FABERR_CNT d k) F.SEAM_FABERR_CNT_COUNT 1).raise (R.SEAM_CAUSE d k) F.SEAM_CAUSE_FABERR
  let s := s.setSeam d k (fun x => { x with errs := (f, s.now) :: x.errs.filter (fun e => decide (s.now < e.2 + 1000 * ns)) })
  if max 1 (s.fld (R.SEAM_CTRL d k) F.SEAM_CTRL_ETHR) ≤ ((s.seamEnd d k).errs.filter (fun e => e.1 == f)).length then
    let s := s.setSeam d k (fun x => { x with errs := x.errs.filter (fun e => e.1 != f) })
    match (s.readMap (fun i => R.SEAM_LMAP_RX d k i)).idxOf? (1 + 8 * f) with
    | none => s
    | some l => s.laneFail d k l
  else s

/-- FAB_LANE_WORD: one nanosecond of FAB lane f, at its receiving end. The word that arrives is taken, or, where it is
uncorrectable, leaves the crossings as they were (R352); the values that the far end drives now are sent, and arrive 12 ns
later (09 R338). The first word after a lane has been replaced ends that (R363). -/
def execFabLaneWord (d : Fin 6) (k : Fin 3) (f : Fin 12) (ecc : Ecc) (s : State) : Out :=
  match farEnd d k with
  | none => .next s
  | some (e, j) =>
    if s.link d k = 2 ∧ s.flag (R.SEAM_STAT d k) F.SEAM_STAT_FABREL ∧ f.val < s.fabLanes d k then
      let s := s.at_ ((s.now + ns - 1) / ns * ns)
      let t := s.now
      let s := (s.setSeam d k (fun x => { x with repl := x.repl.filter (fun r => r.1 != f.val) })).dropFvals d k
      let due := (s.seamEnd d k).wire.filter (fun w => w.1 == f.val && decide (w.2.1 ≤ t))
      let sent := s.laneWord ⟨e % 6, by omega⟩ j f
      let s := s.setSeam d k (fun x => { x with
        wire := x.wire.filter (fun w => !(w.1 == f.val && decide (w.2.1 ≤ t))) ++ [(f.val, t + 12 * ns, sent)] })
      match due.getLast? with
      | none => .next s
      | some w =>
        if ecc = .ue then .next (s.badWord d k f)
        else
          let v := s.takeWord d k f w.2.2
          .next ((s.setSeam d k (fun x => { x with xin := Sparse.put (fun _ => 0) x.xin f v })).settle d)
    else .next s

end Sys2Proof.Machine
end

