-- ==== Sys2Proof/Machine/Header.lean ====
section
/-! DEFINITION. Machine/Header.lean: the device header of a bitstream: its fields and the checks it must pass
(11_configuration.md R377 to R380, R386 to R388, 16_security_lifecycle.md R532). -/
namespace Sys2Proof.Machine

/-- Every byte of a range is 0. -/
def zeros (h : List Nat) (lo n : Nat) : Bool := ((h.drop lo).take n).all (fun b => b % 256 == 0)

def hdrKind (h : List Nat) : Nat := hdr h 9 1
def hdrEnc (h : List Nat) : Bool := bitOf (hdr h 10 1) 0
def hdrSigned (h : List Nat) : Bool := bitOf (hdr h 10 1) 1
def hdrDie (h : List Nat) : Nat := hdr h 11 1 % 8
def hdrMeadow (h : List Nat) : Nat := hdr h 11 1 / 8
def hdrDesign (h : List Nat) : Nat := hdr h 12 4
def hdrStartup (h : List Nat) : Nat := hdr h 16 1

/-- Meadow m of die n (R398). -/
def hdrMeadowOf (h : List Nat) (n m : Nat) : Meadow :=
  let a := 72 + 256 * n + 8 * m
  ⟨bitOf (hdr h (a + 7) 1) 0, BitVec.ofNat 48 (hdr h a 6), BitVec.ofNat 8 (hdr h (a + 6) 1)⟩

/-- The directory entry of die n: OFFSET, LENGTH. -/
def hdrOffset (h : List Nat) (n : Nat) : Nat := hdr h (3336 + 116 * n) 8
def hdrLength (h : List Nat) (n : Nat) : Nat := hdr h (3344 + 116 * n) 8

/-- The code of start-up step k (R394): 0 LOCK, 1 OUTREL, 2 SETREL, 3 WREN. -/
def stepCode (order k : Nat) : Nat := bitsOf order (2 * k) 2

/-- Each code appears once. -/
def orderOk (order : Nat) : Bool := [0, 1, 2, 3].all (fun c => [0, 1, 2, 3].any (fun k => stepCode order k == c))

/-- No region lies in two valid meadows of a die. -/
def meadowsApart (h : List Nat) (n : Nat) : Bool :=
  (List.range 48).all (fun r =>
    decide (((List.range 32).filter (fun m => (hdrMeadowOf h n m).valid && bitOf (hdrMeadowOf h n m).mask.toNat r)).length ≤ 1))

/-- The die directory: a section for every die, or for the die of the meadow alone (R377). -/
def directoryOk (h : List Nat) : Bool :=
  (List.range 6).all (fun n =>
    if hdrKind h = 0 then hdrLength h n != 0 else (hdrLength h n != 0) == (n == hdrDie h))

/-- A header passes R379, for a load that wants a full (0) or a partial (1) bitstream. -/
def headerOk (h : List Nat) (kind : Nat) : Bool :=
  hdr h 0 4 == 0x42364654 && hdr h 4 2 == 1 && hdr h 6 2 == 0x768 && hdrKind h == kind && decide (hdr h 10 1 < 4) &&
  (hdrKind h != 0 || hdr h 11 1 == 0) && zeros h 17 3 && zeros h 4032 3968 &&
  orderOk (hdrStartup h) &&
  (hdrKind h != 0 || (zeros h 62 2 && zeros h 70 2 && (List.range 7).all (fun i => (hdrRoles h i).ok) && (List.range 12).all (fun i => hdr h (48 + i) 1 != 1) &&
    (List.range 6).all (fun n => meadowsApart h n))) &&
  directoryOk h

/-- What the life-cycle state makes of FLAGS (16 R532): accepted, POLICY (3) or AUTH (4). -/
def flagsCode (lc : Nat) (signed enc hashLocked : Bool) : Nat :=
  let ok := match lc with
    | 0 => !enc
    | 1 => true
    | 2 => signed && enc
    | 3 => signed && !enc
    | _ => false
  if !ok then 3 else if signed && !hashLocked then 4 else 0

/-- Authentication, life cycle and rollback (R386, R387): 0 accepted, 3 POLICY, 4 AUTH, 5 ROLLBACK. -/
def State.authCode (s : State) (h : List Nat) : Nat :=
  let c := flagsCode (s.fld R.KPR_STAT F.KPR_STAT_LC) (hdrSigned h) (hdrEnc h) (bitOf (s.rd R.KPR_FLOCK).toNat 1)
  let keyOk := Config.sha384 ((h.drop 8000).take 96) == s.keeper.fuses.bshash
  let sigOk := Config.ecdsaOk (BitVec.ofNat 768 (hdr h 8000 96)) (Config.sha384 (h.take 8096)) (BitVec.ofNat 768 (hdr h 8096 96))
  if c ≠ 0 then c
  else if hdrSigned h && !(keyOk && sigOk) then 4
  else if hdr h 8 1 < s.fld R.KPR_RBCNT F.KPR_RBCNT_COUNT then 5
  else 0

/-- The first leg's key of die n (R380, R388): none where it cannot be unwrapped. -/
def State.firstKey (s : State) (h : List Nat) (n : Nat) : Option (BitVec 256) :=
  if hdrEnc h then
    if s.fld R.KPR_STAT F.KPR_STAT_DBG = 3 then none
    else Config.keyUnwrap s.keySource (BitVec.ofNat 320 (hdr h (3352 + 116 * n) 40))
  else some 0

def hdrIv (h : List Nat) (n : Nat) : BitVec 96 := BitVec.ofNat 96 (hdr h (3392 + 116 * n) 12)
def hdrHash (h : List Nat) (n : Nat) : BitVec 384 := BitVec.ofNat 384 (hdr h (3404 + 116 * n) 48)

/-! What the agents load from a full header (R379) -/

/-- Role counts of the links of every die that die 0 reaches; the others take theirs as they come up (10 R358). -/
def State.loadRoles (s : State) (h : List Nat) : State := forEach (s.within 5 [0]) (fun d s => s.giveRoles h d) s

/-- Fence values of the crossings, synthesisers, meadow table and bank standards of a die. -/
def State.loadDie (s : State) (h : List Nat) (n : Fin 6) : State :=
  let s := forEach [0, 1, 2] (fun k s =>
    if (neighbour n k).isSome then
      forEach (List.range 24) (fun w s => s.wr (R.SEAM_FVAL n k w) (BitVec.ofNat 32 (hdr h (1608 + 288 * n.val + 96 * k + 4 * w) 4)))
        (s.setSeam n k (fun x => { x with fvals := [] }))
    else s) s
  let s := forEach [0, 1] (fun k s =>
    let s := s.setF (R.FAB_FCS_CTRL n k) F.FAB_FCS_CTRL_DIV (hdr h (48 + 2 * n.val + k) 1)
    s.setFcs n k (bitOf (hdr h 60 2) (2 * n.val + k))) s
  let ms := (List.range 32).map (hdrMeadowOf h n)
  let s := s.wr (R.CFG_MDDEF n) (BitVec.ofNat 32 ((List.range 32).foldl (fun acc m => acc + b2n (hdrMeadowOf h n m).valid * 2 ^ m) 0))
  s.modFab n (fun x => { x with meadows := ms, gpioStd := (List.range 4).map (fun b => bitsOf (hdr h (64 + n.val) 1) (2 * b) 2) })

end Sys2Proof.Machine
end

