-- ==== Sys2Proof/Machine/Configuration.lean ====
section
/-! DEFINITION. Machine/Configuration.lean: loads, start-up, meadows and the scrubber (11_configuration.md). A leg is
taken up when its bytes are there; the commands of its stream are then executed one by one, and its check comes at its
end (R389). -/
namespace Sys2Proof.Machine

/-- The next whole microsecond at or after a time. -/
def wholeUs (t : Nat) : Nat := (t + 1000 * ns - 1) / (1000 * ns) * (1000 * ns)

def State.setCfg (s : State) (f : Config11 → Config11) : State := { s with cfg := f s.cfg }
def State.cfgState (s : State) (n : Nat) : State := s.setF (R.CFG_STAT 0) F.CFG_STAT_STATE n
def State.cfgErr0 (s : State) (f : Fld) : State := s.raise (R.CFG_CAUSE 0) f

/-! Clearing (R371, R391, R393) -/

/-- FAB_PORTp_STAT.ABSENT of a die's target sides: not enabled, region fenced, or before its WREN step (09 R345). -/
def State.showPorts (s : State) (d : Fin 6) : State :=
  forEach (List.range 16) (fun p s =>
    let absent := !s.flag (R.FAB_PORT_STAT d p) F.FAB_PORT_STAT_TGT || !s.regionWren d (40 + p / 2)
    s.setB (R.FAB_PORT_STAT d p) F.FAB_PORT_STAT_ABSENT absent) s

/-- The settings that a die's frames choose are read again, with the sides of its promenade ports (09 R328, R340). -/
def State.readSets (s : State) (d : Fin 6) : State :=
  let sets := Config.fabricSets ((s.fabric d).frames.filter (fun e => [1, 3, 4, 6].contains (frameAddr e.1).typ))
  let s := s.modFab d (fun x => { x with sets := sets })
  let s := forEach (List.range 16) (fun p s =>
    let r := (sets.port.lookup p).getD (false, false, 32)
    (s.setB (R.FAB_PORT_STAT d p) F.FAB_PORT_STAT_INIT r.1).setB (R.FAB_PORT_STAT d p) F.FAB_PORT_STAT_TGT r.2.1) s
  s.showPorts d

/-- The FAB release of a die's links is withdrawn. -/
def State.withdraw (s : State) (d : Nat) : State :=
  forEach [0, 1, 2] (fun k s => s.bothEnds d k (fun e j s => s.setB (R.SEAM_STAT e j) F.SEAM_STAT_FABREL false)) s

/-- A port whose region stops: its initiator side drops what it holds, and requests to its target side end with
ERR_ABSENT (R399). -/
def FabPort.cut (x : FabPort) : FabPort :=
  { FabPort.reset with tgtDone := x.tgtDone ++ (x.tgtWait ++ x.tgt).map (fun r => (r, .errAbsent, [])) }

/-- A die is cleared: every frame 0, no logic, GSR asserted, WREN low; its pin channels take the idle state (04 R122). -/
def State.clearDie (s : State) (d : Fin 6) : State :=
  let s := forEach (groupsOf d) (fun g s => (s.idleAt g s.now).modG g (fun x => x.ufStop s.now)) (s.withdraw d)
  let s := s.modFab d (fun _ => Fabric.reset)
  let s := ((s.wr (R.FAB_STAT d) 1).wr (R.CFG_MDDEF d) 0).wr (R.CFG_MDFENCE d) 0
  let s := s.wr (R.CFG_DSTAT d) 0
  let s := { s with
    cfgUp := s.cfgUp.set d false
    fport := Vector.ofFn (fun i => if i.val / 16 = d.val then s.fport[i].cut else s.fport[i])
    cfg := { s.cfg with fences := s.cfg.fences.filter (fun e => e.1 != d.val)
                        unfence := s.cfg.unfence.filter (fun u => !u.dies.contains d.val)
                        orders := s.cfg.orders.filter (fun e => e.1 != d.val) } }
  forEach (List.range 16) (fun p s => s.wr (R.FAB_PORT_STAT d p) 4) s

def State.clearAll (s : State) : State := forEach (List.finRange 6) (fun d s => s.clearDie d) s

/-! Meadow fences (R399, R400) -/

/-- The side wires of a meadow that hold their last value: those at 1 when the fence begins. -/
def State.heldBy (s : State) (d : Fin 6) (m : Nat) : List Nat :=
  let lens := [(0, 8), (1, 8), (2, 8), (3, 4)]
  (List.range 432).flatMap (fun c => (List.range 216).flatMap (fun r =>
    if s.meadowOf d (regionOfTile c r) = some m then
      (List.range 4).flatMap (fun D =>
        if fenceOf (s.meadow d m) D = 2 then
          lens.flatMap (fun l => (List.range l.2).filterMap (fun i =>
            if s.fabVal d fabFuel (.wire c r D l.1 i) then some ((c * 216 + r) * 128 + wireNo D l.1 i) else none))
        else [])
    else []))

/-- The regions of a flip-flop's key. -/
def ffRegion (k : Nat) : Nat := regionOfTile (k / 32 / 216) (k / 32 % 216)

/-- A meadow is held in reset (09 R322): its own GSR asserted, its own WREN low. -/
def State.holdMeadow (s : State) (d : Fin 6) (m : Nat) : State :=
  s.modFab d (fun x => { x with mdGsr := insertOnce m x.mdGsr, mdWren := (m, none) :: x.mdWren.filter (fun e => e.1 != m) })

/-- A meadow is fenced and held in reset from now on; its port sides let go of what they hold. -/
def State.fenceMeadow (s : State) (d : Fin 6) (m : Nat) : State :=
  if s.mdFenced d m then s
  else
    let mask := (s.meadow d m).mask.toNat
    let held := s.heldBy d m
    let s := forEach ((groupsOf d).filter (fun g => bitOf mask (2 * (g.val % 4)) || bitOf mask (2 * (g.val % 4) + 1)))
      (fun g s => s.modG g (fun x => x.ufStop s.now)) s
    let live (n : Nat) : Bool := !bitOf mask (Config.lineRegion n)
    let s := s.setF (R.FAB_STAT d) F.FAB_STAT_IRQ
      (bitsNat ((List.range 16).map (fun i => bitOf (s.fld (R.FAB_STAT d) F.FAB_STAT_IRQ) i && live i)))
    let s := s.wr (R.CFG_MDFENCE d) (s.rd (R.CFG_MDFENCE d) ||| BitVec.ofNat 32 (2 ^ m))
    let s := (s.holdMeadow d m).modFab d (fun x => { x with
      heldWires := x.heldWires ++ held
      ff := Sparse.keep (fun k => !bitOf mask (ffRegion k)) x.ff
      pre := none
      reqs := BitVec.ofNat 32 (bitsNat ((List.range 32).map (fun i => bitOf x.reqs.toNat i && live (16 + i)))) })
    let s := { s with fport := Vector.ofFn (fun i =>
      if i.val / 16 = d.val ∧ bitOf mask (40 + i.val % 16 / 2) then s.fport[i].cut else s.fport[i]) }
    let s := forEach ((List.range 16).filter (fun p => bitOf mask (40 + p / 2))) (fun p s => s.setF (R.FAB_PORT_STAT d p) F.FAB_PORT_STAT_OUTST 0) s
    (s.showPorts d).settle d

/-- A fence is requested: it takes effect at the first whole microsecond at least 1 us away. -/
def State.askFence (s : State) (d m : Nat) : State :=
  s.setCfg (fun c => { c with fences := c.fences ++ [(d, m, wholeUs (s.now + 1000 * ns))] })

/-- A load of a die runs. -/
def State.loading (s : State) (d : Nat) : Bool :=
  (match s.cfg.load with | none => false | some l => l.kind == 0 || (l.die == d && !(l.kind == 2 && l.header.isEmpty))) ||
  (match s.cfg.startup with | none => false | some u => u.dies.contains d)

/-- MEADOW_FENCE: a write of FENCE with MEADOW. -/
def execMeadowFence (d : Fin 6) (m : Fin 32) (s : State) : Out :=
  let s := s.setF (R.CFG_MDCTRL d) F.CFG_MDCTRL_MEADOW m
  if !(s.meadow d m).valid || s.loading d then .next (s.cfgErr0 F.CFG_CAUSE_CMDERR) else .next (s.askFence d m)

/-- MEADOW_FENCE_TAKE: at F. -/
def execMeadowFenceTake (d : Fin 6) (m : Fin 32) (s : State) : Out :=
  match s.cfg.fences.find? (fun e => e.1 == d.val && e.2.1 == m.val) with
  | none => .next s
  | some e =>
    let s := (s.at_ e.2.2).setCfg (fun c => { c with
      fences := c.fences.erase e, unfence := c.unfence.filter (fun u => !(u.dies.contains d.val && u.meadow == some m.val)) })
    .next ((s.fenceMeadow d m).holdMeadow d m)

/-- The start-up order of a meadow's frames: of the partial load that wrote them, else of the full one (R403). -/
def State.orderOf (s : State) (d m : Nat) : Nat :=
  ((s.cfg.orders.find? (fun e => e.1 == d && e.2.1 == m)).map (fun e => e.2.2)).getD (hdrStartup s.cfg.header)

/-- UNFENCE: the meadow's start-up with its current frames. -/
def execUnfence (d : Fin 6) (m : Fin 32) (s : State) : Out :=
  let s := s.setF (R.CFG_MDCTRL d) F.CFG_MDCTRL_MEADOW m
  if !(s.meadow d m).valid || s.loading d then .next (s.cfgErr0 F.CFG_CAUSE_CMDERR)
  else if s.mdFenced d m && !s.cfg.unfence.any (fun u => u.dies.contains d.val && u.meadow == some m.val) then
    let u : Startup := ⟨[d.val], some m.val, s.orderOf d m, 0, wholeUs (s.now + 2000 * ns), 3⟩
    .next (s.setCfg (fun c => { c with unfence := c.unfence ++ [u] }))
  else .next s

/-! Failures (R389, R392, R393, R402) -/

/-- CFG_ERR. -/
def State.cfgErr (s : State) (code : Nat) (l : Load) : State :=
  s.wr (R.CFG_ERR 0) (BitVec.ofNat 32 (code + l.src * 16 + l.slot * 64 + l.die * 256 + l.leg % 65536 * 65536))

/-- A load from a flash slot begins: a full one. -/
def loadOf (kind src slot off die : Nat) (bytes : List Nat) (slots : List (Nat × Nat)) : Load where
  kind := kind
  src := src
  slot := slot
  off := off
  inbuf := bytes
  pos := 0
  skip := 0
  header := []
  die := die
  turn := 0
  leg := 0
  stored := 0
  key := 0
  iv := 0
  hash := 0
  words := []
  done := none
  fw := none
  written := []
  crcLast := false
  ended := false
  endAt := 0
  slots := slots

/-- The search goes on with the next slot; after the last the device waits for the host (R375). -/
def State.nextSlot (s : State) (src : Nat) (slots : List (Nat × Nat)) : State :=
  match slots with
  | [] => (s.cfgState 5).setCfg (fun c => { c with load := none })
  | (n, off) :: r =>
    let s := (s.cfgState 2).setB (R.CFG_STAT 0) F.CFG_STAT_INITB true
    s.setCfg (fun c => { c with load := some (loadOf 0 src n off 0 (c.flash.drop off) r) })

/-- A meadow's frames are cleared. -/
def State.clearMeadow (s : State) (d : Fin 6) (m : Nat) : State :=
  (s.modFab d (fun x => x.clearRegions (s.meadow d m).mask.toNat)).readSets d

def State.setBusy (s : State) (b : Bool) : State := s.setB (R.CFG_STAT 0) F.CFG_STAT_BUSY b

/-- A load fails. -/
def State.loadFail (s : State) (l : Load) (code : Nat) : State :=
  let s := (s.cfgErr code l).setCfg (fun c => { c with load := none, startup := none, started := none, doneAt := none })
  match l.kind with
  | 0 =>
    let s := (s.clearAll.setB (R.CFG_STAT 0) F.CFG_STAT_DONE false).setB (R.CFG_STAT 0) F.CFG_STAT_INITB false
    (s.cfgErr0 F.CFG_CAUSE_LOADERR).nextSlot l.src l.slots
  | 1 =>
    let s := if h : l.die < 6 then s.clearDie ⟨l.die, h⟩ else s
    (s.setBusy false).cfgErr0 F.CFG_CAUSE_LOADERR
  | _ =>
    let s := s.setBusy false
    if h : hdrDie l.header < 6 then
      let d : Fin 6 := ⟨hdrDie l.header, h⟩
      let s := s.setB (R.CFG_DSTAT d) F.CFG_DSTAT_LOADING false
      let s := if !l.header.isEmpty && s.mdFenced d (hdrMeadow l.header) then s.clearMeadow d (hdrMeadow l.header) else s
      s.raise (R.CFG_CAUSE d) F.CFG_CAUSE_PLOADERR
    else s.raise (R.CFG_CAUSE 0) F.CFG_CAUSE_PLOADERR

/-! Legs (R381, R382, R388) -/

def State.putLoad (s : State) (l : Load) : State := s.setCfg (fun c => { c with load := some l })

/-- 32-bit words of bytes. -/
def wordsOfBytes (n : Nat) (bs : List Nat) : List Word :=
  match n with
  | 0 => []
  | k + 1 => BitVec.ofNat 32 (leOf (bs.take 4)) :: wordsOfBytes k (bs.drop 4)

/-- A leg's bytes: L, decrypted, checked against what named it. -/
def Load.openLeg (l : Load) (bytes : List Nat) (len : Nat) : List Nat × LegDone :=
  let head := bytes.take 16
  let ct := (bytes.drop 16).take len
  let tag : BitVec 128 := BitVec.ofNat 128 (leOf ((bytes.drop (16 + len)).take 16))
  let r := if hdrEnc l.header then Config.gcm l.key l.iv head ct else (ct, 0)
  let t := r.1.drop (len - 96)
  let good := r.2 == tag && Config.sha384 (bytes.take (len + 32)) == l.hash
  (r.1.take (len - 96), ⟨good, bitOf (leOf ((t.drop 44).take 4)) 0, BitVec.ofNat 256 (leOf (t.take 32)),
    BitVec.ofNat 96 (leOf ((t.drop 32).take 12)), BitVec.ofNat 384 (leOf ((t.drop 48).take 48))⟩)

/-- The next leg is taken up once it is there whole. A flash that ends before it fails the load. -/
def State.takeLeg (s : State) (l : Load) : State :=
  if l.header.isEmpty || l.done.isSome then s.putLoad l
  else
    let bytes := l.inbuf.drop l.skip
    if bytes.length < 16 then (if l.src = 2 then s.putLoad l else s.loadFail l 6)
    else
      let len := leOf (bytes.take 4)
      if len % 16 != 0 || decide (len < 96 ∨ 4194304 < len) || !zeros bytes 4 12 then s.loadFail l 6
      else if bytes.length < len + 32 then (if l.src = 2 then s.putLoad l else s.loadFail l 6)
      else
        let r := l.openLeg bytes len
        s.putLoad { l with
          inbuf := bytes.drop (len + 32), pos := l.pos + l.skip + len + 32, skip := 0, stored := l.stored + len + 32
          words := l.words ++ wordsOfBytes ((len - 96) / 4) r.1, done := some r.2 }

/-- The section of a die begins: its key, its place (R380, R390). -/
def State.beginSection (s : State) (l : Load) (n : Nat) : State :=
  match s.firstKey l.header n with
  | none => s.loadFail { l with die := n, leg := 0 } 4
  | some k =>
    let off := hdrOffset l.header n
    let l := { l with die := n, turn := s.now, leg := 0, stored := 0, key := k, iv := hdrIv l.header n, hash := hdrHash l.header n
                      words := [], done := none, fw := none, written := [], crcLast := false, ended := false }
    let l := if l.src = 2 then { l with skip := if l.kind = 1 then 0 else off - l.pos }
      else { l with inbuf := s.cfg.flash.drop (l.off + off), pos := off, skip := 0 }
    let s := s.raise (R.CFG_DSTAT n) F.CFG_DSTAT_LOADING
    s.takeLeg l

/-- A header that has been accepted takes effect. -/
def State.headerEffect (s : State) (l : Load) : State :=
  let h := l.header
  let s := if hdrEnc h then s.raise (R.CFG_STAT 0) F.CFG_STAT_ENCSEEN else s
  match l.kind with
  | 0 =>
    let s := s.loadRoles h
    let s := forEach (List.finRange 6) (fun n s => s.loadDie h n) s
    s.beginSection l 0
  | 1 =>
    let s := if hd : l.die < 6 then (s.giveRoles h l.die).loadDie h ⟨l.die, hd⟩ else s
    s.beginSection l l.die
  | _ =>
    if hd : hdrDie h < 6 then
      let d : Fin 6 := ⟨hdrDie h, hd⟩
      let s := if s.mdFenced d (hdrMeadow h) then s else s.at_ (wholeUs (s.now + 1000 * ns))
      let s := (s.fenceMeadow d (hdrMeadow h)).clearMeadow d (hdrMeadow h)
      s.beginSection l d
    else s.loadFail l 2

/-- The design a partial load or a DIELOAD belongs to (R393, R401). -/
def State.designOk (s : State) (l : Load) (h : List Nat) : Bool :=
  match l.kind with
  | 0 => true
  | 1 => hdrDesign h == (s.rd (R.CFG_DESIGNID 0)).toNat
  | _ => hdrDesign h == (s.rd (R.CFG_DESIGNID 0)).toNat &&
    (if hd : hdrDie h < 6 then (s.meadow ⟨hdrDie h, hd⟩ (hdrMeadow h)).valid else false)

/-- The header is taken up once its 8,192 bytes are there. -/
def State.takeHeader (s : State) (l : Load) : State :=
  if !l.header.isEmpty then s.takeLeg l
  else if l.inbuf.length < 8192 then (if l.src = 2 then s.putLoad l else s.loadFail l 2)
  else
    let h := l.inbuf.take 8192
    if !headerOk h (if l.kind = 2 then 1 else 0) then s.loadFail l 2
    else
      let c := s.authCode h
      let l := { l with header := h, inbuf := l.inbuf.drop 8192, pos := 8192 }
      if c ≠ 0 then s.loadFail l c
      else if !s.designOk l h then s.loadFail l 0xC
      else s.headerEffect l

/-! Boot search and CFG_DATA (R372 to R376) -/

/-- A boot directory is valid (R373). -/
def dirOk (b : List Nat) : Bool := hdr b 0 4 == 0x44465442 && hdr b 60 4 == crc32c (b.take 60)

/-- The image slots of a directory, empty ones skipped. -/
def dirSlots (b : List Nat) : List (Nat × Nat) :=
  ([0, 1, 2, 3].map (fun i => (i, hdr b (16 + 8 * i) 8))).filter (fun e => e.2 != 0)

/-- A flash load that has not taken its header does so; so does the next slot's after a failure (R375). -/
def State.trySlots (s : State) (fuel : Nat) : State :=
  match fuel with
  | 0 => s
  | n + 1 =>
    match s.cfg.load with
    | none => s
    | some l => if l.header.isEmpty && l.src != 2 then (s.takeHeader l).trySlots n else s

/-- BOOT_SEARCH: the 64 bytes read in 1S-1S-1S and in 8D-8D-8D, those read again at speed, and what the flash holds. -/
def execBootSearch (dir1 dir8 again flash : List Nat) (s : State) : Out :=
  let st := s.fld (R.CFG_STAT 0) F.CFG_STAT_STATE
  if (st = 0 ∨ st = 1) ∧ s.cfg.load = none then
    let s := ((s.clearAll.cfgState 1).setB (R.CFG_STAT 0) F.CFG_STAT_INITB true).setCfg (fun c => { c with flash := flash })
    if dirOk dir1 then
      let src := if bitOf (hdr dir1 4 1) 0 && again == dir1 then 1 else 0
      let s := s.setF (R.CFG_STAT 0) F.CFG_STAT_OCTAL src
      .next (if dirSlots dir1 = [] then (s.setB (R.CFG_STAT 0) F.CFG_STAT_INITB false).nextSlot src [] else (s.nextSlot src (dirSlots dir1)).trySlots 5)
    else if dirOk dir8 then
      let s := s.setF (R.CFG_STAT 0) F.CFG_STAT_OCTAL 1
      .next (if dirSlots dir8 = [] then (s.setB (R.CFG_STAT 0) F.CFG_STAT_INITB false).nextSlot 1 [] else (s.nextSlot 1 (dirSlots dir8)).trySlots 5)
    else .next ((s.setF (R.CFG_ERR 0) F.CFG_ERR_CODE 1).cfgState 5)
  else .next s

/-- CFG_DATA takes bytes: while the device waits for the host, and in a load from CFG_DATA. -/
def State.takesData (s : State) : Bool :=
  match s.cfg.load with
  | some l => l.src == 2
  | none => s.fld (R.CFG_STAT 0) F.CFG_STAT_STATE == 5

/-- CFG_DATA_WRITE (R376). -/
def execCfgDataWrite (bytes : List Nat) (s : State) : Out :=
  if s.takesData then
    match s.cfg.load with
    | some l => .next ((s.takeHeader { l with inbuf := l.inbuf ++ bytes }).answer .ok [])
    | none =>
      let s := (s.cfgState 2).setB (R.CFG_STAT 0) F.CFG_STAT_INITB true
      .next ((s.takeHeader (loadOf 0 2 0 0 0 bytes [])).answer .ok [])
  else .next ((s.cfgErr0 F.CFG_CAUSE_CMDERR).answer .errDenied [])

/-! The command stream (R383 to R385) -/

/-- A command is whole: the next step of the stream can be made. -/
def Load.ready (l : Load) : Bool :=
  match l.fw with
  | some _ => decide (144 ≤ l.words.length)
  | none =>
    match l.words with
    | [] => false
    | w :: _ =>
      match bitsOf w.toNat 24 8 with
      | 1 => decide (2 ≤ l.words.length)
      | 2 => decide (2 ≤ l.words.length)
      | _ => true

/-- The opcode that comes next; 1 while an FWRITE goes on. -/
def Load.opcode (l : Load) : Nat :=
  match l.fw with
  | some _ => 1
  | none => bitsOf ((l.words.headD 0).toNat) 24 8

def Load.arg (l : Load) : Nat := (l.words.headD 0).toNat % 2 ^ 24

/-- The next command breaks the rules of the stream (R383). -/
def Load.badCmd (l : Load) : Bool :=
  l.fw.isNone &&
  (decide (3 < l.opcode) || (l.opcode == 0 && l.arg != 0) || (l.opcode == 1 && l.arg == 0) || (l.opcode == 3 && !l.crcLast) ||
   (l.ended && l.opcode != 0))

/-- A frame address can be written by this load (R384). -/
def State.faOk (s : State) (l : Load) (fa : Nat) : Bool :=
  addrValid fa && (frameAddr fa).die == l.die &&
  (l.kind != 2 || (if h : l.die < 6 then bitOf (s.meadow ⟨l.die, h⟩ (hdrMeadow l.header)).mask.toNat (frameAddr fa).region else false))

/-- Frames are written while their words are there. -/
def State.writeFrames (s : State) (fuel : Nat) (l : Load) : State :=
  match fuel with
  | 0 => s.putLoad l
  | k + 1 =>
    match l.fw with
    | none => s.putLoad l
    | some (fa, n) =>
      if l.words.length < 144 then s.putLoad l
      else if !s.faOk l fa then s.loadFail l 8
      else
        let v : Frame := BitVec.ofNat 4608 ((l.words.take 144).foldr (fun w acc => w.toNat + 4294967296 * acc) 0)
        let s := if h : l.die < 6 then
            s.modFab ⟨l.die, h⟩ (fun x => { (x.setFrame fa v) with badWords := x.badWords.filter (fun b => b / 128 != fa) })
          else s
        let next := if n = 1 then none else some (match (frameAddr fa).next with | none => 2 ^ 32 | some f => f.word, n - 1)
        s.writeFrames k { l with words := l.words.drop 144, written := fa :: l.written, fw := next }

/-- One step of the stream, if the command of this opcode is the next one. A die that cannot be reached waits. -/
def State.streamStep (s : State) (op : Nat) (f : Load → State → State) : State :=
  match s.cfg.load with
  | none => s
  | some l =>
    if !l.ready || s.unreachable 0 l.die then s
    else if l.badCmd then (s.loadFail l 7).trySlots 5
    else if l.opcode = op then (f l s).trySlots 5
    else s

/-- CMD_NOP. -/
def execCmdNop (s : State) : Out := .next (s.streamStep 0 (fun l s => s.putLoad { l with words := l.words.drop 1, crcLast := false }))

/-- FWRITE: the frames of the command whose words have come. -/
def execFwrite (s : State) : Out :=
  .next (s.streamStep 1 (fun l s =>
    match l.fw with
    | some p => s.writeFrames p.2 l
    | none => s.writeFrames l.arg { l with fw := some ((nth l.words 1 0).toNat, l.arg), words := l.words.drop 2, crcLast := false }))

/-- DCRC: over the frames as they stand in configuration memory. -/
def execDcrc (s : State) : Out :=
  .next (s.streamStep 2 (fun l s =>
    if h : l.die < 6 then
      let c := crcFrames (l.written.reverse.map (fun fa => (s.fabric ⟨l.die, h⟩).frame fa))
      if c = (nth l.words 1 0).toNat then s.putLoad { l with words := l.words.drop 2, written := [], crcLast := true }
      else s.loadFail l 9
    else s))

/-- DEND. -/
def execDend (s : State) : Out :=
  .next (s.streamStep 3 (fun l s => s.putLoad { l with words := l.words.drop 1, crcLast := false, ended := true, endAt := s.now }))

/-- The start-up of what has been loaded begins (R395). -/
def State.beginStartup (s : State) (l : Load) : State :=
  let dies := match l.kind with | 0 => [0, 1, 2, 3, 4, 5] | _ => [l.die]
  let md := match l.kind with | 2 => some (hdrMeadow l.header) | _ => none
  let u : Startup := ⟨dies, md, hdrStartup l.header, 0, wholeUs (l.endAt + 2000 * ns), l.kind⟩
  let s := if l.kind = 0 then s.cfgState 3 else s
  let s := s.setCfg (fun c => { c with load := none, startup := some u, started := some l })
  match l.kind with
  | 2 =>
    let mine := (l.die, hdrMeadow l.header, hdrStartup l.header)
    s.setCfg (fun c => { c with orders := mine :: c.orders.filter (fun e => !(e.1 == mine.1 && e.2.1 == mine.2.1)) })
  | 1 => s.setCfg (fun c => { c with header := l.header })
  | _ =>
    let s := s.setCfg (fun c => { c with header := l.header })
    if l.src = 2 then s
    else (s.setCfg (fun c => { c with slotOff := l.off, fullSlot := l.slot })).setF (R.CFG_STAT 0) F.CFG_STAT_SLOT l.slot

/-- The end of a die's section. -/
def State.endSection (s : State) (l : Load) : State :=
  let s := s.setB (R.CFG_DSTAT l.die) F.CFG_DSTAT_LOADING false
  let s := if h : l.die < 6 then s.readSets ⟨l.die, h⟩ else s
  if l.kind = 0 ∧ l.die < 5 then s.beginSection l (l.die + 1) else s.beginStartup l

/-- LEG_END: the leg's commands are done (one may go on in the next leg); its tag and hash are checked, its key goes. -/
def execLegEnd (s : State) : Out :=
  match s.cfg.load with
  | none => .next s
  | some l =>
    match l.done with
    | none => .next s
    | some dn =>
      if l.ready then .next s
      else if !dn.good then .next ((s.loadFail l 6).trySlots 5)
      else if dn.last then
        if !l.ended || !l.words.isEmpty || l.fw.isSome then .next ((s.loadFail l 7).trySlots 5)
        else if l.stored ≠ hdrLength l.header l.die then .next ((s.loadFail l 6).trySlots 5)
        else .next ((s.endSection { l with key := 0, done := none }).trySlots 5)
      else if l.ended then .next ((s.loadFail l 7).trySlots 5)
      else .next ((s.takeLeg { l with key := dn.key, iv := dn.iv, hash := dn.hash, done := none, leg := l.leg + 1 }).trySlots 5)

/-- DIE_ABSENT_TIMEOUT: 100 ms after the turn of a die that cannot be reached (R390). -/
def execDieAbsentTimeout (s : State) : Out :=
  match s.cfg.load with
  | none => .next s
  | some l =>
    if !l.header.isEmpty && s.unreachable 0 l.die then .next (((s.at_ (l.turn + 100000000 * ns)).loadFail l 0xA).trySlots 5)
    else .next s

/-! Start-up steps (R394 to R397, R403) -/

/-- A step of this code is the next one of a start-up: of the load's, or of an UNFENCE. -/
def State.nextStartup (s : State) (code : Nat) : Option Startup :=
  match s.cfg.startup with
  | some u => if stepCode u.order u.step = code then some u else s.cfg.unfence.find? (fun v => stepCode v.order v.step == code)
  | none => s.cfg.unfence.find? (fun v => stepCode v.order v.step == code)

/-- The dies that have passed their last step (R391). -/
def State.diesUp (s : State) (ds : List Nat) : State :=
  let s := { s with cfgUp := Vector.ofFn (fun d : Fin 6 => s.cfgUp[d] || ds.contains d.val) }
  forEach ds (fun d s => s.raise (R.CFG_DSTAT d) F.CFG_DSTAT_CONF) s

/-- A start-up moves on: the next step's time, or its end 1 us after the last step. -/
def State.advance (s : State) (u : Startup) (time : Nat) : State :=
  if u.step < 3 then
    let v := { u with step := u.step + 1, time := time }
    if u.kind = 3 then s.setCfg (fun c => { c with unfence := c.unfence.map (fun x => if x = u then v else x) })
    else s.setCfg (fun c => { c with startup := some v })
  else if u.kind = 3 then s.setCfg (fun c => { c with unfence := c.unfence.erase u })
  else
    let s := if u.meadow.isNone then s.diesUp u.dies else s
    s.setCfg (fun c => { c with startup := none, doneAt := some (time, u.kind, u.dies) })

/-- The effect of a step on a meadow or on each die. -/
def State.startupStep (s : State) (code : Nat) (die : Fin 6 → State → State) (md : Fin 6 → Nat → State → State) : State :=
  match s.nextStartup code with
  | none => s
  | some u =>
    let s := s.at_ u.time
    let s := match u.meadow with
      | none => forEach ((List.finRange 6).filter (fun (d : Fin 6) => u.dies.contains d.val)) die s
      | some m => forEach ((List.finRange 6).filter (fun (d : Fin 6) => u.dies.contains d.val)) (fun d s => md d m s) s
    s.advance u (u.time + 1000 * ns)

/-- Every enabled synthesiser of a die is locked. -/
def State.fcsLocked (s : State) (d : Nat) : Bool :=
  [0, 1].all (fun k => !s.flag (R.FAB_FCS_CTRL d k) F.FAB_FCS_CTRL_EN || s.flag (R.FAB_FCS_STAT d k) F.FAB_FCS_STAT_LOCKED)

/-- When the last of the dies' enabled synthesisers locked. -/
def State.lastLock (s : State) (ds : List Nat) : Nat :=
  (ds.flatMap (fun d => [0, 1].filterMap (fun k =>
    if s.flag (R.FAB_FCS_CTRL d k) F.FAB_FCS_CTRL_EN then s.cfg.locks.lookup (2 * d + k) else none))).foldl max 0

/-- A start-up fails: as its load does (R396, R402); its meadow is fenced and held in reset again. -/
def State.startupFail (s : State) (u : Startup) (code : Nat) : State :=
  let l := { s.cfg.started.getD (loadOf u.kind 0 0 0 (u.dies.headD 0) [] []) with kind := u.kind }
  let s := match u.meadow with
    | none => s
    | some m => forEach ((List.finRange 6).filter (fun (d : Fin 6) => u.dies.contains d.val)) (fun d s =>
        (s.fenceMeadow d m).holdMeadow d m) s
  s.loadFail l code

/-- LOCK_STEP: every enabled synthesiser is locked, or 1 ms has passed (the load fails; an UNFENCE waits on). -/
def execLockStep (s : State) : Out :=
  match s.nextStartup 0 with
  | none => .next s
  | some u =>
    let s := s.at_ u.time
    let limit := u.time + 1000000 * ns
    let all := u.dies.all s.fcsLocked
    if all && decide (u.kind = 3 ∨ s.lastLock u.dies ≤ limit) then
      .next (s.advance u (max (u.time + 1000 * ns) (wholeUs (s.lastLock u.dies))))
    else if u.kind ≠ 3 ∧ (all ∨ limit ≤ s.now) then .next ((s.startupFail u 0xB).trySlots 5)
    else .next s

/-- GPIO outputs of a die follow the fabric, but for banks that are unused or whose supply does not match (09 R332). -/
def State.outrelDie (s : State) (d : Fin 6) : State :=
  let ok := s.fld (R.FAB_STAT d) F.FAB_STAT_BANKOK
  let stds := (s.fabric d).gpioStd
  let bad := (List.range 4).filter (fun b => nth stds b 3 != 3 && !bitOf ok b)
  let s := s.modFab d (fun x => { x with outrel := true, bankZ := (List.range 4).filter (fun b => nth stds b 3 == 3 || !bitOf ok b) })
  if bad.isEmpty then s else s.raise (R.FAB_CAUSE d) F.FAB_CAUSE_BANKV

/-- A meadow's fence ends. -/
def State.unfenceMeadow (s : State) (d : Fin 6) (m : Nat) : State :=
  let s := s.wr (R.CFG_MDFENCE d) (s.rd (R.CFG_MDFENCE d) &&& ~~~BitVec.ofNat 32 (2 ^ m))
  let mask := (s.meadow d m).mask.toNat
  (s.modFab d (fun x => { x with heldWires := x.heldWires.filter (fun w => !bitOf mask (regionOfTile (w / 128 / 216) (w / 128 % 216))) })).showPorts d |>.settle d

/-- OUTREL. -/
def execOutrel (s : State) : Out :=
  .next (s.startupStep 1 (fun d s => s.outrelDie d) (fun d m s => s.unfenceMeadow d m))

/-- SETREL: GSR is released. -/
def execSetrel (s : State) : Out :=
  .next (s.startupStep 2
    (fun d s => (s.setB (R.FAB_STAT d) F.FAB_STAT_GSR false).modFab d (fun x => { x with ff := [] }))
    (fun d m s => s.modFab d (fun x => { x with mdGsr := x.mdGsr.filter (fun n => n != m) })))

/-- WREN_STEP: WREN rises, target sides become reachable. -/
def execWrenStep (s : State) : Out :=
  .next (s.startupStep 3
    (fun d s => ((s.raise (R.FAB_STAT d) F.FAB_STAT_WREN).modFab d (fun x => { x with wrenAt := some s.now })).showPorts d)
    (fun d m s => (s.modFab d (fun x => { x with mdWren := (m, some s.now) :: x.mdWren.filter (fun e => e.1 != m) })).showPorts d))

/-- DONE_RISE: 1 us after the last step of a full load; of a DIELOAD and a partial load their completion. -/
def execDoneRise (s : State) : Out :=
  match s.cfg.doneAt with
  | none => .next s
  | some (t, kind, ds) =>
    let s := (s.at_ t).setCfg (fun c => { c with doneAt := none })
    match kind with
    | 0 =>
      let s := (s.setB (R.CFG_STAT 0) F.CFG_STAT_DONE true).cfgState 4
      let s := s.wr (R.CFG_DESIGNID 0) (BitVec.ofNat 32 (hdrDesign s.cfg.header))
      .next ((s.setF R.KPR_RBCNT F.KPR_RBCNT_LOADED (hdr s.cfg.header 8 1)).cfgErr0 F.CFG_CAUSE_LOADOK)
    | 1 => .next ((s.setBusy false).cfgErr0 F.CFG_CAUSE_LOADOK)
    | _ => .next ((s.setBusy false).raise (R.CFG_CAUSE (ds.headD 0)) F.CFG_CAUSE_PLOADOK)

/-! Commands (R393, R401, R404) -/

/-- A load runs, its start-up included. -/
def State.loadBusy (s : State) : Bool := s.cfg.load.isSome || s.cfg.startup.isSome || s.cfg.doneAt.isSome

/-- RELOAD. -/
def execReload (s : State) : Out :=
  if s.loadBusy then .next (s.cfgErr0 F.CFG_CAUSE_CMDERR)
  else .next (((s.clearAll.setB (R.CFG_STAT 0) F.CFG_STAT_DONE false).setB (R.CFG_STAT 0) F.CFG_STAT_INITB true).cfgState 1)

/-- HOSTLOAD. -/
def execHostload (s : State) : Out :=
  if s.loadBusy then .next (s.cfgErr0 F.CFG_CAUSE_CMDERR)
  else .next (((s.clearAll.setB (R.CFG_STAT 0) F.CFG_STAT_DONE false).setB (R.CFG_STAT 0) F.CFG_STAT_INITB true).cfgState 5)

/-- PLOAD. -/
def execPload (s : State) : Out :=
  if s.loadBusy || s.fld (R.CFG_STAT 0) F.CFG_STAT_STATE != 4 then .next (s.cfgErr0 F.CFG_CAUSE_CMDERR)
  else .next ((s.setBusy true).putLoad (loadOf 2 2 0 0 0 [] []))

/-- DIELOAD of a die from the slot of the last full load or from CFG_DATA. -/
def execDieload (die : BitVec 3) (dsrc : Bool) (s : State) : Out :=
  let s := (s.setF (R.CFG_CTRL 0) F.CFG_CTRL_DIE die.toNat).setB (R.CFG_CTRL 0) F.CFG_CTRL_DSRC dsrc
  if s.loadBusy then .next (s.cfgErr0 F.CFG_CAUSE_CMDERR)
  else
    if h : die.toNat < 6 then
      let s := (s.clearDie ⟨die.toNat, h⟩).setBusy true
      if dsrc then .next (s.putLoad (loadOf 1 2 0 0 die.toNat [] []))
      else
        let src := s.fld (R.CFG_STAT 0) F.CFG_STAT_OCTAL
        .next (s.takeHeader (loadOf 1 src s.cfg.fullSlot s.cfg.slotOff die.toNat (s.cfg.flash.drop s.cfg.slotOff) []))
    else .next (s.cfgErr0 F.CFG_CAUSE_CMDERR)

/-- CFG_ABORT: the running load ends with ABORT. -/
def execCfgAbort (s : State) : Out :=
  match s.cfg.load with
  | some l => .next ((s.loadFail l 0xD).trySlots 5)
  | none =>
    match s.cfg.startup with
    | none => .next s
    | some u =>
      .next ((s.startupFail u 0xD).trySlots 5)

/-! Scrubbing and read-back (R405 to R408) -/

/-- Ones among the 72 bits of a word with its check bits. -/
def weight72 (v : Nat) : Nat := ((List.range 72).filter (fun i => bitOf v i)).length

/-- One word of a frame with what has flipped in it, bits 71:64 its check bits: corrected, or counted and left. -/
def State.scrubWord (s : State) (d : Fin 6) (fa w flip : Nat) : State :=
  let bad := (s.fabric d).badWords.contains (128 * fa + w)
  if !bad && weight72 flip == 0 then s
  else if !bad && weight72 flip == 1 then
    ((s.tally d 0xC0 1).bump (R.CFG_SCRUB_SBE d) F.CFG_SCRUB_SBE_VALUE 1).raise (R.CFG_CAUSE d) F.CFG_CAUSE_SCRUBSBE
  else
    let first := (s.rd (R.CFG_SCRUB_MBE d)).toNat == 0
    let s := (s.bump (R.CFG_SCRUB_MBE d) F.CFG_SCRUB_MBE_VALUE 1).raise (R.CFG_CAUSE d) F.CFG_CAUSE_SCRUBMBE
    let s := if first then s.wr (R.CFG_SCRUB_MBEADDR d) (BitVec.ofNat 32 fa) else s
    let s := s.modFab d (fun x => { (x.setFrame fa (x.frame fa ^^^ (BitVec.ofNat 4608 (flip % 2 ^ 64) <<< (64 * w)))) with
      badWords := insertOnce (128 * fa + w) x.badWords })
    let s := if (frameAddr fa).typ = 0 then s else s.readSets d
    if s.flag (R.CFG_SCRUB_CTRL d) F.CFG_SCRUB_CTRL_MBEFENCE then
      match s.meadowOf d (frameAddr fa).region with
      | some m => if s.mdFenced d m then s else s.askFence d m
      | none => s
    else s

/-- SCRUB_FRAME: one frame, with the bits that have flipped in its words since it was written, and whether the voted
copies of CFG_SCRUB_CTRL disagreed at the start of the pass (R407). In SLEEP the scrubber pauses (19 R598). -/
def execScrubFrame (d : Fin 6) (fa : Word) (flips : List (Nat × BitVec 72)) (tmr : Bool) (s : State) : Out :=
  let f := frameAddr fa.toNat
  let s := if tmr then s.raise (R.CFG_CAUSE d) F.CFG_CAUSE_SCRUBTMR else s
  let skip := s.power.slept.isSome || !s.flag (R.CFG_SCRUB_CTRL d) F.CFG_SCRUB_CTRL_EN || !addrValid fa.toNat || f.die != d.val || !checkedType f.typ ||
    s.loading d || (match s.meadowOf d f.region with | none => false | some m => s.mdFenced d m)
  if skip then .next s
  else
    .next (forEach (List.range 72) (fun w s =>
      s.scrubWord d fa.toNat w (flips.foldl (fun acc e => if e.1 = w then acc ^^^ e.2.toNat else acc) 0)) s)

/-- SCRUB_CLR. -/
def execScrubClr (d : Fin 6) (s : State) : Out :=
  .next (((s.wr (R.CFG_SCRUB_SBE d) 0).wr (R.CFG_SCRUB_MBE d) 0).wr (R.CFG_SCRUB_MBEADDR d) 0)

/-- RBADDR_WRITE (R408). -/
def execRbaddrWrite (d : Fin 6) (fa : Word) (s : State) : Out :=
  if s.flag (R.CFG_STAT 0) F.CFG_STAT_ENCSEEN || bitOf (s.rd R.KPR_POLICY).toNat 1 then .next (s.answer .errDenied [])
  else if !addrValid fa.toNat || (frameAddr fa.toNat).die != d.val then .next (s.answer .errDecode [])
  else
    let v := (s.fabric d).frame fa.toNat
    let s := s.wr (R.CFG_RBADDR d) fa
    .next ((forEach (List.range 144) (fun i s => s.wr (R.CFG_RBDATA d i) (v.extractLsb' (32 * i) 32)) s).answer .ok [])

end Sys2Proof.Machine
end

