-- ==== Sys2Proof/Machine/FabricCmd.lean ====
section
/-! DEFINITION. Machine/FabricCmd.lean: synthesisers, interrupt lines and GPIO banks of the fabric (09_fabric.md R317,
R318, R330 to R333, R339). -/
namespace Sys2Proof.Machine

/-- FCS_ENABLE: a write of EN; the synthesiser starts to lock, or stops. -/
def execFcsEnable (d : Fin 6) (k : Fin 2) (en : Bool) (s : State) : Out := .next (s.setFcs d k en)

/-- FCS_LOCK: a synthesiser that is enabled locks, or a locked one loses the reference. -/
def execFcsLock (d : Fin 6) (k : Fin 2) (locked : Bool) (s : State) : Out :=
  let was := s.flag (R.FAB_FCS_STAT d k) F.FAB_FCS_STAT_LOCKED
  if locked then
    if !was && s.flag (R.FAB_FCS_CTRL d k) F.FAB_FCS_CTRL_EN then
      let n := 2 * d.val + k.val
      .next ((s.raise (R.FAB_FCS_STAT d k) F.FAB_FCS_STAT_LOCKED).setCfg (fun c => { c with
        locks := (n, s.now) :: c.locks.filter (fun e => e.1 != n) }))
    else .next s
  else if was then
    .next ((s.setB (R.FAB_FCS_STAT d k) F.FAB_FCS_STAT_LOCKED false).raise (R.FAB_CAUSE d) F.FAB_CAUSE_FCSLOCK)
  else .next s

/-- FABRIC_IRQ_EDGE: interrupt line i of the fabric changes; a rising edge sets its cause. A die without running logic
has its lines at 0, and so has a fenced meadow (11 R391, R399). -/
def execFabricIrqEdge (d : Fin 6) (i : Fin 16) (level : Bool) (s : State) : Out :=
  if !s.lineLive d i then .next s
  else
    let old := s.fld (R.FAB_STAT d) F.FAB_STAT_IRQ
    let new := if level then old ||| 2 ^ i.val else old - (if bitOf old i then 2 ^ i.val else 0)
    let s := s.setF (R.FAB_STAT d) F.FAB_STAT_IRQ new
    .next (if level && !bitOf old i then (s.tally d (0xB0 + i.val) 1).setF (R.FAB_CAUSE d) F.FAB_CAUSE_IRQ (s.fld (R.FAB_CAUSE d) F.FAB_CAUSE_IRQ ||| 2 ^ i.val) else s)

/-- A bank that the loaded header declares. -/
def State.bankUsed (s : State) (d : Fin 6) (b : Nat) : Bool := nth (s.fabric d).gpioStd b 3 != 3

/-- BANK_SUPPLY_CHANGE: a declared bank's supply stops matching; its outputs return to high-Z (R332). -/
def execBankSupplyChange (d : Fin 6) (b : Fin 4) (s : State) : Out :=
  let ok := s.fld (R.FAB_STAT d) F.FAB_STAT_BANKOK
  if s.bankUsed d b && bitOf ok b then
    let s := (s.setF (R.FAB_STAT d) F.FAB_STAT_BANKOK (ok - 2 ^ b.val)).raise (R.FAB_CAUSE d) F.FAB_CAUSE_BANKV
    .next (s.modFab d (fun x => { x with bankZ := if x.outrel then insertOnce b.val x.bankZ else x.bankZ }))
  else .next s

/-- BANKOK_RISE: a declared bank's supply comes to match. -/
def execBankokRise (d : Fin 6) (b : Fin 4) (s : State) : Out :=
  let ok := s.fld (R.FAB_STAT d) F.FAB_STAT_BANKOK
  if s.bankUsed d b then .next (s.setF (R.FAB_STAT d) F.FAB_STAT_BANKOK (ok ||| 2 ^ b.val)) else .next s

/-- HOLDUP_B_CHANGE. -/
def execHoldupBChange (level : Bool) (s : State) : Out := .next { s with holdupB := level }

end Sys2Proof.Machine
end

