-- ==== Sys2Proof/Machine/Sync.lean ====
section
/-! DEFINITION. Machine/Sync.lean: tether frames, hop calibration, the tree, broadcast start and gangs across devices
(08_time_sync_scaleout.md R264 to R290). Package time is the machine's clock `now`. -/
namespace Sys2Proof.Machine

/-! The tree (R277 to R279) -/

/-- TSY_STAT.TREE: 0 ALONE, 1 JOINING, 2 JOINED; 3 HOLD while the active upstream path is lost (R288). -/
def State.showTree (s : State) : State :=
  let enabled := (List.range 12).filter (fun p => s.flag (R.TSY_PORT_CTRL p) F.TSY_PORT_CTRL_EN)
  let tree := if s.tsy.hold then 3 else if !enabled.any s.treePort then 0
    else if s.aligned && enabled.all (fun p => s.pstate p == 3) then 2 else 1
  s.setF R.TSY_STAT F.TSY_STAT_TREE tree

/-- The device no longer holds: PT_STAT.HOLD then shows the cleaner alone (R288; 19 R592). -/
def State.unhold (s : State) : State :=
  if s.tsy.hold then
    let s := { s with tsy := { s.tsy with hold := false } }
    s.setB R.PT_STAT F.PT_STAT_HOLD (s.flag R.PKG_REF F.PKG_REF_HOLD)
  else s

/-- A port goes to a state; TSY_PORTq_STAT.UP shows an upstream port. The active upstream port that is UP ends a hold. -/
def State.portTo (s : State) (p n : Nat) : State :=
  let s := (s.setPstate p n).setB (R.TSY_PORT_STAT p) F.TSY_PORT_STAT_UP (s.upstream p)
  (if n = 3 ∧ s.activeUp p then s.unhold else s).showTree

/-- A port leaves UP (R271): it trains again while it is enabled. Where a second path exists, the loss of the active upstream
port holds the device (R288). -/
def State.leaveUp (s : State) (p : Fin 12) : State :=
  let s := s.raise R.TSY_CAUSE F.TSY_CAUSE_LINKDN
  let s := s.modPort p (fun x => { x with good := 0, bad := 0, outq := [], calSent := none, calGot := none })
  let s :=
    if s.activeUp p.val && s.flag R.TSY_CTRL F.TSY_CTRL_SECEN then
      { s.raise R.PT_STAT F.PT_STAT_HOLD with tsy := { s.tsy with hold := true } }
    else s
  s.portTo p (if s.flag (R.TSY_PORT_CTRL p) F.TSY_PORT_CTRL_EN then 1 else 0)

/-- PORT_ENABLE (R279): a write of TSY_PORTq_CTRL. A port that the role does not use stays DOWN (R277);
one that self-test holds keeps EN 0 (17 R559). -/
def execPortEnable (p : Fin 12) (en : Bool) (s : State) : Out :=
  if en && s.bistHeld (p.val / 2) (0x1B + p.val % 2) then .next (s.raise R.TSY_CAUSE F.TSY_CAUSE_CMDERR)
  else
  let old := s.flag (R.TSY_PORT_CTRL p) F.TSY_PORT_CTRL_EN
  let s := s.setB (R.TSY_PORT_CTRL p) F.TSY_PORT_CTRL_EN en
  if en then
    if old then .next s
    else
      let s := s.wr (R.TSY_PORT_FEC p) 0
      let s := s.modPort p (fun x => { Tether.reset with frame := x.frame })
      if s.treePort p.val || p.val == 11 then .next (s.portTo p 1) else .next s.showTree
  else if s.pstate p = 3 then .next (s.leaveUp p)
  else .next ((s.modPort p (fun x => { x with outq := [] })).portTo p 0)

/-- A CAL waits for the next frame of a port (R274). -/
def State.calDue (s : State) (p : Fin 12) : State := s.toPort p ⟨9, s.devId, 0, 0⟩

/-- TRAIN_END: the port measures H from now on (R274, R279). -/
def execTrainEnd (p : Fin 12) (s : State) : Out :=
  if s.pstate p = 1 then
    let s := s.modPort p (fun x => { x with bad := 0, lastFrame := s.now })
    let s := if s.downstream p.val || p.val == 11 then s.calDue p else s
    .next (s.portTo p 2)
  else .next s

/-- What stands against a link of the tree (R278): its far end has this device's number, or lies too deep; what only the
manager can see of the rest of the tree comes with the command. Port 11 is no part of the tree. -/
def State.linkVerdict (s : State) (p peer depth : Nat) (seen : LinkVerdict) : LinkVerdict :=
  if p = 11 then .fits
  else if peer = s.devId then .duplicate
  else if s.upstream p ∧ 2 ≤ depth ∨ s.downstream p ∧ 2 ≤ s.fld R.TSY_STAT F.TSY_STAT_DEPTH then .breaks
  else seen

/-- CAL_END: the port enters UP; the far end has a number and a depth. A link that breaks a limit stays in CAL with TOPO or
DUPID (R278). -/
def execCalEnd (p : Fin 12) (peer : BitVec 6) (depth : BitVec 2) (verdict : LinkVerdict) (s : State) : Out :=
  if s.pstate p = 2 then
    match s.linkVerdict p peer.toNat depth.toNat verdict with
    | .breaks => .next (s.raise R.TSY_CAUSE F.TSY_CAUSE_TOPO)
    | .duplicate => .next (s.raise R.TSY_CAUSE F.TSY_CAUSE_DUPID)
    | .fits =>
      let s := s.modPort p (fun x => { x with
        bad := 0, peer := some peer.toNat, depth := depth.toNat, aligned := s.fld (R.TSY_PORT_HOP p) F.TSY_PORT_HOP_H })
      let s := if s.activeUp p.val then s.setF R.TSY_STAT F.TSY_STAT_DEPTH (min 2 (depth.toNat + 1)) else s
      .next (s.portTo p 3)
  else .next s

/-- LINKDN (R271): codeword lock is lost, or 1 us has passed since the last valid frame. -/
def execLinkdn (p : Fin 12) (lost : Bool) (s : State) : Out :=
  if s.pstate p = 3 then .next ((if lost then s else s.at_ ((s.tport p).lastFrame + 1000 * ns)).leaveUp p) else .next s

/-- HOP_RECAL (R276): the upstream end of an UP link measures again. -/
def execHopRecal (p : Fin 12) (s : State) : Out :=
  if s.pstate p = 3 ∧ (s.downstream p.val ∨ p.val = 11) then .next (s.calDue p)
  else .next s

/-! Launching a frame (R269, R270, R273) -/

/-- Merge results of consecutive indices that follow a COND or DECIDE (R272): the count, the bits, what is left. -/
def mergeRun (typ gid didx n bits : Nat) (q : List TSlot) : Nat × Nat × List TSlot :=
  match q with
  | [] => (n, bits, [])
  | m :: r =>
    if m.gid = gid ∧ m.typ = typ ∧ m.pay % 65536 = (didx + n) % 65536 ∧ n < 16 then
      mergeRun typ gid didx (n + 1) (bits + m.pay / 1048576 % 2 * 2 ^ n) r
    else
      let x := mergeRun typ gid didx n bits r
      (x.1, x.2.1, m :: x.2.2)

def TSlot.gangType (m : TSlot) : Bool := [2, 3, 4, 5, 7].contains m.typ

/-- The message of gang n in this frame: a LOST first, else the oldest, a run of results merged. -/
def takeGang (n : Nat) (q : List TSlot) : Option TSlot × List TSlot :=
  match q.find? (fun m => m.typ == 7 && m.gid == n) with
  | some m => (some m, q.erase m)
  | none =>
    match q.find? (fun m => m.gangType && m.gid == n) with
    | none => (none, q)
    | some m =>
      if m.typ = 2 ∨ m.typ = 3 then
        let r := mergeRun m.typ n (m.pay % 65536) 1 (m.pay / 1048576 % 2) (q.erase m)
        (some { m with pay := m.pay % 65536 + (r.1 - 1) * 65536 + r.2.1 * 1048576 }, r.2.2)
      else (some m, q.erase m)

/-- The gang slots of a frame. -/
def takeGangs (ns : List Nat) (q : List TSlot) : List (Nat × TSlot) × List TSlot :=
  match ns with
  | [] => ([], q)
  | n :: r =>
    let x := takeGang n q
    let y := takeGangs r x.2
    (match x.1 with | none => y.1 | some m => (n, m) :: y.1, y.2)

/-- What a message that waits carries in a frame launched at a time, if it can go: a CAL the port's H, a CALR the turn, at
least 100 ns long (R274). -/
def State.readySlot (s : State) (p : Fin 12) (t : Nat) (m : TSlot) : Option TSlot :=
  if m.typ = 9 then some { m with pay := s.fld (R.TSY_PORT_HOP p) F.TSY_PORT_HOP_H }
  else if m.typ = 0xA then
    match (s.tport p).calGot with
    | none => none
    | some c => if c + 100 * ns ≤ t then some { m with pay := (t - c) % 4294967296 } else none
  else some m

/-- The first n messages that can go, in order of origin, none of them twice; and what goes on waiting (R273). -/
def takeOthers (ready : TSlot → Option TSlot) (seen : List TSlot) (n : Nat) (q : List TSlot) : List TSlot × List TSlot :=
  match q with
  | [] => ([], [])
  | m :: r =>
    match if n = 0 ∨ seen.contains m then none else ready m with
    | none => let x := takeOthers ready seen n r; (x.1, m :: x.2)
    | some w => let x := takeOthers ready (m :: seen) (n - 1) r; (w :: x.1, x.2)

/-- The slots of the next frame of a port, launched at a time, and the messages that go on waiting: slots 0 to 15 for the
gangs, 16 for PTB downstream, 17 to 23 for the rest. -/
def State.frameSlots (s : State) (p : Fin 12) (t : Nat) : List (Nat × TSlot) × List TSlot :=
  let gangs := takeGangs (List.range 16) (s.tport p).outq
  let others := takeOthers (s.readySlot p t) [] 7 (gangs.2.filter (fun m => !m.gangType))
  let ptb := if s.downstream p.val then [(16, (⟨1, s.devId, 0, t / ns / 65536⟩ : TSlot))] else []
  (gangs.1 ++ ptb ++ (List.range others.1.length).map (fun i => (17 + i, nth others.1 i ⟨0, 0, 0, 0⟩)),
   gangs.2.filter TSlot.gangType ++ others.2)

/-- FRAME_LAUNCH: the next frame of a port that is not DOWN, at its place on the grid. Downstream of a worker nothing is
launched before it has aligned (R279). -/
def execFrameLaunch (p : Fin 12) (s : State) : Out :=
  if s.pstate p = 0 ∨ s.downstream p.val ∧ !s.aligned then .next s
  else
    let k := max (s.tport p).frame (frameAfter s.now)
    let t := frameTime k
    let s := (s.at_ t).modPort p (fun x => { x with frame := k + 1 })
    let fnum := t / ns % 65536
    if s.pstate p = 1 then .next (s.emit (frameOut p (framePayload fnum 1 [] [])))
    else
      let x := s.tport p
      let slots := s.frameSlots p t
      let flits := (x.flitq.take 7).map (fun f => { f with sent := t })
      let went (c : Nat) : Bool := slots.1.any (fun m => m.2.typ == c)
      let s := s.modPort p (fun x => { x with
        outq := slots.2
        calSent := if went 9 then some t else x.calSent
        calGot := if went 0xA then none else x.calGot
        flitq := x.flitq.drop 7
        unacked := x.unacked ++ flits })
      .next (s.emit (frameOut p (framePayload fnum 0 slots.1 (flits.map Flit.bits))))

/-- FLIT_RETRY: flits that wait 400 ns for their acknowledgement are sent again, in order (R271). -/
def execFlitRetry (p : Fin 12) (s : State) : Out :=
  match (s.tport p).unacked with
  | [] => .next s
  | f :: _ =>
    let s := s.at_ (f.sent + 400 * ns)
    .next (s.modPort p (fun x => { x with flitq := x.unacked ++ x.flitq, unacked := [] }))

/-! Slots received (R272) -/

/-- A slot of the tree is taken on the active upstream port (coming down). -/
def State.fromUp (s : State) (p : Nat) : Bool := s.activeUp p && s.pstate p == 3
/-- A slot of the tree is taken on a downstream port (coming up). -/
def State.fromDown (s : State) (p : Nat) : Bool := s.downstream p && s.pstate p == 3

/-- PTB: a worker aligns on its active upstream port once it is UP: the frame launched at upstream time t_L is delivered
at t_L + H (R265, R279). After a switch it measures the offset (R289). Both use the port's H (R276). -/
def State.slotPtb (s : State) (p : Fin 12) (fnum : Nat) (m : TSlot) : State :=
  if s.fromUp p.val then
    let pt := m.pay % 2 ^ 48 * 65536 + fnum % 65536
    let h := s.fld (R.TSY_PORT_HOP p) F.TSY_PORT_HOP_H
    let fine := launchOf pt + h
    if !s.aligned then
      (((s.jump fine).modPort p (fun x => { x with aligned := h })).raise R.PT_STAT F.PT_STAT_ALIGNED).showTree
    else if s.tsy.measure then
      let ofs : Int := (fine : Int) - (s.now : Int)
      let s := (s.wr R.TSY_PTOFS (BitVec.ofNat 32 (unsignedOf 32 ofs))).modPort p (fun x => { x with aligned := h })
      { s with tsy := { s.tsy with measure := false, ptofs := some ofs } }
    else s
  else s

/-- COND: results of a gang from below (R282). -/
def State.slotCond (s : State) (p : Fin 12) (m : TSlot) : State :=
  if s.fromDown p.val then
    let n := bitsOf m.pay 16 4 + 1
    let l : List GangReport := (List.range n).map (fun i => ⟨(m.pay % 65536 + i) % 65536, p.val, bitOf m.pay (20 + i), s.now⟩)
    s.modGang ⟨m.gid % 16, by omega⟩ (fun x => { x with
      reports := x.reports.filter (fun r => nearIdx r.didx (m.pay % 65536)) ++ l })
  else s

/-- DECIDE: combined results from above, forwarded (R282). -/
def State.slotDecide (s : State) (p : Fin 12) (m : TSlot) : State :=
  if s.fromUp p.val then
    let n := bitsOf m.pay 16 4 + 1
    let l := (List.range n).map (fun i => ((m.pay % 65536 + i) % 65536, bitOf m.pay (20 + i)))
    let s := s.modGang ⟨m.gid % 16, by omega⟩ (fun x => { x with
      decided := x.decided.filter (fun r => nearIdx r.1 (m.pay % 65536)) ++ l.map (fun r => (r.1, r.2, s.now)) })
    forEach l (fun r s => s.sendDown ⟨3, m.dev, m.gid, r.1 + 1048576 * b2n r.2⟩) s
  else s

/-- SARR: an arrival at a SYNC from below (R286). -/
def State.slotSarr (s : State) (p : Fin 12) (m : TSlot) : State :=
  if s.fromDown p.val then
    s.modGang ⟨m.gid % 16, by omega⟩ (fun x => { x with
      arrivals := x.arrivals.filter (fun r => nearIdx r.1 (m.pay % 65536)) ++
        [(m.pay % 65536, p.val, nearest 32 s.now (m.pay / 65536))] })
  else s

/-- SREL: the release time of a SYNC from above, forwarded. -/
def State.slotSrel (s : State) (p : Fin 12) (m : TSlot) : State :=
  if s.fromUp p.val then
    (s.modGang ⟨m.gid % 16, by omega⟩ (fun x => { x with release := some (m.pay % 65536, nearest 32 s.now (m.pay / 65536)) })).sendDown m
  else s

/-- Every enrolled group in ARMED takes the start time, unless it is less than 100 ns away (R280). -/
def State.takeStart (s : State) (pt cls : Nat) : State :=
  if pt * ns < s.now + 100 * ns then s.raise R.TSY_CAUSE F.TSY_CAUSE_BLATE
  else forEach ((List.finRange 24).filter (fun g => s.vstat g.val == 1 && s.flag (R.TSY_GCLASS g.val) F.TSY_GCLASS_EN &&
      s.fld (R.TSY_GCLASS g.val) F.TSY_GCLASS_CLASS == cls)) (fun g s => s.wrPair (R.VSQ_START_PT_LO g) (R.VSQ_START_PT_HI g) pt) s

/-- A START goes out in four frames of each downstream port, with the device it comes from. -/
def State.broadcast (s : State) (m : TSlot) : State :=
  forEach ((List.finRange 12).filter (fun p => s.downstream p.val && s.pstate p.val == 3))
    (fun p s => s.modPort p (fun x => { x with outq := x.outq ++ List.replicate 4 m })) s

/-- A first copy that the further copies of its START can still follow: four frames take three times 340/7 ns, and a half
frame is to spare. -/
def copyOpen (now first : Nat) : Bool := decide ((now - first) * 7 < 9520000)

/-- START: the first copy counts; a relay forwards it. -/
def State.slotStart (s : State) (p : Fin 12) (m : TSlot) : State :=
  if s.fromUp p.val then
    let cls := m.pay % 16
    let pt := nearest 44 s.ptime (m.pay / 16)
    let l := s.tsy.starts.filter (fun r => copyOpen s.now r.2.2)
    if l.any (fun r => r.1 == pt && r.2.1 == cls) then s
    else
      let s := { s with tsy := { s.tsy with starts := l ++ [(pt, cls, s.now)] } }
      (s.broadcast m).takeStart pt cls
  else s

/-- LOST: up to the manager, which passes it down; it takes effect where it comes from above, and on the manager. -/
def State.slotLost (s : State) (p : Fin 12) (m : TSlot) : State :=
  let t := nearest 32 s.now (bitsOf m.pay 16 32)
  let cfg := bitOf m.pay 48
  if s.fromUp p.val then (s.sendDown m).takeLost m.gid t cfg
  else if s.fromDown p.val then
    if s.isMgr then (s.sendDown m).takeLost m.gid t cfg else s.sendUp m
  else s

/-- The way up of a device whose GCFG comes by a port, in units of 1/56,000 ns (R283): one hop for the port's far end; for
one behind a relay also the hop that the relay reports, which no message shows, and its 8 ns. -/
def State.wayUp (s : State) (p : Fin 12) (dev : Nat) : Nat :=
  if (s.tport p).peer = some dev then s.hopUnits p
  else s.hopUnits p + 2720000 + 7 * (s.freeVal % 4294967296) + 8 * 56000

/-- GCFG: a member has accepted START (R283): its gang begins anew on its path, and the manager checks it. -/
def State.slotGcfg (s : State) (p : Fin 12) (m : TSlot) : State :=
  if s.fromDown p.val then
    let n : Fin 16 := ⟨m.gid % 16, by omega⟩
    let way := s.wayUp p m.dev
    let s := if (s.tport p).peer = some m.dev then s else s.used
    let s := s.modGang n (fun x => { x with
      via := (p.val, m.dev, way) :: x.via.filter (fun v => v.2.1 != m.dev)
      reports := x.reports.filter (fun r => r.from_ != p.val), arrivals := x.arrivals.filter (fun r => r.2.1 != p.val) })
    if s.isMgr then
      if s.gcfgOk n (m.pay % 1024) (bitOf m.pay 10) then s else (s.sendLost n 0 s.now true).takeLost n s.now true
    else s.sendUp m
  else s

/-- H has drifted by more than 400 units from the value used at alignment (R276). -/
def State.drift (s : State) (p : Fin 12) (h : Nat) : State :=
  let a := (s.tport p).aligned
  if s.pstate p = 3 ∧ (a + 400 < h ∨ h + 400 < a) then s.raise R.TSY_CAUSE F.TSY_CAUSE_HDRIFT else s

/-- CAL: the downstream end takes H of the previous calibration and owes a CALR (R274). -/
def State.slotCal (s : State) (p : Fin 12) (m : TSlot) : State :=
  if (s.upstream p.val || p.val == 11) && decide (2 ≤ s.pstate p) then
    let h := m.pay % 4294967296
    let s := s.wr (R.TSY_PORT_HOP p) (BitVec.ofNat 32 h)
    let s := if (s.tport p).calGot.isSome then s else s.toPort p ⟨0xA, s.devId, 0, 0⟩
    (s.modPort p (fun x => { x with calGot := some s.now })).drift p h
  else s

/-- CALR: the upstream end has H = (RTT - TURN) / 2, rounded half up (R274). In CAL another CAL takes it to the far end. -/
def State.slotCalr (s : State) (p : Fin 12) (m : TSlot) : State :=
  match (s.tport p).calSent with
  | none => s
  | some t =>
    if (s.downstream p.val || p.val == 11) && decide (2 ≤ s.pstate p) then
      let h := (s.now - t - m.pay % 4294967296 + 1) / 2
      let s := (s.wr (R.TSY_PORT_HOP p) (BitVec.ofNat 32 h)).modPort p (fun x => { x with calSent := none })
      (if s.pstate p = 2 then s.calDue p else s).drift p h
    else s

/-- What a slot does; a reserved type is discarded with SLOTERR (R272). -/
def State.takeSlot (s : State) (p : Fin 12) (fnum : Nat) (m : TSlot) : State :=
  match m.typ with
  | 0 => s
  | 1 => s.slotPtb p fnum m
  | 2 => s.slotCond p m
  | 3 => s.slotDecide p m
  | 4 => s.slotSarr p m
  | 5 => s.slotSrel p m
  | 6 => s.slotStart p m
  | 7 => s.slotLost p m
  | 8 => s.slotGcfg p m
  | 9 => s.slotCal p m
  | 10 => s.slotCalr p m
  | _ => s.raise R.TSY_CAUSE F.TSY_CAUSE_SLOTERR

/-- A correctable codeword (R269, R271): four of them in a row are the lock; the launch of the frame is recovered from its
FNUM; one of a reserved KIND is discarded (R270). -/
def State.codeword (s : State) (p : Fin 12) (pay : BitVec 5140) : State :=
  s.modPort p (fun x => { x with
    good := min 4 (x.good + 1), bad := 0
    lastFrame := if payKind pay < 2 then s.now else x.lastFrame
    launched := if payKind pay < 2 then launchOf (nearest 16 s.ptime (payFnum pay)) else x.launched })

/-- FRAME_RECEIVE (R268, R271): a codeword arrives, with its payload and the number of symbols in error; more than 15 cannot
be corrected. Of a locked port in CAL or UP the slots and flits of a normal frame are taken, and `acks` of this side's flits
are acknowledged. -/
def execFrameReceive (p : Fin 12) (pay : BitVec 5140) (acks errs : Nat) (s : State) : Out :=
  if s.pstate p = 0 then .next s
  else if 15 < errs then
    let s := (s.bump (R.TSY_PORT_FEC p) F.TSY_PORT_FEC_COUNT 1).tally 0 0xD0 1
    let s := s.modPort p (fun x => { x with good := if x.good < 4 then 0 else 4, bad := x.bad + 1 })
    .next (if 4 ≤ (s.tport p).bad ∧ s.pstate p = 3 then s.leaveUp p else s)
  else
    let locked := (s.tport p).good == 4
    let s := s.codeword p pay
    if locked && payKind pay == 0 && decide (2 ≤ s.pstate p) then
      let s := s.modPort p (fun x => { x with unacked := x.unacked.drop acks, recv := payFlits pay })
      .next (forEach (paySlots pay) (fun m s => s.takeSlot p (payFnum pay) m) s)
    else .next s

/-- PTB: a slot by itself, with the FNUM of its frame. -/
def execSlotPtb (p : Fin 12) (dev : BitVec 6) (fnum : BitVec 16) (pay : BitVec 50) (s : State) : Out :=
  .next (s.slotPtb p fnum.toNat ⟨1, dev.toNat, 0, pay.toNat⟩)
def execSlotCond (p : Fin 12) (dev : BitVec 6) (gid : Fin 16) (pay : BitVec 50) (s : State) : Out :=
  .next (s.slotCond p ⟨2, dev.toNat, gid, pay.toNat⟩)
def execSlotDecide (p : Fin 12) (dev : BitVec 6) (gid : Fin 16) (pay : BitVec 50) (s : State) : Out :=
  .next (s.slotDecide p ⟨3, dev.toNat, gid, pay.toNat⟩)
def execSlotSarr (p : Fin 12) (dev : BitVec 6) (gid : Fin 16) (pay : BitVec 50) (s : State) : Out :=
  .next (s.slotSarr p ⟨4, dev.toNat, gid, pay.toNat⟩)
def execSlotSrel (p : Fin 12) (dev : BitVec 6) (gid : Fin 16) (pay : BitVec 50) (s : State) : Out :=
  .next (s.slotSrel p ⟨5, dev.toNat, gid, pay.toNat⟩)
def execSlotStart (p : Fin 12) (dev : BitVec 6) (pay : BitVec 50) (s : State) : Out :=
  .next (s.slotStart p ⟨6, dev.toNat, 0, pay.toNat⟩)
def execSlotLost (p : Fin 12) (dev : BitVec 6) (gid : Fin 16) (pay : BitVec 50) (s : State) : Out :=
  .next (s.slotLost p ⟨7, dev.toNat, gid, pay.toNat⟩)
def execSlotGcfg (p : Fin 12) (dev : BitVec 6) (gid : Fin 16) (pay : BitVec 50) (s : State) : Out :=
  .next (s.slotGcfg p ⟨8, dev.toNat, gid, pay.toNat⟩)
def execSlotCal (p : Fin 12) (dev : BitVec 6) (pay : BitVec 50) (s : State) : Out :=
  .next (s.slotCal p ⟨9, dev.toNat, 0, pay.toNat⟩)
def execSlotCalr (p : Fin 12) (dev : BitVec 6) (pay : BitVec 50) (s : State) : Out :=
  .next (s.slotCalr p ⟨10, dev.toNat, 0, pay.toNat⟩)

/-! Broadcast start (R280) -/

/-- BCAST_GO, with the CLASS of its write. The manager's own groups take the start time at once. -/
def execBcastGo (cls : BitVec 4) (s : State) : Out :=
  let s := s.setF R.TSY_BCAST_CTRL F.TSY_BCAST_CTRL_CLASS cls.toNat
  let pt := s.rdPair R.TSY_BCAST_PT_LO R.TSY_BCAST_PT_HI
  if s.isMgr && decide (s.ptime + 2000 ≤ pt ∧ pt < s.ptime + 2 ^ 42) then
    .next ((s.broadcast ⟨6, s.devId, 0, cls.toNat + 16 * (pt % 2 ^ 44)⟩).takeStart pt cls.toNat)
  else .next (s.raise R.TSY_CAUSE F.TSY_CAUSE_CMDERR)

/-! Gangs across devices (R281 to R286) -/

/-- A result of a member group by its decision index: result and ball end. -/
def Group.byIndex (x : Group) (d : Nat) : Option (Nat × Bool) := (x.results.find? (fun r => r.2.1 == d)).map (fun r => (r.1, r.2.2))

/-- GANG_LOCAL_RESULT: the next result over the device's members of the group's gang, 16 ns after the ball end, where the
device is a member of it (R281, R282). -/
def execGangLocalResult (g : Fin 24) (s : State) : Out :=
  if s.gangEn g && s.span g == 3 && s.flag (R.TSY_GANG_CFG (s.gid g)) F.TSY_GANG_CFG_EN && s.memberHere (s.gid g) then
    let n : Fin 16 := ⟨s.gid g % 16, by omega⟩
    let d := (s.xgang n).formed
    let rs := (s.xmembers n).map (fun m => (s.g m).byIndex d)
    if rs.all Option.isSome then
      let be := rs.foldl (fun acc r => max acc ((r.map (·.1)).getD 0)) 0
      let v := combineBits (s.flag (R.TSY_GANG_CFG n) F.TSY_GANG_CFG_COMB) (rs.map (fun r => (r.map (·.2)).getD false))
      let s := (s.at_ (be + 16 * ns)).modGang n (fun x => { x with formed := (d + 1) % 65536 })
      if s.leaf n then .next (s.sendUp ⟨2, s.devId, n, d + 1048576 * b2n v⟩)
      else .next (s.modGang n (fun x => { x with
        reports := x.reports.filter (fun r => nearIdx r.didx d) ++ [⟨d, 12, v, be + 16 * ns⟩] }))
    else .next s
  else .next s

/-- A combination of decision results goes up, or from the manager down and to its own groups, 8 ns after the last report
(R282). -/
def State.combineDecision (s : State) (n : Fin 16) (d : Nat) : State :=
  let rs := (s.xgang n).reports.filter (fun r => r.didx == d)
  let v := combineBits (s.flag (R.TSY_GANG_CFG n) F.TSY_GANG_CFG_COMB) (rs.map GangReport.val)
  let s := (s.at_ ((rs.map GangReport.time).foldl max 0 + 8 * ns)).modGang n (fun x => { x with reports := x.reports.filter (fun r => r.didx != d) })
  if s.isMgr then
    (s.modGang n (fun x => { x with decided := x.decided.filter (fun r => nearIdx r.1 d) ++ [(d, v, s.now)] })).sendDown ⟨3, s.devId, n, d + 1048576 * b2n v⟩
  else s.sendUp ⟨2, s.devId, n, d + 1048576 * b2n v⟩

/-- The device's own arrival at a SYNC, once every member group here has arrived and it is not yet reported. -/
def State.ownArrival (s : State) (n : Fin 16) : Option (Nat × Nat) :=
  let ms := s.xmembers n
  if !ms.isEmpty && s.memberHere n && ms.all (fun m => (s.g m).syncArr.isSome && (s.g m).syncRel.isNone) then
    let d := ((ms.head?.map (fun m => (s.g m).didx)).getD 0 + 65535) % 65536
    if (s.xgang n).sarr = some d then none
    else some (d, ms.foldl (fun acc m => max acc ((s.g m).syncArr.getD 0)) 0)
  else none

/-- The device reports its own arrival: up from a leaf, to its own combination elsewhere. -/
def State.reportArrival (s : State) (n : Fin 16) : State :=
  match s.ownArrival n with
  | none => s
  | some (d, t) =>
    let s := s.modGang n (fun x => { x with sarr := some d })
    if s.leaf n then s.sendUp ⟨4, s.devId, n, d + 65536 * (t % 4294967296)⟩
    else s.modGang n (fun x => { x with arrivals := x.arrivals ++ [(d, 12, t)] })

/-- A combination of arrivals: up as SARR, or from the manager the release time as SREL (R286). -/
def State.combineArrival (s : State) (n : Fin 16) (d : Nat) : State :=
  let l := (s.xgang n).arrivals.filter (fun r => r.1 == d)
  let t := l.foldl (fun acc r => max acc r.2.2) 0
  let s := s.modGang n (fun x => { x with arrivals := x.arrivals.filter (fun r => r.1 != d) })
  if s.isMgr then
    let rel := t + s.fld (R.TSY_GANG_CFG n) F.TSY_GANG_CFG_LG * ns
    (s.modGang n (fun x => { x with release := some (d, rel) })).sendDown ⟨5, s.devId, n, d + 65536 * (rel % 4294967296)⟩
  else s.sendUp ⟨4, s.devId, n, d + 65536 * (t % 4294967296)⟩

/-- Every source has reported on a decision index; every source has reached a SYNC. -/
def State.allReported (s : State) (n : Fin 16) (d : Nat) : Bool :=
  (s.needed n).all (fun p => (s.xgang n).reports.any (fun q => q.didx == d && q.from_ == p))
def State.allArrived (s : State) (n : Fin 16) (d : Nat) : Bool :=
  (s.needed n).all (fun p => (s.xgang n).arrivals.any (fun q => q.1 == d && q.2.1 == p))

/-- GANG_COMBINE: the first decision that every source has reported, and the first SYNC that every source has reached. -/
def execGangCombine (n : Fin 16) (s : State) : Out :=
  let s := s.reportArrival n
  let s := match (s.xgang n).reports.find? (fun r => s.allReported n r.didx) with
    | none => s
    | some r => s.combineDecision n r.didx
  match (s.xgang n).arrivals.find? (fun r => s.allArrived n r.1) with
  | none => .next s
  | some r => .next (s.combineArrival n r.1)

/-- DECISION_HANDOFF: the oldest delivered decision that the group has not taken, 4 ns after delivery (R282). -/
def execDecisionHandoff (g : Fin 24) (s : State) : Out :=
  let n : Fin 16 := ⟨s.gid g % 16, by omega⟩
  match (s.xgang n).decided.find? (fun r => !(s.g g).combined.any (fun c => c.1 == r.1)) with
  | none => .next s
  | some (d, v, t) =>
    if s.gangEn g && s.span g == 3 then
      .next ((s.at_ (t + 4 * ns)).modG g (fun x => { x with
        combined := x.combined.filter (fun c => nearIdx c.1 d) ++ [(d, v)] }))
    else .next s

/-! Failover and takeover (R288 to R290) -/

/-- The other upstream port of a worker. -/
def State.otherUp (s : State) : Nat :=
  let a := s.fld R.TSY_CTRL F.TSY_CTRL_UPPRI
  if s.fld R.TSY_STAT F.TSY_STAT_UPACT = a then s.fld R.TSY_CTRL F.TSY_CTRL_UPSEC else a

/-- FAILOVER: flits not acknowledged go by the new path. -/
def execFailover (s : State) : Out :=
  let old := s.fld R.TSY_STAT F.TSY_STAT_UPACT
  let new := s.otherUp
  if h : old < 12 ∧ new < 12 then
    if s.role == 2 && !s.isMgr && s.flag R.TSY_CTRL F.TSY_CTRL_SECEN && s.pstate old != 3 && s.pstate new == 3 then
      let x := s.tport ⟨old, h.1⟩
      let s := s.modPort ⟨old, h.1⟩ (fun x => { x with flitq := [], unacked := [] })
      let s := s.modPort ⟨new, h.2⟩ (fun y => { y with flitq := x.unacked ++ x.flitq ++ y.flitq })
      let s := (s.setF R.TSY_STAT F.TSY_STAT_UPACT new).setF R.TSY_STAT F.TSY_STAT_DEPTH (min 2 ((s.tport ⟨new, h.2⟩).depth + 1))
      let s := s.unhold
      let s := { s with tsy := { s.tsy with measure := true } }
      .next (s.showTree.raise R.TSY_CAUSE F.TSY_CAUSE_FAILOVER)
    else .next s
  else .next s

/-- A step of a known size waits; TSY_PTOFS shows it (R289). -/
def State.stepBy (s : State) (o : Int) : State :=
  let s := s.wr R.TSY_PTOFS (BitVec.ofNat 32 (unsignedOf 32 o))
  { s with tsy := { s.tsy with ptofs := some o } }

/-- The step is told to every downstream device that is reached. -/
def State.tellStep (s : State) (o : Int) : State :=
  forEach ((List.finRange 12).filter (fun p => s.downstream p.val && s.pstate p.val == 3)) (fun p s => s.emit (.ptStep p o)) s

/-- PTOFS_STEP: no group is in ARMED, RUN or PAUSED; the step is passed on. With the command may come the step that the
upstream relay passes, which adds to one that waits. -/
def execPtofsStep (passed : Option (BitVec 32)) (s : State) : Out :=
  let s := match passed with
    | none => s
    | some o => s.stepBy (s.tsy.ptofs.getD 0 + o.toInt)
  match s.tsy.ptofs with
  | none => .next s
  | some o =>
    if (List.finRange 24).any (fun g => s.active g.val) then .next s
    else
      let s := s.jump ((s.now : Int) + o).toNat
      .next ({ s with tsy := { s.tsy with ptofs := none } }.tellStep o)

/-- TAKEOVER: the standby manager has lost its mate link and its upstream link. -/
def execTakeover (s : State) : Out :=
  if s.role == 2 && !s.isMgr && s.flag R.TSY_CTRL F.TSY_CTRL_STBY && s.pstate 11 != 3 &&
      s.pstate (s.fld R.TSY_STAT F.TSY_STAT_UPACT) != 3 then
    let s := ((s.raise R.TSY_STAT F.TSY_STAT_MGR).setF R.TSY_STAT F.TSY_STAT_DEPTH 0).unhold
    .next (s.showTree.raise R.TSY_CAUSE F.TSY_CAUSE_TAKEOVER)
  else .next s

/-! Registers -/

/-- A write of TSY_CTRL (R299): DEVID and the upstream ports change only while ports 0 to 10 are DOWN. -/
def State.tsyCtrlWrite (s : State) (v : Word) : State :=
  let s := (s.setF R.TSY_CTRL F.TSY_CTRL_REFSRC (F.TSY_CTRL_REFSRC.get v)).setF R.TSY_CTRL F.TSY_CTRL_STBY (F.TSY_CTRL_STBY.get v)
  if (List.range 11).all (fun p => s.pstate p == 0) then
    (s.wrRW R.TSY_CTRL v).setF R.TSY_STAT F.TSY_STAT_UPACT (F.TSY_CTRL_UPPRI.get v)
  else
    let fs := [F.TSY_CTRL_DEVID, F.TSY_CTRL_UPPRI, F.TSY_CTRL_UPSEC, F.TSY_CTRL_SECEN]
    if fs.any (fun f => f.get v != s.fld R.TSY_CTRL f) then s.raise R.TSY_CAUSE F.TSY_CAUSE_CMDERR else s

/-- A write of a gang's registers is ignored while a group with its GID and SPAN = 3 is active (R299). -/
def State.gangLocked (s : State) (n : Nat) : Bool :=
  (List.finRange 24).any (fun g => s.active g.val && s.gid g == n && s.span g == 3)

end Sys2Proof.Machine
end

