-- ==== Sys2Proof/Machine/Ledger.lean ====
section
/-! DEFINITION. Machine/Ledger.lean: the ledger, its mirror and mate pairing (08_time_sync_scaleout.md R291 to R298). -/
namespace Sys2Proof.Machine

def State.ledState (s : State) : Nat := s.fld R.LED_STAT F.LED_STAT_STATE
def State.setLed (s : State) (n : Nat) : State := s.setF R.LED_STAT F.LED_STAT_STATE n
def State.ledCause (s : State) (f : Fld) : State := s.raise R.LED_CAUSE f

/-- Records in the ring. -/
def State.ledSize (s : State) : Nat := 2 ^ max 4 (min 24 (s.fld R.LED_CTRL F.LED_CTRL_SIZE))

def State.nextSeq (s : State) : Nat := s.rdPair R.LED_NEXTSEQ_LO R.LED_NEXTSEQ_HI
def State.mSeq (s : State) : Nat := s.rdPair R.LED_MSEQ_LO R.LED_MSEQ_HI
def State.rSeq (s : State) : Nat := s.rdPair R.LED_RSEQ_LO R.LED_RSEQ_HI

/-- The place of a record of this device, and of the mate's mirror (R292). -/
def State.ledAddr (s : State) (seq : Nat) : Nat :=
  s.fld R.LED_BASE_LO F.LED_BASE_LO_ADDR * 128 + s.fld R.LED_BASE_HI F.LED_BASE_HI_ADDR * 4294967296 + 128 * (seq % s.ledSize)
def State.mirAddr (s : State) (seq : Nat) : Nat :=
  s.fld R.LED_MBASE_LO F.LED_MBASE_LO_ADDR * 128 + s.fld R.LED_MBASE_HI F.LED_MBASE_HI_ADDR * 4294967296 + 128 * (seq % s.ledSize)

/-- The ledger unit's source identity (12 R415). -/
def ledSrc : Nat := 0x50

/-- A header: bits 255:0 of a record (R292). -/
def State.ledHeader (s : State) (seq : Nat) (solo : Bool) : Nat :=
  seq % 2 ^ 64 + s.ptime % 2 ^ 64 * 2 ^ 64 + (s.rd R.LED_EPOCH).toNat * 2 ^ 128 + s.devId * 2 ^ 160 + b2n solo * 2 ^ 167

/-- A record is sent to the mate, in flits of port 11; one that its memory does not give holds a free value. -/
def State.ledSend (s : State) (seq : Nat) (envs : List G6Env) : State :=
  let r := s.g6ReadBytes ledSrc (s.ledAddr seq) 128 envs 2
  let s := r.2.2
  let s := { s with tsy := { s.tsy with unacked := s.tsy.unacked ++ [(seq, s.now)] } }
  let s := if r.1 = .ok then s.emit (.ledRecord seq (BitVec.ofNat 1024 (leOf r.2.1)))
    else (s.emit (.ledRecord seq (BitVec.ofNat 1024 s.freeVal))).used
  s.putFlits 11 3

/-- The header of the record of LED_NEXTSEQ is written; in PAIRED the record is sent. -/
def State.ledOne (s : State) (envs : List G6Env) : State :=
  let seq := s.nextSeq
  let solo := s.ledState != 1 && s.ledState != 2
  let w := s.g6WriteBytes ledSrc (s.ledAddr seq) (leBytes 32 (s.ledHeader seq solo)) envs 1
  let s := w.2.wrPair R.LED_NEXTSEQ_LO R.LED_NEXTSEQ_HI (seq + 1)
  if s.ledState = 2 then s.ledSend seq (envs.drop 1) else s

/-- The records of a commit, in SEQ order; three bursts each. -/
def State.ledMany (s : State) (n : Nat) (envs : List G6Env) : State :=
  match n with
  | 0 => s
  | k + 1 => (s.ledOne envs).ledMany k (envs.drop 3)

/-- LED_COMMIT (R293). -/
def execLedCommit (n : BitVec 9) (envs : List G6Env) (s : State) : Out :=
  if s.fld R.LED_CTRL F.LED_CTRL_EN = 0 ∨ n.toNat = 0 ∨ 256 < n.toNat then .next (s.ledCause F.LED_CAUSE_CMDERR)
  else if s.ledSize + s.rSeq < s.nextSeq + n.toNat then .next (s.ledCause F.LED_CAUSE_FULL)
  else .next (s.ledMany n.toNat envs)

/-- MIRROR_RECORD: a record of the mate is written to the mirror and answered (R294). -/
def execMirrorRecord (rec : BitVec 1024) (envs : List G6Env) (s : State) : Out :=
  if s.ledState = 1 ∨ s.ledState = 2 then
    let seq := rec.toNat % 2 ^ 64
    let w := s.g6WriteBytes ledSrc (s.mirAddr seq) (leBytes 128 rec.toNat) envs 2
    let s := w.2
    let base := if s.tsy.fresh then max seq s.tsy.mateSeq else s.tsy.mateSeq
    let s := { s with tsy := { s.tsy with
      fresh := false, mateSeq := if w.1 = Resp.ok ∧ seq = base then seq + 1 else base } }
    .next ((s.emit (.ledAnswer seq (decide (w.1 = Resp.ok)))).putFlits 11 1)
  else .next s

/-- MIRROR_ACK: the oldest record sent is in the mirror: MIR is set in the own copy, LED_MSEQ moves on unless a record
was refused. In SOLO answers are ignored (R294, R295). -/
def execMirrorAck (env : G6Env) (s : State) : Out :=
  match s.tsy.unacked with
  | [] => .next s
  | (seq, _) :: rest =>
    if s.ledState = 1 ∨ s.ledState = 2 then
      let r := s.g6Access ledSrc (s.ledAddr seq) (.or_ (BitVec.ofNat 512 (2 ^ 166))) env
      let s := { r.st with tsy := { r.st.tsy with unacked := rest } }
      match s.tsy.nacked with
      | some _ => .next s
      | none => .next (s.wrPair R.LED_MSEQ_LO R.LED_MSEQ_HI (seq + 1))
    else .next s

/-- MIRROR_NAK: the oldest record sent was refused by the mate's memory. -/
def execMirrorNak (s : State) : Out :=
  match s.tsy.unacked with
  | [] => .next s
  | (seq, _) :: rest =>
    if s.ledState = 1 ∨ s.ledState = 2 then
      let s := { s with tsy := { s.tsy with unacked := rest, nacked := some (s.tsy.nacked.getD seq) } }
      .next (s.ledCause F.LED_CAUSE_MERR)
    else .next s

/-- The mate is lost: port 11 is not UP, or the oldest record sent is 100 us old. -/
def State.mateGone (s : State) : Bool :=
  s.pstate 11 != 3 || (match s.tsy.unacked with | [] => false | (_, t) :: _ => decide (t + 100000 * ns ≤ s.now))

/-- MATELOST (R295, R296). -/
def execMatelost (s : State) : Out :=
  if (s.ledState = 1 ∨ s.ledState = 2) ∧ s.mateGone then
    let s := (s.setLed 3).ledCause F.LED_CAUSE_MATELOST
    let s := { s with tsy := { s.tsy with unacked := [] } }
    if s.flag R.LED_CTRL F.LED_CTRL_TKEN then
      let s := s.wrPair R.LED_TSEQ_LO R.LED_TSEQ_HI s.tsy.mateSeq
      .next ((s.raise R.LED_STAT F.LED_STAT_TAKEN).ledCause F.LED_CAUSE_TAKEN)
    else .next s
  else .next s

/-- Records from one SEQ on are sent again; two bursts each. -/
def State.ledResend (s : State) (fuel seq : Nat) (envs : List G6Env) : State :=
  match fuel with
  | 0 => s
  | k + 1 => (s.ledSend seq envs).ledResend k (seq + 1) (envs.drop 2)

/-- PAIRING: from UNPAIRED or SOLO the exchange with the mate (its number, epoch and ring size), to which this device's
own message goes, then, in PAIRING, the resend and PAIRED (R291, R297). -/
def execPairing (dev : BitVec 6) (epoch : Word) (size : BitVec 5) (envs : List G6Env) (s : State) : Out :=
  if s.fld R.LED_CTRL F.LED_CTRL_EN = 1 ∧ s.pstate 11 = 3 then
    if s.ledState = 0 ∨ s.ledState = 3 then
      let s := s.emit (.pairing s.devId (s.rd R.LED_EPOCH).toNat (s.fld R.LED_CTRL F.LED_CTRL_SIZE))
      let s := s.modPort 11 (fun x => { x with peer := some dev.toNat })
      let s := s.wr R.LED_EPOCH (BitVec.ofNat 32 (max epoch.toNat (s.rd R.LED_EPOCH).toNat + 1))
      if 2 ^ max 4 (min 24 size.toNat) ≠ s.ledSize then .next ((s.setLed 0).ledCause F.LED_CAUSE_CFG)
      else .next (s.setLed 1)
    else if s.ledState = 1 then
      let first := max s.mSeq s.rSeq
      let s := { s with tsy := { s.tsy with unacked := [], nacked := none, fresh := true } }
      let s := s.ledResend (s.nextSeq - first) first envs
      .next (((s.setLed 2).setB R.LED_STAT F.LED_STAT_TAKEN false).ledCause F.LED_CAUSE_PAIRED)
    else .next s
  else .next s

end Sys2Proof.Machine
end

