-- ==== Sys2Proof/Machine/Interrupts.lean ====
section
/-! DEFINITION. Machine/Interrupts.lean: the commands of MSI-X, and the monitor counters (18_interrupts_events.md). -/
namespace Sys2Proof.Machine

/-! MSI-X (R571, R572) -/

/-- MSIX_SEND: the condition of vector v has risen from 0 to 1. -/
def execMsixSend (v : Fin 64) (s : State) : Out :=
  let s := s.deliver s.now
  if s.vecCond v.val && !bitOf s.pcie.prev.toNat v.val then
    let s := s.sendVec v.val
    .next { s with pcie := { s.pcie with prev := setBit64 s.pcie.prev v.val true } }
  else .next s

/-- What has become sendable is sent if its condition still holds, and its pending bit is cleared in either case (R571). -/
def State.flushPending (s : State) : State :=
  forEach (List.range 53) (fun v s =>
    if bitOf s.pcie.pba.toNat v && s.vecOpen v then
      let s := s.setPending v false
      if s.vecCond v then s.sendVec v else s
    else s) s

/-- MSIX_UNMASK: the function's MSI-X enable and mask change. -/
def execMsixUnmask (en fmask : Bool) (s : State) : Out :=
  .next ({ s with pcie := { s.pcie with en := en, fmask := fmask } }).flushPending

/-- A write of MSIX_EOI (R572). -/
def State.eoi (s : State) (v : Nat) : State := if v ≤ 52 ∧ s.vecCond v then s.sendVec v else s

/-- MSIX_EOI. -/
def execMsixEoi (v : Word) (s : State) : Out := .next (s.eoi (F.MSIX_EOI_VEC.get v))

/-! Monitor counters (R573 to R576) -/

def State.setMon (s : State) (d : Fin 6) (m : Mon) : State := { s with mon := s.mon.set d m }

/-- Clock cycles since the last count: PROM at 1.2 GHz, VSQ at 1 GHz, MDSP at 1.25 GHz (00 R28). They hold in SLEEP (19
R600). The cycles its MDSPs have waited count with them. -/
def State.monSync (s : State) (d : Fin 6) : State :=
  let s := s.mdSettleDie d.val
  let t := s.power.slept.getD s.now
  let u := (s.mon[d]).sync
  let s := s.tally d 1 (t * 12 / 80000 - u * 12 / 80000)
  let s := s.tally d 2 (t / ns - u / ns)
  let s := s.tally d 3 (t / 6400 - u / 6400)
  s.setMon d { s.mon[d] with sync := t }

/-- A write of MON_CMD.CLR. -/
def State.monClr (s : State) (d : Fin 6) (mask : BitVec 16) : State :=
  let s := s.monSync d
  s.setMon d { s.mon[d] with cnt := Vector.ofFn fun i => if bitOf mask.toNat i.val then 0 else (s.mon[d]).cnt[i] }

/-- MON_OVF of a die: the counters at their largest value (R575). -/
def State.monOvf (s : State) (d : Fin 6) : Word :=
  BitVec.ofNat 32 (bitsNat ((List.finRange 16).map (fun i => decide (monMax ≤ (s.mon[d]).cnt[i]))))

def State.monCmdErr (s : State) (d : Fin 6) : State := s.raise (R.MON_CAUSE d) F.MON_CAUSE_CMDERR

/-- A write of 1 to MON_CMD.ARM (R576). -/
def State.monArm (s : State) (d : Fin 6) : State :=
  let t := s.rdPair (R.MON_SNAP_PT_LO d) (R.MON_SNAP_PT_HI d)
  if (s.mon[d]).snap.isSome || decide (t < s.ptime + 1000) then s.monCmdErr d
  else s.setMon d { s.mon[d] with snap := some t }

def State.monDisarm (s : State) (d : Fin 6) : State := s.setMon d { s.mon[d] with snap := none }

/-- MON_CLR, MON_ARM, MON_DISARM. -/
def execMonClr (d : Fin 6) (mask : BitVec 16) (s : State) : Out := .next (s.monClr d mask)
def execMonArm (d : Fin 6) (s : State) : Out := .next (s.monArm d)
def execMonDisarm (d : Fin 6) (s : State) : Out := .next (s.monDisarm d)

/-- The armed snapshot of a die is taken (R576). -/
def State.takeSnap (s : State) (d : Fin 6) : State :=
  let s := s.monSync d
  let s := forEach (List.finRange 16) (fun i s =>
    s.wrPair (R.MON_SNAP_LO d i) (R.MON_SNAP_HI d i) (s.mon[d]).cnt[i]) s
  (s.setMon d { s.mon[d] with snap := none }).raise (R.MON_CAUSE d) F.MON_CAUSE_SNAP

/-- MON_SNAPSHOT: package time reaches T; in SLEEP the snapshot waits for the exit (19 R600). -/
def execMonSnapshot (d : Fin 6) (s : State) : Out :=
  match (s.mon[d]).snap with
  | none => .next s
  | some t => if s.power.slept.isSome then .next (s.at_ (t * ns)) else .next ((s.at_ (t * ns)).takeSnap d)

end Sys2Proof.Machine
end

