-- ==== Sys2Proof/Machine/Reset.lean ====
section
/-! DEFINITION. Machine/Reset.lean: the reset scopes, the start-up sequence and the device safe state
(19_reset_clocks_power_pins.md R580 to R588; 16 R525 to R533; 17 R549, R550, R560). -/
namespace Sys2Proof.Machine

/-! The fuse sense (16 R525, R529) -/

/-- A field of the array where either of two fuses makes a bit: n bits. -/
def pairBits (n v : Nat) : Nat := bitsNat ((List.range n).map (fun i => bitOf v (2 * i) || bitOf v (2 * i + 1)))

/-- The life-cycle state of the LC fuses (16 R529): the highest state with at least 2 of its 4 fuses blown. -/
def lcState (lc : BitVec 16) : Nat :=
  ([4, 3, 2, 1].find? (fun n => decide (2 ≤ ((List.range 4).filter (fun i => bitOf lc.toNat (4 * (n - 1) + i))).length))).getD 0

/-- ANTIRB steps counted: a step counts when either bit is blown (16 R524, R527). -/
def rbCount (a : BitVec 128) : Nat := ((List.range 64).filter (fun i => bitOf a.toNat (2 * i) || bitOf a.toNat (2 * i + 1))).length

/-- The registers that show fuses. -/
def State.showFuses (s : State) : State :=
  let f := s.keeper.fuses
  let s := s.setF R.KPR_RBCNT F.KPR_RBCNT_COUNT (rbCount f.antirb)
  let s := s.wr R.KPR_POLICY (BitVec.ofNat 32 (pairBits 32 f.policy.toNat))
  let s := s.wr R.KPR_FLOCK (BitVec.ofNat 32 (pairBits 4 f.lock.toNat))
  s.wrPair R.KPR_SERIAL_LO R.KPR_SERIAL_HI f.serial.toNat

/-- The fuse sense at a device reset: life-cycle and debug state, key source, ephemeral root (16 R525, R528, R533). In
SCAN no key is loaded. -/
def State.fuseSense (s : State) (scan : Bool) : State :=
  let f := s.keeper.fuses
  let lc := lcState f.lc
  let dev := lc == 1 || lc == 2
  let s := s.showFuses
  let s := s.wr R.KPR_STAT (BitVec.ofNat 32 (lc + 256 * (if scan then 3 else if lc = 0 then 2 else 0) + 1024 * b2n (dev && !scan)))
  let s := forEach (List.range 6) (fun d s => s.wr (R.DCR_ID d) (BitVec.ofNat 32 (f.grade.toNat + 16 * f.rev.toNat))) s
  if dev || scan then { s with keeper := { s.keeper with root := none } }
  else { s.used with keeper := { s.keeper with root := some s.freeCtr } }

/-! Die reset (R580, R583) -/

/-- An address lies in the window of a die. -/
def inDie (d a : Nat) : Bool :=
  decide (0x100000000000 + d * 0x100000000 ≤ a ∧ a < 0x100000000000 + (d + 1) * 0x100000000)

/-- Groups of a die end, and gangs that include them (02 R67). -/
def State.dropGroups (s : State) (d : Fin 6) : State :=
  forEach (groupsOf d) (fun g s => if s.active g then s.stopNow g 6 0x0E else s) s

/-- Every block of a die returns to its reset state. -/
def State.clearBlocks (s : State) (d : Fin 6) : State :=
  let s := s.clearDie d
  let s := (s.portDown (2 * d.val)).portDown (2 * d.val + 1)
  let s := s.dropRegs (inDie d.val)
  { s with
    grp := Vector.ofFn (fun i => if i.val / 4 = d.val then Group.reset else s.grp[i])
    cap := s.cap.set d Capture.reset
    port := Vector.ofFn (fun i => if i.val / 4 = d.val then MemPort.reset else s.port[i])
    lines := Sparse.keep (fun k => k / 33554432 / 8 != d.val) s.lines
    scrub := s.scrub.set d none
    mdsp := Vector.ofFn (fun i => if i.val / 4 = d.val then Mdsp.reset else s.mdsp[i])
    seam := Vector.ofFn (fun i => if i.val / 3 = d.val then SeamEnd.reset else s.seam[i])
    bridge := s.bridge.set d Bridge.reset
    hasRoles := s.hasRoles.set d false
    txns := s.txns.filter (fun t => t.die != d.val)
    dma := s.dma.set d Dma.reset
    core := Vector.ofFn (fun i => if i.val / 2 = d.val then Core.reset else s.core[i])
    l2 := s.l2.set d L2.reset
    bist := s.bist.set d { Bist.reset with lastT := s.now }
    mon := s.mon.set d { Mon.reset with sync := s.now } }

/-- A die goes into die reset; it is isolated while it stays there (10 R365). Die 0 has none (R581). -/
def State.dieReset (s : State) (d : Fin 6) : State :=
  if d = 0 then s
  else
    let s := (s.dropGroups d).clearBlocks d
    ({ s with dieDown := s.dieDown.set d true, isolated := s.isolated.set d true }).noteFalls

/-- A die leaves die reset: start-up BIST runs (17 R549); with a failure it stays in reset (R550). Its links train. -/
def State.dieRelease (s : State) (d : Fin 6) (bad : Bool) : State :=
  if d = 0 ∨ s.dieDown[d] = false then s
  else if bad then s
  else
    let s := { s with dieDown := s.dieDown.set d false }
    let s := s.setF (R.DCR_CLKSTAT d) F.DCR_CLKSTAT_LOCK 0x7F
    let s := s.wr (R.DCR_ID d) (s.rd (R.DCR_ID 0))
    forEach [0, 1, 2] (fun k s => if (farEnd d.val k).isSome then s.train d.val k else s) s

/-! Device reset (R580, R588) -/

/-- Everything a device reset clears. What survives: the fuses, PKG_RSTCAUSE, the SMBus target, the cleaner's state, the
SCAN state, the TAP, the pins, and what lies outside the machine (the flash); the free values go on. -/
def State.afterReset (s : State) (cause : Nat) : State :=
  let scan := s.fld R.KPR_STAT F.KPR_STAT_DBG == 3
  let ref := s.rd R.PKG_REF
  let fuses := s.keeper.fuses
  let r := { State.reset with
    pending := s.pending, freeCtr := s.freeCtr, reply := s.reply, out := s.out, tap := s.tap, holdupB := s.holdupB,
    keeper := { Keeper.reset with fuses := fuses, root := none }
    cfg := { Config11.reset with flash := s.cfg.flash }
    power := { Power.reset with porLow := s.power.porLow, sysLow := s.power.sysLow, hot := s.power.hot,
                                role := s.power.role, smb := s.power.smb } }
  let r := ((r.wr R.PKG_REF ref).setF R.PKG_REF F.PKG_REF_SRC 0).setF R.PKG_RSTCAUSE F.PKG_RSTCAUSE_CAUSE cause
  let r := r.setB R.PT_STAT F.PT_STAT_HOLD (F.PKG_REF_HOLD.get ref == 1)
  if scan then r.setF R.KPR_STAT F.KPR_STAT_DBG 3 else r

/-- Steps 2 to 6 of the start-up (R588), with the dies whose start-up BIST fails: PLLs lock, fuse sense, BIST, every die
is cleared, INIT_B is released; every port trains (10 R358). A failure leaves the device in reset (17 R550). -/
def State.startUp (s : State) (bist : List Nat) : State :=
  if s.inReset then s
  else
    let s := forEach (List.range 6) (fun d s => s.setF (R.DCR_CLKSTAT d) F.DCR_CLKSTAT_LOCK 0x7F) s
    let s := s.setF (R.DCR_CLKSTAT 0) F.DCR_CLKSTAT_PKGLOCK 0xF
    let s := s.fuseSense (s.fld R.KPR_STAT F.KPR_STAT_DBG == 3)
    let bad := (List.range 6).filter (fun d => bist.contains d || (d == 0 && s.keeper.fuses.ue))
    match bad with
    | b :: _ => (s.setB R.PKG_RSTCAUSE F.PKG_RSTCAUSE_BISTFAIL true).setF R.PKG_RSTCAUSE F.PKG_RSTCAUSE_DIE b
    | [] =>
      let s := s.clearAll.setB (R.CFG_STAT 0) F.CFG_STAT_INITB true
      let s := forEach headerLinks (fun l s => s.train l.1 l.2) s
      let s := s.setF R.TSY_STAT F.TSY_STAT_ROLE s.power.role.toNat
      let s := s.setB R.TSY_STAT F.TSY_STAT_MGR (s.power.role == 1)
      let s := if s.power.role = 3 then s.raise R.TSY_CAUSE F.TSY_CAUSE_TOPO else s
      { s with power := { s.power with up := true } }

/-- A device reset whose trigger ends at once. -/
def State.deviceReset (s : State) (cause : Nat) (bist : List Nat) : State := (s.afterReset cause).startUp bist

/-- POWER_ON_RESET: PORST_B rises. Without a reference the device stays at step 1 (R589). -/
def execPowerOnReset (role : BitVec 2) (refOk : Bool) (bist : List Nat) (s : State) : Out :=
  let fuses := s.keeper.fuses
  let r := { State.reset with
    pending := s.pending, freeCtr := s.freeCtr, reply := s.reply, out := s.out, holdupB := s.holdupB,
    keeper := { Keeper.reset with fuses := fuses, root := none }
    cfg := { Config11.reset with flash := s.cfg.flash }
    power := { Power.reset with role := role, sysLow := s.power.sysLow } }
  if refOk then .next (((r.raise R.PKG_REF F.PKG_REF_REFOK).raise R.PKG_REF F.PKG_REF_LOCKED).startUp bist) else .next r

/-- PORST_B_LOW: everything is reset and stays so; the debug state SCAN ends. -/
def execPorstBLow (s : State) : Out :=
  let fuses := s.keeper.fuses
  .next { State.reset with
    pending := s.pending, freeCtr := s.freeCtr, reply := s.reply, out := s.out, holdupB := s.holdupB,
    keeper := { Keeper.reset with fuses := fuses, root := none }
    cfg := { Config11.reset with flash := s.cfg.flash }
    power := { Power.reset with porLow := true, sysLow := s.power.sysLow } }

/-- SYSRST: SYSRST_B goes low and holds the device in reset (R582). -/
def execSysrst (s : State) : Out :=
  let r := s.afterReset 1
  .next { r with power := { r.power with sysLow := true } }

/-- SYSRST_B_RELEASE: SYSRST_B rises, ROLE is sampled (R584). -/
def execSysrstBRelease (role : BitVec 2) (bist : List Nat) (s : State) : Out :=
  if s.power.sysLow then
    .next (({ s with power := { s.power with sysLow := false, role := role } }).startUp bist)
  else .next s

/-- PKG_RST_DEVICE: a write of PKG_RST.DEVICE (R615); without the key nothing happens. -/
def execPkgRstDevice (key : BitVec 8) (bist : List Nat) (s : State) : Out :=
  if key = 0xA5 then .next (s.deviceReset 2 bist) else .next s

/-- DIEHOLD: PKG_RST.DIEHOLD bit d changes; `bad` says that the die's start-up BIST fails. -/
def execDiehold (d : Fin 6) (hold bad : Bool) (s : State) : Out :=
  if d = 0 then .next s
  else
    let v := s.fld R.PKG_RST F.PKG_RST_DIEHOLD
    let was := bitOf v (d.val - 1)
    let s := s.setF R.PKG_RST F.PKG_RST_DIEHOLD ((v / 2 ^ d.val * 2 + b2n hold) * 2 ^ (d.val - 1) + v % 2 ^ (d.val - 1))
    if hold then .next (if was then s else s.dieReset d) else .next (s.dieRelease d bad)

/-- PCIE_PERST: the endpoint is reset (R585): its MSI-X state and its error records. A condition that stands makes no new edge
(18 R571). -/
def execPciePerst (s : State) : Out := .next { s with pcie := { Pcie.reset with prev := s.pcie.prev } }

/-- SMBus SYSRESET (R612): a write whose PEC fails is not performed. -/
def execSysreset (v : BitVec 8) (pec : Bool) (bist : List Nat) (s : State) : Out :=
  if pec && v == 0xA5 && !s.power.porLow then .next (s.deviceReset 3 bist) else .next s

/-- PLL_LOCK_LOSS: PLL_A to PLL_E of die d (R594, R595). On dies 1 to 5 the die loses its clock and is reset (R580); on
die 0 the device safe state follows (R581). -/
def execPllLockLoss (d : Fin 6) (pll : Fin 5) (s : State) : Out :=
  let lost := match pll.val with | 0 => 0x02 | 1 => 0x04 | 2 => 0x08 | 3 => 0x70 | _ => 0
  let pkg := match pll.val with | 0 => 1 | 4 => 0xE | _ => 0
  if d = 0 then
    let s := s.setF (R.DCR_CLKSTAT 0) F.DCR_CLKSTAT_LOCK (s.fld (R.DCR_CLKSTAT 0) F.DCR_CLKSTAT_LOCK &&& (0x7F - lost))
    let s := s.setF (R.DCR_CLKSTAT 0) F.DCR_CLKSTAT_PKGLOCK (s.fld (R.DCR_CLKSTAT 0) F.DCR_CLKSTAT_PKGLOCK &&& (0xF - pkg))
    .next (s.raise (R.DCR_EVT 0) F.DCR_EVT_CLKERR).safeState
  else if lost = 0 then .next s
  else
    let lock := s.fld (R.DCR_CLKSTAT d) F.DCR_CLKSTAT_LOCK
    let s := s.dieReset d
    .next ((s.setF (R.DCR_CLKSTAT d) F.DCR_CLKSTAT_LOCK (lock &&& (0x7F - lost))).raise (R.DCR_EVT d) F.DCR_EVT_CLKERR)

end Sys2Proof.Machine
end

