-- ==== Sys2Proof/Machine/CoreCtl.lean ====
section
/-! DEFINITION. Machine/CoreCtl.lean: the control cores from outside: start, core reset, watchdog, halt and resume, the
CSRs, the virtual terminal (15_control_cores_debug.md R502 to R518). -/
namespace Sys2Proof.Machine

def State.cr (s : State) (m : Fin 12) : Core := s.core[m]
def State.modCr (s : State) (m : Fin 12) (f : Core → Core) : State := { s with core := s.core.set m (f s.core[m]) }

/-- CC_STAT.STATE: 0 RESET, 1 RUN, 2 HALT, 3 WFI. -/
def State.ccState (s : State) (m : Nat) : Nat := s.fld (R.CC_STAT m) F.CC_STAT_STATE
def State.setCc (s : State) (m n : Nat) : State := s.setF (R.CC_STAT m) F.CC_STAT_STATE n

/-- A bit of core c in a two-bit cause field of CC_CAUSE. -/
def State.ccCause (s : State) (m : Fin 12) (f : Fld) : State :=
  s.setF (R.CC_CAUSE (m.val / 2)) f (s.fld (R.CC_CAUSE (m.val / 2)) f ||| 2 ^ (m.val % 2))

def State.ccCmdErr (s : State) (d : Nat) : State := s.raise (R.CC_CAUSE d) F.CC_CAUSE_CMDERR

/-! CSRs (R494, R495, R501; the RISC-V privileged specification, notes/assumptions/61.md) -/

def Core.csrRaw (c : Core) (n : Nat) : BitVec 64 := Sparse.get (fun _ => 0) c.csr n
def Core.setCsr (c : Core) (n : Nat) (v : BitVec 64) : Core := { c with csr := Sparse.put (fun _ => 0) c.csr n v }

/-- Bits of a number that a mask selects, as 64 bits. -/
def w64 (n : Nat) : BitVec 64 := BitVec.ofNat 64 n

/-- Byte i of the PMP configuration: pmpcfg0 holds regions 0 to 7, pmpcfg2 regions 8 to 15. -/
def Core.pmpCfg (c : Core) (i : Nat) : Nat := bitsOf (c.csrRaw (if i < 8 then 0x3A0 else 0x3A2)).toNat (8 * (i % 8)) 8

/-- pmpaddr as it reads: with a granularity of 64 bytes the lowest bits read 1 in NAPOT and 0 otherwise (R495). -/
def Core.pmpAddr (c : Core) (i : Nat) : Nat :=
  let v := (c.csrRaw (0x3B0 + i)).toNat
  if bitsOf (c.pmpCfg i) 3 2 = 3 then v / 8 * 8 + 7 else v / 16 * 16

/-- Interrupt-pending bits: software, timer, external (R501, 18 R565). -/
def State.mip (s : State) (m : Fin 12) : Nat :=
  let d : Fin 6 := ⟨m.val / 2, by omega⟩
  8 * b2n (s.flag (R.CC_MSIP m) F.CC_MSIP_MSIP) +
  128 * b2n (decide (s.rdPair (R.CC_MTIMECMP_LO m) (R.CC_MTIMECMP_HI m) ≤ s.ptime)) +
  2048 * b2n (s.extIrq d (m.val % 2))

/-- A CSR exists. -/
def csrExists (n : Nat) : Bool :=
  [0x300, 0x301, 0x304, 0x305, 0x306, 0x30A, 0x320, 0x340, 0x341, 0x342, 0x343, 0x344, 0x3A0, 0x3A2, 0xF11, 0xF12, 0xF13,
   0xF14, 0xF15].contains n ||
  decide (0x3B0 ≤ n ∧ n < 0x3C0) || decide (0xC00 ≤ n ∧ n < 0xC20) ||
  decide (0xB00 ≤ n ∧ n < 0xB20 ∧ n ≠ 0xB01) || decide (0x323 ≤ n ∧ n < 0x340)

/-- A CSR as it reads. mcycle counts cycles that the model does not time: a free value. -/
def State.csrRead (s : State) (m : Fin 12) (n : Nat) : BitVec 64 :=
  let c := s.cr m
  if n = 0x300 then c.csrRaw n ||| w64 0x200000000
  else if n = 0x301 then w64 0x8000000000101105
  else if n = 0x344 then w64 (s.mip m)
  else if n = 0xF14 then w64 m.val
  else if n = 0xC01 then w64 s.ptime
  else if n = 0xC02 ∨ n = 0xB02 then c.csrRaw 0xB02
  else if n = 0xC00 ∨ n = 0xB00 then w64 s.freeVal
  else if 0x3B0 ≤ n ∧ n < 0x3C0 then w64 (c.pmpAddr (n - 0x3B0))
  else if (0xB03 ≤ n ∧ n < 0xB20) ∨ (0xC03 ≤ n ∧ n < 0xC20) ∨ (0x323 ≤ n ∧ n < 0x340) ∨ 0xF00 ≤ n then 0
  else c.csrRaw n

/-- The machine after a read of a CSR: mcycle draws. -/
def State.csrTouch (s : State) (n : Nat) : State := if n = 0xC00 ∨ n = 0xB00 then s.used else s

/-- A byte of the PMP configuration after a write: a locked region keeps it; A = NA4 is not selectable with a granularity
above 4 bytes, and W without R is reserved: both leave the byte as it is. -/
def pmpByte (old new : Nat) : Nat :=
  if bitOf old 7 ∨ bitsOf new 3 2 = 2 ∨ bitsOf new 0 2 = 2 then old else new % 256 / 128 * 128 + new % 32

/-- The value a CSR stores of a value written (WARL). -/
def Core.csrLegal (c : Core) (n : Nat) (v : BitVec 64) : BitVec 64 :=
  let x := v.toNat
  if n = 0x300 then w64 (x &&& 0x220088 ||| (if bitsOf x 11 2 = 3 then 0x1800 else 0))
  else if n = 0x304 then w64 (x &&& 0x888)
  else if n = 0x305 then w64 (x / 4 * 4 + x % 2)
  else if n = 0x306 ∨ n = 0x320 then w64 (if n = 0x320 then x &&& 5 else x % 4294967296)
  else if n = 0x30A then w64 (x % 2)
  else if n = 0x341 then w64 (x / 2 * 2)
  else if n = 0x3A0 ∨ n = 0x3A2 then
    w64 ((List.range 8).foldl (fun acc i => acc + pmpByte (bitsOf (c.csrRaw n).toNat (8 * i) 8) (bitsOf x (8 * i) 8) * 2 ^ (8 * i)) 0)
  else if 0x3B0 ≤ n ∧ n < 0x3C0 then
    let i := n - 0x3B0
    let next := c.pmpCfg (i + 1)
    if bitOf (c.pmpCfg i) 7 ∨ (i < 15 ∧ bitOf next 7 ∧ bitsOf next 3 2 = 1) then c.csrRaw n else w64 (x % 2 ^ 46)
  else v

/-- A write of a CSR; those that store nothing keep nothing. -/
def Core.csrWrite (c : Core) (n : Nat) (v : BitVec 64) : Core :=
  if [0x300, 0x304, 0x305, 0x306, 0x30A, 0x320, 0x340, 0x341, 0x342, 0x343, 0x3A0, 0x3A2, 0xB02].contains n ∨ (0x3B0 ≤ n ∧ n < 0x3C0) then
    c.setCsr n (c.csrLegal n v)
  else c

def Core.reg (c : Core) (i : Nat) : BitVec 64 := if i = 0 then 0 else c.x.toList.getD i 0
def Core.setReg (c : Core) (i : Nat) (v : BitVec 64) : Core :=
  if i = 0 then c else { c with x := Vector.ofFn (fun j => if j.val = i then v else c.x[j]) }

/-! Halt and resume (R511 to R516) -/

/-- A core halts: DPC, cause, the reservation goes. -/
def State.haltOne (s : State) (m : Fin 12) (cause : Nat) : State :=
  let s := s.mdSettleDie (m.val / 2)
  let pc := (s.cr m).pc.toNat
  let s := s.wrPair (R.DBG_DPC_LO m) (R.DBG_DPC_HI m) (pc % 2 ^ 48)
  let s := (s.setF (R.DBG_STAT m) F.DBG_STAT_CAUSE cause).setB (R.DBG_STAT m) F.DBG_STAT_HALTED true
  (s.setCc m 2).modCr m (fun c => { c with resv := none, stepping := false, haltPend := none, haltAt := s.now })

/-- The other core of the die. -/
def peer (m : Fin 12) : Fin 12 := if h : m.val % 2 = 0 then ⟨m.val + 1, by omega⟩ else ⟨m.val - 1, by omega⟩

/-- A core runs or waits in WFI. -/
def State.ccLive (s : State) (m : Fin 12) : Bool := s.ccState m == 1 || s.ccState m == 3

/-- A core halts, and with DBG_FREEZE.PEER the other one with it (R516). -/
def State.haltCore (s : State) (m : Fin 12) (cause : Nat) : State :=
  let s := s.haltOne m cause
  if s.flag (R.DBG_FREEZE (m.val / 2)) F.DBG_FREEZE_PEER && s.ccLive (peer m) then
    if (s.cr (peer m)).waiting.isSome then s.modCr (peer m) (fun c => { c with haltPend := some true })
    else (s.haltOne (peer m) 1).modCr (peer m) (fun c => { c with byPeer := true })
  else s

/-- A core leaves HALT at DPC; a frozen watchdog resumes with at least 1,000 ticks (R505). -/
def State.releaseOne (s : State) (m : Fin 12) (step : Bool) : State :=
  let s := s.mdSettleDie (m.val / 2)
  let s := s.modCr m (fun c => { c with
    pc := w64 (s.rdPair (R.DBG_DPC_LO m) (R.DBG_DPC_HI m)), stepping := step, byPeer := false })
  let s := (s.setB (R.DBG_STAT m) F.DBG_STAT_HALTED false).setCc m 1
  if bitOf (s.fld (R.DBG_FREEZE (m.val / 2)) F.DBG_FREEZE_WDT) (m.val % 2) && s.flag (R.CC_WDT_CTRL m) F.CC_WDT_CTRL_EN &&
      decide ((s.rd (R.CC_WDT_CNT m)).toNat < 1000) then
    s.wr (R.CC_WDT_CNT m) 1000
  else s

/-- RESUME in HALT; outside it is ignored. A core that its peer's halt holds is released with it. -/
def State.resumeCore (s : State) (m : Fin 12) (step : Bool) : State :=
  if s.ccState m = 2 then
    let s := s.releaseOne m step
    if s.ccState (peer m) = 2 && (s.cr (peer m)).byPeer then s.releaseOne (peer m) false
    else if (s.cr (peer m)).haltPend = some true then s.modCr (peer m) (fun c => { c with haltPend := none })
    else s
  else s

/-- HALTREQ takes effect on a core that runs, once the instruction in progress has completed. -/
def State.haltReqCore (s : State) (m : Fin 12) : State :=
  if s.ccLive m then
    if (s.cr m).waiting.isSome then s.modCr m (fun c => { c with haltPend := some false }) else s.haltCore m 1
  else s

/-- A write of DBG_CTRL (R513: HALTREQ and RESUME together halt). -/
def State.dbgCtrl (s : State) (m : Fin 12) (v : Word) : State :=
  let s := s.wrRW (R.DBG_CTRL m) v
  if F.DBG_CTRL_HALTREQ.get v = 1 then s.haltReqCore m
  else if F.DBG_CTRL_RESUME.get v = 1 then s.resumeCore m (s.flag (R.DBG_CTRL m) F.DBG_CTRL_STEP)
  else s

/-- HALTREQ, DBG_RESUME: writes of DBG_CTRL that set that bit alone. -/
def execHaltreq (m : Fin 12) (s : State) : Out := .next (s.haltReqCore m)
def execDbgResume (m : Fin 12) (s : State) : Out := .next (s.resumeCore m (s.flag (R.DBG_CTRL m) F.DBG_CTRL_STEP))

/-- A write of DBG_ACMD (R515). -/
def State.dbgAcmd (s : State) (m : Fin 12) (v : Word) : State :=
  let n := F.DBG_ACMD_REGNO.get v
  let wr := F.DBG_ACMD_WRITE.get v = 1
  let val := (s.rd (R.DBG_DATA1 m)) ++ (s.rd (R.DBG_DATA0 m))
  let put (s : State) (x : BitVec 64) : State := (s.wr (R.DBG_DATA0 m) (x.setWidth 32)).wr (R.DBG_DATA1 m) (x.extractLsb' 32 32)
  if s.ccState m ≠ 2 then s.raise (R.DBG_STAT m) F.DBG_STAT_AERR
  else if n < 0x1000 then
    if csrExists n then
      if wr then s.modCr m (fun c => c.csrWrite n val) else (put s (s.csrRead m n)).csrTouch n
    else s.raise (R.DBG_STAT m) F.DBG_STAT_AERR
  else if n < 0x1020 then
    if wr then s.modCr m (fun c => c.setReg (n - 0x1000) val) else put s ((s.cr m).reg (n - 0x1000))
  else s.raise (R.DBG_STAT m) F.DBG_STAT_AERR

/-- DBG_ACMD. -/
def execDbgAcmd (m : Fin 12) (v : Word) (s : State) : Out := .next (s.dbgAcmd m v)

/-! Start and core reset (R502) -/

/-- A core begins at CC_BOOT; with HOR it halts before its first instruction (R511). -/
def State.bootCore (s : State) (m : Fin 12) : State :=
  let boot := s.rdPair (R.CC_BOOT_LO m) (R.CC_BOOT_HI m)
  let s := (s.modCr m (fun c => { c with pc := w64 boot })).setCc m 1
  if s.flag (R.DBG_CTRL m) F.DBG_CTRL_HOR then s.haltCore m 5 else s

/-- What a requester has asked of fabric target sides and of other devices goes: it takes no answer any more. -/
def State.dropRequests (s : State) (src : Nat) : State :=
  let fp := s.fport.map (fun x =>
    { x with
      tgtWait := x.tgtWait.filter (fun r => r.src != src)
      tgt := x.tgt.filter (fun r => r.src != src)
      tgtDead := x.tgtDead ++ (x.tgt.filter (fun r => r.src == src)).map (fun r => r.id)
      tgtDone := x.tgtDone.filter (fun e => e.1.src != src) })
  { s with fport := fp, remoteDone := s.remoteDone.filter (fun e => e.1.src != src),
           remoteOut := s.remoteOut.filter (fun a => a.src != src) }

/-- The source identity of a core (R493). -/
def coreSrc (m : Fin 12) : Nat := m.val / 2 * 128 + 0x10 + m.val % 2

/-- A core reset: L1 caches, reservation, PC; privilege and mstatus as the privileged specification has them. -/
def State.coreReset (s : State) (m : Fin 12) (wdt : Bool) : State :=
  let s := (s.dropRequests (coreSrc m)).mdSettleDie (m.val / 2)
  let boot := s.rdPair (R.CC_BOOT_LO m) (R.CC_BOOT_HI m)
  let s := s.modCr m (fun c =>
    { (c.setCsr 0x300 (c.csrRaw 0x300 &&& ~~~(w64 0x20008))).setCsr 0x342 0 with
      pc := w64 boot, machine := true, resv := none, l1i := [], l1d := [], stepping := false, byPeer := false,
      waiting := none, haltPend := none, flight := [] })
  let s := s.setB (R.DBG_STAT m) F.DBG_STAT_HALTED false
  let s := (s.setB (R.CC_STAT m) F.CC_STAT_WDTRST wdt).setCc m 0
  if s.flag (R.CC_CTRL m) F.CC_CTRL_RUN then s.bootCore m else s

/-- A write of CC_CTRL. -/
def State.ccCtrl (s : State) (m : Fin 12) (v : Word) : State :=
  let s := s.wrRW (R.CC_CTRL m) v
  if F.CC_CTRL_RST.get v = 1 then s.coreReset m false
  else if F.CC_CTRL_RUN.get v = 1 ∧ s.ccState m = 0 then s.bootCore m
  else s

/-- CORE_RUN, CORE_RST: writes of CC_CTRL. -/
def execCoreRun (m : Fin 12) (s : State) : Out := .next (s.ccCtrl m 1)
def execCoreRst (m : Fin 12) (s : State) : Out := .next (s.ccCtrl m (F.CC_CTRL_RST.set (s.rd (R.CC_CTRL m)) 1))

/-! Watchdogs (R503 to R505) -/

/-- CNT from RELOAD; 0 acts as 1. -/
def State.wdtLoad (s : State) (m : Fin 12) : State :=
  s.wr (R.CC_WDT_CNT m) (BitVec.ofNat 32 (max 1 (s.rd (R.CC_WDT_RELOAD m)).toNat))

/-- A write of CC_WDT_KICK. -/
def State.wdtKick (s : State) (m : Fin 12) (key : Word) : State :=
  if key = 0xA5 then s.wdtLoad m else s.ccCmdErr (m.val / 2)

/-- A write of CC_WDT_CTRL: EN rising loads CNT. -/
def State.wdtCtrl (s : State) (m : Fin 12) (v : Word) : State :=
  let was := s.flag (R.CC_WDT_CTRL m) F.CC_WDT_CTRL_EN
  let s := s.wrRW (R.CC_WDT_CTRL m) v
  if !was && s.flag (R.CC_WDT_CTRL m) F.CC_WDT_CTRL_EN then s.wdtLoad m else s

/-- The core halted in the cycle under way, of its 1.5 GHz clock (R493): the watchdog comes before the halt (R504). -/
def State.haltedNow (s : State) (m : Fin 12) : Bool := (s.cr m).haltAt * 3 / 16000 == s.now * 3 / 16000

/-- The watchdog of a core counts: EN, not in RESET, not frozen in HALT, not in SLEEP (19 R600). -/
def State.wdtRuns (s : State) (m : Fin 12) : Bool :=
  s.flag (R.CC_WDT_CTRL m) F.CC_WDT_CTRL_EN && s.ccState m != 0 && !s.power.slept.isSome &&
  !(s.ccState m == 2 && bitOf (s.fld (R.DBG_FREEZE (m.val / 2)) F.DBG_FREEZE_WDT) (m.val % 2) && !s.haltedNow m)

/-- WDT_KICK, WDT_TICK, WDT_EXPIRY. -/
def execWdtKick (m : Fin 12) (key : Word) (s : State) : Out := .next (s.wdtKick m key)
def execWdtTick (m : Fin 12) (s : State) : Out :=
  if s.wdtRuns m && s.rd (R.CC_WDT_CNT m) != 0 then .next (s.wr (R.CC_WDT_CNT m) (s.rd (R.CC_WDT_CNT m) - 1)) else .next s
def execWdtExpiry (m : Fin 12) (s : State) : Out :=
  if s.wdtRuns m && s.rd (R.CC_WDT_CNT m) == 0 then
    .next (((s.coreReset m true).ccCause m F.CC_CAUSE_WDT).wdtLoad m)
  else .next s

/-- TIMER_INTERRUPT: package time reaches CC_MTIMECMP; a core in WFI whose timer interrupt is enabled goes on. -/
def execTimerInterrupt (m : Fin 12) (s : State) : Out :=
  let s := s.at_ (s.rdPair (R.CC_MTIMECMP_LO m) (R.CC_MTIMECMP_HI m) * ns)
  if s.ccState m = 3 ∧ bitOf ((s.cr m).csrRaw 0x304).toNat 7 then .next (s.setCc m 1) else .next s

/-- The code of a response (09 R342). -/
def respCode (r : Resp) : Nat :=
  match r with
  | .ok => 0 | .errData => 1 | .errDecode => 2 | .errTimeout => 3 | .errAbsent => 4 | .errVault => 5 | .errDenied => 6

/-! The virtual terminal (R517) -/

def State.dtxWrite (s : State) (m : Fin 12) (v : Word) : State :=
  if s.flag (R.DBG_VTSTAT m) F.DBG_VTSTAT_TXFULL then s.raise (R.DBG_VTSTAT m) F.DBG_VTSTAT_TXOVF
  else (s.wr (R.DBG_DTX m) v).raise (R.DBG_VTSTAT m) F.DBG_VTSTAT_TXFULL

def State.drxWrite (s : State) (m : Fin 12) (v : Word) : State :=
  if s.flag (R.DBG_VTSTAT m) F.DBG_VTSTAT_RXFULL then s.raise (R.DBG_VTSTAT m) F.DBG_VTSTAT_RXOVF
  else ((s.wr (R.DBG_DRX m) v).raise (R.DBG_VTSTAT m) F.DBG_VTSTAT_RXFULL).ccCause m F.CC_CAUSE_VTRX

/-- A read of DRX without the DEBUG attribute empties it. -/
def State.drxTake (s : State) (m : Fin 12) : State :=
  (s.wr (R.DBG_DRX m) 0).setB (R.DBG_VTSTAT m) F.DBG_VTSTAT_RXFULL false

/-- A write of DBG_VTSTAT. -/
def State.vtstat (s : State) (m : Fin 12) (v : Word) : State :=
  let s := if F.DBG_VTSTAT_TXACK.get v = 1 then s.setB (R.DBG_VTSTAT m) F.DBG_VTSTAT_TXFULL false else s
  let s := if F.DBG_VTSTAT_TXOVF.get v = 1 then s.setB (R.DBG_VTSTAT m) F.DBG_VTSTAT_TXOVF false else s
  if F.DBG_VTSTAT_RXOVF.get v = 1 then s.setB (R.DBG_VTSTAT m) F.DBG_VTSTAT_RXOVF false else s

/-- DTX_WRITE, TXACK, DRX_WRITE, DRX_READ. -/
def execDtxWrite (m : Fin 12) (v : Word) (s : State) : Out := .next (s.dtxWrite m v)
def execTxack (m : Fin 12) (s : State) : Out := .next (s.vtstat m (F.DBG_VTSTAT_TXACK.set 0 1))
def execDrxWrite (m : Fin 12) (v : Word) (s : State) : Out := .next (s.drxWrite m v)
def execDrxRead (m : Fin 12) (dbg : Bool) (s : State) : Out :=
  let v := s.rd (R.DBG_DRX m)
  .next ((if dbg then s else s.drxTake m).answer .ok (leBytes 4 v.toNat))

/-! L2 operations (R497, R518) -/

def State.setL2 (s : State) (d : Fin 6) (x : L2) : State := { s with l2 := s.l2.set d x }

/-- Lines of the L2 that an operation covers. -/
def State.l2Covered (s : State) (d : Fin 6) (line : Nat) : Bool :=
  let a := s.rdPair (R.CC_L2OP_ADDR_LO d) (R.CC_L2OP_ADDR_HI d) % 2 ^ 40 / 64
  decide (a ≤ line ∧ line < a + (s.rd (R.CC_L2OP_LEN d)).toNat)

/-- GO: a clean writes back the dirty lines, an invalidate drops the lines, with OP = 3 after writing them back. -/
def State.l2Go (s : State) (d : Fin 6) : State :=
  if s.flag (R.CC_L2OP_CTRL d) F.CC_L2OP_CTRL_BUSY then s.ccCmdErr d.val
  else
    let op := s.fld (R.CC_L2OP_CTRL d) F.CC_L2OP_CTRL_OP
    if op = 0 then s
    else
      let l := s.l2[d]
      let mine := l.lines.filter (fun e => s.l2Covered d e.1)
      let back := if bitOf op 0 then (mine.filter (fun e => e.2.2)).map (fun e => (e.1, e.2.1)) else []
      let kept := if bitOf op 1 then l.lines.filter (fun e => !s.l2Covered d e.1)
        else l.lines.map (fun e => if s.l2Covered d e.1 then (e.1, e.2.1, false) else e)
      let s := if bitOf op 1 then { s with core := Vector.ofFn (fun i =>
        if i.val / 2 = d.val then { s.core[i] with l1d := s.core[i].l1d.filter (fun n => !s.l2Covered d n) } else s.core[i]) } else s
      (s.setL2 d ⟨kept, some back⟩).raise (R.CC_L2OP_CTRL d) F.CC_L2OP_CTRL_BUSY

/-- A write of CC_L2OP_CTRL: OP is stored unless an operation runs. -/
def State.l2Ctrl (s : State) (d : Fin 6) (v : Word) : State :=
  if F.CC_L2OP_CTRL_GO.get v = 1 ∧ s.flag (R.CC_L2OP_CTRL d) F.CC_L2OP_CTRL_BUSY then s.ccCmdErr d.val
  else
    let s := s.wrRW (R.CC_L2OP_CTRL d) v
    if F.CC_L2OP_CTRL_GO.get v = 1 then s.l2Go d else s

/-- L2OP_GO: a write of CC_L2OP_CTRL with GO. -/
def execL2opGo (d : Fin 6) (op : BitVec 2) (s : State) : Out :=
  .next (s.l2Ctrl d (BitVec.ofNat 32 (1 + 2 * op.toNat)))

/-- L2DONE: the write-backs have their responses. They carry the source identity of core 0 of the die
(notes/assumptions/61.md). -/
def execL2done (d : Fin 6) (envs : List G6Env) (s : State) : Out :=
  match (s.l2[d]).op with
  | none => .next s
  | some back =>
    let s := (List.range back.length).foldl (fun s i =>
      let e := nth back i (0, 0)
      (s.g6Access (d.val * 128 + 0x10) (e.1 * 64) (.full e.2) (nth envs i G6Env.none_)).st) s
    let s := s.setL2 d { s.l2[d] with op := none }
    .next ((s.setB (R.CC_L2OP_CTRL d) F.CC_L2OP_CTRL_BUSY false).raise (R.CC_CAUSE d) F.CC_CAUSE_L2DONE)

end Sys2Proof.Machine
end

