-- ==== Sys2Proof/Machine/Keeper.lean ====
section
/-! DEFINITION. Machine/Keeper.lean: the keeper: its mailbox, fuses, life cycle, debug authorisation, and the thermos
(16_security_lifecycle.md). -/
namespace Sys2Proof.Machine

/-! State of the keeper -/

def State.life (s : State) : Nat := s.fld R.KPR_STAT F.KPR_STAT_LC
/-- Debug state: 0 CLOSED, 1 OBSERVE, 2 FULL, 3 SCAN. -/
def State.dbgState (s : State) : Nat := s.fld R.KPR_STAT F.KPR_STAT_DBG
def State.fails (s : State) : Nat := s.fld R.KPR_STAT F.KPR_STAT_FAILS
def State.kprCause (s : State) (f : Fld) : State := s.raise R.KPR_CAUSE f
def State.modKeeper (s : State) (f : Keeper → Keeper) : State := { s with keeper := f s.keeper }

/-- Bit b of the policy (R526). -/
def State.policy (s : State) (b : Nat) : Bool := bitOf (s.rd R.KPR_POLICY).toNat b
/-- Lock b: DEVKEY, BSHASH, PWDHASH, DBGKHASH. -/
def State.fuseLocked (s : State) (b : Nat) : Bool := bitOf (s.rd R.KPR_FLOCK).toNat b

/-! Words (R521) -/

/-- The bytes of a word, the first in bits 31:24. -/
def keyBytes (ws : List Word) : List Nat := ws.flatMap (fun w => [bitsOf w.toNat 24 8, bitsOf w.toNat 16 8, bitsOf w.toNat 8 8, bitsOf w.toNat 0 8])

/-- A key, hash, nonce or signature as field bits: byte j in bits 8j + 7 to 8j (R524). -/
def keyVal (ws : List Word) : Nat := leOf (keyBytes ws)

/-- n words of a key, hash or nonce. -/
def keyWords (n v : Nat) : List Word :=
  (List.range n).map (fun i => BitVec.ofNat 32 (bitsOf v (32 * i) 8 * 16777216 + bitsOf v (32 * i + 8) 8 * 65536 + bitsOf v (32 * i + 16) 8 * 256 + bitsOf v (32 * i + 24) 8))

/-- n words of an integer. -/
def intWords (n v : Nat) : List Word := (List.range n).map (fun i => BitVec.ofNat 32 (v / 2 ^ (32 * i)))

/-- The low n bits read most significant byte first, as n / 8 bytes. -/
def beBytes (n v : Nat) : List Nat := (leBytes n v).reverse

/-! Proofs (R536 to R539) -/

/-- A result of a command or a message: its code, its output words, the machine. -/
structure KprAns where
  code : Nat
  out : List Word
  st : State

/-- LOCKOUT applies (R539). -/
def State.lockedOut (s : State) : Bool := decide (s.now < s.keeper.lockUntil) || s.fails == 16

/-- An AUTH result counts and starts a lockout of 100 ms. -/
def State.authFail (s : State) : State :=
  let s := s.setF R.KPR_STAT F.KPR_STAT_FAILS (min 16 (s.fails + 1))
  let s := (s.setB R.KPR_STAT F.KPR_STAT_LOCKOUT true).kprCause F.KPR_CAUSE_AUTHFAIL
  s.modKeeper (fun k => { k with lockUntil := s.now + 100000000 * ns })

/-- The message M a signature covers (R537). -/
def State.proofMsg (s : State) (nonce : BitVec 256) (purpose level : Nat) : List Nat :=
  leBytes 32 nonce.toNat ++ beBytes 8 (s.rdPair R.KPR_SERIAL_LO R.KPR_SERIAL_HI) ++ [purpose, s.life, level]

/-- A nonce that is still valid: 60 s. -/
def State.validNonce (s : State) (n : Option Nonce) : Option Nonce :=
  n.filter (fun x => decide (s.now < x.time + 60000000000 * ns))

/-- The check of 48 input words against a nonce: key hash, then signature. -/
def State.signatureOk (s : State) (nonce : BitVec 256) (ws : List Word) (purpose level : Nat) : Bool :=
  s.fuseLocked 3 && Config.sha384 (keyBytes (ws.take 24)) == s.keeper.fuses.dbgkhash &&
  Config.ecdsaOk (BitVec.ofNat 768 (keyVal (ws.take 24))) (Config.sha384 (s.proofMsg nonce purpose level))
    (BitVec.ofNat 768 (keyVal ((ws.drop 24).take 24)))

/-- A proof by signature: its result code and the machine after it. The nonce is used up whatever the result. -/
def State.proof (s : State) (box : Bool) (ws : List Word) (purpose level : Nat) : Nat × State :=
  if s.lockedOut then (6, s)
  else
    match s.validNonce (if box then s.keeper.nonceBox else s.keeper.nonceTap) with
    | none => (5, s)
    | some n =>
      let ok := s.signatureOk n.val ws purpose level
      let s := s.modKeeper (fun k => if box then { k with nonceBox := none } else { k with nonceTap := none })
      if ok then (0, s) else (4, s.authFail)

/-- A fresh nonce for a path: its 8 words, then SERIAL. -/
def State.issueNonce (s : State) (box : Bool) : List Word × State :=
  let v : BitVec 256 := BitVec.ofNat 256 s.freeVal
  let x : Nonce := ⟨v, s.now⟩
  (keyWords 8 v.toNat ++ [s.rd R.KPR_SERIAL_LO, s.rd R.KPR_SERIAL_HI],
   s.used.modKeeper (fun k => if box then { k with nonceBox := some x } else { k with nonceTap := some x }))

/-! The debug state (R533, R540, R541) -/

/-- What follows at once when the debug state leaves FULL. -/
def State.leaveFull (s : State) : State :=
  let s := forEach (List.finRange 12) (fun m s => s.resumeCore m false) s
  forEach (List.finRange 12) (fun m s =>
    let s := forEach (List.range 8) (fun b s => s.wr (R.DBG_BP_CTRL m b) (s.rd (R.DBG_BP_CTRL m b) &&& 0xFFFFFFF8#32)) s
    s.wr (R.DBG_CTRL m) (s.rd (R.DBG_CTRL m) &&& 0xFFFFFF8F#32)) s

/-- SCAN entry: the halt, then every key store, the thermos, the ephemeral root and the nonces are cleared. -/
def State.enterScan (s : State) : State :=
  (s.haltAll 0x0F).modKeeper (fun k => { k with root := none, nonceTap := none, nonceBox := none, thermos := none, inq := [], outq := [], msg := none })

/-- The debug state becomes n. -/
def State.setDebug (s : State) (n : Nat) : State :=
  let old := s.dbgState
  if old = n then s
  else
    let s := (s.setF R.KPR_STAT F.KPR_STAT_DBG n).kprCause F.KPR_CAUSE_DBGCHG
    let s := if old = 2 then s.leaveFull else s
    if n = 3 then s.enterScan else s

/-- The ceiling of the life-cycle state (R538). -/
def State.ceiling (s : State) : Nat :=
  match s.life with
  | 4 => 0
  | 2 => if s.policy 3 then 0 else if s.policy 2 then 1 else 2
  | _ => 2

/-- SCAN can be entered: FULL, DEVELOP or RMA, NOSCAN 0 (R541). -/
def State.scanOk (s : State) : Bool := s.dbgState == 2 && (s.life == 1 || s.life == 3) && !s.policy 4

/-- The checks of an OPEN message before its proof. -/
def State.openRefuse (s : State) (level : Nat) : Option Nat :=
  if s.life = 4 then some 2
  else if level = 3 then (if s.scanOk then none else some 2)
  else if s.ceiling < level then some 3
  else none

/-- OPEN_PWD (R536). -/
def State.openPwd (s : State) (level : Nat) (ws : List Word) : Nat × State :=
  if 1 < s.life ∨ (s.life = 1 ∧ s.policy 5) then (2, s)
  else
    match s.openRefuse level with
    | some c => (c, s)
    | none =>
      if s.life = 0 then (0, s)
      else if s.lockedOut then (6, s)
      else if s.fuseLocked 2 && Config.sha384 (keyBytes (ws.take 8)) == s.keeper.fuses.pwdhash then (0, s)
      else (4, s.authFail)

/-- OPEN_SIG (R537). -/
def State.openSig (s : State) (level : Nat) (ws : List Word) : Nat × State :=
  match s.openRefuse level with
  | some c => (c, s)
  | none => if s.life = 0 then (0, s) else s.proof false ws 1 level

/-- A DBGAUTH message: result, output, machine (R535). -/
def State.message (s : State) (w : Word) (ws : List Word) : KprAns :=
  let code := bitsOf w.toNat 24 8
  let level := bitsOf w.toNat 16 8
  if bitsOf w.toNat 0 16 ≠ 0 then ⟨1, [], s⟩
  else
    match code with
    | 4 => if level = 0 then ⟨0, [], s.setDebug 0⟩ else ⟨1, [], s⟩
    | 5 => if level = 0 then ⟨0, [], s⟩ else ⟨1, [], s⟩
    | _ =>
      if level = 0 ∨ 3 < level then ⟨1, [], s⟩
      else
        match code with
        | 1 => let r := s.openPwd level ws; ⟨r.1, [], if r.1 = 0 then r.2.setDebug level else r.2⟩
        | 2 =>
          if level = 3 ∧ s.scanOk = false then ⟨2, [], s⟩
          else if level ≠ 3 ∧ s.ceiling < level then ⟨3, [], s⟩
          else let r := s.issueNonce false; ⟨0, r.1, r.2⟩
        | 3 => let r := s.openSig level ws; ⟨r.1, [], if r.1 = 0 then r.2.setDebug level else r.2⟩
        | _ => ⟨1, [], s⟩

/-- Input words of a message. -/
def messageLen (code : Nat) : Nat := match code with | 1 => 8 | 3 => 48 | _ => 0

/-- The head of the input queue is a message with this code and all its words are queued. -/
def State.messageReady (s : State) (code : Nat) : Bool :=
  match s.keeper.inq with
  | [] => false
  | w :: r => bitsOf w.toNat 24 8 == code && decide (messageLen code ≤ r.length)

/-- A message is taken up. -/
def State.takeMessage (s : State) (code : Nat) : State :=
  if s.keeper.msg.isNone && s.messageReady code then
    match s.keeper.inq with
    | [] => s
    | w :: r => s.modKeeper (fun k => { k with msg := some (w, r.take (messageLen code)), inq := r.drop (messageLen code) })
  else s

/-- OPEN_PWD, CHAL, OPEN_SIG, LOCK, STATUS: the message at the head of the queue is taken up. -/
def execOpenPwd (s : State) : Out := .next (s.takeMessage 1)
def execChal (s : State) : Out := .next (s.takeMessage 2)
def execOpenSig (s : State) : Out := .next (s.takeMessage 3)
def execDbgLock (s : State) : Out := .next (s.takeMessage 4)
def execAuthStatus (s : State) : Out := .next (s.takeMessage 5)

/-- A message of another code is answered with BADMSG (R523). -/
def State.takeUnknown (s : State) : State :=
  match s.keeper.inq with
  | w :: _ => if 1 ≤ bitsOf w.toNat 24 8 ∧ bitsOf w.toNat 24 8 ≤ 5 then s else s.takeMessage (bitsOf w.toNat 24 8)
  | [] => s

/-- The status word (R535). -/
def State.statusWord (s : State) (result : Nat) : Word :=
  BitVec.ofNat 32 (result + 256 * s.dbgState + 4096 * s.life + 65536 * s.fails)

/-- DBGAUTH_MESSAGE_END: the message in hand is answered. It waits while its answer does not fit in the output queue. -/
def execDbgauthMessageEnd (s : State) : Out :=
  let s := s.takeUnknown
  match s.keeper.msg with
  | none => .next s
  | some (w, ws) =>
    let r := s.message w ws
    let words := r.st.statusWord r.code :: r.out
    if s.keeper.outq.length + words.length ≤ 16 then
      .next (r.st.modKeeper (fun k => { k with msg := none, outq := if r.st.dbgState = 3 then [] else k.outq ++ words }))
    else .next s

/-! The mailbox (R519, R520, R522) -/

/-- A request to the keeper's registers is accepted: control cores, PCI Express, the debug bus master (R519). -/
def State.keeperAllows (s : State) (src : Nat) (write : Bool) : Bool :=
  srcLocal src == 0x10 || srcLocal src == 0x11 || srcLocal src == 0x60 ||
  (srcLocal src == 0x62 && (s.dbgState == 2 || (s.dbgState == 1 && !write)))

/-- A write of KPR_MBOX_CMD starts a command. -/
def State.mboxCmd (s : State) (code arg : Nat) : State :=
  if s.flag R.KPR_MBOX_STAT F.KPR_MBOX_STAT_BUSY then s.kprCause F.KPR_CAUSE_CMDERR
  else (s.raise R.KPR_MBOX_STAT F.KPR_MBOX_STAT_BUSY).modKeeper (fun k => { k with cmd := some (code, arg) })

/-- A keeper command as its requester writes it; a source the keeper does not accept is refused (R519). -/
def State.keeperCmd (s : State) (src : BitVec 10) (code : Nat) (arg : BitVec 8) : State :=
  if s.keeperAllows src.toNat true then (s.mboxCmd code arg.toNat).answer .ok [] else s.answer .errDenied []

/-- FUSE_READ, FUSE_PROG, LC_ADVANCE, AUTH_CHAL, RB_COMMIT, ZEROISE, RANDOM: the command is written to the mailbox. -/
def execFuseRead (src : BitVec 10) (arg : BitVec 8) (s : State) : Out := .next (s.keeperCmd src 1 arg)
def execFuseProg (src : BitVec 10) (arg : BitVec 8) (s : State) : Out := .next (s.keeperCmd src 2 arg)
def execLcAdvance (src : BitVec 10) (arg : BitVec 8) (s : State) : Out := .next (s.keeperCmd src 3 arg)
def execAuthChal (src : BitVec 10) (arg : BitVec 8) (s : State) : Out := .next (s.keeperCmd src 4 arg)
def execRbCommit (src : BitVec 10) (arg : BitVec 8) (s : State) : Out := .next (s.keeperCmd src 5 arg)
def execZeroise (src : BitVec 10) (arg : BitVec 8) (s : State) : Out := .next (s.keeperCmd src 6 arg)
def execRandom (src : BitVec 10) (arg : BitVec 8) (s : State) : Out := .next (s.keeperCmd src 7 arg)

/-- n words of the mailbox. -/
def State.mbox (s : State) (n : Nat) : List Word := (List.range n).map (fun i => s.rd (R.KPR_MBOX_DATA i))

/-- FUSE_READ (R522, R524). -/
def State.fuseRead (s : State) (arg : Nat) : KprAns :=
  let f := s.keeper.fuses
  match arg with
  | 0 => ⟨0, intWords 1 s.life, s⟩
  | 1 => ⟨0, intWords 1 (rbCount f.antirb), s⟩
  | 2 => ⟨2, [], s⟩
  | 3 => ⟨0, keyWords 12 f.bshash.toNat, s⟩
  | 4 => ⟨0, keyWords 12 f.pwdhash.toNat, s⟩
  | 5 => ⟨0, keyWords 12 f.dbgkhash.toNat, s⟩
  | 6 => ⟨0, intWords 1 (pairBits 32 f.policy.toNat), s⟩
  | 7 => ⟨0, intWords 2 f.serial.toNat, s⟩
  | 8 => ⟨0, intWords 32 f.mfg.toNat, s⟩
  | _ => ⟨1, [], s⟩

def State.setFuses (s : State) (f : Fuses) : State := (s.modKeeper (fun k => { k with fuses := f })).showFuses

/-- Both fuses of each bit of a value. -/
def bothFuses (n v : Nat) : Nat := bitsNat ((List.range (2 * n)).map (fun i => bitOf v (i / 2)))

/-- A lockable field of the array: its value. -/
def Fuses.field (f : Fuses) (code : Nat) : Nat :=
  match code with | 2 => f.devkey.toNat | 3 => f.bshash.toNat | 4 => f.pwdhash.toNat | _ => f.dbgkhash.toNat

/-- The array with a lockable field replaced. -/
def Fuses.put (f : Fuses) (code v : Nat) : Fuses :=
  match code with
  | 2 => { f with devkey := BitVec.ofNat 256 v }
  | 3 => { f with bshash := BitVec.ofNat 384 v }
  | 4 => { f with pwdhash := BitVec.ofNat 384 v }
  | _ => { f with dbgkhash := BitVec.ofNat 384 v }

/-- FUSE_PROG (R524, R525): `vpp` says that the programming supply is there, `good` that the field verifies. Of the bits
that a failed verify has blown, which ones is a free value. -/
def State.fuseProg (s : State) (arg : Nat) (vpp good : Bool) : KprAns :=
  let f := s.keeper.fuses
  match arg with
  | 6 =>
    let v := (s.rd (R.KPR_MBOX_DATA 0)).toNat
    if 64 ≤ v then ⟨1, [], s⟩
    else if 2 < s.life then ⟨2, [], s⟩
    else if !vpp then ⟨9, [], s⟩
    else
      let part := if good then v else v &&& s.freeVal
      let t := s.setFuses { f with policy := f.policy ||| BitVec.ofNat 64 (bothFuses 32 part) }
      if good then ⟨0, [], t⟩ else ⟨9, [], t.used⟩
  | 0 => ⟨2, [], s⟩
  | 1 => ⟨2, [], s⟩
  | 7 => ⟨2, [], s⟩
  | 8 => ⟨2, [], s⟩
  | _ =>
    if arg < 2 ∨ 5 < arg then ⟨1, [], s⟩
    else
      let v := keyVal (s.mbox (if arg = 2 then 8 else 12))
      let old := f.field arg
      if (if arg = 2 then 0 else 1) < s.life then ⟨2, [], s⟩
      else if s.fuseLocked (arg - 2) then ⟨7, [], s⟩
      else if !vpp ∨ old ||| v ≠ v then ⟨9, [], s⟩
      else if good then
        let g := f.put arg v
        ⟨0, [], s.setFuses { g with lock := g.lock ||| BitVec.ofNat 8 (3 * 4 ^ (arg - 2)) }⟩
      else ⟨9, [], (s.setFuses (f.put arg (old ||| (v &&& s.freeVal)))).used⟩

/-- The transitions of R530: result code of a target (0 when allowed), and whether it takes a signature. -/
def State.transition (s : State) (target : Nat) : Nat × Bool :=
  match s.life, target with
  | 0, 1 => (if s.fuseLocked 0 then 0 else 8, false)
  | 0, 4 => (0, false)
  | 1, 2 => (if s.fuseLocked 1 && (s.fuseLocked 3 || s.policy 3) then 0 else 8, false)
  | 1, 4 => (0, false)
  | 2, 3 => (0, true)
  | 2, 4 => (0, true)
  | 3, 4 => (0, false)
  | _, _ => (2, false)

/-- LC_ADVANCE (R530, R531): its fuses are blown; with a good verify a device reset follows in place of an answer. -/
def State.lcAdvance (s : State) (arg : Nat) (vpp good : Bool) (bist : List Nat) : KprAns ⊕ State :=
  let tr := s.transition arg
  if tr.1 ≠ 0 then .inl ⟨tr.1, [], s⟩
  else
    let p := if tr.2 then s.proof true (s.mbox 48) 2 arg else (0, s)
    if p.1 ≠ 0 then .inl ⟨p.1, [], p.2⟩
    else if !vpp then .inl ⟨9, [], p.2⟩
    else
      let s := p.2
      let f := s.keeper.fuses
      let bits := 15 * 16 ^ (arg - 1)
      let put (s : State) (n : Nat) : State := s.modKeeper (fun k => { k with fuses := { f with lc := f.lc ||| BitVec.ofNat 16 n } })
      if good then .inr ((put s bits).deviceReset 4 bist) else .inl ⟨9, [], (put s (bits &&& s.freeVal)).used⟩

/-- n more steps of the anti-rollback counter: both bits of the lowest steps not counted. -/
def blowSteps (a : BitVec 128) (n : Nat) : BitVec 128 :=
  (((List.range 64).filter (fun i => !(bitOf a.toNat (2 * i) || bitOf a.toNat (2 * i + 1)))).take n).foldl
    (fun a i => a ||| BitVec.ofNat 128 (3 * 4 ^ i)) a

/-- RB_COMMIT (R527). -/
def State.rbCommit (s : State) (vpp good : Bool) : KprAns :=
  let f := s.keeper.fuses
  let count := rbCount f.antirb
  let loaded := s.fld R.KPR_RBCNT F.KPR_RBCNT_LOADED
  if loaded ≤ count then ⟨0, intWords 1 count, s⟩
  else if !vpp then ⟨9, [], s⟩
  else if good then ⟨0, intWords 1 (min 64 loaded), s.setFuses { f with antirb := blowSteps f.antirb (loaded - count) }⟩
  else ⟨9, [], (s.setFuses { f with antirb := f.antirb ||| (blowSteps f.antirb (loaded - count) &&& BitVec.ofNat 128 s.freeVal) }).used⟩

/-- A command without an argument. -/
def State.noArg (s : State) (arg : Nat) (f : State → KprAns) : KprAns := if arg = 0 then f s else ⟨1, [], s⟩

/-- The life-cycle states in which AUTH_CHAL and RB_COMMIT are accepted. -/
def State.inField (s : State) : Bool := s.life == 1 || s.life == 2

/-- The result of a command is written (R520). -/
def State.mboxDone (_s : State) (r : KprAns) : State :=
  let t := r.st
  let t := t.wr R.KPR_MBOX_STAT (BitVec.ofNat 32 (256 * r.code + 65536 * r.out.length))
  let t := forEach (List.range 64) (fun i t => t.wr (R.KPR_MBOX_DATA i) (nth r.out i 0)) t
  (t.modKeeper (fun k => { k with cmd := none })).kprCause F.KPR_CAUSE_DONE

/-- KEEPER_CMD_DONE: the command in hand ends. -/
def execKeeperCmdDone (vpp good : Bool) (bist : List Nat) (s : State) : Out :=
  match s.keeper.cmd with
  | none => .next s
  | some (code, arg) =>
    match code with
    | 1 => .next (s.mboxDone (s.fuseRead arg))
    | 2 => .next (s.mboxDone (s.fuseProg arg vpp good))
    | 3 =>
      match s.lcAdvance arg vpp good bist with
      | .inl r => .next (s.mboxDone r)
      | .inr t => .next t
    | 4 => .next (s.mboxDone (s.noArg arg (fun s =>
        if s.inField then let r := s.issueNonce true; ⟨0, r.1, r.2⟩ else ⟨2, [], s⟩)))
    | 5 => .next (s.mboxDone (s.noArg arg (fun s => if s.inField then s.rbCommit vpp good else ⟨2, [], s⟩)))
    | 6 =>
      let t := s.mboxDone (s.noArg arg (fun t => ⟨0, [], t⟩))
      if arg = 0 then .next ((t.kprCause F.KPR_CAUSE_ZERO).haltAll 0x0F) else .next t
    | 7 => .next (s.mboxDone (s.noArg arg (fun s => ⟨0, intWords 8 s.freeVal, s.used⟩)))
    | _ => .next (s.mboxDone ⟨1, [], s⟩)

/-- NONCE_EXPIRY: 60 s have passed (R537). -/
def execNonceExpiry (box : Bool) (s : State) : Out :=
  match if box then s.keeper.nonceBox else s.keeper.nonceTap with
  | none => .next s
  | some n =>
    .next ((s.at_ (n.time + 60000000000 * ns)).modKeeper (fun k => if box then { k with nonceBox := none } else { k with nonceTap := none }))

/-- LOCKOUT_EXPIRY: the 100 ms end; from FAILS = 16 the lockout stays (R539). -/
def execLockoutExpiry (s : State) : Out :=
  let s := s.at_ s.keeper.lockUntil
  .next (if s.fails = 16 then s else s.setB R.KPR_STAT F.KPR_STAT_LOCKOUT false)

/-! DBGAUTH (R534) -/

/-- DBGAUTH is there: start-up has not failed, and the TAP does not serve scan (R541, R545, R550). -/
def State.tapAuth (s : State) : Bool := s.power.up && s.dbgState != 3

/-- DBGAUTH_PUSH: a push to a full queue is ignored. -/
def execDbgauthPush (w : Word) (s : State) : Out :=
  if s.tapAuth && decide (s.keeper.inq.length < 64) then .next (s.modKeeper (fun k => { k with inq := k.inq ++ [w] })) else .next s
/-- DBGAUTH_POP, DBGAUTH_FLUSH. -/
def execDbgauthPop (s : State) : Out :=
  if s.tapAuth then .next (s.modKeeper (fun k => { k with outq := k.outq.drop 1 })) else .next s
def execDbgauthFlush (s : State) : Out :=
  if s.tapAuth then .next (s.modKeeper (fun k => { k with inq := [] })) else .next s

/-! SLEEP (R542, R543) -/

/-- SLEEP entry: the thermos is filled, then the vault stages are zeroised. -/
def State.fillThermos (s : State) : State :=
  let keys := (List.finRange 64).filterMap (fun v => if s.vctrl v.val F.VLT_V_CTRL_EN = 1 then some (v.val, (s.v v).keys) else none)
  let x : Thermos := ⟨s.keeper.root, s.dbgState, s.fails, keys⟩
  let s := s.zeroKeys
  s.modKeeper (fun k => { k with thermos := some x, nonceTap := none, nonceBox := none })

/-- SLEEP exit: the vault stages are reloaded, then the thermos is zeroised. `bad` lists entries that fail their check:
0 to 63 a vault, 64 the debug state, 65 the ephemeral root. -/
def State.emptyThermos (s : State) (bad : List Nat) : State :=
  match s.keeper.thermos with
  | none => s
  | some x =>
    let s := forEach (List.finRange 64) (fun v s =>
      match x.keys.find? (fun e => e.1 == v.val) with
      | none => s
      | some e =>
        if bad.contains v.val then
          (s.setV v { s.v v with keys := e.2.map (fun k => (k.1, s.deriveKeys v k.1)) }).kprCause F.KPR_CAUSE_THERM
        else s.setV v { s.v v with keys := e.2 }) s
    let s := if bad.contains 64 then (s.setDebug 0).kprCause F.KPR_CAUSE_THERM else s
    let s := s.modKeeper (fun k => { k with thermos := none })
    if bad.contains 65 && !s.flag R.KPR_STAT F.KPR_STAT_KEYSRC then s.deviceReset 5 []
    else if bad.contains 65 then s.kprCause F.KPR_CAUSE_THERM else s

end Sys2Proof.Machine
end

