-- ==== Sys2Proof/Machine/Bist.lean ====
section
/-! DEFINITION. Machine/Bist.lean: slice BIST: its targets, the scheduler, failures and their safe states
(17_self_test.md R551 to R561). -/
namespace Sys2Proof.Machine

/-! Targets (R551, R553) -/

/-- The die has the target (01 R16, 10 R348). -/
def targetHere (d : Fin 6) (t : Nat) : Bool :=
  if 0x18 ≤ t ∧ t ≤ 0x1A then (farEnd d.val (t - 0x18)).isSome
  else if 0x1D ≤ t ∧ t ≤ 0x1F then (farEnd d.val (t - 0x1D)).isSome
  else if t = 0x20 then d == 0
  else decide (t ≤ 0x0D ∨ (0x10 ≤ t ∧ t ≤ 0x1C) ∨ t = 0x21)

/-- Group k of a die. -/
def groupAt (d : Fin 6) (k : Nat) : Nat := 4 * d.val + k % 4

/-- The physical SPARE lanes that a seam port receives. -/
def State.spareLanes (s : State) (d k : Nat) : List Nat :=
  let m := s.readMap (fun i => R.SEAM_LMAP_RX d k i)
  (List.range 48).filter (fun l => nth m l 4 % 8 == 3)

/-- The segments of a target, by number. -/
def State.segments (s : State) (d : Fin 6) (t : Nat) : List Nat :=
  if t < 4 then List.range 16
  else if t < 8 then List.range 4
  else if t < 0x0C then [0]
  else if t = 0x0C then List.range 64
  else if t = 0x0D then List.range 32
  else if t < 0x14 then List.range 40
  else if t < 0x18 then List.range 8
  else if t < 0x1B then s.spareLanes d.val (t - 0x18)
  else if t = 0x20 then List.range 4
  else [0]

/-- No group of the die is in ARMED, RUN or PAUSED with a flag of FCU_CTRL set. -/
def State.noneRunsWith (s : State) (d : Fin 6) (f : Fld) : Bool :=
  (groupsOf d).all (fun g => !(s.active g.val && s.flag (R.FCU_CTRL g) f))

/-- A flit of a seam port awaits its acknowledgement, or has been sent since a slice of its retry buffers started (R551). -/
def State.flitBusy (s : State) (d : Fin 6) (t : Nat) : Bool :=
  let since := match (s.bist[d]).run with
    | some (u, _, x) => if u = t then x else s.now
    | none => s.now
  match s.seam.toList[3 * d.val + (t - 0x1D)]? with
  | none => false
  | some x => x.unacked.any (fun f => decide (since ≤ f.2 ∨ s.now ≤ f.2 + 100 * ns))

/-- A target is eligible ("Runs while" of R551). -/
def State.eligible (s : State) (d : Fin 6) (t : Nat) : Bool :=
  targetHere d t && !s.power.slept.isSome && s.dieRuns d.val &&
  (if t < 8 then !s.active (groupAt d t)
   else if t < 0x0C then !s.active (groupAt d t) && ((groupsOf d).getD (t % 4) ⟨4 * d.val, by omega⟩ |> fun g => (s.g g).runs.isEmpty)
   else if t = 0x0C then s.noneRunsWith d F.FCU_CTRL_BEN && !s.flag (R.FCD_STAT d) F.FCD_STAT_BMBUSY
   else if t = 0x0D then
     (s.c d).cmdRun.isNone && (s.c d).cmdQ.isEmpty &&
     (groupsOf d).all (fun g => (s.g g).raeQ.isEmpty) && s.noneRunsWith d F.FCU_CTRL_REN
   else if t < 0x14 then
     s.fld (R.MDSP_STAT (4 * d.val + t % 4)) F.MDSP_STAT_STATE == 0 || s.fld (R.MDSP_STAT (4 * d.val + t % 4)) F.MDSP_STAT_STATE == 3
   else if t < 0x18 then !s.active (groupAt d t) && !s.flag (R.CH_GCTRL (groupAt d t)) F.CH_GCTRL_REL
   else if t = 0x1B ∨ t = 0x1C then !s.flag (R.TSY_PORT_CTRL (2 * d.val + (t - 0x1B))) F.TSY_PORT_CTRL_EN
   else if 0x1D ≤ t ∧ t ≤ 0x1F then !s.flitBusy d t
   else if t = 0x20 then !s.flag R.KPR_MBOX_STAT F.KPR_MBOX_STAT_BUSY && s.keeper.inq.isEmpty && s.keeper.msg.isNone
   else true)

/-! Scheduling (R554, R558) -/

def State.setBist (s : State) (d : Fin 6) (x : Bist) : State := { s with bist := s.bist.set d x }

/-- BIST_TEN of a die, bits of absent targets 0. -/
def State.testable (s : State) (d : Fin 6) (t : Nat) : Bool :=
  targetHere d t && bitOf (s.rdPair (R.BIST_TEN_LO d) (R.BIST_TEN_HI d)) t

/-- The targets after one, in ascending code order, wrapping. -/
def targetsAfter (last : Nat) : List Nat := (List.range 34).rotate ((last + 1) % 34)

/-- A slice of a target starts at its next segment. -/
def State.startSlice (s : State) (d : Fin 6) (t : Nat) : State :=
  let b := s.bist[d]
  let seg := nth (s.segments d t) (Sparse.get (fun _ => 0) b.segs t % max 1 (s.segments d t).length) 0
  ((s.setBist d { b with run := some (t, seg, s.now), last := t }).raise (R.BIST_STAT d) F.BIST_STAT_BUSY).setF (R.BIST_STAT d) F.BIST_STAT_CURT t

/-- GAP: values below 100 act as 100. -/
def State.gap (s : State) (d : Fin 6) : Nat := max 100 (s.fld (R.BIST_CTRL d) F.BIST_CTRL_GAP)

/-- SLICE_START: the next slice of a retest at once, else a slice at the next GAP instant. -/
def execSliceStart (d : Fin 6) (s : State) : Out :=
  let b := s.bist[d]
  match b.run with
  | some _ => .next s
  | none =>
    match b.retest with
    | some t => .next (if s.eligible d t && !(s.segments d t).isEmpty then s.startSlice d t else s)
    | none =>
      if s.flag (R.BIST_CTRL d) F.BIST_CTRL_EN then
        let t := b.lastT + s.gap d * 1000 * ns
        let s := (s.at_ t).setBist d { b with lastT := max t s.now }
        match (targetsAfter b.last).find? (fun t => s.testable d t && !s.bistHeld d.val t && s.eligible d t && !(s.segments d t).isEmpty) with
        | some t => .next (s.startSlice d t)
        | none => .next s
      else .next s

/-- The running slice is gone. -/
def State.sliceOver (s : State) (d : Fin 6) : State :=
  (s.setBist d { s.bist[d] with run := none }).setB (R.BIST_STAT d) F.BIST_STAT_BUSY false

/-- A service request reaches the block under test: the slice is abandoned and gives no verdict (R558). -/
def State.abandon (s : State) (d : Fin 6) : State :=
  match (s.bist[d]).run with
  | none => s
  | some _ => ((s.sliceOver d).bump (R.BIST_ABORT_CNT d) F.BIST_ABORT_CNT_COUNT 1).tally d.val 0xC2 1

/-- SLICE_ABANDON. -/
def execSliceAbandon (d : Fin 6) (s : State) : Out := .next (s.abandon d)

/-- A request to a target's block abandons the slice of it that runs. -/
def State.serve (s : State) (d : Fin 6) (hits : Nat → Bool) : State :=
  match (s.bist[d]).run with
  | none => s
  | some (t, _, _) => if hits t then s.abandon d else s

/-! Verdicts (R557, R559, R561) -/

/-- A target's hold is set or cleared. -/
def State.setHold (s : State) (d : Fin 6) (t : Nat) (b : Bool) : State :=
  let v := s.rdPair (R.BIST_HOLD_LO d) (R.BIST_HOLD_HI d)
  s.wrPair (R.BIST_HOLD_LO d) (R.BIST_HOLD_HI d) (if bitOf v t == b then v else if b then v + 2 ^ t else v - 2 ^ t)

/-- The safe state of a failed target (R559, R560). -/
def State.safeOf (s : State) (d : Fin 6) (t seg : Nat) : State :=
  if t < 0x0C ∨ (0x14 ≤ t ∧ t < 0x18) then s.setRel ⟨groupAt d t % 24, by omega⟩ false
  else if t = 0x0D then s.setB (R.RAE_CTRL d) F.RAE_CTRL_EN false
  else if 0x18 ≤ t ∧ t < 0x1B then s.laneFail d.val (t - 0x18) seg
  else if 0x1D ≤ t ∧ t < 0x20 then
    let s := s.fenceLink d.val (t - 0x1D)
    if d = 0 then s.safeState else s
  else if 0x20 ≤ t then s.safeState
  else s

/-- BIST_FAILINFO.KIND of a failing result. -/
def SliceKind (r : SliceResult) : Nat := match r with | .pass => 0 | .compare => 0 | .ue => 1 | .signature => 2 | .prbs => 3

/-- A failed slice. -/
def State.sliceFail (s : State) (d : Fin 6) (t seg : Nat) (r : SliceResult) : State :=
  let lane := decide (0x18 ≤ t ∧ t < 0x1B)
  let s := s.wr (R.BIST_FAILINFO d) (BitVec.ofNat 32 (t + 256 * seg + 65536 * SliceKind r))
  let s := s.raise (R.BIST_CAUSE d) (if lane then F.BIST_CAUSE_LANE else F.BIST_CAUSE_FAIL)
  let s := if lane then s else s.setHold d t true
  let s := (s.setBist d { s.bist[d] with retest := none }).setB (R.BIST_STAT d) F.BIST_STAT_RETEST false
  s.safeOf d t seg

/-- A slice that passes: the target's next segment; the last one ends a retest's pass. -/
def State.slicePass (s : State) (d : Fin 6) (t : Nat) : State :=
  let b := s.bist[d]
  let n := max 1 (s.segments d t).length
  let i := Sparse.get (fun _ => 0) b.segs t % n + 1
  let s := (s.bump (R.BIST_SLICE_CNT d) F.BIST_SLICE_CNT_COUNT 1).tally d.val 0xC1 1
  let s := s.setBist d { b with segs := Sparse.put (fun _ => 0) b.segs t (i % n) }
  if b.retest = some t ∧ i = n then
    let s := (s.setBist d { s.bist[d] with retest := none }).setB (R.BIST_STAT d) F.BIST_STAT_RETEST false
    (s.setHold d t false).raise (R.BIST_CAUSE d) F.BIST_CAUSE_RTDONE
  else s

/-- SLICE_END: the slice ends with a result and the words it corrected. A target that a service request has reached
meanwhile is abandoned. -/
def execSliceEnd (d : Fin 6) (r : SliceResult) (ces : Nat) (s : State) : Out :=
  match (s.bist[d]).run with
  | none => .next s
  | some (t, seg, _) =>
    if !s.eligible d t then .next (s.abandon d)
    else
      let s := s.sliceOver d
      let s := if ces = 0 then s else (s.bump (R.BIST_CE_CNT d) F.BIST_CE_CNT_COUNT ces).raise (R.BIST_CAUSE d) F.BIST_CAUSE_CE
      if r = .pass then .next (s.slicePass d t) else .next (s.sliceFail d t seg r)

/-- A write of BIST_CMD with RETEST (R561). -/
def State.retestCmd (s : State) (d : Fin 6) (t : Nat) : State :=
  let b := s.bist[d]
  if b.retest.isSome || !targetHere d t || decide (0x20 ≤ t) || (d == 0 && decide (0x1D ≤ t)) then
    s.raise (R.BIST_CAUSE d) F.BIST_CAUSE_CMDERR
  else (s.setBist d { b with retest := some t, segs := Sparse.put (fun _ => 0) b.segs t 0 }).raise (R.BIST_STAT d) F.BIST_STAT_RETEST

/-- RETEST. -/
def execRetest (d : Fin 6) (tgt : BitVec 6) (s : State) : Out := .next (s.retestCmd d tgt.toNat)

end Sys2Proof.Machine
end

