-- ==== Sys2Proof/Machine/Power.lean ====
section
/-! DEFINITION. Machine/Power.lean: power states, the reference, temperature, and the SMBus target
(19_reset_clocks_power_pins.md R591 to R612). -/
namespace Sys2Proof.Machine

/-! Power states (R596 to R601) -/

/-- PKG_PWR.STATE: 0 RUN, 1 PARK, 2 SLEEP. -/
def State.pstate19 (s : State) : Nat := s.fld R.PKG_PWR F.PKG_PWR_STATE
def State.setPower (s : State) (n : Nat) : State := s.setF R.PKG_PWR F.PKG_PWR_STATE n
def State.pwrErr (s : State) : State := s.raise R.PKG_EVT F.PKG_EVT_PWRERR

/-- PARK is accepted: every group released from its pins and none in a run (R597). -/
def State.parkOk (s : State) : Bool :=
  (List.range 24).all (fun g => !s.flag (R.CH_GCTRL g) F.CH_GCTRL_REL && !s.active g)

/-- A DMA channel rests: IDLE, DONE or ERROR. -/
def State.dmaRests (s : State) (d c : Nat) : Bool := [0, 4, 5].contains (s.fld (R.DMA_CH_STAT d c) F.DMA_CH_STAT_STATE)

/-- SLEEP is accepted (R598). -/
def State.sleepOk (s : State) : Bool :=
  s.pstate19 == 1 &&
  (List.range 6).all (fun d => (List.range 32).all (fun c => s.dmaRests d c)) &&
  (List.range 24).all (fun m => s.fld (R.MDSP_STAT m) F.MDSP_STAT_STATE == 0 || s.fld (R.MDSP_STAT m) F.MDSP_STAT_STATE == 3) &&
  !s.loadBusy && s.dbgState != 3

/-- SLEEP entry (R598): scrub passes end, the thermos is filled, the ports enter self-refresh, tether ports go down. -/
def State.enterSleep (s : State) : State :=
  let s := forEach (List.finRange 6) (fun d s => s.monSync d) s
  let s := forEach (List.finRange 6) (fun d s => if s.scrub[d].isSome then s.scrDone d true else s) s
  let s := s.fillThermos
  let s := forEach (List.range 24) (fun q s =>
    if s.mstate q = 2 then (s.setF (R.MEMP_STAT q) F.MEMP_STAT_OWED 0).setF (R.MEMP_STAT q) F.MEMP_STAT_STATE 3 else s) s
  let s := forEach (List.finRange 12) (fun p s => (s.portDown p.val).modPort p (fun x => { x with outq := [] })) s
  let s := s.showTree.setPower 2
  { s with power := { s.power with slept := some s.now } }

/-- Ports of the tether that train again (08 R279). -/
def State.retrainPorts (s : State) : State :=
  forEach (List.finRange 12) (fun p s =>
    if s.flag (R.TSY_PORT_CTRL p) F.TSY_PORT_CTRL_EN && (s.treePort p.val || p.val == 11) then s.portTo p 1 else s) s

/-- A port leaves SLEEP. -/
def State.wakeMem (s : State) (q : Fin 24) : State :=
  if s.mstate q.val = 3 then
    let s := s.setF (R.MEMP_STAT q.val) F.MEMP_STAT_STATE 2
    let x := s.p q
    s.setP q { x with rh := [], throttled := [], win := s.now / s.rhLen q }
  else s

/-- A worker measures its alignment anew (08 R289). -/
def State.remeasure (s : State) : State :=
  let x := s.tsy
  if s.role == 2 then { s with tsy := { x with measure := true } } else s

/-- Counting goes on from now. -/
def State.monGo (s : State) (d : Fin 6) : State :=
  let x := s.mon[d]
  s.setMon d { x with sync := s.now }

/-- A wake (R599): the vault stages are reloaded, the ports leave self-refresh with fresh activation counts (12 R432),
counters go on, a snapshot whose time has passed is taken (R600). `therm` lists thermos entries that fail. -/
def State.wake (s : State) (st : Nat) (therm : List Nat) : State :=
  let s := forEach (List.finRange 6) (fun d s =>
    match (s.mon[d]).snap with
    | some t => if t * ns ≤ s.now then s.takeSnap d else s
    | none => s) s
  let s := { s with power := { s.power with slept := none } }
  let s := (forEach (List.finRange 6) (fun d s => s.monGo d) s).setPower st
  let s := (forEach (List.finRange 24) (fun q s => s.wakeMem q) s).retrainPorts.remeasure
  s.emptyThermos therm

/-- A power request, R597 to R601; 3 is ignored. In an integrity halt it is refused (R615). -/
def State.pwrReq (s : State) (req : Nat) (therm : List Nat) : State :=
  if s.haltReq then s.pwrErr
  else
    match req, s.pstate19 with
    | 0, 1 => s.setPower 0
    | 0, 2 => s.wake 0 therm
    | 1, 0 => if s.parkOk then s.setPower 1 else s.pwrErr
    | 1, 2 => s.wake 1 therm
    | 2, _ => if s.sleepOk then s.enterSleep else s.pwrErr
    | 3, _ => s
    | _, _ => s.pwrErr

/-- In SLEEP only PCI Express and the debug bus master reach the package blocks from outside (R599). -/
def State.pwrFrom (s : State) (src : BitVec 10) : Bool :=
  s.pstate19 != 2 || srcLocal src.toNat == 0x60 || srcLocal src.toNat == 0x62

/-- A request as a write of PKG_PWR.REQ. -/
def State.pwrWrite (s : State) (src : BitVec 10) (req : Nat) (therm : List Nat) : State :=
  if s.haltReq then s.pwrErr.answer .errDenied []
  else if s.pwrFrom src then (s.pwrReq req therm).answer .ok [] else s

/-- PWR_REQ_PARK, PWR_REQ_RUN, PWR_REQ_SLEEP. -/
def execPwrReqPark (src : BitVec 10) (s : State) : Out := .next (s.pwrWrite src 1 [])
def execPwrReqRun (src : BitVec 10) (therm : List Nat) (s : State) : Out := .next (s.pwrWrite src 0 therm)
def execPwrReqSleep (src : BitVec 10) (s : State) : Out := .next (s.pwrWrite src 2 [])

/-- WAKE_PT: package time reaches PKG_WAKE_PT in SLEEP with WAKEPT (R599); the device reaches PARK. -/
def execWakePt (therm : List Nat) (s : State) : Out :=
  if s.pstate19 = 2 ∧ s.flag R.PKG_PWR F.PKG_PWR_WAKEPT then
    .next ((s.at_ (s.rdPair R.PKG_WAKE_PT_LO R.PKG_WAKE_PT_HI * ns)).wake 1 therm)
  else .next s

/-! The reference (R591 to R593) -/

/-- Holdover (R592). -/
def State.holdover (s : State) : State :=
  let s := ((s.setB R.PKG_REF F.PKG_REF_LOCKED false).raise R.PKG_REF F.PKG_REF_HOLD).raise R.PT_STAT F.PT_STAT_HOLD
  s.raise R.PKG_EVT F.PKG_EVT_CLKLOSS

/-- An active upstream port is UP: there is a recovered clock (R591; 08 R287). -/
def State.recovered (s : State) : Bool := (List.range 11).any (fun p => s.activeUp p && s.pstate p == 3)

/-- PKG_REF.SRC follows TSY_CTRL.REFSRC. After a change the cleaner is not locked until it has locked to the new input (REF_RETURN);
without a recovered clock to take it holds over (R593). -/
def State.showRef (s : State) : State :=
  let rec_ := s.flag R.TSY_CTRL F.TSY_CTRL_REFSRC
  if rec_ = s.flag R.PKG_REF F.PKG_REF_SRC then s
  else
    let s := (s.setB R.PKG_REF F.PKG_REF_SRC rec_).setB R.PKG_REF F.PKG_REF_LOCKED false
    if rec_ && !s.recovered then s.holdover else s

/-- REF_LOSS: holdover. -/
def execRefLoss (s : State) : Out :=
  let s := if s.flag R.PKG_REF F.PKG_REF_SRC then s else s.setB R.PKG_REF F.PKG_REF_REFOK false
  .next s.holdover

/-- REF_RETURN: the cleaner locks to its input again; with REFSRC = 1 and no active upstream port holdover stays (R593). -/
def execRefReturn (s : State) : Out :=
  let rec_ := s.flag R.TSY_CTRL F.TSY_CTRL_REFSRC
  if rec_ && !s.recovered then .next s
  else
    let s := if rec_ then s else s.raise R.PKG_REF F.PKG_REF_REFOK
    .next (((s.raise R.PKG_REF F.PKG_REF_LOCKED).setB R.PKG_REF F.PKG_REF_HOLD false).setB R.PT_STAT F.PT_STAT_HOLD false)

/-! Pins in reset (R583) -/

/-- A die is in a reset scope: power-on or device reset, or its die reset. -/
def State.dieInReset (s : State) (d : Nat) : Bool := s.inReset || s.dieDown.toList.getD d true

/-- The levels of DONE and INIT_B: low in reset (R583), else as CFG_STAT of die 0 has them. -/
def State.donePin (s : State) : Bool := !s.inReset && s.flag (R.CFG_STAT 0) F.CFG_STAT_DONE
def State.initPin (s : State) : Bool := !s.inReset && s.flag (R.CFG_STAT 0) F.CFG_STAT_INITB

/-- RESET_B of the SGRAM at G6 port q is low. -/
def State.g6ResetLow (s : State) (q : Nat) : Bool := s.dieInReset (q / 4)

/-- The TX lanes of tether port q are at electrical idle: in reset, with the port DOWN, and in a loop-back slice of it (17 R552). -/
def State.txIdle (s : State) (q : Nat) : Bool :=
  s.dieInReset (q / 2) || s.pstate q == 0 ||
  match (s.bist.toList[q / 2]?).bind (fun b => b.run) with
  | some (t, _, _) => t == 0x1B + q % 2
  | none => false

/-- TDO is high-Z and XSPI_CS_B is high. -/
def State.portPinsOff (s : State) : Bool := s.inReset

/-! Temperature (R605, R616) -/

/-- A reading of the hottest sensor of a die; MAX keeps the highest. -/
def State.sense (s : State) (d : Fin 6) (t : BitVec 11) : State :=
  let s := s.setF (R.DCR_TEMP d) F.DCR_TEMP_NOW t.toNat
  if signedOf 11 (s.fld (R.DCR_TEMP d) F.DCR_TEMP_MAX) < signedOf 11 t.toNat then s.setF (R.DCR_TEMP d) F.DCR_TEMP_MAX t.toNat else s

/-- CLRMAX: MAX becomes NOW. -/
def State.clrMax (s : State) (d : Fin 6) : State :=
  s.setF (R.DCR_TEMP d) F.DCR_TEMP_MAX (s.fld (R.DCR_TEMP d) F.DCR_TEMP_NOW)
def execClrmax (d : Fin 6) (s : State) : Out := .next (s.clrMax d)

/-- TWARN: a reading that reaches the warning limit sets DCR_EVT.TWARN. -/
def execTwarn (d : Fin 6) (t : BitVec 11) (s : State) : Out :=
  let s := s.sense d t
  .next (if signedOf 11 (s.fld (R.DCR_TWARN d) F.DCR_TWARN_LIMIT) ≤ signedOf 11 t.toNat then s.raise (R.DCR_EVT d) F.DCR_EVT_TWARN else s)

/-- THERMAL_TRIP: a die reaches 160 C: the device safe state, then device reset held with the cause THERMAL. -/
def execThermalTrip (d : Fin 6) (t : BitVec 11) (s : State) : Out :=
  if 640 ≤ signedOf 11 t.toNat then
    let s := (s.sense d t).safeState.afterReset 6
    .next { s with power := { s.power with hot := true } }
  else .next (s.sense d t)

/-- THERMAL_RECOVER: every die reads below 140 C. -/
def execThermalRecover (temps : List (BitVec 11)) (bist : List Nat) (s : State) : Out :=
  if s.power.hot && temps.all (fun t => decide (signedOf 11 t.toNat < 560)) then
    let s := forEach (List.finRange 6) (fun d s => s.sense d (nth temps d.val 0)) s
    .next (({ s with power := { s.power with hot := false } }).startUp bist)
  else .next s

/-! The SMBus target (R611, R612). It answers in every power state and during device reset. -/

/-- A word answered. -/
def State.smb (s : State) (w : Nat) : State := if s.power.porLow then s else s.answer .ok (leBytes 2 w)

/-- STATUS. -/
def State.smbStatus (s : State) : Nat :=
  b2n (s.flag (R.CFG_STAT 0) F.CFG_STAT_DONE) + 2 * b2n (s.flag (R.CFG_STAT 0) F.CFG_STAT_INITB) +
  4 * b2n (s.flag R.PKG_RSTCAUSE F.PKG_RSTCAUSE_BISTFAIL) + 8 * s.fld R.PKG_RSTCAUSE F.PKG_RSTCAUSE_DIE +
  64 * s.pstate19 + 256 * b2n (s.flag R.PKG_REF F.PKG_REF_HOLD) + 512 * b2n (!s.flag R.PKG_REF F.PKG_REF_REFOK) +
  1024 * b2n ((List.range 6).any (fun d => s.flag (R.DCR_EVT d) F.DCR_EVT_TWARN)) + 2048 * b2n s.power.hot +
  4096 * b2n s.power.safe + 8192 * b2n s.haltReq

/-- SMB_STATUS. -/
def execSmbStatus (s : State) : Out := .next (s.smb s.smbStatus)

/-- A temperature as SMBus gives it: 16 bits, signed. -/
def temp16 (t : Nat) : Nat := unsignedOf 16 (signedOf 11 t)

/-- TEMP_MAX: the hottest die that can be read. -/
def execTempMax (s : State) : Out :=
  let ts := ((List.range 6).filter (fun d => !s.cut d)).map (fun d => signedOf 11 (s.fld (R.DCR_TEMP d) F.DCR_TEMP_NOW))
  .next (s.smb (unsignedOf 16 (ts.foldl max (ts.headD 0))))

/-- TEMP_DIE: a reading of one die's sensors; 0x8000 while the die is isolated. -/
def execTempDie (d : Fin 6) (t : BitVec 11) (s : State) : Out :=
  .next (if s.cut d.val then s.smb 0x8000 else (s.sense d t).smb (temp16 t.toNat))

/-- Codes of RAIL (R603). -/
def railCode (c : Nat) : Bool := decide ((0x10 ≤ c ∧ c ≤ 0x1A) ∨ (0x40 ≤ c ∧ c ≤ 0x57))

/-- RAIL: the voltage at the balls, in mV; another code is answered with a NACK. -/
def execRail (code : BitVec 8) (mv : BitVec 16) (s : State) : Out :=
  .next (if railCode code.toNat then s.smb mv.toNat else { s with reply := ⟨none, []⟩ })

/-- POWER: in units of 0.1 W. -/
def execPower (dw : BitVec 16) (s : State) : Out := .next (s.smb dw.toNat)

/-- RSTCAUSE: bits 7:0 of PKG_RSTCAUSE. -/
def execRstcause (s : State) : Out :=
  .next (if s.power.porLow then s else s.answer .ok (leBytes 1 (s.rd R.PKG_RSTCAUSE).toNat))

/-- SMB_PWR_REQ: as a write of PKG_PWR.REQ; a write whose PEC fails is not performed. -/
def execSmbPwrReq (v : BitVec 8) (pec : Bool) (therm : List Nat) (s : State) : Out :=
  .next (if pec && decide (v.toNat < 3) && !s.inReset then s.pwrReq v.toNat therm else s)

/-- ADDRESS_RESOLUTION_PROTOCOL: after the fuse sense the target answers with its UDID, of which the spec gives SERIAL,
and takes the address assigned. -/
def execAddressResolutionProtocol (assign : Option (BitVec 7)) (s : State) : Out :=
  if s.power.up || s.flag R.PKG_RSTCAUSE F.PKG_RSTCAUSE_BISTFAIL then
    let s := s.answer .ok (leBytes 8 (s.rdPair R.KPR_SERIAL_LO R.KPR_SERIAL_HI))
    match assign with
    | none => .next s
    | some a => .next { s with power := { s.power with smb := a } }
  else .next { s with reply := ⟨none, []⟩ }

end Sys2Proof.Machine
end

