-- ==== Sys2Proof/Machine/RegRead.lean ====
section
/-! DEFINITION. Machine/RegRead.lean: what a read of a register returns and does (00_scope.md R11; 20_register_map.md R621). -/
namespace Sys2Proof.Machine

/-- The die, group, control core and G6 port of a place. -/
def BlkAt.d (b : BlkAt) : Fin 6 := ⟨b.die % 6, by omega⟩
def BlkAt.g (b : BlkAt) : Fin 24 := ⟨(4 * b.die + b.k) % 24, by omega⟩
def BlkAt.m (b : BlkAt) : Fin 12 := ⟨(2 * b.die + b.k) % 12, by omega⟩

/-- Registers that show those of die 0 on every die: the regions and the vaults (12 R422, 13 R451). -/
def BlkAt.ofDie0 (b : BlkAt) : Bool :=
  (b.blk == .vlt && decide (8 ≤ b.off)) || (b.blk == .prom && decide (0x100 ≤ b.off ∧ b.off < 0x200))

/-- The register that an address of dies 1 to 5 shows, if it is one of die 0. -/
def homeAddr (b : BlkAt) (a : Nat) : Nat := if b.ofDie0 then a - b.die * 0x100000000 else a

/-- The offsets of the registers that a read of the register at an offset latches. -/
def latchedBy (k : Blk) (off : Nat) : List Nat :=
  match k with
  | .vsq => if off = 0x90 then [0x94] else if off = 0x20028 then [0x2002C] else []
  | .pt => if off = 0 then [4, 8] else []
  | .led => if 0x40 ≤ off ∧ off < 0x60 ∧ off % 8 = 0 then [off + 4] else []
  | .memp => if off = 0x30 then [0x34] else []
  | .vlt =>
    if off = 8 then [0xC]
    else if 0x1000 ≤ off ∧ ((off - 0x1000) % 0x40 = 0x14 ∨ (off - 0x1000) % 0x40 = 0x1C ∨ (off - 0x1000) % 0x40 = 0x24) then [off + 4]
    else []
  | .dma => if off = 0x20 then [0x24, 0x28, 0x2C, 0x30] else []
  | .cc => if off = 8 ∨ off = 0x10 then [off + 4] else []
  | .mon => if (0x40 ≤ off ∧ off < 0x140 ∨ off = 0x150) ∧ off % 8 = 0 then [off + 4] else []
  | _ => []

/-- A register reads its latch. -/
def isLatched (k : Blk) (off : Nat) : Bool :=
  match k with
  | .vsq => off == 0x94 || off == 0x2002C
  | .pt => off == 4 || off == 8
  | .led => decide (0x40 ≤ off ∧ off < 0x60 ∧ off % 8 = 4)
  | .memp => off == 0x34
  | .vlt => off == 0xC || (decide (0x1000 ≤ off) && [0x18, 0x20, 0x28].contains ((off - 0x1000) % 0x40))
  | .dma => off == 0x24 || off == 0x28 || off == 0x2C || off == 0x30
  | .cc => off == 0xC || off == 0x14
  | .mon => decide ((0x40 ≤ off ∧ off < 0x140 ∨ off = 0x154) ∧ off % 8 = 4)
  | _ => false

def State.setLatch (s : State) (a : Nat) (v : Word) : State := { s with latch := Sparse.put resetOf s.latch a v }

/-- The counter that a register of the FCU or FCD shows, and whether it is its flag word (05 R163, R166). -/
def counterOf (b : BlkAt) (ix : List Nat) : Option (CounterRef × Bool) :=
  let i := ix.headD 0
  if b.blk = .fcu then
    if 0x1000 ≤ b.off then some (.group b.g ⟨i % 33, by omega⟩, b.off % 8 == 4) else none
  else if b.blk = .fcd then
    if b.off = 0x50 ∨ b.off = 0x54 then some (.die b.d, b.off == 0x54)
    else if b.off = 0x58 ∨ b.off = 0x5C then some (.device, b.off == 0x5C)
    else if 0x2000 ≤ b.off then some (.siteTotal ⟨i % 256, by omega⟩, b.off % 8 == 4)
    else if 0x1000 ≤ b.off then some (.site b.d ⟨i % 256, by omega⟩, b.off % 8 == 4)
    else none
  else none

/-- Registers that time alone changes are brought up to date. -/
def State.regSync (s : State) (b : BlkAt) : State :=
  if b.blk = .mon then s.monSync b.d
  else if b.blk = .mdsp then s.mdSettle b.g
  else if b.blk = .vsq ∧ 0x20024 ≤ b.off ∧ b.off ≤ 0x2002C then (s.stampsTo b.g s.now).showStamps b.g
  else s

/-- The bits of BIST_TEN whose targets the die has (17 R551). -/
def tenMask (d : Fin 6) : Nat := bitsNat ((List.range 64).map (fun t => decide (t < 34) && targetHere d t))

/-- A register's current bits. -/
def State.regNow (s : State) (b : BlkAt) (ix : List Nat) (a : Nat) : Word :=
  let i := ix.headD 0
  match b.blk with
  | .vsq =>
    let v := (s.g b.g).vcnt
    let h := ((s.g b.g).stampQ.headD 0).toNat
    if b.off = 0x90 then BitVec.ofNat 32 v
    else if b.off = 0x94 then BitVec.ofNat 32 (v / 4294967296 % 16777216)
    else if b.off = 0xA4 then ((s.g b.g).ufAt s.now).setWidth 32
    else if b.off = 0x20028 then BitVec.ofNat 32 h
    else if b.off = 0x2002C then BitVec.ofNat 32 (h / 4294967296)
    else s.rd a
  | .dma =>
    let c : Fin 32 := ⟨i % 32, by omega⟩
    if 0x1000 ≤ b.off ∧ b.off % 0x20 = 8 ∧ s.dmaBusy b.d c then BitVec.ofNat 32 (s.dm b.d c).descAt
    else if 0x1000 ≤ b.off ∧ b.off % 0x20 = 0xC ∧ s.dmaBusy b.d c then BitVec.ofNat 32 ((s.dm b.d c).descAt / 4294967296)
    else s.rd a
  | .mon =>
    let c := (s.mon[b.d]).cnt.toList.getD (i % 16) 0
    if 0x40 ≤ b.off ∧ b.off < 0xC0 then BitVec.ofNat 32 (if b.off % 8 = 0 then c else c / 4294967296)
    else if b.off = 0x144 then s.monOvf b.d
    else if b.off = 0x148 then s.monCause b.d
    else s.rd a
  | .rae =>
    let c := s.c b.d
    if b.off = 8 then
      F.RAE_STAT_BUSY.set (F.RAE_STAT_CUTWAIT.set (F.RAE_STAT_CQ.set (s.rd a) (c.cmdQ.length + b2n c.cmdRun.isSome)) (b2n !c.cmdQ.isEmpty))
        (b2n c.cmdRun.isSome)
    else s.rd a
  | .int => if b.off = 0 then s.dis b.d else s.rd a
  | .gis => if b.off = 0 then s.gis else s.rd a
  | .pt =>
    if b.off = 0 then BitVec.ofNat 32 s.ptime
    else if b.off = 4 then BitVec.ofNat 32 (s.ptime / 4294967296)
    else if b.off = 8 then BitVec.ofNat 32 (s.now % ns)
    else F.PT_STAT_ALIGNED.set (s.rd a) (b2n s.aligned)
  | .kpr => if b.off = 0x10 then F.KPR_STAT_LOCKOUT.set (s.rd a) (b2n s.lockedOut) else s.rd a
  | .bist =>
    if b.off = 0x14 then s.rd a &&& BitVec.ofNat 32 (tenMask b.d)
    else if b.off = 0x18 then s.rd a &&& BitVec.ofNat 32 (tenMask b.d / 4294967296)
    else s.rd a
  | _ => s.rd a

/-- The registers of a list of offsets of the block are latched with their current bits. -/
def State.latchAll (s : State) (b : BlkAt) (a : Nat) (offs : List Nat) : State :=
  forEach offs (fun o s =>
    let a' := a - b.off + o
    match regAt a' with
    | some (b', _, ix) => s.setLatch a' (s.regNow b' ix a')
    | none => s) s

/-- The uncorrectable words a counter read finds, from what the check bits make of the words it touches: one, those of a die's
or the device's group counters by group number, those of a site's partials by die number (05 R167). -/
def badWords (r : CounterRef) (ups : List Ecc) : List Nat :=
  let bad (k : Nat) : Bool := nth ups k .clean == .ue
  match r with
  | .group _ i => if bad 0 then [i.val] else []
  | .site _ _ => if bad 0 then [0] else []
  | .siteTotal _ => (List.range 6).filter bad
  | _ => (List.range 24).filter bad

/-- A read of the register at address a: its value and what the read does. Without the DEBUG attribute a LO read
latches, a HI read returns the latch, a read of CH_STAMP_HI removes the record (04 R149) and a read of DBG_DRX empties it
(15 R517). -/
def State.readReg (s : State) (b : BlkAt) (ix : List Nat) (a : Nat) (dbg : Bool) (ups : List Ecc) : Word × State :=
  match counterOf b ix with
  | some (ref, flag) =>
    let r := s.counterRead ref flag (badWords ref ups)
    (BitVec.ofNat 32 r.1, r.2)
  | none =>
    let s := s.regSync b
    if dbg then (s.regNow b ix a, s)
    else if isLatched b.blk b.off then
      let v := Sparse.get resetOf s.latch a
      (v, if b.blk = .vsq ∧ b.off = 0x2002C then (s.modG b.g (fun x => { x with stampQ := x.stampQ.tail })).showStamps b.g else s)
    else
      let v := s.regNow b ix a
      let s := s.latchAll b a (latchedBy b.blk b.off)
      (v, if b.blk = .dbg ∧ b.off = 0x24 then s.drxTake b.m else s)

end Sys2Proof.Machine
end

