-- ==== Sys2Proof/Machine/RegWrite.lean ====
section
/-! DEFINITION. Machine/RegWrite.lean: what a write of a register does (00_scope.md R11): it stores its RW fields, clears
and sets W1C and W1S bits, and has the effect its chapter gives it. -/
namespace Sys2Proof.Machine

/-- The next state of a meaning. -/
def stOf (s : State) (o : Out) : State := match o with | .next t => t | _ => s

/-- The next state of a meaning that answers, with its response. -/
def ansOf (s : State) (o : Out) : Resp × State := let t := stOf s o; (t.reply.resp.getD .ok, t)

/-- The bits of a register of an access type. -/
def accMask (fs : List FieldRow) (k : Acc) : Word := fs.foldl (fun m f => if f.acc = k then m ||| f.fld.mask else m) 0#32

/-- A write that only stores, clears and sets (R11). -/
def State.plain (s : State) (r : RegRow) (a : Nat) (v : Word) : State :=
  let rw := accMask r.fields .rw
  let old := s.rd a
  s.wr a ((((old &&& ~~~rw) ||| (v &&& rw)) &&& ~~~(v &&& accMask r.fields .w1c)) ||| (v &&& accMask r.fields .w1s))

/-- A write that is ignored while a condition holds, with the CMDERR of its block. -/
def State.plainIf (s : State) (locked : Bool) (err : State → State) (r : RegRow) (a : Nat) (v : Word) : State :=
  if locked then err s else s.plain r a v

/-! Groups (02 R84, R89; 03 R116; 04 R123, R137, R140, R154) -/

/-- A write of VSQ_CTRL: ABORT acts alone (02 R84). -/
def State.vsqCtrl (s : State) (g : Fin 24) (v : Word) : State :=
  let mode := F.VSQ_CTRL_SMODE.get v
  let start := F.VSQ_CTRL_START.get v = 1
  if F.VSQ_CTRL_ABORT.get v = 1 then
    let s := s.setF (R.VSQ_CTRL g) F.VSQ_CTRL_SMODE mode
    let s := if start then s.vsqCmdErr g else s
    stOf s (execVsqAbort g s)
  else
    let s := if start then stOf s (execVsqStart g (BitVec.ofNat 2 mode) s) else s.setF (R.VSQ_CTRL g) F.VSQ_CTRL_SMODE mode
    if F.VSQ_CTRL_RESUME.get v = 1 then stOf s (execVsqResume g s) else s

/-- A deskew value outside -20,000 to 20,000 stores the nearer limit (04 R137). -/
def deskewClamp (x : Nat) : Nat :=
  let v := signedOf 16 x
  unsignedOf 16 (if 20000 < v then 20000 else if v < -20000 then -20000 else v)
def deskewWord (v : Word) : Word :=
  BitVec.ofNat 32 (deskewClamp (v.toNat % 65536) + 65536 * deskewClamp (v.toNat / 65536))

/-- A write of CH_GCTRL outside a run. -/
def State.chGctrl (s : State) (g : Fin 24) (v : Word) : State :=
  let s := (s.setF (R.CH_GCTRL g) F.CH_GCTRL_FDEN (F.CH_GCTRL_FDEN.get v)).setF (R.CH_GCTRL g) F.CH_GCTRL_TXSWING (F.CH_GCTRL_TXSWING.get v)
  stOf s (execGroupRelease g (F.CH_GCTRL_REL.get v == 1) s)

/-- A write in the registers of a group's VSQ window. -/
def State.writeVsq (s : State) (b : BlkAt) (r : RegRow) (a : Nat) (v : Word) : State :=
  let g := b.g
  let o := b.off
  let err (s : State) : State := s.vsqCmdErr g
  let busy := s.vstat g == 1 || s.vstat g == 2
  if o = 0 then s.vsqCtrl g v
  else if o = 0xC8 then
    if F.VSQ_SCTRL_ARM.get v = 1 ∧ F.VSQ_SCTRL_DISARM.get v = 1 then err s
    else if F.VSQ_SCTRL_ARM.get v = 1 then stOf s (execSctrlArm g s)
    else if F.VSQ_SCTRL_DISARM.get v = 1 then stOf s (execSctrlDisarm g s) else s
  else if o = 0xC ∨ o = 0x18 ∨ (0x20 ≤ o ∧ o < 0x90) ∨ (0xB0 ≤ o ∧ o < 0xC8) then s.plainIf busy err r a v
  else if o < 0x10000 then s.plain r a v
  else if o = 0x10004 then s.plain r a v
  else if o < 0x20000 then s.plainIf (s.active g) err r a v
  else if o = 0x20000 then if s.active g then err s else s.chGctrl g v
  else if o = 0x20008 then if F.CH_CAL_TRIM.get v = 1 then stOf s (execCalTrim g s) else s
  else if o = 0x20020 then
    let s := s.plain r a v
    if F.CH_STCTRL_FLUSH.get v = 1 then stOf s (execStampFlush g s) else s
  else if o < 0x21000 then s.plain r a v
  else if 0x22000 ≤ o ∧ o < 0x40000 ∧ (o % 0x40 = 0x14 ∨ o % 0x40 = 0x18) then s.plainIf (s.active g) err r a (deskewWord v)
  else s.plainIf (s.active g) err r a v

/-! FCU, FCD, RAE, MDSP (05 R162, R169, R191, R192; 06 R220; 07 R226, R258; 17 R559) -/

def State.writeFcu (s : State) (b : BlkAt) (r : RegRow) (a : Nat) (v : Word) : State :=
  let g := b.g
  let o := b.off
  let locked := o = 0 ∨ o = 4 ∨ o = 0x14 ∨ o = 0x18 ∨ (0x20 ≤ o ∧ o < 0x38) ∨ (0x100 ≤ o ∧ o < 0x180)
  if locked ∧ s.active g then s.vsqCmdErr g
  else if o = 4 then
    let s := if F.FCU_CMD_CLRCNT.get v = 1 then stOf s (execClrcnt g s) else s
    let s := if F.FCU_CMD_LRESET.get v = 1 then stOf s (execLreset g s) else s
    if F.FCU_CMD_CRESET.get v = 1 then stOf s (execCreset g s) else s
  else if o = 0x30 ∨ o = 0x44 then (s.plain r a v).updLfull g
  else s.plain r a v

/-- A group that feeds a plane is in a run. -/
def State.planeFed (s : State) (d : Fin 6) (n : Nat) : Bool :=
  (groupsOf d).any (fun g => s.active g && s.flag (R.FCU_CTRL g) F.FCU_CTRL_BEN && s.fld (R.FCU_CTRL g) F.FCU_CTRL_BPLANE == n)

def State.writeFcd (s : State) (b : BlkAt) (r : RegRow) (ix : List Nat) (a : Nat) (v : Word) : State :=
  let d := b.d
  let i := ix.headD 0
  if b.off = 0 then
    let s := if F.FCD_CMD_CLRSMASK.get v = 1 then stOf s (execClrsmask d s) else s
    let s := if F.FCD_CMD_CLRSITE.get v = 1 then stOf s (execClrsite d s) else s
    let s := if F.FCD_CMD_BMFLUSH.get v = 1 then stOf s (execBmflush d s) else s
    let p := F.FCD_CMD_BMCLR.get v
    if p = 0 then s else stOf s (execBmclr d (BitVec.ofNat 4 p) s)
  else if 0x10 ≤ b.off ∧ b.off < 0x30 then stOf s (execFcdSmaskWrite d ⟨i % 8, by omega⟩ v s)
  else if r.off = 0x108 then s.plainIf (s.planeFed d i) (fun s => s.fcdCmdErr d) r a v
  else s.plain r a v

/-- The RAE's tables are locked (R220). -/
def State.raeLocked (s : State) (d : Fin 6) : Bool :=
  s.flag (R.RAE_CTRL d) F.RAE_CTRL_EN || (s.c d).cmdRun.isSome || !(s.c d).cmdQ.isEmpty

def State.writeRae (s : State) (b : BlkAt) (r : RegRow) (a : Nat) (v : Word) : State :=
  let d := b.d
  let o := b.off
  if o = 0 then
    if F.RAE_CTRL_EN.get v = 1 ∧ s.bistHeld d 0x0D then (s.plain r a (F.RAE_CTRL_EN.set v 0)).raeCmdErr d else s.plain r a v
  else if o = 4 then s.raeParam d (v.toNat % 65536) (s.now - 20 * ns)
  else if o = 0x50 then (s.plainIf (s.raeLocked d) (fun s => s.raeCmdErr d) r a v).updRfull d
  else if o = 0x58 then (s.plain r a v).updRfull d
  else if (0x40 ≤ o ∧ o < 0x54) ∨ 0x100 ≤ o then s.plainIf (s.raeLocked d) (fun s => s.raeCmdErr d) r a v
  else s.plain r a v

def State.writeMdsp (s : State) (b : BlkAt) (r : RegRow) (ix : List Nat) (a : Nat) (v : Word) : State :=
  let m := b.g
  let busy := s.mdState m == 1 || s.mdState m == 2
  if b.off = 0 then
    let s := if F.MDSP_CTRL_STOP.get v = 1 then stOf s (execMdspStop m s) else s
    if F.MDSP_CTRL_START.get v = 1 then stOf s (execMdspStart m s) else s
  else if b.off = 8 then s.plainIf busy (fun s => s.raise (R.MDSP_CAUSE m) F.MDSP_CAUSE_CMDERR) r a v
  else if b.off = 0x24 then s.eventAt m (F.MDSP_EVSET_EVENT.get v)
  else if 0x100 ≤ b.off then s.mwrite m (ix.headD 0) (v.toNat % 65536)
  else s.plain r a v

/-! G6 ports, vaults, promenade, DMA (12 R423, R442, R449; 13 R473; 14 R483, R484) -/

def State.writeMemp (s : State) (b : BlkAt) (r : RegRow) (a : Nat) (v : Word) : State :=
  let q := b.g
  if b.off = 0 then
    let keep := s.rd a
    let open_ := s.mstate q == 0 || s.mstate q == 4
    let v' := if open_ then v else
      F.MEMP_CTRL_POSTPONE.set keep (F.MEMP_CTRL_POSTPONE.get v)
    let s := s.plain r a v'
    let s := if F.MEMP_CTRL_INIT.get v = 1 then stOf s (execMempInit q s) else s
    if F.MEMP_CTRL_ZERO.get v = 1 then stOf s (execMempZero q s) else s
  else if b.off = 0x10 then s.plainIf (s.flag (R.MEMP_RH_CTRL q) F.MEMP_RH_CTRL_EN) id r a v
  else s.plain r a v

def State.writeVlt (s : State) (b : BlkAt) (r : RegRow) (ix : List Nat) (a : Nat) (v : Word) : State :=
  if b.off < 8 then s.plain r a v
  else if b.die ≠ 0 ∨ b.off < 0x1000 then s
  else
    let n : Fin 64 := ⟨ix.headD 0 % 64, by omega⟩
    if r.off = 0x1000 then s.vaultCtrl n v
    else if r.off = 0x1024 ∨ r.off = 0x1028 ∨ r.off = 0x1004 then s
    else s.plainIf (s.vctrl n F.VLT_V_CTRL_EN == 1) (fun s => s.vltCause F.VLT_CAUSE_CMDERR) r a v

def State.writeProm (s : State) (b : BlkAt) (r : RegRow) (ix : List Nat) (a : Nat) (v : Word) : State :=
  let d := b.d
  if 0x100 ≤ b.off ∧ b.off < 0x200 then
    if b.die ≠ 0 then s
    else
      let n : Fin 16 := ⟨ix.headD 0 % 16, by omega⟩
      if r.off = 0x108 then stOf s (execRegionCtrlWrite n v s)
      else s.plainIf (s.region n).en (fun s => s.raise (R.PROM_CAUSE 0) F.PROM_CAUSE_CMDERR) r a v
  else if b.off = 0x200 then
    let s := s.plain r a v
    let s := if F.PROM_SCR_CTRL_GO.get v = 1 then stOf s (execPromScrGo d (F.PROM_SCR_CTRL_FIX.get v == 1) s) else s
    if F.PROM_SCR_CTRL_STOP.get v = 1 then stOf s (execPromScrStop d s) else s
  else s.plain r a v

def State.writeDma (s : State) (b : BlkAt) (r : RegRow) (ix : List Nat) (a : Nat) (v : Word) : State :=
  let c : Fin 32 := ⟨ix.headD 0 % 32, by omega⟩
  if r.off = 0x1000 then s.dmaCtrl b.d c v
  else if r.off = 0x1008 ∨ r.off = 0x100C then s.dmaDesc b.d c a v
  else s.plain r a v

/-! Seams, configuration, fabric (10 R359, R364; 11 R376, R400, R404, R408; 09 R317) -/

def State.writeSeam (s : State) (b : BlkAt) (r : RegRow) (a : Nat) (v : Word) : State :=
  let k : Fin 3 := ⟨b.k % 3, by omega⟩
  let s := if 0x100 ≤ b.off ∧ b.off < 0x160 then s.keepFvals b.die k ((b.off - 0x100) / 4) else s
  let s := s.plain r a v
  if b.off = 0 then
    let s := if F.SEAM_CTRL_FENCE.get v = 1 then stOf s (execSeamFence b.d k s) else s
    if F.SEAM_CTRL_RETRAIN.get v = 1 then stOf s (execSeamRetrain b.d k s) else s
  else s

/-- A write of CFG_CTRL: the commands it carries, in the order of its bits. -/
def State.cfgCtrl (s : State) (r : RegRow) (a : Nat) (v : Word) : State :=
  let s := s.plain r a v
  let on (f : Fld) (e : State → Out) (s : State) : State := if f.get v = 1 then stOf s (e s) else s
  on F.CFG_CTRL_ABORT execCfgAbort
    (on F.CFG_CTRL_DIELOAD (execDieload (BitVec.ofNat 3 (F.CFG_CTRL_DIE.get v)) (F.CFG_CTRL_DSRC.get v == 1))
      (on F.CFG_CTRL_PLOAD execPload (on F.CFG_CTRL_HOSTLOAD execHostload (on F.CFG_CTRL_RELOAD execReload s))))

def State.writeCfg (s : State) (b : BlkAt) (r : RegRow) (a : Nat) (v : Word) : Resp × State :=
  if b.off = 0 then (.ok, s.cfgCtrl r a v)
  else if b.off = 0x30 then
    let m : Fin 32 := ⟨F.CFG_MDCTRL_MEADOW.get v % 32, by omega⟩
    let s := s.plain r a v
    let s := if F.CFG_MDCTRL_FENCE.get v = 1 then stOf s (execMeadowFence b.d m s) else s
    (.ok, if F.CFG_MDCTRL_UNFENCE.get v = 1 then stOf s (execUnfence b.d m s) else s)
  else if b.off = 0x40 then
    let s := s.plain r a v
    (.ok, if F.CFG_SCRUB_CTRL_CLR.get v = 1 then stOf s (execScrubClr b.d s) else s)
  else if b.off = 0x60 then ansOf s (execRbaddrWrite b.d v s)
  else if 0x2000 ≤ b.off then ansOf s (execCfgDataWrite (leBytes 4 v.toNat) s)
  else (.ok, s.plain r a v)

def State.writeFab (s : State) (b : BlkAt) (r : RegRow) (ix : List Nat) (a : Nat) (v : Word) : State :=
  if r.off = 0x10 then
    let k : Fin 2 := ⟨ix.headD 0 % 2, by omega⟩
    let s := if s.flag a F.FAB_FCS_CTRL_EN then s else s.setF a F.FAB_FCS_CTRL_DIV (F.FAB_FCS_CTRL_DIV.get v)
    stOf s (execFcsEnable b.d k (F.FAB_FCS_CTRL_EN.get v == 1) s)
  else s.plain r a v

/-! Control cores and debug (15 R502 to R518), interrupts, monitors, self-test (17 R561; 18 R571, R575, R576) -/

def State.writeCc (s : State) (b : BlkAt) (r : RegRow) (a : Nat) (v : Word) : State :=
  match b.blk, b.off with
  | .cc, 0 => s.ccCtrl b.m v
  | .cc, 0x20 => s.wdtCtrl b.m v
  | .cc, 0x2C => s.wdtKick b.m v
  | .ccd, 0x1C => s.l2Ctrl b.d v
  | _, _ => s.plain r a v

def State.writeDbg (s : State) (b : BlkAt) (r : RegRow) (a : Nat) (v : Word) : State :=
  match b.off with
  | 0 => s.dbgCtrl b.m v
  | 8 => if s.ccState b.m = 2 then s.plain r a v else s
  | 0xC => if s.ccState b.m = 2 then s.plain r a v else s
  | 0x10 => s.dbgAcmd b.m v
  | 0x20 => s.dtxWrite b.m v
  | 0x24 => s.drxWrite b.m v
  | 0x28 => s.vtstat b.m v
  | _ => s.plain r a v

def State.writeMon (s : State) (b : BlkAt) (r : RegRow) (a : Nat) (v : Word) : State :=
  let d := b.d
  let s := s.monSync d
  if b.off = 0x140 then
    let s := s.monClr d (BitVec.ofNat 16 (F.MON_CMD_CLR.get v))
    let s := if F.MON_CMD_ARM.get v = 1 then s.monArm d else s
    if F.MON_CMD_DISARM.get v = 1 then s.monDisarm d else s
  else if b.off = 0x148 then
    let m := s.mon[d]
    let s := s.setMon d { m with ovf := m.ovf &&& ~~~(v.setWidth 16) }
    s.plain r a v
  else s.plain r a v

def State.writeBist (s : State) (b : BlkAt) (r : RegRow) (a : Nat) (v : Word) : State :=
  if b.off = 4 then if F.BIST_CMD_RETEST.get v = 1 then s.retestCmd b.d (F.BIST_CMD_TGT.get v) else s
  else s.plain r a v

def State.writeDcr (s : State) (b : BlkAt) (r : RegRow) (a : Nat) (v : Word) : State :=
  let s := s.plain r a v
  if b.off = 0xC ∧ F.DCR_TWARN_CLRMAX.get v = 1 then s.clrMax b.d else s

/-! Package blocks (16 R520; 08 R299; 19 R615) -/

def State.writeKpr (s : State) (b : BlkAt) (r : RegRow) (a : Nat) (v : Word) : State :=
  if b.off = 0 then s.mboxCmd (F.KPR_MBOX_CMD_CMD.get v) (F.KPR_MBOX_CMD_ARG.get v)
  else if 0x100 ≤ b.off then
    s.plainIf (s.flag R.KPR_MBOX_STAT F.KPR_MBOX_STAT_BUSY) (fun s => s.kprCause F.KPR_CAUSE_CMDERR) r a v
  else s.plain r a v

def State.writeTsy (s : State) (b : BlkAt) (r : RegRow) (ix : List Nat) (a : Nat) (v : Word) : State :=
  let i := ix.headD 0
  if b.off = 0 then (s.tsyCtrlWrite v).showRef
  else if b.off = 0x28 then
    if F.TSY_BCAST_CTRL_GO.get v = 1 then stOf s (execBcastGo (BitVec.ofNat 4 (F.TSY_BCAST_CTRL_CLASS.get v)) s) else s.plain r a v
  else if r.off = 0x100 then stOf s (execPortEnable ⟨i % 12, by omega⟩ (F.TSY_PORT_CTRL_EN.get v == 1) s)
  else if 0x300 ≤ b.off then s.plainIf (s.gangLocked i) id r a v
  else s.plain r a v

def State.writeLed (s : State) (b : BlkAt) (r : RegRow) (a : Nat) (v : Word) : State :=
  let en := s.flag R.LED_CTRL F.LED_CTRL_EN
  let o := b.off
  if o = 0 then
    let s := if en then (s.setF a F.LED_CTRL_EN (F.LED_CTRL_EN.get v)).setF a F.LED_CTRL_TKEN (F.LED_CTRL_TKEN.get v) else s.plain r a v
    if en ∧ F.LED_CTRL_EN.get v = 0 then s.setLed 0 else s
  else if o = 4 then stOf s (execLedCommit (BitVec.ofNat 9 (F.LED_COMMIT_COUNT.get v)) [] s)
  else if o = 0x14 ∨ (0x20 ≤ o ∧ o < 0x30) ∨ o = 0x40 ∨ o = 0x44 then s.plainIf en id r a v
  else s.plain r a v

/-- Writes of PKG_RST.DIEHOLD, die by die. -/
def State.dieHolds (s : State) (v : Word) : State :=
  forEach (List.finRange 6) (fun d s =>
    if d.val = 0 then s else stOf s (execDiehold d (bitOf (F.PKG_RST_DIEHOLD.get v) (d.val - 1)) false s)) s

def State.writePkg (s : State) (src : Nat) (b : BlkAt) (r : RegRow) (a : Nat) (v : Word) : Resp × State :=
  if b.off = 0 then
    let s := s.setF R.PKG_PWR F.PKG_PWR_WAKEPT (F.PKG_PWR_WAKEPT.get v)
    (.ok, if s.pwrFrom (BitVec.ofNat 10 src) then s.pwrReq (F.PKG_PWR_REQ.get v) [] else s)
  else if b.off = 0x10 then
    if F.PKG_RST_DEVICE.get v = 1 ∧ F.PKG_RST_KEY.get v = 0xA5 then (.ok, stOf s (execPkgRstDevice 0xA5 [] s))
    else (.ok, s.dieHolds v)
  else (.ok, s.plain r a v)

/-- A write of the register at address a: the response and the state. -/
def State.writeReg (s : State) (src : Nat) (b : BlkAt) (r : RegRow) (ix : List Nat) (a : Nat) (v : Word) : Resp × State :=
  match b.blk with
  | .vsq => (.ok, s.writeVsq b r a v)
  | .fcu => (.ok, s.writeFcu b r a v)
  | .fcd => (.ok, s.writeFcd b r ix a v)
  | .rae => (.ok, s.writeRae b r a v)
  | .mdsp => (.ok, s.writeMdsp b r ix a v)
  | .memp => (.ok, s.writeMemp b r a v)
  | .vlt => (.ok, s.writeVlt b r ix a v)
  | .dma => (.ok, s.writeDma b r ix a v)
  | .prom => (.ok, s.writeProm b r ix a v)
  | .seam => (.ok, s.writeSeam b r a v)
  | .cfg => s.writeCfg b r a v
  | .fab => (.ok, s.writeFab b r ix a v)
  | .cc => (.ok, s.writeCc b r a v)
  | .ccd => (.ok, s.writeCc b r a v)
  | .dbg => (.ok, s.writeDbg b r a v)
  | .mon => (.ok, s.writeMon b r a v)
  | .bist => (.ok, s.writeBist b r a v)
  | .dcr => (.ok, s.writeDcr b r a v)
  | .kpr => (.ok, s.writeKpr b r a v)
  | .tsy => (.ok, s.writeTsy b r ix a v)
  | .led => (.ok, s.writeLed b r a v)
  | .pkg => s.writePkg src b r a v
  | .gis => if b.off = 0xC then (.ok, s.eoi (F.MSIX_EOI_VEC.get v)) else (.ok, s.plain r a v)
  | .seamd => (.ok, s.plain r a v)
  | .dbgd => (.ok, (s.mdSettleDie b.die).plain r a v)
  | .int => (.ok, s.plain r a v)
  | .pcie => (.ok, s.plain r a v)
  | .pt => (.ok, s.plain r a v)

end Sys2Proof.Machine
end

