-- ==== Sys2Proof/Machine/Bus.lean ====
section
/-! DEFINITION. Machine/Bus.lean: one bus access: the address map, who is refused, and the response
(20_register_map.md R617 to R624; 12_memory_system.md R446). -/
namespace Sys2Proof

/-- What a bus access gives: its response (none while a fabric target side or another device has not answered), the bytes
read, the machine after it. -/
structure BusAns where
  resp : Option Resp
  data : List Nat
  st : Machine.State

end Sys2Proof
namespace Sys2Proof.Machine

/-! What an address names (R617 to R620, R623) -/

/-- Where an access goes. -/
inductive Place where
  | g6
  | iram (g : Fin 24) (off : Nat)
  | mdspMem (m : Fin 24) (off : Nat)
  | target (d : Fin 6) (p : Fin 16) (off : Nat)
  | reg
  | remote (dev off : Nat)
  | none_
deriving DecidableEq, Repr

/-- The place of an offset of a die window. -/
def diePlace (d x : Nat) : Place :=
  let d6 : Fin 6 := ⟨d % 6, by omega⟩
  if 0x80000000 ≤ x then .target d6 ⟨(x - 0x80000000) / 0x8000000 % 16, by omega⟩ (x % 0x8000000)
  else if x < 0x4000000 ∧ 0x800000 ≤ x % 0x1000000 then
    if x % 0x1000000 < 0xA00000 then .iram ⟨(4 * d + x / 0x1000000) % 24, by omega⟩ (x % 0x1000000 - 0x800000) else .none_
  else if 0x6000000 ≤ x ∧ x < 0x6400000 ∧ x % 0x100000 < 0xF0000 then
    if x % 0x100000 < 0xA0000 then .mdspMem ⟨(4 * d + (x - 0x6000000) / 0x100000) % 24, by omega⟩ (x % 0x100000) else .none_
  else .reg

/-- The place of an address. -/
def placeOf (a : Nat) : Place :=
  if a < 0x10000000000 then .g6
  else if 0x100000000000 ≤ a ∧ a < 0x100600000000 then diePlace ((a - 0x100000000000) / 0x100000000) (a % 0x100000000)
  else if 0x1FFF00000000 ≤ a ∧ a < 0x200000000000 then .reg
  else if 0x400000000000 ≤ a ∧ a < 0x800000000000 then .remote ((a - 0x400000000000) / 0x10000000000) (a % 0x10000000000)
  else .none_

/-- The bytes a write enables, as their first number and their count; `none` where they are not one run. -/
def runOf (mask size : Nat) : Option (Nat × Nat) :=
  let on := (List.range size).filter (bitOf mask)
  match on with
  | [] => none
  | k :: _ => if on.length = on.getLast! + 1 - k then some (k, on.length) else none

/-! Refusals -/

/-- After an integrity halt only register reads of PCI Express inbound and the debug bus master go on, and writes of
PKG_RST (13 R464, 19 R615). -/
def haltAllows (src a : Nat) (write : Bool) : Bool :=
  if write then a == R.PKG_RST else srcLocal src == 0x60 || srcLocal src == 0x62

/-- A register's block refuses the access (07 R226; 15 R510; 16 R519). -/
def State.regDenied (s : State) (src : Nat) (b : BlkAt) (write dbg : Bool) : Bool :=
  match b.blk with
  | .mdsp => decide (0x100 ≤ b.off) && (s.mdState b.g == 1 || s.mdState b.g == 2)
  | .dbg => write && !dbg && !(b.off == 0x20 || b.off == 0x24 || b.off == 0x28)
  | .dbgd => write && !dbg
  | .kpr => !s.keeperAllows src write
  | _ => false

/-- The die of a block cannot be reached, is in reset, or the device is (10 R365, 19 R600; notes/assumptions/31.md). -/
def State.blockAbsent (s : State) (src : Nat) (d : Nat) (package : Bool) : Bool :=
  !s.power.up || s.inReset || (s.unreachable (srcDie src) d && !(package && srcDie src == 0)) || s.dieDown.toList.getD d true ||
  (!package && s.power.slept.isSome)

/-- The targets of a self-test slice that a request to a block serves (17 R551, R558). -/
def serves (b : BlkAt) (write : Bool) (t : Nat) : Bool :=
  match b.blk with
  | .vsq => t == b.k || t == 4 + b.k || t == 0x14 + b.k
  | .fcu => t == 8 + b.k || t == 0x14 + b.k
  | .fcd => write && b.off == 0 && t == 0x0C
  | .rae => t == 0x0D
  | .mdsp => t == 0x10 + b.k
  | .kpr => write && t == 0x20
  | _ => false

/-- The upsets an access to a memory of a block meets, by granule. -/
def upsetsOf (envs : List G6Env) : List Ecc := envs.flatMap (fun e => e.ecc)

/-! Registers (R620) -/

/-- What is due before a write that clears bits: all that lies before the clock cycle, 1 ns, of the write; what falls in
the cycle itself sets its bit after the write has cleared it (00 R12). -/
def State.beforeWrite (s : State) (a : Nat) (write : Bool) : State :=
  match regAt a with
  | some (_, r, _) => if write ∧ accMask r.fields .w1c ≠ 0 then s.deliver (s.now / ns * ns - 1) else s.deliver s.now
  | none => s.deliver s.now

/-- One 4-byte access to the register at address a. -/
def State.regWord (s : State) (src a : Nat) (write : Bool) (v : Word) (dbg : Bool) (ups : List Ecc) : Resp × Word × State :=
  let s := s.beforeWrite a write
  match regAt a with
  | none => (.errDecode, 0, s)
  | some (b, r, ix) =>
    let package := decide (packageBase ≤ a)
    if s.blockAbsent src b.die package then (.errAbsent, 0, s)
    else if s.haltOn.toList.getD b.die false && !haltAllows src a write then
      (.errDenied, 0, if write ∧ a = R.PKG_PWR then s.pwrErr else s)
    else if s.regDenied src b write dbg then (.errDenied, 0, s)
    else
      let s := s.serve b.d (serves b write)
      if write then
        let n := s.writeReg src b r ix a v
        let t := n.2
        (n.1, 0, (t.deliver t.now).noteFalls)
      else
        let a' := homeAddr b a
        let n := s.readReg (if b.ofDie0 then { b with die := 0 } else b) ix a' dbg ups
        (.ok, n.1, n.2)

/-- An access of 4 or 8 aligned bytes; 8 bytes are two words, the lower first, as one step. `ups` is what the check bits make
of stored counters that a read touches, 24 for each word. -/
def State.regAccess (s : State) (src a size : Nat) (write : Bool) (data : List Nat) (dbg : Bool) (ups : List Ecc) : BusAns :=
  if (size = 4 ∨ size = 8) ∧ a % size = 0 then
    let word (i : Nat) : Word := BitVec.ofNat 32 (leOf ((data.drop (4 * i)).take 4))
    let x := s.regWord src a write (word 0) dbg ups
    if size = 4 then ⟨some x.1, if write ∨ x.1 ≠ .ok then [] else leBytes 4 x.2.1.toNat, x.2.2⟩
    else
      let y := x.2.2.regWord src (a + 4) write (word 1) dbg (ups.drop 24)
      let r := x.1.worse y.1
      ⟨some r, if write ∨ r ≠ .ok then [] else leBytes 4 x.2.1.toNat ++ leBytes 4 y.2.1.toNat, y.2.2⟩
  else ⟨some .errDecode, [], s⟩

/-! G6 -/

/-- A write of the enabled bytes, a line at a time. -/
def State.g6Masked (s : State) (src a : Nat) (bytes : List Nat) (mask : Nat) (envs : List G6Env) (fuel : Nat) : Resp × State :=
  match fuel with
  | 0 => (.ok, s)
  | n + 1 =>
    if bytes.isEmpty then (.ok, s)
    else
      let o := a % 64
      let k := min bytes.length (64 - o)
      let data := BitVec.ofNat 512 (leOf (bytes.take k) * 2 ^ (8 * o))
      let m := mask % 2 ^ k * 2 ^ o
      let r := if m = 2 ^ 64 - 1 then s.g6Access src a (.full data) (envs.headD G6Env.none_)
        else if m = 0 then ⟨.ok, 0, s⟩
        else s.g6Access src a (.part data m) (envs.headD G6Env.none_)
      let rest := r.st.g6Masked src (a + k) (bytes.drop k) (mask / 2 ^ k) envs.tail n
      (r.resp.worse rest.1, rest.2)

/-! Fabric target sides (09 R340, R345) -/

def State.fp (s : State) (d : Fin 6) (p : Fin 16) : FabPort := s.fport[16 * d.val + p.val]'(by omega)
def State.setFp (s : State) (d : Fin 6) (p : Fin 16) (x : FabPort) : State := { s with fport := s.fport.set (16 * d.val + p.val) x (by omega) }

/-- The beats of an access: byte k of beat b is byte 64 b + k. -/
def beatsOf (bytes : List Nat) (mask n : Nat) : List (Line512 × BitVec 64) :=
  (List.range n).map (fun b => (BitVec.ofNat 512 (leOf ((bytes.drop (64 * b)).take 64)), BitVec.ofNat 64 (mask / 2 ^ (64 * b))))

/-- The request of an access at a target side. -/
def targetReq (acc : Access) (off : Nat) : FabReq :=
  let n := (acc.size + 63) / 64
  ⟨acc.src, 0, off, n, acc.write, acc.debug, if acc.write then beatsOf acc.data acc.mask n else [], false⟩

/-- Two requests are the same: requester, offset, beats, direction, DEBUG. A requester has one such request at a time. -/
def FabReq.same (x y : FabReq) : Bool :=
  x.src == y.src && x.addr == y.addr && x.beats == y.beats && x.write == y.write && x.dbg == y.dbg

/-- An access to a target side: it waits there until the fabric has answered; its requester then takes the answer. -/
def State.targetAccess (s : State) (d : Fin 6) (p : Fin 16) (off : Nat) (acc : Access) : BusAns :=
  let x := s.fp d p
  let q := targetReq acc off
  match x.tgtDone.find? (fun e => e.1.same q) with
  | some e => ⟨some e.2.1, e.2.2.take acc.size, s.setFp d p { x with tgtDone := x.tgtDone.erase e }⟩
  | none =>
    if s.flag (R.FAB_PORT_STAT d p) F.FAB_PORT_STAT_ABSENT then ⟨some .errAbsent, [], s⟩
    else if (x.tgtWait ++ x.tgt).any (fun r => r.same q) then ⟨none, [], s⟩
    else ⟨none, [], s.setFp d p { x with tgtWait := x.tgtWait ++ [q] }⟩

/-! The remote window (R623, R624) -/

/-- The local address of an offset of a device's slice. -/
def remoteLocal (o : Nat) : Option Nat :=
  if o < 0x8000000000 then some o
  else if o < 0x8600000000 then some (0x100000000000 + (o - 0x8000000000))
  else if 0xFF00000000 ≤ o then some (0x1FFF00000000 + (o - 0xFF00000000))
  else none

/-- The tree lets transactions through: JOINED or HOLD. -/
def State.treeOpen (s : State) : Bool := let t := s.fld R.TSY_STAT F.TSY_STAT_TREE; t == 2 || t == 3

/-- What refuses a remote access before it leaves: no path to the device is one of them. -/
def State.remoteRefuse (s : State) (src dev off : Nat) : Option Resp :=
  if (remoteLocal off).isNone ∨ dev = s.devId then some .errDecode
  else if !s.treeOpen ∨ (s.pathTo dev).isNone ∨ s.power.slept.isSome ∨ s.unreachable (srcDie src) 0 then some .errAbsent
  else if s.haltOn.toList.getD (srcDie src) false then some .errDenied
  else none

/-- An access to another device: its answer, once REMOTE_TRANSACTION has brought it. -/
def State.remoteAccess (s : State) (dev off : Nat) (acc : Access) : BusAns :=
  match s.remoteRefuse acc.src dev off with
  | some r => ⟨some r, [], s⟩
  | none =>
    match s.remoteDone.find? (fun e => e.1 == acc) with
    | some e => ⟨some e.2.1, e.2.2, { s with remoteDone := s.remoteDone.erase e }⟩
    | none => ⟨none, [], if s.remoteOut.contains acc then s else { s with remoteOut := s.remoteOut ++ [acc] }⟩

/-! One access -/

/-- An access to a memory inside a block, once nothing refuses it. -/
def State.memAccess (s : State) (pl : Place) (acc : Access) (envs : List G6Env) : BusAns :=
  let run (o : Out) : BusAns := let t := stOf s o; ⟨t.reply.resp, t.reply.data, t⟩
  match pl with
  | .iram g off =>
    if acc.write then run (execInstrRamWrite g off acc.data (upsetsOf envs) s)
    else run (execInstrRamRead g off acc.size (upsetsOf envs) s)
  | .mdspMem m off => run (execMdspMemAccess m off acc.size acc.write acc.data (upsetsOf envs) s)
  | _ => ⟨some .errDecode, [], s⟩

/-- The die and the block of a place with a die. -/
def Place.block (pl : Place) : Option BlkAt :=
  match pl with
  | .iram g _ => some ⟨.vsq, g.val / 4, g.val % 4, 0x800000⟩
  | .mdspMem m _ => some ⟨.mdsp, m.val / 4, m.val % 4, 0⟩
  | .target d _ _ => some ⟨.fab, d.val, 0, 0⟩
  | _ => none

/-- A write that enables part of the bytes, cut down to the run it enables; a read as it stands. -/
def cutAcc (acc : Access) : Option Access :=
  if acc.write then
    match runOf acc.mask acc.size with
    | none => none
    | some (k, n) => some { acc with addr := acc.addr + k, size := n, data := (acc.data.drop k).take n, mask := 2 ^ n - 1 }
  else some acc

/-- The runs of enabled bytes of a write, first to last, as accesses of their own; a read as it stands. -/
def runsOf (acc : Access) : List Access :=
  if acc.write then
    ((List.range acc.size).filter (fun k => bitOf acc.mask k && (k == 0 || !bitOf acc.mask (k - 1)))).map (fun k =>
      let n := ((List.range (acc.size - k)).takeWhile (fun i => bitOf acc.mask (k + i))).length
      { acc with addr := acc.addr + k, size := n, data := (acc.data.drop k).take n, mask := 2 ^ n - 1 })
  else [acc]

/-- An access that crosses no 4 KB boundary. -/
def State.accessAt (s : State) (acc : Access) (envs : List G6Env) : BusAns :=
  match placeOf acc.addr with
  | .none_ => ⟨some .errDecode, [], s⟩
  | .g6 =>
    if acc.write then
      let r := s.g6Masked acc.src acc.addr (acc.data.take acc.size) acc.mask envs (acc.size / 64 + 2)
      ⟨some r.1, [], r.2⟩
    else
      let r := s.g6ReadBytes acc.src acc.addr acc.size envs (acc.size / 64 + 2)
      ⟨some r.1, if r.1 = .ok then r.2.1 else [], r.2.2⟩
  | .remote dev off => s.remoteAccess dev off acc
  | .reg =>
    match cutAcc acc with
    | none => ⟨some .errDecode, [], s⟩
    | some x => s.regAccess x.src x.addr x.size x.write x.data x.debug (upsetsOf envs)
  | pl =>
    match pl.block with
    | none => ⟨some .errDecode, [], s⟩
    | some b =>
      if s.blockAbsent acc.src b.die false then ⟨some .errAbsent, [], s⟩
      else if s.haltOn.toList.getD b.die false then ⟨some .errDenied, [], s⟩
      else
        match pl with
        | .target d p off => s.targetAccess d p off acc
        | _ =>
          (runsOf acc).foldl (fun r x =>
            let n := r.st.memAccess (placeOf x.addr) x envs
            ⟨some ((r.resp.getD .ok).worse (n.resp.getD .ok)), r.data ++ n.data, n.st⟩)
            ⟨some .ok, [], s.serve b.d (serves b acc.write)⟩

/-! Full points (R31, R32, 12 R413) -/

/-- The die that serves an access; none where nothing does. -/
def State.servingDie (s : State) (addr : Nat) : Option Nat :=
  match placeOf addr with
  | .g6 => (s.place addr).map (fun c => c.1 / 8)
  | .none_ => none
  | .remote _ _ => some 0
  | .reg => (regAt addr).map (fun r => r.1.die)
  | pl => pl.block.map (fun b => b.die)

/-- The beats of a die's DMA engine in flight. -/
def State.dmaBeats (s : State) (d : Nat) : List Beat :=
  ((s.dma.toList[d]?).map (fun e => e.ch.toList.flatMap (fun c => c.fly))).getD []

/-- A source is a DMA channel. -/
def isDma (src : Nat) : Bool := decide (0x18 ≤ srcLocal src ∧ srcLocal src < 0x38)

/-- The G6 port of an address. -/
def State.portOfAddr (s : State) (addr : Nat) : Option Nat :=
  if placeOf addr = .g6 then (s.place addr).map (fun c => portOf c.1) else none

/-- Accepted transactions at a G6 port. What is under way from step to step are DMA beats (notes/assumptions/103.md). -/
def State.portLoad (s : State) (q : Nat) : Nat :=
  (((List.range 6).flatMap s.dmaBeats).filter (fun b => s.portOfAddr b.addr == some q)).length

/-- Transactions of a die's requesters to targets other than G6 memory. -/
def State.poolLoad (s : State) (d : Nat) : Nat :=
  ((s.bridgeAt d).sent.filter (fun x => !isDma x.acc.src && placeOf x.acc.addr != .g6)).length +
  ((s.dmaBeats d).filter (fun b => placeOf b.addr != .g6)).length

/-- A request of die d meets a full point: 448 of a port's 512 places for requests not of the FC class of its die, 512 in the
die's bridge pool. -/
def State.fullAt (s : State) (d addr : Nat) : Bool :=
  match placeOf addr with
  | .g6 =>
    match s.portOfAddr addr with
    | none => false
    | some q => decide (448 ≤ s.portLoad q)
  | .none_ => false
  | _ => decide (512 ≤ s.poolLoad d)

/-- An access waits at its requester; a DMA beat has done so before it was issued. -/
def State.mustWait (s : State) (acc : Access) : Bool :=
  !isDma acc.src && !isFC (((s.servingDie acc.addr).getD 0)) acc.src && s.fullAt (srcDie acc.src) acc.addr

/-! Between dies (10 R366, R368) -/

/-- A transaction of die d has its response back. -/
def State.unsend (s : State) (d : Nat) (x : SeamTxn) : State := s.setBridge d (fun b => { b with sent := b.sent.erase x })

/-- A target bridge keeps the first responses of the last 512 transactions of each source die. -/
def State.noteServed (s : State) (d : Nat) (x : SeamTxn) (r : Resp) (data : List Nat) : State :=
  s.setBridge x.die (fun b =>
    let mine := (b.served ++ [(d, x.tag, r, data)]).filter (fun e => e.1 == d)
    { b with served := b.served.filter (fun e => e.1 != d) ++ mine.drop (mine.length - 512) })

/-- A response leaves die x.die for die d; with both its paths cut it stays there, and the transaction is kept. -/
def State.returned (s : State) (d : Nat) (x : SeamTxn) (r : Resp) (data : List Nat) : BusAns :=
  if s.bothFenced x.die d then ⟨none, [], s⟩ else ⟨some r, data, (s.unsend d x).carry x.die d⟩

/-- A transaction reaches the die that serves it. One performed there before, under its source die and tag, is not performed
again: its first response is returned. -/
def State.transact (s : State) (d : Nat) (x : SeamTxn) (envs : List G6Env) : BusAns :=
  match (s.bridgeAt x.die).served.find? (fun e => e.1 == d && e.2.1 == x.tag) with
  | some e => s.returned d x e.2.2.1 e.2.2.2
  | none =>
    let r := s.accessAt x.acc envs
    match r.resp with
    | none => r
    | some e => if s.unreachable d x.die then { r with st := r.st.unsend d x } else (r.st.noteServed d x e r.data).returned d x e r.data

/-- A transaction of die d that another die serves leaves: it has a tag, is kept, and goes as flits. -/
def State.sendTxn (s : State) (d : Nat) (x : SeamTxn) : State :=
  (s.setBridge d (fun b => { b with next := b.next + 1, sent := b.sent ++ [x] })).carry d x.die

/-- An access of die d at die t, from its bridge: sent, and kept until it has its response. -/
def State.bridged (s : State) (d t : Nat) (acc : Access) (envs : List G6Env) : BusAns :=
  match (s.bridgeAt d).sent.find? (fun x => x.acc == acc) with
  | some x =>
    if x.lost then ⟨some .errAbsent, [], s.unsend d x⟩
    else if t = d then
      let r := s.accessAt acc envs
      if r.resp.isSome then { r with st := r.st.unsend d x } else r
    else s.transact d x envs
  | none =>
    let route := s.routeTo d t
    let x : SeamTxn := ⟨(s.bridgeAt d).next, t, acc, route.1, route.2, false, s.now⟩
    if t = d ∨ s.unreachable d t then
      let r := s.accessAt acc envs
      if r.resp.isSome then r else { r with st := r.st.setBridge d (fun b => { b with sent := b.sent ++ [x] }) }
    else (s.sendTxn d x).transact d x envs

/-- A bus access: one whose bytes cross a 4 KB boundary is not performed (09 R343); one that meets a full point waits (R32).
The die of its requester counts it (18 R574). -/
def State.access (s : State) (acc : Access) (envs : List G6Env) : BusAns :=
  if acc.size = 0 ∨ 4096 < acc.addr % 4096 + acc.size then ⟨some .errDecode, [], s⟩
  else if s.mustWait acc then ⟨none, [], s⟩
  else
    let r := match placeOf acc.addr, s.servingDie acc.addr with
      | .g6, _ => s.accessAt acc envs
      | _, none => s.accessAt acc envs
      | _, some t => s.bridged (srcDie acc.src) t acc envs
    match r.resp with
    | none => r
    | some _ => if srcLocal acc.src < 0x38 then { r with st := r.st.tally (srcDie acc.src) 0x68 1 } else r

/-- A read and a write of bytes. -/
def readAcc (src a size : Nat) (dbg : Bool) : Access := ⟨src, a, size, false, [], 0, dbg⟩
def writeAcc (src a : Nat) (data : List Nat) (dbg : Bool) : Access := ⟨src, a, data.length, true, data, 2 ^ data.length - 1, dbg⟩

/-- The answer of an access as its requester sees it. -/
def busOut (r : BusAns) : Out := let t := r.st; .next { t with reply := ⟨r.resp, r.data⟩ }

end Sys2Proof.Machine
end

