-- ==== Sys2Proof/Machine/Dma.lean ====
section
/-! DEFINITION. Machine/Dma.lean: descriptor fetches, beats and their responses (14_dma.md R475 to R491). A beat's
access takes place at its response, the oldest of its kind first (notes/assumptions/50.md). -/
namespace Sys2Proof.Machine

/-- The source identity of a channel (12 R415). -/
def dmaSrc (d : Fin 6) (c : Fin 32) : Nat := d.val * 128 + 0x18 + c.val

/-- The descriptor that has arrived is taken up: FENCE waits, COPY begins its first burst. -/
def State.dmaTake (s : State) (d : Fin 6) (c : Fin 32) (v : BitVec 256) : State :=
  let x := s.dm d c
  let s := (s.setDm d c { x with desc := some v, fetching := false }).wr (R.DMA_CH_COUNT d c) (BitVec.ofNat 32 (descCount v))
  if descOp v = 1 then (s.setDmaState d c 3).dmaFence d c else s.dmaBurst d c v

/-- DESC_FETCH_DONE. -/
def execDescFetchDone (d : Fin 6) (c : Fin 32) (envs : List G6Env) (s : State) : Out :=
  let x := s.dm d c
  if x.fetching then
    let r := s.access (readAcc (dmaSrc d c) x.descAt 32 false) envs
    match r.resp with
    | none => .next r.st
    | some .ok =>
      let v := BitVec.ofNat 256 (leOf r.data)
      .next (if descBad v then r.st.dmaError d c x.descAt x.descAt 3 0 else r.st.dmaTake d c v)
    | some e => .next (r.st.dmaError d c x.descAt x.descAt 2 (respCode e))
  else .next s

/-! Beats (R475, R485, R486) -/

/-- Reads, or writes, of a channel in flight. -/
def DmaCh.flying (x : DmaCh) (write : Bool) : Nat := (x.fly.filter (fun b => b.write == write)).length

/-- Beats of a die's engine in flight. -/
def State.dmaFlying (s : State) (d : Fin 6) : Nat := ((List.finRange 32).map (fun c => (s.dm d c).fly.length)).sum

/-- The read beat a channel can issue: none while a full point holds it (12 R413). -/
def State.nextRead (s : State) (d : Fin 6) (c : Fin 32) : Option Beat :=
  let x := s.dm d c
  match x.desc, x.burst with
  | some v, some (base, len, asked, _) =>
    if s.dmaState d c = 1 ∧ !x.stop ∧ asked < len ∧ x.flying false < 64 then
      let a := descAddr (descSfix v) (descElem v) (descSaddr v) (descSwrap v) (base + asked)
      if s.fullAt d a then none else some ⟨a, beatLen (descSfix v) a (len - asked), false, [], x.descAt, true, s.regionMap, false, s.now⟩
    else none
  | _, _ => none

/-- The write beat a channel can issue: its bytes are in the staging buffer and no full point holds it. -/
def State.nextWrite (s : State) (d : Fin 6) (c : Fin 32) : Option Beat :=
  let x := s.dm d c
  match x.desc, x.burst with
  | some v, some (base, len, _, written) =>
    let a := descAddr (descDfix v) (descElem v) (descDaddr v) (descDwrap v) (base + written)
    let n := beatLen (descDfix v) a (if x.stop then x.stage.length else len - written)
    if s.dmaState d c = 1 ∧ 0 < n ∧ n ≤ x.stage.length ∧ x.flying true < 64 then
      if s.fullAt d a then none else some ⟨a, n, true, x.stage.take n, x.descAt, true, s.regionMap, false, s.now⟩
    else none
  | _, _ => none

/-- A channel is ready: it can issue a beat. -/
def State.dmaReady (s : State) (d : Fin 6) (c : Fin 32) : Bool := (s.nextRead d c).isSome || (s.nextWrite d c).isSome

/-- A channel stands inside its burst. -/
def State.midBurst (s : State) (d : Fin 6) (c : Fin 32) : Bool :=
  match (s.dm d c).burst with
  | none => false
  | some (_, _, asked, _) => asked != 0

/-- The channel that issues: of the highest priority among the ready ones; one inside its burst goes on, else the turn
passes in channel order (R485). -/
def State.dmaPick (s : State) (d : Fin 6) : Option (Fin 32) :=
  let cur := (s.dma[d]).cur
  let ready := ((List.finRange 32).rotate ((cur + 1) % 32)).filter (s.dmaReady d)
  let prio (c : Fin 32) : Nat := s.fld (R.DMA_CH_CTRL d c) F.DMA_CH_CTRL_PRIO
  let top := (ready.map prio).foldl max 0
  let best := ready.filter (fun c => prio c == top)
  let mid := best.filter (fun c => s.midBurst d c)
  match mid.find? (fun c => c.val == cur), mid with
  | some c, _ => some c
  | none, c :: _ => some c
  | none, [] => best.head?

/-- The channel served last. -/
def State.dmaServed (s : State) (d : Fin 6) (c : Fin 32) : State :=
  let e := s.dma[d]
  { s with dma := s.dma.set d { e with cur := c.val } }

/-- A read beat leaves. -/
def State.issueRead (s : State) (d : Fin 6) (c : Fin 32) (b : Beat) : State :=
  let x := s.dm d c
  s.setDm d c { x with fly := x.fly ++ [b], burst := x.burst.map (fun t => (t.1, t.2.1, t.2.2.1 + b.len, t.2.2.2)) }

/-- A write beat leaves: COUNT falls; at the end of the burst the next one, at the end of the descriptor its completion. A
channel that STOP ends may complete its descriptor with what it had read; it fetches no other. -/
def State.issueWrite (s : State) (d : Fin 6) (c : Fin 32) (b : Beat) : State :=
  let x := s.dm d c
  let written := (x.burst.map (fun t => t.2.2.2 + b.len)).getD 0
  let len := (x.burst.map (fun t => t.2.1)).getD 0
  let s := s.setDm d c { x with
    fly := x.fly ++ [b], stage := x.stage.drop b.len
    burst := x.burst.map (fun t => (t.1, t.2.1, t.2.2.1, t.2.2.2 + b.len)) }
  let s := (s.wr (R.DMA_CH_COUNT d c) (BitVec.ofNat 32 (s.dmaCount d c - b.len))).tally d.val (0x80 + c.val) 1
  if x.stop then
    let irq := s.dmaCount d c == 0 && (x.desc.map descIrq).getD false
    (if irq then s.dmaBit (R.DMA_DONE d) c else s).dmaSettle d c
  else
    match x.desc with
    | none => s
    | some v => if s.dmaCount d c = 0 then s.dmaComplete d c v else if written = len then s.dmaBurst d c v else s

/-- BEAT_ISSUE: `wr` prefers a write where the channel has both. -/
def execBeatIssue (d : Fin 6) (wr : Bool) (s : State) : Out :=
  if s.haltFrozen d F.DBG_FREEZE_DMA ∨ 256 ≤ s.dmaFlying d then .next s
  else
    match s.dmaPick d with
    | none => .next s
    | some c =>
      let t := s.dmaServed d c
      match s.nextRead d c, s.nextWrite d c with
      | some b, none => .next (t.issueRead d c b)
      | none, some b => .next (t.issueWrite d c b)
      | some b, some b' => .next (if wr then t.issueWrite d c b' else t.issueRead d c b)
      | none, none => .next s

/-! Responses (R486, R489, R490) -/

/-- A beat has its response. -/
def State.dmaAnswer (s : State) (d : Fin 6) (c : Fin 32) (b : Beat) (r : Resp) (data : List Nat) : State :=
  let x := s.dm d c
  let s := s.setDm d c { x with fly := x.fly.erase b, stage := if b.write ∨ !b.live ∨ r ≠ .ok then x.stage else x.stage ++ data }
  if r ≠ .ok ∧ b.live then s.dmaError d c b.addr b.desc (b2n b.write) (respCode r)
  else ((s.dmaFence d c).dmaErrEnd d c).dmaSettle d c

/-- The access of a beat: under the regions that held when it was issued (12 R423); a port that has been trained since ends
it (12 R426). -/
def State.beatAccess (s : State) (b : Beat) (acc : Access) (envs : List G6Env) : BusAns :=
  if b.gone then ⟨some .errAbsent, [], s⟩
  else if b.map = s.regionMap ∨ placeOf acc.addr ≠ .g6 then s.access acc envs
  else
    let r := (s.setRegionMap b.map).access acc envs
    { r with st := r.st.setRegionMap s.regionMap }

/-- READ_RESPONSE: the oldest read in flight. -/
def execReadResponse (d : Fin 6) (c : Fin 32) (envs : List G6Env) (s : State) : Out :=
  match (s.dm d c).fly.find? (fun b => !b.write) with
  | none => .next s
  | some b =>
    let r := s.beatAccess b (readAcc (dmaSrc d c) b.addr b.len false) envs
    match r.resp with
    | none => .next r.st
    | some e => .next (r.st.dmaAnswer d c b e r.data)

/-- WRITE_RESPONSE: the oldest write in flight. -/
def execWriteResponse (d : Fin 6) (c : Fin 32) (envs : List G6Env) (s : State) : Out :=
  match (s.dm d c).fly.find? (fun b => b.write) with
  | none => .next s
  | some b =>
    let r := s.beatAccess b (writeAcc (dmaSrc d c) b.addr b.data false) envs
    match r.resp with
    | none => .next r.st
    | some e => .next (r.st.dmaAnswer d c b e [])

end Sys2Proof.Machine
end

