-- ==== Sys2Proof/Machine/Ports.lean ====
section
/-! DEFINITION. Machine/Ports.lean: transfers at the fabric's promenade ports (09_fabric.md R340 to R346). On
the initiator side the fabric sends REQ and WDAT and takes RDAT and WRSP; on the target side it is the other way round. -/
namespace Sys2Proof.Machine

/-- The next edge of a port's clock, at which a transfer can take place (R340, R341); none while its global net stands
still. -/
def State.portEdge (s : State) (d : Fin 6) (p : Fin 16) : Option Nat :=
  let x := s.fabric d
  let net := ((x.sets.port.lookup p.val).map (·.2.2)).getD 32
  if x.netStopped net then none else s.sourceAt d net s.now

/-- A transfer at the next edge of the port's clock. -/
def State.onPort (s : State) (d : Fin 6) (p : Fin 16) (f : State → State) : Out :=
  match s.portEdge d p with
  | none => .next s
  | some t => .next (f (s.at_ t))

/-- The initiator side of a port can issue: enabled, past its WREN step, its meadow not fenced (R340, R345, 11 R399). -/
def State.initLive (s : State) (d : Fin 6) (p : Fin 16) : Bool :=
  s.flag (R.FAB_PORT_STAT d p) F.FAB_PORT_STAT_INIT && s.regionWren d (40 + p.val / 2)

/-- The target side of a port can take requests. -/
def State.tgtLive (s : State) (d : Fin 6) (p : Fin 16) : Bool := !s.flag (R.FAB_PORT_STAT d p) F.FAB_PORT_STAT_ABSENT

/-- FAB_PORTp_STAT.OUTST: the transactions of the initiator side in flight. -/
def State.showOutst (s : State) (d : Fin 6) (p : Fin 16) : State :=
  s.setF (R.FAB_PORT_STAT d p) F.FAB_PORT_STAT_OUTST ((s.fp d p).ini.length + (s.fp d p).resp.length)

/-- A transfer against the rules (R346). -/
def State.proto (s : State) (d : Fin 6) : State := s.raise (R.FAB_CAUSE d) F.FAB_CAUSE_PROTO

/-- RESP by its code; 7 is reserved (R342). -/
def respOf (c : Nat) : Option Resp :=
  match c with
  | 0 => some .ok | 1 => some .errData | 2 => some .errDecode | 3 => some .errTimeout | 4 => some .errAbsent
  | 5 => some .errVault | 6 => some .errDenied | _ => none

/-! The initiator side -/

/-- A request as a bus access. -/
def FabReq.access (r : FabReq) : Access :=
  let n := 64 * r.beats
  if r.write then
    ⟨r.src, r.addr, n, true, r.data.flatMap (fun b => leBytes 64 b.1.toNat), r.data.foldr (fun b acc => b.2.toNat + 2 ^ 64 * acc) 0, r.dbg⟩
  else ⟨r.src, r.addr, n, false, [], 0, r.dbg⟩

/-- A request has all it needs to be performed, or has broken the rules. -/
def FabReq.full (r : FabReq) : Bool := r.bad || !r.write || r.data.length == r.beats

/-- The requests that can be performed: of each ID the oldest, if it has its write data (R343). -/
def performable (l : List FabReq) : List FabReq :=
  (List.range l.length).filterMap (fun i =>
    match l[i]? with
    | none => none
    | some r => if !r.full || (l.take i).any (fun q => q.id == r.id) then none else some r)

/-- A request has its response; the data of a read that failed is free. -/
def State.respond (s : State) (d : Fin 6) (p : Fin 16) (r : FabReq) (e : Resp) (data : List Nat) : State :=
  let x := s.fp d p
  let beats := if r.write then [] else if e = .ok then (List.range r.beats).map (fun b => BitVec.ofNat 512 (leOf ((data.drop (64 * b)).take 64)))
    else s.freeLines r.beats
  (s.usedN r.beats).setFp d p { x with ini := x.ini.erase r, resp := x.resp ++ [⟨r.id, r.write, e, beats, false⟩] }

/-- A request is performed; with its answer it leaves `ini` for `resp`. One that has broken the rules ends with ERR_DATA in
its turn (R346). -/
def State.perform (s : State) (d : Fin 6) (p : Fin 16) (r : FabReq) (envs : List G6Env) : State :=
  if r.bad then s.respond d p r .errData []
  else
    let a := s.access r.access envs
    match a.resp with
    | none => a.st
    | some e => a.st.respond d p r e a.data

/-- Requests of the initiator side go on. -/
def State.portGo (s : State) (d : Fin 6) (p : Fin 16) (envs : List G6Env) : State :=
  (forEach (performable (s.fp d p).ini) (fun r s => s.perform d p r envs) s).showOutst d p

/-- REQ of the initiator side: with 64 in flight the request waits (R344). -/
def State.initReq (s : State) (d : Fin 6) (p : Fin 16) (q : PortReq) (envs : List G6Env) : State :=
  let x := s.fp d p
  if s.initLive d p ∧ x.ini.length + x.resp.length < 64 then
    let r : FabReq := ⟨d.val * 128 + p.val, q.id.toNat, q.addr.toNat, q.len.toNat + 1, q.wr, q.dbg, [], false⟩
    (s.setFp d p { x with ini := x.ini ++ [r] }).portGo d p envs
  else s

/-- WDAT of the initiator side: the next beat of the oldest write that lacks one (R343); a LAST in the wrong place breaks
the rules (R346). -/
def State.initWdat (s : State) (d : Fin 6) (p : Fin 16) (data : Line512) (be : BitVec 64) (last : Bool) (envs : List G6Env) : State :=
  if s.initLive d p then
    let x := s.fp d p
    match x.ini.find? (fun r => !r.full) with
    | none => s.proto d
    | some r =>
      let r' := { r with data := r.data ++ [(data, be)] }
      let bad := last != (r'.data.length == r.beats)
      let s := if bad then s.proto d else s
      (s.setFp d p { x with ini := x.ini.replace r { r' with bad := bad } }).portGo d p envs
  else s

/-- The response that comes next for an ID: responses to one ID keep the order of their requests (R343). -/
def FabPort.nextResp (x : FabPort) (id : Nat) (write : Bool) : Option FabResp :=
  (x.resp.find? (fun r => r.id == id)).filter (fun r => r.write == write)

/-- RDAT of the initiator side: the next beat of the read response of that ID, once no other read is under way; what the
fabric sees is the reply: RESP, 64 bytes, LAST. -/
def State.initRdat (s : State) (d : Fin 6) (p : Fin 16) (id : Nat) : State :=
  let s := s.portGo d p []
  let x := s.fp d p
  match x.nextResp id false with
  | none => s
  | some r =>
    if x.resp.any (fun q => q.begun && q != r) then s
    else
      let rest := r.beats.drop 1
      let resp := if rest.isEmpty then x.resp.erase r else x.resp.replace r { r with beats := rest, begun := true }
      ((s.setFp d p { x with resp := resp }).showOutst d p).answer r.resp
        (leBytes 64 (r.beats.headD 0).toNat ++ [b2n rest.isEmpty])

/-- WRSP of the initiator side. -/
def State.initWrsp (s : State) (d : Fin 6) (p : Fin 16) (id : Nat) : State :=
  let s := s.portGo d p []
  let x := s.fp d p
  match x.nextResp id true with
  | none => s
  | some r => ((s.setFp d p { x with resp := x.resp.erase r }).showOutst d p).answer r.resp []

/-! The target side -/

/-- REQ of the target side: a request that waits reaches the fabric, with the ID the port gives it. -/
def State.tgtReq (s : State) (d : Fin 6) (p : Fin 16) (q : PortReq) : State :=
  let x := s.fp d p
  match x.tgtWait.find? (fun r => r.addr == q.addr.toNat && r.beats == q.len.toNat + 1 && r.write == q.wr && r.dbg == q.dbg) with
  | some r =>
    if s.tgtLive d p then s.setFp d p { x with tgtWait := x.tgtWait.erase r, tgt := x.tgt ++ [{ r with id := q.id.toNat }] } else s
  | none => s

/-- WDAT of the target side: the next beat of the oldest write whose beats have not all reached the fabric: 64 bytes, their
64 enables, LAST. -/
def State.tgtWdat (s : State) (d : Fin 6) (p : Fin 16) : State :=
  let x := s.fp d p
  match x.tgt.find? (fun r => r.write && !r.data.isEmpty) with
  | none => s
  | some r =>
    let b := r.data.headD (0, 0)
    let rest := r.data.drop 1
    (s.setFp d p { x with tgt := x.tgt.replace r { r with data := rest } }).answer .ok
      (leBytes 64 b.1.toNat ++ leBytes 8 b.2.toNat ++ [b2n rest.isEmpty])

/-- A request of the target side has its answer. -/
def State.tgtEnd (s : State) (d : Fin 6) (p : Fin 16) (r : FabReq) (e : Resp) (bytes : List Nat) : State :=
  let x := s.fp d p
  s.setFp d p { x with tgt := x.tgt.erase r, tgtDone := if r.src = nobody then x.tgtDone else x.tgtDone ++ [(r, e, bytes)] }

/-- An answer whose ID has no request in flight: late after a timeout, else against the protocol (R345, R346). -/
def State.tgtStray (s : State) (d : Fin 6) (p : Fin 16) (id : Nat) (last : Bool) : State :=
  let x := s.fp d p
  if x.tgtDead.contains id then
    (if last then s.setFp d p { x with tgtDead := x.tgtDead.erase id } else s).raise (R.FAB_CAUSE d) F.FAB_CAUSE_LATE
  else s.proto d

/-- RDAT of the target side. The beats of a read are kept with their RESP codes. The oldest request of the ID is the one
concerned: a beat for a write, out of order, between the beats of another read or with LAST in the wrong place ends it
(R346). -/
def State.tgtRdat (s : State) (d : Fin 6) (p : Fin 16) (id : Nat) (data : Line512) (resp : Nat) (last : Bool) : State :=
  let x := s.fp d p
  match x.tgt.find? (fun r => r.id == id) with
  | none => s.tgtStray d p id last
  | some r =>
    let r' := { r with data := r.data ++ [(data, BitVec.ofNat 64 resp)] }
    let mixed := x.tgt.any (fun q => q != r && !q.write && !q.data.isEmpty)
    if r.write ∨ (respOf resp).isNone ∨ mixed ∨ last != (r'.data.length == r.beats) then (s.tgtEnd d p r .errData []).proto d
    else if last then
      let worst := r'.data.foldl (fun acc b => acc.worse ((respOf b.2.toNat).getD .ok)) Resp.ok
      s.tgtEnd d p r worst (r'.data.flatMap (fun b => leBytes 64 b.1.toNat))
    else s.setFp d p { x with tgt := x.tgt.replace r r' }

/-- WRSP of the target side: one for a read or with a reserved RESP breaks the rules (R342, R346). -/
def State.tgtWrsp (s : State) (d : Fin 6) (p : Fin 16) (id resp : Nat) : State :=
  let x := s.fp d p
  match x.tgt.find? (fun r => r.id == id) with
  | none => s.tgtStray d p id true
  | some r =>
    match respOf resp with
    | none => (s.tgtEnd d p r .errData []).proto d
    | some e => if r.write then s.tgtEnd d p r e [] else (s.tgtEnd d p r .errData []).proto d

/-! The commands -/

/-- PORT_REQ. -/
def execPortReq (d : Fin 6) (p : Fin 16) (side : PortSide) (q : PortReq) (envs : List G6Env) (s : State) : Out :=
  match side with
  | .initiator => s.onPort d p (fun s => s.initReq d p q envs)
  | .target => s.onPort d p (fun s => s.tgtReq d p q)

/-- PORT_WDAT. On the target side the beat is the model's own. -/
def execPortWdat (d : Fin 6) (p : Fin 16) (side : PortSide) (data : Line512) (be : BitVec 64) (last : Bool) (envs : List G6Env)
    (s : State) : Out :=
  match side with
  | .initiator => s.onPort d p (fun s => s.initWdat d p data be last envs)
  | .target => s.onPort d p (fun s => s.tgtWdat d p)

/-- PORT_RDAT. On the initiator side data, RESP and LAST are the model's own. -/
def execPortRdat (d : Fin 6) (p : Fin 16) (side : PortSide) (id : BitVec 8) (data : Line512) (resp : BitVec 3) (last : Bool)
    (s : State) : Out :=
  match side with
  | .initiator => s.onPort d p (fun s => s.initRdat d p id.toNat)
  | .target => s.onPort d p (fun s => s.tgtRdat d p id.toNat data resp.toNat last)

/-- PORT_WRSP. -/
def execPortWrsp (d : Fin 6) (p : Fin 16) (side : PortSide) (id : BitVec 8) (resp : BitVec 3) (s : State) : Out :=
  match side with
  | .initiator => s.onPort d p (fun s => s.initWrsp d p id.toNat)
  | .target => s.onPort d p (fun s => s.tgtWrsp d p id.toNat resp.toNat)

end Sys2Proof.Machine
end

