-- ==== Sys2Proof/Machine/BusCmd.lean ====
section
/-! DEFINITION. Machine/BusCmd.lean: bus accesses as commands: register reads and writes of any requester, PCI Express
inbound requests, transactions of the tether tree, timeouts (20_register_map.md R621 to R629; 12_memory_system.md
R447). A command whose reply holds no response is repeated until the response has come. -/
namespace Sys2Proof.Machine

/-- LATCH_READ: a read through the bus; a latching LO register loads the HI latch. -/
def execLatchRead (src : BitVec 10) (addr : BitVec 48) (size : Nat) (dbg : Bool) (envs : List G6Env) (s : State) : Out :=
  busOut (s.access (readAcc src.toNat addr.toNat size dbg) envs)

/-- REGISTER_WRITE. -/
def execRegisterWrite (src : BitVec 10) (addr : BitVec 48) (data : List Nat) (dbg : Bool) (envs : List G6Env) (s : State) : Out :=
  busOut (s.access (writeAcc src.toNat addr.toNat data dbg) envs)

/-! PCI Express (R625, R626, R629) -/

/-- The address of an offset in BAR0/1 or BAR2/3. -/
def State.barAddr (s : State) (bar : Fin 3) (o : Nat) : Option Nat :=
  if bar = 0 then
    if o < 0x600000000 then some (0x100000000000 + o)
    else if 0x700000000 ≤ o ∧ o < 0x800000000 then some (0x1FFF00000000 + (o - 0x700000000))
    else none
  else if o < 2 ^ 37 then some (s.fld R.PCIE_G6WIN F.PCIE_G6WIN_SEL * 2 ^ 37 + o) else none

/-- A 4-byte word of BAR4/5. -/
def State.bar4Word (s : State) (o : Nat) : Word :=
  if o < 0x400 then s.msixWord (o / 4)
  else if o = 0x8000 then s.pcie.pba.setWidth 32
  else if o = 0x8004 then (s.pcie.pba >>> 32).setWidth 32
  else 0

/-- A write of a 4-byte word of BAR4/5: bits 1:0 of an address and bits 31:1 of a vector control word read 0
(notes/assumptions/60.md). -/
def State.setBar4Word (s : State) (o : Nat) (v : Word) : State :=
  if o < 0x400 then
    let w := o / 4
    let v := if w % 4 = 0 then v &&& 0xFFFFFFFC#32 else if w % 4 = 3 then v &&& 1#32 else v
    let p := s.pcie
    { s with pcie := { p with table := Sparse.put msixDefault p.table w v } }
  else s

/-- A posted write that is dropped is recorded (R626, R629): ERR_DECODE as an Unsupported Request, every other non-OK
response as a Completer Abort. -/
def State.aerNote (s : State) (r : Resp) : State :=
  let p := s.pcie
  match r with
  | .ok => s
  | .errDecode => { s with pcie := { p with aerUr := true } }
  | _ => { s with pcie := { p with aerCa := true } }

/-- A read completes; the reply's ERR_DECODE stands for Unsupported Request, every other non-OK response for Completer
Abort. A posted write has no completion. -/
def State.pcieEnd (s : State) (write : Bool) (r : Resp) (data : List Nat) : State :=
  if write then { s.aerNote r with reply := ⟨none, []⟩ } else s.answer r data

/-- An access to BAR4/5 (R625, R629). -/
def State.bar4 (s : State) (o : Nat) (write : Bool) (size : Nat) (data : List Nat) : State :=
  if (size = 4 ∨ size = 8) ∧ o % size = 0 ∧ o < 0x10000 then
    if write then
      let s := s.setBar4Word o (BitVec.ofNat 32 (leOf (data.take 4)))
      let s := if size = 8 then s.setBar4Word (o + 4) (BitVec.ofNat 32 (leOf ((data.drop 4).take 4))) else s
      s.flushPending.pcieEnd true .ok []
    else
      s.pcieEnd false .ok (leBytes 4 (s.bar4Word o).toNat ++ (if size = 8 then leBytes 4 (s.bar4Word (o + 4)).toNat else []))
  else s.pcieEnd write .errDecode []

/-- PCIE_INBOUND: bar 0 is BAR0/1, 1 is BAR2/3, 2 is BAR4/5. -/
def execPcieInbound (bar : Fin 3) (off : Nat) (write : Bool) (size : Nat) (data : List Nat) (envs : List G6Env) (s : State) : Out :=
  if bar = 2 then .next (s.bar4 off write size data)
  else
    match s.barAddr bar off with
    | none => .next (s.pcieEnd write .errDecode [])
    | some a =>
      let r := s.access (if write then writeAcc 0x60 a (data.take size) false else readAcc 0x60 a size false) envs
      match r.resp with
      | none => let t := r.st; .next { t with reply := ⟨none, []⟩ }
      | some e => .next (r.st.pcieEnd write e r.data)

/-! Remote transactions (R623, R624) -/

/-- The flits of a transaction, on the path to its device. -/
def State.remoteFlits (s : State) (dev : Nat) (a : Access) : State :=
  match s.pathTo dev with
  | none => s
  | some p => s.used.putFlits p (1 + (if a.write then (a.size + 63) / 64 else 0))

/-- A transaction of this device's travels to another one, and its answer comes back; without the DEBUG attribute. -/
def State.remoteSend (s : State) (a : Access) (resp : Resp) (data : List Nat) : State :=
  match placeOf a.addr with
  | .remote dev off =>
    match s.remoteRefuse a.src dev off with
    | some r => s.answer r []
    | none =>
      let s := (s.emit (.remote dev off { a with debug := false })).remoteFlits dev a
      if s.remoteOut.contains a then
        { s with remoteOut := s.remoteOut.erase a, remoteDone := s.remoteDone ++ [(a, resp, data)] }
      else s.answer resp data
  | _ => s.answer .errDecode []

/-- A transaction of another device arrives: source 0x61 of die 0. -/
def State.remoteRecv (s : State) (off : Nat) (a : Access) (envs : List G6Env) : Out :=
  match remoteLocal off with
  | none => .next (s.answer .errDecode [])
  | some x => busOut (s.access { a with src := 0x61, addr := x, debug := false } envs)

/-- REMOTE_TRANSACTION. -/
def execRemoteTransaction (op : RemoteOp) (s : State) : Out :=
  match op with
  | .send a resp data => .next (s.remoteSend a resp data)
  | .recv off a envs => s.remoteRecv off a envs

/-! Timeouts (12 R447) -/

/-- The address of offset o of target port p of a die. -/
def targetAddr (d p o : Nat) : Nat := 0x100000000000 + d * 0x100000000 + 0x80000000 + p * 0x8000000 + o

/-- A requester's request to a target side that has not been answered ends with ERR_TIMEOUT; its later answer is late. -/
def FabPort.timeout (x : FabPort) (d p src addr : Nat) : FabPort :=
  let mine (r : FabReq) : Bool := r.src == src && targetAddr d p r.addr == addr
  match x.tgtWait.find? mine, x.tgt.find? mine with
  | some r, _ => { x with tgtWait := x.tgtWait.erase r, tgtDone := x.tgtDone ++ [(r, .errTimeout, [])] }
  | none, some r => { x with tgt := x.tgt.erase r, tgtDead := x.tgtDead ++ [r.id], tgtDone := x.tgtDone ++ [({ r with data := [] }, .errTimeout, [])] }
  | none, none => x

/-- Requests to fabric targets and to other devices that time out. -/
def State.timeoutWaits (s : State) (src addr : Nat) : State :=
  let fp := Vector.ofFn (fun (i : Fin 96) => s.fport[i].timeout (i.val / 16) (i.val % 16) src addr)
  let s := { s with fport := fp }
  match s.remoteOut.find? (fun a => a.src == src && a.addr == addr) with
  | some a => { s with remoteOut := s.remoteOut.erase a, remoteDone := s.remoteDone ++ [(a, .errTimeout, [])] }
  | none => s

/-- The requester of a DMA beat or a fabric request takes that answer here. -/
def State.dropAnswer (s : State) (src addr : Nat) : State :=
  let fp := Vector.ofFn (fun (i : Fin 96) =>
    let x := s.fport[i]
    { x with tgtDone := x.tgtDone.filter (fun e => !(e.1.src == src && targetAddr (i.val / 16) (i.val % 16) e.1.addr == addr)) })
  let s := s.setBridge (srcDie src) (fun b => { b with sent := b.sent.filter (fun x => !(x.acc.src == src && x.acc.addr == addr)) })
  { s with fport := fp, remoteDone := s.remoteDone.filter (fun e => !(e.1.src == src && e.1.addr == addr)) }

/-- A DMA beat in flight that times out. -/
def State.timeoutDma (s : State) (d : Fin 6) (src addr : Nat) : State :=
  match (List.finRange 32).find? (fun c => dmaSrc d c == src) with
  | none => s
  | some c =>
    match (s.dm d c).fly.find? (fun b => b.addr == addr) with
    | none => s
    | some b => (s.dropAnswer src addr).dmaAnswer d c b .errTimeout []

/-- A request of a fabric initiator side that times out. -/
def State.timeoutFabric (s : State) (d : Fin 6) (src addr : Nat) : State :=
  if h : src % 128 < 16 ∧ src / 128 = d.val then
    let p : Fin 16 := ⟨src % 128, h.1⟩
    let x := s.fp d p
    match x.ini.find? (fun r => r.addr == addr) with
    | none => s
    | some r =>
      let s := s.dropAnswer src addr
      let x := s.fp d p
      let beats := if r.write then [] else s.freeLines r.beats
      let s := s.setFp d p { x with ini := x.ini.erase r, resp := x.resp ++ [⟨r.id, r.write, .errTimeout, beats, false⟩] }
      (s.usedN r.beats).showOutst d p
  else s

/-- When a transaction that the bridge of a die keeps, or a DMA beat, was issued. -/
def State.issuedAt (s : State) (d : Fin 6) (src addr : Nat) : Option Nat :=
  match (s.bridgeAt d).sent.find? (fun x => x.acc.src == src && x.acc.addr == addr) with
  | some x => some x.time
  | none =>
    match (List.finRange 32).find? (fun c => dmaSrc d c == src) with
    | none => none
    | some c => ((s.dm d c).fly.find? (fun b => b.addr == addr)).map (fun b => b.time)

/-- PROM_TMO: the timeout of a die's transactions. -/
def State.timeoutLen (s : State) (d : Fin 6) : Nat := max 1 (min 1000000 (s.fld (R.PROM_TMO d) F.PROM_TMO_US)) * 1000 * ns

/-- TRANSACTION_TIMEOUT: a transaction of a requester of die d ends with ERR_TIMEOUT, PROM_TMO after its issue; its places are
free. -/
def execTransactionTimeout (d : Fin 6) (src : BitVec 10) (addr : BitVec 48) (s : State) : Out :=
  let s := match s.issuedAt d src.toNat addr.toNat with
    | none => s
    | some t => s.at_ (t + s.timeoutLen d)
  let s := s.setBridge d (fun b => { b with sent := b.sent.filter (fun x => !(x.acc.src == src.toNat && x.acc.addr == addr.toNat)) })
  let s := s.bump (R.PROM_TMO_CNT d) F.PROM_TMO_CNT_COUNT 1
  let s := s.wr (R.PROM_TSRC d) (BitVec.ofNat 32 src.toNat)
  let s := s.wrPair (R.PROM_TADDR_LO d) (R.PROM_TADDR_HI d) addr.toNat
  let s := (s.raise (R.PROM_CAUSE d) F.PROM_CAUSE_TMO).tally d 0x69 1
  let t : Txn := ⟨d.val, src.toNat, addr.toNat⟩
  let s := { s with txns := s.txns ++ [t] }
  let s := (s.timeoutWaits src.toNat addr.toNat).timeoutDma d src.toNat addr.toNat
  .next ((s.timeoutFabric d src.toNat addr.toNat).answer .errTimeout [])

/-- LATE_RESPONSE: the response of a transaction that timed out is dropped. -/
def execLateResponse (d : Fin 6) (src : BitVec 10) (addr : BitVec 48) (s : State) : Out :=
  let t : Txn := ⟨d.val, src.toNat, addr.toNat⟩
  if s.txns.contains t then
    let s := { s with txns := s.txns.erase t }
    .next (s.raise (R.PROM_CAUSE d) F.PROM_CAUSE_LATE)
  else .next s

end Sys2Proof.Machine
end

