-- ==== Sys2Proof/Machine/Debug.lean ====
section
/-! DEFINITION. Machine/Debug.lean: the test access port and the debug bus master (15_control_cores_debug.md R506 to R509;
which instructions are accepted: 16_security_lifecycle.md R540, R544, R545). -/
namespace Sys2Proof.Machine

/-- Codes of the instruction register (R506). -/
def irExtest : BitVec 6 := 0x00
def irSample : BitVec 6 := 0x01
def irIdcode : BitVec 6 := 0x02
def irDbgauth : BitVec 6 := 0x08
def irDbgacc : BitVec 6 := 0x09
def irBypass : BitVec 6 := 0x3F

/-- An instruction is accepted (16 R545; 17 R550: with start-up not done, only BYPASS and IDCODE are). -/
def State.tapAccepts (s : State) (ir : BitVec 6) : Bool :=
  if ir = irIdcode ∨ ir = irBypass then true
  else if !s.power.up ∨ s.dbgState = 3 then false
  else if ir = irDbgauth ∨ ir = irSample then true
  else if ir = irExtest then !(s.life == 2 && s.dbgState == 0)
  else if ir = irDbgacc then s.dbgState == 1 || s.dbgState == 2
  else false

def State.modTap (s : State) (f : Tap → Tap) : State := { s with tap := f s.tap }

/-- BYPASS is selected: its one bit captures 0. -/
def State.tapBypass (s : State) : State := s.modTap (fun t => { t with ir := irBypass, dr := 0 })

/-- An instruction is selected; one that is not accepted acts as BYPASS (16 R540). -/
def State.tapSelect (s : State) (ir : BitVec 6) (f : State → State) : State :=
  if s.tapAccepts ir then f (s.modTap (fun t => { t with ir := ir })) else s.tapBypass

/-- The boundary register takes the bits shifted in. What it captured from the pins, and in which order, the spec does
not give: a free value. -/
def State.boundaryShift (s : State) (bits : Nat) : State :=
  (s.modTap (fun t => { t with bsr := bits, dr := BitVec.ofNat 84 s.freeVal })).used

/-- EXTEST: while it is selected the GPIO and control outputs follow the boundary register. -/
def execExtest (bits : Nat) (s : State) : Out := .next (s.tapSelect irExtest (fun s => s.boundaryShift bits))

/-- SAMPLE/PRELOAD. -/
def execSamplePreload (bits : Nat) (s : State) : Out := .next (s.tapSelect irSample (fun s => s.boundaryShift bits))

/-- The identification register: revision, part 0x0768, manufacturer 0x2D6. -/
def State.idcode (s : State) : BitVec 84 :=
  BitVec.ofNat 84 (1 + 0x2D6 * 2 + 0x0768 * 2 ^ 12 + s.keeper.fuses.rev.toNat * 2 ^ 28)

/-- IDCODE. -/
def execIdcode (s : State) : Out := .next (s.tapSelect irIdcode (fun s => s.modTap (fun t => { t with dr := s.idcode })))

/-- BYPASS. -/
def execBypass (s : State) : Out := .next s.tapBypass

/-- DBGAUTH: Capture-DR of R534. -/
def execDbgauth (s : State) : Out :=
  .next (s.tapSelect irDbgauth (fun s =>
    let k := s.keeper
    let dr := BitVec.ofNat 84 ((k.outq.headD 0).toNat + 2 ^ 32 * b2n (!k.outq.isEmpty) + 2 ^ 33 * b2n k.msg.isSome)
    s.modTap (fun t => { t with dr := dr })))

/-! DBGACC (R507) -/

/-- Source code 0x62 of die 0 (R508). -/
def dbgSrc : Nat := 0x62

/-- An operation ends without read data: what the data bits then hold the spec does not say, a free value. -/
def State.tapOpen (s : State) (e : Resp) : State :=
  (s.modTap (fun t => { t with op := none, resp := e, data := BitVec.ofNat 32 s.freeVal })).used

/-- An operation of the debug bus master: its answer, or it stays in progress. -/
def State.dbgOp (s : State) (a : Access) (envs : List G6Env) : State :=
  let r := s.access a envs
  match r.resp with
  | none => r.st.modTap (fun t => { t with op := some a })
  | some e =>
    if e = .ok ∧ !a.write then r.st.modTap (fun t => { t with op := none, resp := e, data := BitVec.ofNat 32 (leOf r.data) })
    else r.st.tapOpen e

/-- An operation in progress takes its answer if that has come. -/
def State.dbgPoll (s : State) : State :=
  match s.tap.op with
  | none => s
  | some a => s.dbgOp a []

/-- Capture-DR. With BUSY at 1 the operation has no result yet: RESP and the read data are free values. -/
def State.dbgCapture (s : State) (busy : Bool) : State :=
  let s := s.dbgPoll
  let t := s.tap
  let wait := busy || t.op.isSome
  let low := if wait then s.freeVal % 2 ^ 35 else t.data.toNat + 2 ^ 32 * respCode t.resp
  let dr := BitVec.ofNat 84 (low + 2 ^ 35 * b2n wait + 2 ^ 36 * b2n t.drop)
  let s := s.modTap (fun t => { t with dr := dr, drop := false })
  if wait then s.used else s

/-- DBGACC. -/
def execDbgacc (busy : Bool) (s : State) : Out := .next (s.tapSelect irDbgacc (fun s => s.dbgCapture busy))

/-- The address of an operation. -/
def Tap.next (t : Tap) (addr : BitVec 48) (inc : Bool) : BitVec 48 := if inc then t.addr + 4 else addr

/-- Update-DR with an operation: one that finds BUSY at 1 is dropped; a write in OBSERVE is not performed (16 R540). -/
def State.dbgUpdate (s : State) (addr : BitVec 48) (inc busy write : Bool) (data : Word) (envs : List G6Env) : State :=
  let s := s.dbgPoll
  if busy || s.tap.op.isSome then s.modTap (fun t => { t with drop := true })
  else
    let a := s.tap.next addr inc
    let s := s.modTap (fun t => { t with addr := a })
    if write then
      if s.dbgState = 2 then s.dbgOp (writeAcc dbgSrc a.toNat (leBytes 4 data.toNat) true) envs
      else s.tapOpen .errDenied
    else s.dbgOp (readAcc dbgSrc a.toNat 4 true) envs

/-- DBGACC_READ. -/
def execDbgaccRead (addr : BitVec 48) (inc busy : Bool) (envs : List G6Env) (s : State) : Out :=
  .next (s.tapSelect irDbgacc (fun s => s.dbgUpdate addr inc busy false 0 envs))

/-- DBGACC_WRITE. -/
def execDbgaccWrite (addr : BitVec 48) (data : Word) (inc busy : Bool) (envs : List G6Env) (s : State) : Out :=
  .next (s.tapSelect irDbgacc (fun s => s.dbgUpdate addr inc busy true data envs))

end Sys2Proof.Machine
end

