-- ==== Sys2Proof/Machine/RvDecode.lean ====
section
/-! DEFINITION. Machine/RvDecode.lean: what the bits of a control core's instruction mean: RV64IMAC with Zicsr and
Zifencei, as the RISC-V unprivileged and privileged specifications define them (15_control_cores_debug.md R494;
notes/assumptions/61.md). -/
namespace Sys2Proof.Machine

/-- Integer operations of I and M. -/
inductive Alu where
  | add | sub | sll | slt | sltu | xor | srl | sra | or | and
  | mul | mulh | mulhsu | mulhu | div | divu | rem | remu
deriving DecidableEq, Repr

/-- Read-modify-write operations of A. -/
inductive AmoOp where
  | swap | add | xor | and | or | min | max | minu | maxu
deriving DecidableEq, Repr

/-- An instruction. Registers by number, offsets and immediates sign-extended; `word` marks the 32-bit forms. -/
inductive Rv where
  | lui (rd : Nat) (imm : BitVec 64)
  | auipc (rd : Nat) (imm : BitVec 64)
  | jal (rd : Nat) (off : BitVec 64)
  | jalr (rd rs1 : Nat) (off : BitVec 64)
  | branch (cond rs1 rs2 : Nat) (off : BitVec 64)
  | load (width rd rs1 : Nat) (off : BitVec 64)
  | store (width rs1 rs2 : Nat) (off : BitVec 64)
  | aluImm (op : Alu) (word : Bool) (rd rs1 : Nat) (imm : BitVec 64)
  | aluReg (op : Alu) (word : Bool) (rd rs1 rs2 : Nat)
  | fence (pred : Nat)
  | fenceI
  | ecall
  | ebreak
  | mret
  | wfi
  | csr (f3 rd src n : Nat)
  | lr (word : Bool) (rd rs1 : Nat)
  | sc (word : Bool) (rd rs1 rs2 : Nat)
  | amo (op : AmoOp) (word : Bool) (rd rs1 rs2 : Nat)
  | illegal
deriving DecidableEq, Repr

/-- The low w bits of a number, sign-extended to 64. -/
def sext (w v : Nat) : BitVec 64 := BitVec.ofInt 64 (signedOf w v)

/-! 32-bit encodings -/

def immI (w : Nat) : BitVec 64 := sext 12 (bitsOf w 20 12)
def immS (w : Nat) : BitVec 64 := sext 12 (bitsOf w 7 5 + bitsOf w 25 7 * 32)
def immB (w : Nat) : BitVec 64 :=
  sext 13 (bitsOf w 8 4 * 2 + bitsOf w 25 6 * 32 + bitsOf w 7 1 * 2048 + bitsOf w 31 1 * 4096)
def immU (w : Nat) : BitVec 64 := sext 32 (bitsOf w 12 20 * 4096)
def immJ (w : Nat) : BitVec 64 :=
  sext 21 (bitsOf w 21 10 * 2 + bitsOf w 20 1 * 2048 + bitsOf w 12 8 * 4096 + bitsOf w 31 1 * 1048576)

/-- OP and OP-32 by funct7 and funct3. -/
def aluCode (f7 f3 : Nat) : Option Alu :=
  match f7, f3 with
  | 0, 0 => some .add | 0, 1 => some .sll | 0, 2 => some .slt | 0, 3 => some .sltu
  | 0, 4 => some .xor | 0, 5 => some .srl | 0, 6 => some .or | 0, 7 => some .and
  | 0x20, 0 => some .sub | 0x20, 5 => some .sra
  | 1, 0 => some .mul | 1, 1 => some .mulh | 1, 2 => some .mulhsu | 1, 3 => some .mulhu
  | 1, 4 => some .div | 1, 5 => some .divu | 1, 6 => some .rem | 1, 7 => some .remu
  | _, _ => none

/-- The operations that have a 32-bit form. -/
def Alu.hasWord (op : Alu) : Bool :=
  match op with
  | .add => true | .sub => true | .sll => true | .srl => true | .sra => true
  | .mul => true | .div => true | .divu => true | .rem => true | .remu => true
  | .slt => false | .sltu => false | .xor => false | .or => false | .and => false
  | .mulh => false | .mulhsu => false | .mulhu => false

/-- OP-IMM. -/
def decodeImm (w : Nat) : Rv :=
  let rd := bitsOf w 7 5
  let rs := bitsOf w 15 5
  let sh := w64s (bitsOf w 20 6)
  match bitsOf w 12 3 with
  | 0 => .aluImm .add false rd rs (immI w)
  | 1 => if bitsOf w 26 6 = 0 then .aluImm .sll false rd rs sh else .illegal
  | 2 => .aluImm .slt false rd rs (immI w)
  | 3 => .aluImm .sltu false rd rs (immI w)
  | 4 => .aluImm .xor false rd rs (immI w)
  | 5 => if bitsOf w 26 6 = 0 then .aluImm .srl false rd rs sh
    else if bitsOf w 26 6 = 0x10 then .aluImm .sra false rd rs sh else .illegal
  | 6 => .aluImm .or false rd rs (immI w)
  | _ => .aluImm .and false rd rs (immI w)
where
  /-- A shift amount as an operand. -/
  w64s (n : Nat) : BitVec 64 := BitVec.ofNat 64 n

/-- OP-IMM-32. -/
def decodeImm32 (w : Nat) : Rv :=
  let rd := bitsOf w 7 5
  let rs := bitsOf w 15 5
  let sh := BitVec.ofNat 64 (bitsOf w 20 5)
  match bitsOf w 12 3, bitsOf w 25 7 with
  | 0, _ => .aluImm .add true rd rs (immI w)
  | 1, 0 => .aluImm .sll true rd rs sh
  | 5, 0 => .aluImm .srl true rd rs sh
  | 5, 0x20 => .aluImm .sra true rd rs sh
  | _, _ => .illegal

/-- AMO. -/
def decodeAmo (w : Nat) : Rv :=
  let rd := bitsOf w 7 5
  let rs1 := bitsOf w 15 5
  let rs2 := bitsOf w 20 5
  let word := bitsOf w 12 3 = 2
  let op (o : AmoOp) : Rv := .amo o word rd rs1 rs2
  if bitsOf w 12 3 ≠ 2 ∧ bitsOf w 12 3 ≠ 3 then .illegal
  else
    match bitsOf w 27 5 with
    | 2 => if rs2 = 0 then .lr word rd rs1 else .illegal
    | 3 => .sc word rd rs1 rs2
    | 1 => op .swap
    | 0 => op .add
    | 4 => op .xor
    | 12 => op .and
    | 8 => op .or
    | 16 => op .min
    | 20 => op .max
    | 24 => op .minu
    | 28 => op .maxu
    | _ => .illegal

/-- SYSTEM. -/
def decodeSystem (w : Nat) : Rv :=
  match bitsOf w 12 3 with
  | 0 =>
    if w = 0x73 then .ecall
    else if w = 0x100073 then .ebreak
    else if w = 0x30200073 then .mret
    else if w = 0x10500073 then .wfi
    else .illegal
  | 4 => .illegal
  | f => .csr f (bitsOf w 7 5) (bitsOf w 15 5) (bitsOf w 20 12)

/-- A 32-bit instruction. -/
def decode32 (w : Nat) : Rv :=
  let rd := bitsOf w 7 5
  let f3 := bitsOf w 12 3
  let rs1 := bitsOf w 15 5
  let rs2 := bitsOf w 20 5
  match bitsOf w 0 7 with
  | 0x37 => .lui rd (immU w)
  | 0x17 => .auipc rd (immU w)
  | 0x6F => .jal rd (immJ w)
  | 0x67 => if f3 = 0 then .jalr rd rs1 (immI w) else .illegal
  | 0x63 => if f3 = 2 ∨ f3 = 3 then .illegal else .branch f3 rs1 rs2 (immB w)
  | 0x03 => if f3 = 7 then .illegal else .load f3 rd rs1 (immI w)
  | 0x23 => if 3 < f3 then .illegal else .store f3 rs1 rs2 (immS w)
  | 0x13 => decodeImm w
  | 0x1B => decodeImm32 w
  | 0x33 => match aluCode (bitsOf w 25 7) f3 with | some op => .aluReg op false rd rs1 rs2 | none => .illegal
  | 0x3B => match aluCode (bitsOf w 25 7) f3 with
    | some op => if op.hasWord then .aluReg op true rd rs1 rs2 else .illegal
    | none => .illegal
  | 0x0F => if f3 = 0 then .fence (bitsOf w 24 4) else if f3 = 1 then .fenceI else .illegal
  | 0x73 => decodeSystem w
  | 0x2F => decodeAmo w
  | _ => .illegal

/-! 16-bit encodings -/

/-- The register of a three-bit field. -/
def creg (w lo : Nat) : Nat := 8 + bitsOf w lo 3

def cimm6 (w : Nat) : BitVec 64 := sext 6 (bitsOf w 2 5 + bitsOf w 12 1 * 32)
def cshamt (w : Nat) : BitVec 64 := BitVec.ofNat 64 (bitsOf w 2 5 + bitsOf w 12 1 * 32)
def cimmJ (w : Nat) : BitVec 64 :=
  sext 12 (bitsOf w 3 3 * 2 + bitsOf w 11 1 * 16 + bitsOf w 2 1 * 32 + bitsOf w 7 1 * 64 + bitsOf w 6 1 * 128 +
    bitsOf w 9 2 * 256 + bitsOf w 8 1 * 1024 + bitsOf w 12 1 * 2048)
def cimmB (w : Nat) : BitVec 64 :=
  sext 9 (bitsOf w 3 2 * 2 + bitsOf w 10 2 * 8 + bitsOf w 2 1 * 32 + bitsOf w 5 2 * 64 + bitsOf w 12 1 * 256)
def cimm16sp (w : Nat) : BitVec 64 :=
  sext 10 (bitsOf w 6 1 * 16 + bitsOf w 2 1 * 32 + bitsOf w 5 1 * 64 + bitsOf w 3 2 * 128 + bitsOf w 12 1 * 512)
def cimm4spn (w : Nat) : Nat := bitsOf w 6 1 * 4 + bitsOf w 5 1 * 8 + bitsOf w 11 2 * 16 + bitsOf w 7 4 * 64
def cimmW (w : Nat) : BitVec 64 := BitVec.ofNat 64 (bitsOf w 6 1 * 4 + bitsOf w 10 3 * 8 + bitsOf w 5 1 * 64)
def cimmD (w : Nat) : BitVec 64 := BitVec.ofNat 64 (bitsOf w 10 3 * 8 + bitsOf w 5 2 * 64)
def cimmLwsp (w : Nat) : BitVec 64 := BitVec.ofNat 64 (bitsOf w 4 3 * 4 + bitsOf w 12 1 * 32 + bitsOf w 2 2 * 64)
def cimmLdsp (w : Nat) : BitVec 64 := BitVec.ofNat 64 (bitsOf w 5 2 * 8 + bitsOf w 12 1 * 32 + bitsOf w 2 3 * 64)
def cimmSwsp (w : Nat) : BitVec 64 := BitVec.ofNat 64 (bitsOf w 9 4 * 4 + bitsOf w 7 2 * 64)
def cimmSdsp (w : Nat) : BitVec 64 := BitVec.ofNat 64 (bitsOf w 10 3 * 8 + bitsOf w 7 3 * 64)

/-- Quadrant 0. -/
def decodeC0 (w : Nat) : Rv :=
  match bitsOf w 13 3 with
  | 0 => if cimm4spn w = 0 then .illegal else .aluImm .add false (creg w 2) 2 (BitVec.ofNat 64 (cimm4spn w))
  | 2 => .load 2 (creg w 2) (creg w 7) (cimmW w)
  | 3 => .load 3 (creg w 2) (creg w 7) (cimmD w)
  | 6 => .store 2 (creg w 7) (creg w 2) (cimmW w)
  | 7 => .store 3 (creg w 7) (creg w 2) (cimmD w)
  | _ => .illegal

/-- Quadrant 1, funct3 = 4. -/
def decodeC1Alu (w : Nat) : Rv :=
  let rd := creg w 7
  let rs := creg w 2
  match bitsOf w 10 2 with
  | 0 => .aluImm .srl false rd rd (cshamt w)
  | 1 => .aluImm .sra false rd rd (cshamt w)
  | 2 => .aluImm .and false rd rd (cimm6 w)
  | _ =>
    match bitsOf w 12 1, bitsOf w 5 2 with
    | 0, 0 => .aluReg .sub false rd rd rs
    | 0, 1 => .aluReg .xor false rd rd rs
    | 0, 2 => .aluReg .or false rd rd rs
    | 0, 3 => .aluReg .and false rd rd rs
    | 1, 0 => .aluReg .sub true rd rd rs
    | 1, 1 => .aluReg .add true rd rd rs
    | _, _ => .illegal

/-- Quadrant 1. -/
def decodeC1 (w : Nat) : Rv :=
  let rd := bitsOf w 7 5
  match bitsOf w 13 3 with
  | 0 => .aluImm .add false rd rd (cimm6 w)
  | 1 => if rd = 0 then .illegal else .aluImm .add true rd rd (cimm6 w)
  | 2 => .aluImm .add false rd 0 (cimm6 w)
  | 3 =>
    if rd = 2 then if cimm16sp w = 0 then .illegal else .aluImm .add false 2 2 (cimm16sp w)
    else if cimm6 w = 0 then .illegal else .lui rd (cimm6 w <<< 12)
  | 4 => decodeC1Alu w
  | 5 => .jal 0 (cimmJ w)
  | 6 => .branch 0 (creg w 7) 0 (cimmB w)
  | _ => .branch 1 (creg w 7) 0 (cimmB w)

/-- Quadrant 2. -/
def decodeC2 (w : Nat) : Rv :=
  let rd := bitsOf w 7 5
  let rs2 := bitsOf w 2 5
  match bitsOf w 13 3 with
  | 0 => .aluImm .sll false rd rd (cshamt w)
  | 2 => if rd = 0 then .illegal else .load 2 rd 2 (cimmLwsp w)
  | 3 => if rd = 0 then .illegal else .load 3 rd 2 (cimmLdsp w)
  | 4 =>
    if bitsOf w 12 1 = 0 then
      if rs2 = 0 then if rd = 0 then .illegal else .jalr 0 rd 0
      else .aluReg .add false rd 0 rs2
    else if rs2 = 0 then if rd = 0 then .ebreak else .jalr 1 rd 0
    else .aluReg .add false rd rd rs2
  | 6 => .store 2 2 rs2 (cimmSwsp w)
  | 7 => .store 3 2 rs2 (cimmSdsp w)
  | _ => .illegal

/-- A 16-bit instruction. -/
def decode16 (w : Nat) : Rv :=
  match w % 4 with
  | 0 => decodeC0 w
  | 1 => decodeC1 w
  | _ => decodeC2 w

/-- An instruction has 32 bits when its lowest two bits are 1. -/
def rvLen (w : Nat) : Nat := if w % 4 = 3 then 4 else 2

/-- The instruction of a bit pattern. -/
def rvDecode (w : Nat) : Rv := if w % 4 = 3 then decode32 w else decode16 w

/-! Results -/

/-- The result of a 64-bit operation. -/
def Alu.run (op : Alu) (a b : BitVec 64) : BitVec 64 :=
  match op with
  | .add => a + b
  | .sub => a - b
  | .sll => a <<< (b.toNat % 64)
  | .slt => if a.toInt < b.toInt then 1 else 0
  | .sltu => if a.toNat < b.toNat then 1 else 0
  | .xor => a ^^^ b
  | .srl => a >>> (b.toNat % 64)
  | .sra => a.sshiftRight (b.toNat % 64)
  | .or => a ||| b
  | .and => a &&& b
  | .mul => a * b
  | .mulh => BitVec.ofInt 64 (a.toInt * b.toInt / 2 ^ 64)
  | .mulhsu => BitVec.ofInt 64 (a.toInt * (b.toNat : Int) / 2 ^ 64)
  | .mulhu => BitVec.ofNat 64 (a.toNat * b.toNat / 2 ^ 64)
  | .div => if b = 0 then BitVec.allOnes 64 else a.sdiv b
  | .divu => if b = 0 then BitVec.allOnes 64 else a / b
  | .rem => if b = 0 then a else a.srem b
  | .remu => if b = 0 then a else a % b

/-- The result of a 32-bit operation. -/
def Alu.run32 (op : Alu) (a b : BitVec 32) : BitVec 32 :=
  match op with
  | .sub => a - b
  | .sll => a <<< (b.toNat % 32)
  | .srl => a >>> (b.toNat % 32)
  | .sra => a.sshiftRight (b.toNat % 32)
  | .mul => a * b
  | .div => if b = 0 then BitVec.allOnes 32 else a.sdiv b
  | .divu => if b = 0 then BitVec.allOnes 32 else a / b
  | .rem => if b = 0 then a else a.srem b
  | .remu => if b = 0 then a else a % b
  | _ => a + b

/-- An operation of either width: the 32-bit forms sign-extend their result. -/
def Alu.apply (op : Alu) (word : Bool) (a b : BitVec 64) : BitVec 64 :=
  if word then (op.run32 (a.setWidth 32) (b.setWidth 32)).signExtend 64 else op.run a b

/-- A branch is taken. -/
def branchTaken (cond : Nat) (a b : BitVec 64) : Bool :=
  match cond with
  | 0 => a == b
  | 1 => a != b
  | 4 => decide (a.toInt < b.toInt)
  | 5 => decide (b.toInt ≤ a.toInt)
  | 6 => decide (a.toNat < b.toNat)
  | _ => decide (b.toNat ≤ a.toNat)

/-- What an AMO stores, of the old value and its operand. -/
def AmoOp.run (op : AmoOp) (a b : BitVec 64) : BitVec 64 :=
  match op with
  | .swap => b
  | .add => a + b
  | .xor => a ^^^ b
  | .and => a &&& b
  | .or => a ||| b
  | .min => if a.toInt ≤ b.toInt then a else b
  | .max => if a.toInt ≤ b.toInt then b else a
  | .minu => if a.toNat ≤ b.toNat then a else b
  | .maxu => if a.toNat ≤ b.toNat then b else a

/-- The value a load leaves in its register, of the bytes read as a number: widths 4 to 6 extend with zeros. -/
def loadValue (width v : Nat) : BitVec 64 := if 4 ≤ width then BitVec.ofNat 64 v else sext (8 * 2 ^ width) v

end Sys2Proof.Machine
end

