-- ==== Sys2Proof/Machine/Rv.lean ====
section
/-! DEFINITION. Machine/Rv.lean: a control core executes an instruction: traps, protection, caches, uncached accesses,
atomics, breakpoints and steps (15_control_cores_debug.md R494 to R500, R511 to R514; what the RISC-V specifications
leave to an implementation: notes/assumptions/61.md). -/
namespace Sys2Proof.Machine

/-! ### Privilege and traps -/

def State.mstatus (s : State) (m : Fin 12) : Nat := ((s.cr m).csrRaw 0x300).toNat

/-- A CSR takes a value as the hardware writes it. -/
def State.putCsr (s : State) (m : Fin 12) (n : Nat) (v : Nat) : State := s.modCr m (fun c => c.setCsr n (w64 v))

/-- The core enters its trap handler: `irq` marks an interrupt, `code` its number or the exception's. -/
def State.trap (s : State) (m : Fin 12) (irq : Bool) (code tval : Nat) : State :=
  let c := s.cr m
  let st := s.mstatus m
  let tv := (c.csrRaw 0x305).toNat
  let st' := (st &&& 0x220000) + 128 * b2n (bitOf st 3) + (if c.machine then 0x1800 else 0)
  let s := s.putCsr m 0x300 st'
  let s := s.putCsr m 0x341 (c.pc.toNat / 2 * 2)
  let s := s.putCsr m 0x342 (code + (if irq then 2 ^ 63 else 0))
  let s := s.putCsr m 0x343 tval
  let pc := tv / 4 * 4 + (if irq ∧ tv % 4 = 1 then 4 * code else 0)
  s.modCr m (fun c => { c with pc := w64 pc, machine := true })

/-- MRET: MIE from MPIE, the mode from MPP, MPP to user mode; MPRV falls on the way to user mode. -/
def State.mret (s : State) (m : Fin 12) : State :=
  let st := s.mstatus m
  let up := bitsOf st 11 2 = 3
  let keep := if up then 0x220000 else 0x200000
  let s := s.putCsr m 0x300 ((st &&& keep) + 8 * b2n (bitOf st 7) + 128)
  s.modCr m (fun c => { c with pc := c.csrRaw 0x341, machine := up })

/-- The mode that loads and stores use: with MPRV the one of MPP. -/
def State.dataMachine (s : State) (m : Fin 12) : Bool :=
  if (s.cr m).machine && bitOf (s.mstatus m) 17 then bitsOf (s.mstatus m) 11 2 == 3 else (s.cr m).machine

/-- The interrupt a core takes: external, software, timer, in that order. -/
def State.irqTaken (s : State) (m : Fin 12) : Option Nat :=
  let on := s.mip m &&& ((s.cr m).csrRaw 0x304).toNat
  if (s.cr m).machine && !bitOf (s.mstatus m) 3 then none
  else if bitOf on 11 then some 11 else if bitOf on 3 then some 3 else if bitOf on 7 then some 7 else none

/-! ### Physical memory protection (R495) -/

/-- Region i holds an address. -/
def Core.pmpHolds (c : Core) (i a : Nat) : Bool :=
  let v := (c.csrRaw (0x3B0 + i)).toNat
  match bitsOf (c.pmpCfg i) 3 2 with
  | 1 =>
    let lo := if i = 0 then 0 else (c.csrRaw (0x3B0 + i - 1)).toNat / 16 * 64
    decide (lo ≤ a ∧ a < v / 16 * 64)
  | 3 =>
    let y := v / 8 * 8 + 7
    let low := y ^^^ (y + 1)
    decide (a / 4 ||| low = y ||| low)
  | _ => false

/-- The regions allow an access: bit 0 read, 1 write, 2 execute. Every access lies in one 64-byte granule. -/
def Core.pmpAllows (c : Core) (machine : Bool) (bit a : Nat) : Bool :=
  match (List.range 16).find? (fun i => c.pmpHolds i a) with
  | none => machine
  | some i => if machine && !bitOf (c.pmpCfg i) 7 then true else bitOf (c.pmpCfg i) bit

/-! ### Breakpoints (R514) -/

/-- The lowest breakpoint of a kind (the bit of its control register) that matches an address. -/
def State.bpHit (s : State) (m : Fin 12) (kind : Fld) (a : Nat) : Option Nat :=
  (List.range 8).find? (fun b =>
    let k := min 16 (s.fld (R.DBG_BP_CTRL m b) F.DBG_BP_CTRL_MASK)
    s.flag (R.DBG_BP_CTRL m b) kind &&
    a / 2 ^ k == s.rdPair (R.DBG_BP_ADDR_LO m b) (R.DBG_BP_ADDR_HI m b) / 2 ^ k)

/-- A breakpoint halts the core before the access, at the instruction. -/
def State.bpHalt (s : State) (m : Fin 12) (b : Nat) : State :=
  (s.setF (R.DBG_STAT m) F.DBG_STAT_BPHIT b).haltCore m 2

/-! ### The cacheable window and the L2 (R496, R497) -/

def coreDie (m : Fin 12) : Fin 6 := ⟨m.val / 2, by omega⟩

/-- An address lies in the die's cacheable window. -/
def State.cached (s : State) (d a : Nat) : Bool :=
  let b := s.fld (R.CC_CWIN d) F.CC_CWIN_BASE
  decide (a < 2 ^ 40 ∧ b ≤ a / 2 ^ 28 ∧ a / 2 ^ 28 < b + s.fld (R.CC_CWIN d) F.CC_CWIN_SIZE)

/-- A line the L2 holds. -/
def State.l2Line (s : State) (d : Fin 6) (n : Nat) : Option (Line512 × Bool) := Sparse.find (s.l2[d]).lines n

def State.l2Put (s : State) (d : Fin 6) (n : Nat) (x : Line512 × Bool) : State :=
  let l := s.l2[d]
  s.setL2 d { l with lines := Sparse.ins (Sparse.del l.lines n) n x }

/-- A line leaves the L2, written back when dirty, and the L1 caches of both cores with it. -/
def State.l2Evict (s : State) (m : Fin 12) (n : Nat) (env : G6Env) : State :=
  let d := coreDie m
  match s.l2Line d n with
  | none => s
  | some x =>
    let s := if x.2 then (s.g6Access (coreSrc m) (64 * n) (.full x.1) env).st else s
    let l := s.l2[d]
    let s := s.setL2 d { l with lines := Sparse.del l.lines n }
    let drop (c : Core) : Core := { c with l1i := Sparse.del c.l1i n, l1d := c.l1d.erase n }
    (s.modCr m drop).modCr (peer m) drop

/-- Lines of the L2 (2 MB) and of an L1 cache (64 KB). -/
def l2Lines : Nat := 32768
def l1Lines : Nat := 1024

/-- A full L2 lets a line go before another comes in; which one the spec leaves open. -/
def State.l2Room (s : State) (m : Fin 12) : State :=
  let l := (s.l2[coreDie m]).lines
  if l.length < l2Lines then s
  else
    match l[s.freeVal % l.length]? with
    | none => s
    | some e => s.used.l2Evict m e.1 G6Env.none_

/-- A line comes into the L2; the response of the read that a miss makes. -/
def State.l2Fill (s : State) (m : Fin 12) (n : Nat) (env : G6Env) : Resp × State :=
  match s.l2Line (coreDie m) n with
  | some _ => (.ok, s)
  | none =>
    let r := (s.tally (m.val / 2) 0xA4 1).g6Access (coreSrc m) (64 * n) (.read (2 ^ 64 - 1)) env
    (r.resp, if r.resp = .ok then (r.st.l2Room m).l2Put (coreDie m) n (r.data, false) else r.st)

/-- A line comes into the L1 data cache; from a full one another goes. -/
def State.l1dTouch (s : State) (m : Fin 12) (n : Nat) : State :=
  let l := (s.cr m).l1d
  if l.contains n then s
  else
    let l := if l.length < l1Lines then l else l.eraseIdx (s.freeVal % l.length)
    let s := if (s.cr m).l1d.length < l1Lines then s else s.used
    (s.tally (m.val / 2) (0xA2 + m.val % 2) 1).modCr m (fun c => { c with l1d := n :: l })

/-- A line comes into the L1 instruction cache; from a full one another goes. -/
def State.l1iPut (s : State) (m : Fin 12) (n : Nat) (line : Line512) : State :=
  let l := Sparse.del (s.cr m).l1i n
  if l.length < l1Lines then s.modCr m (fun c => { c with l1i := Sparse.ins l n line })
  else
    let l := l.eraseIdx (s.freeVal % l.length)
    s.used.modCr m (fun c => { c with l1i := Sparse.ins l n line })

/-- The bytes of a cached address. -/
def State.l2Read (s : State) (d : Fin 6) (a size : Nat) : Nat :=
  match s.l2Line d (a / 64) with
  | some x => bitsOf x.1.toNat (8 * (a % 64)) (8 * size)
  | none => 0

/-- Bytes of a cached address are written; the other core of the die loses a reservation of that line (R500). -/
def State.l2Write (s : State) (m : Fin 12) (a size v : Nat) : State :=
  let n := a / 64
  match s.l2Line (coreDie m) n with
  | none => s
  | some x =>
    let o := a % 64
    let line := mergeBytes x.1 (BitVec.ofNat 512 (v % 2 ^ (8 * size) * 2 ^ (8 * o))) ((2 ^ size - 1) * 2 ^ o)
    let s := s.l2Put (coreDie m) n (line, true)
    if (s.cr (peer m)).resv = some n then s.modCr (peer m) (fun c => { c with resv := none }) else s

/-- The evictions before an instruction: an entry e names line e / 3 of the L2 (e mod 3 = 0), of the L1 instruction cache
(1), of the L1 data cache (2). Which lines a cache evicts, and when, the spec leaves open. -/
def State.evictAll (s : State) (m : Fin 12) (l : List Nat) (envs : List G6Env) : State :=
  match l with
  | [] => s
  | e :: rest =>
    let n := e / 3
    let s := if e % 3 = 0 then s.l2Evict m n (envs.headD G6Env.none_)
      else if e % 3 = 1 then s.modCr m (fun c => { c with l1i := Sparse.del c.l1i n })
      else s.modCr m (fun c => { c with l1d := c.l1d.erase n })
    s.evictAll m rest envs.tail

/-! ### Accesses -/

/-- What an access of an instruction gives: a value, an exception, no answer yet, a breakpoint. -/
inductive MemRes where
  | val (v : Nat)
  | exc (code : Nat)
  | wait
  | bp (b : Nat)
deriving DecidableEq, Repr

/-- The checks before a load (`store` false) or a store: breakpoint, alignment, the address space, protection. -/
def State.dataCheck (s : State) (m : Fin 12) (store : Bool) (a size : Nat) : Option MemRes :=
  match s.bpHit m (if store then F.DBG_BP_CTRL_W else F.DBG_BP_CTRL_R) a with
  | some b => some (.bp b)
  | none =>
    if a % size ≠ 0 then some (.exc (if store then 6 else 4))
    else if 2 ^ 48 ≤ a ∨ !(s.cr m).pmpAllows (s.dataMachine m) (b2n store) a then some (.exc (if store then 7 else 5))
    else none

/-- A load. -/
def State.coreLoad (s : State) (m : Fin 12) (a size : Nat) (envs : List G6Env) : MemRes × State :=
  match s.dataCheck m false a size with
  | some r => (r, s)
  | none =>
    if s.cached (m.val / 2) a then
      let r := s.l2Fill m (a / 64) (envs.headD G6Env.none_)
      if r.1 = .ok then (.val (r.2.l2Read (coreDie m) a size), r.2.l1dTouch m (a / 64)) else (.exc 5, r.2)
    else
      let r := s.access (readAcc (coreSrc m) a size false) envs
      match r.resp with
      | none => (.wait, r.st)
      | some .ok => (.val (leOf r.data), r.st)
      | some _ => (.exc 5, r.st)

/-- The posted writes whose response has come (R498): an error waits for its report. -/
def State.pollPosted (s : State) (m : Fin 12) : State :=
  forEach (s.cr m).flight (fun acc s =>
    let r := s.access acc []
    match r.resp with
    | none => r.st
    | some e => r.st.modCr m (fun c => { c with
        flight := c.flight.erase acc, posted := if e = .ok then c.posted else c.posted ++ [(acc.addr, e)] })) s

/-- A store. A cached one whose line cannot be read in is a store access fault; an uncached one is posted: the core goes on
before its response, and an error response waits for its report (R498). At a full point it waits (12 R413), and so it does
behind an equal one. -/
def State.coreStore (s : State) (m : Fin 12) (a size v : Nat) (envs : List G6Env) : MemRes × State :=
  match s.dataCheck m true a size with
  | some r => (r, s)
  | none =>
    if s.cached (m.val / 2) a then
      let r := s.l2Fill m (a / 64) (envs.headD G6Env.none_)
      if r.1 = .ok then (.val 0, r.2.l2Write m a size v) else (.exc 7, r.2)
    else
      let acc := writeAcc (coreSrc m) a (leBytes size v) false
      if s.mustWait acc ∨ (s.cr m).flight.contains acc then (.wait, s)
      else
      let r := s.access acc envs
      match r.resp with
      | none => (.val 0, r.st.modCr m (fun c => { c with flight := c.flight ++ [acc] }))
      | some .ok => (.val 0, r.st)
      | some e => (.val 0, r.st.modCr m (fun c => { c with posted := c.posted ++ [(a, e)] }))

/-- LR, SC and the AMOs on an uncached address: only an AMO of a G6 address is accepted, as one write at its port
(R500). -/
def State.uncachedAmo (s : State) (m : Fin 12) (a size : Nat) (f : Nat → Nat) (envs : List G6Env) : MemRes × State :=
  if a < 2 ^ 40 then
    let old := leOf (s.access (readAcc (coreSrc m) a size false) envs).data
    let r := s.access (writeAcc (coreSrc m) a (leBytes size (f old)) false) envs
    match r.resp with
    | none => (.wait, r.st)
    | some .ok => (.val old, r.st)
    | some _ => (.exc 7, r.st)
  else (.exc 7, s)

/-- The checks before an atomic: LR reads, the others write (an AMO also reads, and protection without R has no W). -/
def State.amoCheck (s : State) (m : Fin 12) (lr : Bool) (a size : Nat) : Option MemRes :=
  match s.bpHit m F.DBG_BP_CTRL_R a with
  | some b => some (.bp b)
  | none => s.dataCheck m (!lr) a size

/-- LR. -/
def State.coreLr (s : State) (m : Fin 12) (a size : Nat) (envs : List G6Env) : MemRes × State :=
  match s.amoCheck m true a size with
  | some r => (r, s)
  | none =>
    if s.cached (m.val / 2) a then
      let r := s.l2Fill m (a / 64) (envs.headD G6Env.none_)
      if r.1 = .ok then
        (.val (r.2.l2Read (coreDie m) a size), (r.2.l1dTouch m (a / 64)).modCr m (fun c => { c with resv := some (a / 64) }))
      else (.exc 5, r.2)
    else (.exc 7, s)

/-- SC: 0 where the reservation held and the store took place, else 1; the reservation goes. -/
def State.coreSc (s : State) (m : Fin 12) (a size v : Nat) (envs : List G6Env) : MemRes × State :=
  match s.dataCheck m true a size with
  | some r => (r, s)
  | none =>
    if s.cached (m.val / 2) a then
      let held := (s.cr m).resv == some (a / 64)
      let s := s.modCr m (fun c => { c with resv := none })
      if held then
        let r := s.l2Fill m (a / 64) (envs.headD G6Env.none_)
        if r.1 = .ok then (.val 0, r.2.l2Write m a size v) else (.exc 7, r.2)
      else (.val 1, s)
    else (.exc 7, s)

/-- An AMO: the old value. -/
def State.coreAmo (s : State) (m : Fin 12) (a size : Nat) (f : Nat → Nat) (envs : List G6Env) : MemRes × State :=
  match s.amoCheck m false a size with
  | some r => (r, s)
  | none =>
    if s.cached (m.val / 2) a then
      let r := s.l2Fill m (a / 64) (envs.headD G6Env.none_)
      if r.1 = .ok then
        let old := r.2.l2Read (coreDie m) a size
        (.val old, (r.2.l1dTouch m (a / 64)).l2Write m a size (f old))
      else (.exc 7, r.2)
    else s.uncachedAmo m a size f envs

/-! ### Fetch (R499) -/

/-- Two bytes at an instruction address; `error true` where the fetch still waits for its answer. -/
def State.fetchHalf (s : State) (m : Fin 12) (a : Nat) (env : G6Env) : Except Bool Nat × State :=
  if 2 ^ 40 ≤ a ∨ !(s.cr m).pmpAllows (s.cr m).machine 2 a then (.error false, s)
  else if s.cached (m.val / 2) a then
    match Sparse.find (s.cr m).l1i (a / 64) with
    | some l => (.ok (bitsOf l.toNat (8 * (a % 64)) 16), s)
    | none =>
      let r := s.l2Fill m (a / 64) env
      if r.1 = .ok then
        let line := ((r.2.l2Line (coreDie m) (a / 64)).map (·.1)).getD 0
        let s := r.2.l1iPut m (a / 64) line
        (.ok (bitsOf line.toNat (8 * (a % 64)) 16), s)
      else (.error false, r.2)
  else
    let r := s.access (readAcc (coreSrc m) a 2 false) [env]
    (if r.resp = some .ok then .ok (leOf r.data) else .error r.resp.isNone, r.st)

/-- The instruction at the program counter: its bits, or the exception and its address, or neither while the fetch waits. -/
def State.fetchRv (s : State) (m : Fin 12) (envs : List G6Env) : Except (Option (Nat × Nat)) Nat × State :=
  let pc := (s.cr m).pc.toNat
  if pc % 2 = 1 then (.error (some (0, pc)), s)
  else
    let lo := s.fetchHalf m pc (envs.headD G6Env.none_)
    match lo.1 with
    | .error w => (.error (if w then none else some (1, pc)), lo.2)
    | .ok w =>
      if w % 4 = 3 then
        let hi := lo.2.fetchHalf m ((pc + 2) % 2 ^ 64) (envs.getD 1 G6Env.none_)
        match hi.1 with
        | .error v => (.error (if v then none else some (1, (pc + 2) % 2 ^ 64)), hi.2)
        | .ok h => (.ok (w + 65536 * h), hi.2)
      else (.ok w, lo.2)

/-! ### Instructions -/

/-- minstret counts, unless mcountinhibit stops it. -/
def State.instret (s : State) (m : Fin 12) : State :=
  if bitOf ((s.cr m).csrRaw 0x320).toNat 2 then s else s.modCr m (fun c => c.setCsr 0xB02 (c.csrRaw 0xB02 + 1))

/-- The monitor's count of retired instructions (18 R574). -/
def State.retiredEvent (s : State) (m : Fin 12) : State := s.tally (m.val / 2) (0xA0 + m.val % 2) 1

/-- An instruction has completed: it counts as retired; one that writes minstret does not count there. -/
def State.retired (s : State) (m : Fin 12) (count : Bool) : State :=
  if count then (s.retiredEvent m).instret m else s.retiredEvent m

/-- The core goes on at an address, with a register written. -/
def State.goes (s : State) (m : Fin 12) (pc : BitVec 64) (rd : Nat) (v : BitVec 64) : State :=
  s.modCr m (fun c => { c.setReg rd v with pc := pc })

/-- A CSR instruction may access a CSR: it exists, the mode has the right, a write is not to a read-only one, and user
mode reads counters that mcounteren lets it. -/
def State.csrAllowed (s : State) (m : Fin 12) (n : Nat) (write : Bool) : Bool :=
  let c := s.cr m
  csrExists n && (c.machine || bitsOf n 8 2 == 0) && !(write && bitsOf n 10 2 == 3) &&
  (c.machine || !decide (0xC00 ≤ n ∧ n < 0xC20) || bitOf (c.csrRaw 0x306).toNat (n - 0xC00))

/-- CSRRW, CSRRS, CSRRC and their immediate forms (funct3 5 to 7). -/
def State.csrInstr (s : State) (m : Fin 12) (f3 rd src n : Nat) (next : BitVec 64) : Option State :=
  let x := if 4 ≤ f3 then w64 src else (s.cr m).reg src
  let write := f3 % 4 = 1 ∨ src ≠ 0
  let read := f3 % 4 ≠ 1 ∨ rd ≠ 0
  if s.csrAllowed m n write then
    let old := s.csrRead m n
    let new := match f3 % 4 with
      | 1 => x
      | 2 => old ||| x
      | _ => old &&& ~~~x
    let t := if read then s.csrTouch n else s
    let t := t.retired m (!(decide write && n == 0xB02))
    let t := if write then t.modCr m (fun c => c.csrWrite n new) else t
    some (t.goes m next (if read then rd else 0) old)
  else none

/-- An access has its answer or waits for it: `pre` is the core as it was, which a wait and an exception return to, so
that what the access did to the core itself stays only when the instruction completes. -/
def State.memEnd (r : MemRes × State) (m : Fin 12) (pre : Core) (bits tval : Nat) (k : Nat → State → State) : State :=
  match r.1 with
  | .val v => k v r.2
  | .exc c => (r.2.modCr m (fun _ => pre)).trap m false c tval
  | .wait => r.2.modCr m (fun _ => { pre with waiting := some bits })
  | .bp b => (r.2.modCr m (fun _ => pre)).bpHalt m b

/-- The machine as a store's access finds it: the instruction has moved on, so that a store that resets its own core or
the device leaves that reset standing. -/
def State.ahead (s : State) (m : Fin 12) (next : BitVec 64) : State := (s.instret m).goes m next 0 0

/-- EBREAK halts (R511). -/
def State.ebreakHalts (s : State) (m : Fin 12) : Bool :=
  s.flag (R.DBG_CTRL m) (if (s.cr m).machine then F.DBG_CTRL_EBREAKM else F.DBG_CTRL_EBREAKU)

/-- WFI: the core waits unless an enabled interrupt is pending; in user mode TW makes it illegal. -/
def State.wfi (s : State) (m : Fin 12) (next : BitVec 64) : State :=
  let t := (s.retired m true).goes m next 0 0
  if t.mip m &&& ((t.cr m).csrRaw 0x304).toNat = 0 then t.setCc m 3 else t

/-- One instruction, fetched and decoded. -/
def State.execRv (s : State) (m : Fin 12) (bits : Nat) (envs : List G6Env) : State :=
  let c := s.cr m
  let pre := c
  let pc := c.pc
  let next := pc + w64 (rvLen bits)
  let done (rd : Nat) (v : BitVec 64) : State := (s.retired m true).goes m next rd v
  let bad : State := s.trap m false 2 bits
  let size (word : Bool) : Nat := if word then 4 else 8
  let ext (word : Bool) (v : Nat) : BitVec 64 := if word then sext 32 v else w64 v
  match rvDecode bits with
  | .lui rd imm => done rd imm
  | .auipc rd imm => done rd (pc + imm)
  | .jal rd off => (s.retired m true).goes m (pc + off) rd next
  | .jalr rd rs1 off => (s.retired m true).goes m ((c.reg rs1 + off) &&& ~~~1) rd next
  | .branch cond rs1 rs2 off =>
    (s.retired m true).goes m (if branchTaken cond (c.reg rs1) (c.reg rs2) then pc + off else next) 0 0
  | .load w rd rs1 off =>
    let a := (c.reg rs1 + off).toNat
    State.memEnd (s.coreLoad m a (2 ^ (w % 4)) envs) m pre bits a
      (fun v t => (t.retired m true).goes m next rd (loadValue w v))
  | .store w rs1 rs2 off =>
    let a := (c.reg rs1 + off).toNat
    let u := s.pollPosted m
    State.memEnd ((u.ahead m next).coreStore m a (2 ^ w) (c.reg rs2).toNat envs) m (u.cr m) bits a (fun _ t => t.retiredEvent m)
  | .aluImm op word rd rs1 imm => done rd (op.apply word (c.reg rs1) imm)
  | .aluReg op word rd rs1 rs2 => done rd (op.apply word (c.reg rs1) (c.reg rs2))
  | .fence pred =>
    let u := s.pollPosted m
    if !bitOf pred 0 then done 0 0
    else if (u.cr m).posted.isEmpty && (u.cr m).flight.isEmpty then (u.retired m true).goes m next 0 0
    else u.modCr m (fun c => { c with waiting := some bits })
  | .fenceI => (done 0 0).modCr m (fun c => { c with l1i := [] })
  | .ecall => s.trap m false (if c.machine then 11 else 8) 0
  | .ebreak =>
    if s.ebreakHalts m then (s.goes m next 0 0).haltCore m 3
    else s.trap m false 3 pc.toNat
  | .mret => if c.machine then (s.retired m true).mret m else bad
  | .wfi => if !c.machine ∧ bitOf (s.mstatus m) 21 then bad else s.wfi m next
  | .csr f3 rd src n => (s.csrInstr m f3 rd src n next).getD bad
  | .lr word rd rs1 =>
    let a := (c.reg rs1).toNat
    State.memEnd (s.coreLr m a (size word) envs) m pre bits a (fun v t => (t.retired m true).goes m next rd (ext word v))
  | .sc word rd rs1 rs2 =>
    let a := (c.reg rs1).toNat
    State.memEnd (s.coreSc m a (size word) (c.reg rs2).toNat envs) m pre bits a
      (fun v t => (t.retired m true).goes m next rd (w64 v))
  | .amo op word rd rs1 rs2 =>
    let a := (c.reg rs1).toNat
    let f (v : Nat) : Nat := (op.run (ext word v) (ext word (c.reg rs2).toNat)).toNat
    State.memEnd (s.coreAmo m a (size word) f envs) m pre bits a (fun v t => (t.retired m true).goes m next rd (ext word v))
  | .illegal => bad

/-! ### One command -/

/-- A core executes: started, in RUN, its device and die up and out of SLEEP. -/
def State.coreRuns (s : State) (m : Fin 12) : Bool :=
  s.flag (R.CC_CTRL m) F.CC_CTRL_RUN && s.ccState m == 1 && s.power.up && !s.inReset && !s.power.slept.isSome &&
  !s.dieDown[coreDie m]

/-- A core in WFI goes on once an enabled interrupt is pending. -/
def State.wfiEnds (s : State) (m : Fin 12) : State :=
  if s.ccState m = 3 ∧ s.mip m &&& ((s.cr m).csrRaw 0x304).toNat ≠ 0 then s.setCc m 1 else s

/-- The instruction has completed or has trapped: a step halts (R513), and so does a request that waited for it (R511). -/
def State.coreEnd (s : State) (m : Fin 12) (stepped : Bool) : State :=
  if (s.cr m).waiting.isSome ∨ !s.ccLive m then s
  else
    match (s.cr m).haltPend with
    | some p => (s.haltCore m 1).modCr m (fun c => { c with byPeer := p })
    | none => if stepped && (s.cr m).stepping then s.haltCore m 4 else s

/-- The next instruction is fetched and executed. An instruction that waits for an answer takes its access up again. -/
def State.runNext (s : State) (m : Fin 12) (evict : List Nat) (envs : List G6Env) : State :=
  let s := s.evictAll m evict envs
  let envs := envs.drop evict.length
  match (s.cr m).waiting with
  | some bits => (s.modCr m (fun c => { c with waiting := none })).execRv m bits (envs.drop 2)
  | none =>
    let f := s.fetchRv m envs
    match f.1 with
    | .error none => s
    | .error (some e) => f.2.trap m false e.1 e.2
    | .ok bits => f.2.execRv m bits (envs.drop 2)

/-- One instruction boundary of a core and the instruction behind it: a pending interrupt is taken in its place, then an
execute breakpoint halts (R513). -/
def State.coreStep (s : State) (m : Fin 12) (evict : List Nat) (envs : List G6Env) : State :=
  let s := s.wfiEnds m
  if !s.coreRuns m then s
  else if (s.cr m).waiting.isSome then (s.runNext m evict envs).coreEnd m true
  else
    let irq := if (s.cr m).stepping && !s.flag (R.DBG_CTRL m) F.DBG_CTRL_STEPIE then none else s.irqTaken m
    match irq with
    | some code => (s.trap m true code 0).coreEnd m true
    | none =>
      match s.bpHit m F.DBG_BP_CTRL_X (s.cr m).pc.toNat with
      | some b => s.bpHalt m b
      | none => (s.runNext m evict envs).coreEnd m true

/-- The instruction that the core executes next. -/
def State.nextInstr (s : State) (m : Fin 12) (evict : List Nat) (envs : List G6Env) : Rv :=
  match (s.cr m).waiting with
  | some bits => rvDecode bits
  | none =>
    match ((s.evictAll m evict envs).fetchRv m (envs.drop evict.length)).1 with
    | .ok bits => rvDecode bits
    | .error _ => .illegal

/-- CORE_INSTRUCTION: whatever instruction comes next. -/
def execCoreInstruction (m : Fin 12) (evict : List Nat) (envs : List G6Env) (s : State) : Out :=
  .next (s.coreStep m evict envs)

/-- POSTED_WRITE_ERROR: the error response to the oldest such posted write (R498). -/
def execPostedWriteError (m : Fin 12) (s : State) : Out :=
  let s := s.pollPosted m
  match (s.cr m).posted with
  | [] => .next s
  | (a, r) :: rest =>
    let s := s.modCr m (fun c => { c with posted := rest })
    let s := (s.wr (R.CC_BERR_LO m) (BitVec.ofNat 32 a)).wr (R.CC_BERR_HI m) (BitVec.ofNat 32 (a / 4294967296 % 65536 + 65536 * respCode r))
    .next (s.ccCause m F.CC_CAUSE_BERR)

/-- CORE_FENCE: a FENCE that comes next. It stays in progress while its predecessor set holds W and an earlier uncached
write has not received its response. -/
def execCoreFence (m : Fin 12) (evict : List Nat) (envs : List G6Env) (s : State) : Out :=
  match s.nextInstr m evict envs with
  | .fence _ => .next (s.coreStep m evict envs)
  | _ => .next s

/-- CORE_AMO: an AMO, LR or SC that comes next. -/
def execCoreAmo (m : Fin 12) (evict : List Nat) (envs : List G6Env) (s : State) : Out :=
  match s.nextInstr m evict envs with
  | .amo _ _ _ _ _ => .next (s.coreStep m evict envs)
  | .lr _ _ _ => .next (s.coreStep m evict envs)
  | .sc _ _ _ _ => .next (s.coreStep m evict envs)
  | _ => .next s

/-- EBREAK: an EBREAK that comes next. -/
def execEbreak (m : Fin 12) (evict : List Nat) (envs : List G6Env) (s : State) : Out :=
  match s.nextInstr m evict envs with
  | .ebreak => .next (s.coreStep m evict envs)
  | _ => .next s

end Sys2Proof.Machine
end

