-- ==== Sys2Proof/Machine/Dispatch.lean ====
section
/-! DEFINITION. Machine/Dispatch.lean: the meaning of every command. -/
namespace Sys2Proof.Machine

/-- The effect of a command on everything but the queue. -/
def exec (i : Instr) (s : State) : Host.Outcome State Fault Refusal :=
  match i with
  -- Machine/Issue.lean
  | .pwNext g e => Sys2Proof.Machine.execPwNext g e s
  | .pwJmp g e => Sys2Proof.Machine.execPwJmp g e s
  | .pwJc g e => Sys2Proof.Machine.execPwJc g e s
  | .pwCall g e => Sys2Proof.Machine.execPwCall g e s
  | .pwRet g e => Sys2Proof.Machine.execPwRet g e s
  | .pwLbeg g e => Sys2Proof.Machine.execPwLbeg g e s
  | .pwLend g e => Sys2Proof.Machine.execPwLend g e s
  | .pwRpt g e => Sys2Proof.Machine.execPwRpt g e s
  | .pwMatch g e => Sys2Proof.Machine.execPwMatch g e s
  | .pwSync g e => Sys2Proof.Machine.execPwSync g e s
  | .pwEsc g e => Sys2Proof.Machine.execPwEsc g e s
  | .pwTrig g e => Sys2Proof.Machine.execPwTrig g e s
  | .pwSeta g e => Sys2Proof.Machine.execPwSeta g e s
  | .pwStreamEnter g e => Sys2Proof.Machine.execPwStreamEnter g e s
  | .pwStreamExit g e => Sys2Proof.Machine.execPwStreamExit g e s
  | .pwStreamArm g e => Sys2Proof.Machine.execPwStreamArm g e s
  | .pwPause g e => Sys2Proof.Machine.execPwPause g e s
  | .pwHalt g e => Sys2Proof.Machine.execPwHalt g e s
  -- Machine/Sequencer.lean
  | .jcDecision g => Sys2Proof.Machine.execJcDecision g s
  | .matchDecision g => Sys2Proof.Machine.execMatchDecision g s
  | .syncRelease g => Sys2Proof.Machine.execSyncRelease g s
  | .gangLost g => Sys2Proof.Machine.execGangLost g s
  | .escapeExpiry g => Sys2Proof.Machine.execEscapeExpiry g s
  | .vectorStart g cm uf upsets => Sys2Proof.Machine.execVectorStart g cm uf upsets s
  | .streamFetch g env => Sys2Proof.Machine.execStreamFetch g env s
  | .vsqStart g smode => Sys2Proof.Machine.execVsqStart g smode s
  | .vsqArmedStart g => Sys2Proof.Machine.execVsqArmedStart g s
  | .vsqAbort g => Sys2Proof.Machine.execVsqAbort g s
  | .vsqResume g => Sys2Proof.Machine.execVsqResume g s
  | .sctrlArm g => Sys2Proof.Machine.execSctrlArm g s
  | .sctrlDisarm g => Sys2Proof.Machine.execSctrlDisarm g s
  | .vcntLoRead g debug => Sys2Proof.Machine.execVcntLoRead g debug s
  | .instrRamRead g off len upset => Sys2Proof.Machine.execInstrRamRead g off len upset s
  | .instrRamWrite g off data upset => Sys2Proof.Machine.execInstrRamWrite g off data upset s
  | .groupFenceStop g why => Sys2Proof.Machine.execGroupFenceStop g why s
  -- Machine/Channels.lean
  | .groupRelease g rel => Sys2Proof.Machine.execGroupRelease g rel s
  | .calTrim g => Sys2Proof.Machine.execCalTrim g s
  | .trimEnd g inRange => Sys2Proof.Machine.execTrimEnd g inRange s
  | .tdriftCheck g => Sys2Proof.Machine.execTdriftCheck g s
  | .edgeStamp g pin cml rising time => Sys2Proof.Machine.execEdgeStamp g pin cml rising time s
  | .stampLoRead g debug => Sys2Proof.Machine.execStampLoRead g debug s
  | .stampHiRead g debug => Sys2Proof.Machine.execStampHiRead g debug s
  | .stampFlush g => Sys2Proof.Machine.execStampFlush g s
  | .fabricDataWord g w => Sys2Proof.Machine.execFabricDataWord g w s
  | .fabricDataTake g => Sys2Proof.Machine.execFabricDataTake g s
  -- Machine/FailCapture.lean
  | .failPortWord g => Sys2Proof.Machine.execFailPortWord g s
  | .siteMaskArrive d site => Sys2Proof.Machine.execSiteMaskArrive d site s
  | .fcdSmaskWrite d n bits => Sys2Proof.Machine.execFcdSmaskWrite d n bits s
  -- Machine/Repair.lean
  | .clrsmask d => Sys2Proof.Machine.execClrsmask d s
  -- Machine/FailCapture.lean
  | .clrsite d => Sys2Proof.Machine.execClrsite d s
  | .clrcnt g => Sys2Proof.Machine.execClrcnt g s
  | .lreset g => Sys2Proof.Machine.execLreset g s
  | .creset g => Sys2Proof.Machine.execCreset g s
  | .counterRead ref flag upsets => Sys2Proof.Machine.execCounterRead ref flag upsets s
  | .logRecordEnter g => Sys2Proof.Machine.execLogRecordEnter g s
  | .logTake g env => Sys2Proof.Machine.execLogTake g env s
  | .logWriteDone g => Sys2Proof.Machine.execLogWriteDone g s
  | .captureEnter g => Sys2Proof.Machine.execCaptureEnter g s
  | .captureTake g envs => Sys2Proof.Machine.execCaptureTake g envs s
  | .captureWriteDone g => Sys2Proof.Machine.execCaptureWriteDone g s
  | .lineUpdateEnter g => Sys2Proof.Machine.execLineUpdateEnter g s
  | .catchTake d lineUe env => Sys2Proof.Machine.execCatchTake d lineUe env s
  | .orWriteDone d lineUe env => Sys2Proof.Machine.execOrWriteDone d lineUe env s
  | .bmflush d => Sys2Proof.Machine.execBmflush d s
  | .flushDone d => Sys2Proof.Machine.execFlushDone d s
  | .bmclr d planes => Sys2Proof.Machine.execBmclr d planes s
  | .raeFeedEnter g => Sys2Proof.Machine.execRaeFeedEnter g s
  | .sigdone g => Sys2Proof.Machine.execSigdone g s
  -- Machine/Repair.lean
  | .raeIntake d => Sys2Proof.Machine.execRaeIntake d s
  | .missDone d envs => Sys2Proof.Machine.execMissDone d envs s
  | .solveAll d => Sys2Proof.Machine.execSolveAll d s
  | .solveSite d site => Sys2Proof.Machine.execSolveSite d site s
  | .clearAll d => Sys2Proof.Machine.execClearAll d s
  | .clearSite d site => Sys2Proof.Machine.execClearSite d site s
  | .raeCmdStart d => Sys2Proof.Machine.execRaeCmdStart d s
  | .clearDone d => Sys2Proof.Machine.execClearDone d s
  | .domainSolve d envs => Sys2Proof.Machine.execDomainSolve d envs s
  | .resultWriteDone d => Sys2Proof.Machine.execResultWriteDone d s
  -- Machine/Mdsp.lean
  | .mdNop m upset => Sys2Proof.Machine.execMdNop m upset s
  | .mdCmpy m upset => Sys2Proof.Machine.execMdCmpy m upset s
  | .mdCmac m upset => Sys2Proof.Machine.execMdCmac m upset s
  | .mdCmsu m upset => Sys2Proof.Machine.execMdCmsu m upset s
  | .mdDmpy m upset => Sys2Proof.Machine.execMdDmpy m upset s
  | .mdDmac m upset => Sys2Proof.Machine.execMdDmac m upset s
  | .mdDmsu m upset => Sys2Proof.Machine.execMdDmsu m upset s
  | .mdCadd m upset => Sys2Proof.Machine.execMdCadd m upset s
  | .mdCld m upset => Sys2Proof.Machine.execMdCld m upset s
  | .mdClr m upset => Sys2Proof.Machine.execMdClr m upset s
  | .mdBadd m upset => Sys2Proof.Machine.execMdBadd m upset s
  | .mdBexp m upset => Sys2Proof.Machine.execMdBexp m upset s
  | .mdExp m upset => Sys2Proof.Machine.execMdExp m upset s
  | .mdNorm m upset => Sys2Proof.Machine.execMdNorm m upset s
  | .mdAsh m upset => Sys2Proof.Machine.execMdAsh m upset s
  | .mdRnd m upset => Sys2Proof.Machine.execMdRnd m upset s
  | .mdHalt m stop upset => Sys2Proof.Machine.execMdHalt m stop upset s
  | .mdJmp m upset => Sys2Proof.Machine.execMdJmp m upset s
  | .mdJcc m upset => Sys2Proof.Machine.execMdJcc m upset s
  | .mdCall m upset => Sys2Proof.Machine.execMdCall m upset s
  | .mdRet m upset => Sys2Proof.Machine.execMdRet m upset s
  | .mdRep m upset => Sys2Proof.Machine.execMdRep m upset s
  | .mdRepr m upset => Sys2Proof.Machine.execMdRepr m upset s
  | .mdLdi m upset => Sys2Proof.Machine.execMdLdi m upset s
  | .mdMove m upset => Sys2Proof.Machine.execMdMove m upset s
  | .mdLd m upset => Sys2Proof.Machine.execMdLd m upset s
  | .mdSt m upset => Sys2Proof.Machine.execMdSt m upset s
  | .mdSrm m upset => Sys2Proof.Machine.execMdSrm m upset s
  | .mdWaite m upset => Sys2Proof.Machine.execMdWaite m upset s
  | .mdSig m upset => Sys2Proof.Machine.execMdSig m upset s
  | .mdHinc m upset => Sys2Proof.Machine.execMdHinc m upset s
  | .mdspStart m => Sys2Proof.Machine.execMdspStart m s
  | .mdspStop m => Sys2Proof.Machine.execMdspStop m s
  | .mdspEvset m ev => Sys2Proof.Machine.execMdspEvset m ev s
  | .mdspTrigEvent m => Sys2Proof.Machine.execMdspTrigEvent m s
  | .waitWake m => Sys2Proof.Machine.execWaitWake m s
  | .mdspMemAccess m off len write data upset => Sys2Proof.Machine.execMdspMemAccess m off len write data upset s
  -- Machine/Sync.lean
  | .frameLaunch p => Sys2Proof.Machine.execFrameLaunch p s
  | .frameReceive p payload acks errs => Sys2Proof.Machine.execFrameReceive p payload acks errs s
  | .slotPtb p dev fnum pay => Sys2Proof.Machine.execSlotPtb p dev fnum pay s
  | .slotCond p dev gid pay => Sys2Proof.Machine.execSlotCond p dev gid pay s
  | .slotDecide p dev gid pay => Sys2Proof.Machine.execSlotDecide p dev gid pay s
  | .slotSarr p dev gid pay => Sys2Proof.Machine.execSlotSarr p dev gid pay s
  | .slotSrel p dev gid pay => Sys2Proof.Machine.execSlotSrel p dev gid pay s
  | .slotStart p dev pay => Sys2Proof.Machine.execSlotStart p dev pay s
  | .slotLost p dev gid pay => Sys2Proof.Machine.execSlotLost p dev gid pay s
  | .slotGcfg p dev gid pay => Sys2Proof.Machine.execSlotGcfg p dev gid pay s
  | .slotCal p dev pay => Sys2Proof.Machine.execSlotCal p dev pay s
  | .slotCalr p dev pay => Sys2Proof.Machine.execSlotCalr p dev pay s
  | .flitRetry p => Sys2Proof.Machine.execFlitRetry p s
  | .linkdn p lost => Sys2Proof.Machine.execLinkdn p lost s
  | .portEnable p en => Sys2Proof.Machine.execPortEnable p en s
  | .trainEnd p => Sys2Proof.Machine.execTrainEnd p s
  | .calEnd p peer depth verdict => Sys2Proof.Machine.execCalEnd p peer depth verdict s
  | .hopRecal p => Sys2Proof.Machine.execHopRecal p s
  | .bcastGo cls => Sys2Proof.Machine.execBcastGo cls s
  | .gangLocalResult g => Sys2Proof.Machine.execGangLocalResult g s
  | .gangCombine gid => Sys2Proof.Machine.execGangCombine gid s
  | .decisionHandoff g => Sys2Proof.Machine.execDecisionHandoff g s
  | .failover => Sys2Proof.Machine.execFailover s
  | .ptofsStep passed => Sys2Proof.Machine.execPtofsStep passed s
  | .takeover => Sys2Proof.Machine.execTakeover s
  -- Machine/Ledger.lean
  | .ledCommit n envs => Sys2Proof.Machine.execLedCommit n envs s
  | .mirrorRecord rec envs => Sys2Proof.Machine.execMirrorRecord rec envs s
  | .mirrorAck env => Sys2Proof.Machine.execMirrorAck env s
  | .mirrorNak => Sys2Proof.Machine.execMirrorNak s
  | .matelost => Sys2Proof.Machine.execMatelost s
  | .pairing dev epoch size envs => Sys2Proof.Machine.execPairing dev epoch size envs s
  -- Machine/FabricCmd.lean
  | .fcsEnable d k en => Sys2Proof.Machine.execFcsEnable d k en s
  | .fcsLock d k locked => Sys2Proof.Machine.execFcsLock d k locked s
  -- Machine/Ports.lean
  | .portReq d p side req envs => Sys2Proof.Machine.execPortReq d p side req envs s
  | .portWdat d p side data be last envs => Sys2Proof.Machine.execPortWdat d p side data be last envs s
  | .portRdat d p side id data resp last => Sys2Proof.Machine.execPortRdat d p side id data resp last s
  | .portWrsp d p side id resp => Sys2Proof.Machine.execPortWrsp d p side id resp s
  -- Machine/FabricCmd.lean
  | .fabricIrqEdge d n level => Sys2Proof.Machine.execFabricIrqEdge d n level s
  | .bankSupplyChange d b => Sys2Proof.Machine.execBankSupplyChange d b s
  -- Machine/Seam.lean
  | .seamRetrain d k => Sys2Proof.Machine.execSeamRetrain d k s
  | .seamFence d k => Sys2Proof.Machine.execSeamFence d k s
  | .attemptEnd d k rxd rxe echo => Sys2Proof.Machine.execAttemptEnd d k rxd rxe echo s
  | .laneFail d k l => Sys2Proof.Machine.execLaneFail d k l s
  | .seamFlitRetry d k => Sys2Proof.Machine.execSeamFlitRetry d k s
  | .fabRelease d k => Sys2Proof.Machine.execFabRelease d k s
  | .fencePublish => Sys2Proof.Machine.execFencePublish s
  | .dieIsolated d => Sys2Proof.Machine.execDieIsolated d s
  -- Machine/Configuration.lean
  | .bootSearch dir1 dir8 again flash => Sys2Proof.Machine.execBootSearch dir1 dir8 again flash s
  | .cfgDataWrite bytes => Sys2Proof.Machine.execCfgDataWrite bytes s
  | .fwrite => Sys2Proof.Machine.execFwrite s
  | .dcrc => Sys2Proof.Machine.execDcrc s
  | .dend => Sys2Proof.Machine.execDend s
  | .cmdNop => Sys2Proof.Machine.execCmdNop s
  | .legEnd => Sys2Proof.Machine.execLegEnd s
  | .dieAbsentTimeout => Sys2Proof.Machine.execDieAbsentTimeout s
  | .lockStep => Sys2Proof.Machine.execLockStep s
  | .outrel => Sys2Proof.Machine.execOutrel s
  | .setrel => Sys2Proof.Machine.execSetrel s
  | .wrenStep => Sys2Proof.Machine.execWrenStep s
  | .doneRise => Sys2Proof.Machine.execDoneRise s
  | .reload => Sys2Proof.Machine.execReload s
  | .hostload => Sys2Proof.Machine.execHostload s
  | .pload => Sys2Proof.Machine.execPload s
  | .dieload die dsrc => Sys2Proof.Machine.execDieload die dsrc s
  | .cfgAbort => Sys2Proof.Machine.execCfgAbort s
  | .meadowFence d m => Sys2Proof.Machine.execMeadowFence d m s
  | .meadowFenceTake d m => Sys2Proof.Machine.execMeadowFenceTake d m s
  | .unfence d m => Sys2Proof.Machine.execUnfence d m s
  | .scrubFrame d fa flips tmr => Sys2Proof.Machine.execScrubFrame d fa flips tmr s
  | .scrubClr d => Sys2Proof.Machine.execScrubClr d s
  | .rbaddrWrite d fa => Sys2Proof.Machine.execRbaddrWrite d fa s
  -- Machine/Memory.lean
  | .g6Read src addr len env => Sys2Proof.Machine.execG6Read src addr len env s
  | .g6FullWrite src addr data env => Sys2Proof.Machine.execG6FullWrite src addr data env s
  | .g6PartialWrite src addr data mask env => Sys2Proof.Machine.execG6PartialWrite src addr data mask env s
  | .g6OrWrite d addr data env => Sys2Proof.Machine.execG6OrWrite d addr data env s
  | .mempInit q => Sys2Proof.Machine.execMempInit q s
  | .mempTrainDone q dens ok => Sys2Proof.Machine.execMempTrainDone q dens ok s
  | .mempZero q => Sys2Proof.Machine.execMempZero q s
  | .zeroDone q => Sys2Proof.Machine.execZeroDone q s
  | .refreshDue q waiting => Sys2Proof.Machine.execRefreshDue q waiting s
  | .bankRefresh q bank => Sys2Proof.Machine.execBankRefresh q bank s
  | .rhWindow q => Sys2Proof.Machine.execRhWindow q s
  | .promScrGo d fix => Sys2Proof.Machine.execPromScrGo d fix s
  | .promScrStop d => Sys2Proof.Machine.execPromScrStop d s
  | .scrubLine d env => Sys2Proof.Machine.execScrubLine d env s
  -- Machine/BusCmd.lean
  | .transactionTimeout d src addr => Sys2Proof.Machine.execTransactionTimeout d src addr s
  | .lateResponse d src addr => Sys2Proof.Machine.execLateResponse d src addr s
  -- Machine/Memory.lean
  | .regionCtrlWrite r v => Sys2Proof.Machine.execRegionCtrlWrite r v s
  -- Machine/Vaults.lean
  | .vaultEnable v w => Sys2Proof.Machine.execVaultEnable v w s
  | .vaultDisable v => Sys2Proof.Machine.execVaultDisable v s
  | .rkgo v => Sys2Proof.Machine.execRkgo v s
  | .rekeyStart v => Sys2Proof.Machine.execRekeyStart v s
  | .rekeyLine v env => Sys2Proof.Machine.execRekeyLine v env s
  | .initLine v env => Sys2Proof.Machine.execInitLine v env s
  | .integrityHalt d => Sys2Proof.Machine.execIntegrityHalt d s
  -- Machine/DmaCtl.lean
  | .dmaStart d c => Sys2Proof.Machine.execDmaStart d c s
  | .dmaStop d c => Sys2Proof.Machine.execDmaStop d c s
  | .dmaClr d c => Sys2Proof.Machine.execDmaClr d c s
  | .swreq d c => Sys2Proof.Machine.execSwreq d c s
  | .peripheralPulse d c => Sys2Proof.Machine.execPeripheralPulse d c s
  -- Machine/Dma.lean
  | .descFetchDone d c envs => Sys2Proof.Machine.execDescFetchDone d c envs s
  -- Machine/DmaCtl.lean
  | .pacedBurstStart d c line => Sys2Proof.Machine.execPacedBurstStart d c line s
  -- Machine/Dma.lean
  | .beatIssue d wr => Sys2Proof.Machine.execBeatIssue d wr s
  | .readResponse d c envs => Sys2Proof.Machine.execReadResponse d c envs s
  | .writeResponse d c envs => Sys2Proof.Machine.execWriteResponse d c envs s
  -- Machine/CoreCtl.lean
  | .coreRun m => Sys2Proof.Machine.execCoreRun m s
  | .coreRst m => Sys2Proof.Machine.execCoreRst m s
  -- Machine/Rv.lean
  | .coreInstruction m evict envs => Sys2Proof.Machine.execCoreInstruction m evict envs s
  | .coreFence m evict envs => Sys2Proof.Machine.execCoreFence m evict envs s
  | .coreAmo m evict envs => Sys2Proof.Machine.execCoreAmo m evict envs s
  | .ebreak m evict envs => Sys2Proof.Machine.execEbreak m evict envs s
  | .postedWriteError m => Sys2Proof.Machine.execPostedWriteError m s
  -- Machine/CoreCtl.lean
  | .timerInterrupt m => Sys2Proof.Machine.execTimerInterrupt m s
  | .l2opGo d op => Sys2Proof.Machine.execL2opGo d op s
  | .l2done d envs => Sys2Proof.Machine.execL2done d envs s
  | .wdtKick m key => Sys2Proof.Machine.execWdtKick m key s
  | .wdtTick m => Sys2Proof.Machine.execWdtTick m s
  | .wdtExpiry m => Sys2Proof.Machine.execWdtExpiry m s
  -- Machine/Debug.lean
  | .extest bits => Sys2Proof.Machine.execExtest bits s
  | .samplePreload bits => Sys2Proof.Machine.execSamplePreload bits s
  | .idcode => Sys2Proof.Machine.execIdcode s
  | .bypass => Sys2Proof.Machine.execBypass s
  | .dbgauth => Sys2Proof.Machine.execDbgauth s
  | .dbgacc busy => Sys2Proof.Machine.execDbgacc busy s
  | .dbgaccRead addr inc busy envs => Sys2Proof.Machine.execDbgaccRead addr inc busy envs s
  | .dbgaccWrite addr data inc busy envs => Sys2Proof.Machine.execDbgaccWrite addr data inc busy envs s
  -- Machine/Keeper.lean
  | .dbgauthPush w => Sys2Proof.Machine.execDbgauthPush w s
  | .dbgauthPop => Sys2Proof.Machine.execDbgauthPop s
  | .dbgauthFlush => Sys2Proof.Machine.execDbgauthFlush s
  | .openPwd => Sys2Proof.Machine.execOpenPwd s
  | .chal => Sys2Proof.Machine.execChal s
  | .openSig => Sys2Proof.Machine.execOpenSig s
  | .dbgLock => Sys2Proof.Machine.execDbgLock s
  | .authStatus => Sys2Proof.Machine.execAuthStatus s
  -- Machine/CoreCtl.lean
  | .haltreq m => Sys2Proof.Machine.execHaltreq m s
  | .dbgResume m => Sys2Proof.Machine.execDbgResume m s
  | .dbgAcmd m v => Sys2Proof.Machine.execDbgAcmd m v s
  | .dtxWrite m v => Sys2Proof.Machine.execDtxWrite m v s
  | .txack m => Sys2Proof.Machine.execTxack m s
  | .drxWrite m v => Sys2Proof.Machine.execDrxWrite m v s
  | .drxRead m dbg => Sys2Proof.Machine.execDrxRead m dbg s
  -- Machine/Keeper.lean
  | .fuseRead src arg => Sys2Proof.Machine.execFuseRead src arg s
  | .fuseProg src arg => Sys2Proof.Machine.execFuseProg src arg s
  | .lcAdvance src arg => Sys2Proof.Machine.execLcAdvance src arg s
  | .authChal src arg => Sys2Proof.Machine.execAuthChal src arg s
  | .rbCommit src arg => Sys2Proof.Machine.execRbCommit src arg s
  | .zeroise src arg => Sys2Proof.Machine.execZeroise src arg s
  | .random src arg => Sys2Proof.Machine.execRandom src arg s
  | .keeperCmdDone vpp good bist => Sys2Proof.Machine.execKeeperCmdDone vpp good bist s
  | .nonceExpiry box => Sys2Proof.Machine.execNonceExpiry box s
  | .lockoutExpiry => Sys2Proof.Machine.execLockoutExpiry s
  -- Machine/Bist.lean
  | .sliceStart d => Sys2Proof.Machine.execSliceStart d s
  | .sliceEnd d r ces => Sys2Proof.Machine.execSliceEnd d r ces s
  | .sliceAbandon d => Sys2Proof.Machine.execSliceAbandon d s
  | .retest d tgt => Sys2Proof.Machine.execRetest d tgt s
  -- Machine/Interrupts.lean
  | .msixEoi v => Sys2Proof.Machine.execMsixEoi v s
  | .msixUnmask en fmask => Sys2Proof.Machine.execMsixUnmask en fmask s
  | .msixSend v => Sys2Proof.Machine.execMsixSend v s
  | .monClr d mask => Sys2Proof.Machine.execMonClr d mask s
  | .monArm d => Sys2Proof.Machine.execMonArm d s
  | .monDisarm d => Sys2Proof.Machine.execMonDisarm d s
  | .monSnapshot d => Sys2Proof.Machine.execMonSnapshot d s
  -- Machine/Reset.lean
  | .powerOnReset role refOk bist => Sys2Proof.Machine.execPowerOnReset role refOk bist s
  | .sysrst => Sys2Proof.Machine.execSysrst s
  | .pkgRstDevice key bist => Sys2Proof.Machine.execPkgRstDevice key bist s
  | .diehold d hold bad => Sys2Proof.Machine.execDiehold d hold bad s
  | .pciePerst => Sys2Proof.Machine.execPciePerst s
  -- Machine/Power.lean
  | .pwrReqPark src => Sys2Proof.Machine.execPwrReqPark src s
  | .pwrReqRun src therm => Sys2Proof.Machine.execPwrReqRun src therm s
  | .pwrReqSleep src => Sys2Proof.Machine.execPwrReqSleep src s
  | .wakePt therm => Sys2Proof.Machine.execWakePt therm s
  | .smbStatus => Sys2Proof.Machine.execSmbStatus s
  | .tempMax => Sys2Proof.Machine.execTempMax s
  | .tempDie d t => Sys2Proof.Machine.execTempDie d t s
  | .rail code mv => Sys2Proof.Machine.execRail code mv s
  | .power dw => Sys2Proof.Machine.execPower dw s
  | .rstcause => Sys2Proof.Machine.execRstcause s
  | .smbPwrReq v pec therm => Sys2Proof.Machine.execSmbPwrReq v pec therm s
  -- Machine/Reset.lean
  | .sysreset v pec bist => Sys2Proof.Machine.execSysreset v pec bist s
  -- Machine/Power.lean
  | .refLoss => Sys2Proof.Machine.execRefLoss s
  | .refReturn => Sys2Proof.Machine.execRefReturn s
  -- Machine/Reset.lean
  | .pllLockLoss d pll => Sys2Proof.Machine.execPllLockLoss d pll s
  -- Machine/Power.lean
  | .twarn d t => Sys2Proof.Machine.execTwarn d t s
  | .thermalTrip d t => Sys2Proof.Machine.execThermalTrip d t s
  | .thermalRecover temps bist => Sys2Proof.Machine.execThermalRecover temps bist s
  | .clrmax d => Sys2Proof.Machine.execClrmax d s
  -- Machine/BusCmd.lean
  | .latchRead src addr size dbg envs => Sys2Proof.Machine.execLatchRead src addr size dbg envs s
  | .registerWrite src addr data dbg envs => Sys2Proof.Machine.execRegisterWrite src addr data dbg envs s
  | .pcieInbound bar off write size data envs => Sys2Proof.Machine.execPcieInbound bar off write size data envs s
  | .remoteTransaction op => Sys2Proof.Machine.execRemoteTransaction op s
  -- Machine/Reset.lean
  | .porstBLow => Sys2Proof.Machine.execPorstBLow s
  | .sysrstBRelease role bist => Sys2Proof.Machine.execSysrstBRelease role bist s
  -- Machine/FabricCmd.lean
  | .holdupBChange level => Sys2Proof.Machine.execHoldupBChange level s
  | .bankokRise d b => Sys2Proof.Machine.execBankokRise d b s
  -- Machine/Blocks.lean
  | .globalNetRisingEdge d net en uf rams slices gpio => Sys2Proof.Machine.execGlobalNetRisingEdge d net en uf rams slices gpio s
  -- Machine/Seam.lean
  | .fabLaneWord d k f ecc => Sys2Proof.Machine.execFabLaneWord d k f ecc s
  -- Machine/Keeper.lean
  | .dbgauthMessageEnd => Sys2Proof.Machine.execDbgauthMessageEnd s
  -- Machine/Power.lean
  | .addressResolutionProtocol assign => Sys2Proof.Machine.execAddressResolutionProtocol assign s

end Sys2Proof.Machine
end

