-- ==== Sys2Proof/Safety.lean ====
section
/-! DEFINITION. Safety.lean: the words the statements are written with: what a command leads to, what it leaves as it
was, a machine in good form (its sparse stores canonical, so that equal contents are equal data), and when a pattern word
can be issued. -/
namespace Sys2Proof.Machine

/-! What a command leads to -/

/-- The command completes in a state of which P holds. -/
def After (c : Instr) (s : State) (P : State → Prop) : Prop := ∃ t, exec c s = .next t ∧ P t

/-! What a command leaves as it was -/

/-- Every register but those listed reads as before. -/
def SameRegs (as : List Nat) (s t : State) : Prop := ∀ a, a ∉ as → t.rd a = s.rd a

/-- Only registers differ, and of them only those listed. -/
def OnlyRegs (as : List Nat) (s t : State) : Prop := t = { s with regs := t.regs } ∧ SameRegs as s t

/-- Only the clock, one group and the registers listed differ. -/
def OnlyGroup (g : Fin 24) (as : List Nat) (s t : State) : Prop :=
  t = { s with now := t.now, regs := t.regs, grp := t.grp } ∧ (∀ k, k ≠ g → t.g k = s.g k) ∧ SameRegs as s t

/-- Only the clock, the fail capture of one die and the registers listed differ. -/
def OnlyCapture (d : Fin 6) (as : List Nat) (s t : State) : Prop :=
  t = { s with now := t.now, regs := t.regs, cap := t.cap } ∧ (∀ k, k ≠ d → t.c k = s.c k) ∧ SameRegs as s t

/-- Each register listed holds what it held with the fields beside it set, in order, to the values beside them; every
other register reads as before. -/
def Writes (l : List (Nat × List (Fld × Nat))) (s t : State) : Prop :=
  (∀ e ∈ l, t.rd e.1 = e.2.foldl (fun v f => f.1.set v f.2) (s.rd e.1)) ∧ SameRegs (l.map (·.1)) s t

/-- Only the registers listed differ, and only in the fields beside them. -/
def OnlyWrites (l : List (Nat × List (Fld × Nat))) (s t : State) : Prop := t = { s with regs := t.regs } ∧ Writes l s t

/-- Only the clock, the sync unit and registers differ. -/
def OnlySync (s t : State) : Prop := t = { s with now := t.now, regs := t.regs, tsy := t.tsy }

/-- The messages ms wait, last, at the tether ports picked out; every other port is as before. -/
def Sent (ports : Fin 12 → Bool) (ms : List TSlot) (s t : State) : Prop :=
  ∀ q, t.tport q = { s.tport q with outq := (s.tport q).outq ++ (if ports q then ms else []) }

/-- The active upstream port, where it is UP; the downstream ports that are UP (08 R271, R278). -/
def upPorts (s : State) (q : Fin 12) : Bool := s.activeUp q && s.pstate q == 3
def downPorts (s : State) (q : Fin 12) : Bool := s.downstream q && s.pstate q == 3

/-- The offsets in a die's window of the registers that an access to G6 can change: cause, hammer source, counters and
log of a memory port (12 R449), VLT_CAUSE and VLT_HALT, and a vault's status and write count (13 R474). -/
def touchedByMemory (a : Nat) : Prop :=
  (∃ q, q < 4 ∧ a % 2 ^ 32 - q * 0x10000 ∈ [0x7000008, 0x7000018, 0x7000020, 0x7000024, 0x7000028, 0x700002c, 0x7000030,
    0x7000034] ∧ q * 0x10000 ≤ a % 2 ^ 32) ∨
  a % 2 ^ 32 ∈ [0x7080000, 0x7080008, 0x708000c] ∨
  (∃ v, v < 64 ∧ a % 2 ^ 32 ∈ [0x7081004 + v * 0x40, 0x708101c + v * 0x40, 0x7081020 + v * 0x40])

/-- Only what an access to G6 reaches differs: lines, the ports' hammer tables, the vaults' engine state, a halt request,
monitor counters, free values drawn, flits at the seams, and those registers. Time goes on only to a throttled activation. -/
def OnlyMemory (s t : State) : Prop :=
  (t = { s with now := t.now, regs := t.regs, lines := t.lines, mon := t.mon, port := t.port, vault := t.vault,
                haltReq := t.haltReq, freeCtr := t.freeCtr, seam := t.seam }) ∧
  s.now ≤ t.now ∧
  ∀ a, ¬ touchedByMemory a → t.rd a = s.rd a

/-- Nothing is on its way that would take place beside a command: no trigger or mask bit, no reserved wave code met later,
no count of a failing vector (02 R57, 04 R130, 05 R161, R166). -/
def Quiet (s : State) : Prop :=
  (∀ k : Fin 6, (s.c k).trigs = [] ∧ (s.c k).maskTravel = []) ∧ ∀ g : Fin 24, (s.g g).wrsv = [] ∧ (s.g g).cntStage = []

/-! A machine in good form -/

/-- The addressed memories are in canonical form: G6 lines, instruction RAM, MDSP X, Y and P memory (12, 02 R36, 07
R227). -/
def Memory.wf (s : State) : Bool :=
  Sparse.canon s.lineDefault s.lines &&
  s.grp.toList.all (fun g => Sparse.canon (fun _ => (0 : PatWord)) g.iram) &&
  s.mdsp.toList.all (fun m => Sparse.canon (fun _ => (0 : Word)) m.x && Sparse.canon (fun _ => (0 : Word)) m.y &&
    Sparse.canon (fun _ => (0 : Word)) m.p)

/-- The register store and the HI latches are in canonical form. -/
def Registers.wf (s : State) : Bool := Sparse.canon resetOf s.regs && Sparse.canon resetOf s.latch

/-! The next instruction of a control core (15 R494, R513) -/

/-- Core m runs, no interrupt, breakpoint, step or waiting access stands before its next instruction, and the fetch finds
the bits `bits` without changing the machine. -/
structure CoreAt (s : State) (m : Fin 12) (envs : List G6Env) (bits : Nat) : Prop where
  runs : s.coreRuns m = true
  noWait : (s.cr m).waiting = none
  noHalt : (s.cr m).haltPend = none
  noStep : (s.cr m).stepping = false
  noIrq : s.irqTaken m = none
  noBp : s.bpHit m F.DBG_BP_CTRL_X (s.cr m).pc.toNat = none
  fetched : s.fetchRv m envs = (.ok bits, s)

/-- Only core m differs, and the monitor counters. -/
def OnlyCore (m : Fin 12) (s t : State) : Prop :=
  t = { s with core := t.core, mon := t.mon } ∧ ∀ k, k ≠ m → t.cr k = s.cr k

/-! A measurement DSP core (07 R231, R232, R260) -/

/-- Core m executes the instruction w at its PC: it is in RUN, not frozen, no repeat block is active, nothing is marked. -/
def MdspAt (s : State) (m : Fin 24) (w : Nat) : Prop :=
  s.mdState m = 1 ∧ s.mdFrozen m = false ∧ (s.md m).reps = [] ∧ (s.md m).ue = [] ∧ (s.md m).read 2 (s.mdPc m) = w

/-- Core m completes an instruction in n cycles: it stays in RUN, the next address follows, and of the registers only those
listed differ, and the ones that show its progress. -/
def MdspDone (m : Fin 24) (next n : Nat) (as : List Nat) (s t : State) : Prop :=
  t = { s with regs := t.regs, mdsp := t.mdsp, mon := t.mon } ∧ (∀ k, k ≠ m → t.md k = s.md k) ∧ t.mdState m = 1 ∧
  t.mdPc m = next ∧ (t.rd (R.MDSP_CYC m)).toNat = min ((s.rd (R.MDSP_CYC m)).toNat + n) (2 ^ 32 - 1) ∧
  SameRegs (R.MDSP_PC m :: R.MDSP_STAT m :: R.MDSP_CYC m :: R.MDSP_REG m 0x3E :: as) s t

/-- Core m faults with a code at its PC; the instruction has no effect (R260). -/
def MdspFaults (m : Fin 24) (code : Nat) (s t : State) : Prop :=
  t = { s with regs := t.regs } ∧ Writes [(R.MDSP_STAT m, [(F.MDSP_STAT_STATE, 3)]), (R.MDSP_CAUSE m, [(F.MDSP_CAUSE_FAULT, 1)]),
    (R.MDSP_FAULT m, [(F.MDSP_FAULT_CODE, code), (F.MDSP_FAULT_ADDR, s.mdPc m)])] s t

/-! Issue of a pattern word (02) -/

/-- A group can issue the word w that stands at l: no open-ended word holds it back, no escape point comes first, the
word can be fetched and passes every check. -/
structure CanIssue (s : State) (g : Fin 24) (e : List Ecc) (l : Loc) (w : PatWord) : Prop where
  free : s.issueBlocked g = false
  noEscape : (s.g g).escPt = none
  place : (s.g g).pc = some l
  fetched : s.fetch g e l = .word w
  legal : s.wordFault g w (s.g g).dec.isSome = 0

/-- What the issue of any word leaves: its vectors stand behind those already issued, the program goes on at `next`,
issue time comes 40 ns before the word's first ball start (02 R37), and no other group is touched. -/
def Issued (s : State) (g : Fin 24) (l : Loc) (w : PatWord) (next : Option Loc) (as : List Nat) (t : State) : Prop :=
  (∃ p, (t.g g).pipe = (s.g g).pipe ++ [p] ∧ p.word = w ∧ p.loc = l ∧ p.bs = (s.g g).nextBs ∧
    p.period = s.period g (wordTset w) ∧ p.reps = s.repsOf g w ∧ p.done = 0) ∧
  (t.g g).pc = next ∧
  (t.g g).nextBs = (s.g g).nextBs + (s.repsOf g w).known * s.period g (wordTset w) ∧
  t.now = max s.now ((s.g g).nextBs - 40 * ns) ∧
  OnlyGroup g (R.VSQ_STAT g :: R.VSQ_SSTAT g :: R.CH_CAUSE g :: as) s t

end Sys2Proof.Machine
end

