-- ==== Sys2Proof/WellFormed.lean ====
section
/-! DEFINITION. WellFormed.lean: the commands whose operands lie within what the spec gives them. A command is given a
meaning whether it is well formed or not; statements that need a bound on an operand take it from here. -/
namespace Sys2Proof

/-- Bytes. -/
def bytesWf (l : List Nat) : Bool := l.all (fun b => decide (b < 256))

/-- Die numbers. -/
def diesWf (l : List Nat) : Bool := l.all (fun d => decide (d < 6))

/-- Entries of the thermos (16 R542): 0 to 63 a vault, 64 the debug state, 65 the ephemeral root. -/
def thermWf (l : List Nat) : Bool := l.all (fun n => decide (n < 66))

/-- What a burst meets: at most four words; an activation in a bank of the channel (12 R410). -/
def G6Env.wf (e : G6Env) : Bool :=
  decide (e.ecc.length ≤ 4) && (match e.act with | none => true | some a => decide (a.1 < 16))

/-- A bus access: 48-bit address, a source of ten bits, at most a page, data of its size (09 R341 to R343). -/
def Access.wf (a : Access) : Bool :=
  decide (a.src < 1024 ∧ a.addr < 2 ^ 48 ∧ 0 < a.size ∧ a.size ≤ 4096 ∧ a.mask < 2 ^ a.size) &&
  (!a.write || (decide (a.data.length = a.size) && bytesWf a.data))

/-- A transaction over the tree: offsets of a 1 TB slice (20 R623). -/
def RemoteOp.wf (o : RemoteOp) : Bool :=
  match o with
  | .send a _ data => a.wf && bytesWf data
  | .recv off a envs => decide (off < 2 ^ 40) && a.wf && envs.all G6Env.wf

/-- A command whose operands are within their bounds. -/
def Instr.wf (i : Instr) : Bool :=
  match i with
  | .pwNext _ e => decide (e.length ≤ 4)
  | .pwJmp _ e => decide (e.length ≤ 4)
  | .pwJc _ e => decide (e.length ≤ 4)
  | .pwCall _ e => decide (e.length ≤ 4)
  | .pwRet _ e => decide (e.length ≤ 4)
  | .pwLbeg _ e => decide (e.length ≤ 4)
  | .pwLend _ e => decide (e.length ≤ 4)
  | .pwRpt _ e => decide (e.length ≤ 4)
  | .pwMatch _ e => decide (e.length ≤ 4)
  | .pwSync _ e => decide (e.length ≤ 4)
  | .pwEsc _ e => decide (e.length ≤ 4)
  | .pwTrig _ e => decide (e.length ≤ 4)
  | .pwSeta _ e => decide (e.length ≤ 4)
  | .pwStreamEnter _ e => decide (e.length ≤ 4)
  | .pwStreamExit _ e => decide (e.length ≤ 4)
  | .pwStreamArm _ e => decide (e.length ≤ 4)
  | .pwPause _ e => decide (e.length ≤ 4)
  | .pwHalt _ e => decide (e.length ≤ 4)
  | .jcDecision .. => true
  | .matchDecision .. => true
  | .syncRelease .. => true
  | .gangLost .. => true
  | .escapeExpiry .. => true
  | .vectorStart _ cm _ upsets => cm.all (fun e => decide (e.lane < 64)) && upsets.all (fun n => decide (n < 320))
  | .streamFetch _ env => env.wf
  | .vsqStart .. => true
  | .vsqArmedStart .. => true
  | .vsqAbort .. => true
  | .vsqResume .. => true
  | .sctrlArm .. => true
  | .sctrlDisarm .. => true
  | .vcntLoRead .. => true
  | .instrRamRead _ off len _ => decide (0 < len ∧ off + len ≤ 0x200000)
  | .instrRamWrite _ off data _ => decide (0 < data.length ∧ off + data.length ≤ 0x200000) && bytesWf data
  | .groupFenceStop .. => true
  | .groupRelease .. => true
  | .calTrim .. => true
  | .trimEnd .. => true
  | .tdriftCheck .. => true
  | .edgeStamp .. => true
  | .stampLoRead .. => true
  | .stampHiRead .. => true
  | .stampFlush .. => true
  | .fabricDataWord .. => true
  | .fabricDataTake .. => true
  | .failPortWord .. => true
  | .siteMaskArrive .. => true
  | .fcdSmaskWrite .. => true
  | .clrsmask .. => true
  | .clrsite .. => true
  | .clrcnt .. => true
  | .lreset .. => true
  | .creset .. => true
  | .counterRead _ _ upsets => upsets.all (fun n => decide (n < 320))
  | .logRecordEnter .. => true
  | .logTake _ env => env.wf
  | .logWriteDone .. => true
  | .captureEnter .. => true
  | .captureTake _ envs => envs.all G6Env.wf
  | .captureWriteDone .. => true
  | .lineUpdateEnter .. => true
  | .catchTake _ _ env => env.wf
  | .orWriteDone _ _ env => env.wf
  | .bmflush .. => true
  | .flushDone .. => true
  | .bmclr .. => true
  | .raeFeedEnter .. => true
  | .sigdone .. => true
  | .raeIntake .. => true
  | .missDone _ envs => envs.all G6Env.wf
  | .solveAll .. => true
  | .solveSite .. => true
  | .clearAll .. => true
  | .clearSite .. => true
  | .raeCmdStart .. => true
  | .clearDone .. => true
  | .domainSolve _ envs => envs.all G6Env.wf
  | .resultWriteDone .. => true
  | .mdNop _ upset => decide (upset.length ≤ 32)
  | .mdCmpy _ upset => decide (upset.length ≤ 32)
  | .mdCmac _ upset => decide (upset.length ≤ 32)
  | .mdCmsu _ upset => decide (upset.length ≤ 32)
  | .mdDmpy _ upset => decide (upset.length ≤ 32)
  | .mdDmac _ upset => decide (upset.length ≤ 32)
  | .mdDmsu _ upset => decide (upset.length ≤ 32)
  | .mdCadd _ upset => decide (upset.length ≤ 32)
  | .mdCld _ upset => decide (upset.length ≤ 32)
  | .mdClr _ upset => decide (upset.length ≤ 32)
  | .mdBadd _ upset => decide (upset.length ≤ 32)
  | .mdBexp _ upset => decide (upset.length ≤ 32)
  | .mdExp _ upset => decide (upset.length ≤ 32)
  | .mdNorm _ upset => decide (upset.length ≤ 32)
  | .mdAsh _ upset => decide (upset.length ≤ 32)
  | .mdRnd _ upset => decide (upset.length ≤ 32)
  | .mdHalt _ _ upset => decide (upset.length ≤ 32)
  | .mdJmp _ upset => decide (upset.length ≤ 32)
  | .mdJcc _ upset => decide (upset.length ≤ 32)
  | .mdCall _ upset => decide (upset.length ≤ 32)
  | .mdRet _ upset => decide (upset.length ≤ 32)
  | .mdRep _ upset => decide (upset.length ≤ 32)
  | .mdRepr _ upset => decide (upset.length ≤ 32)
  | .mdLdi _ upset => decide (upset.length ≤ 32)
  | .mdMove _ upset => decide (upset.length ≤ 32)
  | .mdLd _ upset => decide (upset.length ≤ 32)
  | .mdSt _ upset => decide (upset.length ≤ 32)
  | .mdSrm _ upset => decide (upset.length ≤ 32)
  | .mdWaite _ upset => decide (upset.length ≤ 32)
  | .mdSig _ upset => decide (upset.length ≤ 32)
  | .mdHinc _ upset => decide (upset.length ≤ 32)
  | .mdspStart .. => true
  | .mdspStop .. => true
  | .mdspEvset .. => true
  | .mdspTrigEvent .. => true
  | .waitWake .. => true
  | .mdspMemAccess _ off len write data _ => decide (0 < len ∧ off + len ≤ 0xA0000) && (!write || (decide (data.length = len) && bytesWf data))
  | .frameLaunch .. => true
  | .frameReceive _ _ _ errs => decide (errs ≤ 544)
  | .slotPtb .. => true
  | .slotCond .. => true
  | .slotDecide .. => true
  | .slotSarr .. => true
  | .slotSrel .. => true
  | .slotStart .. => true
  | .slotLost .. => true
  | .slotGcfg .. => true
  | .slotCal .. => true
  | .slotCalr .. => true
  | .flitRetry .. => true
  | .linkdn .. => true
  | .portEnable .. => true
  | .trainEnd .. => true
  | .calEnd .. => true
  | .hopRecal .. => true
  | .bcastGo .. => true
  | .gangLocalResult .. => true
  | .gangCombine .. => true
  | .decisionHandoff .. => true
  | .failover => true
  | .ptofsStep .. => true
  | .takeover => true
  | .ledCommit _ envs => envs.all G6Env.wf
  | .mirrorRecord _ envs => envs.all G6Env.wf
  | .mirrorAck env => env.wf
  | .mirrorNak => true
  | .matelost => true
  | .pairing _ _ _ envs => envs.all G6Env.wf
  | .fcsEnable .. => true
  | .fcsLock .. => true
  | .portReq _ _ _ _ envs => envs.all G6Env.wf
  | .portWdat _ _ _ _ _ _ envs => envs.all G6Env.wf
  | .portRdat .. => true
  | .portWrsp .. => true
  | .fabricIrqEdge .. => true
  | .bankSupplyChange .. => true
  | .seamRetrain .. => true
  | .seamFence .. => true
  | .attemptEnd .. => true
  | .laneFail .. => true
  | .seamFlitRetry .. => true
  | .fabRelease .. => true
  | .fencePublish => true
  | .dieIsolated .. => true
  | .bootSearch dir1 dir8 again flash => bytesWf dir1 && bytesWf dir8 && bytesWf again && bytesWf flash
  | .cfgDataWrite bytes => bytesWf bytes
  | .fwrite => true
  | .dcrc => true
  | .dend => true
  | .cmdNop => true
  | .legEnd => true
  | .dieAbsentTimeout => true
  | .lockStep => true
  | .outrel => true
  | .setrel => true
  | .wrenStep => true
  | .doneRise => true
  | .reload => true
  | .hostload => true
  | .pload => true
  | .dieload .. => true
  | .cfgAbort => true
  | .meadowFence .. => true
  | .meadowFenceTake .. => true
  | .unfence .. => true
  | .scrubFrame _ _ flips _ => flips.all (fun e => decide (e.1 < 72))
  | .scrubClr .. => true
  | .rbaddrWrite .. => true
  | .g6Read src addr len env => decide (src < 1024 ∧ addr < 2 ^ 40 ∧ 0 < len ∧ addr % 64 + len ≤ 64) && env.wf
  | .g6FullWrite src addr _ env => decide (src < 1024 ∧ addr < 2 ^ 40 ∧ addr % 64 = 0) && env.wf
  | .g6PartialWrite src addr _ _ env => decide (src < 1024 ∧ addr < 2 ^ 40) && env.wf
  | .g6OrWrite _ addr _ env => decide (addr < 2 ^ 40) && env.wf
  | .mempInit .. => true
  | .mempTrainDone .. => true
  | .mempZero .. => true
  | .zeroDone .. => true
  | .refreshDue .. => true
  | .bankRefresh .. => true
  | .rhWindow .. => true
  | .promScrGo .. => true
  | .promScrStop .. => true
  | .scrubLine _ env => env.wf
  | .transactionTimeout .. => true
  | .lateResponse .. => true
  | .regionCtrlWrite .. => true
  | .vaultEnable .. => true
  | .vaultDisable .. => true
  | .rkgo .. => true
  | .rekeyStart .. => true
  | .rekeyLine _ env => env.wf
  | .initLine _ env => env.wf
  | .integrityHalt .. => true
  | .dmaStart .. => true
  | .dmaStop .. => true
  | .dmaClr .. => true
  | .swreq .. => true
  | .peripheralPulse .. => true
  | .descFetchDone _ _ envs => envs.all G6Env.wf
  | .pacedBurstStart .. => true
  | .beatIssue .. => true
  | .readResponse _ _ envs => envs.all G6Env.wf
  | .writeResponse _ _ envs => envs.all G6Env.wf
  | .coreRun .. => true
  | .coreRst .. => true
  | .coreInstruction _ _ envs => envs.all G6Env.wf
  | .coreFence _ _ envs => envs.all G6Env.wf
  | .coreAmo _ _ envs => envs.all G6Env.wf
  | .ebreak _ _ envs => envs.all G6Env.wf
  | .postedWriteError .. => true
  | .timerInterrupt .. => true
  | .l2opGo .. => true
  | .l2done _ envs => envs.all G6Env.wf
  | .wdtKick .. => true
  | .wdtTick .. => true
  | .wdtExpiry .. => true
  | .extest .. => true
  | .samplePreload .. => true
  | .idcode => true
  | .bypass => true
  | .dbgauth => true
  | .dbgacc .. => true
  | .dbgaccRead _ _ _ envs => envs.all G6Env.wf
  | .dbgaccWrite _ _ _ _ envs => envs.all G6Env.wf
  | .dbgauthPush .. => true
  | .dbgauthPop => true
  | .dbgauthFlush => true
  | .openPwd => true
  | .chal => true
  | .openSig => true
  | .dbgLock => true
  | .authStatus => true
  | .haltreq .. => true
  | .dbgResume .. => true
  | .dbgAcmd .. => true
  | .dtxWrite .. => true
  | .txack .. => true
  | .drxWrite .. => true
  | .drxRead .. => true
  | .fuseRead .. => true
  | .fuseProg .. => true
  | .lcAdvance .. => true
  | .authChal .. => true
  | .rbCommit .. => true
  | .zeroise .. => true
  | .random .. => true
  | .keeperCmdDone _ _ bist => diesWf bist
  | .nonceExpiry .. => true
  | .lockoutExpiry => true
  | .sliceStart .. => true
  | .sliceEnd .. => true
  | .sliceAbandon .. => true
  | .retest .. => true
  | .msixEoi .. => true
  | .msixUnmask .. => true
  | .msixSend .. => true
  | .monClr .. => true
  | .monArm .. => true
  | .monDisarm .. => true
  | .monSnapshot .. => true
  | .powerOnReset _ _ bist => diesWf bist
  | .sysrst => true
  | .pkgRstDevice _ bist => diesWf bist
  | .diehold .. => true
  | .pciePerst => true
  | .pwrReqPark .. => true
  | .pwrReqRun _ therm => thermWf therm
  | .pwrReqSleep .. => true
  | .wakePt therm => thermWf therm
  | .smbStatus => true
  | .tempMax => true
  | .tempDie .. => true
  | .rail .. => true
  | .power .. => true
  | .rstcause => true
  | .smbPwrReq _ _ therm => thermWf therm
  | .sysreset _ _ bist => diesWf bist
  | .refLoss => true
  | .refReturn => true
  | .pllLockLoss .. => true
  | .twarn .. => true
  | .thermalTrip .. => true
  | .thermalRecover temps bist => decide (temps.length = 6) && diesWf bist
  | .clrmax .. => true
  | .latchRead _ _ size _ envs => decide (0 < size ∧ size ≤ 4096) && envs.all G6Env.wf
  | .registerWrite _ _ data _ envs => decide (0 < data.length ∧ data.length ≤ 4096) && bytesWf data && envs.all G6Env.wf
  | .pcieInbound _ off write size data envs => decide (0 < size ∧ size ≤ 4096 ∧ off < 2 ^ 37) && (!write || (decide (data.length = size) && bytesWf data)) && envs.all G6Env.wf
  | .remoteTransaction op => op.wf
  | .porstBLow => true
  | .sysrstBRelease _ bist => diesWf bist
  | .holdupBChange .. => true
  | .bankokRise .. => true
  | .globalNetRisingEdge _ _ _ _ rams _ _ => rams.all ramExists
  | .fabLaneWord .. => true
  | .dbgauthMessageEnd => true
  | .addressResolutionProtocol .. => true

end Sys2Proof
end

