-- ==== Sys2Proof/Certificates/Slice0/Obligations.lean ====
section
/-! DEFINITION. The statements for the provers: what the commands, the sequencer's issue and decision points, the units'
engines and the whole machine do, from the rules of spec/. After c s P says that exec of c on s answers a next state and
that P holds of it, so that each statement of a result is also one of completion. -/

open Sys2Proof Sys2Proof.Machine

/-! ### Issue of pattern words (02_vector_sequencer.md R36 to R59, R72) -/

/-- Words that go on at the next place (02 R50, R56 to R61, R66, R71): NEXT, RPT, MATCH, SYNC, ESC, TRIG, PAUSE, HALT, and
a JC whose condition is not a true state condition. -/
def Obligations.SequentialWordsIssueInOrder : Prop :=
  ∀ (s : State) (g : Fin 24) (e : List Ecc) (l : Loc) (w : PatWord), CanIssue s g e l w →
    (wordOpc w = 0 → After (.pwNext g e) s (Issued s g l w l.next [])) ∧
    (wordOpc w = 7 → After (.pwRpt g e) s (Issued s g l w l.next [])) ∧
    (wordOpc w = 8 → After (.pwMatch g e) s (Issued s g l w l.next [])) ∧
    (wordOpc w = 9 → After (.pwSync g e) s (Issued s g l w l.next [])) ∧
    (wordOpc w = 0xA → After (.pwEsc g e) s (Issued s g l w l.next [])) ∧
    (wordOpc w = 0xB → After (.pwTrig g e) s (Issued s g l w l.next [])) ∧
    (wordOpc w = 0xE → After (.pwPause g e) s (Issued s g l w l.next [])) ∧
    (wordOpc w = 0xF → After (.pwHalt g e) s (Issued s g l w l.next [])) ∧
    (wordOpc w = 2 → ¬ (condClass (wordCond w) = .state ∧ s.condState g (wordCond w) = true) →
      After (.pwJc g e) s (Issued s g l w l.next []))

/-- Words that change the path (02 R52, R53): JMP and a JC with a true state condition go to their target, CALL goes to
its target and stores the return place, RET takes the place stored last. -/
def Obligations.PathWordsGoToTheirTargets : Prop :=
  ∀ (s : State) (g : Fin 24) (e : List Ecc) (l p : Loc) (w : PatWord), CanIssue s g e l w →
    (wordOpc w = 1 → s.target g l (bitsOf (wordArg w) 0 16) = .inl p →
      After (.pwJmp g e) s (Issued s g l w (some p) [])) ∧
    (wordOpc w = 2 → condClass (wordCond w) = .state → s.condState g (wordCond w) = true →
      s.target g l (bitsOf (wordArg w) 0 16) = .inl p → After (.pwJc g e) s (Issued s g l w (some p) [])) ∧
    (wordOpc w = 3 → s.condState g (wordCond w) = true → (s.g g).stack.length < 16 →
      s.target g l (bitsOf (wordArg w) 0 16) = .inl p →
      After (.pwCall g e) s (fun t => Issued s g l w (some p) [] t ∧ (t.g g).stack = ⟨l.next, false⟩ :: (s.g g).stack ∧
        t.fld (R.VSQ_STAT g) F.VSQ_STAT_DEPTH = (s.g g).stack.length + 1)) ∧
    (wordOpc w = 3 → s.condState g (wordCond w) = false →
      After (.pwCall g e) s (fun t => Issued s g l w l.next [] t ∧ (t.g g).stack = (s.g g).stack)) ∧
    (∀ (esc : Bool) (rest : List Ret), wordOpc w = 4 → s.condState g (wordCond w) = true →
      (s.g g).stack = ⟨some p, esc⟩ :: rest →
      After (.pwRet g e) s (fun t => Issued s g l w (some p) [] t ∧ (t.g g).stack = rest ∧
        ((t.g g).inEsc = true ↔ (s.g g).inEsc = true ∧ esc = false))) ∧
    (wordOpc w = 4 → s.condState g (wordCond w) = false →
      After (.pwRet g e) s (fun t => Issued s g l w l.next [] t ∧ (t.g g).stack = (s.g g).stack))

/-- Loops and SETA (02 R54, R55): LBEG loads the loop counter and skips a loop of count 0; LEND counts down and goes back
while the counter is not 0; SETA stores its value in the register it names. -/
def Obligations.LoopAndSetWordsUseTheirRegisters : Prop :=
  ∀ (s : State) (g : Fin 24) (e : List Ecc) (l p : Loc) (w : PatWord), CanIssue s g e l w →
    let n := bitsOf (wordArg w) 21 3
    (wordOpc w = 5 → s.rd (R.VSQ_LR g n) ≠ 0 →
      After (.pwLbeg g e) s (fun t => Issued s g l w l.next [R.VSQ_LC g n] t ∧
        t.rd (R.VSQ_LC g n) = s.rd (R.VSQ_LR g n))) ∧
    (wordOpc w = 5 → s.rd (R.VSQ_LR g n) = 0 → s.target g l (bitsOf (wordArg w) 0 16) = .inl p →
      After (.pwLbeg g e) s (fun t => Issued s g l w p.next [R.VSQ_LC g n] t ∧ t.rd (R.VSQ_LC g n) = 0)) ∧
    (wordOpc w = 6 → 2 ≤ (s.rd (R.VSQ_LC g n)).toNat → s.target g l (bitsOf (wordArg w) 0 16) = .inl p →
      After (.pwLend g e) s (fun t => Issued s g l w (some p) [R.VSQ_LC g n] t ∧
        (t.rd (R.VSQ_LC g n)).toNat = (s.rd (R.VSQ_LC g n)).toNat - 1)) ∧
    (wordOpc w = 6 → (s.rd (R.VSQ_LC g n)).toNat ≤ 1 →
      After (.pwLend g e) s (fun t => Issued s g l w l.next [R.VSQ_LC g n] t ∧ t.rd (R.VSQ_LC g n) = 0)) ∧
    (wordOpc w = 0xC →
      let r := bitsOf (wordArg w) 19 5
      let imm := bitsOf (wordArg w) 0 16
      let old := (s.rd (setaReg g r)).toNat
      After (.pwSeta g e) s (fun t => Issued s g l w l.next [setaReg g r] t ∧
        (bitsOf (wordArg w) 16 3 = 0 → (t.rd (setaReg g r)).toNat = imm) ∧
        (bitsOf (wordArg w) 16 3 = 1 → (t.rd (setaReg g r)).toNat = imm * 65536 + old % 65536) ∧
        (bitsOf (wordArg w) 16 3 = 2 → 8 ≤ r ∧ r < 16 → (t.rd (setaReg g r)).toNat = min (old + imm) (2 ^ 32 - 1)) ∧
        (bitsOf (wordArg w) 16 3 = 2 → ¬ (8 ≤ r ∧ r < 16) → (t.rd (setaReg g r)).toNat = (old + imm) % 2 ^ 32) ∧
        (bitsOf (wordArg w) 16 3 = 3 → 8 ≤ r ∧ r < 16 → (t.rd (setaReg g r)).toNat = old - imm) ∧
        (bitsOf (wordArg w) 16 3 = 3 → ¬ (8 ≤ r ∧ r < 16) → (t.rd (setaReg g r)).toNat = (old + 2 ^ 32 - imm) % 2 ^ 32) ∧
        (bitsOf (wordArg w) 16 3 = 4 → t.rd (setaReg g r) = s.rd (R.VSQ_G g imm))))

/-- STREAM (02 R72, R73): ENTER goes to stream index 0, EXIT to an instruction RAM address, ARM stores the base of the
stream and starts fetching with an empty window, H being -1 also where ARM is a stream word itself. -/
def Obligations.StreamWordsEnterExitAndArm : Prop :=
  ∀ (s : State) (g : Fin 24) (e : List Ecc) (l : Loc) (w : PatWord), CanIssue s g e l w → wordOpc w = 0xD →
    (bitsOf (wordArg w) 22 2 = 0 →
      After (.pwStreamEnter g e) s (fun t => Issued s g l w (some ⟨true, 0⟩) [] t ∧ (t.g g).smode = true)) ∧
    (bitsOf (wordArg w) 22 2 = 1 →
      After (.pwStreamExit g e) s (fun t =>
        Issued s g l w (some ⟨false, bitsOf (wordArg w) 0 16⟩) [] t ∧ (t.g g).smode = false)) ∧
    (bitsOf (wordArg w) 22 2 = 2 →
      After (.pwStreamArm g e) s (fun t => Issued s g l w l.next [R.VSQ_SBASE_LO g, R.VSQ_SBASE_HI g] t ∧
        t.rdPair (R.VSQ_SBASE_LO g) (R.VSQ_SBASE_HI g) = 32 * s.gr g (wordArg w % 4) ∧
        (t.g g).sArmed = true ∧ (t.g g).sF = 0 ∧ (t.g g).sWin = [] ∧ (t.g g).sH1 = 0))

/-- A word that cannot be issued stops its group with the code of the fault, at the word's place, and nothing else of
the machine changes (02 R36, R50, R51, R53, R74, R76, R85): no word at all (past 0xFFFF), one that cannot be fetched, one
that fails a check. -/
def Obligations.WordsThatCannotIssueStopTheGroup : Prop :=
  ∀ (s : State) (g : Fin 24) (e : List Ecc) (c : Instr),
    c ∈ [.pwNext g e, .pwJmp g e, .pwJc g e, .pwCall g e, .pwRet g e, .pwLbeg g e, .pwLend g e, .pwRpt g e, .pwMatch g e,
      .pwSync g e, .pwEsc g e, .pwTrig g e, .pwSeta g e, .pwStreamEnter g e, .pwStreamExit g e, .pwStreamArm g e,
      .pwPause g e, .pwHalt g e] →
    s.issueBlocked g = false → (s.g g).escPt = none →
    ((s.g g).pc = none → After c s (fun t => OnlyGroup g [] s t ∧
      t.g g = { s.g g with stop := some ⟨0x10, ⟨false, 0xFFFF⟩⟩ })) ∧
    (∀ l code, (s.g g).pc = some l → (∀ i, nth e i .clean ≠ .ue) → s.fetch g e l = .bad code → After c s (fun t => OnlyGroup g [] s t ∧
      t.g g = { s.g g with stop := some ⟨code, l⟩ })) ∧
    (∀ l w, (s.g g).pc = some l → s.fetch g e l = .word w → 0x10 ≤ wordOpc w → c = .pwNext g e →
      After c s (fun t => OnlyGroup g [] s t ∧ t.g g = { s.g g with stop := some ⟨0x01, l⟩ }))

/-! ### Run control of a sequencer (02_vector_sequencer.md R58, R81 to R89) -/

/-- START (02 R81 to R83): a group that may start begins a run at its entry address, at once in SMODE 0 (the first word is
issued at the next whole nanosecond, and its first vector starts 40 ns later) or armed in SMODE 1; every other START only
sets CMDERR (SMODE itself is a stored field). An armed group starts at its start time; ABORT takes an armed group back to
IDLE and marks a running one to stop at the vector boundary; RESUME ends a PAUSE 40 ns later and is ignored elsewhere (02
R58, R82, R84, R88). -/
def Obligations.StartArmAbortAndResume : Prop :=
  (
    ∀ (s : State) (g : Fin 24) (m : BitVec 2),
      (s.startIgnored g m.toNat = true → After (.vsqStart g m) s (fun t =>
        OnlyRegs [R.VSQ_CTRL g, R.VSQ_CAUSE g] s t ∧ t.flag (R.VSQ_CAUSE g) F.VSQ_CAUSE_CMDERR = true ∧
        t.vstat g = s.vstat g)) ∧
      (s.startIgnored g 0 = false → s.gangEn g = false → s.fdFenced g = false → After (.vsqStart g 0) s (fun t =>
        t.vstat g = 2 ∧ (t.g g).pc = some ⟨false, s.fld (R.VSQ_ENTRY g) F.VSQ_ENTRY_ADDR⟩ ∧ (t.g g).run = (s.g g).run + 1 ∧
        (t.g g).issue0 = (s.now / ns + 1) * ns ∧ (t.g g).nextBs = (s.now / ns + 1) * ns + 40 * ns ∧ (t.g g).vcnt = 0 ∧
        (t.g g).pipe = [] ∧ (t.g g).stack = [] ∧ t.rd (R.VSQ_FAULT g) = 0 ∧ (∀ k, k ≠ g → t.g k = s.g k) ∧
        t.lines = s.lines)) ∧
      (s.startIgnored g 1 = false → s.gangEn g = false → s.fdFenced g = false → After (.vsqStart g 1) s (fun t =>
        t.vstat g = 1 ∧ (t.g g).vcnt = 0 ∧ (t.g g).run = (s.g g).run ∧ t.rd (R.VSQ_FAULT g) = 0 ∧
        (∀ k, k ≠ g → t.g k = s.g k) ∧ t.lines = s.lines))) ∧
  (
    ∀ (s : State) (g : Fin 24),
      (s.vstat g = 1 → After (.vsqArmedStart g) s (fun t => OnlyGroup g [R.VSQ_STAT g] s t ∧ t.vstat g = 2 ∧
        (t.g g).issue0 = s.startPt g * ns ∧ (t.g g).nextBs = s.startPt g * ns + 40 * ns ∧
        (t.g g).pc = some ⟨false, s.fld (R.VSQ_ENTRY g) F.VSQ_ENTRY_ADDR⟩ ∧ t.now = max s.now (s.startPt g * ns))) ∧
      (s.vstat g = 1 → s.gangEn g = false → After (.vsqAbort g) s (fun t => OnlyRegs [R.VSQ_STAT g] s t ∧ t.vstat g = 0)) ∧
      (s.vstat g = 2 ∨ s.vstat g = 3 → After (.vsqAbort g) s (fun t => OnlyGroup g [] s t ∧
        (∃ a, (t.g g).abortAt = some a ∧ ((s.g g).abortAt = none → a = s.boundary g) ∧
          ∀ b, (s.g g).abortAt = some b → a = b) ∧ (t.g g).pipe = (s.g g).pipe ∧ t.vstat g = s.vstat g)) ∧
      (s.vstat g = 3 → (s.g g).resumeAt = none → (s.g g).resumed = false → After (.vsqResume g) s (fun t => OnlyGroup g [] s t ∧
        t.g g = { s.g g with resumeAt := some (s.now + 40 * ns) })) ∧
      (s.vstat g ≠ 3 ∨ (s.g g).resumed = true → After (.vsqResume g) s (fun t => t = s)))

/-- The stream window and the vector counter (02 R72, R73, R79, R89): ARM empties the window and starts the fetch, DISARM
empties it and stops the fetch of a group that does not run from it; a fetched word enters the window at the index it
was fetched for; VCNT_LO reads the low 32 bits of the count and latches the high part unless DEBUG is set. Instruction
RAM from the bus (02 R36, R89): a write to a group that is neither ARMED nor in RUN stores its bytes, a read gives what
is stored and changes nothing but the answer; in ARMED and RUN a write is denied. -/
def Obligations.StreamWindowVectorCountAndInstructionRam : Prop :=
  (
    ∀ (s : State) (g : Fin 24) (env : G6Env) (debug : Bool),
      After (.sctrlArm g) s (fun t => OnlyGroup g [R.VSQ_SSTAT g] s t ∧
        t.g g = { s.g g with sArmed := true, sF := 0, sH1 := 0, sWin := [] }) ∧
      ((s.g g).smode = false → After (.sctrlDisarm g) s (fun t => OnlyGroup g [R.VSQ_SSTAT g] s t ∧
        t.g g = { s.g g with sArmed := false, sF := 0, sH1 := 0, sWin := [] })) ∧
      (∀ bytes u, (s.g g).sArmed = true → (s.g g).sF < (s.g g).sH1 + 4096 →
        s.g6ReadBytes (vsqSrc g) (s.rdPair (R.VSQ_SBASE_LO g) (R.VSQ_SBASE_HI g) + 32 * (s.g g).sF) 32 [env] 1 = (.ok, bytes, u) →
        After (.streamFetch g env) s (fun t => (t.g g).sF = (u.g g).sF + 1 ∧
          ((u.g g).sF, u.now, StreamWord.ok (BitVec.ofNat 256 (leOf bytes))) ∈ (t.g g).sWin ∧ t.lines = u.lines ∧
          (∀ k, k ≠ g → t.g k = u.g k))) ∧
      After (.vcntLoRead g debug) s (fun t => t.reply = ⟨some .ok, leBytes 4 (s.g g).vcnt⟩ ∧
        (debug = true → t = { s with reply := t.reply }) ∧
        (debug = false → t = { s with reply := t.reply, latch := t.latch } ∧
          Sparse.get resetOf t.latch (R.VSQ_VCNT_HI g) = BitVec.ofNat 32 ((s.g g).vcnt / 2 ^ 32)))) ∧
  (
    ∀ (s : State) (g : Fin 24) (off : Nat) (data : List Nat) (len : Nat),
      (s.vstat g = 1 ∨ s.vstat g = 2 → After (.instrRamWrite g off data []) s (fun t => t.reply = ⟨some .errDenied, []⟩ ∧
        t = { s with reply := t.reply, regs := t.regs } ∧ t.flag (R.VSQ_CAUSE g) F.VSQ_CAUSE_CMDERR = true)) ∧
      (s.vstat g ≠ 1 → s.vstat g ≠ 2 → (s.g g).iramUe = [] → bytesWf data = true → off + data.length ≤ 0x200000 →
        After (.instrRamWrite g off data []) s (fun t => t.reply = ⟨some .ok, []⟩ ∧
          t = { s with reply := t.reply, grp := t.grp } ∧ (∀ k, k ≠ g → t.g k = s.g k) ∧
          (∀ i, i < data.length → t.iramByte g (off + i) = nth data i 0) ∧
          (∀ a, a < off ∨ off + data.length ≤ a → t.iramByte g a = s.iramByte g a))) ∧
      ((s.g g).iramUe = [] → After (.instrRamRead g off len []) s (fun t => t = { s with reply := t.reply } ∧
        t.reply = ⟨some .ok, (List.range len).map (fun i => s.iramByte g (off + i))⟩)))

/-! ### Vectors and decisions at the balls (02_vector_sequencer.md R45 to R48, R58 to R68, R77, R80, R84 to R86) -/

/-- A decision at its decision point (02 R45, R47, R48, R60): a taken JC discards the words issued after it and goes to its
target; one not taken leaves them; a MATCH that matches or has no repetition left ends with the number of the repetition
and MFAIL. Each starts a fork span of 40 ns. -/
def Obligations.DecisionsTakeEffectAtTheirDecisionPoint : Prop :=
  ∀ (s : State) (g : Fin 24),
    (∀ d b p, (s.g g).dec = some d → d.dp = some b → s.running g = true → s.reached g b = true →
      s.known g d.cond d.be d.didx = .val true → s.target g d.loc d.arg = .inl p →
      After (.jcDecision g) s (fun t => OnlyGroup g [] s t ∧ t.now = max s.now b ∧
        t.g g = { s.g g with
          dec := none, forkEnd := b + 40 * ns, pipe := [], nextBs := b, escPt := none, pc := some p
          wrsv := (s.g g).wrsv.filter (fun u => decide (u + 40 * ns < b)) })) ∧
    (∀ d b, (s.g g).dec = some d → d.dp = some b → s.running g = true → s.reached g b = true →
      s.known g d.cond d.be d.didx = .val false →
      After (.jcDecision g) s (fun t => OnlyGroup g [] s t ∧ t.now = max s.now b ∧
        t.g g = { s.g g with dec := none, forkEnd := b + 40 * ns })) ∧
    (∀ e rest ok, (s.g g).pipe = e :: rest → s.running g = true → e.reps = .untilMatch → s.overruns g e < e.done →
      s.matchKnown g e (e.done - s.overruns g e) = .val ok →
      (ok = true ∨ e.done - s.overruns g e = wordArg e.word) → e.done < 2 ^ 24 →
      After (.matchDecision g) s (fun t => OnlyGroup g [R.VSQ_MCNT g, R.VSQ_STAT g, R.VSQ_CAUSE g] s t ∧
        (t.g g).pipe = rest ∧ (t.g g).nextBs = e.bs + e.done * e.period ∧
        (t.g g).forkEnd = e.bs + e.done * e.period + 40 * ns ∧
        t.fld (R.VSQ_MCNT g) F.VSQ_MCNT_K = e.done - s.overruns g e ∧
        t.flag (R.VSQ_STAT g) F.VSQ_STAT_MFAIL = !ok ∧
        (ok = false → t.flag (R.VSQ_CAUSE g) F.VSQ_CAUSE_MFAIL = true)))

/-- SYNC, the loss of a gang and the escape timer (02 R66 to R68; 13 R463, 10 R365 for the stops from outside): a released
SYNC ends at the boundary, a lost gang ends the run with GANG_LOST, an expiry is counted up to 15, and a group whose
die is fenced or halted, or whose data source is fenced, stops with the fault of that cause. -/
def Obligations.SyncEscapeAndStopsFromOutside : Prop :=
  ∀ (s : State) (g : Fin 24),
    (∀ e rest r, (s.g g).pipe = e :: rest → s.running g = true → e.reps = .untilSync → 0 < e.done →
      s.syncTime g = some r → r ≤ e.bs + e.done * e.period →
      After (.syncRelease g) s (fun t => (t.g g).pipe = rest ∧ (t.g g).nextBs = e.bs + e.done * e.period ∧
        (t.g g).forkEnd = e.bs + e.done * e.period + 40 * ns ∧ (t.g g).syncArr = none ∧
        t = { s with now := t.now, regs := t.regs, grp := t.grp } ∧ SameRegs [R.VSQ_STAT g, R.VSQ_CAUSE g] s t ∧
        (ctlEsc e.word = false → t.regs = s.regs) ∧ (∀ k, k ∉ s.members g → t.g k = s.g k) ∧
        ∀ m ∈ s.members g, m ≠ g → (s.g m).syncArr.isSome = true → (t.g m).syncArr = none ∧ (t.g m).syncRel = some r)) ∧
    (∀ l e rest, (s.g g).lostAt = some l → s.running g = true → l ≤ (s.g g).nextVec → (s.g g).pipe = e :: rest →
      After (.gangLost g) s (fun t => t.vstat g = 5 ∧ t.fld (R.VSQ_FAULT g) F.VSQ_FAULT_CODE = 0x09 ∧
        t.flag (R.VSQ_CAUSE g) F.VSQ_CAUSE_FAULT = true ∧ (t.g g).pipe = [] ∧ t.lines = s.lines)) ∧
    (s.running g = true → After (.escapeExpiry g) s (fun t => OnlyGroup g [R.VSQ_STAT g, R.VSQ_CAUSE g] s t ∧
      t.fld (R.VSQ_STAT g) F.VSQ_STAT_ESCCNT = min 15 (s.fld (R.VSQ_STAT g) F.VSQ_STAT_ESCCNT + 1) ∧
      t.g g = { s.g g with escN := (s.g g).escN + 1 } ∧
      (s.fld (R.VSQ_STAT g) F.VSQ_STAT_ESCCNT = 15 → t.flag (R.VSQ_CAUSE g) F.VSQ_CAUSE_ESCOVF = true))) ∧
    (∀ why, s.active g = true → s.stopCause g why = true → After (.groupFenceStop g why) s (fun t => t.vstat g = 6 ∧
      t.flag (R.VSQ_CAUSE g) F.VSQ_CAUSE_FAULT = true ∧ t.lines = s.lines ∧
      t.fld (R.VSQ_FAULT g) F.VSQ_FAULT_CODE = (match why with | .src => 0x08 | .fence => 0x0E | .integ => 0x0F)))

/-- A vector boundary (02 R37, R59, R77, R80, R85): where the next vector of the front word starts, it lasts one vector
period, and stays in front until the word's vectors are done; where the run ends, VSQ_STAT shows
the state it ends in, and VSQ_FAULT the fault, if there is one. -/
def Obligations.VectorBoundaryRunsOrEnds : Prop :=
  ∀ (s : State) (g : Fin 24) (cm : List CmpEdge) (u : List (Nat × BitVec 8)) (ups : List Nat) (e : PatEntry) (rest : List PatEntry),
    s.running g = true → (s.g g).pipe = e :: rest →
    (s.abortOver g (e.bs + e.done * e.period) (s.boundaryOf g e) = .vector →
      After (.vectorStart g cm u ups) s (fun t =>
        (t.g g).lastEnd = e.bs + e.done * e.period + e.period ∧ (t.g g).pipe = e.advance rest ∧
        s.now ≤ t.now ∧ e.bs + e.done * e.period ≤ t.now)) ∧
    (∀ st code, s.abortOver g (e.bs + e.done * e.period) (s.boundaryOf g e) = .stop st code → st < 8 → code < 256 →
      After (.vectorStart g cm u ups) s (fun t => t.vstat g = st ∧ (t.g g).pipe = [] ∧ (t.g g).fdq = [] ∧
        (st = 4 → t.flag (R.VSQ_CAUSE g) F.VSQ_CAUSE_DONE = true) ∧
        (code ≠ 0 → t.fld (R.VSQ_FAULT g) F.VSQ_FAULT_CODE = code ∧ t.flag (R.VSQ_CAUSE g) F.VSQ_CAUSE_FAULT = true) ∧
        t.lines = s.lines))

/-- Every vector that starts is counted, modulo 2 to the 56 (02 R77), whatever it drives, strobes and records; an ended
run counts nothing. -/
def Obligations.EveryVectorIsCountedOnce : Prop :=
  ∀ (s t : State) (g : Fin 24) (cm : List CmpEdge) (u : List (Nat × BitVec 8)) (ups : List Nat),
    exec (.vectorStart g cm u ups) s = .next t →
    (t.g g).vcnt = (s.g g).vcnt ∨ (t.g g).vcnt = ((s.g g).vcnt + 1) % 2 ^ 56 ∧ (t.g g).lastEnd = (s.g g).nextVec +
      (match (s.g g).pipe with | [] => 0 | e :: _ => e.period)

/-! ### Pin channels (04_pin_channels.md R123, R140 to R153) -/

/-- Release and trim (04 R123, R140 to R142; 17 R559): REL is stored while the group is neither ARMED, RUN nor PAUSED, and
refused with CMDERR where the rules refuse it; a trim sets CALBUSY, its end clears it and stores the die's temperature,
and the drift check sets TDRIFT when the die is then more than 10 degrees away. -/
def Obligations.ReleaseTrimAndDriftCheck : Prop :=
  ∀ (s : State) (g : Fin 24) (ok : Bool),
    (s.groupHeld g = false → s.fld R.PKG_PWR F.PKG_PWR_STATE = 0 → s.active g = false →
      After (.groupRelease g true) s (fun t => OnlyGroup g [R.CH_GCTRL g] s t ∧ t.flag (R.CH_GCTRL g) F.CH_GCTRL_REL = true ∧
        t.g g = (if s.flag (R.CH_GCTRL g) F.CH_GCTRL_REL then s.g g
          else { s.g g with fpOff := none, relRun := (s.g g).run }))) ∧
    (s.active g = false → s.flag (R.CH_GSTAT g) F.CH_GSTAT_CALBUSY = false →
      After (.groupRelease g false) s (fun t => OnlyGroup g [R.CH_GCTRL g] s t ∧
        t.flag (R.CH_GCTRL g) F.CH_GCTRL_REL = false ∧
        t.g g = (if s.flag (R.CH_GCTRL g) F.CH_GCTRL_REL then { s.g g with fpOff := some s.now } else s.g g))) ∧
    (s.groupHeld g = true → After (.groupRelease g true) s (fun t => OnlyRegs [R.VSQ_CAUSE g] s t ∧
        t.flag (R.VSQ_CAUSE g) F.VSQ_CAUSE_CMDERR = true)) ∧
    (s.flag (R.CH_GCTRL g) F.CH_GCTRL_REL = true → s.active g = false → s.flag (R.CH_GSTAT g) F.CH_GSTAT_CALBUSY = false →
      After (.calTrim g) s (fun t => OnlyGroup g [R.CH_GSTAT g] s t ∧ t.flag (R.CH_GSTAT g) F.CH_GSTAT_CALBUSY = true ∧
        t.g g = { s.g g with trimAt := some s.now })) ∧
    (∀ t0, (s.g g).trimAt = some t0 → After (.trimEnd g ok) s (fun t =>
      OnlyGroup g [R.CH_CALTEMP g, R.CH_GSTAT g, R.CH_CAUSE g] s t ∧ t.flag (R.CH_GSTAT g) F.CH_GSTAT_CALBUSY = false ∧
      t.flag (R.CH_GSTAT g) F.CH_GSTAT_TRIMOK = ok ∧ t.flag (R.CH_CAUSE g) F.CH_CAUSE_CALDONE = true ∧
      t.fld (R.CH_CALTEMP g) F.CH_CALTEMP_TEMP = s.fld (R.DCR_TEMP (dieOf g)) F.DCR_TEMP_NOW ∧
      t.g g = { s.g g with trimAt := none, trimmed := some s.now, tempN := 0 })) ∧
    (∀ t0, (s.g g).trimmed = some t0 → After (.tdriftCheck g) s (fun t =>
      OnlyGroup g [R.CH_GSTAT g, R.CH_CAUSE g] s t ∧ t.g g = { s.g g with tempN := (s.g g).tempN + 1 } ∧
      t.now = max s.now (t0 + ((s.g g).tempN + 1) * 1000000 * ns) ∧
      (t.flag (R.CH_GSTAT g) F.CH_GSTAT_TDRIFT = true ↔
        40 < (signedOf 11 (s.fld (R.DCR_TEMP (dieOf g)) F.DCR_TEMP_NOW) -
          signedOf 11 (s.fld (R.CH_CALTEMP g) F.CH_CALTEMP_TEMP)).natAbs)))

/-- The edge stampers (04 R143 to R149): an accepted transition is stamped with its fine time less the deskew and waits in
its lane buffer; one within 1 ns of the last leaves MISS, one that finds no room leaves LOST and is counted; LO shows
the head of the queue, HI takes it out, and a flush empties queue, buffers and count. -/
def Obligations.EdgeStampsQueueAndRead : Prop :=
  ∀ (s : State) (g : Fin 24) (p : Fin 32) (cml rising : Bool) (time : Nat),
    (s.stamping g p cml rising = true → time < 2 ^ 48 →
      let u := (s.at_ time).stampsTo g time
      let st := (u.g g).stampers[stampLane p cml]
      let dsk := signedOf 16 (s.fld (R.CH_PIN_DSKRX g p) (if cml then F.CH_PIN_DSKRX_CML else F.CH_PIN_DSKRX_CMH))
      ((∀ x, st.last = some x → x + ns ≤ time) → st.buf.length < 16 → (u.g g).stampQ.length < 4096 →
        After (.edgeStamp g p cml rising time) s (fun t => t.lines = s.lines ∧ (∀ k, k ≠ g → t.g k = s.g k) ∧
          (t.g g).stampQ = (u.g g).stampQ ∧
          ∃ r, (t.g g).stampers[stampLane p cml] = ⟨some time, false, false, st.buf ++ [r]⟩ ∧
            bitsOf r.toNat 0 48 = unsignedOf 48 (time - dsk) ∧ bitsOf r.toNat 48 5 = p.val ∧
            r.getLsbD 53 = cml ∧ r.getLsbD 54 = rising ∧ r.getLsbD 55 = st.miss ∧ r.getLsbD 56 = st.lost ∧
            r.getLsbD 63 = true)) ∧
      (∀ x, st.last = some x → time < x + ns →
        After (.edgeStamp g p cml rising time) s (fun t =>
          (t.g g).stampers[stampLane p cml] = { st with miss := true } ∧ (t.g g).stampQ = (u.g g).stampQ)) ∧
      ((∀ x, st.last = some x → x + ns ≤ time) → 16 ≤ st.buf.length →
        After (.edgeStamp g p cml rising time) s (fun t =>
          (t.g g).stampers[stampLane p cml] = { st with last := some time, miss := false, lost := true } ∧
          t.flag (R.CH_CAUSE g) F.CH_CAUSE_STLOST = true ∧
          t.fld (R.CH_STLOST_CNT g) F.CH_STLOST_CNT_COUNT =
            min (s.fld (R.CH_STLOST_CNT g) F.CH_STLOST_CNT_COUNT + 1) (2 ^ 32 - 1)))) ∧
    (∀ debug, After (.stampLoRead g debug) s (fun t =>
      t.reply = ⟨some .ok, leBytes 4 (((s.stampsTo g s.now).g g).stampQ.headD 0).toNat⟩ ∧
      (t.g g).stampQ = ((s.stampsTo g s.now).g g).stampQ ∧ (debug = false →
        (Sparse.get resetOf t.latch (R.CH_STAMP_HI g)).toNat =
          (((s.stampsTo g s.now).g g).stampQ.headD 0).toNat / 2 ^ 32))) ∧
    (∀ debug, After (.stampHiRead g debug) s (fun t =>
      t.reply = ⟨some .ok, leBytes 4 (if debug then (((s.stampsTo g s.now).g g).stampQ.headD 0).toNat / 2 ^ 32
        else (Sparse.get resetOf s.latch (R.CH_STAMP_HI g)).toNat)⟩ ∧
      (t.g g).stampQ = (if debug then ((s.stampsTo g s.now).g g).stampQ else ((s.stampsTo g s.now).g g).stampQ.tail) ∧
      t.fld (R.CH_STSTAT g) F.CH_STSTAT_COUNT = (t.g g).stampQ.length % 2 ^ 13)) ∧
    After (.stampFlush g) s (fun t => OnlyGroup g [R.CH_STLOST_CNT g, R.CH_STSTAT g] s t ∧ (t.g g).stampQ = [] ∧
      (∀ l : Fin 64, (t.g g).stampers[l].buf = []) ∧ t.rd (R.CH_STLOST_CNT g) = 0 ∧
      t.fld (R.CH_STSTAT g) F.CH_STSTAT_COUNT = 0)

/-- The fabric data and fail ports of a group (04 R151 to R153): a data word waits at the end of a queue of 64, a full
queue sets FOVER; the next vector's word is taken from the front, an empty queue gives zeros, is counted and sets
FUNDER; a fail word goes out at its time. -/
def Obligations.FabricDataAndFailPort : Prop :=
  ∀ (s : State) (g : Fin 24) (w : BitVec 1024),
    (s.fdFenced g = false → (s.g g).fdq.length < 64 → After (.fabricDataWord g w) s (fun t =>
      OnlyGroup g [R.CH_GSTAT g] s t ∧ t.g g = { s.g g with fdq := (s.g g).fdq ++ [w] } ∧
      t.fld (R.CH_GSTAT g) F.CH_GSTAT_FDLEVEL = (s.g g).fdq.length + 1)) ∧
    (s.fdFenced g = false → 64 ≤ (s.g g).fdq.length → After (.fabricDataWord g w) s (fun t =>
      OnlyRegs [R.CH_CAUSE g] s t ∧ t.flag (R.CH_CAUSE g) F.CH_CAUSE_FOVER = true)) ∧
    (∀ b v rest, s.running g = true → s.flag (R.CH_GCTRL g) F.CH_GCTRL_FDEN = true →
      ballOf (s.g g).pipe ((s.g g).dec.bind (fun d => d.dp)) (s.g g).fdTaken.length = some b → (s.g g).fdq = v :: rest → rest.length < 64 →
      After (.fabricDataTake g) s (fun t => OnlyGroup g [R.CH_GSTAT g] s t ∧ t.now = max s.now (b - 24 * ns) ∧
        t.g g = { s.g g with fdq := rest, fdTaken := (s.g g).fdTaken ++ [v] } ∧
        t.fld (R.CH_GSTAT g) F.CH_GSTAT_FDLEVEL = rest.length)) ∧
    (∀ b, s.running g = true → s.flag (R.CH_GCTRL g) F.CH_GCTRL_FDEN = true →
      ballOf (s.g g).pipe ((s.g g).dec.bind (fun d => d.dp)) (s.g g).fdTaken.length = some b → (s.g g).fdq = [] →
      After (.fabricDataTake g) s (fun t => OnlyGroup g [R.CH_GSTAT g, R.CH_FUNDER_CNT g, R.CH_CAUSE g] s t ∧
        (t.g g).fdTaken = (s.g g).fdTaken ++ [0] ∧ t.flag (R.CH_CAUSE g) F.CH_CAUSE_FUNDER = true ∧
        t.fld (R.CH_FUNDER_CNT g) F.CH_FUNDER_CNT_COUNT =
          min (s.fld (R.CH_FUNDER_CNT g) F.CH_FUNDER_CNT_COUNT + 1) (2 ^ 32 - 1))) ∧
    (∀ f rest, (s.g g).ffStage = f :: rest → After (.failPortWord g) s (fun t =>
      t = { s with now := max s.now f.1, out := .failWord g f.2.1 f.2.2.1 f.2.2.2.1 f.2.2.2.2 :: s.out, grp := t.grp } ∧
      (∀ k, k ≠ g → t.g k = s.g k) ∧ t.g g = { s.g g with ffStage := rest }))

/-! ### Fail capture (05_fail_capture.md R161 to R187) -/

/-- Site masks and counters (05 R161, R162, R166 to R169): a mask bit sent from another die is set when it arrives, a
write sets bits that are in effect 40 ns later, CLRSITE and CLRCNT clear their counters where no group they concern is
active and are refused with CMDERR elsewhere. -/
def Obligations.SiteMasksAndCounterClears : Prop :=
  ∀ (s : State) (d : Fin 6) (g : Fin 24) (site : Fin 256) (i : Fin 8) (bits : BitVec 32),
    (∀ e, (s.c d).maskTravel.find? (fun e => e.1 == site.val) = some e →
      After (.siteMaskArrive d site) s (fun t => OnlyCapture d [R.FCD_SMASK d (e.1 / 32)] s t ∧ t.now = max s.now e.2 ∧
        t.rd (R.FCD_SMASK d (e.1 / 32)) = s.rd (R.FCD_SMASK d (e.1 / 32)) ||| (1#32 <<< (e.1 % 32)) ∧
        (t.c d).maskTravel = (s.c d).maskTravel.erase e ∧ (t.c d).maskEff = ⟨e.1, 24, e.2, e.2⟩ :: (s.c d).maskEff)) ∧
    After (.fcdSmaskWrite d i bits) s (fun t => OnlyCapture d [R.FCD_SMASK d i] s t ∧
      t.rd (R.FCD_SMASK d i) = s.rd (R.FCD_SMASK d i) ||| bits ∧
      ∀ b, b < 32 → bits.getLsbD b = true → (⟨32 * i.val + b, 24, s.now + 40 * ns, s.now + 40 * ns⟩ : MaskEff) ∈ (t.c d).maskEff) ∧
    (s.dieActive d = true → After (.clrsite d) s (fun t => OnlyRegs [R.FCD_STAT d] s t ∧
      t.flag (R.FCD_STAT d) F.FCD_STAT_CMDERR = true)) ∧
    (s.dieActive d = false → After (.clrsite d) s (fun t => (t.c d).sitePart = [] ∧ t.lines = s.lines ∧
      ∀ k, k ≠ d → t.c k = s.c k)) ∧
    (s.active g = false → After (.clrcnt g) s (fun t => (t.g g).cnt = Vector.replicate 33 Counter.zero ∧
      t.lines = s.lines ∧ ∀ k, k ≠ g → t.g k = s.g k)) ∧
    (s.active g = true → ∀ c, c ∈ [Instr.clrcnt g, .lreset g, .creset g] → After c s (fun t =>
      OnlyRegs [R.VSQ_CAUSE g] s t ∧ t.flag (R.VSQ_CAUSE g) F.VSQ_CAUSE_CMDERR = true))

/-- The rings return to their start (05 R177, R179): LRESET sets the log's pointers to 0 and clears LLOST and LINC, CRESET
the same of capture, and START leaves the log's pointers, LLOST and LINC of every group as they are. A counter whose
increments are all in reads as it is stored (05 R166, R167): its value, or 0 with INVALID. -/
def Obligations.RingResetsAndCounterReads : Prop :=
  ∀ (s : State) (g : Fin 24) (i : Fin 33),
    (s.active g = false → After (.lreset g) s (fun t =>
      OnlyRegs [R.FCU_LWPTR g, R.FCU_LRPTR g, R.FCU_LLOST g, R.FCU_STAT g, R.FCU_CAUSE g] s t ∧ t.rd (R.FCU_LWPTR g) = 0 ∧
      t.rd (R.FCU_LRPTR g) = 0 ∧ t.rd (R.FCU_LLOST g) = 0 ∧ t.flag (R.FCU_STAT g) F.FCU_STAT_LINC = false)) ∧
    (s.active g = false → After (.creset g) s (fun t =>
      OnlyRegs [R.FCU_CWPTR g, R.FCU_CRPTR g, R.FCU_CLOST g, R.FCU_STAT g] s t ∧ t.rd (R.FCU_CWPTR g) = 0 ∧
      t.rd (R.FCU_CRPTR g) = 0 ∧ t.rd (R.FCU_CLOST g) = 0 ∧ t.flag (R.FCU_STAT g) F.FCU_STAT_CINC = false)) ∧
    (∀ (m : BitVec 2) (k : Fin 24), After (.vsqStart g m) s (fun t =>
      t.rd (R.FCU_LWPTR k) = s.rd (R.FCU_LWPTR k) ∧ t.rd (R.FCU_LRPTR k) = s.rd (R.FCU_LRPTR k) ∧
      t.rd (R.FCU_LLOST k) = s.rd (R.FCU_LLOST k) ∧
      t.flag (R.FCU_STAT k) F.FCU_STAT_LINC = s.flag (R.FCU_STAT k) F.FCU_STAT_LINC)) ∧
    ((s.g g).cntStage = [] → After (.counterRead (.group g i) false []) s (fun t => t = { s with reply := t.reply } ∧
      t.reply = ⟨some .ok, leBytes 4 (if ((s.g g).cnt[i]).inv then 0 else ((s.g g).cnt[i]).val)⟩)) ∧
    ((s.g g).cntStage = [] → After (.counterRead (.group g i) true []) s (fun t => t = { s with reply := t.reply } ∧
      t.reply = ⟨some .ok, leBytes 4 (b2n ((s.g g).cnt[i]).sat + 2 * b2n ((s.g g).cnt[i]).inv)⟩))

/-- Log and capture records on their way (05 R173, R174, R176, R179): a record enters its buffer with LOSS when one before
it was lost, and a full buffer loses it, counts it and marks the results incomplete; the writer takes the oldest record
when the ring has room; a write's response moves the write pointer. -/
def Obligations.RecordsEnterAndLeaveTheirBuffers : Prop :=
  ∀ (s : State) (g : Fin 24) (env : G6Env),
    (∀ r rest, (s.g g).logStage = r :: rest → (s.g g).logBuf.length < 16384 →
      After (.logRecordEnter g) s (fun t => OnlyGroup g [] s t ∧ t.now = max s.now r.time ∧ (t.g g).logStage = rest ∧
        ∃ r', (t.g g).logBuf = (s.g g).logBuf ++ [r'] ∧ r'.run = r.run ∧
          r'.rec256 = if (s.g g).runs.any (fun q => q.no == r.run && q.pendLoss) then withLoss r.rec256 else r.rec256)) ∧
    (∀ r rest, (s.g g).logStage = r :: rest → 16384 ≤ (s.g g).logBuf.length →
      After (.logRecordEnter g) s (fun t => (t.g g).logStage = rest ∧ (t.g g).logBuf = (s.g g).logBuf ∧
        t.flag (R.FCU_STAT g) F.FCU_STAT_LINC = true ∧ t.flag (R.FCU_CAUSE g) F.FCU_CAUSE_LOVR = true ∧
        t.fld (R.FCU_LLOST g) F.FCU_LLOST_COUNT = min (s.fld (R.FCU_LLOST g) F.FCU_LLOST_COUNT + 1) (2 ^ 32 - 1))) ∧
    (∀ f rest, (s.g g).logFly = f :: rest → f.err = false → After (.logWriteDone g) s (fun t =>
      t.rd (R.FCU_LWPTR g) = s.rd (R.FCU_LWPTR g) + 1 ∧ (t.g g).logFly = rest ∧ t.lines = s.lines ∧
      ∀ k, k ≠ g → t.g k = s.g k)) ∧
    (∀ f rest, (s.g g).logFly = f :: rest → f.err = true → After (.logWriteDone g) s (fun t =>
      t.rd (R.FCU_LWPTR g) = s.rd (R.FCU_LWPTR g) + 1 ∧ (t.g g).logFly = rest ∧
      t.flag (R.FCU_CAUSE g) F.FCU_CAUSE_WERR = true ∧ t.flag (R.FCU_STAT g) F.FCU_STAT_LINC = true)) ∧
    (∀ r rest, (s.g g).logBuf = r :: rest → s.logFull g = false →
      (∀ tick, s.endDue g tick = none) → (∀ x, x ∈ (s.g g).logStage → s.logTickAt g < x.time) →
      After (.logTake g env) s (fun t => (t.g g).logBuf = rest ∧ (t.g g).logFly.length = (s.g g).logFly.length + 1 ∧
        t.now = s.logTickAt g ∧ ∀ k, k ≠ g → t.g k = s.g k)) ∧
    (∀ r rest, (s.g g).capStage = r :: rest → (s.g g).capBuf.length < 256 →
      After (.captureEnter g) s (fun t => OnlyGroup g [] s t ∧ t.now = max s.now r.time ∧ (t.g g).capStage = rest ∧
        (t.g g).capLoss = false ∧ ∃ r', (t.g g).capBuf = (s.g g).capBuf ++ [r'] ∧ r'.cap = r.cap ∧
          r'.rec256 = if (s.g g).capLoss then withLoss r.rec256 else r.rec256)) ∧
    (∀ r rest, (s.g g).capBuf = r :: rest → s.capFull g = false → (∀ x, x ∈ (s.g g).capStage → s.capTickAt g < x.time) →
      After (.captureTake g [env, env, env, env]) s (fun t => (t.g g).capBuf = rest ∧
        (t.g g).capFly.length = (s.g g).capFly.length + 1 ∧ ∀ k, k ≠ g → t.g k = s.g k)) ∧
    (∀ f rest, (s.g g).capFly = f :: rest → After (.captureWriteDone g) s (fun t =>
      t.rd (R.FCU_CWPTR g) = s.rd (R.FCU_CWPTR g) + 1 ∧ (t.g g).capFly = rest ∧
      (f.err = true → t.flag (R.FCU_CAUSE g) F.FCU_CAUSE_WERR = true ∧ t.flag (R.FCU_STAT g) F.FCU_STAT_CINC = true) ∧
      ∀ k, k ≠ g → t.g k = s.g k))

/-- Bitmap planes (05 R181 to R183): an update enters its queue, or is lost and counted when the queue is full; the catch
cache takes the updates of a die's groups in turn and collects their bits; a flush claims every line, each claimed line
is written by an OR write, and the flush ends when none is left; clears return a plane's status and counts to 0. -/
def Obligations.BitmapUpdatesAreCaught : Prop :=
  ∀ (s : State) (d : Fin 6) (g : Fin 24) (env : G6Env),
    (∀ u rest, (s.g g).bmStage = u :: rest → (s.g g).bmQ.length < 512 → s.bistHeld (dieOf g) 0x0C = false →
      After (.lineUpdateEnter g) s (fun t => OnlyGroup g [] s t ∧
        t.g g = { s.g g with bmStage := rest, bmQ := (s.g g).bmQ ++ [u] } ∧ t.now = max s.now u.time)) ∧
    (∀ u rest, (s.g g).bmStage = u :: rest → u.plane < 4 → 512 ≤ (s.g g).bmQ.length →
      After (.lineUpdateEnter g) s (fun t => (t.g g).bmStage = rest ∧ (t.g g).bmQ = (s.g g).bmQ ∧
        t.flag (R.FCU_CAUSE g) F.FCU_CAUSE_BOVR = true ∧ t.flag (R.FCU_STAT g) F.FCU_STAT_BINC = true ∧
        t.flag (R.FCD_BM_STAT (dieOf g) u.plane) F.FCD_BM_STAT_INCOMPLETE = true)) ∧
    (∀ u rest, (∀ k x, x ∈ (s.g k).bmStage → s.catchSlotAt d < x.time) →
      (rrOrder d (s.c d).catchRr).find? (fun g => !(s.g g).bmQ.isEmpty) = some g → (s.g g).bmQ = u :: rest →
      (s.c d).catch_ = [] → After (.catchTake d false env) s (fun t => (t.g g).bmQ = rest ∧
        (t.c d).catch_ = [⟨u.plane, u.addr, u.bits, false⟩] ∧ t.lines = s.lines ∧ ∀ k, k ≠ g → t.g k = s.g k)) ∧
    (∀ u rest l, (∀ k x, x ∈ (s.g k).bmStage → s.catchSlotAt d < x.time) →
      (rrOrder d (s.c d).catchRr).find? (fun g => !(s.g g).bmQ.isEmpty) = some g → (s.g g).bmQ = u :: rest →
      (s.c d).catch_ = [l] → l.addr = u.addr → l.plane = u.plane → After (.catchTake d false env) s (fun t =>
        (t.g g).bmQ = rest ∧ (t.c d).catch_ = [{ l with bits := l.bits ||| u.bits }] ∧ t.lines = s.lines)) ∧
    (∀ f rest, (s.c d).orFly = f :: rest → f.err = false → After (.orWriteDone d false env) s (fun t =>
      OnlyCapture d [] s t ∧ t.c d = { s.c d with orFly := rest })) ∧
    After (.bmflush d) s (fun t => OnlyCapture d [R.FCD_STAT d] s t ∧ t.flag (R.FCD_STAT d) F.FCD_STAT_BMBUSY = true ∧
      (∀ l, l ∈ (t.c d).catch_ → l.flush = true) ∧ (t.c d).catch_.length = (s.c d).catch_.length) ∧
    ((∀ l, l ∈ (s.c d).catch_ → l.flush = false) → (∀ f, f ∈ (s.c d).orFly → f.flush = false) →
      After (.flushDone d) s (fun t => OnlyRegs [R.FCD_STAT d] s t ∧ t.flag (R.FCD_STAT d) F.FCD_STAT_BMBUSY = false)) ∧
    (∀ (planes : BitVec 4) (n : Nat), n < 4 → planes.getLsbD n = true → After (.bmclr d planes) s (fun t =>
      t = { s with regs := t.regs } ∧ t.rd (R.FCD_BM_STAT d n) = 0 ∧ t.rd (R.FCD_BM_LOST d n) = 0 ∧
      t.rd (R.FCD_BM_ERR d n) = 0 ∧
      SameRegs ((List.range 4).flatMap (fun k => [R.FCD_BM_STAT d k, R.FCD_BM_LOST d k, R.FCD_BM_ERR d k])) s t))

/-- The feed of the repair analysis and the end of a run's results (05 R184, R187): a fail address waits in its queue, a
full queue counts it and leaves one loss marker, and SIGDONE comes once the oldest run is settled. -/
def Obligations.RepairFeedAndSigdone : Prop :=
  ∀ (s : State) (g : Fin 24),
    (∀ i rest, (s.g g).raeStage = i :: rest → (s.g g).raeQ.length < 1024 → After (.raeFeedEnter g) s (fun t =>
      OnlyGroup g [] s t ∧ t.g g = { s.g g with raeStage := rest, raeQ := (s.g g).raeQ ++ [i] })) ∧
    (∀ i rest, (s.g g).raeStage = i :: rest → 1024 ≤ ((s.g g).raeQ.filter (fun x => !x.marker)).length →
      After (.raeFeedEnter g) s (fun t => OnlyGroup g [R.FCU_RLOST g, R.FCU_STAT g, R.FCU_CAUSE g] s t ∧
        t.flag (R.FCU_CAUSE g) F.FCU_CAUSE_ROVR = true ∧ t.flag (R.FCU_STAT g) F.FCU_STAT_RINC = true ∧
        (∃ m, m.marker = true ∧ (t.g g).raeQ.getLast? = some m) ∧
        (t.g g).raeQ.length ≤ (s.g g).raeQ.length + 1)) ∧
    (∀ r rest, (s.g g).runs = r :: rest → s.runSettled g r = true → After (.sigdone g) s (fun t => (t.g g).runs = rest ∧
      t.flag (R.FCU_CAUSE g) F.FCU_CAUSE_SIGDONE = true ∧ t.lines = s.lines ∧ ∀ k, k ≠ g → t.g k = s.g k))

/-! ### Repair analysis (06_repair_analysis.md R193 to R217) -/

/-- Commands of a repair analysis engine (06 R206 to R210), where nothing else is due: each of the four waits at the end of a queue with its cut
20 ns back, one for a site that is off is refused, and one that finds four commands held is lost and counted. -/
def Obligations.RepairCommandsQueueWithTheirCut : Prop :=
  ∀ (s : State) (d : Fin 6) (x : Fin 256), Quiet s →
    ((s.c d).cmdQ.length + (if (s.c d).cmdRun.isSome then 1 else 0) < 4 →
      After (.solveAll d) s (fun t => OnlyCapture d [] s t ∧
        t.c d = { s.c d with cmdQ := (s.c d).cmdQ ++ [⟨0, 0, s.now - 20 * ns⟩] }) ∧
      After (.clearAll d) s (fun t => OnlyCapture d [] s t ∧
        t.c d = { s.c d with cmdQ := (s.c d).cmdQ ++ [⟨2, 0, s.now - 20 * ns⟩] }) ∧
      After (.clearSite d x) s (fun t => OnlyCapture d [] s t ∧
        t.c d = { s.c d with cmdQ := (s.c d).cmdQ ++ [⟨3, x, s.now - 20 * ns⟩] }) ∧
      (s.siteEn d x = true → After (.solveSite d x) s (fun t => OnlyCapture d [] s t ∧
        t.c d = { s.c d with cmdQ := (s.c d).cmdQ ++ [⟨1, x, s.now - 20 * ns⟩] }))) ∧
    (s.siteEn d x = false → After (.solveSite d x) s (fun t => OnlyRegs [R.RAE_CAUSE d] s t ∧
      t.flag (R.RAE_CAUSE d) F.RAE_CAUSE_CMDERR = true)) ∧
    (4 ≤ (s.c d).cmdQ.length + (if (s.c d).cmdRun.isSome then 1 else 0) →
      ∀ c, c ∈ [Instr.solveAll d, .clearAll d, .clearSite d x] → After c s (fun t =>
        OnlyRegs [R.RAE_CMDLOST_CNT d, R.RAE_CAUSE d] s t ∧ t.flag (R.RAE_CAUSE d) F.RAE_CAUSE_CMDERR = true ∧
        t.fld (R.RAE_CMDLOST_CNT d) F.RAE_CMDLOST_CNT_COUNT =
          min (s.fld (R.RAE_CMDLOST_CNT d) F.RAE_CMDLOST_CNT_COUNT + 1) (2 ^ 32 - 1)))

/-- Intake and the run of a command (05 R162, 06 R193, R195, R198, R201, R204, R209, R210), where nothing else is due: an
intake slot takes the head of the next queue and, with EN = 0, drops it; with EN = 1 a loss marker is counted, a fail
address without a map is counted, a fail reaches its domain where that is resident, and starts a miss of 64 ns where it
is not; a command starts once no queue holds an entry at or before its cut, and a solve counts RAE_SEQ up; a clear leaves
the domains of its scope untouched. -/
def Obligations.RepairCommandsRunToTheirEnd : Prop :=
  ∀ (s : State) (d : Fin 6), Quiet s →
    (s.dieActive d = false → After (.clrsmask d) s (fun t => (∀ i, i < 8 → t.rd (R.FCD_SMASK d i) = 0) ∧
      OnlyCapture d ((List.range 8).map (fun i => R.FCD_SMASK d i)) s t ∧ t.c d = { s.c d with maskEff := [] })) ∧
    (∀ (g : Fin 24) i rest, (s.c d).miss = none → (s.c d).cmdRun = none → (s.c d).cmdQ = [] →
      (∀ k x, x ∈ (s.g k).raeStage → s.raeSlotAt d < x.time) →
      (rrOrder d (s.c d).raeRr).find? (fun g => !(s.g g).raeQ.isEmpty) = some g → (s.g g).raeQ = i :: rest →
      let took (t : State) : Prop := t.now = s.raeSlotAt d ∧ t.g g = { s.g g with raeQ := rest } ∧
        (t.c d).raeRr = g.val % 4 ∧ t.lines = s.lines ∧ ∀ k, k ≠ g → t.g k = s.g k
      let tm := s.tmpl d (s.siteTmpl d i.site)
      (s.flag (R.RAE_CTRL d) F.RAE_CTRL_EN = false → After (.raeIntake d) s (fun t => took t ∧ t.regs = s.regs ∧
        (t.c d).doms = (s.c d).doms)) ∧
      (s.flag (R.RAE_CTRL d) F.RAE_CTRL_EN = true → i.marker = true → After (.raeIntake d) s (fun t => took t ∧
        t.fld (R.RAE_LOSS_CNT d) F.RAE_LOSS_CNT_COUNT = min (s.fld (R.RAE_LOSS_CNT d) F.RAE_LOSS_CNT_COUNT + 1) (2 ^ 32 - 1) ∧
        t.flag (R.RAE_STAT d) F.RAE_STAT_LOSS = true ∧ t.flag (R.RAE_CAUSE d) F.RAE_CAUSE_LOSS = true ∧
        (t.c d).doms = (s.c d).doms)) ∧
      (s.flag (R.RAE_CTRL d) F.RAE_CTRL_EN = true → i.marker = false → s.raeMap d i = none →
        After (.raeIntake d) s (fun t => took t ∧ t.flag (R.RAE_CAUSE d) F.RAE_CAUSE_BADMAP = true ∧
          t.fld (R.RAE_BADMAP_CNT d) F.RAE_BADMAP_CNT_COUNT =
            min (s.fld (R.RAE_BADMAP_CNT d) F.RAE_BADMAP_CNT_COUNT + 1) (2 ^ 32 - 1) ∧ (t.c d).doms = (s.c d).doms)) ∧
      (∀ n r c, s.flag (R.RAE_CTRL d) F.RAE_CTRL_EN = true → i.marker = false → s.raeMap d i = some (n, r, c) →
        (s.c d).resident.contains n = true → After (.raeIntake d) s (fun t => took t ∧
          t.dom d n = (s.dom d n).fail tm.sr tm.sc r c ∧ (∀ m, m ≠ n → t.dom d m = s.dom d m) ∧ (t.c d).miss = none)) ∧
      (∀ n r c, s.flag (R.RAE_CTRL d) F.RAE_CTRL_EN = true → i.marker = false → s.raeMap d i = some (n, r, c) →
        (s.c d).resident.contains n = false → After (.raeIntake d) s (fun t => took t ∧
          (∃ m, (t.c d).miss = some m ∧ m.until_ = s.raeSlotAt d + 64 * ns ∧ m.dom = n ∧ m.reads = (s.dom d n).touched ∧
            m.fail = some (tm.sr, tm.sc, r, c)) ∧
          t.fld (R.RAE_MISS_CNT d) F.RAE_MISS_CNT_COUNT =
            min (s.fld (R.RAE_MISS_CNT d) F.RAE_MISS_CNT_COUNT + 1) (2 ^ 32 - 1) ∧ (t.c d).doms = (s.c d).doms))) ∧
    (∀ q rest, (s.c d).cmdQ = q :: rest → (s.c d).cmdRun = none → s.cutDrained d q.cut = true → q.op = 1 →
      After (.raeCmdStart d) s (fun t => OnlyCapture d [R.RAE_SEQ d] s t ∧ t.now = max s.now (q.cut + 10 * ns) ∧
        t.rd (R.RAE_SEQ d) = s.rd (R.RAE_SEQ d) + 1 ∧ (t.c d).cmdQ = rest ∧
        (t.c d).cmdRun = some ⟨q, [q.site], 0⟩)) ∧
    (∀ q rest, (s.c d).cmdQ = q :: rest → (s.c d).cmdRun = none → s.cutDrained d q.cut = true → q.op = 2 →
      After (.raeCmdStart d) s (fun t => t.rd (R.RAE_SEQ d) = 0 ∧ t.rd (R.RAE_LOSS_CNT d) = 0 ∧
        t.rd (R.RAE_BADMAP_CNT d) = 0 ∧ t.rd (R.RAE_LATE_CNT d) = 0 ∧ t.rd (R.RAE_MISS_CNT d) = 0 ∧
        t.rd (R.RAE_CMDLOST_CNT d) = 0 ∧ t.flag (R.RAE_STAT d) F.RAE_STAT_LOSS = false ∧ (t.c d).cmdQ = rest)) ∧
    (∀ r, (s.c d).cmdRun = some r → r.cmd.op = 2 → After (.clearDone d) s (fun t => OnlyCapture d [] s t ∧
      (t.c d).cmdRun = none ∧ ∀ n, t.dom d n = Dom.fresh)) ∧
    (∀ r, (s.c d).cmdRun = some r → r.cmd.op = 3 → After (.clearDone d) s (fun t => OnlyCapture d [] s t ∧
      (t.c d).cmdRun = none ∧ ∀ n, t.dom d n =
        if s.siteBase d r.cmd.site ≤ n ∧ n < s.siteBase d r.cmd.site + s.scopeSize d r.cmd.site then Dom.fresh
        else s.dom d n))

/-- A solve's records (06 R201, R203, R216, R217): a full ring holds the solve and sets RFULL; an untouched domain takes
4 ns and leaves one record in flight; a record's response moves the write pointer, and the last one ends the solve with
SOLVED; a domain miss is over 64 ns after it began, and the fail that caused it reaches its domain then. -/
def Obligations.SolveWritesItsRecordsInOrder : Prop :=
  ∀ (s : State) (d : Fin 6) (envs : List G6Env),
    (∀ r x rest, (s.c d).cmdRun = some r → r.sites = x :: rest → r.cmd.op < 2 → (s.c d).resFly = [] → (s.c d).miss = none →
      s.resultFull d = true → After (.domainSolve d envs) s (fun t => t.flag (R.RAE_STAT d) F.RAE_STAT_RFULL = true ∧
        (t.c d).cmdRun = some r ∧ t.lines = s.lines ∧
        (s.flag (R.RAE_STAT d) F.RAE_STAT_RFULL = false → t.flag (R.RAE_CAUSE d) F.RAE_CAUSE_RFULL = true))) ∧
    (∀ r x rest, (s.c d).cmdRun = some r → r.sites = x :: rest → r.cmd.op < 2 → (s.c d).resFly = [] → (s.c d).miss = none →
      s.resultFull d = false → s.flag (R.RAE_STAT d) F.RAE_STAT_RFULL = false →
      (s.dom d (s.siteBase d x + r.k)).touched = false →
      After (.domainSolve d envs) s (fun t => (t.c d).resFly.length = 1 ∧
        (t.c d).cmdRun = some (if r.k + 1 < s.scopeSize d x then { r with k := r.k + 1 }
          else { r with sites := rest, k := 0 }) ∧
        t.now = max s.now ((s.c d).solveAt + 4 * ns))) ∧
    (∀ e r, (s.c d).resFly = [e] → (s.c d).cmdRun = some r → r.cmd.op < 2 → r.sites = [] →
      After (.resultWriteDone d) s (fun t => OnlyCapture d [R.RAE_RWPTR d, R.RAE_CAUSE d, R.RAE_STAT d] s t ∧
        t.rd (R.RAE_RWPTR d) = s.rd (R.RAE_RWPTR d) + 1 ∧ t.flag (R.RAE_CAUSE d) F.RAE_CAUSE_SOLVED = true ∧
        (e = true → t.flag (R.RAE_CAUSE d) F.RAE_CAUSE_RWERR = true) ∧ (t.c d).cmdRun = none ∧ (t.c d).resFly = [])) ∧
    (∀ m, (s.c d).miss = some m → m.evicted = none → m.reads = false → m.fail = none →
      After (.missDone d envs) s (fun t =>
        OnlyCapture d [] s t ∧ t.c d = { s.c d with miss := none } ∧ t.now = max s.now m.until_)) ∧
    (∀ m sr sc r c, (s.c d).miss = some m → m.evicted = none → m.reads = false → m.fail = some (sr, sc, r, c) →
      After (.missDone d envs) s (fun t => OnlyCapture d [R.RAE_CAUSE d] s t ∧ (t.c d).miss = none ∧
        t.now = max s.now m.until_ ∧ t.dom d m.dom = (s.dom d m.dom).fail sr sc r c ∧
        ∀ n, n ≠ m.dom → t.dom d n = s.dom d n))

/-! ### The tether sync unit (08_time_sync_scaleout.md R264 to R290) -/

/-- Ports of the tree (08 R271, R274, R276, R278, R279, R288; 17 R559): an enable puts a DOWN port in TRAIN with a fresh start,
the end of training puts it in CAL with a CAL due, the end of calibration in UP unless the link breaks a limit (TOPO, DUPID);
a port that is disabled goes DOWN, and one that loses its link or finds no valid frame for 1 us goes back to TRAIN; a port
that leaves UP tells LINKDN, and where a second path exists the loss of the active upstream port holds the device until that
port is UP again; a recalibration makes a CAL due. -/
def Obligations.TetherPortsTrainCalibrateAndFall : Prop :=
  ∀ (s : State) (p : Fin 12),
    let cal : TSlot := ⟨9, s.devId, 0, 0⟩
    let held := s.activeUp p && s.flag R.TSY_CTRL F.TSY_CTRL_SECEN
    let fell (now dst : Nat) (as : List Nat) (t : State) : Prop := OnlySync s t ∧ t.now = now ∧
      SameRegs ([R.TSY_CAUSE, R.TSY_PORT_STAT p, R.TSY_STAT, R.PT_STAT] ++ as) s t ∧ t.pstate p = dst ∧
      t.rd R.TSY_CAUSE = F.TSY_CAUSE_LINKDN.set (s.rd R.TSY_CAUSE) 1 ∧
      t.tport p = { s.tport p with good := 0, bad := 0, outq := [], calSent := none, calGot := none } ∧
      (∀ q, q ≠ p → t.tport q = s.tport q) ∧ t.tsy.hold = (s.tsy.hold || held) ∧
      (t.tsy.hold = true → t.fld R.TSY_STAT F.TSY_STAT_TREE = 3) ∧
      t.rd R.PT_STAT = (if held then F.PT_STAT_HOLD.set (s.rd R.PT_STAT) 1 else s.rd R.PT_STAT)
    (s.bistHeld (p.val / 2) (0x1B + p.val % 2) = true → After (.portEnable p true) s (fun t =>
      OnlyWrites [(R.TSY_CAUSE, [(F.TSY_CAUSE_CMDERR, 1)])] s t)) ∧
    (s.bistHeld (p.val / 2) (0x1B + p.val % 2) = false → s.flag (R.TSY_PORT_CTRL p) F.TSY_PORT_CTRL_EN = false →
      (s.treePort p = true ∨ p = 11) → After (.portEnable p true) s (fun t => OnlySync s t ∧ t.now = s.now ∧
        SameRegs [R.TSY_PORT_CTRL p, R.TSY_PORT_FEC p, R.TSY_PORT_STAT p, R.TSY_STAT] s t ∧ t.pstate p = 1 ∧
        t.flag (R.TSY_PORT_CTRL p) F.TSY_PORT_CTRL_EN = true ∧ t.rd (R.TSY_PORT_FEC p) = 0 ∧
        t.tport p = { Tether.reset with frame := (s.tport p).frame } ∧ ∀ q, q ≠ p → t.tport q = s.tport q)) ∧
    (s.pstate p ≠ 3 → After (.portEnable p false) s (fun t => OnlySync s t ∧ t.now = s.now ∧
      SameRegs [R.TSY_PORT_CTRL p, R.TSY_PORT_STAT p, R.TSY_STAT] s t ∧ t.pstate p = 0 ∧
      t.flag (R.TSY_PORT_CTRL p) F.TSY_PORT_CTRL_EN = false ∧
      t.tport p = { s.tport p with outq := [] } ∧ ∀ q, q ≠ p → t.tport q = s.tport q)) ∧
    (s.pstate p = 3 → After (.portEnable p false) s (fun t => fell s.now 0 [R.TSY_PORT_CTRL p] t ∧
      t.flag (R.TSY_PORT_CTRL p) F.TSY_PORT_CTRL_EN = false)) ∧
    (s.pstate p = 1 → After (.trainEnd p) s (fun t => OnlySync s t ∧ t.now = s.now ∧
      SameRegs [R.TSY_PORT_STAT p, R.TSY_STAT] s t ∧ t.pstate p = 2 ∧ (∀ q, q ≠ p → t.tport q = s.tport q) ∧
      t.tport p = { s.tport p with
        bad := 0, lastFrame := s.now, outq := (s.tport p).outq ++ if s.downstream p || p == 11 then [cal] else [] })) ∧
    (∀ (peer : BitVec 6) (depth : BitVec 2) (seen : LinkVerdict), s.pstate p = 2 →
      (p = 11 ∨ seen = .fits ∧ peer.toNat ≠ s.devId ∧ (s.upstream p = true → depth.toNat < 2) ∧
          (s.downstream p = true → s.fld R.TSY_STAT F.TSY_STAT_DEPTH < 2) →
        After (.calEnd p peer depth seen) s (fun t => OnlySync s t ∧ t.now = s.now ∧
          SameRegs [R.TSY_PORT_STAT p, R.TSY_STAT, R.PT_STAT] s t ∧ t.pstate p = 3 ∧ (∀ q, q ≠ p → t.tport q = s.tport q) ∧
          t.tport p = { s.tport p with
            bad := 0, peer := some peer.toNat, depth := depth.toNat, aligned := s.fld (R.TSY_PORT_HOP p) F.TSY_PORT_HOP_H } ∧
          (s.activeUp p = true → t.fld R.TSY_STAT F.TSY_STAT_DEPTH = min 2 (depth.toNat + 1) ∧ t.tsy.hold = false) ∧
          (s.tsy.hold = false ∨ s.activeUp p = false → t.rd R.PT_STAT = s.rd R.PT_STAT))) ∧
      (p ≠ 11 → peer.toNat = s.devId → After (.calEnd p peer depth seen) s
        (OnlyWrites [(R.TSY_CAUSE, [(F.TSY_CAUSE_DUPID, 1)])] s)) ∧
      (p ≠ 11 → peer.toNat ≠ s.devId → (s.upstream p = true ∧ 2 ≤ depth.toNat ∨
          s.downstream p = true ∧ 2 ≤ s.fld R.TSY_STAT F.TSY_STAT_DEPTH ∨ seen = .breaks) →
        After (.calEnd p peer depth seen) s (OnlyWrites [(R.TSY_CAUSE, [(F.TSY_CAUSE_TOPO, 1)])] s))) ∧
    (s.pstate p = 3 → ∀ lost : Bool, After (.linkdn p lost) s (fell
      (if lost then s.now else max s.now ((s.tport p).lastFrame + 1000 * ns))
      (if s.flag (R.TSY_PORT_CTRL p) F.TSY_PORT_CTRL_EN then 1 else 0) [])) ∧
    (s.pstate p = 3 → (s.downstream p = true ∨ p = 11) → After (.hopRecal p) s (fun t =>
      t = { s with tsy := t.tsy } ∧ t.tport p = { s.tport p with outq := (s.tport p).outq ++ [cal] } ∧
      ∀ q, q ≠ p → t.tport q = s.tport q))

/-- Frames (08 R268 to R273, R279): a launch, a retry and a codeword received always complete; a port that is not DOWN
launches its next frame on the 340/7 ns grid, but for the downstream ports of a worker that has not aligned; in TRAIN it is a
training frame, and from CAL on it carries up to seven flits, the package time toward a downstream device, a START that
waits first, and a CAL with the port's hop; flits not acknowledged in 400 ns are sent again in order; a locked port in CAL or
UP takes the slots and flits of a normal frame and the acknowledgements; a codeword with more than 15 symbols in error is
counted, and the fourth in a row takes an UP port down. -/
def Obligations.FramesLaunchRepeatAndArrive : Prop :=
  ∀ (s : State) (p : Fin 12),
    (∃ t, exec (.frameLaunch p) s = .next t) ∧ (∃ t, exec (.flitRetry p) s = .next t) ∧
    (∀ pay acks errs, ∃ t, exec (.frameReceive p pay acks errs) s = .next t) ∧
    (s.pstate p = 0 ∨ s.downstream p = true ∧ s.aligned = false → exec (.frameLaunch p) s = .next s) ∧
    (let k := max (s.tport p).frame (frameAfter s.now)
     let t0 := k * 2720000 / 7
     let fnum := t0 / 8000 % 65536
     let slots := s.frameSlots p t0
     let flits := ((s.tport p).flitq.take 7).map (fun f => { f with sent := t0 })
     s.downstream p = false ∨ s.aligned = true →
     (s.pstate p = 1 → After (.frameLaunch p) s (fun t => t.tport p = { s.tport p with frame := k + 1 } ∧
        t = { s with now := t0, tsy := t.tsy, out := frameOut p (framePayload fnum 1 [] []) :: s.out } ∧
        ∀ q, q ≠ p → t.tport q = s.tport q)) ∧
     (2 ≤ s.pstate p → After (.frameLaunch p) s (fun t =>
        t = { s with now := t0, tsy := t.tsy, out := frameOut p (framePayload fnum 0 slots.1 (flits.map Flit.bits)) :: s.out } ∧
        (∀ q, q ≠ p → t.tport q = s.tport q) ∧ t.tport p = { s.tport p with
          frame := k + 1, outq := slots.2, flitq := (s.tport p).flitq.drop 7, unacked := (s.tport p).unacked ++ flits
          calSent := if slots.1.any (fun m => m.2.typ == 9) then some t0 else (s.tport p).calSent
          calGot := if slots.1.any (fun m => m.2.typ == 10) then none else (s.tport p).calGot })) ∧
     (s.downstream p = true → (16, ⟨1, s.devId, 0, t0 / ns / 65536⟩) ∈ slots.1) ∧
     (∀ m r, (s.tport p).outq.filter (fun m => !m.gangType) = m :: r →
       (m.typ = 6 → (17, m) ∈ slots.1) ∧
       (m.typ = 9 → (17, { m with pay := s.fld (R.TSY_PORT_HOP p) F.TSY_PORT_HOP_H }) ∈ slots.1))) ∧
    (∀ f r, (s.tport p).unacked = f :: r → After (.flitRetry p) s (fun t => t = { s with now := t.now, tsy := t.tsy } ∧
      t.now = max s.now (f.sent + 400 * ns) ∧ (∀ q, q ≠ p → t.tport q = s.tport q) ∧
      t.tport p = { s.tport p with flitq := f :: r ++ (s.tport p).flitq, unacked := [] })) ∧
    (∀ (pay : BitVec 5140) (acks errs : Nat),
      (let arr (x : Tether) : Tether := { x with
          good := min 4 (x.good + 1), bad := 0, lastFrame := if payKind pay < 2 then s.now else x.lastFrame
          launched := if payKind pay < 2 then launchOf (nearest 16 s.ptime (payFnum pay)) else x.launched }
       errs ≤ 15 →
        (s.pstate p = 1 ∨ s.pstate p ≠ 0 ∧ ((s.tport p).good ≠ 4 ∨ payKind pay ≠ 0) →
          exec (.frameReceive p pay acks errs) s = .next (s.modPort p arr)) ∧
        (2 ≤ s.pstate p → (s.tport p).good = 4 → payKind pay = 0 →
          exec (.frameReceive p pay acks errs) s = .next (forEach (paySlots pay) (fun m s => s.takeSlot p (payFnum pay) m)
            (s.modPort p (fun x => { arr x with unacked := x.unacked.drop acks, recv := payFlits pay }))))) ∧
      (15 < errs → s.pstate p ≠ 0 → After (.frameReceive p pay acks errs) s (fun t =>
        t.fld (R.TSY_PORT_FEC p) F.TSY_PORT_FEC_COUNT =
          min (s.fld (R.TSY_PORT_FEC p) F.TSY_PORT_FEC_COUNT + 1) (2 ^ 32 - 1) ∧ (t.tport p).recv = (s.tport p).recv ∧
        ((s.tport p).bad < 3 ∨ s.pstate p ≠ 3 → (t.tport p).bad = (s.tport p).bad + 1 ∧ t.pstate p = s.pstate p) ∧
        (3 ≤ (s.tport p).bad → s.pstate p = 3 → t.pstate p ≠ 3 ∧ t.flag R.TSY_CAUSE F.TSY_CAUSE_LINKDN = true))))

/-- Time, results and arrivals in slots (08 R265, R272, R279, R282, R286, R289): the first PTB aligns a worker on the launch
it names and the hop, one after a switch of path gives the offset; results and arrivals from below are kept with their
port and, of results, their time; results and a release from above are kept and passed to every downstream port; a slot from the wrong side does
nothing, and one of a reserved type is discarded with SLOTERR. -/
def Obligations.TreeSlotsCarryTimeAndResults : Prop :=
  ∀ (s : State) (p : Fin 12) (dev : BitVec 6) (gid : Fin 16) (pay : BitVec 50) (fnum : BitVec 16),
    (s.fromUp p = true →
      let pt := pay.toNat % 2 ^ 48 * 65536 + fnum.toNat
      let fine := launchOf pt + s.fld (R.TSY_PORT_HOP p) F.TSY_PORT_HOP_H
      let h := s.fld (R.TSY_PORT_HOP p) F.TSY_PORT_HOP_H
      (s.aligned = false → After (.slotPtb p dev fnum pay) s (fun t =>
        t = { s with now := fine, regs := t.regs, tsy := { s.tsy with port := t.tsy.port } } ∧
        SameRegs [R.PT_STAT, R.TSY_STAT] s t ∧ t.flag R.PT_STAT F.PT_STAT_ALIGNED = true ∧
        ∀ q, t.tport q = if q = p then { (s.tport p).jump s.now fine with aligned := h } else (s.tport q).jump s.now fine)) ∧
      (s.aligned = true → s.tsy.measure = true → After (.slotPtb p dev fnum pay) s (fun t =>
        t = { s with regs := t.regs, tsy := { s.tsy with
          measure := false, ptofs := some ((fine : Int) - s.now), port := t.tsy.port } } ∧
        (∀ q, t.tport q = if q = p then { s.tport p with aligned := h } else s.tport q) ∧
        SameRegs [R.TSY_PTOFS] s t ∧ ((t.rd R.TSY_PTOFS).toNat : Int) = ((fine : Int) - s.now) % 2 ^ 32))) ∧
    (s.fromUp p = false → exec (.slotPtb p dev fnum pay) s = .next s ∧ exec (.slotDecide p dev gid pay) s = .next s ∧
      exec (.slotSrel p dev gid pay) s = .next s ∧ exec (.slotStart p dev pay) s = .next s) ∧
    (s.fromDown p = false → exec (.slotCond p dev gid pay) s = .next s ∧ exec (.slotSarr p dev gid pay) s = .next s ∧
      exec (.slotGcfg p dev gid pay) s = .next s) ∧
    (s.fromDown p = true →
      After (.slotCond p dev gid pay) s (fun t => t = { s with tsy := t.tsy } ∧ (∀ m, m ≠ gid → t.xgang m = s.xgang m) ∧
        t.tsy.port = s.tsy.port ∧
        let l := (List.range (bitsOf pay.toNat 16 4 + 1)).map (fun i =>
            ⟨(pay.toNat % 65536 + i) % 65536, p.val, bitOf pay.toNat (20 + i), s.now⟩)
        t.xgang gid = { s.xgang gid with
          reports := (s.xgang gid).reports.filter (fun r => nearIdx r.didx (pay.toNat % 65536)) ++ l }) ∧
      After (.slotSarr p dev gid pay) s (fun t => t = { s with tsy := t.tsy } ∧ (∀ m, m ≠ gid → t.xgang m = s.xgang m) ∧
        t.tsy.port = s.tsy.port ∧
        let l := (s.xgang gid).arrivals.filter (fun r => nearIdx r.1 (pay.toNat % 65536)) ++
          [(pay.toNat % 65536, p.val, nearest 32 s.now (pay.toNat / 65536))]
        t.xgang gid = { s.xgang gid with arrivals := l })) ∧
    (s.fromUp p = true →
      After (.slotDecide p dev gid pay) s (fun t => t = { s with tsy := t.tsy } ∧ (∀ m, m ≠ gid → t.xgang m = s.xgang m) ∧
        let l := (List.range (bitsOf pay.toNat 16 4 + 1)).map (fun i =>
          ((pay.toNat % 65536 + i) % 65536, bitOf pay.toNat (20 + i)))
        let kept := (s.xgang gid).decided.filter (fun r => nearIdx r.1 (pay.toNat % 65536))
        t.xgang gid = { s.xgang gid with decided := kept ++ l.map (fun r => (r.1, r.2, s.now)) } ∧
        Sent (downPorts s) (l.map (fun r => ⟨3, dev.toNat, gid, r.1 + 1048576 * b2n r.2⟩)) s t) ∧
      After (.slotSrel p dev gid pay) s (fun t => t = { s with tsy := t.tsy } ∧ (∀ m, m ≠ gid → t.xgang m = s.xgang m) ∧
        t.xgang gid = { s.xgang gid with release := some (pay.toNat % 65536, nearest 32 s.now (pay.toNat / 65536)) } ∧
        Sent (downPorts s) [⟨5, dev.toNat, gid, pay.toNat⟩] s t)) ∧
    (∀ m : TSlot, 10 < m.typ → OnlyWrites [(R.TSY_CAUSE, [(F.TSY_CAUSE_SLOTERR, 1)])] s (s.takeSlot p fnum.toNat m))

/-- START, LOST, GCFG and calibration in slots, and the broadcast (08 R272, R274, R276, R280, R283, R285): a start that
arrives in time is taken by every enrolled ARMED group of its class and by nothing else, a late one sets BLATE; the
manager's BCAST_GO is refused with CMDERR unless its time lies 2 us to 2^42 ns ahead; a LOST from above reaches the
members of this device; the manager checks a member's settings; CAL sets the hop and owes a CALR, and CALR gives half the
round trip. -/
def Obligations.StartsLossesAndCalibrationInSlots : Prop :=
  ∀ (s : State) (p : Fin 12) (dev : BitVec 6) (gid : Fin 16) (pay : BitVec 50),
    (let pt := nearest 44 s.ptime (pay.toNat / 16)
     let l := s.tsy.starts.filter (fun r => copyOpen s.now r.2.2)
     (s.fromUp p = true → (∀ r ∈ l, ¬ (r.1 = pt ∧ r.2.1 = pay.toNat % 16)) →
      After (.slotStart p dev pay) s (fun t => OnlySync s t ∧ t.now = s.now ∧
        t.tsy.starts = l ++ [(pt, pay.toNat % 16, s.now)] ∧
        (pt * ns < s.now + 100 * ns → Writes [(R.TSY_CAUSE, [(F.TSY_CAUSE_BLATE, 1)])] s t) ∧
        (s.now + 100 * ns ≤ pt * ns → ∀ g : Fin 24, t.rdPair (R.VSQ_START_PT_LO g) (R.VSQ_START_PT_HI g) =
          if s.vstat g = 1 ∧ s.flag (R.TSY_GCLASS g) F.TSY_GCLASS_EN = true ∧
            s.fld (R.TSY_GCLASS g) F.TSY_GCLASS_CLASS = pay.toNat % 16 then pt % 2 ^ 64
          else s.rdPair (R.VSQ_START_PT_LO g) (R.VSQ_START_PT_HI g)) ∧
        (s.now + 100 * ns ≤ pt * ns →
          ∀ a, (∀ g : Fin 24, a ≠ R.VSQ_START_PT_LO g ∧ a ≠ R.VSQ_START_PT_HI g) → t.rd a = s.rd a) ∧
        Sent (downPorts s) (List.replicate 4 ⟨6, dev.toNat, 0, pay.toNat⟩) s t)) ∧
     (s.fromUp p = true → (∃ r ∈ l, r.1 = pt ∧ r.2.1 = pay.toNat % 16) → exec (.slotStart p dev pay) s = .next s)) ∧
    (∀ cls : BitVec 4, let pt := s.rdPair R.TSY_BCAST_PT_LO R.TSY_BCAST_PT_HI
      (s.isMgr = true → s.ptime + 2000 ≤ pt → pt < s.ptime + 2 ^ 42 → After (.bcastGo cls) s (fun t => OnlySync s t ∧
        t.now = s.now ∧ t.fld R.TSY_BCAST_CTRL F.TSY_BCAST_CTRL_CLASS = cls.toNat ∧
        (∀ g : Fin 24, s.vstat g = 1 → s.flag (R.TSY_GCLASS g) F.TSY_GCLASS_EN = true →
          s.fld (R.TSY_GCLASS g) F.TSY_GCLASS_CLASS = cls.toNat →
          t.rdPair (R.VSQ_START_PT_LO g) (R.VSQ_START_PT_HI g) = pt) ∧
        Sent (downPorts s) (List.replicate 4 ⟨6, s.devId, 0, cls.toNat + 16 * (pt % 2 ^ 44)⟩) s t)) ∧
      ((s.isMgr = false ∨ pt < s.ptime + 2000 ∨ s.ptime + 2 ^ 42 ≤ pt) → After (.bcastGo cls) s (fun t =>
        OnlyWrites [(R.TSY_BCAST_CTRL, [(F.TSY_BCAST_CTRL_CLASS, cls.toNat)]), (R.TSY_CAUSE, [(F.TSY_CAUSE_CMDERR, 1)])]
          s t))) ∧
    (s.fromUp p = true → bitOf pay.toNat 48 = false → After (.slotLost p dev gid pay) s (fun t =>
      t = { s with tsy := t.tsy, grp := t.grp } ∧ ∀ g : Fin 24,
        let u := nearest 32 s.now (bitsOf pay.toNat 16 32) + s.latency g true
        t.g g = if g ∈ s.xmembers gid ∧ s.active g = true then
          { s.g g with lostAt := some (min u ((s.g g).lostAt.getD u)) } else s.g g)) ∧
    (s.fromDown p = true → s.isMgr = true →
      let u := (if (s.tport p).peer = some dev.toNat then s else s.used).modGang gid (fun x => { x with
        via := (p.val, dev.toNat, s.wayUp p dev.toNat) :: x.via.filter (fun v => v.2.1 != dev.toNat)
        reports := x.reports.filter (fun r => r.from_ != p.val), arrivals := x.arrivals.filter (fun r => r.2.1 != p.val) })
      u.gcfgOk gid (pay.toNat % 1024) (bitOf pay.toNat 10) = true → exec (.slotGcfg p dev gid pay) s = .next u) ∧
    (let drifts (h : Nat) : Prop := s.pstate p = 3 ∧ ((s.tport p).aligned + 400 < h ∨ h + 400 < (s.tport p).aligned)
     let told (h : Nat) (t : State) : Prop := (drifts h → t.rd R.TSY_CAUSE = F.TSY_CAUSE_HDRIFT.set (s.rd R.TSY_CAUSE) 1) ∧
       (¬ drifts h → t.rd R.TSY_CAUSE = s.rd R.TSY_CAUSE)
     ((s.upstream p = true ∨ p = 11) → 2 ≤ s.pstate p → After (.slotCal p dev pay) s (fun t => OnlySync s t ∧ t.now = s.now ∧
      SameRegs [R.TSY_PORT_HOP p, R.TSY_CAUSE] s t ∧ t.fld (R.TSY_PORT_HOP p) F.TSY_PORT_HOP_H = pay.toNat % 2 ^ 32 ∧
      told (pay.toNat % 2 ^ 32) t ∧ (∀ q, q ≠ p → t.tport q = s.tport q) ∧
      t.tport p = { s.tport p with
        calGot := some s.now
        outq := (s.tport p).outq ++ if (s.tport p).calGot.isSome then [] else [⟨10, s.devId, 0, 0⟩] })) ∧
     (∀ t0, (s.tport p).calSent = some t0 → (s.downstream p = true ∨ p = 11) → 2 ≤ s.pstate p →
      let h := (s.now - t0 - pay.toNat % 2 ^ 32 + 1) / 2
      After (.slotCalr p dev pay) s (fun t => OnlySync s t ∧ t.now = s.now ∧ SameRegs [R.TSY_PORT_HOP p, R.TSY_CAUSE] s t ∧
        t.fld (R.TSY_PORT_HOP p) F.TSY_PORT_HOP_H = h % 2 ^ 32 ∧ told h t ∧ (∀ q, q ≠ p → t.tport q = s.tport q) ∧
        t.tport p = { s.tport p with
          calSent := none, outq := (s.tport p).outq ++ if s.pstate p = 2 then [⟨9, s.devId, 0, 0⟩] else [] })))

/-- Gangs across devices and the switch of the path (08 R282, R286, R288 to R290): the next result over the device's
members is formed 16 ns after the last ball end and goes up, or waits for those from below; a combination that every
source has reported is ready 8 ns after the last report and goes up, or from the manager down to all; the release of a SYNC is the latest
arrival plus LG; a group takes a decision 4 ns after its delivery; a worker that loses its path goes over to the other
port with what was not acknowledged, steps by the measured offset, or one passed from above, only while no group is active,
and passes the step down; and a standby that has lost mate and path takes over. -/
def Obligations.GangResultsCombineAndPathsSwitch : Prop :=
  ∀ (s : State) (n : Fin 16) (g : Fin 24),
    (s.gangEn g = true → s.span g = 3 → s.gid g = n → s.flag (R.TSY_GANG_CFG n) F.TSY_GANG_CFG_EN = true →
      s.memberHere n = true →
      let d := (s.xgang n).formed
      let rs := (s.xmembers n).map (fun m => (s.g m).byIndex d)
      let v := combineBits (s.flag (R.TSY_GANG_CFG n) F.TSY_GANG_CFG_COMB) (rs.map (fun r => (r.map (·.2)).getD false))
      let be := rs.foldl (fun acc r => max acc ((r.map (·.1)).getD 0)) 0
      rs.all Option.isSome = true → After (.gangLocalResult g) s (fun t => t = { s with now := t.now, tsy := t.tsy } ∧
        t.now = max s.now (be + 16 * ns) ∧ (t.xgang n).formed = (d + 1) % 65536 ∧ (∀ m, m ≠ n → t.xgang m = s.xgang m) ∧
        (s.leaf n = true → Sent (upPorts s) [⟨2, s.devId, n, d + 1048576 * b2n v⟩] s t) ∧
        (s.leaf n = false → t.tsy.port = s.tsy.port ∧ (t.xgang n).reports =
          (s.xgang n).reports.filter (fun r => nearIdx r.didx d) ++ [⟨d, 12, v, be + 16 * ns⟩]))) ∧
    (s.ownArrival n = none →
      (∀ r, (s.xgang n).reports.find? (fun r => s.allReported n r.didx) = some r →
        (s.xgang n).arrivals.find? (fun r => s.allArrived n r.1) = none →
        let rs := (s.xgang n).reports.filter (fun x => x.didx == r.didx)
        let v := combineBits (s.flag (R.TSY_GANG_CFG n) F.TSY_GANG_CFG_COMB) (rs.map GangReport.val)
        let at_ := max s.now ((rs.map GangReport.time).foldl max 0 + 8 * ns)
        After (.gangCombine n) s (fun t => t = { s with now := at_, tsy := t.tsy } ∧
          (t.xgang n).reports = (s.xgang n).reports.filter (fun x => x.didx != r.didx) ∧
          (s.isMgr = true →
            (t.xgang n).decided = (s.xgang n).decided.filter (fun x => nearIdx x.1 r.didx) ++ [(r.didx, v, at_)] ∧
            Sent (downPorts s) [⟨3, s.devId, n, r.didx + 1048576 * b2n v⟩] s t) ∧
          (s.isMgr = false → Sent (upPorts s) [⟨2, s.devId, n, r.didx + 1048576 * b2n v⟩] s t))) ∧
      (∀ r, (s.xgang n).reports.find? (fun r => s.allReported n r.didx) = none → s.isMgr = true →
        (s.xgang n).arrivals.find? (fun r => s.allArrived n r.1) = some r →
        let l := (s.xgang n).arrivals.filter (fun x => x.1 == r.1)
        let rel := l.foldl (fun acc x => max acc x.2.2) 0 + s.fld (R.TSY_GANG_CFG n) F.TSY_GANG_CFG_LG * ns
        After (.gangCombine n) s (fun t => t = { s with tsy := t.tsy } ∧ (t.xgang n).release = some (r.1, rel) ∧
          (t.xgang n).arrivals = (s.xgang n).arrivals.filter (fun x => x.1 != r.1) ∧
          Sent (downPorts s) [⟨5, s.devId, n, r.1 + 65536 * (rel % 2 ^ 32)⟩] s t))) ∧
    (∀ d v t0, s.gangEn g = true → s.span g = 3 → s.gid g = n →
      (s.xgang n).decided.find? (fun r => !(s.g g).combined.any (fun c => c.1 == r.1)) = some (d, v, t0) →
      After (.decisionHandoff g) s (fun t => OnlyGroup g [] s t ∧ t.now = max s.now (t0 + 4 * ns) ∧
        t.g g = { s.g g with combined := (s.g g).combined.filter (fun c => nearIdx c.1 d) ++ [(d, v)] })) ∧
    (∀ old new : Fin 12, s.fld R.TSY_STAT F.TSY_STAT_UPACT = old → s.otherUp = new → s.role = 2 → s.isMgr = false →
      s.flag R.TSY_CTRL F.TSY_CTRL_SECEN = true → s.pstate old ≠ 3 → s.pstate new = 3 →
      After .failover s (fun t => OnlySync s t ∧ SameRegs [R.TSY_STAT, R.PT_STAT, R.TSY_CAUSE] s t ∧ t.now = s.now ∧
        t.fld R.TSY_STAT F.TSY_STAT_UPACT = new ∧ t.fld R.TSY_STAT F.TSY_STAT_DEPTH = min 2 ((s.tport new).depth + 1) ∧
        t.tsy.hold = false ∧ t.rd R.PT_STAT = (if s.tsy.hold then
          F.PT_STAT_HOLD.set (s.rd R.PT_STAT) (b2n (s.flag R.PKG_REF F.PKG_REF_HOLD)) else s.rd R.PT_STAT) ∧
        t.rd R.TSY_CAUSE = F.TSY_CAUSE_FAILOVER.set (s.rd R.TSY_CAUSE) 1 ∧ t.tsy.measure = true ∧
        (t.tport new).flitq = (s.tport old).unacked ++ (s.tport old).flitq ++ (s.tport new).flitq ∧
        (t.tport old).flitq = [] ∧ (t.tport old).unacked = [])) ∧
    (∀ o, s.tsy.ptofs = some o → (∀ k : Fin 24, s.active k = false) → After (.ptofsStep none) s (fun t =>
      t = { s with now := ((s.now : Int) + o).toNat, tsy := { s.tsy with ptofs := none, port := t.tsy.port }, out := t.out } ∧
      (∀ q, t.tport q = (s.tport q).jump s.now t.now) ∧
      ∀ e, e ∈ t.out ↔ e ∈ s.out ∨ ∃ q : Fin 12, downPorts s q = true ∧ e = .ptStep q o)) ∧
    ((∃ k : Fin 24, s.active k = true) → exec (.ptofsStep none) s = .next s ∧
      ∀ o : BitVec 32, After (.ptofsStep (some o)) s (fun t => SameRegs [R.TSY_PTOFS] s t ∧
        let n := s.tsy.ptofs.getD 0 + o.toInt
        t = { s with regs := t.regs, tsy := { s.tsy with ptofs := some n } } ∧
        ((t.rd R.TSY_PTOFS).toNat : Int) = n % 2 ^ 32)) ∧
    (s.role = 2 → s.isMgr = false → s.flag R.TSY_CTRL F.TSY_CTRL_STBY = true → s.pstate 11 ≠ 3 →
      s.pstate (s.fld R.TSY_STAT F.TSY_STAT_UPACT) ≠ 3 → After .takeover s (fun t =>
        t = { s with regs := t.regs, tsy := { s.tsy with hold := false } } ∧
        SameRegs [R.TSY_STAT, R.PT_STAT, R.TSY_CAUSE] s t ∧ t.isMgr = true ∧ t.fld R.TSY_STAT F.TSY_STAT_DEPTH = 0 ∧
        t.role = 2 ∧ t.tsy.hold = false ∧ (s.tsy.hold = false → t.rd R.PT_STAT = s.rd R.PT_STAT) ∧
        t.rd R.TSY_CAUSE = F.TSY_CAUSE_TAKEOVER.set (s.rd R.TSY_CAUSE) 1))

/-! ### The ledger and the seams (08_time_sync_scaleout.md R291 to R298, 10_seams.md R348 to R366) -/

/-- The ledger (08 R291 to R297): a commit of 1 to 256 records numbers them in order and is refused with CMDERR or, where the
ring has no room, with FULL; a header holds the number, the package time, the epoch, the device and SOLO; a PAIRED device
sends each record and waits for its answer; a mirrored record is written at its place and answered; an answer moves
LED_MSEQ on, a refusal sets MERR; the loss of the mate leads to SOLO; pairing takes a new epoch and sends again what the
mate may lack. -/
def Obligations.LedgerCommitsMirrorsAndPairs : Prop :=
  ∀ (s : State) (envs : List G6Env),
    (∀ n : BitVec 9, (s.fld R.LED_CTRL F.LED_CTRL_EN = 0 ∨ n = 0 ∨ 256 < n.toNat) →
      After (.ledCommit n envs) s (OnlyWrites [(R.LED_CAUSE, [(F.LED_CAUSE_CMDERR, 1)])] s)) ∧
    (∀ n : BitVec 9, s.fld R.LED_CTRL F.LED_CTRL_EN = 1 → 0 < n.toNat → n.toNat ≤ 256 →
      (s.ledSize + s.rSeq < s.nextSeq + n.toNat →
        After (.ledCommit n envs) s (OnlyWrites [(R.LED_CAUSE, [(F.LED_CAUSE_FULL, 1)])] s)) ∧
      (s.nextSeq + n.toNat ≤ s.ledSize + s.rSeq → After (.ledCommit n envs) s (fun t =>
        t.nextSeq = (s.nextSeq + n.toNat) % 2 ^ 64 ∧ t.now = s.now ∧ t.grp = s.grp ∧
        (∀ a, ¬ touchedByMemory a → a ∉ [R.LED_NEXTSEQ_LO, R.LED_NEXTSEQ_HI] → t.rd a = s.rd a) ∧
        (s.ledState ≠ 2 → t.tsy = s.tsy ∧ t.out = s.out) ∧
        (s.ledState = 2 → t.tsy.unacked = s.tsy.unacked ++
          (List.range n.toNat).map (fun i => ((s.nextSeq + i) % 2 ^ 64, s.now)))))) ∧
    (s.fld R.LED_CTRL F.LED_CTRL_EN = 1 → s.nextSeq + 1 ≤ s.ledSize + s.rSeq → s.ledState = 0 ∨ s.ledState = 3 →
      let hdr := s.nextSeq + s.ptime % 2 ^ 64 * 2 ^ 64 + (s.rd R.LED_EPOCH).toNat * 2 ^ 128 + s.devId * 2 ^ 160 + 2 ^ 167
      After (.ledCommit 1 envs) s (fun t => t = (s.g6WriteBytes 0x50 (s.ledAddr s.nextSeq) (leBytes 32 hdr) envs 1).2.wrPair
        R.LED_NEXTSEQ_LO R.LED_NEXTSEQ_HI (s.nextSeq + 1))) ∧
    ((s.ledState = 1 ∨ s.ledState = 2) →
      (∀ rec : BitVec 1024, let seq := rec.toNat % 2 ^ 64
        let w := s.g6WriteBytes 0x50 (s.mirAddr seq) (leBytes 128 rec.toNat) envs 2
        After (.mirrorRecord rec envs) s (fun t => t = { w.2 with tsy := t.tsy, out := t.out, freeCtr := t.freeCtr } ∧
          t.out = .ledAnswer seq (decide (w.1 = .ok)) :: s.out ∧ t.tsy.fresh = false ∧
          (s.tsy.fresh = false → t.tsy.mateSeq = if w.1 = .ok ∧ seq = s.tsy.mateSeq then seq + 1 else s.tsy.mateSeq))) ∧
      (∀ (env : G6Env) seq at_ rest, s.tsy.unacked = (seq, at_) :: rest →
        After (.mirrorAck env) s (fun t => t.tsy = { s.tsy with unacked := rest } ∧
          t.lines = (s.g6Access 0x50 (s.ledAddr seq) (.or_ (BitVec.ofNat 512 (2 ^ 166))) env).st.lines ∧
          (∀ a, ¬ touchedByMemory a → a ∉ [R.LED_MSEQ_LO, R.LED_MSEQ_HI] → t.rd a = s.rd a) ∧
          t.mSeq = (if s.tsy.nacked = none then (seq + 1) % 2 ^ 64 else s.mSeq)) ∧
        After .mirrorNak s (fun t => OnlySync s t ∧ Writes [(R.LED_CAUSE, [(F.LED_CAUSE_MERR, 1)])] s t ∧ t.now = s.now ∧
          t.tsy = { s.tsy with unacked := rest, nacked := some (s.tsy.nacked.getD seq) })) ∧
      (s.mateGone = true → After .matelost s (fun t => OnlySync s t ∧ t.now = s.now ∧
        t.tsy = { s.tsy with unacked := [] } ∧ t.ledState = 3 ∧ t.flag R.LED_CAUSE F.LED_CAUSE_MATELOST = true ∧
        SameRegs [R.LED_STAT, R.LED_CAUSE, R.LED_TSEQ_LO, R.LED_TSEQ_HI] s t ∧
        (s.flag R.LED_CTRL F.LED_CTRL_TKEN = true → t.flag R.LED_STAT F.LED_STAT_TAKEN = true ∧
          t.flag R.LED_CAUSE F.LED_CAUSE_TAKEN = true ∧ t.rdPair R.LED_TSEQ_LO R.LED_TSEQ_HI = s.tsy.mateSeq % 2 ^ 64)))) ∧
    (∀ (dev : BitVec 6) (epoch : Word) (size : BitVec 5), s.fld R.LED_CTRL F.LED_CTRL_EN = 1 → s.pstate 11 = 3 →
      ((s.ledState = 0 ∨ s.ledState = 3) → After (.pairing dev epoch size envs) s (fun t =>
        t = { s with regs := t.regs, tsy := t.tsy, out := t.out } ∧
        t.out = .pairing s.devId (s.rd R.LED_EPOCH).toNat (s.fld R.LED_CTRL F.LED_CTRL_SIZE) :: s.out ∧ (t.tport 11).peer = some dev.toNat ∧
        SameRegs [R.LED_EPOCH, R.LED_STAT, R.LED_CAUSE] s t ∧
        (t.rd R.LED_EPOCH).toNat = (max epoch.toNat (s.rd R.LED_EPOCH).toNat + 1) % 2 ^ 32 ∧
        t.ledState = (if 2 ^ max 4 (min 24 size.toNat) = s.ledSize then 1 else 0) ∧
        (2 ^ max 4 (min 24 size.toNat) ≠ s.ledSize → t.flag R.LED_CAUSE F.LED_CAUSE_CFG = true))) ∧
      (s.ledState = 1 → After (.pairing dev epoch size envs) s (fun t => t.ledState = 2 ∧ t.tsy.nacked = none ∧
        t.flag R.LED_CAUSE F.LED_CAUSE_PAIRED = true ∧ t.flag R.LED_STAT F.LED_STAT_TAKEN = false ∧
        t.tsy.unacked = (List.range (s.nextSeq - max s.mSeq s.rSeq)).map (fun i => (max s.mSeq s.rSeq + i, s.now)))))

/-- Seam links train (10 R350, R358 to R361): a retrain puts both ends in TRAIN; an attempt in which both dies run, hold the
same role counts, have enough good lanes each way and see their masks echoed brings the link UP with the lanes mapped in
ascending order of good lanes; one that fails is counted, until the fourth. -/
def Obligations.SeamLinksTrainAndComeUp : Prop :=
  ∀ (s : State) (d e : Fin 6) (k j : Fin 3), farEnd d k = some (e.val, j.val) →
    After (.seamRetrain d k) s (fun t => t = { s with regs := t.regs, seam := t.seam } ∧
      SameRegs [R.SEAM_STAT d k, R.SEAM_STAT e j] s t ∧ t.link d k = 1 ∧ t.link e j = 1 ∧
      t.fld (R.SEAM_STAT d k) F.SEAM_STAT_ATTEMPT = 0 ∧ t.fld (R.SEAM_STAT e j) F.SEAM_STAT_ATTEMPT = 0 ∧
      t.flag (R.SEAM_STAT d k) F.SEAM_STAT_FALLBK = false ∧ t.flag (R.SEAM_STAT d k) F.SEAM_STAT_FABREL = false) ∧
    (∀ (rxd rxe : BitVec 48) (echo : Bool), s.dieRuns d = true → s.dieRuns e = true → s.holdsRoles d = true →
      s.holdsRoles e = true → s.roles d k = s.roles e j → s.link d k = 1 → s.link e j = 1 →
      (echo = true → (s.roles d k).required ≤ (lanesOf rxd).length → (s.roles d k).required ≤ (lanesOf rxe).length →
        After (.attemptEnd d k rxd rxe echo) s (fun t => t.link d k = 2 ∧ t.link e j = 2 ∧
          t.flag (R.SEAM_CAUSE d k) F.SEAM_CAUSE_UP = true ∧ t.flag (R.SEAM_CAUSE e j) F.SEAM_CAUSE_UP = true ∧
          t.flag (R.SEAM_STAT d k) F.SEAM_STAT_FALLBK = false ∧ t.lines = s.lines ∧ t.grp = s.grp ∧
          ∀ i < 12,
            t.rd (R.SEAM_LMAP_TX d k i) = BitVec.ofNat 32 (leOf (((laneMap (s.roles d k) rxe).drop (4 * i)).take 4)) ∧
            t.rd (R.SEAM_LMAP_RX d k i) = BitVec.ofNat 32 (leOf (((laneMap (s.roles d k) rxd).drop (4 * i)).take 4)))) ∧
      ((echo = false ∨ (lanesOf rxd).length < (s.roles d k).required ∨ (lanesOf rxe).length < (s.roles d k).required) →
        s.fld (R.SEAM_STAT d k) F.SEAM_STAT_ATTEMPT < 3 → After (.attemptEnd d k rxd rxe echo) s (fun t =>
          t = { s with regs := t.regs, seam := t.seam } ∧ SameRegs [R.SEAM_STAT d k, R.SEAM_STAT e j] s t ∧
          t.link d k = 1 ∧ t.link e j = 1 ∧ t.fld (R.SEAM_STAT d k) F.SEAM_STAT_ATTEMPT =
            s.fld (R.SEAM_STAT d k) F.SEAM_STAT_ATTEMPT + 1)))

/-- Seam links fail (10 R352, R357, R362 to R366; 13 R463): a lane that fails gives its role to the lowest spare, and with no
spare the link is fenced and trains again; a fence stops both ends; the states of the links reach every die; an isolated
die's groups stop; a retry is counted; crossings are released at a whole microsecond and hold their last good word. -/
def Obligations.SeamLanesFailAndLinksAreFenced : Prop :=
  ∀ (s : State) (d e : Fin 6) (k j : Fin 3), farEnd d k = some (e.val, j.val) →
    After (.seamFence d k) s (fun t =>
      t = { s with regs := t.regs, grp := t.grp, seam := t.seam, bridge := t.bridge, fport := t.fport, remoteOut := t.remoteOut,
                   remoteDone := t.remoteDone } ∧ t.link d k = 3 ∧ t.link e j = 3 ∧
      (t.seamEnd d k).unacked = [] ∧
      (∀ b : Fin 6, (t.bridgeAt b).sent = (s.bridgeAt b).sent.map (t.reroute b) ∧ (t.bridgeAt b).served = (s.bridgeAt b).served ∧
        ((s.bridgeAt b).sent = [] → t.bridge[b] = s.bridge[b])) ∧
      SameRegs [R.SEAM_STAT d k, R.SEAM_STAT e j, R.SEAM_CAUSE d k, R.SEAM_CAUSE e j] s t ∧
      t.rd (R.SEAM_CAUSE d k) = F.SEAM_CAUSE_FENCED.set (s.rd (R.SEAM_CAUSE d k)) 1 ∧
      t.rd (R.SEAM_CAUSE e j) = F.SEAM_CAUSE_FENCED.set (s.rd (R.SEAM_CAUSE e j)) 1) ∧
    (∀ l : Fin 48, s.link d k = 2 → let m := s.readMap (R.SEAM_LMAP_RX d k)
      (∀ sp, nth m l 4 % 8 < 3 → (List.range 48).find? (fun i => nth m i 4 % 8 == 3) = some sp →
        After (.laneFail d k l) s (fun t => t = { s with regs := t.regs, seam := t.seam, mon := t.mon } ∧ t.link d k = 2 ∧
          (nth m l 4 % 8 = 1 → t.laneReplaced d k (nth m l 4 / 8) = true ∧ ∀ n < 384, n / 32 ≠ nth m l 4 / 8 →
            t.crossFenced d k n = s.crossFenced d k n) ∧
          (nth m l 4 % 8 = 0 → (t.seamEnd e j).unacked = ((s.seamEnd e j).unacked.filter (fun f => decide (s.now ≤ f.2 + 100 * ns))).map
            (fun f => (f.1, s.now))) ∧
          t.rd (R.SEAM_CAUSE d k) = F.SEAM_CAUSE_SPARED.set (s.rd (R.SEAM_CAUSE d k)) 1 ∧
          let m' := (m.set sp (nth m l 4)).set l 4
          ∀ i < 12, t.rd (R.SEAM_LMAP_RX d k i) = BitVec.ofNat 32 (leOf ((m'.drop (4 * i)).take 4)) ∧
            t.rd (R.SEAM_LMAP_TX e j i) = BitVec.ofNat 32 (leOf ((m'.drop (4 * i)).take 4)))) ∧
      (nth m l 4 % 8 < 3 → (List.range 48).find? (fun i => nth m i 4 % 8 == 3) = none →
        After (.laneFail d k l) s (fun t => t.link d k = 1 ∧ t.link e j = 1 ∧
          t.flag (R.SEAM_CAUSE d k) F.SEAM_CAUSE_FENCED = true)) ∧
      (nth m l 4 % 8 = 4 → exec (.laneFail d k l) s = .next s)) ∧
    (s.waitingFlit d k = none → exec (.seamFlitRetry d k) s = .next s) ∧
    (∀ fl, s.waitingFlit d k = some fl → After (.seamFlitRetry d k) s (fun t =>
      t = { s with now := t.now, regs := t.regs, mon := t.mon, seam := t.seam } ∧ t.now = max s.now (fl.2 + 100 * ns) ∧
      (t.seamEnd d k).unacked = ((s.seamEnd d k).unacked.filter (fun g => decide (s.now ≤ g.2 + 100 * ns))).replace fl (fl.1, t.now) ∧
      SameRegs [R.SEAM_RETRY_CNT d k] s t ∧ t.fld (R.SEAM_RETRY_CNT d k) F.SEAM_RETRY_CNT_COUNT =
        min (s.fld (R.SEAM_RETRY_CNT d k) F.SEAM_RETRY_CNT_COUNT + 1) (2 ^ 32 - 1))) ∧
    (s.link d k = 2 → s.link e j = 2 → s.flag (R.FAB_STAT d) F.FAB_STAT_WREN = true →
      s.flag (R.FAB_STAT e) F.FAB_STAT_WREN = true → After (.fabRelease d k) s (fun t =>
        t = { s with now := t.now, regs := t.regs, seam := t.seam } ∧ SameRegs [R.SEAM_STAT d k, R.SEAM_STAT e j] s t ∧
        s.now ≤ t.now ∧ t.now < s.now + 1000 * ns ∧ t.now % (1000 * ns) = 0 ∧
        t.flag (R.SEAM_STAT d k) F.SEAM_STAT_FABREL = true ∧ t.flag (R.SEAM_STAT e j) F.SEAM_STAT_FABREL = true)) ∧
    (∀ (f : Fin 12) (ecc : Ecc), s.link d k = 2 → s.flag (R.SEAM_STAT d k) F.SEAM_STAT_FABREL = true → f.val < s.fabLanes d k →
      let n := (s.now + ns - 1) / ns * ns
      let u := ((s.at_ n).setSeam d k (fun x => { x with repl := x.repl.filter (fun r => r.1 != f.val) })).dropFvals d k
      let bad := (f.val, u.now) :: (s.seamEnd d k).errs.filter (fun e => decide (u.now < e.2 + 1000 * ns))
      let many := max 1 (s.fld (R.SEAM_CTRL d k) F.SEAM_CTRL_ETHR) ≤ (bad.filter (fun e => e.1 == f.val)).length
      let come (w : Nat × Nat × BitVec 32) : Bool := w.1 == f.val && decide (w.2.1 ≤ u.now)
      After (.fabLaneWord d k f ecc) s (fun t =>
        t.now = u.now ∧ (¬ many ∨ ecc ≠ .ue ∨ (s.seamEnd d k).wire.filter come = [] →
          t = { s with now := t.now, seam := t.seam, regs := t.regs, fab := t.fab } ∧
          (t.seamEnd d k).wire = (s.seamEnd d k).wire.filter (fun w => !come w) ++
            [(f.val, u.now + 12 * ns, u.laneWord ⟨e % 6, by omega⟩ j f)]) ∧
        (((s.seamEnd d k).wire.filter come).getLast? = none → t.regs = s.regs ∧ (t.seamEnd d k).xin = (s.seamEnd d k).xin) ∧
        (∀ w, ((s.seamEnd d k).wire.filter come).getLast? = some w →
          (ecc = .ue → many → ∀ l, (s.readMap (R.SEAM_LMAP_RX d k)).idxOf? (1 + 8 * f.val) = some l →
            (s.readMap (R.SEAM_LMAP_RX d k)).all (fun b => b % 8 != 3) = true →
            t.link d k = 1 ∧ t.flag (R.SEAM_CAUSE d k) F.SEAM_CAUSE_FENCED = true) ∧
          (ecc = .ue → ¬ many → SameRegs [R.SEAM_FABERR_CNT d k, R.SEAM_CAUSE d k] s t ∧ (t.seamEnd d k).xin = (s.seamEnd d k).xin ∧
            t.rd (R.SEAM_CAUSE d k) = F.SEAM_CAUSE_FABERR.set (s.rd (R.SEAM_CAUSE d k)) 1 ∧
            t.fld (R.SEAM_FABERR_CNT d k) F.SEAM_FABERR_CNT_COUNT =
              min (s.fld (R.SEAM_FABERR_CNT d k) F.SEAM_FABERR_CNT_COUNT + 1) (2 ^ 32 - 1)) ∧
          (ecc ≠ .ue → t.regs = s.regs ∧ ∀ i : Nat, i < 12 → ∀ b < 32,
            let old := bitOf (Sparse.get (fun _ => (0 : BitVec 32)) (s.seamEnd d k).xin i).toNat b
            bitOf (Sparse.get (fun _ => (0 : BitVec 32)) (t.seamEnd d k).xin i).toNat b =
              if i = f ∧ u.crossFenced d k (32 * i + b) = false then bitOf w.2.2.toNat b else old)))) ∧
    After .fencePublish s (fun t => t = { s with regs := t.regs, isolated := t.isolated, pcie := t.pcie } ∧
      t.pcie = { s.pcie with prev := t.pcie.prev } ∧
      (∀ x : Fin 6, t.isolated[x] = s.cutOff x) ∧ SameRegs ((List.range 6).map R.SEAM_DSTAT) s t) ∧
    (s.cutOff d = true → After (.dieIsolated d) s (fun t => (∀ g ∈ groupsOf d, t.active g = false) ∧
      ((s.link d k = 0 ∨ s.link d k = 2) → t.link d k = 3 ∧ t.link e j = 3))) ∧
    (s.cutOff d = false → exec (.dieIsolated d) s = .next s)

/-! ### The fabric (09_fabric.md R301 to R346) -/

/-- Synthesisers, interrupt lines and GPIO banks (09 R317, R318, R330 to R333, R339): a change of EN drops the lock, an
enabled synthesiser locks, and one that loses the reference drops it and sets FCSLOCK; a line of a running fabric shows
in FAB_STAT.IRQ and its rising edge sets its cause, one of a die that does not run or of a fenced meadow stays 0; a declared
bank that loses its supply sets BANKV and its outputs return to high-Z, one whose supply comes to match shows in BANKOK;
HOLDUP_B is the pin's level, and every cell that is high-Z has its pull-up while it is low. -/
def Obligations.SynthesisersLinesAndBanks : Prop :=
  ∀ (s : State) (d : Fin 6) (k : Fin 2) (i : Fin 16) (b : Fin 4) (en level : Bool),
    After (.fcsEnable d k en) s (fun t => t = { s with regs := t.regs } ∧
      SameRegs [R.FAB_FCS_CTRL d k, R.FAB_FCS_STAT d k] s t ∧ t.flag (R.FAB_FCS_CTRL d k) F.FAB_FCS_CTRL_EN = en ∧
      t.flag (R.FAB_FCS_STAT d k) F.FAB_FCS_STAT_LOCKED =
        (s.flag (R.FAB_FCS_STAT d k) F.FAB_FCS_STAT_LOCKED && s.flag (R.FAB_FCS_CTRL d k) F.FAB_FCS_CTRL_EN == en)) ∧
    (s.flag (R.FAB_FCS_CTRL d k) F.FAB_FCS_CTRL_EN = true →
      After (.fcsLock d k true) s (fun t => t = { s with regs := t.regs, cfg := t.cfg } ∧
        Writes [(R.FAB_FCS_STAT d k, [(F.FAB_FCS_STAT_LOCKED, 1)])] s t ∧
        (s.flag (R.FAB_FCS_STAT d k) F.FAB_FCS_STAT_LOCKED = false → t.cfg.locks.lookup (2 * d.val + k.val) = some s.now))) ∧
    (s.flag (R.FAB_FCS_STAT d k) F.FAB_FCS_STAT_LOCKED = true → After (.fcsLock d k false) s (OnlyWrites
      [(R.FAB_FCS_STAT d k, [(F.FAB_FCS_STAT_LOCKED, 0)]), (R.FAB_CAUSE d, [(F.FAB_CAUSE_FCSLOCK, 1)])] s)) ∧
    (s.lineLive d i = true → After (.fabricIrqEdge d i level) s (fun t => t = { s with regs := t.regs, mon := t.mon } ∧
      SameRegs [R.FAB_STAT d, R.FAB_CAUSE d] s t ∧
      (∀ j : Fin 16, bitOf (t.fld (R.FAB_STAT d) F.FAB_STAT_IRQ) j =
        if j = i then level else bitOf (s.fld (R.FAB_STAT d) F.FAB_STAT_IRQ) j) ∧
      (∀ j : Fin 16, bitOf (t.fld (R.FAB_CAUSE d) F.FAB_CAUSE_IRQ) j =
        (bitOf (s.fld (R.FAB_CAUSE d) F.FAB_CAUSE_IRQ) j ||
          decide (j = i) && level && !bitOf (s.fld (R.FAB_STAT d) F.FAB_STAT_IRQ) i)))) ∧
    (s.lineLive d i = false → exec (.fabricIrqEdge d i level) s = .next s) ∧
    (s.bankUsed d b = true → bitOf (s.fld (R.FAB_STAT d) F.FAB_STAT_BANKOK) b = true →
      After (.bankSupplyChange d b) s (fun t => t = { s with regs := t.regs, fab := t.fab } ∧
        SameRegs [R.FAB_STAT d, R.FAB_CAUSE d] s t ∧
        t.rd (R.FAB_CAUSE d) = F.FAB_CAUSE_BANKV.set (s.rd (R.FAB_CAUSE d)) 1 ∧
        (∀ j : Fin 4, bitOf (t.fld (R.FAB_STAT d) F.FAB_STAT_BANKOK) j =
          (bitOf (s.fld (R.FAB_STAT d) F.FAB_STAT_BANKOK) j && decide (j ≠ b))) ∧
        ((s.fabric d).outrel = true → ∀ pin, t.gpioOff d b pin = true))) ∧
    (s.bankUsed d b = true → After (.bankokRise d b) s (fun t => t = { s with regs := t.regs } ∧
      SameRegs [R.FAB_STAT d] s t ∧ ∀ j : Fin 4, bitOf (t.fld (R.FAB_STAT d) F.FAB_STAT_BANKOK) j =
        (bitOf (s.fld (R.FAB_STAT d) F.FAB_STAT_BANKOK) j || decide (j = b)))) ∧
    After (.holdupBChange level) s (fun t => t = { s with holdupB := level } ∧
      ∀ pin, t.gpioPull d b pin = (s.gpioOff d b pin && !level))

/-- A rising edge of a global net (09 R305, R311, R312, R314 to R319, R321, R331, R335): it is the next edge of the net's source;
while that stands still nothing happens, and with the net's enable low only the source's edge has passed. Every flip-flop of a
configured column takes what `ffNext` gives it from the values before the instant, all together, or SRVAL where it has an
asynchronous line, and the rest keep theirs; a hamper port on the net that writes stores its word, a 64E read returns the
corrected data; a slice on the net takes its next values; a GPIO cell without an output register takes what the fabric
drives; a group's user flags change. Frames and registers are not changed by logic alone. -/
def Obligations.GlobalNetEdgesClockTheLogic : Prop :=
  ∀ (s : State) (d : Fin 6) (net : Fin 32),
    (s.netEdge d net = none → ∀ en uf rams slices gpio, exec (.globalNetRisingEdge d net en uf rams slices gpio) s = .next s) ∧
    ∀ at_, s.netEdge d net = some at_ →
      let u := ((s.at_ at_).deliver at_).modFab d (fun x => { x with srcAt := putNet x.srcAt net at_ })
      let w := u.modFab d (fun x => { (x.keep at_) with netAt := putNet x.netAt net at_ })
      let x0 := (w.fabric d).before at_
      let s0 := w.modFab d (fun x => x.before w.now)
      (∀ uf rams slices gpio, exec (.globalNetRisingEdge d net false uf rams slices gpio) s = .next u) ∧
      After (.globalNetRisingEdge d net true [] [] [] []) s (fun t =>
        t = { w with fab := t.fab, freeCtr := w.freeCtr + 1, out := t.out } ∧ (∀ e, e ≠ d → t.fabric e = s.fabric e) ∧
        t.fabric d = { w.fabric d with ff := (t.fabric d).ff, slice := (t.fabric d).slice, ram := (t.fabric d).ram } ∧
        ((∀ cu ∈ x0.activeCols, cu.2 < 6) → ∀ c v q, (c, v) ∈ x0.activeCols → q ∈ ffsOf c v →
          let k := ffKey q.1 q.2.1 q.2.2.1 q.2.2.2
          let cfg := ffCfg (x0.cellSet d q.1 q.2.1 q.2.2.1) q.2.2.2
          let clocked := (s0.ffNext d net q.1 q.2.1 q.2.2.1 q.2.2.2).getD (Sparse.get (x0.initOf d) (w.fabric d).ff k)
          let async := (cfg.sr = 1 ∨ cfg.sr = 2) ∧ bitOf (x0.basketSet d q.1 q.2.1) (9 + cfg.sr) = true
          Sparse.get (x0.initOf d) (t.fabric d).ff k = clocked ∨ async ∧ Sparse.get (x0.initOf d) (t.fabric d).ff k = cfg.srval) ∧
        (∀ k, (∀ c v q, (c, v) ∈ x0.activeCols → q ∈ ffsOf c v → k ≠ ffKey q.1 q.2.1 q.2.2.1 q.2.2.2) →
          Sparse.get (x0.initOf d) (t.fabric d).ff k = Sparse.get (x0.initOf d) (w.fabric d).ff k)) ∧
      (∀ (o : RamOp) (set : RamSet), o.cooler = false → x0.sets.ram.lookup (ramKey o d o.portB) = some set →
        x0.globalOf (ramRegion o) set.net = net →
        (set.width.val < 6 → o.write = true → o.portB = false → w.wrenOf d (ramRegion o) net = true →
          o.addr < (hamperShape set.width).2 → After (.globalNetRisingEdge d net true [] [o] [] []) s (fun t =>
            let len := (hamperShape set.width).1
            (t.fabric d).ramBits (ramBase o d) (o.addr * len) len = o.data.toNat % 2 ^ len ∧ t.regs = w.regs ∧
            (∀ fa, fa ≠ ramBase o d + o.addr * len / 4608 → (t.fabric d).frame fa = (w.fabric d).frame fa))) ∧
        (set.width = 7 → o.write = false → o.portB = false → o.addr < 512 → ((w.fabric d).ramPort (ramKey o d true)).wAt = none →
          After (.globalNetRisingEdge d net true [] [o] [] []) s (fun t =>
            let bits (lo len : Nat) := (w.fabric d).ramBits (ramBase o d) lo len
            let r := secdedRead (BitVec.ofNat 64 (bits (64 * o.addr) 64)) (BitVec.ofNat 8 (bits (32768 + 8 * o.addr) 8))
            let p := (t.fabric d).ramPort (ramKey o d false)
            p.out = BitVec.ofNat 144 r.1.toNat ∧ p.cor = (r.2 == .ce) ∧ p.unc = (r.2 == .ue) ∧
            ∀ fa, (t.fabric d).frame fa = (w.fabric d).frame fa))) ∧
      (∀ (o : SliceOp) (set : SliceSet), let k := sliceKey o
        (x0.sets.slice.map (·.1)).Nodup → x0.sets.slice.lookup k = some set → w.wrenOf d (sliceRegion k) net = true →
        After (.globalNetRisingEdge d net true [] [] [o] []) s (fun t =>
          let c := x0.sliceAt k
          let below := if k % 192 = 0 then 0 else (x0.sliceAt (k - 1)).r
          let n := (t.fabric d).sliceAt k
          (x0.globalOf (sliceRegion k) set.net ≠ net → n = (w.fabric d).sliceAt k) ∧
          (x0.globalOf (sliceRegion k) set.net = net → n = c.next set below o.a1 o.a2 o.b o.k ∧
            (set.regA1 = false → set.regA2 = false → set.regB = false → set.regP = false →
              let v := sliceExact set.op (sliceA set.pre o.a1 o.a2 * o.b.toInt) c.r below o.k
              n.r = BitVec.ofInt 60 v ∧ n.q = (if set.regQ then c.r else n.r) ∧
              (n.ovf = true ↔ v < -(2 ^ 59 : Int) ∨ (2 ^ 59 : Int) ≤ v) ∧ (n.ovf = true → .sliceOvf d k ∈ t.out))))) ∧
      (∀ (o : GpioOp) (set : GpioSet), let k := 24 * o.bank.val + o.pin.val
        x0.sets.gpio.lookup k = some set →
        After (.globalNetRisingEdge d net true [] [] [] [o]) s (fun t =>
          let c := (w.fabric d).cell k
          let n := (t.fabric d).cell k
          (smbPin d o.bank o.pin = true → n = c) ∧
          (smbPin d o.bank o.pin = false → n.oe = o.oe ∧ n.pad = o.pad ∧ (set.outReg = false → n.out = o.out) ∧
            (x0.globalOf set.region set.net ≠ net → n.inp = c.inp ∧ (set.outReg = true → n.out = c.out))))) ∧
      (∀ (j : Fin 4) (f : BitVec 8) (g : Fin 24), g.val = 4 * d.val + j.val → s.fdFenced g = false →
        After (.globalNetRisingEdge d net true [(j, f)] [] [] []) s (fun t => t.g g = (w.g g).ufChange w.now (at_, f)))

/-- Transfers at a promenade port (09 R340 to R346): a transfer takes place at the next edge of the port's clock, and none while
that stands still; a live initiator side takes a request while fewer than 64 are in flight, and shows the number in OUTST;
write data goes to the oldest write that lacks beats, and a beat or LAST that does not fit sets PROTO; responses come back in
the order of their ID, a read a beat at a time; on the target side a waiting request reaches the fabric, write beats follow in
order, and its answer ends it; an answer of the wrong kind ends it with ERR_DATA and PROTO; an answer to nothing is LATE after
a timeout, and PROTO otherwise. -/
def Obligations.FabricPortsCarryTransfers : Prop :=
  ∀ (u : State) (d : Fin 6) (p : Fin 16) (q : PortReq) (data : Line512) (be : BitVec 64) (id : BitVec 8) (resp : BitVec 3)
      (last : Bool) (envs : List G6Env),
    (u.portEdge d p = none → ∀ side : PortSide, ∀ c ∈ [Instr.portReq d p side q envs, .portWdat d p side data be last envs,
      .portRdat d p side id data resp last, .portWrsp d p side id resp], exec c u = .next u) ∧
    ∀ at_, u.portEdge d p = some at_ → let s := u.at_ at_
    (s.initLive d p = true → (s.fp d p).ini = [] → (s.fp d p).resp.length < 64 →
      let r : FabReq := ⟨d.val * 128 + p.val, q.id.toNat, q.addr.toNat, q.len.toNat + 1, q.wr, q.dbg, [], false⟩
      let v := s.setFp d p { s.fp d p with ini := [r] }
      (q.wr = true → After (.portReq d p .initiator q envs) u (fun t => t = { v with regs := t.regs } ∧
        SameRegs [R.FAB_PORT_STAT d p] s t ∧
        t.fld (R.FAB_PORT_STAT d p) F.FAB_PORT_STAT_OUTST = 1 + (s.fp d p).resp.length)) ∧
      (q.wr = false → ∀ a, a = v.access (readAcc r.src r.addr (64 * r.beats) r.dbg) envs → a.resp = some .ok →
        After (.portReq d p .initiator q envs) u (fun t => (t.fp d p).resp = (a.st.fp d p).resp ++ [⟨r.id, false, .ok,
          (List.range r.beats).map (fun b => BitVec.ofNat 512 (leOf ((a.data.drop (64 * b)).take 64))), false⟩] ∧
          t.lines = a.st.lines ∧ t.grp = a.st.grp))) ∧
    ((s.initLive d p = false ∨ 64 ≤ (s.fp d p).ini.length + (s.fp d p).resp.length) →
      exec (.portReq d p .initiator q envs) u = .next s) ∧
    (s.initLive d p = true → ((s.fp d p).ini.find? (fun r => !r.full) = none →
      After (.portWdat d p .initiator data be last envs) u (OnlyWrites [(R.FAB_CAUSE d, [(F.FAB_CAUSE_PROTO, 1)])] s)) ∧
      (∀ r, (s.fp d p).ini = [r] → r.write = true → r.bad = false → r.data.length + 1 < r.beats →
        After (.portWdat d p .initiator data be false envs) u (fun t =>
          let r' := { r with data := r.data ++ [(data, be)] }
          t = { s.setFp d p { s.fp d p with ini := [r'] } with regs := t.regs } ∧ SameRegs [R.FAB_PORT_STAT d p] s t) ∧
        After (.portWdat d p .initiator data be true envs) u (fun t => (t.fp d p).ini = [] ∧
          t.rd (R.FAB_CAUSE d) = F.FAB_CAUSE_PROTO.set (s.rd (R.FAB_CAUSE d)) 1 ∧
          (t.fp d p).resp = (s.fp d p).resp ++ [⟨r.id, true, .errData, [], false⟩] ∧ t.lines = s.lines))) ∧
    ((s.fp d p).ini = [] →
      (∀ r, (s.fp d p).resp.find? (fun r => r.id == id.toNat) = some r → r.write = false →
        (∀ y ∈ (s.fp d p).resp, y.begun = true → y = r) →
        (r.beats.length ≤ 1 → After (.portRdat d p .initiator id data resp last) u (fun t =>
          t.reply = ⟨some r.resp, leBytes 64 (r.beats.headD 0).toNat ++ [1]⟩ ∧ (t.fp d p).resp = (s.fp d p).resp.erase r ∧
          t.lines = s.lines ∧ SameRegs [R.FAB_PORT_STAT d p] s t)) ∧
        (∀ b c bs, r.beats = b :: c :: bs → After (.portRdat d p .initiator id data resp last) u (fun t =>
          t.reply = ⟨some r.resp, leBytes 64 b.toNat ++ [0]⟩ ∧ let rest := c :: bs
          (t.fp d p).resp = (s.fp d p).resp.replace r { r with beats := rest, begun := true } ∧ t.lines = s.lines))) ∧
      (∀ r, (s.fp d p).resp.find? (fun r => r.id == id.toNat) = some r → r.write = true →
        After (.portWrsp d p .initiator id resp) u (fun t => t.reply = ⟨some r.resp, []⟩ ∧
          (t.fp d p).resp = (s.fp d p).resp.erase r ∧ t.lines = s.lines ∧ SameRegs [R.FAB_PORT_STAT d p] s t))) ∧
    (∀ r rest, (s.fp d p).tgtWait = r :: rest → r.addr = q.addr.toNat → r.beats = q.len.toNat + 1 → r.write = q.wr →
      r.dbg = q.dbg → s.tgtLive d p = true → After (.portReq d p .target q envs) u (fun t =>
        let x := s.fp d p
        t = s.setFp d p { x with tgtWait := rest, tgt := x.tgt ++ [{ r with id := q.id.toNat }] })) ∧
    (∀ r b bs rest, (s.fp d p).tgt = r :: rest → r.write = true → r.data = b :: bs →
      After (.portWdat d p .target data be last envs) u (fun t =>
        t.reply = ⟨some .ok, leBytes 64 b.1.toNat ++ leBytes 8 b.2.toNat ++ [b2n bs.isEmpty]⟩ ∧
        let r' := { r with data := bs }
        t = { s.setFp d p { s.fp d p with tgt := r' :: rest } with reply := t.reply })) ∧
    (∀ r rest e, (s.fp d p).tgt = r :: rest → r.id = id.toNat → respOf resp.toNat = some e →
      let x := s.fp d p
      let ended (e : Resp) (bytes : List Nat) := s.setFp d p { x with tgt := rest, tgtDone := x.tgtDone ++ [(r, e, bytes)] }
      (r.write = false → r.beats = 1 → r.data = [] → (∀ y ∈ rest, y.write = true ∨ y.data = []) →
        After (.portRdat d p .target id data resp true) u (fun t => t = ended e (leBytes 64 data.toNat))) ∧
      (r.write = true → After (.portWrsp d p .target id resp) u (fun t => t = ended e [])) ∧
      (r.write = true → After (.portRdat d p .target id data resp last) u
        (OnlyWrites [(R.FAB_CAUSE d, [(F.FAB_CAUSE_PROTO, 1)])] (ended .errData []))) ∧
      (r.write = false → After (.portWrsp d p .target id resp) u
        (OnlyWrites [(R.FAB_CAUSE d, [(F.FAB_CAUSE_PROTO, 1)])] (ended .errData [])))) ∧
    ((∀ y ∈ (s.fp d p).tgt, y.id ≠ id.toNat) →
      (id.toNat ∈ (s.fp d p).tgtDead → After (.portWrsp d p .target id resp) u (fun t =>
        t.rd (R.FAB_CAUSE d) = F.FAB_CAUSE_LATE.set (s.rd (R.FAB_CAUSE d)) 1 ∧
        (t.fp d p).tgtDead = (s.fp d p).tgtDead.erase id.toNat ∧ SameRegs [R.FAB_CAUSE d] s t)) ∧
      (id.toNat ∉ (s.fp d p).tgtDead → After (.portWrsp d p .target id resp) u
        (OnlyWrites [(R.FAB_CAUSE d, [(F.FAB_CAUSE_PROTO, 1)])] s)))

/-! ### Configuration (11_configuration.md R369 to R408) -/

/-- A load begins, takes bytes and is given up (11 R372 to R376, R389, R390, R393, R401 to R404): a boot search that finds no
valid directory waits for the host with ERR 1; CFG_DATA is taken only by a load from it or a device that waits; RELOAD,
HOSTLOAD, PLOAD and DIELOAD are refused with CMDERR while a load runs, and else clear what they load and wait for it; an
abort, or a die that stays away, ends a partial load with its code, PLOADERR, and its meadow cleared. -/
def Obligations.LoadsBeginAndAreGivenUp : Prop :=
  ∀ (s : State),
    (∀ dir1 dir8 again flash : List Nat, s.cfg.load = none →
      (s.fld (R.CFG_STAT 0) F.CFG_STAT_STATE = 0 ∨ s.fld (R.CFG_STAT 0) F.CFG_STAT_STATE = 1) →
      (dirOk dir1 = false → dirOk dir8 = false → After (.bootSearch dir1 dir8 again flash) s (fun t =>
        t.fld (R.CFG_STAT 0) F.CFG_STAT_STATE = 5 ∧ t.fld (R.CFG_ERR 0) F.CFG_ERR_CODE = 1 ∧ t.cfg.flash = flash ∧
        t.cfg.load = none ∧ ∀ d, t.fabric d = Fabric.reset)) ∧
      (dirOk dir1 = true → dirSlots dir1 = [] → After (.bootSearch dir1 dir8 again flash) s (fun t =>
        t.fld (R.CFG_STAT 0) F.CFG_STAT_STATE = 5 ∧ t.cfg.load = none ∧
        t.flag (R.CFG_STAT 0) F.CFG_STAT_OCTAL = (bitOf (hdr dir1 4 1) 0 && again == dir1))) ∧
      ((dirOk dir1 = true ∨ dirOk dir8 = true) → After (.bootSearch dir1 dir8 again flash) s (fun t =>
        t.cfg.flash = flash ∧ t.flag (R.CFG_STAT 0) F.CFG_STAT_OCTAL = (if dirOk dir1 then bitOf (hdr dir1 4 1) 0 && again == dir1 else true) ∧
        (t.cfg.load = none ∧ t.fld (R.CFG_STAT 0) F.CFG_STAT_STATE = 5 ∧ t.flag (R.CFG_STAT 0) F.CFG_STAT_INITB = false ∨
         t.cfg.load.isSome = true ∧ t.fld (R.CFG_STAT 0) F.CFG_STAT_STATE = 2 ∧ t.flag (R.CFG_STAT 0) F.CFG_STAT_INITB = true)))) ∧
    (∀ dir1 dir8 again flash : List Nat, ∃ t, exec (.bootSearch dir1 dir8 again flash) s = .next t) ∧
    (∀ bytes : List Nat, (s.takesData = false → After (.cfgDataWrite bytes) s (fun t =>
        t = { s with regs := t.regs, reply := ⟨some .errDenied, []⟩ } ∧
        Writes [(R.CFG_CAUSE 0, [(F.CFG_CAUSE_CMDERR, 1)])] s t)) ∧
      (∀ l, s.cfg.load = some l → l.src = 2 → l.header = [] → l.inbuf.length + bytes.length < 8192 →
        After (.cfgDataWrite bytes) s (fun t => t = { s with cfg := t.cfg, reply := ⟨some .ok, []⟩ } ∧
          t.cfg = { s.cfg with load := some { l with inbuf := l.inbuf ++ bytes } }))) ∧
    (∀ (die : Fin 6), (s.loadBusy = true →
        After .reload s (OnlyWrites [(R.CFG_CAUSE 0, [(F.CFG_CAUSE_CMDERR, 1)])] s) ∧
        After .hostload s (OnlyWrites [(R.CFG_CAUSE 0, [(F.CFG_CAUSE_CMDERR, 1)])] s) ∧
        After .pload s (OnlyWrites [(R.CFG_CAUSE 0, [(F.CFG_CAUSE_CMDERR, 1)])] s) ∧
        After (.dieload (BitVec.ofNat 3 die) true) s (fun t => t.flag (R.CFG_CAUSE 0) F.CFG_CAUSE_CMDERR = true ∧
          t = { s with regs := t.regs } ∧ SameRegs [R.CFG_CAUSE 0, R.CFG_CTRL 0] s t)) ∧
      (s.loadBusy = false →
        After .reload s (fun t => t.fld (R.CFG_STAT 0) F.CFG_STAT_STATE = 1 ∧ t.flag (R.CFG_STAT 0) F.CFG_STAT_DONE = false ∧
          ∀ d, t.fabric d = Fabric.reset) ∧
        After .hostload s (fun t => t.fld (R.CFG_STAT 0) F.CFG_STAT_STATE = 5 ∧
          t.flag (R.CFG_STAT 0) F.CFG_STAT_DONE = false ∧ ∀ d, t.fabric d = Fabric.reset) ∧
        (s.fld (R.CFG_STAT 0) F.CFG_STAT_STATE = 4 → After .pload s (fun t => t = { s with regs := t.regs, cfg := t.cfg } ∧
          Writes [(R.CFG_STAT 0, [(F.CFG_STAT_BUSY, 1)])] s t ∧
          t.cfg = { s.cfg with load := some (loadOf 2 2 0 0 0 [] []) })) ∧
        After (.dieload (BitVec.ofNat 3 die) true) s (fun t => t.fabric die = Fabric.reset ∧ t.cfgUp[die] = false ∧
          (∀ d, d ≠ die → t.fabric d = s.fabric d) ∧ t.flag (R.CFG_STAT 0) F.CFG_STAT_BUSY = true ∧
          t.cfg.load = some (loadOf 1 2 0 0 die [] [])))) ∧
    (∀ (l : Load) (d : Fin 6), s.cfg.load = some l → l.kind = 2 → l.header ≠ [] → hdrDie l.header = d →
      (s.meadow d (hdrMeadow l.header)).valid = true → s.mdFenced d (hdrMeadow l.header) = true →
      let gone (code : Nat) (t : State) : Prop := t.cfg.load = none ∧ t.fld (R.CFG_ERR 0) F.CFG_ERR_CODE = code ∧
        t.flag (R.CFG_STAT 0) F.CFG_STAT_BUSY = false ∧ t.flag (R.CFG_CAUSE d) F.CFG_CAUSE_PLOADERR = true ∧
        t.flag (R.CFG_DSTAT d) F.CFG_DSTAT_LOADING = false ∧ t.mdFenced d (hdrMeadow l.header) = true ∧
        (∀ e, e ≠ d → t.fabric e = s.fabric e) ∧
        ∀ fa, (t.fabric d).frame fa = if bitOf (s.meadow d (hdrMeadow l.header)).mask.toNat (frameAddr fa).region
          then 0 else (s.fabric d).frame fa
      After .cfgAbort s (gone 0xD) ∧ (s.unreachable 0 l.die = true → After .dieAbsentTimeout s (fun t => gone 0xA t ∧
        t.now = max s.now (l.turn + 100000000 * ns))))

/-- The command stream of a leg (11 R381 to R385, R388, R389): NOP does nothing, FWRITE stores 144 words in the frame it
names and in no other, DCRC compares the CRC-32C of the frames written, DEND ends the stream after a DCRC, and a command
that breaks the rules ends the load with code 7; the end of a good leg takes the next leg's key and hash from it, a leg
whose tag or hash fails ends the load with code 6, and the last leg's end begins start-up. -/
def Obligations.StreamCommandsAndLegs : Prop :=
  ∀ (s : State) (l : Load), s.cfg.load = some l → l.header ≠ [] →
    (l.ready = true → s.unreachable 0 l.die = false → l.badCmd = false → l.fw = none →
      (l.opcode = 0 → After .cmdNop s (fun t =>
        t = { s with cfg := { s.cfg with load := some { l with words := l.words.drop 1, crcLast := false } } })) ∧
      (∀ (w0 w1 : Word) (ws : List Word) (d : Fin 6), l.words = w0 :: w1 :: ws → l.opcode = 1 → l.arg = 1 → 144 ≤ ws.length →
        l.die = d → s.faOk l w1.toNat = true → After .fwrite s (fun t =>
          let v : Frame := BitVec.ofNat 4608 ((ws.take 144).foldr (fun w acc => w.toNat + 4294967296 * acc) 0)
          t = { s with cfg := t.cfg, fab := t.fab } ∧ (∀ e, e ≠ d → t.fabric e = s.fabric e) ∧
          (∀ fa, (t.fabric d).frame fa = if fa = w1.toNat then v else (s.fabric d).frame fa) ∧
          (t.fabric d).ff = (s.fabric d).ff ∧
          let wr := w1.toNat :: l.written
          t.cfg = { s.cfg with load := some { l with words := ws.drop 144, written := wr, fw := none, crcLast := false } })) ∧
      (∀ (w0 w1 : Word) (ws : List Word) (d : Fin 6), l.words = w0 :: w1 :: ws → l.opcode = 2 → l.die = d →
        (crcFrames (l.written.reverse.map (fun fa => (s.fabric d).frame fa)) = w1.toNat → After .dcrc s (fun t =>
          t = { s with cfg := { s.cfg with load := some { l with words := ws, written := [], crcLast := true } } })) ∧
        (crcFrames (l.written.reverse.map (fun fa => (s.fabric d).frame fa)) ≠ w1.toNat → l.kind ≠ 0 → After .dcrc s (fun t =>
          t.cfg.load = none ∧ t.fld (R.CFG_ERR 0) F.CFG_ERR_CODE = 9))) ∧
      (l.opcode = 3 → After .dend s (fun t =>
        t = { s with cfg := { s.cfg with load := some { l with words := l.words.drop 1, crcLast := false, ended := true, endAt := s.now } } }))) ∧
    (l.ready = true → s.unreachable 0 l.die = false → l.badCmd = true → l.kind ≠ 0 →
      ∀ c ∈ [Instr.cmdNop, .fwrite, .dcrc, .dend], After c s (fun t => t.cfg.load = none ∧
        t.fld (R.CFG_ERR 0) F.CFG_ERR_CODE = 7)) ∧
    (∀ dn, l.done = some dn → l.ready = false →
      (dn.good = false → l.kind ≠ 0 → After .legEnd s (fun t => t.cfg.load = none ∧
        t.fld (R.CFG_ERR 0) F.CFG_ERR_CODE = 6)) ∧
      (dn.good = true → dn.last = false → l.ended = false → l.src = 2 → l.inbuf = [] → After .legEnd s (fun t =>
        let n := l.leg + 1
        t = { s with cfg := { s.cfg with load := some { l with key := dn.key, iv := dn.iv, hash := dn.hash, done := none, leg := n } } })) ∧
      (dn.good = true → dn.last = true → l.ended = true → l.words = [] → l.fw = none →
        l.stored = hdrLength l.header l.die → l.kind = 2 → l.die < 6 → After .legEnd s (fun t => t.cfg.load = none ∧
          t.cfg.startup = some ⟨[l.die], some (hdrMeadow l.header), hdrStartup l.header, 0, wholeUs (l.endAt + 2000 * ns), 2⟩ ∧
          t.flag (R.CFG_DSTAT l.die) F.CFG_DSTAT_LOADING = false ∧
          ∀ e, t.fabric e = { s.fabric e with sets := (t.fabric e).sets })))

/-- Start-up (11 R391, R394 to R397, R403): each step takes place at its time, in the order the header gives: LOCK waits for
every enabled synthesiser, OUTREL releases the GPIO outputs, SETREL the flip-flops, WREN lets them be written; the next
step comes 1 us later, and 1 us after the last the load is done: DONE, the design's number and LOADOK for a full load,
LOADOK for a DIELOAD, PLOADOK for a partial one. -/
def Obligations.StartupStepsInOrder : Prop :=
  ∀ (s : State) (u : Startup), s.cfg.startup = some u → u.meadow = none → u.kind < 2 →
    let moved (t : State) : Prop := t.now = max s.now u.time ∧
      (u.step < 3 → let n := u.step + 1; let at_ := u.time + 1000 * ns
        t.cfg = { s.cfg with startup := some { u with step := n, time := at_ } } ∧ t.cfgUp = s.cfgUp) ∧
      (3 ≤ u.step → t.cfg = { s.cfg with startup := none, doneAt := some (u.time + 1000 * ns, u.kind, u.dies) } ∧
        ∀ d : Fin 6, t.cfgUp[d] = (s.cfgUp[d] || u.dies.contains d.val))
    (stepCode u.order u.step = 1 → After .outrel s (fun t => moved t ∧
      ∀ d : Fin 6, (t.fabric d).outrel = ((s.fabric d).outrel || u.dies.contains d.val))) ∧
    (stepCode u.order u.step = 2 → After .setrel s (fun t => moved t ∧ ∀ d : Fin 6,
      t.flag (R.FAB_STAT d) F.FAB_STAT_GSR = (s.flag (R.FAB_STAT d) F.FAB_STAT_GSR && !u.dies.contains d.val) ∧
      (u.dies.contains d.val = true → (t.fabric d).ff = []))) ∧
    (stepCode u.order u.step = 3 → After .wrenStep s (fun t => moved t ∧ ∀ d : Fin 6,
      t.flag (R.FAB_STAT d) F.FAB_STAT_WREN = (s.flag (R.FAB_STAT d) F.FAB_STAT_WREN || u.dies.contains d.val) ∧
      (u.dies.contains d.val = true → (t.fabric d).wrenAt = some (max s.now u.time)))) ∧
    (stepCode u.order u.step = 0 → u.step < 3 →
      (u.dies.all s.fcsLocked = true → s.lastLock u.dies ≤ u.time + 1000000 * ns → After .lockStep s (fun t => t.now = max s.now u.time ∧
        let n := u.step + 1; let at_ := max (u.time + 1000 * ns) (wholeUs (s.lastLock u.dies))
        t = { s with now := t.now, cfg := { s.cfg with startup := some { u with step := n, time := at_ } } })) ∧
      (u.dies.all s.fcsLocked = false → s.now < u.time + 1000000 * ns →
        After .lockStep s (fun t => t = { s with now := max s.now u.time })) ∧
      ((u.dies.all s.fcsLocked = false ∧ u.time + 1000000 * ns ≤ s.now ∨
        u.dies.all s.fcsLocked = true ∧ u.time + 1000000 * ns < s.lastLock u.dies) → u.kind = 1 → After .lockStep s (fun t =>
        t.cfg.startup = none ∧ t.fld (R.CFG_ERR 0) F.CFG_ERR_CODE = 0xB ∧
        t.flag (R.CFG_CAUSE 0) F.CFG_CAUSE_LOADERR = true))) ∧
    (∀ (v : State) at_ (kind : Nat) (ds : List Nat), v.cfg.doneAt = some (at_, kind, ds) → After .doneRise v (fun t =>
      t = { v with now := max v.now at_, regs := t.regs, cfg := { v.cfg with doneAt := none } } ∧
      (kind = 0 → t.flag (R.CFG_STAT 0) F.CFG_STAT_DONE = true ∧ t.fld (R.CFG_STAT 0) F.CFG_STAT_STATE = 4 ∧
        (t.rd (R.CFG_DESIGNID 0)).toNat = hdrDesign v.cfg.header % 2 ^ 32 ∧
        t.flag (R.CFG_CAUSE 0) F.CFG_CAUSE_LOADOK = true ∧
        SameRegs [R.CFG_STAT 0, R.CFG_DESIGNID 0, R.KPR_RBCNT, R.CFG_CAUSE 0] v t) ∧
      (kind = 1 → Writes [(R.CFG_STAT 0, [(F.CFG_STAT_BUSY, 0)]), (R.CFG_CAUSE 0, [(F.CFG_CAUSE_LOADOK, 1)])] v t) ∧
      (2 ≤ kind → Writes [(R.CFG_STAT 0, [(F.CFG_STAT_BUSY, 0)]),
        (R.CFG_CAUSE (ds.headD 0), [(F.CFG_CAUSE_PLOADOK, 1)])] v t)))

/-- Meadows, the scrubber and read-back (11 R398 to R400, R404 to R408): a fence of a valid meadow is due at the first whole
microsecond at least 1 us away, and is refused with CMDERR while its die loads; at its time the meadow is fenced, held
in reset, and its flip-flops return to INIT, while frames keep their bits; an UNFENCE runs the start-up steps again;
the scrubber corrects and counts a single flip of a word, and counts a double one and leaves it; read-back is denied to a
design that was encrypted. -/
def Obligations.MeadowFencesAndScrubbing : Prop :=
  ∀ (s : State) (d : Fin 6) (m : Fin 32),
    ((s.meadow d m).valid = true → s.loading d = false →
      After (.meadowFence d m) s (fun t => t = { s with regs := t.regs, cfg := t.cfg } ∧ SameRegs [R.CFG_MDCTRL d] s t ∧
        t.fld (R.CFG_MDCTRL d) F.CFG_MDCTRL_MEADOW = m ∧
        let at_ := wholeUs (s.now + 1000 * ns)
        t.cfg = { s.cfg with fences := s.cfg.fences ++ [(d.val, m.val, at_)] } ∧
        s.now + 1000 * ns ≤ at_ ∧ at_ < s.now + 2000 * ns ∧ at_ % (1000 * ns) = 0) ∧
      (s.mdFenced d m = true → s.cfg.unfence = [] → After (.unfence d m) s (fun t =>
        t = { s with regs := t.regs, cfg := t.cfg } ∧ SameRegs [R.CFG_MDCTRL d] s t ∧
        t.cfg = { s.cfg with unfence := [⟨[d.val], some m.val, s.orderOf d m, 0, wholeUs (s.now + 2000 * ns), 3⟩] }))) ∧
    (((s.meadow d m).valid = false ∨ s.loading d = true) → ∀ c ∈ [Instr.meadowFence d m, .unfence d m],
      After c s (OnlyWrites [(R.CFG_MDCTRL d, [(F.CFG_MDCTRL_MEADOW, m.val)]), (R.CFG_CAUSE 0, [(F.CFG_CAUSE_CMDERR, 1)])] s)) ∧
    (∀ at_ rest, s.cfg.fences = (d.val, m.val, at_) :: rest → s.mdFenced d m = false → After (.meadowFenceTake d m) s (fun t =>
      t.now = max s.now at_ ∧ t.cfg.fences = rest ∧ t.mdFenced d m = true ∧ m.val ∈ (t.fabric d).mdGsr ∧
      (t.fabric d).frames = (s.fabric d).frames ∧ (∀ e, e ≠ d → t.fabric e = s.fabric e) ∧
      (∀ k, bitOf (s.meadow d m).mask.toNat (ffRegion k) = true → Sparse.get ((s.fabric d).initOf d) (t.fabric d).ff k =
        (s.fabric d).initOf d k) ∧
      ∀ p : Fin 16, bitOf (s.meadow d m).mask.toNat (40 + p.val / 2) = true → t.fp d p = (s.fp d p).cut)) ∧
    (∀ (fa : Word) (w : Nat) (flip : BitVec 72), w < 72 → s.power.slept = none →
      s.flag (R.CFG_SCRUB_CTRL d) F.CFG_SCRUB_CTRL_EN = true → s.flag (R.CFG_SCRUB_CTRL d) F.CFG_SCRUB_CTRL_MBEFENCE = false →
      addrValid fa.toNat = true → (frameAddr fa.toNat).die = d → checkedType (frameAddr fa.toNat).typ = true →
      s.loading d = false → s.meadowOf d (frameAddr fa.toNat).region = none →
      (∀ i < 72, 128 * fa.toNat + i ∉ (s.fabric d).badWords) →
      (weight72 flip.toNat = 0 → After (.scrubFrame d fa [(w, flip)] false) s (fun t => t = s)) ∧
      (weight72 flip.toNat = 1 → After (.scrubFrame d fa [(w, flip)] false) s (fun t =>
        t = { s with regs := t.regs, mon := t.mon } ∧ SameRegs [R.CFG_SCRUB_SBE d, R.CFG_CAUSE d] s t ∧
        t.rd (R.CFG_CAUSE d) = F.CFG_CAUSE_SCRUBSBE.set (s.rd (R.CFG_CAUSE d)) 1 ∧
        (t.rd (R.CFG_SCRUB_SBE d)).toNat = min ((s.rd (R.CFG_SCRUB_SBE d)).toNat + 1) (2 ^ 32 - 1))) ∧
      (2 ≤ weight72 flip.toNat → After (.scrubFrame d fa [(w, flip)] false) s (fun t =>
        t = { s with regs := t.regs, fab := t.fab } ∧
        SameRegs [R.CFG_SCRUB_MBE d, R.CFG_SCRUB_MBEADDR d, R.CFG_CAUSE d] s t ∧
        t.rd (R.CFG_CAUSE d) = F.CFG_CAUSE_SCRUBMBE.set (s.rd (R.CFG_CAUSE d)) 1 ∧
        (t.rd (R.CFG_SCRUB_MBE d)).toNat = min ((s.rd (R.CFG_SCRUB_MBE d)).toNat + 1) (2 ^ 32 - 1) ∧
        t.rd (R.CFG_SCRUB_MBEADDR d) = (if s.rd (R.CFG_SCRUB_MBE d) = 0 then fa else s.rd (R.CFG_SCRUB_MBEADDR d)) ∧
        128 * fa.toNat + w ∈ (t.fabric d).badWords ∧
        ∀ a, a ≠ fa.toNat → (t.fabric d).frame a = (s.fabric d).frame a))) ∧
    After (.scrubClr d) s (fun t => t = { s with regs := t.regs } ∧
      SameRegs [R.CFG_SCRUB_SBE d, R.CFG_SCRUB_MBE d, R.CFG_SCRUB_MBEADDR d] s t ∧
      t.rd (R.CFG_SCRUB_SBE d) = 0 ∧ t.rd (R.CFG_SCRUB_MBE d) = 0 ∧ t.rd (R.CFG_SCRUB_MBEADDR d) = 0) ∧
    (∀ fa : Word, ((s.flag (R.CFG_STAT 0) F.CFG_STAT_ENCSEEN = true ∨ bitOf (s.rd R.KPR_POLICY).toNat 1 = true) →
        After (.rbaddrWrite d fa) s (fun t => t = { s with reply := ⟨some .errDenied, []⟩ })) ∧
      (s.flag (R.CFG_STAT 0) F.CFG_STAT_ENCSEEN = false → bitOf (s.rd R.KPR_POLICY).toNat 1 = false →
        addrValid fa.toNat = true → (frameAddr fa.toNat).die = d → After (.rbaddrWrite d fa) s (fun t =>
          t = { s with regs := t.regs, reply := ⟨some .ok, []⟩ } ∧ t.rd (R.CFG_RBADDR d) = fa ∧
          (∀ i < 144, t.rd (R.CFG_RBDATA d i) = ((s.fabric d).frame fa.toNat).extractLsb' (32 * i) 32) ∧
          SameRegs (R.CFG_RBADDR d :: (List.range 144).map (R.CFG_RBDATA d)) s t)))

/-! ### Memory, vaults and the bus (12_memory_system.md, 13_vaults.md, 20_register_map.md) -/

/-- Accesses to a line outside every vault (12 R414, R421, R436 to R439, R446; 13 R454): a refused one answers its response
and changes no line; a full write replaces the line, a partial write the bytes it enables, an OR write sets bits, and a
read answers the bytes named and leaves every line; an uncorrectable word answers ERR_DATA and refuses a partial write.
A throttled source's activation waits GAP ns within its window, and no other access waits (12 R433). An enabled region is not
enabled again, and one that breaks the rules is refused with CMDERR (12 R423). -/
def Obligations.LinesAreReadAndWritten : Prop :=
  ∀ (s : State) (src addr len : Nat) (d : Fin 6) (data : Line512) (mask : BitVec 64) (env : G6Env),
    let a := addr / 64 * 64
    let bytes := leBytes (min len (64 - addr % 64))
    (∀ r, (s.g6Refuse src a (.full data) = some r → After (.g6FullWrite src addr data env) s (fun t =>
        t.reply = ⟨some r, []⟩ ∧ t.lines = s.lines ∧ ∃ u, OnlyMemory s u ∧ t = { u with reply := t.reply })) ∧
      (s.g6Refuse src a (.read (spanMask addr len)) = some r → After (.g6Read src addr len env) s (fun t =>
        r ≠ .ok → t.reply = ⟨some r, []⟩ ∧ t.lines = s.lines ∧ ∃ u, OnlyMemory s u ∧ t = { u with reply := t.reply }))) ∧
    (∀ ch line l, s.place a = some (ch, line) → portOf ch < 24 → s.vaultOf a = none → env.buf = false → env.edc < 4 →
      env.ecc = [] → s.line (lineKey ch line) = some l →
      let stored (t : State) (x : Line512) : Prop := t.reply = ⟨some .ok, []⟩ ∧
        (∀ k, t.line k = if k = lineKey ch line then some ⟨x, 0, .clean, .clean, .clean, .clean⟩ else s.line k) ∧
        ∃ u, OnlyMemory s u ∧ t = { u with reply := t.reply }
      (s.g6Refuse src a (.full data) = none → After (.g6FullWrite src addr data env) s (fun t => stored t data)) ∧
      (l.conds [] = [.clean, .clean, .clean, .clean] →
        (s.g6Refuse src a (.read (spanMask addr len)) = none → After (.g6Read src addr len env) s (fun t =>
          t.reply = ⟨some .ok, bytes (bitsOf l.data.toNat (8 * (addr % 64)) (8 * min len (64 - addr % 64)))⟩ ∧
          (∀ k, t.line k = s.line k) ∧ ∃ u, OnlyMemory s u ∧ t = { u with reply := t.reply })) ∧
        (mask ≠ BitVec.allOnes 64 → s.g6Refuse src a (.part data mask.toNat) = none →
          After (.g6PartialWrite src addr data mask env) s (fun t => stored t (mergeBytes l.data data mask.toNat))) ∧
        (s.g6Refuse (128 * d.val + 0x48) a (.or_ data) = none →
          After (.g6OrWrite d addr data env) s (fun t => stored t (l.data ||| data)))) ∧
      (l.m0 = .ue → mask ≠ BitVec.allOnes 64 → s.g6Refuse src a (.part data mask.toNat) = none →
        After (.g6PartialWrite src addr data mask env) s (fun t => t.reply = ⟨some .errData, []⟩ ∧
          (∀ k, t.line k = s.line k) ∧ t.flag (R.MEMP_CAUSE (portOf ch)) F.MEMP_CAUSE_PWREF = true ∧
          t.flag (R.MEMP_CAUSE (portOf ch)) F.MEMP_CAUSE_UECC = true))) ∧
    ((env.act = none ∨ ∀ q : Fin 24, (s.p q).throttled = []) → After (.g6FullWrite src addr data env) s (fun t => t.now = s.now) ∧
      After (.g6Read src addr len env) s (fun t => t.now = s.now) ∧
      After (.g6PartialWrite src addr data mask env) s (fun t => t.now = s.now) ∧
      After (.g6OrWrite d addr data env) s (fun t => t.now = s.now)) ∧
    (∀ ch line bank row last, ∀ q : Fin 24, s.place a = some (ch, line) → portOf ch = q.val → env.act = some (bank, row) →
      (s.p q).throttled = [(src, ch, bank, last)] → (s.p q).win = s.now / s.rhLen q → s.now < last + s.rhGap q →
      last + s.rhGap q ≤ (s.now / s.rhLen q + 1) * s.rhLen q → s.g6Refuse src a (.full data) = none →
      After (.g6FullWrite src addr data env) s (fun t => t.now = last + s.rhGap q)) ∧
    (∀ (r : Fin 16) (v : Word),
      let new := regionOf (s.rd (R.PROM_REG_BASE 0 r)) (s.rd (R.PROM_REG_SIZE 0 r)) v (s.rd (R.PROM_REG_CHOFS 0 r))
      (new.en = true → ((s.region r).en = true ∨ s.regionOk new = false) → After (.regionCtrlWrite r v) s
        (OnlyWrites [(R.PROM_CAUSE 0, [(F.PROM_CAUSE_CMDERR, 1)])] s)) ∧
      ((new.en = false ∨ (s.region r).en = false ∧ s.regionOk new = true) → After (.regionCtrlWrite r v) s (fun t =>
        t = { s with regs := t.regs } ∧ SameRegs [R.PROM_REG_CTRL 0 r] s t ∧ t.region r = new)))

/-- What a line was written with is what a read of it answers (12 R436, R437; 13 R454, R458 to R461), whatever vault covers
it and whichever keys, tweak and tag it uses: after a full write that answers OK, an accepted read of the line through
a burst that meets no error answers exactly the bytes written. -/
def Obligations.WhatIsWrittenIsReadBack : Prop :=
  ∀ (s t u : State) (src src' addr : Nat) (data : Line512) (env env' : G6Env),
    exec (.g6FullWrite src addr data env) s = .next t → t.reply.resp = some .ok →
    env'.ecc = [] → env'.edc < 4 → env'.buf = false →
    t.g6Refuse src' (addr / 64 * 64) (.read (2 ^ 64 - 1)) = none →
    exec (.g6Read src' (addr / 64 * 64) 64 env') t = .next u →
    u.reply = ⟨some .ok, leBytes 64 data.toNat⟩

/-- Ports train, zero and refresh, and passes scrub (12 R426 to R444): training ends in READY where every step passed at the
density expected, and in FAIL with TRAINERR otherwise; zeroing leaves every line of the port 0; a refresh that falls due is
postponed while requests wait and the limit allows; a window ends every count and throttle; a scrub pass goes from START
to END, checks every word and writes back what FIX allows. -/
def Obligations.PortsTrainZeroRefreshAndScrub : Prop :=
  ∀ (s : State) (q : Fin 24) (d : Fin 6),
    ((s.mstate q = 0 ∨ s.mstate q = 4) →
      After (.mempInit q) s (OnlyWrites [(R.MEMP_STAT q, [(F.MEMP_STAT_STATE, 1)])] s)) ∧
    (s.mstate q = 2 → After (.mempInit q) s (fun t => t = { s with regs := t.regs, dma := t.dma } ∧
      Writes [(R.MEMP_STAT q, [(F.MEMP_STAT_STATE, 1)])] s t ∧
      ∀ (k : Fin 6) (c : Fin 32), (t.dm k c).fly = (s.dm k c).fly.map (fun b =>
        if b.addr < 2 ^ 40 ∧ (s.place b.addr).map (fun x => portOf x.1) = some q.val then { b with gone := true } else b))) ∧
    (s.mstate q = 2 → After (.mempZero q) s (OnlyWrites [(R.MEMP_STAT q, [(F.MEMP_STAT_STATE, 5)])] s)) ∧
    (s.mstate q = 1 → ∀ c ∈ [Instr.mempInit q, .mempZero q],
      After c s (OnlyWrites [(R.MEMP_CAUSE q, [(F.MEMP_CAUSE_CMDERR, 1)])] s)) ∧
    (∀ (dens : BitVec 2) (ok : Bool), s.mstate q = 1 →
      let good := ok = true ∧ dens.toNat = s.fld (R.MEMP_CTRL q) F.MEMP_CTRL_EXPD ∧ dens ≠ 0
      (good → After (.mempTrainDone q dens ok) s (OnlyWrites [(R.MEMP_STAT q, [(F.MEMP_STAT_DENS, dens.toNat),
        (F.MEMP_STAT_STATE, 2)]), (R.MEMP_CAUSE q, [(F.MEMP_CAUSE_READY, 1)])] s)) ∧
      (¬ good → After (.mempTrainDone q dens ok) s (OnlyWrites [(R.MEMP_STAT q, [(F.MEMP_STAT_DENS, dens.toNat),
        (F.MEMP_STAT_STATE, 4)]), (R.MEMP_CAUSE q, [(F.MEMP_CAUSE_TRAINERR, 1)])] s))) ∧
    (s.mstate q = 5 → After (.zeroDone q) s (fun t => t = { s with lines := t.lines, port := t.port, regs := t.regs } ∧
      Writes [(R.MEMP_STAT q, [(F.MEMP_STAT_STATE, 2)]), (R.MEMP_CAUSE q, [(F.MEMP_CAUSE_READY, 1)])] s t ∧
      ∀ k, t.line k = if portOf (k / 2 ^ 25) = q then some GLine.zero else s.line k)) ∧
    (∀ waiting, s.mstate q = 2 → s.fld (R.MEMP_CTRL q) F.MEMP_CTRL_REFMODE = 0 →
      let owed := s.fld (R.MEMP_STAT q) F.MEMP_STAT_OWED
      let more := waiting = true ∧ owed < min 8 (s.fld (R.MEMP_CTRL q) F.MEMP_CTRL_POSTPONE)
      (more → After (.refreshDue q waiting) s (OnlyWrites [(R.MEMP_STAT q, [(F.MEMP_STAT_OWED, owed + 1)])] s)) ∧
      (¬ more → After (.refreshDue q waiting) s (fun t => t = { s with regs := t.regs, mon := t.mon } ∧
        Writes [(R.MEMP_STAT q, [(F.MEMP_STAT_OWED, 0)])] s t))) ∧
    (∀ bank, s.mstate q = 2 → s.fld (R.MEMP_CTRL q) F.MEMP_CTRL_REFMODE = 1 →
      After (.bankRefresh q bank) s (fun t => t = s.tally (q.val / 4) (0x4C + q.val % 4) 1)) ∧
    After (.rhWindow q) s (fun t => t = { s with now := t.now, port := t.port } ∧ (t.p q).rh = [] ∧ (t.p q).throttled = [] ∧
      (t.p q).zeroed = (s.p q).zeroed ∧ (∀ k, k ≠ q → t.p k = s.p k) ∧
      (let w := s.rhLen q; ((s.p q).win = s.now / w → t.now = (s.now / w + 1) * w) ∧ ((s.p q).win ≠ s.now / w → t.now = s.now) ∧
        (t.p q).win = t.now / w)) ∧
    (∀ fix, s.scrub[d] = none → s.scrStart d < s.scrEnd d → After (.promScrGo d fix) s (fun t =>
      t.scrub[d] = some ⟨s.scrStart d, s.scrEnd d⟩ ∧ t.flag (R.PROM_SCR_CTRL d) F.PROM_SCR_CTRL_FIX = fix ∧
      t.flag (R.PROM_SCR_STAT d) F.PROM_SCR_STAT_BUSY = true ∧ t.rd (R.PROM_SCR_CHK d) = 0 ∧ t.rd (R.PROM_SCR_COR d) = 0 ∧
      t.rd (R.PROM_SCR_UNC d) = 0 ∧ t = { s with regs := t.regs, scrub := t.scrub })) ∧
    (∀ p : Scrub, s.scrub[d] = some p →
      After (.promScrStop d) s (fun t => t.scrub[d] = none ∧ t = { s with regs := t.regs, scrub := t.scrub } ∧
        Writes [(R.PROM_SCR_STAT d, [(F.PROM_SCR_STAT_BUSY, 0), (F.PROM_SCR_STAT_CUT, 1)]),
          (R.PROM_CAUSE d, [(F.PROM_CAUSE_SCRDONE, 1)])] s t) ∧
      (∀ env, s.place p.next = none → After (.scrubLine d env) s (fun t => t.lines = s.lines ∧
        t = { s with regs := t.regs, scrub := t.scrub } ∧
        t.scrub[d] = if p.next + 64 < p.stop then some ⟨p.next + 64, p.stop⟩ else none)) ∧
      (∀ (env : G6Env) ch line l, s.place p.next = some (ch, line) → ch / 8 = d → s.mstate (portOf ch) = 2 → s.haltOn[d] = false →
        s.line (lineKey ch line) = some l → env = G6Env.none_ → l.conds [] = [.ce, .clean, .clean, .clean] →
        s.flag (R.PROM_SCR_CTRL d) F.PROM_SCR_CTRL_FIX = true → After (.scrubLine d env) s (fun t =>
          (∀ k, t.line k = if k = lineKey ch line then some ⟨l.data, l.tag, .clean, .clean, .clean, .clean⟩ else s.line k) ∧
          (t.rd (R.PROM_SCR_CHK d)).toNat = min ((s.rd (R.PROM_SCR_CHK d)).toNat + 4) (2 ^ 32 - 1) ∧
          (t.rd (R.PROM_SCR_COR d)).toNat = min ((s.rd (R.PROM_SCR_COR d)).toNat + 1) (2 ^ 32 - 1) ∧
          t.rdPair (R.PROM_SCR_LAST_LO d) (R.PROM_SCR_LAST_HI d) = p.next % 2 ^ 64 ∧
          t.flag (R.MEMP_CAUSE (portOf ch)) F.MEMP_CAUSE_CECC = true)))

/-- Vaults (13 R451, R456, R463 to R473): enabling a vault that is accepted derives its keys and initialises or adopts it,
and one that is not is refused with CMDERR; a rekey starts at the vault's base under the next generation, at the last
generation it ends in GENEND; the engine turns one line after another, and the last one makes the new generation current;
disabling clears the keys; a halt stops the groups of its die, takes its tether ports down and zeroises every key. -/
def Obligations.VaultsRekeyAndHalt : Prop :=
  ∀ (s : State) (v : Fin 64) (d : Fin 6),
    (∀ w : Word, let w' := F.VLT_V_CTRL_EN.set w 1
      s.vctrl v F.VLT_V_CTRL_EN = 0 →
      (s.enableOk v w' = false → After (.vaultEnable v w) s (OnlyWrites [(R.VLT_CAUSE 0, [(F.VLT_CAUSE_CMDERR, 1)])] s)) ∧
      (s.enableOk v w' = true → F.VLT_V_CTRL_RKGO.get w = 0 → After (.vaultEnable v w) s (fun t =>
        t = { s with regs := t.regs, vault := t.vault } ∧ (∀ k, k ≠ v → t.v k = s.v k) ∧
        let g := t.vctrl v F.VLT_V_CTRL_GEN
        (t.v v).keys = [(g, s.deriveKeys v g)] ∧
        t.vstate v = (if t.vctrl v F.VLT_V_CTRL_ADOPT = 0 ∧ t.vctrl v F.VLT_V_CTRL_MODE ≠ 0 then 1 else 2) ∧
        (t.vstate v = 1 → (t.v v).ptr = s.vbase v)))) ∧
    (s.vctrl v F.VLT_V_CTRL_EN = 1 →
      ((s.vstate v = 1 ∨ s.vstate v = 3) →
        After (.vaultDisable v) s (OnlyWrites [(R.VLT_CAUSE 0, [(F.VLT_CAUSE_CMDERR, 1)])] s)) ∧
      (s.vstate v ≠ 1 → s.vstate v ≠ 3 → F.VLT_V_CTRL_RKGO.get (s.rd (R.VLT_V_CTRL 0 v)) = 0 →
        After (.vaultDisable v) s (fun t => t = { s with regs := t.regs, vault := t.vault } ∧
          SameRegs [R.VLT_V_CTRL 0 v, R.VLT_V_STAT 0 v] s t ∧ t.vctrl v F.VLT_V_CTRL_EN = 0 ∧ t.vstate v = 0 ∧
          (t.v v).keys = [] ∧ ∀ k, k ≠ v → t.v k = s.v k))) ∧
    (let g := s.vctrl v F.VLT_V_CTRL_GEN
     let started (b : Nat) (t : State) : Prop := t = { s with now := b, regs := t.regs, vault := t.vault } ∧
       (∀ k, k ≠ v → t.v k = s.v k) ∧
       (g = 65535 → t.vstate v = 5 ∧ t.flag (R.VLT_CAUSE 0) F.VLT_CAUSE_GENEND = true ∧ (t.v v).keys = (s.v v).keys) ∧
       (g ≠ 65535 → t.vstate v = 3 ∧ (t.v v).keys = (s.v v).keys ++ [(g + 1, s.deriveKeys v (g + 1))] ∧
         (t.v v).ptr = s.vbase v ∧ t.rdPair (R.VLT_V_WCNT_LO 0 v) (R.VLT_V_WCNT_HI 0 v) = 0)
     (s.vstate v = 2 → After (.rkgo v) s (started s.now) ∧
       ∀ b, (s.v v).dueAt = some b → After (.rekeyStart v) s (started (max s.now b))) ∧
     ((s.vstate v = 0 ∨ s.vstate v = 1 ∨ s.vstate v = 3 ∨ s.vstate v = 5) →
       After (.rkgo v) s (OnlyWrites [(R.VLT_CAUSE 0, [(F.VLT_CAUSE_CMDERR, 1)])] s)) ∧
     (∀ ch line l, s.engineRefuse (s.v v).ptr = none → s.place (s.v v).ptr = some (ch, line) → portOf ch < 24 →
       (s.vstate v = 1 → (s.v v).ptr + 64 < s.vbase v + s.vsize v → After (.initLine v G6Env.none_) s (fun t =>
         t.line (lineKey ch line) = some (s.sealGen v g (s.v v).ptr 0) ∧
         (∀ k, k ≠ lineKey ch line → t.line k = s.line k) ∧ (t.v v).ptr = (s.v v).ptr + 64 ∧ t.vstate v = 1)) ∧
       (s.vstate v = 1 → s.vbase v + s.vsize v ≤ (s.v v).ptr + 64 → After (.initLine v G6Env.none_) s (fun t =>
         t.vstate v = 2 ∧ t.flag (R.VLT_CAUSE 0) F.VLT_CAUSE_INITDONE = true)) ∧
       (s.vstate v = 3 → s.line (lineKey ch line) = some l → l.conds [] = [.clean, .clean, .clean, .clean] →
         s.tagOk (some v) (s.v v).ptr l = true → After (.rekeyLine v G6Env.none_) s (fun t =>
           t.line (lineKey ch line) = some (s.sealGen v (g + 1) (s.v v).ptr (s.open_ (some v) (s.v v).ptr l.data)) ∧
           (∀ k, k ≠ lineKey ch line → t.line k = s.line k) ∧
           ((s.v v).ptr + 64 < s.vbase v + s.vsize v → (t.v v).ptr = (s.v v).ptr + 64 ∧ t.vstate v = 3) ∧
           (s.vbase v + s.vsize v ≤ (s.v v).ptr + 64 → g < 65535 → s.flag (R.VLT_V_STAT 0 v) F.VLT_V_STAT_RKPEND = false →
             t.vctrl v F.VLT_V_CTRL_GEN = g + 1 ∧ t.vstate v = 2 ∧ (t.v v).keys = (s.v v).keys.filter (fun k => k.1 != g) ∧
             t.flag (R.VLT_CAUSE 0) F.VLT_CAUSE_RKDONE = true))) ∧
       (s.vstate v = 3 → s.line (lineKey ch line) = some l → l.conds [] = [.clean, .clean, .clean, .clean] →
         s.tagOk (some v) (s.v v).ptr l = false → s.haltReq = false → After (.rekeyLine v G6Env.none_) s (fun t =>
           t.haltReq = true ∧ t.flag (R.VLT_CAUSE 0) F.VLT_CAUSE_HALT = true ∧ ∀ k, t.line k = s.line k)))) ∧
    (s.haltReq = true → s.haltOn[d] = false → After (.integrityHalt d) s (fun t => t.haltOn[d] = true ∧
      (∀ g ∈ groupsOf d, t.active g = false) ∧ (∀ k, (t.v k).keys = []) ∧ t.pstate (2 * d.val) = 0 ∧
      t.pstate (2 * d.val + 1) = 0 ∧ t.keeper.nonceTap = none ∧ t.keeper.nonceBox = none ∧ t.lines = s.lines))

/-- Channels of the DMA engine start, stop and take requests (14 R480 to R484, R487, R488, R490): START from IDLE or DONE
fetches the descriptor that DMA_CHc_DESC names; STOP ends a busy channel once it holds no data; CLR leaves ERROR; a command
in another state sets CMDERR and changes nothing else; a pulse is counted in PEND and is lost at 255; a burst that waits
starts from PEND, which falls by one, or from its level. -/
def Obligations.DmaChannelsStartStopAndTakeRequests : Prop :=
  ∀ (s : State) (d : Fin 6) (c : Fin 32),
    let only (t : State) : Prop := t = { s with regs := t.regs, dma := t.dma } ∧ ∀ e k, (e, k) ≠ (d, c) → t.dm e k = s.dm e k
    let refused := OnlyWrites [(R.DMA_CAUSE d, [(F.DMA_CAUSE_CMDERR, 1)])] s
    ((s.dmaState d c = 0 ∨ s.dmaState d c = 4) → After (.dmaStart d c) s (fun t => only t ∧
      Writes [(R.DMA_CH_STAT d c, [(F.DMA_CH_STAT_STATE, 1)])] s t ∧ (t.dm d c).fetching = true ∧
      (t.dm d c).descAt = s.rdPair (R.DMA_CH_DESC_LO d c) (R.DMA_CH_DESC_HI d c) ∧ (t.dm d c).desc = none ∧
      (t.dm d c).burst = none ∧ (t.dm d c).stage = [] ∧ (t.dm d c).fly = (s.dm d c).fly)) ∧
    (s.dmaState d c ≠ 0 → s.dmaState d c ≠ 4 → After (.dmaStart d c) s refused) ∧
    (s.dmaBusy d c = true →
      (((s.dm d c).stage ≠ [] ∨ (s.dm d c).fly.any (fun b => !b.write) = true) → After (.dmaStop d c) s (fun t => only t ∧
        t.regs = s.regs ∧ t.dm d c = { s.dm d c with stop := true })) ∧
      ((s.dm d c).stage = [] → (s.dm d c).fly.any (fun b => !b.write) = false → After (.dmaStop d c) s (fun t => only t ∧
        Writes [(R.DMA_CH_STAT d c, [(F.DMA_CH_STAT_STATE, 0)])] s t ∧
        t.dm d c = { s.dm d c with stop := false, burst := none, desc := none, fetching := false }))) ∧
    (s.dmaBusy d c = false → After (.dmaStop d c) s refused) ∧
    (s.dmaState d c = 5 → After (.dmaClr d c) s (fun t =>
      t = { s with regs := t.regs, dma := t.dma, pcie := { s.pcie with prev := t.pcie.prev } } ∧
      (∀ e k, (e, k) ≠ (d, c) → t.dm e k = s.dm e k) ∧ SameRegs [R.DMA_CH_STAT d c, R.DMA_ERR d] s t ∧
      (∀ v < 64, bitOf t.pcie.prev.toNat v = (bitOf s.pcie.prev.toNat v && t.vecCond v)) ∧
      t.dmaState d c = 0 ∧ t.dmaPend d c = s.dmaPend d c ∧ t.dm d c = { s.dm d c with err := none } ∧
      ∀ i < 32, (t.rd (R.DMA_ERR d)).getLsbD i = ((s.rd (R.DMA_ERR d)).getLsbD i && decide (i ≠ c)))) ∧
    (s.dmaState d c ≠ 5 → After (.dmaClr d c) s refused) ∧
    (s.dmaPend d c < 255 → After (.swreq d c) s
      (OnlyWrites [(R.DMA_CH_STAT d c, [(F.DMA_CH_STAT_PEND, s.dmaPend d c + 1)])] s)) ∧
    (s.dmaPend d c = 255 → After (.swreq d c) s (fun t => t = { s with regs := t.regs } ∧ SameRegs [R.DMA_ROVF d] s t ∧
      ∀ i < 32, (t.rd (R.DMA_ROVF d)).getLsbD i = ((s.rd (R.DMA_ROVF d)).getLsbD i || decide (i = c)))) ∧
    (s.dmaPend d c < 255 →
      (s.dmaRsel d c = 13 → s.lineLive d (16 + c.val) = true → After (.peripheralPulse d c) s (fun t =>
        t = { s with regs := t.regs, fab := t.fab } ∧ Writes [(R.DMA_CH_STAT d c, [(F.DMA_CH_STAT_PEND, s.dmaPend d c + 1)])] s t ∧
        t.dmaLine d c = true ∧ ∀ e, e ≠ d → t.fabric e = s.fabric e)) ∧
      (s.dmaRsel d c = 13 → s.lineLive d (16 + c.val) = false → After (.peripheralPulse d c) s (fun t =>
        t = { s with fab := t.fab } ∧ t.dmaLine d c = false)) ∧
      (∀ t0 k rest, s.dmaRsel d c = 2 → (s.c d).trigs = (t0, 1, c.val) :: rest → k = max s.now t0 →
        After (.peripheralPulse d c) s (fun t => OnlyCapture d [R.DMA_CH_STAT d c] s t ∧ t.now = k ∧
          t.dmaPend d c = s.dmaPend d c + 1 ∧ t.c d = { s.c d with trigs := rest }))) ∧
    (∀ v line, let u := s.setReq d c line
      u.dmaLine d c = (line && s.lineLive d (16 + c.val)) ∧ ((s.dm d c).desc = some v → s.dmaState d c = 2 →
      let left := s.dmaCount d c
      let go (t : State) : Prop := t = { u with dma := t.dma, regs := t.regs } ∧ t.dmaState d c = 1 ∧
        SameRegs [R.DMA_CH_STAT d c] u t ∧
        t.dm d c = { s.dm d c with burst := some (descCount v - left, min left (descBurst v), 0, 0) }
      (u.dmaPend d c ≠ 0 → After (.pacedBurstStart d c line) s (fun t => go t ∧ t.dmaPend d c = u.dmaPend d c - 1)) ∧
      (u.dmaPend d c = 0 → u.dmaLevel d c = true → (s.dm d c).fly.any (fun b => !b.write) = false →
        After (.pacedBurstStart d c line) s (fun t => go t ∧ t.dmaPend d c = 0))))

/-- Channels of the DMA engine copy beat by beat (14 R475 to R481, R485, R486, R489): a descriptor that arrives and is well
formed begins its first burst, or waits for its request where it is paced; the channel picked issues its next read or
writes what it has staged, and COUNT falls by the bytes of a write; the bytes of a read that answers OK are staged; a bad
descriptor or an error response leads to ERROR, and once nothing is in flight to DMA_ERR and DMA_ERRLOG. -/
def Obligations.DmaChannelsCopyBeatByBeat : Prop :=
  ∀ (s : State) (d : Fin 6) (c : Fin 32) (envs : List G6Env),
    let src := d.val * 128 + 0x18 + c.val
    ((s.dm d c).fetching = true →
      let a := s.access (readAcc src (s.dm d c).descAt 32 false) envs
      let v := BitVec.ofNat 256 (leOf a.data)
      (a.resp = some .ok → descBad v = false → descOp v = 0 → After (.descFetchDone d c envs) s (fun t =>
        t = { a.st with regs := t.regs, dma := t.dma } ∧ (t.dm d c).desc = some v ∧ (t.dm d c).fetching = false ∧
        (t.rd (R.DMA_CH_COUNT d c)).toNat = descCount v ∧
        (descPace v = false → t.dmaState d c = 1 ∧
          (t.dm d c).burst = some (0, min (descCount v) (descBurst v), 0, 0)) ∧
        (descPace v = true → t.dmaState d c = 2 ∧ (t.dm d c).burst = none))) ∧
      (a.resp = some .ok → descBad v = true → a.st.dmaState d c ≠ 5 → (a.st.dm d c).fly = [] →
        After (.descFetchDone d c envs) s (fun t => t.dmaState d c = 5 ∧ (t.dm d c).desc = none ∧
          (t.rd (R.DMA_ERR d)).getLsbD c = true ∧ bitsOf (t.rd (R.DMA_ERRLOG_INFO d)).toNat 5 3 = 3 ∧
          t.rdPair (R.DMA_ERRLOG_DLO d) (R.DMA_ERRLOG_DHI d) = (s.dm d c).descAt % 2 ^ 48))) ∧
    (s.haltFrozen d F.DBG_FREEZE_DMA = false → s.dmaFlying d < 256 → ∀ wr, s.dmaPick d = some c →
      (∀ b, s.nextRead d c = some b → s.nextWrite d c = none → After (.beatIssue d wr) s (fun t =>
        t = { s with dma := t.dma } ∧ (t.dma[d]).cur = c ∧ (∀ k, k ≠ c → t.dm d k = s.dm d k) ∧
        let fl := (s.dm d c).fly ++ [b]
        let bu := (s.dm d c).burst.map (fun x => (x.1, x.2.1, x.2.2.1 + b.len, x.2.2.2))
        t.dm d c = { s.dm d c with fly := fl, burst := bu })) ∧
      (∀ b, s.nextRead d c = none → s.nextWrite d c = some b → (s.dm d c).stop = false → b.len ≤ s.dmaCount d c →
        After (.beatIssue d wr) s (fun t => t = { s with regs := t.regs, dma := t.dma, mon := t.mon } ∧
          (t.dm d c).fly = (s.dm d c).fly ++ [b] ∧ (t.dm d c).stage = (s.dm d c).stage.drop b.len ∧
          (t.rd (R.DMA_CH_COUNT d c)).toNat = s.dmaCount d c - b.len ∧ (∀ k, k ≠ c → t.dm d k = s.dm d k) ∧
          (∀ v, (s.dm d c).desc = some v → s.dmaCount d c = b.len →
            (descLast v = true → t.dmaState d c = 4 ∧ (t.dm d c).desc = none) ∧
            (descLast v = false → t.dmaState d c = 1 ∧ (t.dm d c).fetching = true ∧ (t.dm d c).descAt = descNext v) ∧
            (descIrq v = true → (t.rd (R.DMA_DONE d)).getLsbD c = true))))) ∧
    (∀ b, (s.dm d c).fly.find? (fun b => !b.write) = some b → b.live = true →
      let a := s.beatAccess b (readAcc src b.addr b.len false) envs
      (b.gone = true → a.resp = some .errAbsent ∧ a.st = s) ∧
      (b.gone = false → b.map = s.regionMap → a = s.access (readAcc src b.addr b.len false) envs) ∧
      (a.st.dmaState d c = 1 → (a.st.dm d c).err = none → (a.st.dm d c).stop = false →
      (a.resp = some .ok → After (.readResponse d c envs) s (fun t => t = { a.st with dma := t.dma } ∧
        (∀ k, k ≠ c → t.dm d k = a.st.dm d k) ∧
        let fl := (a.st.dm d c).fly.erase b; let stg := (a.st.dm d c).stage ++ a.data
        t.dm d c = { a.st.dm d c with fly := fl, stage := stg })) ∧
      (∀ r, a.resp = some r → r ≠ .ok → After (.readResponse d c envs) s (fun t => t.dmaState d c = 5 ∧
        (t.dm d c).stage = [] ∧ (t.dm d c).desc = none ∧ ∀ x ∈ (t.dm d c).fly, x.live = false)))) ∧
    (∀ b, (s.dm d c).fly.find? (fun b => b.write) = some b → b.live = true →
      let a := s.beatAccess b (writeAcc src b.addr b.data false) envs
      a.st.dmaState d c = 1 → (a.st.dm d c).err = none → (a.st.dm d c).stop = false →
      (a.resp = some .ok → After (.writeResponse d c envs) s (fun t => t = { a.st with dma := t.dma } ∧
        (∀ k, k ≠ c → t.dm d k = a.st.dm d k) ∧
        let fl := (a.st.dm d c).fly.erase b; t.dm d c = { a.st.dm d c with fly := fl })) ∧
      (∀ r, a.resp = some r → r ≠ .ok → After (.writeResponse d c envs) s (fun t => t.dmaState d c = 5 ∧
        (t.dm d c).stage = [] ∧ (t.dm d c).desc = none ∧ ∀ x ∈ (t.dm d c).fly, x.live = false)))

/-- The bus (12 R446, R447; 09 R343; 20 R617 to R629): a read or a write answers what its access gives, an access that
crosses a 4 KB boundary or names nothing is ERR_DECODE and changes nothing, BAR offsets map to the address space, a posted
write has no completion; a transaction that times out is counted, recorded and answered ERR_TIMEOUT, and its late
response is dropped; a transaction to another device is refused here or leaves and brings its answer back. -/
def Obligations.BusAccessesAndTimeouts : Prop :=
  ∀ (s : State) (src : BitVec 10) (addr : BitVec 48) (size : Nat) (data : List Nat) (dbg : Bool) (envs : List G6Env) (d : Fin 6),
    After (.latchRead src addr size dbg envs) s (fun t =>
      let a := s.access (readAcc src.toNat addr.toNat size dbg) envs
      t = { a.st with reply := ⟨a.resp, a.data⟩ } ∧
      (4096 < addr.toNat % 4096 + size → t = { s with reply := ⟨some .errDecode, []⟩ })) ∧
    After (.registerWrite src addr data dbg envs) s (fun t =>
      let a := s.access (writeAcc src.toNat addr.toNat data dbg) envs
      t = { a.st with reply := ⟨a.resp, a.data⟩ } ∧
      (placeOf addr.toNat = .none_ → t.reply = ⟨some .errDecode, []⟩ ∧ t = { s with reply := t.reply, mon := t.mon }) ∧
      (4096 < addr.toNat % 4096 + data.length → t = { s with reply := ⟨some .errDecode, []⟩ })) ∧
    (∀ off write, off < 0x600000000 →
      let a := s.access (if write then writeAcc 0x60 (0x100000000000 + off) (data.take size) false
        else readAcc 0x60 (0x100000000000 + off) size false) envs
      ∀ r, a.resp = some r → After (.pcieInbound 0 off write size data envs) s (fun t =>
        (write = false → t = { a.st with reply := ⟨some r, a.data⟩ }) ∧
        (write = true → t = { a.st with reply := ⟨none, []⟩, pcie := t.pcie } ∧
          t.pcie.aerUr = (a.st.pcie.aerUr || r == .errDecode) ∧
          t.pcie.aerCa = (a.st.pcie.aerCa || (r != .ok && r != .errDecode))))) ∧
    (∀ off, 0x600000000 ≤ off → off < 0x700000000 → After (.pcieInbound 0 off false size data envs) s (fun t =>
      t = { s with reply := ⟨some .errDecode, []⟩ })) ∧
    After (.transactionTimeout d src addr) s (fun t => t.reply = ⟨some .errTimeout, []⟩ ∧
      t.txns = s.txns ++ [⟨d.val, src.toNat, addr.toNat⟩] ∧
      (∀ u, s.issuedAt d src.toNat addr.toNat = some u → t.now = max s.now (u + s.timeoutLen d)) ∧
      (∀ x ∈ (t.bridgeAt d).sent, x ∈ (s.bridgeAt d).sent ∧ (x.acc.src ≠ src.toNat ∨ x.acc.addr ≠ addr.toNat)) ∧
      t.fld (R.PROM_TMO_CNT d) F.PROM_TMO_CNT_COUNT =
        min (s.fld (R.PROM_TMO_CNT d) F.PROM_TMO_CNT_COUNT + 1) (2 ^ F.PROM_TMO_CNT_COUNT.w - 1) ∧
      t.flag (R.PROM_CAUSE d) F.PROM_CAUSE_TMO = true ∧ t.rd (R.PROM_TSRC d) = BitVec.ofNat 32 src.toNat ∧
      t.rdPair (R.PROM_TADDR_LO d) (R.PROM_TADDR_HI d) = addr.toNat ∧ t.lines = s.lines ∧ t.grp = s.grp) ∧
    (⟨d.val, src.toNat, addr.toNat⟩ ∈ s.txns → After (.lateResponse d src addr) s (fun t =>
      t = { s with regs := t.regs, txns := s.txns.erase ⟨d.val, src.toNat, addr.toNat⟩ } ∧
      Writes [(R.PROM_CAUSE d, [(F.PROM_CAUSE_LATE, 1)])] s t)) ∧
    (∀ (x : Access) dev off resp, placeOf x.addr = .remote dev off →
      (∀ r, s.remoteRefuse x.src dev off = some r → After (.remoteTransaction (.send x resp data)) s (fun t =>
        t = { s with reply := ⟨some r, []⟩ })) ∧
      (s.remoteRefuse x.src dev off = none → x ∈ s.remoteOut → After (.remoteTransaction (.send x resp data)) s (fun t =>
        let o := s.remoteDone ++ [(x, resp, data)]; let out := Output.remote dev off { x with debug := false } :: s.out
        t = { s with
          out := out, remoteOut := s.remoteOut.erase x, remoteDone := o, tsy := { s.tsy with port := t.tsy.port }
          freeCtr := t.freeCtr } ∧
        ∃ q, s.pathTo dev = some q ∧ (∀ k, k ≠ q → t.tport k = s.tport k) ∧
          (t.tport q).flitq.length = (s.tport q).flitq.length + 1 + (if x.write then (x.size + 63) / 64 else 0)))) ∧
    (∀ (x : Access) off loc, remoteLocal off = some loc → After (.remoteTransaction (.recv off x envs)) s (fun t =>
      let a := s.access { x with src := 0x61, addr := loc, debug := false } envs
      t = { a.st with reply := ⟨a.resp, a.data⟩ }))

/-! ### Control cores and debug (15_control_cores_debug.md) -/

/-- A core executes the instruction it has fetched (15 R494, R496, R498, R500, R511): an integer operation writes its
destination (never register 0) and goes on; a branch goes to its target or on; a cached load reads the L2's line; an ecall
traps to mtvec with its cause and address; a FENCE waits for posted writes, or completes; a cached AMO gives the old value
and stores the new one; an EBREAK halts where DBG_CTRL has it so, and traps otherwise. -/
def Obligations.CoresExecuteInstructions : Prop :=
  ∀ (s : State) (m : Fin 12) (envs : List G6Env) (bits : Nat), CoreAt s m envs bits →
    let c := s.cr m
    let next := c.pc + BitVec.ofNat 64 (rvLen bits)
    let trapped (code tval : Nat) (t : State) : Prop := OnlyCore m s t ∧ (t.cr m).machine = true ∧ (t.cr m).x = c.x ∧
      (t.cr m).pc = BitVec.ofNat 64 ((c.csrRaw 0x305).toNat / 4 * 4) ∧ (t.cr m).csrRaw 0x342 = BitVec.ofNat 64 code ∧
      (t.cr m).csrRaw 0x341 = BitVec.ofNat 64 (c.pc.toNat / 2 * 2) ∧ (t.cr m).csrRaw 0x343 = BitVec.ofNat 64 tval
    (∀ op word rd rs1 rs2, rvDecode bits = .aluReg op word rd rs1 rs2 → rd < 32 →
      After (.coreInstruction m [] envs) s (fun t => OnlyCore m s t ∧ (t.cr m).pc = next ∧
        (rd ≠ 0 → (t.cr m).reg rd = op.apply word (c.reg rs1) (c.reg rs2)) ∧
        (∀ i, i ≠ rd → (t.cr m).reg i = c.reg i) ∧ (t.cr m).machine = c.machine ∧ (t.cr m).resv = c.resv)) ∧
    (∀ cond rs1 rs2 off, rvDecode bits = .branch cond rs1 rs2 off →
      After (.coreInstruction m [] envs) s (fun t => OnlyCore m s t ∧ (t.cr m).x = c.x ∧
        (t.cr m).pc = if branchTaken cond (c.reg rs1) (c.reg rs2) then c.pc + off else next)) ∧
    (∀ w rd rs1 off x, rvDecode bits = .load w rd rs1 off → rd ≠ 0 → rd < 32 →
      let a := (c.reg rs1 + off).toNat
      s.dataCheck m false a (2 ^ (w % 4)) = none → s.cached (m.val / 2) a = true → s.l2Line (coreDie m) (a / 64) = some x →
      After (.coreInstruction m [] envs) s (fun t => OnlyCore m s t ∧ (t.cr m).pc = next ∧
        (t.cr m).reg rd = loadValue w (bitsOf x.1.toNat (8 * (a % 64)) (8 * 2 ^ (w % 4))))) ∧
    (rvDecode bits = .ecall → After (.coreInstruction m [] envs) s (trapped (if c.machine then 11 else 8) 0)) ∧
    (∀ pred, rvDecode bits = .fence pred →
      ((bitOf pred 0 = false ∨ c.posted = [] ∧ c.flight = []) → After (.coreFence m [] envs) s (fun t => OnlyCore m s t ∧
        (t.cr m).pc = next ∧ (t.cr m).x = c.x)) ∧
      (let u := s.pollPosted m
       bitOf pred 0 = true → ((u.cr m).posted ≠ [] ∨ (u.cr m).flight ≠ []) → After (.coreFence m [] envs) s (fun t =>
        t = { u with core := t.core } ∧ t.cr m = { u.cr m with waiting := some bits } ∧ ∀ k, k ≠ m → t.cr k = u.cr k))) ∧
    (∀ op word rd rs1 rs2 x, rvDecode bits = .amo op word rd rs1 rs2 → rd ≠ 0 → rd < 32 →
      let a := (c.reg rs1).toNat
      let size := if word then 4 else 8
      let ext (v : Nat) : BitVec 64 := if word then sext 32 v else BitVec.ofNat 64 v
      s.amoCheck m false a size = none → s.cached (m.val / 2) a = true → s.l2Line (coreDie m) (a / 64) = some x →
      let old := bitsOf x.1.toNat (8 * (a % 64)) (8 * size)
      After (.coreAmo m [] envs) s (fun t => (t.cr m).pc = next ∧ (t.cr m).reg rd = ext old ∧ t.lines = s.lines ∧
        t.regs = s.regs ∧ (∀ n, n ≠ a / 64 → t.l2Line (coreDie m) n = s.l2Line (coreDie m) n) ∧
        let v := (op.run (ext old) (ext (c.reg rs2).toNat)).toNat % 2 ^ (8 * size)
        t.l2Line (coreDie m) (a / 64) = some (mergeBytes x.1 (BitVec.ofNat 512 (v * 2 ^ (8 * (a % 64))))
          ((2 ^ size - 1) * 2 ^ (a % 64)), true))) ∧
    (rvDecode bits = .ebreak →
      (s.ebreakHalts m = true → s.flag (R.DBG_FREEZE (m.val / 2)) F.DBG_FREEZE_PEER = false →
        After (.ebreak m [] envs) s (fun t => t.ccState m = 2 ∧ t.fld (R.DBG_STAT m) F.DBG_STAT_CAUSE = 3 ∧
          t.rdPair (R.DBG_DPC_LO m) (R.DBG_DPC_HI m) = next.toNat % 2 ^ 48 ∧ (t.cr m).x = c.x ∧
          SameRegs ([R.CC_STAT m, R.DBG_STAT m, R.DBG_DPC_LO m, R.DBG_DPC_HI m] ++
            (List.range 4).map (fun c => R.MDSP_CYC (4 * (m.val / 2) + c))) s t ∧ ∀ k, k ≠ m → t.cr k = s.cr k)) ∧
      (s.ebreakHalts m = false → After (.ebreak m [] envs) s (trapped 3 c.pc.toNat)))

/-- Cores start, halt, resume and are watched (15 R502 to R505, R511 to R516): RUN starts a core in RESET at CC_BOOT, RST
resets it; HALTREQ halts a running core with its pc in DBG_DPC and CAUSE 1, RESUME goes on there; DBG_ACMD moves a
register of a halted core and sets AERR of any other; the right key reloads the watchdog, it counts down while it runs,
and at 0 it resets its core and sets WDTRST and CC_CAUSE.WDT. -/
def Obligations.CoresStartHaltResumeAndAreWatched : Prop :=
  ∀ (s : State) (m : Fin 12),
    let boot := BitVec.ofNat 64 (s.rdPair (R.CC_BOOT_LO m) (R.CC_BOOT_HI m))
    let waited : List Nat := (List.range 4).map (fun c => R.MDSP_CYC (4 * (m.val / 2) + c))
    (s.ccState m = 0 → s.flag (R.DBG_CTRL m) F.DBG_CTRL_HOR = false → After (.coreRun m) s (fun t =>
      t = { s with regs := t.regs, core := t.core } ∧ SameRegs [R.CC_CTRL m, R.CC_STAT m] s t ∧ t.ccState m = 1 ∧
      t.flag (R.CC_CTRL m) F.CC_CTRL_RUN = true ∧ t.cr m = { s.cr m with pc := boot } ∧ ∀ k, k ≠ m → t.cr k = s.cr k)) ∧
    (s.flag (R.DBG_CTRL m) F.DBG_CTRL_HOR = false → After (.coreRst m) s (fun t =>
      t.ccState m = (if s.flag (R.CC_CTRL m) F.CC_CTRL_RUN then 1 else 0) ∧ (t.cr m).pc = boot ∧ (t.cr m).machine = true ∧
      (t.cr m).resv = none ∧ (t.cr m).l1i = [] ∧ (t.cr m).l1d = [] ∧ (t.cr m).x = (s.cr m).x ∧
      t.flag (R.CC_STAT m) F.CC_STAT_WDTRST = false ∧ (∀ k, k ≠ m → t.cr k = s.cr k) ∧
      SameRegs ([R.CC_CTRL m, R.CC_STAT m, R.DBG_STAT m] ++ waited) s t)) ∧
    (s.ccLive m = true → (s.cr m).waiting = none → s.flag (R.DBG_FREEZE (m.val / 2)) F.DBG_FREEZE_PEER = false →
      After (.haltreq m) s (fun t => t = { s with regs := t.regs, core := t.core, mdsp := t.mdsp, mon := t.mon } ∧ t.ccState m = 2 ∧
        SameRegs ([R.CC_STAT m, R.DBG_STAT m, R.DBG_DPC_LO m, R.DBG_DPC_HI m] ++ waited) s t ∧
        t.rdPair (R.DBG_DPC_LO m) (R.DBG_DPC_HI m) = (s.cr m).pc.toNat % 2 ^ 48 ∧
        t.fld (R.DBG_STAT m) F.DBG_STAT_CAUSE = 1 ∧ t.flag (R.DBG_STAT m) F.DBG_STAT_HALTED = true ∧
        t.cr m = { s.cr m with resv := none, stepping := false, haltPend := none, haltAt := s.now } ∧ ∀ k, k ≠ m → t.cr k = s.cr k)) ∧
    (s.ccLive m = false → exec (.haltreq m) s = .next s) ∧
    (s.ccState m = 2 → (s.cr (peer m)).byPeer = false → (s.cr (peer m)).haltPend = none →
      s.fld (R.DBG_FREEZE (m.val / 2)) F.DBG_FREEZE_WDT = 0 → After (.dbgResume m) s (fun t =>
        t = { s with regs := t.regs, core := t.core, mdsp := t.mdsp, mon := t.mon } ∧
        SameRegs ([R.CC_STAT m, R.DBG_STAT m] ++ waited) s t ∧ t.ccState m = 1 ∧
        t.flag (R.DBG_STAT m) F.DBG_STAT_HALTED = false ∧ (∀ k, k ≠ m → t.cr k = s.cr k) ∧
        let pc := BitVec.ofNat 64 (s.rdPair (R.DBG_DPC_LO m) (R.DBG_DPC_HI m))
        let st := s.flag (R.DBG_CTRL m) F.DBG_CTRL_STEP
        t.cr m = { s.cr m with pc := pc, stepping := st, byPeer := false })) ∧
    (s.ccState m ≠ 2 → exec (.dbgResume m) s = .next s) ∧
    (∀ v : Word, (s.ccState m ≠ 2 → After (.dbgAcmd m v) s (OnlyWrites [(R.DBG_STAT m, [(F.DBG_STAT_AERR, 1)])] s)) ∧
      (∀ i, s.ccState m = 2 → F.DBG_ACMD_REGNO.get v = 0x1000 + i → 0 < i → i < 32 →
        (F.DBG_ACMD_WRITE.get v = 1 → After (.dbgAcmd m v) s (fun t => t = { s with core := t.core } ∧
          (t.cr m).reg i = s.rd (R.DBG_DATA1 m) ++ s.rd (R.DBG_DATA0 m) ∧ (∀ j, j ≠ i → (t.cr m).reg j = (s.cr m).reg j) ∧
          ∀ k, k ≠ m → t.cr k = s.cr k)) ∧
        (F.DBG_ACMD_WRITE.get v = 0 → After (.dbgAcmd m v) s (fun t => t = { s with regs := t.regs } ∧
          SameRegs [R.DBG_DATA0 m, R.DBG_DATA1 m] s t ∧ t.rd (R.DBG_DATA1 m) ++ t.rd (R.DBG_DATA0 m) = (s.cr m).reg i)))) ∧
    After (.wdtKick m 0xA5) s (fun t => t = { s with regs := t.regs } ∧ SameRegs [R.CC_WDT_CNT m] s t ∧
      (t.rd (R.CC_WDT_CNT m)).toNat = max 1 (s.rd (R.CC_WDT_RELOAD m)).toNat) ∧
    (∀ key, key ≠ 0xA5 → After (.wdtKick m key) s (OnlyWrites [(R.CC_CAUSE (m.val / 2), [(F.CC_CAUSE_CMDERR, 1)])] s)) ∧
    (s.wdtRuns m = true → s.rd (R.CC_WDT_CNT m) ≠ 0 → After (.wdtTick m) s (fun t => t = { s with regs := t.regs } ∧
      SameRegs [R.CC_WDT_CNT m] s t ∧ (t.rd (R.CC_WDT_CNT m)).toNat + 1 = (s.rd (R.CC_WDT_CNT m)).toNat)) ∧
    (s.wdtRuns m = false → exec (.wdtTick m) s = .next s) ∧
    (s.wdtRuns m = true → s.rd (R.CC_WDT_CNT m) = 0 → s.flag (R.DBG_CTRL m) F.DBG_CTRL_HOR = false →
      After (.wdtExpiry m) s (fun t => t.ccState m = (if s.flag (R.CC_CTRL m) F.CC_CTRL_RUN then 1 else 0) ∧
        (t.cr m).pc = boot ∧ t.flag (R.CC_STAT m) F.CC_STAT_WDTRST = true ∧
        bitOf (t.fld (R.CC_CAUSE (m.val / 2)) F.CC_CAUSE_WDT) (m.val % 2) = true ∧
        (t.rd (R.CC_WDT_CNT m)).toNat = max 1 (s.rd (R.CC_WDT_RELOAD m)).toNat ∧ ∀ k, k ≠ m → t.cr k = s.cr k))

/-- Reports of a core, L2 operations, the virtual terminal and the test access port (15 R497, R498, R501, R506, R507,
R517, R518; 16 R540): the timer wakes a core that waits for it; a posted write's error is recorded; a clean writes back
the dirty lines of its range, an invalidate drops them; DTX and DRX hold one word each way; an instruction of the
TAP that is not accepted acts as BYPASS; DBGACC reads and writes through the bus, a write only in ENABLED. -/
def Obligations.CoreReportsTerminalAndTap : Prop :=
  ∀ (s : State) (m : Fin 12) (d : Fin 6) (v : Word),
    (s.ccState m = 3 → bitOf ((s.cr m).csrRaw 0x304).toNat 7 = true → After (.timerInterrupt m) s (fun t =>
      t = { s with now := t.now, regs := t.regs } ∧ Writes [(R.CC_STAT m, [(F.CC_STAT_STATE, 1)])] s t ∧
      t.now = max s.now (s.rdPair (R.CC_MTIMECMP_LO m) (R.CC_MTIMECMP_HI m) * ns))) ∧
    (∀ u a r rest, u = s.pollPosted m → (u.cr m).posted = (a, r) :: rest → a < 2 ^ 48 → After (.postedWriteError m) s (fun t =>
      t = { u with regs := t.regs, core := t.core } ∧ SameRegs [R.CC_BERR_LO m, R.CC_BERR_HI m, R.CC_CAUSE (m.val / 2)] u t ∧
      t.cr m = { u.cr m with posted := rest } ∧ t.rdPair (R.CC_BERR_LO m) (R.CC_BERR_HI m) = a + 2 ^ 48 * respCode r ∧
      bitOf (t.fld (R.CC_CAUSE (m.val / 2)) F.CC_CAUSE_BERR) (m.val % 2) = true)) ∧
    (s.flag (R.CC_L2OP_CTRL d) F.CC_L2OP_CTRL_BUSY = true → ∀ op, After (.l2opGo d op) s
      (OnlyWrites [(R.CC_CAUSE d, [(F.CC_CAUSE_CMDERR, 1)])] s)) ∧
    (s.flag (R.CC_L2OP_CTRL d) F.CC_L2OP_CTRL_BUSY = false → After (.l2opGo d 1) s (fun t =>
      t = { s with regs := t.regs, l2 := t.l2 } ∧ SameRegs [R.CC_L2OP_CTRL d] s t ∧
      t.flag (R.CC_L2OP_CTRL d) F.CC_L2OP_CTRL_BUSY = true ∧
      t.l2[d].op = some (((s.l2[d].lines.filter (fun e => s.l2Covered d e.1)).filter (fun e => e.2.2)).map (fun e => (e.1, e.2.1))) ∧
      t.l2[d].lines = s.l2[d].lines.map (fun e => if s.l2Covered d e.1 then (e.1, e.2.1, false) else e))) ∧
    (∀ n x envs, s.l2[d].op = some [(n, x)] → After (.l2done d envs) s (fun t =>
      let r := s.g6Access (d.val * 128 + 0x10) (n * 64) (.full x) (nth envs 0 G6Env.none_)
      t = { r.st with regs := t.regs, l2 := t.l2 } ∧ t.l2[d] = { s.l2[d] with op := none } ∧
      Writes [(R.CC_L2OP_CTRL d, [(F.CC_L2OP_CTRL_BUSY, 0)]), (R.CC_CAUSE d, [(F.CC_CAUSE_L2DONE, 1)])] r.st t)) ∧
    ((s.flag (R.DBG_VTSTAT m) F.DBG_VTSTAT_TXFULL = true → After (.dtxWrite m v) s
        (OnlyWrites [(R.DBG_VTSTAT m, [(F.DBG_VTSTAT_TXOVF, 1)])] s)) ∧
      (s.flag (R.DBG_VTSTAT m) F.DBG_VTSTAT_TXFULL = false → After (.dtxWrite m v) s (fun t => t = { s with regs := t.regs } ∧
        SameRegs [R.DBG_DTX m, R.DBG_VTSTAT m] s t ∧ t.rd (R.DBG_DTX m) = v ∧
        t.rd (R.DBG_VTSTAT m) = F.DBG_VTSTAT_TXFULL.set (s.rd (R.DBG_VTSTAT m)) 1)) ∧
      After (.txack m) s (OnlyWrites [(R.DBG_VTSTAT m, [(F.DBG_VTSTAT_TXFULL, 0)])] s) ∧
      (s.flag (R.DBG_VTSTAT m) F.DBG_VTSTAT_RXFULL = true → After (.drxWrite m v) s
        (OnlyWrites [(R.DBG_VTSTAT m, [(F.DBG_VTSTAT_RXOVF, 1)])] s)) ∧
      (s.flag (R.DBG_VTSTAT m) F.DBG_VTSTAT_RXFULL = false → After (.drxWrite m v) s (fun t => t = { s with regs := t.regs } ∧
        SameRegs [R.DBG_DRX m, R.DBG_VTSTAT m, R.CC_CAUSE (m.val / 2)] s t ∧ t.rd (R.DBG_DRX m) = v ∧
        t.rd (R.DBG_VTSTAT m) = F.DBG_VTSTAT_RXFULL.set (s.rd (R.DBG_VTSTAT m)) 1 ∧
        bitOf (t.fld (R.CC_CAUSE (m.val / 2)) F.CC_CAUSE_VTRX) (m.val % 2) = true)) ∧
      ∀ dbg, After (.drxRead m dbg) s (fun t => t = { s with regs := t.regs, reply := t.reply } ∧
        t.reply = ⟨some .ok, leBytes 4 (s.rd (R.DBG_DRX m)).toNat⟩ ∧ (dbg = true → t.regs = s.regs) ∧
        (dbg = false → t.rd (R.DBG_DRX m) = 0 ∧ SameRegs [R.DBG_DRX m, R.DBG_VTSTAT m] s t ∧
          t.rd (R.DBG_VTSTAT m) = F.DBG_VTSTAT_RXFULL.set (s.rd (R.DBG_VTSTAT m)) 0))) ∧
    (let byp := { s with tap := { s.tap with ir := irBypass, dr := 0 } }
     After .bypass s (fun t => t = byp) ∧
     After .idcode s (fun t => t = { s with tap := { s.tap with ir := irIdcode, dr := s.idcode } }) ∧
     (∀ n, (s.tapAccepts irExtest = true → After (.extest n) s (fun t => t = { s with tap := t.tap, freeCtr := s.freeCtr + 1 } ∧
         t.tap.ir = irExtest ∧ t.tap.bsr = n)) ∧
       (s.tapAccepts irExtest = false → After (.extest n) s (fun t => t = byp)) ∧
       (s.tapAccepts irSample = true → After (.samplePreload n) s (fun t =>
         t = { s with tap := t.tap, freeCtr := s.freeCtr + 1 } ∧ t.tap.ir = irSample ∧ t.tap.bsr = n))) ∧
     (s.tapAccepts irDbgauth = true → After .dbgauth s (fun t => t = { s with tap := t.tap } ∧ t.tap.ir = irDbgauth ∧
       t.tap.dr.toNat = (s.keeper.outq.headD 0).toNat + 2 ^ 32 * b2n (!s.keeper.outq.isEmpty) +
         2 ^ 33 * b2n s.keeper.msg.isSome)) ∧
     (s.tapAccepts irDbgacc = true → s.tap.op = none →
       After (.dbgacc false) s (fun t => t = { s with tap := t.tap } ∧ t.tap.drop = false ∧
         t.tap.dr.toNat = s.tap.data.toNat + 2 ^ 32 * respCode s.tap.resp + 2 ^ 36 * b2n s.tap.drop) ∧
       (∀ (addr : BitVec 48) inc envs, let a := if inc then s.tap.addr + 4 else addr
         let u := { s with tap := { s.tap with ir := irDbgacc, addr := a } }
         (∀ r, r = u.access (readAcc 0x62 a.toNat 4 true) envs → r.resp = some .ok →
           After (.dbgaccRead addr inc false envs) s (fun t => t = { r.st with tap := t.tap } ∧ t.tap.addr = r.st.tap.addr ∧
             t.tap.resp = .ok ∧ t.tap.data = BitVec.ofNat 32 (leOf r.data) ∧ t.tap.op = none)) ∧
         (∀ r e, s.dbgState = 2 → r = u.access (writeAcc 0x62 a.toNat (leBytes 4 v.toNat) true) envs → r.resp = some e →
           After (.dbgaccWrite addr v inc false envs) s (fun t => t.tap.resp = e ∧ t.tap.op = none ∧ t.lines = r.st.lines ∧
             t.regs = r.st.regs)) ∧
         (s.dbgState ≠ 2 → After (.dbgaccWrite addr v inc false envs) s (fun t =>
           t = { s with tap := t.tap, freeCtr := s.freeCtr + 1 } ∧ t.tap.resp = .errDenied ∧ t.tap.addr = a)))) ∧
     (s.tapAccepts irDbgacc = true → ∀ addr inc envs, s.tap.op = none → After (.dbgaccRead addr inc true envs) s (fun t =>
       t = { s with tap := { s.tap with ir := irDbgacc, drop := true } })) ∧
     (s.tapAccepts irDbgacc = false → ∀ addr inc busy envs, ∀ c ∈ [Instr.dbgacc busy, .dbgaccRead addr inc busy envs,
       .dbgaccWrite addr v inc busy envs], After c s (fun t => t = byp)))

/-! ### The keeper (16_security_lifecycle.md) -/

/-- Keeper commands (16 R519, R520, R522 to R531, R547): a source that the keeper does not accept is refused, a busy mailbox
raises CMDERR, and otherwise BUSY is set until the command ends. Its end writes RESULT and LEN, the output words and 0 in
every other DATA word, and sets DONE. FUSE_READ gives a field, never DEVKEY; FUSE_PROG keeps locks and blown bits;
RB_COMMIT raises the counter to LOADED; LC_ADVANCE takes only the transitions of R530, to a device reset; ZEROISE clears
the keys. -/
def Obligations.KeeperCommandsRunInTheMailbox : Prop :=
  ∀ (s : State) (src : BitVec 10) (arg : BitVec 8) (vpp good : Bool) (bist : List Nat),
    (∀ e ∈ [(Instr.fuseRead src arg, 1), (.fuseProg src arg, 2), (.lcAdvance src arg, 3), (.authChal src arg, 4),
        (.rbCommit src arg, 5), (.zeroise src arg, 6), (.random src arg, 7)],
      (s.keeperAllows src.toNat true = false → After e.1 s (fun t => t = { s with reply := ⟨some .errDenied, []⟩ })) ∧
      (s.keeperAllows src.toNat true = true → s.flag R.KPR_MBOX_STAT F.KPR_MBOX_STAT_BUSY = true → After e.1 s (fun t =>
        t = { s with regs := t.regs, reply := ⟨some .ok, []⟩ } ∧ Writes [(R.KPR_CAUSE, [(F.KPR_CAUSE_CMDERR, 1)])] s t)) ∧
      (s.keeperAllows src.toNat true = true → s.flag R.KPR_MBOX_STAT F.KPR_MBOX_STAT_BUSY = false → After e.1 s (fun t =>
        let k := { s.keeper with cmd := some (e.2, arg.toNat) }
        t = { s with regs := t.regs, reply := ⟨some .ok, []⟩, keeper := k } ∧
        Writes [(R.KPR_MBOX_STAT, [(F.KPR_MBOX_STAT_BUSY, 1)])] s t))) ∧
    (let c := Instr.keeperCmdDone vpp good bist
     let f := s.keeper.fuses
     let shown : List Nat := [R.KPR_RBCNT, R.KPR_POLICY, R.KPR_FLOCK, R.KPR_SERIAL_LO, R.KPR_SERIAL_HI]
     let result (code : Nat) (out : List Word) (more : List Nat) (u t : State) : Prop :=
       let k := { u.keeper with cmd := none }
       t = { u with regs := t.regs, keeper := k } ∧
       t.rd R.KPR_MBOX_STAT = BitVec.ofNat 32 (256 * code + 65536 * out.length) ∧
       (∀ i, i < 64 → t.rd (R.KPR_MBOX_DATA i) = nth out i 0) ∧
       t.rd R.KPR_CAUSE = F.KPR_CAUSE_DONE.set (s.rd R.KPR_CAUSE) 1 ∧
       SameRegs (R.KPR_MBOX_STAT :: R.KPR_CAUSE :: more ++ (List.range 64).map R.KPR_MBOX_DATA) u t
     let fused (g : Fuses) : State := { s with keeper := { s.keeper with fuses := g } }
     (s.keeper.cmd = none → exec c s = .next s) ∧
     (∀ code a, s.keeper.cmd = some (code, a) →
       ((code = 0 ∨ 7 < code) → After c s (result 1 [] [] s)) ∧
       (code = 1 → (a = 0 → After c s (result 0 [BitVec.ofNat 32 s.life] [] s)) ∧ (a = 2 → After c s (result 2 [] [] s)) ∧
         (a = 3 → After c s (result 0 (keyWords 12 f.bshash.toNat) [] s)) ∧
         (a = 7 → After c s (result 0 [f.serial.setWidth 32, f.serial.extractLsb' 32 32] [] s)) ∧
         (8 < a → After c s (result 1 [] [] s))) ∧
       (code = 2 → a = 3 →
         let v := keyVal (s.mbox 12)
         (1 < s.life → After c s (result 2 [] [] s)) ∧
         (s.life ≤ 1 → s.fuseLocked 1 = true → After c s (result 7 [] [] s)) ∧
         (s.life ≤ 1 → s.fuseLocked 1 = false → (vpp = false ∨ f.bshash.toNat ||| v ≠ v) → After c s (result 9 [] [] s)) ∧
         (s.life ≤ 1 → s.fuseLocked 1 = false → vpp = true → f.bshash.toNat ||| v = v → good = true → After c s (fun t =>
           t.fuseLocked 1 = true ∧ t.keeper.fuses.bshash.toNat = v ∧
           ∃ l, result 0 [] shown (fused { f with bshash := BitVec.ofNat 384 v, lock := l }) t))) ∧
       (code = 2 → a = 6 →
         let v := (s.rd (R.KPR_MBOX_DATA 0)).toNat
         (64 ≤ v → After c s (result 1 [] [] s)) ∧
         (v < 64 → 2 < s.life → After c s (result 2 [] [] s)) ∧
         (v < 64 → s.life ≤ 2 → vpp = true → good = true → After c s (fun t =>
           (∀ b, b < 32 → t.policy b = (bitOf (pairBits 32 f.policy.toNat) b || bitOf v b)) ∧
           ∃ p, result 0 [] shown (fused { f with policy := p }) t))) ∧
       (code = 3 →
         let signed := (s.life, a) ∈ [(2, 3), (2, 4)]
         let plain := (s.life, a) ∈ [(0, 4), (1, 4), (3, 4)] ∨ (s.life, a) = (0, 1) ∧ s.fuseLocked 0 = true ∨
           (s.life, a) = (1, 2) ∧ s.fuseLocked 1 = true ∧ (s.fuseLocked 3 = true ∨ s.policy 3 = true)
         ((s.life, a) ∉ [(0, 1), (0, 4), (1, 2), (1, 4), (2, 3), (2, 4), (3, 4)] → After c s (result 2 [] [] s)) ∧
         ((s.life, a) ∈ [(0, 1), (1, 2)] → ¬ plain → After c s (result 8 [] [] s)) ∧
         (plain → vpp = false → After c s (result 9 [] [] s)) ∧
         (plain → vpp = true → good = true → After c s (fun t =>
           t = (fused { f with lc := f.lc ||| BitVec.ofNat 16 (15 * 16 ^ (a - 1)) }).deviceReset 4 bist)) ∧
         (signed → s.lockedOut = true → After c s (result 6 [] [] s)) ∧
         (signed → s.lockedOut = false → s.validNonce s.keeper.nonceBox = none → After c s (result 5 [] [] s))) ∧
       (code = 4 → a = 0 → (s.inField = false → After c s (result 2 [] [] s)) ∧
         (s.inField = true → After c s (fun t => ∃ v : BitVec 256,
           let k := { s.keeper with nonceBox := some ⟨v, s.now⟩ }
           result 0 (keyWords 8 v.toNat ++ [s.rd R.KPR_SERIAL_LO, s.rd R.KPR_SERIAL_HI]) []
             { s with keeper := k, freeCtr := s.freeCtr + 1 } t))) ∧
       (code = 5 → a = 0 →
         let loaded := s.fld R.KPR_RBCNT F.KPR_RBCNT_LOADED
         let count := rbCount f.antirb
         (s.inField = false → After c s (result 2 [] [] s)) ∧
         (s.inField = true → loaded ≤ count → After c s (result 0 [BitVec.ofNat 32 count] [] s)) ∧
         (s.inField = true → count < loaded → vpp = false → After c s (result 9 [] [] s)) ∧
         (s.inField = true → count < loaded → vpp = true → good = true → After c s (fun t =>
           t.fld R.KPR_RBCNT F.KPR_RBCNT_COUNT = min 64 loaded ∧
           ∃ b, f.antirb &&& b = f.antirb ∧
             result 0 [BitVec.ofNat 32 (min 64 loaded)] shown (fused { f with antirb := b }) t))) ∧
       (code = 6 → a = 0 → After c s (fun t => t.keeper.cmd = none ∧ t.flag R.KPR_CAUSE F.KPR_CAUSE_ZERO = true ∧
         t.flag R.KPR_CAUSE F.KPR_CAUSE_DONE = true ∧ t.rd R.KPR_MBOX_STAT = 0 ∧ (∀ v, (t.v v).keys = []) ∧
         t.keeper.thermos = none ∧ t.keeper.nonceTap = none ∧ t.keeper.nonceBox = none ∧ t.keeper.root = s.keeper.root ∧
         (∀ d : Fin 6, t.haltOn[d] = true) ∧ t.rd (R.VLT_HALT_LO 0) = s.rd (R.VLT_HALT_LO 0) ∧
         t.rd (R.VLT_HALT_HI 0) = s.rd (R.VLT_HALT_HI 0) ∧ ∀ g, t.active g = false)) ∧
       (code = 7 → a = 0 → After c s (fun t => ∃ out, out.length = 8 ∧ result 0 out [] s.used t))))

/-- Debug authorisation (16 R533 to R541): words are pushed, popped and flushed; a message is taken up once all its words
are queued, and answered with its status word. OPEN_PWD and OPEN_SIG that pass set the debug state to LEVEL, those that
fail count and start a lockout; CHAL above the ceiling issues no nonce; a nonce serves once and for 60 s; LOCK closes,
and leaving FULL resumes halted cores and disarms breakpoints; SCAN leaves no key. -/
def Obligations.DebugAuthorisationOpensAndCloses : Prop :=
  ∀ (s : State) (w : Word) (ws : List Word),
    (s.tapAuth = true →
      After (.dbgauthPush w) s (fun t => let k := { s.keeper with inq := if s.keeper.inq.length < 64 then s.keeper.inq ++ [w] else s.keeper.inq }
        t = { s with keeper := k }) ∧
      After .dbgauthPop s (fun t => let k := { s.keeper with outq := s.keeper.outq.drop 1 }; t = { s with keeper := k }) ∧
      After .dbgauthFlush s (fun t => let k := { s.keeper with inq := [] }; t = { s with keeper := k })) ∧
    (s.tapAuth = false → ∀ c ∈ [Instr.dbgauthPush w, .dbgauthPop, .dbgauthFlush], exec c s = .next s) ∧
    (∀ e ∈ [(Instr.openPwd, 1, 8), (.chal, 2, 0), (.openSig, 3, 48), (.dbgLock, 4, 0), (.authStatus, 5, 0)],
      (∀ rest, s.keeper.inq = w :: rest → w.toNat / 2 ^ 24 = e.2.1 → e.2.2 ≤ rest.length → s.keeper.msg = none →
        After e.1 s (fun t => let k := { s.keeper with msg := some (w, rest.take e.2.2), inq := rest.drop e.2.2 }
          t = { s with keeper := k })) ∧
      (∀ rest, s.keeper.inq = w :: rest → rest.length < e.2.2 → exec e.1 s = .next s) ∧
      (s.keeper.msg ≠ none → exec e.1 s = .next s)) ∧
    (s.keeper.msg = some (w, ws) → s.keeper.outq.length + 11 ≤ 16 → s.dbgState < 3 →
      let c := Instr.dbgauthMessageEnd
      let answered (code : Nat) (out : List Word) (t : State) : Prop := t.keeper.msg = none ∧ t.keeper.inq = s.keeper.inq ∧
        t.life = s.life ∧ ∃ st : Word, t.keeper.outq = s.keeper.outq ++ st :: out ∧
          st.toNat = code + 256 * t.dbgState + 4096 * t.life + 65536 * t.fails
      let unmoved (t : State) : Prop := let k := { s.keeper with msg := none, outq := t.keeper.outq }
        t = { s with keeper := k }
      let changed (l : Nat) (t : State) : Prop := t.dbgState = l ∧ t.fails = s.fails ∧
        (l ≠ s.dbgState → t.flag R.KPR_CAUSE F.KPR_CAUSE_DBGCHG = true) ∧
        (s.dbgState ≠ 2 → SameRegs [R.KPR_STAT, R.KPR_CAUSE] s t) ∧
        (s.dbgState = 2 → l ≠ 2 → ∀ m : Fin 12, (s.ccState m = 2 → t.ccState m = 1) ∧
          t.flag (R.DBG_CTRL m) F.DBG_CTRL_HOR = false ∧ t.flag (R.DBG_CTRL m) F.DBG_CTRL_EBREAKM = false ∧
          t.flag (R.DBG_CTRL m) F.DBG_CTRL_EBREAKU = false ∧
          ∀ b, b < 8 → t.rd (R.DBG_BP_CTRL m b) = s.rd (R.DBG_BP_CTRL m b) &&& 0xFFFFFFF8#32)
      let failed (t : State) : Prop := answered 4 [] t ∧ t.dbgState = s.dbgState ∧ t.fails = min 16 (s.fails + 1) ∧
        t.flag R.KPR_STAT F.KPR_STAT_LOCKOUT = true ∧ t.keeper.lockUntil = s.now + 100000000 * ns ∧
        t.flag R.KPR_CAUSE F.KPR_CAUSE_AUTHFAIL = true ∧ SameRegs [R.KPR_STAT, R.KPR_CAUSE] s t
      (w = 0x05000000#32 → After c s (fun t => answered 0 [] t ∧ unmoved t)) ∧
      (w = 0x04000000#32 → After c s (fun t => answered 0 [] t ∧ changed 0 t)) ∧
      (6 ≤ w.toNat / 2 ^ 24 → After c s (fun t => answered 1 [] t ∧ unmoved t)) ∧
      (∀ l : Nat, (l = 1 ∨ l = 2) →
        (w.toNat = 0x01000000 + l * 0x10000 →
          (s.life = 0 → After c s (fun t => answered 0 [] t ∧ changed l t)) ∧
          (2 ≤ s.life → After c s (fun t => answered 2 [] t ∧ unmoved t)) ∧
          (s.life = 1 → s.policy 5 = true → After c s (fun t => answered 2 [] t ∧ unmoved t)) ∧
          (s.life = 1 → s.policy 5 = false → s.lockedOut = true → After c s (fun t => answered 6 [] t ∧ unmoved t)) ∧
          (s.life = 1 → s.policy 5 = false → s.lockedOut = false → s.fuseLocked 2 = true →
            (Config.sha384 (keyBytes (ws.take 8)) = s.keeper.fuses.pwdhash → After c s (fun t => answered 0 [] t ∧ changed l t)) ∧
            (Config.sha384 (keyBytes (ws.take 8)) ≠ s.keeper.fuses.pwdhash → After c s failed))) ∧
        (w.toNat = 0x02000000 + l * 0x10000 →
          ((s.ceiling < l → After c s (fun t => answered 3 [] t ∧ unmoved t)) ∧
           (l ≤ s.ceiling → After c s (fun t => ∃ v : BitVec 256,
             answered 0 (keyWords 8 v.toNat ++ [s.rd R.KPR_SERIAL_LO, s.rd R.KPR_SERIAL_HI]) t ∧
             let k := { s.keeper with msg := none, outq := t.keeper.outq, nonceTap := some ⟨v, s.now⟩ }
             t = { s with keeper := k, freeCtr := s.freeCtr + 1 })))) ∧
        (w.toNat = 0x03000000 + l * 0x10000 → 0 < s.life → s.life < 4 →
          (s.ceiling < l → After c s (fun t => answered 3 [] t ∧ unmoved t)) ∧
          (l ≤ s.ceiling → s.lockedOut = true → After c s (fun t => answered 6 [] t ∧ unmoved t)) ∧
          (l ≤ s.ceiling → s.lockedOut = false →
            (s.keeper.nonceTap = none → After c s (fun t => answered 5 [] t ∧ unmoved t)) ∧
            (∀ n, s.keeper.nonceTap = some n → n.time + 60000000000 * ns ≤ s.now → After c s (fun t => answered 5 [] t ∧ unmoved t)) ∧
            (∀ n, s.keeper.nonceTap = some n → s.now < n.time + 60000000000 * ns →
              (s.signatureOk n.val ws 1 l = true → After c s (fun t => answered 0 [] t ∧ changed l t ∧ t.keeper.nonceTap = none)) ∧
              (s.signatureOk n.val ws 1 l = false → After c s (fun t => failed t ∧ t.keeper.nonceTap = none)))))) ∧
      (w.toNat = 0x01030000 → s.dbgState = 2 → s.life = 1 → s.policy 4 = false → s.policy 5 = false → s.lockedOut = false →
        s.fuseLocked 2 = true → Config.sha384 (keyBytes (ws.take 8)) = s.keeper.fuses.pwdhash → After c s (fun t =>
          t.dbgState = 3 ∧ t.keeper.root = none ∧ t.keeper.thermos = none ∧ t.keeper.nonceTap = none ∧
          t.keeper.nonceBox = none ∧ t.keeper.outq = [] ∧ ∀ v, (t.v v).keys = []))) ∧
    (∀ box, let n := if box then s.keeper.nonceBox else s.keeper.nonceTap
      (n = none → exec (.nonceExpiry box) s = .next s) ∧
      (∀ x, n = some x → After (.nonceExpiry box) s (fun t => (if box then t.keeper.nonceBox else t.keeper.nonceTap) = none ∧
        (if box then t.keeper.nonceTap = s.keeper.nonceTap else t.keeper.nonceBox = s.keeper.nonceBox) ∧
        t = { s with now := max s.now (x.time + 60000000000 * ns), keeper := t.keeper } ∧
        t.keeper.fuses = s.keeper.fuses ∧ t.keeper.inq = s.keeper.inq ∧ t.keeper.outq = s.keeper.outq))) ∧
    (let b := max s.now s.keeper.lockUntil
     (s.fails = 16 → After .lockoutExpiry s (fun t => t = { s with now := b })) ∧
     (s.fails ≠ 16 → After .lockoutExpiry s (fun t => t = { s with now := b, regs := t.regs } ∧
       Writes [(R.KPR_STAT, [(F.KPR_STAT_LOCKOUT, 0)])] s t)))

/-! ### Self-test (17_self_test.md) -/

/-- Slice BIST (17 R551, R554, R556 to R561): at the next GAP instant the scheduler starts the first target after the one
last started that is enabled, not held and eligible; a slice that passes counts and moves its target to the next segment, a
service request abandons it with no verdict, a failed one writes FAILINFO and puts its target in its safe state; a retest
starts its pass, and its last segment clears the hold. -/
def Obligations.SlicesStartEndAndFail : Prop :=
  ∀ (s : State) (d : Fin 6),
    let b := s.bist[d]
    let slice (u : State) (t : Nat) : Nat :=
      nth (u.segments d t) (Sparse.get (fun _ => 0) b.segs t % max 1 (u.segments d t).length) 0
    (b.run ≠ none → exec (.sliceStart d) s = .next s) ∧
    (b.run = none → b.retest = none → s.flag (R.BIST_CTRL d) F.BIST_CTRL_EN = false → exec (.sliceStart d) s = .next s) ∧
    (b.run = none → b.retest = none → s.flag (R.BIST_CTRL d) F.BIST_CTRL_EN = true →
      let at_ := max s.now (b.lastT + max 100 (s.fld (R.BIST_CTRL d) F.BIST_CTRL_GAP) * 1000 * ns)
      let u := { s with now := at_, bist := s.bist.set d { b with lastT := at_ } }
      let fit (t : Nat) : Prop := t < 34 ∧ u.testable d t = true ∧ u.bistHeld d t = false ∧ u.eligible d t = true ∧
        u.segments d t ≠ []
      let after (t : Nat) : Nat := (t + 34 - (b.last + 1) % 34) % 34
      ((∀ t, ¬ fit t) → exec (.sliceStart d) s = .next u) ∧
      ∀ t, fit t → (∀ t', fit t' → after t ≤ after t') → After (.sliceStart d) s (fun v =>
        v = { u with regs := v.regs, bist := v.bist } ∧
        v.bist = s.bist.set d { b with lastT := at_, last := t, run := some (t, slice u t, at_) } ∧
        Writes [(R.BIST_STAT d, [(F.BIST_STAT_BUSY, 1), (F.BIST_STAT_CURT, t)])] s v)) ∧
    (∀ t, b.run = none → b.retest = some t → s.eligible d t = true → s.segments d t ≠ [] →
      After (.sliceStart d) s (fun v => v.bist[d].run = some (t, slice s t, s.now) ∧ v.now = s.now)) ∧
    (b.run = none → ∀ r ces, exec (.sliceAbandon d) s = .next s ∧ exec (.sliceEnd d r ces) s = .next s) ∧
    (∀ t seg x, b.run = some (t, seg, x) →
      let dropped (v : State) : Prop := v = { s with regs := v.regs, bist := v.bist, mon := v.mon } ∧
        v.bist = s.bist.set d { b with run := none } ∧ SameRegs [R.BIST_STAT d, R.BIST_ABORT_CNT d] s v ∧
        v.flag (R.BIST_STAT d) F.BIST_STAT_BUSY = false ∧
        (v.rd (R.BIST_ABORT_CNT d)).toNat = min ((s.rd (R.BIST_ABORT_CNT d)).toNat + 1) (2 ^ 32 - 1)
      After (.sliceAbandon d) s dropped ∧
      (s.eligible d t = false → ∀ r ces, After (.sliceEnd d r ces) s dropped) ∧
      (s.eligible d t = true →
        let n := max 1 (s.segments d t).length
        let i := Sparse.get (fun _ => 0) b.segs t % n + 1
        (After (.sliceEnd d .pass 0) s (fun v => v = { s with regs := v.regs, bist := v.bist, mon := v.mon } ∧
          v.flag (R.BIST_STAT d) F.BIST_STAT_BUSY = false ∧ v.bist[d].run = none ∧
          Sparse.get (fun _ => 0) v.bist[d].segs t = i % n ∧
          (v.rd (R.BIST_SLICE_CNT d)).toNat = min ((s.rd (R.BIST_SLICE_CNT d)).toNat + 1) (2 ^ 32 - 1) ∧
          (¬ (b.retest = some t ∧ i = n) → SameRegs [R.BIST_STAT d, R.BIST_SLICE_CNT d] s v ∧ v.bist[d].retest = b.retest) ∧
          (b.retest = some t ∧ i = n ∧ t < 34 → v.bistHeld d t = false ∧ v.flag (R.BIST_CAUSE d) F.BIST_CAUSE_RTDONE = true ∧
            v.bist[d].retest = none ∧ v.flag (R.BIST_STAT d) F.BIST_STAT_RETEST = false))) ∧
        (∀ r, r ≠ .pass → t < 34 → seg < 64 → After (.sliceEnd d r 0) s (fun v =>
          v.bist[d].run = none ∧ v.bist[d].retest = none ∧
          v.fld (R.BIST_FAILINFO d) F.BIST_FAILINFO_TGT = t ∧ v.fld (R.BIST_FAILINFO d) F.BIST_FAILINFO_SEG = seg ∧
          v.fld (R.BIST_FAILINFO d) F.BIST_FAILINFO_KIND = (match r with | .ue => 1 | .signature => 2 | .prbs => 3 | _ => 0) ∧
          (if 0x18 ≤ t ∧ t ≤ 0x1A then v.flag (R.BIST_CAUSE d) F.BIST_CAUSE_LANE = true ∧ v.bistHeld d t = s.bistHeld d t
            else v.flag (R.BIST_CAUSE d) F.BIST_CAUSE_FAIL = true ∧ v.bistHeld d t = true) ∧
          (t < 0x0C ∨ 0x14 ≤ t ∧ t < 0x18 → v.flag (R.CH_GCTRL (groupAt d t)) F.CH_GCTRL_REL = false) ∧
          (t = 0x0D → v.flag (R.RAE_CTRL d) F.RAE_CTRL_EN = false) ∧
          (t < 0x18 ∨ t = 0x1B ∨ t = 0x1C → SameRegs [R.BIST_FAILINFO d, R.BIST_CAUSE d, R.BIST_STAT d, R.BIST_HOLD_LO d,
            R.BIST_HOLD_HI d, R.CH_GCTRL (groupAt d t), R.RAE_CTRL d] s v) ∧
          (0x20 ≤ t → v.flag (R.BIST_CAUSE 0) F.BIST_CAUSE_SAFE = true ∧ v.flag (R.CFG_STAT 0) F.CFG_STAT_DONE = false ∧
            (∀ g, v.active g = false) ∧ (∀ k, (v.v k).keys = []) ∧ ∀ e : Fin 6, v.haltOn[e] = true))) ∧
        (∀ r ces, 0 < ces → r = .pass → After (.sliceEnd d r ces) s (fun v => v.flag (R.BIST_CAUSE d) F.BIST_CAUSE_CE = true ∧
          (v.rd (R.BIST_CE_CNT d)).toNat = min ((s.rd (R.BIST_CE_CNT d)).toNat + ces) (2 ^ 32 - 1))))) ∧
    (∀ t : BitVec 6, let refused := b.retest ≠ none ∨ targetHere d t.toNat = false ∨ 0x20 ≤ t.toNat ∨ d = 0 ∧ 0x1D ≤ t.toNat
      (refused → After (.retest d t) s (OnlyWrites [(R.BIST_CAUSE d, [(F.BIST_CAUSE_CMDERR, 1)])] s)) ∧
      (¬ refused → After (.retest d t) s (fun v => v = { s with regs := v.regs, bist := v.bist } ∧
        Writes [(R.BIST_STAT d, [(F.BIST_STAT_RETEST, 1)])] s v ∧ v.bist[d].retest = some t.toNat ∧ v.bist[d].run = b.run ∧
        Sparse.get (fun _ => 0) v.bist[d].segs t.toNat = 0)))

/-! ### Interrupts and monitor counters (18_interrupts_events.md) -/

/-- The tree, MSI-X and the monitor counters (18 R563 to R566, R570, R571, R575, R576): leaves make DIS and GIS; a vector
whose condition rises is sent, or becomes pending while it is masked; what becomes sendable is sent if its condition still
holds; CLR zeroes counters, an armed snapshot copies every counter at T. -/
def Obligations.InterruptsReachTheHost : Prop :=
  ∀ (s : State) (d : Fin 6) (v : Fin 64),
    let waited : List Nat := (List.range 4).map (fun c => R.MDSP_CYC (4 * d.val + c))
    let still : Prop := ∀ k : Fin 24, k.val / 4 = d.val → s.mdState k ≠ 2
    let leaf (s : State) (cause en : Nat) : Bool := (s.rd cause &&& s.rd en) != 0
    let message (s : State) (v : Nat) : Output :=
      .msix v ((s.msixWord (4 * v + 1)) ++ (s.msixWord (4 * v))) (s.msixWord (4 * v + 2))
    let isOpen (s : State) (v : Nat) : Bool := s.pcie.en && !s.pcie.fmask && (s.msixWord (4 * v + 3)).toNat % 2 == 0
    let sent (s t : State) (v : Nat) : Prop :=
      (isOpen s v = true → t.out = message s v :: s.out ∧ t.pcie.pba = s.pcie.pba) ∧
      (isOpen s v = false → t.out = s.out ∧ t.pcie.pba = s.pcie.pba ||| BitVec.ofNat 64 (2 ^ v))
    (∀ k, k < 4 → bitOf (s.dis d).toNat k = (leaf s (R.VSQ_CAUSE (4 * d.val + k)) (R.VSQ_CAUSE_EN (4 * d.val + k)) ||
      leaf s (R.CH_CAUSE (4 * d.val + k)) (R.CH_CAUSE_EN (4 * d.val + k)) ||
      leaf s (R.FCU_CAUSE (4 * d.val + k)) (R.FCU_CAUSE_EN (4 * d.val + k)))) ∧
    bitOf (s.dis d).toNat 9 = (leaf s (R.DMA_DONE d) (R.DMA_DONE_EN d) || leaf s (R.DMA_ERR d) (R.DMA_ERR_EN d) ||
      leaf s (R.DMA_ROVF d) (R.DMA_ROVF_EN d) || leaf s (R.DMA_CAUSE d) (R.DMA_CAUSE_EN d)) ∧
    bitOf (s.dis d).toNat 20 = (d == 0 && leaf s R.KPR_CAUSE R.KPR_CAUSE_EN) ∧
    bitOf s.gis.toNat d = (!s.isolated[d] && (s.dis d &&& s.rd (R.DIS_HEN d) &&& 0xFF87FFFF#32) != 0) ∧
    bitOf s.gis.toNat 9 = leaf s R.TSY_CAUSE R.TSY_CAUSE_EN ∧
    (let u := s.deliver s.now
     (53 ≤ v.val → exec (.msixSend v) s = .next u) ∧
     ((u.vecCond v = false ∨ bitOf u.pcie.prev.toNat v = true) → exec (.msixSend v) s = .next u) ∧
     (u.vecCond v = true → bitOf u.pcie.prev.toNat v = false → After (.msixSend v) s (fun t =>
       sent u t v ∧ bitOf t.pcie.prev.toNat v = true ∧ t = { u with out := t.out, pcie := t.pcie }))) ∧
    (∀ en fmask, After (.msixUnmask en fmask) s (fun t =>
      t = { s with out := t.out, pcie := t.pcie } ∧
      t.pcie = { s.pcie with en := en, fmask := fmask, pba := t.pcie.pba } ∧
      (∀ n, n < 53 → bitOf t.pcie.pba.toNat n = (bitOf s.pcie.pba.toNat n && !isOpen t n)) ∧
      ∃ l, t.out = l ++ s.out ∧ ∀ o, o ∈ l ↔ ∃ n, n < 53 ∧ bitOf s.pcie.pba.toNat n = true ∧ isOpen t n = true ∧
        s.vecCond n = true ∧ o = message s n)) ∧
    (∀ mask : BitVec 16, After (.monClr d mask) s (fun t => t = { s with regs := t.regs, mdsp := t.mdsp, mon := t.mon } ∧
      SameRegs waited s t ∧ (still → t.regs = s.regs ∧ t.mdsp = s.mdsp) ∧ (∀ k, k ≠ d → t.mon[k] = s.mon[k]) ∧
      t.mon[d].snap = s.mon[d].snap ∧ ∀ i : Fin 16, t.mon[d].cnt[i] =
        if bitOf mask.toNat i then 0 else (s.monSync d).mon[d].cnt[i])) ∧
    (let at_ := s.rdPair (R.MON_SNAP_PT_LO d) (R.MON_SNAP_PT_HI d)
     ((s.mon[d].snap ≠ none ∨ at_ < s.ptime + 1000) →
       After (.monArm d) s (OnlyWrites [(R.MON_CAUSE d, [(F.MON_CAUSE_CMDERR, 1)])] s)) ∧
     (s.mon[d].snap = none → s.ptime + 1000 ≤ at_ → After (.monArm d) s (fun t =>
       t = { s with mon := s.mon.set d { s.mon[d] with snap := some at_ } }))) ∧
    After (.monDisarm d) s (fun t => t = { s with mon := s.mon.set d { s.mon[d] with snap := none } }) ∧
    (s.mon[d].snap = none → exec (.monSnapshot d) s = .next s) ∧
    (∀ at_, s.mon[d].snap = some at_ →
      let b := max s.now (at_ * ns)
      (s.power.slept ≠ none → After (.monSnapshot d) s (fun t => t = { s with now := b })) ∧
      (s.power.slept = none → After (.monSnapshot d) s (fun t => t = { s with now := b, regs := t.regs, mdsp := t.mdsp, mon := t.mon } ∧
        (still → t.mdsp = s.mdsp) ∧ t.mon[d].snap = none ∧ t.flag (R.MON_CAUSE d) F.MON_CAUSE_SNAP = true ∧
        (∀ i : Fin 16, t.rdPair (R.MON_SNAP_LO d i) (R.MON_SNAP_HI d i) = t.mon[d].cnt[i] % 2 ^ 64) ∧
        SameRegs (R.MON_CAUSE d :: (List.range 16).map (R.MON_SNAP_LO d ·) ++ (List.range 16).map (R.MON_SNAP_HI d ·) ++
          waited) s t)))

/-- A write of MSIX_EOI (18 R572, under the masking rule of R571): it sends the message of its vector again if the condition
is 1, or makes it pending while it is masked; with the condition 0, or a value above 52, it does nothing. -/
def Obligations.EoiSendsAgainWhatStillStands : Prop :=
  ∀ (s : State) (w : Word),
    let n := F.MSIX_EOI_VEC.get w
    let isOpen := s.pcie.en && !s.pcie.fmask && (s.msixWord (4 * n + 3)).toNat % 2 == 0
    ((52 < n ∨ s.vecCond n = false) → exec (.msixEoi w) s = .next s) ∧
    (n ≤ 52 → s.vecCond n = true → After (.msixEoi w) s (fun t => t = { s with out := t.out, pcie := t.pcie } ∧
      t.pcie = { s.pcie with pba := t.pcie.pba } ∧
      (isOpen = true → t.pcie.pba = s.pcie.pba ∧
        t.out = .msix n ((s.msixWord (4 * n + 1)) ++ (s.msixWord (4 * n))) (s.msixWord (4 * n + 2)) :: s.out) ∧
      (isOpen = false → t.out = s.out ∧ ∀ k, k < 64 → bitOf t.pcie.pba.toNat k = (bitOf s.pcie.pba.toNat k || k == n))))

/-! ### Measurement DSP cores (07_measurement_dsp.md) -/

/-- The arithmetic format and its moves (07 R234 to R248): each operation gives the exact result of its operands, limited or
wrapped to 40 bits with AV, AE, Z and N; loads, stores and the P move transfer one word and step their pointer, linear,
circular or bit-reversed; a form that R236 or R248 excludes faults. -/
def Obligations.MdspArithmeticAndMoves : Prop :=
  ∀ (s : State) (m : Fin 24) (w : Nat), MdspAt s m w →
    let next := (s.mdPc m + 1) % 32768
    let reg (i : Nat) : Nat := R.MDSP_REG m i
    let A (n : Nat) : Int := s.acc m n
    let fits (v : Int) : Prop := -(2 : Int) ^ 39 ≤ v ∧ v < 2 ^ 39
    let held (v r : Int) : Prop := (fits v → r = v) ∧ (¬ fits v → s.sr m 0 = true → r = if v < 0 then -(2 : Int) ^ 39 else 2 ^ 39 - 1) ∧
      (¬ fits v → s.sr m 0 = false → r = signedOf 40 (unsignedOf 40 v))
    let accs (l : List (Nat × Int)) (as : List Nat) (t : State) : Prop :=
      MdspDone m next 1 (reg 0x3C :: (List.range 12).map (fun i => reg (0x30 + i)) ++ as) s t ∧ t.mdsp = s.mdsp ∧
      (∀ e ∈ l, held e.2 (t.acc m e.1)) ∧ (∀ n, n < 4 → (∀ e ∈ l, e.1 ≠ n) → t.acc m n = A n) ∧
      (t.sr m 2 = true ↔ s.sr m 2 = true ∨ ∃ e ∈ l, ¬ fits e.2) ∧
      (t.sr m 8 = true ↔ ∃ e ∈ l, ¬ (-(2 : Int) ^ 31 ≤ t.acc m e.1 ∧ t.acc m e.1 < 2 ^ 31)) ∧
      (∀ e, l.head? = some e → (t.sr m 9 = true ↔ t.acc m e.1 = 0) ∧ (t.sr m 10 = true ↔ t.acc m e.1 < 0)) ∧
      ∀ i, i ∈ [0, 1, 3, 4, 5] → t.sr m i = s.sr m i
    (∀ d a b o, d < 4 → a < 8 → b < 8 → o < 2 →
      let is (aop : Nat) : Prop := w = aop * 2 ^ 27 + d * 2 ^ 23 + a * 2 ^ 20 + b * 2 ^ 17 + o * 2 ^ 16
      let p (x y : Int) : Int := 2 * x * y
      let re (n : Nat) : Int := s.dreg m (2 * n)
      let im (n : Nat) : Int := s.dreg m (2 * n + 1)
      let cr := if o = 1 then p (re a) (re b) + p (im a) (im b) else p (re a) (re b) - p (im a) (im b)
      let ci := if o = 1 then p (im a) (re b) - p (re a) (im b) else p (re a) (im b) + p (im a) (re b)
      let d0 := p (re a) (if o = 1 then im b else re b)
      let d1 := p (im a) (if o = 1 then re b else im b)
      let k : Int := if o = 1 then -65536 else 65536
      let half (v : Int) : Int := if o = 1 then (v + 1) / 2 else v
      (d < 2 → ∀ e ∈ [(Instr.mdCmpy m [], 1, cr, ci), (.mdCmac m [], 2, A (2 * d) + cr, A (2 * d + 1) + ci),
          (.mdCmsu m [], 3, A (2 * d) - cr, A (2 * d + 1) - ci), (.mdDmpy m [], 4, d0, d1),
          (.mdDmac m [], 5, A (2 * d) + d0, A (2 * d + 1) + d1), (.mdDmsu m [], 6, A (2 * d) - d0, A (2 * d + 1) - d1)],
        is e.2.1 → After e.1 s (accs [(2 * d, e.2.2.1), (2 * d + 1, e.2.2.2)] [])) ∧
      (d < 2 → b = 0 → ∀ e ∈ [(Instr.mdCadd m [], 7, A (2 * d) + k * re a, A (2 * d + 1) + k * im a),
          (.mdCld m [], 8, k * re a, k * im a)],
        is e.2.1 → After e.1 s (accs [(2 * d, e.2.2.1), (2 * d + 1, e.2.2.2)] [])) ∧
      (d < 2 → a = 0 → b = 0 → o = 0 → is 9 → After (.mdClr m []) s (accs [(2 * d, 0), (2 * d + 1, 0)] [])) ∧
      (d = 0 → b = 0 → is 0xA → After (.mdBadd m []) s (accs [(0, half (65536 * re a + A 2)), (1, half (65536 * im a + A 3)),
        (2, half (65536 * re a - A 2)), (3, half (65536 * im a - A 3))] [])) ∧
      (b = 0 → is 0xD → After (.mdNorm m []) s (fun t => t.mreg m (2 * a + o) = unsignedOf 16 (expOf (A d)) ∧
        accs [(d, shiftRound (A d) (expOf (A d)))] [reg (2 * a + o)] t)) ∧
      (b = 0 → is 0xE → After (.mdAsh m []) s
        (accs [(d, shiftRound (A d) (max (-39) (min 39 (s.dreg m (2 * a + o)))))] [])) ∧
      (a = 0 → b = 0 → o = 0 → is 0xF → After (.mdRnd m []) s (accs [(d, (A d + 2 ^ 15) / 2 ^ 16 * 2 ^ 16)] [])) ∧
      (d = 0 → b = 0 → o = 0 → is 0xB → After (.mdBexp m []) s (fun t => MdspDone m next 1 [reg 0x3D] s t ∧ t.mdsp = s.mdsp ∧
        t.mreg m 0x3D = min (s.mreg m 0x3D) (min (rsb (s.mreg m (2 * a))) (rsb (s.mreg m (2 * a + 1)))))) ∧
      (b = 0 → is 0xC → After (.mdExp m []) s (fun t => MdspDone m next 1 [reg (2 * a + o)] s t ∧ t.mdsp = s.mdsp ∧
        t.mreg m (2 * a + o) = unsignedOf 16 (expOf (A d))))) ∧
    (w = 0 → After (.mdNop m []) s (fun t => MdspDone m next 1 [] s t ∧ t.mdsp = s.mdsp)) ∧
    (∀ e ∈ [(Instr.mdNop m [], 0), (.mdCmpy m [], 1), (.mdCmac m [], 2), (.mdCmsu m [], 3), (.mdDmpy m [], 4), (.mdDmac m [], 5),
        (.mdDmsu m [], 6), (.mdCadd m [], 7), (.mdCld m [], 8), (.mdClr m [], 9), (.mdBadd m [], 0xA), (.mdBexp m [], 0xB),
        (.mdExp m [], 0xC), (.mdNorm m [], 0xD), (.mdAsh m [], 0xE), (.mdRnd m [], 0xF)],
      w / 2 ^ 27 = e.2 → (aluLegal e.2 (aFields w) = false ∨ movesLegal e.2 (aFields w) = false) → After e.1 s (MdspFaults m 1 s)) ∧
    (∀ n mode r, 0 < mode → mode < 4 → r < 8 →
      let P := s.mreg m (0x10 + n)
      let M := s.mreg m (0x18 + n)
      let B := s.mreg m (0x20 + n)
      let L := s.mreg m (0x28 + n)
      let step : Int := if mode = 1 then 1 else signedOf 16 M
      let inside := B ≤ P ∧ P < B + L
      let stepped (t : State) : Prop :=
        (mode = 3 → t.mreg m (0x10 + n) = reverse16 ((reverse16 P + reverse16 M) % 65536)) ∧
        (mode < 3 → L ≠ 0 → inside → ((t.mreg m (0x10 + n) : Int) = ((B : Int) + ((P : Int) - B + step) % L) % 65536)) ∧
        (mode < 3 → (L = 0 ∨ ¬ inside) → (t.mreg m (0x10 + n) : Int) = ((P : Int) + step) % 65536) ∧
        (t.sr m 4 = true ↔ s.sr m 4 = true ∨ mode < 3 ∧ L ≠ 0 ∧ ¬ inside)
      let loaded (k r v cyc : Nat) (t : State) : Prop := MdspDone m next cyc [reg (2 * r), reg (2 * r + 1), reg (0x10 + n), reg 0x3C] s t ∧
        t.mdsp = s.mdsp ∧ v = (s.md m).read k P ∧ t.mreg m (2 * r) = v % 65536 ∧ t.mreg m (2 * r + 1) = v / 65536 ∧ stepped t
      let stored (k : Nat) (t : State) : Prop := MdspDone m next 1 [reg 0x3D, reg (0x10 + n), reg 0x3C] s t ∧ stepped t ∧
        (∀ k', k' < 3 → ∀ a, (k', a) ≠ (k, P) → (t.md m).read k' a = (s.md m).read k' a) ∧
        (r < 6 → (t.md m).read k P = s.mreg m (2 * r) + 65536 * s.mreg m (2 * r + 1) ∧ t.mreg m 0x3D = s.mreg m 0x3D ∧ t.sr m 3 = s.sr m 3) ∧
        (6 ≤ r → let part (i : Nat) : Int := max (-32768) (min 32767 ((A (2 * (r - 6) + i) + 2 ^ 15) / 2 ^ 16))
          let lo := unsignedOf 16 (part 0)
          let hi := unsignedOf 16 (part 1)
          (t.md m).read k P = lo + 65536 * hi ∧
          (t.sr m 3 = true ↔ s.sr m 3 = true ∨ ∃ i, i < 2 ∧ part i ≠ (A (2 * (r - 6) + i) + 2 ^ 15) / 2 ^ 16) ∧
          t.mreg m 0x3D = if s.sr m 1 then min (min (s.mreg m 0x3D) (rsb lo)) (rsb hi) else s.mreg m 0x3D)
      (n < 4 → w = mode * 2 ^ 14 + n * 2 ^ 12 + r * 2 ^ 8 → After (.mdNop m []) s (loaded 0 r ((s.md m).read 0 P) 1)) ∧
      (n < 4 → w = mode * 2 ^ 14 + n * 2 ^ 12 + 2 ^ 11 + r * 2 ^ 8 → After (.mdNop m []) s (stored 0)) ∧
      (4 ≤ n → n < 8 → w = mode * 2 ^ 6 + (n - 4) * 2 ^ 4 + r → After (.mdNop m []) s (loaded 1 r ((s.md m).read 1 P) 1)) ∧
      (4 ≤ n → n < 8 → w = mode * 2 ^ 6 + (n - 4) * 2 ^ 4 + 2 ^ 3 + r → After (.mdNop m []) s (stored 1)) ∧
      (n = 7 → (s.md m).cached = false → w = mode * 2 ^ 25 → After (.mdNop m []) s (fun t => stepped t ∧
        MdspDone m next 2 [reg 14, reg 15, reg 0x17, reg 0x3C] s t ∧
        t.mreg m 14 + 65536 * t.mreg m 15 = (s.md m).read 2 (P % 32768))))

/-- The control format and the running of a core (07 R249 to R262, R226, R227): jumps, calls, repeat blocks, register and
memory transfers, events, signals and histogram counts have the effects of R249's table, and what it excludes faults;
START and STOP begin and end a run; an event becomes pending, or is found set; memories are read and written from the
promenade, P memory only while the core does not run. -/
def Obligations.MdspControlAndRun : Prop :=
  ∀ (s : State) (m : Fin 24),
    let pc := s.mdPc m
    let next := (pc + 1) % 32768
    let reg (i : Nat) : Nat := R.MDSP_REG m i
    let core (f : Mdsp → Mdsp) (t : State) : Prop := t.md m = f (s.md m)
    let event (e : Nat) : Bool := bitOf (s.rd (R.MDSP_EVPEND m (e / 32))).toNat (e % 32)
    (∀ w, MdspAt s m w →
      let cop (n x : Nat) : Prop := w = 2 ^ 31 + n * 2 ^ 26 + x
      let done (n : Nat) (as : List Nat) (t : State) : Prop := MdspDone m next n as s t ∧ t.md m = s.md m
      (cop 0 0 → ∀ stop, After (.mdHalt m stop []) s (fun t => t.mdState m = 0 ∧ t.mdPc m = next ∧ (t.md m).stack = [] ∧
        (stop = false → t.flag (R.MDSP_CAUSE m) F.MDSP_CAUSE_HALT = true) ∧
        (stop = true → t.rd (R.MDSP_CAUSE m) = s.rd (R.MDSP_CAUSE m)) ∧
        SameRegs [R.MDSP_PC m, R.MDSP_STAT m, R.MDSP_CYC m, reg 0x3E, R.MDSP_CAUSE m] s t)) ∧
      (∀ a, a < 32768 →
        (cop 1 a → After (.mdJmp m []) s (fun t => MdspDone m a 2 [] s t ∧ t.md m = s.md m)) ∧
        (cop 3 a → (s.md m).stack.length < 8 → After (.mdCall m []) s (fun t => MdspDone m a 2 [] s t ∧
          (t.md m).stack = next :: (s.md m).stack)) ∧
        (cop 3 a → 8 ≤ (s.md m).stack.length → After (.mdCall m []) s (MdspFaults m 3 s)) ∧
        (∀ c, c < 16 → cop 2 (c * 2 ^ 16 + a) →
          let holds := [true, s.sr m 9, !s.sr m 9, s.sr m 10, !s.sr m 10, s.sr m 2, !s.sr m 2, s.sr m 8, !s.sr m 8]
          (holds[c]? = some true → After (.mdJcc m []) s (fun t => MdspDone m a 2 [] s t ∧ t.md m = s.md m)) ∧
          (holds[c]? = some false → After (.mdJcc m []) s (done 1 [])) ∧
          (holds[c]? = none → After (.mdJcc m []) s (MdspFaults m 1 s))) ∧
        (∀ n, n < 1024 → cop 5 (n * 2 ^ 15 + a) →
          (n = 0 → After (.mdRep m []) s (MdspFaults m 1 s)) ∧
          (0 < n → a < pc + 1 → After (.mdRep m []) s (MdspFaults m 2 s)) ∧
          (0 < n → pc + 1 ≤ a → After (.mdRep m []) s (fun t => MdspDone m (pc + 1) 1 [] s t ∧ (t.md m).reps = [⟨pc + 1, a, n, (s.md m).held != some (pc + 1, a)⟩] ∧
            t.mreg m 0x3E = n))) ∧
        (∀ d, d < 16 → cop 6 (d * 2 ^ 15 + a) → pc + 1 ≤ a →
          (s.mreg m d = 0 → After (.mdRepr m []) s (fun t => MdspDone m ((a + 1) % 32768) 1 [] s t ∧ (t.md m).reps = [])) ∧
          (s.mreg m d ≠ 0 → After (.mdRepr m []) s (fun t => MdspDone m (pc + 1) 1 [] s t ∧
            (t.md m).reps = [⟨pc + 1, a, s.mreg m d, (s.md m).held != some (pc + 1, a)⟩])))) ∧
      (cop 4 0 → (∀ a rest, (s.md m).stack = a :: rest → a < 32768 → After (.mdRet m []) s (fun t => MdspDone m a 2 [] s t ∧
        (t.md m).stack = rest)) ∧ ((s.md m).stack = [] → After (.mdRet m []) s (MdspFaults m 3 s))) ∧
      (∀ r v, r < 64 → v < 65536 → cop 7 (r * 2 ^ 16 + v) →
        (r < 0x30 → After (.mdLdi m []) s (fun t => done 1 [reg r] t ∧ t.mreg m r = v)) ∧
        (r = 0x3D → After (.mdLdi m []) s (fun t => done 1 [reg r] t ∧ t.mreg m r = v % 16)) ∧
        (r = 0x3C → After (.mdLdi m []) s (fun t => done 1 [reg r] t ∧ (∀ i, i < 6 → t.sr m i = bitOf v i) ∧
          ∀ i, 6 ≤ i → t.sr m i = s.sr m i)) ∧
        (r = 0x3E → After (.mdLdi m []) s (done 1 [])) ∧
        (∀ n, n < 4 → r = 0x31 + 3 * n → After (.mdLdi m []) s (fun t => done 1 [reg r, reg (r - 1), reg (r + 1)] t ∧
          t.acc m n = 65536 * signedOf 16 v)) ∧
        (r = 0x3F → After (.mdLdi m []) s (MdspFaults m 1 s))) ∧
      (∀ x y, x < 0x30 → y < 0x3F → cop 8 (x * 2 ^ 6 + y) →
        After (.mdMove m []) s (fun t => done 1 [reg x] t ∧ t.mreg m x = s.mreg m y)) ∧
      (∀ k h r a, k < 3 → h < 2 → r < 0x30 → a < 65536 →
        (cop 9 (k * 2 ^ 24 + h * 2 ^ 23 + r * 2 ^ 16 + a) → (s.md m).cached = false →
          After (.mdLd m []) s (fun t => done (if k = 2 then 2 else 1) [reg r] t ∧
            t.mreg m r = (s.md m).read k (if k = 2 then a % 32768 else a) / 65536 ^ h % 65536)) ∧
        (k < 2 → cop 0xA (k * 2 ^ 24 + h * 2 ^ 23 + r * 2 ^ 16 + a) → After (.mdSt m []) s (fun t => MdspDone m next 1 [] s t ∧
          (t.md m).read k a / 65536 ^ h % 65536 = s.mreg m r ∧
          (t.md m).read k a / 65536 ^ (1 - h) % 65536 = (s.md m).read k a / 65536 ^ (1 - h) % 65536 ∧
          ∀ k', k' < 3 → ∀ b, (k', b) ≠ (k, a) → (t.md m).read k' b = (s.md m).read k' b))) ∧
      (∀ set_ mask, set_ < 2 → mask < 65536 → cop 0xB (set_ * 2 ^ 16 + mask) → After (.mdSrm m []) s (fun t =>
        done 1 [reg 0x3C] t ∧ ∀ i, t.sr m i = if i < 6 ∧ bitOf mask i = true then set_ == 1 else s.sr m i)) ∧
      (∀ e, e < 256 → cop 0xC e →
        (event e = true → After (.mdWaite m []) s (fun t => done 1 [R.MDSP_EVPEND m (e / 32)] t ∧
          t.rd (R.MDSP_EVPEND m (e / 32)) = s.rd (R.MDSP_EVPEND m (e / 32)) &&& ~~~ (1#32 <<< (e % 32)))) ∧
        (event e = false → After (.mdWaite m []) s (fun t => t.mdState m = 2 ∧ t.mdPc m = next ∧
          core (fun c => { c with waitEv := some (e, s.now) }) t ∧
          SameRegs [R.MDSP_PC m, R.MDSP_STAT m, R.MDSP_CYC m, reg 0x3E] s t))) ∧
      (∀ v, v < 65536 →
        (cop 0xD v → After (.mdSig m []) s (fun t => done 1 [R.MDSP_SCODE m, R.MDSP_CAUSE m] t ∧
          t.fld (R.MDSP_SCODE m) F.MDSP_SCODE_CODE = v ∧ t.flag (R.MDSP_CAUSE m) F.MDSP_CAUSE_SIG = true)) ∧
        (∀ die : Fin 6, die.val = m.val / 4 → cop 0xD (2 ^ 16 + v) → After (.mdSig m []) s (fun t =>
          (t.c die).trigs = (s.c die).trigs ++ [(s.now, 3, v % 32)] ∧ t.mdPc m = next)) ∧
        (cop 0xD (2 ^ 17 + v) → After (.mdSig m []) s (MdspFaults m 1 s))) ∧
      (∀ k n d, k < 2 → n < 8 → d < 16 → cop 0xE (k * 2 ^ 24 + n * 2 ^ 19 + d * 2 ^ 15) →
        let L := s.mreg m (0x28 + n)
        let i := s.dreg m d - signedOf 16 (s.mreg m (0x18 + n))
        let at_ := unsignedOf 16 ((s.mreg m (0x20 + n) : Int) + if L = 0 then i else max 0 (min ((L : Int) - 1) i))
        let old := (s.md m).read k at_
        After (.mdHinc m []) s (fun t => MdspDone m next 1 [reg 0x3C] s t ∧ (t.md m).read k at_ = min (old + 1) (2 ^ 32 - 1) ∧
          (t.sr m 5 = true ↔ s.sr m 5 = true ∨ old = 2 ^ 32 - 1) ∧
          ∀ k', k' < 3 → ∀ b, (k', b) ≠ (k, at_) → (t.md m).read k' b = (s.md m).read k' b)) ∧
      (∀ n, 0xF ≤ n → n < 32 → ∀ x, x < 2 ^ 26 → cop n x → After (.mdNop m []) s (MdspFaults m 1 s))) ∧
    ((s.mdState m = 1 ∨ s.mdState m = 2) →
      After (.mdspStart m) s (OnlyWrites [(R.MDSP_CAUSE m, [(F.MDSP_CAUSE_CMDERR, 1)])] s)) ∧
    ((s.mdState m = 0 ∨ s.mdState m = 3) → s.coreHeld m = false → After (.mdspStart m) s (fun t => t.mdState m = 1 ∧
      t = { s with regs := t.regs, mdsp := t.mdsp } ∧ (∀ k, k ≠ m → t.md k = s.md k) ∧
      t.mdPc m = s.fld (R.MDSP_ENTRY m) F.MDSP_ENTRY_ADDR ∧ t.mreg m 0x3C = 1 ∧ t.mreg m 0x3D = 15 ∧
      t.rd (R.MDSP_FAULT m) = 0 ∧ t.rd (R.MDSP_CYC m) = 0 ∧
      core (fun c => { c with stack := [], reps := [], held := none, waitEv := none }) t ∧
      SameRegs [R.MDSP_PC m, R.MDSP_STAT m, R.MDSP_FAULT m, R.MDSP_CYC m, reg 0x3C, reg 0x3D, reg 0x3E] s t)) ∧
    (s.mdState m = 1 → After (.mdspStop m) s (fun t => t.mdState m = 0 ∧ t.mdPc m = pc ∧
      t = { s with regs := t.regs, mdsp := t.mdsp } ∧ core (fun c => { c with stack := [], reps := [], waitEv := none }) t ∧
      (∀ k, k ≠ m → t.md k = s.md k) ∧ SameRegs [R.MDSP_STAT m, reg 0x3E] s t)) ∧
    (s.mdState m = 2 → After (.mdspStop m) s (fun t => t.mdState m = 0 ∧ t.mdPc m = pc ∧
      core (fun c => { c with stack := [], reps := [], waitEv := none }) t ∧
      (∀ k, k ≠ m → t.md k = s.md k) ∧ SameRegs [R.MDSP_STAT m, R.MDSP_CYC m, reg 0x3E] s t)) ∧
    ((s.mdState m = 0 ∨ s.mdState m = 3) → exec (.mdspStop m) s = .next s) ∧
    (∀ e : Fin 256, (event e = true → After (.mdspEvset m e) s (OnlyWrites [(R.MDSP_CAUSE m, [(F.MDSP_CAUSE_EVOVF, 1)])] s)) ∧
      (event e = false → After (.mdspEvset m e) s (fun t => OnlyRegs [R.MDSP_EVPEND m (e / 32)] s t ∧
        t.rd (R.MDSP_EVPEND m (e / 32)) = s.rd (R.MDSP_EVPEND m (e / 32)) ||| (1#32 <<< (e.val % 32))))) ∧
    (∀ (die : Fin 6) at_ code rest, die.val = m.val / 4 → (s.c die).trigs = (at_, 2, code) :: rest → code % 4 = m.val % 4 →
      event (code / 256 % 256) = false → After (.mdspTrigEvent m) s (fun t => (t.c die).trigs = rest ∧ t.now = max s.now at_ ∧
        bitOf (t.rd (R.MDSP_EVPEND m (code / 256 % 256 / 32))).toNat (code / 256 % 256 % 32) = true ∧
        SameRegs [R.MDSP_EVPEND m (code / 256 % 256 / 32)] s t)) ∧
    (∀ die : Fin 6, die.val = m.val / 4 → (s.c die).trigs = [] → exec (.mdspTrigEvent m) s = .next s) ∧
    (∀ e b, (s.md m).waitEv = some (e, b) → s.mdState m = 2 → s.mdFrozen m = false → e < 256 →
      (event e = true → After (.waitWake m) s (fun t => t.mdState m = 1 ∧ t.mdPc m = pc ∧
        core (fun c => { c with waitEv := none }) t ∧
        t.rd (R.MDSP_EVPEND m (e / 32)) = s.rd (R.MDSP_EVPEND m (e / 32)) &&& ~~~ (1#32 <<< (e % 32)) ∧
        SameRegs [R.MDSP_EVPEND m (e / 32), R.MDSP_STAT m, R.MDSP_CYC m] s t)) ∧
      (event e = false → exec (.waitWake m) s = .next s)) ∧
    (∀ off len (write : Bool) (data : List Nat), (s.md m).ue = [] →
      let c := Instr.mdspMemAccess m off len write data []
      let n := if write then data.length else len
      let place (o : Nat) : Nat × Nat := if o < 0x40000 then (0, o) else if o < 0x80000 then (1, o - 0x40000)
        else (2, o - 0x80000)
      (0xA0000 < off + n → After c s (fun t => t = { s with reply := ⟨some .errDecode, []⟩ })) ∧
      (off + n ≤ 0xA0000 → 0x80000 < off + n → (s.mdState m = 1 ∨ s.mdState m = 2) → After c s (fun t =>
        t = { s with reply := ⟨some .errDenied, []⟩ })) ∧
      (off + n ≤ 0xA0000 → (0x80000 < off + n → s.mdState m = 0 ∨ s.mdState m = 3) →
        (write = false → After c s (fun t => t = { s with reply := t.reply } ∧ t.reply.resp = some .ok ∧
          t.reply.data = (List.range len).map (fun i =>
            let p := place (off + i); bitsOf ((s.md m).read p.1 (p.2 / 4)) (8 * (p.2 % 4)) 8))) ∧
        (write = true → (∀ b ∈ data, b < 256) → After c s (fun t => t = { s with reply := ⟨some .ok, []⟩, mdsp := t.mdsp } ∧
          (∀ j, j ≠ m → t.md j = s.md j) ∧ (∀ o, o < 0xA0000 → (t.md m).byte (place o).1 (place o).2 =
            if off ≤ o ∧ o < off + data.length then nth data (o - off) 0 else (s.md m).byte (place o).1 (place o).2)))))

/-! ### Reset, clocks and power (19_reset_clocks_power_pins.md) -/

/-- The reset scopes (19 R580 to R585, R588, R589, R594, R595; 16 R533; 17 R550): a device reset clears every block, names its
cause and starts up again, keeping the fuses and SCAN; SYSRST_B and PORST_B hold the device; a start-up BIST that fails
keeps it in reset; a die reset clears one die and isolates it; PERST clears the endpoint alone; a PLL that loses lock
resets its die, and on die 0 leads to the safe state. -/
def Obligations.ResetsClearTheirScope : Prop :=
  ∀ (s : State) (role : BitVec 2) (bist : List Nat),
    let started (u : State) (role : BitVec 2) (t : State) : Prop := t.power.up = true ∧
      t.flag (R.CFG_STAT 0) F.CFG_STAT_INITB = true ∧ (∀ d, d < 6 → t.fld (R.DCR_CLKSTAT d) F.DCR_CLKSTAT_LOCK = 0x7F) ∧
      t.fld R.TSY_STAT F.TSY_STAT_ROLE = role.toNat ∧ t.life = lcState u.keeper.fuses.lc ∧
      t.dbgState = (if u.dbgState = 3 then 3 else if t.life = 0 then 2 else 0) ∧ t.fails = 0 ∧
      t.keeper.fuses = u.keeper.fuses ∧ t.pending = u.pending
    let empty (t : State) : Prop := t.lines = [] ∧ (∀ g, t.g g = Group.reset) ∧ (∀ g, t.active g = false) ∧
      (∀ m, t.md m = Mdsp.reset) ∧ (∀ m, t.cr m = Core.reset) ∧ (∀ v, (t.v v).keys = []) ∧ t.keeper.nonceTap = none ∧
      t.keeper.nonceBox = none ∧ t.keeper.thermos = none ∧ t.haltReq = false ∧ t.flag (R.CFG_STAT 0) F.CFG_STAT_DONE = false ∧ t.now = 0
    let clean := bist = [] ∧ s.keeper.fuses.ue = false
    let free := s.power.porLow = false ∧ s.power.sysLow = false ∧ s.power.hot = false
    (∀ e ∈ [(Instr.pkgRstDevice 0xA5 bist, 2), (.sysreset 0xA5 true bist, 3)],
      (free → clean → After e.1 s (fun t => empty t ∧ started s s.power.role t ∧
        t.fld R.PKG_RSTCAUSE F.PKG_RSTCAUSE_CAUSE = e.2 ∧ t.flag R.PKG_RSTCAUSE F.PKG_RSTCAUSE_BISTFAIL = false ∧
        t.rd R.PKG_REF = F.PKG_REF_SRC.set (s.rd R.PKG_REF) 0)) ∧
      (∀ d rest, free → bist = d :: rest → d < 6 → (∀ k ∈ rest, d ≤ k) → s.keeper.fuses.ue = false → After e.1 s (fun t => empty t ∧
        t.power.up = false ∧ t.flag (R.CFG_STAT 0) F.CFG_STAT_INITB = false ∧
        t.flag R.PKG_RSTCAUSE F.PKG_RSTCAUSE_BISTFAIL = true ∧ t.fld R.PKG_RSTCAUSE F.PKG_RSTCAUSE_DIE = d))) ∧
    (∀ key, key ≠ 0xA5 → exec (.pkgRstDevice key bist) s = .next s ∧ ∀ pec, exec (.sysreset key pec bist) s = .next s) ∧
    (∀ v, exec (.sysreset v false bist) s = .next s) ∧
    After .sysrst s (fun t => empty t ∧ t.power.sysLow = true ∧ t.power.up = false ∧ t.keeper.fuses = s.keeper.fuses ∧
      t.fld R.PKG_RSTCAUSE F.PKG_RSTCAUSE_CAUSE = 1 ∧
      t.flag R.PT_STAT F.PT_STAT_HOLD = (F.PKG_REF_HOLD.get (s.rd R.PKG_REF) == 1) ∧
      ∀ a, a ≠ R.PKG_REF → a ≠ R.PKG_RSTCAUSE → a ≠ R.KPR_STAT → a ≠ R.PT_STAT → t.rd a = State.reset.rd a) ∧
    (s.power.sysLow = true → s.power.porLow = false → s.power.hot = false → clean → s.fails = 0 →
      After (.sysrstBRelease role bist) s (fun t => t.power.sysLow = false ∧ started s role t ∧ t.lines = s.lines)) ∧
    (s.power.sysLow = false → exec (.sysrstBRelease role bist) s = .next s) ∧
    After .porstBLow s (fun t => empty t ∧ t.power.porLow = true ∧ t.power.up = false ∧ t.keeper.fuses = s.keeper.fuses ∧
      ∀ a, t.rd a = State.reset.rd a) ∧
    (s.power.sysLow = false → clean → After (.powerOnReset role true bist) s (fun t => empty t ∧
      started { s with regs := [] } role t ∧ t.fld R.PKG_RSTCAUSE F.PKG_RSTCAUSE_CAUSE = 0 ∧
      t.flag R.PKG_REF F.PKG_REF_LOCKED = true)) ∧
    After (.powerOnReset role false bist) s (fun t => empty t ∧ t.power.up = false ∧
      t.flag (R.CFG_STAT 0) F.CFG_STAT_INITB = false ∧ t.flag R.PKG_REF F.PKG_REF_REFOK = false) ∧
    (∀ (d : Fin 6), d ≠ 0 →
      (∀ bad, bitOf (s.fld R.PKG_RST F.PKG_RST_DIEHOLD) (d.val - 1) = false → After (.diehold d true bad) s (fun t =>
        bitOf (t.fld R.PKG_RST F.PKG_RST_DIEHOLD) (d.val - 1) = true ∧ t.dieDown[d] = true ∧ t.isolated[d] = true ∧
        (∀ a, inDie d a = true → t.rd a = State.reset.rd a) ∧ (∀ g ∈ groupsOf d, t.g g = Group.reset) ∧
        (∀ e : Fin 6, e ≠ d → t.dieDown[e] = s.dieDown[e] ∧ t.bist[e] = s.bist[e] ∧ t.dma[e] = s.dma[e]))) ∧
      (s.dieDown[d] = true →
        After (.diehold d false false) s (fun t => bitOf (t.fld R.PKG_RST F.PKG_RST_DIEHOLD) (d.val - 1) = false ∧
          t.dieDown[d] = false ∧ t.fld (R.DCR_CLKSTAT d) F.DCR_CLKSTAT_LOCK = 0x7F) ∧
        After (.diehold d false true) s (fun t => t.dieDown[d] = true)) ∧
      After (.pllLockLoss d 0) s (fun t => t.dieDown[d] = true ∧ t.isolated[d] = true ∧
        t.flag (R.DCR_EVT d) F.DCR_EVT_CLKERR = true ∧ bitOf (t.fld (R.DCR_CLKSTAT d) F.DCR_CLKSTAT_LOCK) 1 = false) ∧
      exec (.pllLockLoss d 4) s = .next s) ∧
    (∀ hold bad, exec (.diehold 0 hold bad) s = .next s) ∧
    (∀ pll, After (.pllLockLoss 0 pll) s (fun t => t.flag (R.DCR_EVT 0) F.DCR_EVT_CLKERR = true ∧ (∀ d : Fin 6, t.haltOn[d] = true) ∧
      (∀ g, t.active g = false) ∧ (∀ v, (t.v v).keys = []) ∧ t.flag (R.CFG_STAT 0) F.CFG_STAT_DONE = false ∧
      t.flag (R.BIST_CAUSE 0) F.BIST_CAUSE_SAFE = true)) ∧
    After .pciePerst s (fun t => t = { s with pcie := t.pcie } ∧ t.pcie.pba = 0 ∧ t.pcie.en = false ∧ t.pcie.prev = s.pcie.prev) ∧
    (∀ d t11, signedOf 11 (BitVec.toNat t11) ≥ 640 → After (.thermalTrip d t11) s (fun t => empty t ∧ t.power.hot = true ∧ t.power.up = false ∧
      t.fld R.PKG_RSTCAUSE F.PKG_RSTCAUSE_CAUSE = 6)) ∧
    (∀ temps, s.power.hot = true → s.power.porLow = false → s.power.sysLow = false → clean → s.fails = 0 →
      (∀ x ∈ temps, signedOf 11 (BitVec.toNat x) < 560) → After (.thermalRecover temps bist) s (fun t => t.power.hot = false ∧
        started s s.power.role t)) ∧
    (∀ temps, (s.power.hot = false ∨ ∃ x ∈ temps, 560 ≤ signedOf 11 (BitVec.toNat x)) →
      exec (.thermalRecover temps bist) s = .next s)

/-- Power states, the reference, temperature and the SMBus target (19 R591 to R593, R597 to R601, R605, R611, R612, R615; 16
R542): PARK and SLEEP are taken only in their conditions, and refused with PWRERR; SLEEP moves the vault keys into the
thermos and the ports into self-refresh, a wake brings them back; the loss of the reference is holdover, its return ends
it; a reading is kept with its maximum and warns at its limit; the board controller reads what stands. -/
def Obligations.PowerStatesAndBoardController : Prop :=
  ∀ (s : State) (src : BitVec 10) (d : Fin 6) (x : BitVec 11),
    let refused (t : State) : Prop := t = { s with regs := t.regs, reply := t.reply } ∧
      Writes [(R.PKG_EVT, [(F.PKG_EVT_PWRERR, 1)])] s t
    let slept (u t : State) : Prop := t.pstate19 = 2 ∧ t.power.slept = some u.now ∧ (∀ v, (t.v v).keys = []) ∧
      (∃ y, t.keeper.thermos = some y ∧ y.root = u.keeper.root ∧ y.dbg = u.dbgState ∧ y.fails = u.fails ∧
        ∀ v : Fin 64, (y.keys.find? (fun e => e.1 == v.val)).map (·.2) =
          if u.vctrl v.val F.VLT_V_CTRL_EN = 1 then some (u.v v).keys else none) ∧
      t.keeper.nonceTap = none ∧ t.keeper.nonceBox = none ∧ (∀ q, q < 24 → u.mstate q = 2 → t.mstate q = 3) ∧
      (∀ q, q < 12 → t.pstate q = 0) ∧ (∀ e : Fin 6, t.scrub[e] = none) ∧ t.lines = u.lines ∧ t.core = u.core ∧ t.mdsp = u.mdsp
    let woken (st : Nat) (u t : State) : Prop := t.pstate19 = st ∧ t.power.slept = none ∧ t.keeper.thermos = none ∧
      (∀ q, q < 24 → u.mstate q = 3 → t.mstate q = 2) ∧ t.lines = u.lines ∧ t.core = u.core ∧
      ∀ y, u.keeper.thermos = some y → ∀ v : Fin 64, (t.v v).keys =
        (match y.keys.find? (fun e => e.1 == v.val) with | some e => e.2 | none => (u.v v).keys)
    (s.haltReq = true → ∀ c ∈ [Instr.pwrReqPark src, .pwrReqRun src [], .pwrReqSleep src], After c s (fun t => refused t ∧
      t.reply = ⟨some .errDenied, []⟩)) ∧
    (s.haltReq = false →
      (s.pwrFrom src = false → ∀ c ∈ [Instr.pwrReqPark src, .pwrReqRun src [], .pwrReqSleep src], exec c s = .next s) ∧
      (s.pwrFrom src = true →
        (s.pstate19 = 0 → s.parkOk = true → After (.pwrReqPark src) s (fun t =>
          t = { s with regs := t.regs, reply := ⟨some .ok, []⟩ } ∧ Writes [(R.PKG_PWR, [(F.PKG_PWR_STATE, 1)])] s t)) ∧
        (s.pstate19 = 0 → s.parkOk = false → After (.pwrReqPark src) s refused) ∧
        (s.pstate19 = 1 → After (.pwrReqRun src []) s (fun t =>
          t = { s with regs := t.regs, reply := ⟨some .ok, []⟩ } ∧ Writes [(R.PKG_PWR, [(F.PKG_PWR_STATE, 0)])] s t)) ∧
        (s.pstate19 ≠ 1 → After (.pwrReqSleep src) s refused) ∧ (s.sleepOk = false → After (.pwrReqSleep src) s refused) ∧
        (s.sleepOk = true → After (.pwrReqSleep src) s (slept s)) ∧
        (s.pstate19 = 2 → After (.pwrReqRun src []) s (woken 0 s) ∧ After (.pwrReqPark src) s (woken 1 s))) ∧
      (s.inReset = false → s.pstate19 = 2 → After (.smbPwrReq 0 true []) s (woken 0 s)) ∧
      (∀ v, After (.smbPwrReq v false []) s (fun t => t = s))) ∧
    (s.pstate19 = 2 → s.flag R.PKG_PWR F.PKG_PWR_WAKEPT = true → After (.wakePt []) s (fun t => woken 1 s t ∧
      max s.now (s.rdPair R.PKG_WAKE_PT_LO R.PKG_WAKE_PT_HI * ns) ≤ t.now)) ∧
    (s.flag R.PKG_PWR F.PKG_PWR_WAKEPT = false → exec (.wakePt []) s = .next s) ∧
    (s.flag R.PKG_REF F.PKG_REF_SRC = false → After .refLoss s (OnlyWrites [(R.PKG_REF, [(F.PKG_REF_REFOK, 0),
      (F.PKG_REF_LOCKED, 0), (F.PKG_REF_HOLD, 1)]), (R.PT_STAT, [(F.PT_STAT_HOLD, 1)]), (R.PKG_EVT, [(F.PKG_EVT_CLKLOSS, 1)])] s)) ∧
    (s.flag R.TSY_CTRL F.TSY_CTRL_REFSRC = false → After .refReturn s (OnlyWrites [(R.PKG_REF, [(F.PKG_REF_REFOK, 1),
      (F.PKG_REF_LOCKED, 1), (F.PKG_REF_HOLD, 0)]), (R.PT_STAT, [(F.PT_STAT_HOLD, 0)])] s)) ∧
    (s.flag R.TSY_CTRL F.TSY_CTRL_REFSRC = true → (∀ p, p < 11 → s.activeUp p = true → s.pstate p ≠ 3) → exec .refReturn s = .next s) ∧
    (let now_ := x.toNat
     let top := s.fld (R.DCR_TEMP d) F.DCR_TEMP_MAX
     let limit := signedOf 11 (s.fld (R.DCR_TWARN d) F.DCR_TWARN_LIMIT)
     let kept := if signedOf 11 top < signedOf 11 now_ then now_ else top
     (signedOf 11 now_ < limit → After (.twarn d x) s (OnlyWrites [(R.DCR_TEMP d, [(F.DCR_TEMP_NOW, now_), (F.DCR_TEMP_MAX, kept)])] s)) ∧
     (limit ≤ signedOf 11 now_ → After (.twarn d x) s (OnlyWrites [(R.DCR_TEMP d, [(F.DCR_TEMP_NOW, now_),
       (F.DCR_TEMP_MAX, kept)]), (R.DCR_EVT d, [(F.DCR_EVT_TWARN, 1)])] s)) ∧
     (s.power.porLow = false → s.isolated[d] = false → After (.tempDie d x) s (fun t => t.reply = ⟨some .ok, leBytes 2 (unsignedOf 16 (signedOf 11 now_))⟩ ∧
       t = { s with regs := t.regs, reply := t.reply } ∧
       Writes [(R.DCR_TEMP d, [(F.DCR_TEMP_NOW, now_), (F.DCR_TEMP_MAX, kept)])] s t)) ∧
     (s.power.porLow = false → s.isolated[d] = true → After (.tempDie d x) s (fun t => t = { s with reply := ⟨some .ok, leBytes 2 0x8000⟩ })) ∧
     (signedOf 11 now_ < 640 → After (.thermalTrip d x) s
       (OnlyWrites [(R.DCR_TEMP d, [(F.DCR_TEMP_NOW, now_), (F.DCR_TEMP_MAX, kept)])] s)) ∧
     After (.clrmax d) s (OnlyWrites [(R.DCR_TEMP d, [(F.DCR_TEMP_MAX, s.fld (R.DCR_TEMP d) F.DCR_TEMP_NOW)])] s)) ∧
    (s.power.porLow = false →
      After .smbStatus s (fun t => ∃ w, t = { s with reply := ⟨some .ok, leBytes 2 w⟩ } ∧ w < 2 ^ 14 ∧
        bitOf w 0 = s.flag (R.CFG_STAT 0) F.CFG_STAT_DONE ∧ bitOf w 1 = s.flag (R.CFG_STAT 0) F.CFG_STAT_INITB ∧
        bitOf w 2 = s.flag R.PKG_RSTCAUSE F.PKG_RSTCAUSE_BISTFAIL ∧ bitsOf w 3 3 = s.fld R.PKG_RSTCAUSE F.PKG_RSTCAUSE_DIE ∧
        bitsOf w 6 2 = s.pstate19 ∧ bitOf w 8 = s.flag R.PKG_REF F.PKG_REF_HOLD ∧ bitOf w 9 = !s.flag R.PKG_REF F.PKG_REF_REFOK ∧
        bitOf w 11 = s.power.hot ∧ bitOf w 12 = s.power.safe ∧ bitOf w 13 = s.haltReq) ∧
      (∀ (c : BitVec 8) (mv : BitVec 16),
        (((0x10 ≤ c.toNat ∧ c.toNat ≤ 0x1A) ∨ (0x40 ≤ c.toNat ∧ c.toNat ≤ 0x57)) → After (.rail c mv) s (fun t =>
          t = { s with reply := ⟨some .ok, leBytes 2 mv.toNat⟩ })) ∧
        (¬ ((0x10 ≤ c.toNat ∧ c.toNat ≤ 0x1A) ∨ (0x40 ≤ c.toNat ∧ c.toNat ≤ 0x57)) → After (.rail c mv) s (fun t =>
          t = { s with reply := ⟨none, []⟩ })) ∧
        After (.power mv) s (fun t => t = { s with reply := ⟨some .ok, leBytes 2 mv.toNat⟩ })) ∧
      After .rstcause s (fun t => t = { s with reply := ⟨some .ok, leBytes 1 (s.rd R.PKG_RSTCAUSE).toNat⟩ }) ∧
      After .tempMax s (fun t => ∃ v : Int, t = { s with reply := ⟨some .ok, leBytes 2 (unsignedOf 16 v)⟩ } ∧
        (∀ k : Fin 6, s.isolated[k] = false → signedOf 11 (s.fld (R.DCR_TEMP k) F.DCR_TEMP_NOW) ≤ v) ∧
        ((∃ k : Fin 6, s.isolated[k] = false) → ∃ k : Fin 6, s.isolated[k] = false ∧ signedOf 11 (s.fld (R.DCR_TEMP k) F.DCR_TEMP_NOW) = v))) ∧
    (s.power.up = true →
      After (.addressResolutionProtocol none) s (fun t => t = { s with reply := ⟨some .ok, leBytes 8 (s.rdPair R.KPR_SERIAL_LO R.KPR_SERIAL_HI)⟩ }) ∧
      ∀ a, After (.addressResolutionProtocol (some a)) s (fun t => t.power = { s.power with smb := a } ∧ t.regs = s.regs ∧
        t.reply = ⟨some .ok, leBytes 8 (s.rdPair R.KPR_SERIAL_LO R.KPR_SERIAL_HI)⟩))

/-! ### The whole machine -/

/-- A step takes the command at the front of the queue and gives its effect on the machine with the rest of the queue; with
an empty queue 125 fs pass (the model's choice, notes/assumptions/1.md). -/
def Obligations.StepRunsTheFirstCommand : Prop :=
  (∀ (s : State) (c : Instr) (rest : List Instr), s.pending = c :: rest → step s = exec c { s with pending := rest }) ∧
  (∀ s : State, s.pending = [] → step s = .next { s with now := s.now + 1 })

/-- Every command completes in every state, and leaves the queue of waiting commands as it is: bus responses, refused
commands and faults of a unit are effects on the machine, not stops of it. -/
def Obligations.EveryCommandCompletes : Prop :=
  ∀ (c : Instr) (s : State), ∃ t, exec c s = .next t ∧ t.pending = s.pending

/-- What power-on reset leaves (00 R10, and the Reset columns of 02 R88, 07 R257, 11 R401, 12 R449, 17 R562, 18 R578, 19
R615, R616): every register reads its Reset column, no command waits, and the stores are in canonical form. -/
def Obligations.ResetIsAsTheSpecSays : Prop :=
  (∀ a, State.reset.rd a = resetOf a) ∧ State.reset.pending = [] ∧ Memory.wf State.reset = true ∧
  Registers.wf State.reset = true ∧
  (∀ g : Fin 24, State.reset.vstat g = 0 ∧ (State.reset.g g).iram = [] ∧ State.reset.flag (R.CH_GCTRL g) F.CH_GCTRL_REL = false) ∧
  (∀ m : Fin 24, State.reset.mdState m = 0 ∧ State.reset.mreg m 0x3C = 1 ∧ State.reset.mreg m 0x3D = 15 ∧
    ∀ n : Fin 4, State.reset.acc m n = 0) ∧
  (∀ q : Fin 24, State.reset.mstate q = 0) ∧ (∀ v : Fin 64, State.reset.vstate v = 0) ∧
  (∀ m : Fin 12, State.reset.ccState m = 0) ∧ State.reset.pstate19 = 0 ∧
  State.reset.fld (R.DCR_TWARN 5) F.DCR_TWARN_LIMIT = 0x244 ∧ State.reset.fld (R.BIST_CTRL 5) F.BIST_CTRL_GAP = 0x3E8 ∧
  State.reset.flag (R.BIST_CTRL 5) F.BIST_CTRL_EN = true ∧ State.reset.flag R.GIS_CTRL F.GIS_CTRL_PINEN = true ∧
  (∀ d : Fin 6, State.reset.haltOn[d] = false ∧ State.reset.scrub[d] = none) ∧ State.reset.haltReq = false

/-- Every step keeps the stores in canonical form, so that equal contents stay equal data: G6 lines, instruction RAM, MDSP X,
Y and P memory, registers and latches (12, 02 R36, 07 R227, 20 R621). -/
def Obligations.EveryStepKeepsTheStoresCanonical : Prop :=
  ∀ s t : State, Memory.wf s = true → Registers.wf s = true → step s = .next t → Memory.wf t = true ∧ Registers.wf t = true
end

