-- ==== Sys2Proof/Laws/State.lean ====
section
/-! SUPPORT. Laws/State.lean: what each named update of Machine/Ops.lean leaves of every field of the state, so that no
proof unfolds a record update. -/
namespace Sys2Proof.Machine
variable (s : State)

/-! wr -/

@[simp] theorem State.wr_pending (a : Nat) (v : Word) : (s.wr a v).pending = s.pending := (rfl)
@[simp] theorem State.wr_now (a : Nat) (v : Word) : (s.wr a v).now = s.now := (rfl)
@[simp] theorem State.wr_freeCtr (a : Nat) (v : Word) : (s.wr a v).freeCtr = s.freeCtr := (rfl)
@[simp] theorem State.wr_latch (a : Nat) (v : Word) : (s.wr a v).latch = s.latch := (rfl)
@[simp] theorem State.wr_reply (a : Nat) (v : Word) : (s.wr a v).reply = s.reply := (rfl)
@[simp] theorem State.wr_out (a : Nat) (v : Word) : (s.wr a v).out = s.out := (rfl)
@[simp] theorem State.wr_grp (a : Nat) (v : Word) : (s.wr a v).grp = s.grp := (rfl)
@[simp] theorem State.wr_cap (a : Nat) (v : Word) : (s.wr a v).cap = s.cap := (rfl)
@[simp] theorem State.wr_port (a : Nat) (v : Word) : (s.wr a v).port = s.port := (rfl)
@[simp] theorem State.wr_lines (a : Nat) (v : Word) : (s.wr a v).lines = s.lines := (rfl)
@[simp] theorem State.wr_vault (a : Nat) (v : Word) : (s.wr a v).vault = s.vault := (rfl)
@[simp] theorem State.wr_txns (a : Nat) (v : Word) : (s.wr a v).txns = s.txns := (rfl)
@[simp] theorem State.wr_remoteDone (a : Nat) (v : Word) : (s.wr a v).remoteDone = s.remoteDone := (rfl)
@[simp] theorem State.wr_remoteOut (a : Nat) (v : Word) : (s.wr a v).remoteOut = s.remoteOut := (rfl)
@[simp] theorem State.wr_scrub (a : Nat) (v : Word) : (s.wr a v).scrub = s.scrub := (rfl)
@[simp] theorem State.wr_haltReq (a : Nat) (v : Word) : (s.wr a v).haltReq = s.haltReq := (rfl)
@[simp] theorem State.wr_haltOn (a : Nat) (v : Word) : (s.wr a v).haltOn = s.haltOn := (rfl)
@[simp] theorem State.wr_tsy (a : Nat) (v : Word) : (s.wr a v).tsy = s.tsy := (rfl)
@[simp] theorem State.wr_isolated (a : Nat) (v : Word) : (s.wr a v).isolated = s.isolated := (rfl)
@[simp] theorem State.wr_cfgUp (a : Nat) (v : Word) : (s.wr a v).cfgUp = s.cfgUp := (rfl)
@[simp] theorem State.wr_mdsp (a : Nat) (v : Word) : (s.wr a v).mdsp = s.mdsp := (rfl)
@[simp] theorem State.wr_keeper (a : Nat) (v : Word) : (s.wr a v).keeper = s.keeper := (rfl)
@[simp] theorem State.wr_fab (a : Nat) (v : Word) : (s.wr a v).fab = s.fab := (rfl)
@[simp] theorem State.wr_fport (a : Nat) (v : Word) : (s.wr a v).fport = s.fport := (rfl)
@[simp] theorem State.wr_seam (a : Nat) (v : Word) : (s.wr a v).seam = s.seam := (rfl)
@[simp] theorem State.wr_bridge (a : Nat) (v : Word) : (s.wr a v).bridge = s.bridge := (rfl)
@[simp] theorem State.wr_hasRoles (a : Nat) (v : Word) : (s.wr a v).hasRoles = s.hasRoles := (rfl)
@[simp] theorem State.wr_dieDown (a : Nat) (v : Word) : (s.wr a v).dieDown = s.dieDown := (rfl)
@[simp] theorem State.wr_cfg (a : Nat) (v : Word) : (s.wr a v).cfg = s.cfg := (rfl)
@[simp] theorem State.wr_holdupB (a : Nat) (v : Word) : (s.wr a v).holdupB = s.holdupB := (rfl)
@[simp] theorem State.wr_dma (a : Nat) (v : Word) : (s.wr a v).dma = s.dma := (rfl)
@[simp] theorem State.wr_core (a : Nat) (v : Word) : (s.wr a v).core = s.core := (rfl)
@[simp] theorem State.wr_l2 (a : Nat) (v : Word) : (s.wr a v).l2 = s.l2 := (rfl)
@[simp] theorem State.wr_tap (a : Nat) (v : Word) : (s.wr a v).tap = s.tap := (rfl)
@[simp] theorem State.wr_bist (a : Nat) (v : Word) : (s.wr a v).bist = s.bist := (rfl)
@[simp] theorem State.wr_mon (a : Nat) (v : Word) : (s.wr a v).mon = s.mon := (rfl)
@[simp] theorem State.wr_pcie (a : Nat) (v : Word) : (s.wr a v).pcie = s.pcie := (rfl)
@[simp] theorem State.wr_power (a : Nat) (v : Word) : (s.wr a v).power = s.power := (rfl)
@[simp] theorem State.wr_g_eq (a : Nat) (v : Word) (i : Fin 24) : (s.wr a v).g i = s.g i := (rfl)
@[simp] theorem State.wr_c_eq (a : Nat) (v : Word) (i : Fin 6) : (s.wr a v).c i = s.c i := (rfl)
@[simp] theorem State.wr_p_eq (a : Nat) (v : Word) (i : Fin 24) : (s.wr a v).p i = s.p i := (rfl)
@[simp] theorem State.wr_v_eq (a : Nat) (v : Word) (i : Fin 64) : (s.wr a v).v i = s.v i := (rfl)

/-! setF -/

@[simp] theorem State.setF_pending (a : Nat) (f : Fld) (x : Nat) : (s.setF a f x).pending = s.pending := (rfl)
@[simp] theorem State.setF_now (a : Nat) (f : Fld) (x : Nat) : (s.setF a f x).now = s.now := (rfl)
@[simp] theorem State.setF_freeCtr (a : Nat) (f : Fld) (x : Nat) : (s.setF a f x).freeCtr = s.freeCtr := (rfl)
@[simp] theorem State.setF_latch (a : Nat) (f : Fld) (x : Nat) : (s.setF a f x).latch = s.latch := (rfl)
@[simp] theorem State.setF_reply (a : Nat) (f : Fld) (x : Nat) : (s.setF a f x).reply = s.reply := (rfl)
@[simp] theorem State.setF_out (a : Nat) (f : Fld) (x : Nat) : (s.setF a f x).out = s.out := (rfl)
@[simp] theorem State.setF_grp (a : Nat) (f : Fld) (x : Nat) : (s.setF a f x).grp = s.grp := (rfl)
@[simp] theorem State.setF_cap (a : Nat) (f : Fld) (x : Nat) : (s.setF a f x).cap = s.cap := (rfl)
@[simp] theorem State.setF_port (a : Nat) (f : Fld) (x : Nat) : (s.setF a f x).port = s.port := (rfl)
@[simp] theorem State.setF_lines (a : Nat) (f : Fld) (x : Nat) : (s.setF a f x).lines = s.lines := (rfl)
@[simp] theorem State.setF_vault (a : Nat) (f : Fld) (x : Nat) : (s.setF a f x).vault = s.vault := (rfl)
@[simp] theorem State.setF_txns (a : Nat) (f : Fld) (x : Nat) : (s.setF a f x).txns = s.txns := (rfl)
@[simp] theorem State.setF_remoteDone (a : Nat) (f : Fld) (x : Nat) : (s.setF a f x).remoteDone = s.remoteDone := (rfl)
@[simp] theorem State.setF_remoteOut (a : Nat) (f : Fld) (x : Nat) : (s.setF a f x).remoteOut = s.remoteOut := (rfl)
@[simp] theorem State.setF_scrub (a : Nat) (f : Fld) (x : Nat) : (s.setF a f x).scrub = s.scrub := (rfl)
@[simp] theorem State.setF_haltReq (a : Nat) (f : Fld) (x : Nat) : (s.setF a f x).haltReq = s.haltReq := (rfl)
@[simp] theorem State.setF_haltOn (a : Nat) (f : Fld) (x : Nat) : (s.setF a f x).haltOn = s.haltOn := (rfl)
@[simp] theorem State.setF_tsy (a : Nat) (f : Fld) (x : Nat) : (s.setF a f x).tsy = s.tsy := (rfl)
@[simp] theorem State.setF_isolated (a : Nat) (f : Fld) (x : Nat) : (s.setF a f x).isolated = s.isolated := (rfl)
@[simp] theorem State.setF_cfgUp (a : Nat) (f : Fld) (x : Nat) : (s.setF a f x).cfgUp = s.cfgUp := (rfl)
@[simp] theorem State.setF_mdsp (a : Nat) (f : Fld) (x : Nat) : (s.setF a f x).mdsp = s.mdsp := (rfl)
@[simp] theorem State.setF_keeper (a : Nat) (f : Fld) (x : Nat) : (s.setF a f x).keeper = s.keeper := (rfl)
@[simp] theorem State.setF_fab (a : Nat) (f : Fld) (x : Nat) : (s.setF a f x).fab = s.fab := (rfl)
@[simp] theorem State.setF_fport (a : Nat) (f : Fld) (x : Nat) : (s.setF a f x).fport = s.fport := (rfl)
@[simp] theorem State.setF_seam (a : Nat) (f : Fld) (x : Nat) : (s.setF a f x).seam = s.seam := (rfl)
@[simp] theorem State.setF_bridge (a : Nat) (f : Fld) (x : Nat) : (s.setF a f x).bridge = s.bridge := (rfl)
@[simp] theorem State.setF_hasRoles (a : Nat) (f : Fld) (x : Nat) : (s.setF a f x).hasRoles = s.hasRoles := (rfl)
@[simp] theorem State.setF_dieDown (a : Nat) (f : Fld) (x : Nat) : (s.setF a f x).dieDown = s.dieDown := (rfl)
@[simp] theorem State.setF_cfg (a : Nat) (f : Fld) (x : Nat) : (s.setF a f x).cfg = s.cfg := (rfl)
@[simp] theorem State.setF_holdupB (a : Nat) (f : Fld) (x : Nat) : (s.setF a f x).holdupB = s.holdupB := (rfl)
@[simp] theorem State.setF_dma (a : Nat) (f : Fld) (x : Nat) : (s.setF a f x).dma = s.dma := (rfl)
@[simp] theorem State.setF_core (a : Nat) (f : Fld) (x : Nat) : (s.setF a f x).core = s.core := (rfl)
@[simp] theorem State.setF_l2 (a : Nat) (f : Fld) (x : Nat) : (s.setF a f x).l2 = s.l2 := (rfl)
@[simp] theorem State.setF_tap (a : Nat) (f : Fld) (x : Nat) : (s.setF a f x).tap = s.tap := (rfl)
@[simp] theorem State.setF_bist (a : Nat) (f : Fld) (x : Nat) : (s.setF a f x).bist = s.bist := (rfl)
@[simp] theorem State.setF_mon (a : Nat) (f : Fld) (x : Nat) : (s.setF a f x).mon = s.mon := (rfl)
@[simp] theorem State.setF_pcie (a : Nat) (f : Fld) (x : Nat) : (s.setF a f x).pcie = s.pcie := (rfl)
@[simp] theorem State.setF_power (a : Nat) (f : Fld) (x : Nat) : (s.setF a f x).power = s.power := (rfl)
@[simp] theorem State.setF_g_eq (a : Nat) (f : Fld) (x : Nat) (i : Fin 24) : (s.setF a f x).g i = s.g i := (rfl)
@[simp] theorem State.setF_c_eq (a : Nat) (f : Fld) (x : Nat) (i : Fin 6) : (s.setF a f x).c i = s.c i := (rfl)
@[simp] theorem State.setF_p_eq (a : Nat) (f : Fld) (x : Nat) (i : Fin 24) : (s.setF a f x).p i = s.p i := (rfl)
@[simp] theorem State.setF_v_eq (a : Nat) (f : Fld) (x : Nat) (i : Fin 64) : (s.setF a f x).v i = s.v i := (rfl)

/-! dropRegs -/

@[simp] theorem State.dropRegs_pending (p : Nat → Bool) : (s.dropRegs p).pending = s.pending := (rfl)
@[simp] theorem State.dropRegs_now (p : Nat → Bool) : (s.dropRegs p).now = s.now := (rfl)
@[simp] theorem State.dropRegs_freeCtr (p : Nat → Bool) : (s.dropRegs p).freeCtr = s.freeCtr := (rfl)
@[simp] theorem State.dropRegs_reply (p : Nat → Bool) : (s.dropRegs p).reply = s.reply := (rfl)
@[simp] theorem State.dropRegs_out (p : Nat → Bool) : (s.dropRegs p).out = s.out := (rfl)
@[simp] theorem State.dropRegs_grp (p : Nat → Bool) : (s.dropRegs p).grp = s.grp := (rfl)
@[simp] theorem State.dropRegs_cap (p : Nat → Bool) : (s.dropRegs p).cap = s.cap := (rfl)
@[simp] theorem State.dropRegs_port (p : Nat → Bool) : (s.dropRegs p).port = s.port := (rfl)
@[simp] theorem State.dropRegs_lines (p : Nat → Bool) : (s.dropRegs p).lines = s.lines := (rfl)
@[simp] theorem State.dropRegs_vault (p : Nat → Bool) : (s.dropRegs p).vault = s.vault := (rfl)
@[simp] theorem State.dropRegs_txns (p : Nat → Bool) : (s.dropRegs p).txns = s.txns := (rfl)
@[simp] theorem State.dropRegs_remoteDone (p : Nat → Bool) : (s.dropRegs p).remoteDone = s.remoteDone := (rfl)
@[simp] theorem State.dropRegs_remoteOut (p : Nat → Bool) : (s.dropRegs p).remoteOut = s.remoteOut := (rfl)
@[simp] theorem State.dropRegs_scrub (p : Nat → Bool) : (s.dropRegs p).scrub = s.scrub := (rfl)
@[simp] theorem State.dropRegs_haltReq (p : Nat → Bool) : (s.dropRegs p).haltReq = s.haltReq := (rfl)
@[simp] theorem State.dropRegs_haltOn (p : Nat → Bool) : (s.dropRegs p).haltOn = s.haltOn := (rfl)
@[simp] theorem State.dropRegs_tsy (p : Nat → Bool) : (s.dropRegs p).tsy = s.tsy := (rfl)
@[simp] theorem State.dropRegs_isolated (p : Nat → Bool) : (s.dropRegs p).isolated = s.isolated := (rfl)
@[simp] theorem State.dropRegs_cfgUp (p : Nat → Bool) : (s.dropRegs p).cfgUp = s.cfgUp := (rfl)
@[simp] theorem State.dropRegs_mdsp (p : Nat → Bool) : (s.dropRegs p).mdsp = s.mdsp := (rfl)
@[simp] theorem State.dropRegs_keeper (p : Nat → Bool) : (s.dropRegs p).keeper = s.keeper := (rfl)
@[simp] theorem State.dropRegs_fab (p : Nat → Bool) : (s.dropRegs p).fab = s.fab := (rfl)
@[simp] theorem State.dropRegs_fport (p : Nat → Bool) : (s.dropRegs p).fport = s.fport := (rfl)
@[simp] theorem State.dropRegs_seam (p : Nat → Bool) : (s.dropRegs p).seam = s.seam := (rfl)
@[simp] theorem State.dropRegs_bridge (p : Nat → Bool) : (s.dropRegs p).bridge = s.bridge := (rfl)
@[simp] theorem State.dropRegs_hasRoles (p : Nat → Bool) : (s.dropRegs p).hasRoles = s.hasRoles := (rfl)
@[simp] theorem State.dropRegs_dieDown (p : Nat → Bool) : (s.dropRegs p).dieDown = s.dieDown := (rfl)
@[simp] theorem State.dropRegs_cfg (p : Nat → Bool) : (s.dropRegs p).cfg = s.cfg := (rfl)
@[simp] theorem State.dropRegs_holdupB (p : Nat → Bool) : (s.dropRegs p).holdupB = s.holdupB := (rfl)
@[simp] theorem State.dropRegs_dma (p : Nat → Bool) : (s.dropRegs p).dma = s.dma := (rfl)
@[simp] theorem State.dropRegs_core (p : Nat → Bool) : (s.dropRegs p).core = s.core := (rfl)
@[simp] theorem State.dropRegs_l2 (p : Nat → Bool) : (s.dropRegs p).l2 = s.l2 := (rfl)
@[simp] theorem State.dropRegs_tap (p : Nat → Bool) : (s.dropRegs p).tap = s.tap := (rfl)
@[simp] theorem State.dropRegs_bist (p : Nat → Bool) : (s.dropRegs p).bist = s.bist := (rfl)
@[simp] theorem State.dropRegs_mon (p : Nat → Bool) : (s.dropRegs p).mon = s.mon := (rfl)
@[simp] theorem State.dropRegs_pcie (p : Nat → Bool) : (s.dropRegs p).pcie = s.pcie := (rfl)
@[simp] theorem State.dropRegs_power (p : Nat → Bool) : (s.dropRegs p).power = s.power := (rfl)
@[simp] theorem State.dropRegs_g_eq (p : Nat → Bool) (i : Fin 24) : (s.dropRegs p).g i = s.g i := (rfl)
@[simp] theorem State.dropRegs_c_eq (p : Nat → Bool) (i : Fin 6) : (s.dropRegs p).c i = s.c i := (rfl)
@[simp] theorem State.dropRegs_p_eq (p : Nat → Bool) (i : Fin 24) : (s.dropRegs p).p i = s.p i := (rfl)
@[simp] theorem State.dropRegs_v_eq (p : Nat → Bool) (i : Fin 64) : (s.dropRegs p).v i = s.v i := (rfl)

/-! at_ -/

@[simp] theorem State.atT_pending (t : Nat) : (s.at_ t).pending = s.pending := (rfl)
@[simp] theorem State.atT_freeCtr (t : Nat) : (s.at_ t).freeCtr = s.freeCtr := (rfl)
@[simp] theorem State.atT_regs (t : Nat) : (s.at_ t).regs = s.regs := (rfl)
@[simp] theorem State.atT_latch (t : Nat) : (s.at_ t).latch = s.latch := (rfl)
@[simp] theorem State.atT_reply (t : Nat) : (s.at_ t).reply = s.reply := (rfl)
@[simp] theorem State.atT_out (t : Nat) : (s.at_ t).out = s.out := (rfl)
@[simp] theorem State.atT_grp (t : Nat) : (s.at_ t).grp = s.grp := (rfl)
@[simp] theorem State.atT_cap (t : Nat) : (s.at_ t).cap = s.cap := (rfl)
@[simp] theorem State.atT_port (t : Nat) : (s.at_ t).port = s.port := (rfl)
@[simp] theorem State.atT_lines (t : Nat) : (s.at_ t).lines = s.lines := (rfl)
@[simp] theorem State.atT_vault (t : Nat) : (s.at_ t).vault = s.vault := (rfl)
@[simp] theorem State.atT_txns (t : Nat) : (s.at_ t).txns = s.txns := (rfl)
@[simp] theorem State.atT_remoteDone (t : Nat) : (s.at_ t).remoteDone = s.remoteDone := (rfl)
@[simp] theorem State.atT_remoteOut (t : Nat) : (s.at_ t).remoteOut = s.remoteOut := (rfl)
@[simp] theorem State.atT_scrub (t : Nat) : (s.at_ t).scrub = s.scrub := (rfl)
@[simp] theorem State.atT_haltReq (t : Nat) : (s.at_ t).haltReq = s.haltReq := (rfl)
@[simp] theorem State.atT_haltOn (t : Nat) : (s.at_ t).haltOn = s.haltOn := (rfl)
@[simp] theorem State.atT_tsy (t : Nat) : (s.at_ t).tsy = s.tsy := (rfl)
@[simp] theorem State.atT_isolated (t : Nat) : (s.at_ t).isolated = s.isolated := (rfl)
@[simp] theorem State.atT_cfgUp (t : Nat) : (s.at_ t).cfgUp = s.cfgUp := (rfl)
@[simp] theorem State.atT_mdsp (t : Nat) : (s.at_ t).mdsp = s.mdsp := (rfl)
@[simp] theorem State.atT_keeper (t : Nat) : (s.at_ t).keeper = s.keeper := (rfl)
@[simp] theorem State.atT_fab (t : Nat) : (s.at_ t).fab = s.fab := (rfl)
@[simp] theorem State.atT_fport (t : Nat) : (s.at_ t).fport = s.fport := (rfl)
@[simp] theorem State.atT_seam (t : Nat) : (s.at_ t).seam = s.seam := (rfl)
@[simp] theorem State.atT_bridge (t : Nat) : (s.at_ t).bridge = s.bridge := (rfl)
@[simp] theorem State.atT_hasRoles (t : Nat) : (s.at_ t).hasRoles = s.hasRoles := (rfl)
@[simp] theorem State.atT_dieDown (t : Nat) : (s.at_ t).dieDown = s.dieDown := (rfl)
@[simp] theorem State.atT_cfg (t : Nat) : (s.at_ t).cfg = s.cfg := (rfl)
@[simp] theorem State.atT_holdupB (t : Nat) : (s.at_ t).holdupB = s.holdupB := (rfl)
@[simp] theorem State.atT_dma (t : Nat) : (s.at_ t).dma = s.dma := (rfl)
@[simp] theorem State.atT_core (t : Nat) : (s.at_ t).core = s.core := (rfl)
@[simp] theorem State.atT_l2 (t : Nat) : (s.at_ t).l2 = s.l2 := (rfl)
@[simp] theorem State.atT_tap (t : Nat) : (s.at_ t).tap = s.tap := (rfl)
@[simp] theorem State.atT_bist (t : Nat) : (s.at_ t).bist = s.bist := (rfl)
@[simp] theorem State.atT_mon (t : Nat) : (s.at_ t).mon = s.mon := (rfl)
@[simp] theorem State.atT_pcie (t : Nat) : (s.at_ t).pcie = s.pcie := (rfl)
@[simp] theorem State.atT_power (t : Nat) : (s.at_ t).power = s.power := (rfl)
@[simp] theorem State.atT_rd (t : Nat) (k : Nat) : (s.at_ t).rd k = s.rd k := (rfl)
@[simp] theorem State.atT_fld (t : Nat) (k : Nat) (e : Fld) : (s.at_ t).fld k e = s.fld k e := (rfl)
@[simp] theorem State.atT_flag (t : Nat) (k : Nat) (e : Fld) : (s.at_ t).flag k e = s.flag k e := (rfl)
@[simp] theorem State.atT_g_eq (t : Nat) (i : Fin 24) : (s.at_ t).g i = s.g i := (rfl)
@[simp] theorem State.atT_c_eq (t : Nat) (i : Fin 6) : (s.at_ t).c i = s.c i := (rfl)
@[simp] theorem State.atT_p_eq (t : Nat) (i : Fin 24) : (s.at_ t).p i = s.p i := (rfl)
@[simp] theorem State.atT_v_eq (t : Nat) (i : Fin 64) : (s.at_ t).v i = s.v i := (rfl)

/-! tick -/

@[simp] theorem State.tick_pending  : (s.tick).pending = s.pending := (rfl)
@[simp] theorem State.tick_freeCtr  : (s.tick).freeCtr = s.freeCtr := (rfl)
@[simp] theorem State.tick_regs  : (s.tick).regs = s.regs := (rfl)
@[simp] theorem State.tick_latch  : (s.tick).latch = s.latch := (rfl)
@[simp] theorem State.tick_reply  : (s.tick).reply = s.reply := (rfl)
@[simp] theorem State.tick_out  : (s.tick).out = s.out := (rfl)
@[simp] theorem State.tick_grp  : (s.tick).grp = s.grp := (rfl)
@[simp] theorem State.tick_cap  : (s.tick).cap = s.cap := (rfl)
@[simp] theorem State.tick_port  : (s.tick).port = s.port := (rfl)
@[simp] theorem State.tick_lines  : (s.tick).lines = s.lines := (rfl)
@[simp] theorem State.tick_vault  : (s.tick).vault = s.vault := (rfl)
@[simp] theorem State.tick_txns  : (s.tick).txns = s.txns := (rfl)
@[simp] theorem State.tick_remoteDone  : (s.tick).remoteDone = s.remoteDone := (rfl)
@[simp] theorem State.tick_remoteOut  : (s.tick).remoteOut = s.remoteOut := (rfl)
@[simp] theorem State.tick_scrub  : (s.tick).scrub = s.scrub := (rfl)
@[simp] theorem State.tick_haltReq  : (s.tick).haltReq = s.haltReq := (rfl)
@[simp] theorem State.tick_haltOn  : (s.tick).haltOn = s.haltOn := (rfl)
@[simp] theorem State.tick_tsy  : (s.tick).tsy = s.tsy := (rfl)
@[simp] theorem State.tick_isolated  : (s.tick).isolated = s.isolated := (rfl)
@[simp] theorem State.tick_cfgUp  : (s.tick).cfgUp = s.cfgUp := (rfl)
@[simp] theorem State.tick_mdsp  : (s.tick).mdsp = s.mdsp := (rfl)
@[simp] theorem State.tick_keeper  : (s.tick).keeper = s.keeper := (rfl)
@[simp] theorem State.tick_fab  : (s.tick).fab = s.fab := (rfl)
@[simp] theorem State.tick_fport  : (s.tick).fport = s.fport := (rfl)
@[simp] theorem State.tick_seam  : (s.tick).seam = s.seam := (rfl)
@[simp] theorem State.tick_bridge  : (s.tick).bridge = s.bridge := (rfl)
@[simp] theorem State.tick_hasRoles  : (s.tick).hasRoles = s.hasRoles := (rfl)
@[simp] theorem State.tick_dieDown  : (s.tick).dieDown = s.dieDown := (rfl)
@[simp] theorem State.tick_cfg  : (s.tick).cfg = s.cfg := (rfl)
@[simp] theorem State.tick_holdupB  : (s.tick).holdupB = s.holdupB := (rfl)
@[simp] theorem State.tick_dma  : (s.tick).dma = s.dma := (rfl)
@[simp] theorem State.tick_core  : (s.tick).core = s.core := (rfl)
@[simp] theorem State.tick_l2  : (s.tick).l2 = s.l2 := (rfl)
@[simp] theorem State.tick_tap  : (s.tick).tap = s.tap := (rfl)
@[simp] theorem State.tick_bist  : (s.tick).bist = s.bist := (rfl)
@[simp] theorem State.tick_mon  : (s.tick).mon = s.mon := (rfl)
@[simp] theorem State.tick_pcie  : (s.tick).pcie = s.pcie := (rfl)
@[simp] theorem State.tick_power  : (s.tick).power = s.power := (rfl)
@[simp] theorem State.tick_rd  (k : Nat) : (s.tick).rd k = s.rd k := (rfl)
@[simp] theorem State.tick_fld  (k : Nat) (e : Fld) : (s.tick).fld k e = s.fld k e := (rfl)
@[simp] theorem State.tick_flag  (k : Nat) (e : Fld) : (s.tick).flag k e = s.flag k e := (rfl)
@[simp] theorem State.tick_g_eq  (i : Fin 24) : (s.tick).g i = s.g i := (rfl)
@[simp] theorem State.tick_c_eq  (i : Fin 6) : (s.tick).c i = s.c i := (rfl)
@[simp] theorem State.tick_p_eq  (i : Fin 24) : (s.tick).p i = s.p i := (rfl)
@[simp] theorem State.tick_v_eq  (i : Fin 64) : (s.tick).v i = s.v i := (rfl)

/-! used -/

@[simp] theorem State.used_pending  : (s.used).pending = s.pending := (rfl)
@[simp] theorem State.used_now  : (s.used).now = s.now := (rfl)
@[simp] theorem State.used_regs  : (s.used).regs = s.regs := (rfl)
@[simp] theorem State.used_latch  : (s.used).latch = s.latch := (rfl)
@[simp] theorem State.used_reply  : (s.used).reply = s.reply := (rfl)
@[simp] theorem State.used_out  : (s.used).out = s.out := (rfl)
@[simp] theorem State.used_grp  : (s.used).grp = s.grp := (rfl)
@[simp] theorem State.used_cap  : (s.used).cap = s.cap := (rfl)
@[simp] theorem State.used_port  : (s.used).port = s.port := (rfl)
@[simp] theorem State.used_lines  : (s.used).lines = s.lines := (rfl)
@[simp] theorem State.used_vault  : (s.used).vault = s.vault := (rfl)
@[simp] theorem State.used_txns  : (s.used).txns = s.txns := (rfl)
@[simp] theorem State.used_remoteDone  : (s.used).remoteDone = s.remoteDone := (rfl)
@[simp] theorem State.used_remoteOut  : (s.used).remoteOut = s.remoteOut := (rfl)
@[simp] theorem State.used_scrub  : (s.used).scrub = s.scrub := (rfl)
@[simp] theorem State.used_haltReq  : (s.used).haltReq = s.haltReq := (rfl)
@[simp] theorem State.used_haltOn  : (s.used).haltOn = s.haltOn := (rfl)
@[simp] theorem State.used_tsy  : (s.used).tsy = s.tsy := (rfl)
@[simp] theorem State.used_isolated  : (s.used).isolated = s.isolated := (rfl)
@[simp] theorem State.used_cfgUp  : (s.used).cfgUp = s.cfgUp := (rfl)
@[simp] theorem State.used_mdsp  : (s.used).mdsp = s.mdsp := (rfl)
@[simp] theorem State.used_keeper  : (s.used).keeper = s.keeper := (rfl)
@[simp] theorem State.used_fab  : (s.used).fab = s.fab := (rfl)
@[simp] theorem State.used_fport  : (s.used).fport = s.fport := (rfl)
@[simp] theorem State.used_seam  : (s.used).seam = s.seam := (rfl)
@[simp] theorem State.used_bridge  : (s.used).bridge = s.bridge := (rfl)
@[simp] theorem State.used_hasRoles  : (s.used).hasRoles = s.hasRoles := (rfl)
@[simp] theorem State.used_dieDown  : (s.used).dieDown = s.dieDown := (rfl)
@[simp] theorem State.used_cfg  : (s.used).cfg = s.cfg := (rfl)
@[simp] theorem State.used_holdupB  : (s.used).holdupB = s.holdupB := (rfl)
@[simp] theorem State.used_dma  : (s.used).dma = s.dma := (rfl)
@[simp] theorem State.used_core  : (s.used).core = s.core := (rfl)
@[simp] theorem State.used_l2  : (s.used).l2 = s.l2 := (rfl)
@[simp] theorem State.used_tap  : (s.used).tap = s.tap := (rfl)
@[simp] theorem State.used_bist  : (s.used).bist = s.bist := (rfl)
@[simp] theorem State.used_mon  : (s.used).mon = s.mon := (rfl)
@[simp] theorem State.used_pcie  : (s.used).pcie = s.pcie := (rfl)
@[simp] theorem State.used_power  : (s.used).power = s.power := (rfl)
@[simp] theorem State.used_rd  (k : Nat) : (s.used).rd k = s.rd k := (rfl)
@[simp] theorem State.used_fld  (k : Nat) (e : Fld) : (s.used).fld k e = s.fld k e := (rfl)
@[simp] theorem State.used_flag  (k : Nat) (e : Fld) : (s.used).flag k e = s.flag k e := (rfl)
@[simp] theorem State.used_g_eq  (i : Fin 24) : (s.used).g i = s.g i := (rfl)
@[simp] theorem State.used_c_eq  (i : Fin 6) : (s.used).c i = s.c i := (rfl)
@[simp] theorem State.used_p_eq  (i : Fin 24) : (s.used).p i = s.p i := (rfl)
@[simp] theorem State.used_v_eq  (i : Fin 64) : (s.used).v i = s.v i := (rfl)

/-! usedN -/

@[simp] theorem State.usedN_pending (n : Nat) : (s.usedN n).pending = s.pending := (rfl)
@[simp] theorem State.usedN_now (n : Nat) : (s.usedN n).now = s.now := (rfl)
@[simp] theorem State.usedN_regs (n : Nat) : (s.usedN n).regs = s.regs := (rfl)
@[simp] theorem State.usedN_latch (n : Nat) : (s.usedN n).latch = s.latch := (rfl)
@[simp] theorem State.usedN_reply (n : Nat) : (s.usedN n).reply = s.reply := (rfl)
@[simp] theorem State.usedN_out (n : Nat) : (s.usedN n).out = s.out := (rfl)
@[simp] theorem State.usedN_grp (n : Nat) : (s.usedN n).grp = s.grp := (rfl)
@[simp] theorem State.usedN_cap (n : Nat) : (s.usedN n).cap = s.cap := (rfl)
@[simp] theorem State.usedN_port (n : Nat) : (s.usedN n).port = s.port := (rfl)
@[simp] theorem State.usedN_lines (n : Nat) : (s.usedN n).lines = s.lines := (rfl)
@[simp] theorem State.usedN_vault (n : Nat) : (s.usedN n).vault = s.vault := (rfl)
@[simp] theorem State.usedN_txns (n : Nat) : (s.usedN n).txns = s.txns := (rfl)
@[simp] theorem State.usedN_remoteDone (n : Nat) : (s.usedN n).remoteDone = s.remoteDone := (rfl)
@[simp] theorem State.usedN_remoteOut (n : Nat) : (s.usedN n).remoteOut = s.remoteOut := (rfl)
@[simp] theorem State.usedN_scrub (n : Nat) : (s.usedN n).scrub = s.scrub := (rfl)
@[simp] theorem State.usedN_haltReq (n : Nat) : (s.usedN n).haltReq = s.haltReq := (rfl)
@[simp] theorem State.usedN_haltOn (n : Nat) : (s.usedN n).haltOn = s.haltOn := (rfl)
@[simp] theorem State.usedN_tsy (n : Nat) : (s.usedN n).tsy = s.tsy := (rfl)
@[simp] theorem State.usedN_isolated (n : Nat) : (s.usedN n).isolated = s.isolated := (rfl)
@[simp] theorem State.usedN_cfgUp (n : Nat) : (s.usedN n).cfgUp = s.cfgUp := (rfl)
@[simp] theorem State.usedN_mdsp (n : Nat) : (s.usedN n).mdsp = s.mdsp := (rfl)
@[simp] theorem State.usedN_keeper (n : Nat) : (s.usedN n).keeper = s.keeper := (rfl)
@[simp] theorem State.usedN_fab (n : Nat) : (s.usedN n).fab = s.fab := (rfl)
@[simp] theorem State.usedN_fport (n : Nat) : (s.usedN n).fport = s.fport := (rfl)
@[simp] theorem State.usedN_seam (n : Nat) : (s.usedN n).seam = s.seam := (rfl)
@[simp] theorem State.usedN_bridge (n : Nat) : (s.usedN n).bridge = s.bridge := (rfl)
@[simp] theorem State.usedN_hasRoles (n : Nat) : (s.usedN n).hasRoles = s.hasRoles := (rfl)
@[simp] theorem State.usedN_dieDown (n : Nat) : (s.usedN n).dieDown = s.dieDown := (rfl)
@[simp] theorem State.usedN_cfg (n : Nat) : (s.usedN n).cfg = s.cfg := (rfl)
@[simp] theorem State.usedN_holdupB (n : Nat) : (s.usedN n).holdupB = s.holdupB := (rfl)
@[simp] theorem State.usedN_dma (n : Nat) : (s.usedN n).dma = s.dma := (rfl)
@[simp] theorem State.usedN_core (n : Nat) : (s.usedN n).core = s.core := (rfl)
@[simp] theorem State.usedN_l2 (n : Nat) : (s.usedN n).l2 = s.l2 := (rfl)
@[simp] theorem State.usedN_tap (n : Nat) : (s.usedN n).tap = s.tap := (rfl)
@[simp] theorem State.usedN_bist (n : Nat) : (s.usedN n).bist = s.bist := (rfl)
@[simp] theorem State.usedN_mon (n : Nat) : (s.usedN n).mon = s.mon := (rfl)
@[simp] theorem State.usedN_pcie (n : Nat) : (s.usedN n).pcie = s.pcie := (rfl)
@[simp] theorem State.usedN_power (n : Nat) : (s.usedN n).power = s.power := (rfl)
@[simp] theorem State.usedN_rd (n : Nat) (k : Nat) : (s.usedN n).rd k = s.rd k := (rfl)
@[simp] theorem State.usedN_fld (n : Nat) (k : Nat) (e : Fld) : (s.usedN n).fld k e = s.fld k e := (rfl)
@[simp] theorem State.usedN_flag (n : Nat) (k : Nat) (e : Fld) : (s.usedN n).flag k e = s.flag k e := (rfl)
@[simp] theorem State.usedN_g_eq (n : Nat) (i : Fin 24) : (s.usedN n).g i = s.g i := (rfl)
@[simp] theorem State.usedN_c_eq (n : Nat) (i : Fin 6) : (s.usedN n).c i = s.c i := (rfl)
@[simp] theorem State.usedN_p_eq (n : Nat) (i : Fin 24) : (s.usedN n).p i = s.p i := (rfl)
@[simp] theorem State.usedN_v_eq (n : Nat) (i : Fin 64) : (s.usedN n).v i = s.v i := (rfl)

/-! emit -/

@[simp] theorem State.emit_pending (o : Output) : (s.emit o).pending = s.pending := (rfl)
@[simp] theorem State.emit_now (o : Output) : (s.emit o).now = s.now := (rfl)
@[simp] theorem State.emit_freeCtr (o : Output) : (s.emit o).freeCtr = s.freeCtr := (rfl)
@[simp] theorem State.emit_regs (o : Output) : (s.emit o).regs = s.regs := (rfl)
@[simp] theorem State.emit_latch (o : Output) : (s.emit o).latch = s.latch := (rfl)
@[simp] theorem State.emit_reply (o : Output) : (s.emit o).reply = s.reply := (rfl)
@[simp] theorem State.emit_grp (o : Output) : (s.emit o).grp = s.grp := (rfl)
@[simp] theorem State.emit_cap (o : Output) : (s.emit o).cap = s.cap := (rfl)
@[simp] theorem State.emit_port (o : Output) : (s.emit o).port = s.port := (rfl)
@[simp] theorem State.emit_lines (o : Output) : (s.emit o).lines = s.lines := (rfl)
@[simp] theorem State.emit_vault (o : Output) : (s.emit o).vault = s.vault := (rfl)
@[simp] theorem State.emit_txns (o : Output) : (s.emit o).txns = s.txns := (rfl)
@[simp] theorem State.emit_remoteDone (o : Output) : (s.emit o).remoteDone = s.remoteDone := (rfl)
@[simp] theorem State.emit_remoteOut (o : Output) : (s.emit o).remoteOut = s.remoteOut := (rfl)
@[simp] theorem State.emit_scrub (o : Output) : (s.emit o).scrub = s.scrub := (rfl)
@[simp] theorem State.emit_haltReq (o : Output) : (s.emit o).haltReq = s.haltReq := (rfl)
@[simp] theorem State.emit_haltOn (o : Output) : (s.emit o).haltOn = s.haltOn := (rfl)
@[simp] theorem State.emit_tsy (o : Output) : (s.emit o).tsy = s.tsy := (rfl)
@[simp] theorem State.emit_isolated (o : Output) : (s.emit o).isolated = s.isolated := (rfl)
@[simp] theorem State.emit_cfgUp (o : Output) : (s.emit o).cfgUp = s.cfgUp := (rfl)
@[simp] theorem State.emit_mdsp (o : Output) : (s.emit o).mdsp = s.mdsp := (rfl)
@[simp] theorem State.emit_keeper (o : Output) : (s.emit o).keeper = s.keeper := (rfl)
@[simp] theorem State.emit_fab (o : Output) : (s.emit o).fab = s.fab := (rfl)
@[simp] theorem State.emit_fport (o : Output) : (s.emit o).fport = s.fport := (rfl)
@[simp] theorem State.emit_seam (o : Output) : (s.emit o).seam = s.seam := (rfl)
@[simp] theorem State.emit_bridge (o : Output) : (s.emit o).bridge = s.bridge := (rfl)
@[simp] theorem State.emit_hasRoles (o : Output) : (s.emit o).hasRoles = s.hasRoles := (rfl)
@[simp] theorem State.emit_dieDown (o : Output) : (s.emit o).dieDown = s.dieDown := (rfl)
@[simp] theorem State.emit_cfg (o : Output) : (s.emit o).cfg = s.cfg := (rfl)
@[simp] theorem State.emit_holdupB (o : Output) : (s.emit o).holdupB = s.holdupB := (rfl)
@[simp] theorem State.emit_dma (o : Output) : (s.emit o).dma = s.dma := (rfl)
@[simp] theorem State.emit_core (o : Output) : (s.emit o).core = s.core := (rfl)
@[simp] theorem State.emit_l2 (o : Output) : (s.emit o).l2 = s.l2 := (rfl)
@[simp] theorem State.emit_tap (o : Output) : (s.emit o).tap = s.tap := (rfl)
@[simp] theorem State.emit_bist (o : Output) : (s.emit o).bist = s.bist := (rfl)
@[simp] theorem State.emit_mon (o : Output) : (s.emit o).mon = s.mon := (rfl)
@[simp] theorem State.emit_pcie (o : Output) : (s.emit o).pcie = s.pcie := (rfl)
@[simp] theorem State.emit_power (o : Output) : (s.emit o).power = s.power := (rfl)
@[simp] theorem State.emit_rd (o : Output) (k : Nat) : (s.emit o).rd k = s.rd k := (rfl)
@[simp] theorem State.emit_fld (o : Output) (k : Nat) (e : Fld) : (s.emit o).fld k e = s.fld k e := (rfl)
@[simp] theorem State.emit_flag (o : Output) (k : Nat) (e : Fld) : (s.emit o).flag k e = s.flag k e := (rfl)
@[simp] theorem State.emit_g_eq (o : Output) (i : Fin 24) : (s.emit o).g i = s.g i := (rfl)
@[simp] theorem State.emit_c_eq (o : Output) (i : Fin 6) : (s.emit o).c i = s.c i := (rfl)
@[simp] theorem State.emit_p_eq (o : Output) (i : Fin 24) : (s.emit o).p i = s.p i := (rfl)
@[simp] theorem State.emit_v_eq (o : Output) (i : Fin 64) : (s.emit o).v i = s.v i := (rfl)

/-! answer -/

@[simp] theorem State.answer_pending (r : Resp) (l : List Nat) : (s.answer r l).pending = s.pending := (rfl)
@[simp] theorem State.answer_now (r : Resp) (l : List Nat) : (s.answer r l).now = s.now := (rfl)
@[simp] theorem State.answer_freeCtr (r : Resp) (l : List Nat) : (s.answer r l).freeCtr = s.freeCtr := (rfl)
@[simp] theorem State.answer_regs (r : Resp) (l : List Nat) : (s.answer r l).regs = s.regs := (rfl)
@[simp] theorem State.answer_latch (r : Resp) (l : List Nat) : (s.answer r l).latch = s.latch := (rfl)
@[simp] theorem State.answer_out (r : Resp) (l : List Nat) : (s.answer r l).out = s.out := (rfl)
@[simp] theorem State.answer_grp (r : Resp) (l : List Nat) : (s.answer r l).grp = s.grp := (rfl)
@[simp] theorem State.answer_cap (r : Resp) (l : List Nat) : (s.answer r l).cap = s.cap := (rfl)
@[simp] theorem State.answer_port (r : Resp) (l : List Nat) : (s.answer r l).port = s.port := (rfl)
@[simp] theorem State.answer_lines (r : Resp) (l : List Nat) : (s.answer r l).lines = s.lines := (rfl)
@[simp] theorem State.answer_vault (r : Resp) (l : List Nat) : (s.answer r l).vault = s.vault := (rfl)
@[simp] theorem State.answer_txns (r : Resp) (l : List Nat) : (s.answer r l).txns = s.txns := (rfl)
@[simp] theorem State.answer_remoteDone (r : Resp) (l : List Nat) : (s.answer r l).remoteDone = s.remoteDone := (rfl)
@[simp] theorem State.answer_remoteOut (r : Resp) (l : List Nat) : (s.answer r l).remoteOut = s.remoteOut := (rfl)
@[simp] theorem State.answer_scrub (r : Resp) (l : List Nat) : (s.answer r l).scrub = s.scrub := (rfl)
@[simp] theorem State.answer_haltReq (r : Resp) (l : List Nat) : (s.answer r l).haltReq = s.haltReq := (rfl)
@[simp] theorem State.answer_haltOn (r : Resp) (l : List Nat) : (s.answer r l).haltOn = s.haltOn := (rfl)
@[simp] theorem State.answer_tsy (r : Resp) (l : List Nat) : (s.answer r l).tsy = s.tsy := (rfl)
@[simp] theorem State.answer_isolated (r : Resp) (l : List Nat) : (s.answer r l).isolated = s.isolated := (rfl)
@[simp] theorem State.answer_cfgUp (r : Resp) (l : List Nat) : (s.answer r l).cfgUp = s.cfgUp := (rfl)
@[simp] theorem State.answer_mdsp (r : Resp) (l : List Nat) : (s.answer r l).mdsp = s.mdsp := (rfl)
@[simp] theorem State.answer_keeper (r : Resp) (l : List Nat) : (s.answer r l).keeper = s.keeper := (rfl)
@[simp] theorem State.answer_fab (r : Resp) (l : List Nat) : (s.answer r l).fab = s.fab := (rfl)
@[simp] theorem State.answer_fport (r : Resp) (l : List Nat) : (s.answer r l).fport = s.fport := (rfl)
@[simp] theorem State.answer_seam (r : Resp) (l : List Nat) : (s.answer r l).seam = s.seam := (rfl)
@[simp] theorem State.answer_bridge (r : Resp) (l : List Nat) : (s.answer r l).bridge = s.bridge := (rfl)
@[simp] theorem State.answer_hasRoles (r : Resp) (l : List Nat) : (s.answer r l).hasRoles = s.hasRoles := (rfl)
@[simp] theorem State.answer_dieDown (r : Resp) (l : List Nat) : (s.answer r l).dieDown = s.dieDown := (rfl)
@[simp] theorem State.answer_cfg (r : Resp) (l : List Nat) : (s.answer r l).cfg = s.cfg := (rfl)
@[simp] theorem State.answer_holdupB (r : Resp) (l : List Nat) : (s.answer r l).holdupB = s.holdupB := (rfl)
@[simp] theorem State.answer_dma (r : Resp) (l : List Nat) : (s.answer r l).dma = s.dma := (rfl)
@[simp] theorem State.answer_core (r : Resp) (l : List Nat) : (s.answer r l).core = s.core := (rfl)
@[simp] theorem State.answer_l2 (r : Resp) (l : List Nat) : (s.answer r l).l2 = s.l2 := (rfl)
@[simp] theorem State.answer_tap (r : Resp) (l : List Nat) : (s.answer r l).tap = s.tap := (rfl)
@[simp] theorem State.answer_bist (r : Resp) (l : List Nat) : (s.answer r l).bist = s.bist := (rfl)
@[simp] theorem State.answer_mon (r : Resp) (l : List Nat) : (s.answer r l).mon = s.mon := (rfl)
@[simp] theorem State.answer_pcie (r : Resp) (l : List Nat) : (s.answer r l).pcie = s.pcie := (rfl)
@[simp] theorem State.answer_power (r : Resp) (l : List Nat) : (s.answer r l).power = s.power := (rfl)
@[simp] theorem State.answer_rd (r : Resp) (l : List Nat) (k : Nat) : (s.answer r l).rd k = s.rd k := (rfl)
@[simp] theorem State.answer_fld (r : Resp) (l : List Nat) (k : Nat) (e : Fld) : (s.answer r l).fld k e = s.fld k e := (rfl)
@[simp] theorem State.answer_flag (r : Resp) (l : List Nat) (k : Nat) (e : Fld) : (s.answer r l).flag k e = s.flag k e := (rfl)
@[simp] theorem State.answer_g_eq (r : Resp) (l : List Nat) (i : Fin 24) : (s.answer r l).g i = s.g i := (rfl)
@[simp] theorem State.answer_c_eq (r : Resp) (l : List Nat) (i : Fin 6) : (s.answer r l).c i = s.c i := (rfl)
@[simp] theorem State.answer_p_eq (r : Resp) (l : List Nat) (i : Fin 24) : (s.answer r l).p i = s.p i := (rfl)
@[simp] theorem State.answer_v_eq (r : Resp) (l : List Nat) (i : Fin 64) : (s.answer r l).v i = s.v i := (rfl)

/-! setG -/

@[simp] theorem State.setG_pending (g : Fin 24) (x : Group) : (s.setG g x).pending = s.pending := (rfl)
@[simp] theorem State.setG_now (g : Fin 24) (x : Group) : (s.setG g x).now = s.now := (rfl)
@[simp] theorem State.setG_freeCtr (g : Fin 24) (x : Group) : (s.setG g x).freeCtr = s.freeCtr := (rfl)
@[simp] theorem State.setG_regs (g : Fin 24) (x : Group) : (s.setG g x).regs = s.regs := (rfl)
@[simp] theorem State.setG_latch (g : Fin 24) (x : Group) : (s.setG g x).latch = s.latch := (rfl)
@[simp] theorem State.setG_reply (g : Fin 24) (x : Group) : (s.setG g x).reply = s.reply := (rfl)
@[simp] theorem State.setG_out (g : Fin 24) (x : Group) : (s.setG g x).out = s.out := (rfl)
@[simp] theorem State.setG_cap (g : Fin 24) (x : Group) : (s.setG g x).cap = s.cap := (rfl)
@[simp] theorem State.setG_port (g : Fin 24) (x : Group) : (s.setG g x).port = s.port := (rfl)
@[simp] theorem State.setG_lines (g : Fin 24) (x : Group) : (s.setG g x).lines = s.lines := (rfl)
@[simp] theorem State.setG_vault (g : Fin 24) (x : Group) : (s.setG g x).vault = s.vault := (rfl)
@[simp] theorem State.setG_txns (g : Fin 24) (x : Group) : (s.setG g x).txns = s.txns := (rfl)
@[simp] theorem State.setG_remoteDone (g : Fin 24) (x : Group) : (s.setG g x).remoteDone = s.remoteDone := (rfl)
@[simp] theorem State.setG_remoteOut (g : Fin 24) (x : Group) : (s.setG g x).remoteOut = s.remoteOut := (rfl)
@[simp] theorem State.setG_scrub (g : Fin 24) (x : Group) : (s.setG g x).scrub = s.scrub := (rfl)
@[simp] theorem State.setG_haltReq (g : Fin 24) (x : Group) : (s.setG g x).haltReq = s.haltReq := (rfl)
@[simp] theorem State.setG_haltOn (g : Fin 24) (x : Group) : (s.setG g x).haltOn = s.haltOn := (rfl)
@[simp] theorem State.setG_tsy (g : Fin 24) (x : Group) : (s.setG g x).tsy = s.tsy := (rfl)
@[simp] theorem State.setG_isolated (g : Fin 24) (x : Group) : (s.setG g x).isolated = s.isolated := (rfl)
@[simp] theorem State.setG_cfgUp (g : Fin 24) (x : Group) : (s.setG g x).cfgUp = s.cfgUp := (rfl)
@[simp] theorem State.setG_mdsp (g : Fin 24) (x : Group) : (s.setG g x).mdsp = s.mdsp := (rfl)
@[simp] theorem State.setG_keeper (g : Fin 24) (x : Group) : (s.setG g x).keeper = s.keeper := (rfl)
@[simp] theorem State.setG_fab (g : Fin 24) (x : Group) : (s.setG g x).fab = s.fab := (rfl)
@[simp] theorem State.setG_fport (g : Fin 24) (x : Group) : (s.setG g x).fport = s.fport := (rfl)
@[simp] theorem State.setG_seam (g : Fin 24) (x : Group) : (s.setG g x).seam = s.seam := (rfl)
@[simp] theorem State.setG_bridge (g : Fin 24) (x : Group) : (s.setG g x).bridge = s.bridge := (rfl)
@[simp] theorem State.setG_hasRoles (g : Fin 24) (x : Group) : (s.setG g x).hasRoles = s.hasRoles := (rfl)
@[simp] theorem State.setG_dieDown (g : Fin 24) (x : Group) : (s.setG g x).dieDown = s.dieDown := (rfl)
@[simp] theorem State.setG_cfg (g : Fin 24) (x : Group) : (s.setG g x).cfg = s.cfg := (rfl)
@[simp] theorem State.setG_holdupB (g : Fin 24) (x : Group) : (s.setG g x).holdupB = s.holdupB := (rfl)
@[simp] theorem State.setG_dma (g : Fin 24) (x : Group) : (s.setG g x).dma = s.dma := (rfl)
@[simp] theorem State.setG_core (g : Fin 24) (x : Group) : (s.setG g x).core = s.core := (rfl)
@[simp] theorem State.setG_l2 (g : Fin 24) (x : Group) : (s.setG g x).l2 = s.l2 := (rfl)
@[simp] theorem State.setG_tap (g : Fin 24) (x : Group) : (s.setG g x).tap = s.tap := (rfl)
@[simp] theorem State.setG_bist (g : Fin 24) (x : Group) : (s.setG g x).bist = s.bist := (rfl)
@[simp] theorem State.setG_mon (g : Fin 24) (x : Group) : (s.setG g x).mon = s.mon := (rfl)
@[simp] theorem State.setG_pcie (g : Fin 24) (x : Group) : (s.setG g x).pcie = s.pcie := (rfl)
@[simp] theorem State.setG_power (g : Fin 24) (x : Group) : (s.setG g x).power = s.power := (rfl)
@[simp] theorem State.setG_rd (g : Fin 24) (x : Group) (k : Nat) : (s.setG g x).rd k = s.rd k := (rfl)
@[simp] theorem State.setG_fld (g : Fin 24) (x : Group) (k : Nat) (e : Fld) : (s.setG g x).fld k e = s.fld k e := (rfl)
@[simp] theorem State.setG_flag (g : Fin 24) (x : Group) (k : Nat) (e : Fld) : (s.setG g x).flag k e = s.flag k e := (rfl)
@[simp] theorem State.setG_c_eq (g : Fin 24) (x : Group) (i : Fin 6) : (s.setG g x).c i = s.c i := (rfl)
@[simp] theorem State.setG_p_eq (g : Fin 24) (x : Group) (i : Fin 24) : (s.setG g x).p i = s.p i := (rfl)
@[simp] theorem State.setG_v_eq (g : Fin 24) (x : Group) (i : Fin 64) : (s.setG g x).v i = s.v i := (rfl)

/-! modG -/

@[simp] theorem State.modG_pending (g : Fin 24) (h : Group → Group) : (s.modG g h).pending = s.pending := (rfl)
@[simp] theorem State.modG_now (g : Fin 24) (h : Group → Group) : (s.modG g h).now = s.now := (rfl)
@[simp] theorem State.modG_freeCtr (g : Fin 24) (h : Group → Group) : (s.modG g h).freeCtr = s.freeCtr := (rfl)
@[simp] theorem State.modG_regs (g : Fin 24) (h : Group → Group) : (s.modG g h).regs = s.regs := (rfl)
@[simp] theorem State.modG_latch (g : Fin 24) (h : Group → Group) : (s.modG g h).latch = s.latch := (rfl)
@[simp] theorem State.modG_reply (g : Fin 24) (h : Group → Group) : (s.modG g h).reply = s.reply := (rfl)
@[simp] theorem State.modG_out (g : Fin 24) (h : Group → Group) : (s.modG g h).out = s.out := (rfl)
@[simp] theorem State.modG_cap (g : Fin 24) (h : Group → Group) : (s.modG g h).cap = s.cap := (rfl)
@[simp] theorem State.modG_port (g : Fin 24) (h : Group → Group) : (s.modG g h).port = s.port := (rfl)
@[simp] theorem State.modG_lines (g : Fin 24) (h : Group → Group) : (s.modG g h).lines = s.lines := (rfl)
@[simp] theorem State.modG_vault (g : Fin 24) (h : Group → Group) : (s.modG g h).vault = s.vault := (rfl)
@[simp] theorem State.modG_txns (g : Fin 24) (h : Group → Group) : (s.modG g h).txns = s.txns := (rfl)
@[simp] theorem State.modG_remoteDone (g : Fin 24) (h : Group → Group) : (s.modG g h).remoteDone = s.remoteDone := (rfl)
@[simp] theorem State.modG_remoteOut (g : Fin 24) (h : Group → Group) : (s.modG g h).remoteOut = s.remoteOut := (rfl)
@[simp] theorem State.modG_scrub (g : Fin 24) (h : Group → Group) : (s.modG g h).scrub = s.scrub := (rfl)
@[simp] theorem State.modG_haltReq (g : Fin 24) (h : Group → Group) : (s.modG g h).haltReq = s.haltReq := (rfl)
@[simp] theorem State.modG_haltOn (g : Fin 24) (h : Group → Group) : (s.modG g h).haltOn = s.haltOn := (rfl)
@[simp] theorem State.modG_tsy (g : Fin 24) (h : Group → Group) : (s.modG g h).tsy = s.tsy := (rfl)
@[simp] theorem State.modG_isolated (g : Fin 24) (h : Group → Group) : (s.modG g h).isolated = s.isolated := (rfl)
@[simp] theorem State.modG_cfgUp (g : Fin 24) (h : Group → Group) : (s.modG g h).cfgUp = s.cfgUp := (rfl)
@[simp] theorem State.modG_mdsp (g : Fin 24) (h : Group → Group) : (s.modG g h).mdsp = s.mdsp := (rfl)
@[simp] theorem State.modG_keeper (g : Fin 24) (h : Group → Group) : (s.modG g h).keeper = s.keeper := (rfl)
@[simp] theorem State.modG_fab (g : Fin 24) (h : Group → Group) : (s.modG g h).fab = s.fab := (rfl)
@[simp] theorem State.modG_fport (g : Fin 24) (h : Group → Group) : (s.modG g h).fport = s.fport := (rfl)
@[simp] theorem State.modG_seam (g : Fin 24) (h : Group → Group) : (s.modG g h).seam = s.seam := (rfl)
@[simp] theorem State.modG_bridge (g : Fin 24) (h : Group → Group) : (s.modG g h).bridge = s.bridge := (rfl)
@[simp] theorem State.modG_hasRoles (g : Fin 24) (h : Group → Group) : (s.modG g h).hasRoles = s.hasRoles := (rfl)
@[simp] theorem State.modG_dieDown (g : Fin 24) (h : Group → Group) : (s.modG g h).dieDown = s.dieDown := (rfl)
@[simp] theorem State.modG_cfg (g : Fin 24) (h : Group → Group) : (s.modG g h).cfg = s.cfg := (rfl)
@[simp] theorem State.modG_holdupB (g : Fin 24) (h : Group → Group) : (s.modG g h).holdupB = s.holdupB := (rfl)
@[simp] theorem State.modG_dma (g : Fin 24) (h : Group → Group) : (s.modG g h).dma = s.dma := (rfl)
@[simp] theorem State.modG_core (g : Fin 24) (h : Group → Group) : (s.modG g h).core = s.core := (rfl)
@[simp] theorem State.modG_l2 (g : Fin 24) (h : Group → Group) : (s.modG g h).l2 = s.l2 := (rfl)
@[simp] theorem State.modG_tap (g : Fin 24) (h : Group → Group) : (s.modG g h).tap = s.tap := (rfl)
@[simp] theorem State.modG_bist (g : Fin 24) (h : Group → Group) : (s.modG g h).bist = s.bist := (rfl)
@[simp] theorem State.modG_mon (g : Fin 24) (h : Group → Group) : (s.modG g h).mon = s.mon := (rfl)
@[simp] theorem State.modG_pcie (g : Fin 24) (h : Group → Group) : (s.modG g h).pcie = s.pcie := (rfl)
@[simp] theorem State.modG_power (g : Fin 24) (h : Group → Group) : (s.modG g h).power = s.power := (rfl)
@[simp] theorem State.modG_rd (g : Fin 24) (h : Group → Group) (k : Nat) : (s.modG g h).rd k = s.rd k := (rfl)
@[simp] theorem State.modG_fld (g : Fin 24) (h : Group → Group) (k : Nat) (e : Fld) : (s.modG g h).fld k e = s.fld k e := (rfl)
@[simp] theorem State.modG_flag (g : Fin 24) (h : Group → Group) (k : Nat) (e : Fld) : (s.modG g h).flag k e = s.flag k e := (rfl)
@[simp] theorem State.modG_c_eq (g : Fin 24) (h : Group → Group) (i : Fin 6) : (s.modG g h).c i = s.c i := (rfl)
@[simp] theorem State.modG_p_eq (g : Fin 24) (h : Group → Group) (i : Fin 24) : (s.modG g h).p i = s.p i := (rfl)
@[simp] theorem State.modG_v_eq (g : Fin 24) (h : Group → Group) (i : Fin 64) : (s.modG g h).v i = s.v i := (rfl)

/-! setC -/

@[simp] theorem State.setC_pending (d : Fin 6) (x : Capture) : (s.setC d x).pending = s.pending := (rfl)
@[simp] theorem State.setC_now (d : Fin 6) (x : Capture) : (s.setC d x).now = s.now := (rfl)
@[simp] theorem State.setC_freeCtr (d : Fin 6) (x : Capture) : (s.setC d x).freeCtr = s.freeCtr := (rfl)
@[simp] theorem State.setC_regs (d : Fin 6) (x : Capture) : (s.setC d x).regs = s.regs := (rfl)
@[simp] theorem State.setC_latch (d : Fin 6) (x : Capture) : (s.setC d x).latch = s.latch := (rfl)
@[simp] theorem State.setC_reply (d : Fin 6) (x : Capture) : (s.setC d x).reply = s.reply := (rfl)
@[simp] theorem State.setC_out (d : Fin 6) (x : Capture) : (s.setC d x).out = s.out := (rfl)
@[simp] theorem State.setC_grp (d : Fin 6) (x : Capture) : (s.setC d x).grp = s.grp := (rfl)
@[simp] theorem State.setC_port (d : Fin 6) (x : Capture) : (s.setC d x).port = s.port := (rfl)
@[simp] theorem State.setC_lines (d : Fin 6) (x : Capture) : (s.setC d x).lines = s.lines := (rfl)
@[simp] theorem State.setC_vault (d : Fin 6) (x : Capture) : (s.setC d x).vault = s.vault := (rfl)
@[simp] theorem State.setC_txns (d : Fin 6) (x : Capture) : (s.setC d x).txns = s.txns := (rfl)
@[simp] theorem State.setC_remoteDone (d : Fin 6) (x : Capture) : (s.setC d x).remoteDone = s.remoteDone := (rfl)
@[simp] theorem State.setC_remoteOut (d : Fin 6) (x : Capture) : (s.setC d x).remoteOut = s.remoteOut := (rfl)
@[simp] theorem State.setC_scrub (d : Fin 6) (x : Capture) : (s.setC d x).scrub = s.scrub := (rfl)
@[simp] theorem State.setC_haltReq (d : Fin 6) (x : Capture) : (s.setC d x).haltReq = s.haltReq := (rfl)
@[simp] theorem State.setC_haltOn (d : Fin 6) (x : Capture) : (s.setC d x).haltOn = s.haltOn := (rfl)
@[simp] theorem State.setC_tsy (d : Fin 6) (x : Capture) : (s.setC d x).tsy = s.tsy := (rfl)
@[simp] theorem State.setC_isolated (d : Fin 6) (x : Capture) : (s.setC d x).isolated = s.isolated := (rfl)
@[simp] theorem State.setC_cfgUp (d : Fin 6) (x : Capture) : (s.setC d x).cfgUp = s.cfgUp := (rfl)
@[simp] theorem State.setC_mdsp (d : Fin 6) (x : Capture) : (s.setC d x).mdsp = s.mdsp := (rfl)
@[simp] theorem State.setC_keeper (d : Fin 6) (x : Capture) : (s.setC d x).keeper = s.keeper := (rfl)
@[simp] theorem State.setC_fab (d : Fin 6) (x : Capture) : (s.setC d x).fab = s.fab := (rfl)
@[simp] theorem State.setC_fport (d : Fin 6) (x : Capture) : (s.setC d x).fport = s.fport := (rfl)
@[simp] theorem State.setC_seam (d : Fin 6) (x : Capture) : (s.setC d x).seam = s.seam := (rfl)
@[simp] theorem State.setC_bridge (d : Fin 6) (x : Capture) : (s.setC d x).bridge = s.bridge := (rfl)
@[simp] theorem State.setC_hasRoles (d : Fin 6) (x : Capture) : (s.setC d x).hasRoles = s.hasRoles := (rfl)
@[simp] theorem State.setC_dieDown (d : Fin 6) (x : Capture) : (s.setC d x).dieDown = s.dieDown := (rfl)
@[simp] theorem State.setC_cfg (d : Fin 6) (x : Capture) : (s.setC d x).cfg = s.cfg := (rfl)
@[simp] theorem State.setC_holdupB (d : Fin 6) (x : Capture) : (s.setC d x).holdupB = s.holdupB := (rfl)
@[simp] theorem State.setC_dma (d : Fin 6) (x : Capture) : (s.setC d x).dma = s.dma := (rfl)
@[simp] theorem State.setC_core (d : Fin 6) (x : Capture) : (s.setC d x).core = s.core := (rfl)
@[simp] theorem State.setC_l2 (d : Fin 6) (x : Capture) : (s.setC d x).l2 = s.l2 := (rfl)
@[simp] theorem State.setC_tap (d : Fin 6) (x : Capture) : (s.setC d x).tap = s.tap := (rfl)
@[simp] theorem State.setC_bist (d : Fin 6) (x : Capture) : (s.setC d x).bist = s.bist := (rfl)
@[simp] theorem State.setC_mon (d : Fin 6) (x : Capture) : (s.setC d x).mon = s.mon := (rfl)
@[simp] theorem State.setC_pcie (d : Fin 6) (x : Capture) : (s.setC d x).pcie = s.pcie := (rfl)
@[simp] theorem State.setC_power (d : Fin 6) (x : Capture) : (s.setC d x).power = s.power := (rfl)
@[simp] theorem State.setC_rd (d : Fin 6) (x : Capture) (k : Nat) : (s.setC d x).rd k = s.rd k := (rfl)
@[simp] theorem State.setC_fld (d : Fin 6) (x : Capture) (k : Nat) (e : Fld) : (s.setC d x).fld k e = s.fld k e := (rfl)
@[simp] theorem State.setC_flag (d : Fin 6) (x : Capture) (k : Nat) (e : Fld) : (s.setC d x).flag k e = s.flag k e := (rfl)
@[simp] theorem State.setC_g_eq (d : Fin 6) (x : Capture) (i : Fin 24) : (s.setC d x).g i = s.g i := (rfl)
@[simp] theorem State.setC_p_eq (d : Fin 6) (x : Capture) (i : Fin 24) : (s.setC d x).p i = s.p i := (rfl)
@[simp] theorem State.setC_v_eq (d : Fin 6) (x : Capture) (i : Fin 64) : (s.setC d x).v i = s.v i := (rfl)

/-! modC -/

@[simp] theorem State.modC_pending (d : Fin 6) (h : Capture → Capture) : (s.modC d h).pending = s.pending := (rfl)
@[simp] theorem State.modC_now (d : Fin 6) (h : Capture → Capture) : (s.modC d h).now = s.now := (rfl)
@[simp] theorem State.modC_freeCtr (d : Fin 6) (h : Capture → Capture) : (s.modC d h).freeCtr = s.freeCtr := (rfl)
@[simp] theorem State.modC_regs (d : Fin 6) (h : Capture → Capture) : (s.modC d h).regs = s.regs := (rfl)
@[simp] theorem State.modC_latch (d : Fin 6) (h : Capture → Capture) : (s.modC d h).latch = s.latch := (rfl)
@[simp] theorem State.modC_reply (d : Fin 6) (h : Capture → Capture) : (s.modC d h).reply = s.reply := (rfl)
@[simp] theorem State.modC_out (d : Fin 6) (h : Capture → Capture) : (s.modC d h).out = s.out := (rfl)
@[simp] theorem State.modC_grp (d : Fin 6) (h : Capture → Capture) : (s.modC d h).grp = s.grp := (rfl)
@[simp] theorem State.modC_port (d : Fin 6) (h : Capture → Capture) : (s.modC d h).port = s.port := (rfl)
@[simp] theorem State.modC_lines (d : Fin 6) (h : Capture → Capture) : (s.modC d h).lines = s.lines := (rfl)
@[simp] theorem State.modC_vault (d : Fin 6) (h : Capture → Capture) : (s.modC d h).vault = s.vault := (rfl)
@[simp] theorem State.modC_txns (d : Fin 6) (h : Capture → Capture) : (s.modC d h).txns = s.txns := (rfl)
@[simp] theorem State.modC_remoteDone (d : Fin 6) (h : Capture → Capture) : (s.modC d h).remoteDone = s.remoteDone := (rfl)
@[simp] theorem State.modC_remoteOut (d : Fin 6) (h : Capture → Capture) : (s.modC d h).remoteOut = s.remoteOut := (rfl)
@[simp] theorem State.modC_scrub (d : Fin 6) (h : Capture → Capture) : (s.modC d h).scrub = s.scrub := (rfl)
@[simp] theorem State.modC_haltReq (d : Fin 6) (h : Capture → Capture) : (s.modC d h).haltReq = s.haltReq := (rfl)
@[simp] theorem State.modC_haltOn (d : Fin 6) (h : Capture → Capture) : (s.modC d h).haltOn = s.haltOn := (rfl)
@[simp] theorem State.modC_tsy (d : Fin 6) (h : Capture → Capture) : (s.modC d h).tsy = s.tsy := (rfl)
@[simp] theorem State.modC_isolated (d : Fin 6) (h : Capture → Capture) : (s.modC d h).isolated = s.isolated := (rfl)
@[simp] theorem State.modC_cfgUp (d : Fin 6) (h : Capture → Capture) : (s.modC d h).cfgUp = s.cfgUp := (rfl)
@[simp] theorem State.modC_mdsp (d : Fin 6) (h : Capture → Capture) : (s.modC d h).mdsp = s.mdsp := (rfl)
@[simp] theorem State.modC_keeper (d : Fin 6) (h : Capture → Capture) : (s.modC d h).keeper = s.keeper := (rfl)
@[simp] theorem State.modC_fab (d : Fin 6) (h : Capture → Capture) : (s.modC d h).fab = s.fab := (rfl)
@[simp] theorem State.modC_fport (d : Fin 6) (h : Capture → Capture) : (s.modC d h).fport = s.fport := (rfl)
@[simp] theorem State.modC_seam (d : Fin 6) (h : Capture → Capture) : (s.modC d h).seam = s.seam := (rfl)
@[simp] theorem State.modC_bridge (d : Fin 6) (h : Capture → Capture) : (s.modC d h).bridge = s.bridge := (rfl)
@[simp] theorem State.modC_hasRoles (d : Fin 6) (h : Capture → Capture) : (s.modC d h).hasRoles = s.hasRoles := (rfl)
@[simp] theorem State.modC_dieDown (d : Fin 6) (h : Capture → Capture) : (s.modC d h).dieDown = s.dieDown := (rfl)
@[simp] theorem State.modC_cfg (d : Fin 6) (h : Capture → Capture) : (s.modC d h).cfg = s.cfg := (rfl)
@[simp] theorem State.modC_holdupB (d : Fin 6) (h : Capture → Capture) : (s.modC d h).holdupB = s.holdupB := (rfl)
@[simp] theorem State.modC_dma (d : Fin 6) (h : Capture → Capture) : (s.modC d h).dma = s.dma := (rfl)
@[simp] theorem State.modC_core (d : Fin 6) (h : Capture → Capture) : (s.modC d h).core = s.core := (rfl)
@[simp] theorem State.modC_l2 (d : Fin 6) (h : Capture → Capture) : (s.modC d h).l2 = s.l2 := (rfl)
@[simp] theorem State.modC_tap (d : Fin 6) (h : Capture → Capture) : (s.modC d h).tap = s.tap := (rfl)
@[simp] theorem State.modC_bist (d : Fin 6) (h : Capture → Capture) : (s.modC d h).bist = s.bist := (rfl)
@[simp] theorem State.modC_mon (d : Fin 6) (h : Capture → Capture) : (s.modC d h).mon = s.mon := (rfl)
@[simp] theorem State.modC_pcie (d : Fin 6) (h : Capture → Capture) : (s.modC d h).pcie = s.pcie := (rfl)
@[simp] theorem State.modC_power (d : Fin 6) (h : Capture → Capture) : (s.modC d h).power = s.power := (rfl)
@[simp] theorem State.modC_rd (d : Fin 6) (h : Capture → Capture) (k : Nat) : (s.modC d h).rd k = s.rd k := (rfl)
@[simp] theorem State.modC_fld (d : Fin 6) (h : Capture → Capture) (k : Nat) (e : Fld) : (s.modC d h).fld k e = s.fld k e := (rfl)
@[simp] theorem State.modC_flag (d : Fin 6) (h : Capture → Capture) (k : Nat) (e : Fld) : (s.modC d h).flag k e = s.flag k e := (rfl)
@[simp] theorem State.modC_g_eq (d : Fin 6) (h : Capture → Capture) (i : Fin 24) : (s.modC d h).g i = s.g i := (rfl)
@[simp] theorem State.modC_p_eq (d : Fin 6) (h : Capture → Capture) (i : Fin 24) : (s.modC d h).p i = s.p i := (rfl)
@[simp] theorem State.modC_v_eq (d : Fin 6) (h : Capture → Capture) (i : Fin 64) : (s.modC d h).v i = s.v i := (rfl)

/-! setP -/

@[simp] theorem State.setP_pending (q : Fin 24) (x : MemPort) : (s.setP q x).pending = s.pending := (rfl)
@[simp] theorem State.setP_now (q : Fin 24) (x : MemPort) : (s.setP q x).now = s.now := (rfl)
@[simp] theorem State.setP_freeCtr (q : Fin 24) (x : MemPort) : (s.setP q x).freeCtr = s.freeCtr := (rfl)
@[simp] theorem State.setP_regs (q : Fin 24) (x : MemPort) : (s.setP q x).regs = s.regs := (rfl)
@[simp] theorem State.setP_latch (q : Fin 24) (x : MemPort) : (s.setP q x).latch = s.latch := (rfl)
@[simp] theorem State.setP_reply (q : Fin 24) (x : MemPort) : (s.setP q x).reply = s.reply := (rfl)
@[simp] theorem State.setP_out (q : Fin 24) (x : MemPort) : (s.setP q x).out = s.out := (rfl)
@[simp] theorem State.setP_grp (q : Fin 24) (x : MemPort) : (s.setP q x).grp = s.grp := (rfl)
@[simp] theorem State.setP_cap (q : Fin 24) (x : MemPort) : (s.setP q x).cap = s.cap := (rfl)
@[simp] theorem State.setP_lines (q : Fin 24) (x : MemPort) : (s.setP q x).lines = s.lines := (rfl)
@[simp] theorem State.setP_vault (q : Fin 24) (x : MemPort) : (s.setP q x).vault = s.vault := (rfl)
@[simp] theorem State.setP_txns (q : Fin 24) (x : MemPort) : (s.setP q x).txns = s.txns := (rfl)
@[simp] theorem State.setP_remoteDone (q : Fin 24) (x : MemPort) : (s.setP q x).remoteDone = s.remoteDone := (rfl)
@[simp] theorem State.setP_remoteOut (q : Fin 24) (x : MemPort) : (s.setP q x).remoteOut = s.remoteOut := (rfl)
@[simp] theorem State.setP_scrub (q : Fin 24) (x : MemPort) : (s.setP q x).scrub = s.scrub := (rfl)
@[simp] theorem State.setP_haltReq (q : Fin 24) (x : MemPort) : (s.setP q x).haltReq = s.haltReq := (rfl)
@[simp] theorem State.setP_haltOn (q : Fin 24) (x : MemPort) : (s.setP q x).haltOn = s.haltOn := (rfl)
@[simp] theorem State.setP_tsy (q : Fin 24) (x : MemPort) : (s.setP q x).tsy = s.tsy := (rfl)
@[simp] theorem State.setP_isolated (q : Fin 24) (x : MemPort) : (s.setP q x).isolated = s.isolated := (rfl)
@[simp] theorem State.setP_cfgUp (q : Fin 24) (x : MemPort) : (s.setP q x).cfgUp = s.cfgUp := (rfl)
@[simp] theorem State.setP_mdsp (q : Fin 24) (x : MemPort) : (s.setP q x).mdsp = s.mdsp := (rfl)
@[simp] theorem State.setP_keeper (q : Fin 24) (x : MemPort) : (s.setP q x).keeper = s.keeper := (rfl)
@[simp] theorem State.setP_fab (q : Fin 24) (x : MemPort) : (s.setP q x).fab = s.fab := (rfl)
@[simp] theorem State.setP_fport (q : Fin 24) (x : MemPort) : (s.setP q x).fport = s.fport := (rfl)
@[simp] theorem State.setP_seam (q : Fin 24) (x : MemPort) : (s.setP q x).seam = s.seam := (rfl)
@[simp] theorem State.setP_bridge (q : Fin 24) (x : MemPort) : (s.setP q x).bridge = s.bridge := (rfl)
@[simp] theorem State.setP_hasRoles (q : Fin 24) (x : MemPort) : (s.setP q x).hasRoles = s.hasRoles := (rfl)
@[simp] theorem State.setP_dieDown (q : Fin 24) (x : MemPort) : (s.setP q x).dieDown = s.dieDown := (rfl)
@[simp] theorem State.setP_cfg (q : Fin 24) (x : MemPort) : (s.setP q x).cfg = s.cfg := (rfl)
@[simp] theorem State.setP_holdupB (q : Fin 24) (x : MemPort) : (s.setP q x).holdupB = s.holdupB := (rfl)
@[simp] theorem State.setP_dma (q : Fin 24) (x : MemPort) : (s.setP q x).dma = s.dma := (rfl)
@[simp] theorem State.setP_core (q : Fin 24) (x : MemPort) : (s.setP q x).core = s.core := (rfl)
@[simp] theorem State.setP_l2 (q : Fin 24) (x : MemPort) : (s.setP q x).l2 = s.l2 := (rfl)
@[simp] theorem State.setP_tap (q : Fin 24) (x : MemPort) : (s.setP q x).tap = s.tap := (rfl)
@[simp] theorem State.setP_bist (q : Fin 24) (x : MemPort) : (s.setP q x).bist = s.bist := (rfl)
@[simp] theorem State.setP_mon (q : Fin 24) (x : MemPort) : (s.setP q x).mon = s.mon := (rfl)
@[simp] theorem State.setP_pcie (q : Fin 24) (x : MemPort) : (s.setP q x).pcie = s.pcie := (rfl)
@[simp] theorem State.setP_power (q : Fin 24) (x : MemPort) : (s.setP q x).power = s.power := (rfl)
@[simp] theorem State.setP_rd (q : Fin 24) (x : MemPort) (k : Nat) : (s.setP q x).rd k = s.rd k := (rfl)
@[simp] theorem State.setP_fld (q : Fin 24) (x : MemPort) (k : Nat) (e : Fld) : (s.setP q x).fld k e = s.fld k e := (rfl)
@[simp] theorem State.setP_flag (q : Fin 24) (x : MemPort) (k : Nat) (e : Fld) : (s.setP q x).flag k e = s.flag k e := (rfl)
@[simp] theorem State.setP_g_eq (q : Fin 24) (x : MemPort) (i : Fin 24) : (s.setP q x).g i = s.g i := (rfl)
@[simp] theorem State.setP_c_eq (q : Fin 24) (x : MemPort) (i : Fin 6) : (s.setP q x).c i = s.c i := (rfl)
@[simp] theorem State.setP_v_eq (q : Fin 24) (x : MemPort) (i : Fin 64) : (s.setP q x).v i = s.v i := (rfl)

/-! setV -/

@[simp] theorem State.setV_pending (n : Fin 64) (x : Vault) : (s.setV n x).pending = s.pending := (rfl)
@[simp] theorem State.setV_now (n : Fin 64) (x : Vault) : (s.setV n x).now = s.now := (rfl)
@[simp] theorem State.setV_freeCtr (n : Fin 64) (x : Vault) : (s.setV n x).freeCtr = s.freeCtr := (rfl)
@[simp] theorem State.setV_regs (n : Fin 64) (x : Vault) : (s.setV n x).regs = s.regs := (rfl)
@[simp] theorem State.setV_latch (n : Fin 64) (x : Vault) : (s.setV n x).latch = s.latch := (rfl)
@[simp] theorem State.setV_reply (n : Fin 64) (x : Vault) : (s.setV n x).reply = s.reply := (rfl)
@[simp] theorem State.setV_out (n : Fin 64) (x : Vault) : (s.setV n x).out = s.out := (rfl)
@[simp] theorem State.setV_grp (n : Fin 64) (x : Vault) : (s.setV n x).grp = s.grp := (rfl)
@[simp] theorem State.setV_cap (n : Fin 64) (x : Vault) : (s.setV n x).cap = s.cap := (rfl)
@[simp] theorem State.setV_port (n : Fin 64) (x : Vault) : (s.setV n x).port = s.port := (rfl)
@[simp] theorem State.setV_lines (n : Fin 64) (x : Vault) : (s.setV n x).lines = s.lines := (rfl)
@[simp] theorem State.setV_txns (n : Fin 64) (x : Vault) : (s.setV n x).txns = s.txns := (rfl)
@[simp] theorem State.setV_remoteDone (n : Fin 64) (x : Vault) : (s.setV n x).remoteDone = s.remoteDone := (rfl)
@[simp] theorem State.setV_remoteOut (n : Fin 64) (x : Vault) : (s.setV n x).remoteOut = s.remoteOut := (rfl)
@[simp] theorem State.setV_scrub (n : Fin 64) (x : Vault) : (s.setV n x).scrub = s.scrub := (rfl)
@[simp] theorem State.setV_haltReq (n : Fin 64) (x : Vault) : (s.setV n x).haltReq = s.haltReq := (rfl)
@[simp] theorem State.setV_haltOn (n : Fin 64) (x : Vault) : (s.setV n x).haltOn = s.haltOn := (rfl)
@[simp] theorem State.setV_tsy (n : Fin 64) (x : Vault) : (s.setV n x).tsy = s.tsy := (rfl)
@[simp] theorem State.setV_isolated (n : Fin 64) (x : Vault) : (s.setV n x).isolated = s.isolated := (rfl)
@[simp] theorem State.setV_cfgUp (n : Fin 64) (x : Vault) : (s.setV n x).cfgUp = s.cfgUp := (rfl)
@[simp] theorem State.setV_mdsp (n : Fin 64) (x : Vault) : (s.setV n x).mdsp = s.mdsp := (rfl)
@[simp] theorem State.setV_keeper (n : Fin 64) (x : Vault) : (s.setV n x).keeper = s.keeper := (rfl)
@[simp] theorem State.setV_fab (n : Fin 64) (x : Vault) : (s.setV n x).fab = s.fab := (rfl)
@[simp] theorem State.setV_fport (n : Fin 64) (x : Vault) : (s.setV n x).fport = s.fport := (rfl)
@[simp] theorem State.setV_seam (n : Fin 64) (x : Vault) : (s.setV n x).seam = s.seam := (rfl)
@[simp] theorem State.setV_bridge (n : Fin 64) (x : Vault) : (s.setV n x).bridge = s.bridge := (rfl)
@[simp] theorem State.setV_hasRoles (n : Fin 64) (x : Vault) : (s.setV n x).hasRoles = s.hasRoles := (rfl)
@[simp] theorem State.setV_dieDown (n : Fin 64) (x : Vault) : (s.setV n x).dieDown = s.dieDown := (rfl)
@[simp] theorem State.setV_cfg (n : Fin 64) (x : Vault) : (s.setV n x).cfg = s.cfg := (rfl)
@[simp] theorem State.setV_holdupB (n : Fin 64) (x : Vault) : (s.setV n x).holdupB = s.holdupB := (rfl)
@[simp] theorem State.setV_dma (n : Fin 64) (x : Vault) : (s.setV n x).dma = s.dma := (rfl)
@[simp] theorem State.setV_core (n : Fin 64) (x : Vault) : (s.setV n x).core = s.core := (rfl)
@[simp] theorem State.setV_l2 (n : Fin 64) (x : Vault) : (s.setV n x).l2 = s.l2 := (rfl)
@[simp] theorem State.setV_tap (n : Fin 64) (x : Vault) : (s.setV n x).tap = s.tap := (rfl)
@[simp] theorem State.setV_bist (n : Fin 64) (x : Vault) : (s.setV n x).bist = s.bist := (rfl)
@[simp] theorem State.setV_mon (n : Fin 64) (x : Vault) : (s.setV n x).mon = s.mon := (rfl)
@[simp] theorem State.setV_pcie (n : Fin 64) (x : Vault) : (s.setV n x).pcie = s.pcie := (rfl)
@[simp] theorem State.setV_power (n : Fin 64) (x : Vault) : (s.setV n x).power = s.power := (rfl)
@[simp] theorem State.setV_rd (n : Fin 64) (x : Vault) (k : Nat) : (s.setV n x).rd k = s.rd k := (rfl)
@[simp] theorem State.setV_fld (n : Fin 64) (x : Vault) (k : Nat) (e : Fld) : (s.setV n x).fld k e = s.fld k e := (rfl)
@[simp] theorem State.setV_flag (n : Fin 64) (x : Vault) (k : Nat) (e : Fld) : (s.setV n x).flag k e = s.flag k e := (rfl)
@[simp] theorem State.setV_g_eq (n : Fin 64) (x : Vault) (i : Fin 24) : (s.setV n x).g i = s.g i := (rfl)
@[simp] theorem State.setV_c_eq (n : Fin 64) (x : Vault) (i : Fin 6) : (s.setV n x).c i = s.c i := (rfl)
@[simp] theorem State.setV_p_eq (n : Fin 64) (x : Vault) (i : Fin 24) : (s.setV n x).p i = s.p i := (rfl)

/-! What each update writes -/

@[simp] theorem State.at_now (t : Nat) : (s.at_ t).now = max s.now t := (rfl)
@[simp] theorem State.tick_now : s.tick.now = s.now + 1 := (rfl)
@[simp] theorem State.used_freeCtr : s.used.freeCtr = s.freeCtr + 1 := (rfl)
@[simp] theorem State.usedN_freeCtr (n : Nat) : (s.usedN n).freeCtr = s.freeCtr + n := (rfl)
@[simp] theorem State.emit_out (o : Output) : (s.emit o).out = o :: s.out := (rfl)
@[simp] theorem State.answer_reply (r : Resp) (l : List Nat) : (s.answer r l).reply = ⟨some r, l⟩ := (rfl)
@[simp] theorem State.setG_g_same (g : Fin 24) (x : Group) : (s.setG g x).g g = x := by simp [State.setG, State.g]
@[simp] theorem State.setC_c_same (d : Fin 6) (x : Capture) : (s.setC d x).c d = x := by simp [State.setC, State.c]
@[simp] theorem State.setP_p_same (q : Fin 24) (x : MemPort) : (s.setP q x).p q = x := by simp [State.setP, State.p]
@[simp] theorem State.setV_v_same (n : Fin 64) (x : Vault) : (s.setV n x).v n = x := by simp [State.setV, State.v]
@[simp] theorem State.modG_g_same (g : Fin 24) (h : Group → Group) : (s.modG g h).g g = h (s.g g) := by simp [State.modG]
@[simp] theorem State.modC_c_same (d : Fin 6) (h : Capture → Capture) : (s.modC d h).c d = h (s.c d) := by simp [State.modC]
theorem State.setG_g_other (g k : Fin 24) (x : Group) (h : k ≠ g) : (s.setG g x).g k = s.g k := by
  have : g.val ≠ k.val := fun e => h (Fin.ext e.symm)
  simp [State.setG, State.g, this]
theorem State.setC_c_other (d k : Fin 6) (x : Capture) (h : k ≠ d) : (s.setC d x).c k = s.c k := by
  have : d.val ≠ k.val := fun e => h (Fin.ext e.symm)
  simp [State.setC, State.c, this]
theorem State.setP_p_other (q k : Fin 24) (x : MemPort) (h : k ≠ q) : (s.setP q x).p k = s.p k := by
  have : q.val ≠ k.val := fun e => h (Fin.ext e.symm)
  simp [State.setP, State.p, this]
theorem State.setV_v_other (n k : Fin 64) (x : Vault) (h : k ≠ n) : (s.setV n x).v k = s.v k := by
  have : n.val ≠ k.val := fun e => h (Fin.ext e.symm)
  simp [State.setV, State.v, this]
theorem State.modG_g_other (g k : Fin 24) (f : Group → Group) (h : k ≠ g) : (s.modG g f).g k = s.g k :=
  s.setG_g_other g k _ h
theorem State.modC_c_other (d k : Fin 6) (f : Capture → Capture) (h : k ≠ d) : (s.modC d f).c k = s.c k :=
  s.setC_c_other d k _ h

end Sys2Proof.Machine
end

