-- ==== Sys2Proof/Laws/Store.lean ====
section
/-! SUPPORT. Laws/Store.lean: the laws of a sparse store and of bit fields: a read after a write, the canonical form. -/
namespace Sys2Proof
variable {α : Type}

@[simp] theorem Sparse.find_nil (k : Nat) : Sparse.find ([] : Sparse α) k = none := rfl

theorem Sparse.find_cons (j : Nat) (v : α) (r : Sparse α) (k : Nat) :
    Sparse.find ((j, v) :: r) k = if j = k then some v else Sparse.find r k := rfl

theorem Sparse.find_del (m : Sparse α) (k j : Nat) :
    Sparse.find (Sparse.del m k) j = if j = k then none else Sparse.find m j := by
  induction m with
  | nil => simp [Sparse.del]
  | cons e r ih =>
    obtain ⟨i, v⟩ := e
    simp only [Sparse.del, List.filter_cons] at ih ⊢
    by_cases h : i = k
    · subst h
      simp only [bne_self_eq_false, Bool.false_eq_true, if_false, ih, Sparse.find_cons]
      by_cases h2 : j = i
      · simp [h2]
      · simp [h2, Ne.symm h2]
    · have : (i != k) = true := by simpa using h
      simp only [this, if_true, Sparse.find_cons, ih]
      by_cases h2 : i = j
      · subst h2; simp [h]
      · simp [h2]

theorem Sparse.find_ins (m : Sparse α) (k j : Nat) (v : α) (hk : Sparse.find m k = none) :
    Sparse.find (Sparse.ins m k v) j = if j = k then some v else Sparse.find m j := by
  induction m with
  | nil => simp [Sparse.ins, Sparse.find_cons, eq_comm]
  | cons e r ih =>
    obtain ⟨i, u⟩ := e
    have hi : i ≠ k := by
      intro h; simp [Sparse.find_cons, h] at hk
    have hr : Sparse.find r k = none := by simpa [Sparse.find_cons, hi] using hk
    simp only [Sparse.ins]
    split
    · simp [Sparse.find_cons, eq_comm]
    · rw [Sparse.find_cons, ih hr, Sparse.find_cons]
      by_cases h2 : i = j
      · subst h2; simp [hi]
      · simp [h2]

/-- A read after a write: the value at the key written, what was there at every other key. -/
theorem Sparse.get_put [DecidableEq α] (d : Nat → α) (m : Sparse α) (k j : Nat) (v : α) :
    Sparse.get d (Sparse.put d m k v) j = if j = k then v else Sparse.get d m j := by
  unfold Sparse.put Sparse.get
  split
  · next h =>
    rw [Sparse.find_del]
    by_cases h2 : j = k
    · subst h2; simp [h]
    · simp [h2]
  · rw [Sparse.find_ins _ _ _ _ (by simp [Sparse.find_del]), Sparse.find_del]
    by_cases h2 : j = k
    · simp [h2]
    · simp [h2]

@[simp] theorem Sparse.get_put_same [DecidableEq α] (d : Nat → α) (m : Sparse α) (k : Nat) (v : α) :
    Sparse.get d (Sparse.put d m k v) k = v := by simp [Sparse.get_put]

theorem Sparse.get_put_other [DecidableEq α] (d : Nat → α) (m : Sparse α) (k j : Nat) (v : α) (h : j ≠ k) :
    Sparse.get d (Sparse.put d m k v) j = Sparse.get d m j := by simp [Sparse.get_put, h]

/-! The canonical form -/

theorem Sparse.risesFrom_mono {m : Sparse α} {a b : Nat} (h : a ≤ b) (hm : Sparse.risesFrom b m = true) :
    Sparse.risesFrom a m = true := by
  cases m with
  | nil => rfl
  | cons e r => simp only [Sparse.risesFrom, Bool.and_eq_true, decide_eq_true_eq] at hm ⊢; exact ⟨by omega, hm.2⟩

theorem Sparse.risesFrom_filter {m : Sparse α} (p : Nat × α → Bool) {a : Nat} (hm : Sparse.risesFrom a m = true) :
    Sparse.risesFrom a (m.filter p) = true := by
  induction m generalizing a with
  | nil => rfl
  | cons e r ih =>
    simp only [Sparse.risesFrom, Bool.and_eq_true, decide_eq_true_eq] at hm
    rw [List.filter_cons]
    split
    · simp only [Sparse.risesFrom, Bool.and_eq_true, decide_eq_true_eq]; exact ⟨hm.1, ih hm.2⟩
    · exact Sparse.risesFrom_mono (by omega) (ih hm.2)

theorem Sparse.risesFrom_ins {m : Sparse α} {k a : Nat} (v : α) (hk : Sparse.find m k = none) (ha : a ≤ k)
    (hm : Sparse.risesFrom a m = true) : Sparse.risesFrom a (Sparse.ins m k v) = true := by
  induction m generalizing a with
  | nil => simp [Sparse.ins, Sparse.risesFrom, ha]
  | cons e r ih =>
    obtain ⟨i, u⟩ := e
    have hi : i ≠ k := by intro h; simp [Sparse.find_cons, h] at hk
    have hr : Sparse.find r k = none := by simpa [Sparse.find_cons, hi] using hk
    simp only [Sparse.risesFrom, Bool.and_eq_true, decide_eq_true_eq] at hm
    simp only [Sparse.ins]
    split
    · simp only [Sparse.risesFrom, Bool.and_eq_true, decide_eq_true_eq]; exact ⟨ha, by omega, hm.2⟩
    · simp only [Sparse.risesFrom, Bool.and_eq_true, decide_eq_true_eq]; exact ⟨hm.1, ih hr (by omega) hm.2⟩

theorem Sparse.mem_ins {m : Sparse α} {k : Nat} {v : α} {e : Nat × α} (h : e ∈ Sparse.ins m k v) : e = (k, v) ∨ e ∈ m := by
  induction m with
  | nil => simpa [Sparse.ins] using h
  | cons i r ih =>
    simp only [Sparse.ins] at h
    split at h
    · simpa using h
    · rcases List.mem_cons.1 h with h | h
      · exact .inr (h ▸ List.mem_cons_self)
      · rcases ih h with h | h
        · exact .inl h
        · exact .inr (List.mem_cons_of_mem _ h)

theorem Sparse.canon_nil [DecidableEq α] (d : Nat → α) : Sparse.canon d [] = true := rfl

theorem Sparse.canon_del [DecidableEq α] {d : Nat → α} {m : Sparse α} (k : Nat) (h : Sparse.canon d m = true) :
    Sparse.canon d (Sparse.del m k) = true := by
  simp only [Sparse.canon, Bool.and_eq_true, List.all_eq_true] at h ⊢
  exact ⟨Sparse.risesFrom_filter _ h.1, fun e he => h.2 e (List.mem_filter.1 he).1⟩

/-- A write keeps the canonical form. -/
theorem Sparse.canon_put [DecidableEq α] {d : Nat → α} {m : Sparse α} (k : Nat) (v : α) (h : Sparse.canon d m = true) :
    Sparse.canon d (Sparse.put d m k v) = true := by
  unfold Sparse.put
  split
  · exact Sparse.canon_del k h
  · next hv =>
    have hd := Sparse.canon_del k h
    simp only [Sparse.canon, Bool.and_eq_true, List.all_eq_true] at hd ⊢
    refine ⟨Sparse.risesFrom_ins v (by simp [Sparse.find_del]) (Nat.zero_le _) hd.1, fun e he => ?_⟩
    rcases Sparse.mem_ins he with rfl | he
    · simpa using hv
    · exact hd.2 e he

/-- Dropping entries keeps the canonical form. -/
theorem Sparse.canon_keep [DecidableEq α] {d : Nat → α} {m : Sparse α} (p : Nat → Bool) (h : Sparse.canon d m = true) :
    Sparse.canon d (Sparse.keep p m) = true := by
  simp only [Sparse.canon, Bool.and_eq_true, List.all_eq_true] at h ⊢
  exact ⟨Sparse.risesFrom_filter _ h.1, fun e he => h.2 e (List.mem_filter.1 he).1⟩

/-! Bit fields -/

/-- Bit i of a field that has been written. -/
theorem Fld.testBit_set (f : Fld) (v : Word) (x i : Nat) :
    (f.set v x).getLsbD i = if f.lo ≤ i ∧ i < f.lo + f.w then decide (i < 32) && x.testBit (i - f.lo) else v.getLsbD i := by
  unfold Fld.set Fld.mask
  simp only [BitVec.getLsbD_or, BitVec.getLsbD_and, BitVec.getLsbD_not, BitVec.getLsbD_shiftLeft, BitVec.getLsbD_ofNat,
    Nat.testBit_two_pow_sub_one, Nat.testBit_mod_two_pow]
  by_cases h1 : i < 32
  · by_cases h2 : i < f.lo
    · have : ¬ (f.lo ≤ i) := by omega
      simp [h1, h2, this]
    · by_cases h3 : i - f.lo < f.w
      · have h4 : f.lo ≤ i ∧ i < f.lo + f.w := by omega
        have h5 : i - f.lo < 32 := by omega
        simp [h1, h2, h3, h4, h5]
      · have h4 : ¬ (f.lo ≤ i ∧ i < f.lo + f.w) := by omega
        simp [h1, h2, h3, h4]
  · have h2 : v.getLsbD i = false := BitVec.getLsbD_of_ge _ _ (by omega)
    simp [h1, h2]

/-- Bit i of the value of a field. -/
theorem Fld.testBit_get (f : Fld) (v : Word) (i : Nat) :
    (f.get v).testBit i = (decide (i < f.w) && v.getLsbD (f.lo + i)) := by
  unfold Fld.get
  rw [Nat.testBit_mod_two_pow, BitVec.toNat_ushiftRight, Nat.testBit_shiftRight, BitVec.testBit_toNat]

/-- A field read after it is written gives the low bits written. -/
@[simp] theorem Fld.get_set_same (f : Fld) (v : Word) (x : Nat) (h : f.lo + f.w ≤ 32) :
    f.get (f.set v x) = x % 2 ^ f.w := by
  apply Nat.eq_of_testBit_eq
  intro i
  rw [Fld.testBit_get, Fld.testBit_set, Nat.testBit_mod_two_pow]
  by_cases hi : i < f.w
  · have h1 : f.lo + i < 32 := by omega
    simp [hi, h1]
  · simp [hi]

/-- Writing one field leaves a field that shares no bit with it. -/
theorem Fld.get_set_other (f e : Fld) (v : Word) (x : Nat) (h : f.lo + f.w ≤ e.lo ∨ e.lo + e.w ≤ f.lo) :
    e.get (f.set v x) = e.get v := by
  apply Nat.eq_of_testBit_eq
  intro i
  rw [Fld.testBit_get, Fld.testBit_get, Fld.testBit_set]
  by_cases hi : i < e.w
  · have : ¬ (f.lo ≤ e.lo + i ∧ e.lo + i < f.lo + f.w) := by omega
    simp [this]
  · simp [hi]

/-- A field's value is below two to its width. -/
theorem Fld.get_lt (f : Fld) (v : Word) : f.get v < 2 ^ f.w := Nat.mod_lt _ (Nat.two_pow_pos _)

end Sys2Proof
end

