-- ==== Sys2Proof/Laws/Regs.lean ====
section
/-! SUPPORT. Laws/Regs.lean: a register or a field read after a register or a field is written. -/
namespace Sys2Proof.Machine
variable (s : State)

@[simp] theorem State.wr_rd_same (a : Nat) (v : Word) : (s.wr a v).rd a = v := by simp [State.wr, State.rd]

theorem State.wr_rd_other (a b : Nat) (v : Word) (h : b ≠ a) : (s.wr a v).rd b = s.rd b := by
  simp [State.wr, State.rd, Sparse.get_put, h]

theorem State.setF_rd_same (a : Nat) (f : Fld) (x : Nat) : (s.setF a f x).rd a = f.set (s.rd a) x := by simp [State.setF]

theorem State.setF_rd_other (a b : Nat) (f : Fld) (x : Nat) (h : b ≠ a) : (s.setF a f x).rd b = s.rd b :=
  s.wr_rd_other a b _ h

/-- A field read after it is written. -/
theorem State.setF_fld_same (a : Nat) (f : Fld) (x : Nat) (h : f.lo + f.w ≤ 32) :
    (s.setF a f x).fld a f = x % 2 ^ f.w := by simp [State.setF, State.fld, h]

/-- A field of another register, or one that shares no bit with the field written, is unchanged. -/
theorem State.setF_fld_other (a b : Nat) (f e : Fld) (x : Nat)
    (h : b ≠ a ∨ f.lo + f.w ≤ e.lo ∨ e.lo + e.w ≤ f.lo) : (s.setF a f x).fld b e = s.fld b e := by
  by_cases hb : b = a
  · subst hb
    have h2 : f.lo + f.w ≤ e.lo ∨ e.lo + e.w ≤ f.lo := by rcases h with h | h; exact absurd rfl h; exact h
    simp [State.setF, State.fld, Fld.get_set_other f e _ x h2]
  · simp [State.setF, State.fld, State.wr_rd_other _ _ _ _ hb]

theorem State.wr_fld_other (a b : Nat) (v : Word) (e : Fld) (h : b ≠ a) : (s.wr a v).fld b e = s.fld b e := by
  simp [State.fld, State.wr_rd_other _ _ _ _ h]

/-! The places of the package-level blocks, as numbers -/

theorem packageBase_eq : packageBase = 0x1fff00000000 := by decide
theorem kprBase_eq : kprBase = 0x1fff00010000 := by decide
theorem pcieBase_eq : pcieBase = 0x1fff00020000 := by decide
theorem ptBase_eq : ptBase = 0x1fff00040000 := by decide
theorem tsyBase_eq : tsyBase = 0x1fff00050000 := by decide
theorem ledBase_eq : ledBase = 0x1fff00060000 := by decide
theorem gisBase_eq : gisBase = 0x1fff00070000 := by decide
theorem pkgBase_eq : pkgBase = 0x1fff00080000 := by decide

/-! Flags, raised bits and counters are fields -/

theorem State.raise_eq (a : Nat) (f : Fld) : s.raise a f = s.setF a f 1 := rfl
theorem State.setB_eq (a : Nat) (f : Fld) (b : Bool) : s.setB a f b = s.setF a f (b2n b) := rfl
theorem State.bump_eq (a : Nat) (f : Fld) (n : Nat) : s.bump a f n = s.setF a f (min (s.fld a f + n) (2 ^ f.w - 1)) := rfl

/-- A raised bit reads 1. -/
theorem State.raise_flag (a : Nat) (f : Fld) (h : f.lo + f.w ≤ 32) (hw : f.w = 1) : (s.raise a f).flag a f = true := by
  simp [State.flag, State.raise_eq, State.setF_fld_same _ _ _ _ h, hw]

/-- A write of a register changes no other register. -/
theorem State.wr_frame (a : Nat) (v : Word) : ∀ b, b ≠ a → (s.wr a v).rd b = s.rd b := fun b h => s.wr_rd_other a b v h

/-- The register store stays canonical. -/
theorem State.wr_canon (a : Nat) (v : Word) (h : Sparse.canon resetOf s.regs = true) :
    Sparse.canon resetOf (s.wr a v).regs = true := Sparse.canon_put a v h

theorem State.setF_canon (a : Nat) (f : Fld) (x : Nat) (h : Sparse.canon resetOf s.regs = true) :
    Sparse.canon resetOf (s.setF a f x).regs = true := Sparse.canon_put a _ h

end Sys2Proof.Machine
end

