-- ==== Sys2Proof/Laws/Frame.lean ====
section
/-! SUPPORT. Laws/Frame.lean: how the frames of Safety.lean compose: each update of Machine/Ops.lean keeps them, where it
touches nothing but what they list. -/
namespace Sys2Proof.Machine
variable {s t : State} {g : Fin 24} {d : Fin 6} {as : List Nat}

theorem SameRegs.refl (as : List Nat) (s : State) : SameRegs as s s := fun _ _ => rfl

theorem SameRegs.wr {a : Nat} {v : Word} (h : SameRegs as s t) (ha : a ∈ as) : SameRegs as s (t.wr a v) := by
  intro b hb
  rw [State.wr_rd_other _ _ _ _ (fun e => hb (by rw [e]; exact ha)), h b hb]

theorem SameRegs.setF {a : Nat} {f : Fld} {x : Nat} (h : SameRegs as s t) (ha : a ∈ as) : SameRegs as s (t.setF a f x) :=
  SameRegs.wr h ha

theorem SameRegs.mono {bs : List Nat} (h : SameRegs as s t) (hs : ∀ a, a ∈ as → a ∈ bs) : SameRegs bs s t :=
  fun a ha => h a (fun k => ha (hs a k))

theorem SameRegs.trans {u : State} (h : SameRegs as s t) (k : SameRegs as t u) : SameRegs as s u :=
  fun a ha => (k a ha).trans (h a ha)

theorem OnlyRegs.refl (as : List Nat) (s : State) : OnlyRegs as s s := ⟨rfl, SameRegs.refl as s⟩

theorem OnlyRegs.wr {a : Nat} {v : Word} (h : OnlyRegs as s t) (ha : a ∈ as) : OnlyRegs as s (t.wr a v) :=
  ⟨by rw [State.wr, h.1], SameRegs.wr h.2 ha⟩

theorem OnlyRegs.setF {a : Nat} {f : Fld} {x : Nat} (h : OnlyRegs as s t) (ha : a ∈ as) : OnlyRegs as s (t.setF a f x) :=
  OnlyRegs.wr h ha

theorem OnlyGroup.refl (g : Fin 24) (as : List Nat) (s : State) : OnlyGroup g as s s :=
  ⟨rfl, fun _ _ => rfl, SameRegs.refl as s⟩

theorem OnlyGroup.wr {a : Nat} {v : Word} (h : OnlyGroup g as s t) (ha : a ∈ as) : OnlyGroup g as s (t.wr a v) :=
  ⟨by rw [State.wr, h.1], h.2.1, SameRegs.wr h.2.2 ha⟩

theorem OnlyGroup.setF {a : Nat} {f : Fld} {x : Nat} (h : OnlyGroup g as s t) (ha : a ∈ as) :
    OnlyGroup g as s (t.setF a f x) := OnlyGroup.wr h ha

theorem OnlyGroup.modG {f : Group → Group} (h : OnlyGroup g as s t) : OnlyGroup g as s (t.modG g f) :=
  ⟨by rw [State.modG, State.setG, h.1], fun k hk => by rw [State.modG_g_other _ _ _ _ hk, h.2.1 k hk], h.2.2⟩

theorem OnlyGroup.setG {x : Group} (h : OnlyGroup g as s t) : OnlyGroup g as s (t.setG g x) :=
  ⟨by rw [State.setG, h.1], fun k hk => by rw [State.setG_g_other _ _ _ _ hk, h.2.1 k hk], h.2.2⟩

theorem OnlyGroup.at_ {b : Nat} (h : OnlyGroup g as s t) : OnlyGroup g as s (t.at_ b) :=
  ⟨by rw [State.at_, h.1], h.2.1, h.2.2⟩

theorem OnlyGroup.mono {bs : List Nat} (h : OnlyGroup g as s t) (hs : ∀ a, a ∈ as → a ∈ bs) : OnlyGroup g bs s t :=
  ⟨h.1, h.2.1, h.2.2.mono hs⟩

theorem OnlyCapture.refl (d : Fin 6) (as : List Nat) (s : State) : OnlyCapture d as s s :=
  ⟨rfl, fun _ _ => rfl, SameRegs.refl as s⟩

theorem OnlyCapture.wr {a : Nat} {v : Word} (h : OnlyCapture d as s t) (ha : a ∈ as) : OnlyCapture d as s (t.wr a v) :=
  ⟨by rw [State.wr, h.1], h.2.1, SameRegs.wr h.2.2 ha⟩

theorem OnlyCapture.setF {a : Nat} {f : Fld} {x : Nat} (h : OnlyCapture d as s t) (ha : a ∈ as) :
    OnlyCapture d as s (t.setF a f x) := OnlyCapture.wr h ha

theorem OnlyCapture.modC {f : Capture → Capture} (h : OnlyCapture d as s t) : OnlyCapture d as s (t.modC d f) :=
  ⟨by rw [State.modC, State.setC, h.1], fun k hk => by rw [State.modC_c_other _ _ _ _ hk, h.2.1 k hk], h.2.2⟩

theorem OnlyCapture.setC {x : Capture} (h : OnlyCapture d as s t) : OnlyCapture d as s (t.setC d x) :=
  ⟨by rw [State.setC, h.1], fun k hk => by rw [State.setC_c_other _ _ _ _ hk, h.2.1 k hk], h.2.2⟩

theorem OnlyCapture.at_ {b : Nat} (h : OnlyCapture d as s t) : OnlyCapture d as s (t.at_ b) :=
  ⟨by rw [State.at_, h.1], h.2.1, h.2.2⟩

end Sys2Proof.Machine
end

