-- ==== Sys2Proof/Laws/G6.lean ====
section
/-! SUPPORT. Laws/G6.lean: what an access to G6 can change: every operation of Machine/G6.lean on the way of a transaction
keeps the frame OnlyMemory. -/
namespace Sys2Proof.Machine
variable {s t u : State}

theorem OnlyMemory.refl (s : State) : OnlyMemory s s := ⟨rfl, le_refl _, fun _ _ => rfl⟩

theorem OnlyMemory.trans (h : OnlyMemory s t) (k : OnlyMemory t u) : OnlyMemory s u :=
  ⟨by rw [k.1, h.1], h.2.1.trans k.2.1, fun a ha => (k.2.2 a ha).trans (h.2.2 a ha)⟩

theorem OnlyMemory.wr {a : Nat} {v : Word} (h : OnlyMemory s t) (ha : touchedByMemory a) : OnlyMemory s (t.wr a v) :=
  ⟨by rw [State.wr, h.1], h.2.1, fun b hb => by rw [State.wr_rd_other _ _ _ _ (fun e => hb (by rw [e]; exact ha)), h.2.2 b hb]⟩

theorem OnlyMemory.at_ {n : Nat} (h : OnlyMemory s t) : OnlyMemory s (t.at_ n) :=
  ⟨by rw [State.at_, h.1], h.2.1.trans (Nat.le_max_left _ _), h.2.2⟩

theorem OnlyMemory.setF {a : Nat} {f : Fld} {x : Nat} (h : OnlyMemory s t) (ha : touchedByMemory a) :
    OnlyMemory s (t.setF a f x) := h.wr ha

theorem OnlyMemory.raise {a : Nat} {f : Fld} (h : OnlyMemory s t) (ha : touchedByMemory a) : OnlyMemory s (t.raise a f) := h.wr ha
theorem OnlyMemory.bump {a : Nat} {f : Fld} {n : Nat} (h : OnlyMemory s t) (ha : touchedByMemory a) :
    OnlyMemory s (t.bump a f n) := h.wr ha

theorem OnlyMemory.lines {l : Sparse (Option GLine)} (h : OnlyMemory s t) : OnlyMemory s { t with lines := l } :=
  ⟨by rw [h.1], h.2⟩
theorem OnlyMemory.used (h : OnlyMemory s t) : OnlyMemory s t.used := ⟨by rw [State.used, h.1], h.2⟩
theorem OnlyMemory.setP {q : Fin 24} {x : MemPort} (h : OnlyMemory s t) : OnlyMemory s (t.setP q x) :=
  ⟨by rw [State.setP, h.1], h.2⟩
theorem OnlyMemory.setV {v : Fin 64} {x : Vault} (h : OnlyMemory s t) : OnlyMemory s (t.setV v x) :=
  ⟨by rw [State.setV, h.1], h.2⟩
theorem OnlyMemory.halt (h : OnlyMemory s t) : OnlyMemory s { t with haltReq := true } := ⟨by rw [h.1], h.2⟩

theorem OnlyMemory.seam {v : Vector SeamEnd 18} (h : OnlyMemory s t) : OnlyMemory s { t with seam := v } :=
  ⟨by rw [h.1], h.2⟩
theorem OnlyMemory.setSeam {d k : Nat} {f : SeamEnd → SeamEnd} (h : OnlyMemory s t) : OnlyMemory s (t.setSeam d k f) := h.seam

theorem OnlyMemory.tally {d code n : Nat} (h : OnlyMemory s t) : OnlyMemory s (t.tally d code n) := by
  unfold State.tally
  split
  · exact ⟨by rw [h.1], h.2⟩
  · exact h

/-- Flits change nothing but the ends they leave and a monitor count. -/
theorem OnlyMemory.sendFlit (fuel : Nat) : ∀ {t : State} {d path : Nat}, OnlyMemory s t → OnlyMemory s (t.sendFlit fuel d path) := by
  induction fuel with
  | zero => intro t d path h; exact h
  | succ n ih =>
    intro t d path h
    unfold State.sendFlit
    split
    · exact h
    · split
      · exact h
      · exact ih h.setSeam.tally

theorem OnlyMemory.carry {a b : Nat} (h : OnlyMemory s t) : OnlyMemory s (t.carry a b) := by
  unfold State.carry
  split
  · exact h
  · exact OnlyMemory.sendFlit _ h

theorem OnlyMemory.g6Trip {src a : Nat} (h : OnlyMemory s t) : OnlyMemory s (t.g6Trip src a) := by
  unfold State.g6Trip State.roundTrip
  split
  · exact h
  · split
    · exact h
    · exact OnlyMemory.carry (OnlyMemory.carry h)

/-! The registers touched -/

theorem touched_port (q o : Nat) (ho : o ∈ [0x8, 0x18, 0x20, 0x24, 0x28, 0x2c, 0x30, 0x34]) : touchedByMemory (mempBase q + o) := by
  refine .inl ⟨q % 4, by omega, ?_⟩
  have h : (mempBase q + o) % 2 ^ 32 = 0x7000000 + q % 4 * 0x10000 + o := by
    unfold mempBase dieBase
    simp only [List.mem_cons, List.not_mem_nil, or_false] at ho
    omega
  rw [h]
  simp only [List.mem_cons, List.not_mem_nil, or_false] at ho ⊢
  omega

theorem touched_cause (d : Nat) : touchedByMemory (R.VLT_CAUSE d) := by
  refine .inr (.inl ?_)
  have h : (R.VLT_CAUSE d) % 2 ^ 32 = 0x7080000 := by unfold R.VLT_CAUSE vltBase dieBase; omega
  rw [h]; decide

theorem touched_halt : touchedByMemory (R.VLT_HALT_LO 0) ∧ touchedByMemory (R.VLT_HALT_HI 0) :=
  ⟨.inr (.inl (by decide)), .inr (.inl (by decide))⟩

theorem touched_vault (v : Fin 64) (o : Nat) (ho : o ∈ [0x1004, 0x101c, 0x1020]) :
    touchedByMemory (vltBase 0 + o + v.val * 0x40) := by
  refine .inr (.inr ⟨v.val, v.isLt, ?_⟩)
  have := v.isLt
  have h : (vltBase 0 + o + v.val * 0x40) % 2 ^ 32 = 0x7080000 + o + v.val * 0x40 := by
    unfold vltBase dieBase
    simp only [List.mem_cons, List.not_mem_nil, or_false] at ho
    omega
  rw [h]
  simp only [List.mem_cons, List.not_mem_nil, or_false] at ho ⊢
  omega

theorem touched_MEMP_CAUSE (q : Nat) : touchedByMemory (R.MEMP_CAUSE q) := touched_port q 0x8 (by decide)
theorem touched_MEMP_RH_SRC (q : Nat) : touchedByMemory (R.MEMP_RH_SRC q) := touched_port q 0x18 (by decide)
theorem touched_MEMP_CE_CNT (q : Nat) : touchedByMemory (R.MEMP_CE_CNT q) := touched_port q 0x20 (by decide)
theorem touched_MEMP_UE_CNT (q : Nat) : touchedByMemory (R.MEMP_UE_CNT q) := touched_port q 0x24 (by decide)
theorem touched_MEMP_EDC_CNT (q : Nat) : touchedByMemory (R.MEMP_EDC_CNT q) := touched_port q 0x28 (by decide)
theorem touched_MEMP_RH_CNT (q : Nat) : touchedByMemory (R.MEMP_RH_CNT q) := touched_port q 0x2c (by decide)
theorem touched_MEMP_ELOG_LO (q : Nat) : touchedByMemory (R.MEMP_ELOG_LO q) := touched_port q 0x30 (by decide)
theorem touched_MEMP_ELOG_HI (q : Nat) : touchedByMemory (R.MEMP_ELOG_HI q) := touched_port q 0x34 (by decide)
theorem touched_VLT_V_STAT (v : Fin 64) : touchedByMemory (R.VLT_V_STAT 0 v) := touched_vault v 0x1004 (by decide)
theorem touched_VLT_V_WCNT_LO (v : Fin 64) : touchedByMemory (R.VLT_V_WCNT_LO 0 v) := touched_vault v 0x101c (by decide)
theorem touched_VLT_V_WCNT_HI (v : Fin 64) : touchedByMemory (R.VLT_V_WCNT_HI 0 v) := touched_vault v 0x1020 (by decide)

/-- A register outside the memory ports and vaults of a die's window is not touched. -/
theorem not_touched {a : Nat} (h : a % 2 ^ 32 < 0x7000008 ∨ 0x7081fe0 < a % 2 ^ 32) : ¬ touchedByMemory a := by
  rintro (⟨q, hq, h1, h2⟩ | h1 | ⟨v, hv, h1⟩) <;>
  · simp only [List.mem_cons, List.not_mem_nil, or_false] at h1
    omega

/-! The operations -/

theorem OnlyMemory.elog {q a kind src : Nat} (h : OnlyMemory s t) : OnlyMemory s (t.elog q a kind src) :=
  (h.wr (touched_MEMP_ELOG_LO q)).wr (touched_MEMP_ELOG_HI q)

theorem OnlyMemory.countCe {q n : Nat} (h : OnlyMemory s t) : OnlyMemory s (t.countCe q n) := by
  unfold State.countCe
  split
  · exact h
  · exact (h.tally.bump (touched_MEMP_CE_CNT q)).raise (touched_MEMP_CAUSE q)

theorem OnlyMemory.countUe {q n a kind src : Nat} (h : OnlyMemory s t) : OnlyMemory s (t.countUe q n a kind src) := by
  unfold State.countUe
  split
  · exact h
  · exact ((h.bump (touched_MEMP_UE_CNT q)).raise (touched_MEMP_CAUSE q)).elog

theorem OnlyMemory.rhNow {q : Fin 24} (h : OnlyMemory s t) : OnlyMemory s (t.rhNow q) := by
  unfold State.rhNow
  dsimp only
  split
  · exact h
  · exact h.setP

theorem OnlyMemory.throttleWait {q : Fin 24} {ch src bank : Nat} (h : OnlyMemory s t) :
    OnlyMemory s (t.throttleWait q ch src bank) := by
  unfold State.throttleWait
  dsimp only
  split
  · exact h
  · split
    · exact h.tally.at_.rhNow
    · exact h

theorem OnlyMemory.throttleAt {q : Fin 24} {ch src bank : Nat} {new : Bool} (h : OnlyMemory s t) :
    OnlyMemory s (t.throttleAt q ch src bank new) := by
  unfold State.throttleAt
  dsimp only
  split
  · exact h.setP
  · exact h

theorem OnlyMemory.countRow {q : Fin 24} {ch src bank row : Nat} (h : OnlyMemory s t) :
    OnlyMemory s (t.countRow q ch src bank row) := by
  unfold State.countRow
  dsimp only
  repeat' first
    | exact h
    | exact touched_MEMP_CAUSE q
    | exact touched_MEMP_RH_CNT q
    | exact touched_MEMP_RH_SRC q
    | apply OnlyMemory.raise
    | apply OnlyMemory.bump
    | apply OnlyMemory.wr
    | apply OnlyMemory.throttleAt
    | apply OnlyMemory.setP
    | split

theorem OnlyMemory.activate {q : Fin 24} {ch src : Nat} {act : Option (Nat × Nat)} (h : OnlyMemory s t) :
    OnlyMemory s (t.activate q ch src act) := by
  unfold State.activate
  split
  · exact h
  · dsimp only
    exact h.tally.rhNow.throttleWait.throttleAt.countRow

theorem OnlyMemory.tagFailure {v a kind src : Nat} (h : OnlyMemory s t) : OnlyMemory s (t.tagFailure v a kind src) := by
  unfold State.tagFailure
  split
  · exact h
  · exact (((h.wr touched_halt.1).wr touched_halt.2).raise (touched_cause 0)).halt

theorem OnlyMemory.wrPair {lo hi v : Nat} (h : OnlyMemory s t) (h1 : touchedByMemory lo) (h2 : touchedByMemory hi) :
    OnlyMemory s (t.wrPair lo hi v) := (h.wr h1).wr h2

theorem OnlyMemory.countWrite {v : Fin 64} (h : OnlyMemory s t) : OnlyMemory s (t.countWrite v) := by
  unfold State.countWrite
  dsimp only
  have h1 : ∀ n, OnlyMemory s (t.wrPair (R.VLT_V_WCNT_LO 0 v) (R.VLT_V_WCNT_HI 0 v) n) :=
    fun n => h.wrPair (touched_VLT_V_WCNT_LO v) (touched_VLT_V_WCNT_HI v)
  split
  · exact h1 _
  · split
    · split
      · exact (h1 _).setV
      · exact h1 _
    · split
      · exact (h1 _).raise (touched_VLT_V_STAT v)
      · exact h1 _

theorem OnlyMemory.setLine {key : Nat} {l : Option GLine} (h : OnlyMemory s t) : OnlyMemory s (t.setLine key l) := h.lines

theorem OnlyMemory.storeLine {key a : Nat} {x : Line512} (h : OnlyMemory s t) : OnlyMemory s (t.storeLine key a x) := by
  unfold State.storeLine
  dsimp only
  split
  · exact h.setLine
  · exact h.setLine.countWrite

theorem OnlyMemory.lineRead {key : Nat} (h : OnlyMemory s t) : OnlyMemory s (t.lineRead key) := by
  unfold State.lineRead
  split
  · exact h
  · exact h.used

theorem OnlyMemory.keepMarks {key : Nat} {e : List Ecc} (h : OnlyMemory s t) : OnlyMemory s (t.keepMarks key e) := by
  unfold State.keepMarks
  split
  · exact h.setLine
  · exact h

theorem OnlyMemory.g6ReadLine {q : Fin 24} {key src a mask : Nat} {e : List Ecc} (h : OnlyMemory s t) :
    OnlyMemory s (t.g6ReadLine q key src a mask e).st := by
  unfold State.g6ReadLine
  dsimp only
  split
  · exact h.lineRead.keepMarks.countCe.countUe
  · split
    · exact h.lineRead.keepMarks.countCe.countUe
    · exact h.lineRead.keepMarks.countCe.countUe.tagFailure

theorem OnlyMemory.g6Merge {q : Fin 24} {key src a kind : Nat} {f : Line512 → Line512} {e : List Ecc} (h : OnlyMemory s t) :
    OnlyMemory s (t.g6Merge q key src a kind f e).st := by
  unfold State.g6Merge
  dsimp only
  split
  · exact h.lineRead.keepMarks.countCe.countUe.raise (touched_MEMP_CAUSE q)
  · split
    · exact h.lineRead.keepMarks.countCe.countUe.storeLine
    · exact h.lineRead.keepMarks.countCe.countUe.tagFailure

theorem OnlyMemory.g6AtPort {q : Fin 24} {ch line src a : Nat} {kind : G6Kind} {env : G6Env} (h : OnlyMemory s t) :
    OnlyMemory s (t.g6AtPort q ch line src a kind env).st := by
  have h2 : ∀ w, OnlyMemory s w → OnlyMemory s (w.edcRetry q env.edc) := by
    intro w hw; unfold State.edcRetry; split
    · exact hw
    · exact hw.bump (touched_MEMP_EDC_CNT q)
  have h3 : ∀ w, OnlyMemory s w → OnlyMemory s ((if isFC (q.val / 4) src = true then w.tally (q.val / 4) (0x58 + q.val % 4) 1 else w).activate
      q ch src env.act |>.edcRetry q env.edc) := by
    intro w hw
    refine h2 _ (OnlyMemory.activate ?_)
    split
    · exact hw.tally
    · exact hw
  have h4 := fun n k => h3 _ (h.tally (d := n) (code := k) (n := 1))
  unfold State.g6AtPort
  dsimp only
  split
  · exact h4 _ _
  · split
    · dsimp only
      split
      · exact ((h4 _ _).raise (touched_MEMP_CAUSE q)).elog.setLine
      · exact ((h4 _ _).raise (touched_MEMP_CAUSE q)).elog
    · split
      · exact (h4 _ _).g6ReadLine
      · exact (h4 _ _).storeLine
      · exact (h4 _ _).g6Merge
      · exact (h4 _ _).g6Merge

theorem OnlyMemory.noteAccess {src a : Nat} (h : OnlyMemory s t) : OnlyMemory s (t.noteAccess src a) := by
  unfold State.noteAccess
  split
  · split
    · exact h.raise (touched_cause _)
    · exact h
  · exact h

/-- One access to G6. -/
theorem OnlyMemory.g6Access {src a : Nat} {kind : G6Kind} {env : G6Env} (h : OnlyMemory s t) :
    OnlyMemory s (t.g6Access src a kind env).st := by
  have h1 : ∀ (b : Prop) [Decidable b], OnlyMemory s (if b then t.tally (srcDie src) 0x68 1 else t) := by
    intro b _; split
    · exact h.tally
    · exact h
  unfold State.g6Access
  dsimp only
  generalize h2 : (if 0x38 ≤ srcLocal src ∧ srcLocal src < 0x60 then t.tally (srcDie src) 0x68 1 else t).g6Trip src (a / 64 * 64) = w
  have h3 : OnlyMemory s w := h2 ▸ (h1 _).g6Trip
  split
  · dsimp only
    split
    · exact h3.noteAccess
    · exact h3
  · split
    · exact h3
    · split
      · exact h3.g6AtPort
      · exact h3

theorem OnlyMemory.g6WriteBytes {src : Nat} (fuel : Nat) : ∀ {t : State} {a : Nat} {bytes : List Nat} {envs : List G6Env},
    OnlyMemory s t → OnlyMemory s (t.g6WriteBytes src a bytes envs fuel).2 := by
  induction fuel with
  | zero => intro t a bytes envs h; exact h
  | succ n ih =>
    intro t a bytes envs h
    unfold State.g6WriteBytes
    split
    · exact h
    · exact ih h.g6Access

theorem OnlyMemory.g6ReadBytes {src : Nat} (fuel : Nat) : ∀ {t : State} {a len : Nat} {envs : List G6Env},
    OnlyMemory s t → OnlyMemory s (t.g6ReadBytes src a len envs fuel).2.2 := by
  induction fuel with
  | zero => intro t a len envs h; exact h
  | succ n ih =>
    intro t a len envs h
    unfold State.g6ReadBytes
    split
    · exact h
    · exact ih h.g6Access

end Sys2Proof.Machine
end

