-- ==== Sys2Proof/Laws/Issue.lean ====
section
/-! SUPPORT. Laws/Issue.lean: what the issue of a pattern word does, said once (Machine/Issue.lean). -/
namespace Sys2Proof.Machine
variable {s t : State} {g : Fin 24} {e : List Ecc} {l : Loc} {w : PatWord} {next : Option Loc} {as : List Nat}

/-- A group that can issue has no PAUSE whose end is open. -/
theorem closePause_of_free (h : s.issueBlocked g = false) (u : Nat) : s.closePause g u = s := by
  unfold State.closePause
  split
  · next e he =>
    rw [if_neg]
    rintro ⟨h1, -⟩
    simp [State.issueBlocked, he, h1] at h
  · rfl

/-- The issue of a word that can be issued is its path and then its place behind the words issued before. -/
theorem CanIssue.issue_eq (h : CanIssue s g e l w) (mine : PatWord → Bool) (hm : mine w = true) {f : State}
    (hf : (s.at_ ((s.g g).nextBs - 40 * ns)).flow g l w = .inl f) :
    s.issue g e mine = f.pushWord g l w (s.g g).inEsc ((s.g g).inEsc && !(f.g g).inEsc) := by
  have h1 : s.takeEscape g = s := by simp [State.takeEscape, h.noEscape]
  have h2 : ((s.at_ ((s.g g).nextBs - 40 * ns)).g g).pc = some l := h.place
  have h3 : (s.at_ ((s.g g).nextBs - 40 * ns)).fetch g e l = .word w := h.fetched
  have h4 : (s.at_ ((s.g g).nextBs - 40 * ns)).wordFault g w (((s.at_ ((s.g g).nextBs - 40 * ns)).g g).dec.isSome) = 0 :=
    h.legal
  unfold State.issue
  simp only [closePause_of_free h.free, h.free, h1, Bool.false_eq_true, if_false, h2, h3, hm, if_true]
  unfold State.issueWord
  simp only [h4, ne_eq, not_true_eq_false, if_false, hf]
  rfl

theorem Issued.setF {a : Nat} {f : Fld} {x : Nat} (h : Issued s g l w next as t)
    (ha : a ∈ R.VSQ_STAT g :: R.VSQ_SSTAT g :: R.CH_CAUSE g :: as) : Issued s g l w next as (t.setF a f x) :=
  ⟨h.1, h.2.1, h.2.2.1, h.2.2.2.1, h.2.2.2.2.setF ha⟩

/-- What a word's period and length rest on: the periods of the timing sets, and the gang register. -/
theorem period_congr {f : State} (h : ∀ n, n < 256 → f.rd (R.CH_TS_PERIOD g n) = s.rd (R.CH_TS_PERIOD g n)) :
    f.period g (wordTset w) = s.period g (wordTset w) := by
  have hw : wordTset w < 256 := Nat.mod_lt _ (by decide)
  unfold State.period
  rw [h _ hw]

theorem repsOf_congr {f : State} (h : f.rd (R.VSQ_GANG g) = s.rd (R.VSQ_GANG g)) : f.repsOf g w = s.repsOf g w := by
  unfold State.repsOf State.gangEn State.flag State.fld
  rw [h]

/-- What a checked word leaves, whatever its path `f` was. -/
theorem issued_pushWord {f : State} (hp : (f.g g).pipe = (s.g g).pipe) (hn : (f.g g).nextBs = (s.g g).nextBs)
    (hpc : (f.g g).pc = next) (ht : f.now = max s.now ((s.g g).nextBs - 40 * ns))
    (ho : OnlyGroup g (R.VSQ_STAT g :: R.VSQ_SSTAT g :: R.CH_CAUSE g :: as) s f)
    (hper : f.period g (wordTset w) = s.period g (wordTset w)) (hr : f.repsOf g w = s.repsOf g w) (a b : Bool) :
    Issued s g l w next as (f.pushWord g l w a b) := by
  have hb : Issued s g l w next as (f.modG g (f.pushed g l w a b)) :=
    ⟨⟨f.entryOf g l w a b, by simp [State.pushed, hp], rfl, rfl, hn, hper, hr, rfl⟩,
      by simp [State.pushed, hpc], by simp [State.pushed, hn, hper, hr], ht, ho.modG⟩
  have hc : Issued s g l w next as (f.pushShown g l w a b) := by
    simp only [State.pushShown, State.showStream, State.setB_eq]
    exact ((hb.setF (by simp)).setF (by simp)).setF (by simp)
  unfold State.pushWord
  rw [State.raise_eq]
  split
  · exact hc.setF (by simp)
  · exact hc

/-- The group after the issue of a word. -/
@[simp] theorem pushWord_g (s : State) (g : Fin 24) (l : Loc) (w : PatWord) (a b : Bool) :
    (s.pushWord g l w a b).g g = s.pushed g l w a b (s.g g) := by
  have h : (s.pushShown g l w a b).g g = s.pushed g l w a b (s.g g) := by
    simp [State.pushShown, State.showStream, State.setB_eq]
  unfold State.pushWord
  rw [State.raise_eq]
  split
  · rw [State.setF_g_eq, h]
  · exact h

/-- Registers that the issue's own display does not write are the path's. -/
theorem pushWord_rd (s : State) (g : Fin 24) (l : Loc) (w : PatWord) (a b : Bool) (k : Nat)
    (hk : k ∉ [R.VSQ_STAT g, R.VSQ_SSTAT g, R.CH_CAUSE g]) : (s.pushWord g l w a b).rd k = s.rd k := by
  simp only [List.mem_cons, List.not_mem_nil, or_false, not_or] at hk
  have h : (s.pushShown g l w a b).rd k = s.rd k := by
    simp [State.pushShown, State.showStream, State.setB_eq, State.setF_rd_other, hk]
  unfold State.pushWord
  rw [State.raise_eq]
  split
  · rw [State.setF_rd_other _ _ _ _ _ hk.2.2, h]
  · exact h

/-- Fields that the issue's own display does not write are the path's. -/
theorem pushWord_fld (s : State) (g : Fin 24) (l : Loc) (w : PatWord) (a b : Bool) (k : Nat) (f : Fld)
    (hk : k ∉ [R.VSQ_SSTAT g, R.CH_CAUSE g])
    (hf : k ≠ R.VSQ_STAT g ∨ F.VSQ_STAT_STREAM.lo + F.VSQ_STAT_STREAM.w ≤ f.lo ∨ f.lo + f.w ≤ F.VSQ_STAT_STREAM.lo) :
    (s.pushWord g l w a b).fld k f = s.fld k f := by
  simp only [List.mem_cons, List.not_mem_nil, or_false, not_or] at hk
  have h : (s.pushShown g l w a b).fld k f = s.fld k f := by
    simp [State.pushShown, State.showStream, State.setB_eq, State.setF_fld_other _ _ _ _ _ _ (.inl hk.1),
      State.setF_fld_other _ _ _ _ _ _ hf]
  unfold State.pushWord
  rw [State.raise_eq]
  split
  · rw [State.setF_fld_other _ _ _ _ _ _ (.inl hk.2), h]
  · exact h

end Sys2Proof.Machine
end

