-- ==== Sys2Proof/Tests/Slice0.lean ====
section
/-! SUPPORT. Tests: ill-formed commands are refused, small states meet the hypotheses of the statements (named witness_),
and single steps on values worked out from the spec (named test_). -/
set_option maxRecDepth 4000
namespace Sys2Proof.Tests
open Sys2Proof Sys2Proof.Machine

/-! ### Ill-formed commands are refused by `Instr.wf`, and a well-formed neighbour is not -/

/-- A burst that meets nothing. -/
def calm : G6Env := ⟨[], 0, none, false⟩
/-- Five ECC words: a line has four. -/
def fiveWords : G6Env := ⟨List.replicate 5 .clean, 0, none, false⟩
/-- An activation in bank 16 of 16. -/
def bank16 : G6Env := ⟨[], 0, some (16, 0), false⟩

theorem wf_env : calm.wf = true ∧ fiveWords.wf = false ∧ bank16.wf = false := by decide
theorem wf_vectorStart : (Instr.vectorStart 0 [⟨63, 0, true⟩] [] [319]).wf = true ∧ (Instr.vectorStart 0 [] [] [320]).wf = false ∧
    (Instr.vectorStart 0 [⟨64, 0, true⟩] [] []).wf = false := by decide
theorem wf_counterRead : (Instr.counterRead (.die 0) false [320]).wf = false := by decide
theorem wf_streamFetch : (Instr.streamFetch 0 calm).wf = true ∧ (Instr.streamFetch 0 fiveWords).wf = false := by decide
theorem wf_instrRamRead : (Instr.instrRamRead 0 0x1FFFFF 1 []).wf = true ∧ (Instr.instrRamRead 0 0x200000 1 []).wf = false ∧
    (Instr.instrRamRead 0 0 0 []).wf = false := by decide
theorem wf_instrRamWrite : (Instr.instrRamWrite 0 0 [255] []).wf = true ∧ (Instr.instrRamWrite 0 0 [256] []).wf = false ∧
    (Instr.instrRamWrite 0 0x200000 [0] []).wf = false ∧ (Instr.instrRamWrite 0 0 [] []).wf = false := by decide
theorem wf_bursts : (Instr.logTake 0 bank16).wf = false ∧ (Instr.captureTake 0 [calm, bank16]).wf = false ∧
    (Instr.catchTake 0 false bank16).wf = false ∧ (Instr.orWriteDone 0 false bank16).wf = false ∧
    (Instr.missDone 0 [bank16]).wf = false ∧ (Instr.domainSolve 0 [bank16]).wf = false ∧ (Instr.ledCommit 1 [bank16]).wf = false ∧
    (Instr.mirrorRecord 0 [bank16]).wf = false ∧ (Instr.mirrorAck bank16).wf = false ∧ (Instr.pairing 0 0 0 [bank16]).wf = false ∧
    (Instr.portWdat 0 0 .initiator 0 0 false [bank16]).wf = false ∧ (Instr.scrubLine 0 bank16).wf = false ∧
    (Instr.rekeyLine 0 bank16).wf = false ∧ (Instr.initLine 0 bank16).wf = false ∧
    (Instr.descFetchDone 0 0 [bank16]).wf = false ∧ (Instr.readResponse 0 0 [bank16]).wf = false ∧
    (Instr.writeResponse 0 0 [bank16]).wf = false ∧ (Instr.coreInstruction 0 [] [bank16]).wf = false ∧
    (Instr.l2done 0 [bank16]).wf = false ∧ (Instr.dbgaccRead 0 false false [bank16]).wf = false := by decide
theorem wf_mdsp_upset : (Instr.mdCmpy 0 (List.replicate 32 .clean)).wf = true ∧ (Instr.mdCmpy 0 (List.replicate 33 .clean)).wf = false ∧
    (Instr.mdHalt 0 true (List.replicate 33 .clean)).wf = false := by decide
theorem wf_mdspMemAccess : (Instr.mdspMemAccess 0 0x9FFFC 4 false [] []).wf = true ∧
    (Instr.mdspMemAccess 0 0x9FFFD 4 false [] []).wf = false ∧ (Instr.mdspMemAccess 0 0 4 true [0] []).wf = false := by decide
theorem wf_frameReceive : (Instr.frameReceive 0 0 0 544).wf = true ∧ (Instr.frameReceive 0 0 0 545).wf = false := by decide
theorem wf_bytes : (Instr.bootSearch [0] [256] [] []).wf = false ∧ (Instr.cfgDataWrite [256]).wf = false ∧
    (Instr.cfgDataWrite [255]).wf = true := by decide
theorem wf_scrubFrame : (Instr.scrubFrame 0 0 [(71, 1)] false).wf = true ∧ (Instr.scrubFrame 0 0 [(72, 1)] false).wf = false := by decide
theorem wf_g6Read : (Instr.g6Read 0 0x3F 1 calm).wf = true ∧ (Instr.g6Read 0 0x3F 2 calm).wf = false ∧
    (Instr.g6Read 1024 0 1 calm).wf = false ∧ (Instr.g6Read 0 (2 ^ 40) 1 calm).wf = false ∧ (Instr.g6Read 0 0 0 calm).wf = false := by decide
theorem wf_g6Write : (Instr.g6FullWrite 0 64 0 calm).wf = true ∧ (Instr.g6FullWrite 0 1 0 calm).wf = false ∧
    (Instr.g6PartialWrite 1024 0 0 0 calm).wf = false ∧ (Instr.g6OrWrite 0 (2 ^ 40) 0 calm).wf = false := by decide
theorem wf_dies : (Instr.powerOnReset 0 true [5]).wf = true ∧ (Instr.powerOnReset 0 true [6]).wf = false ∧
    (Instr.pkgRstDevice 0 [6]).wf = false ∧ (Instr.keeperCmdDone true true [6]).wf = false ∧ (Instr.sysreset 0 true [6]).wf = false ∧
    (Instr.sysrstBRelease 0 [6]).wf = false ∧ (Instr.thermalRecover [0, 0, 0, 0, 0] []).wf = false := by decide
theorem wf_thermos : (Instr.wakePt [65]).wf = true ∧ (Instr.wakePt [66]).wf = false ∧ (Instr.pwrReqRun 0 [66]).wf = false ∧
    (Instr.smbPwrReq 0 true [66]).wf = false := by decide
theorem wf_access : (Instr.latchRead 0 0 4096 false []).wf = true ∧ (Instr.latchRead 0 0 4097 false []).wf = false ∧
    (Instr.registerWrite 0 0 [] false []).wf = false ∧ (Instr.registerWrite 0 0 [256] false []).wf = false ∧
    (Instr.pcieInbound 0 0 true 2 [0] []).wf = false ∧ (Instr.pcieInbound 0 (2 ^ 37) false 4 [] []).wf = false := by decide
theorem wf_remote : (Instr.remoteTransaction (.recv 0 ⟨0, 0, 4, false, [], 15, false⟩ [])).wf = true ∧
    (Instr.remoteTransaction (.recv (2 ^ 40) ⟨0, 0, 4, false, [], 15, false⟩ [])).wf = false ∧
    (Instr.remoteTransaction (.recv 0 ⟨0, 2 ^ 48, 4, false, [], 15, false⟩ [])).wf = false ∧
    (Instr.remoteTransaction (.recv 0 ⟨0, 0, 4, false, [], 16, false⟩ [])).wf = false ∧
    (Instr.remoteTransaction (.recv 0 ⟨1024, 0, 4, false, [], 15, false⟩ [])).wf = false := by decide

/-! ### No word spells a command -/

theorem test_decode_none : decodeTableWord 32 0 = none ∧ decodeTableWord 0 5 = none := by decide

theorem wf_word_granules : (Instr.pwNext 0 (List.replicate 4 .ue)).wf = true ∧ (Instr.pwNext 0 (List.replicate 5 .clean)).wf = false ∧
    (Instr.pwHalt 0 (List.replicate 5 .clean)).wf = false := by decide

/-! ### Small states -/

/-- A pattern word: opcode, condition, argument, the rest 0 (02 R34). -/
def word (opc cond arg : Nat) : PatWord := BitVec.ofNat 256 (opc * 2 ^ 248 + cond * 2 ^ 240 + arg * 2 ^ 216)

/-- Group 0 runs, and timing set 0 is valid with a period of 1 ns. -/
def runBase : State :=
  ((State.reset.setF (R.VSQ_STAT 0) F.VSQ_STAT_STATE 2).wr (R.CH_TS_PERIOD 0 0) 8000#32).setF (R.CH_TS_CTRL 0 0)
    F.CH_TS_CTRL_VALID 1

/-- On it, w stands at the place to issue next. -/
def runner (w : PatWord) : State :=
  runBase.modG 0 (fun x => { x with pc := some ⟨false, 0⟩, iram := [(0, w)], nextBs := 1000000 })

theorem canOf {s : State} {g : Fin 24} {e : List Ecc} {l : Loc} {w : PatWord}
    (h : s.issueBlocked g = false ∧ (s.g g).escPt = none ∧ (s.g g).pc = some l ∧ s.fetch g e l = .word w ∧
      s.wordFault g w (s.g g).dec.isSome = 0) : CanIssue s g e l w := ⟨h.1, h.2.1, h.2.2.1, h.2.2.2.1, h.2.2.2.2⟩

/-- The timing set and the waves of a word whose low 216 bits are 0, on the runner with any change to the group. -/
theorem runner_tset (w v : PatWord) (f : Group → Group) (h : w.toNat % 2 ^ 216 = 0) :
    ((runner v).modG 0 f).tsetBad 0 w = false := by
  have h1 : wordTset w = 0 := by unfold wordTset bitsOf; omega
  have h2 : ∀ p, p < 32 → wordPin w p = 0 := by
    intro p hp
    have : w.toNat % 2 ^ (4 * p + 4) = 0 :=
      Nat.mod_eq_zero_of_dvd ((pow_dvd_pow 2 (by omega)).trans (Nat.dvd_of_mod_eq_zero h))
    unfold wordPin bitsOf
    rw [← Nat.mod_mul_right_div_self, ← pow_add, this, Nat.zero_div]
  have h3 : runBase.tsetBad 0 0 = false := by decide
  have h4 : ∀ t : State, t.regs = runBase.regs → t.tsetBad 0 0 = false := by
    intro t ht
    rw [← h3]
    simp only [State.tsetBad, State.flag, State.fld, State.period, State.waveBad, State.waveOf, State.slotCount, State.minSlot, State.dofs,
      State.sofs, State.rd, ht]
    rfl
  have h5 := h4 ((runner v).modG 0 f) (by simp [runner])
  rw [← h5]
  unfold State.tsetBad
  rw [h1, show wordTset 0 = 0 by decide]
  dsimp only
  congr 1
  have h6 : ∀ p, wordPin 0 p = 0 := fun p => by unfold wordPin bitsOf; simp
  rw [Bool.eq_iff_iff]
  simp only [List.any_eq_true, List.mem_range]
  constructor <;> rintro ⟨p, hp, h7⟩ <;> refine ⟨p, hp, ?_⟩ <;> simpa only [h2 p hp, h6] using h7

theorem canRun {v w : PatWord} {f : Group → Group} {l : Loc}
    (h : ((runner v).modG 0 f).issueBlocked 0 = false ∧ (((runner v).modG 0 f).g 0).escPt = none ∧
      (((runner v).modG 0 f).g 0).pc = some l ∧ ((runner v).modG 0 f).fetch 0 [] l = .word w ∧
      w.toNat % 2 ^ 216 = 0 ∧ wordLegal w = true ∧ ((runner v).modG 0 f).gangBad 0 w = false ∧
      (((runner v).modG 0 f).g 0).dec = none ∧ (((runner v).modG 0 f).g 0).forkEnd ≤ (((runner v).modG 0 f).g 0).nextBs) :
    CanIssue ((runner v).modG 0 f) 0 [] l w := by
  obtain ⟨h1, h2, h3, h4, h5, h6, h7, h8, h9⟩ := h
  refine ⟨h1, h2, h3, h4, ?_⟩
  have h10 := runner_tset w v f h5
  unfold State.wordFault
  have h11 : ¬ (((runner v).modG 0 f).g 0).nextBs < (((runner v).modG 0 f).g 0).forkEnd := by omega
  have h12 : ((runner v).modG 0 f).gangBad ((0 : Fin 24) : Nat) w = false := h7
  have h13 : ((runner v).modG 0 f).tsetBad ((0 : Fin 24) : Nat) w = false := h10
  simp only [h6, h8, h11, h12, h13, Option.isSome_none]
  simp

/-! ### Issue of pattern words -/

theorem witness_issue_next : CanIssue ((runner (word 0 0 0)).modG 0 id) 0 [] ⟨false, 0⟩ (word 0 0 0) ∧ wordOpc (word 0 0 0) = 0 :=
  ⟨canRun (by decide), by decide⟩
theorem witness_issue_rpt : CanIssue ((runner (word 7 0 5)).modG 0 id) 0 [] ⟨false, 0⟩ (word 7 0 5) ∧ wordOpc (word 7 0 5) = 7 :=
  ⟨canRun (by decide), by decide⟩
theorem witness_issue_match : CanIssue ((runner (word 8 4 3)).modG 0 id) 0 [] ⟨false, 0⟩ (word 8 4 3) ∧ wordOpc (word 8 4 3) = 8 :=
  ⟨canRun (by decide), by decide⟩
theorem witness_issue_sync : CanIssue ((runner (word 9 0 0)).modG 0 id) 0 [] ⟨false, 0⟩ (word 9 0 0) ∧ wordOpc (word 9 0 0) = 9 :=
  ⟨canRun (by decide), by decide⟩
theorem witness_issue_esc : CanIssue ((runner (word 10 0 1)).modG 0 id) 0 [] ⟨false, 0⟩ (word 10 0 1) ∧ wordOpc (word 10 0 1) = 10 :=
  ⟨canRun (by decide), by decide⟩
theorem witness_issue_trig : CanIssue ((runner (word 11 0 7)).modG 0 id) 0 [] ⟨false, 0⟩ (word 11 0 7) ∧ wordOpc (word 11 0 7) = 11 :=
  ⟨canRun (by decide), by decide⟩
theorem witness_issue_pause : CanIssue ((runner (word 14 0 9)).modG 0 id) 0 [] ⟨false, 0⟩ (word 14 0 9) ∧ wordOpc (word 14 0 9) = 14 :=
  ⟨canRun (by decide), by decide⟩
theorem witness_issue_halt : CanIssue ((runner (word 15 0 1)).modG 0 id) 0 [] ⟨false, 0⟩ (word 15 0 1) ∧ wordOpc (word 15 0 1) = 15 :=
  ⟨canRun (by decide), by decide⟩
theorem witness_issue_jc_ball : CanIssue ((runner (word 2 1 3)).modG 0 id) 0 [] ⟨false, 0⟩ (word 2 1 3) ∧ wordOpc (word 2 1 3) = 2 ∧ ¬ (condClass (wordCond (word 2 1 3)) = .state ∧ ((runner (word 2 1 3)).modG 0 id).condState 0 (wordCond (word 2 1 3)) = true) :=
  ⟨canRun (by decide), by decide⟩
theorem witness_issue_jmp : CanIssue ((runner (word 1 0 65535)).modG 0 id) 0 [] ⟨false, 0⟩ (word 1 0 65535) ∧ wordOpc (word 1 0 65535) = 1 ∧ ((runner (word 1 0 65535)).modG 0 id).target 0 ⟨false, 0⟩ (bitsOf (wordArg (word 1 0 65535)) 0 16) = .inl ⟨false, 65535⟩ :=
  ⟨canRun (by decide), by decide⟩
theorem witness_issue_jc_state : CanIssue ((runner (word 2 0 3)).modG 0 id) 0 [] ⟨false, 0⟩ (word 2 0 3) ∧ wordOpc (word 2 0 3) = 2 ∧ condClass (wordCond (word 2 0 3)) = .state ∧ ((runner (word 2 0 3)).modG 0 id).condState 0 (wordCond (word 2 0 3)) = true ∧ ((runner (word 2 0 3)).modG 0 id).target 0 ⟨false, 0⟩ (bitsOf (wordArg (word 2 0 3)) 0 16) = .inl ⟨false, 3⟩ :=
  ⟨canRun (by decide), by decide⟩
theorem witness_issue_call : CanIssue ((runner (word 3 0 3)).modG 0 (fun x => { x with stack := List.replicate 15 ⟨none, false⟩ })) 0 [] ⟨false, 0⟩ (word 3 0 3) ∧ wordOpc (word 3 0 3) = 3 ∧ ((runner (word 3 0 3)).modG 0 (fun x => { x with stack := List.replicate 15 ⟨none, false⟩ })).condState 0 (wordCond (word 3 0 3)) = true ∧ (((runner (word 3 0 3)).modG 0 (fun x => { x with stack := List.replicate 15 ⟨none, false⟩ })).g 0).stack.length < 16 ∧ ((runner (word 3 0 3)).modG 0 (fun x => { x with stack := List.replicate 15 ⟨none, false⟩ })).target 0 ⟨false, 0⟩ (bitsOf (wordArg (word 3 0 3)) 0 16) = .inl ⟨false, 3⟩ :=
  ⟨canRun (by decide), by decide⟩
theorem witness_issue_call_not_taken : CanIssue ((runner (word 3 128 3)).modG 0 id) 0 [] ⟨false, 0⟩ (word 3 128 3) ∧ wordOpc (word 3 128 3) = 3 ∧ ((runner (word 3 128 3)).modG 0 id).condState 0 (wordCond (word 3 128 3)) = false :=
  ⟨canRun (by decide), by decide⟩
theorem witness_issue_ret : CanIssue ((runner (word 4 0 0)).modG 0 (fun x => { x with stack := [⟨some ⟨false, 9⟩, true⟩], inEsc := true })) 0 [] ⟨false, 0⟩ (word 4 0 0) ∧ wordOpc (word 4 0 0) = 4 ∧ ((runner (word 4 0 0)).modG 0 (fun x => { x with stack := [⟨some ⟨false, 9⟩, true⟩], inEsc := true })).condState 0 (wordCond (word 4 0 0)) = true ∧ (((runner (word 4 0 0)).modG 0 (fun x => { x with stack := [⟨some ⟨false, 9⟩, true⟩], inEsc := true })).g 0).stack = [⟨some ⟨false, 9⟩, true⟩] :=
  ⟨canRun (by decide), by decide⟩
theorem witness_issue_ret_not_taken : CanIssue ((runner (word 4 128 0)).modG 0 id) 0 [] ⟨false, 0⟩ (word 4 128 0) ∧ wordOpc (word 4 128 0) = 4 ∧ ((runner (word 4 128 0)).modG 0 id).condState 0 (wordCond (word 4 128 0)) = false :=
  ⟨canRun (by decide), by decide⟩
theorem witness_issue_lbeg : CanIssue ((runner (word 5 0 14680067)).wr (R.VSQ_LR 0 7) 1#32) 0 [] ⟨false, 0⟩ (word 5 0 14680067) ∧ wordOpc (word 5 0 14680067) = 5 ∧ (((runner (word 5 0 14680067)).modG 0 id).wr (R.VSQ_LR 0 7) 1#32).rd (R.VSQ_LR 0 (bitsOf (wordArg (word 5 0 14680067)) 21 3)) ≠ 0 :=
  ⟨canOf (by decide), by decide⟩
theorem witness_issue_lbeg_skip : CanIssue ((runner (word 5 0 14680067)).modG 0 id) 0 [] ⟨false, 0⟩ (word 5 0 14680067) ∧ wordOpc (word 5 0 14680067) = 5 ∧ ((runner (word 5 0 14680067)).modG 0 id).rd (R.VSQ_LR 0 (bitsOf (wordArg (word 5 0 14680067)) 21 3)) = 0 ∧ ((runner (word 5 0 14680067)).modG 0 id).target 0 ⟨false, 0⟩ (bitsOf (wordArg (word 5 0 14680067)) 0 16) = .inl ⟨false, 3⟩ :=
  ⟨canRun (by decide), by decide⟩
theorem witness_issue_lend_back : CanIssue ((runner (word 6 0 14680067)).wr (R.VSQ_LC 0 7) 2#32) 0 [] ⟨false, 0⟩ (word 6 0 14680067) ∧ wordOpc (word 6 0 14680067) = 6 ∧ 2 ≤ ((((runner (word 6 0 14680067)).modG 0 id).wr (R.VSQ_LC 0 7) 2#32).rd (R.VSQ_LC 0 (bitsOf (wordArg (word 6 0 14680067)) 21 3))).toNat ∧ (((runner (word 6 0 14680067)).modG 0 id).wr (R.VSQ_LC 0 7) 2#32).target 0 ⟨false, 0⟩ (bitsOf (wordArg (word 6 0 14680067)) 0 16) = .inl ⟨false, 3⟩ :=
  ⟨canOf (by decide), by decide⟩
theorem witness_issue_lend_done : CanIssue ((runner (word 6 0 14680067)).wr (R.VSQ_LC 0 7) 1#32) 0 [] ⟨false, 0⟩ (word 6 0 14680067) ∧ wordOpc (word 6 0 14680067) = 6 ∧ ((((runner (word 6 0 14680067)).modG 0 id).wr (R.VSQ_LC 0 7) 1#32).rd (R.VSQ_LC 0 (bitsOf (wordArg (word 6 0 14680067)) 21 3))).toNat ≤ 1 :=
  ⟨canOf (by decide), by decide⟩
theorem witness_issue_seta_0_0 : CanIssue ((runner (word 12 0 65535)).modG 0 id) 0 [] ⟨false, 0⟩ (word 12 0 65535) ∧ wordOpc (word 12 0 65535) = 0xC ∧ bitsOf (wordArg (word 12 0 65535)) 16 3 = 0 ∧ bitsOf (wordArg (word 12 0 65535)) 19 5 = 0 :=
  ⟨canRun (by decide), by decide⟩
theorem witness_issue_seta_2_15 : CanIssue ((runner (word 12 0 8060927)).modG 0 id) 0 [] ⟨false, 0⟩ (word 12 0 8060927) ∧ wordOpc (word 12 0 8060927) = 0xC ∧ bitsOf (wordArg (word 12 0 8060927)) 16 3 = 2 ∧ bitsOf (wordArg (word 12 0 8060927)) 19 5 = 15 :=
  ⟨canRun (by decide), by decide⟩
theorem witness_issue_seta_3_7 : CanIssue ((runner (word 12 0 3932159)).modG 0 id) 0 [] ⟨false, 0⟩ (word 12 0 3932159) ∧ wordOpc (word 12 0 3932159) = 0xC ∧ bitsOf (wordArg (word 12 0 3932159)) 16 3 = 3 ∧ bitsOf (wordArg (word 12 0 3932159)) 19 5 = 7 :=
  ⟨canRun (by decide), by decide⟩
theorem witness_issue_seta_4_19 : CanIssue ((runner (word 12 0 10223619)).modG 0 id) 0 [] ⟨false, 0⟩ (word 12 0 10223619) ∧ wordOpc (word 12 0 10223619) = 0xC ∧ bitsOf (wordArg (word 12 0 10223619)) 16 3 = 4 ∧ bitsOf (wordArg (word 12 0 10223619)) 19 5 = 19 :=
  ⟨canRun (by decide), by decide⟩
theorem witness_issue_stream_enter : CanIssue ((runner (word 13 0 0)).modG 0 id) 0 [] ⟨false, 0⟩ (word 13 0 0) ∧ wordOpc (word 13 0 0) = 0xD ∧ bitsOf (wordArg (word 13 0 0)) 22 2 = 0 :=
  ⟨canRun (by decide), by decide⟩
theorem witness_issue_stream_exit : CanIssue ((runner (word 13 0 4194381)).modG 0 id) 0 [] ⟨false, 0⟩ (word 13 0 4194381) ∧ wordOpc (word 13 0 4194381) = 0xD ∧ bitsOf (wordArg (word 13 0 4194381)) 22 2 = 1 :=
  ⟨canRun (by decide), by decide⟩
theorem witness_issue_stream_arm : CanIssue ((runner (word 13 0 8388611)).modG 0 id) 0 [] ⟨false, 0⟩ (word 13 0 8388611) ∧ wordOpc (word 13 0 8388611) = 0xD ∧ bitsOf (wordArg (word 13 0 8388611)) 22 2 = 2 :=
  ⟨canRun (by decide), by decide⟩
theorem witness_issue_none : ((runner 0).setPc 0 none).issueBlocked 0 = false ∧ (((runner 0).setPc 0 none).g 0).escPt = none ∧
    (((runner 0).setPc 0 none).g 0).pc = none := by decide
theorem witness_issue_stream_bad : ((runner 0).setPc 0 (some ⟨true, 0⟩)).issueBlocked 0 = false ∧
    (((runner 0).setPc 0 (some ⟨true, 0⟩)).g 0).escPt = none ∧ (((runner 0).setPc 0 (some ⟨true, 0⟩)).g 0).pc = some ⟨true, 0⟩ ∧
    ((runner 0).setPc 0 (some ⟨true, 0⟩)).fetch 0 [] ⟨true, 0⟩ = .bad 0x06 := by decide
theorem witness_issue_reserved : (runner (word 16 0 0)).issueBlocked 0 = false ∧ ((runner (word 16 0 0)).g 0).escPt = none ∧
    ((runner (word 16 0 0)).g 0).pc = some ⟨false, 0⟩ ∧ (runner (word 16 0 0)).fetch 0 [] ⟨false, 0⟩ = .word (word 16 0 0) ∧ 0x10 ≤ wordOpc (word 16 0 0) := by decide

/-! ### Run control -/

/-- All dies are configured and reachable. -/
def up : State := { State.reset with cfgUp := Vector.replicate 6 true, isolated := Vector.replicate 6 false }
/-- Group 0 released. -/
def released : State := up.setF (R.CH_GCTRL 0) F.CH_GCTRL_REL 1
/-- Group 0 in a state of VSQ_STAT.STATE. -/
def inState (n : Nat) : State := State.reset.setF (R.VSQ_STAT 0) F.VSQ_STAT_STATE n
/-- Group 0 in RUN with pattern words on their way. -/
def running (es : List PatEntry) : State := (inState 2).modG 0 (fun x => { x with pipe := es })
/-- A word on its way: d of its vectors have started. -/
def entry (w : PatWord) (r : Reps) (d : Nat) : PatEntry := ⟨w, ⟨false, 0⟩, 1000000, 8000, r, d, false, false, false, none⟩

theorem witness_start : (inState 0).startIgnored 0 0 = true ∧ released.startIgnored 0 0 = false ∧ released.gangEn 0 = false ∧
    released.fdFenced 0 = false := by decide
theorem witness_start_armed : (released.wr (R.VSQ_START_PT_LO 0) 100#32).startIgnored 0 1 = false ∧
    (released.wr (R.VSQ_START_PT_LO 0) 99#32).startIgnored 0 1 = true ∧ released.startIgnored 0 2 = true ∧
    (released.wr (R.VSQ_START_PT_LO 0) 100#32).gangEn 0 = false ∧ (released.wr (R.VSQ_START_PT_LO 0) 100#32).fdFenced 0 = false := by
  decide
theorem witness_armed : (inState 1).vstat 0 = 1 ∧ (inState 1).gangEn 0 = false := by decide
theorem witness_abort : (inState 2).vstat 0 = 2 ∧ (inState 3).vstat 0 = 3 := by decide
theorem witness_resume : (inState 3).vstat 0 = 3 ∧ ((inState 3).g 0).resumeAt = none ∧ ((inState 3).g 0).resumed = false ∧ (inState 2).vstat 0 ≠ 3 := by decide
/-- Region 0 maps 1 MB of device channel 0, whose port is READY and zeroed. -/
def withMemory : State :=
  ((((up.setF (R.MEMP_CTRL 0) F.MEMP_CTRL_EXPD 1).setF (R.MEMP_STAT 0) F.MEMP_STAT_STATE 2).wr (R.PROM_REG_SIZE 0 0) 1#32).setF
    (R.PROM_REG_CTRL 0 0) F.PROM_REG_CTRL_EN 1).setP 0 { State.reset.p 0 with zeroed := true }
/-- On it, the stream of group 0 is armed. -/
def streaming : State := withMemory.modG 0 (fun x => { x with sArmed := true })
theorem witness_stream_fetch : (streaming.g 0).sArmed = true ∧ (streaming.g 0).sF < (streaming.g 0).sH1 + 4096 ∧
    (streaming.g6ReadBytes (vsqSrc 0) (streaming.rdPair (R.VSQ_SBASE_LO 0) (R.VSQ_SBASE_HI 0) + 32 * (streaming.g 0).sF) 32
      [calm] 1).1 = .ok := by decide
theorem witness_disarm : (State.reset.g 0).smode = false := by decide
theorem witness_iram_denied : (inState 1).vstat 0 = 1 := by decide
theorem witness_iram_write : (inState 0).vstat 0 ≠ 1 ∧ (inState 0).vstat 0 ≠ 2 ∧ ((inState 0).g 0).iramUe = [] ∧
    bytesWf [1, 255] = true ∧ 0x1FFFFE + [1, 255].length ≤ 0x200000 := by decide

/-! ### Decisions, SYNC, stops and vector boundaries -/

/-- A decision on the condition FAIL of the vector that ends at 1,008,000, at its decision point, with that vector's result. -/
def deciding (res : Bool) : State :=
  (inState 2).modG 0 (fun x => { x with
    dec := some ⟨1, ⟨false, 0⟩, 65535, 1008000, 32000, 0, some 1040000⟩, nextBs := 1040000, results := [(1008000, 0, res)] })
theorem witness_jc_taken : (deciding true).running 0 = true ∧ (deciding true).reached 0 1040000 = true ∧
    (deciding true).known 0 1 1008000 0 = .val true ∧ (deciding true).target 0 ⟨false, 0⟩ 65535 = .inl ⟨false, 65535⟩ := by decide
theorem witness_jc_not_taken : (deciding false).running 0 = true ∧ (deciding false).reached 0 1040000 = true ∧
    (deciding false).known 0 1 1008000 0 = .val false := by decide
/-- A MATCH of at most 3 repetitions, of whose vectors d have started; its repetitions have the results given. -/
def matching (d : Nat) (rs : List (Nat × Nat × Bool)) : State :=
  (running [entry (word 8 1 3) .untilMatch d]).modG 0 (fun x => { x with results := rs })
theorem witness_match_found : (matching 5 [(1008000, 0, true)]).running 0 = true ∧
    (matching 5 [(1008000, 0, true)]).overruns 0 (entry (word 8 1 3) .untilMatch 5) < 5 ∧
    (matching 5 [(1008000, 0, true)]).matchKnown 0 (entry (word 8 1 3) .untilMatch 5)
      (5 - (matching 5 [(1008000, 0, true)]).overruns 0 (entry (word 8 1 3) .untilMatch 5)) = .val true := by decide
theorem witness_match_used_up : (matching 7 [(1024000, 0, false)]).running 0 = true ∧
    (matching 7 [(1024000, 0, false)]).matchKnown 0 (entry (word 8 1 3) .untilMatch 7)
      (7 - (matching 7 [(1024000, 0, false)]).overruns 0 (entry (word 8 1 3) .untilMatch 7)) = .val false ∧
    7 - (matching 7 [(1024000, 0, false)]).overruns 0 (entry (word 8 1 3) .untilMatch 7) = wordArg (word 8 1 3) := by decide
/-- A SYNC released at 1,008,000, at the boundary there. -/
def syncing : State := (running [entry (word 9 0 0) .untilSync 1]).modG 0 (fun x => { x with syncRel := some 1008000 })
theorem witness_sync_release : syncing.running 0 = true ∧ (syncing.g 0).pipe = [entry (word 9 0 0) .untilSync 1] ∧
    syncing.syncTime 0 = some 1008000 := by decide
/-- A vector on its way, and the gang lost at a time. -/
def losing (t : Nat) : State := (running [entry (word 0 0 0) (.fixed 1) 0]).modG 0 (fun x => { x with lostAt := some t })
theorem witness_gang_lost : (losing 1000000).running 0 = true ∧ 1000000 ≤ ((losing 1000000).g 0).nextVec := by decide
theorem witness_escape_expiry : (inState 2).running 0 = true ∧
    ((inState 2).setF (R.VSQ_STAT 0) F.VSQ_STAT_ESCCNT 15).fld (R.VSQ_STAT 0) F.VSQ_STAT_ESCCNT = 15 ∧
    ((inState 2).setF (R.VSQ_STAT 0) F.VSQ_STAT_ESCCNT 15).running 0 = true := by decide
theorem witness_stops : ({ inState 2 with isolated := Vector.replicate 6 true }).active 0 = true ∧
    ({ inState 2 with isolated := Vector.replicate 6 true }).stopCause 0 .fence = true ∧
    ({ inState 2 with haltOn := Vector.replicate 6 true }).stopCause 0 .integ = true ∧
    ({ inState 2 with haltOn := Vector.replicate 6 true }).active 0 = true := by decide
theorem witness_stop_source : (((inState 2).setF (R.CH_PIN_CFG 0 31) F.CH_PIN_CFG_SRC 1).active 0 = true) ∧
    ((inState 2).setF (R.CH_PIN_CFG 0 31) F.CH_PIN_CFG_SRC 1).stopCause 0 .src = true := by decide
theorem witness_boundary_vector : (running [entry (word 0 0 0) (.fixed 1) 0]).running 0 = true ∧
    (running [entry (word 0 0 0) (.fixed 1) 0]).abortOver 0 1000000
      ((running [entry (word 0 0 0) (.fixed 1) 0]).boundaryOf 0 (entry (word 0 0 0) (.fixed 1) 0)) = .vector := by decide
theorem witness_boundary_done : (running [entry (word 15 0 0) (.fixed 1) 1]).running 0 = true ∧
    (running [entry (word 15 0 0) (.fixed 1) 1]).abortOver 0 1008000
      ((running [entry (word 15 0 0) (.fixed 1) 1]).boundaryOf 0 (entry (word 15 0 0) (.fixed 1) 1)) = .stop 4 0 := by decide

/-! ### Pin channels -/

theorem witness_release : up.groupHeld 0 = false ∧ up.fld R.PKG_PWR F.PKG_PWR_STATE = 0 ∧ up.active 0 = false ∧
    up.flag (R.CH_GSTAT 0) F.CH_GSTAT_CALBUSY = false := by decide
theorem witness_release_held : (up.setF (R.BIST_HOLD_LO 0) ⟨0, 32⟩ 1).groupHeld 0 = true := by decide
theorem witness_trim : released.flag (R.CH_GCTRL 0) F.CH_GCTRL_REL = true ∧ released.active 0 = false ∧
    released.flag (R.CH_GSTAT 0) F.CH_GSTAT_CALBUSY = false := by decide
theorem witness_trim_end : ((released.modG 0 (fun x => { x with trimAt := some 5 })).g 0).trimAt = some 5 ∧
    ((released.modG 0 (fun x => { x with trimmed := some 5 })).g 0).trimmed = some 5 := by decide
/-- Pin 31 stamps rising edges of CMH; x is its lane's stamper. -/
def stamper (x : Stamper) : State :=
  (((released.setF (R.CH_PIN_CFG 0 31) F.CH_PIN_CFG_MODE 1).setF (R.CH_PIN_CFG 0 31) F.CH_PIN_CFG_ETL 1).setF
    (R.CH_PIN_CFG 0 31) F.CH_PIN_CFG_ETE 1).modG 0 (fun y => { y with stampers := y.stampers.set 31 x })
theorem witness_stamp : (stamper ⟨some 0, false, false, []⟩).stamping 0 31 false true = true ∧
    ((((stamper ⟨some 0, false, false, []⟩).at_ 8000).stampsTo 0 8000).g 0).stampers[stampLane 31 false] = ⟨some 0, false, false, []⟩ ∧
    ((((stamper ⟨some 0, false, false, []⟩).at_ 8000).stampsTo 0 8000).g 0).stampQ.length < 4096 := by decide
theorem witness_stamp_miss : (stamper ⟨some 0, false, false, []⟩).stamping 0 31 false true = true ∧
    ((((stamper ⟨some 0, false, false, []⟩).at_ 7999).stampsTo 0 7999).g 0).stampers[stampLane 31 false] = ⟨some 0, false, false, []⟩ ∧
    7999 < 0 + ns := by decide
theorem witness_stamp_lost : (stamper ⟨none, false, false, List.replicate 16 0⟩).stamping 0 31 false true = true ∧
    ((((stamper ⟨none, false, false, List.replicate 16 0⟩).at_ 1).stampsTo 0 1).g 0).stampers[stampLane 31 false] =
      ⟨none, false, false, List.replicate 16 0⟩ := by decide
theorem witness_fabric_data : up.fdFenced 0 = false ∧ (up.g 0).fdq.length < 64 ∧
    64 ≤ ((up.modG 0 (fun x => { x with fdq := List.replicate 64 0 })).g 0).fdq.length ∧
    (up.modG 0 (fun x => { x with fdq := List.replicate 64 0 })).fdFenced 0 = false := by decide
/-- A vector on its way that takes fabric data, and the queue. -/
def fabricFed (q : List (BitVec 1024)) : State :=
  ((running [entry (word 0 0 0) (.fixed 1) 0]).setF (R.CH_GCTRL 0) F.CH_GCTRL_FDEN 1).modG 0 (fun x => { x with fdq := q })
theorem witness_fabric_take : (fabricFed [5]).running 0 = true ∧ (fabricFed [5]).flag (R.CH_GCTRL 0) F.CH_GCTRL_FDEN = true ∧
    ballOf ((fabricFed [5]).g 0).pipe (((fabricFed [5]).g 0).dec.bind (fun d => d.dp)) ((fabricFed [5]).g 0).fdTaken.length = some 1000000 ∧ ((fabricFed [5]).g 0).fdq = [5] ∧
    (fabricFed []).running 0 = true ∧ (fabricFed []).flag (R.CH_GCTRL 0) F.CH_GCTRL_FDEN = true ∧
    ballOf ((fabricFed []).g 0).pipe (((fabricFed []).g 0).dec.bind (fun d => d.dp)) ((fabricFed []).g 0).fdTaken.length = some 1000000 ∧ ((fabricFed []).g 0).fdq = [] := by decide
theorem witness_fail_port : ((up.modG 0 (fun x => { x with ffStage := [(9, 1, 2, 3, 4)] })).g 0).ffStage = [(9, 1, 2, 3, 4)] := by
  decide

/-! ### Fail capture -/

theorem witness_mask_arrive : ((up.modC 0 (fun x => { x with maskTravel := [(255, 9)] })).c 0).maskTravel.find?
    (fun e => e.1 == (255 : Fin 256).val) = some (255, 9) := by decide
theorem witness_clear_refused : (inState 2).dieActive 0 = true ∧ (inState 2).active 0 = true ∧ up.dieActive 0 = false ∧
    up.active 0 = false := by decide
theorem witness_counter_read : (up.g 0).cntStage = [] := by decide
/-- Group 0 with a record staged, buffered and in flight, of the log and of capture. -/
def logging (err : Bool) (buf cap : Nat) : State := up.modG 0 (fun x => { x with
  logStage := [⟨1, 9, 5, 0⟩], logBuf := List.replicate buf ⟨1, 9, 5, 0⟩, logFly := [⟨1, false, err⟩]
  capStage := [⟨1, 9, 5, 7⟩], capBuf := List.replicate cap ⟨1, 9, 5, 7⟩, capFly := [⟨1, false, err⟩] })
theorem witness_log_enter : ((logging false 1 255).g 0).logStage = [⟨1, 9, 5, 0⟩] ∧ ((logging false 1 255).g 0).logBuf.length < 16384 ∧
    ((logging false 1 255).g 0).capStage = [⟨1, 9, 5, 7⟩] ∧ ((logging false 1 255).g 0).capBuf.length < 256 := by decide
theorem witness_log_enter_full : ((logging false 16384 0).g 0).logStage = [⟨1, 9, 5, 0⟩] ∧
    16384 ≤ ((logging false 16384 0).g 0).logBuf.length := by
  rw [logging, State.modG_g_same]
  exact ⟨rfl, List.length_replicate.symm.le⟩
theorem witness_log_done : ((logging false 0 0).g 0).logFly = [⟨1, false, false⟩] ∧ ((logging true 0 0).g 0).logFly = [⟨1, false, true⟩] ∧
    ((logging true 0 0).g 0).capFly = [⟨1, false, true⟩] := by decide
theorem witness_log_take : ((logging false 1 1).g 0).logBuf = [⟨1, 9, 5, 0⟩] ∧ (logging false 1 1).logFull 0 = false ∧
    (∀ tick, (logging false 1 1).endDue 0 tick = none) ∧ ((logging false 1 1).g 0).capBuf = [⟨1, 9, 5, 7⟩] ∧
    (logging false 1 1).capFull 0 = false ∧ (∀ x, x ∈ ((logging false 1 1).g 0).logStage → (logging false 1 1).logTickAt 0 < x.time) ∧
    (∀ x, x ∈ ((logging false 1 1).g 0).capStage → (logging false 1 1).capTickAt 0 < x.time) :=
  ⟨by decide, by decide, fun _ => rfl, by decide, by decide, by decide, by decide⟩
/-- A line update staged and one queued, in group 3; the catch cache holds the lines given. -/
def catching (n : Nat) (ls : List CatchLine) : State :=
  (up.modG 3 (fun x => { x with bmStage := [⟨3, 64, 1, 9⟩], bmQ := List.replicate n ⟨3, 64, 1, 9⟩ })).modC 0
    (fun x => { x with catch_ := ls, orFly := [⟨3, false, false⟩] })
theorem witness_line_update : ((catching 511 []).g 3).bmStage = [⟨3, 64, 1, 9⟩] ∧ ((catching 511 []).g 3).bmQ.length < 512 ∧
    (catching 511 []).bistHeld (dieOf (3 : Fin 24)) 0x0C = false ∧ 512 ≤ ((catching 512 []).g 3).bmQ.length := by decide
theorem witness_catch_take : (rrOrder 0 ((catching 1 []).c 0).catchRr).find? (fun g => !((catching 1 []).g g).bmQ.isEmpty) = some 3 ∧
    ((catching 1 []).g 3).bmQ = [⟨3, 64, 1, 9⟩] ∧ ((catching 1 []).c 0).catch_ = [] ∧
    (∀ k x, x ∈ ((catching 1 []).g k).bmStage → (catching 1 []).catchSlotAt 0 < x.time) := by decide
theorem witness_catch_hit : (rrOrder 0 ((catching 1 [⟨3, 64, 2, false⟩]).c 0).catchRr).find?
      (fun g => !((catching 1 [⟨3, 64, 2, false⟩]).g g).bmQ.isEmpty) = some 3 ∧
    ((catching 1 [⟨3, 64, 2, false⟩]).g 3).bmQ = [⟨3, 64, 1, 9⟩] ∧
    ((catching 1 [⟨3, 64, 2, false⟩]).c 0).catch_ = [⟨3, 64, 2, false⟩] ∧
    (∀ k x, x ∈ ((catching 1 [⟨3, 64, 2, false⟩]).g k).bmStage → (catching 1 [⟨3, 64, 2, false⟩]).catchSlotAt 0 < x.time) := by decide
theorem witness_or_write_flush : ((catching 0 [⟨3, 64, 2, false⟩]).c 0).orFly = [⟨3, false, false⟩] ∧
    (∀ l, l ∈ ((catching 0 [⟨3, 64, 2, false⟩]).c 0).catch_ → l.flush = false) ∧
    (∀ f, f ∈ ((catching 0 [⟨3, 64, 2, false⟩]).c 0).orFly → f.flush = false) := by decide
theorem witness_bmclr : 3 < 4 ∧ (8 : BitVec 4).getLsbD 3 = true := by decide
/-- A fail address staged, n queued. -/
def feeding (n : Nat) : State := up.modG 0 (fun x => { x with
  raeStage := [⟨false, 1, 2, 3, 4, false, 5, 6⟩], raeQ := List.replicate n ⟨false, 1, 2, 3, 4, false, 5, 6⟩ })
theorem witness_rae_feed : ((feeding 1).g 0).raeStage = [⟨false, 1, 2, 3, 4, false, 5, 6⟩] ∧ ((feeding 1).g 0).raeQ.length < 1024 := by
  decide
theorem witness_rae_feed_full : ((feeding 1024).g 0).raeStage = [⟨false, 1, 2, 3, 4, false, 5, 6⟩] ∧
    1024 ≤ (((feeding 1024).g 0).raeQ.filter (fun x => !x.marker)).length := by
  simp [feeding]
theorem witness_sigdone : ((up.modG 0 (fun x => { x with runs := [⟨1, false, 0, 0, 0, false, some (9, 0, 4, 0), true, true⟩] })).g 0).runs =
      [⟨1, false, 0, 0, 0, false, some (9, 0, 4, 0), true, true⟩] ∧
    (up.modG 0 (fun x => { x with runs := [⟨1, false, 0, 0, 0, false, some (9, 0, 4, 0), true, true⟩] })).runSettled 0
      ⟨1, false, 0, 0, 0, false, some (9, 0, 4, 0), true, true⟩ = true := by decide

/-! ### Repair analysis -/

theorem witness_rae_queue : (up.c 0).cmdQ.length + (if (up.c 0).cmdRun.isSome then 1 else 0) < 4 ∧
    (up.setF (R.RAE_SITE 0 255) F.RAE_SITE_EN 1).siteEn 0 255 = true ∧ up.siteEn 0 255 = false := by decide
/-- Die 0's engine with commands waiting and one that runs. -/
def engine (q : List RaeCmd) (r : Option RaeRun) : State := up.modC 0 (fun x => { x with cmdQ := q, cmdRun := r })
theorem witness_rae_full : 4 ≤ ((engine (List.replicate 3 ⟨0, 0, 0⟩) (some ⟨⟨0, 0, 0⟩, [], 0⟩)).c 0).cmdQ.length +
    (if ((engine (List.replicate 3 ⟨0, 0, 0⟩) (some ⟨⟨0, 0, 0⟩, [], 0⟩)).c 0).cmdRun.isSome then 1 else 0) := by decide
theorem quiet_up : Quiet up := by unfold Quiet; decide
theorem witness_rae_quiet : up.dieActive 0 = false := by decide
/-- Die 0's engine with a fail address in group 0's queue, with EN as given, domains resident. -/
def intake (i : RaeItem) (en : Nat) (res : List Nat) : State :=
  (((up.modG 0 (fun x => { x with raeQ := [i] })).modC 0 (fun c => { c with resident := res })).setF (R.RAE_CTRL 0)
    F.RAE_CTRL_EN en).setF (R.RAE_SITE 0 4) F.RAE_SITE_EN 1
theorem witness_rae_intake : (∀ e ∈ [0, 1], let s := intake ⟨false, 1, 2, 3, 4, false, 5, 6⟩ e [0]
    (s.c 0).miss = none ∧ (s.c 0).cmdRun = none ∧ (s.c 0).cmdQ = [] ∧ (∀ k : Fin 24, (s.g k).raeStage = []) ∧
    (rrOrder 0 (s.c 0).raeRr).find? (fun g => !(s.g g).raeQ.isEmpty) = some 0 ∧
    (s.g 0).raeQ = [⟨false, 1, 2, 3, 4, false, 5, 6⟩] ∧ s.flag (R.RAE_CTRL 0) F.RAE_CTRL_EN = (e == 1)) := by decide
theorem quiet_intake : Quiet (intake ⟨false, 1, 2, 3, 4, false, 5, 6⟩ 1 [0]) := by unfold Quiet; decide
theorem witness_rae_map : (intake ⟨false, 1, 2, 3, 4, false, 5, 6⟩ 1 [0]).raeMap 0 ⟨false, 1, 2, 3, 4, false, 5, 6⟩ = some (0, 0, 0) ∧
    ((intake ⟨false, 1, 2, 3, 4, false, 5, 6⟩ 1 [0]).c 0).resident.contains 0 = true ∧
    ((intake ⟨false, 1, 2, 3, 4, false, 5, 6⟩ 1 []).c 0).resident.contains 0 = false ∧
    (intake ⟨false, 1, 2, 3, 4, true, 5, 6⟩ 1 [0]).raeMap 0 ⟨false, 1, 2, 3, 4, true, 5, 6⟩ = none ∧
    ((intake ⟨true, 0, 0, 0, 0, false, 5, 6⟩ 1 []).g 0).raeQ = [⟨true, 0, 0, 0, 0, false, 5, 6⟩] := by decide
theorem quiet_engine : Quiet (engine [⟨1, 255, 4⟩] none) ∧ Quiet (engine [⟨2, 0, 4⟩] none) ∧
    Quiet (engine (List.replicate 3 ⟨0, 0, 0⟩) (some ⟨⟨0, 0, 0⟩, [], 0⟩)) ∧
    Quiet (engine [] (some ⟨⟨2, 0, 0⟩, [], 0⟩)) ∧ Quiet (engine [] (some ⟨⟨3, 255, 0⟩, [], 0⟩)) := by unfold Quiet; decide
theorem witness_rae_start : ((engine [⟨1, 255, 4⟩] none).c 0).cmdQ = [⟨1, 255, 4⟩] ∧ ((engine [⟨1, 255, 4⟩] none).c 0).cmdRun = none ∧
    (engine [⟨1, 255, 4⟩] none).cutDrained 0 4 = true ∧ ((engine [⟨2, 0, 4⟩] none).c 0).cmdQ = [⟨2, 0, 4⟩] ∧
    (engine [⟨2, 0, 4⟩] none).cutDrained 0 4 = true := by decide
theorem witness_rae_clear : ((engine [] (some ⟨⟨2, 0, 0⟩, [], 0⟩)).c 0).cmdRun = some ⟨⟨2, 0, 0⟩, [], 0⟩ ∧
    ((engine [] (some ⟨⟨3, 255, 0⟩, [], 0⟩)).c 0).cmdRun = some ⟨⟨3, 255, 0⟩, [], 0⟩ := by decide
/-- A solve of site 0 runs. -/
def solving : State := engine [] (some ⟨⟨1, 0, 0⟩, [0], 0⟩)
theorem witness_solve_full : (solving.wr (R.RAE_RWPTR 0) 16#32).resultFull 0 = true ∧ solving.resultFull 0 = false ∧ solving.flag (R.RAE_STAT 0) F.RAE_STAT_RFULL = false ∧
    (solving.c 0).cmdRun = some ⟨⟨1, 0, 0⟩, [0], 0⟩ ∧ (solving.c 0).resFly = [] ∧ (solving.c 0).miss = none ∧
    (solving.dom 0 (solving.siteBase 0 0 + 0)).touched = false := by decide
theorem witness_solve_last : (((engine [] (some ⟨⟨1, 0, 0⟩, [], 0⟩)).modC 0 (fun x => { x with resFly := [true] })).c 0).resFly = [true] ∧
    (((engine [] (some ⟨⟨1, 0, 0⟩, [], 0⟩)).modC 0 (fun x => { x with resFly := [true] })).c 0).cmdRun = some ⟨⟨1, 0, 0⟩, [], 0⟩ := by
  decide
/-- A miss of die 0. -/
def missing (m : Miss) : State := up.modC 0 (fun x => { x with miss := some m })
theorem witness_miss : ((missing ⟨9, 1, none, false, none⟩).c 0).miss = some ⟨9, 1, none, false, none⟩ ∧
    ((missing ⟨9, 1, none, false, some (2, 2, 10, 5)⟩).c 0).miss = some ⟨9, 1, none, false, some (2, 2, 10, 5)⟩ := by decide

/-! ### The tree -/

/-- A worker: port 0 leads up, port 1 down, both in the port state n. -/
def worker (n : Nat) : State :=
  ((up.setF R.TSY_STAT F.TSY_STAT_ROLE 2).setF (R.TSY_PORT_STAT 0) F.TSY_PORT_STAT_STATE n).setF (R.TSY_PORT_STAT 1)
    F.TSY_PORT_STAT_STATE n
/-- The same device as manager. -/
def manager (n : Nat) : State := (worker n).setF R.TSY_STAT F.TSY_STAT_MGR 1
theorem witness_port_enable : (up.setF (R.BIST_HOLD_LO 5) ⟨28, 1⟩ 1).bistHeld ((11 : Fin 12).val / 2) (0x1B + (11 : Fin 12).val % 2) = true ∧
    (worker 0).bistHeld ((0 : Fin 12).val / 2) (0x1B + (0 : Fin 12).val % 2) = false ∧
    (worker 0).flag (R.TSY_PORT_CTRL 0) F.TSY_PORT_CTRL_EN = false ∧ (worker 0).treePort 0 = true ∧
    (worker 0).pstate 0 ≠ 3 := by decide
theorem witness_cal_end : ((worker 2).setF R.TSY_CTRL F.TSY_CTRL_DEVID 5).upstream (0 : Fin 12) = true ∧ (0 : BitVec 6).toNat ≠
    ((worker 2).setF R.TSY_CTRL F.TSY_CTRL_DEVID 5).devId ∧ (5 : BitVec 6).toNat = ((worker 2).setF R.TSY_CTRL F.TSY_CTRL_DEVID 5).devId ∧
    (1 : BitVec 2).toNat < 2 ∧ (worker 2).downstream (1 : Fin 12) = true ∧ (worker 2).fld R.TSY_STAT F.TSY_STAT_DEPTH < 2 ∧
    2 ≤ ((worker 2).setF R.TSY_STAT F.TSY_STAT_DEPTH 2).fld R.TSY_STAT F.TSY_STAT_DEPTH := by decide
theorem witness_hold : ((worker 3).setF R.TSY_CTRL F.TSY_CTRL_SECEN 1).activeUp 0 = true ∧
    ((worker 3).setF R.TSY_CTRL F.TSY_CTRL_SECEN 1).flag R.TSY_CTRL F.TSY_CTRL_SECEN = true ∧
    ({ worker 3 with tsy := { (worker 3).tsy with hold := true } }).tsy.hold = true := by decide
theorem witness_port_states : (worker 1).pstate 0 = 1 ∧ (worker 2).pstate 0 = 2 ∧ (worker 3).pstate 0 = 3 ∧
    (worker 3).activeUp 0 = true ∧ (worker 3).activeUp 1 = false ∧ (worker 3).downstream 1 = true ∧ (worker 0).pstate 0 = 0 := by decide
/-- A worker that has aligned, with two messages waiting downstream, whose upstream port is locked. -/
def framing : State :=
  (((worker 3).setF R.PT_STAT F.PT_STAT_ALIGNED 1).modPort 1 (fun x => { x with outq := [⟨6, 0, 0, 5⟩, ⟨9, 0, 0, 0⟩] })).modPort 0
    (fun x => { x with good := 4 })
theorem witness_launch : framing.downstream (1 : Fin 12) = true ∧ framing.aligned = true ∧ 2 ≤ framing.pstate (1 : Fin 12) ∧
    (framing.tport 1).outq.filter (fun m => !m.gangType) = (⟨6, 0, 0, 5⟩ : TSlot) :: [⟨9, 0, 0, 0⟩] ∧
    (worker 3).downstream (1 : Fin 12) = true ∧ (worker 3).aligned = false := by decide
theorem witness_locked : (framing.tport 0).good = 4 ∧ 2 ≤ framing.pstate 0 ∧ (framing.tport 1).good ≠ 4 := by decide
theorem witness_kind : payKind (0 : BitVec 5140) = 0 := by simp [payKind, bitsOf]
theorem witness_frames : ((worker 3).modPort 0 (fun x => { x with unacked := [⟨1, 2, 3⟩], bad := 3 })).pstate 0 = 3 ∧
    (((worker 3).modPort 0 (fun x => { x with unacked := [⟨1, 2, 3⟩], bad := 3 })).tport 0).unacked = [⟨1, 2, 3⟩] ∧
    (((worker 3).modPort 0 (fun x => { x with unacked := [⟨1, 2, 3⟩], bad := 3 })).tport 0).bad = 3 := by decide
theorem witness_slots : (worker 3).fromUp 0 = true ∧ (worker 3).fromUp 1 = false ∧ (worker 3).fromDown 1 = true ∧
    (worker 3).fromDown 0 = false ∧ (worker 3).aligned = false ∧
    ((worker 3).setF R.PT_STAT F.PT_STAT_ALIGNED 1).aligned = true ∧ 10 < (⟨11, 0, 0, 0⟩ : TSlot).typ := by decide
theorem witness_ptb_measure : ({ (worker 3).setF R.PT_STAT F.PT_STAT_ALIGNED 1 with
      tsy := { (worker 3).tsy with measure := true } }).tsy.measure = true ∧
    ({ (worker 3).setF R.PT_STAT F.PT_STAT_ALIGNED 1 with tsy := { (worker 3).tsy with measure := true } }).fromUp 0 = true := by decide
theorem witness_start_slot : (worker 3).fromUp 0 = true ∧ (worker 3).tsy.starts.filter (fun r => copyOpen (worker 3).now r.2.2) = [] ∧
    (worker 3).now + 100 * ns ≤ nearest 44 (worker 3).ptime ((1600 : BitVec 50).toNat / 16) * ns ∧
    nearest 44 (worker 3).ptime ((1584 : BitVec 50).toNat / 16) * ns < (worker 3).now + 100 * ns := by decide
theorem witness_start_again : ({ worker 3 with tsy := { (worker 3).tsy with starts := [(100, 0, 0)] } }).fromUp 0 = true ∧
    (({ worker 3 with tsy := { (worker 3).tsy with starts := [(100, 0, 0)] } }).tsy.starts.filter
      (fun r => copyOpen (worker 3).now r.2.2)) = [(100, 0, 0)] ∧
    nearest 44 (worker 3).ptime ((1600 : BitVec 50).toNat / 16) = 100 ∧ (1600 : BitVec 50).toNat % 16 = 0 := by decide
theorem witness_bcast_go : (manager 3).isMgr = true ∧
    (manager 3).ptime + 2000 ≤ ((manager 3).wr R.TSY_BCAST_PT_LO 2000#32).rdPair R.TSY_BCAST_PT_LO R.TSY_BCAST_PT_HI ∧
    ((manager 3).wr R.TSY_BCAST_PT_LO 2000#32).rdPair R.TSY_BCAST_PT_LO R.TSY_BCAST_PT_HI < (manager 3).ptime + 2 ^ 42 ∧
    ((manager 3).wr R.TSY_BCAST_PT_LO 1999#32).rdPair R.TSY_BCAST_PT_LO R.TSY_BCAST_PT_HI < (manager 3).ptime + 2000 ∧
    (worker 3).isMgr = false := by decide
theorem witness_lost_slot : (worker 3).fromUp 0 = true ∧ bitOf (0xFFFFFFFF0000 : BitVec 50).toNat 48 = false := by decide
/-- Gang 15 across devices, LG 400, group 0 its member. -/
def ganged (s : State) : State :=
  (((((s.setF (R.VSQ_GANG 0) F.VSQ_GANG_EN 1).setF (R.VSQ_GANG 0) F.VSQ_GANG_SPAN 3).setF (R.VSQ_GANG 0) F.VSQ_GANG_GID 15).setF
    (R.TSY_GANG_CFG 15) F.TSY_GANG_CFG_EN 1).setF (R.TSY_GANG_CFG 15) F.TSY_GANG_CFG_LG 400).wr
    (R.TSY_GANG_MLO 15) 1#32
/-- The manager after the GCFG of device 63, which its port 1 leads to. -/
def announced : State :=
  (ganged ((manager 3).modPort 1 (fun x => { x with peer := some 63 }))).modGang 15 (fun x => { x with
    via := (1, 63, (ganged ((manager 3).modPort 1 (fun x => { x with peer := some 63 }))).wayUp 1 63) :: x.via.filter (fun v => v.2.1 != 63)
    reports := x.reports.filter (fun r => r.from_ != 1), arrivals := x.arrivals.filter (fun r => r.2.1 != 1) })
theorem witness_gcfg : (ganged ((manager 3).modPort 1 (fun x => { x with peer := some 63 }))).fromDown 1 = true ∧
    (ganged ((manager 3).modPort 1 (fun x => { x with peer := some 63 }))).isMgr = true ∧
    ((ganged ((manager 3).modPort 1 (fun x => { x with peer := some 63 }))).tport 1).peer = some 63 ∧
    announced.gcfgOk 15 ((400 : BitVec 50).toNat % 1024) (bitOf (400 : BitVec 50).toNat 10) = true := by decide
theorem witness_cal : (worker 2).upstream 0 = true ∧ 2 ≤ (worker 2).pstate 0 ∧ (worker 2).downstream 1 = true ∧ 2 ≤ (worker 2).pstate 1 ∧
    (((worker 2).modPort 1 (fun x => { x with calSent := some 5 })).tport 1).calSent = some 5 := by decide
/-- The member's deciding vector of index 0 has a result. -/
def decided (s : State) : State := (ganged s).modG 0 (fun x => { x with results := [(9, 0, true)] })
theorem witness_gang_local : (decided (worker 3)).gangEn 0 = true ∧ (decided (worker 3)).span 0 = 3 ∧ (decided (worker 3)).gid 0 = (15 : Fin 16) ∧
    (decided (worker 3)).flag (R.TSY_GANG_CFG (15 : Fin 16)) F.TSY_GANG_CFG_EN = true ∧
    (((decided (worker 3)).xmembers (15 : Fin 16)).map (fun m => ((decided (worker 3)).g m).byIndex ((decided (worker 3)).xgang 15).formed)).all
      Option.isSome = true ∧ (decided (worker 3)).memberHere (15 : Fin 16) = true ∧ (decided (worker 3)).leaf 15 = true ∧ (decided (manager 3)).leaf 15 = false := by decide
/-- The manager's gang with its own report and its own arrival. -/
def reported : State := (ganged (manager 3)).modGang 15 (fun x => { x with reports := [⟨0, 12, true, 5⟩] })
def arrived : State := (ganged (manager 3)).modGang 15 (fun x => { x with arrivals := [(0, 12, 9)] })
theorem witness_gang_combine : reported.ownArrival 15 = none ∧ reported.isMgr = true ∧
    (reported.xgang 15).reports.find? (fun r => reported.allReported 15 r.didx) = some ⟨0, 12, true, 5⟩ ∧
    (reported.xgang 15).arrivals.find? (fun r => reported.allArrived 15 r.1) = none := by decide
theorem witness_gang_release : arrived.ownArrival 15 = none ∧ arrived.isMgr = true ∧
    (arrived.xgang 15).reports.find? (fun r => arrived.allReported 15 r.didx) = none ∧
    (arrived.xgang 15).arrivals.find? (fun r => arrived.allArrived 15 r.1) = some (0, 12, 9) := by decide
theorem witness_handoff : (((ganged (worker 3)).modGang 15 (fun x => { x with decided := [(0, true, 7)] })).xgang 15).decided.find?
      (fun r => !((((ganged (worker 3)).modGang 15 (fun x => { x with decided := [(0, true, 7)] })).g 0).combined.any
        (fun c => c.1 == r.1))) = some (0, true, 7) ∧
    ((ganged (worker 3)).modGang 15 (fun x => { x with decided := [(0, true, 7)] })).span 0 = 3 := by decide
/-- A worker with a secondary path by port 1; port 0 is down. -/
def failing : State :=
  ((((up.setF R.TSY_STAT F.TSY_STAT_ROLE 2).setF R.TSY_CTRL F.TSY_CTRL_SECEN 1).setF R.TSY_CTRL F.TSY_CTRL_UPSEC 1).setF
    R.TSY_CTRL F.TSY_CTRL_STBY 1).setF (R.TSY_PORT_STAT 1) F.TSY_PORT_STAT_STATE 3
theorem witness_failover : failing.fld R.TSY_STAT F.TSY_STAT_UPACT = (0 : Fin 12) ∧ failing.otherUp = (1 : Fin 12) ∧ failing.role = 2 ∧
    failing.isMgr = false ∧ failing.flag R.TSY_CTRL F.TSY_CTRL_SECEN = true ∧ failing.pstate (0 : Fin 12) ≠ 3 ∧
    failing.pstate (1 : Fin 12) = 3 := by decide
theorem witness_takeover : failing.flag R.TSY_CTRL F.TSY_CTRL_STBY = true ∧ failing.pstate 11 ≠ 3 ∧
    failing.pstate (failing.fld R.TSY_STAT F.TSY_STAT_UPACT) ≠ 3 ∧ failing.role = 2 ∧ failing.isMgr = false := by decide
theorem witness_ptofs : ({ up with tsy := { up.tsy with ptofs := some (-5) } }).tsy.ptofs = some (-5) ∧
    (∀ k : Fin 24, ({ up with tsy := { up.tsy with ptofs := some (-5) } }).active k = false) ∧ (inState 2).active (0 : Fin 24) = true := by
  decide

/-! ### The ledger and the seams -/

/-- The ledger runs: its state, and the number of records committed. -/
def ledgered (st n : Nat) : State :=
  (((up.setF R.LED_CTRL F.LED_CTRL_EN 1).setF R.LED_STAT F.LED_STAT_STATE st).wr R.LED_NEXTSEQ_LO (BitVec.ofNat 32 n))
theorem witness_commit : up.fld R.LED_CTRL F.LED_CTRL_EN = 0 ∧ (ledgered 0 0).fld R.LED_CTRL F.LED_CTRL_EN = 1 ∧
    0 < (1 : BitVec 9).toNat ∧ (256 : BitVec 9).toNat ≤ 256 ∧ 256 < (257 : BitVec 9).toNat := by decide
theorem witness_commit_full : (ledgered 0 16).ledSize + (ledgered 0 16).rSeq < (ledgered 0 16).nextSeq + (1 : BitVec 9).toNat ∧
    (ledgered 0 15).nextSeq + (1 : BitVec 9).toNat ≤ (ledgered 0 15).ledSize + (ledgered 0 15).rSeq ∧ (ledgered 0 15).ledState ≠ 2 ∧
    (ledgered 2 15).ledState = 2 ∧ (ledgered 2 15).nextSeq + (1 : BitVec 9).toNat ≤ (ledgered 2 15).ledSize + (ledgered 2 15).rSeq ∧
    (ledgered 3 0).ledState = 3 := by decide
theorem witness_mirror : (ledgered 2 0).ledState = 2 ∧ (ledgered 1 0).ledState = 1 ∧
    ({ ledgered 2 0 with tsy := { up.tsy with unacked := [(0, 9)] } }).tsy.unacked = [(0, 9)] ∧
    ({ ledgered 2 0 with tsy := { up.tsy with unacked := [(0, 9)] } }).ledState = 2 ∧ (ledgered 2 0).mateGone = true := by decide
theorem witness_pairing : ((ledgered 3 0).setF (R.TSY_PORT_STAT 11) F.TSY_PORT_STAT_STATE 3).fld R.LED_CTRL F.LED_CTRL_EN = 1 ∧
    ((ledgered 3 0).setF (R.TSY_PORT_STAT 11) F.TSY_PORT_STAT_STATE 3).pstate 11 = 3 ∧
    ((ledgered 3 0).setF (R.TSY_PORT_STAT 11) F.TSY_PORT_STAT_STATE 3).ledState = 3 ∧
    ((ledgered 1 0).setF (R.TSY_PORT_STAT 11) F.TSY_PORT_STAT_STATE 3).pstate 11 = 3 ∧
    ((ledgered 1 0).setF (R.TSY_PORT_STAT 11) F.TSY_PORT_STAT_STATE 3).ledState = 1 ∧
    2 ^ max 4 (min 24 (4 : BitVec 5).toNat) = (ledgered 3 0).ledSize ∧ 2 ^ max 4 (min 24 (31 : BitVec 5).toNat) ≠ (ledgered 3 0).ledSize := by
  decide
/-- Dies 0 and 1 hold role counts; the link between them is in state n at both ends. -/
def linked (n : Nat) : State :=
  { (((up.setF (R.SEAM_STAT 0 1) F.SEAM_STAT_STATE n).setF (R.SEAM_STAT 1 0) F.SEAM_STAT_STATE n).wr (R.SEAM_ROLE 0 1)
      0x02020C20#32).wr (R.SEAM_ROLE 1 0) 0x02020C20#32 with
    hasRoles := Vector.replicate 6 true }
theorem witness_far_end : farEnd (0 : Fin 6) (1 : Fin 3) = some ((1 : Fin 6).val, (0 : Fin 3).val) ∧
    farEnd (5 : Fin 6) (0 : Fin 3) = some ((4 : Fin 6).val, (1 : Fin 3).val) ∧
    farEnd (2 : Fin 6) (2 : Fin 3) = some ((5 : Fin 6).val, (2 : Fin 3).val) := by decide
theorem witness_attempt : (linked 1).dieRuns (0 : Fin 6) = true ∧ (linked 1).dieRuns (1 : Fin 6) = true ∧
    (linked 1).holdsRoles (0 : Fin 6) = true ∧ (linked 1).holdsRoles (1 : Fin 6) = true ∧
    (linked 1).link (0 : Fin 6) (1 : Fin 3) = 1 ∧ (linked 1).link (1 : Fin 6) (0 : Fin 3) = 1 ∧
    (linked 1).fld (R.SEAM_STAT (0 : Fin 6) (1 : Fin 3)) F.SEAM_STAT_ATTEMPT < 3 := by decide
theorem witness_attempt_lanes : (lanesOf (BitVec.allOnes 48)).length = 48 ∧
    (linked 1).roles (0 : Fin 6) (1 : Fin 3) = ⟨32, 12, 2, 2⟩ ∧ (linked 1).roles (1 : Fin 6) (0 : Fin 3) = ⟨32, 12, 2, 2⟩ := ⟨rfl, by decide, by decide⟩
theorem witness_attempt_fails : (lanesOf 0).length < ((linked 1).roles (0 : Fin 6) (1 : Fin 3)).required := by
  decide
/-- The link is UP; lane 47 is PROM lane 0 of die 0's receive map, lane 0 a spare where sp is set, the rest off. -/
def mapped (sp : Bool) : State :=
  ((forEach (List.range 11) (fun i s => s.wr (R.SEAM_LMAP_RX 0 1 (i + 1)) 0x04040404#32) (linked 2)).wr (R.SEAM_LMAP_RX 0 1 0)
    (if sp then 0x04040403#32 else 0x04040404#32)).wr (R.SEAM_LMAP_RX 0 1 11) 0x00040404#32
theorem witness_lane_spared : (mapped true).link (0 : Fin 6) (1 : Fin 3) = 2 ∧
    nth ((mapped true).readMap (R.SEAM_LMAP_RX (0 : Fin 6) (1 : Fin 3))) (47 : Fin 48) 4 % 8 < 3 ∧
    (List.range 48).find? (fun i => nth ((mapped true).readMap (R.SEAM_LMAP_RX (0 : Fin 6) (1 : Fin 3))) i 4 % 8 == 3) = some 0 ∧
    nth ((mapped true).readMap (R.SEAM_LMAP_RX (0 : Fin 6) (1 : Fin 3))) (46 : Fin 48) 4 % 8 = 4 := by decide
theorem witness_lane_lost : (mapped false).link (0 : Fin 6) (1 : Fin 3) = 2 ∧
    nth ((mapped false).readMap (R.SEAM_LMAP_RX (0 : Fin 6) (1 : Fin 3))) (47 : Fin 48) 4 % 8 < 3 ∧
    (List.range 48).find? (fun i => nth ((mapped false).readMap (R.SEAM_LMAP_RX (0 : Fin 6) (1 : Fin 3))) i 4 % 8 == 3) = none := by
  decide
theorem witness_crossings : (((linked 2).setF (R.FAB_STAT 0) F.FAB_STAT_WREN 1).setF (R.FAB_STAT 1) F.FAB_STAT_WREN 1).link 0 1 = 2 ∧
    (((linked 2).setF (R.FAB_STAT 0) F.FAB_STAT_WREN 1).setF (R.FAB_STAT 1) F.FAB_STAT_WREN 1).link 1 0 = 2 ∧
    (((linked 2).setF (R.FAB_STAT 0) F.FAB_STAT_WREN 1).setF (R.FAB_STAT 1) F.FAB_STAT_WREN 1).flag (R.FAB_STAT 0) F.FAB_STAT_WREN = true ∧
    (((linked 2).setF (R.FAB_STAT 0) F.FAB_STAT_WREN 1).setF (R.FAB_STAT 1) F.FAB_STAT_WREN 1).flag (R.FAB_STAT 1) F.FAB_STAT_WREN = true := by
  decide
theorem witness_lane_word : ((linked 2).setF (R.SEAM_STAT 0 1) F.SEAM_STAT_FABREL 1).link 0 1 = 2 ∧
    ((linked 2).setF (R.SEAM_STAT 0 1) F.SEAM_STAT_FABREL 1).flag (R.SEAM_STAT 0 1) F.SEAM_STAT_FABREL = true ∧
    (11 : Fin 12).val < ((linked 2).setF (R.SEAM_STAT 0 1) F.SEAM_STAT_FABREL 1).fabLanes (0 : Fin 6) (1 : Fin 3) := by
  decide
theorem witness_cut_off : (linked 2).cutOff (5 : Fin 6) = true ∧ (linked 2).cutOff (0 : Fin 6) = false := by decide
/-- A link that is UP with one flit sent. -/
def flitted : State := (linked 2).setSeam 0 1 (fun x => x.flit 5)
theorem witness_flit : flitted.waitingFlit (0 : Fin 6) (1 : Fin 3) = some (0, 5) ∧ (linked 2).waitingFlit (0 : Fin 6) (1 : Fin 3) = none := by
  decide
/-- Lane 47 is FAB lane 1, whose word is on its way; one uncorrectable word fails it, and there is no spare. -/
def fragile : State := ((((mapped false).wr (R.SEAM_LMAP_RX 0 1 11) 0x09040404#32).setF (R.SEAM_STAT 0 1) F.SEAM_STAT_FABREL 1).setF
  (R.SEAM_CTRL 0 1) F.SEAM_CTRL_ETHR 1).setSeam 0 1 (fun x => { x with wire := [(1, 0, 5)] })
theorem witness_bad_word : (1 : Fin 12).val < fragile.fabLanes (0 : Fin 6) (1 : Fin 3) ∧
    ((fragile.seamEnd (0 : Fin 6) (1 : Fin 3)).wire.filter (fun w => w.1 == (1 : Fin 12).val && decide (w.2.1 ≤ 0))).getLast? = some (1, 0, 5) ∧
    max 1 (fragile.fld (R.SEAM_CTRL (0 : Fin 6) (1 : Fin 3)) F.SEAM_CTRL_ETHR) = 1 ∧
    (fragile.readMap (R.SEAM_LMAP_RX (0 : Fin 6) (1 : Fin 3))).idxOf? (1 + 8 * (1 : Fin 12).val) = some 47 ∧
    (fragile.readMap (R.SEAM_LMAP_RX (0 : Fin 6) (1 : Fin 3))).all (fun b => b % 8 != 3) = true := by decide

/-! ### The fabric -/

theorem witness_fcs : (up.setF (R.FAB_FCS_CTRL 0 1) F.FAB_FCS_CTRL_EN 1).flag (R.FAB_FCS_CTRL 0 1) F.FAB_FCS_CTRL_EN = true ∧
    (up.setF (R.FAB_FCS_STAT 0 1) F.FAB_FCS_STAT_LOCKED 1).flag (R.FAB_FCS_STAT 0 1) F.FAB_FCS_STAT_LOCKED = true ∧
    State.reset.lineLive 0 15 = false := by decide
theorem witness_line_live (n : Nat) : up.lineLive 0 n = true := by
  have h : up.meadowOf 0 (Config.lineRegion n) = none := by
    simp [State.meadowOf, State.meadow, State.fabric, up, nth, Fabric.reset, State.reset]
  simp [State.lineLive, State.regionFenced, h]
  decide
/-- Bank 3 of die 0 is declared and matches, and its outputs are released. -/
def banked : State :=
  (up.modFab 0 (fun x => { x with gpioStd := [3, 3, 3, 0], outrel := true })).setF (R.FAB_STAT 0) F.FAB_STAT_BANKOK 8
theorem witness_bank : banked.bankUsed 0 3 = true ∧ bitOf (banked.fld (R.FAB_STAT 0) F.FAB_STAT_BANKOK) 3 = true ∧
    (banked.fabric 0).outrel = true := by decide
/-- A hamper port 1 bit wide writes its last address; another, 64E wide, reads its last word; a slice, a GPIO cell. -/
def hamperWrite : RamOp := ⟨false, 5, 7, 0, 0, false, 36863, true, 0, 1⟩
def hamperRead : RamOp := ⟨false, 5, 7, 0, 1, false, 511, false, 0, 0⟩
def topSlice : SliceOp := ⟨5, 7, 3, 3, 7, 3, 0, 5, 0⟩
def lastPin : GpioOp := ⟨3, 23, true, false, true, none, none⟩
/-- Settings of die 0: everything on regional net 3 of region (5, 7), which takes global net 31, which takes synthesiser 1. -/
def settings : FabricSets where
  regional := [(24 * 47 + 3, 31)]
  ram := [(ramKey hamperWrite 0 false, ⟨0, 0, false, 3⟩), (ramKey hamperRead 0 false, ⟨7, 0, false, 3⟩)]
  slice := [(sliceKey topSlice, ⟨0, 0, false, false, false, false, false, 3⟩)]
  gpio := [(95, ⟨false, false, false, false, 0, false, .none, 47, 3⟩)]
  net := [(31, .fcs 1)]
  port := [(15, true, true, 31)]
/-- The fabric of die 0 runs, WREN high since its start, 20 ns ago; one basket column holds something. -/
def clocked : State :=
  let s := up.modFab 0 (fun x => { x with frames := [(0, 1)], wrenAt := some 0, sets := settings })
  let s := (s.setF (R.FAB_FCS_CTRL 0 1) F.FAB_FCS_CTRL_EN 1).setF (R.FAB_FCS_STAT 0 1) F.FAB_FCS_STAT_LOCKED 1
  { s.setF (R.FAB_STAT 0) F.FAB_STAT_WREN 1 with now := 160000 }
/-- Just before the elements act, as the statement names it. -/
def clockedU : State := ((clocked.at_ 160000).deliver 160000).modFab 0 (fun x => { x with srcAt := putNet x.srcAt 31 160000 })
def clockedW : State := clockedU.modFab 0 (fun x => { (x.keep 160000) with netAt := putNet x.netAt 31 160000 })
def clockedX : Fabric := (clockedW.fabric 0).before 160000
theorem witness_net_edge : clocked.netEdge 0 31 = some 160000 ∧ clocked.netEdge 0 30 = none := by decide
theorem witness_hamper : hamperWrite.cooler = false ∧
    clockedX.sets.ram.lookup (ramKey hamperWrite 0 hamperWrite.portB) = some ⟨0, 0, false, 3⟩ ∧
    clockedX.globalOf (ramRegion hamperWrite) 3 = 31 ∧ hamperWrite.write = true ∧ hamperWrite.portB = false ∧
    clockedW.wrenOf 0 (ramRegion hamperWrite) 31 = true ∧ hamperWrite.addr < (hamperShape 0).2 := by decide
theorem witness_hamper_read : hamperRead.cooler = false ∧
    clockedX.sets.ram.lookup (ramKey hamperRead 0 hamperRead.portB) = some ⟨7, 0, false, 3⟩ ∧
    clockedX.globalOf (ramRegion hamperRead) 3 = 31 ∧ hamperRead.write = false ∧ hamperRead.portB = false ∧
    hamperRead.addr < 512 ∧ ((clockedW.fabric 0).ramPort (ramKey hamperRead 0 true)).wAt = none := by decide
theorem witness_slice_columns : (∀ cu ∈ clockedX.activeCols, cu.2 < 6) ∧ (0, 0) ∈ clockedX.activeCols := by decide
theorem witness_slice : (clockedX.sets.slice.map (·.1)).Nodup ∧
    clockedX.sets.slice.lookup (sliceKey topSlice) = some ⟨0, 0, false, false, false, false, false, 3⟩ ∧
    clockedW.wrenOf 0 (sliceRegion (sliceKey topSlice)) 31 = true ∧
    clockedX.globalOf (sliceRegion (sliceKey topSlice)) 3 = 31 ∧ clockedX.globalOf (sliceRegion (sliceKey topSlice)) 4 ≠ 31 := by decide
theorem witness_gpio : clockedX.sets.gpio.lookup (24 * lastPin.bank.val + lastPin.pin.val) =
    some ⟨false, false, false, false, 0, false, .none, 47, 3⟩ ∧ smbPin 0 lastPin.bank lastPin.pin = false ∧ smbPin 0 0 1 = true ∧
    clocked.fdFenced 3 = false := by decide
/-- A protected word reads clean as it was written, whatever the order of the code's columns. -/
theorem test_ecc_clean (v : BitVec 64) : secdedRead v (secded v) = (v, .clean) := by simp [secdedRead]
/-- Promenade port 15 of die 0 is live. -/
def ported (x : FabPort) : State := (clocked.setF (R.FAB_PORT_STAT 0 15) F.FAB_PORT_STAT_INIT 1).setFp 0 15 x
theorem witness_port_edge : (ported FabPort.reset).portEdge 0 15 = some 160000 ∧ up.portEdge 0 15 = none := by decide
theorem witness_port_request : ((ported FabPort.reset).at_ 160000).initLive 0 15 = true ∧ ((ported FabPort.reset).fp 0 15).ini = [] ∧
    ((ported FabPort.reset).fp 0 15).resp.length < 64 ∧ up.initLive 0 15 = false := by decide
/-- A write of two beats waits for its data; a read answer of one beat, one of two and a write answer wait. -/
def waiting : FabPort :=
  ⟨[⟨15, 1, 0, 2, true, false, [], false⟩], [⟨2, false, .ok, [5], false⟩, ⟨4, false, .ok, [5, 6], false⟩, ⟨3, true, .ok, [], false⟩], [], [], [], []⟩
theorem witness_port_write_data : ((ported waiting).at_ 160000).initLive 0 15 = true ∧
    ((ported waiting).fp 0 15).ini = [⟨15, 1, 0, 2, true, false, [], false⟩] ∧ ([] : List (Line512 × BitVec 64)).length + 1 < 2 ∧
    ((ported FabPort.reset).fp 0 15).ini.find? (fun r => !r.full) = none := by decide
theorem witness_port_responses : let x := ((ported { waiting with ini := [] }).at_ 160000).fp 0 15
    x.ini = [] ∧ (∀ y ∈ x.resp, y.begun = true → y = ⟨2, false, .ok, [5], false⟩) ∧
    (∀ y ∈ x.resp, y.begun = true → y = ⟨4, false, .ok, [5, 6], false⟩) ∧
    x.resp.find? (fun r => r.id == (2 : BitVec 8).toNat) = some ⟨2, false, .ok, [5], false⟩ ∧
    x.resp.find? (fun r => r.id == (4 : BitVec 8).toNat) = some ⟨4, false, .ok, [5, 6], false⟩ ∧
    x.resp.find? (fun r => r.id == (3 : BitVec 8).toNat) = some ⟨3, true, .ok, [], false⟩ := by decide
/-- The target side: a request waits, a write and a read are in the fabric, ID 9 has timed out. -/
def targeted : FabPort :=
  ⟨[], [], [⟨96, 0, 64, 1, false, false, [], false⟩],
    [⟨96, 7, 64, 1, true, false, [(5, 1)], false⟩, ⟨96, 8, 64, 1, false, false, [], false⟩], [9], []⟩
theorem witness_target_request : ((ported targeted).fp 0 15).tgtWait = [⟨96, 0, 64, 1, false, false, [], false⟩] ∧
    (⟨0, 64, 0, false, false⟩ : PortReq).addr.toNat = 64 ∧ (⟨0, 64, 0, false, false⟩ : PortReq).len.toNat + 1 = 1 ∧
    ((ported targeted).setF (R.FAB_PORT_STAT 0 15) F.FAB_PORT_STAT_ABSENT 0).portEdge 0 15 = some 160000 ∧
    (((ported targeted).setF (R.FAB_PORT_STAT 0 15) F.FAB_PORT_STAT_ABSENT 0).at_ 160000).tgtLive 0 15 = true := by decide
theorem witness_target_data : ((ported targeted).fp 0 15).tgt =
    [⟨96, 7, 64, 1, true, false, [(5, 1)], false⟩, ⟨96, 8, 64, 1, false, false, [], false⟩] := by decide
theorem witness_target_answer :
    ((ported { targeted with tgt := [⟨96, 8, 64, 1, false, false, [], false⟩] }).fp 0 15).tgt = [⟨96, 8, 64, 1, false, false, [], false⟩] ∧
    respOf (0 : BitVec 3).toNat = some .ok ∧
    ((ported { targeted with tgt := [⟨96, 7, 64, 1, true, false, [], false⟩] }).fp 0 15).tgt = [⟨96, 7, 64, 1, true, false, [], false⟩] := by decide
theorem witness_target_late : (∀ y ∈ ((ported targeted).fp 0 15).tgt, y.id ≠ (9 : BitVec 8).toNat) ∧
    (9 : BitVec 8).toNat ∈ ((ported targeted).fp 0 15).tgtDead ∧ (∀ y ∈ ((ported targeted).fp 0 15).tgt, y.id ≠ (10 : BitVec 8).toNat) ∧
    (10 : BitVec 8).toNat ∉ ((ported targeted).fp 0 15).tgtDead := by decide

/-! ### Configuration -/

/-- The configuration engine is in a state, with a load. -/
def loading (n : Nat) (l : Option Load) : State :=
  { up.setF (R.CFG_STAT 0) F.CFG_STAT_STATE n with cfg := { up.cfg with load := l } }
/-- A header that names die 0 and meadow 3, and nothing else. -/
def shortHeader : List Nat := List.replicate 11 0 ++ [24]
/-- A PLOAD from CFG_DATA whose header has been accepted, and the words that wait. -/
def partLoad (ws : List Word) : Load := { loadOf 2 2 0 0 0 [] [] with header := shortHeader, words := ws }
/-- Meadow 3 of die 0 is valid: region 5, the ports of promenade 0. -/
def meadowed : State :=
  up.modFab 0 (fun x => { x with meadows := List.replicate 3 ⟨false, 0, 0⟩ ++ [⟨true, 0x010000000020, 0⟩] })
/-- A directory of 64 bytes with no image slot; its last four bytes are its CRC-32C (11 R373). -/
def emptyDir : List Nat := [0x42, 0x54, 0x46, 0x44] ++ List.replicate 56 0 ++ [0x71, 0x3f, 0xf, 0xa0]

/-- A directory whose slot 0 is at offset 128. -/
def slotDir : List Nat := [0x42, 0x54, 0x46, 0x44] ++ List.replicate 12 0 ++ [128] ++ List.replicate 43 0 ++ [0xc1, 0x91, 0xd4, 0x6b]
theorem witness_boot : up.cfg.load = none ∧ (loading 1 none).cfg.load = none ∧
    (loading 0 none).fld (R.CFG_STAT 0) F.CFG_STAT_STATE = 0 ∧ (loading 1 none).fld (R.CFG_STAT 0) F.CFG_STAT_STATE = 1 ∧
    dirOk [] = false ∧ dirSlots emptyDir = [] ∧ dirSlots slotDir = [(0, 128)] := by decide
set_option maxRecDepth 20000 in
theorem witness_directory : dirOk emptyDir = true ∧ dirOk slotDir = true := by decide
theorem witness_cfg_data : (loading 4 none).takesData = false ∧ (loading 1 (some (loadOf 0 2 0 0 0 [1] []))).cfg.load =
      some (loadOf 0 2 0 0 0 [1] []) ∧ (loadOf 0 2 0 0 0 [1] []).src = 2 ∧ (loadOf 0 2 0 0 0 [1] []).header = [] ∧
    (loadOf 0 2 0 0 0 [1] []).inbuf.length + [2].length < 8192 := by decide
theorem witness_load_busy : (loading 1 (some (loadOf 0 2 0 0 0 [] []))).loadBusy = true ∧ (loading 4 none).loadBusy = false ∧
    (loading 4 none).fld (R.CFG_STAT 0) F.CFG_STAT_STATE = 4 := by decide
theorem witness_load_abort : (partLoad []).kind = 2 ∧ (partLoad []).header ≠ [] ∧ hdrDie (partLoad []).header = (0 : Fin 6) ∧
    hdrMeadow (partLoad []).header = 3 ∧ (meadowed.meadow 0 3).valid = true ∧ (meadowed.setF (R.CFG_MDFENCE 0) ⟨0, 32⟩ 8).mdFenced 0 3 = true ∧
    ({ meadowed with isolated := meadowed.isolated.set 0 true }).unreachable 0 (partLoad []).die = true := by decide
/-- NOP, FWRITE of one frame, DCRC, DEND. -/
theorem witness_nop : (partLoad [0]).ready = true ∧ up.unreachable 0 (partLoad [0]).die = false ∧ (partLoad [0]).badCmd = false ∧
    (partLoad [0]).fw = none ∧ (partLoad [0]).opcode = 0 := by decide
theorem witness_fwrite : let l := partLoad (0x01000001 :: 0x02800000 :: List.replicate 144 7)
    l.ready = true ∧ l.badCmd = false ∧ l.fw = none ∧ l.opcode = 1 ∧ l.arg = 1 ∧ 144 ≤ (List.replicate 144 (7 : Word)).length ∧
    l.die = 0 ∧ meadowed.faOk l (0x02800000 : Word).toNat = true ∧ (loading 2 (some l)).faOk { l with kind := 0 } 0 = true := by decide
theorem witness_dcrc : (partLoad [0x02000000, 0]).ready = true ∧ (partLoad [0x02000000, 0]).badCmd = false ∧
    (partLoad [0x02000000, 0]).opcode = 2 ∧ (partLoad [0x02000000, 0]).written = [] ∧ crcFrames [] = (0 : Word).toNat ∧
    crcFrames [] ≠ (1 : Word).toNat ∧ (partLoad [0x02000000, 1]).kind ≠ 0 := by decide
theorem witness_dend : let l := { partLoad [0x03000000] with crcLast := true }
    l.ready = true ∧ l.badCmd = false ∧ l.fw = none ∧ l.opcode = 3 := by decide
theorem witness_bad_command : (partLoad [0x04000000]).ready = true ∧ (partLoad [0x04000000]).badCmd = true ∧
    (partLoad [0x03000000]).badCmd = true ∧ (partLoad [0x04000000]).kind ≠ 0 := by decide
/-- The end of a leg that failed, of one that another follows, and of the last one. -/
theorem witness_leg_end : (partLoad []).ready = false ∧ (partLoad []).src = 2 ∧ (partLoad []).inbuf = [] ∧
    (partLoad []).ended = false ∧
    ({ partLoad [] with done := some ⟨false, false, 0, 0, 0⟩ } : Load).done = some ⟨false, false, 0, 0, 0⟩ ∧
    ({ partLoad [] with done := some ⟨true, true, 0, 0, 0⟩, ended := true } : Load).ready = false ∧
    (partLoad []).words = [] ∧ (partLoad []).fw = none ∧ (partLoad []).stored = hdrLength (partLoad []).header (partLoad []).die ∧
    (partLoad []).die < 6 := by decide
/-- Start-up of a DIELOAD of die 1, order OUTREL, SETREL, WREN, LOCK or LOCK first. -/
def starting (order step : Nat) : State :=
  { up with cfg := { up.cfg with startup := some ⟨[1], none, order, step, 1000 * ns, 1⟩ } }
theorem witness_startup : (starting 0x39 0).cfg.startup = some ⟨[1], none, 0x39, 0, 1000 * ns, 1⟩ ∧ stepCode 0x39 0 = 1 ∧
    stepCode 0x39 1 = 2 ∧ stepCode 0x39 2 = 3 ∧ stepCode 0x39 3 = 0 ∧ stepCode 0xE4 0 = 0 ∧ stepCode 0xE4 3 = 3 ∧ (1 : Nat) < 2 := by decide
theorem witness_last_lock : (starting 0xE4 0).lastLock [1] ≤ 1000 * ns + 1000000 * ns ∧
    1000 * ns + 1000000 * ns < State.lastLock ({ ((starting 0xE4 0).setF (R.FAB_FCS_CTRL 1 0) F.FAB_FCS_CTRL_EN 1).setF (R.FAB_FCS_STAT 1 0)
      F.FAB_FCS_STAT_LOCKED 1 with cfg := { (starting 0xE4 0).cfg with locks := [(2, 1002000 * ns)] } }) [1] ∧
    [1].all (State.fcsLocked (((starting 0xE4 0).setF (R.FAB_FCS_CTRL 1 0) F.FAB_FCS_CTRL_EN 1).setF (R.FAB_FCS_STAT 1 0)
      F.FAB_FCS_STAT_LOCKED 1)) = true := by decide
theorem witness_lock : [1].all (starting 0xE4 0).fcsLocked = true ∧
    [1].all ((starting 0xE4 0).setF (R.FAB_FCS_CTRL 1 0) F.FAB_FCS_CTRL_EN 1).fcsLocked = false ∧
    (starting 0xE4 0).now < 1000 * ns + 1000000 * ns ∧
    1000 * ns + 1000000 * ns ≤ ({ starting 0xE4 0 with now := 1001000 * ns }).now := by decide
theorem witness_done_rise : ({ up with cfg := { up.cfg with doneAt := some (1000 * ns, 0, [0]) } }).cfg.doneAt =
    some (1000 * ns, 0, [0]) := by decide
theorem witness_meadow : (meadowed.meadow 0 ((3 : Fin 32) : Nat)).valid = true ∧ meadowed.loading ((0 : Fin 6) : Nat) = false ∧
    (meadowed.setF (R.CFG_MDFENCE 0) ⟨0, 32⟩ 8).mdFenced 0 ((3 : Fin 32) : Nat) = true ∧ meadowed.cfg.unfence = [] ∧
    (meadowed.meadow 0 ((4 : Fin 32) : Nat)).valid = false ∧ (loading 2 (some (partLoad []))).loading ((0 : Fin 6) : Nat) = true := by decide
theorem witness_fence_take : ({ meadowed with cfg := { meadowed.cfg with fences := [(0, 3, 1000 * ns)] } }).cfg.fences = [(0, 3, 1000 * ns)] ∧
    meadowed.mdFenced 0 ((3 : Fin 32) : Nat) = false ∧ bitOf (meadowed.meadow 0 3).mask.toNat (ffRegion (270 * 32 * 216)) = true ∧
    bitOf (meadowed.meadow 0 3).mask.toNat (40 + (1 : Nat) / 2) = true := by decide
theorem witness_scrub_frame : let s := up.setF (R.CFG_SCRUB_CTRL 0) F.CFG_SCRUB_CTRL_EN 1
    s.power.slept = none ∧ s.flag (R.CFG_SCRUB_CTRL 0) F.CFG_SCRUB_CTRL_EN = true ∧
    s.flag (R.CFG_SCRUB_CTRL 0) F.CFG_SCRUB_CTRL_MBEFENCE = false ∧ addrValid (0x02800000 : Word).toNat = true ∧
    (frameAddr (0x02800000 : Word).toNat).die = (0 : Fin 6) ∧ checkedType (frameAddr (0x02800000 : Word).toNat).typ = true ∧
    s.loading ((0 : Fin 6) : Nat) = false ∧ s.meadowOf 0 (frameAddr (0x02800000 : Word).toNat).region = none ∧
    (s.fabric 0).badWords = [] ∧ weight72 (0 : BitVec 72).toNat = 0 ∧ weight72 (0x8000000000000000 : BitVec 72).toNat = 1 ∧
    2 ≤ weight72 (0x8000000000000001 : BitVec 72).toNat := by decide
theorem witness_readback : (up.setF (R.CFG_STAT 0) F.CFG_STAT_ENCSEEN 1).flag (R.CFG_STAT 0) F.CFG_STAT_ENCSEEN = true ∧
    up.flag (R.CFG_STAT 0) F.CFG_STAT_ENCSEEN = false ∧ bitOf (up.rd R.KPR_POLICY).toNat 1 = false := by decide

/-! ### Memory and vaults -/

/-- On `withMemory`, line 0 holds x. -/
def holding (x : GLine) : State := withMemory.setLine (lineKey 0 0) (some x)
/-- An uncorrectable word; a corrected one. -/
def ueLine : GLine := ⟨7, 0, .ue, .clean, .clean, .clean⟩
def ceLine : GLine := ⟨7, 0, .ce, .clean, .clean, .clean⟩
theorem witness_refused : State.reset.g6Refuse 0 (0 / 64 * 64) (.full 7) = some .errDecode ∧
    State.reset.g6Refuse 0 (0 / 64 * 64) (.read (spanMask 0 1)) = some .errDecode ∧ Resp.errDecode ≠ .ok := by decide
theorem witness_line : (holding GLine.zero).place (0 / 64 * 64) = some (0, 0) ∧ portOf 0 < 24 ∧
    (holding GLine.zero).vaultOf (0 / 64 * 64) = none ∧ calm.buf = false ∧ calm.edc < 4 ∧ calm.ecc = [] ∧
    (holding GLine.zero).line (lineKey 0 0) = some GLine.zero ∧ (holding ueLine).line (lineKey 0 0) = some ueLine := by decide
theorem witness_line_throttled :
    let s := { (holding GLine.zero).setP 0 { (holding GLine.zero).p 0 with throttled := [(5, 0, 3, 0)] } with now := 1 }
    s.place (0 / 64 * 64) = some (0, 0) ∧ portOf 0 = (0 : Fin 24).val ∧ (s.p 0).throttled = [(5, 0, 3, 0)] ∧
    (s.p 0).win = s.now / s.rhLen 0 ∧ s.now < 0 + s.rhGap 0 ∧ 0 + s.rhGap 0 ≤ (s.now / s.rhLen 0 + 1) * s.rhLen 0 ∧
    s.g6Refuse 5 (0 / 64 * 64) (.full 7) = none ∧ ∀ q : Fin 24, ((holding GLine.zero).p q).throttled = [] := by decide
theorem witness_line_kinds : (holding GLine.zero).g6Refuse 0 (0 / 64 * 64) (.full 7) = none ∧
    GLine.zero.conds [] = [.clean, .clean, .clean, .clean] ∧
    (holding GLine.zero).g6Refuse 0 (63 / 64 * 64) (.read (spanMask 63 9)) = none ∧ (1 : BitVec 64) ≠ BitVec.allOnes 64 ∧
    (holding GLine.zero).g6Refuse 0 (0 / 64 * 64) (.part 7 (1 : BitVec 64).toNat) = none ∧
    (holding GLine.zero).g6Refuse (128 * (0 : Fin 6).val + 0x48) (0 / 64 * 64) (.or_ 7) = none ∧ ueLine.m0 = .ue ∧
    (holding ueLine).g6Refuse 0 (0 / 64 * 64) (.part 7 (1 : BitVec 64).toNat) = none := by decide
/-- Region 1 written with EN = 1 where it is not enabled, where its CHBASE does not fit its COUNT, and where it is enabled. -/
theorem witness_region : (regionOf (withMemory.rd (R.PROM_REG_BASE 0 (1 : Fin 16))) (withMemory.rd (R.PROM_REG_SIZE 0 (1 : Fin 16)))
      (F.PROM_REG_CTRL_EN.set 0 1) (withMemory.rd (R.PROM_REG_CHOFS 0 (1 : Fin 16)))).en = true ∧
    (withMemory.region (1 : Fin 16)).en = false ∧ (withMemory.region (0 : Fin 16)).en = true ∧
    withMemory.regionOk (regionOf (withMemory.rd (R.PROM_REG_BASE 0 (1 : Fin 16))) (withMemory.rd (R.PROM_REG_SIZE 0 (1 : Fin 16)))
      (F.PROM_REG_CTRL_EN.set 0 1) (withMemory.rd (R.PROM_REG_CHOFS 0 (1 : Fin 16)))) = true ∧
    State.reset.regionOk (regionOf 0 0 (F.PROM_REG_CTRL_EN.set 0 1) 0) = false ∧ (regionOf 0 0 0 0).en = false := by decide
theorem witness_read_back : ∃ t u, exec (.g6FullWrite 0 0 7 calm) (holding GLine.zero) = .next t ∧ t.reply.resp = some .ok ∧
    t.g6Refuse 0 (0 / 64 * 64) (.read (2 ^ 64 - 1)) = none ∧ exec (.g6Read 0 (0 / 64 * 64) 64 calm) t = .next u :=
  ⟨_, _, rfl, by decide, by decide, rfl⟩
theorem witness_ports : State.reset.mstate (0 : Fin 24) = 0 ∧ withMemory.mstate (0 : Fin 24) = 2 ∧
    (State.reset.setF (R.MEMP_STAT 23) F.MEMP_STAT_STATE 4).mstate (23 : Fin 24) = 4 ∧
    (State.reset.setF (R.MEMP_STAT 23) F.MEMP_STAT_STATE 1).mstate (23 : Fin 24) = 1 ∧
    (State.reset.setF (R.MEMP_STAT 23) F.MEMP_STAT_STATE 5).mstate (23 : Fin 24) = 5 ∧
    ((1 : BitVec 2).toNat = withMemory.fld (R.MEMP_CTRL 0) F.MEMP_CTRL_EXPD ∧ (1 : BitVec 2) ≠ 0) ∧
    (2 : BitVec 2).toNat ≠ withMemory.fld (R.MEMP_CTRL 0) F.MEMP_CTRL_EXPD := by decide
theorem witness_refresh : withMemory.fld (R.MEMP_CTRL 0) F.MEMP_CTRL_REFMODE = 0 ∧
    (withMemory.setF (R.MEMP_CTRL 0) F.MEMP_CTRL_REFMODE 1).fld (R.MEMP_CTRL 0) F.MEMP_CTRL_REFMODE = 1 ∧
    (withMemory.setF (R.MEMP_CTRL 0) F.MEMP_CTRL_REFMODE 1).mstate (0 : Fin 24) = 2 ∧
    (withMemory.setF (R.MEMP_CTRL 0) F.MEMP_CTRL_POSTPONE 8).fld (R.MEMP_STAT 0) F.MEMP_STAT_OWED <
      min 8 ((withMemory.setF (R.MEMP_CTRL 0) F.MEMP_CTRL_POSTPONE 8).fld (R.MEMP_CTRL 0) F.MEMP_CTRL_POSTPONE) ∧
    ¬ ((withMemory.setF (R.MEMP_STAT 0) F.MEMP_STAT_OWED 8).fld (R.MEMP_STAT 0) F.MEMP_STAT_OWED < min 8 8) := by decide
/-- A scrub pass of die 0 stands at a place. -/
def scrubbing (x : GLine) (a : Nat) : State := (holding x).setScrub 0 (some ⟨a, 128⟩)
theorem witness_scrub : State.reset.scrub[(0 : Fin 6)] = none ∧
    (State.reset.setF (R.PROM_SCR_END_LO 0) F.PROM_SCR_END_LO_ADDR 1).scrStart (0 : Fin 6) <
      (State.reset.setF (R.PROM_SCR_END_LO 0) F.PROM_SCR_END_LO_ADDR 1).scrEnd (0 : Fin 6) := by decide
theorem witness_scrub_line : (scrubbing ceLine 0).scrub[(0 : Fin 6)] = some ⟨0, 128⟩ ∧
    (scrubbing ceLine (2 ^ 39)).place (2 ^ 39) = none ∧ (scrubbing ceLine 0).place 0 = some (0, 0) ∧ 0 / 8 = (0 : Fin 6).val ∧
    (scrubbing ceLine 0).mstate (portOf 0) = 2 ∧ (scrubbing ceLine 0).haltOn[(0 : Fin 6)] = false ∧
    (scrubbing ceLine 0).line (lineKey 0 0) = some ceLine ∧ ceLine.conds [] = [.ce, .clean, .clean, .clean] ∧
    ((scrubbing ceLine 0).setF (R.PROM_SCR_CTRL 0) F.PROM_SCR_CTRL_FIX 1).flag (R.PROM_SCR_CTRL 0) F.PROM_SCR_CTRL_FIX = true := by
  decide
/-- Vault 63 covers the first 64 KB in a mode and a state, at the last line but n of it. -/
def vaulted (mode st n : Nat) : State :=
  ((((holding GLine.zero).wr (R.VLT_V_SIZE 0 63) 1#32).wr (R.VLT_V_CTRL 0 63)
    (F.VLT_V_CTRL_EN.set (F.VLT_V_CTRL_MODE.set 0 mode) 1)).wr (R.VLT_V_STAT 0 63) (F.VLT_V_STAT_STATE.set 0 st)).setV 63
    ⟨[], n, false, some 5⟩
theorem witness_enable : State.reset.vctrl (63 : Fin 64) F.VLT_V_CTRL_EN = 0 ∧
    State.reset.enableOk 63 (F.VLT_V_CTRL_EN.set 0 1) = false ∧
    (withMemory.wr (R.VLT_V_SIZE 0 63) 1#32).vctrl (63 : Fin 64) F.VLT_V_CTRL_EN = 0 ∧
    (withMemory.wr (R.VLT_V_SIZE 0 63) 1#32).enableOk 63 (F.VLT_V_CTRL_EN.set 0 1) = true ∧ F.VLT_V_CTRL_RKGO.get (0 : Word) = 0 := by
  decide
theorem witness_disable : (vaulted 1 1 0).vctrl (63 : Fin 64) F.VLT_V_CTRL_EN = 1 ∧ (vaulted 1 1 0).vstate (63 : Fin 64) = 1 ∧
    (vaulted 1 3 0).vstate (63 : Fin 64) = 3 ∧ (vaulted 1 2 0).vstate (63 : Fin 64) = 2 ∧
    (vaulted 1 5 0).vstate (63 : Fin 64) = 5 ∧
    F.VLT_V_CTRL_RKGO.get ((vaulted 1 2 0).rd (R.VLT_V_CTRL 0 (63 : Fin 64))) = 0 ∧ ((vaulted 1 2 0).v 63).dueAt = some 5 := by decide
theorem witness_generation : (vaulted 1 2 0).vctrl (63 : Fin 64) F.VLT_V_CTRL_GEN ≠ 65535 ∧
    ((vaulted 1 2 0).setF (R.VLT_V_CTRL 0 63) F.VLT_V_CTRL_GEN 65535).vctrl (63 : Fin 64) F.VLT_V_CTRL_GEN = 65535 ∧
    ((vaulted 1 2 0).setF (R.VLT_V_CTRL 0 63) F.VLT_V_CTRL_GEN 65535).vstate (63 : Fin 64) = 2 := by decide
theorem witness_engine : (vaulted 1 1 0).engineRefuse ((vaulted 1 1 0).v 63).ptr = none ∧
    (vaulted 1 1 0).place ((vaulted 1 1 0).v 63).ptr = some (0, 0) ∧
    ((vaulted 1 1 0).v 63).ptr + 64 < (vaulted 1 1 0).vbase (63 : Fin 64) + (vaulted 1 1 0).vsize (63 : Fin 64) ∧
    (vaulted 1 1 65472).engineRefuse ((vaulted 1 1 65472).v 63).ptr = none ∧
    (vaulted 1 1 65472).place ((vaulted 1 1 65472).v 63).ptr = some (0, 1023) ∧
    (vaulted 1 1 65472).vbase (63 : Fin 64) + (vaulted 1 1 65472).vsize (63 : Fin 64) ≤ ((vaulted 1 1 65472).v 63).ptr + 64 := by decide
theorem witness_rekey_line : (vaulted 1 3 0).engineRefuse ((vaulted 1 3 0).v 63).ptr = none ∧
    (vaulted 1 3 0).line (lineKey 0 0) = some GLine.zero ∧
    (vaulted 1 3 0).tagOk (some 63) ((vaulted 1 3 0).v 63).ptr GLine.zero = true ∧
    (vaulted 1 3 65472).line (lineKey 0 1023) = some GLine.zero ∧
    (vaulted 1 3 65472).tagOk (some 63) ((vaulted 1 3 65472).v 63).ptr GLine.zero = true ∧
    (vaulted 1 3 65472).flag (R.VLT_V_STAT 0 (63 : Fin 64)) F.VLT_V_STAT_RKPEND = false ∧
    (vaulted 1 3 65472).vctrl (63 : Fin 64) F.VLT_V_CTRL_GEN < 65535 := by decide
/-- In mode 2 some tag of a line is wrong, whatever the right one is. -/
theorem witness_wrong_tag : ∃ l : GLine, (vaulted 2 3 0).tagOk (some 63) 0 l = false ∧
    l.conds [] = [.clean, .clean, .clean, .clean] ∧ (vaulted 2 3 0).haltReq = false := by
  refine ⟨⟨0, lineTag ((vaulted 2 3 0).keyOf 63 ((vaulted 2 3 0).genOf 63 0)) 0 ((vaulted 2 3 0).genOf 63 0) 0 + 1,
    .clean, .clean, .clean, .clean⟩, ?_, by decide, by decide⟩
  have h : (vaulted 2 3 0).vctrl (63 : Fin 64) F.VLT_V_CTRL_MODE = 2 := by decide
  have h' : (vaulted 2 3 0).vctrl 63 F.VLT_V_CTRL_MODE = 2 := h
  simp [State.tagOk, h']
theorem witness_halt : ({ up with haltReq := true }).haltReq = true ∧ ({ up with haltReq := true }).haltOn[(0 : Fin 6)] = false := by
  decide

/-! ### The DMA engine and the bus -/

/-- Channel 31 of die 0 in a state, with what it holds. -/
def channel (n : Nat) (x : DmaCh) : State := (withMemory.setDm 0 31 x).setDmaState 0 31 n
/-- A channel that holds nothing. -/
def idleCh : DmaCh := State.reset.dm 0 31
/-- A read and a write of 64 bytes in flight. -/
def readBeat : Beat := ⟨64, 64, false, [], 0, true, withMemory.regionMap, false, withMemory.now⟩
def writeBeat : Beat := ⟨128, 64, true, List.replicate 64 5, 0, true, withMemory.regionMap, false, withMemory.now⟩
/-- 64 bytes from 64 to 128, the last descriptor of its chain. -/
def lastDesc : BitVec 256 := BitVec.ofNat 256 (2 ^ 11 + 2 ^ 12 + 64 * 2 ^ 32 + 64 * 2 ^ 64 + 128 * 2 ^ 128)
theorem witness_dma_start : State.reset.dmaState 0 31 = 0 ∧ (channel 4 idleCh).dmaState 0 31 = 4 ∧ (channel 5 idleCh).dmaState 0 31 ≠ 0 ∧
    (channel 5 idleCh).dmaState 0 31 ≠ 4 ∧ (channel 5 idleCh).dmaState 0 31 = 5 ∧ State.reset.dmaState 0 31 ≠ 5 := by decide
theorem witness_dma_stop : (channel 1 { idleCh with stage := [1] }).dmaBusy 0 31 = true ∧
    ((channel 1 { idleCh with stage := [1] }).dm 0 31).stage ≠ [] ∧ (channel 3 idleCh).dmaBusy 0 31 = true ∧
    ((channel 3 idleCh).dm 0 31).stage = [] ∧ ((channel 3 idleCh).dm 0 31).fly.any (fun b => !b.write) = false ∧
    ((channel 1 { idleCh with fly := [readBeat] }).dm 0 31).fly.any (fun b => !b.write) = true ∧ (channel 4 idleCh).dmaBusy 0 31 = false := by
  decide
theorem witness_dma_pend : State.reset.dmaPend 0 31 < 255 ∧
    (State.reset.setF (R.DMA_CH_STAT 0 31) F.DMA_CH_STAT_PEND 255).dmaPend 0 31 = 255 ∧
    (State.reset.setF (R.DMA_CH_CTRL 0 31) F.DMA_CH_CTRL_RSEL 13).dmaRsel 0 31 = 13 ∧
    (State.reset.setF (R.DMA_CH_CTRL 0 31) F.DMA_CH_CTRL_RSEL 2).dmaRsel 0 31 = 2 ∧
    ((State.reset.modC 0 (fun x => { x with trigs := [(5, 1, 31)] })).c 0).trigs = [(5, 1, (31 : Fin 32).val)] := by decide
/-- A channel that waits for its request, from the repair analyser's results. -/
def paced (rsel pend : Nat) : State :=
  (((channel 2 { idleCh with desc := some lastDesc }).setF (R.DMA_CH_CTRL 0 31) F.DMA_CH_CTRL_RSEL rsel).setF
    (R.DMA_CH_STAT 0 31) F.DMA_CH_STAT_PEND pend).wr (R.RAE_RWPTR 0) 1
theorem witness_paced : ((paced 12 1).dm 0 31).desc = some lastDesc ∧ (paced 12 1).dmaState 0 31 = 2 ∧
    ((paced 12 1).setReq 0 31 false).dmaPend 0 31 ≠ 0 ∧ ((paced 12 0).setReq 0 31 false).dmaPend 0 31 = 0 ∧
    ((paced 12 0).setReq 0 31 false).dmaLevel 0 31 = true ∧ (paced 12 0).dmaState 0 31 = 2 ∧
    ((paced 12 0).dm 0 31).fly.any (fun b => !b.write) = false := by decide
/-- A fabric that runs: its request lines are live. -/
theorem witness_request_line (n : Nat) : (paced 13 0).lineLive 0 n = true := by
  have h0 : ((paced 13 0).fabric 0).meadows = [] := by decide
  have h1 : (paced 13 0).cfgUp[(0 : Fin 6)] = true := by decide
  have h : (paced 13 0).meadowOf 0 (Config.lineRegion n) = none := by
    simp [State.meadowOf, State.meadow, h0, nth]
  simp [State.lineLive, State.regionFenced, h, h1]
theorem witness_request_line_dead : { paced 13 0 with cfgUp := Vector.replicate 6 false }.lineLive 0 (16 + 31) = false ∧
    (paced 13 0).dmaRsel 0 31 = 13 ∧ (paced 13 0).dmaPend 0 31 < 255 := by decide
/-- A channel fetches the 32 bytes at address 0, which hold v. -/
def fetchingAt (v : Nat) : State :=
  ((channel 1 { idleCh with fetching := true }).setLine (lineKey 0 0) (some ⟨BitVec.ofNat 512 v, 0, .clean, .clean, .clean, .clean⟩))
theorem witness_desc_fetch : ((fetchingAt lastDesc.toNat).dm 0 31).fetching = true ∧
    ((fetchingAt lastDesc.toNat).access (readAcc (0 * 128 + 0x18 + 31) 0 32 false) []).resp = some .ok ∧
    descBad (BitVec.ofNat 256 (leOf ((fetchingAt lastDesc.toNat).access (readAcc (0 * 128 + 0x18 + 31) 0 32 false) []).data)) = false ∧
    descOp lastDesc = 0 ∧ descPace lastDesc = false ∧ descPace (lastDesc + 128) = true ∧ descBad (lastDesc + 128) = false := by decide
theorem witness_desc_bad : ((fetchingAt 0).access (readAcc (0 * 128 + 0x18 + 31) 0 32 false) []).resp = some .ok ∧
    descBad (BitVec.ofNat 256 (leOf ((fetchingAt 0).access (readAcc (0 * 128 + 0x18 + 31) 0 32 false) []).data)) = true ∧
    ((fetchingAt 0).access (readAcc (0 * 128 + 0x18 + 31) 0 32 false) []).st.dmaState 0 31 ≠ 5 ∧
    (((fetchingAt 0).access (readAcc (0 * 128 + 0x18 + 31) 0 32 false) []).st.dm 0 31).fly = [] := by decide
/-- A burst of the last descriptor: its bytes asked for, or its bytes staged. -/
def reading : State := channel 1 { idleCh with desc := some lastDesc, burst := some (0, 64, 0, 0) }
def writing : State := (channel 1 { idleCh with desc := some lastDesc, burst := some (0, 64, 64, 0), stage := List.replicate 64 5 }).wr
  (R.DMA_CH_COUNT 0 31) 64#32
theorem witness_beat_read : reading.haltFrozen (0 : Fin 6) F.DBG_FREEZE_DMA = false ∧ reading.dmaFlying 0 < 256 ∧
    reading.dmaPick 0 = some 31 ∧ (reading.nextRead 0 31).isSome = true ∧ reading.nextWrite 0 31 = none := by decide
theorem witness_beat_write : writing.haltFrozen (0 : Fin 6) F.DBG_FREEZE_DMA = false ∧ writing.dmaFlying 0 < 256 ∧
    writing.dmaPick 0 = some 31 ∧ writing.nextRead 0 31 = none ∧ (writing.nextWrite 0 31).map (fun b => b.len) = some 64 ∧
    (writing.dm 0 31).stop = false ∧ writing.dmaCount 0 31 = writeBeat.len ∧ descLast lastDesc = true ∧ descIrq lastDesc = true := by decide
/-- Beats whose address answers OK, or ERR_DECODE. -/
def flown (bs : List Beat) : State := channel 1 { idleCh with fly := bs }
theorem witness_read_response : (flown [writeBeat, readBeat]).dm 0 31 = { idleCh with fly := [writeBeat, readBeat] } ∧
    [writeBeat, readBeat].find? (fun b => !b.write) = some readBeat ∧ readBeat.live = true ∧
    ((flown [writeBeat, readBeat]).access (readAcc (0 * 128 + 0x18 + 31) 64 64 false) []).resp = some .ok ∧
    ((flown [writeBeat, readBeat]).access (readAcc (0 * 128 + 0x18 + 31) 64 64 false) []).st.dmaState 0 31 = 1 ∧
    (((flown [writeBeat, readBeat]).access (readAcc (0 * 128 + 0x18 + 31) 64 64 false) []).st.dm 0 31).err = none ∧
    (((flown [writeBeat, readBeat]).access (readAcc (0 * 128 + 0x18 + 31) 64 64 false) []).st.dm 0 31).stop = false ∧
    ((flown [readBeat]).access (readAcc (0 * 128 + 0x18 + 31) (2 ^ 39) 64 false) []).resp = some .errDecode := by decide
theorem witness_write_response : [readBeat, writeBeat].find? (fun b => b.write) = some writeBeat ∧ writeBeat.live = true ∧
    ((flown [readBeat, writeBeat]).access (writeAcc (0 * 128 + 0x18 + 31) 128 writeBeat.data false) []).resp = some .ok ∧
    ((flown [readBeat, writeBeat]).access (writeAcc (0 * 128 + 0x18 + 31) 128 writeBeat.data false) []).st.dmaState 0 31 = 1 ∧
    (((flown [readBeat, writeBeat]).access (writeAcc (0 * 128 + 0x18 + 31) 128 writeBeat.data false) []).st.dm 0 31).err = none ∧
    (((flown [readBeat, writeBeat]).access (writeAcc (0 * 128 + 0x18 + 31) 128 writeBeat.data false) []).st.dm 0 31).stop = false ∧
    ((flown [writeBeat]).access (writeAcc (0 * 128 + 0x18 + 31) (2 ^ 39) writeBeat.data false) []).resp = some .errDecode := by decide
theorem witness_bus : 4096 < (4095 : BitVec 48).toNat % 4096 + 2 ∧ placeOf (0x200000000000 : BitVec 48).toNat = .none_ ∧
    (withMemory.access (readAcc 0x60 0x1FFFFFFFFFF8 4 false) []).resp = some .errDecode ∧
    (withMemory.access (readAcc 0x60 (0x100000000000 + 0x5FFFFFFFC) 4 false) []).resp = some .errAbsent := by decide
theorem witness_late_response : (⟨(5 : Fin 6).val, (3 : BitVec 10).toNat, (9 : BitVec 48).toNat⟩ : Txn) ∈
    ({ up with txns := [⟨5, 3, 9⟩] }).txns := by decide
/-- The tree is open, and an access to device 63 has left. -/
def remoteAcc : Access := readAcc 0x60 (0x400000000000 + 63 * 0x10000000000) 4 false
def away : State := { ((worker 3).setF R.TSY_STAT F.TSY_STAT_TREE 2) with
  power := { up.power with up := true }, remoteOut := [remoteAcc] }
theorem witness_remote : placeOf remoteAcc.addr = .remote 63 0 ∧ State.reset.remoteRefuse 0x60 63 0 = some .errAbsent ∧
    away.remoteRefuse remoteAcc.src 63 0 = none ∧ remoteAcc ∈ away.remoteOut := by decide
theorem witness_remote_local : remoteLocal 0 = some 0 ∧ remoteLocal 0x8000000000 = some 0x100000000000 ∧
    remoteLocal 0xFFFFFFFFFF = some 0x1FFFFFFFFFFF ∧ remoteLocal 0x8600000000 = none := by decide

theorem witness_beat_map : readBeat.gone = false ∧ readBeat.map = (flown [readBeat]).regionMap := by decide
theorem witness_issued : (flown [readBeat]).issuedAt 0 (0x37 : BitVec 10).toNat (64 : BitVec 48).toNat = some withMemory.now := by decide

/-! ### Control cores and debug -/

/-- Core 0 runs, its PC at address 0, whose line its L1 instruction cache holds with an instruction at its start; the L2 holds
line 0. -/
def coring (bits : Nat) : State :=
  let s := ((up.setF (R.CC_CTRL 0) F.CC_CTRL_RUN 1).setF (R.CC_STAT 0) F.CC_STAT_STATE 1).setF (R.CC_CWIN 0) F.CC_CWIN_SIZE 1
  ({ s with power := { s.power with up := true }, dieDown := Vector.replicate 6 false }.setL2 0 ⟨[(0, (9, false))], none⟩).modCr 0
    (fun c => { c with l1i := [(0, BitVec.ofNat 512 bits)], pc := 0 })
/-- An instruction of 4 bytes that the L1 instruction cache holds is executed next. -/
theorem coreAt {bits : Nat} (h : (coring bits).coreRuns 0 = true ∧ ((coring bits).cr 0).waiting = none ∧ ((coring bits).cr 0).haltPend = none ∧
    ((coring bits).cr 0).stepping = false ∧ (coring bits).irqTaken 0 = none ∧
    (coring bits).bpHit 0 F.DBG_BP_CTRL_X ((coring bits).cr 0).pc.toNat = none) (h' : (coring bits).fetchRv 0 [] = (.ok bits, coring bits)) :
    CoreAt (coring bits) 0 [] bits := ⟨h.1, h.2.1, h.2.2.1, h.2.2.2.1, h.2.2.2.2.1, h.2.2.2.2.2, h'⟩
theorem witness_core_add : CoreAt (coring 0x003100B3) 0 [] 0x003100B3 ∧ rvDecode 0x003100B3 = .aluReg .add false 1 2 3 ∧ 1 < 32 :=
  ⟨coreAt (by decide) (by rfl), by decide, by decide⟩
theorem witness_core_branch : CoreAt (coring 0x00000463) 0 [] 0x00000463 ∧ rvDecode 0x00000463 = .branch 0 0 0 8 :=
  ⟨coreAt (by decide) (by rfl), by decide⟩
theorem witness_core_load : CoreAt (coring 0x00013083) 0 [] 0x00013083 ∧ rvDecode 0x00013083 = .load 3 1 2 0 ∧
    ((coring 0x00013083).cr 0).reg 2 + 0 = 0 ∧ (coring 0x00013083).dataCheck 0 false 0 (2 ^ (3 % 4)) = none ∧
    (coring 0x00013083).cached ((0 : Fin 12).val / 2) 0 = true ∧ (coring 0x00013083).l2Line (coreDie 0) (0 / 64) = some (9, false) :=
  ⟨coreAt (by decide) (by rfl), by decide, by decide, by decide, by decide, by decide⟩
theorem witness_core_ecall : CoreAt (coring 0x00000073) 0 [] 0x00000073 ∧ rvDecode 0x00000073 = .ecall :=
  ⟨coreAt (by decide) (by rfl), by decide⟩
theorem witness_core_fence : CoreAt (coring 0x0FF0000F) 0 [] 0x0FF0000F ∧ rvDecode 0x0FF0000F = .fence 15 ∧ bitOf 15 0 = true ∧
    ((coring 0x0FF0000F).cr 0).posted = [] ∧ ((coring 0x0FF0000F).cr 0).flight = [] :=
  ⟨coreAt (by decide) (by rfl), by decide, by decide, by decide, by decide⟩
theorem witness_core_fence_waits :
    let s := (coring 0x0FF0000F).modCr 0 (fun c => { c with posted := [(8, .errDecode)] })
    CoreAt s 0 [] 0x0FF0000F ∧ ((s.pollPosted 0).cr 0).posted ≠ [] :=
  ⟨⟨by decide, by decide, by decide, by decide, by decide, by decide, by rfl⟩, by decide⟩
theorem witness_core_amo : CoreAt (coring 0x003130AF) 0 [] 0x003130AF ∧ rvDecode 0x003130AF = .amo .add false 1 2 3 ∧
    ((coring 0x003130AF).cr 0).reg 2 = 0 ∧ (coring 0x003130AF).amoCheck 0 false 0 8 = none ∧
    (coring 0x003130AF).cached ((0 : Fin 12).val / 2) 0 = true ∧ (coring 0x003130AF).l2Line (coreDie 0) (0 / 64) = some (9, false) :=
  ⟨coreAt (by decide) (by rfl), by decide, by decide, by decide, by decide, by decide⟩
theorem witness_core_ebreak : CoreAt (coring 0x00100073) 0 [] 0x00100073 ∧ rvDecode 0x00100073 = .ebreak ∧
    (coring 0x00100073).ebreakHalts 0 = false :=
  ⟨coreAt (by decide) (by rfl), by decide, by decide⟩
theorem witness_core_ebreak_halts : let s := (coring 0x00100073).setF (R.DBG_CTRL 0) F.DBG_CTRL_EBREAKM 1
    CoreAt s 0 [] 0x00100073 ∧ s.ebreakHalts 0 = true ∧ s.flag (R.DBG_FREEZE ((0 : Fin 12).val / 2)) F.DBG_FREEZE_PEER = false :=
  ⟨⟨by decide, by decide, by decide, by decide, by decide, by decide, by rfl⟩, by decide, by decide⟩
/-- Core 11 in a state. -/
def cored (n : Nat) : State := up.setF (R.CC_STAT 11) F.CC_STAT_STATE n
theorem witness_core_run : State.reset.ccState (11 : Fin 12) = 0 ∧ State.reset.flag (R.DBG_CTRL (11 : Fin 12)) F.DBG_CTRL_HOR = false := by
  decide
theorem witness_halt_resume : (cored 1).ccLive 11 = true ∧ (cored 3).ccLive 11 = true ∧ ((cored 1).cr 11).waiting = none ∧
    (cored 1).flag (R.DBG_FREEZE ((11 : Fin 12).val / 2)) F.DBG_FREEZE_PEER = false ∧ (cored 0).ccLive 11 = false ∧
    (cored 2).ccLive 11 = false ∧ (cored 2).ccState (11 : Fin 12) = 2 ∧ ((cored 2).cr (peer 11)).byPeer = false ∧
    ((cored 2).cr (peer 11)).haltPend = none ∧ ((cored 2).setF (R.DBG_FREEZE 5) F.DBG_FREEZE_WDT 0).fld (R.DBG_FREEZE ((11 : Fin 12).val / 2)) F.DBG_FREEZE_WDT = 0 ∧
    (cored 1).ccState (11 : Fin 12) ≠ 2 := by decide
theorem witness_abstract_command : F.DBG_ACMD_REGNO.get (F.DBG_ACMD_REGNO.set 0 0x1001) = 0x1000 + 1 ∧
    F.DBG_ACMD_WRITE.get (F.DBG_ACMD_WRITE.set (F.DBG_ACMD_REGNO.set 0 0x101F) 1) = 1 ∧
    F.DBG_ACMD_REGNO.get (F.DBG_ACMD_WRITE.set (F.DBG_ACMD_REGNO.set 0 0x101F) 1) = 0x1000 + 31 ∧
    F.DBG_ACMD_WRITE.get (F.DBG_ACMD_REGNO.set 0 0x1001) = 0 := by decide
theorem witness_watchdog : let s := (cored 1).setF (R.CC_WDT_CTRL 11) F.CC_WDT_CTRL_EN 1
    (0 : Word) ≠ 0xA5 ∧ (s.wr (R.CC_WDT_CNT 11) 1#32).wdtRuns 11 = true ∧ (s.wr (R.CC_WDT_CNT 11) 1#32).rd (R.CC_WDT_CNT (11 : Fin 12)) ≠ 0 ∧
    (cored 1).wdtRuns 11 = false ∧ (s.wr (R.CC_WDT_CNT 11) 0#32).wdtRuns 11 = true ∧
    (s.wr (R.CC_WDT_CNT 11) 0#32).rd (R.CC_WDT_CNT (11 : Fin 12)) = 0 ∧
    (s.wr (R.CC_WDT_CNT 11) 0#32).flag (R.DBG_CTRL (11 : Fin 12)) F.DBG_CTRL_HOR = false := by decide
theorem witness_timer : ((cored 3).modCr 11 (fun c => c.setCsr 0x304 0x80)).ccState (11 : Fin 12) = 3 ∧
    bitOf ((((cored 3).modCr 11 (fun c => c.setCsr 0x304 0x80)).cr 11).csrRaw 0x304).toNat 7 = true := by decide
theorem witness_posted_error : ((((cored 1).modCr 11 (fun c => { c with posted := [(2 ^ 48 - 1, .errAbsent)] })).pollPosted 11).cr 11).posted =
    [(2 ^ 48 - 1, .errAbsent)] ∧ 2 ^ 48 - 1 < 2 ^ 48 := by decide
theorem witness_l2_operation : (up.setF (R.CC_L2OP_CTRL 5) F.CC_L2OP_CTRL_BUSY 1).flag (R.CC_L2OP_CTRL (5 : Fin 6)) F.CC_L2OP_CTRL_BUSY = true ∧
    up.flag (R.CC_L2OP_CTRL (5 : Fin 6)) F.CC_L2OP_CTRL_BUSY = false ∧
    (up.setL2 5 ⟨[], some [(1, 9)]⟩).l2[(5 : Fin 6)].op = some [(1, 9)] := by decide
theorem witness_terminal : (up.setF (R.DBG_VTSTAT 11) F.DBG_VTSTAT_TXFULL 1).flag (R.DBG_VTSTAT (11 : Fin 12)) F.DBG_VTSTAT_TXFULL = true ∧
    up.flag (R.DBG_VTSTAT (11 : Fin 12)) F.DBG_VTSTAT_TXFULL = false ∧
    (up.setF (R.DBG_VTSTAT 11) F.DBG_VTSTAT_RXFULL 1).flag (R.DBG_VTSTAT (11 : Fin 12)) F.DBG_VTSTAT_RXFULL = true ∧
    up.flag (R.DBG_VTSTAT (11 : Fin 12)) F.DBG_VTSTAT_RXFULL = false := by decide
/-- The device is up, its life-cycle and debug states as given; region 0 maps 1 MB. -/
def authed (lc dbg : Nat) : State :=
  let s := (withMemory.setF R.KPR_STAT F.KPR_STAT_LC lc).setF R.KPR_STAT F.KPR_STAT_DBG dbg
  { s with power := { s.power with up := true } }
theorem witness_tap : (authed 1 0).tapAccepts irExtest = true ∧ (authed 2 0).tapAccepts irExtest = false ∧
    (authed 2 0).tapAccepts irSample = true ∧ (authed 2 0).tapAccepts irDbgauth = true ∧
    (authed 2 1).tapAccepts irDbgacc = true ∧ (authed 2 1).tap.op = none ∧ (authed 2 0).tapAccepts irDbgacc = false ∧
    (authed 2 1).dbgState ≠ 2 ∧ (authed 2 2).dbgState = 2 ∧ (authed 2 2).tapAccepts irDbgacc = true := by decide
theorem witness_tap_read : let s := authed 2 2
    let u := { s with tap := { s.tap with ir := irDbgacc, addr := 0 } }
    (u.access (readAcc 0x62 (0 : BitVec 48).toNat 4 true) []).resp = some .ok ∧
    (u.access (writeAcc 0x62 (0 : BitVec 48).toNat (leBytes 4 (7 : Word).toNat) true) []).resp = some .ok := by decide

/-! ### The keeper -/

/-- The keeper with a life-cycle state, the fuses' locks and policy, a command that runs. -/
def keeping (lc lock pol : Nat) (cmd : Option (Nat × Nat)) : State :=
  let s := (((authed lc 0).wr R.KPR_FLOCK (BitVec.ofNat 32 lock)).wr R.KPR_POLICY (BitVec.ofNat 32 pol))
  { s with keeper := { s.keeper with cmd := cmd } }
theorem witness_mailbox : (keeping 1 0 0 none).keeperAllows (0x62 : BitVec 10).toNat true = false ∧ up.keeperAllows (0x60 : BitVec 10).toNat true = true ∧
    (up.setF R.KPR_MBOX_STAT F.KPR_MBOX_STAT_BUSY 1).flag R.KPR_MBOX_STAT F.KPR_MBOX_STAT_BUSY = true ∧
    (up.setF R.KPR_MBOX_STAT F.KPR_MBOX_STAT_BUSY 1).keeperAllows (0x60 : BitVec 10).toNat true = true ∧
    up.flag R.KPR_MBOX_STAT F.KPR_MBOX_STAT_BUSY = false ∧ up.keeper.cmd = none ∧ (keeping 0 0 0 (some (8, 0))).keeper.cmd = some (8, 0) := by
  decide
theorem witness_fuse_prog : 1 < (keeping 2 0 0 (some (2, 3))).life ∧ (keeping 1 2 0 (some (2, 3))).life ≤ 1 ∧
    (keeping 1 2 0 (some (2, 3))).fuseLocked 1 = true ∧ (keeping 1 0 0 (some (2, 3))).fuseLocked 1 = false ∧
    (keeping 1 0 0 (some (2, 3))).keeper.fuses.bshash.toNat ||| keyVal ((keeping 1 0 0 (some (2, 3))).mbox 12) =
      keyVal ((keeping 1 0 0 (some (2, 3))).mbox 12) ∧
    ({ keeping 1 0 0 none with keeper := { up.keeper with fuses := { up.keeper.fuses with bshash := 1 } } }).keeper.fuses.bshash.toNat |||
      keyVal ((keeping 1 0 0 none).mbox 12) ≠ keyVal ((keeping 1 0 0 none).mbox 12) := by decide
theorem witness_policy_prog : 64 ≤ (((keeping 1 0 0 (some (2, 6))).wr (R.KPR_MBOX_DATA 0) 64#32).rd (R.KPR_MBOX_DATA 0)).toNat ∧
    (((keeping 1 0 0 (some (2, 6))).wr (R.KPR_MBOX_DATA 0) 63#32).rd (R.KPR_MBOX_DATA 0)).toNat < 64 ∧
    2 < (keeping 3 0 0 (some (2, 6))).life ∧ (keeping 2 0 0 (some (2, 6))).life ≤ 2 := by decide
theorem witness_lc_advance : ((0, 1) : Nat × Nat) ∈ [(0, 1), (1, 2)] ∧
    ¬ (((0, 1) : Nat × Nat) ∈ [(0, 4), (1, 4), (3, 4)] ∨ (0, 1) = (0, 1) ∧ (keeping 0 0 0 (some (3, 1))).fuseLocked 0 = true ∨
      ((0, 1) : Nat × Nat) = (1, 2) ∧ (keeping 0 0 0 (some (3, 1))).fuseLocked 1 = true) ∧
    (keeping 0 1 0 (some (3, 1))).life = 0 ∧ (keeping 0 1 0 (some (3, 1))).fuseLocked 0 = true ∧
    (keeping 1 2 8 (some (3, 2))).life = 1 ∧ (keeping 1 2 8 (some (3, 2))).fuseLocked 1 = true ∧ (keeping 1 2 8 (some (3, 2))).policy 3 = true ∧
    ((4, 0) : Nat × Nat) ∉ [(0, 1), (0, 4), (1, 2), (1, 4), (2, 3), (2, 4), (3, 4)] ∧ ((keeping 4 0 0 (some (3, 0))).life, 0) = (4, 0) := by
  decide
theorem witness_lc_advance_signed : (((keeping 2 0 0 (some (3, 3))).life, 3) : Nat × Nat) ∈ [(2, 3), (2, 4)] ∧
    ((keeping 2 0 0 (some (3, 3))).setF R.KPR_STAT F.KPR_STAT_FAILS 16).lockedOut = true ∧
    (keeping 2 0 0 (some (3, 3))).lockedOut = false ∧
    (keeping 2 0 0 (some (3, 3))).validNonce (keeping 2 0 0 (some (3, 3))).keeper.nonceBox = none := by decide
theorem witness_in_field : (keeping 0 0 0 (some (4, 0))).inField = false ∧ (keeping 1 0 0 (some (4, 0))).inField = true ∧
    (keeping 0 0 0 (some (5, 0))).inField = false ∧ (keeping 2 0 0 (some (5, 0))).inField = true ∧
    (keeping 2 0 0 (some (5, 0))).fld R.KPR_RBCNT F.KPR_RBCNT_LOADED ≤ rbCount (keeping 2 0 0 (some (5, 0))).keeper.fuses.antirb ∧
    rbCount ((keeping 2 0 0 (some (5, 0))).setF R.KPR_RBCNT F.KPR_RBCNT_LOADED 1).keeper.fuses.antirb <
      ((keeping 2 0 0 (some (5, 0))).setF R.KPR_RBCNT F.KPR_RBCNT_LOADED 1).fld R.KPR_RBCNT F.KPR_RBCNT_LOADED := by decide
/-- Words in the keeper's input queue. -/
def queued (ws : List Word) : State := { authed 1 0 with keeper := { up.keeper with inq := ws } }
theorem witness_dbgauth_queue : (queued []).tapAuth = true ∧ State.reset.tapAuth = false ∧
    (queued (0x01010000 :: List.replicate 8 0)).keeper.inq = 0x01010000 :: List.replicate 8 0 ∧
    (0x01010000 : Word).toNat / 2 ^ 24 = 1 ∧ 8 ≤ (List.replicate 8 (0 : Word)).length ∧ (List.replicate 7 (0 : Word)).length < 8 ∧
    (0x05000000 : Word).toNat / 2 ^ 24 = 5 ∧ (0x03020000 : Word).toNat / 2 ^ 24 = 3 ∧ (queued []).keeper.msg = none := by decide
/-- A DBGAUTH message is processed: the life-cycle and debug states, locks and policy, the message. -/
def asked (lc dbg lock pol : Nat) (w : Word) (k : Keeper → Keeper) : State :=
  let s := ((authed lc dbg).wr R.KPR_FLOCK (BitVec.ofNat 32 lock)).wr R.KPR_POLICY (BitVec.ofNat 32 pol)
  { s with keeper := k { s.keeper with msg := some (w, []) } }
theorem witness_message : (asked 1 0 0 0 0x05000000 id).keeper.msg = some (0x05000000, []) ∧
    (asked 1 0 0 0 0x05000000 id).keeper.outq.length + 11 ≤ 16 ∧ (asked 1 0 0 0 0x05000000 id).dbgState < 3 ∧
    (asked 1 2 0 0 0x04000000 id).dbgState = 2 ∧ 6 ≤ (0x06000000 : Word).toNat / 2 ^ 24 := by decide
theorem witness_open_pwd : (0x01020000 : Word).toNat = 0x01000000 + 2 * 0x10000 ∧ (asked 0 0 0 0 0x01020000 id).life = 0 ∧
    2 ≤ (asked 2 0 0 0 0x01020000 id).life ∧ (asked 1 0 0 32 0x01020000 id).life = 1 ∧ (asked 1 0 0 32 0x01020000 id).policy 5 = true ∧
    (asked 1 0 4 0 0x01020000 id).policy 5 = false ∧
    ((asked 1 0 4 0 0x01020000 id).setF R.KPR_STAT F.KPR_STAT_FAILS 16).lockedOut = true ∧
    ((asked 1 0 4 0 0x01020000 id).setF R.KPR_STAT F.KPR_STAT_FAILS 16).policy 5 = false ∧
    (asked 1 0 4 0 0x01020000 id).lockedOut = false ∧ (asked 1 0 4 0 0x01020000 id).fuseLocked 2 = true := by decide
/-- The password that is fused, and another one. -/
theorem witness_password (l : Nat) : let h := Config.sha384 (keyBytes (([] : List Word).take 8))
    let fused (x : BitVec 384) : State := asked 1 l 4 0 0x01020000 (fun k => { k with fuses := { k.fuses with pwdhash := x } })
    h = (fused h).keeper.fuses.pwdhash ∧ h ≠ (fused (h + 1)).keeper.fuses.pwdhash := by
  refine ⟨rfl, ?_⟩
  have key : ∀ x : BitVec 384, x ≠ x + 1 := by
    intro x h
    have h1 := congrArg BitVec.toNat h
    rw [BitVec.toNat_add] at h1
    have h2 : (1 : BitVec 384).toNat = 1 := rfl
    have h3 := x.isLt
    rw [h2] at h1
    omega
  exact key _
theorem witness_chal : (0x02020000 : Word).toNat = 0x02000000 + 2 * 0x10000 ∧ (asked 4 0 0 0 0x02020000 id).ceiling < 2 ∧
    2 ≤ (asked 1 0 0 0 0x02020000 id).ceiling := by decide
theorem witness_open_sig : (0x03020000 : Word).toNat = 0x03000000 + 2 * 0x10000 ∧ 0 < (asked 2 0 0 4 0x03020000 id).life ∧
    (asked 2 0 0 4 0x03020000 id).life < 4 ∧ (asked 2 0 0 4 0x03020000 id).ceiling < 2 ∧ 1 ≤ (asked 2 0 0 4 0x03020000 id).ceiling ∧
    ((asked 2 0 0 0 0x03020000 id).setF R.KPR_STAT F.KPR_STAT_FAILS 16).lockedOut = true ∧ (asked 2 0 0 0 0x03020000 id).lockedOut = false ∧
    (asked 2 0 0 0 0x03020000 id).keeper.nonceTap = none ∧ 2 ≤ (asked 2 0 0 0 0x03020000 id).ceiling := by decide
theorem witness_nonce : let s := asked 2 0 0 0 0x03020000 (fun k => { k with nonceTap := some ⟨7, 0⟩ })
    s.keeper.nonceTap = some ⟨7, 0⟩ ∧ s.now < 0 + 60000000000 * ns ∧ 0 + 60000000000 * ns ≤ ({ s with now := 60000000000 * ns }).now ∧
    s.lockedOut = false ∧ 2 ≤ s.ceiling := by decide
/-- A signature whose key hash is not fused fails; one that the check accepts passes. -/
theorem witness_signature (ws : List Word) : (asked 2 0 0 0 0x03020000 id).signatureOk 7 ws 1 2 = false ∧
    let h := Config.sha384 (keyBytes (ws.take 24))
    let s : State := asked 2 0 8 0 0x03020000 (fun k => { k with fuses := { k.fuses with dbgkhash := h } })
    Config.ecdsaOk (BitVec.ofNat 768 (keyVal (ws.take 24))) (Config.sha384 (s.proofMsg 7 1 2))
      (BitVec.ofNat 768 (keyVal ((ws.drop 24).take 24))) = true → s.signatureOk 7 ws 1 2 = true := by
  constructor
  · have key : ∀ s : State, s.fuseLocked 3 = false → s.signatureOk 7 ws 1 2 = false := by
      intro s h
      simp [State.signatureOk, h]
    exact key _ (by decide)
  · intro h s h1
    have h2 : (asked 2 0 8 0 0x03020000 id).fuseLocked 3 = true := by decide
    have h3 : s.fuseLocked 3 = true := h2
    have h4 : s.keeper.fuses.dbgkhash = h := rfl
    simp only [State.signatureOk, h3, h4, Bool.true_and, Bool.and_eq_true]
    exact ⟨by simp [h], h1⟩
theorem witness_scan : (0x01030000 : Word).toNat = 0x01030000 ∧ (asked 1 2 4 0 0x01030000 id).dbgState = 2 ∧
    (asked 1 2 4 0 0x01030000 id).life = 1 ∧ (asked 1 2 4 0 0x01030000 id).policy 4 = false ∧ (asked 1 2 4 0 0x01030000 id).policy 5 = false ∧
    (asked 1 2 4 0 0x01030000 id).lockedOut = false ∧ (asked 1 2 4 0 0x01030000 id).fuseLocked 2 = true := by decide
theorem witness_expiries : up.keeper.nonceBox = none ∧ up.fails ≠ 16 ∧ (up.setF R.KPR_STAT F.KPR_STAT_FAILS 16).fails = 16 := by decide

/-! ### Self-test, interrupts and monitors -/

/-- Die 0's scheduler: its retest and its slice; the die is configured and runs. -/
def testing (rt : Option Nat) (run : Option (Nat × Nat × Nat)) : State :=
  let s := { up with power := { up.power with up := true }, dieDown := Vector.replicate 6 false }
  s.setBist 0 { s.bist[(0 : Fin 6)] with retest := rt, run := run }
theorem witness_scheduler : (testing none (some (0, 3, 0))).bist[(0 : Fin 6)].run ≠ none ∧ (testing none none).bist[(0 : Fin 6)].run = none ∧
    (testing none none).bist[(0 : Fin 6)].retest = none ∧
    ((testing none none).setF (R.BIST_CTRL 0) F.BIST_CTRL_EN 0).flag (R.BIST_CTRL (0 : Fin 6)) F.BIST_CTRL_EN = false ∧
    (testing none none).flag (R.BIST_CTRL (0 : Fin 6)) F.BIST_CTRL_EN = true := by decide
/-- Only target 0 is enabled; target 33 is the one last started; or none is enabled. -/
def scheduled (ten : Nat) : State :=
  let s := ((testing none none).wr (R.BIST_TEN_LO 0) (BitVec.ofNat 32 ten)).wr (R.BIST_TEN_HI 0) 0#32
  s.setBist 0 { s.bist[(0 : Fin 6)] with last := 33 }
theorem witness_first_target : (0 < 34 ∧ (scheduled 1).testable 0 0 = true ∧ (scheduled 1).bistHeld (0 : Fin 6) 0 = false ∧
    (scheduled 1).eligible 0 0 = true ∧ (scheduled 1).segments 0 0 ≠ []) ∧ (0 + 34 - (33 + 1) % 34) % 34 = 0 := by decide
theorem witness_no_target : ∀ t < 34, (scheduled 0).testable 0 t = false := by decide
theorem witness_retest_start : (testing (some 1) none).bist[(0 : Fin 6)].retest = some 1 ∧ (testing (some 1) none).eligible 0 1 = true ∧
    (testing (some 1) none).segments 0 1 ≠ [] := by decide
theorem witness_slice_runs : (testing none (some (1, 15, 0))).bist[(0 : Fin 6)].run = some (1, 15, 0) ∧
    (testing none (some (1, 15, 0))).eligible 0 1 = true ∧
    ((testing none (some (1, 15, 0))).setF (R.VSQ_STAT 1) F.VSQ_STAT_STATE 2).eligible 0 1 = false ∧
    (testing none (some (0x20, 3, 0))).eligible 0 0x20 = true ∧ (0x20 : Nat) < 34 ∧ (63 : Nat) < 64 ∧ SliceResult.ue ≠ .pass := by decide
theorem witness_retest_last : let s := (testing (some 8) (some (8, 0, 0)))
    s.bist[(0 : Fin 6)].retest = some 8 ∧ s.eligible 0 8 = true ∧
    Sparse.get (fun _ => 0) s.bist[(0 : Fin 6)].segs 8 % max 1 (s.segments 0 8).length + 1 = max 1 (s.segments 0 8).length := by decide
theorem witness_retest : targetHere 0 (0x0E : BitVec 6).toNat = false ∧ 0x20 ≤ (0x20 : BitVec 6).toNat ∧ 0x1D ≤ (0x1D : BitVec 6).toNat ∧
    ¬ ((testing none none).bist[(0 : Fin 6)].retest ≠ none ∨ targetHere 0 (0x1B : BitVec 6).toNat = false ∨ 0x20 ≤ (0x1B : BitVec 6).toNat ∨
      (0 : Fin 6) = 0 ∧ 0x1D ≤ (0x1B : BitVec 6).toNat) := by decide
/-- TSYNC has a cause that is enabled, and GIS bit 9 reaches the host as vector 49. -/
def ringing : State := ((up.setF R.TSY_CAUSE F.TSY_CAUSE_LINKDN 1).wr R.TSY_CAUSE_EN 0xFFFFFFFF#32).wr R.GIS_EN 0x3FFFF#32
theorem witness_vector : (ringing.deliver ringing.now).vecCond ((49 : Fin 64) : Nat) = true ∧
    bitOf (ringing.deliver ringing.now).pcie.prev.toNat ((49 : Fin 64) : Nat) = false ∧
    (up.deliver up.now).vecCond ((49 : Fin 64) : Nat) = false ∧ 53 ≤ ((53 : Fin 64) : Nat) := by decide
theorem witness_eoi : F.MSIX_EOI_VEC.get (F.MSIX_EOI_VEC.set 0 49) = 49 ∧ ringing.vecCond 49 = true ∧ up.vecCond 49 = false ∧
    52 < F.MSIX_EOI_VEC.get (F.MSIX_EOI_VEC.set 0 53) := by decide
theorem witness_eoi_open : let s := { ringing with pcie := { ringing.pcie with en := true, table := [(4 * 49 + 3, 0)] } }
    (s.pcie.en && !s.pcie.fmask && (s.msixWord (4 * 49 + 3)).toNat % 2 == 0) = true ∧
    (ringing.pcie.en && !ringing.pcie.fmask && (ringing.msixWord (4 * 49 + 3)).toNat % 2 == 0) = false := by decide
theorem witness_monitor : up.mon[(5 : Fin 6)].snap = none ∧
    up.rdPair (R.MON_SNAP_PT_LO (5 : Fin 6)) (R.MON_SNAP_PT_HI (5 : Fin 6)) < up.ptime + 1000 ∧
    (up.wr (R.MON_SNAP_PT_LO 5) 0x80000000#32).ptime + 1000 ≤
      (up.wr (R.MON_SNAP_PT_LO 5) 0x80000000#32).rdPair (R.MON_SNAP_PT_LO (5 : Fin 6)) (R.MON_SNAP_PT_HI (5 : Fin 6)) ∧
    (up.setMon 5 { up.mon[(5 : Fin 6)] with snap := some 7 }).mon[(5 : Fin 6)].snap = some 7 ∧ up.power.slept = none ∧
    ({ up with power := { up.power with slept := some 3 } }).power.slept ≠ none := by decide

/-! ### Measurement DSP cores -/

/-- Core 23 runs at address 0 of its P memory, which holds w. -/
def mdsping (w : Nat) : State :=
  (State.reset.setF (R.MDSP_STAT 23) F.MDSP_STAT_STATE 1).modMd 23 (fun c => { c with p := if w = 0 then [] else [(0, BitVec.ofNat 32 w)] })
/-- The words that the statements below name: the arithmetic format at the largest fields. -/
def arithWords : List Nat :=
  [1, 2, 3, 4, 5, 6].map (fun k => k * 2 ^ 27 + 1 * 2 ^ 23 + 7 * 2 ^ 20 + 7 * 2 ^ 17 + 1 * 2 ^ 16) ++
  [7, 8].map (fun k => k * 2 ^ 27 + 1 * 2 ^ 23 + 7 * 2 ^ 20 + 0 * 2 ^ 17 + 1 * 2 ^ 16) ++
  [9 * 2 ^ 27 + 1 * 2 ^ 23, 0xA * 2 ^ 27 + 7 * 2 ^ 20 + 1 * 2 ^ 16, 0xB * 2 ^ 27 + 7 * 2 ^ 20] ++
  [0xC, 0xD, 0xE].map (fun k => k * 2 ^ 27 + 3 * 2 ^ 23 + 7 * 2 ^ 20 + 1 * 2 ^ 16) ++ [0xF * 2 ^ 27 + 3 * 2 ^ 23, 0]
theorem witness_arith : ∀ w ∈ arithWords, (mdsping w).mdState (23 : Fin 24) = 1 ∧ (mdsping w).mdFrozen 23 = false ∧
    ((mdsping w).md 23).reps = [] ∧ ((mdsping w).md 23).ue = [] ∧ ((mdsping w).md 23).read 2 ((mdsping w).mdPc 23) = w := by decide
theorem witness_arith_illegal : aluLegal 9 (aFields (9 * 2 ^ 27 + 1 * 2 ^ 20)) = false ∧ (9 * 2 ^ 27 + 1 * 2 ^ 20) / 2 ^ 27 = 9 ∧
    movesLegal 0 (aFields (3 * 2 ^ 12)) = false ∧ MdspAt (mdsping (3 * 2 ^ 12)) 23 (3 * 2 ^ 12) :=
  ⟨by decide, by decide, by decide, by decide, by decide, by decide, by decide, by decide⟩
/-- The moves: an X load and store by pointer 3, a Y load and store by pointer 7, a P load, in each mode. -/
def moveWords : List Nat :=
  [1, 2, 3].flatMap (fun mode => [mode * 2 ^ 14 + 3 * 2 ^ 12 + 7 * 2 ^ 8, mode * 2 ^ 14 + 3 * 2 ^ 12 + 2 ^ 11 + 7 * 2 ^ 8,
    mode * 2 ^ 6 + 3 * 2 ^ 4 + 7, mode * 2 ^ 6 + 3 * 2 ^ 4 + 2 ^ 3 + 7, mode * 2 ^ 25])
theorem witness_moves : ∀ w ∈ moveWords, (mdsping w).mdState (23 : Fin 24) = 1 ∧ (mdsping w).mdFrozen 23 = false ∧
    ((mdsping w).md 23).reps = [] ∧ ((mdsping w).md 23).ue = [] ∧ ((mdsping w).md 23).read 2 ((mdsping w).mdPc 23) = w ∧
    ((mdsping w).md 23).cached = false := by decide
/-- A circular buffer of 4 words: its last word, and a pointer one beyond it. -/
theorem witness_circular : let s (p : Nat) : State := (((mdsping 0).mset 23 0x10 p).mset 23 0x20 100).mset 23 0x28 4
    ((s 103).mreg 23 0x20 ≤ (s 103).mreg 23 0x10 ∧ (s 103).mreg 23 0x10 < (s 103).mreg 23 0x20 + (s 103).mreg 23 0x28) ∧
    ¬ ((s 104).mreg 23 0x10 < (s 104).mreg 23 0x20 + (s 104).mreg 23 0x28) ∧ (mdsping 0).mreg 23 0x28 = 0 := by decide
/-- A sum that fits, one that is limited, one that wraps. -/
theorem witness_limits : let s := ((mdsping 0).mset 23 0x30 0x7F).mset 23 0x31 0xFFFF
    ¬ (s.acc 23 0 + 65536 < (2 : Int) ^ 39) ∧ s.acc 23 0 < (2 : Int) ^ 39 ∧ (mdsping 0).sr 23 0 = true ∧
    ((mdsping 0).mset 23 0x3C 0).sr 23 0 = false := by decide
/-- A word of the control format. -/
def cop (n x : Nat) : Nat := 2 ^ 31 + n * 2 ^ 26 + x
def controlWords : List Nat :=
  [cop 0 0, cop 1 32767, cop 2 (15 * 2 ^ 16 + 32767), cop 3 32767, cop 4 0, cop 5 (1023 * 2 ^ 15 + 32767), cop 5 (1 * 2 ^ 15 + 0), cop 5 0,
    cop 6 (15 * 2 ^ 15 + 32767), cop 7 (0x2F * 2 ^ 16 + 65535), cop 7 (0x3D * 2 ^ 16 + 65535), cop 7 (0x3C * 2 ^ 16 + 65535),
    cop 7 (0x3E * 2 ^ 16), cop 7 (0x3A * 2 ^ 16 + 65535), cop 7 (0x3F * 2 ^ 16)] ++
  [cop 8 (0x2F * 2 ^ 6 + 0x3E), cop 9 (2 * 2 ^ 24 + 1 * 2 ^ 23 + 0x2F * 2 ^ 16 + 65535), cop 0xA (1 * 2 ^ 24 + 1 * 2 ^ 23 + 0x2F * 2 ^ 16 + 65535),
    cop 0xB (1 * 2 ^ 16 + 65535), cop 0xC 255, cop 0xD 65535, cop 0xD (2 ^ 16 + 65535), cop 0xD (2 ^ 17 + 65535),
    cop 0xE (1 * 2 ^ 24 + 7 * 2 ^ 19 + 15 * 2 ^ 15), cop 0xF 0, cop 31 (2 ^ 26 - 1)]
theorem witness_control : ∀ w ∈ controlWords, (mdsping w).mdState (23 : Fin 24) = 1 ∧ (mdsping w).mdFrozen 23 = false ∧
    ((mdsping w).md 23).reps = [] ∧ ((mdsping w).md 23).ue = [] ∧ ((mdsping w).md 23).read 2 ((mdsping w).mdPc 23) = w ∧
    ((mdsping w).md 23).cached = false := by decide
/-- The stack is full, or has one address. -/
theorem witness_stack : 8 ≤ (((mdsping (cop 3 5)).modMd 23 (fun c => { c with stack := List.replicate 8 1 })).md 23).stack.length ∧
    ((mdsping (cop 3 5)).md 23).stack.length < 8 ∧ ((mdsping (cop 4 0)).md 23).stack = [] ∧
    (((mdsping (cop 4 0)).modMd 23 (fun c => { c with stack := [32767] })).md 23).stack = [32767] := by decide
theorem witness_conditions : let s := mdsping 0
    let holds := [true, s.sr 23 9, !s.sr 23 9, s.sr 23 10, !s.sr 23 10, s.sr 23 2, !s.sr 23 2, s.sr 23 8, !s.sr 23 8]
    holds[(0 : Nat)]? = some true ∧ holds[(1 : Nat)]? = some false ∧ holds[(8 : Nat)]? = some true ∧ holds[(9 : Nat)]? = none ∧
    0 < s.mdPc 23 + 1 ∧ s.mdPc 23 + 1 ≤ 1 ∧ s.mreg 23 15 = 0 ∧ (s.mset 23 15 65535).mreg 23 15 ≠ 0 := by decide
theorem witness_events : bitOf (((mdsping 0).wr (R.MDSP_EVPEND 23 7) 0x80000000#32).rd (R.MDSP_EVPEND 23 (255 / 32))).toNat (255 % 32) = true ∧
    bitOf ((mdsping 0).rd (R.MDSP_EVPEND 23 (255 / 32))).toNat (255 % 32) = false := by decide
/-- Core 23 waits for event 255. -/
def napping : State :=
  (State.reset.setF (R.MDSP_STAT 23) F.MDSP_STAT_STATE 2).modMd 23 (fun c => { c with waitEv := some (255, 0) })
theorem witness_run : (mdsping 0).mdState (23 : Fin 24) = 1 ∧ napping.mdState (23 : Fin 24) = 2 ∧ State.reset.mdState (23 : Fin 24) = 0 ∧
    (State.reset.setF (R.MDSP_STAT 23) F.MDSP_STAT_STATE 3).mdState (23 : Fin 24) = 3 ∧ State.reset.coreHeld (23 : Fin 24) = false ∧
    (napping.md 23).waitEv = some (255, 0) ∧ napping.mdFrozen 23 = false := by decide
theorem witness_trigger : ((State.reset.modC 5 (fun x => { x with trigs := [(9, 2, 255 * 256 + 3)] })).c 5).trigs = [(9, 2, 255 * 256 + 3)] ∧
    (5 : Fin 6).val = (23 : Fin 24).val / 4 ∧ (255 * 256 + 3) % 4 = (23 : Fin 24).val % 4 ∧ (255 * 256 + 3) / 256 % 256 = 255 ∧
    (State.reset.c 5).trigs = [] := by decide
/-- The places of an access where they meet. -/
theorem witness_places : let place (off : Nat) : Option (Nat × Nat) := if off < 0x40000 then some (0, off) else
      if off < 0x80000 then some (1, off - 0x40000) else if off < 0xA0000 then some (2, off - 0x80000) else none
    place 0x3FFFF = some (0, 0x3FFFF) ∧ place 0x40000 = some (1, 0) ∧ place 0x7FFFF = some (1, 0x3FFFF) ∧ place 0x80000 = some (2, 0) ∧
    place 0x9FFFF = some (2, 0x1FFFF) ∧ place 0xA0000 = none ∧ (State.reset.md 23).ue = [] ∧ (∀ b ∈ [0, 255], b < 256) := by decide

/-! ### Reset, clocks and power -/

/-- The device with its reset pins and the thermal hold as given; it has started up. -/
def powered (por sys hot : Bool) : State := { up with power := { up.power with porLow := por, sysLow := sys, hot := hot, up := true } }
theorem witness_reset_free : (powered false false false).power.porLow = false ∧ (powered false false false).power.sysLow = false ∧
    (powered false false false).power.hot = false ∧ (powered false false false).keeper.fuses.ue = false ∧ (5 : Nat) < 6 ∧
    (∀ k ∈ [5], 5 ≤ k) ∧ (0 : BitVec 8) ≠ 0xA5 := by decide
theorem witness_reset_held : (powered false true false).power.sysLow = true ∧ (powered false true false).power.porLow = false ∧
    (powered false true false).power.hot = false ∧ (powered false true false).keeper.fuses.ue = false ∧ (powered false true false).fails = 0 ∧
    (powered true false false).power.sysLow = false := by decide
theorem witness_thermal : 640 ≤ signedOf 11 (BitVec.toNat (640 : BitVec 11)) ∧ signedOf 11 (BitVec.toNat (639 : BitVec 11)) < 640 ∧
    signedOf 11 (BitVec.toNat (0x400 : BitVec 11)) < 640 ∧ (powered false false true).power.hot = true ∧
    (∀ x ∈ [(559 : BitVec 11)], signedOf 11 (BitVec.toNat x) < 560) ∧ (∃ x ∈ [(560 : BitVec 11)], 560 ≤ signedOf 11 (BitVec.toNat x)) ∧
    (powered false false true).fails = 0 := by decide
theorem witness_die_hold : (5 : Fin 6) ≠ 0 ∧ bitOf (up.fld R.PKG_RST F.PKG_RST_DIEHOLD) ((5 : Fin 6).val - 1) = false ∧
    ({ up with dieDown := Vector.replicate 6 true }).dieDown[(5 : Fin 6)] = true := by decide
/-- The device in a power state. -/
def resting (n : Nat) : State := (powered false false false).setF R.PKG_PWR F.PKG_PWR_STATE n
theorem witness_power_states : (resting 0).pstate19 = 0 ∧ (resting 1).pstate19 = 1 ∧ (resting 2).pstate19 = 2 ∧ (resting 0).haltReq = false ∧
    ({ resting 0 with haltReq := true }).haltReq = true ∧ (resting 0).pwrFrom 0x10 = true ∧ (resting 2).pwrFrom 0x10 = false ∧
    (resting 2).pwrFrom 0x60 = true ∧ (resting 2).inReset = false := by decide
theorem witness_park : (resting 0).parkOk = true ∧ ((resting 0).setF (R.CH_GCTRL 23) F.CH_GCTRL_REL 1).parkOk = false := by decide
theorem witness_no_sleep : ((resting 1).setF (R.MDSP_STAT 23) F.MDSP_STAT_STATE 1).sleepOk = false := by decide
theorem witness_sleep : (resting 1).sleepOk = true := by decide
theorem witness_wake : ((resting 2).setF R.PKG_PWR F.PKG_PWR_WAKEPT 1).pstate19 = 2 ∧
    ((resting 2).setF R.PKG_PWR F.PKG_PWR_WAKEPT 1).flag R.PKG_PWR F.PKG_PWR_WAKEPT = true ∧ (resting 2).flag R.PKG_PWR F.PKG_PWR_WAKEPT = false := by
  decide
theorem witness_reference : up.flag R.PKG_REF F.PKG_REF_SRC = false ∧ up.flag R.TSY_CTRL F.TSY_CTRL_REFSRC = false ∧
    (up.setF R.TSY_CTRL F.TSY_CTRL_REFSRC 1).flag R.TSY_CTRL F.TSY_CTRL_REFSRC = true ∧
    ∀ p < 11, (up.setF R.TSY_CTRL F.TSY_CTRL_REFSRC 1).activeUp p = false := by decide
theorem witness_warning : signedOf 11 (BitVec.toNat (0x243 : BitVec 11)) < signedOf 11 (State.reset.fld (R.DCR_TWARN (0 : Fin 6)) F.DCR_TWARN_LIMIT) ∧
    signedOf 11 (State.reset.fld (R.DCR_TWARN (0 : Fin 6)) F.DCR_TWARN_LIMIT) ≤ signedOf 11 (BitVec.toNat (0x244 : BitVec 11)) ∧
    up.isolated[(0 : Fin 6)] = false ∧ ({ up with isolated := Vector.replicate 6 true }).isolated[(0 : Fin 6)] = true ∧ (powered false false false).power.up = true := by decide
theorem witness_rails : (0x10 ≤ (0x10 : BitVec 8).toNat ∧ (0x1A : BitVec 8).toNat ≤ 0x1A) ∧ (0x40 ≤ (0x40 : BitVec 8).toNat ∧ (0x57 : BitVec 8).toNat ≤ 0x57) ∧
    ¬ ((0x10 ≤ (0x1B : BitVec 8).toNat ∧ (0x1B : BitVec 8).toNat ≤ 0x1A) ∨ (0x40 ≤ (0x1B : BitVec 8).toNat ∧ (0x1B : BitVec 8).toNat ≤ 0x57)) := by
  decide
/-! ### The whole machine -/

theorem witness_step : ({ State.reset with pending := [.reload] }).pending = [.reload] ∧ State.reset.pending = [] ∧
    Memory.wf State.reset = true ∧ Registers.wf State.reset = true := ⟨rfl, rfl, rfl, rfl⟩
theorem witness_canonical_step : ∃ t, step { State.reset with pending := [.reload] } = .next t := ⟨_, rfl⟩

/-! ### Single steps -/

/-- The state a command leads to. -/
def afterOf (o : Host.Outcome State Fault Refusal) : Option State := match o with | .next t => some t | _ => none
/-- 15 R505: a watchdog that stopped below 1,000 goes on from 1,000. -/
theorem test_watchdog_thaw : (afterOf (exec (.dbgResume 11) (((cored 2).setF (R.CC_WDT_CTRL 11) F.CC_WDT_CTRL_EN 1).wr (R.CC_WDT_CNT 11) 5#32))).map
    (fun t => (t.rd (R.CC_WDT_CNT 11)).toNat) = some 1000 := by decide
/-- 14 R487: a pulse with PEND at 255 is lost and recorded. -/
theorem test_pulse_lost : (afterOf (exec (.swreq 0 31) (State.reset.setF (R.DMA_CH_STAT 0 31) F.DMA_CH_STAT_PEND 255))).map
    (fun t => (t.dmaPend 0 31, t.rd (R.DMA_ROVF 0))) = some (255, 0x80000000#32) := by decide
/-- 11 R373: the check value of CRC-32C, over the characters 1 to 9. -/
theorem test_crc32c : crc32c [0x31, 0x32, 0x33, 0x34, 0x35, 0x36, 0x37, 0x38, 0x39] = 0xE3069283 := by decide
/-- 07 R235, R237: 0.5 x 0.5 gives 0.25 in the low half of A0. -/
theorem test_cmpy_half : (afterOf (exec (.mdCmpy 23 []) (((mdsping (1 * 2 ^ 27 + 1 * 2 ^ 17)).mset 23 0 0x4000).mset 23 2 0x4000))).map
    (fun t => (t.acc 23 0, t.acc 23 1, t.mdPc 23)) = some (0x20000000, 0, 1) := by decide
/-- 12 R438: a partial write of byte 63 changes that byte alone. -/
theorem test_partial_write : (afterOf (exec (.g6PartialWrite 0 0 (BitVec.allOnes 512) 0x8000000000000000#64 calm) (holding GLine.zero))).map
    (fun t => (t.line (lineKey 0 0)).map (fun l => l.data.toNat)) = some (some (255 * 2 ^ 504)) := by decide
/-- 15 R494: an add whose destination is register 0 writes nothing. -/
theorem test_add_x0 : (afterOf (exec (.coreInstruction 0 [] []) ((coring 0x00310033).modCr 0 (fun c => { c with x := Vector.replicate 32 1 })))).map
    (fun t => ((t.cr 0).reg 0, (t.cr 0).reg 1, (t.cr 0).pc)) = some (0, 1, 4) := by decide

end Sys2Proof.Tests
end

section
/-! Loops and SETA (02_vector_sequencer.md R54, R55): a word that writes one counter, reload or G register of its group. -/
namespace Sys2Proof.Machine
variable {s : State} {g : Fin 24} {e : List Ecc} {l p : Loc} {w : PatWord} {a : Nat} {v : Word}

/-! ### The registers a word of the program writes -/

/-- A reload register, loop counter or G register of the group: the registers that SETA names (R55), LC among them (R54). -/
def LoopReg (g a : Nat) : Prop := vsqBase g + 0x40 ≤ a ∧ a < vsqBase g + 0x90

theorem bitsOf_lt (v lo w : Nat) : bitsOf v lo w < 2 ^ w := Nat.mod_lt _ (Nat.two_pow_pos w)

theorem loopReg_lc {n : Nat} (hn : n < 8) : LoopReg g (R.VSQ_LC g n) := by
  unfold LoopReg R.VSQ_LC
  omega

theorem loopReg_setaReg {r : Nat} (hr : r < 0x14) : LoopReg g (setaReg g r) := by
  unfold LoopReg setaReg R.VSQ_LR R.VSQ_LC R.VSQ_G
  split
  · omega
  · split <;> omega

/-- What an issue shows of itself stands in other registers. -/
theorem LoopReg.not_shown (ha : LoopReg g a) : a ∉ [R.VSQ_STAT g, R.VSQ_SSTAT g, R.CH_CAUSE g] := by
  unfold LoopReg at ha
  simp only [List.mem_cons, List.not_mem_nil, or_false, R.VSQ_STAT, R.VSQ_SSTAT, R.CH_CAUSE]
  omega

theorem LoopReg.ne_period (ha : LoopReg g a) (n : Nat) : R.CH_TS_PERIOD g n ≠ a := by
  unfold LoopReg at ha
  unfold R.CH_TS_PERIOD
  omega

theorem LoopReg.ne_gang (ha : LoopReg g a) : R.VSQ_GANG g ≠ a := by
  unfold LoopReg at ha
  unfold R.VSQ_GANG
  omega

/-! ### The issue of a word whose path writes one register -/

/-- A word whose path writes one such register is issued as any word is, and the register then holds what was written. -/
theorem CanIssue.issued_of_flow_wr (h : CanIssue s g e l w) (ha : LoopReg g a) {next : Option Loc} {n : Nat}
    (hn : wordOpc w = n)
    (hf : (s.at_ ((s.g g).nextBs - 40 * ns)).flow g l w = .inl (((s.at_ ((s.g g).nextBs - 40 * ns)).wr a v).setPc g next)) :
    Issued s g l w next [a] (s.issue g e (opIs n)) ∧ (s.issue g e (opIs n)).rd a = v := by
  rw [h.issue_eq (opIs n) (by simp [opIs, hn]) hf]
  refine ⟨issued_pushWord ?_ ?_ ?_ rfl ?_ ?_ ?_ _ _, ?_⟩
  · simp [State.setPc]
  · simp [State.setPc]
  · simp [State.setPc]
  · exact (((OnlyGroup.refl g _ s).at_).wr (by simp)).modG
  · exact period_congr fun n _ => State.wr_rd_other _ _ _ _ (ha.ne_period n)
  · exact repsOf_congr (State.wr_rd_other _ _ _ _ ha.ne_gang)
  · rw [pushWord_rd _ _ _ _ _ _ _ ha.not_shown]
    exact State.wr_rd_same _ _ _

/-! ### The paths of LBEG, LEND and SETA -/

theorem flow_of_lbeg (h : wordOpc w = 5) : s.flow g l w = s.flowLbeg g l (wordArg w) := by simp [State.flow, h]
theorem flow_of_lend (h : wordOpc w = 6) : s.flow g l w = s.flowLend g l (wordArg w) := by simp [State.flow, h]
theorem flow_of_seta (h : wordOpc w = 0xC) : s.flow g l w = s.flowSeta g l (wordArg w) := by simp [State.flow, h]

theorem target_wr {n : Nat} : (s.wr a v).target g l n = s.target g l n := (rfl)

theorem lc_wr {n : Nat} : (s.wr (R.VSQ_LC g n) v).lc g n = v.toNat := by rw [State.lc, State.wr_rd_same]

section
variable {arg : Nat}

theorem flowLbeg_enters (h : s.rd (R.VSQ_LR g (bitsOf arg 21 3)) ≠ 0) :
    s.flowLbeg g l arg =
      .inl ((s.wr (R.VSQ_LC g (bitsOf arg 21 3)) (s.rd (R.VSQ_LR g (bitsOf arg 21 3)))).setPc g l.next) := by
  have hc : (s.rd (R.VSQ_LR g (bitsOf arg 21 3))).toNat ≠ 0 := fun h0 => h (BitVec.eq_of_toNat_eq h0)
  simp only [State.flowLbeg, lc_wr, hc, if_false]

theorem flowLbeg_skips (h : s.rd (R.VSQ_LR g (bitsOf arg 21 3)) = 0#32) (ht : s.target g l (bitsOf arg 0 16) = .inl p) :
    s.flowLbeg g l arg = .inl ((s.wr (R.VSQ_LC g (bitsOf arg 21 3)) 0#32).setPc g p.next) := by
  simp only [State.flowLbeg, lc_wr, h, BitVec.toNat_zero, if_true, target_wr, ht]

/-- The count that LEND leaves: one less, and 0 where it was 0. -/
theorem toNat_lend_count {n : Nat} : (BitVec.ofNat 32 (s.lc g n - 1)).toNat = s.lc g n - 1 :=
  Nat.mod_eq_of_lt (by unfold State.lc; omega)

theorem flowLend_goes_back (h : 2 ≤ s.lc g (bitsOf arg 21 3)) (ht : s.target g l (bitsOf arg 0 16) = .inl p) :
    s.flowLend g l arg =
      .inl ((s.wr (R.VSQ_LC g (bitsOf arg 21 3)) (BitVec.ofNat 32 (s.lc g (bitsOf arg 21 3) - 1))).setPc g (some p)) := by
  have hc : ¬ s.lc g (bitsOf arg 21 3) - 1 = 0 := by omega
  simp only [State.flowLend, lc_wr, toNat_lend_count, hc, if_false, State.jumpTo, target_wr, ht]

theorem flowLend_ends (h : s.lc g (bitsOf arg 21 3) ≤ 1) :
    s.flowLend g l arg = .inl ((s.wr (R.VSQ_LC g (bitsOf arg 21 3)) 0#32).setPc g l.next) := by
  have hc : s.lc g (bitsOf arg 21 3) - 1 = 0 := by omega
  simp only [State.flowLend, hc, lc_wr, BitVec.toNat_zero, if_true]
end

/-! ### What the checks let pass (R51, R55) -/

theorem CanIssue.wordLegal_eq_true (h : CanIssue s g e l w) : wordLegal w = true := by
  by_contra hl
  have h0 := h.legal
  rw [State.wordFault, if_pos (by simp [hl])] at h0
  exact absurd h0 (by decide)

theorem CanIssue.seta_legal (h : CanIssue s g e l w) (ho : wordOpc w = 0xC) :
    bitsOf (wordArg w) 19 5 < 0x14 ∧ (bitsOf (wordArg w) 16 3 = 4 → bitsOf (wordArg w) 0 16 < 4) := by
  have hl := h.wordLegal_eq_true
  simp only [wordLegal, argFits, ho, Bool.and_eq_true, Bool.or_eq_true, decide_eq_true_eq, bne_iff_ne] at hl
  obtain ⟨⟨⟨-, ⟨hr, -⟩, hg⟩, -⟩, -⟩ := hl
  exact ⟨hr, fun h4 => hg.resolve_left (absurd h4)⟩

/-! ### The value of SETA (R55) -/

theorem setaValue_ldl (isLc : Bool) (imm old gv : Nat) : setaValue isLc 0 imm old gv = imm := rfl
theorem setaValue_ldh (isLc : Bool) (imm old gv : Nat) : setaValue isLc 1 imm old gv = imm * 65536 + old % 65536 := rfl
theorem setaValue_add_lc (imm old gv : Nat) : setaValue true 2 imm old gv = min (old + imm) (2 ^ 32 - 1) := rfl
theorem setaValue_add (imm old gv : Nat) : setaValue false 2 imm old gv = (old + imm) % 2 ^ 32 := rfl
theorem setaValue_sub_lc (imm old gv : Nat) : setaValue true 3 imm old gv = old - imm := rfl
theorem setaValue_sub (imm old gv : Nat) : setaValue false 3 imm old gv = (old + 2 ^ 32 - imm) % 2 ^ 32 := by
  rw [setaValue, if_neg Bool.false_ne_true, show 4294967296 = 2 ^ 32 by norm_num]
theorem setaValue_movg (isLc : Bool) (imm old gv : Nat) : setaValue isLc 4 imm old gv = gv := rfl

theorem setaValue_lt {isLc : Bool} {op imm old gv : Nat} (hi : imm < 2 ^ 16) (ho : old < 2 ^ 32) (hg : gv < 2 ^ 32) :
    setaValue isLc op imm old gv < 2 ^ 32 := by
  unfold setaValue
  split
  · omega
  · omega
  · split <;> omega
  · split <;> omega
  · exact hg

/-! ### The words -/

theorem exec_pwLbeg : exec (.pwLbeg g e) s = .next (s.issue g e (opIs 5)) := rfl
theorem exec_pwLend : exec (.pwLend g e) s = .next (s.issue g e (opIs 6)) := rfl
theorem exec_pwSeta : exec (.pwSeta g e) s = .next (s.issue g e (opIs 0xC)) := rfl

theorem CanIssue.lbeg_enters (h : CanIssue s g e l w) (ho : wordOpc w = 5)
    (hr : s.rd (R.VSQ_LR g (bitsOf (wordArg w) 21 3)) ≠ 0) :
    After (.pwLbeg g e) s (fun t => Issued s g l w l.next [R.VSQ_LC g (bitsOf (wordArg w) 21 3)] t ∧
      t.rd (R.VSQ_LC g (bitsOf (wordArg w) 21 3)) = s.rd (R.VSQ_LR g (bitsOf (wordArg w) 21 3))) :=
  ⟨_, exec_pwLbeg, h.issued_of_flow_wr (loopReg_lc (bitsOf_lt _ _ _)) ho ((flow_of_lbeg ho).trans (flowLbeg_enters hr))⟩

theorem CanIssue.lbeg_skips (h : CanIssue s g e l w) (ho : wordOpc w = 5)
    (hr : s.rd (R.VSQ_LR g (bitsOf (wordArg w) 21 3)) = 0) (ht : s.target g l (bitsOf (wordArg w) 0 16) = .inl p) :
    After (.pwLbeg g e) s (fun t => Issued s g l w p.next [R.VSQ_LC g (bitsOf (wordArg w) 21 3)] t ∧
      t.rd (R.VSQ_LC g (bitsOf (wordArg w) 21 3)) = 0) :=
  ⟨_, exec_pwLbeg, h.issued_of_flow_wr (loopReg_lc (bitsOf_lt _ _ _)) ho ((flow_of_lbeg ho).trans (flowLbeg_skips hr ht))⟩

theorem CanIssue.lend_goes_back (h : CanIssue s g e l w) (ho : wordOpc w = 6)
    (hc : 2 ≤ (s.rd (R.VSQ_LC g (bitsOf (wordArg w) 21 3))).toNat) (ht : s.target g l (bitsOf (wordArg w) 0 16) = .inl p) :
    After (.pwLend g e) s (fun t => Issued s g l w (some p) [R.VSQ_LC g (bitsOf (wordArg w) 21 3)] t ∧
      (t.rd (R.VSQ_LC g (bitsOf (wordArg w) 21 3))).toNat = (s.rd (R.VSQ_LC g (bitsOf (wordArg w) 21 3))).toNat - 1) := by
  obtain ⟨hi, hv⟩ :=
    h.issued_of_flow_wr (loopReg_lc (bitsOf_lt _ _ _)) ho ((flow_of_lend ho).trans (flowLend_goes_back hc ht))
  exact ⟨_, exec_pwLend, hi, by rw [hv, toNat_lend_count]; rfl⟩

theorem CanIssue.lend_ends (h : CanIssue s g e l w) (ho : wordOpc w = 6)
    (hc : (s.rd (R.VSQ_LC g (bitsOf (wordArg w) 21 3))).toNat ≤ 1) :
    After (.pwLend g e) s (fun t => Issued s g l w l.next [R.VSQ_LC g (bitsOf (wordArg w) 21 3)] t ∧
      t.rd (R.VSQ_LC g (bitsOf (wordArg w) 21 3)) = 0) :=
  ⟨_, exec_pwLend, h.issued_of_flow_wr (loopReg_lc (bitsOf_lt _ _ _)) ho ((flow_of_lend ho).trans (flowLend_ends hc))⟩

/-- The value that the SETA word w stores in a machine s. -/
def setaResult (s : State) (g : Fin 24) (w : PatWord) : Nat :=
  setaValue (decide (8 ≤ bitsOf (wordArg w) 19 5 ∧ bitsOf (wordArg w) 19 5 < 16)) (bitsOf (wordArg w) 16 3)
    (bitsOf (wordArg w) 0 16) (s.rd (setaReg g (bitsOf (wordArg w) 19 5))).toNat (s.gr g (bitsOf (wordArg w) 0 16 % 4))

theorem CanIssue.seta_stores (h : CanIssue s g e l w) (ho : wordOpc w = 0xC) :
    Issued s g l w l.next [setaReg g (bitsOf (wordArg w) 19 5)] (s.issue g e (opIs 0xC)) ∧
      ((s.issue g e (opIs 0xC)).rd (setaReg g (bitsOf (wordArg w) 19 5))).toNat = setaResult s g w := by
  obtain ⟨hi, hv⟩ := h.issued_of_flow_wr (v := BitVec.ofNat 32 (setaResult s g w)) (loopReg_setaReg (h.seta_legal ho).1) ho
    (flow_of_seta ho)
  refine ⟨hi, ?_⟩
  rw [hv, BitVec.toNat_ofNat]
  exact Nat.mod_eq_of_lt (setaValue_lt (bitsOf_lt _ _ _) (BitVec.isLt _) (BitVec.isLt _))

/-- Settles O3: each of the three words writes one register on its path and is then issued as any word is. -/
theorem loopAndSetWordsUseTheirRegisters : Obligations.LoopAndSetWordsUseTheirRegisters := by
  intro s g e l p w h
  refine ⟨h.lbeg_enters, h.lbeg_skips, h.lend_goes_back, h.lend_ends, fun ho => ?_⟩
  obtain ⟨hi, hv⟩ := h.seta_stores ho
  refine ⟨_, exec_pwSeta, hi, fun op => ?_, fun op => ?_, fun op hr => ?_, fun op hr => ?_, fun op hr => ?_, fun op hr => ?_,
    fun op => ?_⟩
  · rw [hv, setaResult, op, setaValue_ldl]
  · rw [hv, setaResult, op, setaValue_ldh]
  · rw [hv, setaResult, op, decide_eq_true hr, setaValue_add_lc]
  · rw [hv, setaResult, op, decide_eq_false hr, setaValue_add]
  · rw [hv, setaResult, op, decide_eq_true hr, setaValue_sub_lc]
  · rw [hv, setaResult, op, decide_eq_false hr, setaValue_sub]
  · refine BitVec.eq_of_toNat_eq ?_
    rw [hv, setaResult, op, setaValue_movg, Nat.mod_eq_of_lt ((h.seta_legal ho).2 op), State.gr]

end Sys2Proof.Machine
end

section
/-! Ring resets, START and the log, counter reads (05_fail_capture.md R166, R167, R177, R179). -/
namespace Sys2Proof.Machine
variable {s t : State} {g : Fin 24}

/-! ### What stands in a group's log registers -/

/-- The log's pointers, LLOST and LINC of every group read as before (R177). -/
def LogKept (s t : State) : Prop := ∀ k : Fin 24,
  t.rd (R.FCU_LWPTR k) = s.rd (R.FCU_LWPTR k) ∧ t.rd (R.FCU_LRPTR k) = s.rd (R.FCU_LRPTR k) ∧
  t.rd (R.FCU_LLOST k) = s.rd (R.FCU_LLOST k) ∧
  t.flag (R.FCU_STAT k) F.FCU_STAT_LINC = s.flag (R.FCU_STAT k) F.FCU_STAT_LINC

/-- A register that holds part of some group's log state. -/
def LogReg (a : Nat) : Prop := ∃ k : Fin 24, a ∈ [R.FCU_LWPTR k, R.FCU_LRPTR k, R.FCU_LLOST k, R.FCU_STAT k]

/-- No register of a sequencer, address generator or channel group is one. -/
theorem not_logReg_vsq {g o : Nat} (ho : o < 0x1000000) : ¬ LogReg (vsqBase g + o) := by
  rintro ⟨k, hk⟩
  simp only [List.mem_cons, List.not_mem_nil, or_false, R.FCU_LWPTR, R.FCU_LRPTR, R.FCU_LLOST, R.FCU_STAT, fcuBase, vsqBase,
    dieBase] at hk
  omega

/-- A register of a fail capture unit is one at four offsets only. -/
theorem not_logReg_fcu {g o : Nat} (ho : o < 0x400000) (hs : o ∉ [0x40, 0x44, 0x50, 0x8]) : ¬ LogReg (fcuBase g + o) := by
  rintro ⟨k, hk⟩
  simp only [List.mem_cons, List.not_mem_nil, or_false, R.FCU_LWPTR, R.FCU_LRPTR, R.FCU_LLOST, R.FCU_STAT, fcuBase,
    dieBase] at hk hs
  omega

/-! ### What keeps them -/

theorem LogKept.refl (s : State) : LogKept s s := fun _ => ⟨rfl, rfl, rfl, rfl⟩

theorem LogKept.wr {a : Nat} {v : Word} (h : LogKept s t) (ha : ¬ LogReg a) : LogKept s (t.wr a v) := by
  intro k
  obtain ⟨hw, hr, hl, hi⟩ := h k
  have hne : ∀ b ∈ [R.FCU_LWPTR k, R.FCU_LRPTR k, R.FCU_LLOST k, R.FCU_STAT k], b ≠ a :=
    fun b hb e => ha ⟨k, e ▸ hb⟩
  refine ⟨?_, ?_, ?_, ?_⟩
  · rw [State.wr_rd_other _ _ _ _ (hne _ (by simp)), hw]
  · rw [State.wr_rd_other _ _ _ _ (hne _ (by simp)), hr]
  · rw [State.wr_rd_other _ _ _ _ (hne _ (by simp)), hl]
  · rw [State.flag, State.wr_fld_other _ _ _ _ _ (hne _ (by simp)), ← hi, State.flag]

theorem LogKept.setF {a : Nat} {f : Fld} {x : Nat} (h : LogKept s t) (ha : ¬ LogReg a) : LogKept s (t.setF a f x) := h.wr ha

/-- A field of FCU_STAT beside LINC. -/
theorem LogKept.setStat {n : Nat} {f : Fld} {x : Nat} (h : LogKept s t) (hf : f.lo + f.w ≤ 3 ∨ 4 ≤ f.lo) :
    LogKept s (t.setF (R.FCU_STAT n) f x) := by
  intro k
  obtain ⟨hw, hr, hl, hi⟩ := h k
  refine ⟨?_, ?_, ?_, ?_⟩
  · rw [State.setF_rd_other _ _ _ _ _ (by unfold R.FCU_LWPTR R.FCU_STAT fcuBase dieBase; omega), hw]
  · rw [State.setF_rd_other _ _ _ _ _ (by unfold R.FCU_LRPTR R.FCU_STAT fcuBase dieBase; omega), hr]
  · rw [State.setF_rd_other _ _ _ _ _ (by unfold R.FCU_LLOST R.FCU_STAT fcuBase dieBase; omega), hl]
  · rw [State.flag, State.setF_fld_other _ _ _ _ _ _ (.inr hf), ← hi, State.flag]

theorem LogKept.modG {f : Group → Group} (h : LogKept s t) : LogKept s (t.modG g f) := h
theorem LogKept.modC {d : Fin 6} {f : Capture → Capture} (h : LogKept s t) : LogKept s (t.modC d f) := h
theorem LogKept.modGang {n : Fin 16} {f : XGang → XGang} (h : LogKept s t) : LogKept s (t.modGang n f) := h
theorem LogKept.toPort {p : Fin 12} {m : TSlot} (h : LogKept s t) : LogKept s (t.toPort p m) := h

theorem LogKept.ite {u : State} {c : Prop} [Decidable c] (h : LogKept s t) (hu : LogKept s u) :
    LogKept s (if c then t else u) := by
  split
  · exact h
  · exact hu

theorem LogKept.forEach {α : Type} {l : List α} {f : α → State → State} (hf : ∀ a u, LogKept s u → LogKept s (f a u))
    (h : LogKept s t) : LogKept s (forEach l f t) := by
  unfold Sys2Proof.forEach
  induction l generalizing t with
  | nil => exact h
  | cons a l ih => exact ih (hf a t h)

/-! ### Counters -/

theorem LogKept.cntCauses {old new : Counter} (h : LogKept s t) : LogKept s (t.cntCauses g old new) := by
  have hc : ∀ f u, LogKept s u → LogKept s (u.raise (R.FCU_CAUSE g) f) :=
    fun _ _ hu => hu.setF (not_logReg_fcu (by decide) (by decide))
  unfold State.cntCauses
  have h1 := (hc F.FCU_CAUSE_CSAT t h).ite (c := (new.sat && !old.sat) = true) h
  exact (hc _ _ h1).ite h1

theorem LogKept.cntUpdate {i n : Nat} {bad : Bool} (h : LogKept s t) : LogKept s (t.cntUpdate g i n bad) :=
  (h.modG : LogKept s (t.setCnt g i _)).cntCauses

theorem LogKept.cntSpoil {i : Nat} (h : LogKept s t) : LogKept s (t.cntSpoil g i) :=
  (h.modG : LogKept s (t.setCnt g i _)).cntCauses

theorem LogKept.setSite {d : Fin 6} {i : Nat} {c : Counter} (h : LogKept s t) : LogKept s (t.setSite d i c) := h.modC

theorem LogKept.spoilAncestors {p : Nat} (h : LogKept s t) : LogKept s (t.spoilAncestors g p) := by
  unfold State.spoilAncestors
  dsimp only
  split
  · exact h.cntSpoil
  · exact h.cntSpoil.setSite

theorem LogKept.applyInc {v : CntInc} (h : LogKept s t) : LogKept s (t.applyInc g v) := by
  unfold State.applyInc
  dsimp only
  refine LogKept.forEach (fun _ _ hu => hu.setSite) ?_
  refine LogKept.ite ?_ (LogKept.cntUpdate ?_) <;>
    exact h.forEach fun _ _ hu => hu.cntUpdate.spoilAncestors.ite hu.cntUpdate

theorem LogKept.settleCnt {n : Nat} (h : LogKept s t) : LogKept s (t.settleCnt g n) :=
  h.modG.forEach fun _ _ hu => hu.applyInc

theorem LogKept.clearCounters (h : LogKept s t) : LogKept s (t.clearCounters g) := h.settleCnt.modG

/-! ### The end of a run, and the gang -/

theorem LogKept.setVsq {n o : Nat} {f : Fld} {x : Nat} (h : LogKept s t) (ho : o < 0x1000000) :
    LogKept s (t.setF (vsqBase n + o) f x) := h.setF (not_logReg_vsq ho)

theorem LogKept.setState {n x : Nat} (h : LogKept s t) : LogKept s (t.setF (R.VSQ_STAT n) F.VSQ_STAT_STATE x) :=
  h.setVsq (by decide)

theorem LogKept.vsqCmdErr {n : Nat} (h : LogKept s t) : LogKept s (t.vsqCmdErr n) := h.setVsq (by decide)

theorem LogKept.emptyFd (h : LogKept s t) : LogKept s (t.emptyFd g) := h.modG.setVsq (by decide)

theorem LogKept.setFault {n code : Nat} {l : Loc} (h : LogKept s t) : LogKept s (t.setFault n code l) :=
  (h.wr (not_logReg_vsq (by decide))).setVsq (by decide)

theorem LogKept.judgeSig {n : Nat} {done : Bool} (h : LogKept s t) : LogKept s (t.judgeSig n done) :=
  ((h.setStat (by decide)).setStat (by decide)).setStat (by decide)

theorem LogKept.idleAt {n : Nat} (h : LogKept s t) : LogKept s (t.idleAt g n) := h.modG

theorem LogKept.at_ {n : Nat} (h : LogKept s t) : LogKept s (t.at_ n) := h

theorem LogKept.endQuiet {st code n : Nat} {l : Loc} (h : LogKept s t) : LogKept s (t.endQuiet g st code l n) := by
  have hst : LogKept s (((t.at_ n).idleAt g n |>.emptyFd g).setF (R.VSQ_STAT g) F.VSQ_STAT_STATE st) :=
    h.at_.idleAt.emptyFd.setState
  have hdone := LogKept.ite (c := st = 4) (hst.setVsq (n := g) (o := 0xd0) (f := F.VSQ_CAUSE_DONE) (x := 1) (by decide)) hst
  exact (hdone.ite (c := code = 0) hdone.setFault).judgeSig.modG

theorem LogKept.stopQuiet {st code : Nat} (h : LogKept s t) : LogKept s (t.stopQuiet g st code) :=
  h.setState.setFault.ite h.endQuiet

theorem LogKept.sendUp {m : TSlot} (h : LogKept s t) : LogKept s (t.sendUp m) := h.forEach fun _ _ hu => hu.toPort
theorem LogKept.sendDown {m : TSlot} (h : LogKept s t) : LogKept s (t.sendDown m) := h.forEach fun _ _ hu => hu.toPort

theorem LogKept.sendLost {gid didx n : Nat} {cfg : Bool} (h : LogKept s t) : LogKept s (t.sendLost gid didx n cfg) :=
  h.sendDown.ite h.sendUp

theorem LogKept.takeLost {gid n : Nat} {cfg : Bool} (h : LogKept s t) : LogKept s (t.takeLost gid n cfg) :=
  h.forEach fun _ _ hu => hu.stopQuiet.ite hu.modG

theorem LogKept.tellGang {n didx : Nat} (h : LogKept s t) : LogKept s (t.tellGang g n didx) := by
  unfold State.tellGang
  dsimp only
  refine LogKept.ite (LogKept.ite (LogKept.sendLost ?_) ?_) h <;>
    exact h.forEach fun _ _ hu => hu.modG

theorem LogKept.stopNow {st code : Nat} (h : LogKept s t) : LogKept s (t.stopNow g st code) := h.stopQuiet.tellGang

/-! ### START -/

theorem LogKept.refuseStart {code : Nat} (h : LogKept s t) : LogKept s (t.refuseStart g code) := h.setState.setFault.judgeSig

theorem LogKept.refuseGang (h : LogKept s t) : LogKept s (t.refuseGang g) :=
  h.forEach fun _ _ hu => hu.stopNow.ite hu.refuseStart

theorem LogKept.beginRun {n : Nat} (h : LogKept s t) : LogKept s (t.beginRun g n) := h.setState.modG

theorem LogKept.startClear (h : LogKept s t) : LogKept s (t.startClear g) := by
  have hf := h.wr (a := R.VSQ_FAULT g) (v := 0) (not_logReg_vsq (by decide))
  have hs := fun {n f x u} (hu : LogKept s u) => (hu.setVsq (n := n) (o := 4) (f := f) (x := x) (by decide))
  exact (((hs (hs (hs hf))).wr (not_logReg_vsq (by decide))).emptyFd.modG).setVsq (by decide)

theorem LogKept.apgStart (h : LogKept s t) : LogKept s (t.apgStart g) := by
  have hw := fun {o v u} (ho : o < 0x1000000) (hu : LogKept s u) => hu.wr (v := v) (not_logReg_vsq (g := g) ho)
  exact (hw (by decide) (hw (by decide) (hw (by decide) (hw (by decide) h)))).modG

theorem LogKept.wrMisr {n m v : Nat} (hm : m < 2) (h : LogKept s t) :
    LogKept s (t.wrPair (R.FCU_MISR_LO n m) (R.FCU_MISR_HI n m) v) := by
  have hne : ∀ o ∈ [0x60, 0x64], ¬ LogReg (fcuBase n + o + m * 8) := by
    intro o ho
    simp only [List.mem_cons, List.not_mem_nil, or_false] at ho
    rw [Nat.add_assoc]
    exact not_logReg_fcu (by omega) (by simp only [List.mem_cons, List.not_mem_nil, or_false]; omega)
  exact (h.wr (hne _ (by simp))).wr (hne _ (by simp))

/-- START resets in FCU_STAT the signatures' bits, BINC, RINC and LLIM: LINC is none of them (R177). -/
theorem LogKept.startUnits (h : LogKept s t) : LogKept s (t.startUnits g) := by
  have hc : LogKept s (if t.flag (R.FCU_CTRL g) F.FCU_CTRL_CLRSTART then t.clearCounters g else t) := h.clearCounters.ite h
  have hm := (hc.wrMisr (n := g) (m := 0) (v := ones64) (by decide)).wrMisr (n := g) (m := 1) (v := ones64) (by decide)
  have hs : ∀ {f x u}, f.lo + f.w ≤ 3 ∨ 4 ≤ f.lo → LogKept s u → LogKept s (u.setF (R.FCU_STAT g) f x) :=
    fun hf hu => hu.setStat hf
  refine (LogKept.wr (LogKept.wr ?_ (not_logReg_fcu (by decide) (by decide))) (not_logReg_fcu (by decide) (by decide))).apgStart
  exact hs (by decide) (hs (by decide) (hs (by decide) (hs (by decide) (hs (by decide) (hs (by decide) hm)))))

theorem LogKept.announce (h : LogKept s t) : LogKept s (t.announce g) := by
  unfold State.announce
  dsimp only
  exact (h.ite h.modGang).sendUp.ite h

theorem LogKept.ownGcfg (h : LogKept s t) : LogKept s (t.ownGcfg g) := h.sendLost.takeLost.ite h

/-- Every path of START, ignored, refused, armed or begun. -/
theorem LogKept.vsqStart {m : BitVec 2} (h : LogKept s t) : ∃ u, execVsqStart g m t = .next u ∧ LogKept s u := by
  have hm : LogKept s (t.setF (R.VSQ_CTRL g) F.VSQ_CTRL_SMODE m.toNat) := h.setVsq (by decide)
  have hu := hm.startClear (g := g) |>.startUnits (g := g)
  unfold execVsqStart
  dsimp only
  split
  · exact ⟨_, rfl, hm.vsqCmdErr⟩
  · split
    · exact ⟨_, rfl, hu.refuseGang⟩
    · split
      · exact ⟨_, rfl, hu.refuseStart⟩
      · exact ⟨_, rfl, (hu.announce.setState.ite hu.announce.beginRun).ownGcfg⟩

/-! ### The resets of the rings -/

/-- A ring returned to its start: both pointers and the count of losses 0, its mark of lost records clear. -/
def State.ringCleared (s : State) (wptr rptr lost stat : Nat) (inc : Fld) : State :=
  (((s.wr wptr 0).wr rptr 0).wr lost 0).setB stat inc false

section
variable {wptr rptr lost stat : Nat} {inc : Fld} {as : List Nat}

theorem ringCleared_onlyRegs (hs : ∀ a ∈ [wptr, rptr, lost, stat], a ∈ as) :
    OnlyRegs as s (s.ringCleared wptr rptr lost stat inc) :=
  ((((OnlyRegs.refl as s).wr (hs _ (by simp))).wr (hs _ (by simp))).wr (hs _ (by simp))).setF (hs _ (by simp))

theorem ringCleared_reads (hn : [wptr, rptr, lost, stat].Nodup) (hi : inc.lo + inc.w ≤ 32) :
    (s.ringCleared wptr rptr lost stat inc).rd wptr = 0 ∧ (s.ringCleared wptr rptr lost stat inc).rd rptr = 0 ∧
    (s.ringCleared wptr rptr lost stat inc).rd lost = 0 ∧ (s.ringCleared wptr rptr lost stat inc).flag stat inc = false := by
  simp only [List.nodup_cons, List.mem_cons, List.not_mem_nil, or_false, not_or] at hn
  obtain ⟨⟨hwr, hwl, hws⟩, ⟨hrl, hrs⟩, hls, -⟩ := hn
  unfold State.ringCleared
  rw [State.setB_eq]
  refine ⟨?_, ?_, ?_, ?_⟩
  · rw [State.setF_rd_other _ _ _ _ _ hws, State.wr_rd_other _ _ _ _ hwl, State.wr_rd_other _ _ _ _ hwr, State.wr_rd_same]
  · rw [State.setF_rd_other _ _ _ _ _ hrs, State.wr_rd_other _ _ _ _ hrl, State.wr_rd_same]
  · rw [State.setF_rd_other _ _ _ _ _ hls, State.wr_rd_same]
  · simp [State.flag, State.setF_fld_same _ _ _ _ hi, b2n]
end

theorem exec_lreset (h : s.active g = false) : exec (.lreset g) s =
    .next ((s.ringCleared (R.FCU_LWPTR g) (R.FCU_LRPTR g) (R.FCU_LLOST g) (R.FCU_STAT g) F.FCU_STAT_LINC).updLfull g) :=
  if_neg (by simp [h])

theorem exec_creset (h : s.active g = false) : exec (.creset g) s =
    .next (s.ringCleared (R.FCU_CWPTR g) (R.FCU_CRPTR g) (R.FCU_CLOST g) (R.FCU_STAT g) F.FCU_STAT_CINC) :=
  if_neg (by simp [h])

theorem OnlyRegs.updLfull {as : List Nat} (h : OnlyRegs as s t) (hs : R.FCU_STAT g ∈ as) (hc : R.FCU_CAUSE g ∈ as) :
    OnlyRegs as s (t.updLfull g) := by
  unfold State.updLfull
  dsimp only
  split
  · exact (h.setF hs).setF hc
  · exact h.setF hs

/-- LFULL and its cause stand beside what the log keeps. -/
theorem LogKept.updLfull (h : LogKept s t) : LogKept s (t.updLfull g) := by
  have hs : LogKept s (t.setB (R.FCU_STAT g) F.FCU_STAT_LFULL (t.logFull g)) := h.setStat (by decide)
  exact (hs.setF (not_logReg_fcu (by decide) (by decide))).ite hs

theorem lreset_returns_log_to_start (h : s.active g = false) : After (.lreset g) s (fun t =>
    OnlyRegs [R.FCU_LWPTR g, R.FCU_LRPTR g, R.FCU_LLOST g, R.FCU_STAT g, R.FCU_CAUSE g] s t ∧ t.rd (R.FCU_LWPTR g) = 0 ∧
    t.rd (R.FCU_LRPTR g) = 0 ∧ t.rd (R.FCU_LLOST g) = 0 ∧ t.flag (R.FCU_STAT g) F.FCU_STAT_LINC = false) := by
  obtain ⟨hw, hr, hl, hi⟩ := ringCleared_reads (s := s) (wptr := R.FCU_LWPTR g) (rptr := R.FCU_LRPTR g)
    (lost := R.FCU_LLOST g) (stat := R.FCU_STAT g) (inc := F.FCU_STAT_LINC)
    (by simp [R.FCU_LWPTR, R.FCU_LRPTR, R.FCU_LLOST, R.FCU_STAT]) (by decide)
  obtain ⟨kw, kr, kl, ki⟩ := (LogKept.refl (s.ringCleared (R.FCU_LWPTR g) (R.FCU_LRPTR g) (R.FCU_LLOST g) (R.FCU_STAT g)
    F.FCU_STAT_LINC)).updLfull (g := g) g
  exact ⟨_, exec_lreset h, (ringCleared_onlyRegs (by simp)).updLfull (by simp) (by simp), kw.trans hw, kr.trans hr,
    kl.trans hl, ki.trans hi⟩

theorem creset_returns_capture_to_start (h : s.active g = false) : After (.creset g) s (fun t =>
    OnlyRegs [R.FCU_CWPTR g, R.FCU_CRPTR g, R.FCU_CLOST g, R.FCU_STAT g] s t ∧ t.rd (R.FCU_CWPTR g) = 0 ∧
    t.rd (R.FCU_CRPTR g) = 0 ∧ t.rd (R.FCU_CLOST g) = 0 ∧ t.flag (R.FCU_STAT g) F.FCU_STAT_CINC = false) :=
  ⟨_, exec_creset h, ringCleared_onlyRegs (by simp),
    ringCleared_reads (by simp [R.FCU_CWPTR, R.FCU_CRPTR, R.FCU_CLOST, R.FCU_STAT]) (by decide)⟩

/-! ### A counter read with every increment in -/

theorem State.modG_eq_self {f : Group → Group} (h : f (s.g g) = s.g g) : s.modG g f = s := by
  rw [State.modG, h, State.setG, State.g]
  simp

theorem settleCnt_of_empty (h : (s.g g).cntStage = []) (n : Nat) : s.settleCnt g n = s := by
  unfold State.settleCnt
  simp only [h, forEach, List.filter_nil, List.foldl_nil]
  refine State.modG_eq_self ?_
  rw [h]
  exact congrArg (fun l => { s.g g with cntStage := l }) h.symm

theorem cntSnapshot_of_empty (h : (s.g g).cntStage = []) : s.cntSnapshot g = s := by
  simp [State.cntSnapshot, h, forEach]

theorem cntAt_eq_getElem (s : State) (g : Fin 24) (i : Fin 33) : s.cntAt g i = (s.g g).cnt[i] := by
  simp [State.cntAt]

theorem counterRead_of_empty (h : (s.g g).cntStage = []) (i : Fin 33) (flag : Bool) :
    s.counterRead (.group g i) flag [] = (((s.g g).cnt[i].view).word flag, s) := by
  simp [State.counterRead, refGroups, forEach, settleCnt_of_empty h, cntSnapshot_of_empty h, State.readMarks,
    State.cntView, cntAt_eq_getElem, h]

theorem exec_counterRead_of_empty (h : (s.g g).cntStage = []) (i : Fin 33) (flag : Bool) :
    exec (.counterRead (.group g i) flag []) s = .next (s.answer .ok (leBytes 4 (((s.g g).cnt[i].view).word flag))) := by
  show execCounterRead (.group g i) flag [] s = _
  rw [execCounterRead, counterRead_of_empty h]

/-- Settles O16: the resets clear exactly their ring's registers, START writes beside the log's on each of its paths, and a
counter with no increment on its way is read as stored. -/
theorem ringResetsAndCounterReads : Obligations.RingResetsAndCounterReads := by
  intro s g i
  refine ⟨lreset_returns_log_to_start, creset_returns_capture_to_start, fun m k => ?_, fun h => ?_, fun h => ?_⟩
  · obtain ⟨t, ht, hk⟩ := (LogKept.refl s).vsqStart (g := g) (m := m)
    exact ⟨t, ht, hk k⟩
  · exact ⟨_, exec_counterRead_of_empty h i false, rfl, rfl⟩
  · exact ⟨_, exec_counterRead_of_empty h i true, rfl, rfl⟩

end Sys2Proof.Machine
end

section
/-! MSI-X messages sent again (18_interrupts_events.md R571, R572). -/
namespace Sys2Proof.Machine
variable {s : State} {v : Nat}

/-! ### A vector's message, and its pending bit (R571) -/

theorem bitOf_setBit64_true {k : Nat} (m : BitVec 64) (hk : k < 64) :
    bitOf (setBit64 m v true).toNat k = (bitOf m.toNat k || k == v) := by
  simp only [bitOf, setBit64, if_true, BitVec.toNat_or, BitVec.toNat_ofNat, Nat.testBit_or, Nat.testBit_mod_two_pow,
    Nat.testBit_two_pow, hk, decide_true, Bool.true_and, eq_comm (a := v), beq_eq_decide]

theorem sendVec_of_open (h : s.vecOpen v = true) :
    s.sendVec v = s.emit (.msix v (s.msixWord (4 * v + 1) ++ s.msixWord (4 * v)) (s.msixWord (4 * v + 2))) := if_pos h

theorem sendVec_of_masked (h : s.vecOpen v = false) : s.sendVec v = s.setPending v true := if_neg (by simp [h])

/-! ### A write of MSIX_EOI (R572) -/

theorem eoi_of_holds (hv : v ≤ 52) (hc : s.vecCond v = true) : s.eoi v = s.sendVec v := if_pos ⟨hv, hc⟩

theorem eoi_of_unsent_or_idle (h : 52 < v ∨ s.vecCond v = false) : s.eoi v = s := by
  refine if_neg fun ⟨hv, hc⟩ => ?_
  rcases h with h | h
  · omega
  · simp [h] at hc

theorem exec_msixEoi (w : Word) : exec (.msixEoi w) s = .next (s.eoi (F.MSIX_EOI_VEC.get w)) := (rfl)

/-- Settles O52: a condition that holds passes the write on to `State.sendVec`, which sends the message of an open vector and
sets the pending bit of a masked one. -/
theorem eoiSendsAgainWhatStillStands : Obligations.EoiSendsAgainWhatStillStands := by
  intro s w n isOpen
  have hopen : s.vecOpen n = isOpen := rfl
  refine ⟨fun h => ?_, fun hn hc => ⟨s.sendVec n, ?_, ?_⟩⟩
  · rw [exec_msixEoi, eoi_of_unsent_or_idle h]
  · rw [exec_msixEoi, eoi_of_holds hn hc]
  · cases ho : isOpen with
    | true =>
      rw [sendVec_of_open (hopen.trans ho)]
      exact ⟨rfl, rfl, fun _ => ⟨rfl, rfl⟩, nofun⟩
    | false =>
      rw [sendVec_of_masked (hopen.trans ho)]
      exact ⟨rfl, rfl, nofun, fun _ => ⟨rfl, fun k hk => bitOf_setBit64_true s.pcie.pba hk⟩⟩

end Sys2Proof.Machine
end

section
/-! One step, and the machine after power-on reset (95_what_each_step_holds.md; 00_scope.md R10). -/
namespace Sys2Proof.Machine
variable {s : State}

theorem step_of_cons {c : Instr} {rest : List Instr} (h : s.pending = c :: rest) :
    step s = exec c { s with pending := rest } := by rw [step, h]

theorem step_of_nil (h : s.pending = []) : step s = .next s.tick := by rw [step, h]

/-- Settles O57: the two cases of `step`. -/
theorem stepRunsTheFirstCommand : Obligations.StepRunsTheFirstCommand :=
  ⟨fun _ _ _ => step_of_cons, fun _ => step_of_nil⟩

/-- No register is listed after reset, so each reads its Reset column (00 R10). -/
theorem reset_rd (a : Nat) : State.reset.rd a = resetOf a := rfl

theorem reset_memory_wf : Memory.wf State.reset = true := by decide

theorem reset_registers_wf : Registers.wf State.reset = true := by decide

theorem reset_groups (g : Fin 24) : State.reset.vstat g = 0 ∧ (State.reset.g g).iram = [] ∧
    State.reset.flag (R.CH_GCTRL g) F.CH_GCTRL_REL = false := by decide +revert

theorem reset_mdsps (m : Fin 24) : State.reset.mdState m = 0 ∧ State.reset.mreg m 0x3C = 1 ∧ State.reset.mreg m 0x3D = 15 ∧
    ∀ n : Fin 4, State.reset.acc m n = 0 := by decide +revert

/-- Settles O59: registers by `reset_rd`; the values of blocks and fields are finitely many closed facts. -/
theorem resetIsAsTheSpecSays : Obligations.ResetIsAsTheSpecSays :=
  ⟨reset_rd, rfl, reset_memory_wf, reset_registers_wf, reset_groups, reset_mdsps, by decide, by decide, by decide, by decide,
    by decide, by decide, by decide, by decide, by decide, by decide⟩

end Sys2Proof.Machine
end

section
/-! An access to G6: what decides where a line lies, how it is sealed and whether it is refused stays as it is beside the line
itself (12_memory_system.md R421, R432 to R440; 13_vaults.md R450 to R469). -/
namespace Sys2Proof.Machine
variable {s t u : State}

/-! ### Lines of the store -/

theorem line_setLine (key k : Nat) (l : Option GLine) : (s.setLine key l).line k = if k = key then l else s.line k :=
  Sparse.get_put s.lineDefault s.lines key k l

theorem lineDefault_setP {q : Fin 24} {x : MemPort} (hx : x.zeroed = (s.p q).zeroed) :
    (s.setP q x).lineDefault = s.lineDefault := by
  funext key
  have hz : ((s.setP q x).port.toList.getD (portOf (key / 33554432)) MemPort.reset).zeroed =
      (s.port.toList.getD (portOf (key / 33554432)) MemPort.reset).zeroed := by
    rw [List.getD_eq_getElem?_getD, List.getD_eq_getElem?_getD, State.setP, Vector.toList_set, List.getElem?_set]
    split
    · next hq => simp [hx, ← hq, State.p]
    · rfl
  unfold State.lineDefault
  rw [hz]

/-! ### The registers that seal and place a line -/

theorem not_touched_memp {q o : Nat} (ho : o ∈ [0x0, 0x4, 0x10, 0x14]) : ¬ touchedByMemory (mempBase q + o) := by
  unfold mempBase dieBase
  simp only [List.mem_cons, List.not_mem_nil, or_false] at ho
  rintro (⟨p, hp, h1, h2⟩ | h1 | ⟨v, hv, h1⟩) <;> simp only [List.mem_cons, List.not_mem_nil, or_false] at h1 <;> omega

theorem not_touched_vault {v o : Nat} (hv : v < 64) (ho : o ∈ [0x1000, 0x1008, 0x100c, 0x1014, 0x1018]) :
    ¬ touchedByMemory (vltBase 0 + o + v * 0x40) := by
  unfold vltBase dieBase
  simp only [List.mem_cons, List.not_mem_nil, or_false] at ho
  rintro (⟨p, hp, h1, h2⟩ | h1 | ⟨w, hw, h1⟩) <;> simp only [List.mem_cons, List.not_mem_nil, or_false] at h1 <;> omega

theorem not_touched_seam {d k o : Nat} (hk : k < 4) (ho : o < 0x1000) : ¬ touchedByMemory (seamBase d k + o) :=
  not_touched (by unfold seamBase dieBase; omega)

theorem not_touched_seamd {d o : Nat} (ho : o < 0x100000) : ¬ touchedByMemory (seamdBase d + o) :=
  not_touched (by unfold seamdBase dieBase; omega)

/-! ### What decides about a line, and the lines, as before -/

/-- Nothing that places, seals or refuses a line differs: registers that no access touches, vault states, keys, how far the
engine of a vault has come (13 R467). -/
structure SameSeal (s t : State) : Prop where
  frame : OnlyMemory s t
  vstate : ∀ v : Fin 64, t.vstate v = s.vstate v
  keys : ∀ v, (t.v v).keys = (s.v v).keys
  ptr : ∀ v, (t.v v).ptr = (s.v v).ptr
  init : ∀ v, (t.v v).init = (s.v v).init

/-- And no line does. -/
structure Beside (s t : State) : Prop extends SameSeal s t where
  lines : t.lines = s.lines
  line : ∀ k, t.line k = s.line k

theorem SameSeal.refl (s : State) : SameSeal s s := ⟨.refl s, fun _ => rfl, fun _ => rfl, fun _ => rfl, fun _ => rfl⟩

theorem SameSeal.trans (h : SameSeal s t) (k : SameSeal t u) : SameSeal s u :=
  ⟨h.frame.trans k.frame, fun v => (k.vstate v).trans (h.vstate v), fun v => (k.keys v).trans (h.keys v),
    fun v => (k.ptr v).trans (h.ptr v), fun v => (k.init v).trans (h.init v)⟩

theorem SameSeal.setLine (h : SameSeal s t) {key : Nat} {l : Option GLine} : SameSeal s (t.setLine key l) :=
  ⟨h.frame.setLine, h.vstate, h.keys, h.ptr, h.init⟩

namespace Beside

theorem refl (s : State) : Beside s s := ⟨.refl s, rfl, fun _ => rfl⟩

theorem trans (h : Beside s t) (k : Beside t u) : Beside s u :=
  ⟨h.toSameSeal.trans k.toSameSeal, k.lines.trans h.lines, fun n => (k.line n).trans (h.line n)⟩

theorem wr {a : Nat} {x : Word} (h : Beside s t) (ha : touchedByMemory a) (hs : ∀ v : Fin 64, R.VLT_V_STAT 0 v ≠ a) :
    Beside s (t.wr a x) :=
  ⟨⟨h.frame.wr ha, fun v => (State.wr_fld_other _ _ _ _ _ (hs v)).trans (h.vstate v), h.keys, h.ptr, h.init⟩, h.lines, h.line⟩

theorem setF {a x : Nat} {f : Fld} (h : Beside s t) (ha : touchedByMemory a) (hs : ∀ v : Fin 64, R.VLT_V_STAT 0 v ≠ a) :
    Beside s (t.setF a f x) := h.wr ha hs

theorem ite {c : Prop} [Decidable c] (h : Beside s t) (k : Beside s u) : Beside s (if c then t else u) := by
  split
  · exact h
  · exact k

theorem tally {d code n : Nat} (h : Beside s t) : Beside s (t.tally d code n) := by
  have hf := h.frame.tally (d := d) (code := code) (n := n)
  unfold State.tally at hf ⊢
  split at hf
  · next hd => rw [dif_pos hd]; exact ⟨⟨hf, h.vstate, h.keys, h.ptr, h.init⟩, h.lines, h.line⟩
  · next hd => rw [dif_neg hd]; exact h

theorem seam {x : Vector SeamEnd 18} (h : Beside s t) : Beside s { t with seam := x } :=
  ⟨⟨h.frame.seam, h.vstate, h.keys, h.ptr, h.init⟩, h.lines, h.line⟩

theorem setSeam {d k : Nat} {f : SeamEnd → SeamEnd} (h : Beside s t) : Beside s (t.setSeam d k f) := h.seam

theorem at_ {n : Nat} (h : Beside s t) : Beside s (t.at_ n) := ⟨⟨h.frame.at_, h.vstate, h.keys, h.ptr, h.init⟩, h.lines, h.line⟩

theorem used (h : Beside s t) : Beside s t.used := ⟨⟨h.frame.used, h.vstate, h.keys, h.ptr, h.init⟩, h.lines, h.line⟩

theorem setP {q : Fin 24} {x : MemPort} (h : Beside s t) (hx : x.zeroed = (t.p q).zeroed) : Beside s (t.setP q x) :=
  ⟨⟨h.frame.setP, h.vstate, h.keys, h.ptr, h.init⟩, h.lines, fun k => by
    rw [State.line, lineDefault_setP hx]; exact h.line k⟩

/-- A rekey that has become due changes neither keys nor engine (13 R466). -/
theorem setDue {v : Fin 64} {n : Option Nat} (h : Beside s t) : Beside s (t.setV v { t.v v with dueAt := n }) := by
  have hv : ∀ k, (t.setV v { t.v v with dueAt := n }).v k = if k = v then { t.v v with dueAt := n } else t.v k := by
    intro k
    split
    · next hk => rw [hk, State.setV_v_same]
    · next hk => exact State.setV_v_other _ _ _ _ hk
  refine ⟨⟨h.frame.setV, h.vstate, fun k => ?_, fun k => ?_, fun k => ?_⟩, h.lines, h.line⟩ <;> rw [hv]
  · rw [← h.keys k]; split <;> simp_all
  · rw [← h.ptr k]; split <;> simp_all
  · rw [← h.init k]; split <;> simp_all

end Beside

/-! ### Each operation beside the line -/

theorem vstat_ne_memp (v : Fin 64) {q o : Nat} (ho : o < 0x10000) : R.VLT_V_STAT 0 v ≠ mempBase q + o := by
  unfold R.VLT_V_STAT vltBase mempBase dieBase
  omega

theorem vstat_ne_vlt (v : Fin 64) {d o : Nat} (ho : o < 0x1000) : R.VLT_V_STAT 0 v ≠ vltBase d + o := by
  unfold R.VLT_V_STAT vltBase dieBase
  omega

namespace Beside

/-- A count or a cause of a memory port. -/
theorem memp {q o x : Nat} {f : Fld} (h : Beside s t) (ho : o ∈ [0x8, 0x18, 0x20, 0x24, 0x28, 0x2c, 0x30, 0x34]) :
    Beside s (t.setF (mempBase q + o) f x) :=
  h.setF (touched_port q o ho) fun v => vstat_ne_memp v (by
    simp only [List.mem_cons, List.not_mem_nil, or_false] at ho
    omega)

theorem sendFlit (fuel : Nat) : ∀ {t : State} {d path : Nat}, Beside s t → Beside s (t.sendFlit fuel d path) := by
  induction fuel with
  | zero => intro t d path h; exact h
  | succ n ih =>
    intro t d path h
    unfold State.sendFlit
    split
    · exact h
    · split
      · exact h
      · exact ih h.setSeam.tally

theorem carry {a b : Nat} (h : Beside s t) : Beside s (t.carry a b) := ite h (sendFlit _ h)

theorem g6Trip {src a : Nat} (h : Beside s t) : Beside s (t.g6Trip src a) := by
  unfold State.g6Trip State.roundTrip
  split
  · exact h
  · exact ite h h.carry.carry

theorem elog {q a kind src : Nat} (h : Beside s t) : Beside s (t.elog q a kind src) :=
  (h.wr (touched_MEMP_ELOG_LO q) fun v => vstat_ne_memp v (by decide)).wr (touched_MEMP_ELOG_HI q)
    fun v => vstat_ne_memp v (by decide)

theorem countCe {q n : Nat} (h : Beside s t) : Beside s (t.countCe q n) :=
  ite h ((h.tally.memp (by decide)).memp (by decide))

theorem countUe {q n a kind src : Nat} (h : Beside s t) : Beside s (t.countUe q n a kind src) :=
  ite h ((h.memp (by decide)).memp (by decide)).elog

theorem rhNow {q : Fin 24} (h : Beside s t) : Beside s (t.rhNow q) := ite h (h.setP rfl)

theorem throttleWait {q : Fin 24} {ch src bank : Nat} (h : Beside s t) : Beside s (t.throttleWait q ch src bank) := by
  unfold State.throttleWait
  split
  · exact h
  · exact ite h.tally.at_.rhNow h

theorem throttleAt {q : Fin 24} {ch src bank : Nat} {new : Bool} (h : Beside s t) :
    Beside s (t.throttleAt q ch src bank new) := ite (h.setP rfl) h

theorem countRow {q : Fin 24} {ch src bank row : Nat} (h : Beside s t) : Beside s (t.countRow q ch src bank row) := by
  unfold State.countRow
  refine ite ?_ h
  dsimp only
  have hp : ∀ rh, Beside s (t.setP q { t.p q with rh := rh }) := fun _ => h.setP rfl
  refine ite (hp _) (ite ((hp _).memp (by decide)) (memp ?_ (by decide)))
  exact ((hp _).throttleAt.memp (by decide)).wr (touched_MEMP_RH_SRC q) fun v => vstat_ne_memp v (by decide)

theorem activate {q : Fin 24} {ch src : Nat} {act : Option (Nat × Nat)} (h : Beside s t) :
    Beside s (t.activate q ch src act) := by
  unfold State.activate
  split
  · exact h
  · exact h.tally.rhNow.throttleWait.throttleAt.countRow

theorem edcRetry {q n : Nat} (h : Beside s t) : Beside s (t.edcRetry q n) := ite h (h.memp (by decide))

theorem lineRead {key : Nat} (h : Beside s t) : Beside s (t.lineRead key) := by
  unfold State.lineRead
  split
  · exact h
  · exact h.used

theorem wcnt {v : Fin 64} {n : Nat} (h : Beside s t) :
    Beside s (t.wrPair (R.VLT_V_WCNT_LO 0 v) (R.VLT_V_WCNT_HI 0 v) n) :=
  (h.wr (touched_VLT_V_WCNT_LO v) fun k => by unfold R.VLT_V_STAT R.VLT_V_WCNT_LO; omega).wr (touched_VLT_V_WCNT_HI v)
    fun k => by unfold R.VLT_V_STAT R.VLT_V_WCNT_HI; omega

/-- RKPEND stands beside a vault's state (13 R469). -/
theorem rkpend {v : Fin 64} (h : Beside s t) : Beside s (t.raise (R.VLT_V_STAT 0 v) F.VLT_V_STAT_RKPEND) :=
  ⟨⟨h.frame.raise (touched_VLT_V_STAT v), fun k => (State.setF_fld_other _ _ _ _ _ _ (.inr (by decide))).trans (h.vstate k),
    h.keys, h.ptr, h.init⟩, h.lines, h.line⟩

theorem countWrite {v : Fin 64} (h : Beside s t) : Beside s (t.countWrite v) := by
  unfold State.countWrite
  refine ite h.wcnt (ite ?_ (ite h.wcnt.rkpend h.wcnt))
  split
  · exact h.wcnt.setDue
  · exact h.wcnt

theorem noteAccess {src a : Nat} (h : Beside s t) : Beside s (t.noteAccess src a) := by
  unfold State.noteAccess
  split
  · exact ite (h.setF (touched_cause _) fun v => vstat_ne_vlt v (by decide)) h
  · exact h

end Beside

/-! ### Where a line lies and whether an access is refused -/

theorem fld_congr {a : Nat} (h : t.rd a = s.rd a) (f : Fld) : t.fld a f = s.fld a f := by rw [State.fld, State.fld, h]

namespace SameSeal
variable (h : SameSeal s t)
include h

theorem vctrl (v : Fin 64) (f : Fld) : t.vctrl v f = s.vctrl v f :=
  fld_congr (h.frame.2.2 _ (not_touched_vault v.isLt (by decide))) f

theorem vaultOf (a : Nat) : t.vaultOf a = s.vaultOf a := by
  have hb : ∀ v : Fin 64, t.vbase v = s.vbase v := fun v =>
    congrArg (· * 65536) (fld_congr (h.frame.2.2 _ (not_touched_vault (o := 0x1008) v.isLt (by decide))) _)
  have hz : ∀ v : Fin 64, t.vsize v = s.vsize v := fun v =>
    congrArg (· * 65536) (fld_congr (h.frame.2.2 _ (not_touched_vault (o := 0x100c) v.isLt (by decide))) _)
  simp only [State.vaultOf, h.vctrl, hb, hz]

theorem genOf (v : Fin 64) (a : Nat) : t.genOf v a = s.genOf v a := by
  simp only [State.genOf, h.vctrl, h.vstate, h.init, h.ptr]

theorem keyOf (v : Fin 64) (gen : Nat) : t.keyOf v gen = s.keyOf v gen := by rw [State.keyOf, State.keyOf, h.keys]

theorem sealed (v : Option (Fin 64)) (a : Nat) (x : Line512) : t.seal v a x = s.seal v a x := by
  simp only [State.seal, h.genOf, h.keyOf, h.vctrl]

theorem open_ (v : Option (Fin 64)) (a : Nat) (x : Line512) : t.open_ v a x = s.open_ v a x := by
  simp only [State.open_, h.genOf, h.keyOf, h.vctrl]

theorem tagOk (v : Option (Fin 64)) (a : Nat) (l : GLine) : t.tagOk v a l = s.tagOk v a l := by
  simp only [State.tagOk, h.genOf, h.keyOf, h.vctrl]

theorem region (r : Nat) (hr : r < 16) : t.region r = s.region r := by
  unfold State.region
  rw [h.frame.2.2 (R.PROM_REG_BASE 0 r) (not_touched (by unfold R.PROM_REG_BASE promBase dieBase; omega)),
    h.frame.2.2 (R.PROM_REG_SIZE 0 r) (not_touched (by unfold R.PROM_REG_SIZE promBase dieBase; omega)),
    h.frame.2.2 (R.PROM_REG_CTRL 0 r) (not_touched (by unfold R.PROM_REG_CTRL promBase dieBase; omega)),
    h.frame.2.2 (R.PROM_REG_CHOFS 0 r) (not_touched (by unfold R.PROM_REG_CHOFS promBase dieBase; omega))]

theorem density : t.density = s.density := fld_congr (h.frame.2.2 _ (not_touched_memp (o := 0) (by decide))) _

theorem place (a : Nat) : t.place a = s.place a := by
  have hf : (List.range 16).find? (fun r => (t.region r).en && decide ((t.region r).base ≤ a ∧ a < (t.region r).base + (t.region r).size)) =
      (List.range 16).find? (fun r => (s.region r).en && decide ((s.region r).base ≤ a ∧ a < (s.region r).base + (s.region r).size)) :=
    List.find?_congr fun r hr => by rw [h.region r (List.mem_range.1 hr)]
  unfold State.place
  rw [hf, h.density]
  split
  · rfl
  · next r hr => rw [h.region r (List.mem_range.1 (List.mem_of_find?_eq_some hr))]

/-! The seams, and the refusals -/

theorem link {d k : Nat} (hk : k < 4) : t.link d k = s.link d k :=
  fld_congr (h.frame.2.2 _ (not_touched_seam hk (by decide))) _

theorem pathFenced (fuel : Nat) : ∀ d path, Machine.pathFenced t fuel d path = Machine.pathFenced s fuel d path := by
  induction fuel with
  | zero => intro d path; rfl
  | succ n ih =>
    intro d path
    have hf : ∀ k, facing k < 4 := fun k => by unfold facing; split <;> [decide; split <;> decide]
    simp only [Machine.pathFenced, ih, h.link (Nat.mod_lt path (by decide : 4 > 0)), h.link (hf _)]

theorem route {a k : Nat} (hk : k < 0x1000) : t.rd (R.SEAM_ROUTE a k) = s.rd (R.SEAM_ROUTE a k) := by
  unfold R.SEAM_ROUTE
  rw [Nat.add_assoc]
  exact h.frame.2.2 _ (not_touched_seamd (by omega))

theorem unreachable {a k : Nat} (hk : k < 0x1000) : t.unreachable a k = s.unreachable a k := by
  have hi : t.isolated = s.isolated := by rw [h.frame.1]
  simp only [State.unreachable, State.bothFenced, State.priPath, State.altPath, fld_congr (h.route hk), h.pathFenced, hi,
    fld_congr (h.frame.2.2 (R.SEAM_DSTAT a) (not_touched_seamd (by decide)))]

end SameSeal

/-! The channels of a region are those of the device (12 R421) -/

theorem diesOf_getD_lt (m i : Nat) : nth (diesOf m) i 0 < 6 := by
  unfold nth
  rw [List.getD_eq_getElem?_getD]
  cases h : (diesOf m)[i]? with
  | none => decide
  | some d => exact List.mem_range.1 (List.mem_filter.1 (List.mem_of_getElem? h)).1

theorem region_place_lt (r o : Nat) : ((s.region r).place o).1 < 0x1000 := by
  have hd : (s.region r).die < 8 := Fld.get_lt _ _
  have hb : (s.region r).chbase < 8 := Fld.get_lt _ _
  have hc : ∀ k, k % (s.region r).count < 8 := fun k =>
    (Nat.mod_lt _ (Nat.two_pow_pos _)).trans_le (Nat.pow_le_pow_right (by decide) (Nat.le_of_lt_succ (Fld.get_lt F.PROM_REG_CTRL_COUNT _)))
  unfold Region.place
  dsimp only
  split
  · have := hc (o / (s.region r).grain)
    show 8 * _ + (_ + _) < _
    omega
  · have := diesOf_getD_lt (s.region r).dmask (o / (s.region r).grain % (diesOf (s.region r).dmask).length)
    show 8 * _ + _ < _
    omega

theorem place_ch_lt {a ch line : Nat} (h : s.place a = some (ch, line)) : ch < 0x1000 := by
  unfold State.place at h
  split at h
  · exact absurd h (by simp)
  · dsimp only at h
    split at h
    · simp only [Option.some.injEq, Prod.mk.injEq] at h
      rw [← h.1]
      exact region_place_lt _ _
    · exact absurd h (by simp)

namespace SameSeal
variable (h : SameSeal s t)
include h

theorem mandatoryVaults : t.mandatoryVaults = s.mandatoryVaults := by
  have hk : t.rd R.KPR_POLICY = s.rd R.KPR_POLICY := h.frame.2.2 _ (not_touched (by decide))
  rw [State.mandatoryVaults, State.mandatoryVaults, fld_congr hk]

theorem rightsRefuse (v : Fin 64) (src : Nat) : t.rightsRefuse v src = s.rightsRefuse v src := by
  simp only [State.rightsRefuse, h.vctrl]

theorem g6Refuse (src a : Nat) (kind : G6Kind) : t.g6Refuse src a kind = s.g6Refuse src a kind := by
  have ho : t.haltOn = s.haltOn := by rw [h.frame.1]
  unfold State.g6Refuse
  rw [h.place]
  split
  · rfl
  · next ch line hp =>
    have hlt := place_ch_lt hp
    have hm : t.rd (R.MEMP_STAT (portOf ch)) = s.rd (R.MEMP_STAT (portOf ch)) :=
      h.frame.2.2 _ (not_touched_memp (o := 4) (by decide))
    rw [h.unreachable (by omega), fld_congr hm, ho, h.vaultOf, h.mandatoryVaults]
    refine if_ctx_congr Iff.rfl (fun _ => rfl) fun _ => if_ctx_congr Iff.rfl (fun _ => rfl) fun _ =>
      if_ctx_congr Iff.rfl (fun _ => rfl) fun _ => ?_
    split
    · rfl
    · next v _ => rw [h.rightsRefuse, h.vstate, h.vctrl]

end SameSeal

/-! ### One access -/

/-- What has taken place before an access is refused or comes to its port. -/
def State.g6Before (s : State) (src a : Nat) : State :=
  (if 0x38 ≤ srcLocal src ∧ srcLocal src < 0x60 then s.tally (srcDie src) 0x68 1 else s).g6Trip src a

/-- And at its port before its line is read or written. -/
def State.g6Arrived (s : State) (q : Fin 24) (ch src : Nat) (write : Bool) (env : G6Env) : State :=
  let s := s.tally (q.val / 4) ((if write then 0x44 else 0x40) + q.val % 4) 1
  ((if isFC (q.val / 4) src then s.tally (q.val / 4) (0x58 + q.val % 4) 1 else s).activate q ch src env.act).edcRetry q env.edc

theorem beside_g6Before (s : State) (src a : Nat) : Beside s (s.g6Before src a) := by
  unfold State.g6Before
  exact Beside.g6Trip (.ite (Beside.refl s).tally (.refl s))

theorem beside_g6Arrived (s : State) (q : Fin 24) (ch src : Nat) (write : Bool) (env : G6Env) :
    Beside s (s.g6Arrived q ch src write env) := by
  unfold State.g6Arrived
  exact Beside.edcRetry (.activate (.ite (Beside.refl s).tally.tally (Beside.refl s).tally))

theorem g6Access_of_refused {src a : Nat} {kind : G6Kind} {env : G6Env} {r : Resp}
    (h : s.g6Refuse src (a / 64 * 64) kind = some r) : s.g6Access src a kind env =
      ⟨r, 0, if r = .errVault then (s.g6Before src (a / 64 * 64)).noteAccess src (a / 64 * 64)
        else s.g6Before src (a / 64 * 64)⟩ := by
  have hr := (beside_g6Before s src (a / 64 * 64)).g6Refuse src (a / 64 * 64) kind
  rw [h] at hr
  unfold State.g6Access
  dsimp only
  rw [← State.g6Before, hr]

theorem g6Access_of_accepted {src a ch line : Nat} {q : Fin 24} {kind : G6Kind} {env : G6Env}
    (h : s.g6Refuse src (a / 64 * 64) kind = none) (hp : s.place (a / 64 * 64) = some (ch, line)) (hq : portOf ch = q.val) :
    s.g6Access src a kind env = (s.g6Before src (a / 64 * 64)).g6AtPort q ch line src (a / 64 * 64) kind env := by
  have hb := beside_g6Before s src (a / 64 * 64)
  have hr := (hb.g6Refuse src (a / 64 * 64) kind).trans h
  have hpl := (hb.place (a / 64 * 64)).trans hp
  have hlt : portOf ch < 24 := hq ▸ q.isLt
  have he : (⟨portOf ch, hlt⟩ : Fin 24) = q := Fin.ext hq
  unfold State.g6Access
  dsimp only
  rw [← State.g6Before, hr, hpl]
  dsimp only
  rw [dif_pos hlt, he]

/-- What an access does with its line once nothing at the port stops it (12 R436 to R439). -/
def State.g6Serve (s : State) (q : Fin 24) (key src a : Nat) (kind : G6Kind) (e : List Ecc) : G6Ans :=
  match kind with
  | .read m => s.g6ReadLine q key src a m e
  | .full d => ⟨.ok, 0, s.storeLine key a d⟩
  | .part d m => s.g6Merge q key src a 1 (fun o => mergeBytes o d m) e
  | .or_ d => s.g6Merge q key src a 2 (fun o => o ||| d) e

theorem g6AtPort_eq (q : Fin 24) (ch line src a : Nat) (kind : G6Kind) (env : G6Env) :
    s.g6AtPort q ch line src a kind env =
      if env.buf then ⟨.errData, 0, s.g6Arrived q ch src kind.isWrite env⟩
      else if 4 ≤ env.edc then
        ⟨.errData, 0, if kind.isWrite then (((s.g6Arrived q ch src kind.isWrite env).raise (R.MEMP_CAUSE q)
            F.MEMP_CAUSE_EDCFAIL).elog q a 4 src).setLine (lineKey ch line) none
          else ((s.g6Arrived q ch src kind.isWrite env).raise (R.MEMP_CAUSE q) F.MEMP_CAUSE_EDCFAIL).elog q a 4 src⟩
      else (s.g6Arrived q ch src kind.isWrite env).g6Serve q (lineKey ch line) src a kind env.ecc := by
  cases kind <;> exact rfl

theorem g6AtPort_of_passed {q : Fin 24} {ch line src a : Nat} {kind : G6Kind} {env : G6Env} (hb : env.buf = false)
    (he : env.edc < 4) : s.g6AtPort q ch line src a kind env =
      (s.g6Arrived q ch src kind.isWrite env).g6Serve q (lineKey ch line) src a kind env.ecc := by
  rw [g6AtPort_eq, hb, if_neg Bool.false_ne_true, if_neg (by omega)]

end Sys2Proof.Machine
end

section
/-! What a line was written with is what it answers (12_memory_system.md R436, R437; 13_vaults.md R454, R458 to R461). -/
namespace Sys2Proof.Machine
variable {s t u : State}

/-! ### The stored form opens to what was sealed -/

theorem open_seal (s : State) (v : Option (Fin 64)) (a : Nat) (x : Line512) : s.open_ v a (s.seal v a x).1 = x := by
  cases v with
  | none => rfl
  | some v =>
    simp only [State.open_, State.seal]
    split <;> simp

theorem tagOk_seal (s : State) (v : Option (Fin 64)) (a : Nat) (x : Line512) (m0 m1 m2 m3 : Ecc) :
    s.tagOk v a ⟨(s.seal v a x).1, (s.seal v a x).2, m0, m1, m2, m3⟩ = true := by
  cases v with
  | none => rfl
  | some v =>
    simp only [State.tagOk]
    split
    · next h => simp only [State.seal, h, beq_self_eq_true]
    · rfl

/-! ### A full write -/

theorem g6Refuse_ne_ok (src a : Nat) (kind : G6Kind) : s.g6Refuse src a kind ≠ some .ok := by
  unfold State.g6Refuse
  repeat' split
  all_goals simp

theorem g6AtPort_full_ok {q : Fin 24} {ch line src a : Nat} {data : Line512} {env : G6Env}
    (h : (s.g6AtPort q ch line src a (.full data) env).resp = .ok) : env.buf = false ∧ env.edc < 4 := by
  rw [g6AtPort_eq] at h
  split at h
  · exact absurd h (by simp)
  · next hb =>
    split at h
    · exact absurd h (by simp)
    · next he => exact ⟨by simpa using hb, by omega⟩

/-- A write that answers OK was refused nowhere on its way. -/
theorem g6Access_full_ok {src a : Nat} {data : Line512} {env : G6Env} (h : (s.g6Access src a (.full data) env).resp = .ok) :
    ∃ ch line, ∃ q : Fin 24, s.place (a / 64 * 64) = some (ch, line) ∧ portOf ch = q.val ∧
      s.g6Access src a (.full data) env =
        ⟨.ok, 0, ((s.g6Before src (a / 64 * 64)).g6Arrived q ch src true env).storeLine (lineKey ch line) (a / 64 * 64) data⟩ := by
  have hb := beside_g6Before s src (a / 64 * 64)
  cases hr : s.g6Refuse src (a / 64 * 64) (.full data) with
  | some r =>
    rw [g6Access_of_refused hr] at h
    exact absurd (hr.trans (congrArg some h)) (g6Refuse_ne_ok _ _ _)
  | none =>
    cases hp : s.place (a / 64 * 64) with
    | none =>
      unfold State.g6Refuse at hr
      rw [hp] at hr
      exact absurd hr (by simp)
    | some pl =>
      obtain ⟨ch, line⟩ := pl
      by_cases hq : portOf ch < 24
      · rw [g6Access_of_accepted (q := ⟨portOf ch, hq⟩) hr hp rfl] at h ⊢
        obtain ⟨hbuf, hedc⟩ := g6AtPort_full_ok h
        exact ⟨ch, line, ⟨portOf ch, hq⟩, rfl, rfl, g6AtPort_of_passed hbuf hedc⟩
      · unfold State.g6Access at h
        dsimp only at h
        rw [← State.g6Before, (hb.g6Refuse _ _ _).trans hr, (hb.place _).trans hp] at h
        dsimp only at h
        rw [dif_neg hq] at h
        exact absurd h (by simp)

theorem sameSeal_storeLine (s : State) (key a : Nat) (x : Line512) : SameSeal s (s.storeLine key a x) := by
  unfold State.storeLine
  dsimp only
  split
  · exact (SameSeal.refl s).setLine
  · exact (SameSeal.refl s).setLine.trans (Beside.refl _).countWrite.toSameSeal

theorem line_storeLine (s : State) (key a k : Nat) (x : Line512) : (s.storeLine key a x).line k =
    if k = key then some ⟨(s.seal (s.vaultOf a) a x).1, (s.seal (s.vaultOf a) a x).2, .clean, .clean, .clean, .clean⟩
    else s.line k := by
  unfold State.storeLine
  dsimp only
  split
  · exact line_setLine _ _ _
  · exact ((Beside.refl _).countWrite.line k).trans (line_setLine _ _ _)

/-! ### A read -/

theorem countWords_clean (ws : List Nat) {e : Ecc} (he : e ≠ .clean) :
    countWords [.clean, .clean, .clean, .clean] ws e = 0 := by
  have hn : ∀ w, nth [Ecc.clean, .clean, .clean, .clean] w .clean = .clean := by
    intro w
    unfold nth
    rw [List.getD_eq_getElem?_getD]
    rcases h : [Ecc.clean, .clean, .clean, .clean][w]? with _ | x
    · rfl
    · have := List.mem_of_getElem? h
      simpa using this
  simp [countWords, hn, Ne.symm he]

theorem sameSeal_keepMarks {key : Nat} {e : List Ecc} (h : SameSeal s t) : SameSeal s (t.keepMarks key e) := by
  unfold State.keepMarks
  split
  · exact h.setLine
  · exact h

theorem lineFound_of_some {key : Nat} {l : GLine} (hl : s.line key = some l) : s.lineFound key = l := by
  unfold State.lineFound
  rw [hl]

/-- A read of a line whose words are clean and whose tag matches answers its plaintext (12 R436, 13 R461). -/
theorem g6ReadLine_of_clean {q : Fin 24} {key src a mask : Nat} {e : List Ecc} {l : GLine} (hl : s.line key = some l)
    (hc : l.conds e = [.clean, .clean, .clean, .clean]) (ht : s.tagOk (s.vaultOf a) a l = true) :
    s.g6ReadLine q key src a mask e = ⟨.ok, s.open_ (s.vaultOf a) a l.data, (s.lineRead key).keepMarks key e⟩ := by
  have hs : SameSeal s ((s.lineRead key).keepMarks key e) := sameSeal_keepMarks (Beside.refl s).lineRead.toSameSeal
  unfold State.g6ReadLine
  simp only [lineFound_of_some hl, hc, countWords_clean _ (by decide : Ecc.ce ≠ .clean),
    countWords_clean _ (by decide : Ecc.ue ≠ .clean), State.countCe, State.countUe, if_true, bne_self_eq_false,
    Bool.false_eq_true, if_false, hs.vaultOf, hs.tagOk, ht, hs.open_]

theorem bitsOf_line (x : Line512) : bitsOf x.toNat 0 512 = x.toNat := by
  rw [bitsOf, Nat.pow_zero, Nat.div_one, Nat.mod_eq_of_lt x.isLt]

theorem exec_g6FullWrite (src addr : Nat) (data : Line512) (env : G6Env) : exec (.g6FullWrite src addr data env) s =
    .next ((s.g6Access src addr (.full data) env).st.answer (s.g6Access src addr (.full data) env).resp []) := rfl

/-- A read of a whole line. -/
theorem exec_g6Read_line {src a : Nat} {env : G6Env} {x : Line512} (ha : a % 64 = 0)
    (hr : (s.g6Access src a (.read (2 ^ 64 - 1)) env).resp = .ok)
    (hd : (s.g6Access src a (.read (2 ^ 64 - 1)) env).data = x) : exec (.g6Read src a 64 env) s =
    .next ((s.g6Access src a (.read (2 ^ 64 - 1)) env).st.answer .ok (leBytes 64 x.toNat)) := by
  have hm : spanMask a 64 = 2 ^ 64 - 1 := by simp [spanMask, ha]
  show execG6Read src a 64 env s = _
  unfold execG6Read
  dsimp only
  rw [hm, hr, hd, ha, if_pos rfl, show min 64 (64 - 0) = 64 from rfl, Nat.mul_zero, show 8 * 64 = 512 from rfl, bitsOf_line]

/-- A read, accepted, of a line that holds what `seal` makes of some bytes answers them. -/
theorem g6Access_read_of_sealed {src a ch line : Nat} {q : Fin 24} {mask : Nat} {env : G6Env} {x : Line512}
    (hacc : s.g6Refuse src (a / 64 * 64) (.read mask) = none) (hp : s.place (a / 64 * 64) = some (ch, line))
    (hq : portOf ch = q.val) (hbuf : env.buf = false) (hedc : env.edc < 4) (hecc : env.ecc = [])
    (hl : s.line (lineKey ch line) = some ⟨(s.seal (s.vaultOf (a / 64 * 64)) (a / 64 * 64) x).1,
      (s.seal (s.vaultOf (a / 64 * 64)) (a / 64 * 64) x).2, .clean, .clean, .clean, .clean⟩) :
    (s.g6Access src a (.read mask) env).resp = .ok ∧ (s.g6Access src a (.read mask) env).data = x := by
  have hb : Beside s ((s.g6Before src (a / 64 * 64)).g6Arrived q ch src false env) :=
    (beside_g6Before s src _).trans (beside_g6Arrived _ q ch src false env)
  rw [g6Access_of_accepted hacc hp hq, g6AtPort_of_passed hbuf hedc, hecc]
  have hread := g6ReadLine_of_clean (q := q) (src := src) (a := a / 64 * 64) (mask := mask) (e := [])
    ((hb.line _).trans hl) rfl (by rw [hb.vaultOf, hb.tagOk, tagOk_seal])
  rw [hb.vaultOf, hb.open_, open_seal] at hread
  rw [State.g6Serve, G6Kind.isWrite, hread]
  exact ⟨rfl, rfl⟩

/-- Settles O39: the read finds the line at the same place with the stored form that the write sealed, and the same keys,
tweak and tag open it. -/
theorem whatIsWrittenIsReadBack : Obligations.WhatIsWrittenIsReadBack := by
  intro s t u src src' addr data env env' hw hok hecc hedc hbuf hacc hread
  rw [exec_g6FullWrite] at hw
  obtain rfl := Host.Outcome.next.inj hw
  obtain ⟨ch, line, q, hp, hq, hdone⟩ := g6Access_full_ok (Option.some.inj hok)
  rw [hdone] at hacc hread
  have ha : addr / 64 * 64 / 64 * 64 = addr / 64 * 64 := by omega
  generalize hb : (s.g6Before src (addr / 64 * 64)).g6Arrived q ch src true env = b at hacc hread
  have hbs : Beside s b := hb ▸ (beside_g6Before s src _).trans (beside_g6Arrived _ q ch src true env)
  have hw := sameSeal_storeLine b (lineKey ch line) (addr / 64 * 64) data
  have hl := line_storeLine b (lineKey ch line) (addr / 64 * 64) (lineKey ch line) data
  rw [if_pos rfl, ← hw.vaultOf, ← hw.sealed] at hl
  generalize b.storeLine (lineKey ch line) (addr / 64 * 64) data = w at hacc hread hw hl
  obtain ⟨hr, hd⟩ := g6Access_read_of_sealed (s := w.answer .ok []) (src := src') (a := addr / 64 * 64) (ch := ch)
    (line := line) (q := q) (x := data) (mask := 2 ^ 64 - 1) (env := env') (by rw [ha]; exact hacc)
    (by rw [ha]; exact (hw.place _).trans ((hbs.place _).trans hp)) hq hbuf hedc hecc (by rw [ha]; exact hl)
  rw [exec_g6Read_line (by omega) hr hd] at hread
  rw [← Host.Outcome.next.inj hread]
  rfl

end Sys2Proof.Machine
end

section
/-! Accesses to lines outside every vault, throttled sources, regions (12_memory_system.md R414, R421, R423, R433, R436 to R439,
R446). -/
namespace Sys2Proof.Machine
variable {s t u : State}

/-! ### The clock: only the activation of a throttled source waits (R433) -/

@[simp] theorem ite_now {c : Prop} [Decidable c] (a b : State) : (if c then a else b).now = if c then a.now else b.now :=
  apply_ite State.now c a b

@[simp] theorem tally_now (s : State) (d code n : Nat) : (s.tally d code n).now = s.now := by unfold State.tally; split <;> rfl
@[simp] theorem setSeam_now (s : State) (d k : Nat) (f : SeamEnd → SeamEnd) : (s.setSeam d k f).now = s.now := by
  unfold State.setSeam; rfl

@[simp] theorem sendFlit_now (fuel : Nat) : ∀ (s : State) (d path : Nat), (s.sendFlit fuel d path).now = s.now := by
  induction fuel with
  | zero => intro s d path; rfl
  | succ n ih =>
    intro s d path
    unfold State.sendFlit
    split
    · rfl
    · split
      · rfl
      · simp [ih]

@[simp] theorem carry_now (s : State) (a b : Nat) : (s.carry a b).now = s.now := by simp [State.carry]
@[simp] theorem g6Trip_now (s : State) (src a : Nat) : (s.g6Trip src a).now = s.now := by
  unfold State.g6Trip
  split
  · rfl
  · simp [State.roundTrip]
@[simp] theorem elog_now (s : State) (q a kind src : Nat) : (s.elog q a kind src).now = s.now := by simp [State.elog]
@[simp] theorem bump_now (s : State) (a : Nat) (f : Fld) (n : Nat) : (s.bump a f n).now = s.now := by simp [State.bump]
@[simp] theorem raise_now (s : State) (a : Nat) (f : Fld) : (s.raise a f).now = s.now := by simp [State.raise]
@[simp] theorem setLine_now (s : State) (k : Nat) (l : Option GLine) : (s.setLine k l).now = s.now := by unfold State.setLine; rfl
@[simp] theorem countCe_now (s : State) (q n : Nat) : (s.countCe q n).now = s.now := by simp [State.countCe]
@[simp] theorem countUe_now (s : State) (q n a kind src : Nat) : (s.countUe q n a kind src).now = s.now := by
  simp [State.countUe]
@[simp] theorem rhNow_now (s : State) (q : Fin 24) : (s.rhNow q).now = s.now := by simp [State.rhNow]
@[simp] theorem throttleAt_now (s : State) (q : Fin 24) (ch src bank : Nat) (new : Bool) :
    (s.throttleAt q ch src bank new).now = s.now := by simp [State.throttleAt]
@[simp] theorem countRow_now (s : State) (q : Fin 24) (ch src bank row : Nat) : (s.countRow q ch src bank row).now = s.now := by
  simp [State.countRow]
@[simp] theorem edcRetry_now (s : State) (q n : Nat) : (s.edcRetry q n).now = s.now := by simp [State.edcRetry]
@[simp] theorem lineRead_now (s : State) (k : Nat) : (s.lineRead k).now = s.now := by unfold State.lineRead; split <;> rfl
@[simp] theorem keepMarks_now (s : State) (k : Nat) (e : List Ecc) : (s.keepMarks k e).now = s.now := by
  unfold State.keepMarks; split <;> rfl
@[simp] theorem tagFailure_now (s : State) (v a kind src : Nat) : (s.tagFailure v a kind src).now = s.now := by
  unfold State.tagFailure; split <;> simp
@[simp] theorem countWrite_now (s : State) (v : Fin 64) : (s.countWrite v).now = s.now := by
  unfold State.countWrite
  dsimp only
  repeat' split
  all_goals simp [State.wrPair]
@[simp] theorem storeLine_now (s : State) (k a : Nat) (x : Line512) : (s.storeLine k a x).now = s.now := by
  unfold State.storeLine
  dsimp only
  split <;> simp
@[simp] theorem noteAccess_now (s : State) (src a : Nat) : (s.noteAccess src a).now = s.now := by
  unfold State.noteAccess
  split <;> simp

theorem g6ReadLine_now (q : Fin 24) (key src a mask : Nat) (e : List Ecc) :
    (s.g6ReadLine q key src a mask e).st.now = s.now := by
  unfold State.g6ReadLine
  dsimp only
  split
  · simp
  · split <;> simp

theorem g6Merge_now (q : Fin 24) (key src a kind : Nat) (f : Line512 → Line512) (e : List Ecc) :
    (s.g6Merge q key src a kind f e).st.now = s.now := by
  unfold State.g6Merge
  dsimp only
  split
  · simp
  · split <;> simp

theorem g6Serve_now (q : Fin 24) (key src a : Nat) (kind : G6Kind) (e : List Ecc) :
    (s.g6Serve q key src a kind e).st.now = s.now := by
  cases kind <;> simp only [State.g6Serve, g6ReadLine_now, g6Merge_now, storeLine_now]

theorem g6Before_now (src a : Nat) : (s.g6Before src a).now = s.now := by
  unfold State.g6Before
  simp

/-- Once an access has arrived at its port, no time passes. -/
theorem g6AtPort_now (q : Fin 24) (ch line src a : Nat) (kind : G6Kind) (env : G6Env) :
    (s.g6AtPort q ch line src a kind env).st.now = (s.g6Arrived q ch src kind.isWrite env).now := by
  rw [g6AtPort_eq]
  split
  · rfl
  · split
    · simp
    · exact g6Serve_now _ _ _ _ _ _

/-! ### The four commands answer what their access gives -/

theorem exec_g6PartialWrite (src addr : Nat) (data : Line512) {mask : BitVec 64} (env : G6Env) (h : mask ≠ BitVec.allOnes 64) :
    exec (.g6PartialWrite src addr data mask env) s =
      .next ((s.g6Access src addr (.part data mask.toNat) env).st.answer
        (s.g6Access src addr (.part data mask.toNat) env).resp []) := by
  show execG6PartialWrite src addr data mask env s = _
  unfold execG6PartialWrite
  rw [if_neg h]

theorem exec_g6PartialWrite_all (src addr : Nat) (data : Line512) (env : G6Env) :
    exec (.g6PartialWrite src addr data (BitVec.allOnes 64) env) s =
      .next ((s.g6Access src addr (.full data) env).st.answer (s.g6Access src addr (.full data) env).resp []) := by
  show execG6PartialWrite src addr data _ env s = _
  unfold execG6PartialWrite
  rw [if_pos rfl]

theorem exec_g6OrWrite (d : Fin 6) (addr : Nat) (data : Line512) (env : G6Env) : exec (.g6OrWrite d addr data env) s =
    .next ((s.g6Access (128 * d.val + 0x48) addr (.or_ data) env).st.answer
      (s.g6Access (128 * d.val + 0x48) addr (.or_ data) env).resp []) := rfl

theorem exec_g6Read (src addr len : Nat) (env : G6Env) : exec (.g6Read src addr len env) s =
    .next ((s.g6Access src addr (.read (spanMask addr len)) env).st.answer
      (s.g6Access src addr (.read (spanMask addr len)) env).resp
      (if (s.g6Access src addr (.read (spanMask addr len)) env).resp = .ok then leBytes (min len (64 - addr % 64))
        (bitsOf (s.g6Access src addr (.read (spanMask addr len)) env).data.toNat (8 * (addr % 64))
          (8 * min len (64 - addr % 64))) else [])) := rfl

/-- A refused access answers its response and leaves every line (R446). -/
theorem g6Access_refused {src addr : Nat} {kind : G6Kind} {env : G6Env} {r : Resp}
    (h : s.g6Refuse src (addr / 64 * 64) kind = some r) :
    (s.g6Access src addr kind env).resp = r ∧ (s.g6Access src addr kind env).st.lines = s.lines := by
  have hb := beside_g6Before s src (addr / 64 * 64)
  rw [g6Access_of_refused h]
  exact ⟨rfl, (hb.noteAccess.ite hb).lines⟩

/-! ### Lines outside every vault -/

theorem countWords_ue {cs : List Ecc} (h : nth cs 0 .clean = .ue) : countWords cs [0, 1, 2, 3] .ue ≠ 0 := by
  simp [countWords, List.filter_cons, h]

theorem worst_clean (m : Ecc) : Ecc.worst m .clean = m := by cases m <;> rfl

theorem worsen_nil (l : GLine) : l.worsen [] = l := by simp [GLine.worsen, nth, worst_clean]

/-- A burst that meets nothing leaves the marks of a line. -/
theorem line_keepMarks_nil (key k : Nat) : (s.keepMarks key []).line k = s.line k := by
  unfold State.keepMarks
  split
  · next l hl =>
    rw [line_setLine, worsen_nil]
    split
    · next hk => rw [hk, hl]
    · rfl
  · rfl

section
variable {q : Fin 24} {key src a kind : Nat} {l : GLine} {f : Line512 → Line512} {e : List Ecc}

/-- The machine after a burst to a line, before anything is counted. -/
def State.g6Burst (s : State) (key : Nat) (e : List Ecc) : State := (s.lineRead key).keepMarks key e

theorem line_g6Burst_nil (key k : Nat) : (s.g6Burst key []).line k = s.line k :=
  (line_keepMarks_nil key k).trans ((Beside.refl s).lineRead.line k)

theorem sameSeal_g6Burst (s : State) (key : Nat) (e : List Ecc) : SameSeal s (s.g6Burst key e) :=
  sameSeal_keepMarks (Beside.refl s).lineRead.toSameSeal

/-- A partial or OR write of a line whose words are clean and whose tag matches stores what it merges (R438, R439). -/
theorem g6Merge_of_clean (hl : s.line key = some l) (hc : l.conds e = [.clean, .clean, .clean, .clean])
    (ht : s.tagOk (s.vaultOf a) a l = true) : s.g6Merge q key src a kind f e =
      ⟨.ok, 0, (s.g6Burst key e).storeLine key a (f (s.open_ (s.vaultOf a) a l.data))⟩ := by
  have hs := sameSeal_g6Burst s key e
  unfold State.g6Burst at hs
  unfold State.g6Merge State.g6Burst
  simp only [lineFound_of_some hl, hc, countWords_clean _ (by decide : Ecc.ce ≠ .clean),
    countWords_clean _ (by decide : Ecc.ue ≠ .clean), State.countCe, State.countUe, if_true, bne_self_eq_false,
    Bool.false_eq_true, if_false, hs.vaultOf, hs.tagOk, ht, hs.open_]

/-- An uncorrectable word refuses it (R438). -/
theorem g6Merge_of_ue {n : Nat} (hl : s.line key = some l) (hn : countWords (l.conds e) [0, 1, 2, 3] .ue = n + 1) :
    s.g6Merge q key src a kind f e =
      ⟨.errData, 0, (((s.g6Burst key e).countCe q (countWords (l.conds e) [0, 1, 2, 3] .ce)).countUe q (n + 1) a kind src).raise
        (R.MEMP_CAUSE q) F.MEMP_CAUSE_PWREF⟩ := by
  unfold State.g6Merge State.g6Burst
  simp [lineFound_of_some hl, hn]

theorem countUe_flag {n : Nat} : (s.countUe q (n + 1) a kind src).flag (R.MEMP_CAUSE q) F.MEMP_CAUSE_UECC = true := by
  unfold State.countUe State.elog
  rw [if_neg (Nat.succ_ne_zero n), State.flag, State.wr_fld_other _ _ _ _ _ (by simp [R.MEMP_CAUSE, R.MEMP_ELOG_HI]),
    State.wr_fld_other _ _ _ _ _ (by simp [R.MEMP_CAUSE, R.MEMP_ELOG_LO])]
  exact State.raise_flag _ _ _ (by decide) rfl

theorem g6Merge_ue (hl : s.line key = some l) (hm : l.m0 = .ue) :
    (s.g6Merge q key src a kind f []).resp = .errData ∧ (∀ k, (s.g6Merge q key src a kind f []).st.line k = s.line k) ∧
    (s.g6Merge q key src a kind f []).st.flag (R.MEMP_CAUSE q) F.MEMP_CAUSE_PWREF = true ∧
    (s.g6Merge q key src a kind f []).st.flag (R.MEMP_CAUSE q) F.MEMP_CAUSE_UECC = true := by
  obtain ⟨n, hn⟩ := Nat.exists_eq_succ_of_ne_zero
    (countWords_ue (cs := l.conds []) (by rw [GLine.conds, hm]; rfl))
  rw [g6Merge_of_ue hl hn]
  refine ⟨rfl, fun k => ?_, State.raise_flag _ _ _ (by decide) rfl, ?_⟩
  · exact (((Beside.refl _).countCe.countUe.memp (o := 8) (by decide)).line k).trans (line_g6Burst_nil key k)
  · rw [State.flag, State.raise_eq, State.setF_fld_other _ _ _ _ _ _ (.inr (by decide))]
    exact countUe_flag

end

/-- An access to a line outside every vault, accepted and met by no error. -/
structure PlainAccess (s : State) (src a ch line : Nat) (q : Fin 24) (kind : G6Kind) (env : G6Env) : Prop where
  accepted : s.g6Refuse src (a / 64 * 64) kind = none
  placed : s.place (a / 64 * 64) = some (ch, line)
  port : portOf ch = q.val
  plain : s.vaultOf (a / 64 * 64) = none
  buf : env.buf = false
  edc : env.edc < 4
  ecc : env.ecc = []

namespace PlainAccess
variable {src addr ch line : Nat} {q : Fin 24} {kind : G6Kind} {env : G6Env} {l : GLine}

/-- It comes to its line in a machine that differs beside the lines only. -/
theorem served (h : PlainAccess s src addr ch line q kind env) : ∃ b, Beside s b ∧ b.vaultOf (addr / 64 * 64) = none ∧
    s.g6Access src addr kind env = b.g6Serve q (lineKey ch line) src (addr / 64 * 64) kind [] := by
  have hb : Beside s ((s.g6Before src (addr / 64 * 64)).g6Arrived q ch src kind.isWrite env) :=
    (beside_g6Before s src _).trans (beside_g6Arrived _ q ch src kind.isWrite env)
  exact ⟨_, hb, (hb.vaultOf _).trans h.plain,
    by rw [g6Access_of_accepted h.accepted h.placed h.port, g6AtPort_of_passed h.buf h.edc, h.ecc]⟩

/-- What a write leaves: its line holds x with TAG 0, every other line what it held (13 R454). -/
def Stores (s : State) (key : Nat) (x : Line512) (r : G6Ans) : Prop :=
  r.resp = .ok ∧ ∀ k, r.st.line k = if k = key then some ⟨x, 0, .clean, .clean, .clean, .clean⟩ else s.line k

theorem full {data : Line512} (h : PlainAccess s src addr ch line q (.full data) env) :
    Stores s (lineKey ch line) data (s.g6Access src addr (.full data) env) := by
  obtain ⟨b, hb, hv, he⟩ := h.served
  rw [he]
  refine ⟨rfl, fun k => ?_⟩
  rw [State.g6Serve, line_storeLine, hv, hb.line]
  rfl

theorem read {mask : Nat} (h : PlainAccess s src addr ch line q (.read mask) env) (hl : s.line (lineKey ch line) = some l)
    (hc : l.conds [] = [.clean, .clean, .clean, .clean]) : (s.g6Access src addr (.read mask) env).resp = .ok ∧
      (s.g6Access src addr (.read mask) env).data = l.data ∧ ∀ k, (s.g6Access src addr (.read mask) env).st.line k = s.line k := by
  obtain ⟨b, hb, hv, he⟩ := h.served
  rw [he, State.g6Serve, g6ReadLine_of_clean ((hb.line _).trans hl) hc (by rw [hv]; rfl), hv]
  exact ⟨rfl, rfl, fun k => (line_g6Burst_nil _ k).trans (hb.line k)⟩

theorem merge {f : Line512 → Line512} {kc : Nat} (h : PlainAccess s src addr ch line q kind env)
    (hk : ∀ b : State, b.g6Serve q (lineKey ch line) src (addr / 64 * 64) kind [] =
      b.g6Merge q (lineKey ch line) src (addr / 64 * 64) kc f [])
    (hl : s.line (lineKey ch line) = some l) (hc : l.conds [] = [.clean, .clean, .clean, .clean]) :
    Stores s (lineKey ch line) (f l.data) (s.g6Access src addr kind env) := by
  obtain ⟨b, hb, hv, he⟩ := h.served
  rw [he, hk, g6Merge_of_clean ((hb.line _).trans hl) hc (by rw [hv]; rfl)]
  refine ⟨rfl, fun k => ?_⟩
  rw [line_storeLine, (sameSeal_g6Burst b _ _).vaultOf, hv, line_g6Burst_nil, hb.line]
  rfl

theorem refusedByUe {data : Line512} {mask : Nat} (h : PlainAccess s src addr ch line q (.part data mask) env)
    (hl : s.line (lineKey ch line) = some l) (hm : l.m0 = .ue) :
    (s.g6Access src addr (.part data mask) env).resp = .errData ∧
    (∀ k, (s.g6Access src addr (.part data mask) env).st.line k = s.line k) ∧
    (s.g6Access src addr (.part data mask) env).st.flag (R.MEMP_CAUSE q) F.MEMP_CAUSE_PWREF = true ∧
    (s.g6Access src addr (.part data mask) env).st.flag (R.MEMP_CAUSE q) F.MEMP_CAUSE_UECC = true := by
  obtain ⟨b, hb, hv, he⟩ := h.served
  obtain ⟨hr, hk, hf⟩ := g6Merge_ue (q := q) (src := src) (a := addr / 64 * 64) (kind := 1)
    (f := fun o => mergeBytes o data mask) ((hb.line _).trans hl) hm
  rw [he, State.g6Serve]
  exact ⟨hr, fun k => (hk k).trans (hb.line k), hf⟩

end PlainAccess

/-! ### What waits, and how long (R433) -/

@[simp] theorem tally_port (s : State) (d code n : Nat) : (s.tally d code n).port = s.port := by unfold State.tally; split <;> rfl
@[simp] theorem setSeam_port (s : State) (d k : Nat) (f : SeamEnd → SeamEnd) : (s.setSeam d k f).port = s.port := by
  unfold State.setSeam; rfl

@[simp] theorem sendFlit_port (fuel : Nat) : ∀ (s : State) (d path : Nat), (s.sendFlit fuel d path).port = s.port := by
  induction fuel with
  | zero => intro s d path; rfl
  | succ n ih =>
    intro s d path
    unfold State.sendFlit
    split
    · rfl
    · split
      · rfl
      · simp [ih]

@[simp] theorem ite_port {c : Prop} [Decidable c] (a b : State) : (if c then a else b).port = if c then a.port else b.port :=
  apply_ite State.port c a b

@[simp] theorem carry_port (s : State) (a b : Nat) : (s.carry a b).port = s.port := by simp [State.carry]

@[simp] theorem g6Before_port (src a : Nat) : (s.g6Before src a).port = s.port := by
  unfold State.g6Before State.g6Trip
  split <;> simp [State.roundTrip]

section
variable {q : Fin 24} {ch src bank row last : Nat} {write : Bool} {env : G6Env}

theorem p_congr (h : t.port = s.port) (q : Fin 24) : t.p q = s.p q := by rw [State.p, State.p, h]

theorem rhCtrl_congr (h : Beside s t) (q : Nat) (f : Fld) : t.fld (R.MEMP_RH_CTRL q) f = s.fld (R.MEMP_RH_CTRL q) f :=
  fld_congr (h.frame.2.2 _ (not_touched_memp (o := 0x10) (by decide))) f

theorem rhLen_congr (h : Beside s t) (q : Nat) : t.rhLen q = s.rhLen q := by rw [State.rhLen, State.rhLen, rhCtrl_congr h]

theorem rhGap_congr (h : Beside s t) (q : Nat) : t.rhGap q = s.rhGap q := by rw [State.rhGap, State.rhGap, rhCtrl_congr h]

/-- Where no source is throttled, none waits. -/
theorem throttleWait_of_none (h : (s.p q).throttled = []) : s.throttleWait q ch src bank = s := by
  unfold State.throttleWait
  rw [h]
  rfl

theorem rhNow_throttled (h : (s.p q).throttled = []) : ((s.rhNow q).p q).throttled = [] := by
  unfold State.rhNow
  dsimp only
  split
  · exact h
  · rw [State.setP_p_same]

theorem activate_now_of_none {act : Option (Nat × Nat)} (h : act = none ∨ (s.p q).throttled = []) :
    (s.activate q ch src act).now = s.now := by
  unfold State.activate
  split
  · rfl
  · have ht : (s.p q).throttled = [] := h.resolve_left (by simp)
    rw [countRow_now, throttleAt_now, throttleWait_of_none, rhNow_now, tally_now]
    exact rhNow_throttled (by rw [p_congr (tally_port _ _ _ _)]; exact ht)

/-- A throttled source's activation takes place GAP after its last one on that bank, within the window (R433). -/
theorem activate_now_of_throttled (ht : (s.p q).throttled = [(src, ch, bank, last)]) (hw : (s.p q).win = s.now / s.rhLen q)
    (hl : s.now < last + s.rhGap q) (he : last + s.rhGap q ≤ (s.now / s.rhLen q + 1) * s.rhLen q) :
    (s.activate q ch src (some (bank, row))).now = last + s.rhGap q := by
  have hb : ∀ code, Beside s (s.tally (q.val / 4) code 1) := fun _ => (Beside.refl s).tally
  have hp : ∀ code, (s.tally (q.val / 4) code 1).p q = s.p q := fun _ => p_congr (tally_port _ _ _ _) q
  have hn : ∀ code, (s.tally (q.val / 4) code 1).rhNow q = s.tally (q.val / 4) code 1 := fun code => by
    unfold State.rhNow
    dsimp only
    rw [hp, rhLen_congr (hb code), tally_now, if_pos hw]
  unfold State.activate
  dsimp only
  rw [countRow_now, throttleAt_now, hn]
  unfold State.throttleWait
  rw [hp, ht]
  simp only [List.find?_cons, decide_true, rhGap_congr (hb _), rhLen_congr (hb _), tally_now, min_eq_left he, hl, if_true,
    rhNow_now, State.at_now]
  exact max_eq_right hl.le

theorem g6Arrived_now (b : State) : (b.g6Arrived q ch src write env).now =
    ((if isFC (q.val / 4) src then (b.tally (q.val / 4) ((if write then 0x44 else 0x40) + q.val % 4) 1).tally (q.val / 4)
      (0x58 + q.val % 4) 1 else b.tally (q.val / 4) ((if write then 0x44 else 0x40) + q.val % 4) 1).activate q ch src env.act).now := by
  unfold State.g6Arrived
  exact edcRetry_now _ _ _

/-- What counts an access beside its activation leaves its port, its clock and its window as they are. -/
theorem counted_beside (b : State) (d c1 c2 : Nat) (c : Prop) [Decidable c] :
    Beside b (if c then (b.tally d c1 1).tally d c2 1 else b.tally d c1 1) ∧
    (if c then (b.tally d c1 1).tally d c2 1 else b.tally d c1 1).port = b.port ∧
    (if c then (b.tally d c1 1).tally d c2 1 else b.tally d c1 1).now = b.now :=
  ⟨.ite (Beside.refl b).tally.tally (Beside.refl b).tally, by simp, by simp⟩

theorem g6Arrived_now_of_none (h : env.act = none ∨ (s.p q).throttled = []) :
    (s.g6Arrived q ch src write env).now = s.now := by
  obtain ⟨-, hp, hn⟩ := counted_beside s (q.val / 4) ((if write then 0x44 else 0x40) + q.val % 4) (0x58 + q.val % 4)
    (isFC (q.val / 4) src = true)
  rw [g6Arrived_now, activate_now_of_none (h.imp_right fun ht => by rw [p_congr hp]; exact ht), hn]

theorem g6Arrived_now_of_throttled (ha : env.act = some (bank, row)) (ht : (s.p q).throttled = [(src, ch, bank, last)])
    (hw : (s.p q).win = s.now / s.rhLen q) (hl : s.now < last + s.rhGap q)
    (he : last + s.rhGap q ≤ (s.now / s.rhLen q + 1) * s.rhLen q) :
    (s.g6Arrived q ch src write env).now = last + s.rhGap q := by
  obtain ⟨hb, hp, hn⟩ := counted_beside s (q.val / 4) ((if write then 0x44 else 0x40) + q.val % 4) (0x58 + q.val % 4)
    (isFC (q.val / 4) src = true)
  rw [g6Arrived_now, ha, activate_now_of_throttled (last := last), rhGap_congr hb]
  · rw [p_congr hp, ht]
  · rw [p_congr hp, hn, rhLen_congr hb, hw]
  · rw [hn, rhGap_congr hb]; exact hl
  · rw [hn, rhGap_congr hb, rhLen_congr hb]; exact he

end

/-- An access whose source is not throttled takes no time (R433). -/
theorem g6Access_now {src a : Nat} {kind : G6Kind} {env : G6Env}
    (h : env.act = none ∨ ∀ q : Fin 24, (s.p q).throttled = []) : (s.g6Access src a kind env).st.now = s.now := by
  have hn := g6Before_now (s := s) src (a / 64 * 64)
  unfold State.g6Access
  dsimp only
  rw [← State.g6Before]
  split
  · simp [hn]
  · split
    · exact hn
    · split
      · rw [g6AtPort_now, g6Arrived_now_of_none, hn]
        exact h.imp_right fun ht => by rw [p_congr (g6Before_port _ _)]; exact ht _
      · exact hn

theorem g6Access_now_of_throttled {src a ch line bank row last : Nat} {q : Fin 24} {kind : G6Kind} {env : G6Env}
    (hacc : s.g6Refuse src (a / 64 * 64) kind = none) (hp : s.place (a / 64 * 64) = some (ch, line)) (hq : portOf ch = q.val)
    (ha : env.act = some (bank, row)) (ht : (s.p q).throttled = [(src, ch, bank, last)])
    (hw : (s.p q).win = s.now / s.rhLen q) (hl : s.now < last + s.rhGap q)
    (he : last + s.rhGap q ≤ (s.now / s.rhLen q + 1) * s.rhLen q) :
    (s.g6Access src a kind env).st.now = last + s.rhGap q := by
  have hb := beside_g6Before s src (a / 64 * 64)
  have hpb := p_congr (g6Before_port (s := s) src (a / 64 * 64)) q
  have hn := g6Before_now (s := s) src (a / 64 * 64)
  rw [g6Access_of_accepted hacc hp hq, g6AtPort_now, g6Arrived_now_of_throttled (last := last) ha, rhGap_congr hb]
  · rw [hpb, ht]
  · rw [hpb, hn, rhLen_congr hb, hw]
  · rw [hn, rhGap_congr hb]; exact hl
  · rw [hn, rhGap_congr hb, rhLen_congr hb]; exact he

/-! ### Regions (R423) -/

theorem exec_regionCtrlWrite (r : Fin 16) (v : Word) : exec (.regionCtrlWrite r v) s =
    if (regionOf (s.rd (R.PROM_REG_BASE 0 r)) (s.rd (R.PROM_REG_SIZE 0 r)) v (s.rd (R.PROM_REG_CHOFS 0 r))).en &&
      ((s.region r).en || !s.regionOk (regionOf (s.rd (R.PROM_REG_BASE 0 r)) (s.rd (R.PROM_REG_SIZE 0 r)) v
        (s.rd (R.PROM_REG_CHOFS 0 r)))) then .next (s.raise (R.PROM_CAUSE 0) F.PROM_CAUSE_CMDERR)
    else .next (s.wrRW (R.PROM_REG_CTRL 0 r) v) := rfl

/-- Raising one bit writes that field and nothing else. -/
theorem onlyWrites_raise (a : Nat) (f : Fld) : OnlyWrites [(a, [(f, 1)])] s (s.raise a f) := by
  refine ⟨rfl, ?_, (SameRegs.refl _ s).setF (by simp)⟩
  simp only [List.mem_singleton, forall_eq, List.foldl_cons, List.foldl_nil]
  exact State.setF_rd_same _ _ _ _

/-- A field read back from a write of a register's stored bits (00 R11), where the mask of those bits covers it. -/
theorem get_masked {f : Fld} {m : Word} (old v : Word) (h : ∀ i, i < f.w → m.getLsbD (f.lo + i) = true) :
    f.get ((old &&& ~~~m) ||| (v &&& m)) = f.get v := by
  apply Nat.eq_of_testBit_eq
  intro i
  rw [Fld.testBit_get, Fld.testBit_get]
  by_cases hi : i < f.w
  · simp [hi, h i hi]
  · simp [hi]

/-- The stored bits of PROM_REGr_CTRL. -/
theorem wrRW_regionCtrl (r : Fin 16) (v : Word) : s.wrRW (R.PROM_REG_CTRL 0 r) v =
    s.wr (R.PROM_REG_CTRL 0 r) ((s.rd (R.PROM_REG_CTRL 0 r) &&& ~~~0x0F3F077F#32) ||| (v &&& 0x0F3F077F#32)) := by
  have h : ∀ r : Fin 16, (regAt (R.PROM_REG_CTRL 0 r)).map (fun x => rwMask x.2.1.fields) = some 0x0F3F077F#32 := by decide
  have hr := h r
  unfold State.wrRW
  split
  · next hn => simp [hn] at hr
  · next b row ix hs =>
    simp only [hs, Option.map_some, Option.some.injEq] at hr
    rw [hr]

theorem regionOf_masked (base size old v chofs : Word) :
    regionOf base size ((old &&& ~~~0x0F3F077F#32) ||| (v &&& 0x0F3F077F#32)) chofs = regionOf base size v chofs := by
  unfold regionOf
  rw [get_masked (f := F.PROM_REG_CTRL_EN) _ _ (by decide), get_masked (f := F.PROM_REG_CTRL_KIND) _ _ (by decide),
    get_masked (f := F.PROM_REG_CTRL_COUNT) _ _ (by decide), get_masked (f := F.PROM_REG_CTRL_DIE) _ _ (by decide),
    get_masked (f := F.PROM_REG_CTRL_CHBASE) _ _ (by decide), get_masked (f := F.PROM_REG_CTRL_DMASK) _ _ (by decide),
    get_masked (f := F.PROM_REG_CTRL_GRAIN) _ _ (by decide)]

/-- A write of a region's control register that the checks let pass defines the region (R421). -/
theorem region_wrRW (r : Fin 16) (v : Word) : (s.wrRW (R.PROM_REG_CTRL 0 r) v).region r =
    regionOf (s.rd (R.PROM_REG_BASE 0 r)) (s.rd (R.PROM_REG_SIZE 0 r)) v (s.rd (R.PROM_REG_CHOFS 0 r)) := by
  unfold State.region
  rw [wrRW_regionCtrl, State.wr_rd_same, State.wr_rd_other _ _ _ _ (by simp [R.PROM_REG_BASE, R.PROM_REG_CTRL]),
    State.wr_rd_other _ _ _ _ (by simp [R.PROM_REG_SIZE, R.PROM_REG_CTRL]),
    State.wr_rd_other _ _ _ _ (by simp [R.PROM_REG_CHOFS, R.PROM_REG_CTRL]), regionOf_masked]

theorem wrRW_only (r : Fin 16) (v : Word) : s.wrRW (R.PROM_REG_CTRL 0 r) v =
      { s with regs := (s.wrRW (R.PROM_REG_CTRL 0 r) v).regs } ∧
    SameRegs [R.PROM_REG_CTRL 0 r] s (s.wrRW (R.PROM_REG_CTRL 0 r) v) := by
  rw [wrRW_regionCtrl]
  exact (OnlyRegs.refl _ s).wr (by simp)

/-! ### What the commands leave -/

section
variable {r : G6Ans} {l : List Nat} {x : Line512} {key : Nat}

/-- A machine that an access left, with an answer. -/
def Answered (s t : State) : Prop := ∃ u, OnlyMemory s u ∧ t = { u with reply := t.reply }

theorem answered (h : OnlyMemory s r.st) : Answered s (r.st.answer r.resp l) := ⟨r.st, h, rfl⟩

theorem Stores.answer (h : PlainAccess.Stores s key x r) (ho : OnlyMemory s r.st) :
    (r.st.answer r.resp []).reply = ⟨some .ok, []⟩ ∧ (∀ k, (r.st.answer r.resp []).line k =
      if k = key then some ⟨x, 0, .clean, .clean, .clean, .clean⟩ else s.line k) ∧ Answered s (r.st.answer r.resp []) :=
  ⟨by rw [h.1]; rfl, h.2, answered ho⟩

theorem refused_answer {c : Resp} (h : r.resp = c ∧ r.st.lines = s.lines) (ho : OnlyMemory s r.st) (hl : l = []) :
    (r.st.answer r.resp l).reply = ⟨some c, []⟩ ∧ (r.st.answer r.resp l).lines = s.lines ∧ Answered s (r.st.answer r.resp l) :=
  ⟨by rw [h.1, hl]; rfl, h.2, answered ho⟩

theorem line_answer (h : ∀ k, r.st.line k = s.line k) (k : Nat) : (r.st.answer r.resp l).line k = s.line k := h k

end

/-- A region register's write: refused where it enables an enabled region or breaks the rules, else done (R423). -/
theorem regionCtrlWrite_refused {r : Fin 16} {v : Word}
    (hen : (regionOf (s.rd (R.PROM_REG_BASE 0 r)) (s.rd (R.PROM_REG_SIZE 0 r)) v (s.rd (R.PROM_REG_CHOFS 0 r))).en = true)
    (hbad : (s.region r).en = true ∨ s.regionOk (regionOf (s.rd (R.PROM_REG_BASE 0 r)) (s.rd (R.PROM_REG_SIZE 0 r)) v
      (s.rd (R.PROM_REG_CHOFS 0 r))) = false) :
    After (.regionCtrlWrite r v) s (OnlyWrites [(R.PROM_CAUSE 0, [(F.PROM_CAUSE_CMDERR, 1)])] s) :=
  ⟨_, (exec_regionCtrlWrite r v).trans (if_pos (by rcases hbad with hb | hb <;> simp [hen, hb])), onlyWrites_raise _ _⟩

theorem regionCtrlWrite_done {r : Fin 16} {v : Word}
    (hok : (regionOf (s.rd (R.PROM_REG_BASE 0 r)) (s.rd (R.PROM_REG_SIZE 0 r)) v (s.rd (R.PROM_REG_CHOFS 0 r))).en = false ∨
      (s.region r).en = false ∧ s.regionOk (regionOf (s.rd (R.PROM_REG_BASE 0 r)) (s.rd (R.PROM_REG_SIZE 0 r)) v
        (s.rd (R.PROM_REG_CHOFS 0 r))) = true) :
    After (.regionCtrlWrite r v) s (fun t => t = { s with regs := t.regs } ∧ SameRegs [R.PROM_REG_CTRL 0 r] s t ∧
      t.region r = regionOf (s.rd (R.PROM_REG_BASE 0 r)) (s.rd (R.PROM_REG_SIZE 0 r)) v (s.rd (R.PROM_REG_CHOFS 0 r))) := by
  obtain ⟨hr, hs⟩ := wrRW_only (s := s) r v
  refine ⟨_, (exec_regionCtrlWrite r v).trans (if_neg ?_), hr, hs, region_wrRW r v⟩
  rcases hok with hb | ⟨hb, hk⟩
  · simp [hb]
  · simp [hb, hk]

section
variable {src addr len ch line : Nat} {d : Fin 6} {data : Line512} {mask : BitVec 64} {env : G6Env} {q : Fin 24} {l : GLine}

theorem onlyMemory_g6Access (src a : Nat) (kind : G6Kind) (env : G6Env) : OnlyMemory s (s.g6Access src a kind env).st :=
  (OnlyMemory.refl s).g6Access

theorem g6Read_clean (h : PlainAccess s src addr ch line q (.read (spanMask addr len)) env)
    (hl : s.line (lineKey ch line) = some l) (hc : l.conds [] = [.clean, .clean, .clean, .clean]) :
    After (.g6Read src addr len env) s (fun t => t.reply = ⟨some .ok, leBytes (min len (64 - addr % 64))
      (bitsOf l.data.toNat (8 * (addr % 64)) (8 * min len (64 - addr % 64)))⟩ ∧ (∀ k, t.line k = s.line k) ∧ Answered s t) := by
  obtain ⟨hr, hd, hk⟩ := h.read hl hc
  exact ⟨_, exec_g6Read _ _ _ _, by rw [hr, hd, if_pos rfl]; rfl, line_answer hk, answered (onlyMemory_g6Access _ _ _ _)⟩

theorem g6PartialWrite_ue (h : PlainAccess s src addr ch line q (.part data mask.toNat) env)
    (hl : s.line (lineKey ch line) = some l) (hue : l.m0 = .ue) (hmask : mask ≠ BitVec.allOnes 64) :
    After (.g6PartialWrite src addr data mask env) s (fun t => t.reply = ⟨some .errData, []⟩ ∧ (∀ k, t.line k = s.line k) ∧
      t.flag (R.MEMP_CAUSE q) F.MEMP_CAUSE_PWREF = true ∧ t.flag (R.MEMP_CAUSE q) F.MEMP_CAUSE_UECC = true) := by
  obtain ⟨hr, hk, hp, hu⟩ := h.refusedByUe hl hue
  refine ⟨_, exec_g6PartialWrite _ _ _ _ hmask, by rw [hr]; rfl, line_answer hk, ?_⟩
  rw [State.answer_flag, State.answer_flag]
  exact ⟨hp, hu⟩

end

/-- The time that the four commands end at is their access's. -/
theorem g6Writes_now (src addr len : Nat) (d : Fin 6) (data : Line512) (mask : BitVec 64) (env : G6Env) {n : Nat}
    (h : ∀ src kind, (s.g6Access src addr kind env).st.now = n) :
    After (.g6FullWrite src addr data env) s (fun t => t.now = n) ∧ After (.g6Read src addr len env) s (fun t => t.now = n) ∧
    After (.g6PartialWrite src addr data mask env) s (fun t => t.now = n) ∧
    After (.g6OrWrite d addr data env) s (fun t => t.now = n) := by
  have ha : ∀ src kind r l, ((s.g6Access src addr kind env).st.answer r l).now = n := fun _ _ _ _ => h _ _
  refine ⟨⟨_, exec_g6FullWrite _ _ _ _, ha _ _ _ _⟩, ⟨_, exec_g6Read _ _ _ _, ha _ _ _ _⟩, ?_,
    ⟨_, exec_g6OrWrite _ _ _ _, ha _ _ _ _⟩⟩
  by_cases hmask : mask = BitVec.allOnes 64
  · exact hmask ▸ ⟨_, exec_g6PartialWrite_all _ _ _ _, ha _ _ _ _⟩
  · exact ⟨_, exec_g6PartialWrite _ _ _ _ hmask, ha _ _ _ _⟩

/-- Settles O38: refusals leave the lines, accepted accesses do to a plain line what they say, only a throttled source's
activation takes time, and a region is written whole or refused. -/
theorem linesAreReadAndWritten : Obligations.LinesAreReadAndWritten := by
  intro s src addr len d data mask env a bytes
  have ho := fun src kind => onlyMemory_g6Access (s := s) src addr kind env
  refine ⟨fun r => ⟨fun h => ?_, fun h => ?_⟩, fun ch line l hp hq hv hb he hec hl => ?_,
    fun h => g6Writes_now src addr len d data mask env fun _ _ => g6Access_now h, ?_,
    fun r v => ⟨regionCtrlWrite_refused, regionCtrlWrite_done⟩⟩
  · exact ⟨_, exec_g6FullWrite _ _ _ _, refused_answer (g6Access_refused h) (ho _ _) rfl⟩
  · have hr := g6Access_refused (env := env) h
    exact ⟨_, exec_g6Read _ _ _ _, fun hne => refused_answer hr (ho _ _) (if_neg (hr.1 ▸ hne))⟩
  · have hplain : ∀ {src kind}, s.g6Refuse src a kind = none → PlainAccess s src addr ch line ⟨portOf ch, hq⟩ kind env :=
      fun hacc => ⟨hacc, hp, rfl, hv, hb, he, hec⟩
    refine ⟨fun hacc => ?_, fun hc => ⟨fun hacc => g6Read_clean (hplain hacc) hl hc, fun hmask hacc => ?_, fun hacc => ?_⟩,
      fun hue hmask hacc => g6PartialWrite_ue (q := ⟨portOf ch, hq⟩) (hplain hacc) hl hue hmask⟩
    · exact ⟨_, exec_g6FullWrite _ _ _ _, Stores.answer (hplain hacc).full (ho _ _)⟩
    · exact ⟨_, exec_g6PartialWrite _ _ _ _ hmask, Stores.answer
        ((hplain hacc).merge (f := fun o => mergeBytes o data mask.toNat) (kc := 1) (fun _ => rfl) hl hc) (ho _ _)⟩
    · exact ⟨_, exec_g6OrWrite _ _ _ _, Stores.answer
        ((hplain hacc).merge (f := fun o => o ||| data) (kc := 2) (fun _ => rfl) hl hc) (ho _ _)⟩
  · intro ch line bank row last q hp hq ha ht hw hl he hacc
    exact ⟨_, exec_g6FullWrite _ _ _ _, g6Access_now_of_throttled hacc hp hq ha ht hw hl he⟩

end Sys2Proof.Machine
end

section
/-! Sequential words, path words, STREAM (02_vector_sequencer.md R50 to R53, R56 to R61, R66, R71 to R73). -/
namespace Sys2Proof.Machine
variable {s : State} {g : Fin 24} {e : List Ecc} {l p : Loc} {w : PatWord} {next : Option Loc} {as : List Nat}
  {mine : PatWord → Bool} {f : State}

/-! ### The issue of a word whose path touches its group only -/

/-- A register that neither the length nor the vector period of a word rests on. -/
def LengthFree (g a : Nat) : Prop := a ≠ R.VSQ_GANG g ∧ ∀ n, a ≠ R.CH_TS_PERIOD g n

theorem lengthFree_shown {a : Nat} (ha : a ∈ [R.VSQ_STAT g, R.VSQ_SSTAT g, R.CH_CAUSE g]) : LengthFree g a := by
  simp only [List.mem_cons, List.not_mem_nil, or_false] at ha
  unfold LengthFree R.VSQ_GANG R.CH_TS_PERIOD
  rcases ha with rfl | rfl | rfl
  · exact ⟨by unfold R.VSQ_STAT; omega, fun n => by unfold R.VSQ_STAT; omega⟩
  · exact ⟨by unfold R.VSQ_SSTAT; omega, fun n => by unfold R.VSQ_SSTAT; omega⟩
  · exact ⟨by unfold R.CH_CAUSE; omega, fun n => by unfold R.CH_CAUSE; omega⟩

/-- A word that can be issued, whose path leaves the pipe, ball time and every register but some that its length does not
rest on, is issued (R37). -/
theorem CanIssue.issued_of_flow (h : CanIssue s g e l w) (hm : mine w = true)
    (hf : (s.at_ ((s.g g).nextBs - 40 * ns)).flow g l w = .inl f)
    (ho : OnlyGroup g (R.VSQ_STAT g :: R.VSQ_SSTAT g :: R.CH_CAUSE g :: as) s f) (ht : f.now = max s.now ((s.g g).nextBs - 40 * ns))
    (hp : (f.g g).pipe = (s.g g).pipe) (hn : (f.g g).nextBs = (s.g g).nextBs) (hpc : (f.g g).pc = next)
    (has : ∀ a ∈ as, LengthFree g a) : Issued s g l w next as (s.issue g e mine) := by
  have hfree : ∀ a, ¬ LengthFree g a → f.rd a = s.rd a := fun a hna =>
    ho.2.2 a fun hmem => hna (by
      simp only [List.mem_cons] at hmem
      rcases hmem with h1 | h1 | h1 | h1
      · exact lengthFree_shown (by simp [h1])
      · exact lengthFree_shown (by simp [h1])
      · exact lengthFree_shown (by simp [h1])
      · exact has a h1)
  rw [h.issue_eq mine hm hf]
  refine issued_pushWord hp hn hpc ht ho (period_congr fun n _ => hfree _ fun hl => hl.2 n rfl) (repsOf_congr (hfree _ fun hl => hl.1 rfl)) _ _

/-- A word whose path only names the next place. -/
theorem CanIssue.issued_of_setPc (h : CanIssue s g e l w) (hm : mine w = true)
    (hf : (s.at_ ((s.g g).nextBs - 40 * ns)).flow g l w = .inl ((s.at_ ((s.g g).nextBs - 40 * ns)).setPc g next)) :
    Issued s g l w next [] (s.issue g e mine) :=
  h.issued_of_flow hm hf (OnlyGroup.refl g _ s).at_.modG rfl (by simp [State.setPc]) (by simp [State.setPc])
    (by simp [State.setPc]) (by simp)

/-- What a word issued leaves of its group beside its place in the pipe is its path's. -/
theorem CanIssue.issue_g (h : CanIssue s g e l w) (hm : mine w = true)
    (hf : (s.at_ ((s.g g).nextBs - 40 * ns)).flow g l w = .inl f) :
    (s.issue g e mine).g g = f.pushed g l w (s.g g).inEsc ((s.g g).inEsc && !(f.g g).inEsc) (f.g g) := by
  rw [h.issue_eq mine hm hf, pushWord_g]

theorem opIs_self {n : Nat} (h : wordOpc w = n) : opIs n w = true := by simp [opIs, h]

theorem condState_at (s : State) (g : Fin 24) (c n : Nat) : (s.at_ n).condState g c = s.condState g c := (rfl)
theorem target_at (s : State) (g : Fin 24) (l : Loc) (n k : Nat) : (s.at_ n).target g l k = s.target g l k := (rfl)

/-! ### Words that go on at the next place -/

theorem flow_sequential (h : wordOpc w ∈ [0, 7, 8, 9, 0xA, 0xB, 0xE, 0xF]) : s.flow g l w = .inl (s.setPc g l.next) := by
  simp only [List.mem_cons, List.not_mem_nil, or_false] at h
  rcases h with h | h | h | h | h | h | h | h <;> simp only [State.flow, h]

theorem flow_jc_not_taken (ho : wordOpc w = 2) (hc : ¬ (condClass (wordCond w) = .state ∧ s.condState g (wordCond w) = true)) :
    s.flow g l w = .inl (s.setPc g l.next) := by simp only [State.flow, ho, if_neg hc]

theorem CanIssue.sequential (h : CanIssue s g e l w) (hm : mine w = true) (ho : wordOpc w ∈ [0, 7, 8, 9, 0xA, 0xB, 0xE, 0xF]) :
    Issued s g l w l.next [] (s.issue g e mine) := h.issued_of_setPc hm (flow_sequential ho)

/-- Settles O1: each of these words has the path that names the next place. -/
theorem sequentialWordsIssueInOrder : Obligations.SequentialWordsIssueInOrder := by
  intro s g e l w h
  refine ⟨fun ho => ⟨_, rfl, h.sequential (by simp [opIs, ho]) (by simp [ho])⟩,
    fun ho => ⟨_, rfl, h.sequential (opIs_self ho) (by simp [ho])⟩, fun ho => ⟨_, rfl, h.sequential (opIs_self ho) (by simp [ho])⟩,
    fun ho => ⟨_, rfl, h.sequential (opIs_self ho) (by simp [ho])⟩, fun ho => ⟨_, rfl, h.sequential (opIs_self ho) (by simp [ho])⟩,
    fun ho => ⟨_, rfl, h.sequential (opIs_self ho) (by simp [ho])⟩, fun ho => ⟨_, rfl, h.sequential (opIs_self ho) (by simp [ho])⟩,
    fun ho => ⟨_, rfl, h.sequential (opIs_self ho) (by simp [ho])⟩, fun ho hc => ⟨_, rfl, h.issued_of_setPc (opIs_self ho) ?_⟩⟩
  exact flow_jc_not_taken ho (by rwa [condState_at])

/-! ### Words that change the path -/

theorem flow_jmp (ho : wordOpc w = 1) (ht : s.target g l (bitsOf (wordArg w) 0 16) = .inl p) :
    s.flow g l w = .inl (s.setPc g (some p)) := by simp only [State.flow, ho, State.jumpTo, ht]

theorem flow_jc_taken (ho : wordOpc w = 2) (hc : condClass (wordCond w) = .state) (hs : s.condState g (wordCond w) = true)
    (ht : s.target g l (bitsOf (wordArg w) 0 16) = .inl p) : s.flow g l w = .inl (s.setPc g (some p)) := by
  simp only [State.flow, ho, hc, hs, and_self, if_true, State.jumpTo, ht]

/-- The machine once a CALL has stored its return place, or a RET has taken the place stored last. -/
def State.restack (s : State) (g : Fin 24) (st : List Ret) (esc : Bool) : State :=
  (s.modG g (fun x => { x with stack := st, inEsc := esc })).showDepth g

theorem restack_g (s : State) (g : Fin 24) (st : List Ret) (esc : Bool) :
    (s.restack g st esc).g g = { s.g g with stack := st, inEsc := esc } := by
  simp [State.restack, State.showDepth]

theorem target_restack (s : State) (g : Fin 24) (st : List Ret) (esc : Bool) (l : Loc) (n : Nat) :
    (s.restack g st esc).target g l n = s.target g l n := by
  simp only [State.target, restack_g]

theorem flow_call (ho : wordOpc w = 3) (hs : s.condState g (wordCond w) = true) (hl : (s.g g).stack.length < 16)
    (ht : s.target g l (bitsOf (wordArg w) 0 16) = .inl p) :
    s.flow g l w = .inl ((s.restack g (⟨l.next, false⟩ :: (s.g g).stack) (s.g g).inEsc).setPc g (some p)) := by
  have hn : ¬ 16 ≤ (s.g g).stack.length := by omega
  have hr : (s.modG g (fun x => { x with stack := ⟨l.next, false⟩ :: x.stack })).showDepth g =
      s.restack g (⟨l.next, false⟩ :: (s.g g).stack) (s.g g).inEsc := rfl
  simp only [State.flow, ho, State.flowCall, hs, if_true, hn, if_false, hr, State.jumpTo, target_restack, ht]

theorem flow_call_not_taken (ho : wordOpc w = 3) (hs : s.condState g (wordCond w) = false) :
    s.flow g l w = .inl (s.setPc g l.next) := by
  simp only [State.flow, ho, State.flowCall, hs, Bool.false_eq_true, if_false]

theorem flow_ret {esc : Bool} {rest : List Ret} (ho : wordOpc w = 4) (hs : s.condState g (wordCond w) = true)
    (hk : (s.g g).stack = ⟨some p, esc⟩ :: rest) :
    s.flow g l w = .inl ((s.restack g rest ((s.g g).inEsc && !esc)).setPc g (some p)) := by
  simp only [State.flow, ho, State.flowRet, hs, if_true, hk]
  rfl

theorem flow_ret_not_taken (ho : wordOpc w = 4) (hs : s.condState g (wordCond w) = false) :
    s.flow g l w = .inl (s.setPc g l.next) := by
  simp only [State.flow, ho, State.flowRet, hs, Bool.false_eq_true, if_false]

/-- A word whose path stores or takes a return place. -/
theorem CanIssue.issued_of_restack {st : List Ret} {esc : Bool} (h : CanIssue s g e l w) (hm : mine w = true)
    (hf : (s.at_ ((s.g g).nextBs - 40 * ns)).flow g l w =
      .inl (((s.at_ ((s.g g).nextBs - 40 * ns)).restack g st esc).setPc g (some p))) :
    Issued s g l w (some p) [] (s.issue g e mine) ∧ ((s.issue g e mine).g g).stack = st ∧
      ((s.issue g e mine).g g).inEsc = esc ∧
      (s.issue g e mine).fld (R.VSQ_STAT g) F.VSQ_STAT_DEPTH = st.length % 2 ^ F.VSQ_STAT_DEPTH.w := by
  refine ⟨h.issued_of_flow hm hf ?_ rfl ?_ ?_ ?_ (by simp), ?_, ?_, ?_⟩
  · exact ((OnlyGroup.refl g _ s).at_.modG.setF (by simp)).modG
  · simp [State.setPc, restack_g]
  · simp [State.setPc, restack_g]
  · simp [State.setPc]
  · rw [h.issue_g hm hf]; simp [State.setPc, restack_g, State.pushed]
  · rw [h.issue_g hm hf]; simp [State.setPc, restack_g, State.pushed]
  · rw [h.issue_eq mine hm hf, pushWord_fld _ _ _ _ _ _ _ _ (by simp [R.VSQ_STAT, R.VSQ_SSTAT, R.CH_CAUSE]) (.inr (by decide))]
    simp [State.setPc, State.restack, State.showDepth, State.setF_fld_same _ _ _ _ (show F.VSQ_STAT_DEPTH.lo + F.VSQ_STAT_DEPTH.w ≤ 32 by decide)]

/-- A word that leaves the call stack. -/
theorem CanIssue.issued_stack_of_setPc (h : CanIssue s g e l w) (hm : mine w = true)
    (hf : (s.at_ ((s.g g).nextBs - 40 * ns)).flow g l w = .inl ((s.at_ ((s.g g).nextBs - 40 * ns)).setPc g next)) :
    Issued s g l w next [] (s.issue g e mine) ∧ ((s.issue g e mine).g g).stack = (s.g g).stack :=
  ⟨h.issued_of_setPc hm hf, by rw [h.issue_g hm hf]; simp [State.setPc, State.pushed]⟩

/-- Settles O2: JMP and a taken JC name their target, CALL and RET change the stack on their path. -/
theorem pathWordsGoToTheirTargets : Obligations.PathWordsGoToTheirTargets := by
  intro s g e l p w h
  refine ⟨fun ho ht => ⟨_, rfl, h.issued_of_setPc (opIs_self ho) (flow_jmp ho ht)⟩,
    fun ho hc hs ht => ⟨_, rfl, h.issued_of_setPc (opIs_self ho) (flow_jc_taken ho hc hs ht)⟩, fun ho hs hl ht => ?_,
    fun ho hs => ⟨_, rfl, h.issued_stack_of_setPc (opIs_self ho) (flow_call_not_taken ho hs)⟩, fun esc rest ho hs hk => ?_,
    fun ho hs => ⟨_, rfl, h.issued_stack_of_setPc (opIs_self ho) (flow_ret_not_taken ho hs)⟩⟩
  · obtain ⟨hi, hst, -, hd⟩ := h.issued_of_restack (st := ⟨l.next, false⟩ :: (s.g g).stack) (opIs_self ho)
      (flow_call ho hs hl ht)
    refine ⟨_, rfl, hi, hst, hd.trans ?_⟩
    rw [List.length_cons]
    exact Nat.mod_eq_of_lt (show _ < 32 by omega)
  · obtain ⟨hi, hst, he, -⟩ := h.issued_of_restack (esc := (s.g g).inEsc && !esc) (opIs_self ho) (flow_ret ho hs hk)
    refine ⟨_, rfl, hi, hst, ?_⟩
    rw [he]
    simp

/-! ### STREAM -/

theorem flow_stream (ho : wordOpc w = 0xD) : s.flow g l w = s.flowStream g l (wordArg w) := by simp only [State.flow, ho]

theorem streamIs_self {n : Nat} (ho : wordOpc w = 0xD) (hn : bitsOf (wordArg w) 22 2 = n) : streamIs n w = true := by
  simp [streamIs, ho, hn]

/-- ENTER and EXIT: the program is in STREAM mode, or not, and goes on at a place. -/
theorem CanIssue.issued_of_smode {b : Bool} (h : CanIssue s g e l w) (hm : mine w = true)
    (hf : (s.at_ ((s.g g).nextBs - 40 * ns)).flow g l w =
      .inl (((s.at_ ((s.g g).nextBs - 40 * ns)).modG g (fun x => { x with smode := b })).setPc g (some p))) :
    Issued s g l w (some p) [] (s.issue g e mine) ∧ ((s.issue g e mine).g g).smode = b :=
  ⟨h.issued_of_flow hm hf (OnlyGroup.refl g _ s).at_.modG.modG rfl (by simp [State.setPc]) (by simp [State.setPc])
    (by simp [State.setPc]) (by simp), by rw [h.issue_g hm hf]; simp [State.setPc, State.pushed]⟩

/-- The base of the stream in its two registers. -/
theorem rdPair_wrPair {lo hi v : Nat} (h : lo ≠ hi) (hv : v < 2 ^ 64) : (s.wrPair lo hi v).rdPair lo hi = v := by
  unfold State.wrPair State.rdPair
  rw [State.wr_rd_same, State.wr_rd_other _ _ _ _ h, State.wr_rd_same, BitVec.toNat_ofNat, BitVec.toNat_ofNat]
  omega

theorem flow_arm (ho : wordOpc w = 0xD) (hn : bitsOf (wordArg w) 22 2 = 2) : s.flow g l w =
    .inl (((s.wrPair (R.VSQ_SBASE_LO g) (R.VSQ_SBASE_HI g) (32 * s.gr g (wordArg w % 4))).streamArm g).setPc g l.next) := by
  simp only [flow_stream ho, State.flowStream, hn]

/-- ARM: the stream's base is stored, and its window is empty (R73). -/
theorem CanIssue.issued_of_arm (h : CanIssue s g e l w) (ho : wordOpc w = 0xD) (hn : bitsOf (wordArg w) 22 2 = 2)
    (hm : mine w = true) : Issued s g l w l.next [R.VSQ_SBASE_LO g, R.VSQ_SBASE_HI g] (s.issue g e mine) ∧
      (s.issue g e mine).rdPair (R.VSQ_SBASE_LO g) (R.VSQ_SBASE_HI g) = 32 * s.gr g (wordArg w % 4) ∧
      ((s.issue g e mine).g g).sArmed = true ∧ ((s.issue g e mine).g g).sF = 0 ∧ ((s.issue g e mine).g g).sWin = [] ∧
      ((s.issue g e mine).g g).sH1 = 0 := by
  have hf := flow_arm (s := s.at_ ((s.g g).nextBs - 40 * ns)) (g := g) (l := l) ho hn
  have hne : ∀ a ∈ [R.VSQ_SBASE_LO g, R.VSQ_SBASE_HI g], LengthFree g a ∧ a ∉ [R.VSQ_STAT g, R.VSQ_SSTAT g, R.CH_CAUSE g] := by
    intro a ha
    simp only [List.mem_cons, List.not_mem_nil, or_false] at ha
    rcases ha with rfl | rfl <;>
    · simp only [LengthFree, R.VSQ_SBASE_LO, R.VSQ_SBASE_HI, R.VSQ_GANG, R.CH_TS_PERIOD, R.VSQ_STAT, R.VSQ_SSTAT, R.CH_CAUSE,
        List.mem_cons, List.not_mem_nil, or_false]
      exact ⟨⟨by omega, fun n => by omega⟩, by omega⟩
  refine ⟨h.issued_of_flow hm hf ?_ rfl ?_ ?_ ?_ fun a ha => (hne a ha).1, ?_, ?_⟩
  · exact (((((OnlyGroup.refl g _ s).at_.wr (by simp)).wr (by simp)).modG.setF (by simp)).setF (by simp)).modG
  · simp [State.setPc, State.streamArm, State.showStream, State.setB_eq, State.wrPair]
  · simp [State.setPc, State.streamArm, State.showStream, State.setB_eq, State.wrPair]
  · simp [State.setPc]
  · rw [State.rdPair, h.issue_eq mine hm hf, pushWord_rd _ _ _ _ _ _ _ (hne _ (by simp)).2,
      pushWord_rd _ _ _ _ _ _ _ (hne _ (by simp)).2]
    have hr : ∀ (u : State) a, a ≠ R.VSQ_SSTAT g → ((u.streamArm g).setPc g l.next).rd a = u.rd a := fun u a ha => by
      simp [State.setPc, State.streamArm, State.showStream, State.setB_eq, State.setF_rd_other, ha]
    rw [hr _ _ (by simp [R.VSQ_SBASE_LO, R.VSQ_SSTAT]), hr _ _ (by simp [R.VSQ_SBASE_HI, R.VSQ_SSTAT])]
    exact rdPair_wrPair (by simp [R.VSQ_SBASE_LO, R.VSQ_SBASE_HI])
      (by have : s.gr g (wordArg w % 4) < 2 ^ 32 := BitVec.isLt _
          show 32 * s.gr g (wordArg w % 4) < _
          omega)
  · rw [h.issue_g hm hf]
    simp [State.setPc, State.streamArm, State.showStream, State.setB_eq, State.wrPair, State.pushed, ho, hn]

/-- Settles O4: the three operations of STREAM on their paths. -/
theorem streamWordsEnterExitAndArm : Obligations.StreamWordsEnterExitAndArm := by
  intro s g e l w h ho
  refine ⟨fun hn => ⟨_, rfl, h.issued_of_smode (streamIs_self ho hn) ?_⟩,
    fun hn => ⟨_, rfl, h.issued_of_smode (streamIs_self ho hn) ?_⟩, fun hn => ⟨_, rfl, h.issued_of_arm ho hn ?_⟩⟩
  · simp only [flow_stream ho, State.flowStream, hn]
  · simp only [flow_stream ho, State.flowStream, hn]
  · simp [streamIs_self ho hn]

end Sys2Proof.Machine
end

section
/-! Run control of a sequencer: START, the armed start, ABORT, RESUME (02_vector_sequencer.md R58, R81 to R84, R88). -/
namespace Sys2Proof.Machine
variable {s t u : State} {g : Fin 24}

/-! ### What START does to the units of its group (R81; 03 R113; 05 R169, R185, R190) -/

/-- A register of the group's fail capture unit or pattern generator. -/
def UnitReg (g a : Nat) : Prop :=
  (fcuBase g ≤ a ∧ a < fcuBase g + 0x400000) ∨ (vsqBase g + 0x10000 ≤ a ∧ a < vsqBase g + 0x20000)

theorem unitReg_fcu {g o : Nat} (ho : o < 0x400000) : UnitReg g (fcuBase g + o) := .inl (by omega)
theorem unitReg_apg {g o : Nat} (ho : 0x10000 ≤ o ∧ o < 0x20000) : UnitReg g (vsqBase g + o) := .inr (by omega)

/-- No register of a sequencer is one. -/
theorem not_unitReg_vsq {g o : Nat} (ho : o < 0x10000) : ¬ UnitReg g (vsqBase g + o) := by
  unfold UnitReg fcuBase vsqBase dieBase
  omega

theorem not_unitReg_cfg {g d o : Nat} (ho : o < 0x8000) : ¬ UnitReg g (cfgBase d + o) := by
  unfold UnitReg fcuBase vsqBase cfgBase dieBase
  omega

/-- Only the group's fail capture unit and pattern generator differ, and what its die counts by site; not its program. -/
structure UnitsOnly (g : Fin 24) (s t : State) : Prop where
  frame : t = { s with regs := t.regs, grp := t.grp, cap := t.cap }
  others : ∀ k, k ≠ g → t.g k = s.g k
  regs : ∀ a, ¬ UnitReg g a → t.rd a = s.rd a
  vcnt : (t.g g).vcnt = (s.g g).vcnt
  pipe : (t.g g).pipe = (s.g g).pipe
  stack : (t.g g).stack = (s.g g).stack
  run : (t.g g).run = (s.g g).run

namespace UnitsOnly

theorem refl (s : State) : UnitsOnly g s s := ⟨rfl, fun _ _ => rfl, fun _ _ => rfl, rfl, rfl, rfl, rfl⟩

theorem wr {a : Nat} {v : Word} (h : UnitsOnly g s t) (ha : UnitReg g a) : UnitsOnly g s (t.wr a v) :=
  ⟨by rw [State.wr, h.frame], h.others, fun b hb => by
    rw [State.wr_rd_other _ _ _ _ (fun e => hb (by rw [e]; exact ha)), h.regs b hb], h.vcnt, h.pipe, h.stack, h.run⟩

theorem setF {a x : Nat} {f : Fld} (h : UnitsOnly g s t) (ha : UnitReg g a) : UnitsOnly g s (t.setF a f x) := h.wr ha

theorem setFcu {o x : Nat} {f : Fld} (h : UnitsOnly g s t) (ho : o < 0x400000) : UnitsOnly g s (t.setF (fcuBase g + o) f x) :=
  h.wr (unitReg_fcu ho)

theorem modC {d : Fin 6} {f : Capture → Capture} (h : UnitsOnly g s t) : UnitsOnly g s (t.modC d f) :=
  ⟨by rw [State.modC, State.setC, h.frame], h.others, h.regs, h.vcnt, h.pipe, h.stack, h.run⟩

theorem modG {f : Group → Group} (h : UnitsOnly g s t) (hf : ∀ x, (f x).vcnt = x.vcnt ∧ (f x).pipe = x.pipe ∧
    (f x).stack = x.stack ∧ (f x).run = x.run) : UnitsOnly g s (t.modG g f) := by
  obtain ⟨hv, hp, hs, hr⟩ := hf (t.g g)
  refine ⟨by rw [State.modG, State.setG, h.frame], fun k hk => ?_, h.regs, ?_, ?_, ?_, ?_⟩
  · rw [State.modG_g_other _ _ _ _ hk, h.others k hk]
  · rw [State.modG_g_same, hv, h.vcnt]
  · rw [State.modG_g_same, hp, h.pipe]
  · rw [State.modG_g_same, hs, h.stack]
  · rw [State.modG_g_same, hr, h.run]

theorem ite {c : Prop} [Decidable c] (h : UnitsOnly g s t) (k : UnitsOnly g s u) : UnitsOnly g s (if c then t else u) := by
  split
  · exact h
  · exact k

theorem forEach {α : Type} {l : List α} {f : α → State → State} (hf : ∀ a u, UnitsOnly g s u → UnitsOnly g s (f a u))
    (h : UnitsOnly g s t) : UnitsOnly g s (forEach l f t) := by
  unfold Sys2Proof.forEach
  induction l generalizing t with
  | nil => exact h
  | cons a l ih => exact ih (hf a t h)

theorem setCnt {i : Nat} {c : Counter} (h : UnitsOnly g s t) : UnitsOnly g s (t.setCnt g i c) :=
  h.modG fun _ => ⟨rfl, rfl, rfl, rfl⟩

theorem setSite {d : Fin 6} {i : Nat} {c : Counter} (h : UnitsOnly g s t) : UnitsOnly g s (t.setSite d i c) := h.modC

theorem cntCauses {old new : Counter} (h : UnitsOnly g s t) : UnitsOnly g s (t.cntCauses g old new) := by
  have hc : ∀ f u, UnitsOnly g s u → UnitsOnly g s (u.raise (R.FCU_CAUSE g) f) := fun _ _ hu => hu.setFcu (by decide)
  unfold State.cntCauses
  have h1 := (hc F.FCU_CAUSE_CSAT t h).ite (c := (new.sat && !old.sat) = true) h
  exact (hc _ _ h1).ite h1

theorem cntUpdate {i n : Nat} {bad : Bool} (h : UnitsOnly g s t) : UnitsOnly g s (t.cntUpdate g i n bad) := h.setCnt.cntCauses

theorem spoilAncestors {p : Nat} (h : UnitsOnly g s t) : UnitsOnly g s (t.spoilAncestors g p) := by
  have hs : UnitsOnly g s (t.cntSpoil g 32) := h.setCnt.cntCauses
  unfold State.spoilAncestors
  dsimp only
  split
  · exact hs
  · exact hs.setSite

theorem applyInc {v : CntInc} (h : UnitsOnly g s t) : UnitsOnly g s (t.applyInc g v) := by
  unfold State.applyInc
  dsimp only
  refine UnitsOnly.forEach (fun _ _ hu => hu.setSite) (.ite ?_ (.cntUpdate ?_)) <;>
    exact h.forEach fun _ _ hu => hu.cntUpdate.spoilAncestors.ite hu.cntUpdate

theorem settleCnt {n : Nat} (h : UnitsOnly g s t) : UnitsOnly g s (t.settleCnt g n) :=
  UnitsOnly.forEach (fun _ _ hu => hu.applyInc) (h.modG fun _ => ⟨rfl, rfl, rfl, rfl⟩)

theorem clearCounters (h : UnitsOnly g s t) : UnitsOnly g s (t.clearCounters g) :=
  h.settleCnt.modG fun _ => ⟨rfl, rfl, rfl, rfl⟩

theorem wrApg {a : Nat} {v : Word} (o : Nat) (h : UnitsOnly g s t) (ha : a = vsqBase g + o) (ho : 0x10000 ≤ o ∧ o < 0x20000) :
    UnitsOnly g s (t.wr a v) := h.wr (ha ▸ unitReg_apg ho)

theorem apgStart (h : UnitsOnly g s t) : UnitsOnly g s (t.apgStart g) := by
  unfold State.apgStart
  refine UnitsOnly.modG (wrApg 0x10074 (wrApg 0x10070 (wrApg 0x10030 (wrApg 0x10010 h rfl ?_) rfl ?_) rfl ?_) rfl ?_)
    fun _ => ⟨rfl, rfl, rfl, rfl⟩ <;> omega

theorem misr {m v : Nat} (hm : m < 2) (h : UnitsOnly g s t) :
    UnitsOnly g s (t.wrPair (R.FCU_MISR_LO g m) (R.FCU_MISR_HI g m) v) := by
  refine (h.wr ?_).wr ?_
  · rw [R.FCU_MISR_LO, Nat.add_assoc]; exact unitReg_fcu (by omega)
  · rw [R.FCU_MISR_HI, Nat.add_assoc]; exact unitReg_fcu (by omega)

theorem startUnits (h : UnitsOnly g s t) : UnitsOnly g s (t.startUnits g) := by
  have hc : UnitsOnly g s (if t.flag (R.FCU_CTRL g) F.FCU_CTRL_CLRSTART then t.clearCounters g else t) := .ite h.clearCounters h
  have hm := (hc.misr (m := 0) (v := ones64) (by decide)).misr (m := 1) (v := ones64) (by decide)
  have hs : ∀ {f x u}, UnitsOnly g s u → UnitsOnly g s (u.setF (R.FCU_STAT g) f x) := fun hu => hu.setFcu (by decide)
  exact ((hs (hs (hs (hs (hs (hs hm)))))).wr (unitReg_fcu (by decide))).wr (unitReg_fcu (by decide)) |>.apgStart

theorem field {α : Type} {f : State → α} (h : UnitsOnly g s t)
    (hf : ∀ (x : State) r p c, f { x with regs := r, grp := p, cap := c } = f x) : f t = f s := by rw [h.frame, hf]

end UnitsOnly

/-! ### START (R81 to R83) -/

theorem startIgnored_setCtrl (g : Fin 24) (m n : Nat) :
    (s.setF (R.VSQ_CTRL g) F.VSQ_CTRL_SMODE m).startIgnored g n = s.startIgnored g n := by
  have hr : ∀ a ∈ [R.VSQ_STAT g, R.CH_GCTRL g, R.CH_GSTAT g, R.BIST_HOLD_LO (g.val / 4), R.BIST_HOLD_HI (g.val / 4), R.TSY_STAT,
      R.PT_STAT, R.VSQ_START_PT_LO g, R.VSQ_START_PT_HI g], a ≠ R.VSQ_CTRL g := by
    simp only [List.mem_cons, List.not_mem_nil, or_false, forall_eq_or_imp, forall_eq]
    unfold R.VSQ_STAT R.CH_GCTRL R.CH_GSTAT R.BIST_HOLD_LO R.BIST_HOLD_HI R.TSY_STAT R.PT_STAT R.VSQ_START_PT_LO
      R.VSQ_START_PT_HI R.VSQ_CTRL vsqBase bistBase tsyBase ptBase packageBase dieBase
    omega
  simp only [List.mem_cons, List.not_mem_nil, or_false, forall_eq_or_imp, forall_eq] at hr
  obtain ⟨h1, h2, h3, h4, h5, h6, h7, h8, h9⟩ := hr
  simp only [State.startIgnored, State.active, State.vstat, State.flag, State.groupHeld, State.bistHeld, State.aligned,
    State.startPt, State.ptime, State.rdPair, State.fld, State.setF_now, State.setF_rd_other _ _ _ _ _ h1,
    State.setF_rd_other _ _ _ _ _ h2, State.setF_rd_other _ _ _ _ _ h3, State.setF_rd_other _ _ _ _ _ h4,
    State.setF_rd_other _ _ _ _ _ h5, State.setF_rd_other _ _ _ _ _ h6, State.setF_rd_other _ _ _ _ _ h7,
    State.setF_rd_other _ _ _ _ _ h8, State.setF_rd_other _ _ _ _ _ h9]
  rfl

/-- Whether the fabric under a group is fenced rests on the configuration alone (11 R391, R399). -/
theorem fdFenced_congr (hc : t.cfgUp = s.cfgUp) (hf : t.fab = s.fab) (hr : ∀ d, t.rd (R.CFG_MDFENCE d) = s.rd (R.CFG_MDFENCE d)) :
    t.fdFenced g = s.fdFenced g := by
  simp only [State.fdFenced, State.regionFenced, State.meadowOf, State.meadow, State.fabric, State.mdFenced, hc, hf, hr]

/-- The registers that START clears or sets before its units. -/
def startRegs (g : Nat) : List Nat := [R.VSQ_CTRL g, R.VSQ_FAULT g, R.VSQ_STAT g, R.CH_FUNDER_CNT g, R.CH_GSTAT g]

theorem OnlyGroup.trans {as : List Nat} (h : OnlyGroup g as s t) (k : OnlyGroup g as t u) : OnlyGroup g as s u := by
  obtain ⟨hf, ho, hr⟩ := h
  obtain ⟨kf, ko, kr⟩ := k
  exact ⟨by rw [kf, hf], fun n hn => (ko n hn).trans (ho n hn), hr.trans kr⟩

theorem startClear_after_fault :
    OnlyGroup g [R.VSQ_STAT g, R.CH_FUNDER_CNT g, R.CH_GSTAT g] (s.wr (R.VSQ_FAULT g) 0) (s.startClear g) := by
  have hs : ∀ {f x u}, OnlyGroup g [R.VSQ_STAT g, R.CH_FUNDER_CNT g, R.CH_GSTAT g] (s.wr (R.VSQ_FAULT g) 0) u →
      OnlyGroup g [R.VSQ_STAT g, R.CH_FUNDER_CNT g, R.CH_GSTAT g] (s.wr (R.VSQ_FAULT g) 0) (u.setF (R.VSQ_STAT g) f x) :=
    fun h => h.setF (by simp)
  exact hs ((((hs (hs (hs (OnlyGroup.refl g _ _)))).wr (by simp)).modG.setF (by simp)).modG)

theorem onlyGroup_startClear : OnlyGroup g (startRegs g) s (s.startClear g) :=
  ((OnlyGroup.refl g _ s).wr (a := R.VSQ_FAULT g) (v := 0) (by simp [startRegs])).trans
    (startClear_after_fault.mono fun a ha => by simp [startRegs] at ha ⊢; omega)

theorem startClear_fault : (s.startClear g).rd (R.VSQ_FAULT g) = 0 := by
  obtain ⟨-, -, hr⟩ := startClear_after_fault (s := s) (g := g)
  rw [hr _ (by simp [R.VSQ_FAULT, R.VSQ_STAT, R.CH_FUNDER_CNT, R.CH_GSTAT]), State.wr_rd_same]

/-- What START clears of the group itself. -/
theorem startClear_group : ((s.startClear g).g g).vcnt = 0 ∧ ((s.startClear g).g g).pipe = [] ∧
    ((s.startClear g).g g).stack = [] ∧ ((s.startClear g).g g).run = (s.g g).run := by
  unfold State.startClear State.showDepth State.emptyFd State.showFd
  simp only [State.setB_eq, State.setF_g_eq, State.modG_g_same, State.wr_g_eq, and_self]

theorem startClear_now : (s.startClear g).now = s.now := by
  unfold State.startClear State.showDepth State.emptyFd State.showFd
  simp only [State.setB_eq, State.setF_now, State.modG_now, State.wr_now]

/-- A machine in which START has cleared what it clears: all but the group and its units is as before. -/
structure StartCleared (g : Fin 24) (s t : State) : Prop where
  frame : t = { s with regs := t.regs, grp := t.grp, cap := t.cap }
  others : ∀ k, k ≠ g → t.g k = s.g k
  regs : ∀ a, a ∉ startRegs g → ¬ UnitReg g a → t.rd a = s.rd a
  fault : t.rd (R.VSQ_FAULT g) = 0
  vcnt : (t.g g).vcnt = 0
  pipe : (t.g g).pipe = []
  stack : (t.g g).stack = []
  run : (t.g g).run = (s.g g).run

def State.startCleared (s : State) (g : Fin 24) (m : BitVec 2) : State :=
  ((s.setF (R.VSQ_CTRL g) F.VSQ_CTRL_SMODE m.toNat).startClear g).startUnits g

theorem UnitsOnly.frame_from (h : UnitsOnly g t u) (hf : t = { s with now := t.now, regs := t.regs, grp := t.grp })
    (hn : t.now = s.now) : u = { s with regs := u.regs, grp := u.grp, cap := u.cap } := by
  rw [hn] at hf
  rw [h.frame, hf]

theorem startCleared_cleared (m : BitVec 2) : StartCleared g s (s.startCleared g m) := by
  have hu : UnitsOnly g ((s.setF (R.VSQ_CTRL g) F.VSQ_CTRL_SMODE m.toNat).startClear g) (s.startCleared g m) :=
    (UnitsOnly.refl _).startUnits
  obtain ⟨hf, ho, hr⟩ := ((OnlyGroup.refl g (startRegs g) s).setF (a := R.VSQ_CTRL g) (f := F.VSQ_CTRL_SMODE)
    (x := m.toNat) (by simp [startRegs])).trans onlyGroup_startClear
  generalize hx : s.setF (R.VSQ_CTRL g) F.VSQ_CTRL_SMODE m.toNat = x at *
  have hg : x.g g = s.g g := by rw [← hx, State.setF_g_eq]
  have hn : x.now = s.now := by rw [← hx, State.setF_now]
  obtain ⟨hv, hp, hs, hr'⟩ := startClear_group (s := x) (g := g)
  have hft : (s.startCleared g m).rd (R.VSQ_FAULT g) = 0 := (hu.regs _ (not_unitReg_vsq (by decide))).trans startClear_fault
  exact ⟨hu.frame_from hf (startClear_now.trans hn), fun k hk => (hu.others k hk).trans (ho k hk),
    fun a ha hb => (hu.regs a hb).trans (hr a ha), hft, hu.vcnt.trans hv, hu.pipe.trans hp, hu.stack.trans hs,
    by rw [hu.run, hr', hg]⟩

namespace StartCleared

theorem gangEn (h : StartCleared g s t) : t.gangEn g = s.gangEn g := by
  unfold State.gangEn State.flag State.fld
  rw [h.regs (R.VSQ_GANG g) (by simp [startRegs, R.VSQ_GANG, R.VSQ_CTRL, R.VSQ_FAULT, R.VSQ_STAT, R.CH_FUNDER_CNT, R.CH_GSTAT])
    (not_unitReg_vsq (by decide))]

theorem entry (h : StartCleared g s t) : t.rd (R.VSQ_ENTRY g) = s.rd (R.VSQ_ENTRY g) :=
  h.regs _ (by simp [startRegs, R.VSQ_ENTRY, R.VSQ_CTRL, R.VSQ_FAULT, R.VSQ_STAT, R.CH_FUNDER_CNT, R.CH_GSTAT])
    (not_unitReg_vsq (by decide))

theorem fdFenced (h : StartCleared g s t) : t.fdFenced g = s.fdFenced g := by
  refine fdFenced_congr (by rw [h.frame]) (by rw [h.frame]) fun d => h.regs _ ?_ (not_unitReg_cfg (by decide))
  simp only [startRegs, List.mem_cons, List.not_mem_nil, or_false, R.VSQ_CTRL, R.VSQ_FAULT, R.VSQ_STAT, R.CH_FUNDER_CNT,
    R.CH_GSTAT, R.CFG_MDFENCE, cfgBase, vsqBase, dieBase]
  omega

theorem now (h : StartCleared g s t) : t.now = s.now := by rw [h.frame]
theorem lines (h : StartCleared g s t) : t.lines = s.lines := by rw [h.frame]

end StartCleared

theorem exec_vsqStart_of_ignored {m : BitVec 2} (h : s.startIgnored g m.toNat = true) :
    exec (.vsqStart g m) s = .next ((s.setF (R.VSQ_CTRL g) F.VSQ_CTRL_SMODE m.toNat).vsqCmdErr g) := by
  show execVsqStart g m s = _
  unfold execVsqStart
  dsimp only
  rw [startIgnored_setCtrl, if_pos h]

theorem ownGcfg_of_alone (h : s.gangEn g = false) : s.ownGcfg g = s := by simp [State.ownGcfg, h]
theorem announce_of_alone (h : s.gangEn g = false) : s.announce g = s := by simp [State.announce, h]

theorem gangEn_setStat (f : Fld) (n : Nat) : (s.setF (R.VSQ_STAT g) f n).gangEn g = s.gangEn g := by
  unfold State.gangEn State.flag State.fld
  rw [State.setF_rd_other _ _ _ _ _ (by unfold R.VSQ_GANG R.VSQ_STAT; omega)]

theorem gangEn_beginRun (n : Nat) : (s.beginRun g n).gangEn g = s.gangEn g := by
  unfold State.beginRun State.gangEn
  simp only [State.modG_flag]
  exact gangEn_setStat F.VSQ_STAT_STATE 2

/-- START of a group in no gang: the run begins, or the group is ARMED. -/
theorem exec_vsqStart_of_accepted {m : BitVec 2} (hi : s.startIgnored g m.toNat = false) (hg : s.gangEn g = false)
    (hf : s.fdFenced g = false) : exec (.vsqStart g m) s = .next (if m.toNat = 1 then
      (s.startCleared g m).setF (R.VSQ_STAT g) F.VSQ_STAT_STATE 1
      else (s.startCleared g m).beginRun g ((s.now / ns + 1) * ns)) := by
  have hc := startCleared_cleared (s := s) (g := g) m
  have ha : (s.startCleared g m).gangEn g = false := hc.gangEn.trans hg
  have hsplit : (s.startCleared g m).gangSplit g = false := by simp [State.gangSplit, ha]
  have hsrc : (s.startCleared g m).srcBad g = false := by simp [State.srcBad, hc.fdFenced, hf]
  have hc0 : ((s.setF (R.VSQ_CTRL g) F.VSQ_CTRL_SMODE m.toNat).startClear g).startUnits g = s.startCleared g m := rfl
  have hx : (if m.toNat = 1 then (s.startCleared g m).setF (R.VSQ_STAT g) F.VSQ_STAT_STATE 1
      else (s.startCleared g m).beginRun g ((s.now / ns + 1) * ns)).gangEn g = false := by
    split
    · exact (gangEn_setStat _ _).trans ha
    · exact (gangEn_beginRun _).trans ha
  show execVsqStart g m s = _
  unfold execVsqStart
  dsimp only
  rw [startIgnored_setCtrl, hi, hc0, hsplit, hsrc, announce_of_alone ha, hc.now, ownGcfg_of_alone hx]
  simp only [Bool.false_eq_true, if_false]

theorem vstat_setStat {n : Nat} (hn : n < 8) : (s.setF (R.VSQ_STAT g) F.VSQ_STAT_STATE n).vstat g = n := by
  rw [State.vstat, State.setF_fld_same _ _ _ _ (by decide)]
  exact Nat.mod_eq_of_lt hn

theorem onlyGroup_beginRun {as : List Nat} (n : Nat) (h : OnlyGroup g as s t) (hs : R.VSQ_STAT g ∈ as) :
    OnlyGroup g as s (t.beginRun g n) := by
  unfold State.beginRun
  exact OnlyGroup.modG (h.setF hs)

theorem vstat_beginRun (n : Nat) : (s.beginRun g n).vstat g = 2 := by
  unfold State.vstat State.beginRun
  dsimp only
  rw [State.modG_fld]
  exact vstat_setStat (n := 2) (by decide)

theorem beginRun_lines (n : Nat) : (s.beginRun g n).lines = s.lines := by
  unfold State.beginRun
  dsimp only
  rw [State.modG_lines, State.setF_lines]

theorem beginRun_now (n : Nat) : (s.beginRun g n).now = s.now := by
  unfold State.beginRun
  dsimp only
  rw [State.modG_now, State.setF_now]

/-- What the run's start leaves of its group (R37, R82). -/
theorem beginRun_group (n : Nat) : ((s.beginRun g n).g g).run = (s.g g).run + 1 ∧ ((s.beginRun g n).g g).issue0 = n ∧
    ((s.beginRun g n).g g).nextBs = n + 40 * ns ∧
    ((s.beginRun g n).g g).pc = some ⟨false, s.fld (R.VSQ_ENTRY g) F.VSQ_ENTRY_ADDR⟩ ∧
    ((s.beginRun g n).g g).vcnt = (s.g g).vcnt ∧ ((s.beginRun g n).g g).pipe = (s.g g).pipe ∧
    ((s.beginRun g n).g g).stack = (s.g g).stack := by
  have he : R.VSQ_ENTRY g ≠ R.VSQ_STAT g := by unfold R.VSQ_ENTRY R.VSQ_STAT; omega
  unfold State.beginRun
  dsimp only
  rw [State.modG_g_same, State.setF_g_eq, State.fld, State.setF_rd_other _ _ _ _ _ he]
  exact ⟨rfl, rfl, rfl, rfl, rfl, rfl, rfl⟩

theorem start_ignored (m : BitVec 2) (h : s.startIgnored g m.toNat = true) : After (.vsqStart g m) s (fun t =>
    OnlyRegs [R.VSQ_CTRL g, R.VSQ_CAUSE g] s t ∧ t.flag (R.VSQ_CAUSE g) F.VSQ_CAUSE_CMDERR = true ∧ t.vstat g = s.vstat g) := by
  refine ⟨_, exec_vsqStart_of_ignored h, ((OnlyRegs.refl _ s).setF (by simp)).setF (by simp), ?_, ?_⟩
  · rw [State.vsqCmdErr, State.raise, State.flag, State.setF_fld_same _ _ _ _ (by decide)]
    rfl
  · unfold State.vstat State.fld
    rw [State.vsqCmdErr, State.raise, State.setF_rd_other _ _ _ _ _ (by unfold R.VSQ_STAT R.VSQ_CAUSE; omega),
      State.setF_rd_other _ _ _ _ _ (by unfold R.VSQ_STAT R.VSQ_CTRL; omega)]

theorem start_begins (hi : s.startIgnored g 0 = false) (hg : s.gangEn g = false) (hf : s.fdFenced g = false) :
    After (.vsqStart g 0) s (fun t =>
      t.vstat g = 2 ∧ (t.g g).pc = some ⟨false, s.fld (R.VSQ_ENTRY g) F.VSQ_ENTRY_ADDR⟩ ∧ (t.g g).run = (s.g g).run + 1 ∧
      (t.g g).issue0 = (s.now / ns + 1) * ns ∧ (t.g g).nextBs = (s.now / ns + 1) * ns + 40 * ns ∧ (t.g g).vcnt = 0 ∧
      (t.g g).pipe = [] ∧ (t.g g).stack = [] ∧ t.rd (R.VSQ_FAULT g) = 0 ∧ (∀ k, k ≠ g → t.g k = s.g k) ∧
      t.lines = s.lines) := by
  have hc := startCleared_cleared (s := s) (g := g) 0
  have he := exec_vsqStart_of_accepted (m := 0) hi hg hf
  rw [if_neg (by decide)] at he
  generalize s.startCleared g 0 = u at hc he
  obtain ⟨hrun, hiss, hbs, hpc, hvc, hpipe, hst⟩ := beginRun_group (s := u) (g := g) ((s.now / ns + 1) * ns)
  obtain ⟨-, ho, hr⟩ := onlyGroup_beginRun ((s.now / ns + 1) * ns) (OnlyGroup.refl g [R.VSQ_STAT g] u) (by simp)
  have hft : R.VSQ_FAULT g ∉ [R.VSQ_STAT g] := by simp [R.VSQ_FAULT, R.VSQ_STAT]
  refine ⟨_, he, vstat_beginRun _, ?_, hrun.trans (by rw [hc.run]), hiss, hbs, hvc.trans hc.vcnt, hpipe.trans hc.pipe,
    hst.trans hc.stack, (hr _ hft).trans hc.fault, fun k hk => (ho k hk).trans (hc.others k hk), ?_⟩
  · rw [hpc, State.fld, hc.entry, State.fld]
  · exact (beginRun_lines _).trans hc.lines

theorem start_arms (hi : s.startIgnored g 1 = false) (hg : s.gangEn g = false) (hf : s.fdFenced g = false) :
    After (.vsqStart g 1) s (fun t =>
      t.vstat g = 1 ∧ (t.g g).vcnt = 0 ∧ (t.g g).run = (s.g g).run ∧ t.rd (R.VSQ_FAULT g) = 0 ∧
      (∀ k, k ≠ g → t.g k = s.g k) ∧ t.lines = s.lines) := by
  have hc := startCleared_cleared (s := s) (g := g) 1
  have he := exec_vsqStart_of_accepted (m := 1) hi hg hf
  rw [if_pos (by decide)] at he
  generalize s.startCleared g 1 = u at hc he
  refine ⟨_, he, vstat_setStat (by decide), ?_, ?_, ?_, fun k hk => ?_, ?_⟩
  · rw [State.setF_g_eq, hc.vcnt]
  · rw [State.setF_g_eq, hc.run]
  · rw [State.setF_rd_other _ _ _ _ _ (by unfold R.VSQ_FAULT R.VSQ_STAT; omega), hc.fault]
  · rw [State.setF_g_eq, hc.others k hk]
  · rw [State.setF_lines, hc.lines]

/-! ### The armed start, ABORT and RESUME (R58, R82, R84, R88) -/

theorem exec_vsqArmedStart (h : s.vstat g = 1) :
    exec (.vsqArmedStart g) s = .next ((s.at_ (s.startPt g * ns)).beginRun g (s.startPt g * ns)) := if_pos h

theorem exec_vsqAbort_of_armed (h : s.vstat g = 1) : exec (.vsqAbort g) s =
    .next ((s.setF (R.VSQ_STAT g) F.VSQ_STAT_STATE 0).tellGang g s.now (s.g g).didx) := if_pos h

/-- The time at which an ABORT takes effect: the one already known, or the vector boundary. -/
def Group.abortedAt (x : Group) (b : Nat) : Group :=
  { x with abortAt := some (match x.abortAt with | none => b | some a => a) }

theorem exec_vsqAbort_of_running (h : s.vstat g = 2 ∨ s.vstat g = 3) :
    exec (.vsqAbort g) s = .next (s.modG g (fun x => x.abortedAt (s.boundary g))) := by
  have h1 : ¬ s.vstat g = 1 := by omega
  have h2 : s.running g = true := by simpa [State.running] using h
  exact (if_neg h1).trans (if_pos h2)

theorem exec_vsqResume_of_paused (h : s.vstat g = 3) (hr : (s.g g).resumed = false) : exec (.vsqResume g) s =
    .next (s.modG g (fun x => { x with resumeAt := some (match x.resumeAt with | none => s.now + 40 * ns | some r => r) })) :=
  if_pos ⟨h, hr⟩

theorem exec_vsqResume_elsewhere (h : s.vstat g ≠ 3 ∨ (s.g g).resumed = true) : exec (.vsqResume g) s = .next s := by
  refine if_neg fun ⟨h3, hr⟩ => ?_
  rcases h with h | h
  · exact h h3
  · rw [hr] at h
    exact Bool.false_ne_true h

theorem armed_start (h : s.vstat g = 1) : After (.vsqArmedStart g) s (fun t => OnlyGroup g [R.VSQ_STAT g] s t ∧ t.vstat g = 2 ∧
    (t.g g).issue0 = s.startPt g * ns ∧ (t.g g).nextBs = s.startPt g * ns + 40 * ns ∧
    (t.g g).pc = some ⟨false, s.fld (R.VSQ_ENTRY g) F.VSQ_ENTRY_ADDR⟩ ∧ t.now = max s.now (s.startPt g * ns)) := by
  obtain ⟨-, hi, hb, hpc, -, -, -⟩ := beginRun_group (s := s.at_ (s.startPt g * ns)) (g := g) (s.startPt g * ns)
  refine ⟨_, exec_vsqArmedStart h, onlyGroup_beginRun _ (OnlyGroup.refl g _ s).at_ (by simp), vstat_beginRun _, hi, hb, ?_, ?_⟩
  · exact hpc
  · rw [beginRun_now, State.at_now]

theorem tellGang_of_alone {n d : Nat} (h : s.gangEn g = false) : s.tellGang g n d = s := if_neg (by simp [h])

theorem abort_of_armed (h : s.vstat g = 1) (hg : s.gangEn g = false) :
    After (.vsqAbort g) s (fun t => OnlyRegs [R.VSQ_STAT g] s t ∧ t.vstat g = 0) := by
  refine ⟨_, exec_vsqAbort_of_armed h, ?_⟩
  rw [tellGang_of_alone ((gangEn_setStat _ _).trans hg)]
  exact ⟨(OnlyRegs.refl _ s).setF (by simp), vstat_setStat (by decide)⟩

theorem abort_of_running (h : s.vstat g = 2 ∨ s.vstat g = 3) : After (.vsqAbort g) s (fun t => OnlyGroup g [] s t ∧
    (∃ a, (t.g g).abortAt = some a ∧ ((s.g g).abortAt = none → a = s.boundary g) ∧
      ∀ b, (s.g g).abortAt = some b → a = b) ∧ (t.g g).pipe = (s.g g).pipe ∧ t.vstat g = s.vstat g) := by
  refine ⟨_, exec_vsqAbort_of_running h, (OnlyGroup.refl g [] s).modG, ?_, ?_, ?_⟩
  · rw [State.modG_g_same]
    exact ⟨_, rfl, fun hn => by rw [hn], fun b hb => by rw [hb]⟩
  · rw [State.modG_g_same, Group.abortedAt]
  · rw [State.vstat, State.modG_fld, State.vstat]

theorem resume_of_paused (h : s.vstat g = 3) (hn : (s.g g).resumeAt = none) (hr : (s.g g).resumed = false) :
    After (.vsqResume g) s (fun t => OnlyGroup g [] s t ∧ t.g g = { s.g g with resumeAt := some (s.now + 40 * ns) }) := by
  refine ⟨_, exec_vsqResume_of_paused h hr, (OnlyGroup.refl g [] s).modG, ?_⟩
  rw [State.modG_g_same, hn]

/-- Settles O6: START clears the group and its units and nothing else, then begins the run or arms the group; the armed start
begins it at its time; ABORT and RESUME mark the group, or find nothing to do. -/
theorem startArmAbortAndResume : Obligations.StartArmAbortAndResume :=
  ⟨fun _ _ m => ⟨start_ignored m, start_begins, start_arms⟩,
    fun s _ => ⟨armed_start, abort_of_armed, abort_of_running, resume_of_paused, fun h => ⟨s, exec_vsqResume_elsewhere h, rfl⟩⟩⟩

end Sys2Proof.Machine
end

section
/-! The stream window, the vector counter and instruction RAM (02_vector_sequencer.md R36, R72, R73, R79, R89). -/
namespace Sys2Proof.Machine
variable {s t u : State} {g : Fin 24}

/-! ### What several units share: VSQ_SSTAT shown, a monitor count -/

theorem OnlyGroup.showStream {as : List Nat} (h : OnlyGroup g as s t) (hs : R.VSQ_SSTAT g ∈ as) :
    OnlyGroup g as s (t.showStream g) := by
  unfold State.showStream
  exact OnlyGroup.setF (OnlyGroup.setF h hs) hs

@[simp] theorem showStream_g (k : Fin 24) : (s.showStream g).g k = s.g k := by
  unfold State.showStream
  dsimp only
  rw [State.setB_eq, State.setF_g_eq, State.setF_g_eq]

@[simp] theorem showStream_lines : (s.showStream g).lines = s.lines := by
  unfold State.showStream
  dsimp only
  rw [State.setB_eq, State.setF_lines, State.setF_lines]

/-- A count moves monitor counters alone. -/
theorem tally_eq (s : State) (d code n : Nat) : ∃ m, s.tally d code n = { s with mon := m } := by
  unfold State.tally
  split
  · exact ⟨_, rfl⟩
  · exact ⟨s.mon, rfl⟩

@[simp] theorem tally_g (d code n : Nat) (k : Fin 24) : (s.tally d code n).g k = s.g k := by
  obtain ⟨m, hm⟩ := tally_eq s d code n
  rw [hm]
  rfl

@[simp] theorem tally_lines (d code n : Nat) : (s.tally d code n).lines = s.lines := by
  obtain ⟨m, hm⟩ := tally_eq s d code n
  rw [hm]

/-! ### The window (R72, R73) -/

theorem exec_sctrlDisarm (h : (s.g g).smode = false) : exec (.sctrlDisarm g) s =
    .next ((s.modG g (fun x => { x with sArmed := false, sF := 0, sH1 := 0, sWin := [] })).showStream g) :=
  if_neg (by simp [h])

/-- The window after the word w has arrived at a time. -/
def Group.fetched (x : Group) (now : Nat) (w : StreamWord) : Group :=
  { x with sF := x.sF + 1, sWin := Sparse.keep (fun k => decide (x.sF + 1 ≤ k + 8192)) x.sWin ++ [(x.sF, now, w)] }

theorem exec_streamFetch {env : G6Env} {bytes : List Nat} (ha : (s.g g).sArmed = true) (hf : (s.g g).sF < (s.g g).sH1 + 4096)
    (hr : s.g6ReadBytes (vsqSrc g) (s.rdPair (R.VSQ_SBASE_LO g) (R.VSQ_SBASE_HI g) + 32 * (s.g g).sF) 32 [env] 1 =
      (.ok, bytes, u)) :
    exec (.streamFetch g env) s = .next (((u.modG g (fun x => x.fetched u.now (.ok (BitVec.ofNat 256 (leOf bytes))))).showStream
      g).tally (g.val / 4) (0x28 + g.val % 4) 1) := by
  show execStreamFetch g env s = _
  unfold execStreamFetch
  dsimp only
  rw [if_neg (by simp [ha]; omega), hr]
  rfl

theorem streamFetch_fetches {env : G6Env} {bytes : List Nat} (ha : (s.g g).sArmed = true) (hf : (s.g g).sF < (s.g g).sH1 + 4096)
    (hr : s.g6ReadBytes (vsqSrc g) (s.rdPair (R.VSQ_SBASE_LO g) (R.VSQ_SBASE_HI g) + 32 * (s.g g).sF) 32 [env] 1 =
      (.ok, bytes, u)) :
    After (.streamFetch g env) s (fun t => (t.g g).sF = (u.g g).sF + 1 ∧
      ((u.g g).sF, u.now, StreamWord.ok (BitVec.ofNat 256 (leOf bytes))) ∈ (t.g g).sWin ∧ t.lines = u.lines ∧
      (∀ k, k ≠ g → t.g k = u.g k)) := by
  refine ⟨_, exec_streamFetch ha hf hr, ?_, ?_, ?_, fun k hk => ?_⟩
  · rw [tally_g, showStream_g, State.modG_g_same, Group.fetched]
  · rw [tally_g, showStream_g, State.modG_g_same, Group.fetched]
    exact List.mem_append_right _ (List.mem_singleton_self _)
  · rw [tally_lines, showStream_lines, State.modG_lines]
  · rw [tally_g, showStream_g, State.modG_g_other _ _ _ _ hk]

/-! ### The vector counter (R79) -/

theorem exec_vcntLoRead_debug : exec (.vcntLoRead g true) s = .next (s.answer .ok (leBytes 4 (s.g g).vcnt)) := rfl

theorem exec_vcntLoRead_latches : exec (.vcntLoRead g false) s = .next ({ s with
    latch := Sparse.put resetOf s.latch (R.VSQ_VCNT_HI g) (BitVec.ofNat 32 ((s.g g).vcnt / 2 ^ 32)) }.answer .ok
      (leBytes 4 (s.g g).vcnt)) := rfl

theorem vcntLoRead_reads (debug : Bool) : After (.vcntLoRead g debug) s (fun t => t.reply = ⟨some .ok, leBytes 4 (s.g g).vcnt⟩ ∧
    (debug = true → t = { s with reply := t.reply }) ∧
    (debug = false → t = { s with reply := t.reply, latch := t.latch } ∧
      Sparse.get resetOf t.latch (R.VSQ_VCNT_HI g) = BitVec.ofNat 32 ((s.g g).vcnt / 2 ^ 32))) := by
  cases debug with
  | true => exact ⟨_, exec_vcntLoRead_debug, rfl, fun _ => rfl, nofun⟩
  | false => exact ⟨_, exec_vcntLoRead_latches, rfl, nofun, fun _ => ⟨rfl, Sparse.get_put_same _ _ _ _⟩⟩

/-! ### Bytes of instruction RAM (R36, R89) -/

/-- Byte a of a store of pattern words. -/
def iramByteOf (m : Sparse PatWord) (a : Nat) : Nat := bitsOf (Sparse.get (fun _ => (0 : PatWord)) m (a / 32)).toNat (8 * (a % 32)) 8

/-- The store with a byte written at a. -/
def iramPutByte (m : Sparse PatWord) (a v : Nat) : Sparse PatWord :=
  Sparse.put (fun _ => (0 : PatWord)) m (a / 32)
    ((Sparse.get (fun _ => (0 : PatWord)) m (a / 32) &&& ~~~ (0xFF#256 <<< (8 * (a % 32)))) |||
      (BitVec.ofNat 256 (v % 256) <<< (8 * (a % 32))))

/-- The store with n bytes of data written from off on. -/
def iramPutBytes (m : Sparse PatWord) (off : Nat) (data : List Nat) (n : Nat) : Sparse PatWord :=
  (List.range n).foldl (fun m i => iramPutByte m (off + i) (nth data i 0)) m

theorem iramByte_eq (a : Nat) : s.iramByte g a = iramByteOf (s.g g).iram a := rfl

theorem iramPut_eq (off : Nat) (data : List Nat) : s.iramPut g off data = s.modG g (fun x => { x with
    iram := iramPutBytes x.iram off data data.length
    iramUe := x.iramUe.filter (fun k => !decide (off ≤ 8 * k ∧ 8 * k + 8 ≤ off + data.length)) }) := rfl

theorem testBit_bitsOf (v lo w i : Nat) : (bitsOf v lo w).testBit i = (decide (i < w) && v.testBit (lo + i)) := by
  rw [bitsOf, Nat.testBit_mod_two_pow, Nat.testBit_div_two_pow, Nat.add_comm]

theorem testBit_byte (j : Nat) : Nat.testBit 255 j = decide (j < 8) := Nat.testBit_two_pow_sub_one 8 j

/-- A byte field of a word after one was replaced. -/
theorem bitsOf_putByte (w : PatWord) (v : Nat) {i k : Nat} (hi : i < 32) (hk : k < 32) :
    bitsOf ((w &&& ~~~ (0xFF#256 <<< (8 * i))) ||| (BitVec.ofNat 256 (v % 256) <<< (8 * i))).toNat (8 * k) 8 =
      if k = i then v % 256 else bitsOf w.toNat (8 * k) 8 := by
  refine Nat.eq_of_testBit_eq fun j => ?_
  have hv : ∀ n, 8 ≤ n → (v % 256).testBit n = false := fun n hn =>
    Nat.testBit_lt_two_pow (lt_of_lt_of_le (Nat.mod_lt v (by decide)) (Nat.pow_le_pow_right (by decide) hn : 2 ^ 8 ≤ 2 ^ n))
  rw [testBit_bitsOf, BitVec.testBit_toNat]
  simp only [BitVec.getLsbD_or, BitVec.getLsbD_and, BitVec.getLsbD_not, BitVec.getLsbD_shiftLeft, BitVec.getLsbD_ofNat,
    testBit_byte]
  by_cases hj : j < 8
  · by_cases hki : k = i
    · subst hki
      have h1 : 8 * k + j < 256 := by omega
      have h2 : j < 256 := by omega
      simp [hj, h1, h2]
    · have h1 : 8 * k + j < 256 := by omega
      rw [if_neg hki, testBit_bitsOf, BitVec.testBit_toNat]
      rcases Nat.lt_or_gt_of_ne hki with h | h
      · have h2 : 8 * k + j < 8 * i := by omega
        simp [hj, h1, h2]
      · have h2 : ¬ 8 * k + j < 8 * i := by omega
        have h3 : ¬ 8 * k + j - 8 * i < 8 := by omega
        simp [hj, h1, h2, h3, hv _ (by omega : 8 ≤ 8 * k + j - 8 * i)]
  · split
    · simp [hj, hv j (by omega)]
    · simp [hj, testBit_bitsOf]

theorem iramByteOf_putByte (m : Sparse PatWord) (a v b : Nat) :
    iramByteOf (iramPutByte m a v) b = if b = a then v % 256 else iramByteOf m b := by
  unfold iramByteOf iramPutByte
  rw [Sparse.get_put]
  by_cases hw : b / 32 = a / 32
  · rw [if_pos hw, bitsOf_putByte _ _ (Nat.mod_lt _ (by decide)) (Nat.mod_lt _ (by decide)), hw]
    refine if_congr ?_ rfl rfl
    omega
  · rw [if_neg hw, if_neg (by rintro rfl; exact hw rfl)]

theorem iramByteOf_putBytes (m : Sparse PatWord) (off : Nat) (data : List Nat) (n b : Nat) :
    iramByteOf (iramPutBytes m off data n) b =
      if off ≤ b ∧ b < off + n then nth data (b - off) 0 % 256 else iramByteOf m b := by
  induction n with
  | zero => rw [if_neg (by omega)]; rfl
  | succ n ih =>
    unfold iramPutBytes at ih ⊢
    rw [List.range_succ, List.foldl_append, List.foldl_cons, List.foldl_nil, iramByteOf_putByte, ih]
    by_cases h : b = off + n
    · rw [if_pos h, if_pos (by omega), show b - off = n by omega]
    · rw [if_neg h]
      exact if_congr (by omega) rfl rfl

/-! ### Accesses with no upset (R36, R89) -/

theorem nth_nil {α : Type} (i : Nat) (d : α) : nth ([] : List α) i d = d := rfl

theorem markGranules_clean (off len : Nat) : s.markGranules g off len [] = s := by
  refine State.modG_eq_self ?_
  have h : ∀ (l : List Nat) (acc : List Nat), l.foldl (fun acc k =>
      if nth ([] : List Ecc) (k - off / 8) .clean = .ue then insertOnce k acc else acc) acc = acc := by
    intro l
    induction l with
    | nil => exact fun _ => rfl
    | cons k l ih => exact ih
  rw [h]

theorem granuleBad_clean (h : (s.g g).iramUe = []) (off k : Nat) : s.granuleBad g off k [] = false := by
  rw [State.granuleBad, h, nth_nil]
  rfl

theorem exec_instrRamWrite_denied {off : Nat} {data : List Nat} (h : s.vstat g = 1 ∨ s.vstat g = 2) :
    exec (.instrRamWrite g off data []) s = .next ((s.vsqCmdErr g).answer .errDenied []) := if_pos h

theorem exec_instrRamWrite {off : Nat} {data : List Nat} (h1 : s.vstat g ≠ 1) (h2 : s.vstat g ≠ 2) (hu : (s.g g).iramUe = []) :
    exec (.instrRamWrite g off data []) s = .next ((s.iramPut g off data).answer .ok []) := by
  show execInstrRamWrite g off data [] s = _
  unfold execInstrRamWrite
  dsimp only
  rw [if_neg (by simp [h1, h2]), markGranules_clean, if_neg (by simp [granuleBad_clean hu])]

theorem exec_instrRamRead {off len : Nat} (hu : (s.g g).iramUe = []) : exec (.instrRamRead g off len []) s =
    .next (s.answer .ok ((List.range len).map (fun i => s.iramByte g (off + i)))) := by
  show execInstrRamRead g off len [] s = _
  unfold execInstrRamRead
  dsimp only
  rw [markGranules_clean, if_neg (by simp [granuleBad_clean hu])]

theorem nth_lt_of_bytesWf {data : List Nat} (h : bytesWf data = true) (i : Nat) : nth data i 0 < 256 := by
  unfold nth
  rw [List.getD_eq_getElem?_getD]
  by_cases hi : i < data.length
  · rw [List.getElem?_eq_getElem hi]
    exact of_decide_eq_true (List.all_eq_true.mp h _ (List.getElem_mem hi))
  · rw [List.getElem?_eq_none (by omega)]
    decide

theorem iramByte_answer_iramPut {off a : Nat} {data : List Nat} {r : Resp} {l : List Nat} :
    ((s.iramPut g off data).answer r l).iramByte g a = iramByteOf (iramPutBytes (s.g g).iram off data data.length) a := by
  rw [iramByte_eq, State.answer_g_eq, iramPut_eq, State.modG_g_same]

theorem frame_answer_grp {r : Resp} {l : List Nat} (h : t = { s with grp := t.grp }) :
    t.answer r l = { s with reply := (t.answer r l).reply, grp := (t.answer r l).grp } := by
  rw [State.answer, h]

theorem frame_answer_regs {r : Resp} {l : List Nat} (h : t = { s with regs := t.regs }) :
    t.answer r l = { s with reply := (t.answer r l).reply, regs := (t.answer r l).regs } := by
  rw [State.answer, h]

theorem frame_modG (f : Group → Group) : s.modG g f = { s with grp := (s.modG g f).grp } := rfl

theorem instrRamWrite_stores {off : Nat} {data : List Nat} (h1 : s.vstat g ≠ 1) (h2 : s.vstat g ≠ 2) (hu : (s.g g).iramUe = [])
    (hd : bytesWf data = true) : After (.instrRamWrite g off data []) s (fun t => t.reply = ⟨some .ok, []⟩ ∧
      t = { s with reply := t.reply, grp := t.grp } ∧ (∀ k, k ≠ g → t.g k = s.g k) ∧
      (∀ i, i < data.length → t.iramByte g (off + i) = nth data i 0) ∧
      (∀ a, a < off ∨ off + data.length ≤ a → t.iramByte g a = s.iramByte g a)) := by
  refine ⟨_, exec_instrRamWrite h1 h2 hu, rfl, frame_answer_grp (by rw [iramPut_eq]; exact frame_modG _), fun k hk => ?_, fun i hi => ?_, fun a ha => ?_⟩
  · rw [State.answer_g_eq, iramPut_eq, State.modG_g_other _ _ _ _ hk]
  · rw [iramByte_answer_iramPut, iramByteOf_putBytes, if_pos (by omega), Nat.add_sub_cancel_left,
      Nat.mod_eq_of_lt (nth_lt_of_bytesWf hd i)]
  · rw [iramByte_answer_iramPut, iramByteOf_putBytes, if_neg (by omega), iramByte_eq]

theorem instrRamWrite_denied {off : Nat} {data : List Nat} (h : s.vstat g = 1 ∨ s.vstat g = 2) :
    After (.instrRamWrite g off data []) s (fun t => t.reply = ⟨some .errDenied, []⟩ ∧
      t = { s with reply := t.reply, regs := t.regs } ∧ t.flag (R.VSQ_CAUSE g) F.VSQ_CAUSE_CMDERR = true) := by
  refine ⟨_, exec_instrRamWrite_denied h, rfl, frame_answer_regs rfl, ?_⟩
  rw [State.answer_flag]
  exact State.raise_flag _ _ _ (by decide) rfl

/-- Settles O7: ARM and DISARM set the window, a fetched word is appended to it, and instruction RAM behaves as a store of
bytes (`iramByteOf_putBytes`). -/
theorem streamWindowVectorCountAndInstructionRam : Obligations.StreamWindowVectorCountAndInstructionRam := by
  refine ⟨fun s g env debug => ⟨⟨_, rfl, ?_, ?_⟩, fun hm => ⟨_, exec_sctrlDisarm hm, ?_, ?_⟩,
    fun _ _ => streamFetch_fetches, vcntLoRead_reads debug⟩, fun s g off data len => ⟨instrRamWrite_denied,
    fun h1 h2 hu hd _ => instrRamWrite_stores h1 h2 hu hd, fun hu => ⟨_, exec_instrRamRead hu, rfl, rfl⟩⟩⟩
  · exact OnlyGroup.showStream (OnlyGroup.refl g _ s).modG (by simp)
  · rw [State.streamArm, showStream_g, State.modG_g_same]
  · exact OnlyGroup.showStream (OnlyGroup.refl g _ s).modG (by simp)
  · rw [showStream_g, State.modG_g_same]

end Sys2Proof.Machine
end

section
/-! Decisions at their decision point (02_vector_sequencer.md R45, R47, R48, R60, R71). -/
namespace Sys2Proof.Machine
variable {s t u : State} {g : Fin 24}

/-! ### What an escape point at the end of an open-ended word can touch (R68, R69, R71) -/

/-- Only the group's place in its program, its escapes and what shows them differ. -/
structure EscOnly (g : Fin 24) (s t : State) : Prop where
  only : OnlyGroup g [R.VSQ_STAT g, R.VSQ_CAUSE g] s t
  now : t.now = s.now
  pipe : (t.g g).pipe = (s.g g).pipe
  nextBs : (t.g g).nextBs = (s.g g).nextBs
  forkEnd : (t.g g).forkEnd = (s.g g).forkEnd
  syncArr : (t.g g).syncArr = (s.g g).syncArr

namespace EscOnly

theorem refl (g : Fin 24) (s : State) : EscOnly g s s := ⟨OnlyGroup.refl g _ s, rfl, rfl, rfl, rfl, rfl⟩

theorem setStat {f : Fld} {n : Nat} (h : EscOnly g s t) : EscOnly g s (t.setF (R.VSQ_STAT g) f n) :=
  ⟨h.only.setF (by simp), by rw [State.setF_now, h.now], by rw [State.setF_g_eq, h.pipe], by rw [State.setF_g_eq, h.nextBs],
    by rw [State.setF_g_eq, h.forkEnd], by rw [State.setF_g_eq, h.syncArr]⟩

theorem setCause {f : Fld} {n : Nat} (h : EscOnly g s t) : EscOnly g s (t.setF (R.VSQ_CAUSE g) f n) :=
  ⟨h.only.setF (by simp), by rw [State.setF_now, h.now], by rw [State.setF_g_eq, h.pipe], by rw [State.setF_g_eq, h.nextBs],
    by rw [State.setF_g_eq, h.forkEnd], by rw [State.setF_g_eq, h.syncArr]⟩

theorem modG {f : Group → Group} (h : EscOnly g s t) (hf : ∀ x, (f x).pipe = x.pipe ∧ (f x).nextBs = x.nextBs ∧
    (f x).forkEnd = x.forkEnd ∧ (f x).syncArr = x.syncArr) : EscOnly g s (t.modG g f) := by
  obtain ⟨hp, hn, hk, ha⟩ := hf (t.g g)
  refine ⟨h.only.modG, ?_, ?_, ?_, ?_, ?_⟩
  · rw [State.modG_now, h.now]
  · rw [State.modG_g_same, hp, h.pipe]
  · rw [State.modG_g_same, hn, h.nextBs]
  · rw [State.modG_g_same, hk, h.forkEnd]
  · rw [State.modG_g_same, ha, h.syncArr]

theorem ite {c : Prop} [Decidable c] (h : EscOnly g s t) (k : EscOnly g s u) : EscOnly g s (if c then t else u) := by
  split
  · exact h
  · exact k

theorem escAdd {n : Nat} (h : EscOnly g s t) : EscOnly g s (t.escAdd g n) := by
  unfold State.escAdd
  exact EscOnly.modG (.ite (.setCause (.setStat h)) (.setStat h)) fun _ => ⟨rfl, rfl, rfl, rfl⟩

theorem escInsert {b : Option Loc} {n : Nat} (h : EscOnly g s t) : EscOnly g s (t.escInsert g b n) := by
  unfold State.escInsert
  exact EscOnly.setStat (.modG (.ite h (.setStat h)) fun _ => ⟨rfl, rfl, rfl, rfl⟩)

theorem escAtEnd {w : PatWord} {n : Nat} (h : EscOnly g s t) : EscOnly g s (t.escAtEnd g w n) := by
  unfold State.escAtEnd
  exact .ite (.ite (.escInsert (.escAdd h)) (.escAdd h)) h

end EscOnly

theorem escAtEnd_of_none {w : PatWord} {n : Nat} (h : ctlEsc w = false) : s.escAtEnd g w n = s := by simp [State.escAtEnd, h]

/-! ### JC at its decision point (R45, R47, R48) -/

/-- The group after a decision taken at ball time b. -/
def Group.decided (x : Group) (b : Nat) : Group := { x with dec := none, forkEnd := b + 40 * ns }

/-- The group after the words issued past a taken JC are discarded. -/
def Group.discarded (x : Group) (b : Nat) : Group :=
  { x with pipe := [], nextBs := b, escPt := none, wrsv := x.wrsv.filter (fun u => decide (u + 40 * ns < b)) }

theorem target_modG {f : Group → Group} (hf : ∀ x, (f x).sH1 = x.sH1 ∧ (f x).sF = x.sF) (l : Loc) (n : Nat) :
    (s.modG g f).target g l n = s.target g l n := by
  obtain ⟨h1, h2⟩ := hf (s.g g)
  simp only [State.target, State.modG_g_same, h1, h2]

theorem jumpTo_of_target {l p : Loc} {n : Nat} (h : s.target g l n = .inl p) : s.jumpTo g l n = .inl (s.setPc g (some p)) := by
  rw [State.jumpTo, h]

section
variable {d : Decision} {b : Nat} {p : Loc}

theorem exec_jcDecision_not_taken (hd : (s.g g).dec = some d) (hb : d.dp = some b) (hr : s.running g = true)
    (hre : s.reached g b = true) (hk : s.known g d.cond d.be d.didx = .val false) :
    exec (.jcDecision g) s = .next ((s.at_ b).modG g (fun x => x.decided b)) := by
  show execJcDecision g s = _
  unfold execJcDecision
  rw [hd]
  dsimp only
  rw [hb]
  dsimp only
  rw [if_neg (by simp [hr, hre]), hk]
  dsimp only
  rw [if_neg Bool.false_ne_true]
  rfl

theorem exec_jcDecision_taken (hd : (s.g g).dec = some d) (hb : d.dp = some b) (hr : s.running g = true)
    (hre : s.reached g b = true) (hk : s.known g d.cond d.be d.didx = .val true) (ht : s.target g d.loc d.arg = .inl p) :
    exec (.jcDecision g) s =
      .next ((((s.at_ b).modG g (fun x => x.decided b)).modG g (fun x => x.discarded b)).setPc g (some p)) := by
  have hj : (((s.at_ b).modG g (fun x => x.decided b)).modG g (fun x => x.discarded b)).target g d.loc d.arg = .inl p := by
    rw [target_modG (f := fun x => x.discarded b) (fun _ => ⟨rfl, rfl⟩),
      target_modG (f := fun x => x.decided b) (fun _ => ⟨rfl, rfl⟩), target_at, ht]
  show execJcDecision g s = _
  unfold execJcDecision
  rw [hd]
  dsimp only
  rw [hb]
  dsimp only
  rw [if_neg (by simp [hr, hre]), hk]
  dsimp only
  rw [if_pos rfl]
  have hj' := jumpTo_of_target hj
  unfold Group.decided Group.discarded at hj'
  rw [hj']
  rfl

theorem jcDecision_not_taken (hd : (s.g g).dec = some d) (hb : d.dp = some b) (hr : s.running g = true)
    (hre : s.reached g b = true) (hk : s.known g d.cond d.be d.didx = .val false) :
    After (.jcDecision g) s (fun t => OnlyGroup g [] s t ∧ t.now = max s.now b ∧
      t.g g = { s.g g with dec := none, forkEnd := b + 40 * ns }) := by
  refine ⟨_, exec_jcDecision_not_taken hd hb hr hre hk, (OnlyGroup.refl g [] s).at_.modG, ?_, ?_⟩
  · rw [State.modG_now, State.at_now]
  · rw [State.modG_g_same, State.atT_g_eq, Group.decided]

theorem jcDecision_taken (hd : (s.g g).dec = some d) (hb : d.dp = some b) (hr : s.running g = true)
    (hre : s.reached g b = true) (hk : s.known g d.cond d.be d.didx = .val true) (ht : s.target g d.loc d.arg = .inl p) :
    After (.jcDecision g) s (fun t => OnlyGroup g [] s t ∧ t.now = max s.now b ∧
      t.g g = { s.g g with
        dec := none, forkEnd := b + 40 * ns, pipe := [], nextBs := b, escPt := none, pc := some p
        wrsv := (s.g g).wrsv.filter (fun u => decide (u + 40 * ns < b)) }) := by
  refine ⟨_, exec_jcDecision_taken hd hb hr hre hk ht, (OnlyGroup.refl g [] s).at_.modG.modG.modG, ?_, ?_⟩
  · rw [State.setPc, State.modG_now, State.modG_now, State.modG_now, State.at_now]
  · rw [State.setPc, State.modG_g_same, State.modG_g_same, State.modG_g_same, State.atT_g_eq, Group.decided, Group.discarded]

end

/-! ### MATCH at its decision point (R60, R71) -/

/-- The group at the end of an open-ended word at ball time b. -/
def Group.wordEnded (x : Group) (rest : List PatEntry) (b : Nat) : Group := { x with pipe := rest, nextBs := b, escPt := none }

section
variable {e : PatEntry} {rest : List PatEntry} {ok : Bool} {k b : Nat}

/-- The end of a MATCH before MCNT and MFAIL are shown. -/
def State.matchOver (s : State) (g : Fin 24) (e : PatEntry) (rest : List PatEntry) (b : Nat) : State :=
  (((s.at_ b).modG g (fun x => x.wordEnded rest b)).escAtEnd g e.word b).modG g (fun x => { x with forkEnd := b + 40 * ns })

theorem endMatch_eq : s.endMatch g e rest k ok b =
    if ok then ((s.matchOver g e rest b).setF (R.VSQ_MCNT g) F.VSQ_MCNT_K k).setB (R.VSQ_STAT g) F.VSQ_STAT_MFAIL (!ok)
    else (((s.matchOver g e rest b).setF (R.VSQ_MCNT g) F.VSQ_MCNT_K k).setB (R.VSQ_STAT g) F.VSQ_STAT_MFAIL (!ok)).raise
      (R.VSQ_CAUSE g) F.VSQ_CAUSE_MFAIL := rfl

theorem matchOver_escOnly : EscOnly g ((s.at_ b).modG g (fun x => x.wordEnded rest b))
    (((s.at_ b).modG g (fun x => x.wordEnded rest b)).escAtEnd g e.word b) := (EscOnly.refl g _).escAtEnd

theorem onlyGroup_matchOver : OnlyGroup g [R.VSQ_STAT g, R.VSQ_CAUSE g] s (s.matchOver g e rest b) :=
  OnlyGroup.modG (OnlyGroup.trans (OnlyGroup.modG (OnlyGroup.at_ (OnlyGroup.refl g _ s))) matchOver_escOnly.only)

theorem matchOver_group : ((s.matchOver g e rest b).g g).pipe = rest ∧ ((s.matchOver g e rest b).g g).nextBs = b ∧
    ((s.matchOver g e rest b).g g).forkEnd = b + 40 * ns := by
  have h := matchOver_escOnly (s := s) (g := g) (e := e) (rest := rest) (b := b)
  unfold State.matchOver
  rw [State.modG_g_same]
  exact ⟨h.pipe.trans (by rw [State.modG_g_same]; rfl), h.nextBs.trans (by rw [State.modG_g_same]; rfl), rfl⟩

theorem exec_matchDecision (hp : (s.g g).pipe = e :: rest) (hr : s.running g = true) (hu : e.reps = .untilMatch)
    (ho : s.overruns g e < e.done) (hk : s.matchKnown g e (e.done - s.overruns g e) = .val ok)
    (hend : ok = true ∨ e.done - s.overruns g e = wordArg e.word) : exec (.matchDecision g) s =
      .next (s.endMatch g e rest (e.done - s.overruns g e) ok (e.bs + e.done * e.period)) := by
  have h0 : (e.done - s.overruns g e == 0) = false := by simp; omega
  show execMatchDecision g s = _
  unfold execMatchDecision
  rw [hp]
  dsimp only
  rw [if_neg (by simp [hr, hu, h0]), hk]
  exact if_pos (by simpa using hend)

theorem matchDecision_ends (hp : (s.g g).pipe = e :: rest) (hr : s.running g = true) (hu : e.reps = .untilMatch)
    (ho : s.overruns g e < e.done) (hk : s.matchKnown g e (e.done - s.overruns g e) = .val ok)
    (hend : ok = true ∨ e.done - s.overruns g e = wordArg e.word) (hd : e.done < 2 ^ 24) :
    After (.matchDecision g) s (fun t => OnlyGroup g [R.VSQ_MCNT g, R.VSQ_STAT g, R.VSQ_CAUSE g] s t ∧
      (t.g g).pipe = rest ∧ (t.g g).nextBs = e.bs + e.done * e.period ∧
      (t.g g).forkEnd = e.bs + e.done * e.period + 40 * ns ∧
      t.fld (R.VSQ_MCNT g) F.VSQ_MCNT_K = e.done - s.overruns g e ∧
      t.flag (R.VSQ_STAT g) F.VSQ_STAT_MFAIL = !ok ∧
      (ok = false → t.flag (R.VSQ_CAUSE g) F.VSQ_CAUSE_MFAIL = true)) := by
  have hsc : R.VSQ_STAT g ≠ R.VSQ_CAUSE g := by unfold R.VSQ_STAT R.VSQ_CAUSE; omega
  have hms : R.VSQ_MCNT g ≠ R.VSQ_STAT g := by unfold R.VSQ_MCNT R.VSQ_STAT; omega
  have hmc : R.VSQ_MCNT g ≠ R.VSQ_CAUSE g := by unfold R.VSQ_MCNT R.VSQ_CAUSE; omega
  have hl : e.done - s.overruns g e < 2 ^ F.VSQ_MCNT_K.w := by
    show e.done - s.overruns g e < 2 ^ 24
    omega
  obtain ⟨hpipe, hbs, hfork⟩ := matchOver_group (s := s) (g := g) (e := e) (rest := rest) (b := e.bs + e.done * e.period)
  have hm := (onlyGroup_matchOver (s := s) (g := g) (e := e) (rest := rest) (b := e.bs + e.done * e.period)).mono
    (bs := [R.VSQ_MCNT g, R.VSQ_STAT g, R.VSQ_CAUSE g]) (by simp)
  refine ⟨_, exec_matchDecision hp hr hu ho hk hend, ?_⟩
  rw [endMatch_eq]
  generalize s.matchOver g e rest (e.bs + e.done * e.period) = v at hpipe hbs hfork hm
  cases ok with
  | true =>
    rw [if_pos rfl, State.setB_eq]
    refine ⟨(hm.setF (by simp)).setF (by simp), ?_, ?_, ?_, ?_, ?_, nofun⟩
    · rw [State.setF_g_eq, State.setF_g_eq, hpipe]
    · rw [State.setF_g_eq, State.setF_g_eq, hbs]
    · rw [State.setF_g_eq, State.setF_g_eq, hfork]
    · rw [State.fld, State.setF_rd_other _ _ _ _ _ hms, ← State.fld, State.setF_fld_same _ _ _ _ (by decide), Nat.mod_eq_of_lt hl]
    · rw [State.flag, State.setF_fld_same _ _ _ _ (by decide)]
      rfl
  | false =>
    rw [if_neg Bool.false_ne_true, State.setB_eq, State.raise_eq]
    refine ⟨((hm.setF (by simp)).setF (by simp)).setF (by simp), ?_, ?_, ?_, ?_, ?_, fun _ => ?_⟩
    · rw [State.setF_g_eq, State.setF_g_eq, State.setF_g_eq, hpipe]
    · rw [State.setF_g_eq, State.setF_g_eq, State.setF_g_eq, hbs]
    · rw [State.setF_g_eq, State.setF_g_eq, State.setF_g_eq, hfork]
    · rw [State.fld, State.setF_rd_other _ _ _ _ _ hmc, State.setF_rd_other _ _ _ _ _ hms, ← State.fld,
        State.setF_fld_same _ _ _ _ (by decide), Nat.mod_eq_of_lt hl]
    · rw [State.flag, State.fld, State.setF_rd_other _ _ _ _ _ hsc, ← State.fld, State.setF_fld_same _ _ _ _ (by decide)]
      rfl
    · rw [State.flag, State.setF_fld_same _ _ _ _ (by decide)]
      rfl

end

/-- Settles O8: a decision whose result is known takes effect at its decision point (`exec_jcDecision_taken`,
`exec_jcDecision_not_taken`), and a MATCH that is over shows its end (`endMatch_eq`). -/
theorem decisionsTakeEffectAtTheirDecisionPoint : Obligations.DecisionsTakeEffectAtTheirDecisionPoint :=
  fun _ _ => ⟨fun _ _ _ => jcDecision_taken, fun _ _ => jcDecision_not_taken, fun _ _ _ => matchDecision_ends⟩

end Sys2Proof.Machine
end

section
/-! Every command keeps the stores canonical and the queue as it is: the relation, and the updates it rests on
(95_what_each_step_holds.md; 12_memory_system.md; 02 R36; 07 R227; 20 R621). -/
namespace Sys2Proof.Machine
variable {s t u : State}
-- The lemmas of this part cite each other in long chains: elaborated side by side they would hold a thread each.
set_option Elab.async false

/-! ### Canonical stores, part by part -/

/-- X, Y and P memory of a core are in canonical form. -/
structure MdCanonical (c : Mdsp) : Prop where
  x : Sparse.canon (fun _ => (0 : Word)) c.x = true
  y : Sparse.canon (fun _ => (0 : Word)) c.y = true
  p : Sparse.canon (fun _ => (0 : Word)) c.p = true

/-- Every addressed memory, the register store and the latches are in canonical form. -/
structure Canonical (s : State) : Prop where
  lines : Sparse.canon s.lineDefault s.lines = true
  iram : ∀ g : Fin 24, Sparse.canon (fun _ => (0 : PatWord)) s.grp[g].iram = true
  md : ∀ m : Fin 24, MdCanonical s.mdsp[m]
  regs : Sparse.canon resetOf s.regs = true
  latch : Sparse.canon resetOf s.latch = true

theorem all_toList_iff {α : Type} {n : Nat} {v : Vector α n} {p : α → Bool} : v.toList.all p = true ↔ ∀ i : Fin n, p v[i] = true := by
  rw [List.all_eq_true]
  constructor
  · exact fun h i => h _ (by simp [Vector.mem_toList_iff])
  · intro h x hx
    obtain ⟨i, hi, rfl⟩ := Vector.mem_iff_getElem.mp (Vector.mem_toList_iff.mp hx)
    exact h ⟨i, hi⟩

theorem canonical_iff : Canonical s ↔ Memory.wf s = true ∧ Registers.wf s = true := by
  simp only [Memory.wf, Registers.wf, Bool.and_eq_true, all_toList_iff]
  constructor
  · exact fun ⟨hl, hi, hm, hr, ht⟩ => ⟨⟨⟨hl, hi⟩, fun m => ⟨⟨(hm m).x, (hm m).y⟩, (hm m).p⟩⟩, hr, ht⟩
  · rintro ⟨⟨⟨hl, hi⟩, hm⟩, hr, ht⟩
    refine ⟨hl, hi, fun m => ?_, hr, ht⟩
    obtain ⟨⟨hx, hy⟩, hp⟩ := hm m
    exact ⟨hx, hy, hp⟩

/-! ### The relation -/

/-- The queue of waiting commands is as it was, and stores that were canonical are. -/
structure Kept (s t : State) : Prop where
  pending : t.pending = s.pending
  canonical : Canonical s → Canonical t

/-- The command, or the part of one, completes, in a state related so. -/
def KeptOut (s : State) (o : Out) : Prop := ∃ t, o = .next t ∧ Kept s t
/-- The same of a path that can end in a fault instead. -/
def KeptSum {ε : Type} (s : State) (x : State ⊕ ε) : Prop := ∀ t, x = .inl t → Kept s t
/-- The same of an operation that can be missing. -/
def KeptOpt (s : State) (x : Option State) : Prop := ∀ t, x = some t → Kept s t
/-- The same of a keeper command that answers at once, or runs on. -/
def KeptKpr (s : State) (x : KprAns ⊕ State) : Prop := (∀ r, x = .inl r → Kept s r.st) ∧ ∀ t, x = .inr t → Kept s t

theorem KeptOut.next (h : Kept s t) : KeptOut s (.next t) := ⟨t, rfl, h⟩
theorem KeptOut.ite {c : Prop} [Decidable c] {a b : Out} (h : KeptOut s a) (k : KeptOut s b) : KeptOut s (if c then a else b) := by
  split
  · exact h
  · exact k
theorem KeptSum.inl {ε : Type} (h : Kept s t) : KeptSum s (.inl t : State ⊕ ε) :=
  fun _ e => by rw [← Sum.inl.inj e]; exact h
theorem KeptSum.inr {ε : Type} {c : ε} : KeptSum s (.inr c : State ⊕ ε) := fun _ e => (Sum.inr_ne_inl e).elim
theorem KeptOpt.some (h : Kept s t) : KeptOpt s (some t) := fun _ e => by rw [← Option.some.inj e]; exact h
theorem KeptOpt.none : KeptOpt s none := fun _ e => (Option.some_ne_none _ e.symm).elim
theorem Kept.getD {o : Option State} (ho : KeptOpt s o) (h : Kept s t) : Kept s (o.getD t) := by
  cases o with
  | none => exact h
  | some u => exact ho u rfl
theorem KeptKpr.inl {r : KprAns} (h : Kept s r.st) : KeptKpr s (.inl r) :=
  ⟨fun _ e => by rw [← Sum.inl.inj e]; exact h, fun _ e => (Sum.inl_ne_inr e).elim⟩
theorem KeptKpr.inr (h : Kept s t) : KeptKpr s (.inr t) :=
  ⟨fun _ e => (Sum.inr_ne_inl e).elim, fun _ e => by rw [← Sum.inr.inj e]; exact h⟩

namespace Kept

theorem refl (s : State) : Kept s s := ⟨rfl, id⟩

theorem ite {c : Prop} [Decidable c] (h : Kept s t) (k : Kept s u) : Kept s (if c then t else u) := by
  split
  · exact h
  · exact k

theorem dite {c : Prop} [Decidable c] {f : c → State} {f' : ¬ c → State} (h : ∀ k, Kept s (f k)) (k : ∀ k, Kept s (f' k)) :
    Kept s (if k : c then f k else f' k) := by
  split
  · exact h _
  · exact k _

theorem forEach {α : Type} {l : List α} {f : α → State → State} (hf : ∀ a u, Kept s u → Kept s (f a u)) (h : Kept s t) :
    Kept s (forEach l f t) := by
  unfold Sys2Proof.forEach
  induction l generalizing t with
  | nil => exact h
  | cons a l ih => exact ih (hf a t h)

theorem foldl {α : Type} {l : List α} {f : State → α → State} (hf : ∀ u a, Kept s u → Kept s (f u a)) (h : Kept s t) :
    Kept s (l.foldl f t) := by
  induction l generalizing t with
  | nil => exact h
  | cons a l ih => exact ih (hf t a h)

/-! ### Updates beside the stores -/

/-- An update that leaves the queue and every store. -/
theorem same (h : Kept s t) {v0 v1 v2 v3 v4 v5 v6 v7 v8 v9 v10 v11 v12 v13 v14 v15 v16 v17 v18 v19 v20 v21 v22 v23 v24 v25
    v26 v27 v28 v29 v30 v31} :
    Kept s { t with
      now := v0, freeCtr := v1, reply := v2, out := v3, cap := v4, vault := v5, txns := v6, remoteDone := v7,
      remoteOut := v8, scrub := v9, haltReq := v10, haltOn := v11, tsy := v12, isolated := v13, cfgUp := v14,
      keeper := v15, fab := v16, fport := v17, seam := v18, bridge := v19, hasRoles := v20, dieDown := v21, cfg := v22,
      holdupB := v23, dma := v24, core := v25, l2 := v26, tap := v27, bist := v28, mon := v29, pcie := v30,
      power := v31 } :=
  ⟨h.pending, fun hs => ⟨(h.canonical hs).lines, (h.canonical hs).iram, (h.canonical hs).md, (h.canonical hs).regs,
    (h.canonical hs).latch⟩⟩

/-! ### Writes of the stores -/

theorem wr {a : Nat} {v : Word} (h : Kept s t) : Kept s (t.wr a v) :=
  ⟨h.pending, fun hs => { h.canonical hs with regs := Sparse.canon_put a v (h.canonical hs).regs }⟩

theorem setLatch {a : Nat} {v : Word} (h : Kept s t) : Kept s (t.setLatch a v) :=
  ⟨h.pending, fun hs => { h.canonical hs with latch := Sparse.canon_put a v (h.canonical hs).latch }⟩

theorem dropRegs {p : Nat → Bool} (h : Kept s t) : Kept s (t.dropRegs p) :=
  ⟨h.pending, fun hs => { h.canonical hs with
    regs := Sparse.canon_keep (fun a => !p a) (h.canonical hs).regs
    latch := Sparse.canon_keep (fun a => !p a) (h.canonical hs).latch }⟩

theorem setLine {k : Nat} {l : Option GLine} (h : Kept s t) : Kept s (t.setLine k l) :=
  ⟨h.pending, fun hs => { h.canonical hs with lines := Sparse.canon_put k l (h.canonical hs).lines }⟩

theorem dropLines {q : Nat} (h : Kept s t) : Kept s (t.dropLines q) :=
  ⟨h.pending, fun hs => { h.canonical hs with lines := Sparse.canon_keep (fun k => portOf (k / 33554432) != q) (h.canonical hs).lines }⟩

/-- A port whose lines' default stays. -/
theorem setP {q : Fin 24} {x : MemPort} (h : Kept s t) (hx : x.zeroed = (t.p q).zeroed := by exact rfl) : Kept s (t.setP q x) :=
  ⟨h.pending, fun hs => { h.canonical hs with
    lines := by rw [lineDefault_setP hx]; exact (h.canonical hs).lines }⟩

/-- An element of a vector after one was replaced by one of the same property. -/
theorem getElem_set_of {α : Type} {n : Nat} {v : Vector α n} {i : Fin n} {x : α} {p : α → Prop} (h : ∀ k : Fin n, p v[k])
    (hx : p x) (k : Fin n) : p (v.set i x)[k] := by
  show p ((v.set i x)[k.val])
  rw [Vector.getElem_set]
  split
  · exact hx
  · exact h k

/-- A group whose instruction RAM is canonical. -/
theorem setG {g : Fin 24} {x : Group} (h : Kept s t)
    (hx : Canonical t → Sparse.canon (fun _ => (0 : PatWord)) x.iram = true) : Kept s (t.setG g x) :=
  ⟨h.pending, fun hs => { h.canonical hs with
    iram := getElem_set_of (p := fun x : Group => Sparse.canon (fun _ => (0 : PatWord)) x.iram = true) (h.canonical hs).iram
      (hx (h.canonical hs)) }⟩

/-- A change of a group beside its instruction RAM. -/
theorem modG {g : Fin 24} {f : Group → Group} (h : Kept s t) (hf : ∀ x, (f x).iram = x.iram := by exact fun _ => rfl) :
    Kept s (t.modG g f) :=
  h.setG fun ht => by rw [hf]; exact ht.iram g

/-- A change of a core that keeps its memories canonical. -/
theorem modMd {m : Fin 24} {f : Mdsp → Mdsp} (h : Kept s t)
    (hf : ∀ c, MdCanonical c → MdCanonical (f c) := by exact fun _ h => ⟨h.x, h.y, h.p⟩) : Kept s (t.modMd m f) :=
  ⟨h.pending, fun hs => { h.canonical hs with
    md := getElem_set_of (p := MdCanonical) (h.canonical hs).md (hf _ ((h.canonical hs).md m)) }⟩

/-- A machine whose stores are as at reset. -/
theorem of_reset (h : Kept s t) {v0 v1 v2 v3 v4 v5 v6 v7 v8 v9 v10 v11 v12 v13 v14 v15 v16 v17 v18 v19 v20 v21 v22 v23 v24
    v25 v26 v27 v28 v29 v30 v31} :
    Kept s { State.reset with
      pending := t.pending
      now := v0, freeCtr := v1, reply := v2, out := v3, cap := v4, vault := v5, txns := v6, remoteDone := v7,
      remoteOut := v8, scrub := v9, haltReq := v10, haltOn := v11, tsy := v12, isolated := v13, cfgUp := v14,
      keeper := v15, fab := v16, fport := v17, seam := v18, bridge := v19, hasRoles := v20, dieDown := v21, cfg := v22,
      holdupB := v23, dma := v24, core := v25, l2 := v26, tap := v27, bist := v28, mon := v29, pcie := v30,
      power := v31 } :=
  ⟨h.pending, fun _ => by
    obtain ⟨-, -, hmem, hreg, -⟩ := resetIsAsTheSpecSays
    obtain ⟨cl, ci, cm, cr, ct⟩ := canonical_iff.mpr ⟨hmem, hreg⟩
    exact ⟨cl, ci, cm, cr, ct⟩⟩

/-- A store is canonical by the defaults at its own keys. -/
theorem canon_congr {α : Type} [DecidableEq α] {d d' : Nat → α} {m : Sparse α} (h : ∀ e ∈ m, d' e.1 = d e.1)
    (hm : Sparse.canon d m = true) : Sparse.canon d' m = true := by
  simp only [Sparse.canon, Bool.and_eq_true, List.all_eq_true] at hm ⊢
  exact ⟨hm.1, fun e he => by rw [h e he]; exact hm.2 e he⟩

/-- An element of a vector in which those of one die were reset. -/
theorem getElem_ofFn_reset {α : Type} {n : Nat} {v : Vector α n} {c : Fin n → Prop} [DecidablePred c] {x : α} {p : α → Prop}
    (h : ∀ k : Fin n, p v[k]) (hx : p x) (k : Fin n) : p (Vector.ofFn (fun i => if c i then x else v[i]))[k] := by
  have : (Vector.ofFn (fun i => if c i then x else v[i]))[k] = if c k then x else v[k] := by
    show (Vector.ofFn (fun i => if c i then x else v[i]))[k.val] = _
    rw [Vector.getElem_ofFn]
  rw [this]
  split
  · exact hx
  · exact h k

/-- The default of a line of another die stands when one die's ports are reset. -/
theorem lineDefault_resetPorts {d : Fin 6} {k : Nat} (hq : u.port = Vector.ofFn (fun i => if i.val / 4 = d.val then MemPort.reset
    else t.port[i])) (hk : k / 33554432 / 8 ≠ d.val) : u.lineDefault k = t.lineDefault k := by
  have hd : portOf (k / 33554432) / 4 ≠ d.val := by unfold portOf; omega
  unfold State.lineDefault
  rw [hq]
  generalize portOf (k / 33554432) = q at hd
  by_cases hlt : q < 24
  · simp [List.getD_eq_getElem?_getD, hlt, hd]
  · simp [List.getD_eq_getElem?_getD, hlt]

theorem canon_otherDies {d : Fin 6} (hq : u.port = Vector.ofFn (fun i => if i.val / 4 = d.val then MemPort.reset
    else t.port[i])) (h : Sparse.canon t.lineDefault t.lines = true) :
    Sparse.canon u.lineDefault (Sparse.keep (fun k => k / 33554432 / 8 != d.val) t.lines) = true :=
  canon_congr (fun e he => lineDefault_resetPorts hq (by simpa using (List.mem_filter.mp he).2)) (Sparse.canon_keep _ h)

/-- A machine in which one die's groups, cores and ports are reset and its lines dropped. -/
theorem of_clear {d : Fin 6} (h : Kept s t) {v0 v1 v2 v3 v4 v5 v6 v7 v8 v9 v10 v11 v12 v13 v14 v15 v16 v17 v18 v19 v20 v21
    v22 v23 v24 v25 v26 v27 v28 v29 v30 v31} :
    Kept s { t with
      grp := Vector.ofFn (fun i => if i.val / 4 = d.val then Group.reset else t.grp[i])
      port := Vector.ofFn (fun i => if i.val / 4 = d.val then MemPort.reset else t.port[i])
      lines := Sparse.keep (fun k => k / 33554432 / 8 != d.val) t.lines
      mdsp := Vector.ofFn (fun i => if i.val / 4 = d.val then Mdsp.reset else t.mdsp[i])
      now := v0, freeCtr := v1, reply := v2, out := v3, cap := v4, vault := v5, txns := v6, remoteDone := v7,
      remoteOut := v8, scrub := v9, haltReq := v10, haltOn := v11, tsy := v12, isolated := v13, cfgUp := v14,
      keeper := v15, fab := v16, fport := v17, seam := v18, bridge := v19, hasRoles := v20, dieDown := v21, cfg := v22,
      holdupB := v23, dma := v24, core := v25, l2 := v26, tap := v27, bist := v28, mon := v29, pcie := v30,
      power := v31 } :=
  ⟨h.pending, fun hs => {
    lines := canon_otherDies rfl (h.canonical hs).lines
    iram := getElem_ofFn_reset (p := fun x : Group => Sparse.canon (fun _ => (0 : PatWord)) x.iram = true) (h.canonical hs).iram rfl
    md := getElem_ofFn_reset (p := MdCanonical) (h.canonical hs).md ⟨rfl, rfl, rfl⟩
    regs := (h.canonical hs).regs
    latch := (h.canonical hs).latch }⟩

end Kept
end Sys2Proof.Machine
end

section
/-! The parts of the commands, and the commands, keep the stores canonical: one lemma for each function of
Machine/Ops, Machine/Frames, Machine/G6, Machine/Apg, Machine/Pins, Machine/FailVector, Machine/FailCapture. -/
namespace Sys2Proof.Machine
variable {s t : State}
set_option Elab.async false

/-! ### Machine/Ops.lean -/

theorem Kept.setF {a : Nat} {f : Fld} {x : Nat} (h : Kept s t) : Kept s (t.setF a f x) := by
  unfold State.setF
  exact h.wr

theorem Kept.setB {a : Nat} {f : Fld} {b : Bool} (h : Kept s t) : Kept s (t.setB a f b) := by
  unfold State.setB
  exact h.setF

theorem Kept.raise {a : Nat} {f : Fld} (h : Kept s t) : Kept s (t.raise a f) := by
  unfold State.raise
  exact h.setF

theorem Kept.bump {a : Nat} {f : Fld} {n : Nat} (h : Kept s t) : Kept s (t.bump a f n) := by
  unfold State.bump
  exact h.setF

theorem Kept.wrPair {lo hi v : Nat} (h : Kept s t) : Kept s (t.wrPair lo hi v) := by
  unfold State.wrPair
  exact h.wr.wr

theorem Kept.wrRW {a : Nat} {v : Word} (h : Kept s t) : Kept s (t.wrRW a v) := by
  unfold State.wrRW
  split
  · exact h
  · exact h.wr

theorem Kept.at_ {t' : Nat} (h : Kept s t) : Kept s (t.at_ t') := by
  unfold State.at_
  exact .same h

theorem Kept.used (h : Kept s t) : Kept s t.used := by
  unfold State.used
  exact .same h

theorem Kept.usedN {n : Nat} (h : Kept s t) : Kept s (t.usedN n) := by
  unfold State.usedN
  exact .same h

theorem Kept.emit {o : Output} (h : Kept s t) : Kept s (t.emit o) := by
  unfold State.emit
  exact .same h

theorem Kept.answer {r : Resp} {data : List Nat} (h : Kept s t) : Kept s (t.answer r data) := by
  unfold State.answer
  exact .same h

theorem Kept.setC {d : Fin 6} {x : Capture} (h : Kept s t) : Kept s (t.setC d x) := by
  unfold State.setC
  exact .same h

theorem Kept.modC {d : Fin 6} {f : Capture → Capture} (h : Kept s t) : Kept s (t.modC d f) := by
  unfold State.modC
  exact h.setC

theorem Kept.setV {v : Fin 64} {x : Vault} (h : Kept s t) : Kept s (t.setV v x) := by
  unfold State.setV
  exact .same h

theorem Kept.tally {d code n : Nat} (h : Kept s t) : Kept s (t.tally d code n) := by
  unfold State.tally
  exact .dite (fun _ => (.same h)) fun _ => h

/-! ### Machine/Frames.lean -/

theorem Kept.modFab {d : Fin 6} {f : Fabric → Fabric} (h : Kept s t) : Kept s (t.modFab d f) := by
  unfold State.modFab
  exact .same h

/-! ### Machine/G6.lean -/

theorem Kept.setSeam {d k : Nat} {f : SeamEnd → SeamEnd} (h : Kept s t) : Kept s (t.setSeam d k f) := by
  unfold State.setSeam
  exact .same h

theorem Kept.setBridge {d : Nat} {f : Bridge → Bridge} (h : Kept s t) : Kept s (t.setBridge d f) := by
  unfold State.setBridge
  exact .same h

theorem Kept.sendFlit {fuel d path : Nat} (h : Kept s t) : Kept s (t.sendFlit fuel d path) := by
  induction fuel generalizing t d path with
  | zero => exact h
  | succ n ih =>
    unfold State.sendFlit
    split
    · exact h
    · split
      · exact h
      · exact ih h.setSeam.tally

theorem Kept.carry {a t' : Nat} (h : Kept s t) : Kept s (t.carry a t') := by
  unfold State.carry
  exact .ite h h.sendFlit

theorem Kept.roundTrip {a t' : Nat} (h : Kept s t) : Kept s (t.roundTrip a t') := by
  unfold State.roundTrip
  exact .ite h h.carry.carry

theorem Kept.setRegionMap {m : List Word} (h : Kept s t) : Kept s (t.setRegionMap m) := by
  unfold State.setRegionMap
  exact .forEach (fun _ _ k1 => k1.wr.wr.wr.wr) h

theorem Kept.lineRead {key : Nat} (h : Kept s t) : Kept s (t.lineRead key) := by
  unfold State.lineRead
  split
  · exact h
  · exact h.used

theorem Kept.keepMarks {key : Nat} {e : List Ecc} (h : Kept s t) : Kept s (t.keepMarks key e) := by
  unfold State.keepMarks
  split
  · exact h.setLine
  · exact h

theorem Kept.elog {q a kind src : Nat} (h : Kept s t) : Kept s (t.elog q a kind src) := by
  unfold State.elog
  exact h.wr.wr

theorem Kept.countCe {q n : Nat} (h : Kept s t) : Kept s (t.countCe q n) := by
  unfold State.countCe
  exact .ite h h.tally.bump.raise

theorem Kept.countUe {q n a kind src : Nat} (h : Kept s t) : Kept s (t.countUe q n a kind src) := by
  unfold State.countUe
  exact .ite h h.bump.raise.elog

theorem Kept.rhNow {q : Fin 24} (h : Kept s t) : Kept s (t.rhNow q) := by
  unfold State.rhNow
  extract_lets _ _
  exact .ite h h.setP

theorem Kept.throttleWait {q : Fin 24} {ch src bank : Nat} (h : Kept s t) : Kept s (t.throttleWait q ch src bank) := by
  unfold State.throttleWait
  split
  · exact h
  · extract_lets _
    exact .ite h.tally.at_.rhNow h

theorem Kept.throttleAt {q : Fin 24} {ch src bank : Nat} {new : Bool} (h : Kept s t) :
    Kept s (t.throttleAt q ch src bank new) := by
  unfold State.throttleAt
  extract_lets _ _ _
  exact .ite h.setP h

theorem Kept.countRow {q : Fin 24} {ch src bank row : Nat} (h : Kept s t) : Kept s (t.countRow q ch src bank row) := by
  unfold State.countRow
  extract_lets _ _ _ _ _ x1 x2 x3 x4
  have hx1 : Kept s x1 := h.setP
  have hx2 : Kept s x2 := hx1.throttleAt
  have hx3 : Kept s x3 := hx2.bump
  have hx4 : Kept s x4 := hx3.wr
  exact .ite (.ite hx1 (.ite hx1.raise hx4.raise)) h

theorem Kept.activate {q : Fin 24} {ch src : Nat} {act : Option (Nat × Nat)} (h : Kept s t) :
    Kept s (t.activate q ch src act) := by
  unfold State.activate
  split
  · exact h
  · extract_lets x1
    have hx1 : Kept s x1 := h.tally.rhNow
    exact hx1.throttleWait.throttleAt.countRow

theorem Kept.tagFailure {v a kind src : Nat} (h : Kept s t) : Kept s (t.tagFailure v a kind src) := by
  unfold State.tagFailure
  extract_lets x1 x2
  have hx1 : Kept s x1 := h.wr.wr
  have hx2 : Kept s x2 := hx1.raise
  exact .ite h (.same hx2)

theorem Kept.countWrite {v : Fin 64} (h : Kept s t) : Kept s (t.countWrite v) := by
  unfold State.countWrite
  extract_lets -underBinder _ _ x1
  have hx1 : Kept s x1 := h.wrPair
  split
  · exact hx1
  · split
    · split
      · extract_lets _
        exact hx1.setV
      · exact hx1
    · exact .ite hx1.raise hx1

theorem Kept.noteAccess {src a : Nat} (h : Kept s t) : Kept s (t.noteAccess src a) := by
  unfold State.noteAccess
  split
  · exact .ite h.raise h
  · exact h

theorem Kept.g6ReadLine {q : Fin 24} {key src a mask : Nat} {e : List Ecc} (h : Kept s t) :
    Kept s (t.g6ReadLine q key src a mask e).st := by
  unfold State.g6ReadLine
  extract_lets _ _ _ x1 x2 x3
  have hx1 : Kept s x1 := h.lineRead.keepMarks
  have hx2 : Kept s x2 := hx1.countCe
  have hx3 : Kept s x3 := hx2.countUe
  split
  · dsimp only
    exact hx3
  · split
    · dsimp only
      exact hx3
    · dsimp only
      exact hx3.tagFailure

theorem Kept.storeLine {key a : Nat} {plain : Line512} (h : Kept s t) : Kept s (t.storeLine key a plain) := by
  unfold State.storeLine
  extract_lets _ x1
  have hx1 : Kept s x1 := h.setLine
  split
  · exact hx1
  · exact hx1.countWrite

theorem Kept.g6Merge {q : Fin 24} {key src a kind : Nat} {merge : Line512 → Line512} {e : List Ecc} (h : Kept s t) :
    Kept s (t.g6Merge q key src a kind merge e).st := by
  unfold State.g6Merge
  extract_lets _ _ _ x1 x2 x3
  have hx1 : Kept s x1 := h.lineRead.keepMarks
  have hx2 : Kept s x2 := hx1.countCe
  have hx3 : Kept s x3 := hx2.countUe
  split
  · dsimp only
    exact hx3.raise
  · split
    · dsimp only
      exact hx3.storeLine
    · dsimp only
      exact hx3.tagFailure

theorem Kept.edcRetry {q n : Nat} (h : Kept s t) : Kept s (t.edcRetry q n) := by
  unfold State.edcRetry
  exact .ite h h.bump

theorem Kept.g6AtPort {q : Fin 24} {ch line src a : Nat} {kind : G6Kind} {env : G6Env} (h : Kept s t) :
    Kept s (t.g6AtPort q ch line src a kind env).st := by
  unfold State.g6AtPort
  extract_lets _ x1 x2 x3 x4
  have hx1 : Kept s x1 := h.tally
  have hx2 : Kept s x2 := .ite hx1.tally hx1
  have hx3 : Kept s x3 := hx2.activate.edcRetry
  have hx4 : Kept s x4 := hx3.raise.elog
  split
  · dsimp only
    exact hx3
  · split
    · dsimp only
      exact .ite hx4.setLine hx4
    · split
      · exact hx3.g6ReadLine
      · dsimp only
        exact hx3.storeLine
      · exact hx3.g6Merge
      · exact hx3.g6Merge

theorem Kept.g6Trip {src a : Nat} (h : Kept s t) : Kept s (t.g6Trip src a) := by
  unfold State.g6Trip
  split
  · exact h
  · exact h.roundTrip

theorem Kept.g6Access {src a : Nat} {kind : G6Kind} {env : G6Env} (h : Kept s t) : Kept s (t.g6Access src a kind env).st := by
  unfold State.g6Access
  extract_lets _ x1 x2
  have hx1 : Kept s x1 := .ite h.tally h
  have hx2 : Kept s x2 := hx1.g6Trip
  split
  · dsimp only
    exact .ite hx2.noteAccess hx2
  · split
    · dsimp only
      exact hx2
    · split
      · exact hx2.g6AtPort
      · dsimp only
        exact hx2

theorem Kept.g6WriteBytes {src a fuel : Nat} {bytes : List Nat} {envs : List G6Env} (h : Kept s t) :
    Kept s (t.g6WriteBytes src a bytes envs fuel).2 := by
  induction fuel generalizing t a bytes envs with
  | zero => exact h
  | succ n ih =>
    unfold State.g6WriteBytes
    split
    · exact h
    · exact ih h.g6Access

theorem Kept.g6ReadBytes {src a len fuel : Nat} {envs : List G6Env} (h : Kept s t) :
    Kept s (t.g6ReadBytes src a len envs fuel).2.2 := by
  induction fuel generalizing t a len envs with
  | zero => exact h
  | succ n ih =>
    unfold State.g6ReadBytes
    split
    · exact h
    · exact ih h.g6Access

/-! ### Machine/Apg.lean -/

theorem Kept.setUnitX {g : Nat} {u' : AUnit} (h : Kept s t) : Kept s (t.setUnitX g u') := by
  unfold State.setUnitX
  exact h.wr.wr.wr

theorem Kept.setUnitY {g : Nat} {u' : AUnit} (h : Kept s t) : Kept s (t.setUnitY g u') := by
  unfold State.setUnitY
  exact h.wr.wr.wr

theorem Kept.apgAdvance {g : Fin 24} {w : PatWord} (h : Kept s t) : Kept s (t.apgAdvance g w) := by
  unfold State.apgAdvance
  extract_lets _ _ x1 x2 x3 x4
  have hx1 : Kept s x1 := h.setUnitX.setUnitY
  have hx2 : Kept s x2 := hx1.wrPair
  have hx3 : Kept s x3 := hx2.modG
  have hx4 : Kept s x4 := .ite hx3.raise hx3
  exact .ite hx4.raise hx4

theorem Kept.apgStart {g : Fin 24} (h : Kept s t) : Kept s (t.apgStart g) := by
  unfold State.apgStart
  extract_lets x1 x2 x3 x4
  have hx1 : Kept s x1 := h.wr
  have hx2 : Kept s x2 := hx1.wr
  have hx3 : Kept s x3 := hx2.wr
  have hx4 : Kept s x4 := hx3.wr
  exact hx4.modG

theorem Kept.apgRestore {g : Fin 24} (h : Kept s t) : Kept s (t.apgRestore g) := by
  unfold State.apgRestore
  split
  · exact h
  · extract_lets _ x1 _ x2 x3
    have hx1 : Kept s x1 := h.setUnitX
    have hx2 : Kept s x2 := hx1.setUnitY
    have hx3 : Kept s x3 := hx2.wrPair
    exact hx3.modG

/-! ### Machine/Pins.lean -/

theorem Kept.place1 {g : Fin 24} {lane : Fin 64} {time : Nat} {level : Bool} (h : Kept s t) :
    Kept s (t.place1 g lane time level) := by
  unfold State.place1
  extract_lets _ _ x1
  have hx1 : Kept s x1 := h.modG
  exact .ite h (.ite hx1.raise hx1)

theorem Kept.driveSlot {g : Fin 24} {p : Fin 32} {w j bs period : Nat} {v : VecData} (h : Kept s t) :
    Kept s (t.driveSlot g p w j bs period v) := by
  unfold State.driveSlot
  extract_lets _ _ _ _ x1
  have hx1 : Kept s x1 := by
    unfold x1
    split
    · exact h
    · exact h.place1
  split
  · exact hx1
  · exact hx1.place1

theorem Kept.driveVector {g : Fin 24} {w : PatWord} {bs period : Nat} {v : VecData} (h : Kept s t) :
    Kept s (t.driveVector g w bs period v) := by
  unfold State.driveVector
  exact .ite h (.forEach (fun _ _ k1 => .forEach (fun _ _ k2 => k2.driveSlot) k1) h)

theorem Kept.idleAt {g : Fin 24} {t' : Nat} (h : Kept s t) : Kept s (t.idleAt g t') := by
  unfold State.idleAt
  extract_lets _
  exact h.modG

theorem Kept.fdTake {g : Fin 24} (h : Kept s t) : Kept s (t.fdTake g) := by
  unfold State.fdTake
  split
  · exact h.modG.bump.raise
  · exact h.modG

theorem Kept.fdWord {g : Fin 24} (h : Kept s t) : Kept s (t.fdWord g).2 := by
  unfold State.fdWord
  extract_lets x1
  have hx1 : Kept s x1 := .ite h.fdTake h
  split
  · dsimp only
    exact hx1.modG
  · dsimp only
    exact h

/-! ### Machine/FailVector.lean -/

theorem Kept.smaskSet {d site : Nat} (h : Kept s t) : Kept s (t.smaskSet d site) := by
  unfold State.smaskSet
  exact h.wr

theorem Kept.unset {d : Fin 6} {site be : Nat} (h : Kept s t) : Kept s (t.unset d site be) := by
  unfold State.unset
  exact .forEach (fun _ _ k1 => .ite (.forEach (fun _ _ k2 => .ite k2 k2.modC) k1.modC) (.modG (.forEach (fun _ _ k3 => .ite k3 k3.modC) k1.modC))) h

theorem Kept.maskOnFail {g : Fin 24} {site be : Nat} (h : Kept s t) : Kept s (t.maskOnFail g site be) := by
  unfold State.maskOnFail
  extract_lets _ x1
  have hx1 : Kept s x1 := h.modC
  exact .forEach (fun _ _ k2 => .ite k2 k2.modC) hx1

theorem Kept.setCnt {g : Fin 24} {i : Nat} {c : Counter} (h : Kept s t) : Kept s (t.setCnt g i c) := by
  unfold State.setCnt
  exact h.modG

theorem Kept.setSite {d : Fin 6} {i : Nat} {c : Counter} (h : Kept s t) : Kept s (t.setSite d i c) := by
  unfold State.setSite
  exact h.modC

theorem Kept.cntCauses {g : Fin 24} {old new : Counter} (h : Kept s t) : Kept s (t.cntCauses g old new) := by
  unfold State.cntCauses
  extract_lets x1
  have hx1 : Kept s x1 := .ite h.raise h
  exact .ite hx1.raise hx1

theorem Kept.cntUpdate {g : Fin 24} {i n : Nat} {bad : Bool} (h : Kept s t) : Kept s (t.cntUpdate g i n bad) := by
  unfold State.cntUpdate
  extract_lets _ _
  exact h.setCnt.cntCauses

theorem Kept.cntSpoil {g : Fin 24} {i : Nat} (h : Kept s t) : Kept s (t.cntSpoil g i) := by
  unfold State.cntSpoil
  extract_lets _
  exact h.setCnt.cntCauses

theorem Kept.spoilAncestors {g : Fin 24} {p : Nat} (h : Kept s t) : Kept s (t.spoilAncestors g p) := by
  unfold State.spoilAncestors
  extract_lets x1
  have hx1 : Kept s x1 := h.cntSpoil
  split
  · exact hx1
  · exact hx1.setSite

theorem Kept.applyInc {g : Fin 24} {v : CntInc} (h : Kept s t) : Kept s (t.applyInc g v) := by
  unfold State.applyInc
  extract_lets x1 x2
  have hx1 : Kept s x1 := .forEach (fun _ _ k3 => .ite k3.cntUpdate.spoilAncestors k3.cntUpdate) h
  have hx2 : Kept s x2 := .ite hx1 hx1.cntUpdate
  exact .forEach (fun _ _ k4 => k4.setSite) hx2

theorem Kept.settleCnt {g : Fin 24} {t' : Nat} (h : Kept s t) : Kept s (t.settleCnt g t') := by
  unfold State.settleCnt
  extract_lets _ x1
  have hx1 : Kept s x1 := h.modG
  exact .forEach (fun _ _ k2 => k2.applyInc) hx1

theorem Kept.modRun {g : Fin 24} {no : Nat} {f : RunLog → RunLog} (h : Kept s t) : Kept s (t.modRun g no f) := by
  unfold State.modRun
  exact h.modG

theorem Kept.logVector {g : Fin 24} {v : FcuVec} (h : Kept s t) : Kept s (t.logVector g v) := by
  unfold State.logVector
  extract_lets _ _ _ x1
  have hx1 : Kept s x1 := h.modRun
  exact .ite (.ite h.modRun.raise hx1.modG) h

theorem Kept.captureVector {g : Fin 24} {v : FcuVec} (h : Kept s t) : Kept s (t.captureVector g v) := by
  unfold State.captureVector
  exact .ite h.modG h

theorem Kept.bitmapVector {g : Fin 24} {v : FcuVec} (h : Kept s t) : Kept s (t.bitmapVector g v) := by
  unfold State.bitmapVector
  extract_lets _ _ _ _ _
  exact .ite (.ite h.raise h.modG) h

theorem Kept.raeVector {g : Fin 24} {v : FcuVec} (h : Kept s t) : Kept s (t.raeVector g v) := by
  unfold State.raeVector
  exact .ite h.modG h

theorem Kept.misrVector {g : Fin 24} {v : FcuVec} (h : Kept s t) : Kept s (t.misrVector g v) := by
  unfold State.misrVector
  extract_lets _ x1
  have hx1 : Kept s x1 := h.wrPair
  exact .ite (.ite hx1.wrPair hx1) h

theorem Kept.countVector {g : Fin 24} {v : FcuVec} {bad : List Nat} (h : Kept s t) : Kept s (t.countVector g v bad) := by
  unfold State.countVector
  extract_lets _ _ _ _
  exact .ite h h.modG.settleCnt

theorem Kept.failPortStage {g : Fin 24} {v : FcuVec} (h : Kept s t) : Kept s (t.failPortStage g v) := by
  unfold State.failPortStage
  extract_lets _ _
  exact h.modG

theorem Kept.fcuVector {g : Fin 24} {v : FcuVec} {bad : List Nat} (h : Kept s t) : Kept s (t.fcuVector g v bad) := by
  unfold State.fcuVector
  extract_lets _ _ _ _ x1 x2 x3 x4
  have hx1 : Kept s x1 := .ite h h.tally.tally
  have hx2 : Kept s x2 := hx1.countVector.logVector
  have hx3 : Kept s x3 := hx2.captureVector.bitmapVector.raeVector
  have hx4 : Kept s x4 := hx3.misrVector.failPortStage
  exact .forEach (fun _ _ k5 => k5.unset.maskOnFail) hx4

/-! ### Machine/FailCapture.lean -/

theorem Kept.vsqCmdErr {g : Nat} (h : Kept s t) : Kept s (t.vsqCmdErr g) := by
  unfold State.vsqCmdErr
  exact h.raise

theorem Kept.maskArrive {d : Fin 6} {e : Nat × Nat} (h : Kept s t) : Kept s (t.maskArrive d e) := by
  unfold State.maskArrive
  exact h.modC.smaskSet

theorem Kept.execSiteMaskArrive {d : Fin 6} {site : Fin 256} (h : Kept s t) : KeptOut s (execSiteMaskArrive d site t) := by
  unfold Machine.execSiteMaskArrive
  split
  · exact .next h
  · exact .next h.at_.maskArrive

theorem Kept.execFcdSmaskWrite {d : Fin 6} {i : Fin 8} {bits : BitVec 32} (h : Kept s t) :
    KeptOut s (execFcdSmaskWrite d i bits t) := by
  unfold Machine.execFcdSmaskWrite
  extract_lets x1 _
  have hx1 : Kept s x1 := h.wr
  exact .next hx1.modC

theorem Kept.fcdCmdErr {d : Nat} (h : Kept s t) : Kept s (t.fcdCmdErr d) := by
  unfold State.fcdCmdErr
  exact h.raise

theorem Kept.execClrsite {d : Fin 6} (h : Kept s t) : KeptOut s (execClrsite d t) := by
  unfold Machine.execClrsite
  extract_lets x1
  have hx1 : Kept s x1 := .forEach (fun _ _ k2 => k2.settleCnt) h
  exact .ite (.next h.fcdCmdErr) (.next hx1.modC)

theorem Kept.clearCounters {g : Fin 24} (h : Kept s t) : Kept s (t.clearCounters g) := by
  unfold State.clearCounters
  exact h.settleCnt.modG

theorem Kept.execClrcnt {g : Fin 24} (h : Kept s t) : KeptOut s (execClrcnt g t) := by
  unfold Machine.execClrcnt
  exact .ite (.next h.vsqCmdErr) (.next h.clearCounters)

theorem Kept.updLfull {g : Fin 24} (h : Kept s t) : Kept s (t.updLfull g) := by
  unfold State.updLfull
  extract_lets _ _ x1
  have hx1 : Kept s x1 := h.setB
  exact .ite hx1.raise hx1

theorem Kept.execLreset {g : Fin 24} (h : Kept s t) : KeptOut s (execLreset g t) := by
  unfold Machine.execLreset
  extract_lets x1
  have hx1 : Kept s x1 := h.wr.wr.wr
  exact .ite (.next h.vsqCmdErr) (.next hx1.setB.updLfull)

theorem Kept.execCreset {g : Fin 24} (h : Kept s t) : KeptOut s (execCreset g t) := by
  unfold Machine.execCreset
  extract_lets x1
  have hx1 : Kept s x1 := h.wr.wr.wr
  exact .ite (.next h.vsqCmdErr) (.next hx1.setB)

theorem Kept.cntSnapshot {g : Fin 24} (h : Kept s t) : Kept s (t.cntSnapshot g) := by
  unfold State.cntSnapshot
  extract_lets _
  refine .forEach (fun _ _ k2 => ?_) h
  split
  · exact k2
  · exact k2.applyInc

theorem Kept.readMarks {r : CounterRef} {bad : List Nat} (h : Kept s t) : Kept s (t.readMarks r bad) := by
  unfold State.readMarks
  split
  · exact .ite h (.ite h.cntSpoil h.cntSpoil.spoilAncestors)
  · exact .ite h h.setSite
  · exact .forEach (fun _ _ k1 => .ite k1.cntSpoil k1) h
  · exact .forEach (fun _ _ k2 => .ite k2.setSite k2) h
  · exact .forEach (fun _ _ k3 => .ite k3.cntSpoil k3) h

theorem Kept.counterRead {r : CounterRef} {flag : Bool} {bad : List Nat} (h : Kept s t) :
    Kept s (t.counterRead r flag bad).2 := by
  unfold State.counterRead
  extract_lets x1 x2 _ x3
  have hx1 : Kept s x1 := .forEach (fun _ _ k4 => k4.settleCnt) h
  have hx2 : Kept s x2 := hx1.readMarks
  have hx3 : Kept s x3 := .forEach (fun _ _ k5 => k5.cntSnapshot) hx2
  dsimp only
  exact .ite hx2.usedN hx2

theorem Kept.execCounterRead {r : CounterRef} {flag : Bool} {bad : List Nat} (h : Kept s t) :
    KeptOut s (execCounterRead r flag bad t) := by
  unfold Machine.execCounterRead
  extract_lets x1
  have hx1 : Kept s x1.2 := h.counterRead
  exact .next hx1.answer

theorem Kept.undefineLine {src a len : Nat} (h : Kept s t) : Kept s (t.undefineLine src a len) := by
  unfold State.undefineLine
  extract_lets -underBinder _
  split
  · split
    · exact h
    · extract_lets _ _ _
      exact h.setLine.used
  · exact h

theorem Kept.undefineSlot {src a len fuel : Nat} (h : Kept s t) : Kept s (t.undefineSlot src a len fuel) := by
  induction fuel generalizing t a len with
  | zero => exact h
  | succ n ih =>
    unfold State.undefineSlot
    split
    · exact h
    · exact ih h.undefineLine

theorem Kept.writeSlot {src a : Nat} {bytes : List Nat} {envs : List G6Env} (h : Kept s t) :
    Kept s (t.writeSlot src a bytes envs).2 := by
  unfold State.writeSlot
  extract_lets x1
  have hx1 : Kept s x1.2 := h.g6WriteBytes
  split
  · dsimp only
    exact hx1
  · dsimp only
    exact hx1.undefineSlot

theorem Kept.countLogLoss {g : Fin 24} {run : Nat} (h : Kept s t) : Kept s (t.countLogLoss g run) := by
  unfold State.countLogLoss
  extract_lets x1
  have hx1 : Kept s x1 := h.tally.bump.raise
  exact hx1.raise.modRun

theorem Kept.logEnter {g : Fin 24} (h : Kept s t) : Kept s (t.logEnter g) := by
  unfold State.logEnter
  split
  · exact h
  · extract_lets x1 _ _
    have hx1 : Kept s x1 := h.at_.modG
    exact .ite hx1.modG.modRun hx1.countLogLoss

theorem Kept.execLogRecordEnter {g : Fin 24} (h : Kept s t) : KeptOut s (execLogRecordEnter g t) := by
  unfold Machine.execLogRecordEnter
  exact .next h.logEnter

theorem Kept.times {n : Nat} {f : State → State} (h : Kept s t) (hf : ∀ y0, Kept s y0 → Kept s (f y0)) :
    Kept s (times n f t) := by
  unfold Machine.times
  exact .forEach (fun _ _ k1 => hf _ k1) h

theorem Kept.logEnterTo {g : Fin 24} {t' : Nat} (h : Kept s t) : Kept s (t.logEnterTo g t') := by
  unfold State.logEnterTo
  exact h.times (fun _ k1 => k1.logEnter)

theorem Kept.writeRecord {g : Fin 24} {r : BitVec 256} {env : G6Env} (h : Kept s t) : Kept s (t.writeRecord g r env).2 := by
  unfold State.writeRecord
  extract_lets _ _
  exact h.writeSlot

theorem Kept.execLogTake {g : Fin 24} {env : G6Env} (h : Kept s t) : KeptOut s (execLogTake g env t) := by
  unfold Machine.execLogTake
  extract_lets _ x1 x2
  have hx1 : Kept s x1 := h.logEnterTo
  have hx2 : Kept s x2 := hx1.at_.modG.updLfull
  split
  · exact .next hx2
  · split
    · split
      · exact .next hx2
      · extract_lets x3 x4
        have hx3 : Kept s x3.2 := hx2.writeRecord
        have hx4 : Kept s x4 := hx3.modG
        exact .next hx4.modRun.updLfull
    · split
      · exact .next hx2
      · extract_lets x5 x6
        have hx5 : Kept s x5 := hx2.modG
        have hx6 : Kept s x6.2 := hx5.writeRecord
        exact .next hx6.modG.updLfull

theorem Kept.execLogWriteDone {g : Fin 24} (h : Kept s t) : KeptOut s (execLogWriteDone g t) := by
  unfold Machine.execLogWriteDone
  split
  · exact .next h
  · extract_lets x1 x2 x3 x4
    have hx1 : Kept s x1 := h.modG
    have hx2 : Kept s x2 := hx1.wr
    have hx3 : Kept s x3 := .ite hx2.modRun hx2
    have hx4 : Kept s x4 := .ite hx3.countLogLoss.raise (.ite hx3 hx3.tally)
    exact .next hx4.updLfull

theorem Kept.countCapLoss {g : Fin 24} (h : Kept s t) : Kept s (t.countCapLoss g) := by
  unfold State.countCapLoss
  extract_lets x1
  have hx1 : Kept s x1 := h.bump.raise
  exact hx1.raise

theorem Kept.capEnter {g : Fin 24} (h : Kept s t) : Kept s (t.capEnter g) := by
  unfold State.capEnter
  split
  · exact h
  · extract_lets x1 _
    have hx1 : Kept s x1 := h.at_.modG
    exact .ite hx1.modG hx1.countCapLoss.modG

theorem Kept.execCaptureEnter {g : Fin 24} (h : Kept s t) : KeptOut s (execCaptureEnter g t) := by
  unfold Machine.execCaptureEnter
  exact .next h.capEnter

theorem Kept.capEnterTo {g : Fin 24} {t' : Nat} (h : Kept s t) : Kept s (t.capEnterTo g t') := by
  unfold State.capEnterTo
  exact h.times (fun _ k1 => k1.capEnter)

theorem Kept.execCaptureTake {g : Fin 24} {envs : List G6Env} (h : Kept s t) : KeptOut s (execCaptureTake g envs t) := by
  unfold Machine.execCaptureTake
  extract_lets -underBinder _ x1 x2
  have hx1 : Kept s x1 := h.capEnterTo
  have hx2 : Kept s x2 := hx1.at_.modG
  split
  · exact .next hx2
  · split
    · exact .next hx2
    · extract_lets _ _ x3
      have hx3 : Kept s x3.2 := hx2.modG.writeSlot
      exact .next hx3.modG

theorem Kept.execCaptureWriteDone {g : Fin 24} (h : Kept s t) : KeptOut s (execCaptureWriteDone g t) := by
  unfold Machine.execCaptureWriteDone
  split
  · exact .next h
  · extract_lets x1 x2
    have hx1 : Kept s x1 := h.modG
    have hx2 : Kept s x2 := hx1.wr
    exact .next (.ite hx2.countCapLoss.raise hx2)

theorem Kept.bmEnter {g : Fin 24} (h : Kept s t) : Kept s (t.bmEnter g) := by
  unfold State.bmEnter
  split
  · exact h
  · extract_lets x1 _ x2 x3 x4
    have hx1 : Kept s x1 := h.at_.modG
    have hx2 : Kept s x2 := hx1.tally.bump
    have hx3 : Kept s x3 := hx2.bump
    have hx4 : Kept s x4 := hx3.raise.raise
    exact .ite hx1.modG hx4.raise

theorem Kept.execLineUpdateEnter {g : Fin 24} (h : Kept s t) : KeptOut s (execLineUpdateEnter g t) := by
  unfold Machine.execLineUpdateEnter
  exact .next h.bmEnter

theorem Kept.bmEnterTo {g : Fin 24} {t' : Nat} (h : Kept s t) : Kept s (t.bmEnterTo g t') := by
  unfold State.bmEnterTo
  exact h.times (fun _ k1 => k1.bmEnter)

theorem Kept.lineLost {d plane : Nat} (h : Kept s t) : Kept s (t.lineLost d plane) := by
  unfold State.lineLost
  exact h.bump.raise

theorem Kept.orLine {d : Fin 6} {l : CatchLine} {env : G6Env} (h : Kept s t) : Kept s (t.orLine d l env) := by
  unfold State.orLine
  extract_lets x1
  have hx1 : Kept s x1.st := h.g6Access
  exact hx1.modC

theorem Kept.catchHit {d : Fin 6} {u' : LineUpd} {l : CatchLine} {lineUe : Bool} (h : Kept s t) :
    Kept s (t.catchHit d u' l lineUe) := by
  unfold State.catchHit
  extract_lets _ x1
  have hx1 : Kept s x1 := h.modC
  exact .ite hx1.lineLost hx1

theorem Kept.catchMiss {d : Fin 6} {u' : LineUpd} {lineUe : Bool} {env : G6Env} (h : Kept s t) :
    Kept s (t.catchMiss d u' lineUe env) := by
  unfold State.catchMiss
  extract_lets _ x1
  have hx1 : ∀ y0, Kept s y0 → Kept s (x1 y0) := by
    intro y0 ky0
    unfold x1
    exact ky0.modC
  split
  · exact hx1 _ h
  · split
    · exact hx1 _ h
    · extract_lets x2
      have hx2 : Kept s x2 := h.modC
      exact hx1 _ (.ite hx2.lineLost hx2.orLine)

theorem Kept.execCatchTake {d : Fin 6} {lineUe : Bool} {env : G6Env} (h : Kept s t) :
    KeptOut s (execCatchTake d lineUe env t) := by
  unfold Machine.execCatchTake
  extract_lets _ x1 x2
  have hx1 : Kept s x1 := .forEach (fun _ _ k3 => k3.bmEnterTo) h
  have hx2 : Kept s x2 := hx1.at_.modC
  split
  · exact .next hx2
  · split
    · exact .next hx2
    · extract_lets x4
      have hx4 : Kept s x4 := hx2.tally.modG.modC
      split
      · exact .next hx4.catchHit
      · exact .next hx4.tally.catchMiss

theorem Kept.execOrWriteDone {d : Fin 6} {lineUe : Bool} {env : G6Env} (h : Kept s t) :
    KeptOut s (execOrWriteDone d lineUe env t) := by
  unfold Machine.execOrWriteDone
  extract_lets x1
  have hx1 : ∀ y0, Kept s y0 → Kept s (x1 y0) := by
    intro y0 ky0
    unfold x1
    split
    · exact ky0
    · extract_lets x2
      have hx2 : Kept s x2 := ky0.modC
      exact .ite hx2.lineLost hx2
  split
  · exact .next (hx1 _ h)
  · split
    · exact .next h
    · extract_lets x3
      have hx3 : Kept s x3 := h.modC
      exact .ite (.next hx3.lineLost) (.next (hx1 _ hx3.orLine))

theorem Kept.execBmflush {d : Fin 6} (h : Kept s t) : KeptOut s (execBmflush d t) := by
  unfold Machine.execBmflush
  exact .next h.modC.raise

theorem Kept.execFlushDone {d : Fin 6} (h : Kept s t) : KeptOut s (execFlushDone d t) := by
  unfold Machine.execFlushDone
  exact .ite (.next h) (.next h.setB)

theorem Kept.execBmclr {d : Fin 6} {planes : BitVec 4} (h : Kept s t) : KeptOut s (execBmclr d planes t) := by
  unfold Machine.execBmclr
  exact .next (.forEach (fun _ _ k1 => k1.wr.wr.wr) h)

theorem Kept.raeEnter {g : Fin 24} (h : Kept s t) : Kept s (t.raeEnter g) := by
  unfold State.raeEnter
  split
  · exact h
  · extract_lets x1 x2 x3 _
    have hx1 : Kept s x1 := h.at_.modG
    have hx2 : Kept s x2 := hx1.bump.raise
    have hx3 : Kept s x3 := hx2.raise
    exact .ite hx1.modG (.ite hx3 hx3.modG)

theorem Kept.execRaeFeedEnter {g : Fin 24} (h : Kept s t) : KeptOut s (execRaeFeedEnter g t) := by
  unfold Machine.execRaeFeedEnter
  exact .next h.raeEnter

theorem Kept.raeEnterTo {g : Fin 24} {t' : Nat} (h : Kept s t) : Kept s (t.raeEnterTo g t') := by
  unfold State.raeEnterTo
  exact h.times (fun _ k1 => k1.raeEnter)

theorem Kept.execSigdone {g : Fin 24} (h : Kept s t) : KeptOut s (execSigdone g t) := by
  unfold Machine.execSigdone
  split
  · exact .next h
  · extract_lets x1
    have hx1 : Kept s x1 := h.settleCnt
    exact .ite (.next hx1.modG.raise) (.next h)

theorem Kept.execFailPortWord {g : Fin 24} (h : Kept s t) : KeptOut s (execFailPortWord g t) := by
  unfold Machine.execFailPortWord
  split
  · exact .next h
  · exact .next h.at_.modG.emit

end Sys2Proof.Machine
end

section
/-! The parts of the commands, and the commands, keep the stores canonical: one lemma for each function of
Machine/Repair, Machine/Tether, Machine/Conditions, Machine/Issue, Machine/Sequencer. -/
namespace Sys2Proof.Machine
variable {s t : State}
set_option Elab.async false

/-! ### Machine/Repair.lean -/

theorem Kept.setDom {d : Fin 6} {n : Nat} {x : Dom} (h : Kept s t) : Kept s (t.setDom d n x) := by
  unfold State.setDom
  exact h.modC

theorem Kept.domTouch {d : Fin 6} {n t' : Nat} {fail : Option (Nat × Nat × Nat × Nat)} (h : Kept s t) :
    Kept s (t.domTouch d n t' fail) := by
  unfold State.domTouch
  extract_lets _ _ _ x1
  have hx1 : Kept s x1 := h.tally.bump
  exact .ite h.modC hx1.modC

theorem Kept.memErr {d : Fin 6} {n : Nat} (h : Kept s t) : Kept s (t.memErr d n) := by
  unfold State.memErr
  extract_lets _
  exact h.setDom.raise

theorem Kept.domFail {d : Fin 6} {n sr sc r c : Nat} (h : Kept s t) : Kept s (t.domFail d n sr sc r c) := by
  unfold State.domFail
  extract_lets _ _ x1
  have hx1 : Kept s x1 := h.setDom
  exact .ite hx1.raise hx1

theorem Kept.execMissDone {d : Fin 6} {envs : List G6Env} (h : Kept s t) : KeptOut s (execMissDone d envs t) := by
  unfold Machine.execMissDone
  split
  · exact .next h
  · extract_lets x1 _ x2 x3 x4
    have hx1 : Kept s x1 := h.at_.modC
    have hx2 : Kept s x2 := by
      unfold x2
      split
      · exact hx1
      · extract_lets x5
        have hx5 : Kept s x5.2 := hx1.used.g6WriteBytes
        exact .ite hx5 hx5.memErr
    have hx3 : Kept s x3.2.2 := hx2.g6ReadBytes
    have hx4 : Kept s x4 := .ite (.ite hx3 hx3.memErr) hx2
    split
    · exact .next hx4
    · exact .next hx4.domFail

theorem Kept.raeTake {d : Fin 6} {i : RaeItem} {t' : Nat} (h : Kept s t) : Kept s (t.raeTake d i t') := by
  unfold State.raeTake
  extract_lets -underBinder x1 x2
  have hx1 : Kept s x1 := h.bump.raise
  have hx2 : Kept s x2 := h.tally
  split
  · exact hx1.raise
  · split
    · exact hx2.bump.raise
    · extract_lets x3 _ _ x4
      have hx3 : Kept s x3 := hx2.bump.raise
      have hx4 : Kept s x4 := hx2.domTouch
      exact .ite hx3.modC (.ite hx4.domFail hx4)

theorem Kept.raeCmdErr {d : Nat} (h : Kept s t) : Kept s (t.raeCmdErr d) := by
  unfold State.raeCmdErr
  exact h.raise

theorem Kept.raeCommand {d : Fin 6} {op site cut : Nat} (h : Kept s t) : Kept s (t.raeCommand d op site cut) := by
  unfold State.raeCommand
  exact .ite h.raeCmdErr (.ite h.raeCmdErr (.ite h.bump.raeCmdErr h.modC))

theorem Kept.raeParam {d : Fin 6} {p cut : Nat} (h : Kept s t) : Kept s (t.raeParam d p cut) := by
  unfold State.raeParam
  exact .ite h.raeCmdErr h.raeCommand

theorem Kept.pulseTrg {g : Fin 24} {p t' : Nat} (h : Kept s t) : Kept s (t.pulseTrg g p t') := by
  unfold State.pulseTrg
  extract_lets _
  exact .ite h.raise h.modG.emit

theorem Kept.giveDue {d : Fin 6} {e : Nat × Nat × Nat} (h : Kept s t) : Kept s (t.giveDue d e) := by
  unfold State.giveDue
  extract_lets _ _
  split
  · exact h.raeParam
  · exact h.setF.raise
  · exact h.raise
  · exact h.smaskSet
  · exact h.pulseTrg

theorem Kept.deliverDie {d : Fin 6} {t' : Nat} (h : Kept s t) : Kept s (t.deliverDie d t') := by
  unfold State.deliverDie
  extract_lets _ x1
  have hx1 : Kept s x1 := .ite h (.forEach (fun _ _ k2 => k2.giveDue) h.modC)
  exact .forEach (fun _ _ k3 => k3.maskArrive) hx1

theorem Kept.raiseWrsv {g : Fin 24} {t' : Nat} (h : Kept s t) : Kept s (t.raiseWrsv g t') := by
  unfold State.raiseWrsv
  exact .ite h.modG.raise h

theorem Kept.deliver {t' : Nat} (h : Kept s t) : Kept s (t.deliver t') := by
  unfold State.deliver
  exact .forEach (fun _ _ k2 => k2.raiseWrsv.settleCnt) (.forEach (fun _ _ k1 => k1.deliverDie) h)

theorem Kept.nextTrig {d : Fin 6} (h : Kept s t) : Kept s (t.nextTrig d) := by
  unfold State.nextTrig
  split
  · exact h.at_.deliver
  · exact h.deliver

theorem Kept.execRaeIntake {d : Fin 6} (h : Kept s t) : KeptOut s (execRaeIntake d t) := by
  unfold Machine.execRaeIntake
  extract_lets _ x1 x2 _
  have hx1 : Kept s x1 := .forEach (fun _ _ k3 => k3.raeEnterTo) h
  have hx2 : Kept s x2 := hx1.at_.deliver.modC
  split
  · exact .next hx2
  · split
    · exact .next hx2
    · split
      · exact .next hx2
      · extract_lets x4
        have hx4 : Kept s x4 := hx2.modG.modC
        exact .next (.ite hx4.raeTake hx4)

theorem Kept.execClrsmask {d : Fin 6} (h : Kept s t) : KeptOut s (execClrsmask d t) := by
  unfold Machine.execClrsmask
  extract_lets x1
  have hx1 : Kept s x1 := h.deliver
  exact .ite (.next hx1.fcdCmdErr) (.next (.modC (.forEach (fun _ _ k2 => k2.wr) hx1)))

theorem Kept.raeWritten {d : Fin 6} {op site : Nat} (h : Kept s t) : Kept s (t.raeWritten d op site) := by
  unfold State.raeWritten
  exact h.deliver.raeCommand

theorem Kept.execSolveAll {d : Fin 6} (h : Kept s t) : KeptOut s (execSolveAll d t) := by
  unfold Machine.execSolveAll
  exact .next h.raeWritten

theorem Kept.execSolveSite {d : Fin 6} {site : Fin 256} (h : Kept s t) : KeptOut s (execSolveSite d site t) := by
  unfold Machine.execSolveSite
  exact .next h.raeWritten

theorem Kept.execClearAll {d : Fin 6} (h : Kept s t) : KeptOut s (execClearAll d t) := by
  unfold Machine.execClearAll
  exact .next h.raeWritten

theorem Kept.execClearSite {d : Fin 6} {site : Fin 256} (h : Kept s t) : KeptOut s (execClearSite d site t) := by
  unfold Machine.execClearSite
  exact .next h.raeWritten

theorem Kept.solveEnd {d : Fin 6} (h : Kept s t) : Kept s (t.solveEnd d) := by
  unfold State.solveEnd
  exact h.modC.raise

theorem Kept.raeBegin {d : Fin 6} {q : RaeCmd} {rest : List RaeCmd} (h : Kept s t) : Kept s (t.raeBegin d q rest) := by
  unfold State.raeBegin
  extract_lets -underBinder x1 x2
  have hx1 : ∀ y0 y1, Kept s y0 → Kept s (x1 y0 y1) := by
    intro y0 y1 ky0
    unfold x1
    exact ky0.modC
  have hx2 : ∀ y0, Kept s y0 → Kept s (x2 y0) := by
    intro y0 ky0
    unfold x2
    exact ky0.wr
  split
  · extract_lets _ x3
    have hx3 : Kept s x3 := hx1 _ _ (hx2 _ h)
    exact .ite hx3.solveEnd hx3
  · exact hx1 _ _ (hx2 _ h)
  · extract_lets x4
    have hx4 : Kept s x4 := .forEach (fun _ _ k5 => k5.wr) h
    exact hx1 _ _ hx4.setB
  · exact hx1 _ _ h

theorem Kept.execRaeCmdStart {d : Fin 6} (h : Kept s t) : KeptOut s (execRaeCmdStart d t) := by
  unfold Machine.execRaeCmdStart
  extract_lets x1
  have hx1 : Kept s x1 := h.nextTrig
  split
  · exact .next hx1
  · exact .ite (.next hx1) (.next hx1.at_.raeBegin)

theorem Kept.execClearDone {d : Fin 6} (h : Kept s t) : KeptOut s (execClearDone d t) := by
  unfold Machine.execClearDone
  split
  · exact .next h
  · split
    · exact .next h.modC
    · extract_lets _ _
      exact .next h.modC
    · exact .next h

theorem Kept.updRfull {d : Fin 6} (h : Kept s t) : Kept s (t.updRfull d) := by
  unfold State.updRfull
  extract_lets _ _ x1
  have hx1 : Kept s x1 := h.setB
  exact .ite hx1.raise (.ite hx1.modC hx1)

theorem Kept.solveNext {d : Fin 6} {r : RaeRun} {x : Nat} {rest : List Nat} (h : Kept s t) : Kept s (t.solveNext d r x rest) := by
  unfold State.solveNext
  extract_lets _
  exact h.modC

theorem Kept.execDomainSolve {d : Fin 6} {envs : List G6Env} (h : Kept s t) : KeptOut s (execDomainSolve d envs t) := by
  unfold Machine.execDomainSolve
  split
  · exact .next h
  · split
    · exact .next h
    · extract_lets x1 _ _ _ x2 _ _ _ x3 _ x4
      have hx1 : Kept s x1 := h.updRfull
      have hx2 : Kept s x2 := .ite hx1.domTouch hx1
      have hx3 : Kept s x3 := hx2.at_.modC
      have hx4 : Kept s x4.2 := hx3.writeSlot
      exact .ite (.next h) (.ite (.next h.updRfull) (.ite (.next hx1.domTouch.modC) (.next hx4.tally.modC.solveNext)))

theorem Kept.execResultWriteDone {d : Fin 6} (h : Kept s t) : KeptOut s (execResultWriteDone d t) := by
  unfold Machine.execResultWriteDone
  split
  · exact .next h
  · extract_lets x1 x2 x3
    have hx1 : Kept s x1 := h.modC
    have hx2 : Kept s x2 := hx1.wr.updRfull
    have hx3 : Kept s x3 := .ite hx2.raise hx2
    split
    · exact .next hx3
    · exact .next (.ite hx3.solveEnd hx3)

/-! ### Machine/Tether.lean -/

theorem Kept.modPort {p : Fin 12} {f : Tether → Tether} (h : Kept s t) : Kept s (t.modPort p f) := by
  unfold State.modPort
  extract_lets _
  exact .same h

theorem Kept.modGang {n : Fin 16} {f : XGang → XGang} (h : Kept s t) : Kept s (t.modGang n f) := by
  unfold State.modGang
  extract_lets _
  exact .same h

theorem Kept.setPstate {p n : Nat} (h : Kept s t) : Kept s (t.setPstate p n) := by
  unfold State.setPstate
  exact h.setF

theorem Kept.jump {t' : Nat} (h : Kept s t) : Kept s (t.jump t') := by
  unfold State.jump
  extract_lets _
  exact .same h

theorem Kept.toPort {p : Fin 12} {m : TSlot} (h : Kept s t) : Kept s (t.toPort p m) := by
  unfold State.toPort
  exact h.modPort

theorem Kept.sendUp {m : TSlot} (h : Kept s t) : Kept s (t.sendUp m) := by
  unfold State.sendUp
  exact .forEach (fun _ _ k1 => k1.toPort) h

theorem Kept.sendDown {m : TSlot} (h : Kept s t) : Kept s (t.sendDown m) := by
  unfold State.sendDown
  exact .forEach (fun _ _ k1 => k1.toPort) h

theorem Kept.sendLost {gid didx t' : Nat} {cfg : Bool} (h : Kept s t) : Kept s (t.sendLost gid didx t' cfg) := by
  unfold State.sendLost
  extract_lets _
  exact .ite h.sendDown h.sendUp

theorem Kept.putFlits {p : Fin 12} {n : Nat} (h : Kept s t) : Kept s (t.putFlits p n) := by
  unfold State.putFlits
  exact h.modPort.usedN

/-! ### Machine/Conditions.lean -/

theorem Kept.setFault {g code : Nat} {l : Loc} (h : Kept s t) : Kept s (t.setFault g code l) := by
  unfold State.setFault
  extract_lets x1
  have hx1 : Kept s x1 := h.wr
  exact hx1.raise

theorem Kept.judgeSig {g : Nat} {done : Bool} (h : Kept s t) : Kept s (t.judgeSig g done) := by
  unfold State.judgeSig
  extract_lets _ x1
  have hx1 : Kept s x1 := h.setB
  exact hx1.setB.setB

theorem Kept.showFd {g : Fin 24} (h : Kept s t) : Kept s (t.showFd g) := by
  unfold State.showFd
  exact h.setF

theorem Kept.emptyFd {g : Fin 24} (h : Kept s t) : Kept s (t.emptyFd g) := by
  unfold State.emptyFd
  exact h.modG.showFd

theorem Kept.tellGang {g : Fin 24} {t' didx : Nat} (h : Kept s t) : Kept s (t.tellGang g t' didx) := by
  unfold State.tellGang
  extract_lets _ x1
  have hx1 : Kept s x1 := .forEach (fun _ _ k2 => k2.modG) h
  exact .ite (.ite hx1.sendLost hx1) h

theorem Kept.endQuiet {g : Fin 24} {st code : Nat} {l : Loc} {t' : Nat} (h : Kept s t) : Kept s (t.endQuiet g st code l t') := by
  unfold State.endQuiet
  extract_lets x1 x2 x3 x4 x5
  have hx1 : Kept s x1 := h.at_.idleAt.emptyFd
  have hx2 : Kept s x2 := hx1.setF
  have hx3 : Kept s x3 := .ite hx2.raise hx2
  have hx4 : Kept s x4 := .ite hx3 hx3.setFault
  have hx5 : Kept s x5 := hx4.judgeSig
  exact hx5.modG

theorem Kept.endRun {g : Fin 24} {st code : Nat} {l : Loc} {t' : Nat} (h : Kept s t) : Kept s (t.endRun g st code l t') := by
  unfold State.endRun
  exact h.endQuiet.tellGang

theorem Kept.stopQuiet {g : Fin 24} {st code : Nat} (h : Kept s t) : Kept s (t.stopQuiet g st code) := by
  unfold State.stopQuiet
  exact .ite h.setF.setFault h.endQuiet

theorem Kept.stopNow {g : Fin 24} {st code : Nat} (h : Kept s t) : Kept s (t.stopNow g st code) := by
  unfold State.stopNow
  exact h.stopQuiet.tellGang

theorem Kept.takeLost {gid t' : Nat} {cfg : Bool} (h : Kept s t) : Kept s (t.takeLost gid t' cfg) := by
  unfold State.takeLost
  exact .forEach (fun _ _ k1 => .ite k1.stopQuiet k1.modG) h

/-! ### Machine/Issue.lean -/

theorem Kept.markIram {g : Fin 24} {e : List Ecc} {l : Loc} (h : Kept s t) : Kept s (t.markIram g e l) := by
  unfold State.markIram
  exact .ite h h.modG

theorem Kept.showDepth {g : Fin 24} (h : Kept s t) : Kept s (t.showDepth g) := by
  unfold State.showDepth
  exact h.setF

theorem Kept.setPc {g : Fin 24} {p : Option Loc} (h : Kept s t) : Kept s (t.setPc g p) := by
  unfold State.setPc
  exact h.modG

theorem Kept.jumpTo {g : Fin 24} {l : Loc} {t' : Nat} (h : Kept s t) : KeptSum s (t.jumpTo g l t') := by
  unfold State.jumpTo
  split
  · exact .inl h.setPc
  · exact .inr

theorem Kept.flowCall {g : Fin 24} {l : Loc} {cond t' : Nat} (h : Kept s t) : KeptSum s (t.flowCall g l cond t') := by
  unfold State.flowCall
  split
  · split
    · exact .inr
    · exact h.modG.showDepth.jumpTo
  · exact .inl h.setPc

theorem Kept.flowRet {g : Fin 24} {l : Loc} {cond : Nat} (h : Kept s t) : KeptSum s (t.flowRet g l cond) := by
  unfold State.flowRet
  split
  · split
    · exact .inr
    · split
      · exact .inr
      · exact .inl h.modG.showDepth.setPc
  · exact .inl h.setPc

theorem Kept.flowLbeg {g : Fin 24} {l : Loc} {arg : Nat} (h : Kept s t) : KeptSum s (t.flowLbeg g l arg) := by
  unfold State.flowLbeg
  extract_lets _ x1
  have hx1 : Kept s x1 := h.wr
  split
  · split
    · exact .inl hx1.setPc
    · exact .inr
  · exact .inl hx1.setPc

theorem Kept.flowLend {g : Fin 24} {l : Loc} {arg : Nat} (h : Kept s t) : KeptSum s (t.flowLend g l arg) := by
  unfold State.flowLend
  extract_lets _ x1
  have hx1 : Kept s x1 := h.wr
  split
  · exact .inl hx1.setPc
  · exact hx1.jumpTo

theorem Kept.flowSeta {g : Fin 24} {l : Loc} {arg : Nat} (h : Kept s t) : KeptSum s (t.flowSeta g l arg) := by
  unfold State.flowSeta
  extract_lets _ _ _ _
  exact .inl h.wr.setPc

theorem Kept.showStream {g : Fin 24} (h : Kept s t) : Kept s (t.showStream g) := by
  unfold State.showStream
  extract_lets _
  exact h.setF.setB

theorem Kept.streamArm {g : Fin 24} (h : Kept s t) : Kept s (t.streamArm g) := by
  unfold State.streamArm
  exact h.modG.showStream

theorem Kept.flowStream {g : Fin 24} {l : Loc} {arg : Nat} (h : Kept s t) : KeptSum s (t.flowStream g l arg) := by
  unfold State.flowStream
  split
  · exact .inl h.modG.setPc
  · exact .inl h.modG.setPc
  · exact .inl h.wrPair.streamArm.setPc

theorem Kept.flow {g : Fin 24} {l : Loc} {w : PatWord} (h : Kept s t) : KeptSum s (t.flow g l w) := by
  unfold State.flow
  extract_lets _
  split
  · exact h.jumpTo
  · split
    · exact h.jumpTo
    · exact .inl h.setPc
  · exact h.flowCall
  · exact h.flowRet
  · exact h.flowLbeg
  · exact h.flowLend
  · exact h.flowSeta
  · exact h.flowStream
  · exact .inl h.setPc

theorem Kept.escAdd {g : Fin 24} {n : Nat} (h : Kept s t) : Kept s (t.escAdd g n) := by
  unfold State.escAdd
  extract_lets _ x1 x2
  have hx1 : Kept s x1 := h.setF
  have hx2 : Kept s x2 := .ite hx1.raise hx1
  exact hx2.modG

theorem Kept.escCatch {g : Fin 24} {t' : Nat} (h : Kept s t) : Kept s (t.escCatch g t') := by
  unfold State.escCatch
  exact h.escAdd

theorem Kept.escInsert {g : Fin 24} {back : Option Loc} {boundary : Nat} (h : Kept s t) :
    Kept s (t.escInsert g back boundary) := by
  unfold State.escInsert
  extract_lets x1
  have hx1 : Kept s x1 := .ite h h.setF
  exact hx1.modG.showDepth

theorem Kept.takeEscape {g : Fin 24} (h : Kept s t) : Kept s (t.takeEscape g) := by
  unfold State.takeEscape
  split
  · exact h
  · extract_lets _ x1
    have hx1 : Kept s x1 := h.modG.escCatch
    exact .ite hx1.escInsert hx1

theorem Kept.escAtEnd {g : Fin 24} {w : PatWord} {t' : Nat} (h : Kept s t) : Kept s (t.escAtEnd g w t') := by
  unfold State.escAtEnd
  extract_lets x1
  have hx1 : Kept s x1 := h.escCatch
  exact .ite (.ite hx1.escInsert hx1) h

theorem Kept.closePause {g : Fin 24} {t' : Nat} (h : Kept s t) : Kept s (t.closePause g t') := by
  unfold State.closePause
  split
  · split
    · split
      · exact h
      · extract_lets _ x1
        have hx1 : Kept s x1 := h.modG
        exact .ite hx1.escCatch.escInsert hx1
    · exact h
  · exact h

theorem Kept.issueFault {g : Fin 24} {code : Nat} {l : Loc} (h : Kept s t) : Kept s (t.issueFault g code l) := by
  unfold State.issueFault
  exact h.modG

theorem Kept.pushShown {g : Fin 24} {l : Loc} {w : PatWord} {wasEsc restore : Bool} (h : Kept s t) :
    Kept s (t.pushShown g l w wasEsc restore) := by
  unfold State.pushShown
  exact h.modG.setB.showStream

theorem Kept.pushWord {g : Fin 24} {l : Loc} {w : PatWord} {wasEsc restore : Bool} (h : Kept s t) :
    Kept s (t.pushWord g l w wasEsc restore) := by
  unfold State.pushWord
  exact .ite h.pushShown.raise h.pushShown

theorem Kept.issueWord {g : Fin 24} {l : Loc} {w : PatWord} (h : Kept s t) : Kept s (t.issueWord g l w) := by
  unfold State.issueWord
  extract_lets _ _
  split
  · exact h.issueFault
  · split
    · exact h.issueFault
    · rename_i uhm1 ehm1
      have hm1 : Kept s uhm1 := h.flow _ ehm1
      extract_lets _
      exact hm1.pushWord

theorem Kept.issue {g : Fin 24} {e : List Ecc} {mine : PatWord → Bool} (h : Kept s t) : Kept s (t.issue g e mine) := by
  unfold State.issue
  extract_lets x1 x2 x3
  have hx1 : Kept s x1 := h.closePause
  have hx2 : Kept s x2 := hx1.takeEscape
  have hx3 : Kept s x3 := hx2.at_
  split
  · exact h
  · split
    · exact hx3.issueFault
    · split
      · exact hx3.markIram.issueFault
      · exact .ite hx3.issueWord h

theorem Kept.execPwNext {g : Fin 24} {e : List Ecc} (h : Kept s t) : KeptOut s (execPwNext g e t) := by
  unfold Machine.execPwNext
  exact .next h.issue

theorem Kept.execPwJmp {g : Fin 24} {e : List Ecc} (h : Kept s t) : KeptOut s (execPwJmp g e t) := by
  unfold Machine.execPwJmp
  exact .next h.issue

theorem Kept.execPwJc {g : Fin 24} {e : List Ecc} (h : Kept s t) : KeptOut s (execPwJc g e t) := by
  unfold Machine.execPwJc
  exact .next h.issue

theorem Kept.execPwCall {g : Fin 24} {e : List Ecc} (h : Kept s t) : KeptOut s (execPwCall g e t) := by
  unfold Machine.execPwCall
  exact .next h.issue

theorem Kept.execPwRet {g : Fin 24} {e : List Ecc} (h : Kept s t) : KeptOut s (execPwRet g e t) := by
  unfold Machine.execPwRet
  exact .next h.issue

theorem Kept.execPwLbeg {g : Fin 24} {e : List Ecc} (h : Kept s t) : KeptOut s (execPwLbeg g e t) := by
  unfold Machine.execPwLbeg
  exact .next h.issue

theorem Kept.execPwLend {g : Fin 24} {e : List Ecc} (h : Kept s t) : KeptOut s (execPwLend g e t) := by
  unfold Machine.execPwLend
  exact .next h.issue

theorem Kept.execPwRpt {g : Fin 24} {e : List Ecc} (h : Kept s t) : KeptOut s (execPwRpt g e t) := by
  unfold Machine.execPwRpt
  exact .next h.issue

theorem Kept.execPwMatch {g : Fin 24} {e : List Ecc} (h : Kept s t) : KeptOut s (execPwMatch g e t) := by
  unfold Machine.execPwMatch
  exact .next h.issue

theorem Kept.execPwSync {g : Fin 24} {e : List Ecc} (h : Kept s t) : KeptOut s (execPwSync g e t) := by
  unfold Machine.execPwSync
  exact .next h.issue

theorem Kept.execPwEsc {g : Fin 24} {e : List Ecc} (h : Kept s t) : KeptOut s (execPwEsc g e t) := by
  unfold Machine.execPwEsc
  exact .next h.issue

theorem Kept.execPwTrig {g : Fin 24} {e : List Ecc} (h : Kept s t) : KeptOut s (execPwTrig g e t) := by
  unfold Machine.execPwTrig
  exact .next h.issue

theorem Kept.execPwSeta {g : Fin 24} {e : List Ecc} (h : Kept s t) : KeptOut s (execPwSeta g e t) := by
  unfold Machine.execPwSeta
  exact .next h.issue

theorem Kept.execPwStreamEnter {g : Fin 24} {e : List Ecc} (h : Kept s t) : KeptOut s (execPwStreamEnter g e t) := by
  unfold Machine.execPwStreamEnter
  exact .next h.issue

theorem Kept.execPwStreamExit {g : Fin 24} {e : List Ecc} (h : Kept s t) : KeptOut s (execPwStreamExit g e t) := by
  unfold Machine.execPwStreamExit
  exact .next h.issue

theorem Kept.execPwStreamArm {g : Fin 24} {e : List Ecc} (h : Kept s t) : KeptOut s (execPwStreamArm g e t) := by
  unfold Machine.execPwStreamArm
  exact .next h.issue

theorem Kept.execPwPause {g : Fin 24} {e : List Ecc} (h : Kept s t) : KeptOut s (execPwPause g e t) := by
  unfold Machine.execPwPause
  exact .next h.issue

theorem Kept.execPwHalt {g : Fin 24} {e : List Ecc} (h : Kept s t) : KeptOut s (execPwHalt g e t) := by
  unfold Machine.execPwHalt
  exact .next h.issue

/-! ### Machine/Sequencer.lean -/

theorem Kept.storeResult {g : Fin 24} {e : PatEntry} {isOver : Bool} {be fails uflags : Nat} (h : Kept s t) :
    Kept s (t.storeResult g e isOver be fails uflags) := by
  unfold State.storeResult
  extract_lets _ _ _
  exact .ite h.modG h

theorem Kept.storeArrival {g : Fin 24} {e : PatEntry} {be : Nat} (h : Kept s t) : Kept s (t.storeArrival g e be) := by
  unfold State.storeArrival
  exact .ite h.modG h

theorem Kept.fireTrig {g : Fin 24} {w : PatWord} {be : Nat} (h : Kept s t) : Kept s (t.fireTrig g w be) := by
  unfold State.fireTrig
  extract_lets _ x1
  have hx1 : ∀ y0 y1, Kept s (x1 y0 y1) := by
    intro y0 y1
    unfold x1
    exact h.modC
  split
  · exact h
  · split
    · exact hx1 _ _
    · exact hx1 _ _
    · exact hx1 _ _
    · exact hx1 _ _
    · exact hx1 _ _

theorem Kept.showPause {g : Fin 24} {e : PatEntry} (h : Kept s t) : Kept s (t.showPause g e) := by
  unfold State.showPause
  exact .ite (.ite h.modG.setF.setF.raise h) h.setF

theorem Kept.wrsvNext {g : Fin 24} {e : PatEntry} (h : Kept s t) : Kept s (t.wrsvNext g e) := by
  unfold State.wrsvNext
  split
  · split
    · extract_lets _
      exact .ite h.modG h
    · exact .ite h h.raise
  · exact h

theorem Kept.runVector {g : Fin 24} {e : PatEntry} {rest : List PatEntry} {cm : List CmpEdge} {upsets : List Nat}
    (h : Kept s t) :
    Kept s (t.runVector g e rest cm upsets) := by
  unfold State.runVector
  extract_lets _ _ x1 x2 x3 x4 x5 _ _ _ x6 _ _ x7 x8 _ _ x9 x10 _ x11 x12 x13 x14
  have hx1 : Kept s x1 := h.at_.deliver
  have hx2 : Kept s x2 := .ite hx1.modG hx1
  have hx3 : Kept s x3 := hx2.showPause
  have hx4 : Kept s x4.2 := hx3.fdWord
  have hx5 : Kept s x5 := hx4.showFd
  have hx6 : Kept s x6 := hx5.driveVector
  have hx7 : Kept s x7 := .ite hx6.raise hx6
  have hx8 : Kept s x8 := hx7.wrsvNext
  have hx9 : Kept s x9 := .ite hx8.used hx8
  have hx10 : Kept s x10 := hx9.storeResult.storeArrival
  have hx11 : Kept s x11 := hx10.fcuVector
  have hx12 : Kept s x12 := hx11.apgAdvance
  have hx13 : Kept s x13 := .ite hx12.apgRestore hx12
  have hx14 : Kept s x14 := hx13.modG
  exact hx14.fireTrig

theorem ufChange_foldl_iram (n : Nat) (l : List (Nat × BitVec 8)) (x : Group) :
    (l.foldl (fun x c => x.ufChange n c) x).iram = x.iram := by
  induction l generalizing x with
  | nil => rfl
  | cons c l ih => exact ih (x.ufChange n c)

theorem Kept.setUf {g : Fin 24} {l : List (Nat × BitVec 8)} (h : Kept s t) : Kept s (t.setUf g l) := by
  unfold State.setUf
  exact .ite h (h.modG (ufChange_foldl_iram _ _))

theorem Kept.execVectorStart {g : Fin 24} {cm : List CmpEdge} {uf : List (Nat × BitVec 8)} {upsets : List Nat} (h : Kept s t) :
    KeptOut s (execVectorStart g cm uf upsets t) := by
  unfold Machine.execVectorStart
  split
  · exact .next h
  · split
    · split
      · exact .next h.endRun
      · exact .ite (.next h) (.next h.endRun)
      · exact .next h
    · extract_lets _
      split
      · exact .next h
      · exact .next h.endRun
      · exact .next h.at_.closePause
      · exact .next h.tally.setUf.runVector

theorem Kept.skewAll {g : Fin 24} (h : Kept s t) : Kept s (t.skewAll g) := by
  unfold State.skewAll
  exact .forEach (fun _ _ k1 => k1.stopNow) h

theorem Kept.decisionLost {g : Fin 24} {l : Loc} {t' didx : Nat} (h : Kept s t) : Kept s (t.decisionLost g l t' didx) := by
  unfold State.decisionLost
  exact h.endQuiet.tellGang.raise

theorem Kept.execJcDecision {g : Fin 24} (h : Kept s t) : KeptOut s (execJcDecision g t) := by
  unfold Machine.execJcDecision
  split
  · exact .next h
  · split
    · exact .next h
    · split
      · exact .next h
      · split
        · exact .next h
        · exact .next h.skewAll
        · exact .next h.decisionLost
        · extract_lets x1 x2
          have hx1 : Kept s x1 := h.at_.modG
          have hx2 : Kept s x2 := hx1.modG
          split
          · split
            · rename_i uhm3 ehm3
              have hm3 : Kept s uhm3 := hx2.jumpTo _ ehm3
              exact .next hm3
            · exact .next hx2.issueFault
          · exact .next hx1

theorem Kept.endMatch {g : Fin 24} {e : PatEntry} {rest : List PatEntry} {k : Nat} {ok : Bool} {t' : Nat} (h : Kept s t) :
    Kept s (t.endMatch g e rest k ok t') := by
  unfold State.endMatch
  extract_lets x1 x2 x3
  have hx1 : Kept s x1 := h.at_.modG.escAtEnd
  have hx2 : Kept s x2 := hx1.modG
  have hx3 : Kept s x3 := hx2.setF.setB
  exact .ite hx3 hx3.raise

theorem Kept.execMatchDecision {g : Fin 24} (h : Kept s t) : KeptOut s (execMatchDecision g t) := by
  unfold Machine.execMatchDecision
  split
  · exact .next h
  · extract_lets _ _
    split
    · exact .next h
    · split
      · exact .next h
      · exact .next h.skewAll
      · exact .next h.decisionLost
      · exact .ite (.next h.endMatch) (.next h)

theorem Kept.execSyncRelease {g : Fin 24} (h : Kept s t) : KeptOut s (execSyncRelease g t) := by
  unfold Machine.execSyncRelease
  split
  · exact .next h
  · extract_lets _
    split
    · exact .next h
    · extract_lets x1 x2
      have hx1 : Kept s x1 := .forEach (fun _ _ k => k.modG fun x => by split <;> rfl) h
      have hx2 : Kept s x2 := hx1.at_.modG.escAtEnd
      split
      · exact .next h
      · exact .next hx2.modG

theorem Kept.execGangLost {g : Fin 24} (h : Kept s t) : KeptOut s (execGangLost g t) := by
  unfold Machine.execGangLost
  split
  · exact .next h
  · extract_lets _
    split
    · exact .next h.at_.stopQuiet
    · split
      · exact .next h
      · split
        · exact .next h.endRun
        · exact .next h.endQuiet

theorem Kept.execEscapeExpiry {g : Fin 24} (h : Kept s t) : KeptOut s (execEscapeExpiry g t) := by
  unfold Machine.execEscapeExpiry
  exact .ite (.next h.at_.escAdd) (.next h)

theorem Kept.execStreamFetch {g : Fin 24} {env : G6Env} (h : Kept s t) : KeptOut s (execStreamFetch g env t) := by
  unfold Machine.execStreamFetch
  extract_lets _ _ x1 x2
  have hx1 : Kept s x1.2.2 := h.g6ReadBytes
  have hx2 : ∀ y0, Kept s (x2 y0) := by
    intro y0
    unfold x2
    exact hx1.modG.showStream
  split
  · exact .next h
  · split
    · exact .next ((hx2 _).tally)
    · exact .next (hx2 _)
    · exact .next hx1

theorem Kept.refuseStart {g : Fin 24} {code : Nat} (h : Kept s t) : Kept s (t.refuseStart g code) := by
  unfold State.refuseStart
  exact h.setF.setFault.judgeSig

theorem Kept.refuseGang {g : Fin 24} (h : Kept s t) : Kept s (t.refuseGang g) := by
  unfold State.refuseGang
  exact .forEach (fun _ _ k1 => .ite k1.stopNow k1.refuseStart) h

theorem Kept.beginRun {g : Fin 24} {issue : Nat} (h : Kept s t) : Kept s (t.beginRun g issue) := by
  unfold State.beginRun
  extract_lets _ x1 _
  have hx1 : Kept s x1 := h.setF
  exact hx1.modG

theorem Kept.startClear {g : Fin 24} (h : Kept s t) : Kept s (t.startClear g) := by
  unfold State.startClear
  extract_lets x1 x2
  have hx1 : Kept s x1 := h.wr.setB.setF.setB
  have hx2 : Kept s x2 := hx1.wr.emptyFd
  exact hx2.modG.showDepth

theorem Kept.startUnits {g : Fin 24} (h : Kept s t) : Kept s (t.startUnits g) := by
  unfold State.startUnits
  extract_lets x1 x2 x3 x4
  have hx1 : Kept s x1 := .ite h.clearCounters h
  have hx2 : Kept s x2 := .forEach (fun _ _ k5 => k5.wrPair) hx1
  have hx3 : Kept s x3 := hx2.setB.setB.setB
  have hx4 : Kept s x4 := hx3.setB.setB.setB
  exact hx4.wr.wr.apgStart

theorem Kept.announce {g : Fin 24} (h : Kept s t) : Kept s (t.announce g) := by
  unfold State.announce
  extract_lets -underBinder _ x1
  have hx1 : Kept s x1 := .ite h h.modGang
  exact .ite hx1.sendUp h

theorem Kept.ownGcfg {g : Fin 24} (h : Kept s t) : Kept s (t.ownGcfg g) := by
  unfold State.ownGcfg
  extract_lets _
  exact .ite h.sendLost.takeLost h

theorem Kept.execVsqStart {g : Fin 24} {smode : BitVec 2} (h : Kept s t) : KeptOut s (execVsqStart g smode t) := by
  unfold Machine.execVsqStart
  extract_lets x1 x2 x3 x4
  have hx1 : Kept s x1 := h.setF
  have hx2 : Kept s x2 := hx1.startClear.startUnits
  have hx3 : Kept s x3 := hx2.announce
  have hx4 : Kept s x4 := .ite hx3.setF hx3.beginRun
  exact .ite (.next hx1.vsqCmdErr) (.ite (.next hx2.refuseGang) (.ite (.next hx2.refuseStart) (.next hx4.ownGcfg)))

theorem Kept.execVsqArmedStart {g : Fin 24} (h : Kept s t) : KeptOut s (execVsqArmedStart g t) := by
  unfold Machine.execVsqArmedStart
  extract_lets _
  exact .ite (.next h.at_.beginRun) (.next h)

theorem Kept.execVsqAbort {g : Fin 24} (h : Kept s t) : KeptOut s (execVsqAbort g t) := by
  unfold Machine.execVsqAbort
  exact .ite (.next h.setF.tellGang) (.ite (.next h.modG) (.next h))

theorem Kept.execVsqResume {g : Fin 24} (h : Kept s t) : KeptOut s (execVsqResume g t) := by
  unfold Machine.execVsqResume
  exact .ite (.next h.modG) (.next h)

theorem Kept.execSctrlArm {g : Fin 24} (h : Kept s t) : KeptOut s (execSctrlArm g t) := by
  unfold Machine.execSctrlArm
  exact .next h.streamArm

theorem Kept.execSctrlDisarm {g : Fin 24} (h : Kept s t) : KeptOut s (execSctrlDisarm g t) := by
  unfold Machine.execSctrlDisarm
  exact .ite (.next h) (.next h.modG.showStream)

theorem Kept.execVcntLoRead {g : Fin 24} {debug : Bool} (h : Kept s t) : KeptOut s (execVcntLoRead g debug t) := by
  unfold Machine.execVcntLoRead
  extract_lets _ x1
  have hx1 : Kept s x1 := .ite h (.setLatch h)
  exact .next hx1.answer

theorem Kept.markGranules {g : Fin 24} {off len : Nat} {upset : List Ecc} (h : Kept s t) :
    Kept s (t.markGranules g off len upset) := by
  unfold State.markGranules
  exact h.modG

theorem Kept.execInstrRamRead {g : Fin 24} {off len : Nat} {upset : List Ecc} (h : Kept s t) :
    KeptOut s (execInstrRamRead g off len upset t) := by
  unfold Machine.execInstrRamRead
  extract_lets x1
  have hx1 : Kept s x1 := h.markGranules
  exact .ite (.next hx1.answer) (.next hx1.answer)

theorem canon_iramPutBytes {m : Sparse PatWord} (off : Nat) (data : List Nat) (n : Nat)
    (h : Sparse.canon (fun _ => (0 : PatWord)) m = true) :
    Sparse.canon (fun _ => (0 : PatWord)) (iramPutBytes m off data n) = true := by
  induction n with
  | zero => exact h
  | succ n ih =>
    unfold iramPutBytes at ih ⊢
    rw [List.range_succ, List.foldl_append]
    exact Sparse.canon_put _ _ ih

theorem Kept.iramPut {g : Fin 24} {off : Nat} {data : List Nat} (h : Kept s t) : Kept s (t.iramPut g off data) := by
  rw [iramPut_eq]
  exact h.setG fun ht => canon_iramPutBytes off data _ (ht.iram g)

theorem Kept.execInstrRamWrite {g : Fin 24} {off : Nat} {data : List Nat} {upset : List Ecc} (h : Kept s t) :
    KeptOut s (execInstrRamWrite g off data upset t) := by
  unfold Machine.execInstrRamWrite
  extract_lets x1
  have hx1 : Kept s x1 := h.markGranules
  exact .ite (.next h.vsqCmdErr.answer) (.ite (.next hx1.answer) (.next hx1.iramPut.answer))

theorem Kept.execGroupFenceStop {g : Fin 24} {why : StopWhy} (h : Kept s t) : KeptOut s (execGroupFenceStop g why t) := by
  unfold Machine.execGroupFenceStop
  exact .ite (.next h.stopNow) (.next h)

end Sys2Proof.Machine
end

section
/-! The parts of the commands, and the commands, keep the stores canonical: one lemma for each function of
Machine/Channels, Machine/Mdsp, Machine/Tree, Machine/DmaCtl, Machine/Fabric. -/
namespace Sys2Proof.Machine
variable {s t : State}
set_option Elab.async false

/-! ### Machine/Channels.lean -/

theorem Kept.trimAbandon {g : Fin 24} (h : Kept s t) : Kept s (t.trimAbandon g) := by
  unfold State.trimAbandon
  extract_lets x1
  have hx1 : Kept s x1 := h.setB.setB
  exact .ite hx1.raise.modG h

theorem Kept.setRel {g : Fin 24} {rel : Bool} (h : Kept s t) : Kept s (t.setRel g rel) := by
  unfold State.setRel
  extract_lets _ x1
  have hx1 : Kept s x1 := h.setB
  exact .ite hx1 (.ite hx1.modG hx1.modG)

theorem Kept.execGroupRelease {g : Fin 24} {rel : Bool} (h : Kept s t) : KeptOut s (execGroupRelease g rel t) := by
  unfold Machine.execGroupRelease
  exact .ite (.ite (.next h.vsqCmdErr) (.ite (.next h) (.next h.setRel))) (.ite (.next h.vsqCmdErr) (.next h.setRel.trimAbandon))

theorem Kept.execCalTrim {g : Fin 24} (h : Kept s t) : KeptOut s (execCalTrim g t) := by
  unfold Machine.execCalTrim
  exact .ite (.next h.vsqCmdErr) (.next h.setB.modG)

theorem Kept.execTrimEnd {g : Fin 24} {inRange : Bool} (h : Kept s t) : KeptOut s (execTrimEnd g inRange t) := by
  unfold Machine.execTrimEnd
  split
  · exact .next h
  · extract_lets x1 x2
    have hx1 : Kept s x1 := h.setF
    have hx2 : Kept s x2 := hx1.setB.setB
    exact .next hx2.raise.modG

theorem Kept.execTdriftCheck {g : Fin 24} (h : Kept s t) : KeptOut s (execTdriftCheck g t) := by
  unfold Machine.execTdriftCheck
  split
  · exact .next h
  · extract_lets x1 _ _ _ x2
    have hx1 : Kept s x1 := h.at_.modG
    have hx2 : Kept s x2 := hx1.setB
    exact .next (.ite hx2.raise hx2)

theorem Kept.showStamps {g : Fin 24} (h : Kept s t) : Kept s (t.showStamps g) := by
  unfold State.showStamps
  exact h.setF

theorem drainStamps_iram (n : Nat) (x : Group) : (x.drainStamps n).iram = x.iram := by
  induction n generalizing x with
  | zero => rfl
  | succ n ih =>
    unfold Group.drainStamps
    split
    · rfl
    · split
      · rfl
      · rw [ih]

theorem Kept.stampsTo {g : Fin 24} {t' : Nat} (h : Kept s t) : Kept s (t.stampsTo g t') := by
  unfold State.stampsTo
  exact Kept.showStamps (h.modG fun x => drainStamps_iram _ x)

theorem Kept.execEdgeStamp {g : Fin 24} {p : Fin 32} {cml rising : Bool} {time : Nat} (h : Kept s t) :
    KeptOut s (execEdgeStamp g p cml rising time t) := by
  unfold Machine.execEdgeStamp
  extract_lets x1 _ _ _ _ x2 _
  have hx1 : Kept s x1 := h.at_.stampsTo
  have hx2 : Kept s x2 := hx1.modG
  refine .ite (.next h) (.ite (.next hx1.modG) (.ite (.next hx2.bump.raise) (.next hx1.modG)))

theorem Kept.execStampLoRead {g : Fin 24} {debug : Bool} (h : Kept s t) : KeptOut s (execStampLoRead g debug t) := by
  unfold Machine.execStampLoRead
  extract_lets x1 _ x2
  have hx1 : Kept s x1 := h.stampsTo
  have hx2 : Kept s x2 := .ite hx1 (.setLatch hx1)
  exact .next hx2.answer

theorem Kept.execStampHiRead {g : Fin 24} {debug : Bool} (h : Kept s t) : KeptOut s (execStampHiRead g debug t) := by
  unfold Machine.execStampHiRead
  extract_lets x1 _
  have hx1 : Kept s x1 := h.stampsTo
  exact .ite (.next hx1.answer) (.next hx1.modG.showStamps.answer)

theorem Kept.execStampFlush {g : Fin 24} (h : Kept s t) : KeptOut s (execStampFlush g t) := by
  unfold Machine.execStampFlush
  extract_lets x1
  have hx1 : Kept s x1 := h.modG
  exact .next hx1.wr.showStamps

theorem Kept.execFabricDataWord {g : Fin 24} {w : BitVec 1024} (h : Kept s t) : KeptOut s (execFabricDataWord g w t) := by
  unfold Machine.execFabricDataWord
  exact .ite (.next h) (.ite (.next h.raise) (.next h.modG.showFd))

theorem Kept.execFabricDataTake {g : Fin 24} (h : Kept s t) : KeptOut s (execFabricDataTake g t) := by
  unfold Machine.execFabricDataTake
  extract_lets _
  split
  · split
    · exact .next h
    · exact .next h.at_.fdTake.showFd
  · exact .next h

/-! ### Machine/Mdsp.lean -/

theorem Kept.mset {m : Fin 24} {r v : Nat} (h : Kept s t) : Kept s (t.mset m r v) := by
  unfold State.mset
  exact h.wr

theorem Kept.setAcc {m : Fin 24} {n : Nat} {v : ℤ} (h : Kept s t) : Kept s (t.setAcc m n v) := by
  unfold State.setAcc
  extract_lets _
  exact h.mset.mset.mset

theorem Kept.mwrite {m : Fin 24} {r v : Nat} (h : Kept s t) : Kept s (t.mwrite m r v) := by
  unfold State.mwrite
  extract_lets _
  split
  · exact h.mset
  · split
    · split
      · exact h.mset
      · exact h.mset.mset.mset
      · exact h.mset
    · exact .ite h.mset (.ite h.mset h)

theorem Kept.setSr {m : Fin 24} {i : Nat} {b : Bool} (h : Kept s t) : Kept s (t.setSr m i b) := by
  unfold State.setSr
  extract_lets _
  exact h.mset

theorem Kept.orSr {m : Fin 24} {i : Nat} {b : Bool} (h : Kept s t) : Kept s (t.orSr m i b) := by
  unfold State.orSr
  exact .ite h.setSr h

theorem Kept.mdMark {m : Fin 24} {k w : Nat} {u' : Ecc} (h : Kept s t) : Kept s (t.mdMark m k w u') := by
  unfold State.mdMark
  exact .ite h.modMd h

theorem Kept.setMdState {m v : Nat} (h : Kept s t) : Kept s (t.setMdState m v) := by
  unfold State.setMdState
  exact h.setF

theorem Kept.mdShow {m : Fin 24} (h : Kept s t) : Kept s (t.mdShow m) := by
  unfold State.mdShow
  extract_lets _ x1 x2
  have hx1 : Kept s x1 := h.setF.setF
  have hx2 : Kept s x2 := hx1.setB
  exact hx2.mset

theorem Kept.mdNext {m : Fin 24} {a : Nat} (h : Kept s t) : Kept s (t.mdNext m a) := by
  unfold State.mdNext
  extract_lets _ _
  exact h.modMd.setF.mdShow

theorem Kept.mdFault {m : Fin 24} {code a : Nat} (h : Kept s t) : Kept s (t.mdFault m code a) := by
  unfold State.mdFault
  extract_lets x1
  have hx1 : Kept s x1 := h.setMdState.raise
  exact hx1.setF.setF

theorem Kept.mdCycles {m n : Nat} (h : Kept s t) : Kept s (t.mdCycles m n) := by
  unfold State.mdCycles
  exact h.bump.tally

theorem Kept.mdWaited {m n : Nat} (h : Kept s t) : Kept s (t.mdWaited m n) := by
  unfold State.mdWaited
  exact h.bump.tally

theorem Kept.mdSettle {m : Fin 24} (h : Kept s t) : Kept s (t.mdSettle m) := by
  unfold State.mdSettle
  split
  · exact h
  · extract_lets _
    exact .ite h (.ite h.modMd h.mdWaited.modMd)

theorem Kept.mdSettleDie {d : Nat} (h : Kept s t) : Kept s (t.mdSettleDie d) := by
  unfold State.mdSettleDie
  exact .forEach (fun _ _ k1 => k1.mdSettle) h

theorem Kept.mdDiscard {m : Fin 24} (h : Kept s t) : Kept s (t.mdDiscard m) := by
  unfold State.mdDiscard
  exact h.modMd.mdShow

theorem Kept.mdStep {m : Fin 24} {upset : List Ecc} {mine : Nat → Bool} {body : Nat → Nat → State → State} (h : Kept s t)
    (hbody : ∀ y0 y1 y2, Kept s y2 → Kept s (body y0 y1 y2)) :
    Kept s (t.mdStep m upset mine body) := by
  unfold State.mdStep
  extract_lets _ _ _ _
  exact .ite h (.ite h.mdMark.mdFault (.ite (hbody _ _ _ (.ite h.raise h)) h))

theorem Kept.movePtr {m : Fin 24} {n mode : Nat} {old : State} (h : Kept s t) : Kept s (t.movePtr m n mode old) := by
  unfold State.movePtr
  extract_lets _ _ _
  exact .ite h.mset h.mset.orSr

theorem Kept.loadC {m : Fin 24} {r v : Nat} (h : Kept s t) : Kept s (t.loadC m r v) := by
  unfold State.loadC
  exact h.mset.mset

theorem MdCanonical.write {c : Mdsp} {k w v : Nat} (h : MdCanonical c) : MdCanonical (c.write k w v) := by
  unfold Mdsp.write
  split
  · exact ⟨Sparse.canon_put _ _ h.x, h.y, h.p⟩
  · exact ⟨h.x, Sparse.canon_put _ _ h.y, h.p⟩
  · refine ⟨h.x, h.y, Sparse.canon_put _ _ ?_⟩
    unfold Mdsp.mem
    split
    · exact h.x
    · exact h.y
    · exact h.p

/-- A write of one word of a core's memory. -/
theorem Kept.writeMd {m : Fin 24} {k w : Nat} {v : Mdsp → Nat} (h : Kept s t) :
    Kept s (t.modMd m (fun c => c.write k w (v c))) := h.modMd fun _ hc => hc.write

theorem Kept.moveXY {m : Fin 24} {k n mode : Nat} {store : Bool} {r : Nat} {old : State} (h : Kept s t) :
    Kept s (t.moveXY m k n mode store r old) := by
  unfold State.moveXY
  extract_lets _ _ x1 x2
  have hx1 : Kept s x1 := h.writeMd.orSr
  have hx2 : Kept s x2 := (.ite ((.ite hx1.mset hx1)) h.loadC)
  exact (.ite h hx2.movePtr)

theorem Kept.moveP {m : Fin 24} {mode : Nat} {old : State} (h : Kept s t) : Kept s (t.moveP m mode old) := by
  unfold State.moveP
  exact .ite h h.loadC.movePtr

theorem Kept.putAccs {m : Fin 24} {r : AluRes} (h : Kept s t) : Kept s (t.putAccs m r) := by
  unfold State.putAccs
  extract_lets -underBinder _ _ x1
  have hx1 : Kept s x1 := .forEach (fun _ _ k2 => k2.setAcc.orSr) h
  split
  · exact hx1
  · extract_lets _
    exact hx1.setSr.setSr.setSr

theorem Kept.mdTouch {m : Fin 24} {l : List (Nat × Nat × Ecc)} (h : Kept s t) : Kept s (t.mdTouch m l).2 := by
  unfold State.mdTouch
  extract_lets x1
  have hx1 : Kept s x1 := .forEach (fun _ _ k2 => k2.mdMark) h
  dsimp only
  exact .ite hx1.raise hx1

theorem Kept.arithBody {m : Fin 24} {upset : List Ecc} {aop : Nat} {alu : State → Fin 24 → AFld → AluRes} {pc w : Nat}
    (h : Kept s t) :
    Kept s (t.arithBody m upset aop alu pc w) := by
  unfold State.arithBody
  extract_lets _ x1 _ x2 x3 x4 x5 x6
  have hx1 : Kept s x1.2 := h.mdTouch
  have hx2 : Kept s x2 := hx1.putAccs
  have hx3 : Kept s x3 := by
    unfold x3
    split
    · exact hx2
    · exact hx2.mset
  have hx4 : Kept s x4 := hx3.moveXY.moveXY
  have hx5 : Kept s x5 := hx4.moveP
  have hx6 : Kept s x6 := by
    unfold x6
    split
    · exact hx5
    · exact hx5.mset
  exact .ite h.mdFault (.ite hx1.mdFault hx6.mdCycles.mdNext)

theorem Kept.mdArith {m : Fin 24} {upset : List Ecc} {aop : Nat} {alu : State → Fin 24 → AFld → AluRes} (h : Kept s t) :
    Kept s (t.mdArith m upset aop alu) := by
  unfold State.mdArith
  exact h.mdStep (fun _ _ _ k1 => k1.arithBody)

theorem Kept.execMdNop {m : Fin 24} {u' : List Ecc} (h : Kept s t) : KeptOut s (execMdNop m u' t) := by
  unfold Machine.execMdNop
  exact .next (h.mdStep (fun _ _ _ k1 => .ite k1.mdFault k1.arithBody))

theorem Kept.execMdCmpy {m : Fin 24} {u' : List Ecc} (h : Kept s t) : KeptOut s (execMdCmpy m u' t) := by
  unfold Machine.execMdCmpy
  exact .next h.mdArith

theorem Kept.execMdCmac {m : Fin 24} {u' : List Ecc} (h : Kept s t) : KeptOut s (execMdCmac m u' t) := by
  unfold Machine.execMdCmac
  exact .next h.mdArith

theorem Kept.execMdCmsu {m : Fin 24} {u' : List Ecc} (h : Kept s t) : KeptOut s (execMdCmsu m u' t) := by
  unfold Machine.execMdCmsu
  exact .next h.mdArith

theorem Kept.execMdDmpy {m : Fin 24} {u' : List Ecc} (h : Kept s t) : KeptOut s (execMdDmpy m u' t) := by
  unfold Machine.execMdDmpy
  exact .next h.mdArith

theorem Kept.execMdDmac {m : Fin 24} {u' : List Ecc} (h : Kept s t) : KeptOut s (execMdDmac m u' t) := by
  unfold Machine.execMdDmac
  exact .next h.mdArith

theorem Kept.execMdDmsu {m : Fin 24} {u' : List Ecc} (h : Kept s t) : KeptOut s (execMdDmsu m u' t) := by
  unfold Machine.execMdDmsu
  exact .next h.mdArith

theorem Kept.execMdCadd {m : Fin 24} {u' : List Ecc} (h : Kept s t) : KeptOut s (execMdCadd m u' t) := by
  unfold Machine.execMdCadd
  exact .next h.mdArith

theorem Kept.execMdCld {m : Fin 24} {u' : List Ecc} (h : Kept s t) : KeptOut s (execMdCld m u' t) := by
  unfold Machine.execMdCld
  exact .next h.mdArith

theorem Kept.execMdClr {m : Fin 24} {u' : List Ecc} (h : Kept s t) : KeptOut s (execMdClr m u' t) := by
  unfold Machine.execMdClr
  exact .next h.mdArith

theorem Kept.execMdBadd {m : Fin 24} {u' : List Ecc} (h : Kept s t) : KeptOut s (execMdBadd m u' t) := by
  unfold Machine.execMdBadd
  exact .next h.mdArith

theorem Kept.execMdBexp {m : Fin 24} {u' : List Ecc} (h : Kept s t) : KeptOut s (execMdBexp m u' t) := by
  unfold Machine.execMdBexp
  exact .next h.mdArith

theorem Kept.execMdExp {m : Fin 24} {u' : List Ecc} (h : Kept s t) : KeptOut s (execMdExp m u' t) := by
  unfold Machine.execMdExp
  exact .next h.mdArith

theorem Kept.execMdNorm {m : Fin 24} {u' : List Ecc} (h : Kept s t) : KeptOut s (execMdNorm m u' t) := by
  unfold Machine.execMdNorm
  exact .next h.mdArith

theorem Kept.execMdAsh {m : Fin 24} {u' : List Ecc} (h : Kept s t) : KeptOut s (execMdAsh m u' t) := by
  unfold Machine.execMdAsh
  exact .next h.mdArith

theorem Kept.execMdRnd {m : Fin 24} {u' : List Ecc} (h : Kept s t) : KeptOut s (execMdRnd m u' t) := by
  unfold Machine.execMdRnd
  exact .next h.mdArith

theorem Kept.mdCtl {m : Fin 24} {upset : List Ecc} {cop mask : Nat} {body : Nat → Nat → State → State} (h : Kept s t)
    (hbody : ∀ y0 y1 y2, Kept s y2 → Kept s (body y0 y1 y2)) :
    Kept s (t.mdCtl m upset cop mask body) := by
  unfold State.mdCtl
  exact h.mdStep (fun _ _ _ k1 => .ite k1.mdFault (hbody _ _ _ k1))

theorem Kept.mdJump {m : Fin 24} {t' cyc : Nat} (h : Kept s t) : Kept s (t.mdJump m t' cyc) := by
  unfold State.mdJump
  exact h.setF.mdCycles.mdShow

theorem Kept.mdSeq {m : Fin 24} {pc : Nat} (h : Kept s t) : Kept s (t.mdSeq m pc) := by
  unfold State.mdSeq
  exact h.mdCycles.mdNext

theorem Kept.execMdHalt {m : Fin 24} {stop : Bool} {u' : List Ecc} (h : Kept s t) : KeptOut s (execMdHalt m stop u' t) := by
  unfold Machine.execMdHalt
  exact .next (h.mdCtl (fun _ _ _ k1 => .ite k1.mdCycles.setF.setMdState.mdDiscard k1.mdCycles.setF.setMdState.mdDiscard.raise))

theorem Kept.mdFlow {m : Fin 24} {pc : Nat} {k : State} (h : Kept s t) (hk : Kept s k) : Kept s (t.mdFlow m pc k) := by
  unfold State.mdFlow
  exact .ite hk h.mdFault

theorem Kept.execMdJmp {m : Fin 24} {u' : List Ecc} (h : Kept s t) : KeptOut s (execMdJmp m u' t) := by
  unfold Machine.execMdJmp
  exact .next (h.mdCtl (fun _ _ _ k1 => k1.mdFlow k1.mdJump))

theorem Kept.execMdJcc {m : Fin 24} {u' : List Ecc} (h : Kept s t) : KeptOut s (execMdJcc m u' t) := by
  unfold Machine.execMdJcc
  exact .next (h.mdCtl (fun _ _ _ k1 => .ite k1.mdFault (k1.mdFlow (.ite k1.mdJump k1.mdSeq))))

theorem Kept.execMdCall {m : Fin 24} {u' : List Ecc} (h : Kept s t) : KeptOut s (execMdCall m u' t) := by
  unfold Machine.execMdCall
  exact .next (h.mdCtl (fun _ _ _ k1 => k1.mdFlow (.ite k1.mdFault k1.modMd.mdJump)))

theorem Kept.execMdRet {m : Fin 24} {u' : List Ecc} (h : Kept s t) : KeptOut s (execMdRet m u' t) := by
  unfold Machine.execMdRet
  refine .next (h.mdCtl fun _ _ _ k => k.mdFlow ?_)
  split
  · exact k.mdFault
  · exact k.modMd.mdJump

theorem Kept.mdRepeat {m : Fin 24} {pc count last : Nat} (h : Kept s t) : Kept s (t.mdRepeat m pc count last) := by
  unfold State.mdRepeat
  extract_lets _
  exact .ite h.mdFault (.ite h.mdSeq h.modMd.mdJump)

theorem Kept.execMdRep {m : Fin 24} {u' : List Ecc} (h : Kept s t) : KeptOut s (execMdRep m u' t) := by
  unfold Machine.execMdRep
  exact .next (h.mdCtl (fun _ _ _ k1 => .ite k1.mdFault k1.mdRepeat))

theorem Kept.execMdRepr {m : Fin 24} {u' : List Ecc} (h : Kept s t) : KeptOut s (execMdRepr m u' t) := by
  unfold Machine.execMdRepr
  exact .next (h.mdCtl (fun _ _ _ k1 => k1.mdRepeat))

theorem Kept.execMdLdi {m : Fin 24} {u' : List Ecc} (h : Kept s t) : KeptOut s (execMdLdi m u' t) := by
  unfold Machine.execMdLdi
  exact .next (h.mdCtl (fun _ _ _ k1 => .ite k1.mdFault k1.mwrite.mdSeq))

theorem Kept.execMdMove {m : Fin 24} {u' : List Ecc} (h : Kept s t) : KeptOut s (execMdMove m u' t) := by
  unfold Machine.execMdMove
  exact .next (h.mdCtl (fun _ _ _ k1 => .ite k1.mdFault k1.mwrite.mdSeq))

theorem Kept.execMdLd {m : Fin 24} {u' : List Ecc} (h : Kept s t) : KeptOut s (execMdLd m u' t) := by
  unfold Machine.execMdLd
  exact .next (h.mdCtl (fun _ _ _ k1 => .ite k1.mdFault (.ite k1.mdTouch.mdFault k1.mdTouch.mwrite.mdCycles.mdNext)))

theorem Kept.execMdSt {m : Fin 24} {u' : List Ecc} (h : Kept s t) : KeptOut s (execMdSt m u' t) := by
  unfold Machine.execMdSt
  exact .next (h.mdCtl fun _ _ _ k => .ite k.mdFault (.ite k.mdTouch.mdFault (.mdSeq (.writeMd k.mdTouch))))

theorem Kept.execMdSrm {m : Fin 24} {u' : List Ecc} (h : Kept s t) : KeptOut s (execMdSrm m u' t) := by
  unfold Machine.execMdSrm
  exact .next (h.mdCtl (fun _ _ _ k1 => k1.mset.mdSeq))

theorem Kept.evSet {m e : Nat} {b : Bool} (h : Kept s t) : Kept s (t.evSet m e b) := by
  unfold State.evSet
  extract_lets _
  exact h.wr

theorem Kept.eventAt {m : Fin 24} {e : Nat} (h : Kept s t) : Kept s (t.eventAt m e) := by
  unfold State.eventAt
  exact .ite h.raise h.evSet

theorem Kept.execMdWaite {m : Fin 24} {u' : List Ecc} (h : Kept s t) : KeptOut s (execMdWaite m u' t) := by
  unfold Machine.execMdWaite
  exact .next (h.mdCtl (fun _ _ _ k1 => .ite k1.evSet.mdSeq k1.mdSeq.setMdState.modMd))

theorem Kept.execWaitWake {m : Fin 24} (h : Kept s t) : KeptOut s (execWaitWake m t) := by
  unfold Machine.execWaitWake
  split
  · exact .next h
  · exact .ite (.next h) (.next h.mdSettle.evSet.setMdState.modMd)

theorem Kept.execMdspEvset {m : Fin 24} {ev : Fin 256} (h : Kept s t) : KeptOut s (execMdspEvset m ev t) := by
  unfold Machine.execMdspEvset
  exact .next h.eventAt

theorem Kept.execMdspTrigEvent {m : Fin 24} (h : Kept s t) : KeptOut s (execMdspTrigEvent m t) := by
  unfold Machine.execMdspTrigEvent
  extract_lets _
  split
  · exact .next h
  · exact .next h.at_.modC.eventAt

theorem Kept.execMdSig {m : Fin 24} {u' : List Ecc} (h : Kept s t) : KeptOut s (execMdSig m u' t) := by
  unfold Machine.execMdSig
  refine .next (h.mdCtl fun _ _ _ k => ?_)
  split
  · exact k.setF.raise.mdSeq
  · exact k.modC.mdSeq
  · exact k.mdFault

theorem Kept.execMdHinc {m : Fin 24} {u' : List Ecc} (h : Kept s t) : KeptOut s (execMdHinc m u' t) := by
  unfold Machine.execMdHinc
  exact .next (h.mdCtl fun _ _ _ k => .ite k.mdTouch.mdFault (.mdSeq (.ite k.mdTouch.orSr (.writeMd k.mdTouch))))

theorem Kept.execMdspStart {m : Fin 24} (h : Kept s t) : KeptOut s (execMdspStart m t) := by
  unfold Machine.execMdspStart
  extract_lets x1 x2 x3
  have hx1 : Kept s x1 := h.modMd
  have hx2 : Kept s x2 := hx1.setF.mset
  have hx3 : Kept s x3 := hx2.mset.wr.wr
  exact .ite (.next h.raise) (.next hx3.setMdState.mdShow)

theorem Kept.execMdspStop {m : Fin 24} (h : Kept s t) : KeptOut s (execMdspStop m t) := by
  unfold Machine.execMdspStop
  exact .ite (.next h.setMdState.mdDiscard) (.ite (.next h.mdSettle.setMdState.mdDiscard) (.next h))

theorem MdCanonical.putWin {c : Mdsp} {o v : Nat} (h : MdCanonical c) : MdCanonical (c.putWin o v) := by
  unfold Mdsp.putWin
  split
  · exact h
  · exact h.write

theorem MdCanonical.putWins {c : Mdsp} {l : List Nat} {o v : Nat → Nat} (h : MdCanonical c) :
    MdCanonical (l.foldl (fun c i => c.putWin (o i) (v i)) c) := by
  induction l generalizing c with
  | nil => exact h
  | cons i l ih => exact ih h.putWin

theorem Kept.execMdspMemAccess {m : Fin 24} {off len : Nat} {write : Bool} {data : List Nat} {upset : List Ecc} (h : Kept s t) :
    KeptOut s (execMdspMemAccess m off len write data upset t) := by
  unfold Machine.execMdspMemAccess
  extract_lets _ _ _ _ x1 x2
  have hx1 : Kept s x1 := .forEach (fun _ _ k => k.mdMark) h
  have hx2 : Kept s x2 := hx1.modMd fun _ hc => hc.putWins
  exact .ite (.next h.answer) (.ite (.next h.answer) (.ite (.ite (.next hx1.answer) (.next hx2.modMd.answer))
    (.ite (.next hx1.answer) (.next hx1.answer))))

/-! ### Machine/Tree.lean -/

theorem Kept.setPending {v : Nat} {b : Bool} (h : Kept s t) : Kept s (t.setPending v b) := by
  unfold State.setPending
  extract_lets _
  exact .same h

theorem Kept.sendVec {v : Nat} (h : Kept s t) : Kept s (t.sendVec v) := by
  unfold State.sendVec
  exact .ite h.emit h.setPending

theorem Kept.noteFalls (h : Kept s t) : Kept s t.noteFalls := by
  unfold State.noteFalls
  extract_lets _ _
  exact .same h

/-! ### Machine/DmaCtl.lean -/

theorem Kept.setDm {d : Fin 6} {c : Fin 32} {x : DmaCh} (h : Kept s t) : Kept s (t.setDm d c x) := by
  unfold State.setDm
  extract_lets _
  exact .same h

theorem Kept.setDmaState {d : Fin 6} {c : Fin 32} {n : Nat} (h : Kept s t) : Kept s (t.setDmaState d c n) := by
  unfold State.setDmaState
  exact h.setF

theorem Kept.dmaCmdErr {d : Fin 6} (h : Kept s t) : Kept s (t.dmaCmdErr d) := by
  unfold State.dmaCmdErr
  exact h.raise

theorem Kept.dmaBit {reg : Nat} {c : Fin 32} (h : Kept s t) : Kept s (t.dmaBit reg c) := by
  unfold State.dmaBit
  exact h.wr

theorem Kept.dmaSettle {d : Fin 6} {c : Fin 32} (h : Kept s t) : Kept s (t.dmaSettle d c) := by
  unfold State.dmaSettle
  extract_lets _
  exact .ite h.setDm.setDmaState h

theorem Kept.dmaBurst {d : Fin 6} {c : Fin 32} {v : BitVec 256} (h : Kept s t) : Kept s (t.dmaBurst d c v) := by
  unfold State.dmaBurst
  extract_lets _ _
  exact .ite h.setDm.setDmaState h.setDm.setDmaState

theorem Kept.dmaComplete {d : Fin 6} {c : Fin 32} {v : BitVec 256} (h : Kept s t) : Kept s (t.dmaComplete d c v) := by
  unfold State.dmaComplete
  extract_lets _ x1
  have hx1 : Kept s x1 := .ite h.dmaBit h
  exact .ite hx1.setDm.setDmaState hx1.setDm.setDmaState

theorem Kept.dmaFence {d : Fin 6} {c : Fin 32} (h : Kept s t) : Kept s (t.dmaFence d c) := by
  unfold State.dmaFence
  split
  · exact .ite h.dmaComplete h
  · exact h

theorem Kept.dmaErrEnd {d : Fin 6} {c : Fin 32} (h : Kept s t) : Kept s (t.dmaErrEnd d c) := by
  unfold State.dmaErrEnd
  extract_lets -underBinder _
  split
  · extract_lets x1 x2 x3
    have hx1 : Kept s x1 := h.setDm.dmaBit
    have hx2 : Kept s x2 := hx1.wrPair
    have hx3 : Kept s x3 := hx2.wrPair
    exact .ite hx3.wr h
  · exact h

theorem Kept.dmaError {d : Fin 6} {c : Fin 32} {a desc kind resp : Nat} (h : Kept s t) :
    Kept s (t.dmaError d c a desc kind resp) := by
  unfold State.dmaError
  extract_lets _ _
  exact .ite h.dmaErrEnd h.setDm.setDmaState.dmaErrEnd

theorem Kept.dmaPulse {d : Fin 6} {c : Fin 32} (h : Kept s t) : Kept s (t.dmaPulse d c) := by
  unfold State.dmaPulse
  exact .ite h.dmaBit h.setF

theorem Kept.setReq {d : Fin 6} {c : Fin 32} {level : Bool} (h : Kept s t) : Kept s (t.setReq d c level) := by
  unfold State.setReq
  extract_lets _ _ x1
  have hx1 : Kept s x1 := h.modFab
  exact .ite hx1.dmaPulse hx1

theorem Kept.execPeripheralPulse {d : Fin 6} {c : Fin 32} (h : Kept s t) : KeptOut s (execPeripheralPulse d c t) := by
  unfold Machine.execPeripheralPulse
  extract_lets _
  split
  · exact .next h.setReq.setReq
  · split
    · split
      · exact .next h.at_.modC.dmaPulse
      · exact .next h
    · exact .next h

theorem Kept.execPacedBurstStart {d : Fin 6} {c : Fin 32} {line : Bool} (h : Kept s t) :
    KeptOut s (execPacedBurstStart d c line t) := by
  unfold Machine.execPacedBurstStart
  extract_lets x1 _
  have hx1 : Kept s x1 := h.setReq
  split
  · extract_lets x2
    have hx2 : ∀ y0, Kept s y0 → Kept s (x2 y0) := by
      intro y0 ky0
      unfold x2
      extract_lets _
      exact ky0.setDm.setDmaState
    exact .ite (.ite (.next (hx2 _ hx1.setF)) (.ite (.next (hx2 _ hx1)) (.next hx1))) (.next hx1)
  · exact .next hx1

theorem Kept.dmaStart {d : Fin 6} {c : Fin 32} (h : Kept s t) : Kept s (t.dmaStart d c) := by
  unfold State.dmaStart
  extract_lets _ _
  exact .ite h.setDm.setDmaState h.dmaCmdErr

theorem Kept.dmaStop {d : Fin 6} {c : Fin 32} (h : Kept s t) : Kept s (t.dmaStop d c) := by
  unfold State.dmaStop
  extract_lets _
  exact .ite h.setDm.dmaSettle h.dmaCmdErr

theorem Kept.dmaClr {d : Fin 6} {c : Fin 32} (h : Kept s t) : Kept s (t.dmaClr d c) := by
  unfold State.dmaClr
  extract_lets _ x1
  have hx1 : Kept s x1 := h.setDm.setDmaState
  exact .ite hx1.wr.noteFalls h.dmaCmdErr

theorem Kept.dmaSetRsel {d : Fin 6} {c : Fin 32} {n : Nat} (h : Kept s t) : Kept s (t.dmaSetRsel d c n) := by
  unfold State.dmaSetRsel
  extract_lets _ x1
  have hx1 : Kept s x1 := h.modC
  exact .ite h (.ite h.dmaCmdErr hx1.setF)

theorem Kept.dmaCtrl {d : Fin 6} {c : Fin 32} {v : Word} (h : Kept s t) : Kept s (t.dmaCtrl d c v) := by
  unfold State.dmaCtrl
  extract_lets x1 x2 x3 x4
  have hx1 : Kept s x1 := h.setF
  have hx2 : Kept s x2 := hx1.dmaSetRsel
  have hx3 : Kept s x3 := .ite hx2.dmaClr hx2
  have hx4 : Kept s x4 := .ite hx3.dmaPulse hx3
  exact .ite hx4.dmaStop (.ite hx4.dmaStart hx4)

theorem Kept.dmaDesc {d : Fin 6} {c : Fin 32} {a : Nat} {v : Word} (h : Kept s t) : Kept s (t.dmaDesc d c a v) := by
  unfold State.dmaDesc
  exact .ite h.dmaCmdErr h.wrRW

theorem Kept.execDmaStart {d : Fin 6} {c : Fin 32} (h : Kept s t) : KeptOut s (execDmaStart d c t) := by
  unfold Machine.execDmaStart
  exact .next h.dmaStart

theorem Kept.execDmaStop {d : Fin 6} {c : Fin 32} (h : Kept s t) : KeptOut s (execDmaStop d c t) := by
  unfold Machine.execDmaStop
  exact .next h.dmaStop

theorem Kept.execDmaClr {d : Fin 6} {c : Fin 32} (h : Kept s t) : KeptOut s (execDmaClr d c t) := by
  unfold Machine.execDmaClr
  exact .next h.dmaClr

theorem Kept.execSwreq {d : Fin 6} {c : Fin 32} (h : Kept s t) : KeptOut s (execSwreq d c t) := by
  unfold Machine.execSwreq
  exact .next h.dmaPulse

/-! ### Machine/Fabric.lean -/

theorem Kept.keepFvals {d k w : Nat} (h : Kept s t) : Kept s (t.keepFvals d k w) := by
  unfold State.keepFvals
  extract_lets _
  exact h.setSeam

theorem Kept.dropFvals {d k : Nat} (h : Kept s t) : Kept s (t.dropFvals d k) := by
  unfold State.dropFvals
  exact h.setSeam

theorem Kept.setFfs {d : Fin 6} {f : Nat → Nat → Nat → Nat → Option Bool} (h : Kept s t) : Kept s (t.setFfs d f) := by
  unfold State.setFfs
  extract_lets _ _
  exact h.modFab

theorem Kept.settle {d : Fin 6} (h : Kept s t) : Kept s (t.settle d) := by
  unfold State.settle
  exact .forEach (fun _ _ k1 => k1.setFfs) h

theorem Kept.clockFfs {d : Fin 6} {net : Nat} (h : Kept s t) : Kept s (t.clockFfs d net) := by
  unfold State.clockFfs
  extract_lets x1
  have hx1 : Kept s x1 := h.modFab
  exact h.setFfs

end Sys2Proof.Machine
end

section
/-! The parts of the commands, and the commands, keep the stores canonical: one lemma for each function of
Machine/Blocks, Machine/Memory, Machine/Vaults, Machine/Seam, Machine/Header, Machine/Configuration. -/
namespace Sys2Proof.Machine
variable {s t : State}
set_option Elab.async false

/-! ### Machine/Blocks.lean -/

theorem Kept.ramWrite {d : Fin 6} {o : RamOp} {set : RamSet} (h : Kept s t) : Kept s (t.ramWrite d o set) := by
  unfold State.ramWrite
  extract_lets _ _ _ _ _ _ _ _ _ _ _ _ _ _
  exact .ite h.modFab (.ite h h.modFab)

theorem Kept.ramRead {d : Fin 6} {o : RamOp} {set : RamSet} (h : Kept s t) : Kept s (t.ramRead d o set) := by
  unfold State.ramRead
  extract_lets _ _ _ _ _ _ _ x1
  have hx1 : Kept s x1 := h.modFab
  exact .ite hx1 hx1.emit

theorem Kept.ramStep {d : Fin 6} {net : Nat} {o : RamOp} (h : Kept s t) : Kept s (t.ramStep d net o) := by
  unfold State.ramStep
  extract_lets _
  split
  · exact h
  · exact .ite h (.ite h.ramRead (.ite h.ramWrite h))

theorem Kept.sliceStep {d : Fin 6} {net : Nat} {x0 : Fabric} {ops : List SliceOp} {k : Nat} {set : SliceSet} (h : Kept s t) :
    Kept s (t.sliceStep d net x0 ops k set) := by
  unfold State.sliceStep
  extract_lets _ _ x1
  have hx1 : Kept s x1 := h.modFab
  exact .ite h (.ite hx1.emit hx1)

theorem Kept.gpioStep {d : Fin 6} {net : Nat} {o : GpioOp} (h : Kept s t) : Kept s (t.gpioStep d net o) := by
  unfold State.gpioStep
  extract_lets -underBinder _
  split
  · exact h
  · extract_lets _ _ _ _ _ _
    exact .ite h h.modFab

theorem Kept.setFcs {d : Fin 6} {k : Nat} {en : Bool} (h : Kept s t) : Kept s (t.setFcs d k en) := by
  unfold State.setFcs
  extract_lets _ x1
  have hx1 : Kept s x1 := h.setB
  exact .ite hx1 hx1.setB

theorem Kept.execGlobalNetRisingEdge {d : Fin 6} {net : Fin 32} {en : Bool} {uf : List (Fin 4 × BitVec 8)} {rams : List RamOp}
    {slices : List SliceOp} {gpio : List GpioOp} (h : Kept s t) :
    KeptOut s (execGlobalNetRisingEdge d net en uf rams slices gpio t) := by
  unfold Machine.execGlobalNetRisingEdge
  split
  · exact .next h
  · extract_lets x1 x2 _ x3 x4 x5 x6
    have hx1 : Kept s x1 := h.at_.deliver.modFab
    have hx2 : Kept s x2 := hx1.modFab
    have hx3 : Kept s x3 := hx2.clockFfs.used.modFab
    have hx4 : Kept s x4 := .forEach (fun _ _ k7 => k7.ramStep) hx3
    have hx5 : Kept s x5 := .forEach (fun _ _ k8 => k8.sliceStep) hx4
    have hx6 : Kept s x6 := .forEach (fun _ _ k9 => k9.gpioStep) hx5
    exact .ite (.next hx1) (.next (.forEach (fun _ _ k10 => k10.setUf) hx6.settle))

/-! ### Machine/Memory.lean -/

theorem Kept.execG6Read {src addr len : Nat} {env : G6Env} (h : Kept s t) : KeptOut s (execG6Read src addr len env t) := by
  unfold Machine.execG6Read
  extract_lets x1 _
  have hx1 : Kept s x1.st := h.g6Access
  exact .next hx1.answer

theorem Kept.execG6FullWrite {src addr : Nat} {data : Line512} {env : G6Env} (h : Kept s t) :
    KeptOut s (execG6FullWrite src addr data env t) := by
  unfold Machine.execG6FullWrite
  extract_lets x1
  have hx1 : Kept s x1.st := h.g6Access
  exact .next hx1.answer

theorem Kept.execG6PartialWrite {src addr : Nat} {data : Line512} {mask : BitVec 64} {env : G6Env} (h : Kept s t) :
    KeptOut s (execG6PartialWrite src addr data mask env t) := by
  unfold Machine.execG6PartialWrite
  extract_lets _ x1
  have hx1 : Kept s x1.st := h.g6Access
  exact .next hx1.answer

theorem Kept.execG6OrWrite {d : Fin 6} {addr : Nat} {data : Line512} {env : G6Env} (h : Kept s t) :
    KeptOut s (execG6OrWrite d addr data env t) := by
  unfold Machine.execG6OrWrite
  extract_lets x1
  have hx1 : Kept s x1.st := h.g6Access
  exact .next hx1.answer

theorem Kept.memReady {q : Nat} (h : Kept s t) : Kept s (t.memReady q) := by
  unfold State.memReady
  exact h.setF.raise

theorem Kept.endAccepted {q : Nat} (h : Kept s t) : Kept s (t.endAccepted q) := by
  unfold State.endAccepted
  extract_lets _
  exact .same h

theorem Kept.execMempInit {q : Fin 24} (h : Kept s t) : KeptOut s (execMempInit q t) := by
  unfold Machine.execMempInit
  exact .ite (.next h.setF) (.ite (.next h.endAccepted.setF) (.next h.raise))

theorem Kept.execMempTrainDone {q : Fin 24} {dens : BitVec 2} {ok : Bool} (h : Kept s t) :
    KeptOut s (execMempTrainDone q dens ok t) := by
  unfold Machine.execMempTrainDone
  extract_lets x1 _
  have hx1 : Kept s x1 := h.setF
  exact .ite (.ite (.next hx1.memReady) (.next hx1.setF.raise)) (.next h)

theorem Kept.execMempZero {q : Fin 24} (h : Kept s t) : KeptOut s (execMempZero q t) := by
  unfold Machine.execMempZero
  exact .ite (.next h.setF) (.next h.raise)

/-- A port zeroed, with no line of it left: its lines are as their default is then. -/
theorem Kept.zeroPort {q : Fin 24} (h : Kept s t) : Kept s ((t.dropLines q).setP q { t.p q with zeroed := true }) := by
  refine ⟨h.pending, fun hs => { h.canonical hs with lines := ?_ }⟩
  refine Kept.canon_congr (fun e he => ?_) (h.dropLines.canonical hs).lines
  have hk : portOf (e.1 / 33554432) ≠ q.val := by simpa using (List.mem_filter.mp he).2
  have hp : ∀ k : Nat, k ≠ q.val → ((t.dropLines q).setP q { t.p q with zeroed := true }).port.toList.getD k MemPort.reset =
      t.port.toList.getD k MemPort.reset := by
    intro k hk
    have hv : q.val ≠ k := Ne.symm hk
    by_cases hlt : k < 24
    · simp [State.setP, State.dropLines, List.getD_eq_getElem?_getD, hlt, hv]
    · simp [List.getD_eq_getElem?_getD, hlt]
  unfold State.lineDefault
  rw [hp _ hk]
  rfl

theorem Kept.execZeroDone {q : Fin 24} (h : Kept s t) : KeptOut s (execZeroDone q t) := by
  unfold Machine.execZeroDone
  exact .ite (.next h.zeroPort.memReady) (.next h)

theorem Kept.execRefreshDue {q : Fin 24} {waiting : Bool} (h : Kept s t) : KeptOut s (execRefreshDue q waiting t) := by
  unfold Machine.execRefreshDue
  extract_lets _ _
  exact .ite (.ite (.next h.setF) (.next h.setF.tally)) (.next h)

theorem Kept.execBankRefresh {q : Fin 24} {_bank : Fin 16} (h : Kept s t) : KeptOut s (execBankRefresh q _bank t) := by
  unfold Machine.execBankRefresh
  exact .ite (.next h.tally) (.next h)

theorem Kept.execRhWindow {q : Fin 24} (h : Kept s t) : KeptOut s (execRhWindow q t) := by
  unfold Machine.execRhWindow
  extract_lets _ _ x1 _
  have hx1 : Kept s x1 := h.at_
  exact .next hx1.setP

theorem Kept.setScrub {d : Fin 6} {x : Option Scrub} (h : Kept s t) : Kept s (t.setScrub d x) := by
  unfold State.setScrub
  exact .same h

theorem Kept.scrNext {d a : Nat} (h : Kept s t) : Kept s (t.scrNext d a) := by
  unfold State.scrNext
  exact h.setF

theorem Kept.execPromScrGo {d : Fin 6} {fix : Bool} (h : Kept s t) : KeptOut s (execPromScrGo d fix t) := by
  unfold Machine.execPromScrGo
  extract_lets x1 x2 x3 x4
  have hx1 : Kept s x1 := h.setB
  have hx2 : Kept s x2 := hx1.wr.wr.wr
  have hx3 : Kept s x3 := hx2.wrPair.wrPair
  have hx4 : Kept s x4 := hx3.setB.setB
  exact .ite (.next hx1.raise) (.next hx4.scrNext.setScrub)

theorem Kept.scrDone {d : Fin 6} {cut : Bool} (h : Kept s t) : Kept s (t.scrDone d cut) := by
  unfold State.scrDone
  extract_lets x1
  have hx1 : Kept s x1 := h.setB.setB
  exact hx1.setScrub.raise

theorem Kept.execPromScrStop {d : Fin 6} (h : Kept s t) : KeptOut s (execPromScrStop d t) := by
  unfold Machine.execPromScrStop
  exact .ite (.next h.scrDone) (.next h)

theorem Kept.scrNote {d : Fin 6} {a ce ue : Nat} (h : Kept s t) : Kept s (t.scrNote d a ce ue) := by
  unfold State.scrNote
  extract_lets _ x1 x2 x3
  have hx1 : Kept s x1 := h.bump
  have hx2 : Kept s x2 := hx1.bump.bump
  have hx3 : Kept s x3 := .ite hx2.wrPair hx2
  exact .ite hx2 hx3.wrPair

theorem Kept.scrCheck {d : Fin 6} {q key a : Nat} {env : G6Env} (h : Kept s t) : Kept s (t.scrCheck d q key a env) := by
  unfold State.scrCheck
  extract_lets _ _ _ _ x1 x2 x3
  have hx1 : Kept s x1 := h.lineRead.keepMarks
  have hx2 : Kept s x2 := hx1.countCe.countUe
  have hx3 : Kept s x3 := hx2.scrNote
  exact .ite hx3.setLine hx3

theorem Kept.scrRead {d : Fin 6} {q : Fin 24} {ch line a : Nat} {env : G6Env} (h : Kept s t) :
    Kept s (t.scrRead d q ch line a env) := by
  unfold State.scrRead
  extract_lets _ x1
  have hx1 : Kept s x1 := h.tally.activate.edcRetry
  exact .ite hx1 (.ite hx1.raise.elog hx1.scrCheck)

theorem Kept.execScrubLine {d : Fin 6} {env : G6Env} (h : Kept s t) : KeptOut s (execScrubLine d env t) := by
  unfold Machine.execScrubLine
  split
  · exact .next h
  · extract_lets x1 x2
    have hx1 : Kept s x1 := by
      unfold x1
      split
      · exact h
      · exact .dite (fun _ => h.scrRead) fun _ => h
    have hx2 : Kept s x2 := hx1.scrNext
    exact .ite (.next hx2.scrDone) (.next hx2.setScrub)

theorem Kept.execRegionCtrlWrite {r : Fin 16} {v : Word} (h : Kept s t) : KeptOut s (execRegionCtrlWrite r v t) := by
  unfold Machine.execRegionCtrlWrite
  extract_lets _
  exact .ite (.next h.raise) (.next h.wrRW)

/-! ### Machine/Vaults.lean -/

theorem Kept.vltCause {f : Fld} (h : Kept s t) : Kept s (t.vltCause f) := by
  unfold State.vltCause
  exact h.raise

theorem Kept.setVstate {v n : Nat} (h : Kept s t) : Kept s (t.setVstate v n) := by
  unfold State.setVstate
  exact h.setF

theorem Kept.setPtr {v : Fin 64} {a : Nat} (h : Kept s t) : Kept s (t.setPtr v a) := by
  unfold State.setPtr
  extract_lets _
  exact h.setV.wrPair

theorem Kept.enableVault {v : Fin 64} {w : Word} (h : Kept s t) : Kept s (t.enableVault v w) := by
  unfold State.enableVault
  extract_lets x1 _ x2 _
  have hx1 : Kept s x1 := h.wrRW
  have hx2 : Kept s x2 := hx1.setV
  exact .ite hx2.setV.setPtr.setVstate hx2.setVstate

theorem Kept.startRekey {v : Fin 64} (h : Kept s t) : Kept s (t.startRekey v) := by
  unfold State.startRekey
  extract_lets _ _ x1 x2 x3 _ x4
  have hx1 : Kept s x1 := h.setV
  have hx2 : Kept s x2 := hx1.setB
  have hx3 : Kept s x3 := hx2.wrPair
  have hx4 : Kept s x4 := hx3.setV
  exact .ite hx2.setVstate.vltCause hx4.setPtr.setVstate

theorem Kept.rkgo {v : Fin 64} (h : Kept s t) : Kept s (t.rkgo v) := by
  unfold State.rkgo
  exact .ite h.startRekey (.ite h.setVstate h.vltCause)

theorem Kept.disableVault {v : Fin 64} (h : Kept s t) : Kept s (t.disableVault v) := by
  unfold State.disableVault
  extract_lets x1 _ x2
  have hx1 : Kept s x1 := h.setB
  have hx2 : Kept s x2 := hx1.setV
  exact hx2.setB.setVstate

theorem Kept.storeRights {v : Fin 64} {w : Word} (h : Kept s t) : Kept s (t.storeRights v w) := by
  unfold State.storeRights
  extract_lets x1
  have hx1 : ∀ y0 y1, Kept s y1 → Kept s (x1 y0 y1) := by
    intro y0 y1 ky1
    unfold x1
    exact ky1.setF
  exact hx1 _ _ (hx1 _ _ (hx1 _ _ (hx1 _ _ h)))

theorem Kept.vaultMoved {v : Fin 64} {w : Word} (h : Kept s t) : Kept s (t.vaultMoved v w) := by
  unfold State.vaultMoved
  exact .ite h.vltCause h

theorem Kept.vaultCtrl {v : Fin 64} {w : Word} (h : Kept s t) : Kept s (t.vaultCtrl v w) := by
  unfold State.vaultCtrl
  extract_lets _ x1
  have hx1 : ∀ y0, Kept s y0 → Kept s (x1 y0) := by
    intro y0 ky0
    unfold x1
    exact .ite ky0.rkgo ky0
  exact .ite (.ite (.ite (hx1 _ h.enableVault) h.vltCause) (hx1 _ h.wrRW)) (.ite (hx1 _ h.vaultMoved.storeRights) (.ite h.vltCause (hx1 _ h.vaultMoved.storeRights.disableVault)))

theorem Kept.execVaultEnable {v : Fin 64} {w : Word} (h : Kept s t) : KeptOut s (execVaultEnable v w t) := by
  unfold Machine.execVaultEnable
  exact .next h.vaultCtrl

theorem Kept.execVaultDisable {v : Fin 64} (h : Kept s t) : KeptOut s (execVaultDisable v t) := by
  unfold Machine.execVaultDisable
  exact .next h.vaultCtrl

theorem Kept.execRkgo {v : Fin 64} (h : Kept s t) : KeptOut s (execRkgo v t) := by
  unfold Machine.execRkgo
  exact .next h.rkgo

theorem Kept.execRekeyStart {v : Fin 64} (h : Kept s t) : KeptOut s (execRekeyStart v t) := by
  unfold Machine.execRekeyStart
  split
  · exact .next h
  · exact .ite (.next h.at_.startRekey) (.next h)

theorem Kept.engineAt {q : Fin 24} {ch ev : Nat} {env : G6Env} (h : Kept s t) : Kept s (t.engineAt q ch ev env) := by
  unfold State.engineAt
  exact h.roundTrip.tally.activate.edcRetry

theorem Kept.rekeyError {v : Fin 64} (h : Kept s t) : Kept s (t.rekeyError v) := by
  unfold State.rekeyError
  exact h.setVstate.vltCause

theorem Kept.rekeyEnd {v : Fin 64} (h : Kept s t) : Kept s (t.rekeyEnd v) := by
  unfold State.rekeyEnd
  extract_lets _ x1 _ x2 x3
  have hx1 : Kept s x1 := h.setF.setVstate
  have hx2 : Kept s x2 := hx1.setV
  have hx3 : Kept s x3 := hx2.vltCause
  exact .ite hx3.startRekey hx3

theorem Kept.engineNext {v : Fin 64} (h : Kept s t) : Kept s (t.engineNext v) := by
  unfold State.engineNext
  extract_lets _ x1 _
  have hx1 : Kept s x1 := h.setPtr
  exact .ite hx1 (.ite hx1.setV.setVstate.vltCause hx1.rekeyEnd)

theorem Kept.rekeyAt {v : Fin 64} {q : Fin 24} {ch key a : Nat} {env : G6Env} (h : Kept s t) :
    Kept s (t.rekeyAt v q ch key a env) := by
  unfold State.rekeyAt
  extract_lets _ x1 _ _ _ x2 x3 _ x4
  have hx1 : Kept s x1 := h.engineAt
  have hx2 : Kept s x2 := hx1.lineRead.keepMarks
  have hx3 : Kept s x3 := hx2.countCe.countUe
  have hx4 : Kept s x4 := hx3.roundTrip.tally
  exact .ite hx1.rekeyError (.ite hx1.raise.elog.rekeyError (.ite hx3.rekeyError (.ite hx4.setLine.engineNext hx3.tagFailure)))

theorem Kept.execRekeyLine {v : Fin 64} {env : G6Env} (h : Kept s t) : KeptOut s (execRekeyLine v env t) := by
  unfold Machine.execRekeyLine
  extract_lets _
  split
  · split
    · exact .next h
    · exact .next h.rekeyError
    · split
      · exact .next h.rekeyAt
      · exact .next h
    · exact .next h
  · exact .next h

theorem Kept.initAt {v : Fin 64} {q : Fin 24} {ch key a : Nat} {env : G6Env} (h : Kept s t) :
    Kept s (t.initAt v q ch key a env) := by
  unfold State.initAt
  extract_lets x1
  have hx1 : Kept s x1 := h.engineAt
  exact .ite hx1.rekeyError (.ite hx1.raise.elog.setLine.rekeyError hx1.setLine.engineNext)

theorem Kept.execInitLine {v : Fin 64} {env : G6Env} (h : Kept s t) : KeptOut s (execInitLine v env t) := by
  unfold Machine.execInitLine
  extract_lets _
  split
  · split
    · exact .next h
    · exact .next h.rekeyError
    · split
      · exact .next h.initAt
      · exact .next h
    · exact .next h
  · exact .next h

theorem Kept.portDown {q : Nat} (h : Kept s t) : Kept s (t.portDown q) := by
  unfold State.portDown
  extract_lets _ x1
  have hx1 : Kept s x1 := h.setF
  exact .ite hx1.raise hx1

theorem Kept.integStop {g : Fin 24} (h : Kept s t) : Kept s (t.integStop g) := by
  unfold State.integStop
  exact .ite h.stopNow h

theorem Kept.zeroKeys (h : Kept s t) : Kept s t.zeroKeys := by
  unfold State.zeroKeys
  extract_lets x1 _ _ _
  have hx1 : Kept s x1 := .forEach (fun _ _ k2 => k2.setV) h
  exact .same hx1

theorem Kept.execIntegrityHalt {d : Fin 6} (h : Kept s t) : KeptOut s (execIntegrityHalt d t) := by
  unfold Machine.execIntegrityHalt
  extract_lets x1 x2 x3
  have hx1 : Kept s x1 := .same h
  have hx2 : Kept s x2 := .forEach (fun _ _ k4 => k4.integStop) hx1
  have hx3 : Kept s x3 := hx2.portDown.portDown
  exact .ite (.next hx3.zeroKeys) (.next h)

theorem Kept.haltDie {code : Nat} {d : Fin 6} (h : Kept s t) : Kept s (t.haltDie code d) := by
  unfold State.haltDie
  extract_lets x1 x2
  have hx1 : Kept s x1 := .same h
  have hx2 : Kept s x2 := .forEach (fun _ _ k3 => .ite k3.stopNow k3) hx1
  exact hx2.portDown.portDown

theorem Kept.haltAll {code : Nat} (h : Kept s t) : Kept s (t.haltAll code) := by
  unfold State.haltAll
  extract_lets x1
  have hx1 : Kept s x1 := .same h
  exact .raise (.zeroKeys (.forEach (fun _ _ k2 => k2.haltDie) hx1))

theorem Kept.safeState (h : Kept s t) : Kept s t.safeState := by
  unfold State.safeState
  extract_lets x1 x2 _
  have hx1 : Kept s x1 := h.haltAll.setB
  have hx2 : Kept s x2 := hx1.raise
  exact .same hx2

/-! ### Machine/Seam.lean -/

theorem Kept.setLink {d k n : Nat} (h : Kept s t) : Kept s (t.setLink d k n) := by
  unfold State.setLink
  extract_lets x1
  have hx1 : Kept s x1 := h.setF
  exact .ite hx1 hx1.setB.setSeam

theorem Kept.bothEnds {d k : Nat} {f : Nat → Nat → State → State} (h : Kept s t) (hf : ∀ y0 y1 y2, Kept s y2 → Kept s
    (f y0 y1 y2)) :
    Kept s (t.bothEnds d k f) := by
  unfold State.bothEnds
  split
  · exact h
  · exact hf _ _ _ (hf _ _ _ h)

theorem Kept.showAbsent {d : Nat} (h : Kept s t) : Kept s (t.showAbsent d) := by
  unfold State.showAbsent
  extract_lets _
  exact h.setF

theorem Kept.publish (h : Kept s t) : Kept s t.publish := by
  unfold State.publish
  extract_lets x1
  have hx1 : Kept s x1 := .same h
  exact .noteFalls (.forEach (fun _ _ k2 => k2.showAbsent) hx1)

theorem Kept.gangReach (h : Kept s t) : Kept s t.gangReach := by
  unfold State.gangReach
  extract_lets _
  exact .forEach (fun _ _ k1 => .ite k1.modG k1) h

theorem Kept.orphan {x : SeamTxn} (h : Kept s t) : Kept s (t.orphan x) := by
  unfold State.orphan
  extract_lets _ _
  exact .same h

theorem Kept.rerouteAll (h : Kept s t) : Kept s t.rerouteAll := by
  unfold State.rerouteAll
  exact .forEach (fun _ _ k1 => .forEach (fun _ _ k2 => .ite k2.orphan (.ite k2.sendFlit k2)) k1.setBridge) h

theorem Kept.fenceLink {d k : Nat} (h : Kept s t) : Kept s (t.fenceLink d k) := by
  unfold State.fenceLink
  exact ((h.bothEnds (fun _ _ _ k1 => k1.setLink.raise)).rerouteAll).gangReach

theorem Kept.execSeamFence {d : Fin 6} {k : Fin 3} (h : Kept s t) : KeptOut s (execSeamFence d k t) := by
  unfold Machine.execSeamFence
  exact .next h.fenceLink

theorem Kept.execFencePublish (h : Kept s t) : KeptOut s (execFencePublish t) := by
  unfold Machine.execFencePublish
  exact .next h.publish

theorem Kept.execDieIsolated {d : Fin 6} (h : Kept s t) : KeptOut s (execDieIsolated d t) := by
  unfold Machine.execDieIsolated
  extract_lets x1 x2 x3
  have hx1 : Kept s x1 := .forEach (fun _ _ k4 => .ite k4.fenceLink k4) h
  have hx2 : Kept s x2 := hx1.publish
  have hx3 : Kept s x3 := .ite hx2.safeState hx2
  exact .ite (.next (.forEach (fun _ _ k5 => .ite k5.stopNow k5) hx3)) (.next h)

theorem Kept.writeMap {reg : Nat → Nat} {m : List Nat} (h : Kept s t) : Kept s (t.writeMap reg m) := by
  unfold State.writeMap
  exact .forEach (fun _ _ k1 => k1.wr) h

theorem Kept.setMap {d k : Nat} {m : List Nat} (h : Kept s t) : Kept s (t.setMap d k m) := by
  unfold State.setMap
  split
  · exact h
  · extract_lets x1 x2
    have hx1 : Kept s x1 := h.writeMap
    have hx2 : Kept s x2 := hx1.writeMap
    exact hx2.setF.setF

theorem Kept.train {d k : Nat} (h : Kept s t) : Kept s (t.train d k) := by
  unfold State.train
  exact h.bothEnds (fun _ _ _ k1 => k1.setLink.setF.setB.setSeam)

theorem Kept.execSeamRetrain {d : Fin 6} {k : Fin 3} (h : Kept s t) : KeptOut s (execSeamRetrain d k t) := by
  unfold Machine.execSeamRetrain
  exact .ite (.next h.train) (.next h)

theorem Kept.giveRoles {h' : List Nat} {d : Nat} (h : Kept s t) : Kept s (t.giveRoles h' d) := by
  unfold State.giveRoles
  extract_lets x1
  have hx1 : Kept s x1 := by
    unfold x1
    refine .forEach (fun _ _ k4 => ?_) h
    split
    · exact k4
    · exact k4.wr
  exact .same hx1

theorem Kept.adopt {d e j : Nat} (h : Kept s t) : Kept s (t.adopt d e j) := by
  unfold State.adopt
  split
  · exact h
  · split
    · exact h.giveRoles
    · extract_lets _ x1
      have hx1 : Kept s x1 := .forEach (fun _ _ k2 => k2.wr) h
      exact .same hx1

theorem Kept.linkUp {d k : Nat} {tx rx : BitVec 48} {fall : Bool} (h : Kept s t) : Kept s (t.linkUp d k tx rx fall) := by
  unfold State.linkUp
  split
  · exact h
  · extract_lets x1 _ x2 _ x3
    have hx1 : Kept s x1 := h.adopt.adopt
    have hx2 : Kept s x2 := hx1.setMap.setMap
    have hx3 : Kept s x3 := hx2.bothEnds (fun _ _ _ k4 => .ite k4.setLink.setB.raise.raise k4.setLink.setB.raise)
    exact hx3.publish

theorem Kept.attemptFailed {d k e j : Nat} {rxd rxe : BitVec 48} {mism : Bool} (h : Kept s t) :
    Kept s (t.attemptFailed d k e j rxd rxe mism) := by
  unfold State.attemptFailed
  extract_lets x1 x2 _ _ _ _
  have hx1 : Kept s x1 := h.setSeam
  have hx2 : Kept s x2 := hx1.setSeam
  exact .ite (hx2.bothEnds (fun _ _ _ k3 => k3.setF)) (.ite ((hx2.bothEnds (fun _ _ _ k4 => k4.raise)).fenceLink) (.ite hx2.linkUp hx2.fenceLink))

theorem Kept.execAttemptEnd {d : Fin 6} {k : Fin 3} {rxd rxe : BitVec 48} {echo : Bool} (h : Kept s t) :
    KeptOut s (execAttemptEnd d k rxd rxe echo t) := by
  unfold Machine.execAttemptEnd
  split
  · exact .next h
  · extract_lets x1 _ _
    have hx1 : Kept s x1 := .ite h.train h
    exact .ite (.next h) (.ite (.next hx1.attemptFailed) (.ite (.next hx1) (.ite (.next hx1.linkUp) (.next hx1.attemptFailed))))

theorem Kept.resendFlits {d k : Nat} (h : Kept s t) : Kept s (t.resendFlits d k) := by
  unfold State.resendFlits
  extract_lets _ x1
  have hx1 : Kept s x1 := h.setSeam
  exact hx1.bump.tally

theorem Kept.laneGap {d k e j byte : Nat} (h : Kept s t) : Kept s (t.laneGap d k e j byte) := by
  unfold State.laneGap
  split
  · exact h.resendFlits
  · exact h.setSeam
  · exact h

theorem Kept.laneFail {d k l : Nat} (h : Kept s t) : Kept s (t.laneFail d k l) := by
  unfold State.laneFail
  split
  · exact h
  · extract_lets _ _
    split
    · exact h
    · split
      · exact h
      · split
        · exact h.setMap
        · split
          · exact h.setMap.raise.laneGap
          · exact h.setMap.fenceLink.train

theorem Kept.execLaneFail {d : Fin 6} {k : Fin 3} {l : Fin 48} (h : Kept s t) : KeptOut s (execLaneFail d k l t) := by
  unfold Machine.execLaneFail
  exact .next h.laneFail

theorem Kept.execSeamFlitRetry {d : Fin 6} {k : Fin 3} (h : Kept s t) : KeptOut s (execSeamFlitRetry d k t) := by
  unfold Machine.execSeamFlitRetry
  split
  · exact .next h
  · extract_lets x1 x2
    have hx1 : Kept s x1 := h.at_
    have hx2 : Kept s x2 := hx1.setSeam
    exact .next hx2.bump.tally

theorem Kept.execFabRelease {d : Fin 6} {k : Fin 3} (h : Kept s t) : KeptOut s (execFabRelease d k t) := by
  unfold Machine.execFabRelease
  split
  · exact .next h
  · extract_lets x1
    have hx1 : Kept s x1 := h.at_
    exact .ite (.next (hx1.bothEnds (fun _ _ _ k2 => k2.raise.dropFvals))) (.next h)

theorem Kept.badWord {d k f : Nat} (h : Kept s t) : Kept s (t.badWord d k f) := by
  unfold State.badWord
  extract_lets x1 x2 x3
  have hx1 : Kept s x1 := h.bump.raise
  have hx2 : Kept s x2 := hx1.setSeam
  have hx3 : Kept s x3 := hx2.setSeam
  split
  · split
    · exact hx3
    · exact hx3.laneFail
  · exact hx2

theorem Kept.execFabLaneWord {d : Fin 6} {k : Fin 3} {f : Fin 12} {ecc : Ecc} (h : Kept s t) :
    KeptOut s (execFabLaneWord d k f ecc t) := by
  unfold Machine.execFabLaneWord
  split
  · exact .next h
  · extract_lets x1 _ x2 _ _ x3
    have hx1 : Kept s x1 := h.at_
    have hx2 : Kept s x2 := hx1.setSeam.dropFvals
    have hx3 : Kept s x3 := hx2.setSeam
    split
    · split
      · exact .next hx3
      · extract_lets _
        exact .ite (.next hx3.badWord) (.next hx3.setSeam.settle)
    · exact .next h

/-! ### Machine/Header.lean -/

theorem Kept.loadRoles {h' : List Nat} (h : Kept s t) : Kept s (t.loadRoles h') := by
  unfold State.loadRoles
  exact .forEach (fun _ _ k1 => k1.giveRoles) h

theorem Kept.loadDie {h' : List Nat} {n : Fin 6} (h : Kept s t) : Kept s (t.loadDie h' n) := by
  unfold State.loadDie
  extract_lets x1 x2 _ x3
  have hx1 : Kept s x1 := .forEach (fun _ _ k4 => .ite (.forEach (fun _ _ k5 => k5.wr) k4.setSeam) k4) h
  have hx2 : Kept s x2 := .forEach (fun _ _ k6 => k6.setF.setFcs) hx1
  have hx3 : Kept s x3 := hx2.wr
  exact hx3.modFab

/-! ### Machine/Configuration.lean -/

theorem Kept.setCfg {f : Config11 → Config11} (h : Kept s t) : Kept s (t.setCfg f) := by
  unfold State.setCfg
  exact .same h

theorem Kept.cfgState {n : Nat} (h : Kept s t) : Kept s (t.cfgState n) := by
  unfold State.cfgState
  exact h.setF

theorem Kept.cfgErr0 {f : Fld} (h : Kept s t) : Kept s (t.cfgErr0 f) := by
  unfold State.cfgErr0
  exact h.raise

theorem Kept.showPorts {d : Fin 6} (h : Kept s t) : Kept s (t.showPorts d) := by
  unfold State.showPorts
  exact .forEach (fun _ _ k1 => k1.setB) h

theorem Kept.readSets {d : Fin 6} (h : Kept s t) : Kept s (t.readSets d) := by
  unfold State.readSets
  extract_lets _ x1 x2
  have hx1 : Kept s x1 := h.modFab
  have hx2 : Kept s x2 := .forEach (fun _ _ k3 => k3.setB.setB) hx1
  exact hx2.showPorts

theorem Kept.withdraw {d : Nat} (h : Kept s t) : Kept s (t.withdraw d) := by
  unfold State.withdraw
  exact .forEach (fun _ _ k1 => k1.bothEnds (fun _ _ _ k2 => k2.setB)) h

theorem Kept.clearDie {d : Fin 6} (h : Kept s t) : Kept s (t.clearDie d) := by
  unfold State.clearDie
  extract_lets x1 x2 x3 x4 _ x5
  have hx1 : Kept s x1 := .forEach (fun _ _ k6 => k6.idleAt.modG) h.withdraw
  have hx2 : Kept s x2 := hx1.modFab
  have hx3 : Kept s x3 := hx2.wr.wr.wr
  have hx4 : Kept s x4 := hx3.wr
  have hx5 : Kept s x5 := .same hx4
  exact .forEach (fun _ _ k7 => k7.wr) hx5

theorem Kept.clearAll (h : Kept s t) : Kept s t.clearAll := by
  unfold State.clearAll
  exact .forEach (fun _ _ k1 => k1.clearDie) h

theorem Kept.holdMeadow {d : Fin 6} {m : Nat} (h : Kept s t) : Kept s (t.holdMeadow d m) := by
  unfold State.holdMeadow
  exact h.modFab

theorem Kept.fenceMeadow {d : Fin 6} {m : Nat} (h : Kept s t) : Kept s (t.fenceMeadow d m) := by
  unfold State.fenceMeadow
  extract_lets _ _ x1 _ x2 x3 x4 x5 x6
  have hx1 : Kept s x1 := .forEach (fun _ _ k7 => k7.modG) h
  have hx2 : Kept s x2 := hx1.setF
  have hx3 : Kept s x3 := hx2.wr
  have hx4 : Kept s x4 := hx3.holdMeadow.modFab
  have hx5 : Kept s x5 := .same hx4
  have hx6 : Kept s x6 := .forEach (fun _ _ k8 => k8.setF) hx5
  exact .ite h hx6.showPorts.settle

theorem Kept.askFence {d m : Nat} (h : Kept s t) : Kept s (t.askFence d m) := by
  unfold State.askFence
  exact h.setCfg

theorem Kept.execMeadowFence {d : Fin 6} {m : Fin 32} (h : Kept s t) : KeptOut s (execMeadowFence d m t) := by
  unfold Machine.execMeadowFence
  extract_lets x1
  have hx1 : Kept s x1 := h.setF
  exact .ite (.next hx1.cfgErr0) (.next hx1.askFence)

theorem Kept.execMeadowFenceTake {d : Fin 6} {m : Fin 32} (h : Kept s t) : KeptOut s (execMeadowFenceTake d m t) := by
  unfold Machine.execMeadowFenceTake
  split
  · exact .next h
  · extract_lets x1
    have hx1 : Kept s x1 := h.at_.setCfg
    exact .next hx1.fenceMeadow.holdMeadow

theorem Kept.execUnfence {d : Fin 6} {m : Fin 32} (h : Kept s t) : KeptOut s (execUnfence d m t) := by
  unfold Machine.execUnfence
  extract_lets x1 _
  have hx1 : Kept s x1 := h.setF
  exact .ite (.next hx1.cfgErr0) (.ite (.next hx1.setCfg) (.next hx1))

theorem Kept.cfgErr {code : Nat} {l : Load} (h : Kept s t) : Kept s (t.cfgErr code l) := by
  unfold State.cfgErr
  exact h.wr

theorem Kept.nextSlot {src : Nat} {slots : List (Nat × Nat)} (h : Kept s t) : Kept s (t.nextSlot src slots) := by
  unfold State.nextSlot
  split
  · exact h.cfgState.setCfg
  · extract_lets x1
    have hx1 : Kept s x1 := h.cfgState.setB
    exact hx1.setCfg

theorem Kept.clearMeadow {d : Fin 6} {m : Nat} (h : Kept s t) : Kept s (t.clearMeadow d m) := by
  unfold State.clearMeadow
  exact h.modFab.readSets

theorem Kept.setBusy {b : Bool} (h : Kept s t) : Kept s (t.setBusy b) := by
  unfold State.setBusy
  exact h.setB

theorem Kept.loadFail {l : Load} {code : Nat} (h : Kept s t) : Kept s (t.loadFail l code) := by
  unfold State.loadFail
  extract_lets -underBinder x1
  have hx1 : Kept s x1 := h.cfgErr.setCfg
  split
  · extract_lets x2
    have hx2 : Kept s x2 := hx1.clearAll.setB.setB
    exact hx2.cfgErr0.nextSlot
  · extract_lets x3
    have hx3 : Kept s x3 := .dite (fun _ => hx1.clearDie) fun _ => hx1
    exact hx3.setBusy.cfgErr0
  · extract_lets x4
    have hx4 : Kept s x4 := hx1.setBusy
    exact .dite (fun _ => (.raise (.ite hx4.setB.clearMeadow hx4.setB))) fun _ => hx4.raise

theorem Kept.putLoad {l : Load} (h : Kept s t) : Kept s (t.putLoad l) := by
  unfold State.putLoad
  exact h.setCfg

theorem Kept.takeLeg {l : Load} (h : Kept s t) : Kept s (t.takeLeg l) := by
  unfold State.takeLeg
  extract_lets _ _ _
  exact .ite h.putLoad (.ite (.ite h.putLoad h.loadFail) (.ite h.loadFail (.ite (.ite h.putLoad h.loadFail) h.putLoad)))

theorem Kept.beginSection {l : Load} {n : Nat} (h : Kept s t) : Kept s (t.beginSection l n) := by
  unfold State.beginSection
  split
  · exact h.loadFail
  · extract_lets _ _ _ x1
    have hx1 : Kept s x1 := h.raise
    exact hx1.takeLeg

theorem Kept.headerEffect {l : Load} (h : Kept s t) : Kept s (t.headerEffect l) := by
  unfold State.headerEffect
  extract_lets -underBinder _ x1
  have hx1 : Kept s x1 := .ite h.raise h
  split
  · extract_lets x2 x3
    have hx2 : Kept s x2 := hx1.loadRoles
    have hx3 : Kept s x3 := .forEach (fun _ _ k4 => k4.loadDie) hx2
    exact hx3.beginSection
  · extract_lets x5
    have hx5 : Kept s x5 := .dite (fun _ => hx1.giveRoles.loadDie) fun _ => hx1
    exact hx5.beginSection
  · exact .dite (fun _ => (.beginSection (.clearMeadow (.fenceMeadow (.ite hx1 hx1.at_))))) fun _ => hx1.loadFail

theorem Kept.takeHeader {l : Load} (h : Kept s t) : Kept s (t.takeHeader l) := by
  unfold State.takeHeader
  extract_lets _ _ _
  exact .ite h.takeLeg (.ite (.ite h.putLoad h.loadFail) (.ite h.loadFail (.ite h.loadFail (.ite h.loadFail h.headerEffect))))

theorem Kept.trySlots {fuel : Nat} (h : Kept s t) : Kept s (t.trySlots fuel) := by
  induction fuel generalizing t with
  | zero => exact h
  | succ n ih =>
    unfold State.trySlots
    split
    · exact h
    · exact .ite (ih h.takeHeader) h

theorem Kept.execBootSearch {dir1 dir8 again flash : List Nat} (h : Kept s t) :
    KeptOut s (execBootSearch dir1 dir8 again flash t) := by
  unfold Machine.execBootSearch
  extract_lets _ x1 _ x2 x3
  have hx1 : Kept s x1 := h.clearAll.cfgState.setB.setCfg
  have hx2 : Kept s x2 := hx1.setF
  have hx3 : Kept s x3 := hx1.setF
  exact .ite (.ite (.next (.ite hx2.setB.nextSlot hx2.nextSlot.trySlots)) (.ite (.next (.ite hx3.setB.nextSlot hx3.nextSlot.trySlots)) (.next hx1.setF.cfgState))) (.next h)

theorem Kept.execCfgDataWrite {bytes : List Nat} (h : Kept s t) : KeptOut s (execCfgDataWrite bytes t) := by
  unfold Machine.execCfgDataWrite
  split
  · split
    · exact .next h.takeHeader.answer
    · extract_lets x1
      have hx1 : Kept s x1 := h.cfgState.setB
      exact .next hx1.takeHeader.answer
  · exact .next h.cfgErr0.answer

theorem Kept.writeFrames {fuel : Nat} {l : Load} (h : Kept s t) : Kept s (t.writeFrames fuel l) := by
  induction fuel generalizing t l with
  | zero => exact h.putLoad
  | succ n ih =>
    unfold State.writeFrames
    split
    · exact h.putLoad
    · exact .ite h.putLoad (.ite h.loadFail (ih (.dite (fun _ => h.modFab) fun _ => h)))

theorem Kept.streamStep {op : Nat} {f : Load → State → State} (h : Kept s t) (hf : ∀ y0 y1, Kept s y1 → Kept s (f y0 y1)) :
    Kept s (t.streamStep op f) := by
  unfold State.streamStep
  split
  · exact h
  · exact .ite h (.ite h.loadFail.trySlots (.ite ((hf _ _ h).trySlots) h))

theorem Kept.execCmdNop (h : Kept s t) : KeptOut s (execCmdNop t) := by
  unfold Machine.execCmdNop
  exact .next (h.streamStep (fun _ _ k1 => k1.putLoad))

theorem Kept.execFwrite (h : Kept s t) : KeptOut s (execFwrite t) := by
  unfold Machine.execFwrite
  refine .next ?_
  refine h.streamStep fun _ _ k4 => ?_
  split
  · exact k4.writeFrames
  · exact k4.writeFrames

theorem Kept.execDcrc (h : Kept s t) : KeptOut s (execDcrc t) := by
  unfold Machine.execDcrc
  exact .next (h.streamStep (fun _ _ k1 => .dite (fun _ => (.ite k1.putLoad k1.loadFail)) fun _ => k1))

theorem Kept.execDend (h : Kept s t) : KeptOut s (execDend t) := by
  unfold Machine.execDend
  exact .next (h.streamStep (fun _ _ k1 => k1.putLoad))

theorem Kept.beginStartup {l : Load} (h : Kept s t) : Kept s (t.beginStartup l) := by
  unfold State.beginStartup
  extract_lets -underBinder _ _ _ x1 x2
  have hx1 : Kept s x1 := .ite h.cfgState h
  have hx2 : Kept s x2 := hx1.setCfg
  split
  · extract_lets _
    exact hx2.setCfg
  · exact hx2.setCfg
  · extract_lets x3
    have hx3 : Kept s x3 := hx2.setCfg
    exact .ite hx3 hx3.setCfg.setF

theorem Kept.endSection {l : Load} (h : Kept s t) : Kept s (t.endSection l) := by
  unfold State.endSection
  extract_lets x1 x2
  have hx1 : Kept s x1 := h.setB
  have hx2 : Kept s x2 := .dite (fun _ => hx1.readSets) fun _ => hx1
  exact .ite hx2.beginSection hx2.beginStartup

theorem Kept.execLegEnd (h : Kept s t) : KeptOut s (execLegEnd t) := by
  unfold Machine.execLegEnd
  split
  · exact .next h
  · split
    · exact .next h
    · exact .ite (.next h) (.ite (.next h.loadFail.trySlots) (.ite (.ite (.next h.loadFail.trySlots) (.ite (.next h.loadFail.trySlots) (.next h.endSection.trySlots))) (.ite (.next h.loadFail.trySlots) (.next h.takeLeg.trySlots))))

theorem Kept.execDieAbsentTimeout (h : Kept s t) : KeptOut s (execDieAbsentTimeout t) := by
  unfold Machine.execDieAbsentTimeout
  split
  · exact .next h
  · exact .ite (.next h.at_.loadFail.trySlots) (.next h)

theorem Kept.diesUp {ds : List Nat} (h : Kept s t) : Kept s (t.diesUp ds) := by
  unfold State.diesUp
  extract_lets x1
  have hx1 : Kept s x1 := .same h
  exact .forEach (fun _ _ k2 => k2.raise) hx1

theorem Kept.advance {u' : Startup} {time : Nat} (h : Kept s t) : Kept s (t.advance u' time) := by
  unfold State.advance
  extract_lets _ x1
  have hx1 : Kept s x1 := .ite h.diesUp h
  exact .ite (.ite h.setCfg h.setCfg) (.ite h.setCfg hx1.setCfg)

theorem Kept.startupStep {code : Nat} {die : Fin 6 → State → State} {md : Fin 6 → Nat → State → State} (h : Kept s t)
    (hdie : ∀ y0 y1, Kept s y1 → Kept s (die y0 y1)) (hmd : ∀ y0 y1 y2, Kept s y2 → Kept s (md y0 y1 y2)) :
    Kept s (t.startupStep code die md) := by
  unfold State.startupStep
  split
  · exact h
  · extract_lets x1 x2
    have hx1 : Kept s x1 := h.at_
    have hx2 : Kept s x2 := by
      unfold x2
      split
      · exact .forEach (fun _ _ k3 => hdie _ _ k3) hx1
      · exact .forEach (fun _ _ k4 => hmd _ _ _ k4) hx1
    exact hx2.advance

theorem Kept.startupFail {u' : Startup} {code : Nat} (h : Kept s t) : Kept s (t.startupFail u' code) := by
  unfold State.startupFail
  extract_lets _ _ x1
  have hx1 : Kept s x1 := by
    unfold x1
    split
    · exact h
    · exact .forEach (fun _ _ k2 => k2.fenceMeadow.holdMeadow) h
  exact hx1.loadFail

theorem Kept.execLockStep (h : Kept s t) : KeptOut s (execLockStep t) := by
  unfold Machine.execLockStep
  split
  · exact .next h
  · extract_lets x1 _ _
    have hx1 : Kept s x1 := h.at_
    exact .ite (.next hx1.advance) (.ite (.next hx1.startupFail.trySlots) (.next hx1))

theorem Kept.outrelDie {d : Fin 6} (h : Kept s t) : Kept s (t.outrelDie d) := by
  unfold State.outrelDie
  extract_lets _ _ _ x1
  have hx1 : Kept s x1 := h.modFab
  exact .ite hx1 hx1.raise

theorem Kept.unfenceMeadow {d : Fin 6} {m : Nat} (h : Kept s t) : Kept s (t.unfenceMeadow d m) := by
  unfold State.unfenceMeadow
  extract_lets x1 _
  have hx1 : Kept s x1 := h.wr
  exact hx1.modFab.showPorts.settle

theorem Kept.execOutrel (h : Kept s t) : KeptOut s (execOutrel t) := by
  unfold Machine.execOutrel
  exact .next (h.startupStep (fun _ _ k1 => k1.outrelDie) (fun _ _ _ k2 => k2.unfenceMeadow))

theorem Kept.execSetrel (h : Kept s t) : KeptOut s (execSetrel t) := by
  unfold Machine.execSetrel
  exact .next (h.startupStep (fun _ _ k1 => k1.setB.modFab) (fun _ _ _ k2 => k2.modFab))

theorem Kept.execWrenStep (h : Kept s t) : KeptOut s (execWrenStep t) := by
  unfold Machine.execWrenStep
  exact .next (h.startupStep (fun _ _ k1 => k1.raise.modFab.showPorts) (fun _ _ _ k2 => k2.modFab.showPorts))

theorem Kept.execDoneRise (h : Kept s t) : KeptOut s (execDoneRise t) := by
  unfold Machine.execDoneRise
  split
  · exact .next h
  · extract_lets -underBinder x1
    have hx1 : Kept s x1 := h.at_.setCfg
    split
    · extract_lets x2 x3
      have hx2 : Kept s x2 := hx1.setB.cfgState
      have hx3 : Kept s x3 := hx2.wr
      exact .next hx3.setF.cfgErr0
    · exact .next hx1.setBusy.cfgErr0
    · exact .next hx1.setBusy.raise

theorem Kept.execReload (h : Kept s t) : KeptOut s (execReload t) := by
  unfold Machine.execReload
  exact .ite (.next h.cfgErr0) (.next h.clearAll.setB.setB.cfgState)

theorem Kept.execHostload (h : Kept s t) : KeptOut s (execHostload t) := by
  unfold Machine.execHostload
  exact .ite (.next h.cfgErr0) (.next h.clearAll.setB.setB.cfgState)

theorem Kept.execPload (h : Kept s t) : KeptOut s (execPload t) := by
  unfold Machine.execPload
  exact .ite (.next h.cfgErr0) (.next h.setBusy.putLoad)

theorem Kept.execDieload {die : BitVec 3} {dsrc : Bool} (h : Kept s t) : KeptOut s (execDieload die dsrc t) := by
  unfold Machine.execDieload
  extract_lets x1
  have hx1 : Kept s x1 := h.setF.setB
  split
  · exact .next hx1.cfgErr0
  · split
    · extract_lets x2 _
      have hx2 : Kept s x2 := hx1.clearDie.setBusy
      exact .ite (.next hx2.putLoad) (.next hx2.takeHeader)
    · exact .next hx1.cfgErr0

theorem Kept.execCfgAbort (h : Kept s t) : KeptOut s (execCfgAbort t) := by
  unfold Machine.execCfgAbort
  split
  · exact .next h.loadFail.trySlots
  · split
    · exact .next h
    · exact .next h.startupFail.trySlots

theorem Kept.scrubWord {d : Fin 6} {fa w flip : Nat} (h : Kept s t) : Kept s (t.scrubWord d fa w flip) := by
  unfold State.scrubWord
  extract_lets _ _ x1 x2 x3 x4
  have hx1 : Kept s x1 := h.bump.raise
  have hx2 : Kept s x2 := .ite hx1.wr hx1
  have hx3 : Kept s x3 := hx2.modFab
  have hx4 : Kept s x4 := .ite hx3 hx3.readSets
  split
  · exact h
  · split
    · exact h.tally.bump.raise
    · split
      · split
        · exact .ite hx4 hx4.askFence
        · exact hx4
      · exact hx4

theorem Kept.execScrubFrame {d : Fin 6} {fa : Word} {flips : List (Nat × BitVec 72)} {tmr : Bool} (h : Kept s t) :
    KeptOut s (execScrubFrame d fa flips tmr t) := by
  unfold Machine.execScrubFrame
  extract_lets _ x1 _
  have hx1 : Kept s x1 := .ite h.raise h
  exact .ite (.next hx1) (.next (.forEach (fun _ _ k2 => k2.scrubWord) hx1))

theorem Kept.execScrubClr {d : Fin 6} (h : Kept s t) : KeptOut s (execScrubClr d t) := by
  unfold Machine.execScrubClr
  exact .next h.wr.wr.wr

theorem Kept.execRbaddrWrite {d : Fin 6} {fa : Word} (h : Kept s t) : KeptOut s (execRbaddrWrite d fa t) := by
  unfold Machine.execRbaddrWrite
  extract_lets _ x1
  have hx1 : Kept s x1 := h.wr
  exact .ite (.next h.answer) (.ite (.next h.answer) (.next (.answer (.forEach (fun _ _ k2 => k2.wr) hx1))))

end Sys2Proof.Machine
end

section
/-! The parts of the commands, and the commands, keep the stores canonical: one lemma for each function of
Machine/FabricCmd, Machine/Sync, Machine/Ledger, Machine/Interrupts, Machine/Reset, Machine/CoreCtl. -/
namespace Sys2Proof.Machine
variable {s t : State}
set_option Elab.async false

/-! ### Machine/FabricCmd.lean -/

theorem Kept.execFcsEnable {d : Fin 6} {k : Fin 2} {en : Bool} (h : Kept s t) : KeptOut s (execFcsEnable d k en t) := by
  unfold Machine.execFcsEnable
  exact .next h.setFcs

theorem Kept.execFcsLock {d : Fin 6} {k : Fin 2} {locked : Bool} (h : Kept s t) : KeptOut s (execFcsLock d k locked t) := by
  unfold Machine.execFcsLock
  extract_lets _ _
  exact .ite (.ite (.next h.raise.setCfg) (.next h)) (.ite (.next h.setB.raise) (.next h))

theorem Kept.execFabricIrqEdge {d : Fin 6} {i : Fin 16} {level : Bool} (h : Kept s t) :
    KeptOut s (execFabricIrqEdge d i level t) := by
  unfold Machine.execFabricIrqEdge
  extract_lets _ _ x1
  have hx1 : Kept s x1 := h.setF
  exact .ite (.next h) (.next (.ite hx1.tally.setF hx1))

theorem Kept.execBankSupplyChange {d : Fin 6} {b : Fin 4} (h : Kept s t) : KeptOut s (execBankSupplyChange d b t) := by
  unfold Machine.execBankSupplyChange
  extract_lets _ x1
  have hx1 : Kept s x1 := h.setF.raise
  exact .ite (.next hx1.modFab) (.next h)

theorem Kept.execBankokRise {d : Fin 6} {b : Fin 4} (h : Kept s t) : KeptOut s (execBankokRise d b t) := by
  unfold Machine.execBankokRise
  extract_lets _
  exact .ite (.next h.setF) (.next h)

theorem Kept.execHoldupBChange {level : Bool} (h : Kept s t) : KeptOut s (execHoldupBChange level t) := by
  unfold Machine.execHoldupBChange
  exact .next (.same h)

/-! ### Machine/Sync.lean -/

theorem Kept.showTree (h : Kept s t) : Kept s t.showTree := by
  unfold State.showTree
  extract_lets _ _
  exact h.setF

theorem Kept.unhold (h : Kept s t) : Kept s t.unhold := by
  unfold State.unhold
  extract_lets _ x1
  have hx1 : Kept s x1 := .same h
  exact .ite hx1.setB h

theorem Kept.portTo {p n : Nat} (h : Kept s t) : Kept s (t.portTo p n) := by
  unfold State.portTo
  extract_lets x1
  have hx1 : Kept s x1 := h.setPstate.setB
  exact .showTree (.ite hx1.unhold hx1)

theorem Kept.leaveUp {p : Fin 12} (h : Kept s t) : Kept s (t.leaveUp p) := by
  unfold State.leaveUp
  extract_lets x1 x2 x3 _ x4
  have hx1 : Kept s x1 := h.raise
  have hx2 : Kept s x2 := hx1.modPort
  have hx3 : Kept s x3 := hx2.raise
  have hx4 : Kept s x4 := .ite (.same hx3) hx2
  exact hx4.portTo

theorem Kept.execPortEnable {p : Fin 12} {en : Bool} (h : Kept s t) : KeptOut s (execPortEnable p en t) := by
  unfold Machine.execPortEnable
  extract_lets -underBinder _ x1 x2 x3
  have hx1 : Kept s x1 := h.setB
  have hx2 : Kept s x2 := hx1.wr
  have hx3 : Kept s x3 := hx2.modPort
  exact .ite (.next h.raise) (.ite (.ite (.next hx1) (.ite (.next hx3.portTo) (.next hx3.showTree))) (.ite (.next hx1.leaveUp) (.next hx1.modPort.portTo)))

theorem Kept.calDue {p : Fin 12} (h : Kept s t) : Kept s (t.calDue p) := by
  unfold State.calDue
  exact h.toPort

theorem Kept.execTrainEnd {p : Fin 12} (h : Kept s t) : KeptOut s (execTrainEnd p t) := by
  unfold Machine.execTrainEnd
  extract_lets x1 x2
  have hx1 : Kept s x1 := h.modPort
  have hx2 : Kept s x2 := .ite hx1.calDue hx1
  exact .ite (.next hx2.portTo) (.next h)

theorem Kept.execCalEnd {p : Fin 12} {peer : BitVec 6} {depth : BitVec 2} {verdict : LinkVerdict} (h : Kept s t) :
    KeptOut s (execCalEnd p peer depth verdict t) := by
  unfold Machine.execCalEnd
  split
  · split
    · exact .next h.raise
    · exact .next h.raise
    · extract_lets x1 x2
      have hx1 : Kept s x1 := h.modPort
      have hx2 : Kept s x2 := .ite hx1.setF hx1
      exact .next hx2.portTo
  · exact .next h

theorem Kept.execLinkdn {p : Fin 12} {lost : Bool} (h : Kept s t) : KeptOut s (execLinkdn p lost t) := by
  unfold Machine.execLinkdn
  exact .ite (.next (.leaveUp (.ite h h.at_))) (.next h)

theorem Kept.execHopRecal {p : Fin 12} (h : Kept s t) : KeptOut s (execHopRecal p t) := by
  unfold Machine.execHopRecal
  exact .ite (.next h.calDue) (.next h)

theorem Kept.execFrameLaunch {p : Fin 12} (h : Kept s t) : KeptOut s (execFrameLaunch p t) := by
  unfold Machine.execFrameLaunch
  extract_lets _ _ x1 _ _ _ _ _ x2
  have hx1 : Kept s x1 := h.at_.modPort
  have hx2 : Kept s x2 := hx1.modPort
  exact .ite (.next h) (.ite (.next hx1.emit) (.next hx2.emit))

theorem Kept.execFlitRetry {p : Fin 12} (h : Kept s t) : KeptOut s (execFlitRetry p t) := by
  unfold Machine.execFlitRetry
  split
  · exact .next h
  · extract_lets x1
    have hx1 : Kept s x1 := h.at_
    exact .next hx1.modPort

theorem Kept.slotPtb {p : Fin 12} {fnum : Nat} {m : TSlot} (h : Kept s t) : Kept s (t.slotPtb p fnum m) := by
  unfold State.slotPtb
  extract_lets _ _ _ _ x1 _
  have hx1 : Kept s x1 := h.wr.modPort
  exact .ite (.ite h.jump.modPort.raise.showTree (.ite (.same hx1) h)) h

theorem Kept.slotCond {p : Fin 12} {m : TSlot} (h : Kept s t) : Kept s (t.slotCond p m) := by
  unfold State.slotCond
  extract_lets _ _
  exact .ite h.modGang h

theorem Kept.slotDecide {p : Fin 12} {m : TSlot} (h : Kept s t) : Kept s (t.slotDecide p m) := by
  unfold State.slotDecide
  extract_lets _ _ x1
  have hx1 : Kept s x1 := h.modGang
  exact .ite (.forEach (fun _ _ k2 => k2.sendDown) hx1) h

theorem Kept.slotSarr {p : Fin 12} {m : TSlot} (h : Kept s t) : Kept s (t.slotSarr p m) := by
  unfold State.slotSarr
  exact .ite h.modGang h

theorem Kept.slotSrel {p : Fin 12} {m : TSlot} (h : Kept s t) : Kept s (t.slotSrel p m) := by
  unfold State.slotSrel
  exact .ite h.modGang.sendDown h

theorem Kept.takeStart {pt cls : Nat} (h : Kept s t) : Kept s (t.takeStart pt cls) := by
  unfold State.takeStart
  exact .ite h.raise (.forEach (fun _ _ k1 => k1.wrPair) h)

theorem Kept.broadcast {m : TSlot} (h : Kept s t) : Kept s (t.broadcast m) := by
  unfold State.broadcast
  exact .forEach (fun _ _ k1 => k1.modPort) h

theorem Kept.slotStart {p : Fin 12} {m : TSlot} (h : Kept s t) : Kept s (t.slotStart p m) := by
  unfold State.slotStart
  extract_lets _ _ _ _ x1
  have hx1 : Kept s x1 := .same h
  exact .ite (.ite h hx1.broadcast.takeStart) h

theorem Kept.slotLost {p : Fin 12} {m : TSlot} (h : Kept s t) : Kept s (t.slotLost p m) := by
  unfold State.slotLost
  extract_lets _ _
  exact .ite h.sendDown.takeLost (.ite (.ite h.sendDown.takeLost h.sendUp) h)

theorem Kept.slotGcfg {p : Fin 12} {m : TSlot} (h : Kept s t) : Kept s (t.slotGcfg p m) := by
  unfold State.slotGcfg
  extract_lets _ _ x1 x2
  have hx1 : Kept s x1 := .ite h h.used
  have hx2 : Kept s x2 := hx1.modGang
  exact .ite (.ite (.ite hx2 hx2.sendLost.takeLost) hx2.sendUp) h

theorem Kept.drift {p : Fin 12} {h' : Nat} (h : Kept s t) : Kept s (t.drift p h') := by
  unfold State.drift
  extract_lets _
  exact .ite h.raise h

theorem Kept.slotCal {p : Fin 12} {m : TSlot} (h : Kept s t) : Kept s (t.slotCal p m) := by
  unfold State.slotCal
  extract_lets _ x1 x2
  have hx1 : Kept s x1 := h.wr
  have hx2 : Kept s x2 := .ite hx1 hx1.toPort
  exact .ite hx2.modPort.drift h

theorem Kept.slotCalr {p : Fin 12} {m : TSlot} (h : Kept s t) : Kept s (t.slotCalr p m) := by
  unfold State.slotCalr
  split
  · exact h
  · extract_lets _ x1
    have hx1 : Kept s x1 := h.wr.modPort
    exact .ite (.drift (.ite hx1.calDue hx1)) h

theorem Kept.takeSlot {p : Fin 12} {fnum : Nat} {m : TSlot} (h : Kept s t) : Kept s (t.takeSlot p fnum m) := by
  unfold State.takeSlot
  split
  · exact h
  · exact h.slotPtb
  · exact h.slotCond
  · exact h.slotDecide
  · exact h.slotSarr
  · exact h.slotSrel
  · exact h.slotStart
  · exact h.slotLost
  · exact h.slotGcfg
  · exact h.slotCal
  · exact h.slotCalr
  · exact h.raise

theorem Kept.codeword {p : Fin 12} {pay : BitVec 5140} (h : Kept s t) : Kept s (t.codeword p pay) := by
  unfold State.codeword
  exact h.modPort

theorem Kept.execFrameReceive {p : Fin 12} {pay : BitVec 5140} {acks errs : Nat} (h : Kept s t) :
    KeptOut s (execFrameReceive p pay acks errs t) := by
  unfold Machine.execFrameReceive
  extract_lets x1 x2 _ x3 x4
  have hx1 : Kept s x1 := h.bump.tally
  have hx2 : Kept s x2 := hx1.modPort
  have hx3 : Kept s x3 := h.codeword
  have hx4 : Kept s x4 := hx3.modPort
  exact .ite (.next h) (.ite (.next (.ite hx2.leaveUp hx2)) (.ite (.next (.forEach (fun _ _ k5 => k5.takeSlot) hx4)) (.next hx3)))

theorem Kept.execSlotPtb {p : Fin 12} {dev : BitVec 6} {fnum : BitVec 16} {pay : BitVec 50} (h : Kept s t) :
    KeptOut s (execSlotPtb p dev fnum pay t) := by
  unfold Machine.execSlotPtb
  exact .next h.slotPtb

theorem Kept.execSlotCond {p : Fin 12} {dev : BitVec 6} {gid : Fin 16} {pay : BitVec 50} (h : Kept s t) :
    KeptOut s (execSlotCond p dev gid pay t) := by
  unfold Machine.execSlotCond
  exact .next h.slotCond

theorem Kept.execSlotDecide {p : Fin 12} {dev : BitVec 6} {gid : Fin 16} {pay : BitVec 50} (h : Kept s t) :
    KeptOut s (execSlotDecide p dev gid pay t) := by
  unfold Machine.execSlotDecide
  exact .next h.slotDecide

theorem Kept.execSlotSarr {p : Fin 12} {dev : BitVec 6} {gid : Fin 16} {pay : BitVec 50} (h : Kept s t) :
    KeptOut s (execSlotSarr p dev gid pay t) := by
  unfold Machine.execSlotSarr
  exact .next h.slotSarr

theorem Kept.execSlotSrel {p : Fin 12} {dev : BitVec 6} {gid : Fin 16} {pay : BitVec 50} (h : Kept s t) :
    KeptOut s (execSlotSrel p dev gid pay t) := by
  unfold Machine.execSlotSrel
  exact .next h.slotSrel

theorem Kept.execSlotStart {p : Fin 12} {dev : BitVec 6} {pay : BitVec 50} (h : Kept s t) :
    KeptOut s (execSlotStart p dev pay t) := by
  unfold Machine.execSlotStart
  exact .next h.slotStart

theorem Kept.execSlotLost {p : Fin 12} {dev : BitVec 6} {gid : Fin 16} {pay : BitVec 50} (h : Kept s t) :
    KeptOut s (execSlotLost p dev gid pay t) := by
  unfold Machine.execSlotLost
  exact .next h.slotLost

theorem Kept.execSlotGcfg {p : Fin 12} {dev : BitVec 6} {gid : Fin 16} {pay : BitVec 50} (h : Kept s t) :
    KeptOut s (execSlotGcfg p dev gid pay t) := by
  unfold Machine.execSlotGcfg
  exact .next h.slotGcfg

theorem Kept.execSlotCal {p : Fin 12} {dev : BitVec 6} {pay : BitVec 50} (h : Kept s t) :
    KeptOut s (execSlotCal p dev pay t) := by
  unfold Machine.execSlotCal
  exact .next h.slotCal

theorem Kept.execSlotCalr {p : Fin 12} {dev : BitVec 6} {pay : BitVec 50} (h : Kept s t) :
    KeptOut s (execSlotCalr p dev pay t) := by
  unfold Machine.execSlotCalr
  exact .next h.slotCalr

theorem Kept.execBcastGo {cls : BitVec 4} (h : Kept s t) : KeptOut s (execBcastGo cls t) := by
  unfold Machine.execBcastGo
  extract_lets x1 _
  have hx1 : Kept s x1 := h.setF
  exact .ite (.next hx1.broadcast.takeStart) (.next hx1.raise)

theorem Kept.execGangLocalResult {g : Fin 24} (h : Kept s t) : KeptOut s (execGangLocalResult g t) := by
  unfold Machine.execGangLocalResult
  extract_lets _ _ _ _ _ x1
  have hx1 : Kept s x1 := h.at_.modGang
  exact .ite (.ite (.ite (.next hx1.sendUp) (.next hx1.modGang)) (.next h)) (.next h)

theorem Kept.combineDecision {n : Fin 16} {d : Nat} (h : Kept s t) : Kept s (t.combineDecision n d) := by
  unfold State.combineDecision
  extract_lets _ _ x1
  have hx1 : Kept s x1 := h.at_.modGang
  exact .ite hx1.modGang.sendDown hx1.sendUp

theorem Kept.reportArrival {n : Fin 16} (h : Kept s t) : Kept s (t.reportArrival n) := by
  unfold State.reportArrival
  split
  · exact h
  · extract_lets x1
    have hx1 : Kept s x1 := h.modGang
    exact .ite hx1.sendUp hx1.modGang

theorem Kept.combineArrival {n : Fin 16} {d : Nat} (h : Kept s t) : Kept s (t.combineArrival n d) := by
  unfold State.combineArrival
  extract_lets _ _ x1 _
  have hx1 : Kept s x1 := h.modGang
  exact .ite hx1.modGang.sendDown hx1.sendUp

theorem Kept.execGangCombine {n : Fin 16} (h : Kept s t) : KeptOut s (execGangCombine n t) := by
  unfold Machine.execGangCombine
  extract_lets x1 x2
  have hx1 : Kept s x1 := h.reportArrival
  have hx2 : Kept s x2 := by
    unfold x2
    split
    · exact hx1
    · exact hx1.combineDecision
  split
  · exact .next hx2
  · exact .next hx2.combineArrival

theorem Kept.execDecisionHandoff {g : Fin 24} (h : Kept s t) : KeptOut s (execDecisionHandoff g t) := by
  unfold Machine.execDecisionHandoff
  extract_lets _
  split
  · exact .next h
  · exact .ite (.next h.at_.modG) (.next h)

theorem Kept.execFailover (h : Kept s t) : KeptOut s (execFailover t) := by
  unfold Machine.execFailover
  extract_lets _ _
  split
  · extract_lets _ x1 x2 x3 x4 _ x5
    have hx1 : Kept s x1 := h.modPort
    have hx2 : Kept s x2 := hx1.modPort
    have hx3 : Kept s x3 := hx2.setF.setF
    have hx4 : Kept s x4 := hx3.unhold
    have hx5 : Kept s x5 := .same hx4
    exact .ite (.next hx5.showTree.raise) (.next h)
  · exact .next h

theorem Kept.stepBy {o : ℤ} (h : Kept s t) : Kept s (t.stepBy o) := by
  unfold State.stepBy
  extract_lets x1 _
  have hx1 : Kept s x1 := h.wr
  exact .same hx1

theorem Kept.tellStep {o : ℤ} (h : Kept s t) : Kept s (t.tellStep o) := by
  unfold State.tellStep
  exact .forEach (fun _ _ k1 => k1.emit) h

theorem Kept.execPtofsStep {passed : Option (BitVec 32)} (h : Kept s t) : KeptOut s (execPtofsStep passed t) := by
  unfold Machine.execPtofsStep
  extract_lets x1
  have hx1 : Kept s x1 := by
    unfold x1
    split
    · exact h
    · exact h.stepBy
  split
  · exact .next hx1
  · extract_lets x2 _
    have hx2 : Kept s x2 := hx1.jump
    exact .ite (.next hx1) (.next (.tellStep (.same hx2)))

theorem Kept.execTakeover (h : Kept s t) : KeptOut s (execTakeover t) := by
  unfold Machine.execTakeover
  extract_lets x1
  have hx1 : Kept s x1 := h.raise.setF.unhold
  exact .ite (.next hx1.showTree.raise) (.next h)

theorem Kept.tsyCtrlWrite {v : Word} (h : Kept s t) : Kept s (t.tsyCtrlWrite v) := by
  unfold State.tsyCtrlWrite
  extract_lets x1 _
  have hx1 : Kept s x1 := h.setF.setF
  exact .ite hx1.wrRW.setF (.ite hx1.raise hx1)

/-! ### Machine/Ledger.lean -/

theorem Kept.setLed {n : Nat} (h : Kept s t) : Kept s (t.setLed n) := by
  unfold State.setLed
  exact h.setF

theorem Kept.ledCause {f : Fld} (h : Kept s t) : Kept s (t.ledCause f) := by
  unfold State.ledCause
  exact h.raise

theorem Kept.ledSend {seq : Nat} {envs : List G6Env} (h : Kept s t) : Kept s (t.ledSend seq envs) := by
  unfold State.ledSend
  extract_lets x1 x2 _ x3 x4
  have hx1 : Kept s x1.2.2 := h.g6ReadBytes
  have hx2 : Kept s x2 := hx1
  have hx3 : Kept s x3 := .same hx2
  have hx4 : Kept s x4 := .ite hx3.emit hx3.emit.used
  exact hx4.putFlits

theorem Kept.ledOne {envs : List G6Env} (h : Kept s t) : Kept s (t.ledOne envs) := by
  unfold State.ledOne
  extract_lets _ _ x1 x2
  have hx1 : Kept s x1.2 := h.g6WriteBytes
  have hx2 : Kept s x2 := hx1.wrPair
  exact .ite hx2.ledSend hx2

theorem Kept.ledMany {n : Nat} {envs : List G6Env} (h : Kept s t) : Kept s (t.ledMany n envs) := by
  induction n generalizing t envs with
  | zero => exact h
  | succ n ih => exact ih h.ledOne

theorem Kept.execLedCommit {n : BitVec 9} {envs : List G6Env} (h : Kept s t) : KeptOut s (execLedCommit n envs t) := by
  unfold Machine.execLedCommit
  exact .ite (.next h.ledCause) (.ite (.next h.ledCause) (.next h.ledMany))

theorem Kept.execMirrorRecord {rec : BitVec 1024} {envs : List G6Env} (h : Kept s t) :
    KeptOut s (execMirrorRecord rec envs t) := by
  unfold Machine.execMirrorRecord
  extract_lets _ x1 x2 _ _ x3
  have hx1 : Kept s x1.2 := h.g6WriteBytes
  have hx2 : Kept s x2 := hx1
  have hx3 : Kept s x3 := .same hx2
  exact .ite (.next hx3.emit.putFlits) (.next h)

theorem Kept.execMirrorAck {env : G6Env} (h : Kept s t) : KeptOut s (execMirrorAck env t) := by
  unfold Machine.execMirrorAck
  split
  · exact .next h
  · extract_lets x1 x2 _ x3
    have hx1 : Kept s x1.st := h.g6Access
    have hx2 : Kept s x2 := hx1
    have hx3 : Kept s x3 := .same hx2
    split
    · split
      · exact .next hx3
      · exact .next hx3.wrPair
    · exact .next h

theorem Kept.execMirrorNak (h : Kept s t) : KeptOut s (execMirrorNak t) := by
  unfold Machine.execMirrorNak
  split
  · exact .next h
  · extract_lets _ x1
    have hx1 : Kept s x1 := .same h
    exact .ite (.next hx1.ledCause) (.next h)

theorem Kept.execMatelost (h : Kept s t) : KeptOut s (execMatelost t) := by
  unfold Machine.execMatelost
  extract_lets x1 _ x2 x3
  have hx1 : Kept s x1 := h.setLed.ledCause
  have hx2 : Kept s x2 := .same hx1
  have hx3 : Kept s x3 := hx2.wrPair
  exact .ite (.ite (.next hx3.raise.ledCause) (.next hx2)) (.next h)

theorem Kept.ledResend {fuel seq : Nat} {envs : List G6Env} (h : Kept s t) : Kept s (t.ledResend fuel seq envs) := by
  induction fuel generalizing t seq envs with
  | zero => exact h
  | succ n ih => exact ih h.ledSend

theorem Kept.execPairing {dev : BitVec 6} {epoch : Word} {size : BitVec 5} {envs : List G6Env} (h : Kept s t) :
    KeptOut s (execPairing dev epoch size envs t) := by
  unfold Machine.execPairing
  extract_lets x1 x2 x3 _ _ x4 x5
  have hx1 : Kept s x1 := h.emit
  have hx2 : Kept s x2 := hx1.modPort
  have hx3 : Kept s x3 := hx2.wr
  have hx4 : Kept s x4 := .same h
  have hx5 : Kept s x5 := hx4.ledResend
  exact .ite (.ite (.ite (.next hx3.setLed.ledCause) (.next hx3.setLed)) (.ite (.next hx5.setLed.setB.ledCause) (.next h))) (.next h)

/-! ### Machine/Interrupts.lean -/

theorem Kept.execMsixSend {v : Fin 64} (h : Kept s t) : KeptOut s (execMsixSend v t) := by
  unfold Machine.execMsixSend
  extract_lets x1 x2 _
  have hx1 : Kept s x1 := h.deliver
  have hx2 : Kept s x2 := hx1.sendVec
  exact .ite (.next (.same hx2)) (.next hx1)

theorem Kept.flushPending (h : Kept s t) : Kept s t.flushPending := by
  unfold State.flushPending
  exact .forEach (fun _ _ k1 => .ite (.ite k1.setPending.sendVec k1.setPending) k1) h

theorem Kept.execMsixUnmask {en fmask : Bool} (h : Kept s t) : KeptOut s (execMsixUnmask en fmask t) := by
  unfold Machine.execMsixUnmask
  extract_lets _
  exact .next (.flushPending (.same h))

theorem Kept.eoi {v : Nat} (h : Kept s t) : Kept s (t.eoi v) := by
  unfold State.eoi
  exact .ite h.sendVec h

theorem Kept.execMsixEoi {v : Word} (h : Kept s t) : KeptOut s (execMsixEoi v t) := by
  unfold Machine.execMsixEoi
  exact .next h.eoi

theorem Kept.setMon {d : Fin 6} {m : Mon} (h : Kept s t) : Kept s (t.setMon d m) := by
  unfold State.setMon
  exact .same h

theorem Kept.monSync {d : Fin 6} (h : Kept s t) : Kept s (t.monSync d) := by
  unfold State.monSync
  extract_lets x1 _ _ x2 x3 x4 _
  have hx1 : Kept s x1 := h.mdSettleDie
  have hx2 : Kept s x2 := hx1.tally
  have hx3 : Kept s x3 := hx2.tally
  have hx4 : Kept s x4 := hx3.tally
  exact hx4.setMon

theorem Kept.monClr {d : Fin 6} {mask : BitVec 16} (h : Kept s t) : Kept s (t.monClr d mask) := by
  unfold State.monClr
  extract_lets x1 _
  have hx1 : Kept s x1 := h.monSync
  exact hx1.setMon

theorem Kept.monCmdErr {d : Fin 6} (h : Kept s t) : Kept s (t.monCmdErr d) := by
  unfold State.monCmdErr
  exact h.raise

theorem Kept.monArm {d : Fin 6} (h : Kept s t) : Kept s (t.monArm d) := by
  unfold State.monArm
  extract_lets _ _
  exact .ite h.monCmdErr h.setMon

theorem Kept.monDisarm {d : Fin 6} (h : Kept s t) : Kept s (t.monDisarm d) := by
  unfold State.monDisarm
  extract_lets _
  exact h.setMon

theorem Kept.execMonClr {d : Fin 6} {mask : BitVec 16} (h : Kept s t) : KeptOut s (execMonClr d mask t) := by
  unfold Machine.execMonClr
  exact .next h.monClr

theorem Kept.execMonArm {d : Fin 6} (h : Kept s t) : KeptOut s (execMonArm d t) := by
  unfold Machine.execMonArm
  exact .next h.monArm

theorem Kept.execMonDisarm {d : Fin 6} (h : Kept s t) : KeptOut s (execMonDisarm d t) := by
  unfold Machine.execMonDisarm
  exact .next h.monDisarm

theorem Kept.takeSnap {d : Fin 6} (h : Kept s t) : Kept s (t.takeSnap d) := by
  unfold State.takeSnap
  extract_lets x1 x2 _
  have hx1 : Kept s x1 := h.monSync
  have hx2 : Kept s x2 := .forEach (fun _ _ k3 => k3.wrPair) hx1
  exact hx2.setMon.raise

theorem Kept.execMonSnapshot {d : Fin 6} (h : Kept s t) : KeptOut s (execMonSnapshot d t) := by
  unfold Machine.execMonSnapshot
  split
  · exact .next h
  · exact .ite (.next h.at_) (.next h.at_.takeSnap)

/-! ### Machine/Reset.lean -/

theorem Kept.showFuses (h : Kept s t) : Kept s t.showFuses := by
  unfold State.showFuses
  extract_lets _ x1 x2 x3
  have hx1 : Kept s x1 := h.setF
  have hx2 : Kept s x2 := hx1.wr
  have hx3 : Kept s x3 := hx2.wr
  exact hx3.wrPair

theorem Kept.fuseSense {scan : Bool} (h : Kept s t) : Kept s (t.fuseSense scan) := by
  unfold State.fuseSense
  extract_lets -merge _ _ _ x1 x2 x3 _ x4 _
  have hx1 : Kept s x1 := h.showFuses
  have hx2 : Kept s x2 := hx1.wr
  have hx3 : Kept s x3 := .forEach (fun _ _ k5 => k5.wr) hx2
  have hx4 : Kept s x4 := hx3.used
  exact .ite (.same hx3) (.same hx4)

theorem Kept.dropGroups {d : Fin 6} (h : Kept s t) : Kept s (t.dropGroups d) := by
  unfold State.dropGroups
  exact .forEach (fun _ _ k1 => .ite k1.stopNow k1) h

theorem Kept.clearBlocks {d : Fin 6} (h : Kept s t) : Kept s (t.clearBlocks d) := by
  have hd : Kept s ((((t.clearDie d).portDown (2 * d.val)).portDown (2 * d.val + 1)).dropRegs (inDie d.val)) :=
    h.clearDie.portDown.portDown.dropRegs
  unfold State.clearBlocks
  exact hd.of_clear

theorem Kept.dieReset {d : Fin 6} (h : Kept s t) : Kept s (t.dieReset d) := by
  unfold State.dieReset
  extract_lets x1
  have hx1 : Kept s x1 := h.dropGroups.clearBlocks
  exact .ite h (.noteFalls (.same hx1))

theorem Kept.dieRelease {d : Fin 6} {bad : Bool} (h : Kept s t) : Kept s (t.dieRelease d bad) := by
  unfold State.dieRelease
  extract_lets x1 x2 x3
  have hx1 : Kept s x1 := .same h
  have hx2 : Kept s x2 := hx1.setF
  have hx3 : Kept s x3 := hx2.wr
  exact .ite h (.ite h (.forEach (fun _ _ k4 => .ite k4.train k4) hx3))

theorem Kept.afterReset {cause : Nat} (h : Kept s t) : Kept s (t.afterReset cause) := by
  unfold State.afterReset
  extract_lets _ _ _ _ _ _ _ x2 x3 x4
  have hx2 : Kept s x2 := h.of_reset
  have hx3 : Kept s x3 := hx2.wr.setF.setF
  have hx4 : Kept s x4 := hx3.setB
  exact .ite hx4.setF hx4

theorem Kept.startUp {bist : List Nat} (h : Kept s t) : Kept s (t.startUp bist) := by
  unfold State.startUp
  extract_lets -underBinder x1 x2 x3 bad
  have hx1 : Kept s x1 := .forEach (fun _ _ k4 => k4.setF) h
  have hx2 : Kept s x2 := hx1.setF
  have hx3 : Kept s x3 := hx2.fuseSense
  clear_value bad
  split
  · exact h
  · split
    · exact hx3.setB.setF
    · extract_lets x5 x6 x7 x8 x9 _
      have hx5 : Kept s x5 := hx3.clearAll.setB
      have hx6 : Kept s x6 := .forEach (fun _ _ k10 => k10.train) hx5
      have hx7 : Kept s x7 := hx6.setF
      have hx8 : Kept s x8 := hx7.setB
      have hx9 : Kept s x9 := .ite hx8.raise hx8
      exact .same hx9

theorem Kept.deviceReset {cause : Nat} {bist : List Nat} (h : Kept s t) : Kept s (t.deviceReset cause bist) := by
  unfold State.deviceReset
  exact h.afterReset.startUp

theorem Kept.execPowerOnReset {role : BitVec 2} {refOk : Bool} {bist : List Nat} (h : Kept s t) :
    KeptOut s (execPowerOnReset role refOk bist t) := by
  unfold Machine.execPowerOnReset
  extract_lets _ _ _ _ _ x2
  have hx2 : Kept s x2 := h.of_reset
  exact .ite (.next hx2.raise.raise.startUp) (.next hx2)

theorem Kept.execPorstBLow (h : Kept s t) : KeptOut s (execPorstBLow t) := by
  unfold Machine.execPorstBLow
  exact .next h.of_reset

theorem Kept.execSysrst (h : Kept s t) : KeptOut s (execSysrst t) := by
  unfold Machine.execSysrst
  extract_lets x1 _
  have hx1 : Kept s x1 := h.afterReset
  exact .next (.same hx1)

theorem Kept.execSysrstBRelease {role : BitVec 2} {bist : List Nat} (h : Kept s t) :
    KeptOut s (execSysrstBRelease role bist t) := by
  unfold Machine.execSysrstBRelease
  extract_lets _
  exact .ite (.next (.startUp (.same h))) (.next h)

theorem Kept.execPkgRstDevice {key : BitVec 8} {bist : List Nat} (h : Kept s t) : KeptOut s (execPkgRstDevice key bist t) := by
  unfold Machine.execPkgRstDevice
  exact .ite (.next h.deviceReset) (.next h)

theorem Kept.execDiehold {d : Fin 6} {hold bad : Bool} (h : Kept s t) : KeptOut s (execDiehold d hold bad t) := by
  unfold Machine.execDiehold
  extract_lets _ _ x1
  have hx1 : Kept s x1 := h.setF
  exact .ite (.next h) (.ite (.next (.ite hx1 hx1.dieReset)) (.next hx1.dieRelease))

theorem Kept.execPciePerst (h : Kept s t) : KeptOut s (execPciePerst t) := by
  unfold Machine.execPciePerst
  extract_lets _
  exact .next (.same h)

theorem Kept.execSysreset {v : BitVec 8} {pec : Bool} {bist : List Nat} (h : Kept s t) :
    KeptOut s (execSysreset v pec bist t) := by
  unfold Machine.execSysreset
  exact .ite (.next h.deviceReset) (.next h)

theorem Kept.execPllLockLoss {d : Fin 6} {pll : Fin 5} (h : Kept s t) : KeptOut s (execPllLockLoss d pll t) := by
  unfold Machine.execPllLockLoss
  extract_lets _ _ x1 x2 _ x3
  have hx1 : Kept s x1 := h.setF
  have hx2 : Kept s x2 := hx1.setF
  have hx3 : Kept s x3 := h.dieReset
  exact .ite (.next hx2.raise.safeState) (.ite (.next h) (.next hx3.setF.raise))

/-! ### Machine/CoreCtl.lean -/

theorem Kept.modCr {m : Fin 12} {f : Core → Core} (h : Kept s t) : Kept s (t.modCr m f) := by
  unfold State.modCr
  exact .same h

theorem Kept.setCc {m n : Nat} (h : Kept s t) : Kept s (t.setCc m n) := by
  unfold State.setCc
  exact h.setF

theorem Kept.ccCause {m : Fin 12} {f : Fld} (h : Kept s t) : Kept s (t.ccCause m f) := by
  unfold State.ccCause
  exact h.setF

theorem Kept.ccCmdErr {d : Nat} (h : Kept s t) : Kept s (t.ccCmdErr d) := by
  unfold State.ccCmdErr
  exact h.raise

theorem Kept.csrTouch {n : Nat} (h : Kept s t) : Kept s (t.csrTouch n) := by
  unfold State.csrTouch
  exact .ite h.used h

theorem Kept.haltOne {m : Fin 12} {cause : Nat} (h : Kept s t) : Kept s (t.haltOne m cause) := by
  unfold State.haltOne
  extract_lets x1 _ x2 x3
  have hx1 : Kept s x1 := h.mdSettleDie
  have hx2 : Kept s x2 := hx1.wrPair
  have hx3 : Kept s x3 := hx2.setF.setB
  exact hx3.setCc.modCr

theorem Kept.haltCore {m : Fin 12} {cause : Nat} (h : Kept s t) : Kept s (t.haltCore m cause) := by
  unfold State.haltCore
  extract_lets x1
  have hx1 : Kept s x1 := h.haltOne
  exact .ite (.ite hx1.modCr hx1.haltOne.modCr) hx1

theorem Kept.releaseOne {m : Fin 12} {step : Bool} (h : Kept s t) : Kept s (t.releaseOne m step) := by
  unfold State.releaseOne
  extract_lets x1 x2 x3
  have hx1 : Kept s x1 := h.mdSettleDie
  have hx2 : Kept s x2 := hx1.modCr
  have hx3 : Kept s x3 := hx2.setB.setCc
  exact .ite hx3.wr hx3

theorem Kept.resumeCore {m : Fin 12} {step : Bool} (h : Kept s t) : Kept s (t.resumeCore m step) := by
  unfold State.resumeCore
  extract_lets x1
  have hx1 : Kept s x1 := h.releaseOne
  exact .ite (.ite hx1.releaseOne (.ite hx1.modCr hx1)) h

theorem Kept.haltReqCore {m : Fin 12} (h : Kept s t) : Kept s (t.haltReqCore m) := by
  unfold State.haltReqCore
  exact .ite (.ite h.modCr h.haltCore) h

theorem Kept.dbgCtrl {m : Fin 12} {v : Word} (h : Kept s t) : Kept s (t.dbgCtrl m v) := by
  unfold State.dbgCtrl
  extract_lets x1
  have hx1 : Kept s x1 := h.wrRW
  exact .ite hx1.haltReqCore (.ite hx1.resumeCore hx1)

theorem Kept.execHaltreq {m : Fin 12} (h : Kept s t) : KeptOut s (execHaltreq m t) := by
  unfold Machine.execHaltreq
  exact .next h.haltReqCore

theorem Kept.execDbgResume {m : Fin 12} (h : Kept s t) : KeptOut s (execDbgResume m t) := by
  unfold Machine.execDbgResume
  exact .next h.resumeCore

theorem Kept.dbgAcmd {m : Fin 12} {v : Word} (h : Kept s t) : Kept s (t.dbgAcmd m v) := by
  unfold State.dbgAcmd
  extract_lets _ _ _ x1
  have hx1 : ∀ y0 y1, Kept s y0 → Kept s (x1 y0 y1) := by
    intro y0 y1 ky0
    unfold x1
    exact ky0.wr.wr
  exact .ite h.raise (.ite (.ite (.ite h.modCr ((hx1 _ _ h).csrTouch)) h.raise) (.ite (.ite h.modCr (hx1 _ _ h)) h.raise))

theorem Kept.execDbgAcmd {m : Fin 12} {v : Word} (h : Kept s t) : KeptOut s (execDbgAcmd m v t) := by
  unfold Machine.execDbgAcmd
  exact .next h.dbgAcmd

theorem Kept.bootCore {m : Fin 12} (h : Kept s t) : Kept s (t.bootCore m) := by
  unfold State.bootCore
  extract_lets _ x1
  have hx1 : Kept s x1 := h.modCr.setCc
  exact .ite hx1.haltCore hx1

theorem Kept.dropRequests {src : Nat} (h : Kept s t) : Kept s (t.dropRequests src) := by
  unfold State.dropRequests
  extract_lets _
  exact .same h

theorem Kept.coreReset {m : Fin 12} {wdt : Bool} (h : Kept s t) : Kept s (t.coreReset m wdt) := by
  unfold State.coreReset
  extract_lets x1 _ x2 x3 x4
  have hx1 : Kept s x1 := h.dropRequests.mdSettleDie
  have hx2 : Kept s x2 := hx1.modCr
  have hx3 : Kept s x3 := hx2.setB
  have hx4 : Kept s x4 := hx3.setB.setCc
  exact .ite hx4.bootCore hx4

theorem Kept.ccCtrl {m : Fin 12} {v : Word} (h : Kept s t) : Kept s (t.ccCtrl m v) := by
  unfold State.ccCtrl
  extract_lets x1
  have hx1 : Kept s x1 := h.wrRW
  exact .ite hx1.coreReset (.ite hx1.bootCore hx1)

theorem Kept.execCoreRun {m : Fin 12} (h : Kept s t) : KeptOut s (execCoreRun m t) := by
  unfold Machine.execCoreRun
  exact .next h.ccCtrl

theorem Kept.execCoreRst {m : Fin 12} (h : Kept s t) : KeptOut s (execCoreRst m t) := by
  unfold Machine.execCoreRst
  exact .next h.ccCtrl

theorem Kept.wdtLoad {m : Fin 12} (h : Kept s t) : Kept s (t.wdtLoad m) := by
  unfold State.wdtLoad
  exact h.wr

theorem Kept.wdtKick {m : Fin 12} {key : Word} (h : Kept s t) : Kept s (t.wdtKick m key) := by
  unfold State.wdtKick
  exact .ite h.wdtLoad h.ccCmdErr

theorem Kept.wdtCtrl {m : Fin 12} {v : Word} (h : Kept s t) : Kept s (t.wdtCtrl m v) := by
  unfold State.wdtCtrl
  extract_lets _ x1
  have hx1 : Kept s x1 := h.wrRW
  exact .ite hx1.wdtLoad hx1

theorem Kept.execWdtKick {m : Fin 12} {key : Word} (h : Kept s t) : KeptOut s (execWdtKick m key t) := by
  unfold Machine.execWdtKick
  exact .next h.wdtKick

theorem Kept.execWdtTick {m : Fin 12} (h : Kept s t) : KeptOut s (execWdtTick m t) := by
  unfold Machine.execWdtTick
  exact .ite (.next h.wr) (.next h)

theorem Kept.execWdtExpiry {m : Fin 12} (h : Kept s t) : KeptOut s (execWdtExpiry m t) := by
  unfold Machine.execWdtExpiry
  exact .ite (.next h.coreReset.ccCause.wdtLoad) (.next h)

theorem Kept.execTimerInterrupt {m : Fin 12} (h : Kept s t) : KeptOut s (execTimerInterrupt m t) := by
  unfold Machine.execTimerInterrupt
  extract_lets x1
  have hx1 : Kept s x1 := h.at_
  exact .ite (.next hx1.setCc) (.next hx1)

theorem Kept.dtxWrite {m : Fin 12} {v : Word} (h : Kept s t) : Kept s (t.dtxWrite m v) := by
  unfold State.dtxWrite
  exact .ite h.raise h.wr.raise

theorem Kept.drxWrite {m : Fin 12} {v : Word} (h : Kept s t) : Kept s (t.drxWrite m v) := by
  unfold State.drxWrite
  exact .ite h.raise h.wr.raise.ccCause

theorem Kept.drxTake {m : Fin 12} (h : Kept s t) : Kept s (t.drxTake m) := by
  unfold State.drxTake
  exact h.wr.setB

theorem Kept.vtstat {m : Fin 12} {v : Word} (h : Kept s t) : Kept s (t.vtstat m v) := by
  unfold State.vtstat
  extract_lets x1 x2
  have hx1 : Kept s x1 := .ite h.setB h
  have hx2 : Kept s x2 := .ite hx1.setB hx1
  exact .ite hx2.setB hx2

theorem Kept.execDtxWrite {m : Fin 12} {v : Word} (h : Kept s t) : KeptOut s (execDtxWrite m v t) := by
  unfold Machine.execDtxWrite
  exact .next h.dtxWrite

theorem Kept.execTxack {m : Fin 12} (h : Kept s t) : KeptOut s (execTxack m t) := by
  unfold Machine.execTxack
  exact .next h.vtstat

theorem Kept.execDrxWrite {m : Fin 12} {v : Word} (h : Kept s t) : KeptOut s (execDrxWrite m v t) := by
  unfold Machine.execDrxWrite
  exact .next h.drxWrite

theorem Kept.execDrxRead {m : Fin 12} {dbg : Bool} (h : Kept s t) : KeptOut s (execDrxRead m dbg t) := by
  unfold Machine.execDrxRead
  extract_lets _
  exact .next (.answer (.ite h h.drxTake))

theorem Kept.setL2 {d : Fin 6} {x : L2} (h : Kept s t) : Kept s (t.setL2 d x) := by
  unfold State.setL2
  exact .same h

theorem Kept.l2Go {d : Fin 6} (h : Kept s t) : Kept s (t.l2Go d) := by
  unfold State.l2Go
  extract_lets _ _ _ _ _ x1
  have hx1 : Kept s x1 := .ite (.same h) h
  exact .ite h.ccCmdErr (.ite h hx1.setL2.raise)

theorem Kept.l2Ctrl {d : Fin 6} {v : Word} (h : Kept s t) : Kept s (t.l2Ctrl d v) := by
  unfold State.l2Ctrl
  extract_lets x1
  have hx1 : Kept s x1 := h.wrRW
  exact .ite h.ccCmdErr (.ite hx1.l2Go hx1)

theorem Kept.execL2opGo {d : Fin 6} {op : BitVec 2} (h : Kept s t) : KeptOut s (execL2opGo d op t) := by
  unfold Machine.execL2opGo
  exact .next h.l2Ctrl

theorem Kept.execL2done {d : Fin 6} {envs : List G6Env} (h : Kept s t) : KeptOut s (execL2done d envs t) := by
  unfold Machine.execL2done
  split
  · exact .next h
  · extract_lets x1 _ x2
    have hx1 : Kept s x1 := .foldl (fun _ _ k3 => k3.g6Access) h
    have hx2 : Kept s x2 := hx1.setL2
    exact .next hx2.setB.raise

end Sys2Proof.Machine
end

section
/-! The parts of the commands, and the commands, keep the stores canonical: one lemma for each function of
Machine/Keeper, Machine/Bist, Machine/Power, Machine/RegRead, Machine/RegWrite. -/
namespace Sys2Proof.Machine
variable {s t : State}
set_option Elab.async false

/-! ### Machine/Keeper.lean -/

theorem Kept.kprCause {f : Fld} (h : Kept s t) : Kept s (t.kprCause f) := by
  unfold State.kprCause
  exact h.raise

theorem Kept.modKeeper {f : Keeper → Keeper} (h : Kept s t) : Kept s (t.modKeeper f) := by
  unfold State.modKeeper
  exact .same h

theorem Kept.authFail (h : Kept s t) : Kept s t.authFail := by
  unfold State.authFail
  extract_lets x1 x2
  have hx1 : Kept s x1 := h.setF
  have hx2 : Kept s x2 := hx1.setB.kprCause
  exact hx2.modKeeper

theorem Kept.proof {box : Bool} {ws : List Word} {purpose level : Nat} (h : Kept s t) :
    Kept s (t.proof box ws purpose level).2 := by
  unfold State.proof
  split
  · dsimp only
    exact h
  · split
    · dsimp only
      exact h
    · extract_lets _ x1
      have hx1 : Kept s x1 := h.modKeeper
      split
      · dsimp only
        exact hx1
      · dsimp only
        exact hx1.authFail

theorem Kept.issueNonce {box : Bool} (h : Kept s t) : Kept s (t.issueNonce box).2 := by
  unfold State.issueNonce
  extract_lets _ _
  dsimp only
  exact h.used.modKeeper

theorem Kept.leaveFull (h : Kept s t) : Kept s t.leaveFull := by
  unfold State.leaveFull
  extract_lets x1
  have hx1 : Kept s x1 := .forEach (fun _ _ k2 => k2.resumeCore) h
  exact .forEach (fun _ _ k3 => .wr (.forEach (fun _ _ k4 => k4.wr) k3)) hx1

theorem Kept.enterScan (h : Kept s t) : Kept s t.enterScan := by
  unfold State.enterScan
  exact h.haltAll.modKeeper

theorem Kept.setDebug {n : Nat} (h : Kept s t) : Kept s (t.setDebug n) := by
  unfold State.setDebug
  extract_lets _ x1 x2
  have hx1 : Kept s x1 := h.setF.kprCause
  have hx2 : Kept s x2 := .ite hx1.leaveFull hx1
  exact .ite h (.ite hx2.enterScan hx2)

theorem Kept.openPwd {level : Nat} {ws : List Word} (h : Kept s t) : Kept s (t.openPwd level ws).2 := by
  unfold State.openPwd
  split
  · dsimp only
    exact h
  · split
    · dsimp only
      exact h
    · split
      · dsimp only
        exact h
      · split
        · dsimp only
          exact h
        · split
          · dsimp only
            exact h
          · dsimp only
            exact h.authFail

theorem Kept.openSig {level : Nat} {ws : List Word} (h : Kept s t) : Kept s (t.openSig level ws).2 := by
  unfold State.openSig
  split
  · dsimp only
    exact h
  · split
    · dsimp only
      exact h
    · exact h.proof

theorem Kept.message {w : Word} {ws : List Word} (h : Kept s t) : Kept s (t.message w ws).st := by
  unfold State.message
  dsimp only
  generalize bitsOf w.toNat 24 8 = code
  generalize bitsOf w.toNat 16 8 = level
  split
  · exact h
  · split
    · split
      · exact h.setDebug
      · exact h
    · split
      · exact h
      · exact h
    · split
      · exact h
      · split
        · exact .ite h.openPwd.setDebug h.openPwd
        · split
          · exact h
          · split
            · exact h
            · exact h.issueNonce
        · exact .ite h.openSig.setDebug h.openSig
        · exact h

theorem Kept.takeMessage {code : Nat} (h : Kept s t) : Kept s (t.takeMessage code) := by
  unfold State.takeMessage
  split
  · split
    · exact h
    · exact h.modKeeper
  · exact h

theorem Kept.execOpenPwd (h : Kept s t) : KeptOut s (execOpenPwd t) := by
  unfold Machine.execOpenPwd
  exact .next h.takeMessage

theorem Kept.execChal (h : Kept s t) : KeptOut s (execChal t) := by
  unfold Machine.execChal
  exact .next h.takeMessage

theorem Kept.execOpenSig (h : Kept s t) : KeptOut s (execOpenSig t) := by
  unfold Machine.execOpenSig
  exact .next h.takeMessage

theorem Kept.execDbgLock (h : Kept s t) : KeptOut s (execDbgLock t) := by
  unfold Machine.execDbgLock
  exact .next h.takeMessage

theorem Kept.execAuthStatus (h : Kept s t) : KeptOut s (execAuthStatus t) := by
  unfold Machine.execAuthStatus
  exact .next h.takeMessage

theorem Kept.takeUnknown (h : Kept s t) : Kept s t.takeUnknown := by
  unfold State.takeUnknown
  split
  · exact .ite h h.takeMessage
  · exact h

theorem Kept.execDbgauthMessageEnd (h : Kept s t) : KeptOut s (execDbgauthMessageEnd t) := by
  unfold Machine.execDbgauthMessageEnd
  extract_lets x1
  have hx1 : Kept s x1 := h.takeUnknown
  split
  · exact .next hx1
  · extract_lets x2 _
    have hx2 : Kept s x2.st := hx1.message
    exact .ite (.next hx2.modKeeper) (.next hx1)

theorem Kept.mboxCmd {code arg : Nat} (h : Kept s t) : Kept s (t.mboxCmd code arg) := by
  unfold State.mboxCmd
  exact .ite h.kprCause h.raise.modKeeper

theorem Kept.keeperCmd {src : BitVec 10} {code : Nat} {arg : BitVec 8} (h : Kept s t) : Kept s (t.keeperCmd src code arg) := by
  unfold State.keeperCmd
  exact .ite h.mboxCmd.answer h.answer

theorem Kept.execFuseRead {src : BitVec 10} {arg : BitVec 8} (h : Kept s t) : KeptOut s (execFuseRead src arg t) := by
  unfold Machine.execFuseRead
  exact .next h.keeperCmd

theorem Kept.execFuseProg {src : BitVec 10} {arg : BitVec 8} (h : Kept s t) : KeptOut s (execFuseProg src arg t) := by
  unfold Machine.execFuseProg
  exact .next h.keeperCmd

theorem Kept.execLcAdvance {src : BitVec 10} {arg : BitVec 8} (h : Kept s t) : KeptOut s (execLcAdvance src arg t) := by
  unfold Machine.execLcAdvance
  exact .next h.keeperCmd

theorem Kept.execAuthChal {src : BitVec 10} {arg : BitVec 8} (h : Kept s t) : KeptOut s (execAuthChal src arg t) := by
  unfold Machine.execAuthChal
  exact .next h.keeperCmd

theorem Kept.execRbCommit {src : BitVec 10} {arg : BitVec 8} (h : Kept s t) : KeptOut s (execRbCommit src arg t) := by
  unfold Machine.execRbCommit
  exact .next h.keeperCmd

theorem Kept.execZeroise {src : BitVec 10} {arg : BitVec 8} (h : Kept s t) : KeptOut s (execZeroise src arg t) := by
  unfold Machine.execZeroise
  exact .next h.keeperCmd

theorem Kept.execRandom {src : BitVec 10} {arg : BitVec 8} (h : Kept s t) : KeptOut s (execRandom src arg t) := by
  unfold Machine.execRandom
  exact .next h.keeperCmd

theorem Kept.fuseRead {arg : Nat} (h : Kept s t) : Kept s (t.fuseRead arg).st := by
  unfold State.fuseRead
  extract_lets _
  split
  · dsimp only
    exact h
  · dsimp only
    exact h
  · dsimp only
    exact h
  · dsimp only
    exact h
  · dsimp only
    exact h
  · dsimp only
    exact h
  · dsimp only
    exact h
  · dsimp only
    exact h
  · dsimp only
    exact h
  · dsimp only
    exact h

theorem Kept.setFuses {f : Fuses} (h : Kept s t) : Kept s (t.setFuses f) := by
  unfold State.setFuses
  exact h.modKeeper.showFuses

theorem Kept.kprIte {c : Prop} [Decidable c] {a b : KprAns} (ha : Kept s a.st) (hb : Kept s b.st) :
    Kept s (if c then a else b).st := by
  split
  · exact ha
  · exact hb

theorem Kept.fuseProg {arg : Nat} {vpp good : Bool} (h : Kept s t) : Kept s (t.fuseProg arg vpp good).st := by
  unfold State.fuseProg
  dsimp only
  split
  · split
    · exact h
    · split
      · exact h
      · split
        · exact h
        · split
          · exact h.setFuses
          · exact h.setFuses.used
  · exact h
  · exact h
  · exact h
  · exact h
  · exact .kprIte h (.kprIte h (.kprIte h (.kprIte h (.kprIte h.setFuses h.setFuses.used))))

theorem Kept.lcAdvance {arg : Nat} {vpp good : Bool} {bist : List Nat} (h : Kept s t) :
    KeptKpr s (t.lcAdvance arg vpp good bist) := by
  unfold State.lcAdvance
  extract_lets _ x1 x2 _ _ x3
  have hx1 : Kept s x1.2 := by
    unfold x1
    split
    · exact h.proof
    · dsimp only
      exact h
  have hx2 : Kept s x2 := hx1
  have hx3 : ∀ y0 y1, Kept s y0 → Kept s (x3 y0 y1) := by
    intro y0 y1 ky0
    unfold x3
    exact ky0.modKeeper
  split
  · exact .inl h
  · split
    · exact .inl hx1
    · split
      · exact .inl hx1
      · split
        · exact .inr ((hx3 _ _ hx2).deviceReset)
        · exact .inl ((hx3 _ _ hx2).used)

theorem Kept.rbCommit {vpp good : Bool} (h : Kept s t) : Kept s (t.rbCommit vpp good).st := by
  unfold State.rbCommit
  extract_lets _ _ _
  split
  · dsimp only
    exact h
  · split
    · dsimp only
      exact h
    · split
      · dsimp only
        exact h.setFuses
      · dsimp only
        exact h.setFuses.used

theorem Kept.noArg {arg : Nat} {f : State → KprAns} (h : Kept s t) (hf : ∀ y0, Kept s y0 → Kept s (f y0).st) :
    Kept s (t.noArg arg f).st := by
  unfold State.noArg
  split
  · exact hf _ h
  · dsimp only
    exact h

theorem Kept.mboxDone {r : KprAns} (h : Kept s r.st) : Kept s (t.mboxDone r) := by
  unfold State.mboxDone
  exact (Kept.forEach (fun _ _ k => k.wr) h.wr).modKeeper.kprCause

theorem Kept.chalAns (h : Kept s t) : Kept s (if t.inField then
    (let r := t.issueNonce true; (⟨0, r.1, r.2⟩ : KprAns)) else ⟨2, [], t⟩).st := by
  split
  · exact h.issueNonce
  · exact h

theorem Kept.commitAns {vpp good : Bool} (h : Kept s t) :
    Kept s (if t.inField then t.rbCommit vpp good else (⟨2, [], t⟩ : KprAns)).st := by
  split
  · exact h.rbCommit
  · exact h

theorem Kept.execKeeperCmdDone {vpp good : Bool} {bist : List Nat} (h : Kept s t) :
    KeptOut s (execKeeperCmdDone vpp good bist t) := by
  unfold Machine.execKeeperCmdDone
  split
  · exact .next h
  · split
    · exact .next (.mboxDone h.fuseRead)
    · exact .next (.mboxDone h.fuseProg)
    · split
      · rename_i r e
        exact .next (.mboxDone (h.lcAdvance.1 _ e))
      · rename_i u e
        exact .next (h.lcAdvance.2 _ e)
    · exact .next (.mboxDone (h.noArg fun _ k => k.chalAns))
    · exact .next (.mboxDone (h.noArg fun _ k => k.commitAns))
    · exact .ite (.next (Kept.mboxDone (h.noArg fun _ k => k)).kprCause.haltAll) (.next (.mboxDone (h.noArg fun _ k => k)))
    · exact .next (.mboxDone (h.noArg fun _ k => k.used))
    · exact .next (.mboxDone h)

theorem Kept.execNonceExpiry {box : Bool} (h : Kept s t) : KeptOut s (execNonceExpiry box t) := by
  unfold Machine.execNonceExpiry
  split
  · exact .next h
  · exact .next h.at_.modKeeper

theorem Kept.execLockoutExpiry (h : Kept s t) : KeptOut s (execLockoutExpiry t) := by
  unfold Machine.execLockoutExpiry
  extract_lets x1
  have hx1 : Kept s x1 := h.at_
  exact .next (.ite hx1 hx1.setB)

theorem Kept.execDbgauthPush {w : Word} (h : Kept s t) : KeptOut s (execDbgauthPush w t) := by
  unfold Machine.execDbgauthPush
  exact .ite (.next h.modKeeper) (.next h)

theorem Kept.execDbgauthPop (h : Kept s t) : KeptOut s (execDbgauthPop t) := by
  unfold Machine.execDbgauthPop
  exact .ite (.next h.modKeeper) (.next h)

theorem Kept.execDbgauthFlush (h : Kept s t) : KeptOut s (execDbgauthFlush t) := by
  unfold Machine.execDbgauthFlush
  exact .ite (.next h.modKeeper) (.next h)

theorem Kept.fillThermos (h : Kept s t) : Kept s t.fillThermos := by
  unfold State.fillThermos
  extract_lets _ _ x1
  have hx1 : Kept s x1 := h.zeroKeys
  exact hx1.modKeeper

theorem Kept.emptyThermos {bad : List Nat} (h : Kept s t) : Kept s (t.emptyThermos bad) := by
  unfold State.emptyThermos
  split
  · exact h
  · extract_lets x1 x2 x3
    have hx1 : Kept s x1 := by
      unfold x1
      refine .forEach (fun _ _ k6 => ?_) h
      split
      · exact k6
      · extract_lets -merge _ _
        exact .ite k6.setV.kprCause k6.setV
    have hx2 : Kept s x2 := .ite hx1.setDebug.kprCause hx1
    have hx3 : Kept s x3 := hx2.modKeeper
    exact .ite hx3.deviceReset (.ite hx3.kprCause hx3)

/-! ### Machine/Bist.lean -/

theorem Kept.setBist {d : Fin 6} {x : Bist} (h : Kept s t) : Kept s (t.setBist d x) := by
  unfold State.setBist
  exact .same h

theorem Kept.startSlice {d : Fin 6} {t' : Nat} (h : Kept s t) : Kept s (t.startSlice d t') := by
  unfold State.startSlice
  extract_lets _ _
  exact h.setBist.raise.setF

theorem Kept.execSliceStart {d : Fin 6} (h : Kept s t) : KeptOut s (execSliceStart d t) := by
  unfold Machine.execSliceStart
  extract_lets -underBinder _
  split
  · exact .next h
  · split
    · exact .next (.ite h.startSlice h)
    · extract_lets _ x1
      have hx1 : Kept s x1 := h.at_.setBist
      split
      · split
        · exact .next hx1.startSlice
        · exact .next hx1
      · exact .next h

theorem Kept.sliceOver {d : Fin 6} (h : Kept s t) : Kept s (t.sliceOver d) := by
  unfold State.sliceOver
  extract_lets _
  exact h.setBist.setB

theorem Kept.abandon {d : Fin 6} (h : Kept s t) : Kept s (t.abandon d) := by
  unfold State.abandon
  split
  · exact h
  · exact h.sliceOver.bump.tally

theorem Kept.execSliceAbandon {d : Fin 6} (h : Kept s t) : KeptOut s (execSliceAbandon d t) := by
  unfold Machine.execSliceAbandon
  exact .next h.abandon

theorem Kept.serve {d : Fin 6} {hits : Nat → Bool} (h : Kept s t) : Kept s (t.serve d hits) := by
  unfold State.serve
  split
  · exact h
  · exact .ite h.abandon h

theorem Kept.setHold {d : Fin 6} {t' : Nat} {b : Bool} (h : Kept s t) : Kept s (t.setHold d t' b) := by
  unfold State.setHold
  extract_lets _
  exact h.wrPair

theorem Kept.safeOf {d : Fin 6} {t' seg : Nat} (h : Kept s t) : Kept s (t.safeOf d t' seg) := by
  unfold State.safeOf
  extract_lets x1
  have hx1 : Kept s x1 := h.fenceLink
  exact .ite h.setRel (.ite h.setB (.ite h.laneFail (.ite (.ite hx1.safeState hx1) (.ite h.safeState h))))

theorem Kept.sliceFail {d : Fin 6} {t' seg : Nat} {r : SliceResult} (h : Kept s t) : Kept s (t.sliceFail d t' seg r) := by
  unfold State.sliceFail
  extract_lets _ x1 x2 x3 _ x4
  have hx1 : Kept s x1 := h.wr
  have hx2 : Kept s x2 := hx1.raise
  have hx3 : Kept s x3 := .ite hx2 hx2.setHold
  have hx4 : Kept s x4 := hx3.setBist.setB
  exact hx4.safeOf

theorem Kept.slicePass {d : Fin 6} {t' : Nat} (h : Kept s t) : Kept s (t.slicePass d t') := by
  unfold State.slicePass
  extract_lets _ _ _ x1 x2 _ x3
  have hx1 : Kept s x1 := h.bump.tally
  have hx2 : Kept s x2 := hx1.setBist
  have hx3 : Kept s x3 := hx2.setBist.setB
  exact .ite hx3.setHold.raise hx2

theorem Kept.execSliceEnd {d : Fin 6} {r : SliceResult} {ces : Nat} (h : Kept s t) : KeptOut s (execSliceEnd d r ces t) := by
  unfold Machine.execSliceEnd
  split
  · exact .next h
  · extract_lets x1 x2
    have hx1 : Kept s x1 := h.sliceOver
    have hx2 : Kept s x2 := .ite hx1 hx1.bump.raise
    exact .ite (.next h.abandon) (.ite (.next hx2.slicePass) (.next hx2.sliceFail))

theorem Kept.retestCmd {d : Fin 6} {t' : Nat} (h : Kept s t) : Kept s (t.retestCmd d t') := by
  unfold State.retestCmd
  extract_lets _
  exact .ite h.raise h.setBist.raise

theorem Kept.execRetest {d : Fin 6} {tgt : BitVec 6} (h : Kept s t) : KeptOut s (execRetest d tgt t) := by
  unfold Machine.execRetest
  exact .next h.retestCmd

/-! ### Machine/Power.lean -/

theorem Kept.setPower {n : Nat} (h : Kept s t) : Kept s (t.setPower n) := by
  unfold State.setPower
  exact h.setF

theorem Kept.pwrErr (h : Kept s t) : Kept s t.pwrErr := by
  unfold State.pwrErr
  exact h.raise

theorem Kept.enterSleep (h : Kept s t) : Kept s t.enterSleep := by
  unfold State.enterSleep
  extract_lets x1 x2 x3 x4 x5 x6 _
  have hx1 : Kept s x1 := .forEach (fun _ _ k7 => k7.monSync) h
  have hx2 : Kept s x2 := .forEach (fun _ _ k8 => .ite k8.scrDone k8) hx1
  have hx3 : Kept s x3 := hx2.fillThermos
  have hx4 : Kept s x4 := .forEach (fun _ _ k9 => .ite k9.setF.setF k9) hx3
  have hx5 : Kept s x5 := .forEach (fun _ _ k10 => k10.portDown.modPort) hx4
  have hx6 : Kept s x6 := hx5.showTree.setPower
  exact .same hx6

theorem Kept.retrainPorts (h : Kept s t) : Kept s t.retrainPorts := by
  unfold State.retrainPorts
  exact .forEach (fun _ _ k1 => .ite k1.portTo k1) h

theorem Kept.wakeMem {q : Fin 24} (h : Kept s t) : Kept s (t.wakeMem q) := by
  unfold State.wakeMem
  extract_lets x1 _
  have hx1 : Kept s x1 := h.setF
  exact .ite hx1.setP h

theorem Kept.remeasure (h : Kept s t) : Kept s t.remeasure := by
  unfold State.remeasure
  extract_lets _
  exact .ite (.same h) h

theorem Kept.monGo {d : Fin 6} (h : Kept s t) : Kept s (t.monGo d) := by
  unfold State.monGo
  extract_lets _
  exact h.setMon

theorem Kept.wake {st : Nat} {therm : List Nat} (h : Kept s t) : Kept s (t.wake st therm) := by
  unfold State.wake
  extract_lets x1 _ x2 x3 x4
  have hx1 : Kept s x1 := by
    unfold x1
    refine .forEach (fun _ _ k7 => ?_) h
    split
    · exact .ite k7.takeSnap k7
    · exact k7
  have hx2 : Kept s x2 := .same hx1
  have hx3 : Kept s x3 := .setPower (.forEach (fun _ _ k8 => k8.monGo) hx2)
  have hx4 : Kept s x4 := .remeasure (.retrainPorts (.forEach (fun _ _ k9 => k9.wakeMem) hx3))
  exact hx4.emptyThermos

theorem Kept.pwrReq {req : Nat} {therm : List Nat} (h : Kept s t) : Kept s (t.pwrReq req therm) := by
  unfold State.pwrReq
  split
  · exact h.pwrErr
  · split
    · exact h.setPower
    · exact h.wake
    · exact .ite h.setPower h.pwrErr
    · exact h.wake
    · exact .ite h.enterSleep h.pwrErr
    · exact h
    · exact h.pwrErr

theorem Kept.pwrWrite {src : BitVec 10} {req : Nat} {therm : List Nat} (h : Kept s t) : Kept s (t.pwrWrite src req therm) := by
  unfold State.pwrWrite
  exact .ite h.pwrErr.answer (.ite h.pwrReq.answer h)

theorem Kept.execPwrReqPark {src : BitVec 10} (h : Kept s t) : KeptOut s (execPwrReqPark src t) := by
  unfold Machine.execPwrReqPark
  exact .next h.pwrWrite

theorem Kept.execPwrReqRun {src : BitVec 10} {therm : List Nat} (h : Kept s t) : KeptOut s (execPwrReqRun src therm t) := by
  unfold Machine.execPwrReqRun
  exact .next h.pwrWrite

theorem Kept.execPwrReqSleep {src : BitVec 10} (h : Kept s t) : KeptOut s (execPwrReqSleep src t) := by
  unfold Machine.execPwrReqSleep
  exact .next h.pwrWrite

theorem Kept.execWakePt {therm : List Nat} (h : Kept s t) : KeptOut s (execWakePt therm t) := by
  unfold Machine.execWakePt
  exact .ite (.next h.at_.wake) (.next h)

theorem Kept.holdover (h : Kept s t) : Kept s t.holdover := by
  unfold State.holdover
  extract_lets x1
  have hx1 : Kept s x1 := h.setB.raise.raise
  exact hx1.raise

theorem Kept.showRef (h : Kept s t) : Kept s t.showRef := by
  unfold State.showRef
  extract_lets _ x1
  have hx1 : Kept s x1 := h.setB.setB
  exact .ite h (.ite hx1.holdover hx1)

theorem Kept.execRefLoss (h : Kept s t) : KeptOut s (execRefLoss t) := by
  unfold Machine.execRefLoss
  extract_lets x1
  have hx1 : Kept s x1 := .ite h h.setB
  exact .next hx1.holdover

theorem Kept.execRefReturn (h : Kept s t) : KeptOut s (execRefReturn t) := by
  unfold Machine.execRefReturn
  extract_lets _ x1
  have hx1 : Kept s x1 := .ite h h.raise
  exact .ite (.next h) (.next hx1.raise.setB.setB)

theorem Kept.sense {d : Fin 6} {t' : BitVec 11} (h : Kept s t) : Kept s (t.sense d t') := by
  unfold State.sense
  extract_lets x1
  have hx1 : Kept s x1 := h.setF
  exact .ite hx1.setF hx1

theorem Kept.clrMax {d : Fin 6} (h : Kept s t) : Kept s (t.clrMax d) := by
  unfold State.clrMax
  exact h.setF

theorem Kept.execClrmax {d : Fin 6} (h : Kept s t) : KeptOut s (execClrmax d t) := by
  unfold Machine.execClrmax
  exact .next h.clrMax

theorem Kept.execTwarn {d : Fin 6} {t' : BitVec 11} (h : Kept s t) : KeptOut s (execTwarn d t' t) := by
  unfold Machine.execTwarn
  extract_lets x1
  have hx1 : Kept s x1 := h.sense
  exact .next (.ite hx1.raise hx1)

theorem Kept.execThermalTrip {d : Fin 6} {t' : BitVec 11} (h : Kept s t) : KeptOut s (execThermalTrip d t' t) := by
  unfold Machine.execThermalTrip
  extract_lets x1 _
  have hx1 : Kept s x1 := h.sense.safeState.afterReset
  exact .ite (.next (.same hx1)) (.next h.sense)

theorem Kept.execThermalRecover {temps : List (BitVec 11)} {bist : List Nat} (h : Kept s t) :
    KeptOut s (execThermalRecover temps bist t) := by
  unfold Machine.execThermalRecover
  extract_lets x1 _
  have hx1 : Kept s x1 := .forEach (fun _ _ k2 => k2.sense) h
  exact .ite (.next (.startUp (.same hx1))) (.next h)

theorem Kept.smb {w : Nat} (h : Kept s t) : Kept s (t.smb w) := by
  unfold State.smb
  exact .ite h h.answer

theorem Kept.execSmbStatus (h : Kept s t) : KeptOut s (execSmbStatus t) := by
  unfold Machine.execSmbStatus
  exact .next h.smb

theorem Kept.execTempMax (h : Kept s t) : KeptOut s (execTempMax t) := by
  unfold Machine.execTempMax
  extract_lets _
  exact .next h.smb

theorem Kept.execTempDie {d : Fin 6} {t' : BitVec 11} (h : Kept s t) : KeptOut s (execTempDie d t' t) := by
  unfold Machine.execTempDie
  exact .next (.ite h.smb h.sense.smb)

theorem Kept.execRail {code : BitVec 8} {mv : BitVec 16} (h : Kept s t) : KeptOut s (execRail code mv t) := by
  unfold Machine.execRail
  exact .next (.ite h.smb (.same h))

theorem Kept.execPower {dw : BitVec 16} (h : Kept s t) : KeptOut s (execPower dw t) := by
  unfold Machine.execPower
  exact .next h.smb

theorem Kept.execRstcause (h : Kept s t) : KeptOut s (execRstcause t) := by
  unfold Machine.execRstcause
  exact .next (.ite h h.answer)

theorem Kept.execSmbPwrReq {v : BitVec 8} {pec : Bool} {therm : List Nat} (h : Kept s t) :
    KeptOut s (execSmbPwrReq v pec therm t) := by
  unfold Machine.execSmbPwrReq
  exact .next (.ite h.pwrReq h)

theorem Kept.execAddressResolutionProtocol {assign : Option (BitVec 7)} (h : Kept s t) :
    KeptOut s (execAddressResolutionProtocol assign t) := by
  unfold Machine.execAddressResolutionProtocol
  extract_lets -underBinder x1
  have hx1 : Kept s x1 := h.answer
  split
  · split
    · exact .next hx1
    · extract_lets _
      exact .next (.same hx1)
  · exact .next (.same h)

/-! ### Machine/RegRead.lean -/

theorem Kept.regSync {b : BlkAt} (h : Kept s t) : Kept s (t.regSync b) := by
  unfold State.regSync
  exact .ite h.monSync (.ite h.mdSettle (.ite h.stampsTo.showStamps h))

theorem Kept.latchAll {b : BlkAt} {a : Nat} {offs : List Nat} (h : Kept s t) : Kept s (t.latchAll b a offs) := by
  unfold State.latchAll
  refine .forEach (fun _ _ k2 => ?_) h
  extract_lets _
  split
  · exact k2.setLatch
  · exact k2

theorem Kept.readReg {b : BlkAt} {ix : List Nat} {a : Nat} {dbg : Bool} {ups : List Ecc} (h : Kept s t) :
    Kept s (t.readReg b ix a dbg ups).2 := by
  unfold State.readReg
  split
  · extract_lets x1
    have hx1 : Kept s x1.2 := h.counterRead
    dsimp only
    exact hx1
  · extract_lets x2 _ _ x3
    have hx2 : Kept s x2 := h.regSync
    have hx3 : Kept s x3 := hx2.latchAll
    split
    · dsimp only
      exact hx2
    · split
      · dsimp only
        exact .ite hx2.modG.showStamps hx2
      · dsimp only
        exact .ite hx3.drxTake hx3

/-! ### Machine/RegWrite.lean -/

theorem Kept.stOf {o : Out} (_h : Kept s t) (ho : KeptOut s o) : Kept s (stOf t o) := by
  obtain ⟨u, rfl, hu⟩ := ho
  exact hu

theorem Kept.ansOf {o : Out} (h : Kept s t) (ho : KeptOut s o) : Kept s (ansOf t o).2 := h.stOf ho

theorem Kept.plain {r : RegRow} {a : Nat} {v : Word} (h : Kept s t) : Kept s (t.plain r a v) := by
  unfold State.plain
  extract_lets _ _
  exact h.wr

theorem Kept.plainIf {locked : Bool} {err : State → State} {r : RegRow} {a : Nat} {v : Word} (h : Kept s t)
    (herr : ∀ y0, Kept s y0 → Kept s (err y0)) :
    Kept s (t.plainIf locked err r a v) := by
  unfold State.plainIf
  exact .ite (herr _ h) h.plain

theorem Kept.vsqCtrl {g : Fin 24} {v : Word} (h : Kept s t) : Kept s (t.vsqCtrl g v) := by
  unfold State.vsqCtrl
  extract_lets _ _ x1 x2 x3
  have hx1 : Kept s x1 := h.setF
  have hx2 : Kept s x2 := .ite hx1.vsqCmdErr hx1
  have hx3 : Kept s x3 := .ite (h.stOf h.execVsqStart) h.setF
  exact .ite (hx2.stOf hx2.execVsqAbort) (.ite (hx3.stOf hx3.execVsqResume) hx3)

theorem Kept.chGctrl {g : Fin 24} {v : Word} (h : Kept s t) : Kept s (t.chGctrl g v) := by
  unfold State.chGctrl
  extract_lets x1
  have hx1 : Kept s x1 := h.setF.setF
  exact hx1.stOf hx1.execGroupRelease

theorem Kept.writeVsq {b : BlkAt} {r : RegRow} {a : Nat} {v : Word} (h : Kept s t) : Kept s (t.writeVsq b r a v) := by
  unfold State.writeVsq
  extract_lets _ _ x1 _ x2
  have hx1 : ∀ y0, Kept s y0 → Kept s (x1 y0) := by
    intro y0 ky0
    unfold x1
    exact ky0.vsqCmdErr
  have hx2 : Kept s x2 := h.plain
  exact .ite h.vsqCtrl (.ite (.ite (hx1 _ h) (.ite (h.stOf h.execSctrlArm) (.ite (h.stOf h.execSctrlDisarm) h))) (.ite (h.plainIf (fun _ k3 => hx1 _ k3)) (.ite h.plain (.ite h.plain (.ite (h.plainIf (fun _ k4 => hx1 _ k4)) (.ite (.ite (hx1 _ h) h.chGctrl) (.ite (.ite (h.stOf h.execCalTrim) h) (.ite (.ite (hx2.stOf hx2.execStampFlush) hx2) (.ite h.plain (.ite (h.plainIf (fun _ k5 => hx1 _ k5)) (h.plainIf (fun _ k6 => hx1 _ k6))))))))))))

theorem Kept.writeFcu {b : BlkAt} {r : RegRow} {a : Nat} {v : Word} (h : Kept s t) : Kept s (t.writeFcu b r a v) := by
  unfold State.writeFcu
  extract_lets _ _ _ x1 x2
  have hx1 : Kept s x1 := .ite (h.stOf h.execClrcnt) h
  have hx2 : Kept s x2 := .ite (hx1.stOf hx1.execLreset) hx1
  exact .ite h.vsqCmdErr (.ite (.ite (hx2.stOf hx2.execCreset) hx2) (.ite h.plain.updLfull h.plain))

theorem Kept.writeFcd {b : BlkAt} {r : RegRow} {ix : List Nat} {a : Nat} {v : Word} (h : Kept s t) :
    Kept s (t.writeFcd b r ix a v) := by
  unfold State.writeFcd
  extract_lets _ _ x1 x2 x3 _
  have hx1 : Kept s x1 := .ite (h.stOf h.execClrsmask) h
  have hx2 : Kept s x2 := .ite (hx1.stOf hx1.execClrsite) hx1
  have hx3 : Kept s x3 := .ite (hx2.stOf hx2.execBmflush) hx2
  exact .ite (.ite hx3 (hx3.stOf hx3.execBmclr)) (.ite (h.stOf h.execFcdSmaskWrite) (.ite (h.plainIf (fun _ k4 => k4.fcdCmdErr)) h.plain))

theorem Kept.writeRae {b : BlkAt} {r : RegRow} {a : Nat} {v : Word} (h : Kept s t) : Kept s (t.writeRae b r a v) := by
  unfold State.writeRae
  extract_lets _ _
  exact .ite (.ite h.plain.raeCmdErr h.plain) (.ite h.raeParam (.ite ((h.plainIf (fun _ k1 => k1.raeCmdErr)).updRfull) (.ite h.plain.updRfull (.ite (h.plainIf (fun _ k2 => k2.raeCmdErr)) h.plain))))

theorem Kept.writeMdsp {b : BlkAt} {r : RegRow} {ix : List Nat} {a : Nat} {v : Word} (h : Kept s t) :
    Kept s (t.writeMdsp b r ix a v) := by
  unfold State.writeMdsp
  extract_lets _ _ x1
  have hx1 : Kept s x1 := .ite (h.stOf h.execMdspStop) h
  exact .ite (.ite (hx1.stOf hx1.execMdspStart) hx1) (.ite (h.plainIf (fun _ k2 => k2.raise)) (.ite h.eventAt (.ite h.mwrite h.plain)))

theorem Kept.writeMemp {b : BlkAt} {r : RegRow} {a : Nat} {v : Word} (h : Kept s t) : Kept s (t.writeMemp b r a v) := by
  unfold State.writeMemp
  extract_lets _ _ _ _ x1 x2
  have hx1 : Kept s x1 := h.plain
  have hx2 : Kept s x2 := .ite (hx1.stOf hx1.execMempInit) hx1
  exact .ite (.ite (hx2.stOf hx2.execMempZero) hx2) (.ite (h.plainIf (fun _ k3 => k3)) h.plain)

theorem Kept.writeVlt {b : BlkAt} {r : RegRow} {ix : List Nat} {a : Nat} {v : Word} (h : Kept s t) :
    Kept s (t.writeVlt b r ix a v) := by
  unfold State.writeVlt
  extract_lets _
  exact .ite h.plain (.ite h (.ite h.vaultCtrl (.ite h (h.plainIf (fun _ k1 => k1.vltCause)))))

theorem Kept.writeProm {b : BlkAt} {r : RegRow} {ix : List Nat} {a : Nat} {v : Word} (h : Kept s t) :
    Kept s (t.writeProm b r ix a v) := by
  unfold State.writeProm
  extract_lets _ _ x1 x2
  have hx1 : Kept s x1 := h.plain
  have hx2 : Kept s x2 := .ite (hx1.stOf hx1.execPromScrGo) hx1
  exact .ite (.ite h (.ite (h.stOf h.execRegionCtrlWrite) (h.plainIf (fun _ k3 => k3.raise)))) (.ite (.ite (hx2.stOf hx2.execPromScrStop) hx2) h.plain)

theorem Kept.writeDma {b : BlkAt} {r : RegRow} {ix : List Nat} {a : Nat} {v : Word} (h : Kept s t) :
    Kept s (t.writeDma b r ix a v) := by
  unfold State.writeDma
  extract_lets _
  exact .ite h.dmaCtrl (.ite h.dmaDesc h.plain)

theorem Kept.writeSeam {b : BlkAt} {r : RegRow} {a : Nat} {v : Word} (h : Kept s t) : Kept s (t.writeSeam b r a v) := by
  unfold State.writeSeam
  extract_lets _ x1 x2 x3
  have hx1 : Kept s x1 := .ite h.keepFvals h
  have hx2 : Kept s x2 := hx1.plain
  have hx3 : Kept s x3 := .ite (hx2.stOf hx2.execSeamFence) hx2
  exact .ite (.ite (hx3.stOf hx3.execSeamRetrain) hx3) hx2

theorem Kept.cfgCtrl {r : RegRow} {a : Nat} {v : Word} (h : Kept s t) : Kept s (t.cfgCtrl r a v) := by
  unfold State.cfgCtrl
  extract_lets x1 go
  have hx1 : Kept s x1 := h.plain
  have hgo : ∀ (f : Fld) (o : State → Out) (u : State), Kept s u → (∀ v, Kept s v → KeptOut s (o v)) → Kept s (go f o u) := by
    intro f o u hu ho
    exact .ite (hu.stOf (ho _ hu)) hu
  exact hgo _ _ _ (hgo _ _ _ (hgo _ _ _ (hgo _ _ _ (hgo _ _ _ hx1 fun _ k => k.execReload) fun _ k => k.execHostload) fun _ k => k.execPload)
    fun _ k => k.execDieload) fun _ k => k.execCfgAbort

theorem Kept.writeCfg {b : BlkAt} {r : RegRow} {a : Nat} {v : Word} (h : Kept s t) : Kept s (t.writeCfg b r a v).2 := by
  unfold State.writeCfg
  extract_lets -merge _ x1 x2 x3
  have hx1 : Kept s x1 := h.plain
  have hx2 : Kept s x2 := .ite (hx1.stOf hx1.execMeadowFence) hx1
  have hx3 : Kept s x3 := h.plain
  split
  · dsimp only
    exact h.cfgCtrl
  · split
    · dsimp only
      exact .ite (hx2.stOf hx2.execUnfence) hx2
    · split
      · dsimp only
        exact .ite (hx3.stOf hx3.execScrubClr) hx3
      · split
        · exact h.ansOf h.execRbaddrWrite
        · split
          · exact h.ansOf h.execCfgDataWrite
          · dsimp only
            exact h.plain

theorem Kept.writeFab {b : BlkAt} {r : RegRow} {ix : List Nat} {a : Nat} {v : Word} (h : Kept s t) :
    Kept s (t.writeFab b r ix a v) := by
  unfold State.writeFab
  extract_lets _ x1
  have hx1 : Kept s x1 := .ite h h.setF
  exact .ite (hx1.stOf hx1.execFcsEnable) h.plain

theorem Kept.writeCc {b : BlkAt} {r : RegRow} {a : Nat} {v : Word} (h : Kept s t) : Kept s (t.writeCc b r a v) := by
  unfold State.writeCc
  split
  · exact h.ccCtrl
  · exact h.wdtCtrl
  · exact h.wdtKick
  · exact h.l2Ctrl
  · exact h.plain

theorem Kept.writeDbg {b : BlkAt} {r : RegRow} {a : Nat} {v : Word} (h : Kept s t) : Kept s (t.writeDbg b r a v) := by
  unfold State.writeDbg
  split
  · exact h.dbgCtrl
  · exact .ite h.plain h
  · exact .ite h.plain h
  · exact h.dbgAcmd
  · exact h.dtxWrite
  · exact h.drxWrite
  · exact h.vtstat
  · exact h.plain

theorem Kept.writeMon {b : BlkAt} {r : RegRow} {a : Nat} {v : Word} (h : Kept s t) : Kept s (t.writeMon b r a v) := by
  unfold State.writeMon
  extract_lets _ x1 x2 x3 _ x4
  have hx1 : Kept s x1 := h.monSync
  have hx2 : Kept s x2 := hx1.monClr
  have hx3 : Kept s x3 := .ite hx2.monArm hx2
  have hx4 : Kept s x4 := hx1.setMon
  exact .ite (.ite hx3.monDisarm hx3) (.ite hx4.plain hx1.plain)

theorem Kept.writeBist {b : BlkAt} {r : RegRow} {a : Nat} {v : Word} (h : Kept s t) : Kept s (t.writeBist b r a v) := by
  unfold State.writeBist
  exact .ite (.ite h.retestCmd h) h.plain

theorem Kept.writeDcr {b : BlkAt} {r : RegRow} {a : Nat} {v : Word} (h : Kept s t) : Kept s (t.writeDcr b r a v) := by
  unfold State.writeDcr
  extract_lets x1
  have hx1 : Kept s x1 := h.plain
  exact .ite hx1.clrMax hx1

theorem Kept.writeKpr {b : BlkAt} {r : RegRow} {a : Nat} {v : Word} (h : Kept s t) : Kept s (t.writeKpr b r a v) := by
  unfold State.writeKpr
  exact .ite h.mboxCmd (.ite (h.plainIf (fun _ k1 => k1.kprCause)) h.plain)

theorem Kept.writeTsy {b : BlkAt} {r : RegRow} {ix : List Nat} {a : Nat} {v : Word} (h : Kept s t) :
    Kept s (t.writeTsy b r ix a v) := by
  unfold State.writeTsy
  extract_lets _
  exact .ite h.tsyCtrlWrite.showRef (.ite (.ite (h.stOf h.execBcastGo) h.plain) (.ite (h.stOf h.execPortEnable) (.ite (h.plainIf (fun _ k1 => k1)) h.plain)))

theorem Kept.writeLed {b : BlkAt} {r : RegRow} {a : Nat} {v : Word} (h : Kept s t) : Kept s (t.writeLed b r a v) := by
  unfold State.writeLed
  extract_lets _ _ x1
  have hx1 : Kept s x1 := .ite h.setF.setF h.plain
  exact .ite (.ite hx1.setLed hx1) (.ite (h.stOf h.execLedCommit) (.ite (h.plainIf (fun _ k2 => k2)) h.plain))

theorem Kept.dieHolds {v : Word} (h : Kept s t) : Kept s (t.dieHolds v) := by
  unfold State.dieHolds
  exact .forEach (fun _ _ k1 => .ite k1 (k1.stOf k1.execDiehold)) h

theorem Kept.writePkg {src : Nat} {b : BlkAt} {r : RegRow} {a : Nat} {v : Word} (h : Kept s t) :
    Kept s (t.writePkg src b r a v).2 := by
  unfold State.writePkg
  extract_lets x1
  have hx1 : Kept s x1 := h.setF
  split
  · dsimp only
    exact .ite hx1.pwrReq hx1
  · split
    · split
      · dsimp only
        exact h.stOf h.execPkgRstDevice
      · dsimp only
        exact h.dieHolds
    · dsimp only
      exact h.plain

theorem Kept.writeReg {src : Nat} {b : BlkAt} {r : RegRow} {ix : List Nat} {a : Nat} {v : Word} (h : Kept s t) :
    Kept s (t.writeReg src b r ix a v).2 := by
  unfold State.writeReg
  split
  · dsimp only
    exact h.writeVsq
  · dsimp only
    exact h.writeFcu
  · dsimp only
    exact h.writeFcd
  · dsimp only
    exact h.writeRae
  · dsimp only
    exact h.writeMdsp
  · dsimp only
    exact h.writeMemp
  · dsimp only
    exact h.writeVlt
  · dsimp only
    exact h.writeDma
  · dsimp only
    exact h.writeProm
  · dsimp only
    exact h.writeSeam
  · exact h.writeCfg
  · dsimp only
    exact h.writeFab
  · dsimp only
    exact h.writeCc
  · dsimp only
    exact h.writeCc
  · dsimp only
    exact h.writeDbg
  · dsimp only
    exact h.writeMon
  · dsimp only
    exact h.writeBist
  · dsimp only
    exact h.writeDcr
  · dsimp only
    exact h.writeKpr
  · dsimp only
    exact h.writeTsy
  · dsimp only
    exact h.writeLed
  · exact h.writePkg
  · split
    · dsimp only
      exact h.eoi
    · dsimp only
      exact h.plain
  · dsimp only
    exact h.plain
  · dsimp only
    exact h.mdSettleDie.plain
  · dsimp only
    exact h.plain
  · dsimp only
    exact h.plain
  · dsimp only
    exact h.plain

end Sys2Proof.Machine
end

section
/-! The parts of the commands, and the commands, keep the stores canonical: one lemma for each function of
Machine/Bus, Machine/Dma, Machine/Ports, Machine/BusCmd, Machine/Debug, Machine/Rv. -/
namespace Sys2Proof.Machine
variable {s t : State}
set_option Elab.async false

/-! ### Machine/Bus.lean -/

theorem Kept.beforeWrite {a : Nat} {write : Bool} (h : Kept s t) : Kept s (t.beforeWrite a write) := by
  unfold State.beforeWrite
  split
  · exact .ite h.deliver h.deliver
  · exact h.deliver

theorem Kept.regWord {src a : Nat} {write : Bool} {v : Word} {dbg : Bool} {ups : List Ecc} (h : Kept s t) :
    Kept s (t.regWord src a write v dbg ups).2.2 := by
  unfold State.regWord
  extract_lets -underBinder x1
  have hx1 : Kept s x1 := h.beforeWrite
  split
  · dsimp only
    exact hx1
  · extract_lets _ x2 x3 x4 _ x5
    have hx2 : Kept s x2 := hx1.serve
    have hx3 : Kept s x3.2 := hx2.writeReg
    have hx4 : Kept s x4 := hx3
    have hx5 : Kept s x5.2 := hx2.readReg
    split
    · dsimp only
      exact hx1
    · split
      · dsimp only
        exact .ite hx1.pwrErr hx1
      · split
        · dsimp only
          exact hx1
        · split
          · dsimp only
            exact hx4.deliver.noteFalls
          · dsimp only
            exact hx5

theorem Kept.regAccess {src a size : Nat} {write : Bool} {data : List Nat} {dbg : Bool} {ups : List Ecc} (h : Kept s t) :
    Kept s (t.regAccess src a size write data dbg ups).st := by
  unfold State.regAccess
  extract_lets _ x1 x2 _
  have hx1 : Kept s x1.2.2 := h.regWord
  have hx2 : Kept s x2.2.2 := hx1.regWord
  split
  · split
    · dsimp only
      exact hx1
    · dsimp only
      exact hx2
  · dsimp only
    exact h

theorem Kept.g6Masked {src a mask fuel : Nat} {bytes : List Nat} {envs : List G6Env} (h : Kept s t) :
    Kept s (t.g6Masked src a bytes mask envs fuel).2 := by
  induction fuel generalizing t a bytes mask envs with
  | zero => exact h
  | succ n ih =>
    unfold State.g6Masked
    split
    · exact h
    · refine ih ?_
      split
      · exact h.g6Access
      · split
        · exact h
        · exact h.g6Access

theorem Kept.setFp {d : Fin 6} {p : Fin 16} {x : FabPort} (h : Kept s t) : Kept s (t.setFp d p x) := by
  unfold State.setFp
  exact .same h

theorem Kept.targetAccess {d : Fin 6} {p : Fin 16} {off : Nat} {acc : Access} (h : Kept s t) :
    Kept s (t.targetAccess d p off acc).st := by
  unfold State.targetAccess
  extract_lets _ _
  split
  · dsimp only
    exact h.setFp
  · split
    · dsimp only
      exact h
    · split
      · dsimp only
        exact h
      · dsimp only
        exact h.setFp

theorem Kept.remoteAccess {dev off : Nat} {acc : Access} (h : Kept s t) : Kept s (t.remoteAccess dev off acc).st := by
  unfold State.remoteAccess
  split
  · dsimp only
    exact h
  · split
    · dsimp only
      exact .same h
    · dsimp only
      exact .ite h (.same h)

theorem Kept.memAccess {pl : Place} {acc : Access} {envs : List G6Env} (h : Kept s t) : Kept s (t.memAccess pl acc envs).st := by
  unfold State.memAccess
  extract_lets run
  have hrun : ∀ o, KeptOut s o → Kept s (run o).st := fun o ho => h.stOf ho
  split
  · split
    · exact hrun _ h.execInstrRamWrite
    · exact hrun _ h.execInstrRamRead
  · exact hrun _ h.execMdspMemAccess
  · exact h

theorem Kept.memRuns {l : List Access} {envs : List G6Env} {r : BusAns} (h : Kept s r.st) :
    Kept s (l.foldl (fun r x =>
      let n := r.st.memAccess (placeOf x.addr) x envs
      (⟨some ((r.resp.getD .ok).worse (n.resp.getD .ok)), r.data ++ n.data, n.st⟩ : BusAns)) r).st := by
  induction l generalizing r with
  | nil => exact h
  | cons x xs ih => exact ih h.memAccess

theorem Kept.accessAt {acc : Access} {envs : List G6Env} (h : Kept s t) : Kept s (t.accessAt acc envs).st := by
  unfold State.accessAt
  split
  · exact h
  · split
    · exact h.g6Masked
    · exact h.g6ReadBytes
  · exact h.remoteAccess
  · split
    · exact h
    · exact h.regAccess
  · split
    · exact h
    · split
      · exact h
      · split
        · exact h
        · split
          · exact h.targetAccess
          · exact .memRuns h.serve

theorem Kept.unsend {d : Nat} {x : SeamTxn} (h : Kept s t) : Kept s (t.unsend d x) := by
  unfold State.unsend
  exact h.setBridge

theorem Kept.noteServed {d : Nat} {x : SeamTxn} {r : Resp} {data : List Nat} (h : Kept s t) :
    Kept s (t.noteServed d x r data) := by
  unfold State.noteServed
  exact h.setBridge

theorem Kept.returned {d : Nat} {x : SeamTxn} {r : Resp} {data : List Nat} (h : Kept s t) :
    Kept s (t.returned d x r data).st := by
  unfold State.returned
  split
  · dsimp only
    exact h
  · dsimp only
    exact h.unsend.carry

theorem Kept.transact {d : Nat} {x : SeamTxn} {envs : List G6Env} (h : Kept s t) : Kept s (t.transact d x envs).st := by
  unfold State.transact
  split
  · exact h.returned
  · extract_lets x1
    have hx1 : Kept s x1.st := h.accessAt
    split
    · exact hx1
    · split
      · dsimp only
        exact hx1.unsend
      · exact hx1.noteServed.returned

theorem Kept.sendTxn {d : Nat} {x : SeamTxn} (h : Kept s t) : Kept s (t.sendTxn d x) := by
  unfold State.sendTxn
  exact h.setBridge.carry

theorem Kept.bridged {d t' : Nat} {acc : Access} {envs : List G6Env} (h : Kept s t) : Kept s (t.bridged d t' acc envs).st := by
  unfold State.bridged
  split
  · extract_lets x1
    have hx1 : Kept s x1.st := h.accessAt
    split
    · dsimp only
      exact h.unsend
    · split
      · split
        · dsimp only
          exact hx1.unsend
        · exact hx1
      · exact h.transact
  · extract_lets _ _ x2
    have hx2 : Kept s x2.st := h.accessAt
    split
    · split
      · exact hx2
      · dsimp only
        exact hx2.setBridge
    · exact h.sendTxn.transact

theorem Kept.access {acc : Access} {envs : List G6Env} (h : Kept s t) : Kept s (t.access acc envs).st := by
  unfold State.access
  extract_lets x1
  have hx1 : Kept s x1.st := by
    unfold x1
    split
    · exact h.accessAt
    · exact h.accessAt
    · exact h.bridged
  split
  · dsimp only
    exact h
  · split
    · dsimp only
      exact h
    · split
      · exact hx1
      · split
        · dsimp only
          exact hx1.tally
        · exact hx1

theorem Kept.busOut {r : BusAns} (h : Kept s r.st) : KeptOut s (busOut r) := .next h.same

/-! ### Machine/Dma.lean -/

theorem Kept.dmaTake {d : Fin 6} {c : Fin 32} {v : BitVec 256} (h : Kept s t) : Kept s (t.dmaTake d c v) := by
  unfold State.dmaTake
  extract_lets _ x1
  have hx1 : Kept s x1 := h.setDm.wr
  exact .ite hx1.setDmaState.dmaFence hx1.dmaBurst

theorem Kept.execDescFetchDone {d : Fin 6} {c : Fin 32} {envs : List G6Env} (h : Kept s t) :
    KeptOut s (execDescFetchDone d c envs t) := by
  unfold Machine.execDescFetchDone
  extract_lets -underBinder _ x1
  have hx1 : Kept s x1.st := h.access
  split
  · split
    · exact .next hx1
    · extract_lets _
      exact .next (.ite hx1.dmaError hx1.dmaTake)
    · exact .next hx1.dmaError
  · exact .next h

theorem Kept.dmaServed {d : Fin 6} {c : Fin 32} (h : Kept s t) : Kept s (t.dmaServed d c) := by
  unfold State.dmaServed
  extract_lets _
  exact .same h

theorem Kept.issueRead {d : Fin 6} {c : Fin 32} {b : Beat} (h : Kept s t) : Kept s (t.issueRead d c b) := by
  unfold State.issueRead
  extract_lets _
  exact h.setDm

theorem Kept.issueWrite {d : Fin 6} {c : Fin 32} {b : Beat} (h : Kept s t) : Kept s (t.issueWrite d c b) := by
  unfold State.issueWrite
  extract_lets _ _ _ x1 x2 _
  have hx1 : Kept s x1 := h.setDm
  have hx2 : Kept s x2 := hx1.wr.tally
  split
  · exact .dmaSettle (.ite hx2.dmaBit hx2)
  · split
    · exact hx2
    · exact .ite hx2.dmaComplete (.ite hx2.dmaBurst hx2)

theorem Kept.execBeatIssue {d : Fin 6} {wr : Bool} (h : Kept s t) : KeptOut s (execBeatIssue d wr t) := by
  unfold Machine.execBeatIssue
  split
  · exact .next h
  · split
    · exact .next h
    · extract_lets x1
      have hx1 : Kept s x1 := h.dmaServed
      split
      · exact .next hx1.issueRead
      · exact .next hx1.issueWrite
      · exact .next (.ite hx1.issueWrite hx1.issueRead)
      · exact .next h

theorem Kept.dmaAnswer {d : Fin 6} {c : Fin 32} {b : Beat} {r : Resp} {data : List Nat} (h : Kept s t) :
    Kept s (t.dmaAnswer d c b r data) := by
  unfold State.dmaAnswer
  extract_lets _ x1
  have hx1 : Kept s x1 := h.setDm
  exact .ite hx1.dmaError hx1.dmaFence.dmaErrEnd.dmaSettle

theorem Kept.beatAccess {b : Beat} {acc : Access} {envs : List G6Env} (h : Kept s t) : Kept s (t.beatAccess b acc envs).st := by
  unfold State.beatAccess
  extract_lets x1
  have hx1 : Kept s x1.st := h.setRegionMap.access
  split
  · dsimp only
    exact h
  · split
    · exact h.access
    · dsimp only
      exact hx1.setRegionMap

theorem Kept.execReadResponse {d : Fin 6} {c : Fin 32} {envs : List G6Env} (h : Kept s t) :
    KeptOut s (execReadResponse d c envs t) := by
  unfold Machine.execReadResponse
  split
  · exact .next h
  · extract_lets x1
    have hx1 : Kept s x1.st := h.beatAccess
    split
    · exact .next hx1
    · exact .next hx1.dmaAnswer

theorem Kept.execWriteResponse {d : Fin 6} {c : Fin 32} {envs : List G6Env} (h : Kept s t) :
    KeptOut s (execWriteResponse d c envs t) := by
  unfold Machine.execWriteResponse
  split
  · exact .next h
  · extract_lets x1
    have hx1 : Kept s x1.st := h.beatAccess
    split
    · exact .next hx1
    · exact .next hx1.dmaAnswer

/-! ### Machine/Ports.lean -/

theorem Kept.onPort {d : Fin 6} {p : Fin 16} {f : State → State} (h : Kept s t) (hf : ∀ y0, Kept s y0 → Kept s (f y0)) :
    KeptOut s (t.onPort d p f) := by
  unfold State.onPort
  split
  · exact .next h
  · exact .next (hf _ h.at_)

theorem Kept.showOutst {d : Fin 6} {p : Fin 16} (h : Kept s t) : Kept s (t.showOutst d p) := by
  unfold State.showOutst
  exact h.setF

theorem Kept.proto {d : Fin 6} (h : Kept s t) : Kept s (t.proto d) := by
  unfold State.proto
  exact h.raise

theorem Kept.respond {d : Fin 6} {p : Fin 16} {r : FabReq} {e : Resp} {data : List Nat} (h : Kept s t) :
    Kept s (t.respond d p r e data) := by
  unfold State.respond
  extract_lets _ _
  exact h.usedN.setFp

theorem Kept.perform {d : Fin 6} {p : Fin 16} {r : FabReq} {envs : List G6Env} (h : Kept s t) :
    Kept s (t.perform d p r envs) := by
  unfold State.perform
  extract_lets x1
  have hx1 : Kept s x1.st := h.access
  split
  · exact h.respond
  · split
    · exact hx1
    · exact hx1.respond

theorem Kept.portGo {d : Fin 6} {p : Fin 16} {envs : List G6Env} (h : Kept s t) : Kept s (t.portGo d p envs) := by
  unfold State.portGo
  exact .showOutst (.forEach (fun _ _ k1 => k1.perform) h)

theorem Kept.initReq {d : Fin 6} {p : Fin 16} {q : PortReq} {envs : List G6Env} (h : Kept s t) :
    Kept s (t.initReq d p q envs) := by
  unfold State.initReq
  extract_lets _ _
  exact .ite h.setFp.portGo h

theorem Kept.initWdat {d : Fin 6} {p : Fin 16} {data : Line512} {be : BitVec 64} {last : Bool} {envs : List G6Env}
    (h : Kept s t) :
    Kept s (t.initWdat d p data be last envs) := by
  unfold State.initWdat
  extract_lets _
  split
  · split
    · exact h.proto
    · extract_lets _ _ x1
      have hx1 : Kept s x1 := .ite h.proto h
      exact hx1.setFp.portGo
  · exact h

theorem Kept.initRdat {d : Fin 6} {p : Fin 16} {id : Nat} (h : Kept s t) : Kept s (t.initRdat d p id) := by
  unfold State.initRdat
  extract_lets x1 _
  have hx1 : Kept s x1 := h.portGo
  split
  · exact hx1
  · extract_lets _ _
    exact .ite hx1 hx1.setFp.showOutst.answer

theorem Kept.initWrsp {d : Fin 6} {p : Fin 16} {id : Nat} (h : Kept s t) : Kept s (t.initWrsp d p id) := by
  unfold State.initWrsp
  extract_lets x1 _
  have hx1 : Kept s x1 := h.portGo
  split
  · exact hx1
  · exact hx1.setFp.showOutst.answer

theorem Kept.tgtReq {d : Fin 6} {p : Fin 16} {q : PortReq} (h : Kept s t) : Kept s (t.tgtReq d p q) := by
  unfold State.tgtReq
  extract_lets _
  split
  · exact .ite h.setFp h
  · exact h

theorem Kept.tgtWdat {d : Fin 6} {p : Fin 16} (h : Kept s t) : Kept s (t.tgtWdat d p) := by
  unfold State.tgtWdat
  extract_lets _
  split
  · exact h
  · extract_lets _ _
    exact h.setFp.answer

theorem Kept.tgtEnd {d : Fin 6} {p : Fin 16} {r : FabReq} {e : Resp} {bytes : List Nat} (h : Kept s t) :
    Kept s (t.tgtEnd d p r e bytes) := by
  unfold State.tgtEnd
  extract_lets _
  exact h.setFp

theorem Kept.tgtStray {d : Fin 6} {p : Fin 16} {id : Nat} {last : Bool} (h : Kept s t) : Kept s (t.tgtStray d p id last) := by
  unfold State.tgtStray
  extract_lets _
  exact .ite (.raise (.ite h.setFp h)) h.proto

theorem Kept.tgtRdat {d : Fin 6} {p : Fin 16} {id : Nat} {data : Line512} {resp : Nat} {last : Bool} (h : Kept s t) :
    Kept s (t.tgtRdat d p id data resp last) := by
  unfold State.tgtRdat
  extract_lets _
  split
  · exact h.tgtStray
  · extract_lets _ _ _
    exact .ite h.tgtEnd.proto (.ite h.tgtEnd h.setFp)

theorem Kept.tgtWrsp {d : Fin 6} {p : Fin 16} {id resp : Nat} (h : Kept s t) : Kept s (t.tgtWrsp d p id resp) := by
  unfold State.tgtWrsp
  extract_lets _
  split
  · exact h.tgtStray
  · split
    · exact h.tgtEnd.proto
    · exact .ite h.tgtEnd h.tgtEnd.proto

theorem Kept.execPortReq {d : Fin 6} {p : Fin 16} {side : PortSide} {q : PortReq} {envs : List G6Env} (h : Kept s t) :
    KeptOut s (execPortReq d p side q envs t) := by
  unfold Machine.execPortReq
  split
  · exact h.onPort (fun _ k1 => k1.initReq)
  · exact h.onPort (fun _ k2 => k2.tgtReq)

theorem Kept.execPortWdat {d : Fin 6} {p : Fin 16} {side : PortSide} {data : Line512} {be : BitVec 64} {last : Bool}
    {envs : List G6Env} (h : Kept s t) :
    KeptOut s (execPortWdat d p side data be last envs t) := by
  unfold Machine.execPortWdat
  split
  · exact h.onPort (fun _ k1 => k1.initWdat)
  · exact h.onPort (fun _ k2 => k2.tgtWdat)

theorem Kept.execPortRdat {d : Fin 6} {p : Fin 16} {side : PortSide} {id : BitVec 8} {data : Line512} {resp : BitVec 3}
    {last : Bool} (h : Kept s t) :
    KeptOut s (execPortRdat d p side id data resp last t) := by
  unfold Machine.execPortRdat
  split
  · exact h.onPort (fun _ k1 => k1.initRdat)
  · exact h.onPort (fun _ k2 => k2.tgtRdat)

theorem Kept.execPortWrsp {d : Fin 6} {p : Fin 16} {side : PortSide} {id : BitVec 8} {resp : BitVec 3} (h : Kept s t) :
    KeptOut s (execPortWrsp d p side id resp t) := by
  unfold Machine.execPortWrsp
  split
  · exact h.onPort (fun _ k1 => k1.initWrsp)
  · exact h.onPort (fun _ k2 => k2.tgtWrsp)

/-! ### Machine/BusCmd.lean -/

theorem Kept.execLatchRead {src : BitVec 10} {addr : BitVec 48} {size : Nat} {dbg : Bool} {envs : List G6Env} (h : Kept s t) :
    KeptOut s (execLatchRead src addr size dbg envs t) := by
  unfold Machine.execLatchRead
  exact h.access.busOut

theorem Kept.execRegisterWrite {src : BitVec 10} {addr : BitVec 48} {data : List Nat} {dbg : Bool} {envs : List G6Env}
    (h : Kept s t) :
    KeptOut s (execRegisterWrite src addr data dbg envs t) := by
  unfold Machine.execRegisterWrite
  exact h.access.busOut

theorem Kept.setBar4Word {o : Nat} {v : Word} (h : Kept s t) : Kept s (t.setBar4Word o v) := by
  unfold State.setBar4Word
  extract_lets _ _ _
  exact .ite (.same h) h

theorem Kept.aerNote {r : Resp} (h : Kept s t) : Kept s (t.aerNote r) := by
  unfold State.aerNote
  extract_lets _
  split
  · exact h
  · exact .same h
  · exact .same h

theorem Kept.pcieEnd {write : Bool} {r : Resp} {data : List Nat} (h : Kept s t) : Kept s (t.pcieEnd write r data) := by
  unfold State.pcieEnd
  extract_lets x1
  have hx1 : Kept s x1 := h.aerNote
  exact .ite (.same hx1) h.answer

theorem Kept.bar4 {o : Nat} {write : Bool} {size : Nat} {data : List Nat} (h : Kept s t) : Kept s (t.bar4 o write size data) := by
  unfold State.bar4
  extract_lets x1 x2
  have hx1 : Kept s x1 := h.setBar4Word
  have hx2 : Kept s x2 := .ite hx1.setBar4Word hx1
  exact .ite (.ite hx2.flushPending.pcieEnd h.pcieEnd) h.pcieEnd

theorem Kept.execPcieInbound {bar : Fin 3} {off : Nat} {write : Bool} {size : Nat} {data : List Nat} {envs : List G6Env}
    (h : Kept s t) :
    KeptOut s (execPcieInbound bar off write size data envs t) := by
  unfold Machine.execPcieInbound
  split
  · exact .next h.bar4
  · split
    · exact .next h.pcieEnd
    · extract_lets -underBinder x1
      have hx1 : Kept s x1.st := h.access
      split
      · extract_lets x2
        have hx2 : Kept s x2 := hx1
        exact .next (.same hx2)
      · exact .next hx1.pcieEnd

theorem Kept.remoteFlits {dev : Nat} {a : Access} (h : Kept s t) : Kept s (t.remoteFlits dev a) := by
  unfold State.remoteFlits
  split
  · exact h
  · exact h.used.putFlits

theorem Kept.remoteSend {a : Access} {resp : Resp} {data : List Nat} (h : Kept s t) : Kept s (t.remoteSend a resp data) := by
  unfold State.remoteSend
  split
  · split
    · exact h.answer
    · extract_lets x1
      have hx1 : Kept s x1 := h.emit.remoteFlits
      exact .ite (.same hx1) hx1.answer
  · exact h.answer

theorem Kept.remoteRecv {off : Nat} {a : Access} {envs : List G6Env} (h : Kept s t) : KeptOut s (t.remoteRecv off a envs) := by
  unfold State.remoteRecv
  split
  · exact .next h.answer
  · exact h.access.busOut

theorem Kept.execRemoteTransaction {op : RemoteOp} (h : Kept s t) : KeptOut s (execRemoteTransaction op t) := by
  unfold Machine.execRemoteTransaction
  split
  · exact .next h.remoteSend
  · exact h.remoteRecv

theorem Kept.timeoutWaits {src addr : Nat} (h : Kept s t) : Kept s (t.timeoutWaits src addr) := by
  unfold State.timeoutWaits
  extract_lets _ x1
  have hx1 : Kept s x1 := .same h
  split
  · exact .same hx1
  · exact hx1

theorem Kept.dropAnswer {src addr : Nat} (h : Kept s t) : Kept s (t.dropAnswer src addr) := by
  unfold State.dropAnswer
  extract_lets _ x1
  have hx1 : Kept s x1 := h.setBridge
  exact .same hx1

theorem Kept.timeoutDma {d : Fin 6} {src addr : Nat} (h : Kept s t) : Kept s (t.timeoutDma d src addr) := by
  unfold State.timeoutDma
  split
  · exact h
  · split
    · exact h
    · exact h.dropAnswer.dmaAnswer

theorem Kept.timeoutFabric {d : Fin 6} {src addr : Nat} (h : Kept s t) : Kept s (t.timeoutFabric d src addr) := by
  unfold State.timeoutFabric
  split
  · extract_lets -underBinder _ _
    split
    · exact h
    · extract_lets x1 _ _ x2
      have hx1 : Kept s x1 := h.dropAnswer
      have hx2 : Kept s x2 := hx1.setFp
      exact hx2.usedN.showOutst
  · exact h

theorem Kept.execTransactionTimeout {d : Fin 6} {src : BitVec 10} {addr : BitVec 48} (h : Kept s t) :
    KeptOut s (execTransactionTimeout d src addr t) := by
  unfold Machine.execTransactionTimeout
  extract_lets x1 x2 x3 x4 x5 x6 _ x7 x8
  have hx1 : Kept s x1 := by
    unfold x1
    split
    · exact h
    · exact h.at_
  have hx2 : Kept s x2 := hx1.setBridge
  have hx3 : Kept s x3 := hx2.bump
  have hx4 : Kept s x4 := hx3.wr
  have hx5 : Kept s x5 := hx4.wrPair
  have hx6 : Kept s x6 := hx5.raise.tally
  have hx7 : Kept s x7 := .same hx6
  have hx8 : Kept s x8 := hx7.timeoutWaits.timeoutDma
  exact .next hx8.timeoutFabric.answer

theorem Kept.execLateResponse {d : Fin 6} {src : BitVec 10} {addr : BitVec 48} (h : Kept s t) :
    KeptOut s (execLateResponse d src addr t) := by
  unfold Machine.execLateResponse
  extract_lets _ x1
  have hx1 : Kept s x1 := .same h
  exact .ite (.next hx1.raise) (.next h)

/-! ### Machine/Debug.lean -/

theorem Kept.modTap {f : Tap → Tap} (h : Kept s t) : Kept s (t.modTap f) := by
  unfold State.modTap
  exact .same h

theorem Kept.tapBypass (h : Kept s t) : Kept s t.tapBypass := by
  unfold State.tapBypass
  exact h.modTap

theorem Kept.tapSelect {ir : BitVec 6} {f : State → State} (h : Kept s t) (hf : ∀ y0, Kept s y0 → Kept s (f y0)) :
    Kept s (t.tapSelect ir f) := by
  unfold State.tapSelect
  exact .ite (hf _ h.modTap) h.tapBypass

theorem Kept.boundaryShift {bits : Nat} (h : Kept s t) : Kept s (t.boundaryShift bits) := by
  unfold State.boundaryShift
  exact h.modTap.used

theorem Kept.execExtest {bits : Nat} (h : Kept s t) : KeptOut s (execExtest bits t) := by
  unfold Machine.execExtest
  exact .next (h.tapSelect (fun _ k1 => k1.boundaryShift))

theorem Kept.execSamplePreload {bits : Nat} (h : Kept s t) : KeptOut s (execSamplePreload bits t) := by
  unfold Machine.execSamplePreload
  exact .next (h.tapSelect (fun _ k1 => k1.boundaryShift))

theorem Kept.execIdcode (h : Kept s t) : KeptOut s (execIdcode t) := by
  unfold Machine.execIdcode
  exact .next (h.tapSelect (fun _ k1 => k1.modTap))

theorem Kept.execBypass (h : Kept s t) : KeptOut s (execBypass t) := by
  unfold Machine.execBypass
  exact .next h.tapBypass

theorem Kept.execDbgauth (h : Kept s t) : KeptOut s (execDbgauth t) := by
  unfold Machine.execDbgauth
  exact .next (h.tapSelect (fun _ k1 => k1.modTap))

theorem Kept.tapOpen {e : Resp} (h : Kept s t) : Kept s (t.tapOpen e) := by
  unfold State.tapOpen
  exact h.modTap.used

theorem Kept.dbgOp {a : Access} {envs : List G6Env} (h : Kept s t) : Kept s (t.dbgOp a envs) := by
  unfold State.dbgOp
  extract_lets x1
  have hx1 : Kept s x1.st := h.access
  split
  · exact hx1.modTap
  · exact .ite hx1.modTap hx1.tapOpen

theorem Kept.dbgPoll (h : Kept s t) : Kept s t.dbgPoll := by
  unfold State.dbgPoll
  split
  · exact h
  · exact h.dbgOp

theorem Kept.dbgCapture {busy : Bool} (h : Kept s t) : Kept s (t.dbgCapture busy) := by
  unfold State.dbgCapture
  extract_lets x1 _ _ _ _ x2
  have hx1 : Kept s x1 := h.dbgPoll
  have hx2 : Kept s x2 := hx1.modTap
  exact .ite hx2.used hx2

theorem Kept.execDbgacc {busy : Bool} (h : Kept s t) : KeptOut s (execDbgacc busy t) := by
  unfold Machine.execDbgacc
  exact .next (h.tapSelect (fun _ k1 => k1.dbgCapture))

theorem Kept.dbgUpdate {addr : BitVec 48} {inc busy write : Bool} {data : Word} {envs : List G6Env} (h : Kept s t) :
    Kept s (t.dbgUpdate addr inc busy write data envs) := by
  unfold State.dbgUpdate
  extract_lets x1 _ x2
  have hx1 : Kept s x1 := h.dbgPoll
  have hx2 : Kept s x2 := hx1.modTap
  exact .ite hx1.modTap (.ite (.ite hx2.dbgOp hx2.tapOpen) hx2.dbgOp)

theorem Kept.execDbgaccRead {addr : BitVec 48} {inc busy : Bool} {envs : List G6Env} (h : Kept s t) :
    KeptOut s (execDbgaccRead addr inc busy envs t) := by
  unfold Machine.execDbgaccRead
  exact .next (h.tapSelect (fun _ k1 => k1.dbgUpdate))

theorem Kept.execDbgaccWrite {addr : BitVec 48} {data : Word} {inc busy : Bool} {envs : List G6Env} (h : Kept s t) :
    KeptOut s (execDbgaccWrite addr data inc busy envs t) := by
  unfold Machine.execDbgaccWrite
  exact .next (h.tapSelect (fun _ k1 => k1.dbgUpdate))

/-! ### Machine/Rv.lean -/

theorem Kept.putCsr {m : Fin 12} {n v : Nat} (h : Kept s t) : Kept s (t.putCsr m n v) := by
  unfold State.putCsr
  exact h.modCr

theorem Kept.trap {m : Fin 12} {irq : Bool} {code tval : Nat} (h : Kept s t) : Kept s (t.trap m irq code tval) := by
  unfold State.trap
  extract_lets _ _ _ _ x1 x2 x3 x4 _
  have hx1 : Kept s x1 := h.putCsr
  have hx2 : Kept s x2 := hx1.putCsr
  have hx3 : Kept s x3 := hx2.putCsr
  have hx4 : Kept s x4 := hx3.putCsr
  exact hx4.modCr

theorem Kept.mret {m : Fin 12} (h : Kept s t) : Kept s (t.mret m) := by
  unfold State.mret
  extract_lets _ _ _ x1
  have hx1 : Kept s x1 := h.putCsr
  exact hx1.modCr

theorem Kept.bpHalt {m : Fin 12} {b : Nat} (h : Kept s t) : Kept s (t.bpHalt m b) := by
  unfold State.bpHalt
  exact h.setF.haltCore

theorem Kept.l2Put {d : Fin 6} {n : Nat} {x : Line512 × Bool} (h : Kept s t) : Kept s (t.l2Put d n x) := by
  unfold State.l2Put
  extract_lets _
  exact h.setL2

theorem Kept.l2Evict {m : Fin 12} {n : Nat} {env : G6Env} (h : Kept s t) : Kept s (t.l2Evict m n env) := by
  unfold State.l2Evict
  extract_lets -underBinder _
  split
  · exact h
  · extract_lets x1 _ x2 _
    have hx1 : Kept s x1 := .ite h.g6Access h
    have hx2 : Kept s x2 := hx1.setL2
    exact hx2.modCr.modCr

theorem Kept.l2Room {m : Fin 12} (h : Kept s t) : Kept s (t.l2Room m) := by
  unfold State.l2Room
  extract_lets _
  split
  · exact h
  · split
    · exact h
    · exact h.used.l2Evict

theorem Kept.l2Fill {m : Fin 12} {n : Nat} {env : G6Env} (h : Kept s t) : Kept s (t.l2Fill m n env).2 := by
  unfold State.l2Fill
  split
  · dsimp only
    exact h
  · extract_lets x1
    have hx1 : Kept s x1.st := h.tally.g6Access
    dsimp only
    exact .ite hx1.l2Room.l2Put hx1

theorem Kept.l1dTouch {m : Fin 12} {n : Nat} (h : Kept s t) : Kept s (t.l1dTouch m n) := by
  unfold State.l1dTouch
  extract_lets _ _ x1
  have hx1 : Kept s x1 := .ite h h.used
  exact .ite h hx1.tally.modCr

theorem Kept.l1iPut {m : Fin 12} {n : Nat} {line : Line512} (h : Kept s t) : Kept s (t.l1iPut m n line) := by
  unfold State.l1iPut
  extract_lets _ _
  exact .ite h.modCr h.used.modCr

theorem Kept.l2Write {m : Fin 12} {a size v : Nat} (h : Kept s t) : Kept s (t.l2Write m a size v) := by
  unfold State.l2Write
  extract_lets -underBinder _
  split
  · exact h
  · extract_lets _ _ x1
    have hx1 : Kept s x1 := h.l2Put
    exact .ite hx1.modCr hx1

theorem Kept.evictAll {m : Fin 12} {l : List Nat} {envs : List G6Env} (h : Kept s t) : Kept s (t.evictAll m l envs) := by
  induction l generalizing t envs with
  | nil => exact h
  | cons e l ih => exact ih (.ite h.l2Evict (.ite h.modCr h.modCr))

theorem Kept.coreLoad {m : Fin 12} {a size : Nat} {envs : List G6Env} (h : Kept s t) : Kept s (t.coreLoad m a size envs).2 := by
  unfold State.coreLoad
  split
  · dsimp only
    exact h
  · extract_lets x1 x2
    have hx1 : Kept s x1.2 := h.l2Fill
    have hx2 : Kept s x2.st := h.access
    split
    · split
      · dsimp only
        exact hx1.l1dTouch
      · dsimp only
        exact hx1
    · split
      · dsimp only
        exact hx2
      · dsimp only
        exact hx2
      · dsimp only
        exact hx2

theorem Kept.pollPosted {m : Fin 12} (h : Kept s t) : Kept s (t.pollPosted m) := by
  unfold State.pollPosted
  refine .forEach (fun _ _ k2 => ?_) h
  extract_lets x3
  have hx3 : Kept s x3.st := k2.access
  split
  · exact hx3
  · exact hx3.modCr

theorem Kept.coreStore {m : Fin 12} {a size v : Nat} {envs : List G6Env} (h : Kept s t) :
    Kept s (t.coreStore m a size v envs).2 := by
  unfold State.coreStore
  split
  · dsimp only
    exact h
  · extract_lets x1 _ x2
    have hx1 : Kept s x1.2 := h.l2Fill
    have hx2 : Kept s x2.st := h.access
    split
    · split
      · dsimp only
        exact hx1.l2Write
      · dsimp only
        exact hx1
    · split
      · dsimp only
        exact h
      · split
        · dsimp only
          exact hx2.modCr
        · dsimp only
          exact hx2
        · dsimp only
          exact hx2.modCr

theorem Kept.uncachedAmo {m : Fin 12} {a size : Nat} {f : Nat → Nat} {envs : List G6Env} (h : Kept s t) :
    Kept s (t.uncachedAmo m a size f envs).2 := by
  unfold State.uncachedAmo
  extract_lets _ x1
  have hx1 : Kept s x1.st := h.access
  split
  · split
    · dsimp only
      exact hx1
    · dsimp only
      exact hx1
    · dsimp only
      exact hx1
  · dsimp only
    exact h

theorem Kept.coreLr {m : Fin 12} {a size : Nat} {envs : List G6Env} (h : Kept s t) : Kept s (t.coreLr m a size envs).2 := by
  unfold State.coreLr
  split
  · dsimp only
    exact h
  · extract_lets x1
    have hx1 : Kept s x1.2 := h.l2Fill
    split
    · split
      · dsimp only
        exact hx1.l1dTouch.modCr
      · dsimp only
        exact hx1
    · dsimp only
      exact h

theorem Kept.coreSc {m : Fin 12} {a size v : Nat} {envs : List G6Env} (h : Kept s t) : Kept s (t.coreSc m a size v envs).2 := by
  unfold State.coreSc
  split
  · dsimp only
    exact h
  · extract_lets _ x1 x2
    have hx1 : Kept s x1 := h.modCr
    have hx2 : Kept s x2.2 := hx1.l2Fill
    split
    · split
      · split
        · dsimp only
          exact hx2.l2Write
        · dsimp only
          exact hx2
      · dsimp only
        exact hx1
    · dsimp only
      exact h

theorem Kept.coreAmo {m : Fin 12} {a size : Nat} {f : Nat → Nat} {envs : List G6Env} (h : Kept s t) :
    Kept s (t.coreAmo m a size f envs).2 := by
  unfold State.coreAmo
  split
  · dsimp only
    exact h
  · extract_lets x1 _
    have hx1 : Kept s x1.2 := h.l2Fill
    split
    · split
      · dsimp only
        exact hx1.l1dTouch.l2Write
      · dsimp only
        exact hx1
    · exact h.uncachedAmo

theorem Kept.fetchHalf {m : Fin 12} {a : Nat} {env : G6Env} (h : Kept s t) : Kept s (t.fetchHalf m a env).2 := by
  unfold State.fetchHalf
  extract_lets -underBinder x1
  have hx1 : Kept s x1.st := h.access
  split
  · dsimp only
    exact h
  · split
    · split
      · dsimp only
        exact h
      · extract_lets x2 _ x3
        have hx2 : Kept s x2.2 := h.l2Fill
        have hx3 : Kept s x3 := hx2.l1iPut
        split
        · dsimp only
          exact hx3
        · dsimp only
          exact hx2
    · dsimp only
      exact hx1

theorem Kept.fetchRv {m : Fin 12} {envs : List G6Env} (h : Kept s t) : Kept s (t.fetchRv m envs).2 := by
  unfold State.fetchRv
  extract_lets -underBinder _ x1
  have hx1 : Kept s x1.2 := h.fetchHalf
  split
  · dsimp only
    exact h
  · split
    · dsimp only
      exact hx1
    · extract_lets x2
      have hx2 : Kept s x2.2 := hx1.fetchHalf
      split
      · split
        · dsimp only
          exact hx2
        · dsimp only
          exact hx2
      · dsimp only
        exact hx1

theorem Kept.instret {m : Fin 12} (h : Kept s t) : Kept s (t.instret m) := by
  unfold State.instret
  exact .ite h h.modCr

theorem Kept.retiredEvent {m : Fin 12} (h : Kept s t) : Kept s (t.retiredEvent m) := by
  unfold State.retiredEvent
  exact h.tally

theorem Kept.retired {m : Fin 12} {count : Bool} (h : Kept s t) : Kept s (t.retired m count) := by
  unfold State.retired
  exact .ite h.retiredEvent.instret h.retiredEvent

theorem Kept.goes {m : Fin 12} {pc : BitVec 64} {rd : Nat} {v : BitVec 64} (h : Kept s t) : Kept s (t.goes m pc rd v) := by
  unfold State.goes
  exact h.modCr

theorem Kept.csrInstr {m : Fin 12} {f3 rd src n : Nat} {next : BitVec 64} (h : Kept s t) :
    KeptOpt s (t.csrInstr m f3 rd src n next) := by
  unfold State.csrInstr
  extract_lets _ _ _ _ _ x1 x2 x3
  have hx1 : Kept s x1 := .ite h.csrTouch h
  have hx2 : Kept s x2 := hx1.retired
  have hx3 : Kept s x3 := .ite hx2.modCr hx2
  split
  · exact .some hx3.goes
  · exact .none

theorem Kept.memEnd {r : MemRes × State} {m : Fin 12} {pre : Core} {bits tval : Nat} {k : Nat → State → State} (h : Kept s r.2)
    (hk : ∀ v u, Kept s u → Kept s (k v u)) : Kept s (State.memEnd r m pre bits tval k) := by
  unfold State.memEnd
  split
  · exact hk _ _ h
  · exact h.modCr.trap
  · exact h.modCr
  · exact h.modCr.bpHalt

theorem Kept.ahead {m : Fin 12} {next : BitVec 64} (h : Kept s t) : Kept s (t.ahead m next) := by
  unfold State.ahead
  exact h.instret.goes

theorem Kept.wfi {m : Fin 12} {next : BitVec 64} (h : Kept s t) : Kept s (t.wfi m next) := by
  unfold State.wfi
  extract_lets x1
  have hx1 : Kept s x1 := h.retired.goes
  exact .ite hx1.setCc hx1

theorem Kept.execRv {m : Fin 12} {bits : Nat} {envs : List G6Env} (h : Kept s t) : Kept s (t.execRv m bits envs) := by
  unfold State.execRv
  extract_lets -underBinder _ _ _ _ x1 x2 _ _
  have hx1 : ∀ y0 y1, Kept s (x1 y0 y1) := by
    intro y0 y1
    unfold x1
    exact h.retired.goes
  have hx2 : Kept s x2 := h.trap
  split
  · exact hx1 _ _
  · exact hx1 _ _
  · exact h.retired.goes
  · exact h.retired.goes
  · exact h.retired.goes
  · extract_lets _
    exact h.coreLoad.memEnd (fun _ _ k3 => k3.retired.goes)
  · extract_lets _ x4
    have hx4 : Kept s x4 := h.pollPosted
    exact hx4.ahead.coreStore.memEnd (fun _ _ k5 => k5.retiredEvent)
  · exact hx1 _ _
  · exact hx1 _ _
  · extract_lets x6
    have hx6 : Kept s x6 := h.pollPosted
    exact .ite (hx1 _ _) (.ite hx6.retired.goes hx6.modCr)
  · exact (hx1 _ _).modCr
  · exact h.trap
  · exact .ite h.goes.haltCore h.trap
  · exact .ite h.retired.mret hx2
  · exact .ite hx2 h.wfi
  · exact .getD h.csrInstr hx2
  · extract_lets _
    exact h.coreLr.memEnd (fun _ _ k7 => k7.retired.goes)
  · extract_lets _
    exact h.coreSc.memEnd (fun _ _ k8 => k8.retired.goes)
  · extract_lets _ _
    exact h.coreAmo.memEnd (fun _ _ k9 => k9.retired.goes)
  · exact hx2

theorem Kept.wfiEnds {m : Fin 12} (h : Kept s t) : Kept s (t.wfiEnds m) := by
  unfold State.wfiEnds
  exact .ite h.setCc h

theorem Kept.coreEnd {m : Fin 12} {stepped : Bool} (h : Kept s t) : Kept s (t.coreEnd m stepped) := by
  unfold State.coreEnd
  split
  · exact h
  · split
    · exact h.haltCore.modCr
    · exact .ite h.haltCore h

theorem Kept.runNext {m : Fin 12} {evict : List Nat} {envs : List G6Env} (h : Kept s t) : Kept s (t.runNext m evict envs) := by
  unfold State.runNext
  extract_lets -underBinder x1 _
  have hx1 : Kept s x1 := h.evictAll
  split
  · exact hx1.modCr.execRv
  · extract_lets x2
    have hx2 : Kept s x2.2 := hx1.fetchRv
    split
    · exact hx1
    · exact hx2.trap
    · exact hx2.execRv

theorem Kept.coreStep {m : Fin 12} {evict : List Nat} {envs : List G6Env} (h : Kept s t) : Kept s (t.coreStep m evict envs) := by
  unfold State.coreStep
  extract_lets u irq
  have hu : Kept s u := h.wfiEnds
  clear_value irq
  split
  · exact hu
  · split
    · exact hu.runNext.coreEnd
    · cases irq with
      | some code => exact hu.trap.coreEnd
      | none =>
        dsimp only
        split
        · exact hu.bpHalt
        · exact hu.runNext.coreEnd

theorem Kept.execCoreInstruction {m : Fin 12} {evict : List Nat} {envs : List G6Env} (h : Kept s t) :
    KeptOut s (execCoreInstruction m evict envs t) := by
  unfold Machine.execCoreInstruction
  exact .next h.coreStep

theorem Kept.execPostedWriteError {m : Fin 12} (h : Kept s t) : KeptOut s (execPostedWriteError m t) := by
  unfold Machine.execPostedWriteError
  extract_lets x1
  have hx1 : Kept s x1 := h.pollPosted
  split
  · exact .next hx1
  · extract_lets x2 x3
    have hx2 : Kept s x2 := hx1.modCr
    have hx3 : Kept s x3 := hx2.wr.wr
    exact .next hx3.ccCause

theorem Kept.execCoreFence {m : Fin 12} {evict : List Nat} {envs : List G6Env} (h : Kept s t) :
    KeptOut s (execCoreFence m evict envs t) := by
  unfold Machine.execCoreFence
  split
  · exact .next h.coreStep
  · exact .next h

theorem Kept.execCoreAmo {m : Fin 12} {evict : List Nat} {envs : List G6Env} (h : Kept s t) :
    KeptOut s (execCoreAmo m evict envs t) := by
  unfold Machine.execCoreAmo
  split
  · exact .next h.coreStep
  · exact .next h.coreStep
  · exact .next h.coreStep
  · exact .next h

theorem Kept.execEbreak {m : Fin 12} {evict : List Nat} {envs : List G6Env} (h : Kept s t) :
    KeptOut s (execEbreak m evict envs t) := by
  unfold Machine.execEbreak
  split
  · exact .next h.coreStep
  · exact .next h

end Sys2Proof.Machine
end

section
/-! The parts of the commands, and the commands, keep the stores canonical: one lemma for each function of
Machine/Dispatch. -/
namespace Sys2Proof.Machine
variable {s t : State}
set_option Elab.async false

/-! ### Machine/Dispatch.lean -/

theorem Kept.exec {i : Instr} (h : Kept s t) : KeptOut s (exec i t) := by
  unfold Machine.exec
  cases i with
  | pwNext => exact h.execPwNext
  | pwJmp => exact h.execPwJmp
  | pwJc => exact h.execPwJc
  | pwCall => exact h.execPwCall
  | pwRet => exact h.execPwRet
  | pwLbeg => exact h.execPwLbeg
  | pwLend => exact h.execPwLend
  | pwRpt => exact h.execPwRpt
  | pwMatch => exact h.execPwMatch
  | pwSync => exact h.execPwSync
  | pwEsc => exact h.execPwEsc
  | pwTrig => exact h.execPwTrig
  | pwSeta => exact h.execPwSeta
  | pwStreamEnter => exact h.execPwStreamEnter
  | pwStreamExit => exact h.execPwStreamExit
  | pwStreamArm => exact h.execPwStreamArm
  | pwPause => exact h.execPwPause
  | pwHalt => exact h.execPwHalt
  | jcDecision => exact h.execJcDecision
  | matchDecision => exact h.execMatchDecision
  | syncRelease => exact h.execSyncRelease
  | gangLost => exact h.execGangLost
  | escapeExpiry => exact h.execEscapeExpiry
  | vectorStart => exact h.execVectorStart
  | streamFetch => exact h.execStreamFetch
  | vsqStart => exact h.execVsqStart
  | vsqArmedStart => exact h.execVsqArmedStart
  | vsqAbort => exact h.execVsqAbort
  | vsqResume => exact h.execVsqResume
  | sctrlArm => exact h.execSctrlArm
  | sctrlDisarm => exact h.execSctrlDisarm
  | vcntLoRead => exact h.execVcntLoRead
  | instrRamRead => exact h.execInstrRamRead
  | instrRamWrite => exact h.execInstrRamWrite
  | groupFenceStop => exact h.execGroupFenceStop
  | groupRelease => exact h.execGroupRelease
  | calTrim => exact h.execCalTrim
  | trimEnd => exact h.execTrimEnd
  | tdriftCheck => exact h.execTdriftCheck
  | edgeStamp => exact h.execEdgeStamp
  | stampLoRead => exact h.execStampLoRead
  | stampHiRead => exact h.execStampHiRead
  | stampFlush => exact h.execStampFlush
  | fabricDataWord => exact h.execFabricDataWord
  | fabricDataTake => exact h.execFabricDataTake
  | failPortWord => exact h.execFailPortWord
  | siteMaskArrive => exact h.execSiteMaskArrive
  | fcdSmaskWrite => exact h.execFcdSmaskWrite
  | clrsmask => exact h.execClrsmask
  | clrsite => exact h.execClrsite
  | clrcnt => exact h.execClrcnt
  | lreset => exact h.execLreset
  | creset => exact h.execCreset
  | counterRead => exact h.execCounterRead
  | logRecordEnter => exact h.execLogRecordEnter
  | logTake => exact h.execLogTake
  | logWriteDone => exact h.execLogWriteDone
  | captureEnter => exact h.execCaptureEnter
  | captureTake => exact h.execCaptureTake
  | captureWriteDone => exact h.execCaptureWriteDone
  | lineUpdateEnter => exact h.execLineUpdateEnter
  | catchTake => exact h.execCatchTake
  | orWriteDone => exact h.execOrWriteDone
  | bmflush => exact h.execBmflush
  | flushDone => exact h.execFlushDone
  | bmclr => exact h.execBmclr
  | raeFeedEnter => exact h.execRaeFeedEnter
  | sigdone => exact h.execSigdone
  | raeIntake => exact h.execRaeIntake
  | missDone => exact h.execMissDone
  | solveAll => exact h.execSolveAll
  | solveSite => exact h.execSolveSite
  | clearAll => exact h.execClearAll
  | clearSite => exact h.execClearSite
  | raeCmdStart => exact h.execRaeCmdStart
  | clearDone => exact h.execClearDone
  | domainSolve => exact h.execDomainSolve
  | resultWriteDone => exact h.execResultWriteDone
  | mdNop => exact h.execMdNop
  | mdCmpy => exact h.execMdCmpy
  | mdCmac => exact h.execMdCmac
  | mdCmsu => exact h.execMdCmsu
  | mdDmpy => exact h.execMdDmpy
  | mdDmac => exact h.execMdDmac
  | mdDmsu => exact h.execMdDmsu
  | mdCadd => exact h.execMdCadd
  | mdCld => exact h.execMdCld
  | mdClr => exact h.execMdClr
  | mdBadd => exact h.execMdBadd
  | mdBexp => exact h.execMdBexp
  | mdExp => exact h.execMdExp
  | mdNorm => exact h.execMdNorm
  | mdAsh => exact h.execMdAsh
  | mdRnd => exact h.execMdRnd
  | mdHalt => exact h.execMdHalt
  | mdJmp => exact h.execMdJmp
  | mdJcc => exact h.execMdJcc
  | mdCall => exact h.execMdCall
  | mdRet => exact h.execMdRet
  | mdRep => exact h.execMdRep
  | mdRepr => exact h.execMdRepr
  | mdLdi => exact h.execMdLdi
  | mdMove => exact h.execMdMove
  | mdLd => exact h.execMdLd
  | mdSt => exact h.execMdSt
  | mdSrm => exact h.execMdSrm
  | mdWaite => exact h.execMdWaite
  | mdSig => exact h.execMdSig
  | mdHinc => exact h.execMdHinc
  | mdspStart => exact h.execMdspStart
  | mdspStop => exact h.execMdspStop
  | mdspEvset => exact h.execMdspEvset
  | mdspTrigEvent => exact h.execMdspTrigEvent
  | waitWake => exact h.execWaitWake
  | mdspMemAccess => exact h.execMdspMemAccess
  | frameLaunch => exact h.execFrameLaunch
  | frameReceive => exact h.execFrameReceive
  | slotPtb => exact h.execSlotPtb
  | slotCond => exact h.execSlotCond
  | slotDecide => exact h.execSlotDecide
  | slotSarr => exact h.execSlotSarr
  | slotSrel => exact h.execSlotSrel
  | slotStart => exact h.execSlotStart
  | slotLost => exact h.execSlotLost
  | slotGcfg => exact h.execSlotGcfg
  | slotCal => exact h.execSlotCal
  | slotCalr => exact h.execSlotCalr
  | flitRetry => exact h.execFlitRetry
  | linkdn => exact h.execLinkdn
  | portEnable => exact h.execPortEnable
  | trainEnd => exact h.execTrainEnd
  | calEnd => exact h.execCalEnd
  | hopRecal => exact h.execHopRecal
  | bcastGo => exact h.execBcastGo
  | gangLocalResult => exact h.execGangLocalResult
  | gangCombine => exact h.execGangCombine
  | decisionHandoff => exact h.execDecisionHandoff
  | failover => exact h.execFailover
  | ptofsStep => exact h.execPtofsStep
  | takeover => exact h.execTakeover
  | ledCommit => exact h.execLedCommit
  | mirrorRecord => exact h.execMirrorRecord
  | mirrorAck => exact h.execMirrorAck
  | mirrorNak => exact h.execMirrorNak
  | matelost => exact h.execMatelost
  | pairing => exact h.execPairing
  | fcsEnable => exact h.execFcsEnable
  | fcsLock => exact h.execFcsLock
  | portReq => exact h.execPortReq
  | portWdat => exact h.execPortWdat
  | portRdat => exact h.execPortRdat
  | portWrsp => exact h.execPortWrsp
  | fabricIrqEdge => exact h.execFabricIrqEdge
  | bankSupplyChange => exact h.execBankSupplyChange
  | seamRetrain => exact h.execSeamRetrain
  | seamFence => exact h.execSeamFence
  | attemptEnd => exact h.execAttemptEnd
  | laneFail => exact h.execLaneFail
  | seamFlitRetry => exact h.execSeamFlitRetry
  | fabRelease => exact h.execFabRelease
  | fencePublish => exact h.execFencePublish
  | dieIsolated => exact h.execDieIsolated
  | bootSearch => exact h.execBootSearch
  | cfgDataWrite => exact h.execCfgDataWrite
  | fwrite => exact h.execFwrite
  | dcrc => exact h.execDcrc
  | dend => exact h.execDend
  | cmdNop => exact h.execCmdNop
  | legEnd => exact h.execLegEnd
  | dieAbsentTimeout => exact h.execDieAbsentTimeout
  | lockStep => exact h.execLockStep
  | outrel => exact h.execOutrel
  | setrel => exact h.execSetrel
  | wrenStep => exact h.execWrenStep
  | doneRise => exact h.execDoneRise
  | reload => exact h.execReload
  | hostload => exact h.execHostload
  | pload => exact h.execPload
  | dieload => exact h.execDieload
  | cfgAbort => exact h.execCfgAbort
  | meadowFence => exact h.execMeadowFence
  | meadowFenceTake => exact h.execMeadowFenceTake
  | unfence => exact h.execUnfence
  | scrubFrame => exact h.execScrubFrame
  | scrubClr => exact h.execScrubClr
  | rbaddrWrite => exact h.execRbaddrWrite
  | g6Read => exact h.execG6Read
  | g6FullWrite => exact h.execG6FullWrite
  | g6PartialWrite => exact h.execG6PartialWrite
  | g6OrWrite => exact h.execG6OrWrite
  | mempInit => exact h.execMempInit
  | mempTrainDone => exact h.execMempTrainDone
  | mempZero => exact h.execMempZero
  | zeroDone => exact h.execZeroDone
  | refreshDue => exact h.execRefreshDue
  | bankRefresh => exact h.execBankRefresh
  | rhWindow => exact h.execRhWindow
  | promScrGo => exact h.execPromScrGo
  | promScrStop => exact h.execPromScrStop
  | scrubLine => exact h.execScrubLine
  | transactionTimeout => exact h.execTransactionTimeout
  | lateResponse => exact h.execLateResponse
  | regionCtrlWrite => exact h.execRegionCtrlWrite
  | vaultEnable => exact h.execVaultEnable
  | vaultDisable => exact h.execVaultDisable
  | rkgo => exact h.execRkgo
  | rekeyStart => exact h.execRekeyStart
  | rekeyLine => exact h.execRekeyLine
  | initLine => exact h.execInitLine
  | integrityHalt => exact h.execIntegrityHalt
  | dmaStart => exact h.execDmaStart
  | dmaStop => exact h.execDmaStop
  | dmaClr => exact h.execDmaClr
  | swreq => exact h.execSwreq
  | peripheralPulse => exact h.execPeripheralPulse
  | descFetchDone => exact h.execDescFetchDone
  | pacedBurstStart => exact h.execPacedBurstStart
  | beatIssue => exact h.execBeatIssue
  | readResponse => exact h.execReadResponse
  | writeResponse => exact h.execWriteResponse
  | coreRun => exact h.execCoreRun
  | coreRst => exact h.execCoreRst
  | coreInstruction => exact h.execCoreInstruction
  | coreFence => exact h.execCoreFence
  | coreAmo => exact h.execCoreAmo
  | ebreak => exact h.execEbreak
  | postedWriteError => exact h.execPostedWriteError
  | timerInterrupt => exact h.execTimerInterrupt
  | l2opGo => exact h.execL2opGo
  | l2done => exact h.execL2done
  | wdtKick => exact h.execWdtKick
  | wdtTick => exact h.execWdtTick
  | wdtExpiry => exact h.execWdtExpiry
  | extest => exact h.execExtest
  | samplePreload => exact h.execSamplePreload
  | idcode => exact h.execIdcode
  | bypass => exact h.execBypass
  | dbgauth => exact h.execDbgauth
  | dbgacc => exact h.execDbgacc
  | dbgaccRead => exact h.execDbgaccRead
  | dbgaccWrite => exact h.execDbgaccWrite
  | dbgauthPush => exact h.execDbgauthPush
  | dbgauthPop => exact h.execDbgauthPop
  | dbgauthFlush => exact h.execDbgauthFlush
  | openPwd => exact h.execOpenPwd
  | chal => exact h.execChal
  | openSig => exact h.execOpenSig
  | dbgLock => exact h.execDbgLock
  | authStatus => exact h.execAuthStatus
  | haltreq => exact h.execHaltreq
  | dbgResume => exact h.execDbgResume
  | dbgAcmd => exact h.execDbgAcmd
  | dtxWrite => exact h.execDtxWrite
  | txack => exact h.execTxack
  | drxWrite => exact h.execDrxWrite
  | drxRead => exact h.execDrxRead
  | fuseRead => exact h.execFuseRead
  | fuseProg => exact h.execFuseProg
  | lcAdvance => exact h.execLcAdvance
  | authChal => exact h.execAuthChal
  | rbCommit => exact h.execRbCommit
  | zeroise => exact h.execZeroise
  | random => exact h.execRandom
  | keeperCmdDone => exact h.execKeeperCmdDone
  | nonceExpiry => exact h.execNonceExpiry
  | lockoutExpiry => exact h.execLockoutExpiry
  | sliceStart => exact h.execSliceStart
  | sliceEnd => exact h.execSliceEnd
  | sliceAbandon => exact h.execSliceAbandon
  | retest => exact h.execRetest
  | msixEoi => exact h.execMsixEoi
  | msixUnmask => exact h.execMsixUnmask
  | msixSend => exact h.execMsixSend
  | monClr => exact h.execMonClr
  | monArm => exact h.execMonArm
  | monDisarm => exact h.execMonDisarm
  | monSnapshot => exact h.execMonSnapshot
  | powerOnReset => exact h.execPowerOnReset
  | sysrst => exact h.execSysrst
  | pkgRstDevice => exact h.execPkgRstDevice
  | diehold => exact h.execDiehold
  | pciePerst => exact h.execPciePerst
  | pwrReqPark => exact h.execPwrReqPark
  | pwrReqRun => exact h.execPwrReqRun
  | pwrReqSleep => exact h.execPwrReqSleep
  | wakePt => exact h.execWakePt
  | smbStatus => exact h.execSmbStatus
  | tempMax => exact h.execTempMax
  | tempDie => exact h.execTempDie
  | rail => exact h.execRail
  | power => exact h.execPower
  | rstcause => exact h.execRstcause
  | smbPwrReq => exact h.execSmbPwrReq
  | sysreset => exact h.execSysreset
  | refLoss => exact h.execRefLoss
  | refReturn => exact h.execRefReturn
  | pllLockLoss => exact h.execPllLockLoss
  | twarn => exact h.execTwarn
  | thermalTrip => exact h.execThermalTrip
  | thermalRecover => exact h.execThermalRecover
  | clrmax => exact h.execClrmax
  | latchRead => exact h.execLatchRead
  | registerWrite => exact h.execRegisterWrite
  | pcieInbound => exact h.execPcieInbound
  | remoteTransaction => exact h.execRemoteTransaction
  | porstBLow => exact h.execPorstBLow
  | sysrstBRelease => exact h.execSysrstBRelease
  | holdupBChange => exact h.execHoldupBChange
  | bankokRise => exact h.execBankokRise
  | globalNetRisingEdge => exact h.execGlobalNetRisingEdge
  | fabLaneWord => exact h.execFabLaneWord
  | dbgauthMessageEnd => exact h.execDbgauthMessageEnd
  | addressResolutionProtocol => exact h.execAddressResolutionProtocol

end Sys2Proof.Machine
end

section
/-! Every command completes, and every step keeps the stores canonical: both are `Kept.exec` (95_what_each_step_holds.md). -/
namespace Sys2Proof.Machine
variable {s t : State}

/-- Settles O58: every command keeps the queue. -/
theorem everyCommandCompletes : Obligations.EveryCommandCompletes := by
  intro c s
  obtain ⟨t, ht, k⟩ := (Kept.refl s).exec (i := c)
  exact ⟨t, ht, k.pending⟩

theorem canonical_setPending {l : List Instr} (h : Canonical s) : Canonical { s with pending := l } := by
  obtain ⟨hl, hi, hm, hr, ht⟩ := h
  exact ⟨hl, hi, hm, hr, ht⟩

theorem canonical_exec {c : Instr} (h : Canonical s) (he : exec c s = .next t) : Canonical t := by
  obtain ⟨u, hu, k⟩ := (Kept.refl s).exec (i := c)
  obtain rfl : u = t := Host.Outcome.next.inj (hu.symm.trans he)
  exact k.canonical h

theorem canonical_step (h : Canonical s) (he : step s = .next t) : Canonical t := by
  cases hp : s.pending with
  | nil =>
    obtain rfl : s.tick = t := Host.Outcome.next.inj ((step_of_nil hp).symm.trans he)
    exact (Kept.refl s).same.canonical h
  | cons c rest => exact canonical_exec (canonical_setPending h) ((step_of_cons hp).symm.trans he)

/-- Settles O60: `Canonical` is an invariant of every step. -/
theorem everyStepKeepsTheStoresCanonical : Obligations.EveryStepKeepsTheStoresCanonical := fun _ _ hm hr he =>
  canonical_iff.mp (canonical_step (canonical_iff.mpr ⟨hm, hr⟩) he)

end Sys2Proof.Machine
end

section
/-! SYNC, the escape timer, the loss of a gang and stops from outside (02_vector_sequencer.md R59, R66 to R68, R85; 10 R365;
13 R463). -/
namespace Sys2Proof.Machine
variable {s t u : State} {g : Fin 24}

/-! ### Loops -/

/-- What holds before a loop and is kept by each of its passes holds after it. -/
theorem forEach_induct {α σ : Type} {P : σ → Prop} {l : List α} {f : α → σ → σ} {x : σ} (h : P x)
    (hf : ∀ a ∈ l, ∀ y, P y → P (f a y)) : P (forEach l f x) := by
  unfold forEach
  induction l generalizing x with
  | nil => exact h
  | cons a l ih => exact ih (hf a (by simp) x h) fun b hb => hf b (by simp [hb])

theorem forEach_cons {α σ : Type} (a : α) (l : List α) (f : α → σ → σ) (x : σ) : forEach (a :: l) f x = forEach l f (f a x) := rfl

theorem forEach_modG_g {l : List (Fin 24)} {f : Fin 24 → Group → Group} (hl : l.Nodup) (k : Fin 24) :
    (forEach l (fun m s => s.modG m (f m)) s).g k = if k ∈ l then f k (s.g k) else s.g k := by
  induction l generalizing s with
  | nil => rfl
  | cons a l ih =>
    obtain ⟨ha, hl⟩ := List.nodup_cons.mp hl
    rw [forEach_cons, ih hl]
    by_cases hk : k = a
    · subst hk
      rw [if_neg ha, if_pos (by simp), State.modG_g_same]
    · rw [State.modG_g_other _ _ _ _ hk]
      simp [hk]

/-- Only groups differ, and none outside the list. -/
theorem forEach_modG_frame {l : List (Fin 24)} {f : Fin 24 → Group → Group} :
    forEach l (fun m s => s.modG m (f m)) s = { s with grp := (forEach l (fun m s => s.modG m (f m)) s).grp } :=
  forEach_induct (P := fun u : State => u = { s with grp := u.grp }) rfl fun a _ u hu => by rw [State.modG, State.setG, hu]

/-! ### The gang is told (R67; 08 R285) -/

/-- Registers, lines and the group itself are as before. -/
structure TellOnly (g : Fin 24) (s t : State) : Prop where
  regs : t.regs = s.regs
  lines : t.lines = s.lines
  self : t.g g = s.g g

theorem TellOnly.modPort {p : Fin 12} {f : Tether → Tether} (h : TellOnly g s t) : TellOnly g s (t.modPort p f) :=
  ⟨h.regs, h.lines, h.self⟩

theorem TellOnly.sendLost {gid didx n : Nat} {cfg : Bool} (h : TellOnly g s t) : TellOnly g s (t.sendLost gid didx n cfg) := by
  unfold State.sendLost State.sendDown State.sendUp State.toPort
  dsimp only
  split <;> exact forEach_induct h fun _ _ _ hu => hu.modPort

theorem tellGang_only (n d : Nat) : TellOnly g s (s.tellGang g n d) := by
  have hg : ∀ l : List (Fin 24), (∀ m ∈ l, m ≠ g) → ∀ f : Group → Group, TellOnly g s (Sys2Proof.forEach l (fun m s => s.modG m f) s) := by
    refine fun l hl f => forEach_induct ⟨rfl, rfl, rfl⟩ fun m hm u hu => ⟨hu.regs, hu.lines, ?_⟩
    rw [State.modG_g_other _ _ _ _ (hl m hm).symm, hu.self]
  unfold State.tellGang
  split
  · have hm : ∀ m ∈ (s.members g).filter (fun m => m != g && s.active m), m ≠ g := by
      intro m hm
      have := (List.mem_filter.mp hm).2
      simp only [Bool.and_eq_true, bne_iff_ne] at this
      exact this.1
    dsimp only
    split
    · exact (hg _ hm _).sendLost
    · exact hg _ hm _
  · exact ⟨rfl, rfl, rfl⟩

theorem TellOnly.rd (h : TellOnly g s t) (a : Nat) : t.rd a = s.rd a := by rw [State.rd, State.rd, h.regs]
theorem TellOnly.fld (h : TellOnly g s t) (a : Nat) (f : Fld) : t.fld a f = s.fld a f := by rw [State.fld, State.fld, h.rd]
theorem TellOnly.flag (h : TellOnly g s t) (a : Nat) (f : Fld) : t.flag a f = s.flag a f := by rw [State.flag, State.flag, h.fld]

/-! ### The end of a run as its registers show it (R59, R85, R86) -/

/-- VSQ_STAT shows state st, VSQ_FAULT and the causes what belongs to it. -/
structure Shows (g : Fin 24) (st code : Nat) (t : State) : Prop where
  stat : t.vstat g = st
  done : st = 4 → t.flag (R.VSQ_CAUSE g) F.VSQ_CAUSE_DONE = true
  fault : code ≠ 0 → t.fld (R.VSQ_FAULT g) F.VSQ_FAULT_CODE = code ∧ t.flag (R.VSQ_CAUSE g) F.VSQ_CAUSE_FAULT = true

theorem Shows.of_rd {st code : Nat} (h : Shows g st code s) (h1 : t.rd (R.VSQ_STAT g) = s.rd (R.VSQ_STAT g))
    (h2 : t.rd (R.VSQ_CAUSE g) = s.rd (R.VSQ_CAUSE g)) (h3 : t.rd (R.VSQ_FAULT g) = s.rd (R.VSQ_FAULT g)) : Shows g st code t := by
  obtain ⟨hs, hd, hf⟩ := h
  simp only [State.vstat, State.flag, State.fld] at hs hd hf
  refine ⟨?_, fun h => ?_, fun h => ⟨?_, ?_⟩⟩
  · rw [State.vstat, State.fld, h1, hs]
  · rw [State.flag, State.fld, h2, hd h]
  · rw [State.fld, h3, (hf h).1]
  · rw [State.flag, State.fld, h2, (hf h).2]

theorem Shows.tellGang {st code n d : Nat} (h : Shows g st code t) : Shows g st code (t.tellGang g n d) :=
  h.of_rd ((tellGang_only n d).rd _) ((tellGang_only n d).rd _) ((tellGang_only n d).rd _)

theorem faultWord_code {code : Nat} (l : Loc) (h : code < 256) :
    F.VSQ_FAULT_CODE.get (BitVec.ofNat 32 (code + 256 * b2n l.stream + 65536 * (l.idx % 65536))) = code := by
  have hb : b2n l.stream < 2 := by cases l.stream <;> decide
  have hi := Nat.mod_lt l.idx (show 0 < 65536 by decide)
  rw [Fld.get, F.VSQ_FAULT_CODE, BitVec.toNat_ushiftRight, BitVec.toNat_ofNat, Nat.shiftRight_zero]
  show (code + 256 * b2n l.stream + 65536 * (l.idx % 65536)) % 4294967296 % 256 = code
  omega

theorem setFault_fault {code : Nat} (l : Loc) (h : code < 256) :
    (s.setFault g code l).fld (R.VSQ_FAULT g) F.VSQ_FAULT_CODE = code := by
  have hr : R.VSQ_FAULT g ≠ R.VSQ_CAUSE g := by unfold R.VSQ_FAULT R.VSQ_CAUSE; omega
  unfold State.setFault State.fld
  dsimp only
  rw [State.raise_eq, State.setF_rd_other _ _ _ _ _ hr, State.wr_rd_same, faultWord_code l h]

theorem setFault_cause (code : Nat) (l : Loc) : (s.setFault g code l).flag (R.VSQ_CAUSE g) F.VSQ_CAUSE_FAULT = true :=
  State.raise_flag _ _ _ (by decide) rfl

theorem setFault_stat (code : Nat) (l : Loc) : (s.setFault g code l).rd (R.VSQ_STAT g) = s.rd (R.VSQ_STAT g) := by
  unfold State.setFault
  dsimp only
  rw [State.raise_eq, State.setF_rd_other _ _ _ _ _ (by unfold R.VSQ_STAT R.VSQ_CAUSE; omega),
    State.wr_rd_other _ _ _ _ (by unfold R.VSQ_STAT R.VSQ_FAULT; omega)]

theorem setFault_done (code : Nat) (l : Loc) : (s.setFault g code l).flag (R.VSQ_CAUSE g) F.VSQ_CAUSE_DONE =
    s.flag (R.VSQ_CAUSE g) F.VSQ_CAUSE_DONE := by
  unfold State.setFault State.flag
  dsimp only
  rw [State.raise_eq, State.setF_fld_other _ _ _ _ _ _ (.inr (by decide)),
    State.wr_fld_other _ _ _ _ _ (by unfold R.VSQ_CAUSE R.VSQ_FAULT; omega)]

theorem judgeSig_rd {b : Bool} {a : Nat} (h : a ≠ R.FCU_STAT g) : (s.judgeSig g b).rd a = s.rd a := by
  unfold State.judgeSig
  dsimp only
  rw [State.setB_eq, State.setF_rd_other _ _ _ _ _ h, State.setB_eq, State.setF_rd_other _ _ _ _ _ h, State.setB_eq,
    State.setF_rd_other _ _ _ _ _ h]

/-- The registers at the end of a run, before the signatures are judged. -/
def State.ended (s : State) (g : Fin 24) (st code : Nat) (l : Loc) : State :=
  let s := s.setF (R.VSQ_STAT g) F.VSQ_STAT_STATE st
  let s := if st = 4 then s.raise (R.VSQ_CAUSE g) F.VSQ_CAUSE_DONE else s
  if code = 0 then s else s.setFault g code l

theorem ended_shows {st code : Nat} (l : Loc) (hs : st < 8) (hc : code < 256) : Shows g st code (s.ended g st code l) := by
  have hr : R.VSQ_STAT g ≠ R.VSQ_CAUSE g := by unfold R.VSQ_STAT R.VSQ_CAUSE; omega
  have h1 : (if st = 4 then (s.setF (R.VSQ_STAT g) F.VSQ_STAT_STATE st).raise (R.VSQ_CAUSE g) F.VSQ_CAUSE_DONE
      else s.setF (R.VSQ_STAT g) F.VSQ_STAT_STATE st).vstat g = st := by
    split
    · rw [State.vstat, State.raise_eq, State.setF_fld_other _ _ _ _ _ _ (.inl hr), ← State.vstat, vstat_setStat hs]
    · exact vstat_setStat hs
  have h2 : st = 4 → (if st = 4 then (s.setF (R.VSQ_STAT g) F.VSQ_STAT_STATE st).raise (R.VSQ_CAUSE g) F.VSQ_CAUSE_DONE
      else s.setF (R.VSQ_STAT g) F.VSQ_STAT_STATE st).flag (R.VSQ_CAUSE g) F.VSQ_CAUSE_DONE = true := by
    intro h
    rw [if_pos h]
    exact State.raise_flag _ _ _ (by decide) rfl
  unfold State.ended
  dsimp only
  split
  · exact ⟨h1, h2, fun h => absurd ‹_› h⟩
  · exact ⟨by rw [State.vstat, State.fld, setFault_stat, ← State.fld, ← State.vstat, h1],
      fun h => by rw [setFault_done, h2 h], fun _ => ⟨setFault_fault l hc, setFault_cause code l⟩⟩

/-- The group at the end of a run, at ball time b. -/
def Group.over (x : Group) (b st code : Nat) : Group :=
  { x with
    pipe := [], dec := none, stop := none, abortAt := none, escPt := none, resumeAt := none, resumed := false, lostAt := none,
    syncArr := none, syncRel := none, wrsv := x.wrsv.filter (fun u => decide (u ≤ b)),
    runs := x.runs.map (fun r => if r.no = x.run then { r with ended := some (b, x.vcnt, st, code) } else r) }

theorem endQuiet_eq (st code n : Nat) (l : Loc) : s.endQuiet g st code l n =
    ((((((s.at_ n).idleAt g n).emptyFd g).ended g st code l).judgeSig g (st == 4)).modG g (fun x => x.over n st code)) := by
  unfold State.endQuiet State.ended Group.over
  rfl

theorem endQuiet_shows {st code n : Nat} (l : Loc) (hs : st < 8) (hc : code < 256) :
    Shows g st code (s.endQuiet g st code l n) := by
  have hr : ∀ a, a = R.VSQ_STAT g ∨ a = R.VSQ_CAUSE g ∨ a = R.VSQ_FAULT g → a ≠ R.FCU_STAT g := by
    unfold R.VSQ_STAT R.VSQ_CAUSE R.VSQ_FAULT R.FCU_STAT vsqBase fcuBase dieBase
    omega
  rw [endQuiet_eq]
  refine (ended_shows (s := ((s.at_ n).idleAt g n).emptyFd g) l hs hc).of_rd ?_ ?_ ?_
  · rw [State.modG_rd, judgeSig_rd (hr _ (by simp))]
  · rw [State.modG_rd, judgeSig_rd (hr _ (by simp))]
  · rw [State.modG_rd, judgeSig_rd (hr _ (by simp))]

theorem setFault_lines (code : Nat) (l : Loc) : (s.setFault g code l).lines = s.lines := by
  unfold State.setFault
  dsimp only
  rw [State.raise_eq, State.setF_lines, State.wr_lines]

theorem setFault_g (code : Nat) (l : Loc) (k : Fin 24) : (s.setFault g code l).g k = s.g k := by
  unfold State.setFault
  dsimp only
  rw [State.raise_eq, State.setF_g_eq, State.wr_g_eq]

theorem ended_lines (st code : Nat) (l : Loc) : (s.ended g st code l).lines = s.lines := by
  unfold State.ended
  dsimp only
  split <;> split <;> simp only [setFault_lines, State.raise_eq, State.setF_lines]

theorem ended_g (st code : Nat) (l : Loc) (k : Fin 24) : (s.ended g st code l).g k = s.g k := by
  unfold State.ended
  dsimp only
  split <;> split <;> simp only [setFault_g, State.raise_eq, State.setF_g_eq]

theorem emptyFd_lines : (s.emptyFd g).lines = s.lines := by
  rw [State.emptyFd, State.showFd, State.setF_lines, State.modG_lines]

theorem emptyFd_fdq : ((s.emptyFd g).g g).fdq = [] := by
  rw [State.emptyFd, State.showFd, State.setF_g_eq, State.modG_g_same]

theorem judgeSig_lines (b : Bool) : (s.judgeSig g b).lines = s.lines := by
  unfold State.judgeSig
  dsimp only
  rw [State.setB_eq, State.setF_lines, State.setB_eq, State.setF_lines, State.setB_eq, State.setF_lines]

theorem judgeSig_g (b : Bool) (k : Fin 24) : (s.judgeSig g b).g k = s.g k := by
  unfold State.judgeSig
  dsimp only
  rw [State.setB_eq, State.setF_g_eq, State.setB_eq, State.setF_g_eq, State.setB_eq, State.setF_g_eq]

theorem endQuiet_lines (st code n : Nat) (l : Loc) : (s.endQuiet g st code l n).lines = s.lines := by
  rw [endQuiet_eq, State.modG_lines, judgeSig_lines, ended_lines, emptyFd_lines, State.idleAt, State.modG_lines, State.atT_lines]

theorem endQuiet_group (st code n : Nat) (l : Loc) : ((s.endQuiet g st code l n).g g).pipe = [] ∧
    ((s.endQuiet g st code l n).g g).fdq = [] := by
  rw [endQuiet_eq, State.modG_g_same]
  refine ⟨rfl, ?_⟩
  rw [Group.over, judgeSig_g, ended_g]
  exact emptyFd_fdq

/-! ### SYNC (R66) -/

/-- A member whose arrival made a release at r. -/
def Group.usedUp (x : Group) (r : Nat) : Group := if x.syncArr.isSome then { x with syncArr := none, syncRel := some r } else x

/-- The group after its SYNC, before its escape point. -/
def Group.released (x : Group) (rest : List PatEntry) (b : Nat) : Group :=
  { x with pipe := rest, nextBs := b, syncArr := none, syncRel := none, escPt := none }

def State.useUp (s : State) (g : Fin 24) (r : Nat) : State := forEach (s.members g) (fun m s => s.modG m (fun x => x.usedUp r)) s

theorem members_nodup : (s.members g).Nodup := (List.nodup_finRange 24).filter _

theorem self_mem_members : g ∈ s.members g := List.mem_filter.mpr ⟨List.mem_finRange g, by simp⟩

theorem useUp_frame (r : Nat) : s.useUp g r = { s with grp := (s.useUp g r).grp } := forEach_modG_frame (f := fun _ x => x.usedUp r)

theorem useUp_g (r : Nat) (k : Fin 24) : (s.useUp g r).g k = if k ∈ s.members g then (s.g k).usedUp r else s.g k :=
  forEach_modG_g (f := fun _ x => x.usedUp r) members_nodup k

section
variable {e : PatEntry} {rest : List PatEntry} {r b : Nat}

def State.syncOver (s : State) (g : Fin 24) (e : PatEntry) (rest : List PatEntry) (r b : Nat) : State :=
  ((((s.useUp g r).at_ b).modG g (fun x => x.released rest b)).escAtEnd g e.word b).modG g (fun x => { x with forkEnd := b + 40 * ns })

theorem exec_syncRelease (hp : (s.g g).pipe = e :: rest) (hr : s.running g = true) (hu : e.reps = .untilSync) (hd : 0 < e.done)
    (ht : s.syncTime g = some r) (hb : r ≤ e.bs + e.done * e.period) :
    exec (.syncRelease g) s = .next (s.syncOver g e rest r (e.bs + e.done * e.period)) := by
  have h0 : (e.done == 0) = false := by simp; omega
  have hb' : decide (e.bs + e.done * e.period < r) = false := by simp; omega
  show execSyncRelease g s = _
  unfold execSyncRelease
  rw [hp]
  dsimp only
  rw [ht]
  dsimp only
  rw [if_neg (by simp [hr, hu, h0, hb'])]
  rfl

theorem onlyGroup_syncOver : OnlyGroup g [R.VSQ_STAT g, R.VSQ_CAUSE g] (s.useUp g r) (s.syncOver g e rest r b) :=
  OnlyGroup.modG (OnlyGroup.trans (OnlyGroup.modG (OnlyGroup.at_ (OnlyGroup.refl g _ _))) (EscOnly.refl g _).escAtEnd.only)

theorem syncOver_group : ((s.syncOver g e rest r b).g g).pipe = rest ∧ ((s.syncOver g e rest r b).g g).nextBs = b ∧
    ((s.syncOver g e rest r b).g g).forkEnd = b + 40 * ns ∧ ((s.syncOver g e rest r b).g g).syncArr = none := by
  have h := (EscOnly.refl g (((s.useUp g r).at_ b).modG g (fun x => x.released rest b))).escAtEnd (w := e.word) (n := b)
  unfold State.syncOver
  rw [State.modG_g_same]
  exact ⟨h.pipe.trans (by rw [State.modG_g_same]; rfl), h.nextBs.trans (by rw [State.modG_g_same]; rfl), rfl,
    h.syncArr.trans (by rw [State.modG_g_same]; rfl)⟩

theorem syncOver_regs (h : ctlEsc e.word = false) : (s.syncOver g e rest r b).regs = s.regs := by
  unfold State.syncOver
  rw [escAtEnd_of_none h, State.modG_regs, State.modG_regs, State.atT_regs, useUp_frame]

theorem OnlyGroup.frame_from {as : List Nat} (h : OnlyGroup g as t u) (hf : t = { s with grp := t.grp }) :
    u = { s with now := u.now, regs := u.regs, grp := u.grp } := by rw [h.1, hf]

theorem OnlyGroup.rd {as : List Nat} (h : OnlyGroup g as s t) {a : Nat} (ha : a ∉ as) : t.rd a = s.rd a := h.2.2 a ha
theorem OnlyGroup.other {as : List Nat} (h : OnlyGroup g as s t) {k : Fin 24} (hk : k ≠ g) : t.g k = s.g k := h.2.1 k hk

theorem useUp_rd (a : Nat) : (s.useUp g r).rd a = s.rd a := by rw [useUp_frame]; rfl

theorem syncRelease_ends (hp : (s.g g).pipe = e :: rest) (hr : s.running g = true) (hu : e.reps = .untilSync) (hd : 0 < e.done)
    (ht : s.syncTime g = some r) (hb : r ≤ e.bs + e.done * e.period) :
    After (.syncRelease g) s (fun t => (t.g g).pipe = rest ∧ (t.g g).nextBs = e.bs + e.done * e.period ∧
      (t.g g).forkEnd = e.bs + e.done * e.period + 40 * ns ∧ (t.g g).syncArr = none ∧
      t = { s with now := t.now, regs := t.regs, grp := t.grp } ∧ SameRegs [R.VSQ_STAT g, R.VSQ_CAUSE g] s t ∧
      (ctlEsc e.word = false → t.regs = s.regs) ∧ (∀ k, k ∉ s.members g → t.g k = s.g k) ∧
      ∀ m ∈ s.members g, m ≠ g → (s.g m).syncArr.isSome = true → (t.g m).syncArr = none ∧ (t.g m).syncRel = some r) := by
  refine ⟨_, exec_syncRelease hp hr hu hd ht hb, ?_⟩
  generalize e.bs + e.done * e.period = b
  obtain ⟨hpipe, hbs, hfork, harr⟩ := syncOver_group (s := s) (g := g) (e := e) (rest := rest) (r := r) (b := b)
  have hesc := syncOver_regs (s := s) (g := g) (e := e) (rest := rest) (r := r) (b := b)
  have ho := onlyGroup_syncOver (s := s) (g := g) (e := e) (rest := rest) (r := r) (b := b)
  generalize s.syncOver g e rest r b = v at *
  refine ⟨hpipe, hbs, hfork, harr, ho.frame_from (useUp_frame r), fun a ha => ?_, hesc, fun k hk => ?_, fun m hm hne ha => ?_⟩
  · rw [ho.rd ha, useUp_rd]
  · rw [ho.other (fun h => hk (h ▸ self_mem_members)), useUp_g, if_neg hk]
  · rw [ho.other hne, useUp_g, if_pos hm, Group.usedUp, if_pos ha]
    exact ⟨rfl, rfl⟩

end

/-! ### The loss of a gang, the escape timer, stops from outside (R67, R68, R85) -/

theorem exec_gangLost {l : Nat} {e : PatEntry} {rest : List PatEntry} (hl : (s.g g).lostAt = some l) (hr : s.running g = true)
    (hn : l ≤ (s.g g).nextVec) (hp : (s.g g).pipe = e :: rest) : exec (.gangLost g) s =
      .next (s.endQuiet g 5 9 (s.g g).nextLoc (s.g g).nextVec) := by
  have h1 : s.vstat g ≠ 1 := by
    have := hr
    simp only [State.running, Bool.or_eq_true, beq_iff_eq] at this
    omega
  show execGangLost g s = _
  unfold execGangLost
  rw [hl]
  dsimp only
  rw [if_neg h1, if_neg (by simp [hr]; omega), hp]

theorem escAdd_one : (s.escAdd g 1).fld (R.VSQ_STAT g) F.VSQ_STAT_ESCCNT = min 15 (s.fld (R.VSQ_STAT g) F.VSQ_STAT_ESCCNT + 1) ∧
    (s.escAdd g 1).g g = { s.g g with escN := (s.g g).escN + 1 } ∧
    (s.fld (R.VSQ_STAT g) F.VSQ_STAT_ESCCNT = 15 → (s.escAdd g 1).flag (R.VSQ_CAUSE g) F.VSQ_CAUSE_ESCOVF = true) := by
  have hsc : R.VSQ_STAT g ≠ R.VSQ_CAUSE g := by unfold R.VSQ_STAT R.VSQ_CAUSE; omega
  have hs : ∀ n, (s.setF (R.VSQ_STAT g) F.VSQ_STAT_ESCCNT (min 15 n)).fld (R.VSQ_STAT g) F.VSQ_STAT_ESCCNT = min 15 n := fun n => by
    rw [State.setF_fld_same _ _ _ _ (by decide)]
    exact Nat.mod_eq_of_lt (show min 15 n < 16 by omega)
  unfold State.escAdd
  dsimp only
  rw [State.modG_fld, State.modG_flag, State.modG_g_same, State.escCount]
  by_cases h : 15 < s.fld (R.VSQ_STAT g) F.VSQ_STAT_ESCCNT + 1
  · rw [if_pos h]
    refine ⟨?_, ?_, fun _ => State.raise_flag _ _ _ (by decide) rfl⟩
    · rw [State.raise_eq, State.setF_fld_other _ _ _ _ _ _ (.inl hsc), hs]
    · rw [State.raise_eq, State.setF_g_eq, State.setF_g_eq]
  · rw [if_neg h]
    refine ⟨hs _, ?_, fun h' => absurd h' (by omega)⟩
    rw [State.setF_g_eq]

theorem onlyGroup_escAdd (n : Nat) : OnlyGroup g [R.VSQ_STAT g, R.VSQ_CAUSE g] s (s.escAdd g n) := (EscOnly.refl g s).escAdd.only

theorem escapeExpiry_counts (hr : s.running g = true) : After (.escapeExpiry g) s (fun t =>
    OnlyGroup g [R.VSQ_STAT g, R.VSQ_CAUSE g] s t ∧
    t.fld (R.VSQ_STAT g) F.VSQ_STAT_ESCCNT = min 15 (s.fld (R.VSQ_STAT g) F.VSQ_STAT_ESCCNT + 1) ∧
    t.g g = { s.g g with escN := (s.g g).escN + 1 } ∧
    (s.fld (R.VSQ_STAT g) F.VSQ_STAT_ESCCNT = 15 → t.flag (R.VSQ_CAUSE g) F.VSQ_CAUSE_ESCOVF = true)) :=
  ⟨_, if_pos hr, ((OnlyGroup.refl g _ s).at_).trans (onlyGroup_escAdd 1), escAdd_one⟩

/-- A group that is ARMED stops with a fault at its entry. -/
def State.stopArmed (s : State) (g : Fin 24) (st code : Nat) : State :=
  (s.setF (R.VSQ_STAT g) F.VSQ_STAT_STATE st).setFault g code ⟨false, s.fld (R.VSQ_ENTRY g) F.VSQ_ENTRY_ADDR⟩

theorem stopArmed_shows {st code : Nat} (hs : st < 8) (h4 : st ≠ 4) (hc : code < 256) : Shows g st code (s.stopArmed g st code) := by
  refine ⟨?_, fun h => absurd h h4, fun _ => ⟨setFault_fault _ hc, setFault_cause _ _⟩⟩
  rw [State.stopArmed, State.vstat, State.fld, setFault_stat, ← State.fld, ← State.vstat, vstat_setStat hs]

theorem stopQuiet_eq (st code : Nat) : s.stopQuiet g st code =
    if s.vstat g = 1 then s.stopArmed g st code else s.endQuiet g st code (s.g g).nextLoc (s.boundary g) := rfl

theorem stopNow_shows {code : Nat} (hc : code < 256) : Shows g 6 code (s.stopNow g 6 code) := by
  rw [State.stopNow, stopQuiet_eq]
  refine Shows.tellGang ?_
  split
  · exact stopArmed_shows (by decide) (by decide) hc
  · exact endQuiet_shows _ (by decide) hc

theorem stopNow_lines (st code : Nat) : (s.stopNow g st code).lines = s.lines := by
  rw [State.stopNow, (tellGang_only _ _).lines, stopQuiet_eq]
  split
  · rw [State.stopArmed, setFault_lines, State.setF_lines]
  · exact endQuiet_lines _ _ _ _

theorem groupFenceStop_stops {why : StopWhy} (ha : s.active g = true) (hc : s.stopCause g why = true) :
    After (.groupFenceStop g why) s (fun t => t.vstat g = 6 ∧ t.flag (R.VSQ_CAUSE g) F.VSQ_CAUSE_FAULT = true ∧
      t.lines = s.lines ∧ t.fld (R.VSQ_FAULT g) F.VSQ_FAULT_CODE = stopCodeOf why) := by
  have hcode : stopCodeOf why < 256 ∧ stopCodeOf why ≠ 0 := by cases why <;> decide
  have hs := stopNow_shows (s := s) (g := g) hcode.1
  obtain ⟨hf, hcause⟩ := hs.fault hcode.2
  exact ⟨_, if_pos (by simp [ha, hc]), hs.stat, hcause, stopNow_lines _ _, hf⟩

theorem gangLost_stops {l : Nat} {e : PatEntry} {rest : List PatEntry} (hl : (s.g g).lostAt = some l) (hr : s.running g = true)
    (hn : l ≤ (s.g g).nextVec) (hp : (s.g g).pipe = e :: rest) : After (.gangLost g) s (fun t => t.vstat g = 5 ∧
      t.fld (R.VSQ_FAULT g) F.VSQ_FAULT_CODE = 0x09 ∧ t.flag (R.VSQ_CAUSE g) F.VSQ_CAUSE_FAULT = true ∧ (t.g g).pipe = [] ∧
      t.lines = s.lines) := by
  have hs := endQuiet_shows (s := s) (g := g) (st := 5) (code := 9) (n := (s.g g).nextVec) (s.g g).nextLoc (by decide) (by decide)
  obtain ⟨hf, hcause⟩ := hs.fault (by decide)
  exact ⟨_, exec_gangLost hl hr hn hp, hs.stat, hf, hcause, (endQuiet_group _ _ _ _).1, endQuiet_lines _ _ _ _⟩

/-- Settles O9: the release of a SYNC (`syncOver_group`), the end of a run as its registers show it (`endQuiet_shows`) and the
escape count (`escAdd_one`). -/
theorem syncEscapeAndStopsFromOutside : Obligations.SyncEscapeAndStopsFromOutside := fun _ _ =>
  ⟨fun _ _ _ => syncRelease_ends, fun _ _ _ => gangLost_stops, escapeExpiry_counts, fun why ha hc => by
    cases why <;> exact groupFenceStop_stops ha hc⟩

end Sys2Proof.Machine
end

section
/-! What a vector reaches outside the clock: registers, groups, fail capture, monitor counters, outputs and free values; and
one lemma for each part of a vector (02_vector_sequencer.md R37; 03; 04; 05). -/
namespace Sys2Proof.Machine
variable {s t u : State}
set_option Elab.async false

/-- Only what a vector reaches differs; the clock stands. -/
def RunOnly (s t : State) : Prop :=
  t = { s with freeCtr := t.freeCtr, regs := t.regs, out := t.out, grp := t.grp, cap := t.cap, mon := t.mon }

namespace RunOnly

theorem refl (s : State) : RunOnly s s := rfl

theorem ite {c : Prop} [Decidable c] (h : RunOnly s t) (k : RunOnly s u) : RunOnly s (if c then t else u) := by
  split
  · exact h
  · exact k

theorem dite {c : Prop} [Decidable c] {f : c → State} {f' : ¬ c → State} (h : ∀ k, RunOnly s (f k)) (k : ∀ k, RunOnly s (f' k)) :
    RunOnly s (if k : c then f k else f' k) := by
  split
  · exact h _
  · exact k _

theorem forEach {α : Type} {l : List α} {f : α → State → State} (hf : ∀ a u, RunOnly s u → RunOnly s (f a u)) (h : RunOnly s t) :
    RunOnly s (forEach l f t) := forEach_induct h fun a _ u hu => hf a u hu

theorem foldl {α : Type} {l : List α} {f : State → α → State} (hf : ∀ u a, RunOnly s u → RunOnly s (f u a)) (h : RunOnly s t) :
    RunOnly s (l.foldl f t) := by
  induction l generalizing t with
  | nil => exact h
  | cons a l ih => exact ih (hf t a h)

theorem same (h : RunOnly s t) {v0 v1 v2 v3} : RunOnly s { t with freeCtr := v0, out := v1, cap := v2, mon := v3 } := by
  rw [RunOnly, show t = _ from h]

theorem wr {a : Nat} {v : Word} (h : RunOnly s t) : RunOnly s (t.wr a v) := by
  rw [RunOnly, State.wr, show t = _ from h]

theorem modC {d : Fin 6} {f : Capture → Capture} (h : RunOnly s t) : RunOnly s (t.modC d f) := by
  rw [RunOnly, State.modC, State.setC, show t = _ from h]

theorem modG {g : Fin 24} {f : Group → Group} (h : RunOnly s t) : RunOnly s (t.modG g f) := by
  rw [RunOnly, State.modG, State.setG, show t = _ from h]

theorem now (h : RunOnly s t) : t.now = s.now := by rw [show t = _ from h]
theorem lines (h : RunOnly s t) : t.lines = s.lines := by rw [show t = _ from h]

end RunOnly

theorem RunOnly.setF {a : Nat} {f : Fld} {x : Nat} (h : RunOnly s t) : RunOnly s (t.setF a f x) := by
  unfold State.setF
  exact h.wr

theorem RunOnly.raise {a : Nat} {f : Fld} (h : RunOnly s t) : RunOnly s (t.raise a f) := by
  unfold State.raise
  exact h.setF

theorem RunOnly.bump {a : Nat} {f : Fld} {n : Nat} (h : RunOnly s t) : RunOnly s (t.bump a f n) := by
  unfold State.bump
  exact h.setF

theorem RunOnly.wrPair {lo : Nat} {hi : Nat} {v : Nat} (h : RunOnly s t) : RunOnly s (t.wrPair lo hi v) := by
  unfold State.wrPair
  exact h.wr.wr

theorem RunOnly.used (h : RunOnly s t) : RunOnly s t.used := by
  unfold State.used
  exact .same h

theorem RunOnly.emit {o : Output} (h : RunOnly s t) : RunOnly s (t.emit o) := by
  unfold State.emit
  exact .same h

theorem RunOnly.tally {d : Nat} {code : Nat} {n : Nat} (h : RunOnly s t) : RunOnly s (t.tally d code n) := by
  unfold State.tally
  exact .dite (fun _ => (.same h)) fun _ => h

theorem RunOnly.setUnitX {g : Nat} {u' : AUnit} (h : RunOnly s t) : RunOnly s (t.setUnitX g u') := by
  unfold State.setUnitX
  exact h.wr.wr.wr

theorem RunOnly.setUnitY {g : Nat} {u' : AUnit} (h : RunOnly s t) : RunOnly s (t.setUnitY g u') := by
  unfold State.setUnitY
  exact h.wr.wr.wr

theorem RunOnly.apgAdvance {g : Fin 24} {w : PatWord} (h : RunOnly s t) : RunOnly s (t.apgAdvance g w) := by
  unfold State.apgAdvance
  extract_lets _ _ x1 x2 x3 x4
  have hx1 : RunOnly s x1 := h.setUnitX.setUnitY
  have hx2 : RunOnly s x2 := hx1.wrPair
  have hx3 : RunOnly s x3 := hx2.modG
  have hx4 : RunOnly s x4 := .ite hx3.raise hx3
  exact .ite hx4.raise hx4

theorem RunOnly.apgRestore {g : Fin 24} (h : RunOnly s t) : RunOnly s (t.apgRestore g) := by
  unfold State.apgRestore
  split
  · exact h
  · extract_lets _ x1 _ x2 x3
    have hx1 : RunOnly s x1 := h.setUnitX
    have hx2 : RunOnly s x2 := hx1.setUnitY
    have hx3 : RunOnly s x3 := hx2.wrPair
    exact hx3.modG

theorem RunOnly.place1 {g : Fin 24} {lane : Fin 64} {time : Nat} {level : Bool} (h : RunOnly s t) : RunOnly s (t.place1 g lane time level) := by
  unfold State.place1
  extract_lets _ _ x1
  have hx1 : RunOnly s x1 := h.modG
  exact .ite h (.ite hx1.raise hx1)

theorem RunOnly.driveSlot {g : Fin 24} {p : Fin 32} {w : Nat} {j : Nat} {bs : Nat} {period : Nat} {v : VecData} (h : RunOnly s t) : RunOnly s (t.driveSlot g p w j bs period v) := by
  unfold State.driveSlot
  extract_lets _ _ _ _ x1
  have hx1 : RunOnly s x1 := by
    unfold x1
    split
    · exact h
    · exact h.place1
  split
  · exact hx1
  · exact hx1.place1

theorem RunOnly.driveVector {g : Fin 24} {w : PatWord} {bs : Nat} {period : Nat} {v : VecData} (h : RunOnly s t) : RunOnly s (t.driveVector g w bs period v) := by
  unfold State.driveVector
  exact .ite h (.forEach (fun _ _ k1 => .forEach (fun _ _ k2 => k2.driveSlot) k1) h)

theorem RunOnly.fdTake {g : Fin 24} (h : RunOnly s t) : RunOnly s (t.fdTake g) := by
  unfold State.fdTake
  split
  · exact h.modG.bump.raise
  · exact h.modG

theorem RunOnly.fdWord {g : Fin 24} (h : RunOnly s t) : RunOnly s (t.fdWord g).2 := by
  unfold State.fdWord
  extract_lets x1
  have hx1 : RunOnly s x1 := .ite h.fdTake h
  split
  · dsimp only
    exact hx1.modG
  · dsimp only
    exact h

theorem RunOnly.smaskSet {d : Nat} {site : Nat} (h : RunOnly s t) : RunOnly s (t.smaskSet d site) := by
  unfold State.smaskSet
  exact h.wr

theorem RunOnly.unset {d : Fin 6} {site : Nat} {be : Nat} (h : RunOnly s t) : RunOnly s (t.unset d site be) := by
  unfold State.unset
  exact .forEach (fun _ _ k1 => .ite (.forEach (fun _ _ k2 => .ite k2 k2.modC) k1.modC) (.modG (.forEach (fun _ _ k3 => .ite k3 k3.modC) k1.modC))) h

theorem RunOnly.maskOnFail {g : Fin 24} {site : Nat} {be : Nat} (h : RunOnly s t) : RunOnly s (t.maskOnFail g site be) := by
  unfold State.maskOnFail
  extract_lets _ x1
  have hx1 : RunOnly s x1 := h.modC
  exact .forEach (fun _ _ k2 => .ite k2 k2.modC) hx1

theorem RunOnly.setCnt {g : Fin 24} {i : Nat} {c : Counter} (h : RunOnly s t) : RunOnly s (t.setCnt g i c) := by
  unfold State.setCnt
  exact h.modG

theorem RunOnly.setSite {d : Fin 6} {i : Nat} {c : Counter} (h : RunOnly s t) : RunOnly s (t.setSite d i c) := by
  unfold State.setSite
  exact h.modC

theorem RunOnly.cntCauses {g : Fin 24} {old : Counter} {new : Counter} (h : RunOnly s t) : RunOnly s (t.cntCauses g old new) := by
  unfold State.cntCauses
  extract_lets x1
  have hx1 : RunOnly s x1 := .ite h.raise h
  exact .ite hx1.raise hx1

theorem RunOnly.cntUpdate {g : Fin 24} {i : Nat} {n : Nat} {bad : Bool} (h : RunOnly s t) : RunOnly s (t.cntUpdate g i n bad) := by
  unfold State.cntUpdate
  extract_lets _ _
  exact h.setCnt.cntCauses

theorem RunOnly.cntSpoil {g : Fin 24} {i : Nat} (h : RunOnly s t) : RunOnly s (t.cntSpoil g i) := by
  unfold State.cntSpoil
  extract_lets _
  exact h.setCnt.cntCauses

theorem RunOnly.spoilAncestors {g : Fin 24} {p : Nat} (h : RunOnly s t) : RunOnly s (t.spoilAncestors g p) := by
  unfold State.spoilAncestors
  extract_lets x1
  have hx1 : RunOnly s x1 := h.cntSpoil
  split
  · exact hx1
  · exact hx1.setSite

theorem RunOnly.applyInc {g : Fin 24} {v : CntInc} (h : RunOnly s t) : RunOnly s (t.applyInc g v) := by
  unfold State.applyInc
  extract_lets x1 x2
  have hx1 : RunOnly s x1 := .forEach (fun _ _ k3 => .ite k3.cntUpdate.spoilAncestors k3.cntUpdate) h
  have hx2 : RunOnly s x2 := .ite hx1 hx1.cntUpdate
  exact .forEach (fun _ _ k4 => k4.setSite) hx2

theorem RunOnly.settleCnt {g : Fin 24} {t' : Nat} (h : RunOnly s t) : RunOnly s (t.settleCnt g t') := by
  unfold State.settleCnt
  extract_lets _ x1
  have hx1 : RunOnly s x1 := h.modG
  exact .forEach (fun _ _ k2 => k2.applyInc) hx1

theorem RunOnly.modRun {g : Fin 24} {no : Nat} {f : RunLog → RunLog} (h : RunOnly s t) : RunOnly s (t.modRun g no f) := by
  unfold State.modRun
  exact h.modG

theorem RunOnly.logVector {g : Fin 24} {v : FcuVec} (h : RunOnly s t) : RunOnly s (t.logVector g v) := by
  unfold State.logVector
  extract_lets _ _ _ x1
  have hx1 : RunOnly s x1 := h.modRun
  exact .ite (.ite h.modRun.raise hx1.modG) h

theorem RunOnly.captureVector {g : Fin 24} {v : FcuVec} (h : RunOnly s t) : RunOnly s (t.captureVector g v) := by
  unfold State.captureVector
  exact .ite h.modG h

theorem RunOnly.bitmapVector {g : Fin 24} {v : FcuVec} (h : RunOnly s t) : RunOnly s (t.bitmapVector g v) := by
  unfold State.bitmapVector
  extract_lets _ _ _ _ _
  exact .ite (.ite h.raise h.modG) h

theorem RunOnly.raeVector {g : Fin 24} {v : FcuVec} (h : RunOnly s t) : RunOnly s (t.raeVector g v) := by
  unfold State.raeVector
  exact .ite h.modG h

theorem RunOnly.misrVector {g : Fin 24} {v : FcuVec} (h : RunOnly s t) : RunOnly s (t.misrVector g v) := by
  unfold State.misrVector
  extract_lets _ x1
  have hx1 : RunOnly s x1 := h.wrPair
  exact .ite (.ite hx1.wrPair hx1) h

theorem RunOnly.countVector {g : Fin 24} {v : FcuVec} {bad : List Nat} (h : RunOnly s t) : RunOnly s (t.countVector g v bad) := by
  unfold State.countVector
  extract_lets _ _ _ _
  exact .ite h h.modG.settleCnt

theorem RunOnly.failPortStage {g : Fin 24} {v : FcuVec} (h : RunOnly s t) : RunOnly s (t.failPortStage g v) := by
  unfold State.failPortStage
  extract_lets _ _
  exact h.modG

theorem RunOnly.fcuVector {g : Fin 24} {v : FcuVec} {bad : List Nat} (h : RunOnly s t) : RunOnly s (t.fcuVector g v bad) := by
  unfold State.fcuVector
  extract_lets _ _ _ _ x1 x2 x3 x4
  have hx1 : RunOnly s x1 := .ite h h.tally.tally
  have hx2 : RunOnly s x2 := hx1.countVector.logVector
  have hx3 : RunOnly s x3 := hx2.captureVector.bitmapVector.raeVector
  have hx4 : RunOnly s x4 := hx3.misrVector.failPortStage
  exact .forEach (fun _ _ k5 => k5.unset.maskOnFail) hx4

theorem RunOnly.maskArrive {d : Fin 6} {e : Nat × Nat} (h : RunOnly s t) : RunOnly s (t.maskArrive d e) := by
  unfold State.maskArrive
  exact h.modC.smaskSet

theorem RunOnly.raeCmdErr {d : Nat} (h : RunOnly s t) : RunOnly s (t.raeCmdErr d) := by
  unfold State.raeCmdErr
  exact h.raise

theorem RunOnly.raeCommand {d : Fin 6} {op : Nat} {site : Nat} {cut : Nat} (h : RunOnly s t) : RunOnly s (t.raeCommand d op site cut) := by
  unfold State.raeCommand
  exact .ite h.raeCmdErr (.ite h.raeCmdErr (.ite h.bump.raeCmdErr h.modC))

theorem RunOnly.raeParam {d : Fin 6} {p : Nat} {cut : Nat} (h : RunOnly s t) : RunOnly s (t.raeParam d p cut) := by
  unfold State.raeParam
  exact .ite h.raeCmdErr h.raeCommand

theorem RunOnly.pulseTrg {g : Fin 24} {p : Nat} {t' : Nat} (h : RunOnly s t) : RunOnly s (t.pulseTrg g p t') := by
  unfold State.pulseTrg
  extract_lets _
  exact .ite h.raise h.modG.emit

theorem RunOnly.giveDue {d : Fin 6} {e : Nat × Nat × Nat} (h : RunOnly s t) : RunOnly s (t.giveDue d e) := by
  unfold State.giveDue
  extract_lets _ _
  split
  · exact h.raeParam
  · exact h.setF.raise
  · exact h.raise
  · exact h.smaskSet
  · exact h.pulseTrg

theorem RunOnly.deliverDie {d : Fin 6} {t' : Nat} (h : RunOnly s t) : RunOnly s (t.deliverDie d t') := by
  unfold State.deliverDie
  extract_lets _ x1
  have hx1 : RunOnly s x1 := .ite h (.forEach (fun _ _ k2 => k2.giveDue) h.modC)
  exact .forEach (fun _ _ k3 => k3.maskArrive) hx1

theorem RunOnly.raiseWrsv {g : Fin 24} {t' : Nat} (h : RunOnly s t) : RunOnly s (t.raiseWrsv g t') := by
  unfold State.raiseWrsv
  exact .ite h.modG.raise h

theorem RunOnly.deliver {t' : Nat} (h : RunOnly s t) : RunOnly s (t.deliver t') := by
  unfold State.deliver
  exact .forEach (fun _ _ k2 => k2.raiseWrsv.settleCnt) (.forEach (fun _ _ k1 => k1.deliverDie) h)

theorem RunOnly.showFd {g : Fin 24} (h : RunOnly s t) : RunOnly s (t.showFd g) := by
  unfold State.showFd
  exact h.setF

theorem RunOnly.storeResult {g : Fin 24} {e : PatEntry} {isOver : Bool} {be : Nat} {fails : Nat} {uflags : Nat} (h : RunOnly s t) : RunOnly s (t.storeResult g e isOver be fails uflags) := by
  unfold State.storeResult
  extract_lets _ _ _
  exact .ite h.modG h

theorem RunOnly.storeArrival {g : Fin 24} {e : PatEntry} {be : Nat} (h : RunOnly s t) : RunOnly s (t.storeArrival g e be) := by
  unfold State.storeArrival
  exact .ite h.modG h

theorem RunOnly.fireTrig {g : Fin 24} {w : PatWord} {be : Nat} (h : RunOnly s t) : RunOnly s (t.fireTrig g w be) := by
  unfold State.fireTrig
  extract_lets _ x1
  have hx1 : ∀ y0 y1, RunOnly s (x1 y0 y1) := by
    intro y0 y1
    unfold x1
    exact h.modC
  split
  · exact h
  · split
    · exact hx1 _ _
    · exact hx1 _ _
    · exact hx1 _ _
    · exact hx1 _ _
    · exact hx1 _ _

theorem RunOnly.showPause {g : Fin 24} {e : PatEntry} (h : RunOnly s t) : RunOnly s (t.showPause g e) := by
  unfold State.showPause
  exact .ite (.ite h.modG.setF.setF.raise h) h.setF

theorem RunOnly.wrsvNext {g : Fin 24} {e : PatEntry} (h : RunOnly s t) : RunOnly s (t.wrsvNext g e) := by
  unfold State.wrsvNext
  split
  · split
    · extract_lets _
      exact .ite h.modG h
    · exact .ite h h.raise
  · exact h

end Sys2Proof.Machine
end

section
/-! A vector boundary (02_vector_sequencer.md R37, R59, R77, R80, R85). -/
namespace Sys2Proof.Machine
variable {s t u : State} {g : Fin 24}

/-- The group once the vector that ends at a ball time is counted. -/
def Group.counted (x : Group) (seen : List CmpEdge) (own : BeatSrc) (b : Nat) (p : List PatEntry) : Group :=
  { x with cmIn := cmpKeep seen (b - 20000), expect := (own :: x.expect).take 64, vcnt := (x.vcnt + 1) % 2 ^ 56, lastEnd := b, pipe := p }

section
variable {e : PatEntry} {rest : List PatEntry} {cm : List CmpEdge} {ups : List Nat} {uf : List (Nat × BitVec 8)}

/-- A vector: everything it reaches, then its count, then the trigger it sends. -/
theorem runVector_counts : ∃ u seen own, RunOnly (s.at_ (e.bs + e.done * e.period)) u ∧ s.runVector g e rest cm ups =
    (u.modG g (fun x => x.counted seen own (e.bs + e.done * e.period + e.period) (e.advance rest))).fireTrig g e.word
      (e.bs + e.done * e.period + e.period) := by
  unfold State.runVector
  extract_lets _ _ x1 x2 x3 x4 x5 _ _ _ x6 _ _ x7 x8 _ _ x9 x10 _ x11 x12 x13 x14
  have hx1 : RunOnly (s.at_ (e.bs + e.done * e.period)) x1 := (RunOnly.refl _).deliver
  have hx2 : RunOnly (s.at_ (e.bs + e.done * e.period)) x2 := .ite hx1.modG hx1
  have hx5 : RunOnly (s.at_ (e.bs + e.done * e.period)) x5 := hx2.showPause.fdWord.showFd
  have hx6 : RunOnly (s.at_ (e.bs + e.done * e.period)) x6 := hx5.driveVector
  have hx7 : RunOnly (s.at_ (e.bs + e.done * e.period)) x7 := .ite hx6.raise hx6
  have hx8 : RunOnly (s.at_ (e.bs + e.done * e.period)) x8 := hx7.wrsvNext
  have hx9 : RunOnly (s.at_ (e.bs + e.done * e.period)) x9 := .ite hx8.used hx8
  have hx12 : RunOnly (s.at_ (e.bs + e.done * e.period)) x12 := hx9.storeResult.storeArrival.fcuVector.apgAdvance
  exact ⟨x13, _, _, .ite hx12.apgRestore hx12, rfl⟩

theorem fireTrig_g (w : PatWord) (n : Nat) (k : Fin 24) : (s.fireTrig g w n).g k = s.g k := by
  unfold State.fireTrig
  split
  · rfl
  · dsimp only
    split <;> rw [State.modC_g_eq]

theorem exec_vectorStart (hr : s.running g = true) (hp : (s.g g).pipe = e :: rest)
    (hb : s.abortOver g (e.bs + e.done * e.period) (s.boundaryOf g e) = .vector) : exec (.vectorStart g cm uf ups) s =
      .next (((s.tally (g.val / 4) (8 + g.val % 4) 1).setUf g uf).runVector g e rest cm ups) := by
  show execVectorStart g cm uf ups s = _
  unfold execVectorStart
  rw [if_neg (by simp [hr]), hp]
  dsimp only
  rw [hb]

theorem exec_vectorStart_stop {st code : Nat} (hr : s.running g = true) (hp : (s.g g).pipe = e :: rest)
    (hb : s.abortOver g (e.bs + e.done * e.period) (s.boundaryOf g e) = .stop st code) : exec (.vectorStart g cm uf ups) s =
      .next (s.endRun g st code e.loc (e.bs + e.done * e.period)) := by
  show execVectorStart g cm uf ups s = _
  unfold execVectorStart
  rw [if_neg (by simp [hr]), hp]
  dsimp only
  rw [hb]

theorem RunOnly.setUf (h : RunOnly s t) : RunOnly s (t.setUf g uf) := .ite h h.modG

theorem vectorStart_runs (hr : s.running g = true) (hp : (s.g g).pipe = e :: rest)
    (hb : s.abortOver g (e.bs + e.done * e.period) (s.boundaryOf g e) = .vector) :
    After (.vectorStart g cm uf ups) s (fun t =>
      (t.g g).lastEnd = e.bs + e.done * e.period + e.period ∧ (t.g g).pipe = e.advance rest ∧
      s.now ≤ t.now ∧ e.bs + e.done * e.period ≤ t.now) := by
  have hn : ((s.tally (g.val / 4) (8 + g.val % 4) 1).setUf g uf).now = s.now := (RunOnly.setUf (RunOnly.refl s).tally).now
  obtain ⟨u, seen, own, hu, he⟩ := runVector_counts (s := (s.tally (g.val / 4) (8 + g.val % 4) 1).setUf g uf) (g := g)
    (e := e) (rest := rest) (cm := cm) (ups := ups)
  have hl : (((u.modG g (fun x => x.counted seen own (e.bs + e.done * e.period + e.period) (e.advance rest))).fireTrig g e.word
      (e.bs + e.done * e.period + e.period))).now = max s.now (e.bs + e.done * e.period) := by
    rw [(RunOnly.refl _).fireTrig.now, State.modG_now, hu.now, State.at_now, hn]
  refine ⟨_, (exec_vectorStart hr hp hb).trans (congrArg _ he), ?_, ?_, ?_, ?_⟩
  · rw [fireTrig_g, State.modG_g_same, Group.counted]
  · rw [fireTrig_g, State.modG_g_same, Group.counted]
  · rw [hl]
    exact le_max_left _ _
  · rw [hl]
    exact le_max_right _ _

theorem vectorStart_ends (hr : s.running g = true) (hp : (s.g g).pipe = e :: rest) (st code : Nat)
    (hb : s.abortOver g (e.bs + e.done * e.period) (s.boundaryOf g e) = .stop st code) (hs : st < 8) (hc : code < 256) :
    After (.vectorStart g cm uf ups) s (fun t => t.vstat g = st ∧ (t.g g).pipe = [] ∧ (t.g g).fdq = [] ∧
      (st = 4 → t.flag (R.VSQ_CAUSE g) F.VSQ_CAUSE_DONE = true) ∧
      (code ≠ 0 → t.fld (R.VSQ_FAULT g) F.VSQ_FAULT_CODE = code ∧ t.flag (R.VSQ_CAUSE g) F.VSQ_CAUSE_FAULT = true) ∧
      t.lines = s.lines) := by
  have h := Shows.tellGang (n := e.bs + e.done * e.period) (d := (s.g g).didx)
    (endQuiet_shows (s := s) (g := g) (n := e.bs + e.done * e.period) e.loc hs hc)
  have ht := tellGang_only (s := s.endQuiet g st code e.loc (e.bs + e.done * e.period)) (g := g) (e.bs + e.done * e.period) (s.g g).didx
  obtain ⟨hpipe, hfd⟩ := endQuiet_group (s := s) (g := g) st code (e.bs + e.done * e.period) e.loc
  refine ⟨_, exec_vectorStart_stop hr hp hb, h.stat, ?_, ?_, h.done, h.fault, ?_⟩
  · rw [State.endRun, ht.self, hpipe]
  · rw [State.endRun, ht.self, hfd]
  · rw [State.endRun, ht.lines, endQuiet_lines]

end

/-- Settles O10: the vector that starts is the last thing `runVector` counts (`runVector_counts`), and a run that ends shows its
state and fault (`endQuiet_shows`). -/
theorem vectorBoundaryRunsOrEnds : Obligations.VectorBoundaryRunsOrEnds := fun _ _ _ _ _ _ _ hr hp =>
  ⟨vectorStart_runs hr hp, vectorStart_ends hr hp⟩

end Sys2Proof.Machine
end

section
/-! Edge stamps, the fabric data queue and the fail port (04_pin_channels.md R143 to R153). -/
namespace Sys2Proof.Machine
variable {s t u : State} {g : Fin 24}

/-! ### The record of a transition (R144, R146) -/

theorem stampRecord_bits {n pin : Nat} (hn : n < 2 ^ 48) (hp : pin < 32) (cml rising miss lost run : Bool) :
    let r := stampRecord n pin cml rising miss lost run
    bitsOf r.toNat 0 48 = n ∧ bitsOf r.toNat 48 5 = pin ∧ r.getLsbD 53 = cml ∧ r.getLsbD 54 = rising ∧ r.getLsbD 55 = miss ∧
      r.getLsbD 56 = lost ∧ r.getLsbD 63 = true := by
  have hb : ∀ b : Bool, b2n b ≤ 1 := fun b => by cases b <;> decide
  have h1 := hb cml
  have h2 := hb rising
  have h3 := hb miss
  have h4 := hb lost
  have h5 := hb run
  have ht : (stampRecord n pin cml rising miss lost run).toNat = n + pin * 2 ^ 48 + b2n cml * 2 ^ 53 + b2n rising * 2 ^ 54 +
      b2n miss * 2 ^ 55 + b2n lost * 2 ^ 56 + b2n run * 2 ^ 57 + 2 ^ 63 := by
    rw [stampRecord, BitVec.toNat_ofNat, Nat.mod_eq_of_lt hn]
    exact Nat.mod_eq_of_lt (by omega)
  have hbit : ∀ (i : Nat) (b : Bool), (stampRecord n pin cml rising miss lost run).toNat / 2 ^ i % 2 = b2n b →
      (stampRecord n pin cml rising miss lost run).getLsbD i = b := by
    intro i b h
    rw [BitVec.getLsbD, Nat.testBit_eq_decide_div_mod_eq, h]
    cases b <;> rfl
  dsimp only
  rw [ht] at hbit
  refine ⟨?_, ?_, hbit _ _ ?_, hbit _ _ ?_, hbit _ _ ?_, hbit _ _ ?_, hbit _ true ?_⟩
  · rw [ht, bitsOf]; omega
  · rw [ht, bitsOf]; omega
  · omega
  · omega
  · omega
  · omega
  · show _ = 1
    omega

theorem unsignedOf_lt (w : Nat) (v : Int) : unsignedOf w v < 2 ^ w := by
  have h := Int.emod_lt_of_pos v (show (0 : Int) < ((2 ^ w : Nat) : Int) by positivity)
  have h0 := Int.emod_nonneg v (show ((2 ^ w : Nat) : Int) ≠ 0 by positivity)
  unfold unsignedOf
  omega

/-! ### The stamp queue (R148) -/

theorem OnlyGroup.showStamps {as : List Nat} (h : OnlyGroup g as s t) (hs : R.CH_STSTAT g ∈ as) : OnlyGroup g as s (t.showStamps g) :=
  h.setF hs

theorem OnlyGroup.stampsTo {as : List Nat} {n : Nat} (h : OnlyGroup g as s t) (hs : R.CH_STSTAT g ∈ as) :
    OnlyGroup g as s (t.stampsTo g n) := OnlyGroup.showStamps h.modG hs

theorem OnlyGroup.lines {as : List Nat} (h : OnlyGroup g as s t) : t.lines = s.lines := by rw [h.1]

theorem OnlyGroup.latch {as : List Nat} (h : OnlyGroup g as s t) : t.latch = s.latch := by rw [h.1]

theorem OnlyGroup.fld {as : List Nat} (h : OnlyGroup g as s t) {a : Nat} (ha : a ∉ as) (f : Fld) : t.fld a f = s.fld a f := by
  rw [State.fld, h.rd ha, State.fld]

theorem showStamps_g (k : Fin 24) : (s.showStamps g).g k = s.g k := State.setF_g_eq _ _ _ _ _

theorem showStamps_count : (s.showStamps g).fld (R.CH_STSTAT g) F.CH_STSTAT_COUNT = (s.g g).stampQ.length % 2 ^ 13 :=
  State.setF_fld_same _ _ _ _ (by decide)

theorem stampsTo_count (n : Nat) :
    (s.stampsTo g n).fld (R.CH_STSTAT g) F.CH_STSTAT_COUNT = ((s.stampsTo g n).g g).stampQ.length % 2 ^ 13 := by
  rw [State.stampsTo, showStamps_count, showStamps_g]

/-- The machine as a transition at a fine time finds it. -/
def State.stampAt (s : State) (g : Fin 24) (time : Nat) : State := (s.at_ time).stampsTo g time

theorem onlyGroup_stampAt (time : Nat) : OnlyGroup g [R.CH_STSTAT g] s (s.stampAt g time) :=
  OnlyGroup.stampsTo (OnlyGroup.refl g _ s).at_ (by simp)

/-- A stamper of the group becomes st. -/
def Group.setStamper (x : Group) (l : Fin 64) (st : Stamper) : Group := { x with stampers := x.stampers.set l st }

theorem setStamper_get (x : Group) (l : Fin 64) (st : Stamper) : (x.setStamper l st).stampers[l] = st := by
  show (x.stampers.set l st)[l.val] = st
  exact Vector.getElem_set_self _

section
variable {p : Fin 32} {cml rising : Bool} {time : Nat}

theorem edgeStamp_unfold (hs : s.stamping g p cml rising = true) : exec (.edgeStamp g p cml rising time) s =
    (let u := s.stampAt g time
     let l := stampLane p cml
     let st := (u.g g).stampers[l]
     if (match st.last with | none => false | some n => decide (time < n + ns)) then
       .next (u.modG g (fun x => x.setStamper l { st with miss := true }))
     else
       let dsk := u.fld (R.CH_PIN_DSKRX g p) (if cml then F.CH_PIN_DSKRX_CML else F.CH_PIN_DSKRX_CMH)
       if 16 ≤ st.buf.length ∨ 4096 ≤ (u.g g).stampQ.length then
         .next (((u.modG g (fun x => x.setStamper l { st with last := some time, miss := false, lost := true })).bump
           (R.CH_STLOST_CNT g) F.CH_STLOST_CNT_COUNT 1).raise (R.CH_CAUSE g) F.CH_CAUSE_STLOST)
       else
         .next (u.modG g (fun x => x.setStamper l ⟨some time, false, false, st.buf ++
           [stampRecord (unsignedOf 48 ((time : Int) - signedOf 16 dsk)) p cml rising st.miss st.lost (u.running g)]⟩))) := by
  show execEdgeStamp g p cml rising time s = _
  unfold execEdgeStamp
  rw [if_neg (by simp [hs])]
  rfl

/-- The last transition of a stamper is less than 1 ns back (R144). -/
def Stamper.tooSoon (st : Stamper) (time : Nat) : Bool := match st.last with | none => false | some n => decide (time < n + ns)

theorem tooSoon_of_lt {st : Stamper} {n : Nat} (h : st.last = some n) (hn : time < n + ns) : st.tooSoon time = true := by
  rw [Stamper.tooSoon, h]
  exact decide_eq_true hn

theorem not_tooSoon {st : Stamper} (h : ∀ n, st.last = some n → n + ns ≤ time) : st.tooSoon time = false := by
  unfold Stamper.tooSoon
  split
  · rfl
  · exact decide_eq_false (by have := h _ ‹_›; omega)

theorem dskrx_notin : R.CH_PIN_DSKRX g p ∉ [R.CH_STSTAT g] := by
  simp only [List.mem_singleton]
  unfold R.CH_PIN_DSKRX R.CH_STSTAT
  omega

theorem edgeStamp_stamps (hs : s.stamping g p cml rising = true)
    (hl : ∀ x, ((s.stampAt g time).g g).stampers[stampLane p cml].last = some x → x + ns ≤ time)
    (hb : ((s.stampAt g time).g g).stampers[stampLane p cml].buf.length < 16) (hq : ((s.stampAt g time).g g).stampQ.length < 4096) :
    After (.edgeStamp g p cml rising time) s (fun t => t.lines = s.lines ∧ (∀ k, k ≠ g → t.g k = s.g k) ∧
      (t.g g).stampQ = ((s.stampAt g time).g g).stampQ ∧
      ∃ r, (t.g g).stampers[stampLane p cml] =
          ⟨some time, false, false, ((s.stampAt g time).g g).stampers[stampLane p cml].buf ++ [r]⟩ ∧
        bitsOf r.toNat 0 48 = unsignedOf 48 (time -
          signedOf 16 (s.fld (R.CH_PIN_DSKRX g p) (if cml then F.CH_PIN_DSKRX_CML else F.CH_PIN_DSKRX_CMH))) ∧
        bitsOf r.toNat 48 5 = p.val ∧ r.getLsbD 53 = cml ∧ r.getLsbD 54 = rising ∧
        r.getLsbD 55 = ((s.stampAt g time).g g).stampers[stampLane p cml].miss ∧
        r.getLsbD 56 = ((s.stampAt g time).g g).stampers[stampLane p cml].lost ∧ r.getLsbD 63 = true) := by
  have ho := onlyGroup_stampAt (s := s) (g := g) time
  refine ⟨_, (edgeStamp_unfold hs).trans ((if_neg ?_).trans (if_neg ?_)), ?_, fun k hk => ?_, ?_,
    stampRecord (unsignedOf 48 ((time : Int) - signedOf 16 ((s.stampAt g time).fld (R.CH_PIN_DSKRX g p)
      (if cml then F.CH_PIN_DSKRX_CML else F.CH_PIN_DSKRX_CMH)))) p cml rising
      ((s.stampAt g time).g g).stampers[stampLane p cml].miss ((s.stampAt g time).g g).stampers[stampLane p cml].lost
      ((s.stampAt g time).running g), ?_, ?_⟩
  · have := not_tooSoon hl
    simpa [Stamper.tooSoon] using this
  · omega
  · rw [State.modG_lines, ho.lines]
  · rw [State.modG_g_other _ _ _ _ hk, ho.other hk]
  · rw [State.modG_g_same, Group.setStamper]
  · rw [State.modG_g_same, setStamper_get]
  · rw [ho.fld dskrx_notin]
    exact stampRecord_bits (unsignedOf_lt 48 _) p.isLt _ _ _ _ _

theorem edgeStamp_misses {x : Nat} (hs : s.stamping g p cml rising = true)
    (hl : ((s.stampAt g time).g g).stampers[stampLane p cml].last = some x) (hx : time < x + ns) :
    After (.edgeStamp g p cml rising time) s (fun t =>
      (t.g g).stampers[stampLane p cml] = { ((s.stampAt g time).g g).stampers[stampLane p cml] with miss := true } ∧
      (t.g g).stampQ = ((s.stampAt g time).g g).stampQ) := by
  refine ⟨_, (edgeStamp_unfold hs).trans (if_pos (tooSoon_of_lt hl hx)), ?_, ?_⟩
  · rw [State.modG_g_same, setStamper_get]
  · rw [State.modG_g_same, Group.setStamper]

theorem edgeStamp_loses (hs : s.stamping g p cml rising = true)
    (hl : ∀ x, ((s.stampAt g time).g g).stampers[stampLane p cml].last = some x → x + ns ≤ time)
    (hb : 16 ≤ ((s.stampAt g time).g g).stampers[stampLane p cml].buf.length) :
    After (.edgeStamp g p cml rising time) s (fun t =>
      (t.g g).stampers[stampLane p cml] =
        { ((s.stampAt g time).g g).stampers[stampLane p cml] with last := some time, miss := false, lost := true } ∧
      t.flag (R.CH_CAUSE g) F.CH_CAUSE_STLOST = true ∧
      t.fld (R.CH_STLOST_CNT g) F.CH_STLOST_CNT_COUNT = min (s.fld (R.CH_STLOST_CNT g) F.CH_STLOST_CNT_COUNT + 1) (2 ^ 32 - 1)) := by
  have ho := onlyGroup_stampAt (s := s) (g := g) time
  have hc : R.CH_STLOST_CNT g ≠ R.CH_CAUSE g := by unfold R.CH_STLOST_CNT R.CH_CAUSE; omega
  have hn : R.CH_STLOST_CNT g ∉ [R.CH_STSTAT g] := by
    simp only [List.mem_singleton]
    unfold R.CH_STLOST_CNT R.CH_STSTAT
    omega
  refine ⟨_, (edgeStamp_unfold hs).trans ((if_neg ?_).trans (if_pos (.inl hb))), ?_, State.raise_flag _ _ _ (by decide) rfl, ?_⟩
  · have := not_tooSoon hl
    simpa [Stamper.tooSoon] using this
  · rw [State.raise_eq, State.bump_eq, State.setF_g_eq, State.setF_g_eq, State.modG_g_same, setStamper_get]
  · rw [State.raise_eq, State.setF_fld_other _ _ _ _ _ _ (.inl hc), State.bump_eq, State.setF_fld_same _ _ _ _ (by decide),
      State.modG_fld, ho.fld hn]
    exact Nat.mod_eq_of_lt (show min _ (2 ^ 32 - 1) < 2 ^ 32 by omega)

end

/-! ### Reads and the flush (R147, R149) -/

theorem setLatch_g (a : Nat) (v : Word) (k : Fin 24) : (s.setLatch a v).g k = s.g k := rfl

theorem setLatch_get (a : Nat) (v : Word) : Sparse.get resetOf (s.setLatch a v).latch a = v := Sparse.get_put_same _ _ _ _

theorem answer_latch (r : Resp) (l : List Nat) : (s.answer r l).latch = s.latch := rfl

theorem exec_stampLoRead (debug : Bool) : exec (.stampLoRead g debug) s =
    .next ((if debug then s.stampsTo g s.now else (s.stampsTo g s.now).setLatch (R.CH_STAMP_HI g)
      (BitVec.ofNat 32 ((((s.stampsTo g s.now).g g).stampQ.headD 0).toNat / 4294967296))).answer .ok
      (leBytes 4 (((s.stampsTo g s.now).g g).stampQ.headD 0).toNat)) := rfl

theorem stampLoRead_reads (debug : Bool) : After (.stampLoRead g debug) s (fun t =>
    t.reply = ⟨some .ok, leBytes 4 (((s.stampsTo g s.now).g g).stampQ.headD 0).toNat⟩ ∧
    (t.g g).stampQ = ((s.stampsTo g s.now).g g).stampQ ∧ (debug = false →
      (Sparse.get resetOf t.latch (R.CH_STAMP_HI g)).toNat = (((s.stampsTo g s.now).g g).stampQ.headD 0).toNat / 2 ^ 32)) := by
  refine ⟨_, exec_stampLoRead debug, rfl, ?_, fun h => ?_⟩
  · rw [State.answer_g_eq]
    split
    · rfl
    · rw [setLatch_g]
  · rw [if_neg (by simp [h]), answer_latch, setLatch_get, BitVec.toNat_ofNat]
    have := (((s.stampsTo g s.now).g g).stampQ.headD 0).isLt
    omega

theorem stampHiRead_reads (debug : Bool) : After (.stampHiRead g debug) s (fun t =>
    t.reply = ⟨some .ok, leBytes 4 (if debug then (((s.stampsTo g s.now).g g).stampQ.headD 0).toNat / 2 ^ 32
      else (Sparse.get resetOf s.latch (R.CH_STAMP_HI g)).toNat)⟩ ∧
    (t.g g).stampQ = (if debug then ((s.stampsTo g s.now).g g).stampQ else ((s.stampsTo g s.now).g g).stampQ.tail) ∧
    t.fld (R.CH_STSTAT g) F.CH_STSTAT_COUNT = (t.g g).stampQ.length % 2 ^ 13) := by
  have ho : OnlyGroup g [R.CH_STSTAT g] s (s.stampsTo g s.now) := (OnlyGroup.refl g _ s).stampsTo (by simp)
  have hl : (s.stampsTo g s.now).latch = s.latch := ho.latch
  cases debug with
  | true => exact ⟨_, rfl, rfl, by rw [State.answer_g_eq, if_pos rfl], by rw [State.answer_fld, State.answer_g_eq, stampsTo_count]⟩
  | false =>
    refine ⟨_, rfl, ?_, ?_, ?_⟩
    · rw [hl]
      rfl
    · rw [State.answer_g_eq, showStamps_g, State.modG_g_same]
      rfl
    · rw [State.answer_fld, showStamps_count, State.answer_g_eq, showStamps_g]

/-- The group once queue and buffers are emptied. -/
def Group.flushed (x : Group) (n : Nat) : Group :=
  { x with stampQ := [], stampNs := max x.stampNs (n / ns), stampers := Vector.ofFn (fun l => { x.stampers[l] with buf := [] }) }

theorem flushed_buf (x : Group) (n : Nat) (l : Fin 64) : (x.flushed n).stampers[l].buf = [] := by
  show (Vector.ofFn (fun l : Fin 64 => ({ x.stampers[l] with buf := [] } : Stamper)))[l.val].buf = []
  rw [Vector.getElem_ofFn]

theorem exec_stampFlush : exec (.stampFlush g) s =
    .next (((s.modG g (fun x => x.flushed s.now)).wr (R.CH_STLOST_CNT g) 0).showStamps g) := rfl

theorem stampFlush_empties : After (.stampFlush g) s (fun t => OnlyGroup g [R.CH_STLOST_CNT g, R.CH_STSTAT g] s t ∧
    (t.g g).stampQ = [] ∧ (∀ l : Fin 64, (t.g g).stampers[l].buf = []) ∧ t.rd (R.CH_STLOST_CNT g) = 0 ∧
    t.fld (R.CH_STSTAT g) F.CH_STSTAT_COUNT = 0) := by
  have hg : ((((s.modG g (fun x => x.flushed s.now)).wr (R.CH_STLOST_CNT g) 0).showStamps g).g g) = (s.g g).flushed s.now := by
    rw [showStamps_g, State.wr_g_eq, State.modG_g_same]
  have hc : R.CH_STLOST_CNT g ≠ R.CH_STSTAT g := by unfold R.CH_STLOST_CNT R.CH_STSTAT; omega
  refine ⟨_, exec_stampFlush, OnlyGroup.showStamps (OnlyGroup.wr (OnlyGroup.refl g _ s).modG (by simp)) (by simp), ?_, fun l => ?_, ?_, ?_⟩
  · rw [hg, Group.flushed]
  · rw [hg, flushed_buf]
  · rw [State.showStamps, State.setF_rd_other _ _ _ _ _ hc, State.wr_rd_same]
  · rw [showStamps_count, State.wr_g_eq, State.modG_g_same, Group.flushed]
    rfl

/-- Settles O13: a transition finds the queue as it stands at its time (`edgeStamp_unfold`), and its record holds what R146 names
(`stampRecord_bits`). -/
theorem edgeStampsQueueAndRead : Obligations.EdgeStampsQueueAndRead := fun _ _ _ _ _ _ =>
  ⟨fun hs _ => ⟨edgeStamp_stamps hs, fun _ => edgeStamp_misses hs, edgeStamp_loses hs⟩, stampLoRead_reads, stampHiRead_reads,
    stampFlush_empties⟩

/-! ### Fabric data and fail ports (R151 to R153) -/

theorem showFd_level (h : (s.g g).fdq.length < 128) :
    (s.showFd g).fld (R.CH_GSTAT g) F.CH_GSTAT_FDLEVEL = (s.g g).fdq.length := by
  rw [State.showFd, State.setF_fld_same _ _ _ _ (by decide)]
  exact Nat.mod_eq_of_lt h

theorem OnlyGroup.showFd {as : List Nat} (h : OnlyGroup g as s t) (ha : R.CH_GSTAT g ∈ as) : OnlyGroup g as s (t.showFd g) := h.setF ha

theorem showFd_g (k : Fin 24) : (s.showFd g).g k = s.g k := State.setF_g_eq _ _ _ _ _

theorem fabricDataWord_queues {w : BitVec 1024} (hf : s.fdFenced g = false) (hl : (s.g g).fdq.length < 64) :
    After (.fabricDataWord g w) s (fun t => OnlyGroup g [R.CH_GSTAT g] s t ∧ t.g g = { s.g g with fdq := (s.g g).fdq ++ [w] } ∧
      t.fld (R.CH_GSTAT g) F.CH_GSTAT_FDLEVEL = (s.g g).fdq.length + 1) := by
  refine ⟨_, (if_neg (by simp [hf])).trans (if_neg (by omega)), OnlyGroup.showFd (OnlyGroup.refl g _ s).modG (by simp), ?_, ?_⟩
  · rw [showFd_g, State.modG_g_same]
  · rw [showFd_level, State.modG_g_same, List.length_append, List.length_singleton]
    rw [State.modG_g_same, List.length_append, List.length_singleton]
    omega

theorem fabricDataWord_overflows {w : BitVec 1024} (hf : s.fdFenced g = false) (hl : 64 ≤ (s.g g).fdq.length) :
    After (.fabricDataWord g w) s (fun t => OnlyRegs [R.CH_CAUSE g] s t ∧ t.flag (R.CH_CAUSE g) F.CH_CAUSE_FOVER = true) :=
  ⟨_, (if_neg (by simp [hf])).trans (if_pos hl), (OnlyRegs.refl _ s).setF (by simp), State.raise_flag _ _ _ (by decide) rfl⟩

section
variable {b : Nat} (hr : s.running g = true) (he : s.flag (R.CH_GCTRL g) F.CH_GCTRL_FDEN = true)
  (hb : ballOf (s.g g).pipe ((s.g g).dec.bind (fun d => d.dp)) (s.g g).fdTaken.length = some b)
include hr he hb

theorem exec_fabricDataTake : exec (.fabricDataTake g) s = .next (((s.at_ (b - 24 * ns)).fdTake g).showFd g) := by
  show execFabricDataTake g s = _
  unfold execFabricDataTake
  dsimp only
  rw [if_pos (by simp [hr, he]), hb]

theorem fabricDataTake_takes {v : BitVec 1024} {rest : List (BitVec 1024)} (hq : (s.g g).fdq = v :: rest) (hl : rest.length < 64) :
    After (.fabricDataTake g) s (fun t => OnlyGroup g [R.CH_GSTAT g] s t ∧ t.now = max s.now (b - 24 * ns) ∧
      t.g g = { s.g g with fdq := rest, fdTaken := (s.g g).fdTaken ++ [v] } ∧
      t.fld (R.CH_GSTAT g) F.CH_GSTAT_FDLEVEL = rest.length) := by
  have ht : (s.at_ (b - 24 * ns)).fdTake g = (s.at_ (b - 24 * ns)).modG g (fun x => { x with fdq := rest, fdTaken := x.fdTaken ++ [v] }) := by
    rw [State.fdTake, State.atT_g_eq, hq]
  have hq' : (((s.at_ (b - 24 * ns)).modG g (fun x => { x with fdq := rest, fdTaken := x.fdTaken ++ [v] })).g g).fdq = rest := by
    rw [State.modG_g_same]
  refine ⟨_, exec_fabricDataTake hr he hb, ?_, ?_, ?_, ?_⟩ <;> rw [ht]
  · exact OnlyGroup.showFd (OnlyGroup.refl g _ s).at_.modG (by simp)
  · rw [State.showFd, State.setF_now, State.modG_now, State.at_now]
  · rw [showFd_g, State.modG_g_same, State.atT_g_eq]
  · rw [showFd_level, hq']
    rw [hq']
    omega

theorem fabricDataTake_underruns (hq : (s.g g).fdq = []) :
    After (.fabricDataTake g) s (fun t => OnlyGroup g [R.CH_GSTAT g, R.CH_FUNDER_CNT g, R.CH_CAUSE g] s t ∧
      (t.g g).fdTaken = (s.g g).fdTaken ++ [0] ∧ t.flag (R.CH_CAUSE g) F.CH_CAUSE_FUNDER = true ∧
      t.fld (R.CH_FUNDER_CNT g) F.CH_FUNDER_CNT_COUNT =
        min (s.fld (R.CH_FUNDER_CNT g) F.CH_FUNDER_CNT_COUNT + 1) (2 ^ 32 - 1)) := by
  have h1 : R.CH_CAUSE g ≠ R.CH_GSTAT g := by unfold R.CH_CAUSE R.CH_GSTAT; omega
  have h2 : R.CH_FUNDER_CNT g ≠ R.CH_GSTAT g := by unfold R.CH_FUNDER_CNT R.CH_GSTAT; omega
  have h3 : R.CH_FUNDER_CNT g ≠ R.CH_CAUSE g := by unfold R.CH_FUNDER_CNT R.CH_CAUSE; omega
  have ht : (s.at_ (b - 24 * ns)).fdTake g = (((s.at_ (b - 24 * ns)).modG g (fun x => { x with fdTaken := x.fdTaken ++ [0] })).bump
      (R.CH_FUNDER_CNT g) F.CH_FUNDER_CNT_COUNT 1).raise (R.CH_CAUSE g) F.CH_CAUSE_FUNDER := by
    rw [State.fdTake, State.atT_g_eq, hq]
  refine ⟨_, exec_fabricDataTake hr he hb, ?_, ?_, ?_, ?_⟩ <;> rw [ht, State.raise_eq, State.bump_eq]
  · exact OnlyGroup.showFd (OnlyGroup.setF (OnlyGroup.setF (OnlyGroup.refl g _ s).at_.modG (by simp)) (by simp)) (by simp)
  · rw [showFd_g, State.setF_g_eq, State.setF_g_eq, State.modG_g_same, State.atT_g_eq]
  · rw [State.showFd, State.flag, State.setF_fld_other _ _ _ _ _ _ (.inl h1), State.setF_fld_same _ _ _ _ (by decide)]
    rfl
  · rw [State.showFd, State.setF_fld_other _ _ _ _ _ _ (.inl h2), State.setF_fld_other _ _ _ _ _ _ (.inl h3),
      State.setF_fld_same _ _ _ _ (by decide), State.modG_fld, State.atT_fld]
    exact Nat.mod_eq_of_lt (show min _ (2 ^ 32 - 1) < 2 ^ 32 by omega)

end

theorem failPortWord_sends {f : Nat × BitVec 1024 × Nat × Nat × Nat} {rest : List (Nat × BitVec 1024 × Nat × Nat × Nat)}
    (hf : (s.g g).ffStage = f :: rest) : After (.failPortWord g) s (fun t =>
      t = { s with now := max s.now f.1, out := .failWord g f.2.1 f.2.2.1 f.2.2.2.1 f.2.2.2.2 :: s.out, grp := t.grp } ∧
      (∀ k, k ≠ g → t.g k = s.g k) ∧ t.g g = { s.g g with ffStage := rest }) := by
  have he : exec (.failPortWord g) s = .next (((s.at_ f.1).modG g (fun x => { x with ffStage := rest })).emit
      (.failWord g f.2.1 f.2.2.1 f.2.2.2.1 f.2.2.2.2)) := by
    show execFailPortWord g s = _
    unfold execFailPortWord
    rw [hf]
  refine ⟨_, he, rfl, fun k hk => ?_, ?_⟩
  · rw [State.emit_g_eq, State.modG_g_other _ _ _ _ hk, State.atT_g_eq]
  · rw [State.emit_g_eq, State.modG_g_same, State.atT_g_eq]

/-- Settles O14: what a word, a take and a fail word do to the queue and to what shows it. -/
theorem fabricDataAndFailPort : Obligations.FabricDataAndFailPort := fun _ _ _ =>
  ⟨fabricDataWord_queues, fabricDataWord_overflows, fun _ _ _ hr he hb => fabricDataTake_takes hr he hb,
    fun _ hr he hb => fabricDataTake_underruns hr he hb, fun _ _ => failPortWord_sends⟩

end Sys2Proof.Machine
end

section
/-! Site masks and the clears of counters (05_fail_capture.md R161, R162, R166 to R169). -/
namespace Sys2Proof.Machine
variable {s t u : State} {g : Fin 24} {d : Fin 6}

/-! ### Site masks (R161, R162) -/

theorem siteMaskArrive_sets {site : Fin 256} {e : Nat × Nat} (he : (s.c d).maskTravel.find? (fun e => e.1 == site.val) = some e) :
    After (.siteMaskArrive d site) s (fun t => OnlyCapture d [R.FCD_SMASK d (e.1 / 32)] s t ∧ t.now = max s.now e.2 ∧
      t.rd (R.FCD_SMASK d (e.1 / 32)) = s.rd (R.FCD_SMASK d (e.1 / 32)) ||| (1#32 <<< (e.1 % 32)) ∧
      (t.c d).maskTravel = (s.c d).maskTravel.erase e ∧ (t.c d).maskEff = ⟨e.1, 24, e.2, e.2⟩ :: (s.c d).maskEff) := by
  have hx : exec (.siteMaskArrive d site) s = .next ((s.at_ e.2).maskArrive d e) := by
    show execSiteMaskArrive d site s = _
    unfold execSiteMaskArrive
    rw [he]
  refine ⟨_, hx, ?_, ?_, ?_, ?_⟩ <;> unfold State.maskArrive State.smaskSet
  · exact OnlyCapture.wr (OnlyCapture.refl d _ s).at_.modC (by simp)
  · rw [State.wr_now, State.modC_now, State.at_now]
  · rw [State.wr_rd_same, State.modC_rd, State.atT_rd]
  · rw [State.wr_c_eq, State.modC_c_same, State.atT_c_eq]
    exact ⟨rfl, rfl⟩

/-- The capture block with the mask bits written in effect from a time on. -/
def Capture.maskedFrom (c : Capture) (i n : Nat) (bits : BitVec 32) : Capture :=
  { c with maskEff := ((List.range 32).filter (fun b => bitOf bits.toNat b)).map (fun b => ⟨32 * i + b, 24, n, n⟩) ++ c.maskEff }

theorem mem_maskedFrom {c : Capture} {i n b : Nat} {bits : BitVec 32} (hb : b < 32) (h : bits.getLsbD b = true) :
    (⟨32 * i + b, 24, n, n⟩ : MaskEff) ∈ (c.maskedFrom i n bits).maskEff :=
  List.mem_append_left _ (List.mem_map.mpr ⟨b, List.mem_filter.mpr ⟨List.mem_range.mpr hb, h⟩, rfl⟩)

theorem exec_fcdSmaskWrite {i : Fin 8} {bits : BitVec 32} : exec (.fcdSmaskWrite d i bits) s = .next
    ((s.wr (R.FCD_SMASK d i) (s.rd (R.FCD_SMASK d i) ||| bits)).modC d (fun c => c.maskedFrom i (s.now + 40 * ns) bits)) := by
  show execFcdSmaskWrite d i bits s = _
  unfold execFcdSmaskWrite Capture.maskedFrom
  dsimp only
  rw [State.wr_now]

theorem fcdSmaskWrite_sets {i : Fin 8} {bits : BitVec 32} :
    After (.fcdSmaskWrite d i bits) s (fun t => OnlyCapture d [R.FCD_SMASK d i] s t ∧
      t.rd (R.FCD_SMASK d i) = s.rd (R.FCD_SMASK d i) ||| bits ∧
      ∀ b, b < 32 → bits.getLsbD b = true → (⟨32 * i.val + b, 24, s.now + 40 * ns, s.now + 40 * ns⟩ : MaskEff) ∈ (t.c d).maskEff) := by
  refine ⟨_, exec_fcdSmaskWrite, OnlyCapture.modC (OnlyCapture.wr (OnlyCapture.refl d _ s) (by simp)), ?_, fun b hb h => ?_⟩
  · rw [State.modC_rd, State.wr_rd_same]
  · rw [State.modC_c_same]
    exact mem_maskedFrom hb h

/-! ### Counters on their way reach their group and the sites of its die only (R166, R167) -/

/-- The fail capture of every other die is as before. -/
def OtherDies (d : Fin 6) (s t : State) : Prop := ∀ k, k ≠ d → t.c k = s.c k

namespace OtherDies

theorem refl (d : Fin 6) (s : State) : OtherDies d s s := fun _ _ => rfl

theorem modG {k : Fin 24} {f : Group → Group} (h : OtherDies d s t) : OtherDies d s (t.modG k f) := h
theorem setF {a x : Nat} {f : Fld} (h : OtherDies d s t) : OtherDies d s (t.setF a f x) := h

theorem modC {f : Capture → Capture} (h : OtherDies d s t) : OtherDies d s (t.modC d f) := fun k hk => by
  rw [State.modC_c_other _ _ _ _ hk, h k hk]

theorem ite {c : Prop} [Decidable c] (h : OtherDies d s t) (k : OtherDies d s u) : OtherDies d s (if c then t else u) := by
  split
  · exact h
  · exact k

theorem setSite {i : Nat} {c : Counter} (h : OtherDies d s t) : OtherDies d s (t.setSite d i c) := modC h
theorem setCnt {i : Nat} {c : Counter} (h : OtherDies d s t) : OtherDies d s (t.setCnt g i c) := modG h

theorem cntCauses {old new : Counter} (h : OtherDies d s t) : OtherDies d s (t.cntCauses g old new) := by
  have h1 : OtherDies d s (if new.sat && !old.sat then t.raise (R.FCU_CAUSE g) F.FCU_CAUSE_CSAT else t) := .ite (setF h) h
  exact .ite (setF h1) h1

theorem cntUpdate {i n : Nat} {bad : Bool} (h : OtherDies d s t) : OtherDies d s (t.cntUpdate g i n bad) := cntCauses (setCnt h)

theorem spoilAncestors {p : Nat} (h : OtherDies (dieOf g) s t) : OtherDies (dieOf g) s (t.spoilAncestors g p) := by
  have hs : OtherDies (dieOf g) s (t.cntSpoil g 32) := cntCauses (setCnt h)
  unfold State.spoilAncestors
  dsimp only
  split
  · exact hs
  · exact setSite hs

theorem applyInc {v : CntInc} (h : OtherDies (dieOf g) s t) : OtherDies (dieOf g) s (t.applyInc g v) := by
  have hp : OtherDies (dieOf g) s (forEach v.pins (fun pn s =>
      let bad := v.bad.contains pn.1 && !(s.cntAt g pn.1).inv
      let s := s.cntUpdate g pn.1 pn.2 bad
      if bad then s.spoilAncestors g pn.1 else s) t) :=
    forEach_induct h fun _ _ _ hu => .ite (spoilAncestors (cntUpdate hu)) (cntUpdate hu)
  exact forEach_induct (OtherDies.ite hp (cntUpdate hp)) fun _ _ _ hu => setSite hu

theorem settleCnt {n : Nat} (h : OtherDies (dieOf g) s t) : OtherDies (dieOf g) s (t.settleCnt g n) :=
  forEach_induct (modG h) fun _ _ _ hu => applyInc hu

end OtherDies

/-! ### Clears (R169) -/

theorem dieOf_of_mem {k : Fin 24} (h : k ∈ groupsOf d) : dieOf k = d := by
  have hd := d.isLt
  simp only [groupsOf, List.mem_cons, List.not_mem_nil, or_false] at h
  apply Fin.ext
  rcases h with rfl | rfl | rfl | rfl <;> simp only [dieOf] <;> omega

/-- Every increment on its way in a die's groups has reached its counters. -/
def State.settleDie (s : State) (d : Fin 6) : State := forEach (groupsOf d) (fun g s => s.settleCnt g s.now) s

theorem exec_clrsite (h : s.dieActive d = false) :
    exec (.clrsite d) s = .next ((s.settleDie d).modC d (fun c => { c with sitePart := [] })) := if_neg (by simp [h])

theorem settleDie_other : OtherDies d s (s.settleDie d) := forEach_induct (OtherDies.refl d s) fun k hk u hu => by
  rw [← dieOf_of_mem hk] at hu ⊢
  exact hu.settleCnt

theorem settleDie_runOnly : RunOnly s (s.settleDie d) := (RunOnly.refl s).forEach fun _ _ hu => hu.settleCnt

theorem clrsite_clears (h : s.dieActive d = false) : After (.clrsite d) s (fun t => (t.c d).sitePart = [] ∧
    t.lines = s.lines ∧ ∀ k, k ≠ d → t.c k = s.c k) := by
  refine ⟨_, exec_clrsite h, ?_, ?_, fun k hk => ?_⟩
  · rw [State.modC_c_same]
  · rw [State.modC_lines, settleDie_runOnly.lines]
  · rw [State.modC_c_other _ _ _ _ hk, settleDie_other k hk]

theorem clrsite_refused (h : s.dieActive d = true) : After (.clrsite d) s (fun t => OnlyRegs [R.FCD_STAT d] s t ∧
    t.flag (R.FCD_STAT d) F.FCD_STAT_CMDERR = true) :=
  ⟨_, if_pos h, (OnlyRegs.refl _ s).setF (by simp), State.raise_flag _ _ _ (by decide) rfl⟩

theorem clrcnt_clears (h : s.active g = false) : After (.clrcnt g) s (fun t =>
    (t.g g).cnt = Vector.replicate 33 Counter.zero ∧ t.lines = s.lines ∧ ∀ k, k ≠ g → t.g k = s.g k) := by
  have hu : UnitsOnly g s (s.clearCounters g) := (UnitsOnly.refl s).clearCounters
  refine ⟨_, if_neg (by simp [h]), ?_, ?_, hu.others⟩
  · rw [State.clearCounters, State.modG_g_same]
  · rw [State.clearCounters, State.modG_lines, (RunOnly.refl s).settleCnt.lines]

theorem group_clears_refused (h : s.active g = true) {c : Instr} (hc : c ∈ [Instr.clrcnt g, .lreset g, .creset g]) :
    After c s (fun t => OnlyRegs [R.VSQ_CAUSE g] s t ∧ t.flag (R.VSQ_CAUSE g) F.VSQ_CAUSE_CMDERR = true) := by
  have he : exec c s = .next (s.vsqCmdErr g) := by
    simp only [List.mem_cons, List.not_mem_nil, or_false] at hc
    rcases hc with rfl | rfl | rfl <;> exact if_pos h
  exact ⟨_, he, (OnlyRegs.refl _ s).setF (by simp), State.raise_flag _ _ _ (by decide) rfl⟩

/-- Settles O15: mask bits by `maskArrive` and `mem_maskedFrom`; a clear settles what is on its way first (`OtherDies.settleCnt`). -/
theorem siteMasksAndCounterClears : Obligations.SiteMasksAndCounterClears := fun _ _ _ _ _ _ =>
  ⟨fun _ => siteMaskArrive_sets, fcdSmaskWrite_sets, clrsite_refused, clrsite_clears, clrcnt_clears,
    fun h _ => group_clears_refused h⟩

end Sys2Proof.Machine
end

section
/-! The log writer of a throttled group (05_fail_capture.md R173, R174; 12_memory_system.md R433). -/
namespace Sys2Proof.Machine

/-- A burst that activates row 0 of bank 3. -/
def activating : G6Env := ⟨[], 0, some (3, 0), false⟩

/-- Group 0 has a log record for memory at a READY port 0, where a burst of its writer on bank 3 took place at 0 and the writer
has been throttled. -/
def throttledLog : State :=
  (((((State.reset.setF (R.MEMP_CTRL 0) F.MEMP_CTRL_EXPD 1).setF (R.MEMP_STAT 0) F.MEMP_STAT_STATE 2).wr (R.PROM_REG_SIZE 0 0)
    1#32).setF (R.PROM_REG_CTRL 0 0) F.PROM_REG_CTRL_EN 1).setP 0
      { State.reset.p 0 with zeroed := true, throttled := [(0x44, 0, 3, 0)] }).modG 0 (fun x => { x with logBuf := [⟨1, 9, 5, 0⟩] })

/-- The time after a command. -/
def nowAfter (c : Instr) (s : State) : Nat := match exec c s with | .next t => t.now | _ => 0

/-- The record's write waits GAP, 100 ns after reset, past the take tick at 0. -/
theorem throttledLog_waits : nowAfter (.logTake 0 activating) throttledLog = 100 * ns ∧ throttledLog.logTickAt 0 = 0 := by decide

/-- Refutes O17: a take of the log writer ends later than its tick where the writer is throttled at its port (`throttledLog`), for the
write's activation waits GAP (12 R433), and the clock stands at that moment. -/
theorem not_recordsEnterAndLeaveTheirBuffers : ¬ Obligations.RecordsEnterAndLeaveTheirBuffers := by
  intro h
  obtain ⟨-, -, -, -, htake, -⟩ := h throttledLog 0 activating
  obtain ⟨t, ht, -, -, hn, -⟩ := htake ⟨1, 9, 5, 0⟩ [] rfl (by decide) (fun _ => rfl) (fun _ hx => by cases hx)
  obtain ⟨hw, h0⟩ := throttledLog_waits
  rw [nowAfter, ht] at hw
  rw [h0] at hn
  rw [show t.now = 100 * ns from hw] at hn
  exact absurd hn (by decide)

end Sys2Proof.Machine
end

section
/-! The repair analysis engine: commands, intake and clears (05_fail_capture.md R162; 06_repair_analysis.md R193 to R210). -/
namespace Sys2Proof.Machine
variable {s t u : State} {g : Fin 24} {d : Fin 6}

/-! ### Where nothing is on its way, nothing is delivered -/

/-- A loop of passes that change nothing changes nothing. -/
theorem forEach_id {α σ : Type} {l : List α} {f : α → σ → σ} {x : σ} (h : ∀ a ∈ l, f a x = x) : forEach l f x = x :=
  forEach_induct (P := fun y => y = x) rfl fun a ha y hy => by rw [hy, h a ha]

theorem settleCnt_of_none {n : Nat} (h : (s.g g).cntStage = []) : s.settleCnt g n = s := by
  have hm : s.modG g (fun x => { x with cntStage := x.cntStage.filter (fun v => !decide (v.be ≤ n)) }) = s := by
    refine State.modG_eq_self ?_
    generalize s.g g = x at h
    cases x
    cases h
    rfl
  unfold State.settleCnt
  dsimp only
  rw [hm, h]
  rfl

theorem raiseWrsv_of_none {n : Nat} (h : (s.g g).wrsv = []) : s.raiseWrsv g n = s := by
  rw [State.raiseWrsv, h]
  exact if_neg (by simp)

theorem deliverDie_of_none {n : Nat} (h : (s.c d).trigs = []) (hm : (s.c d).maskTravel = []) : s.deliverDie d n = s := by
  unfold State.deliverDie
  dsimp only
  rw [h, List.filter_nil, List.isEmpty_nil, if_pos rfl, hm]
  rfl

/-- Where nothing is on its way, no time delivers anything. -/
theorem Quiet.deliver (h : Quiet s) (n : Nat) : s.deliver n = s := by
  obtain ⟨hc, hg⟩ := h
  have hd : forEach (List.finRange 6) (fun d s => s.deliverDie d n) s = s :=
    forEach_id fun d _ => deliverDie_of_none (hc d).1 (hc d).2
  rw [State.deliver, hd]
  refine forEach_id fun g _ => ?_
  rw [raiseWrsv_of_none (hg g).1, settleCnt_of_none (hg g).2]

theorem Quiet.at_ (h : Quiet s) (n : Nat) : Quiet (s.at_ n) := h

/-! ### Commands and their cut (R206 to R210) -/

theorem Quiet.raeWritten (h : Quiet s) (op site : Nat) : s.raeWritten d op site = s.raeCommand d op site (s.now - 20 * ns) := by
  rw [State.raeWritten, h.deliver]

/-- Commands held: queued, and the one that runs. -/
def State.raeHeld (s : State) (d : Fin 6) : Nat := (s.c d).cmdQ.length + (if (s.c d).cmdRun.isSome then 1 else 0)

section
variable {op site cut : Nat}

theorem raeCommand_queues (h3 : op ≤ 3) (h1 : op = 1 → s.siteEn d site = true) (hl : s.raeHeld d < 4) :
    s.raeCommand d op site cut = s.modC d (fun c => { c with cmdQ := c.cmdQ ++ [⟨op, site, cut⟩] }) := by
  unfold State.raeHeld at hl
  rw [State.raeCommand, if_neg (by omega), if_neg (by rintro ⟨ho, hs⟩; simp [h1 ho] at hs), if_neg (by omega)]

theorem raeCommand_refuses (hs : s.siteEn d site = false) : s.raeCommand d 1 site cut = s.raeCmdErr d := by
  rw [State.raeCommand, if_neg (by decide), if_pos ⟨rfl, by simp [hs]⟩]

theorem raeCommand_loses (h3 : op ≤ 3) (h1 : op ≠ 1) (hl : 4 ≤ s.raeHeld d) :
    s.raeCommand d op site cut = (s.bump (R.RAE_CMDLOST_CNT d) F.RAE_CMDLOST_CNT_COUNT 1).raeCmdErr d := by
  unfold State.raeHeld at hl
  rw [State.raeCommand, if_neg (by omega), if_neg (fun h => h1 h.1), if_pos hl]

end

theorem queues_after {c : Instr} {op site : Nat} (hq : Quiet s) (hc : exec c s = .next (s.raeWritten d op site)) (h3 : op ≤ 3)
    (h1 : op = 1 → s.siteEn d site = true) (hl : s.raeHeld d < 4) : After c s (fun t => OnlyCapture d [] s t ∧
      t.c d = { s.c d with cmdQ := (s.c d).cmdQ ++ [⟨op, site, s.now - 20 * ns⟩] }) := by
  refine ⟨_, hc, ?_⟩
  rw [hq.raeWritten, raeCommand_queues h3 h1 hl]
  exact ⟨(OnlyCapture.refl d _ s).modC, State.modC_c_same _ _ _⟩

theorem loses_after {c : Instr} {op site : Nat} (hq : Quiet s) (hc : exec c s = .next (s.raeWritten d op site)) (h3 : op ≤ 3)
    (h1 : op ≠ 1) (hl : 4 ≤ s.raeHeld d) : After c s (fun t => OnlyRegs [R.RAE_CMDLOST_CNT d, R.RAE_CAUSE d] s t ∧
      t.flag (R.RAE_CAUSE d) F.RAE_CAUSE_CMDERR = true ∧ t.fld (R.RAE_CMDLOST_CNT d) F.RAE_CMDLOST_CNT_COUNT =
        min (s.fld (R.RAE_CMDLOST_CNT d) F.RAE_CMDLOST_CNT_COUNT + 1) (2 ^ 32 - 1)) := by
  have hr : R.RAE_CMDLOST_CNT d ≠ R.RAE_CAUSE d := by unfold R.RAE_CMDLOST_CNT R.RAE_CAUSE; omega
  refine ⟨_, hc, ?_⟩
  rw [hq.raeWritten, raeCommand_loses h3 h1 hl, State.raeCmdErr]
  refine ⟨((OnlyRegs.refl _ s).setF (by simp)).setF (by simp), State.raise_flag _ _ _ (by decide) rfl, ?_⟩
  rw [State.raise_eq, State.setF_fld_other _ _ _ _ _ _ (.inl hr), State.bump_eq, State.setF_fld_same _ _ _ _ (by decide)]
  exact Nat.mod_eq_of_lt (show min _ (2 ^ 32 - 1) < 2 ^ 32 by omega)

theorem solveSite_refused {x : Fin 256} (hq : Quiet s) (hs : s.siteEn d x = false) : After (.solveSite d x) s (fun t =>
    OnlyRegs [R.RAE_CAUSE d] s t ∧ t.flag (R.RAE_CAUSE d) F.RAE_CAUSE_CMDERR = true) := by
  refine ⟨s.raeWritten d 1 x, rfl, ?_⟩
  rw [hq.raeWritten, raeCommand_refuses hs]
  exact ⟨(OnlyRegs.refl _ s).setF (by simp), State.raise_flag _ _ _ (by decide) rfl⟩

/-- Settles O20: nothing is delivered (`Quiet.deliver`), and the command is queued, refused or lost. -/
theorem repairCommandsQueueWithTheirCut : Obligations.RepairCommandsQueueWithTheirCut := by
  intro s d x hq
  refine ⟨fun hl => ⟨queues_after hq rfl (by decide) nofun hl, queues_after hq rfl (by decide) nofun hl,
    queues_after hq rfl (by decide) nofun hl, fun hs => queues_after hq rfl (by decide) (fun _ => hs) hl⟩, solveSite_refused hq,
    fun hl c hc => ?_⟩
  simp only [List.mem_cons, List.not_mem_nil, or_false] at hc
  rcases hc with rfl | rfl | rfl
  · exact loses_after hq rfl (by decide) (by decide) hl
  · exact loses_after hq rfl (by decide) (by decide) hl
  · exact loses_after hq rfl (by decide) (by decide) hl

/-! ### CLRSMASK (R162) -/

/-- Registers written with 0. -/
def State.zeroed (s : State) (as : List Nat) : State := forEach as (fun a s => s.wr a 0) s

theorem zeroed_rd (as : List Nat) (b : Nat) : (s.zeroed as).rd b = if b ∈ as then 0 else s.rd b := by
  unfold State.zeroed
  induction as generalizing s with
  | nil => rfl
  | cons a as ih =>
    rw [forEach_cons, ih]
    by_cases h : b ∈ as
    · simp [h]
    · by_cases hb : b = a
      · subst hb
        rw [if_neg h, if_pos (by simp), State.wr_rd_same]
      · rw [if_neg h, if_neg (by simp [h, hb]), State.wr_rd_other _ _ _ _ hb]

theorem zeroed_frame (as : List Nat) : s.zeroed as = { s with regs := (s.zeroed as).regs } :=
  forEach_induct (P := fun u : State => u = { s with regs := u.regs }) rfl fun a _ u hu => by rw [State.wr, hu]

theorem zeroed_onlyRegs (as : List Nat) : OnlyRegs as s (s.zeroed as) :=
  ⟨zeroed_frame as, fun b hb => by rw [zeroed_rd, if_neg hb]⟩

theorem OnlyCapture.of_onlyRegs {as : List Nat} (h : OnlyRegs as s t) : OnlyCapture d as s t := by
  obtain ⟨hf, hr⟩ := h
  exact ⟨by rw [hf], fun k _ => by rw [hf]; rfl, hr⟩

theorem zeroed_c (as : List Nat) (k : Fin 6) : (s.zeroed as).c k = s.c k := by rw [zeroed_frame]; rfl

/-- The site mask registers of a die. -/
def smaskRegs (d : Nat) : List Nat := (List.range 8).map (fun i => R.FCD_SMASK d i)

theorem exec_clrsmask (hq : Quiet s) (h : s.dieActive d = false) :
    exec (.clrsmask d) s = .next ((s.zeroed (smaskRegs d)).modC d (fun c => { c with maskEff := [] })) := by
  show execClrsmask d s = _
  unfold execClrsmask
  dsimp only
  rw [hq.deliver, if_neg (by simp [h]), State.zeroed, smaskRegs, forEach, forEach, List.foldl_map]

theorem clrsmask_clears (hq : Quiet s) (h : s.dieActive d = false) : After (.clrsmask d) s (fun t =>
    (∀ i, i < 8 → t.rd (R.FCD_SMASK d i) = 0) ∧ OnlyCapture d ((List.range 8).map (fun i => R.FCD_SMASK d i)) s t ∧
      t.c d = { s.c d with maskEff := [] }) := by
  refine ⟨_, exec_clrsmask hq h, fun i hi => ?_, (OnlyCapture.of_onlyRegs (zeroed_onlyRegs _)).modC, ?_⟩
  · rw [State.modC_rd, zeroed_rd, smaskRegs,
      if_pos (List.mem_map.mpr ⟨i, List.mem_range.mpr hi, rfl⟩)]
  · rw [State.modC_c_same, zeroed_c]

/-! ### An intake slot (R193, R195, R198, R201, R204) -/

theorem raeEnterTo_of_later {n : Nat} (h : ∀ x ∈ (s.g g).raeStage, n < x.time) : s.raeEnterTo g n = s := by
  have ht : (s.g g).raeStage.takeWhile (fun i => decide (i.time ≤ n)) = [] := by
    cases hs : (s.g g).raeStage with
    | nil => rfl
    | cons x xs =>
      have := h x (by simp [hs])
      rw [List.takeWhile_cons_of_neg (by simp; omega)]
  rw [State.raeEnterTo, ht]
  rfl

/-- The head entry of queue g leaves at a slot. -/
def State.intake (s : State) (d : Fin 6) (g : Fin 24) (rest : List RaeItem) (slot : Nat) : State :=
  (((s.at_ slot).modC d (fun c => { c with raeSlot := slot + 1 })).modG g (fun x => { x with raeQ := rest })).modC d
    (fun c => { c with raeRr := g.val % 4 })

section
variable {i : RaeItem} {rest : List RaeItem} {slot : Nat}

theorem find_of_eq {α : Type} {p q : α → Bool} {l : List α} {x : α} (h : p = q) (hx : l.find? q = some x) : l.find? p = some x := by
  rw [h, hx]

theorem exec_raeIntake (hq : Quiet s) (hm : (s.c d).miss = none) (hr : (s.c d).cmdRun = none) (hc : (s.c d).cmdQ = [])
    (hs : ∀ k x, x ∈ (s.g k).raeStage → s.raeSlotAt d < x.time)
    (hg : (rrOrder d (s.c d).raeRr).find? (fun g => !(s.g g).raeQ.isEmpty) = some g) (hi : (s.g g).raeQ = i :: rest) :
    exec (.raeIntake d) s = .next (if s.flag (R.RAE_CTRL d) F.RAE_CTRL_EN then
      (s.intake d g rest (s.raeSlotAt d)).raeTake d i (s.raeSlotAt d) else s.intake d g rest (s.raeSlotAt d)) := by
  have he : forEach (groupsOf d) (fun g u => u.raeEnterTo g (s.raeSlotAt d)) s = s := forEach_id fun k _ => raeEnterTo_of_later (hs k)
  show execRaeIntake d s = _
  unfold execRaeIntake State.clearing
  dsimp only
  rw [he, (hq.at_ _).deliver]
  simp only [State.modC_c_same, State.modC_g_eq, State.atT_c_eq, State.atT_g_eq, hm, hr, hc]
  rw [if_neg (by decide)]
  rw [find_of_eq (q := fun k => !(s.g k).raeQ.isEmpty) ?_ hg]
  · dsimp only
    rw [hi]
    rfl
  · funext k
    cases (s.g k).raeQ <;> rfl

end

theorem le_gridFrom {o step n : Nat} (hs : 0 < step) : n ≤ gridFrom o step n := by
  unfold gridFrom
  split
  · assumption
  · have := Nat.lt_mul_div_succ (n - o + (step - 1)) hs
    rw [Nat.mul_add, Nat.mul_one, Nat.mul_comm] at this
    omega

theorem le_raeSlotAt : s.now ≤ s.raeSlotAt d := (le_max_left _ _).trans (le_gridFrom (by decide))

/-- What every intake slot leaves that takes an entry of queue g. -/
structure Took (s : State) (d : Fin 6) (g : Fin 24) (rest : List RaeItem) (t : State) : Prop where
  now : t.now = s.raeSlotAt d
  self : t.g g = { s.g g with raeQ := rest }
  rr : (t.c d).raeRr = g.val % 4
  lines : t.lines = s.lines
  others : ∀ k, k ≠ g → t.g k = s.g k

section
variable {i : RaeItem} {rest : List RaeItem}

theorem intake_now : (s.intake d g rest (s.raeSlotAt d)).now = s.raeSlotAt d := by
  rw [State.intake, State.modC_now, State.modG_now, State.modC_now, State.at_now, max_eq_right le_raeSlotAt]

theorem intake_c (n : Nat) : (s.intake d g rest n).c d = { s.c d with raeSlot := n + 1, raeRr := g.val % 4 } := by
  rw [State.intake, State.modC_c_same, State.modG_c_eq, State.modC_c_same, State.atT_c_eq]

theorem intake_regs (n : Nat) : (s.intake d g rest n).regs = s.regs := by
  rw [State.intake, State.modC_regs, State.modG_regs, State.modC_regs, State.atT_regs]

theorem intake_took : Took s d g rest (s.intake d g rest (s.raeSlotAt d)) := by
  refine ⟨intake_now, ?_, ?_, ?_, fun k hk => ?_⟩
  · rw [State.intake, State.modC_g_eq, State.modG_g_same, State.modC_g_eq, State.atT_g_eq]
  · rw [intake_c]
  · rw [State.intake, State.modC_lines, State.modG_lines, State.modC_lines, State.atT_lines]
  · rw [State.intake, State.modC_g_eq, State.modG_g_other _ _ _ _ hk, State.modC_g_eq, State.atT_g_eq]

/-! What the entry taken does touches registers, monitors and the domains only -/

theorem Took.setF {a x : Nat} {f : Fld} (h : Took s d g rest t) : Took s d g rest (t.setF a f x) :=
  ⟨by rw [State.setF_now, h.now], by rw [State.setF_g_eq, h.self], by rw [State.setF_c_eq, h.rr], by rw [State.setF_lines, h.lines],
    fun k hk => by rw [State.setF_g_eq, h.others k hk]⟩

theorem Took.modC {f : Capture → Capture} (h : Took s d g rest t) (hf : ∀ c, (f c).raeRr = c.raeRr) : Took s d g rest (t.modC d f) :=
  ⟨by rw [State.modC_now, h.now], by rw [State.modC_g_eq, h.self], by rw [State.modC_c_same, hf, h.rr], by rw [State.modC_lines, h.lines],
    fun k hk => by rw [State.modC_g_eq, h.others k hk]⟩

theorem Took.tally {k code n : Nat} (h : Took s d g rest t) : Took s d g rest (t.tally k code n) := by
  obtain ⟨m, hm⟩ := tally_eq t k code n
  obtain ⟨h1, h2, h3, h4, h5⟩ := h
  rw [hm]
  exact ⟨h1, h2, h3, h4, h5⟩

theorem Took.ite {c : Prop} [Decidable c] (h : Took s d g rest t) (k : Took s d g rest u) : Took s d g rest (if c then t else u) := by
  split
  · exact h
  · exact k

theorem tally_c (k code n : Nat) (e : Fin 6) : (s.tally k code n).c e = s.c e := by
  obtain ⟨m, hm⟩ := tally_eq s k code n
  rw [hm]
  rfl

theorem tally_rd (k code n a : Nat) : (s.tally k code n).rd a = s.rd a := by
  obtain ⟨m, hm⟩ := tally_eq s k code n
  rw [hm]
  rfl

theorem tally_fld (k code n a : Nat) (f : Fld) : (s.tally k code n).fld a f = s.fld a f := by
  rw [State.fld, tally_rd, State.fld]

/-- Counts of 32 bits stop at their end. -/
theorem bump_count (a : Nat) : (s.bump a ⟨0, 32⟩ 1).fld a ⟨0, 32⟩ = min (s.fld a ⟨0, 32⟩ + 1) (2 ^ 32 - 1) := by
  rw [State.bump_eq, State.setF_fld_same _ _ _ _ (by decide)]
  exact Nat.mod_eq_of_lt (show min _ (2 ^ 32 - 1) < 2 ^ 32 by omega)

theorem tmpl_congr (h : ∀ a, t.rd a = s.rd a) (k n : Nat) : t.tmpl k (t.siteTmpl k n) = s.tmpl k (s.siteTmpl k n) := by
  simp only [State.tmpl, State.siteTmpl, State.fld, h]

theorem raeMap_congr (h : ∀ a, t.rd a = s.rd a) (k : Nat) (i : RaeItem) : t.raeMap k i = s.raeMap k i := by
  have he : t.siteEn k i.site = s.siteEn k i.site := by rw [State.siteEn, State.siteEn, State.flag, State.flag, State.fld, State.fld, h]
  have hb : t.siteBase k i.site = s.siteBase k i.site := by rw [State.siteBase, State.siteBase, State.fld, State.fld, h]
  unfold State.raeMap
  rw [tmpl_congr h, he, hb]

theorem raeTake_marker (n : Nat) (hm : i.marker = true) : s.raeTake d i n =
    ((s.bump (R.RAE_LOSS_CNT d) F.RAE_LOSS_CNT_COUNT 1).raise (R.RAE_STAT d) F.RAE_STAT_LOSS).raise (R.RAE_CAUSE d) F.RAE_CAUSE_LOSS := by
  rw [State.raeTake, if_pos hm]

theorem raeTake_badMap (n : Nat) (hm : i.marker = false) (hx : s.raeMap d i = none) : s.raeTake d i n =
    ((s.tally d 0x22 1).bump (R.RAE_BADMAP_CNT d) F.RAE_BADMAP_CNT_COUNT 1).raise (R.RAE_CAUSE d) F.RAE_CAUSE_BADMAP := by
  unfold State.raeTake
  dsimp only
  rw [if_neg (by simp [hm]), raeMap_congr (tally_rd _ _ _), hx]

section
variable {n r c : Nat}

theorem raeTake_fail (k : Nat) (hm : i.marker = false) (hx : s.raeMap d i = some (n, r, c)) (hr : (s.c d).cmdRun = none) :
    s.raeTake d i k =
      (if (s.c d).resident.contains n then
        ((s.tally d 0x22 1).modC d (fun x => { x with resident := n :: x.resident.erase n })).domFail d n
          (s.tmpl d (s.siteTmpl d i.site)).sr (s.tmpl d (s.siteTmpl d i.site)).sc r c
      else (s.tally d 0x22 1).domTouch d n k
        (some ((s.tmpl d (s.siteTmpl d i.site)).sr, (s.tmpl d (s.siteTmpl d i.site)).sc, r, c))) := by
  have hp : (s.tally d 0x22 1).solvePending d n = false := by rw [State.solvePending, tally_c, hr]
  unfold State.raeTake
  dsimp only
  rw [if_neg (by simp [hm]), raeMap_congr (tally_rd _ _ _), hx]
  dsimp only
  rw [hp, tmpl_congr (tally_rd _ _ _), if_neg Bool.false_ne_true, tally_c]
  split
  · rw [State.domTouch, tally_c, if_pos ‹_›]
  · rfl

end

theorem dom_congr (h : (t.c d).doms = (s.c d).doms) (n : Nat) : t.dom d n = s.dom d n := by rw [State.dom, State.dom, h]

theorem setDom_dom (n m : Nat) (x : Dom) : (s.setDom d n x).dom d m = if m = n then x else s.dom d m := by
  rw [State.dom, State.setDom, State.modC_c_same, Sparse.get_put, State.dom]

theorem domFail_dom (n sr sc r c m : Nat) :
    (s.domFail d n sr sc r c).dom d m = if m = n then (s.dom d n).fail sr sc r c else s.dom d m := by
  unfold State.domFail
  dsimp only
  split
  · rw [State.raise_eq]
    exact (dom_congr (by rw [State.setF_c_eq]) m).trans (setDom_dom _ _ _)
  · exact setDom_dom _ _ _

theorem domFail_miss (n sr sc r c : Nat) : ((s.domFail d n sr sc r c).c d).miss = (s.c d).miss := by
  unfold State.domFail
  dsimp only
  split
  · rw [State.raise_eq, State.setF_c_eq, State.setDom, State.modC_c_same]
  · rw [State.setDom, State.modC_c_same]

theorem Took.setDom {n : Nat} {x : Dom} (h : Took s d g rest t) : Took s d g rest (t.setDom d n x) := h.modC fun _ => rfl

theorem Took.domFail {n sr sc r c : Nat} (h : Took s d g rest t) : Took s d g rest (t.domFail d n sr sc r c) :=
  (h.setDom.setF).ite h.setDom

end

/-- A fail at a domain that is not resident: the miss it starts. -/
theorem domTouch_miss {n k : Nat} {f : Option (Nat × Nat × Nat × Nat)} (h : (s.c d).resident.contains n = false) :
    ∃ keep ev, s.domTouch d n k f = ((s.tally d 0x23 1).bump (R.RAE_MISS_CNT d) F.RAE_MISS_CNT_COUNT 1).modC d
      (fun c => { c with resident := keep, miss := some ⟨k + 64 * ns, n, ev, (s.dom d n).touched, f⟩ }) := by
  rw [State.domTouch, if_neg (by rw [h]; decide)]
  dsimp only
  rw [dom_congr (s := s) (t := (s.tally d 0x23 1).bump _ _ 1) (by rw [State.bump_eq, State.setF_c_eq, tally_c])]
  exact ⟨_, _, rfl⟩

/-! ### A command's start and a clear's end (R209, R210) -/

section
variable {q : RaeCmd} {rest : List RaeCmd}

theorem exec_raeCmdStart (hq : Quiet s) (h : (s.c d).cmdQ = q :: rest) (hr : (s.c d).cmdRun = none)
    (hc : s.cutDrained d q.cut = true) : exec (.raeCmdStart d) s = .next ((s.at_ (q.cut + 10 * ns)).raeBegin d q rest) := by
  have hn : s.nextTrig d = s := by rw [State.nextTrig, h, hq.deliver]
  show execRaeCmdStart d s = _
  unfold execRaeCmdStart
  rw [hn]
  dsimp only
  rw [h, hr]
  dsimp only
  rw [if_neg (by simp [hc])]

theorem raeBegin_solveSite (h : q.op = 1) : s.raeBegin d q rest = (s.wr (R.RAE_SEQ d) (s.rd (R.RAE_SEQ d) + 1)).modC d (fun c =>
    { c with cmdQ := rest, cmdRun := some ⟨q, [q.site], 0⟩, late := [], solveAt := (s.wr (R.RAE_SEQ d) (s.rd (R.RAE_SEQ d) + 1)).now }) := by
  unfold State.raeBegin
  dsimp only
  rw [h]
  rfl

/-- The counts that CLEAR_ALL clears. -/
def raeCounts (d : Nat) : List Nat :=
  [R.RAE_LOSS_CNT d, R.RAE_BADMAP_CNT d, R.RAE_LATE_CNT d, R.RAE_MISS_CNT d, R.RAE_CMDLOST_CNT d, R.RAE_SEQ d]

theorem raeStat_not_count : R.RAE_STAT d ∉ raeCounts d := by
  simp only [raeCounts, List.mem_cons, List.not_mem_nil, or_false, R.RAE_STAT, R.RAE_LOSS_CNT, R.RAE_BADMAP_CNT, R.RAE_LATE_CNT,
    R.RAE_MISS_CNT, R.RAE_CMDLOST_CNT, R.RAE_SEQ]
  omega

/-- The counts at 0 and RAE_STAT.LOSS clear. -/
def State.raeCleared (s : State) (d : Fin 6) : State := (s.zeroed (raeCounts d)).setB (R.RAE_STAT d) F.RAE_STAT_LOSS false

theorem raeBegin_clearAll (h : q.op = 2) : s.raeBegin d q rest = (s.raeCleared d).modC d (fun c =>
    { c with cmdQ := rest, cmdRun := some ⟨q, [], 0⟩, late := [], solveAt := (s.raeCleared d).now }) := by
  unfold State.raeBegin
  dsimp only
  rw [h]
  rfl

theorem raeCleared_count {a : Nat} (h : a ∈ raeCounts d) : (s.raeCleared d).rd a = 0 := by
  have ha : a ≠ R.RAE_STAT d := fun e => raeStat_not_count (e ▸ h)
  rw [State.raeCleared, State.setB_eq, State.setF_rd_other _ _ _ _ _ ha, zeroed_rd, if_pos h]

theorem raeCleared_loss : (s.raeCleared d).flag (R.RAE_STAT d) F.RAE_STAT_LOSS = false := by
  rw [State.raeCleared, State.flag, State.setB_eq, State.setF_fld_same _ _ _ _ (by decide)]
  rfl

theorem solveSite_starts (hq : Quiet s) (h : (s.c d).cmdQ = q :: rest) (hr : (s.c d).cmdRun = none)
    (hc : s.cutDrained d q.cut = true) (ho : q.op = 1) : After (.raeCmdStart d) s (fun t => OnlyCapture d [R.RAE_SEQ d] s t ∧
      t.now = max s.now (q.cut + 10 * ns) ∧ t.rd (R.RAE_SEQ d) = s.rd (R.RAE_SEQ d) + 1 ∧ (t.c d).cmdQ = rest ∧
        (t.c d).cmdRun = some ⟨q, [q.site], 0⟩) := by
  refine ⟨_, (exec_raeCmdStart hq h hr hc).trans (congrArg _ (raeBegin_solveSite ho)),
    ((OnlyCapture.refl d _ s).at_.wr (by simp)).modC, ?_, ?_, ?_, ?_⟩
  · rw [State.modC_now, State.wr_now, State.at_now]
  · rw [State.modC_rd, State.wr_rd_same, State.atT_rd]
  · rw [State.modC_c_same]
  · rw [State.modC_c_same]

theorem clearAll_starts (hq : Quiet s) (h : (s.c d).cmdQ = q :: rest) (hr : (s.c d).cmdRun = none)
    (hc : s.cutDrained d q.cut = true) (ho : q.op = 2) : After (.raeCmdStart d) s (fun t => t.rd (R.RAE_SEQ d) = 0 ∧
      t.rd (R.RAE_LOSS_CNT d) = 0 ∧ t.rd (R.RAE_BADMAP_CNT d) = 0 ∧ t.rd (R.RAE_LATE_CNT d) = 0 ∧ t.rd (R.RAE_MISS_CNT d) = 0 ∧
        t.rd (R.RAE_CMDLOST_CNT d) = 0 ∧ t.flag (R.RAE_STAT d) F.RAE_STAT_LOSS = false ∧ (t.c d).cmdQ = rest) := by
  have hz {a : Nat} (ha : a ∈ raeCounts d) : (((s.at_ (q.cut + 10 * ns)).raeCleared d).modC d (fun c =>
      { c with cmdQ := rest, cmdRun := some ⟨q, [], 0⟩, late := [],
               solveAt := ((s.at_ (q.cut + 10 * ns)).raeCleared d).now })).rd a = 0 := by rw [State.modC_rd, raeCleared_count ha]
  refine ⟨_, (exec_raeCmdStart hq h hr hc).trans (congrArg _ (raeBegin_clearAll ho)), hz ?_, hz ?_, hz ?_, hz ?_, hz ?_, hz ?_, ?_, ?_⟩
  · simp [raeCounts]
  · simp [raeCounts]
  · simp [raeCounts]
  · simp [raeCounts]
  · simp [raeCounts]
  · simp [raeCounts]
  · rw [State.flag, State.fld, State.modC_rd]
    exact raeCleared_loss
  · rw [State.modC_c_same]

end

theorem find_keep {α : Type} (p : Nat → Bool) (m : Sparse α) (k : Nat) :
    Sparse.find (Sparse.keep p m) k = if p k then Sparse.find m k else none := by
  unfold Sparse.keep
  induction m with
  | nil => simp
  | cons e r ih =>
    obtain ⟨j, v⟩ := e
    by_cases hj : j = k
    · subst hj
      by_cases hp : p j
      · rw [List.filter_cons, if_pos hp, Sparse.find_cons, if_pos rfl, if_pos hp, Sparse.find_cons, if_pos rfl]
      · rw [List.filter_cons, if_neg hp, ih, if_neg hp, if_neg hp]
    · rw [Sparse.find_cons, if_neg hj]
      by_cases hp : p j
      · rw [List.filter_cons, if_pos hp, Sparse.find_cons, if_neg hj, ih]
      · rw [List.filter_cons, if_neg hp, ih]

theorem get_keep {α : Type} (d : Nat → α) (p : Nat → Bool) (m : Sparse α) (k : Nat) :
    Sparse.get d (Sparse.keep p m) k = if p k then Sparse.get d m k else d k := by
  rw [Sparse.get, find_keep]
  split <;> rfl

section
variable {r : RaeRun}

theorem clearAll_done (h : (s.c d).cmdRun = some r) (ho : r.cmd.op = 2) : After (.clearDone d) s (fun t =>
    OnlyCapture d [] s t ∧ (t.c d).cmdRun = none ∧ ∀ n, t.dom d n = Dom.fresh) := by
  have he : exec (.clearDone d) s = .next (s.modC d (fun c => { c with cmdRun := none, doms := [], resident := [], miss := none })) := by
    show execClearDone d s = _
    unfold execClearDone
    rw [h]
    dsimp only
    rw [ho]
    rfl
  refine ⟨_, he, (OnlyCapture.refl d _ s).modC, ?_, fun n => ?_⟩
  · rw [State.modC_c_same]
  · rw [State.dom, State.modC_c_same]
    rfl

/-- The domains of a site (R199). -/
def State.inScope (s : State) (d x n : Nat) : Bool :=
  decide (s.siteBase d x ≤ n ∧ n < s.siteBase d x + s.scopeSize d x)

theorem clearSite_done (h : (s.c d).cmdRun = some r) (ho : r.cmd.op = 3) : After (.clearDone d) s (fun t =>
    OnlyCapture d [] s t ∧ (t.c d).cmdRun = none ∧ ∀ n, t.dom d n =
      if s.siteBase d r.cmd.site ≤ n ∧ n < s.siteBase d r.cmd.site + s.scopeSize d r.cmd.site then Dom.fresh else s.dom d n) := by
  have he : exec (.clearDone d) s = .next (s.modC d (fun c => { c with
      cmdRun := none
      doms := Sparse.keep (fun n => !s.inScope d r.cmd.site n) c.doms
      miss := c.miss.map (fun m => if s.siteBase d r.cmd.site ≤ m.dom ∧ m.dom < s.siteBase d r.cmd.site + s.scopeSize d r.cmd.site
        then { m with reads := false, fail := none } else m) })) := by
    show execClearDone d s = _
    unfold execClearDone
    rw [h]
    dsimp only
    rw [ho]
    rfl
  refine ⟨_, he, (OnlyCapture.refl d _ s).modC, ?_, fun n => ?_⟩
  · rw [State.modC_c_same]
  · rw [State.dom, State.modC_c_same]
    dsimp only
    rw [get_keep]
    by_cases hn : s.siteBase d r.cmd.site ≤ n ∧ n < s.siteBase d r.cmd.site + s.scopeSize d r.cmd.site
    · rw [if_pos hn, if_neg (by simp [State.inScope, hn])]
    · rw [if_neg hn, if_pos (by rw [State.inScope, decide_eq_false hn]; rfl), State.dom]

end

/-! ### The slots of O21 -/

section
variable {i : RaeItem} {rest : List RaeItem}

theorem Took.spec (h : Took s d g rest t) : t.now = s.raeSlotAt d ∧ t.g g = { s.g g with raeQ := rest } ∧
    (t.c d).raeRr = g.val % 4 ∧ t.lines = s.lines ∧ ∀ k, k ≠ g → t.g k = s.g k := ⟨h.now, h.self, h.rr, h.lines, h.others⟩

theorem intake_rd (n a : Nat) : (s.intake d g rest n).rd a = s.rd a := by rw [State.rd, intake_regs, State.rd]

theorem intake_doms (n : Nat) : ((s.intake d g rest n).c d).doms = (s.c d).doms := by rw [intake_c]

theorem bump_count_congr {f : Fld} (hf : f = ⟨0, 32⟩) {a : Nat} (h : t.fld a f = s.fld a f) :
    (t.bump a f 1).fld a f = min (s.fld a f + 1) (2 ^ 32 - 1) := by
  subst hf
  rw [bump_count, h]

theorem intake_fld (n a : Nat) (f : Fld) : (s.intake d g rest n).fld a f = s.fld a f := by rw [State.fld, intake_rd, State.fld]

section
variable {n : Nat}

theorem marker_took (hm : i.marker = true) (h : Took s d g rest u) : Took s d g rest (u.raeTake d i n) := by
  rw [raeTake_marker n hm]
  exact h.setF.setF.setF

theorem marker_count (hm : i.marker = true) : (u.raeTake d i n).fld (R.RAE_LOSS_CNT d) F.RAE_LOSS_CNT_COUNT =
    min (u.fld (R.RAE_LOSS_CNT d) F.RAE_LOSS_CNT_COUNT + 1) (2 ^ 32 - 1) := by
  have h1 : R.RAE_LOSS_CNT d ≠ R.RAE_CAUSE d := by unfold R.RAE_LOSS_CNT R.RAE_CAUSE; omega
  have h2 : R.RAE_LOSS_CNT d ≠ R.RAE_STAT d := by unfold R.RAE_LOSS_CNT R.RAE_STAT; omega
  rw [raeTake_marker n hm, State.raise_eq, State.setF_fld_other _ _ _ _ _ _ (.inl h1), State.raise_eq,
    State.setF_fld_other _ _ _ _ _ _ (.inl h2)]
  exact bump_count_congr rfl rfl

theorem marker_stat (hm : i.marker = true) : (u.raeTake d i n).flag (R.RAE_STAT d) F.RAE_STAT_LOSS = true := by
  have h : R.RAE_STAT d ≠ R.RAE_CAUSE d := by unfold R.RAE_STAT R.RAE_CAUSE; omega
  rw [raeTake_marker n hm, State.flag, State.raise_eq, State.setF_fld_other _ _ _ _ _ _ (.inl h)]
  exact State.raise_flag _ _ _ (by decide) rfl

theorem marker_cause (hm : i.marker = true) : (u.raeTake d i n).flag (R.RAE_CAUSE d) F.RAE_CAUSE_LOSS = true := by
  rw [raeTake_marker n hm]
  exact State.raise_flag _ _ _ (by decide) rfl

theorem marker_doms (hm : i.marker = true) : ((u.raeTake d i n).c d).doms = (u.c d).doms := by
  rw [raeTake_marker n hm, State.raise_eq, State.setF_c_eq, State.raise_eq, State.setF_c_eq, State.bump_eq, State.setF_c_eq]

theorem badMap_took (hm : i.marker = false) (hx : u.raeMap d i = none) (h : Took s d g rest u) :
    Took s d g rest (u.raeTake d i n) := by
  rw [raeTake_badMap n hm hx]
  exact h.tally.setF.setF

theorem badMap_cause (hm : i.marker = false) (hx : u.raeMap d i = none) :
    (u.raeTake d i n).flag (R.RAE_CAUSE d) F.RAE_CAUSE_BADMAP = true := by
  rw [raeTake_badMap n hm hx]
  exact State.raise_flag _ _ _ (by decide) rfl

theorem badMap_count (hm : i.marker = false) (hx : u.raeMap d i = none) :
    (u.raeTake d i n).fld (R.RAE_BADMAP_CNT d) F.RAE_BADMAP_CNT_COUNT =
      min (u.fld (R.RAE_BADMAP_CNT d) F.RAE_BADMAP_CNT_COUNT + 1) (2 ^ 32 - 1) := by
  have h1 : R.RAE_BADMAP_CNT d ≠ R.RAE_CAUSE d := by unfold R.RAE_BADMAP_CNT R.RAE_CAUSE; omega
  rw [raeTake_badMap n hm hx, State.raise_eq, State.setF_fld_other _ _ _ _ _ _ (.inl h1)]
  exact bump_count_congr rfl (tally_fld _ _ _ _ _)

theorem badMap_doms (hm : i.marker = false) (hx : u.raeMap d i = none) : ((u.raeTake d i n).c d).doms = (u.c d).doms := by
  rw [raeTake_badMap n hm hx, State.raise_eq, State.setF_c_eq, State.bump_eq, State.setF_c_eq, tally_c]

end

section
variable {n r c k : Nat}

/-- A fail that reaches a resident domain. -/
theorem hit_takes (hm : i.marker = false) (hx : u.raeMap d i = some (n, r, c)) (hr : (u.c d).cmdRun = none)
    (hn : (u.c d).resident.contains n = true) (h : Took s d g rest u) : Took s d g rest (u.raeTake d i k) ∧
      (∀ m, (u.raeTake d i k).dom d m = if m = n then (u.dom d n).fail (u.tmpl d (u.siteTmpl d i.site)).sr
        (u.tmpl d (u.siteTmpl d i.site)).sc r c else u.dom d m) ∧ ((u.raeTake d i k).c d).miss = (u.c d).miss := by
  rw [raeTake_fail k hm hx hr, if_pos hn]
  have hd (m : Nat) : ((u.tally d 0x22 1).modC d (fun x => { x with resident := n :: x.resident.erase n })).dom d m = u.dom d m :=
    dom_congr (by rw [State.modC_c_same, tally_c]) m
  refine ⟨Took.domFail (h.tally.modC fun _ => rfl), fun m => ?_, ?_⟩
  · rw [domFail_dom, hd, hd]
  · rw [domFail_miss, State.modC_c_same, tally_c]

/-- A fail that misses its domain. -/
theorem miss_takes (hm : i.marker = false) (hx : u.raeMap d i = some (n, r, c)) (hr : (u.c d).cmdRun = none)
    (hn : (u.c d).resident.contains n = false) (h : Took s d g rest u) : Took s d g rest (u.raeTake d i k) ∧
      (∃ ev, ((u.raeTake d i k).c d).miss = some ⟨k + 64 * ns, n, ev, (u.dom d n).touched,
        some ((u.tmpl d (u.siteTmpl d i.site)).sr, (u.tmpl d (u.siteTmpl d i.site)).sc, r, c)⟩) ∧
      (u.raeTake d i k).fld (R.RAE_MISS_CNT d) F.RAE_MISS_CNT_COUNT =
        min (u.fld (R.RAE_MISS_CNT d) F.RAE_MISS_CNT_COUNT + 1) (2 ^ 32 - 1) ∧
      ((u.raeTake d i k).c d).doms = (u.c d).doms := by
  rw [raeTake_fail k hm hx hr, if_neg (by simpa using hn)]
  obtain ⟨keep, ev, he⟩ := domTouch_miss (s := u.tally d 0x22 1) (d := d) (n := n) (k := k)
    (f := some ((u.tmpl d (u.siteTmpl d i.site)).sr, (u.tmpl d (u.siteTmpl d i.site)).sc, r, c)) (by rw [tally_c, hn])
  rw [he]
  refine ⟨(h.tally.tally.setF).modC fun _ => rfl, ⟨ev, ?_⟩, ?_, ?_⟩
  · rw [State.modC_c_same, dom_congr (s := u) (by rw [tally_c])]
  · rw [State.fld, State.modC_rd]
    exact bump_count_congr rfl (by rw [tally_fld, tally_fld])
  · rw [State.modC_c_same, State.bump_eq, State.setF_c_eq, tally_c, tally_c]

end

end

/-- Settles O21: the entry taken is dropped, counted, or reaches its domain (`exec_raeIntake`, `raeTake_*`); a command starts
(`exec_raeCmdStart`) and a clear ends by what they write. -/
theorem repairCommandsRunToTheirEnd : Obligations.RepairCommandsRunToTheirEnd := by
  intro s d hq
  refine ⟨clrsmask_clears hq, fun g i rest hmi hr hc hs hg hi => ?_, fun q rest h hr hc ho => solveSite_starts hq h hr hc ho,
    fun q rest h hr hc ho => clearAll_starts hq h hr hc ho, fun r => clearAll_done, fun r => clearSite_done⟩
  dsimp only
  have he := exec_raeIntake hq hmi hr hc hs hg hi
  have hk : Took s d g rest (s.intake d g rest (s.raeSlotAt d)) := intake_took
  have hrd := intake_rd (s := s) (d := d) (g := g) (rest := rest) (s.raeSlotAt d)
  have hfl := intake_fld (s := s) (d := d) (g := g) (rest := rest) (s.raeSlotAt d)
  have hdo := intake_doms (s := s) (d := d) (g := g) (rest := rest) (s.raeSlotAt d)
  have hre := intake_regs (s := s) (d := d) (g := g) (rest := rest) (s.raeSlotAt d)
  have hcc := intake_c (s := s) (d := d) (g := g) (rest := rest) (s.raeSlotAt d)
  generalize s.intake d g rest (s.raeSlotAt d) = u at *
  have hmap := raeMap_congr hrd d i
  have htm := tmpl_congr hrd d i.site
  have hrun : (u.c d).cmdRun = none := by rw [hcc, hr]
  have hres : (u.c d).resident = (s.c d).resident := by rw [hcc]
  have hmis : (u.c d).miss = none := by rw [hcc, hmi]
  refine ⟨fun hen => ⟨u, by rw [he, hen]; rfl, hk.spec, hre, hdo⟩, fun hen hm => ?_, fun hen hm hx => ?_,
    fun n r c hen hm hx hn => ?_, fun n r c hen hm hx hn => ?_⟩
  · refine ⟨_, by rw [he, if_pos hen], (marker_took hm hk).spec, ?_, marker_stat hm, marker_cause hm, (marker_doms hm).trans hdo⟩
    rw [marker_count hm, hfl]
  · rw [← hmap] at hx
    refine ⟨_, by rw [he, if_pos hen], (badMap_took hm hx hk).spec, badMap_cause hm hx, ?_, (badMap_doms hm hx).trans hdo⟩
    rw [badMap_count hm hx, hfl]
  · rw [← hmap] at hx
    rw [← hres] at hn
    obtain ⟨ht, hd, hms⟩ := hit_takes (k := s.raeSlotAt d) hm hx hrun hn hk
    refine ⟨_, by rw [he, if_pos hen], ht.spec, ?_, fun m hmn => ?_, hms.trans hmis⟩
    · rw [hd, if_pos rfl, htm, dom_congr hdo]
    · rw [hd, if_neg hmn, dom_congr hdo]
  · rw [← hmap] at hx
    rw [← hres] at hn
    obtain ⟨ht, ⟨ev, hv⟩, hcnt, hdm⟩ := miss_takes (k := s.raeSlotAt d) hm hx hrun hn hk
    refine ⟨_, by rw [he, if_pos hen], ht.spec, ⟨_, hv, rfl, rfl, ?_, ?_⟩, ?_, hdm.trans hdo⟩
    · exact congrArg Dom.touched (dom_congr hdo n)
    · dsimp only
      rw [htm]
    · rw [hcnt, hfl]

end Sys2Proof.Machine
end

section
/-! A solve's records of a throttled repair analysis engine (06_repair_analysis.md R216; 12_memory_system.md R433). -/
namespace Sys2Proof.Machine

/-- A solve of site 0 on die 0 stands at an untouched domain; the engine has been throttled on bank 3 of the READY port 0, where its
record goes. -/
def throttledSolve : State :=
  (((((State.reset.setF (R.MEMP_CTRL 0) F.MEMP_CTRL_EXPD 1).setF (R.MEMP_STAT 0) F.MEMP_STAT_STATE 2).wr (R.PROM_REG_SIZE 0 0)
    1#32).setF (R.PROM_REG_CTRL 0 0) F.PROM_REG_CTRL_EN 1).setP 0
      { State.reset.p 0 with zeroed := true, throttled := [(0x49, 0, 3, 0)] }).modC 0
        (fun c => { c with cmdRun := some ⟨⟨1, 0, 0⟩, [0], 0⟩ })

/-- The record's write waits GAP, 100 ns after reset, past the 4 ns of the domain. -/
theorem throttledSolve_waits : nowAfter (.domainSolve 0 [activating]) throttledSolve = 100 * ns := by decide

/-- Refutes O22: a record of an untouched domain ends later than 4 ns where the engine is throttled at its port (`throttledSolve`), for
the write's activation waits GAP (12 R433), and the clock stands at that moment. -/
theorem not_solveWritesItsRecordsInOrder : ¬ Obligations.SolveWritesItsRecordsInOrder := by
  intro h
  obtain ⟨-, hsolve, -⟩ := h throttledSolve 0 [activating]
  obtain ⟨t, ht, -, -, hn⟩ := hsolve ⟨⟨1, 0, 0⟩, [0], 0⟩ 0 [] rfl rfl (by decide) rfl rfl (by decide) (by decide) (by decide)
  have hw := throttledSolve_waits
  rw [nowAfter, ht] at hw
  rw [show t.now = 100 * ns from hw] at hn
  exact absurd hn (by decide)

end Sys2Proof.Machine
end

section
/-! The ports of the tree (08_time_sync_scaleout.md R271, R274, R276, R278, R279, R288; 17_self_test.md R559). -/
namespace Sys2Proof.Machine
variable {s t u : State} {p q : Fin 12}

/-! ### Updates of a port -/

@[simp] theorem modPort_rd (f : Tether → Tether) (a : Nat) : (s.modPort p f).rd a = s.rd a := rfl
@[simp] theorem modPort_fld (f : Tether → Tether) (a : Nat) (e : Fld) : (s.modPort p f).fld a e = s.fld a e := rfl
@[simp] theorem modPort_flag (f : Tether → Tether) (a : Nat) (e : Fld) : (s.modPort p f).flag a e = s.flag a e := rfl
@[simp] theorem modPort_now (f : Tether → Tether) : (s.modPort p f).now = s.now := rfl
@[simp] theorem modPort_hold (f : Tether → Tether) : (s.modPort p f).tsy.hold = s.tsy.hold := rfl

theorem modPort_tport_same (f : Tether → Tether) : (s.modPort p f).tport p = f (s.tport p) := by
  show (s.tsy.port.set p.val (f s.tsy.port[p]))[p.val] = _
  rw [Vector.getElem_set_self]
  rfl

theorem modPort_tport_other (f : Tether → Tether) (h : q ≠ p) : (s.modPort p f).tport q = s.tport q := by
  show (s.tsy.port.set p.val (f s.tsy.port[p]))[q.val] = _
  rw [Vector.getElem_set_ne _ _ fun e => h (Fin.ext e.symm)]
  rfl

@[simp] theorem setF_tport (a x : Nat) (f : Fld) : (s.setF a f x).tport q = s.tport q := rfl
@[simp] theorem wr_tport (a : Nat) (v : Word) : (s.wr a v).tport q = s.tport q := rfl
@[simp] theorem at_tport (n : Nat) : (s.at_ n).tport q = s.tport q := rfl

theorem OnlySync.refl (s : State) : OnlySync s s := rfl
theorem OnlySync.setF {a x : Nat} {f : Fld} (h : OnlySync s t) : OnlySync s (t.setF a f x) := by
  rw [OnlySync] at h ⊢
  rw [h]
  rfl
theorem OnlySync.wr {a : Nat} {v : Word} (h : OnlySync s t) : OnlySync s (t.wr a v) := by
  rw [OnlySync] at h ⊢
  rw [h]
  rfl
theorem OnlySync.at_ {n : Nat} (h : OnlySync s t) : OnlySync s (t.at_ n) := by
  rw [OnlySync] at h ⊢
  rw [h]
  rfl
theorem OnlySync.tsy {y : TimeSync} (h : OnlySync s t) : OnlySync s { t with tsy := y } := by
  rw [OnlySync] at h ⊢
  rw [h]
theorem OnlySync.modPort {f : Tether → Tether} (h : OnlySync s t) : OnlySync s (t.modPort p f) := h.tsy
theorem OnlySync.trans (h : OnlySync s t) (k : OnlySync t u) : OnlySync s u := by
  rw [OnlySync] at h k ⊢
  rw [k, h]

/-! ### Registers of the sync unit -/

theorem flag_congr {a : Nat} (h : t.rd a = s.rd a) (f : Fld) : t.flag a f = s.flag a f := by rw [State.flag, State.flag, fld_congr h]

theorem portStat_ne_stat (n : Nat) : R.TSY_PORT_STAT n ≠ R.TSY_STAT := by unfold R.TSY_PORT_STAT R.TSY_STAT; omega
theorem portStat_ne_ctrl (n : Nat) : R.TSY_PORT_STAT n ≠ R.TSY_CTRL := by unfold R.TSY_PORT_STAT R.TSY_CTRL; omega
theorem portStat_ne_portCtrl (n m : Nat) : R.TSY_PORT_STAT n ≠ R.TSY_PORT_CTRL m := by
  unfold R.TSY_PORT_STAT R.TSY_PORT_CTRL; omega
theorem portStat_ne_ptStat (n : Nat) : R.TSY_PORT_STAT n ≠ R.PT_STAT := by
  unfold R.TSY_PORT_STAT R.PT_STAT tsyBase ptBase; omega
theorem stat_ne_ptStat : R.TSY_STAT ≠ R.PT_STAT := by decide

/-- The role, the paths and their numbers rest on two registers. -/
theorem upstream_congr (h1 : t.rd R.TSY_STAT = s.rd R.TSY_STAT) (h2 : t.rd R.TSY_CTRL = s.rd R.TSY_CTRL) (n : Nat) :
    t.upstream n = s.upstream n := by
  simp only [State.upstream, State.role, State.isMgr, fld_congr h1, flag_congr h1, fld_congr h2, flag_congr h2]

theorem activeUp_congr (h1 : t.rd R.TSY_STAT = s.rd R.TSY_STAT) (h2 : t.rd R.TSY_CTRL = s.rd R.TSY_CTRL) (n : Nat) :
    t.activeUp n = s.activeUp n := by
  rw [State.activeUp, State.activeUp, upstream_congr h1 h2, fld_congr h1]

theorem treePort_congr (h1 : t.rd R.TSY_STAT = s.rd R.TSY_STAT) (n : Nat) : t.treePort n = s.treePort n := by
  simp only [State.treePort, State.role, fld_congr h1]

theorem downstream_congr (h1 : t.rd R.TSY_STAT = s.rd R.TSY_STAT) (h2 : t.rd R.TSY_CTRL = s.rd R.TSY_CTRL) (n : Nat) :
    t.downstream n = s.downstream n := by
  rw [State.downstream, State.downstream, treePort_congr h1, upstream_congr h1 h2]

/-! ### A port's state (R279) -/

/-- TSY_STAT.TREE is shown, and nothing else. -/
theorem showTree_eq (s : State) : ∃ n, s.showTree = s.setF R.TSY_STAT F.TSY_STAT_TREE n ∧ (s.tsy.hold = true → n = 3) := by
  refine ⟨_, rfl, fun h => ?_⟩
  rw [if_pos h]

/-- What a change of a port's state to n leaves. -/
structure PortTo (s : State) (p n : Nat) (t : State) : Prop where
  only : OnlySync s t
  now : t.now = s.now
  tport : ∀ q, t.tport q = s.tport q
  regs : SameRegs [R.TSY_PORT_STAT p, R.TSY_STAT, R.PT_STAT] s t
  pstate : t.pstate p = n
  depth : t.fld R.TSY_STAT F.TSY_STAT_DEPTH = s.fld R.TSY_STAT F.TSY_STAT_DEPTH
  ptStat : n ≠ 3 ∨ s.activeUp p = false ∨ s.tsy.hold = false → t.rd R.PT_STAT = s.rd R.PT_STAT
  hold : n ≠ 3 ∨ s.activeUp p = false → t.tsy.hold = s.tsy.hold
  unheld : n = 3 → s.activeUp p = true → t.tsy.hold = false

/-- The state of a port, shown in its register. -/
def State.portShown (s : State) (p n : Nat) : State := (s.setPstate p n).setF (R.TSY_PORT_STAT p) F.TSY_PORT_STAT_UP (b2n (s.upstream p))

theorem portShown_rd (n m a : Nat) (h : a ≠ R.TSY_PORT_STAT n) : (s.portShown n m).rd a = s.rd a := by
  rw [State.portShown, State.setPstate, State.setF_rd_other _ _ _ _ _ h, State.setF_rd_other _ _ _ _ _ h]

theorem portShown_activeUp (n m k : Nat) : (s.portShown n m).activeUp k = s.activeUp k :=
  activeUp_congr (portShown_rd _ _ _ (portStat_ne_stat n).symm) (portShown_rd _ _ _ (portStat_ne_ctrl n).symm) k

theorem portTo_eq (p n : Nat) :
    s.portTo p n = (if n = 3 ∧ s.activeUp p then (s.portShown p n).unhold else s.portShown p n).showTree := by
  have h := portShown_activeUp (s := s) p n p
  unfold State.portShown at h ⊢
  unfold State.portTo
  rw [State.setB_eq]
  dsimp only
  rw [h]

theorem unhold_of_held (h : s.tsy.hold = true) : s.unhold = ({ s with tsy := { s.tsy with hold := false } } : State).setF R.PT_STAT
    F.PT_STAT_HOLD (b2n (s.flag R.PKG_REF F.PKG_REF_HOLD)) := by
  rw [State.unhold, if_pos h]
  rfl

theorem unhold_of_free (h : s.tsy.hold = false) : s.unhold = s := by rw [State.unhold, if_neg (by simp [h])]

theorem PortTo.showTree {p n : Nat} (h : PortTo s p n u) : PortTo s p n u.showTree := by
  obtain ⟨m, hm, -⟩ := showTree_eq u
  rw [hm]
  refine ⟨h.only.setF, h.now, h.tport, h.regs.setF (by simp), ?_, ?_, fun k => ?_, h.hold, h.unheld⟩
  · rw [State.pstate, State.setF_fld_other _ _ _ _ _ _ (.inl (portStat_ne_stat p))]
    exact h.pstate
  · rw [State.setF_fld_other _ _ _ _ _ _ (.inr (by decide)), h.depth]
  · rw [State.setF_rd_other _ _ _ _ _ stat_ne_ptStat.symm, h.ptStat k]

theorem showTree_held (h : s.tsy.hold = true) : s.showTree.fld R.TSY_STAT F.TSY_STAT_TREE = 3 := by
  obtain ⟨m, hm, hm3⟩ := showTree_eq s
  rw [hm, hm3 h, State.setF_fld_same _ _ _ _ (by decide)]
  rfl

theorem portShown_pstate {p n : Nat} (hn : n < 4) : (s.portShown p n).pstate p = n := by
  rw [State.pstate, State.portShown, State.setF_fld_other _ _ _ _ _ _ (.inr (by decide)), State.setPstate,
    State.setF_fld_same _ _ _ _ (by decide)]
  exact Nat.mod_eq_of_lt hn

theorem portShown_spec {p n : Nat} (hn : n < 4) (h : n ≠ 3 ∨ s.activeUp p = false ∨ s.tsy.hold = false) :
    PortTo s p n (s.portShown p n) := by
  refine ⟨(OnlySync.refl s).setF.setF, rfl, fun q => rfl, ((SameRegs.refl _ _).setF (by simp)).setF (by simp), portShown_pstate hn,
    fld_congr (portShown_rd _ _ _ (portStat_ne_stat p).symm) _, fun _ => portShown_rd _ _ _ (portStat_ne_ptStat p).symm, fun _ => rfl, ?_⟩
  rintro rfl hup
  rcases h with h | h | h
  · exact absurd rfl h
  · rw [hup] at h
    exact absurd h nofun
  · exact h

/-- The hold ends; PT_STAT.HOLD takes a value. -/
def State.freed (s : State) (v : Nat) : State := ({ s with tsy := { s.tsy with hold := false } } : State).setF R.PT_STAT F.PT_STAT_HOLD v

theorem freed_rd {v a : Nat} (h : a ≠ R.PT_STAT) : (s.freed v).rd a = s.rd a := by
  rw [State.freed, State.setF_rd_other _ _ _ _ _ h]
  rfl

/-- The active upstream port that comes UP ends a hold. -/
theorem freed_spec {p v : Nat} (hup : s.activeUp p = true) (hh : s.tsy.hold = true) (ho : OnlySync s u) (hn : u.now = s.now)
    (ht : ∀ q, u.tport q = s.tport q) (hr : SameRegs [R.TSY_PORT_STAT p] s u) (hp : u.pstate p = 3) : PortTo s p 3 (u.freed v) := by
  refine ⟨ho.tsy.setF, hn, ht, fun a ha => ?_, ?_, ?_, fun h => ?_, fun h => ?_, fun _ _ => rfl⟩
  · simp only [List.mem_cons, List.not_mem_nil, or_false, not_or] at ha
    rw [freed_rd ha.2.2, hr a (by simp [ha.1])]
  · rw [State.pstate, fld_congr (freed_rd (portStat_ne_ptStat p))]
    exact hp
  · refine fld_congr ?_ _
    rw [freed_rd stat_ne_ptStat, hr _ (by simp [(portStat_ne_stat p).symm])]
  · simp [hup, hh] at h
  · simp [hup] at h

theorem portTo_spec {p n : Nat} (hn : n < 4) : PortTo s p n (s.portTo p n) := by
  rw [portTo_eq]
  refine PortTo.showTree ?_
  split
  · next h =>
    obtain ⟨rfl, hup⟩ := h
    have hs : (s.portShown p 3).tsy.hold = s.tsy.hold := rfl
    by_cases hh : s.tsy.hold = true
    · rw [unhold_of_held (hs.trans hh)]
      exact freed_spec hup hh ((OnlySync.refl s).setF.setF) rfl (fun _ => rfl)
        (((SameRegs.refl _ _).setF (by simp)).setF (by simp)) (portShown_pstate (by decide))
    · have hf : s.tsy.hold = false := by simpa using hh
      rw [unhold_of_free (hs.trans hf)]
      exact portShown_spec hn (.inr (.inr hf))
  · next h =>
    refine portShown_spec hn ?_
    by_cases h1 : n = 3
    · exact .inr (.inl (by simpa [h1] using h))
    · exact .inl h1

theorem portTo_tree {p n : Nat} (h : (s.portTo p n).tsy.hold = true) : (s.portTo p n).fld R.TSY_STAT F.TSY_STAT_TREE = 3 := by
  rw [portTo_eq] at h ⊢
  exact showTree_held h

/-! ### A port leaves UP (R271, R288) -/

/-- The loss of p's link holds the device. -/
def State.holds (s : State) (p : Nat) : Bool := s.activeUp p && s.flag R.TSY_CTRL F.TSY_CTRL_SECEN

/-- A port after it left UP. -/
def Tether.fallen (x : Tether) : Tether := { x with good := 0, bad := 0, outq := [], calSent := none, calGot := none }

/-- What leaving UP to a state leaves, the registers as being changed beside it. -/
def Fell (s : State) (p : Fin 12) (now dst : Nat) (as : List Nat) (t : State) : Prop :=
  OnlySync s t ∧ t.now = now ∧ SameRegs ([R.TSY_CAUSE, R.TSY_PORT_STAT p, R.TSY_STAT, R.PT_STAT] ++ as) s t ∧ t.pstate p = dst ∧
    t.rd R.TSY_CAUSE = F.TSY_CAUSE_LINKDN.set (s.rd R.TSY_CAUSE) 1 ∧ t.tport p = (s.tport p).fallen ∧
    (∀ q, q ≠ p → t.tport q = s.tport q) ∧ t.tsy.hold = (s.tsy.hold || s.holds p) ∧
    (t.tsy.hold = true → t.fld R.TSY_STAT F.TSY_STAT_TREE = 3) ∧
    t.rd R.PT_STAT = (if s.holds p then F.PT_STAT_HOLD.set (s.rd R.PT_STAT) 1 else s.rd R.PT_STAT)

/-- LINKDN told, and the port's queues empty. -/
def State.told (s : State) (p : Fin 12) : State := (s.setF R.TSY_CAUSE F.TSY_CAUSE_LINKDN 1).modPort p Tether.fallen

/-- The device holds. -/
def State.held (s : State) : State := { s.setF R.PT_STAT F.PT_STAT_HOLD 1 with tsy := { s.tsy with hold := true } }

theorem portStat_ne_cause (n : Nat) : R.TSY_PORT_STAT n ≠ R.TSY_CAUSE := by unfold R.TSY_PORT_STAT R.TSY_CAUSE; omega
theorem portCtrl_ne_cause (n : Nat) : R.TSY_PORT_CTRL n ≠ R.TSY_CAUSE := by unfold R.TSY_PORT_CTRL R.TSY_CAUSE; omega

theorem told_rd {a : Nat} (h : a ≠ R.TSY_CAUSE) : (s.told p).rd a = s.rd a := by
  rw [State.told, modPort_rd, State.setF_rd_other _ _ _ _ _ h]

theorem told_cause : (s.told p).rd R.TSY_CAUSE = F.TSY_CAUSE_LINKDN.set (s.rd R.TSY_CAUSE) 1 := by
  rw [State.told, modPort_rd, State.setF, State.wr_rd_same]

theorem held_rd {a : Nat} (h : a ≠ R.PT_STAT) : s.held.rd a = s.rd a := by
  show (s.setF R.PT_STAT F.PT_STAT_HOLD 1).rd a = _
  rw [State.setF_rd_other _ _ _ _ _ h]

theorem held_ptStat : s.held.rd R.PT_STAT = F.PT_STAT_HOLD.set (s.rd R.PT_STAT) 1 := by
  show (s.setF R.PT_STAT F.PT_STAT_HOLD 1).rd R.PT_STAT = _
  rw [State.setF, State.wr_rd_same]

/-- Where a port trains next. -/
def State.leftTo (s : State) (p : Nat) : Nat := if s.flag (R.TSY_PORT_CTRL p) F.TSY_PORT_CTRL_EN then 1 else 0

theorem leftTo_congr {n : Nat} (h : t.rd (R.TSY_PORT_CTRL n) = s.rd (R.TSY_PORT_CTRL n)) : t.leftTo n = s.leftTo n := by
  rw [State.leftTo, State.leftTo, flag_congr h]

theorem leaveUp_eq : s.leaveUp p = (if s.holds p then (s.told p).held.portTo p (s.leftTo p) else (s.told p).portTo p (s.leftTo p)) := by
  have hc {a : Nat} (h : a ≠ R.TSY_CAUSE) : ((s.raise R.TSY_CAUSE F.TSY_CAUSE_LINKDN).modPort p Tether.fallen).rd a = s.rd a :=
    told_rd h
  have ha := activeUp_congr (hc (a := R.TSY_STAT) (by decide)) (hc (a := R.TSY_CTRL) (by decide)) p
  have hs := flag_congr (hc (a := R.TSY_CTRL) (by decide)) F.TSY_CTRL_SECEN
  have hl : (s.told p).leftTo p = s.leftTo p := leftTo_congr (told_rd (portCtrl_ne_cause p))
  have hl2 : (s.told p).held.leftTo p = s.leftTo p := by
    refine (leftTo_congr (held_rd ?_)).trans hl
    unfold R.TSY_PORT_CTRL R.PT_STAT tsyBase ptBase
    omega
  unfold State.holds
  show (if ((s.raise R.TSY_CAUSE F.TSY_CAUSE_LINKDN).modPort p Tether.fallen).activeUp p &&
      ((s.raise R.TSY_CAUSE F.TSY_CAUSE_LINKDN).modPort p Tether.fallen).flag R.TSY_CTRL F.TSY_CTRL_SECEN then (s.told p).held else s.told p).portTo p
        ((if ((s.raise R.TSY_CAUSE F.TSY_CAUSE_LINKDN).modPort p Tether.fallen).activeUp p &&
          ((s.raise R.TSY_CAUSE F.TSY_CAUSE_LINKDN).modPort p Tether.fallen).flag R.TSY_CTRL F.TSY_CTRL_SECEN then (s.told p).held else
            s.told p).leftTo p) = _
  rw [ha, hs]
  split
  · rw [hl2]
  · rw [hl]

theorem leftTo_lt (s : State) (n : Nat) : s.leftTo n < 3 := by
  unfold State.leftTo
  split <;> decide

/-- What leaving UP leaves, once the port is told: u is the port told, held or not. -/
theorem fell_of_portTo {n : Nat} (hn : n < 3) (ho : OnlySync s u) (hnow : u.now = s.now)
    (hr : SameRegs [R.TSY_CAUSE, R.PT_STAT] s u) (hc : u.rd R.TSY_CAUSE = F.TSY_CAUSE_LINKDN.set (s.rd R.TSY_CAUSE) 1)
    (hp : u.tport p = (s.tport p).fallen) (hq : ∀ q, q ≠ p → u.tport q = s.tport q) (hh : u.tsy.hold = (s.tsy.hold || s.holds p))
    (hpt : u.rd R.PT_STAT = (if s.holds p then F.PT_STAT_HOLD.set (s.rd R.PT_STAT) 1 else s.rd R.PT_STAT)) :
    Fell s p s.now n [] (u.portTo p n) := by
  have h := portTo_spec (s := u) (p := p) (n := n) (by omega)
  have hn3 : n ≠ 3 := by omega
  refine ⟨ho.trans h.only, h.now.trans hnow, (hr.mono (by simp)).trans (h.regs.mono (by simp)), h.pstate, ?_, ?_, fun q k => ?_,
    (h.hold (.inl hn3)).trans hh, portTo_tree, (h.ptStat (.inl hn3)).trans hpt⟩
  · rw [h.regs _ (by simp [(portStat_ne_cause p).symm]; decide), hc]
  · rw [h.tport, hp]
  · rw [h.tport, hq q k]

theorem leaveUp_fell : Fell s p s.now (s.leftTo p) [] (s.leaveUp p) := by
  rw [leaveUp_eq]
  have hl : s.leftTo p < 3 := leftTo_lt s p
  have ht : (s.told p).tport p = (s.tport p).fallen := modPort_tport_same _
  have hq (q : Fin 12) (h : q ≠ p) : (s.told p).tport q = s.tport q := modPort_tport_other _ h
  have ho : OnlySync s (s.told p) := (OnlySync.refl s).setF.modPort
  by_cases h : s.holds p = true
  · rw [if_pos h]
    refine fell_of_portTo hl ho.setF.tsy rfl (fun a ha => ?_) ?_ ht hq ?_ ?_
    · simp only [List.mem_cons, List.not_mem_nil, or_false, not_or] at ha
      rw [held_rd ha.2, told_rd ha.1]
    · rw [held_rd (by decide), told_cause]
    · rw [h, Bool.or_true]
      rfl
    · rw [if_pos h, held_ptStat, told_rd (by decide)]
  · rw [if_neg h]
    refine fell_of_portTo hl ho rfl (fun a ha => ?_) told_cause ht hq ?_ ?_
    · exact told_rd fun e => ha (by simp [e])
    · rw [Bool.eq_false_iff.mpr h, Bool.or_false]
      rfl
    · rw [if_neg h, told_rd (by decide)]

/-! ### The commands -/

theorem portEnable_refused (h : s.bistHeld (p.val / 2) (0x1B + p.val % 2) = true) : After (.portEnable p true) s (fun t =>
    OnlyWrites [(R.TSY_CAUSE, [(F.TSY_CAUSE_CMDERR, 1)])] s t) := by
  refine ⟨s.raise R.TSY_CAUSE F.TSY_CAUSE_CMDERR, ?_, ?_⟩
  · show execPortEnable p true s = _
    rw [execPortEnable, if_pos (by simp [h])]
  · exact onlyWrites_raise _ _

/-- EN of a port's control register is written. -/
def State.enabled (s : State) (p : Nat) (en : Bool) : State := s.setF (R.TSY_PORT_CTRL p) F.TSY_PORT_CTRL_EN (b2n en)

theorem enabled_rd {n a : Nat} {en : Bool} (h : a ≠ R.TSY_PORT_CTRL n) : (s.enabled n en).rd a = s.rd a :=
  State.setF_rd_other _ _ _ _ _ h

theorem enabled_flag (n : Nat) (en : Bool) : (s.enabled n en).flag (R.TSY_PORT_CTRL n) F.TSY_PORT_CTRL_EN = en := by
  rw [State.enabled, State.flag, State.setF_fld_same _ _ _ _ (by decide)]
  cases en <;> rfl

theorem enabled_pstate (n m : Nat) (en : Bool) : (s.enabled n en).pstate m = s.pstate m :=
  fld_congr (enabled_rd (portStat_ne_portCtrl m n)) _

theorem portCtrl_ne_stat (n : Nat) : R.TSY_PORT_CTRL n ≠ R.TSY_STAT := by unfold R.TSY_PORT_CTRL R.TSY_STAT; omega
theorem portCtrl_ne_ctrl (n : Nat) : R.TSY_PORT_CTRL n ≠ R.TSY_CTRL := by unfold R.TSY_PORT_CTRL R.TSY_CTRL; omega
theorem portCtrl_ne_ptStat (n : Nat) : R.TSY_PORT_CTRL n ≠ R.PT_STAT := by
  unfold R.TSY_PORT_CTRL R.PT_STAT tsyBase ptBase; omega

/-- A port that starts afresh. -/
def State.portFresh (s : State) (p : Fin 12) : State :=
  ((s.enabled p true).wr (R.TSY_PORT_FEC p) 0).modPort p (fun x => { Tether.reset with frame := x.frame })

theorem portEnable_trains (hb : s.bistHeld (p.val / 2) (0x1B + p.val % 2) = false)
    (he : s.flag (R.TSY_PORT_CTRL p) F.TSY_PORT_CTRL_EN = false) (ht : s.treePort p = true ∨ p = 11) :
    After (.portEnable p true) s (fun t => OnlySync s t ∧ t.now = s.now ∧
      SameRegs [R.TSY_PORT_CTRL p, R.TSY_PORT_FEC p, R.TSY_PORT_STAT p, R.TSY_STAT] s t ∧ t.pstate p = 1 ∧
        t.flag (R.TSY_PORT_CTRL p) F.TSY_PORT_CTRL_EN = true ∧ t.rd (R.TSY_PORT_FEC p) = 0 ∧
          t.tport p = { Tether.reset with frame := (s.tport p).frame } ∧ ∀ q, q ≠ p → t.tport q = s.tport q) := by
  have hfec : R.TSY_PORT_CTRL p ≠ R.TSY_PORT_FEC p := by unfold R.TSY_PORT_CTRL R.TSY_PORT_FEC; omega
  have hfs : R.TSY_PORT_FEC p ≠ R.TSY_PORT_STAT p := by unfold R.TSY_PORT_STAT R.TSY_PORT_FEC; omega
  have hft : R.TSY_PORT_FEC p ≠ R.TSY_STAT := by unfold R.TSY_STAT R.TSY_PORT_FEC; omega
  have hfp : R.TSY_PORT_FEC p ≠ R.PT_STAT := by unfold R.PT_STAT R.TSY_PORT_FEC tsyBase ptBase; omega
  have hrd {a : Nat} (h1 : a ≠ R.TSY_PORT_FEC p) : (s.portFresh p).rd a = (s.enabled p true).rd a := by
    rw [State.portFresh, modPort_rd, State.wr_rd_other _ _ _ _ h1]
  have htree : (s.portFresh p).treePort p = s.treePort p := treePort_congr (by rw [hrd hft.symm, enabled_rd (portCtrl_ne_stat p).symm]) p
  have hexec : exec (.portEnable p true) s = .next ((s.portFresh p).portTo p 1) := by
    show execPortEnable p true s = _
    unfold execPortEnable
    rw [if_neg (by simp [hb])]
    dsimp only
    rw [he, if_pos rfl, if_neg (by decide)]
    show (if (s.portFresh p).treePort p || p.val == 11 then _ else _) = _
    refine if_pos ?_
    show ((s.portFresh p).treePort p || p.val == 11) = true
    rw [htree]
    rcases ht with h | rfl
    · rw [h]; rfl
    · exact Bool.or_true _
  have hk := portTo_spec (s := s.portFresh p) (p := p) (n := 1) (by decide)
  have ho : OnlySync s (s.portFresh p) := (OnlySync.refl s).setF.wr.modPort
  have hpt := hk.ptStat (.inl (by decide))
  refine ⟨_, hexec, ho.trans hk.only, hk.now, fun a ha => ?_, hk.pstate, ?_, ?_, ?_, fun q h => ?_⟩
  · simp only [List.mem_cons, List.not_mem_nil, or_false, not_or] at ha
    obtain ⟨h1, h2, h3, h4⟩ := ha
    have hs : (s.portFresh p).rd a = s.rd a := by rw [hrd h2, enabled_rd h1]
    by_cases h5 : a = R.PT_STAT
    · rw [h5] at hs ⊢
      rw [hpt, hs]
    · rw [hk.regs a (by simp [h3, h4, h5]), hs]
  · rw [flag_congr (hk.regs _ (by simp [(portStat_ne_portCtrl p p).symm, portCtrl_ne_stat, portCtrl_ne_ptStat])), flag_congr (hrd hfec)]
    exact enabled_flag _ _
  · rw [hk.regs _ (by simp [hfs, hft, hfp]), State.portFresh, modPort_rd, State.wr_rd_same]
  · rw [hk.tport]
    exact modPort_tport_same _
  · rw [hk.tport]
    exact modPort_tport_other _ h

theorem portDisable_down (h : s.pstate p ≠ 3) : After (.portEnable p false) s (fun t => OnlySync s t ∧ t.now = s.now ∧
    SameRegs [R.TSY_PORT_CTRL p, R.TSY_PORT_STAT p, R.TSY_STAT] s t ∧ t.pstate p = 0 ∧
      t.flag (R.TSY_PORT_CTRL p) F.TSY_PORT_CTRL_EN = false ∧
        t.tport p = { s.tport p with outq := [] } ∧ ∀ q, q ≠ p → t.tport q = s.tport q) := by
  have hexec : exec (.portEnable p false) s = .next (((s.enabled p false).modPort p (fun x => { x with outq := [] })).portTo p 0) := by
    have hp : (s.enabled p false).pstate p ≠ 3 := by rwa [enabled_pstate]
    show execPortEnable p false s = _
    unfold execPortEnable
    rw [if_neg (by simp)]
    dsimp only
    rw [if_neg (by simp)]
    exact if_neg hp
  have hk := portTo_spec (s := (s.enabled p false).modPort p (fun x => { x with outq := [] })) (p := p) (n := 0) (by decide)
  have ho : OnlySync s ((s.enabled p false).modPort p (fun x => { x with outq := [] })) := (OnlySync.refl s).setF.modPort
  have hpt := hk.ptStat (.inl (by decide))
  refine ⟨_, hexec, ho.trans hk.only, hk.now, fun a ha => ?_, hk.pstate, ?_, ?_, fun q h => ?_⟩
  · simp only [List.mem_cons, List.not_mem_nil, or_false, not_or] at ha
    obtain ⟨h1, h2, h3⟩ := ha
    by_cases h5 : a = R.PT_STAT
    · rw [h5, hpt, modPort_rd, enabled_rd (portCtrl_ne_ptStat p).symm]
    · rw [hk.regs a (by simp [h2, h3, h5]), modPort_rd, enabled_rd h1]
  · rw [flag_congr (hk.regs _ (by simp [(portStat_ne_portCtrl p p).symm, portCtrl_ne_stat, portCtrl_ne_ptStat])), modPort_flag]
    exact enabled_flag _ _
  · rw [hk.tport]
    exact modPort_tport_same _
  · rw [hk.tport]
    exact modPort_tport_other _ h

/-- What leaving UP leaves, after a step that changes neither the ports nor what decides on a hold. -/
theorem Fell.after {now n : Nat} {as : List Nat} (ho : OnlySync s u) (hn : u.now = now) (ht : u.tsy = s.tsy) (hr : SameRegs as s u)
    (has : ∀ a ∈ as, a ≠ R.TSY_STAT ∧ a ≠ R.TSY_CTRL ∧ a ≠ R.TSY_CAUSE ∧ a ≠ R.PT_STAT) (h : Fell u p u.now n [] t) :
    Fell s p now n as t := by
  have hrd {a : Nat} (ha : a = R.TSY_STAT ∨ a = R.TSY_CTRL ∨ a = R.TSY_CAUSE ∨ a = R.PT_STAT) : u.rd a = s.rd a := by
    refine hr a fun e => ?_
    obtain ⟨h1, h2, h3, h4⟩ := has a e
    rcases ha with ha | ha | ha | ha <;> contradiction
  have hh : u.holds p = s.holds p := by
    rw [State.holds, State.holds, activeUp_congr (hrd (by simp)) (hrd (by simp)), flag_congr (hrd (by simp))]
  have htp (q : Fin 12) : u.tport q = s.tport q := by rw [State.tport, State.tport, ht]
  obtain ⟨h1, h2, h3, h4, h5, h6, h7, h8, h9, h10⟩ := h
  refine ⟨ho.trans h1, h2.trans hn, (hr.mono fun a h => by simp [h]).trans (h3.mono fun a h => List.mem_append_left _ (by simpa using h)), h4, by rw [h5, hrd (by simp)],
    by rw [h6, htp], fun q k => by rw [h7 q k, htp], by rw [h8, ht, hh], h9, by rw [h10, hh, hrd (by simp)]⟩

theorem portDisable_up (h : s.pstate p = 3) : After (.portEnable p false) s (fun t => Fell s p s.now 0 [R.TSY_PORT_CTRL p] t ∧
    t.flag (R.TSY_PORT_CTRL p) F.TSY_PORT_CTRL_EN = false) := by
  have hexec : exec (.portEnable p false) s = .next ((s.enabled p false).leaveUp p) := by
    have hp : (s.enabled p false).pstate p = 3 := by rwa [enabled_pstate]
    show execPortEnable p false s = _
    unfold execPortEnable
    rw [if_neg (by simp)]
    dsimp only
    rw [if_neg (by simp)]
    exact if_pos hp
  have hl : (s.enabled p false).leftTo p = 0 := by rw [State.leftTo, enabled_flag]; rfl
  have hf := leaveUp_fell (s := s.enabled p false) (p := p)
  rw [hl] at hf
  refine ⟨_, hexec, hf.after (OnlySync.refl s).setF rfl rfl ((SameRegs.refl _ _).setF (by simp)) ?_, ?_⟩
  · simp only [List.mem_singleton, forall_eq]
    exact ⟨portCtrl_ne_stat p, portCtrl_ne_ctrl p, portCtrl_ne_cause p, portCtrl_ne_ptStat p⟩
  · obtain ⟨-, -, hr, -⟩ := hf
    rw [flag_congr (hr _ (by simp [(portStat_ne_portCtrl p p).symm, portCtrl_ne_stat, portCtrl_ne_ptStat, portCtrl_ne_cause]))]
    exact enabled_flag _ _

theorem linkdn_fell (h : s.pstate p = 3) (lost : Bool) : After (.linkdn p lost) s (Fell s p
    (if lost then s.now else max s.now ((s.tport p).lastFrame + 1000 * ns)) (s.leftTo p) []) := by
  refine ⟨(if lost then s else s.at_ ((s.tport p).lastFrame + 1000 * ns)).leaveUp p, if_pos h, ?_⟩
  cases lost with
  | true => exact leaveUp_fell
  | false =>
    have hf : Fell (s.at_ ((s.tport p).lastFrame + 1000 * ns)) p (s.at_ ((s.tport p).lastFrame + 1000 * ns)).now (s.leftTo p) []
        ((s.at_ ((s.tport p).lastFrame + 1000 * ns)).leaveUp p) := leaveUp_fell
    exact hf.after (OnlySync.refl s).at_ (State.at_now _ _) rfl (fun a _ => State.atT_rd _ _ _) (by simp)

theorem val_eq_11 : p.val = 11 ↔ p = 11 := ⟨fun h => Fin.ext h, fun h => by rw [h]; rfl⟩

theorem val_beq_11 : (p.val == 11) = (p == 11) := by
  rw [Bool.eq_iff_iff, beq_iff_eq, beq_iff_eq, val_eq_11]

/-- A port in CAL for the first time: what it forgets, and the CAL that is due at the upstream end. -/
def State.trained (s : State) (p : Fin 12) : State :=
  if s.downstream p || p == 11 then (s.modPort p (fun x => { x with bad := 0, lastFrame := s.now })).calDue p
  else s.modPort p (fun x => { x with bad := 0, lastFrame := s.now })

theorem trained_only : OnlySync s (s.trained p) ∧ (s.trained p).now = s.now ∧ (∀ a, (s.trained p).rd a = s.rd a) ∧
    (∀ q, q ≠ p → (s.trained p).tport q = s.tport q) ∧ (s.trained p).tport p = { s.tport p with
      bad := 0, lastFrame := s.now
      outq := (s.tport p).outq ++ if s.downstream p || p == 11 then [⟨9, s.devId, 0, 0⟩] else [] } := by
  unfold State.trained
  by_cases h : (s.downstream p || p == 11) = true
  · rw [if_pos h, if_pos h]
    rw [State.calDue, State.toPort]
    refine ⟨(OnlySync.refl s).modPort.modPort, rfl, fun a => rfl, fun q hq => ?_, ?_⟩
    · exact (modPort_tport_other _ hq).trans (modPort_tport_other _ hq)
    · rw [modPort_tport_same, modPort_tport_same]
      rfl
  · rw [if_neg h, if_neg h]
    refine ⟨(OnlySync.refl s).modPort, rfl, fun a => rfl, fun q hq => modPort_tport_other _ hq, ?_⟩
    rw [modPort_tport_same, List.append_nil]

theorem trainEnd_spec (h : s.pstate p = 1) : After (.trainEnd p) s (fun t => OnlySync s t ∧ t.now = s.now ∧
    SameRegs [R.TSY_PORT_STAT p, R.TSY_STAT] s t ∧ t.pstate p = 2 ∧ (∀ q, q ≠ p → t.tport q = s.tport q) ∧
      t.tport p = { s.tport p with
        bad := 0, lastFrame := s.now
        outq := (s.tport p).outq ++ if s.downstream p || p == 11 then [⟨9, s.devId, 0, 0⟩] else [] }) := by
  have hexec : exec (.trainEnd p) s = .next ((s.trained p).portTo p 2) := by
    show execTrainEnd p s = _
    unfold execTrainEnd State.trained
    rw [if_pos h, ← val_beq_11]
    rfl
  obtain ⟨ho, hn, hr, hq, hp⟩ := trained_only (s := s) (p := p)
  have hk := portTo_spec (s := s.trained p) (p := p) (n := 2) (by decide)
  refine ⟨_, hexec, ho.trans hk.only, hk.now.trans hn, fun a ha => ?_, hk.pstate, fun q h => (hk.tport q).trans (hq q h),
    (hk.tport p).trans hp⟩
  simp only [List.mem_cons, List.not_mem_nil, or_false, not_or] at ha
  by_cases h5 : a = R.PT_STAT
  · rw [h5, hk.ptStat (.inl (by decide)), hr]
  · rw [hk.regs a (by simp [ha, h5]), hr]

/-- A port that comes UP: what it learns of its far end, and the depth below the active upstream port. -/
def State.joined (s : State) (p : Fin 12) (peer depth : Nat) : State :=
  let u := s.modPort p (fun x => { x with bad := 0, peer := some peer, depth := depth, aligned := s.fld (R.TSY_PORT_HOP p) F.TSY_PORT_HOP_H })
  if s.activeUp p then u.setF R.TSY_STAT F.TSY_STAT_DEPTH (min 2 (depth + 1)) else u

section
variable {peer : BitVec 6} {depth : BitVec 2} {seen : LinkVerdict}

theorem exec_calEnd (h : s.pstate p = 2) : exec (.calEnd p peer depth seen) s =
    (match s.linkVerdict p peer.toNat depth.toNat seen with
      | .breaks => .next (s.raise R.TSY_CAUSE F.TSY_CAUSE_TOPO)
      | .duplicate => .next (s.raise R.TSY_CAUSE F.TSY_CAUSE_DUPID)
      | .fits => .next ((s.joined p peer.toNat depth.toNat).portTo p 3)) := by
  show execCalEnd p peer depth seen s = _
  unfold execCalEnd
  rw [if_pos h]
  rfl

theorem linkVerdict_duplicate (h : p ≠ 11) (hp : peer.toNat = s.devId) : s.linkVerdict p peer.toNat depth.toNat seen = .duplicate := by
  rw [State.linkVerdict, if_neg fun k => h (val_eq_11.mp k), if_pos hp]

theorem linkVerdict_breaks (h : p ≠ 11) (hp : peer.toNat ≠ s.devId) (hb : s.upstream p = true ∧ 2 ≤ depth.toNat ∨
    s.downstream p = true ∧ 2 ≤ s.fld R.TSY_STAT F.TSY_STAT_DEPTH ∨ seen = .breaks) :
    s.linkVerdict p peer.toNat depth.toNat seen = .breaks := by
  rw [State.linkVerdict, if_neg fun k => h (val_eq_11.mp k), if_neg hp]
  by_cases hx : s.upstream p = true ∧ 2 ≤ depth.toNat ∨ s.downstream p = true ∧ 2 ≤ s.fld R.TSY_STAT F.TSY_STAT_DEPTH
  · rw [if_pos hx]
  · rw [if_neg hx]
    tauto

theorem linkVerdict_fits (h : p = 11 ∨ seen = .fits ∧ peer.toNat ≠ s.devId ∧ (s.upstream p = true → depth.toNat < 2) ∧
    (s.downstream p = true → s.fld R.TSY_STAT F.TSY_STAT_DEPTH < 2)) : s.linkVerdict p peer.toNat depth.toNat seen = .fits := by
  rw [State.linkVerdict]
  rcases h with rfl | ⟨hs, hp, hu, hd⟩
  · exact if_pos rfl
  · by_cases h11 : p.val = 11
    · rw [if_pos h11]
    · rw [if_neg h11, if_neg hp, if_neg, hs]
      rintro (⟨h1, h2⟩ | ⟨h1, h2⟩)
      · exact absurd (hu h1) (by omega)
      · exact absurd (hd h1) (by omega)

end

theorem joined_only (n m : Nat) : OnlySync s (s.joined p n m) ∧ (s.joined p n m).now = s.now ∧ SameRegs [R.TSY_STAT] s (s.joined p n m) ∧
    (s.joined p n m).tport p = { s.tport p with bad := 0, peer := some n, depth := m, aligned := s.fld (R.TSY_PORT_HOP p) F.TSY_PORT_HOP_H } ∧
    (∀ q, q ≠ p → (s.joined p n m).tport q = s.tport q) ∧ (s.joined p n m).tsy.hold = s.tsy.hold ∧
    (s.activeUp p = true → (s.joined p n m).fld R.TSY_STAT F.TSY_STAT_DEPTH = min 2 (m + 1)) := by
  unfold State.joined
  dsimp only
  by_cases h : s.activeUp p = true
  · rw [if_pos h]
    refine ⟨(OnlySync.refl s).modPort.setF, rfl, SameRegs.setF (fun _ _ => rfl) (by simp), ?_, fun q hq => ?_, rfl,
      fun _ => ?_⟩
    · rw [setF_tport, modPort_tport_same]
    · rw [setF_tport, modPort_tport_other _ hq]
    rw [State.setF_fld_same _ _ _ _ (by decide)]
    exact Nat.mod_eq_of_lt (show min 2 (m + 1) < 4 by omega)
  · rw [if_neg h]
    exact ⟨(OnlySync.refl s).modPort, rfl, fun _ _ => rfl, modPort_tport_same _, fun q hq => modPort_tport_other _ hq, rfl,
      fun k => absurd k h⟩

theorem joined_activeUp (n m : Nat) : (s.joined p n m).activeUp p = s.activeUp p := by
  unfold State.joined
  dsimp only
  split
  · have hf (f : Fld) (hf : F.TSY_STAT_DEPTH.lo + F.TSY_STAT_DEPTH.w ≤ f.lo ∨ f.lo + f.w ≤ F.TSY_STAT_DEPTH.lo) :
        ((s.modPort p (fun x => { x with bad := 0, peer := some n, depth := m, aligned := s.fld (R.TSY_PORT_HOP p) F.TSY_PORT_HOP_H })).setF
          R.TSY_STAT F.TSY_STAT_DEPTH (min 2 (m + 1))).fld R.TSY_STAT f = s.fld R.TSY_STAT f :=
      State.setF_fld_other _ _ _ _ _ _ (.inr hf)
    simp only [State.activeUp, State.upstream, State.role, State.isMgr, State.flag]
    rw [hf F.TSY_STAT_ROLE (by decide), hf F.TSY_STAT_MGR (by decide), hf F.TSY_STAT_UPACT (by decide)]
    rw [State.setF_fld_other _ _ _ _ _ _ (.inl (by decide)), State.setF_fld_other _ _ _ _ _ _ (.inl (by decide)),
      State.setF_fld_other _ _ _ _ _ _ (.inl (by decide))]
    rfl
  · rfl

section
variable {peer : BitVec 6} {depth : BitVec 2} {seen : LinkVerdict}

theorem calEnd_up (hs : s.pstate p = 2) (h : p = 11 ∨ seen = .fits ∧ peer.toNat ≠ s.devId ∧ (s.upstream p = true → depth.toNat < 2) ∧
    (s.downstream p = true → s.fld R.TSY_STAT F.TSY_STAT_DEPTH < 2)) : After (.calEnd p peer depth seen) s (fun t =>
      OnlySync s t ∧ t.now = s.now ∧
          SameRegs [R.TSY_PORT_STAT p, R.TSY_STAT, R.PT_STAT] s t ∧ t.pstate p = 3 ∧ (∀ q, q ≠ p → t.tport q = s.tport q) ∧
          t.tport p = { s.tport p with
            bad := 0, peer := some peer.toNat, depth := depth.toNat, aligned := s.fld (R.TSY_PORT_HOP p) F.TSY_PORT_HOP_H } ∧
          (s.activeUp p = true → t.fld R.TSY_STAT F.TSY_STAT_DEPTH = min 2 (depth.toNat + 1) ∧ t.tsy.hold = false) ∧
          (s.tsy.hold = false ∨ s.activeUp p = false → t.rd R.PT_STAT = s.rd R.PT_STAT)) := by
  obtain ⟨ho, hn, hr, hp, hq, hh, hd⟩ := joined_only (s := s) (p := p) peer.toNat depth.toNat
  have ha := joined_activeUp (s := s) (p := p) peer.toNat depth.toNat
  have hk := portTo_spec (s := s.joined p peer.toNat depth.toNat) (p := p) (n := 3) (by decide)
  refine ⟨_, by rw [exec_calEnd hs, linkVerdict_fits h], ho.trans hk.only, hk.now.trans hn, (hr.mono (by simp)).trans hk.regs, hk.pstate,
    fun q k => (hk.tport q).trans (hq q k), (hk.tport p).trans hp, fun k => ⟨hk.depth.trans (hd k), hk.unheld rfl (ha.trans k)⟩, fun k => ?_⟩
  refine (hk.ptStat (.inr ?_)).trans (hr _ (by simp [stat_ne_ptStat.symm]))
  rw [ha, hh]
  exact k.symm

end

theorem hopRecal_spec (h : s.pstate p = 3) (hd : s.downstream p = true ∨ p = 11) : After (.hopRecal p) s (fun t =>
    t = { s with tsy := t.tsy } ∧ t.tport p = { s.tport p with outq := (s.tport p).outq ++ [⟨9, s.devId, 0, 0⟩] } ∧
      ∀ q, q ≠ p → t.tport q = s.tport q) := by
  refine ⟨s.calDue p, if_pos ⟨h, ?_⟩, rfl, modPort_tport_same _, fun q hq => modPort_tport_other _ hq⟩
  rcases hd with hd | rfl
  · exact .inl hd
  · exact .inr rfl

/-- Settles O23: what a change of a port's state leaves (`portTo_spec`), what leaving UP leaves (`leaveUp_fell`), and each command on
top of them. -/
theorem tetherPortsTrainCalibrateAndFall : Obligations.TetherPortsTrainCalibrateAndFall := by
  intro s p
  refine ⟨portEnable_refused, portEnable_trains, portDisable_down, portDisable_up, trainEnd_spec, fun peer depth seen h => ?_,
    linkdn_fell, hopRecal_spec⟩
  refine ⟨calEnd_up h, fun h11 hp => ⟨_, ?_, onlyWrites_raise _ _⟩, fun h11 hp hb => ⟨_, ?_, onlyWrites_raise _ _⟩⟩
  · rw [exec_calEnd h, linkVerdict_duplicate h11 hp]
  · rw [exec_calEnd h, linkVerdict_breaks h11 hp hb]

end Sys2Proof.Machine
end

section
/-! Frames of a tether port (08_time_sync_scaleout.md R268 to R273, R279). -/
namespace Sys2Proof.Machine
variable {s t : State} {p q : Fin 12}

/-! ### The slots of a frame (R272, R273) -/

/-- What waits for a port beside the gangs' messages. -/
def otherMsgs (l : List TSlot) : List TSlot := l.filter (fun m => !m.gangType)

theorem otherMsgs_erase {m : TSlot} (h : m.gangType = true) (l : List TSlot) : otherMsgs (l.erase m) = otherMsgs l := by
  unfold otherMsgs
  induction l with
  | nil => rfl
  | cons x l ih =>
    by_cases hx : x = m
    · subst hx
      rw [List.erase_cons_head, List.filter_cons_of_neg (by simp [h])]
    · rw [List.erase_cons_tail (by simpa using hx), List.filter_cons, List.filter_cons, ih]

theorem otherMsgs_mergeRun {typ gid didx n bits : Nat} (h : typ = 2 ∨ typ = 3) (l : List TSlot) :
    otherMsgs (mergeRun typ gid didx n bits l).2.2 = otherMsgs l := by
  induction l generalizing n bits with
  | nil => rfl
  | cons m l ih =>
    unfold mergeRun
    split
    · next hm =>
      have hg : m.gangType = true := by
        rcases h with h | h <;> simp [TSlot.gangType, hm.2.1, h]
      rw [ih, otherMsgs, otherMsgs, List.filter_cons_of_neg (by simp [hg])]
    · show otherMsgs (m :: (mergeRun typ gid didx n bits l).2.2) = _
      rw [otherMsgs, List.filter_cons, ← otherMsgs, ih, otherMsgs, otherMsgs, List.filter_cons]

theorem gangType_of_lost {m : TSlot} (h : m.typ = 7) : m.gangType = true := by simp [TSlot.gangType, h]

theorem otherMsgs_takeGang (n : Nat) (l : List TSlot) : otherMsgs (takeGang n l).2 = otherMsgs l := by
  cases h7 : l.find? (fun m => m.typ == 7 && m.gid == n) with
  | some m =>
    have hp := List.find?_some h7
    simp only [Bool.and_eq_true, beq_iff_eq] at hp
    rw [takeGang, h7]
    dsimp only
    rw [otherMsgs_erase (gangType_of_lost hp.1)]
  | none =>
    cases hg : l.find? (fun m => m.gangType && m.gid == n) with
    | none => rw [takeGang, h7, hg]
    | some m =>
      have hp := List.find?_some hg
      simp only [Bool.and_eq_true] at hp
      rw [takeGang, h7, hg]
      by_cases ht : m.typ = 2 ∨ m.typ = 3
      · dsimp only
        rw [if_pos ht]
        exact (otherMsgs_mergeRun ht _).trans (otherMsgs_erase hp.1 l)
      · dsimp only
        rw [if_neg ht]
        exact otherMsgs_erase hp.1 l

theorem otherMsgs_takeGangs (ns : List Nat) (l : List TSlot) : otherMsgs (takeGangs ns l).2 = otherMsgs l := by
  induction ns generalizing l with
  | nil => rfl
  | cons n ns ih => exact (ih _).trans (otherMsgs_takeGang n l)

/-- The first message beside the gangs' that is ready goes in slot 17. -/
theorem first_in_slot17 {n : Nat} {m w : TSlot} {r : List TSlot} (h : otherMsgs (s.tport p).outq = m :: r)
    (hw : s.readySlot p n m = some w) : (17, w) ∈ (s.frameSlots p n).1 := by
  have hg := otherMsgs_takeGangs (List.range 16) (s.tport p).outq
  rw [h, otherMsgs] at hg
  have ho : (takeOthers (s.readySlot p n) [] 7 (m :: r)).1 = w :: (takeOthers (s.readySlot p n) [m] 6 r).1 := by
    rw [takeOthers, if_neg (by simp), hw]
  unfold State.frameSlots
  dsimp only
  rw [hg, ho]
  refine List.mem_append_right _ (List.mem_map.mpr ⟨0, List.mem_range.mpr (by simp), rfl⟩)

theorem ptb_in_slot16 {n : Nat} (h : s.downstream p = true) : (16, ⟨1, s.devId, 0, n / ns / 65536⟩) ∈ (s.frameSlots p n).1 := by
  unfold State.frameSlots
  dsimp only
  rw [if_pos h]
  exact List.mem_append_left _ (List.mem_append_right _ (List.mem_singleton.mpr rfl))

/-! ### Two updates of a port are one -/

theorem modPort_modPort (f g : Tether → Tether) : (s.modPort p f).modPort p g = s.modPort p (fun x => g (f x)) := by
  have h := modPort_tport_same (s := s) (p := p) f
  unfold State.tport at h
  rw [State.modPort, h, State.modPort, State.modPort]
  simp only [Vector.set_set]

/-! ### Launch (R269) -/

/-- The number of the next frame of a port. -/
def State.nextFrame (s : State) (p : Fin 12) : Nat := max (s.tport p).frame (frameAfter s.now)

theorem le_frameTime {k n : Nat} (h : frameAfter n ≤ k) : n ≤ frameTime k := by
  unfold frameAfter at h
  unfold frameTime
  omega

theorem at_nextFrame : s.at_ (frameTime (s.nextFrame p)) = { s with now := frameTime (s.nextFrame p) } := by
  have h : max s.now (frameTime (s.nextFrame p)) = frameTime (s.nextFrame p) := max_eq_right (le_frameTime (le_max_right _ _))
  rw [State.at_, h]

theorem readySlot_congr (h : ∀ a, t.rd a = s.rd a) (hc : (t.tport p).calGot = (s.tport p).calGot) (n : Nat) :
    t.readySlot p n = s.readySlot p n := by
  funext m
  rw [State.readySlot, State.readySlot, hc, fld_congr (h _)]

theorem frameSlots_congr (h : ∀ a, t.rd a = s.rd a) (hc : (t.tport p).calGot = (s.tport p).calGot)
    (ho : (t.tport p).outq = (s.tport p).outq) (n : Nat) : t.frameSlots p n = s.frameSlots p n := by
  have hd : t.devId = s.devId := fld_congr (h _) _
  unfold State.frameSlots
  rw [ho, readySlot_congr h hc, downstream_congr (h _) (h _), hd]

/-- A port after the launch of a normal frame. -/
def State.launched (s : State) (p : Fin 12) (x : Tether) : Tether :=
  let slots := s.frameSlots p (frameTime (s.nextFrame p))
  { x with
    frame := s.nextFrame p + 1, outq := slots.2, flitq := x.flitq.drop 7
    unacked := x.unacked ++ (x.flitq.take 7).map (fun f => { f with sent := frameTime (s.nextFrame p) })
    calSent := if slots.1.any (fun m => m.2.typ == 9) then some (frameTime (s.nextFrame p)) else x.calSent
    calGot := if slots.1.any (fun m => m.2.typ == 10) then none else x.calGot }

theorem launch_free (h : s.downstream p = false ∨ s.aligned = true) : ¬ (s.downstream p.val ∧ !s.aligned) := by
  rintro ⟨h1, h2⟩
  rcases h with h | h
  · rw [h] at h1
    exact absurd h1 nofun
  · rw [h] at h2
    exact absurd h2 nofun

/-- A launch takes place: the clock stands at the frame's place on the grid. -/
theorem exec_frameLaunch (h : s.downstream p = false ∨ s.aligned = true) (hp : s.pstate p ≠ 0) {u : State}
    (hu : u = (s.at_ (frameTime (s.nextFrame p))).modPort p (fun x => { x with frame := s.nextFrame p + 1 })) :
    exec (.frameLaunch p) s = .next (if u.pstate p = 1 then
      u.emit (frameOut p (framePayload (frameTime (s.nextFrame p) / ns % 65536) 1 [] []))
    else
      (u.modPort p (fun x => { x with
        outq := (u.frameSlots p (frameTime (s.nextFrame p))).2
        calSent := if (u.frameSlots p (frameTime (s.nextFrame p))).1.any (fun m => m.2.typ == 9) then
          some (frameTime (s.nextFrame p)) else x.calSent
        calGot := if (u.frameSlots p (frameTime (s.nextFrame p))).1.any (fun m => m.2.typ == 0xA) then none else x.calGot
        flitq := x.flitq.drop 7
        unacked := x.unacked ++ ((u.tport p).flitq.take 7).map (fun f => { f with sent := frameTime (s.nextFrame p) }) })).emit
        (frameOut p (framePayload (frameTime (s.nextFrame p) / ns % 65536) 0 (u.frameSlots p (frameTime (s.nextFrame p))).1
          ((((u.tport p).flitq.take 7).map (fun f => { f with sent := frameTime (s.nextFrame p) })).map Flit.bits)))) := by
  subst hu
  show execFrameLaunch p s = _
  unfold execFrameLaunch
  rw [if_neg fun k => k.elim hp (launch_free h), State.nextFrame]
  exact Eq.trans rfl (apply_ite _ _ _ _).symm

@[simp] theorem emit_tport (o : Output) : (s.emit o).tport q = s.tport q := rfl

/-- The port at the frame's place on the grid. -/
def State.atFrame (s : State) (p : Fin 12) : State :=
  (s.at_ (frameTime (s.nextFrame p))).modPort p (fun x => { x with frame := s.nextFrame p + 1 })

theorem atFrame_eq : ∃ y, s.atFrame p = { s with now := frameTime (s.nextFrame p), tsy := y } := by
  rw [State.atFrame, at_nextFrame]
  exact ⟨_, rfl⟩

theorem atFrame_rd (a : Nat) : (s.atFrame p).rd a = s.rd a := by
  rw [State.atFrame, modPort_rd, State.atT_rd]

theorem atFrame_pstate : (s.atFrame p).pstate p = s.pstate p := fld_congr (atFrame_rd _) _

theorem atFrame_tport : (s.atFrame p).tport p = { s.tport p with frame := s.nextFrame p + 1 } := by
  rw [State.atFrame, modPort_tport_same, at_tport]

theorem atFrame_other (h : q ≠ p) : (s.atFrame p).tport q = s.tport q := by
  rw [State.atFrame, modPort_tport_other _ h, at_tport]

theorem atFrame_slots (n : Nat) : (s.atFrame p).frameSlots p n = s.frameSlots p n :=
  frameSlots_congr atFrame_rd (by rw [atFrame_tport]) (by rw [atFrame_tport]) n

theorem emit_frame {u : State} {n : Nat} {y : TimeSync} (h : u = { s with now := n, tsy := y }) (o : Output) :
    u.emit o = { s with now := n, tsy := (u.emit o).tsy, out := o :: s.out } := by
  subst h
  rfl

theorem modPort_frame {u : State} {n : Nat} {y : TimeSync} (h : u = { s with now := n, tsy := y }) (f : Tether → Tether) :
    u.modPort p f = { s with now := n, tsy := (u.modPort p f).tsy } := by
  subst h
  rfl

section
variable (h : s.downstream p = false ∨ s.aligned = true)
include h

theorem frameLaunch_train (hp : s.pstate p = 1) : After (.frameLaunch p) s (fun t =>
    t.tport p = { s.tport p with frame := s.nextFrame p + 1 } ∧
      t = { s with
        now := frameTime (s.nextFrame p), tsy := t.tsy
        out := frameOut p (framePayload (frameTime (s.nextFrame p) / ns % 65536) 1 [] []) :: s.out } ∧
      ∀ q, q ≠ p → t.tport q = s.tport q) := by
  refine ⟨_, (exec_frameLaunch h (by omega) (u := s.atFrame p) rfl).trans (congrArg _ (if_pos (atFrame_pstate.trans hp))), ?_,
    emit_frame atFrame_eq.choose_spec _, fun q hq => ?_⟩
  · rw [emit_tport, atFrame_tport]
  · rw [emit_tport, atFrame_other hq]

theorem frameLaunch_normal (hp : 2 ≤ s.pstate p) : After (.frameLaunch p) s (fun t =>
    t = { s with
      now := frameTime (s.nextFrame p), tsy := t.tsy
      out := frameOut p (framePayload (frameTime (s.nextFrame p) / ns % 65536) 0 (s.frameSlots p (frameTime (s.nextFrame p))).1
        ((((s.tport p).flitq.take 7).map (fun f => { f with sent := frameTime (s.nextFrame p) })).map Flit.bits)) :: s.out } ∧
    (∀ q, q ≠ p → t.tport q = s.tport q) ∧ t.tport p = s.launched p (s.tport p)) := by
  have hx : ¬ (s.atFrame p).pstate p = 1 := by
    rw [atFrame_pstate]
    omega
  have he := (exec_frameLaunch h (by omega) (u := s.atFrame p) rfl).trans (congrArg _ (if_neg hx))
  rw [atFrame_slots, atFrame_tport] at he
  refine ⟨_, he, emit_frame (modPort_frame atFrame_eq.choose_spec _) _, fun q hq => ?_, ?_⟩
  · rw [emit_tport, modPort_tport_other _ hq, atFrame_other hq]
  · rw [emit_tport, modPort_tport_same, atFrame_tport]
    rfl

end

/-! ### Retries and codewords received (R268, R271) -/

theorem flitRetry_spec {f : Flit} {r : List Flit} (h : (s.tport p).unacked = f :: r) : After (.flitRetry p) s (fun t =>
    t = { s with now := t.now, tsy := t.tsy } ∧ t.now = max s.now (f.sent + 400 * ns) ∧ (∀ q, q ≠ p → t.tport q = s.tport q) ∧
      t.tport p = { s.tport p with flitq := f :: r ++ (s.tport p).flitq, unacked := [] }) := by
  have he : exec (.flitRetry p) s = .next ((s.at_ (f.sent + 400 * ns)).modPort p (fun x =>
      { x with flitq := x.unacked ++ x.flitq, unacked := [] })) := by
    show execFlitRetry p s = _
    unfold execFlitRetry
    rw [h]
  refine ⟨_, he, rfl, State.at_now _ _, fun q hq => modPort_tport_other _ hq, ?_⟩
  rw [modPort_tport_same, at_tport, h]

section
variable {pay : BitVec 5140} {acks errs : Nat}

/-- A port after a codeword that could be corrected. -/
def State.received (s : State) (pay : BitVec 5140) (x : Tether) : Tether :=
  { x with
    good := min 4 (x.good + 1), bad := 0, lastFrame := if payKind pay < 2 then s.now else x.lastFrame
    launched := if payKind pay < 2 then launchOf (nearest 16 s.ptime (payFnum pay)) else x.launched }

theorem codeword_eq : s.codeword p pay = s.modPort p (s.received pay) := rfl

theorem exec_frameReceive_good (he : errs ≤ 15) (h0 : s.pstate p ≠ 0) : exec (.frameReceive p pay acks errs) s =
    .next (if ((s.tport p).good == 4 && payKind pay == 0 && decide (2 ≤ s.pstate p)) = true then
      forEach (paySlots pay) (fun m s => s.takeSlot p (payFnum pay) m)
        (s.modPort p (fun x => { s.received pay x with unacked := x.unacked.drop acks, recv := payFlits pay }))
    else s.modPort p (s.received pay)) := by
  show execFrameReceive p pay acks errs s = _
  unfold execFrameReceive
  rw [if_neg h0, if_neg (by omega)]
  dsimp only
  rw [codeword_eq, modPort_modPort]
  exact (apply_ite _ _ _ _).symm

/-- A codeword that could not be corrected is counted. -/
def State.miscoded (s : State) (p : Fin 12) : State :=
  ((s.bump (R.TSY_PORT_FEC p) F.TSY_PORT_FEC_COUNT 1).tally 0 0xD0 1).modPort p
    (fun x => { x with good := if x.good < 4 then 0 else 4, bad := x.bad + 1 })

theorem exec_frameReceive_bad (he : 15 < errs) (h0 : s.pstate p ≠ 0) : exec (.frameReceive p pay acks errs) s =
    .next (if 4 ≤ ((s.miscoded p).tport p).bad ∧ (s.miscoded p).pstate p = 3 then (s.miscoded p).leaveUp p else s.miscoded p) := by
  show execFrameReceive p pay acks errs s = _
  unfold execFrameReceive
  rw [if_neg h0, if_pos he]
  rfl

theorem tally_tsy (k code n : Nat) : (s.tally k code n).tsy = s.tsy := by
  obtain ⟨m, hm⟩ := tally_eq s k code n
  rw [hm]

theorem miscoded_tport : (s.miscoded p).tport p = { s.tport p with
    good := if (s.tport p).good < 4 then 0 else 4, bad := (s.tport p).bad + 1 } := by
  have h : ((s.bump (R.TSY_PORT_FEC p) F.TSY_PORT_FEC_COUNT 1).tally 0 0xD0 1).tport p = s.tport p := by
    rw [State.tport, tally_tsy]
    rfl
  rw [State.miscoded, modPort_tport_same, h]

theorem fec_ne (n m : Nat) : R.TSY_PORT_FEC n ≠ R.TSY_CAUSE ∧ R.TSY_PORT_FEC n ≠ R.TSY_PORT_STAT m ∧ R.TSY_PORT_FEC n ≠ R.TSY_STAT ∧
    R.TSY_PORT_FEC n ≠ R.PT_STAT := by
  unfold R.TSY_PORT_FEC R.TSY_CAUSE R.TSY_PORT_STAT R.TSY_STAT R.PT_STAT tsyBase ptBase
  omega

theorem miscoded_pstate : (s.miscoded p).pstate p = s.pstate p := by
  obtain ⟨-, h, -⟩ := fec_ne p p
  rw [State.pstate, State.miscoded, modPort_fld, tally_fld, State.bump_eq, State.setF_fld_other _ _ _ _ _ _ (.inl h.symm), State.pstate]

theorem miscoded_count : (s.miscoded p).fld (R.TSY_PORT_FEC p) F.TSY_PORT_FEC_COUNT =
    min (s.fld (R.TSY_PORT_FEC p) F.TSY_PORT_FEC_COUNT + 1) (2 ^ 32 - 1) := by
  rw [State.miscoded, modPort_fld, tally_fld]
  exact bump_count_congr rfl rfl

theorem leaveUp_flag : (s.leaveUp p).flag R.TSY_CAUSE F.TSY_CAUSE_LINKDN = true := by
  obtain ⟨-, -, -, -, h, -⟩ := leaveUp_fell (s := s) (p := p)
  have hf : (s.leaveUp p).fld R.TSY_CAUSE F.TSY_CAUSE_LINKDN = (s.setF R.TSY_CAUSE F.TSY_CAUSE_LINKDN 1).fld R.TSY_CAUSE F.TSY_CAUSE_LINKDN := by
    rw [State.fld, h, State.fld, State.setF, State.wr_rd_same]
  rw [State.flag, hf, State.setF_fld_same _ _ _ _ (by decide)]
  rfl

theorem frameReceive_bad (he : 15 < errs) (h0 : s.pstate p ≠ 0) : After (.frameReceive p pay acks errs) s (fun t =>
    t.fld (R.TSY_PORT_FEC p) F.TSY_PORT_FEC_COUNT =
      min (s.fld (R.TSY_PORT_FEC p) F.TSY_PORT_FEC_COUNT + 1) (2 ^ 32 - 1) ∧ (t.tport p).recv = (s.tport p).recv ∧
    ((s.tport p).bad < 3 ∨ s.pstate p ≠ 3 → (t.tport p).bad = (s.tport p).bad + 1 ∧ t.pstate p = s.pstate p) ∧
    (3 ≤ (s.tport p).bad → s.pstate p = 3 → t.pstate p ≠ 3 ∧ t.flag R.TSY_CAUSE F.TSY_CAUSE_LINKDN = true)) := by
  have hb : ((s.miscoded p).tport p).bad = (s.tport p).bad + 1 := by rw [miscoded_tport]
  have hr : ((s.miscoded p).tport p).recv = (s.tport p).recv := by rw [miscoded_tport]
  by_cases hx : 4 ≤ ((s.miscoded p).tport p).bad ∧ (s.miscoded p).pstate p = 3
  · refine ⟨(s.miscoded p).leaveUp p, by rw [exec_frameReceive_bad he h0, if_pos hx], ?_, ?_, fun h => ?_, fun _ _ => ⟨?_, leaveUp_flag⟩⟩
    · obtain ⟨-, -, hs, -⟩ := leaveUp_fell (s := s.miscoded p) (p := p)
      rw [fld_congr (hs _ (by simp [fec_ne p p])), miscoded_count]
    · obtain ⟨-, -, -, -, -, ht, -⟩ := leaveUp_fell (s := s.miscoded p) (p := p)
      rw [ht]
      exact hr
    · rw [hb, miscoded_pstate] at hx
      omega
    · obtain ⟨-, -, -, hs, -⟩ := leaveUp_fell (s := s.miscoded p) (p := p)
      have := leftTo_lt (s.miscoded p) p
      omega
  · refine ⟨s.miscoded p, by rw [exec_frameReceive_bad he h0, if_neg hx], miscoded_count, hr, fun _ => ⟨hb, miscoded_pstate⟩, fun h1 h2 => ?_⟩
    rw [hb, miscoded_pstate] at hx
    omega

end

theorem exec_frameReceive_next (pay : BitVec 5140) (acks errs : Nat) : ∃ t, exec (.frameReceive p pay acks errs) s = .next t := by
  by_cases h0 : s.pstate p = 0
  · exact ⟨s, if_pos h0⟩
  · by_cases he : errs ≤ 15
    · exact ⟨_, exec_frameReceive_good he h0⟩
    · exact ⟨_, exec_frameReceive_bad (by omega) h0⟩

theorem exec_frameLaunch_none (h : s.pstate p = 0 ∨ s.downstream p = true ∧ s.aligned = false) : exec (.frameLaunch p) s = .next s := by
  refine if_pos (h.imp_right fun k => ⟨k.1, ?_⟩)
  rw [k.2]
  rfl

theorem exec_frameLaunch_next : ∃ t, exec (.frameLaunch p) s = .next t := by
  by_cases h : s.pstate p = 0 ∨ s.downstream p = true ∧ s.aligned = false
  · exact ⟨s, exec_frameLaunch_none h⟩
  · have hd : s.downstream p = false ∨ s.aligned = true := by
      cases h1 : s.downstream p <;> cases h2 : s.aligned <;> simp_all
    exact ⟨_, exec_frameLaunch hd (fun k => h (.inl k)) rfl⟩

theorem exec_flitRetry_next : ∃ t, exec (.flitRetry p) s = .next t := by
  cases h : (s.tport p).unacked with
  | nil =>
    refine ⟨s, ?_⟩
    show execFlitRetry p s = _
    rw [execFlitRetry, h]
  | cons f r =>
    obtain ⟨t, ht, -⟩ := flitRetry_spec h
    exact ⟨t, ht⟩

/-- Settles O24: what a launch puts in a frame (`exec_frameLaunch`, `first_in_slot17`), a retry, and a codeword received or missed. -/
theorem framesLaunchRepeatAndArrive : Obligations.FramesLaunchRepeatAndArrive := by
  intro s p
  refine ⟨exec_frameLaunch_next, exec_flitRetry_next, exec_frameReceive_next, exec_frameLaunch_none, fun h =>
    ⟨frameLaunch_train h, frameLaunch_normal h, ptb_in_slot16, fun m r hm => ⟨fun ht => ?_, fun ht => ?_⟩⟩, fun f r => flitRetry_spec,
    fun pay acks errs => ⟨fun he => ⟨fun hx => ?_, fun h2 hg hk => ?_⟩, frameReceive_bad⟩⟩
  · refine first_in_slot17 hm ?_
    rw [State.readySlot, if_neg (by omega), if_neg (by omega)]
  · refine first_in_slot17 hm ?_
    rw [State.readySlot, if_pos ht]
  · have h0 : s.pstate p ≠ 0 := by omega
    rw [exec_frameReceive_good he h0, if_neg]
    · rfl
    · simp only [Bool.and_eq_true, beq_iff_eq, decide_eq_true_eq]
      omega
  · rw [exec_frameReceive_good he (by omega), if_pos]
    · rfl
    · simp [hg, hk, h2]

end Sys2Proof.Machine
end

section
/-! Slots of the tree that carry time and results (08_time_sync_scaleout.md R265, R272, R279, R282, R286, R289). -/
namespace Sys2Proof.Machine
variable {s t u : State} {p q : Fin 12} {n m : Fin 16}

/-! ### Gangs across devices -/

theorem modGang_xgang_same (f : XGang → XGang) : (s.modGang n f).xgang n = f (s.xgang n) := by
  show (s.tsy.gang.set n.val (f s.tsy.gang[n]))[n.val] = _
  rw [Vector.getElem_set_self]
  rfl

theorem modGang_xgang_other (f : XGang → XGang) (h : m ≠ n) : (s.modGang n f).xgang m = s.xgang m := by
  show (s.tsy.gang.set n.val (f s.tsy.gang[n]))[m.val] = _
  rw [Vector.getElem_set_ne _ _ fun e => h (Fin.ext e.symm)]
  rfl

@[simp] theorem modGang_rd (f : XGang → XGang) (a : Nat) : (s.modGang n f).rd a = s.rd a := rfl
@[simp] theorem modGang_fld (f : XGang → XGang) (a : Nat) (e : Fld) : (s.modGang n f).fld a e = s.fld a e := rfl
@[simp] theorem modGang_now (f : XGang → XGang) : (s.modGang n f).now = s.now := rfl
@[simp] theorem modGang_tport (f : XGang → XGang) : (s.modGang n f).tport q = s.tport q := rfl
@[simp] theorem modPort_xgang (f : Tether → Tether) : (s.modPort p f).xgang n = s.xgang n := rfl

theorem gang_eq (n : Fin 16) (h : n.val % 16 < 16) : (⟨n.val % 16, h⟩ : Fin 16) = n := Fin.ext (Nat.mod_eq_of_lt n.isLt)

/-! ### Messages to the ports of a kind -/

/-- Only the ports differ. -/
def OnlyPorts (s t : State) : Prop := t = { s with tsy := { s.tsy with port := t.tsy.port } }

theorem OnlyPorts.refl (s : State) : OnlyPorts s s := rfl

theorem OnlyPorts.modPort {f : Tether → Tether} (h : OnlyPorts s t) : OnlyPorts s (t.modPort p f) := by
  unfold OnlyPorts at h ⊢
  rw [h]
  rfl

theorem OnlyPorts.trans (h : OnlyPorts s t) (k : OnlyPorts t u) : OnlyPorts s u := by
  unfold OnlyPorts at h k ⊢
  rw [k, h]

theorem OnlyPorts.rd (h : OnlyPorts s t) (a : Nat) : t.rd a = s.rd a := by
  unfold OnlyPorts at h
  rw [h]
  rfl

theorem OnlyPorts.xgang (h : OnlyPorts s t) (n : Fin 16) : t.xgang n = s.xgang n := by
  unfold OnlyPorts at h
  rw [h]
  rfl

theorem OnlyPorts.now (h : OnlyPorts s t) : t.now = s.now := by
  unfold OnlyPorts at h
  rw [h]

theorem OnlyPorts.tsyOnly (h : OnlyPorts s t) : t = { s with tsy := t.tsy } := by
  unfold OnlyPorts at h
  rw [h]

theorem forEach_modPort_only (l : List (Fin 12)) (f : Fin 12 → Tether → Tether) :
    OnlyPorts s (forEach l (fun p s => s.modPort p (f p)) s) :=
  forEach_induct (P := OnlyPorts s) (OnlyPorts.refl s) fun _ _ _ h => h.modPort

theorem forEach_modPort_tport {l : List (Fin 12)} {f : Fin 12 → Tether → Tether} (hl : l.Nodup) (q : Fin 12) :
    (forEach l (fun p s => s.modPort p (f p)) s).tport q = if q ∈ l then f q (s.tport q) else s.tport q := by
  induction l generalizing s with
  | nil => rfl
  | cons a l ih =>
    obtain ⟨ha, hl⟩ := List.nodup_cons.mp hl
    rw [forEach_cons, ih hl]
    by_cases hk : q = a
    · subst hk
      rw [if_neg ha, if_pos (by simp), modPort_tport_same]
    · rw [modPort_tport_other _ hk]
      simp [hk]

/-- Messages ms reach the ports that pass a test. -/
def Told (ports : Fin 12 → Bool) (ms : List TSlot) (s t : State) : Prop := OnlyPorts s t ∧ Sent ports ms s t

theorem Told.forEach (ports : Fin 12 → Bool) (ms : List TSlot) (s : State) : Told ports ms s
    (forEach ((List.finRange 12).filter ports) (fun p s => s.modPort p (fun x => { x with outq := x.outq ++ ms })) s) := by
  refine ⟨forEach_modPort_only _ _, fun q => ?_⟩
  rw [forEach_modPort_tport ((List.nodup_finRange 12).filter _)]
  by_cases h : ports q = true
  · rw [if_pos (List.mem_filter.mpr ⟨List.mem_finRange q, h⟩), if_pos h]
  · rw [if_neg (fun k => h (List.mem_filter.mp k).2), if_neg h, List.append_nil]

theorem sendDown_told (x : TSlot) : Told (downPorts s) [x] s (s.sendDown x) := Told.forEach (downPorts s) [x] s
theorem sendUp_told (x : TSlot) : Told (upPorts s) [x] s (s.sendUp x) := Told.forEach (upPorts s) [x] s

theorem downPorts_congr (h : ∀ a, t.rd a = s.rd a) : downPorts t = downPorts s := by
  funext q
  rw [downPorts, downPorts, downstream_congr (h _) (h _), State.pstate, fld_congr (h _), State.pstate]

theorem upPorts_congr (h : ∀ a, t.rd a = s.rd a) : upPorts t = upPorts s := by
  funext q
  rw [upPorts, upPorts, activeUp_congr (h _) (h _), State.pstate, fld_congr (h _), State.pstate]

theorem Sent.trans {ports : Fin 12 → Bool} {ms ns : List TSlot} (h : Sent ports ms s t) (k : Sent ports ns t u) :
    Sent ports (ms ++ ns) s u := by
  intro q
  rw [k q, h q]
  cases ports q <;> simp

theorem Told.trans {ports : Fin 12 → Bool} {ms ns : List TSlot} (h : Told ports ms s t) (k : Told ports ns t u) :
    Told ports (ms ++ ns) s u := ⟨h.1.trans k.1, h.2.trans k.2⟩

theorem Told.nil (ports : Fin 12 → Bool) (s : State) : Told ports [] s s := ⟨OnlyPorts.refl s, fun q => by simp⟩

/-- A list of messages goes down. -/
theorem sendsDown_told {α : Type} (f : α → TSlot) (l : List α) :
    Told (downPorts s) (l.map f) s (forEach l (fun r s => s.sendDown (f r)) s) := by
  induction l generalizing s with
  | nil => exact Told.nil _ s
  | cons a l ih =>
    have h := sendDown_told (s := s) (f a)
    have hd := downPorts_congr h.1.rd
    have hk := ih (s := s.sendDown (f a))
    rw [hd] at hk
    exact h.trans hk

/-- Messages after a change that leaves the ports as they are. -/
theorem Sent.after {ports : Fin 12 → Bool} {ms : List TSlot} (h : ∀ q, t.tport q = s.tport q) (k : Sent ports ms t u) :
    Sent ports ms s u := fun q => by rw [k q, h q]

/-! ### Package time (R265, R279, R289) -/

section
variable {dev : BitVec 6} {fnum : BitVec 16} {pay : BitVec 50} {gid : Fin 16}

/-- The fine time that a PTB names. -/
def State.ptbTime (s : State) (p : Nat) (fnum : BitVec 16) (pay : BitVec 50) : Nat :=
  launchOf (pay.toNat % 2 ^ 48 * 65536 + fnum.toNat) + s.fld (R.TSY_PORT_HOP p) F.TSY_PORT_HOP_H

theorem jump_tport (k : Nat) : (s.jump k).tport q = (s.tport q).jump s.now k := by
  show (s.tsy.port.map (fun x => x.jump s.now k))[q.val] = _
  rw [Vector.getElem_map]
  rfl

theorem slotPtb_aligns (hu : s.fromUp p = true) (ha : s.aligned = false) : exec (.slotPtb p dev fnum pay) s =
    .next ((((s.jump (s.ptbTime p fnum pay)).modPort p (fun x => { x with aligned := s.fld (R.TSY_PORT_HOP p) F.TSY_PORT_HOP_H })).raise
      R.PT_STAT F.PT_STAT_ALIGNED).showTree) := by
  show Host.Outcome.next (State.slotPtb _ _ _ _) = _
  unfold State.slotPtb
  rw [if_pos hu, ha, State.ptbTime, Nat.mod_eq_of_lt fnum.isLt]
  rfl

theorem ptb_aligns (hu : s.fromUp p = true) (ha : s.aligned = false) : After (.slotPtb p dev fnum pay) s (fun t =>
    t = { s with now := s.ptbTime p fnum pay, regs := t.regs, tsy := { s.tsy with port := t.tsy.port } } ∧
      SameRegs [R.PT_STAT, R.TSY_STAT] s t ∧ t.flag R.PT_STAT F.PT_STAT_ALIGNED = true ∧
        ∀ q, t.tport q = if q = p then { (s.tport p).jump s.now (s.ptbTime p fnum pay) with
          aligned := s.fld (R.TSY_PORT_HOP p) F.TSY_PORT_HOP_H } else (s.tport q).jump s.now (s.ptbTime p fnum pay)) := by
  refine ⟨_, slotPtb_aligns hu ha, ?_⟩
  generalize s.ptbTime p fnum pay = fine
  generalize s.fld (R.TSY_PORT_HOP p) F.TSY_PORT_HOP_H = hop
  obtain ⟨k, hk, -⟩ := showTree_eq (((s.jump fine).modPort p (fun x => { x with aligned := hop })).raise R.PT_STAT F.PT_STAT_ALIGNED)
  rw [hk, State.raise_eq]
  refine ⟨rfl, SameRegs.setF (SameRegs.setF (fun _ _ => rfl) (by simp)) (by simp), ?_, fun q => ?_⟩
  · rw [State.flag, State.setF_fld_other _ _ _ _ _ _ (.inl stat_ne_ptStat.symm), State.setF_fld_same _ _ _ _ (by decide)]
    rfl
  · rw [setF_tport, setF_tport]
    by_cases h : q = p
    · subst h
      rw [if_pos rfl, modPort_tport_same, jump_tport]
    · rw [if_neg h, modPort_tport_other _ h, jump_tport]

theorem toInt_ofNat_unsigned (x : Int) : ((BitVec.ofNat 32 (unsignedOf 32 x)).toNat : Int) = x % 2 ^ 32 := by
  rw [BitVec.toNat_ofNat, Nat.mod_eq_of_lt (unsignedOf_lt 32 x), unsignedOf]
  omega

/-- The offset is measured. -/
def State.measured (s : State) (o : Int) : State := { s with tsy := { s.tsy with measure := false, ptofs := some o } }

theorem measured_tport (o : Int) : (s.measured o).tport q = s.tport q := rfl

theorem slotPtb_measures (hu : s.fromUp p = true) (ha : s.aligned = true) (hm : s.tsy.measure = true) :
    exec (.slotPtb p dev fnum pay) s =
    .next (((s.wr R.TSY_PTOFS (BitVec.ofNat 32 (unsignedOf 32 ((s.ptbTime p fnum pay : Int) - s.now)))).modPort p
      (fun x => { x with aligned := s.fld (R.TSY_PORT_HOP p) F.TSY_PORT_HOP_H })).measured ((s.ptbTime p fnum pay : Int) - s.now)) := by
  show Host.Outcome.next (State.slotPtb _ _ _ _) = _
  unfold State.slotPtb
  rw [if_pos hu, ha, hm, State.ptbTime, Nat.mod_eq_of_lt fnum.isLt]
  rfl

theorem ptb_measures (hu : s.fromUp p = true) (ha : s.aligned = true) (hm : s.tsy.measure = true) :
    After (.slotPtb p dev fnum pay) s (fun t => t = { s with
        regs := t.regs
        tsy := { s.tsy with measure := false, ptofs := some ((s.ptbTime p fnum pay : Int) - s.now), port := t.tsy.port } } ∧
      (∀ q, t.tport q = if q = p then { s.tport p with aligned := s.fld (R.TSY_PORT_HOP p) F.TSY_PORT_HOP_H } else s.tport q) ∧
      SameRegs [R.TSY_PTOFS] s t ∧ ((t.rd R.TSY_PTOFS).toNat : Int) = ((s.ptbTime p fnum pay : Int) - s.now) % 2 ^ 32) := by
  refine ⟨_, slotPtb_measures hu ha hm, ?_⟩
  generalize s.ptbTime p fnum pay = fine
  generalize s.fld (R.TSY_PORT_HOP p) F.TSY_PORT_HOP_H = hop
  generalize hx : ((fine : Int) - s.now) = x
  have hv := toInt_ofNat_unsigned x
  generalize BitVec.ofNat 32 (unsignedOf 32 x) = v at hv ⊢
  refine ⟨rfl, fun q => ?_, fun a ha => State.wr_rd_other _ _ _ _ (by simpa using ha), ?_⟩
  · by_cases h : q = p
    · subst h
      rw [if_pos rfl, measured_tport, modPort_tport_same, wr_tport]
    · rw [if_neg h, measured_tport, modPort_tport_other _ h, wr_tport]
  · rw [← hv]
    exact congrArg (fun w : Word => (w.toNat : Int)) (State.wr_rd_same _ _ _)

/-! ### Results and arrivals (R272, R282, R286) -/

theorem slotCond_kept (hd : s.fromDown p = true) : After (.slotCond p dev gid pay) s (fun t =>
    t = { s with tsy := t.tsy } ∧ (∀ m, m ≠ gid → t.xgang m = s.xgang m) ∧ t.tsy.port = s.tsy.port ∧
      t.xgang gid = { s.xgang gid with
        reports := (s.xgang gid).reports.filter (fun r => nearIdx r.didx (pay.toNat % 65536)) ++
          (List.range (bitsOf pay.toNat 16 4 + 1)).map (fun i =>
            ⟨(pay.toNat % 65536 + i) % 65536, p.val, bitOf pay.toNat (20 + i), s.now⟩) }) := by
  have he : exec (.slotCond p dev gid pay) s = .next (s.modGang gid (fun x => { x with
      reports := x.reports.filter (fun r => nearIdx r.didx (pay.toNat % 65536)) ++
        (List.range (bitsOf pay.toNat 16 4 + 1)).map (fun i =>
          ⟨(pay.toNat % 65536 + i) % 65536, p.val, bitOf pay.toNat (20 + i), s.now⟩) })) := by
    show Host.Outcome.next (State.slotCond _ _ _) = _
    unfold State.slotCond
    rw [if_pos hd, gang_eq]
  exact ⟨_, he, rfl, fun m hm => modGang_xgang_other _ hm, rfl, modGang_xgang_same _⟩

theorem slotSarr_kept (hd : s.fromDown p = true) : After (.slotSarr p dev gid pay) s (fun t =>
    t = { s with tsy := t.tsy } ∧ (∀ m, m ≠ gid → t.xgang m = s.xgang m) ∧ t.tsy.port = s.tsy.port ∧
      t.xgang gid = { s.xgang gid with arrivals := (s.xgang gid).arrivals.filter (fun r => nearIdx r.1 (pay.toNat % 65536)) ++
        [(pay.toNat % 65536, p.val, nearest 32 s.now (pay.toNat / 65536))] }) := by
  have he : exec (.slotSarr p dev gid pay) s = .next (s.modGang gid (fun x => { x with
      arrivals := x.arrivals.filter (fun r => nearIdx r.1 (pay.toNat % 65536)) ++
        [(pay.toNat % 65536, p.val, nearest 32 s.now (pay.toNat / 65536))] })) := by
    show Host.Outcome.next (State.slotSarr _ _ _) = _
    unfold State.slotSarr
    rw [if_pos hd, gang_eq]
  exact ⟨_, he, rfl, fun m hm => modGang_xgang_other _ hm, rfl, modGang_xgang_same _⟩

/-- What a slot's results are: index and result. -/
def slotResults (pay : Nat) : List (Nat × Bool) :=
  (List.range (bitsOf pay 16 4 + 1)).map (fun i => ((pay % 65536 + i) % 65536, bitOf pay (20 + i)))

theorem slotDecide_kept (hu : s.fromUp p = true) : After (.slotDecide p dev gid pay) s (fun t =>
    t = { s with tsy := t.tsy } ∧ (∀ m, m ≠ gid → t.xgang m = s.xgang m) ∧
      t.xgang gid = { s.xgang gid with
        decided := (s.xgang gid).decided.filter (fun r => nearIdx r.1 (pay.toNat % 65536)) ++
          (slotResults pay.toNat).map (fun r => (r.1, r.2, s.now)) } ∧
      Sent (downPorts s) ((slotResults pay.toNat).map (fun r => ⟨3, dev.toNat, gid, r.1 + 1048576 * b2n r.2⟩)) s t) := by
  have he : exec (.slotDecide p dev gid pay) s = .next (forEach (slotResults pay.toNat)
      (fun r s => s.sendDown ⟨3, dev.toNat, gid, r.1 + 1048576 * b2n r.2⟩) (s.modGang gid (fun x => { x with
        decided := x.decided.filter (fun r => nearIdx r.1 (pay.toNat % 65536)) ++
          (slotResults pay.toNat).map (fun r => (r.1, r.2, s.now)) }))) := by
    show Host.Outcome.next (State.slotDecide _ _ _) = _
    unfold State.slotDecide
    rw [if_pos hu, gang_eq]
    rfl
  obtain ⟨ho, hs⟩ := sendsDown_told (s := s.modGang gid (fun x => { x with
        decided := x.decided.filter (fun r => nearIdx r.1 (pay.toNat % 65536)) ++
          (slotResults pay.toNat).map (fun r => (r.1, r.2, s.now)) }))
    (fun r : Nat × Bool => ⟨3, dev.toNat, gid, r.1 + 1048576 * b2n r.2⟩) (slotResults pay.toNat)
  refine ⟨_, he, ho.tsyOnly, fun m hm => ?_, ?_, ?_⟩
  · rw [ho.xgang, modGang_xgang_other _ hm]
  · rw [ho.xgang, modGang_xgang_same]
  · rw [downPorts_congr fun a => modGang_rd _ a] at hs
    exact hs.after fun q => modGang_tport _

theorem slotSrel_kept (hu : s.fromUp p = true) : After (.slotSrel p dev gid pay) s (fun t =>
    t = { s with tsy := t.tsy } ∧ (∀ m, m ≠ gid → t.xgang m = s.xgang m) ∧
      t.xgang gid = { s.xgang gid with release := some (pay.toNat % 65536, nearest 32 s.now (pay.toNat / 65536)) } ∧
      Sent (downPorts s) [⟨5, dev.toNat, gid, pay.toNat⟩] s t) := by
  have he : exec (.slotSrel p dev gid pay) s = .next ((s.modGang gid (fun x => { x with
      release := some (pay.toNat % 65536, nearest 32 s.now (pay.toNat / 65536)) })).sendDown ⟨5, dev.toNat, gid, pay.toNat⟩) := by
    show Host.Outcome.next (State.slotSrel _ _ _) = _
    unfold State.slotSrel
    rw [if_pos hu, gang_eq]
  obtain ⟨ho, hs⟩ := sendDown_told (s := s.modGang gid (fun x => { x with
      release := some (pay.toNat % 65536, nearest 32 s.now (pay.toNat / 65536)) })) ⟨5, dev.toNat, gid, pay.toNat⟩
  refine ⟨_, he, ho.tsyOnly, fun m hm => ?_, ?_, ?_⟩
  · rw [ho.xgang, modGang_xgang_other _ hm]
  · rw [ho.xgang, modGang_xgang_same]
  · rw [downPorts_congr fun a => modGang_rd _ a] at hs
    exact hs.after fun q => modGang_tport _

end

theorem takeSlot_reserved {m : TSlot} (h : 10 < m.typ) (fnum : Nat) : s.takeSlot p fnum m = s.raise R.TSY_CAUSE F.TSY_CAUSE_SLOTERR := by
  obtain ⟨k, hk⟩ := Nat.exists_eq_add_of_lt h
  rw [State.takeSlot, hk, show 10 + k + 1 = k + 11 by omega]
  rfl

/-- Settles O25: what a slot from the right side keeps and passes on, and that one from the wrong side does nothing. -/
theorem treeSlotsCarryTimeAndResults : Obligations.TreeSlotsCarryTimeAndResults := by
  intro s p dev gid pay fnum
  have hn {b : Bool} (h : b = false) : ¬ b = true := by simp [h]
  refine ⟨fun hu => ⟨ptb_aligns hu, ptb_measures hu⟩, fun hu => ⟨?_, ?_, ?_, ?_⟩, fun hd => ⟨?_, ?_, ?_⟩,
    fun hd => ⟨slotCond_kept hd, slotSarr_kept hd⟩, fun hu => ⟨slotDecide_kept hu, slotSrel_kept hu⟩, fun m hm => ?_⟩
  · exact congrArg _ (if_neg (hn hu))
  · exact congrArg _ (if_neg (hn hu))
  · exact congrArg _ (if_neg (hn hu))
  · exact congrArg _ (if_neg (hn hu))
  · exact congrArg _ (if_neg (hn hd))
  · exact congrArg _ (if_neg (hn hd))
  · exact congrArg _ (if_neg (hn hd))
  · rw [takeSlot_reserved hm]
    exact onlyWrites_raise _ _

end Sys2Proof.Machine
end

section
/-! Gangs across devices, and the switch of the path (08_time_sync_scaleout.md R282, R286, R288 to R290). -/
namespace Sys2Proof.Machine
variable {s t u : State} {n : Fin 16} {g : Fin 24}

/-! ### What a combination rests on -/

theorem linkTo_congr (h : ∀ a, t.rd a = s.rd a) (hp : ∀ q, (t.tport q).peer = (s.tport q).peer) (d : Nat) : t.linkTo d = s.linkTo d := by
  refine congrArg (fun f => List.find? f _) (funext fun p => ?_)
  rw [downstream_congr (h _) (h _), hp]

theorem xmask_congr (h : ∀ a, t.rd a = s.rd a) (n d : Nat) : t.xmask n d = s.xmask n d := by
  rw [State.xmask, State.xmask, State.rdPair, State.rdPair, h, h]

theorem needed_congr (h : ∀ a, t.rd a = s.rd a) (hp : ∀ q, (t.tport q).peer = (s.tport q).peer) (hv : (t.xgang n).via = (s.xgang n).via) :
    t.needed n = s.needed n := by
  have hd : t.devId = s.devId := fld_congr (h _) _
  have hm : t.isMgr = s.isMgr := flag_congr (h _) _
  unfold State.needed
  simp only [hd, hm, hv, xmask_congr h, linkTo_congr h hp]

theorem leaf_congr (h : ∀ a, t.rd a = s.rd a) (hp : ∀ q, (t.tport q).peer = (s.tport q).peer) (hv : (t.xgang n).via = (s.xgang n).via) :
    t.leaf n = s.leaf n := by
  have hm : t.isMgr = s.isMgr := flag_congr (h _) _
  rw [State.leaf, State.leaf, needed_congr h hp hv, hm]

/-! ### The next result (R281, R282) -/

/-- The results of the device's members with a decision index. -/
def State.localResults (s : State) (n : Fin 16) (d : Nat) : List (Option (Nat × Bool)) := (s.xmembers n).map (fun m => (s.g m).byIndex d)

/-- The last ball end of results. -/
def lastBall (rs : List (Option (Nat × Bool))) : Nat := rs.foldl (fun acc r => max acc ((r.map (·.1)).getD 0)) 0

/-- Results combined by a gang's COMB. -/
def State.combined (s : State) (n : Fin 16) (rs : List (Option (Nat × Bool))) : Bool :=
  combineBits (s.flag (R.TSY_GANG_CFG n) F.TSY_GANG_CFG_COMB) (rs.map (fun r => (r.map (·.2)).getD false))

/-- The next result is formed. -/
def State.formedAt (s : State) (n : Fin 16) (be : Nat) : State :=
  (s.at_ (be + 16 * ns)).modGang n (fun x => { x with formed := ((s.xgang n).formed + 1) % 65536 })

theorem formedAt_rd (be a : Nat) : (s.formedAt n be).rd a = s.rd a := by rw [State.formedAt, modGang_rd, State.atT_rd]

theorem formedAt_xgang (be : Nat) : (s.formedAt n be).xgang n = { s.xgang n with formed := ((s.xgang n).formed + 1) % 65536 } := by
  rw [State.formedAt, modGang_xgang_same]
  rfl

theorem formedAt_other (be : Nat) {m : Fin 16} (h : m ≠ n) : (s.formedAt n be).xgang m = s.xgang m := by
  rw [State.formedAt, modGang_xgang_other _ h]
  rfl

theorem formedAt_leaf (be : Nat) : (s.formedAt n be).leaf n = s.leaf n :=
  leaf_congr (formedAt_rd be) (fun _ => rfl) (by rw [formedAt_xgang])

theorem exec_gangLocalResult (hg : s.gangEn g = true) (hs : s.span g = 3) (hn : s.gid g = n)
    (he : s.flag (R.TSY_GANG_CFG n) F.TSY_GANG_CFG_EN = true) (hm : s.memberHere n = true) {rs : List (Option (Nat × Bool))}
    (hrs : s.localResults n (s.xgang n).formed = rs) (ha : rs.all Option.isSome = true) :
    exec (.gangLocalResult g) s = .next (if s.leaf n then
      (s.formedAt n (lastBall rs)).sendUp ⟨2, s.devId, n, (s.xgang n).formed + 1048576 * b2n (s.combined n rs)⟩
    else (s.formedAt n (lastBall rs)).modGang n (fun x => { x with
      reports := x.reports.filter (fun r => nearIdx r.didx (s.xgang n).formed) ++
        [⟨(s.xgang n).formed, 12, s.combined n rs, lastBall rs + 16 * ns⟩] })) := by
  have hd : (s.formedAt n (lastBall rs)).devId = s.devId := fld_congr (formedAt_rd _ _) _
  rw [← formedAt_leaf (lastBall rs), ← hd]
  subst hrs
  show execGangLocalResult g s = _
  unfold execGangLocalResult
  rw [if_pos (by rw [hn]; simp [hg, hs, he, hm])]
  simp only [hn, Nat.mod_eq_of_lt n.isLt]
  refine Eq.trans (if_pos ha) (Eq.trans ?_ (apply_ite Host.Outcome.next _ _ _).symm)
  rfl

theorem gangLocalResult_forms (hg : s.gangEn g = true) (hs : s.span g = 3) (hn : s.gid g = n)
    (he : s.flag (R.TSY_GANG_CFG n) F.TSY_GANG_CFG_EN = true) (hm : s.memberHere n = true) {rs : List (Option (Nat × Bool))}
    (hrs : s.localResults n (s.xgang n).formed = rs) (ha : rs.all Option.isSome = true) :
    After (.gangLocalResult g) s (fun t => t = { s with now := t.now, tsy := t.tsy } ∧ t.now = max s.now (lastBall rs + 16 * ns) ∧
      (t.xgang n).formed = ((s.xgang n).formed + 1) % 65536 ∧ (∀ m, m ≠ n → t.xgang m = s.xgang m) ∧
        (s.leaf n = true → Sent (upPorts s) [⟨2, s.devId, n, (s.xgang n).formed + 1048576 * b2n (s.combined n rs)⟩] s t) ∧
        (s.leaf n = false → t.tsy.port = s.tsy.port ∧ (t.xgang n).reports =
          (s.xgang n).reports.filter (fun r => nearIdx r.didx (s.xgang n).formed) ++
            [⟨(s.xgang n).formed, 12, s.combined n rs, lastBall rs + 16 * ns⟩])) := by
  have hx := exec_gangLocalResult hg hs hn he hm hrs ha
  by_cases hl : s.leaf n = true
  · rw [if_pos hl] at hx
    obtain ⟨ho, hse⟩ := sendUp_told (s := s.formedAt n (lastBall rs)) ⟨2, s.devId, n, (s.xgang n).formed + 1048576 * b2n (s.combined n rs)⟩
    refine ⟨_, hx, ?_, ?_, ?_, fun m k => ?_, fun _ => ?_, fun k => ?_⟩
    · rw [ho.tsyOnly]
      rfl
    · rw [ho.now]
      rfl
    · rw [ho.xgang, formedAt_xgang]
    · rw [ho.xgang, formedAt_other _ k]
    · rw [upPorts_congr (formedAt_rd _)] at hse
      exact hse.after fun q => rfl
    · rw [hl] at k
      exact absurd k nofun
  · rw [if_neg hl] at hx
    refine ⟨_, hx, rfl, rfl, ?_, fun m k => ?_, fun k => absurd k hl, fun _ => ⟨rfl, ?_⟩⟩
    · rw [modGang_xgang_same, formedAt_xgang]
    · rw [modGang_xgang_other _ k, formedAt_other _ k]
    · rw [modGang_xgang_same, formedAt_xgang]

/-! ### Combinations (R282, R286) -/

theorem reportArrival_none (h : s.ownArrival n = none) : s.reportArrival n = s := by rw [State.reportArrival, h]

theorem allArrived_congr (hp : t.needed n = s.needed n) (hv : (t.xgang n).arrivals = (s.xgang n).arrivals) (d : Nat) :
    t.allArrived n d = s.allArrived n d := by
  rw [State.allArrived, State.allArrived, hp, hv]

/-- The value and the time of a combination of reports. -/
def State.combinedValue (s : State) (n : Fin 16) (d : Nat) : Bool :=
  combineBits (s.flag (R.TSY_GANG_CFG n) F.TSY_GANG_CFG_COMB) (((s.xgang n).reports.filter (fun r => r.didx == d)).map GangReport.val)
def State.combinedTime (s : State) (n : Fin 16) (d : Nat) : Nat :=
  max s.now ((((s.xgang n).reports.filter (fun r => r.didx == d)).map GangReport.time).foldl max 0 + 8 * ns)

/-- A gang whose decision d has been combined. -/
def XGang.combinedTo (x : XGang) (d : Nat) (mgr : Bool) (v : Bool) (at_ : Nat) : XGang :=
  { x with
    reports := x.reports.filter (fun r => r.didx != d)
    decided := if mgr then x.decided.filter (fun r => nearIdx r.1 d) ++ [(d, v, at_)] else x.decided }

theorem modGang_modGang (f g : XGang → XGang) : (s.modGang n f).modGang n g = s.modGang n (fun x => g (f x)) := by
  have h := modGang_xgang_same (s := s) (n := n) f
  unfold State.xgang at h
  rw [State.modGang, h, State.modGang, State.modGang]
  simp only [Vector.set_set]

/-- The combination of decision d, before it is told. -/
def State.decidedAt (s : State) (n : Fin 16) (d : Nat) : State :=
  ({ s with now := s.combinedTime n d } : State).modGang n (fun x => x.combinedTo d s.isMgr (s.combinedValue n d) (s.combinedTime n d))

theorem combineDecision_eq (d : Nat) : s.combineDecision n d =
    (if s.isMgr then (s.decidedAt n d).sendDown ⟨3, s.devId, n, d + 1048576 * b2n (s.combinedValue n d)⟩
    else (s.decidedAt n d).sendUp ⟨2, s.devId, n, d + 1048576 * b2n (s.combinedValue n d)⟩) := by
  unfold State.decidedAt
  by_cases h : s.isMgr = true
  · rw [if_pos h, h]
    exact (if_pos h).trans (by rw [modGang_modGang]; rfl)
  · rw [if_neg h, Bool.eq_false_iff.mpr h]
    exact if_neg h

theorem decidedAt_rd (d a : Nat) : (s.decidedAt n d).rd a = s.rd a := by
  rw [State.decidedAt, modGang_rd]
  generalize s.combinedTime n d = k
  rfl

theorem decidedAt_xgang (d : Nat) :
    (s.decidedAt n d).xgang n = (s.xgang n).combinedTo d s.isMgr (s.combinedValue n d) (s.combinedTime n d) :=
  modGang_xgang_same _

theorem decidedAt_frame (d : Nat) : s.decidedAt n d = { s with now := s.combinedTime n d, tsy := (s.decidedAt n d).tsy } := rfl

/-- Messages told by the manager down, and by another device up. -/
theorem combineDecision_told (d : Nat) : ∃ ports ms, Told ports ms (s.decidedAt n d) (s.combineDecision n d) ∧
    (s.isMgr = true → ports = downPorts s ∧ ms = [⟨3, s.devId, n, d + 1048576 * b2n (s.combinedValue n d)⟩]) ∧
    (s.isMgr = false → ports = upPorts s ∧ ms = [⟨2, s.devId, n, d + 1048576 * b2n (s.combinedValue n d)⟩]) := by
  rw [combineDecision_eq]
  by_cases h : s.isMgr = true
  · rw [if_pos h]
    exact ⟨_, _, sendDown_told _, fun _ => ⟨downPorts_congr (decidedAt_rd d), rfl⟩, fun k => by simp [h] at k⟩
  · rw [if_neg h]
    exact ⟨_, _, sendUp_told _, fun k => absurd k h, fun _ => ⟨upPorts_congr (decidedAt_rd d), rfl⟩⟩

theorem combineDecision_arrivals (d : Nat) : ((s.combineDecision n d).xgang n).arrivals = (s.xgang n).arrivals := by
  obtain ⟨ports, ms, ⟨ho, -⟩, -⟩ := combineDecision_told (s := s) (n := n) d
  rw [ho.xgang, decidedAt_xgang]
  rfl

theorem Told.peer {ports : Fin 12 → Bool} {ms : List TSlot} (h : Told ports ms s t) (q : Fin 12) :
    (t.tport q).peer = (s.tport q).peer := by rw [h.2 q]

/-- Who is needed does not change with what is decided. -/
theorem combineDecision_needed (d : Nat) : (s.combineDecision n d).needed n = s.needed n := by
  obtain ⟨ports, ms, h, -⟩ := combineDecision_told (s := s) (n := n) d
  refine needed_congr (fun a => (h.1.rd a).trans (decidedAt_rd d a)) (fun q => (h.peer q).trans rfl) ?_
  rw [h.1.xgang, decidedAt_xgang]
  rfl

theorem combineDecision_allArrived (d e : Nat) : (s.combineDecision n d).allArrived n e = s.allArrived n e :=
  allArrived_congr (combineDecision_needed d) (combineDecision_arrivals d) e

theorem gangCombine_decides {r : GangReport} (h : s.ownArrival n = none)
    (hr : (s.xgang n).reports.find? (fun r => s.allReported n r.didx) = some r)
    (ha : (s.xgang n).arrivals.find? (fun r => s.allArrived n r.1) = none) : After (.gangCombine n) s (fun t =>
      t = { s with now := s.combinedTime n r.didx, tsy := t.tsy } ∧
        (t.xgang n).reports = (s.xgang n).reports.filter (fun x => x.didx != r.didx) ∧
        (s.isMgr = true → (t.xgang n).decided = (s.xgang n).decided.filter (fun x => nearIdx x.1 r.didx) ++
            [(r.didx, s.combinedValue n r.didx, s.combinedTime n r.didx)] ∧
          Sent (downPorts s) [⟨3, s.devId, n, r.didx + 1048576 * b2n (s.combinedValue n r.didx)⟩] s t) ∧
        (s.isMgr = false → Sent (upPorts s) [⟨2, s.devId, n, r.didx + 1048576 * b2n (s.combinedValue n r.didx)⟩] s t)) := by
  have he : exec (.gangCombine n) s = .next (s.combineDecision n r.didx) := by
    show execGangCombine n s = _
    unfold execGangCombine
    dsimp only
    rw [reportArrival_none h, hr]
    dsimp only
    simp only [combineDecision_arrivals, combineDecision_allArrived, ha]
  obtain ⟨ports, ms, ht, hdown, hup⟩ := combineDecision_told (s := s) (n := n) r.didx
  have hsent : Sent ports ms s (s.combineDecision n r.didx) := ht.2.after fun q => rfl
  refine ⟨_, he, ?_, ?_, fun hm => ⟨?_, ?_⟩, fun hm => ?_⟩
  · rw [ht.1.tsyOnly, decidedAt_frame]
  · rw [ht.1.xgang, decidedAt_xgang]
    rfl
  · rw [ht.1.xgang, decidedAt_xgang, hm]
    rfl
  · obtain ⟨rfl, rfl⟩ := hdown hm
    exact hsent
  · obtain ⟨rfl, rfl⟩ := hup hm
    exact hsent

section
variable {r : Nat × Nat × Nat}

/-- The release time of a SYNC: the latest arrival plus LG. -/
def State.releaseTime (s : State) (n : Fin 16) (d : Nat) : Nat :=
  ((s.xgang n).arrivals.filter (fun r => r.1 == d)).foldl (fun acc r => max acc r.2.2) 0 + s.fld (R.TSY_GANG_CFG n) F.TSY_GANG_CFG_LG * ns

/-- A gang whose SYNC d is released. -/
def XGang.releasedAt (x : XGang) (d rel : Nat) : XGang :=
  { x with arrivals := x.arrivals.filter (fun r => r.1 != d), release := some (d, rel) }

theorem combineArrival_mgr (h : s.isMgr = true) (d : Nat) : s.combineArrival n d =
    (s.modGang n (fun x => x.releasedAt d (s.releaseTime n d))).sendDown ⟨5, s.devId, n, d + 65536 * (s.releaseTime n d % 2 ^ 32)⟩ := by
  refine (if_pos h).trans ?_
  rw [modGang_modGang]
  rfl

theorem gangCombine_releases (h : s.ownArrival n = none)
    (hr : (s.xgang n).reports.find? (fun r => s.allReported n r.didx) = none) (hm : s.isMgr = true)
    (ha : (s.xgang n).arrivals.find? (fun r => s.allArrived n r.1) = some r) : After (.gangCombine n) s (fun t =>
      t = { s with tsy := t.tsy } ∧ (t.xgang n).release = some (r.1, s.releaseTime n r.1) ∧
        (t.xgang n).arrivals = (s.xgang n).arrivals.filter (fun x => x.1 != r.1) ∧
        Sent (downPorts s) [⟨5, s.devId, n, r.1 + 65536 * (s.releaseTime n r.1 % 2 ^ 32)⟩] s t) := by
  have he : exec (.gangCombine n) s = .next (s.combineArrival n r.1) := by
    show execGangCombine n s = _
    unfold execGangCombine
    dsimp only
    rw [reportArrival_none h, hr]
    dsimp only
    rw [ha]
  rw [combineArrival_mgr hm] at he
  obtain ⟨ho, hs⟩ := sendDown_told (s := s.modGang n (fun x => x.releasedAt r.1 (s.releaseTime n r.1)))
    ⟨5, s.devId, n, r.1 + 65536 * (s.releaseTime n r.1 % 2 ^ 32)⟩
  refine ⟨_, he, ho.tsyOnly, ?_, ?_, ?_⟩
  · rw [ho.xgang, modGang_xgang_same]
    rfl
  · rw [ho.xgang, modGang_xgang_same]
    rfl
  · rw [downPorts_congr fun a => modGang_rd _ a] at hs
    exact hs.after fun q => modGang_tport _

end

theorem decisionHandoff_taken {d t0 : Nat} {v : Bool} (hg : s.gangEn g = true) (hs : s.span g = 3) (hn : s.gid g = n)
    (hf : (s.xgang n).decided.find? (fun r => !(s.g g).combined.any (fun c => c.1 == r.1)) = some (d, v, t0)) :
    After (.decisionHandoff g) s (fun t => OnlyGroup g [] s t ∧ t.now = max s.now (t0 + 4 * ns) ∧
      t.g g = { s.g g with combined := (s.g g).combined.filter (fun c => nearIdx c.1 d) ++ [(d, v)] }) := by
  have he : exec (.decisionHandoff g) s = .next ((s.at_ (t0 + 4 * ns)).modG g (fun x => { x with
      combined := x.combined.filter (fun c => nearIdx c.1 d) ++ [(d, v)] })) := by
    show execDecisionHandoff g s = _
    unfold execDecisionHandoff
    dsimp only
    simp only [hn, gang_eq, hf]
    exact if_pos (by simp [hg, hs])
  refine ⟨_, he, (OnlyGroup.refl g _ s).at_.modG, ?_, ?_⟩
  · rw [State.modG_now, State.at_now]
  · rw [State.modG_g_same, State.atT_g_eq]

/-! ### The switch of the path (R288, R289) -/

theorem unhold_spec : OnlySync s s.unhold ∧ s.unhold.now = s.now ∧ s.unhold.tsy = { s.tsy with hold := false } ∧
    SameRegs [R.PT_STAT] s s.unhold ∧ s.unhold.rd R.PT_STAT = (if s.tsy.hold then
      F.PT_STAT_HOLD.set (s.rd R.PT_STAT) (b2n (s.flag R.PKG_REF F.PKG_REF_HOLD)) else s.rd R.PT_STAT) := by
  by_cases h : s.tsy.hold = true
  · rw [unhold_of_held h, h]
    refine ⟨(OnlySync.refl s).tsy.setF, rfl, rfl, fun a ha => ?_, ?_⟩
    · exact State.setF_rd_other _ _ _ _ _ (by simpa using ha)
    · rw [State.setF, State.wr_rd_same]
      rfl
  · have hf : s.tsy.hold = false := Bool.eq_false_iff.mpr h
    rw [unhold_of_free hf, if_neg h]
    refine ⟨OnlySync.refl s, rfl, ?_, SameRegs.refl _ _, rfl⟩
    generalize s.tsy = y at hf ⊢
    cases y
    cases hf
    rfl

section
variable {old new : Fin 12}

/-- What was not acknowledged goes over to the new path. -/
def State.movedOver (s : State) (old new : Fin 12) : State :=
  (s.modPort old (fun x => { x with flitq := [], unacked := [] })).modPort new
    (fun y => { y with flitq := (s.tport old).unacked ++ (s.tport old).flitq ++ y.flitq })

/-- The active path and the depth below it. -/
def State.pathSwitched (s : State) (old new : Fin 12) : State :=
  ((s.movedOver old new).setF R.TSY_STAT F.TSY_STAT_UPACT new).setF R.TSY_STAT F.TSY_STAT_DEPTH (min 2 ((s.tport new).depth + 1))

/-- The offset is to be measured. -/
def State.measuring (s : State) : State := { s with tsy := { s.tsy with measure := true } }

theorem movedOver_tport (h : old ≠ new) : (s.movedOver old new).tport new =
    { s.tport new with flitq := (s.tport old).unacked ++ (s.tport old).flitq ++ (s.tport new).flitq } ∧
    (s.movedOver old new).tport old = { s.tport old with flitq := [], unacked := [] } := by
  refine ⟨?_, ?_⟩
  · rw [State.movedOver, modPort_tport_same, modPort_tport_other _ h.symm]
  · rw [State.movedOver, modPort_tport_other _ h, modPort_tport_same]

theorem exec_failover (ho : s.fld R.TSY_STAT F.TSY_STAT_UPACT = old) (hn : s.otherUp = new) (hr : s.role = 2) (hm : s.isMgr = false)
    (hs : s.flag R.TSY_CTRL F.TSY_CTRL_SECEN = true) (hpo : s.pstate old ≠ 3) (hpn : s.pstate new = 3) :
    exec .failover s = .next ((s.pathSwitched old new).unhold.measuring.showTree.setF R.TSY_CAUSE F.TSY_CAUSE_FAILOVER 1) := by
  have hne : old ≠ new := fun e => hpo (e ▸ hpn)
  have hd : ((s.movedOver old new).tport new).depth = (s.tport new).depth := by rw [(movedOver_tport hne).1]
  unfold State.pathSwitched
  rw [← hd]
  show execFailover s = _
  unfold execFailover
  dsimp only
  simp only [ho, hn]
  rw [dif_pos ⟨old.isLt, new.isLt⟩, if_pos (by simp [hr, hm, hs, hpo, hpn])]
  rfl

theorem stat_ne_cause : R.TSY_STAT ≠ R.TSY_CAUSE := by decide

theorem failover_switches (ho : s.fld R.TSY_STAT F.TSY_STAT_UPACT = old) (hn : s.otherUp = new) (hr : s.role = 2) (hm : s.isMgr = false)
    (hs : s.flag R.TSY_CTRL F.TSY_CTRL_SECEN = true) (hpo : s.pstate old ≠ 3) (hpn : s.pstate new = 3) :
    After .failover s (fun t => OnlySync s t ∧ SameRegs [R.TSY_STAT, R.PT_STAT, R.TSY_CAUSE] s t ∧ t.now = s.now ∧
      t.fld R.TSY_STAT F.TSY_STAT_UPACT = new ∧ t.fld R.TSY_STAT F.TSY_STAT_DEPTH = min 2 ((s.tport new).depth + 1) ∧
        t.tsy.hold = false ∧ t.rd R.PT_STAT = (if s.tsy.hold then
          F.PT_STAT_HOLD.set (s.rd R.PT_STAT) (b2n (s.flag R.PKG_REF F.PKG_REF_HOLD)) else s.rd R.PT_STAT) ∧
        t.rd R.TSY_CAUSE = F.TSY_CAUSE_FAILOVER.set (s.rd R.TSY_CAUSE) 1 ∧ t.tsy.measure = true ∧
        (t.tport new).flitq = (s.tport old).unacked ++ (s.tport old).flitq ++ (s.tport new).flitq ∧
        (t.tport old).flitq = [] ∧ (t.tport old).unacked = []) := by
  have hne : old ≠ new := fun e => hpo (e ▸ hpn)
  obtain ⟨hpn, hpold⟩ := movedOver_tport (s := s) hne
  obtain ⟨huo, hun, hut, hur, hup⟩ := unhold_spec (s := s.pathSwitched old new)
  obtain ⟨k, hk, -⟩ := showTree_eq (s.pathSwitched old new).unhold.measuring
  refine ⟨_, exec_failover ho hn hr hm hs hpo (by assumption), ?_⟩
  rw [hk]
  have hrd {a : Nat} (h : a ≠ R.TSY_STAT) : (s.pathSwitched old new).rd a = s.rd a := by
    rw [State.pathSwitched, State.setF_rd_other _ _ _ _ _ h, State.setF_rd_other _ _ _ _ _ h]
    rfl
  have hact : (s.pathSwitched old new).fld R.TSY_STAT F.TSY_STAT_UPACT = new := by
    rw [State.pathSwitched, State.setF_fld_other _ _ _ _ _ _ (.inr (by decide)), State.setF_fld_same _ _ _ _ (by decide)]
    exact Nat.mod_eq_of_lt (show new.val < 16 by omega)
  have hdep : (s.pathSwitched old new).fld R.TSY_STAT F.TSY_STAT_DEPTH = min 2 ((s.tport new).depth + 1) := by
    rw [State.pathSwitched, State.setF_fld_same _ _ _ _ (by decide)]
    exact Nat.mod_eq_of_lt (show min 2 ((s.tport new).depth + 1) < 4 by omega)
  have hod : OnlySync s (s.pathSwitched old new) := (OnlySync.refl s).modPort.modPort.setF.setF
  have hnow : (s.pathSwitched old new).now = s.now := rfl
  have hhold : (s.pathSwitched old new).tsy.hold = s.tsy.hold := rfl
  have htp (q : Fin 12) : (s.pathSwitched old new).tport q = (s.movedOver old new).tport q := rfl
  generalize s.pathSwitched old new = u at *
  generalize hv : u.unhold = v at *
  have hmr (a : Nat) : v.measuring.rd a = v.rd a := rfl
  have hmt (q : Fin 12) : v.measuring.tport q = u.tport q := by
    show v.tsy.port[q] = _
    rw [hut]
    rfl
  refine ⟨(hod.trans huo).tsy.setF.setF, fun a ha => ?_, (show v.now = _ by rw [hun, hnow]), ?_, ?_, ?_, ?_, ?_, rfl, ?_, ?_, ?_⟩
  · simp only [List.mem_cons, List.not_mem_nil, or_false, not_or] at ha
    rw [State.setF_rd_other _ _ _ _ _ ha.2.2, State.setF_rd_other _ _ _ _ _ ha.1, hmr, hur a (by simp [ha]), hrd ha.1]
  · rw [State.setF_fld_other _ _ _ _ _ _ (.inl stat_ne_cause), State.setF_fld_other _ _ _ _ _ _ (.inr (by decide)),
      fld_congr (hmr _), fld_congr (hur _ (by simp [stat_ne_ptStat])), hact]
  · rw [State.setF_fld_other _ _ _ _ _ _ (.inl stat_ne_cause), State.setF_fld_other _ _ _ _ _ _ (.inr (by decide)),
      fld_congr (hmr _), fld_congr (hur _ (by simp [stat_ne_ptStat])), hdep]
  · show v.tsy.hold = false
    rw [hut]
  · rw [State.setF_rd_other _ _ _ _ _ (by decide), State.setF_rd_other _ _ _ _ _ stat_ne_ptStat.symm, hmr, hup, hhold,
      hrd stat_ne_ptStat.symm, flag_congr (hrd (by decide))]
  · rw [State.setF, State.wr_rd_same, State.setF_rd_other _ _ _ _ _ stat_ne_cause.symm, hmr, hur _ (by decide), hrd stat_ne_cause.symm]
  · rw [setF_tport, setF_tport, hmt, htp, hpn]
  · rw [setF_tport, setF_tport, hmt, htp, hpold]
  · rw [setF_tport, setF_tport, hmt, htp, hpold]

end

/-! ### The step (R289) and takeover (R290) -/

/-- What is emitted to ports, and nothing else. -/
theorem forEach_emit_out (l : List (Fin 12)) (f : Fin 12 → Output) : ∃ o, forEach l (fun p s => s.emit (f p)) s = { s with out := o } ∧
    ∀ e, e ∈ o ↔ e ∈ s.out ∨ ∃ q ∈ l, e = f q := by
  induction l generalizing s with
  | nil => exact ⟨s.out, rfl, by simp⟩
  | cons a l ih =>
    obtain ⟨o, ho, hm⟩ := ih (s := s.emit (f a))
    refine ⟨o, ho, fun e => ?_⟩
    rw [hm]
    show e ∈ f a :: s.out ∨ _ ↔ _
    simp only [List.mem_cons, exists_eq_or_imp]
    tauto

/-- No step waits. -/
def State.noStep (s : State) : State := { s with tsy := { s.tsy with ptofs := none } }

theorem exec_ptofsStep {o : Int} (h : s.tsy.ptofs = some o) (ha : ∀ k : Fin 24, s.active k = false) :
    exec (.ptofsStep none) s = .next ((s.jump ((s.now : Int) + o).toNat).noStep.tellStep o) := by
  show execPtofsStep none s = _
  unfold execPtofsStep
  dsimp only
  rw [h]
  exact if_neg (by simp [ha])

theorem ptofsStep_jumps {o : Int} (h : s.tsy.ptofs = some o) (ha : ∀ k : Fin 24, s.active k = false) :
    After (.ptofsStep none) s (fun t =>
      t = { s with now := ((s.now : Int) + o).toNat, tsy := { s.tsy with ptofs := none, port := t.tsy.port }, out := t.out } ∧
      (∀ q, t.tport q = (s.tport q).jump s.now t.now) ∧
      ∀ e, e ∈ t.out ↔ e ∈ s.out ∨ ∃ q : Fin 12, downPorts s q = true ∧ e = .ptStep q o) := by
  refine ⟨_, exec_ptofsStep h ha, ?_⟩
  generalize ((s.now : Int) + o).toNat = k
  have hd : downPorts (s.jump k).noStep = downPorts s := downPorts_congr fun a => rfl
  obtain ⟨l, hl, hm⟩ := forEach_emit_out (s := (s.jump k).noStep) ((List.finRange 12).filter (downPorts (s.jump k).noStep))
    (fun p => .ptStep p o)
  have ht : (s.jump k).noStep.tellStep o = { (s.jump k).noStep with out := l } := hl
  rw [ht]
  refine ⟨rfl, fun q => jump_tport k, fun e => ?_⟩
  show e ∈ l ↔ _
  rw [hm, hd]
  simp only [List.mem_filter, List.mem_finRange, true_and]
  rfl

theorem any_active (h : ∃ k : Fin 24, s.active k = true) : (List.finRange 24).any (fun g => s.active g) = true := by
  obtain ⟨k, hk⟩ := h
  exact List.any_eq_true.mpr ⟨k, List.mem_finRange k, hk⟩

theorem ptofsStep_waits (h : ∃ k : Fin 24, s.active k = true) : exec (.ptofsStep none) s = .next s := by
  show execPtofsStep none s = _
  unfold execPtofsStep
  dsimp only
  cases s.tsy.ptofs with
  | none => rfl
  | some o => exact if_pos (any_active h)

/-- A group's activity rests on its own registers. -/
theorem active_stepBy (o : Int) (k : Fin 24) : (s.stepBy o).active k = s.active k := by
  have h : (s.stepBy o).vstat k = s.vstat k := fld_congr (State.wr_rd_other _ _ _ _
    (by unfold R.VSQ_STAT R.TSY_PTOFS vsqBase tsyBase packageBase dieBase; omega)) _
  rw [State.active, State.active, h]

theorem ptofsStep_adds (h : ∃ k : Fin 24, s.active k = true) (o : BitVec 32) : After (.ptofsStep (some o)) s (fun t =>
    SameRegs [R.TSY_PTOFS] s t ∧ t = { s with regs := t.regs, tsy := { s.tsy with ptofs := some (s.tsy.ptofs.getD 0 + o.toInt) } } ∧
      ((t.rd R.TSY_PTOFS).toNat : Int) = (s.tsy.ptofs.getD 0 + o.toInt) % 2 ^ 32) := by
  have he : exec (.ptofsStep (some o)) s = .next (s.stepBy (s.tsy.ptofs.getD 0 + o.toInt)) := by
    show execPtofsStep (some o) s = _
    unfold execPtofsStep
    dsimp only
    refine if_pos (any_active ?_)
    obtain ⟨k, hk⟩ := h
    exact ⟨k, by rw [active_stepBy, hk]⟩
  refine ⟨_, he, fun a ha => State.wr_rd_other _ _ _ _ (by simpa using ha), rfl, ?_⟩
  rw [← toInt_ofNat_unsigned]
  exact congrArg (fun w : Word => (w.toNat : Int)) (State.wr_rd_same _ _ _)

/-- The standby is the manager, at depth 0. -/
def State.takenOver (s : State) : State :=
  (s.setF R.TSY_STAT F.TSY_STAT_MGR 1).setF R.TSY_STAT F.TSY_STAT_DEPTH 0

theorem exec_takeover (hr : s.role = 2) (hm : s.isMgr = false) (hs : s.flag R.TSY_CTRL F.TSY_CTRL_STBY = true) (h11 : s.pstate 11 ≠ 3)
    (hu : s.pstate (s.fld R.TSY_STAT F.TSY_STAT_UPACT) ≠ 3) :
    exec .takeover s = .next (s.takenOver.unhold.showTree.setF R.TSY_CAUSE F.TSY_CAUSE_TAKEOVER 1) := by
  show execTakeover s = _
  unfold execTakeover
  rw [if_pos (by simp [hr, hm, hs, h11, hu])]
  rfl

theorem takeover_takes (hr : s.role = 2) (hm : s.isMgr = false) (hs : s.flag R.TSY_CTRL F.TSY_CTRL_STBY = true) (h11 : s.pstate 11 ≠ 3)
    (hu : s.pstate (s.fld R.TSY_STAT F.TSY_STAT_UPACT) ≠ 3) : After .takeover s (fun t =>
        t = { s with regs := t.regs, tsy := { s.tsy with hold := false } } ∧
        SameRegs [R.TSY_STAT, R.PT_STAT, R.TSY_CAUSE] s t ∧ t.isMgr = true ∧ t.fld R.TSY_STAT F.TSY_STAT_DEPTH = 0 ∧
        t.role = 2 ∧ t.tsy.hold = false ∧ (s.tsy.hold = false → t.rd R.PT_STAT = s.rd R.PT_STAT) ∧
        t.rd R.TSY_CAUSE = F.TSY_CAUSE_TAKEOVER.set (s.rd R.TSY_CAUSE) 1) := by
  obtain ⟨huo, hun, hut, hur, hup⟩ := unhold_spec (s := s.takenOver)
  obtain ⟨k, hk, -⟩ := showTree_eq s.takenOver.unhold
  refine ⟨_, exec_takeover hr hm hs h11 hu, ?_⟩
  rw [hk]
  have hrd {a : Nat} (h : a ≠ R.TSY_STAT) : s.takenOver.rd a = s.rd a := by
    rw [State.takenOver, State.setF_rd_other _ _ _ _ _ h, State.setF_rd_other _ _ _ _ _ h]
  have hmg : s.takenOver.fld R.TSY_STAT F.TSY_STAT_MGR = 1 := by
    rw [State.takenOver, State.setF_fld_other _ _ _ _ _ _ (.inr (by decide)), State.setF_fld_same _ _ _ _ (by decide)]
    rfl
  have hdep : s.takenOver.fld R.TSY_STAT F.TSY_STAT_DEPTH = 0 := by
    rw [State.takenOver, State.setF_fld_same _ _ _ _ (by decide)]
    rfl
  have hrole : s.takenOver.fld R.TSY_STAT F.TSY_STAT_ROLE = 2 := by
    rw [State.takenOver, State.setF_fld_other _ _ _ _ _ _ (.inr (by decide)), State.setF_fld_other _ _ _ _ _ _ (.inr (by decide))]
    exact hr
  have hfr : s.takenOver = { s with regs := s.takenOver.regs } := rfl
  have hts : s.takenOver.tsy = s.tsy := rfl
  generalize s.takenOver = u at *
  generalize hv : u.unhold = v at *
  have hst (f : Fld) (hf : F.TSY_STAT_TREE.lo + F.TSY_STAT_TREE.w ≤ f.lo ∨ f.lo + f.w ≤ F.TSY_STAT_TREE.lo) :
      ((v.setF R.TSY_STAT F.TSY_STAT_TREE k).setF R.TSY_CAUSE F.TSY_CAUSE_TAKEOVER 1).fld R.TSY_STAT f = u.fld R.TSY_STAT f := by
    rw [State.setF_fld_other _ _ _ _ _ _ (.inl stat_ne_cause), State.setF_fld_other _ _ _ _ _ _ (.inr hf),
      fld_congr (hur _ (by simp [stat_ne_ptStat]))]
  have hvt : v.tsy = { s.tsy with hold := false } := by rw [hut, hts]
  refine ⟨?_, fun a ha => ?_, ?_, ?_, ?_, ?_, fun h => ?_, ?_⟩
  · have hvs : v = { s with regs := v.regs, tsy := { s.tsy with hold := false } } := by
      rw [← hvt]
      unfold OnlySync at huo
      rw [hun, hfr] at huo
      exact huo
    generalize { s.tsy with hold := false } = y at hvs ⊢
    generalize v.regs = w at hvs
    subst hvs
    rfl
  · simp only [List.mem_cons, List.not_mem_nil, or_false, not_or] at ha
    rw [State.setF_rd_other _ _ _ _ _ ha.2.2, State.setF_rd_other _ _ _ _ _ ha.1, hur a (by simp [ha]), hrd ha.1]
  · rw [State.isMgr, State.flag, hst _ (by decide), hmg]
    rfl
  · rw [hst _ (by decide), hdep]
  · rw [State.role, hst _ (by decide), hrole]
  · rw [State.setF_tsy, State.setF_tsy, hvt]
  · rw [State.setF_rd_other _ _ _ _ _ (by decide), State.setF_rd_other _ _ _ _ _ stat_ne_ptStat.symm, hup, hts, h,
      hrd stat_ne_ptStat.symm]
    rfl
  · rw [State.setF, State.wr_rd_same, State.setF_rd_other _ _ _ _ _ stat_ne_cause.symm, hur _ (by decide), hrd stat_ne_cause.symm]

/-- Settles O27: each command's effect, by the rules of the gangs (`modGang`), of the messages (`Told`) and of the hold (`unhold_spec`). -/
theorem gangResultsCombineAndPathsSwitch : Obligations.GangResultsCombineAndPathsSwitch := by
  intro s n g
  exact ⟨fun hg hs hn he hm => gangLocalResult_forms hg hs hn he hm rfl, fun h => ⟨fun r => gangCombine_decides h,
    fun r => gangCombine_releases h⟩, fun d v t0 => decisionHandoff_taken, fun old new => failover_switches, fun o => ptofsStep_jumps,
    fun h => ⟨ptofsStep_waits h, ptofsStep_adds h⟩, takeover_takes⟩

end Sys2Proof.Machine
end

section
/-! The commit of a throttled ledger unit (08_time_sync_scaleout.md R293; 12_memory_system.md R433). -/
namespace Sys2Proof.Machine

/-- The ledger is on; its unit has been throttled on bank 3 of the READY port 0, where record 0 stands. -/
def throttledLedger : State :=
  (((((State.reset.setF (R.MEMP_CTRL 0) F.MEMP_CTRL_EXPD 1).setF (R.MEMP_STAT 0) F.MEMP_STAT_STATE 2).wr (R.PROM_REG_SIZE 0 0)
    1#32).setF (R.PROM_REG_CTRL 0 0) F.PROM_REG_CTRL_EN 1).setP 0
      { State.reset.p 0 with zeroed := true, throttled := [(0x50, 0, 3, 0)] }).setF R.LED_CTRL F.LED_CTRL_EN 1

/-- The header's write waits GAP, 100 ns after reset. -/
theorem throttledLedger_waits : nowAfter (.ledCommit 1 [activating]) throttledLedger = 100 * ns ∧ throttledLedger.now = 0 := by decide

/-- Refutes O28: time passes in a commit where the ledger unit is throttled at its port (`throttledLedger`), for the header's activation
waits GAP (12 R433). -/
theorem not_ledgerCommitsMirrorsAndPairs : ¬ Obligations.LedgerCommitsMirrorsAndPairs := by
  intro h
  obtain ⟨-, hcommit, -⟩ := h throttledLedger [activating]
  obtain ⟨-, htake⟩ := hcommit 1 (by decide) (by decide) (by decide)
  obtain ⟨t, ht, -, hn, -⟩ := htake (by decide)
  obtain ⟨hw, h0⟩ := throttledLedger_waits
  rw [nowAfter, ht] at hw
  have hz : t.now = 0 := Eq.trans hn h0
  rw [show t.now = 100 * ns from hw] at hz
  exact absurd hz (by decide)

end Sys2Proof.Machine
end

section
/-! A fence that sends a transaction again on its other path (10_seams.md R364, R366; 18_interrupts_events.md R573). -/
namespace Sys2Proof.Machine

/-- Die 0 keeps a transaction with die 1 whose path is the link between them and whose other path leads by dies 3 and 4; counter 0 of die
0 counts the flits it sends at port 2. -/
def keptTransaction : State :=
  ((State.reset.setF (R.MON_SEL 0 0) F.MON_SEL_EVT 0x62).setF (R.MON_SEL 0 0) F.MON_SEL_EN 1).setBridge 0
    (fun b => { b with sent := [⟨0, 1, ⟨0, 0, 0, false, [], 0, false⟩, 13, 230, false, 0⟩] })

/-- The monitor counter 0 of die 0 after a command. -/
def countAfter (c : Instr) (s : State) : Nat := match exec c s with | .next t => t.mon[0].cnt[0] | _ => 0

theorem keptTransaction_counted : countAfter (.seamFence 0 1) keptTransaction = 1 ∧ keptTransaction.mon[0].cnt[0] = 0 := by decide +kernel

/-- Refutes O30: a fence also moves the monitor counters, where a transaction that a bridge keeps goes again on its other path
(`keptTransaction`): the flit it sends is counted. -/
theorem not_seamLanesFailAndLinksAreFenced : ¬ Obligations.SeamLanesFailAndLinksAreFenced := by
  intro h
  obtain ⟨⟨t, ht, hframe, -⟩, -⟩ := h keptTransaction 0 1 1 0 rfl
  obtain ⟨h1, h0⟩ := keptTransaction_counted
  rw [countAfter, ht] at h1
  have hm : t.mon = keptTransaction.mon := by rw [hframe]
  have hz : t.mon[0].cnt[0] = 0 := by rw [hm]; exact h0
  rw [show t.mon[0].cnt[0] = 1 from h1] at hz
  exact absurd hz (by decide)

end Sys2Proof.Machine
end

section
/-! Seam links train and come up (10_seams.md R350, R358 to R361). -/
namespace Sys2Proof.Machine
variable {s t u : State} {d e k j : Nat}

/-! ### The ends of a link -/

/-- What the two ends of a link are to each other. -/
structure Ends (d k e j : Nat) : Prop where
  far : farEnd d k = some (e, j)
  back : farEnd e j = some (d, k)
  dieLt : d < 6
  portLt : k < 3
  dieLt' : e < 6
  portLt' : j < 3
  ne : d ≠ e

theorem Ends.symm (h : Ends d k e j) : Ends e j d k :=
  ⟨h.back, h.far, h.dieLt', h.portLt', h.dieLt, h.portLt, h.ne.symm⟩

/-- Every link has two ends. -/
theorem ends_of_farEnd {d e : Fin 6} {k j : Fin 3} (h : farEnd d k = some (e.val, j.val)) : Ends d k e j := by
  have hb : farEnd e j = some (d.val, k.val) ∧ d.val ≠ e.val := by
    revert h
    revert d e k j
    decide
  exact ⟨h, hb.1, d.isLt, k.isLt, e.isLt, j.isLt, hb.2⟩

theorem bothEnds_eq (h : Ends d k e j) (f : Nat → Nat → State → State) : s.bothEnds d k f = f e j (f d k s) := by
  rw [State.bothEnds, h.far]

/-! ### Registers of a seam port -/

/-- A register of a seam port: its die, port and offset. -/
theorem seam_ne {a b : Nat} (ha : a < 0x1000) (hb : b < 0x1000) (hk : k < 3) (hj : j < 3) (h : d ≠ e ∨ k ≠ j ∨ a ≠ b) :
    seamBase d k + a ≠ seamBase e j + b := by
  unfold seamBase dieBase
  omega

/-- A change of seam ends is a change of that field alone. -/
theorem setSeam_eq (f : SeamEnd → SeamEnd) : ∃ x, s.setSeam d k f = { s with seam := x } := ⟨_, rfl⟩

theorem setSeam_rd (f : SeamEnd → SeamEnd) (a : Nat) : (s.setSeam d k f).rd a = s.rd a := by
  obtain ⟨x, hx⟩ := setSeam_eq (s := s) (d := d) (k := k) f
  rw [hx]
  rfl

theorem setSeam_fld (f : SeamEnd → SeamEnd) (a : Nat) (x : Fld) : (s.setSeam d k f).fld a x = s.fld a x := by
  rw [State.fld, setSeam_rd, State.fld]

theorem setSeam_flag (f : SeamEnd → SeamEnd) (a : Nat) (x : Fld) : (s.setSeam d k f).flag a x = s.flag a x := by
  rw [State.flag, setSeam_fld, State.flag]

/-- Only registers and seam ends differ. -/
def OnlySeam (as : List Nat) (s t : State) : Prop := t = { s with regs := t.regs, seam := t.seam } ∧ SameRegs as s t

theorem OnlySeam.refl (as : List Nat) (s : State) : OnlySeam as s s := ⟨rfl, SameRegs.refl as s⟩

theorem OnlySeam.setF {as : List Nat} {a x : Nat} {f : Fld} (h : OnlySeam as s t) (ha : a ∈ as) : OnlySeam as s (t.setF a f x) := by
  obtain ⟨hf, hr⟩ := h
  refine ⟨?_, hr.setF ha⟩
  rw [hf]
  rfl

theorem OnlySeam.setSeam {as : List Nat} {f : SeamEnd → SeamEnd} (h : OnlySeam as s t) : OnlySeam as s (t.setSeam d k f) := by
  obtain ⟨hf, hr⟩ := h
  obtain ⟨x, hx⟩ := setSeam_eq (s := t) (d := d) (k := k) f
  refine ⟨?_, fun a ha => (setSeam_rd f a).trans (hr a ha)⟩
  rw [hx, hf]

/-! ### Training (R358) -/

/-- An end whose training begins. -/
def State.trainEnd (s : State) (d k : Nat) : State :=
  ((((((s.setF (R.SEAM_STAT d k) F.SEAM_STAT_STATE 1).setB (R.SEAM_STAT d k) F.SEAM_STAT_FABREL false).setSeam d k
    (fun x => { x with wire := [], repl := [], unacked := [], errs := [] })).setF (R.SEAM_STAT d k) F.SEAM_STAT_ATTEMPT 0).setB
      (R.SEAM_STAT d k) F.SEAM_STAT_FALLBK false).setSeam d k (fun x => { x with acc := BitVec.allOnes 48, same := true }))

theorem train_eq (h : Ends d k e j) : s.train d k = (s.trainEnd d k).trainEnd e j := bothEnds_eq h _

theorem trainEnd_only {as : List Nat} (h : OnlySeam as s t) (ha : R.SEAM_STAT d k ∈ as) : OnlySeam as s (t.trainEnd d k) := by
  unfold State.trainEnd
  rw [State.setB_eq, State.setB_eq]
  exact ((((h.setF ha).setF ha).setSeam.setF ha).setF ha).setSeam

theorem trainEnd_link : (s.trainEnd d k).link d k = 1 := by
  rw [State.link, State.trainEnd, setSeam_fld, State.setB_eq, State.setF_fld_other _ _ _ _ _ _ (.inr (by decide)),
    State.setF_fld_other _ _ _ _ _ _ (.inr (by decide)), setSeam_fld, State.setB_eq, State.setF_fld_other _ _ _ _ _ _ (.inr (by decide)),
    State.setF_fld_same _ _ _ _ (by decide)]
  rfl

theorem trainEnd_attempt : (s.trainEnd d k).fld (R.SEAM_STAT d k) F.SEAM_STAT_ATTEMPT = 0 := by
  rw [State.trainEnd, setSeam_fld, State.setB_eq, State.setF_fld_other _ _ _ _ _ _ (.inr (by decide)), State.setF_fld_same _ _ _ _ (by decide)]
  rfl

theorem trainEnd_fallbk : (s.trainEnd d k).flag (R.SEAM_STAT d k) F.SEAM_STAT_FALLBK = false := by
  rw [State.trainEnd, setSeam_flag, State.flag, State.setB_eq, State.setF_fld_same _ _ _ _ (by decide)]
  rfl

theorem trainEnd_fabrel : (s.trainEnd d k).flag (R.SEAM_STAT d k) F.SEAM_STAT_FABREL = false := by
  rw [State.trainEnd, setSeam_flag, State.flag, State.setB_eq, State.setF_fld_other _ _ _ _ _ _ (.inr (by decide)),
    State.setF_fld_other _ _ _ _ _ _ (.inr (by decide)), setSeam_fld, State.setB_eq, State.setF_fld_same _ _ _ _ (by decide)]
  rfl

theorem trainEnd_rd {a : Nat} (h : a ≠ R.SEAM_STAT d k) : (s.trainEnd d k).rd a = s.rd a := by
  obtain ⟨-, hr⟩ := trainEnd_only (d := d) (k := k) (OnlySeam.refl [R.SEAM_STAT d k] s) (by simp)
  exact hr a (by simpa using h)

theorem stat_ne (h : Ends d k e j) : R.SEAM_STAT d k ≠ R.SEAM_STAT e j :=
  seam_ne (by decide) (by decide) h.portLt h.portLt' (.inl h.ne)

theorem seamRetrain_trains {d e : Fin 6} {k j : Fin 3} (h : farEnd d k = some (e.val, j.val)) : After (.seamRetrain d k) s (fun t =>
    t = { s with regs := t.regs, seam := t.seam } ∧
      SameRegs [R.SEAM_STAT d k, R.SEAM_STAT e j] s t ∧ t.link d k = 1 ∧ t.link e j = 1 ∧
      t.fld (R.SEAM_STAT d k) F.SEAM_STAT_ATTEMPT = 0 ∧ t.fld (R.SEAM_STAT e j) F.SEAM_STAT_ATTEMPT = 0 ∧
      t.flag (R.SEAM_STAT d k) F.SEAM_STAT_FALLBK = false ∧ t.flag (R.SEAM_STAT d k) F.SEAM_STAT_FABREL = false) := by
  have he := ends_of_farEnd h
  have hx : exec (.seamRetrain d k) s = .next ((s.trainEnd d k).trainEnd e j) := by
    show execSeamRetrain d k s = _
    rw [execSeamRetrain, if_pos (by rw [h]; rfl), train_eq he]
  obtain ⟨hf, hr⟩ := trainEnd_only (d := e) (k := j) (trainEnd_only (d := d) (k := k)
    (OnlySeam.refl [R.SEAM_STAT d k, R.SEAM_STAT e j] s) (by simp)) (by simp)
  have ho := trainEnd_rd (s := s.trainEnd d k) (stat_ne he)
  exact ⟨_, hx, hf, hr, (fld_congr ho _).trans trainEnd_link, trainEnd_link, (fld_congr ho _).trans trainEnd_attempt, trainEnd_attempt,
    (flag_congr ho _).trans trainEnd_fallbk, (flag_congr ho _).trans trainEnd_fabrel⟩

/-! ### Maps (R351) -/

section
variable {m : List Nat} {i : Nat}

/-- The four map bytes of a register. -/
def mapWord (m : List Nat) (i : Nat) : Word := BitVec.ofNat 32 (leOf ((m.drop (4 * i)).take 4))

theorem writeMap_frame (reg : Nat → Nat) : s.writeMap reg m = { s with regs := (s.writeMap reg m).regs } :=
  forEach_induct (P := fun u : State => u = { s with regs := u.regs }) rfl fun i _ u hu => by rw [State.wr, hu]

theorem writeMap_other {reg : Nat → Nat} {a : Nat} (h : ∀ i, i < 12 → a ≠ reg i) : (s.writeMap reg m).rd a = s.rd a := by
  refine forEach_induct (P := fun u : State => u.rd a = s.rd a) rfl fun i hi u hu => ?_
  rw [State.wr_rd_other _ _ _ _ (h i (List.mem_range.mp hi)), hu]

theorem forEach_wr_rd {l : List Nat} {reg : Nat → Nat} {v : Nat → Word} (hreg : ∀ x y, reg x = reg y → x = y) (hi : i ∈ l) :
    (forEach l (fun i s => s.wr (reg i) (v i)) s).rd (reg i) = v i := by
  induction l generalizing s with
  | nil => simp at hi
  | cons a l ih =>
    rw [forEach_cons]
    by_cases hl : i ∈ l
    · exact ih hl
    · obtain rfl : i = a := by simpa [hl] using hi
      have : ∀ u : State, u.rd (reg i) = v i → (forEach l (fun i s => s.wr (reg i) (v i)) u).rd (reg i) = v i := fun u hu =>
        forEach_induct (P := fun u : State => u.rd (reg i) = v i) hu fun b hb u hu => by
          rw [State.wr_rd_other _ _ _ _ (fun e => hl (by rw [hreg _ _ e]; exact hb)), hu]
      exact this _ (State.wr_rd_same _ _ _)

theorem writeMap_rd {reg : Nat → Nat} (hreg : ∀ x y, reg x = reg y → x = y) (hi : i < 12) : (s.writeMap reg m).rd (reg i) = mapWord m i :=
  forEach_wr_rd (v := mapWord m) hreg (List.mem_range.mpr hi)

end

/-- Registers and what they are not: lines of memory and groups are as before. -/
structure LinkFrame (s t : State) : Prop where
  lines : t.lines = s.lines
  grp : t.grp = s.grp

theorem LinkFrame.refl (s : State) : LinkFrame s s := ⟨rfl, rfl⟩
theorem LinkFrame.trans (h : LinkFrame s t) (k : LinkFrame t u) : LinkFrame s u := ⟨k.lines.trans h.lines, k.grp.trans h.grp⟩
theorem LinkFrame.setF {a x : Nat} {f : Fld} (h : LinkFrame s t) : LinkFrame s (t.setF a f x) := ⟨h.lines, h.grp⟩
theorem LinkFrame.writeMap {reg : Nat → Nat} {m : List Nat} (h : LinkFrame s t) : LinkFrame s (t.writeMap reg m) := by
  rw [writeMap_frame]
  exact ⟨h.lines, h.grp⟩

section
variable {m : List Nat}

theorem lmapTx_inj (x y : Nat) (h : R.SEAM_LMAP_TX d k x = R.SEAM_LMAP_TX d k y) : x = y := by unfold R.SEAM_LMAP_TX at h; omega
theorem lmapRx_inj (x y : Nat) (h : R.SEAM_LMAP_RX d k x = R.SEAM_LMAP_RX d k y) : x = y := by unfold R.SEAM_LMAP_RX at h; omega

/-- Both maps of a direction written. -/
def State.mapped (s : State) (d k e j : Nat) (m : List Nat) : State :=
  (s.writeMap (fun i => R.SEAM_LMAP_TX d k i) m).writeMap (fun i => R.SEAM_LMAP_RX e j i) m

theorem setMap_eq (h : Ends d k e j) : s.setMap d k m =
    ((s.mapped d k e j m).setF (R.SEAM_STAT d k) F.SEAM_STAT_SPTX (spares m)).setF (R.SEAM_STAT e j) F.SEAM_STAT_SPRX (spares m) := by
  rw [State.setMap, h.far]
  rfl

theorem setMap_frame (h : Ends d k e j) : LinkFrame s (s.setMap d k m) := by
  rw [setMap_eq h]
  exact (LinkFrame.refl s).writeMap.writeMap.setF.setF

theorem lmap_ne_stat {i : Nat} (hi : i < 12) :
    R.SEAM_LMAP_TX d k i ≠ R.SEAM_STAT e j ∧ R.SEAM_LMAP_RX d k i ≠ R.SEAM_STAT e j := by
  unfold R.SEAM_LMAP_TX R.SEAM_LMAP_RX R.SEAM_STAT seamBase dieBase
  omega

theorem lmapTx_ne_rx {i x : Nat} (hi : i < 12) (hx : x < 12) : R.SEAM_LMAP_TX d k i ≠ R.SEAM_LMAP_RX e j x := by
  unfold R.SEAM_LMAP_TX R.SEAM_LMAP_RX seamBase dieBase
  omega

theorem setMap_rd (h : Ends d k e j) {a : Nat} (h1 : ∀ i, i < 12 → a ≠ R.SEAM_LMAP_TX d k i) (h2 : ∀ i, i < 12 → a ≠ R.SEAM_LMAP_RX e j i)
    (h3 : a ≠ R.SEAM_STAT d k) (h4 : a ≠ R.SEAM_STAT e j) : (s.setMap d k m).rd a = s.rd a := by
  rw [setMap_eq h, State.setF_rd_other _ _ _ _ _ h4, State.setF_rd_other _ _ _ _ _ h3, State.mapped, writeMap_other h2, writeMap_other h1]

theorem setMap_tx (h : Ends d k e j) {i : Nat} (hi : i < 12) : (s.setMap d k m).rd (R.SEAM_LMAP_TX d k i) = mapWord m i := by
  rw [setMap_eq h, State.setF_rd_other _ _ _ _ _ (lmap_ne_stat hi).1,
    State.setF_rd_other _ _ _ _ _ (lmap_ne_stat hi).1, State.mapped,
    writeMap_other fun x hx => lmapTx_ne_rx hi hx]
  exact writeMap_rd (reg := fun i => R.SEAM_LMAP_TX d k i) lmapTx_inj hi

theorem setMap_rx (h : Ends d k e j) {i : Nat} (hi : i < 12) : (s.setMap d k m).rd (R.SEAM_LMAP_RX e j i) = mapWord m i := by
  rw [setMap_eq h, State.setF_rd_other _ _ _ _ _ (lmap_ne_stat hi).2,
    State.setF_rd_other _ _ _ _ _ (lmap_ne_stat hi).2, State.mapped]
  exact writeMap_rd (reg := fun i => R.SEAM_LMAP_RX e j i) lmapRx_inj hi

end

/-! ### Which dies are present (R365) -/

theorem showAbsent_rd {d a : Nat} (h : a ≠ R.SEAM_DSTAT d) : (s.showAbsent d).rd a = s.rd a := State.setF_rd_other _ _ _ _ _ h

theorem noteFalls_eq (s : State) : ∃ x, s.noteFalls = { s with pcie := x } := ⟨_, rfl⟩

theorem noteFalls_rd (a : Nat) : s.noteFalls.rd a = s.rd a := by
  obtain ⟨x, hx⟩ := noteFalls_eq s
  rw [hx]
  rfl

theorem noteFalls_frame (h : LinkFrame s t) : LinkFrame s t.noteFalls := by
  obtain ⟨x, hx⟩ := noteFalls_eq t
  rw [hx]
  exact ⟨h.lines, h.grp⟩

/-- What publishing changes before the vectors are looked at: the isolated dies and their registers. -/
theorem publish_eq (s : State) : ∃ x, s.publish = (forEach (List.range 6) (fun d (u : State) => u.showAbsent d) { s with isolated := x }).noteFalls :=
  ⟨_, rfl⟩

theorem publish_rd {a : Nat} (h : ∀ d, d < 6 → a ≠ R.SEAM_DSTAT d) : s.publish.rd a = s.rd a := by
  obtain ⟨x, hx⟩ := publish_eq s
  rw [hx, noteFalls_rd]
  exact forEach_induct (P := fun u : State => u.rd a = s.rd a) rfl fun d hd u hu => by
    rw [showAbsent_rd (h d (List.mem_range.mp hd)), hu]

theorem publish_frame : LinkFrame s s.publish := by
  obtain ⟨x, hx⟩ := publish_eq s
  rw [hx]
  exact noteFalls_frame (forEach_induct (P := fun u : State => LinkFrame s u) ⟨rfl, rfl⟩ fun _ _ _ h => h.setF)

theorem seam_ne_dstat {x : Nat} (hk : k < 3) (hx : x < 0x1000) (n : Nat) : seamBase d k + x ≠ R.SEAM_DSTAT n := by
  unfold R.SEAM_DSTAT seamBase seamdBase dieBase
  omega

/-! ### A link that comes up (R359, R360) -/

/-- An end that comes up. -/
def State.upEnd (s : State) (e j : Nat) (fall degr : Bool) : State :=
  let u := ((s.setF (R.SEAM_STAT e j) F.SEAM_STAT_STATE 2).setF (R.SEAM_STAT e j) F.SEAM_STAT_FALLBK (b2n fall)).setF
    (R.SEAM_CAUSE e j) F.SEAM_CAUSE_UP 1
  if degr then u.setF (R.SEAM_CAUSE e j) F.SEAM_CAUSE_DEGR 1 else u

section
variable {fall degr : Bool}

theorem stat_ne_seamCause (d k : Nat) : R.SEAM_STAT d k ≠ R.SEAM_CAUSE d k := by unfold R.SEAM_STAT R.SEAM_CAUSE; omega

theorem upEnd_frame (h : LinkFrame s t) : LinkFrame s (t.upEnd e j fall degr) := by
  unfold State.upEnd
  dsimp only
  split
  · exact h.setF.setF.setF.setF
  · exact h.setF.setF.setF

theorem upEnd_rd {a : Nat} (h1 : a ≠ R.SEAM_STAT e j) (h2 : a ≠ R.SEAM_CAUSE e j) : (s.upEnd e j fall degr).rd a = s.rd a := by
  have h : (((s.setF (R.SEAM_STAT e j) F.SEAM_STAT_STATE 2).setF (R.SEAM_STAT e j) F.SEAM_STAT_FALLBK (b2n fall)).setF
      (R.SEAM_CAUSE e j) F.SEAM_CAUSE_UP 1).rd a = s.rd a := by
    rw [State.setF_rd_other _ _ _ _ _ h2, State.setF_rd_other _ _ _ _ _ h1, State.setF_rd_other _ _ _ _ _ h1]
  unfold State.upEnd
  dsimp only
  split
  · rw [State.setF_rd_other _ _ _ _ _ h2, h]
  · exact h

theorem upEnd_stat : (s.upEnd e j fall degr).link e j = 2 ∧ (s.upEnd e j fall degr).flag (R.SEAM_STAT e j) F.SEAM_STAT_FALLBK = fall := by
  have h (f : Fld) : (s.upEnd e j fall degr).fld (R.SEAM_STAT e j) f =
      ((s.setF (R.SEAM_STAT e j) F.SEAM_STAT_STATE 2).setF (R.SEAM_STAT e j) F.SEAM_STAT_FALLBK (b2n fall)).fld (R.SEAM_STAT e j) f := by
    unfold State.upEnd
    dsimp only
    split
    · rw [State.setF_fld_other _ _ _ _ _ _ (.inl (stat_ne_seamCause e j)), State.setF_fld_other _ _ _ _ _ _ (.inl (stat_ne_seamCause e j))]
    · rw [State.setF_fld_other _ _ _ _ _ _ (.inl (stat_ne_seamCause e j))]
  refine ⟨?_, ?_⟩
  · rw [State.link, h, State.setF_fld_other _ _ _ _ _ _ (.inr (by decide)), State.setF_fld_same _ _ _ _ (by decide)]
    rfl
  · rw [State.flag, h, State.setF_fld_same _ _ _ _ (by decide)]
    cases fall <;> rfl

theorem upEnd_cause : (s.upEnd e j fall degr).flag (R.SEAM_CAUSE e j) F.SEAM_CAUSE_UP = true := by
  unfold State.upEnd
  dsimp only
  split
  · rw [State.flag, State.setF_fld_other _ _ _ _ _ _ (.inr (by decide)), State.setF_fld_same _ _ _ _ (by decide)]
    rfl
  · rw [State.flag, State.setF_fld_same _ _ _ _ (by decide)]
    rfl

end

/-- Lanes are missing. -/
def degraded (r : Roles) (tx rx : BitVec 48) : Bool :=
  decide ((lanesOf tx).length < r.required + r.spare) || decide ((lanesOf rx).length < r.required + r.spare)

theorem adopt_of_holds {n x : Nat} (h : s.holdsRoles d = true) : s.adopt d n x = s := by
  rw [State.adopt, if_pos (by rw [h]; rfl)]

theorem linkUp_eq (h : Ends d k e j) (hd : s.holdsRoles d = true) (he : s.holdsRoles e = true) (tx rx : BitVec 48) (fall : Bool) :
    s.linkUp d k tx rx fall = (((((s.setMap d k (laneMap (s.roles d k) tx)).setMap e j (laneMap (s.roles d k) rx)).upEnd d k fall
      (degraded (s.roles d k) tx rx)).upEnd e j fall (degraded (s.roles d k) tx rx)).publish) := by
  unfold State.linkUp
  rw [h.far]
  dsimp only
  rw [adopt_of_holds hd, adopt_of_holds he, bothEnds_eq h]
  rfl

section
variable {rxd rxe : BitVec 48} {echo : Bool}

/-- A link in TRAIN whose dies run and hold the same role counts. -/
structure Trains (s : State) (d k e j : Nat) : Prop where
  ends : Ends d k e j
  runs : s.dieRuns d = true ∧ s.dieRuns e = true
  holds : s.holdsRoles d = true ∧ s.holdsRoles e = true
  same : s.roles d k = s.roles e j
  train : s.link d k = 1 ∧ s.link e j = 1

theorem exec_attemptEnd {d e : Fin 6} {k j : Fin 3} (h : Trains s d k e j) : exec (.attemptEnd d k rxd rxe echo) s =
    .next (if echo && decide ((s.roles d k).required ≤ (lanesOf rxd).length ∧ (s.roles d k).required ≤ (lanesOf rxe).length) then
      s.linkUp d k rxe rxd false else s.attemptFailed d k e j rxd rxe false) := by
  obtain ⟨hr1, hr2⟩ := h.runs
  obtain ⟨hh1, hh2⟩ := h.holds
  obtain ⟨ht1, ht2⟩ := h.train
  have hm : (s.holdsRoles d && s.holdsRoles e && s.roles d k != s.roles e j) = false := by
    rw [h.same, bne_self_eq_false, Bool.and_false]
  have hl : s.linkRoles d k e j = s.roles d k := by rw [State.linkRoles, if_pos hh1]
  show execAttemptEnd d k rxd rxe echo s = _
  unfold execAttemptEnd
  rw [h.ends.far]
  dsimp only
  have hs : (if s.link d k = 0 ∨ s.link e j ≠ 1 then s.train d k else s) = s := if_neg (by omega)
  rw [if_neg (by omega), hs, hr1, hr2, if_neg (by decide), hh1, hh2, if_neg (by decide)]
  rw [hh1, hh2] at hm
  rw [hm, hl, Bool.not_false, Bool.and_true]
  exact (apply_ite Host.Outcome.next _ _ _).symm

theorem attemptEnd_up {d e : Fin 6} {k j : Fin 3} (h : Trains s d k e j) (he : echo = true)
    (h1 : (s.roles d k).required ≤ (lanesOf rxd).length) (h2 : (s.roles d k).required ≤ (lanesOf rxe).length) :
    After (.attemptEnd d k rxd rxe echo) s (fun t => t.link d k = 2 ∧ t.link e j = 2 ∧
      t.flag (R.SEAM_CAUSE d k) F.SEAM_CAUSE_UP = true ∧ t.flag (R.SEAM_CAUSE e j) F.SEAM_CAUSE_UP = true ∧
      t.flag (R.SEAM_STAT d k) F.SEAM_STAT_FALLBK = false ∧ t.lines = s.lines ∧ t.grp = s.grp ∧
      ∀ i < 12, t.rd (R.SEAM_LMAP_TX d k i) = mapWord (laneMap (s.roles d k) rxe) i ∧
        t.rd (R.SEAM_LMAP_RX d k i) = mapWord (laneMap (s.roles d k) rxd) i) := by
  obtain ⟨hh1, hh2⟩ := h.holds
  have hx : exec (.attemptEnd d k rxd rxe echo) s = .next (s.linkUp d k rxe rxd false) := by
    rw [exec_attemptEnd h, if_pos (by simp [he, h1, h2])]
  rw [linkUp_eq h.ends hh1 hh2] at hx
  refine ⟨_, hx, ?_⟩
  have hp := h.ends.portLt
  have hp' := h.ends.portLt'
  generalize degraded (s.roles d k) rxe rxd = dg
  generalize hu : (s.setMap d k (laneMap (s.roles d k) rxe)).setMap e j (laneMap (s.roles d k) rxd) = u
  have hfr : LinkFrame s (((u.upEnd d k false dg).upEnd e j false dg).publish) := by
    refine LinkFrame.trans (upEnd_frame (upEnd_frame ?_)) publish_frame
    rw [← hu]
    exact (setMap_frame h.ends).trans (setMap_frame h.ends.symm)
  have hpub {n m x : Nat} (hm : m < 3) (hx : x < 0x1000) : (((u.upEnd d k false dg).upEnd e j false dg).publish).rd (seamBase n m + x) =
      ((u.upEnd d k false dg).upEnd e j false dg).rd (seamBase n m + x) := publish_rd fun n _ => seam_ne_dstat hm hx n
  have hnear {x : Nat} (hx : x < 0x1000) : (((u.upEnd d k false dg).upEnd e j false dg).publish).rd (seamBase d k + x) =
      (u.upEnd d k false dg).rd (seamBase d k + x) := (hpub hp hx).trans
    (upEnd_rd (seam_ne hx (by decide) hp hp' (.inl h.ends.ne)) (seam_ne hx (by decide) hp hp' (.inl h.ends.ne)))
  have hmap {x : Nat} (hx : x < 0x1000) (h1 : x ≠ 0x4) (h2 : x ≠ 0x70) : (u.upEnd d k false dg).rd (seamBase d k + x) = u.rd (seamBase d k + x) :=
    upEnd_rd (seam_ne hx (by decide) hp hp (.inr (.inr h1))) (seam_ne hx (by decide) hp hp (.inr (.inr h2)))
  obtain ⟨hst, hfb⟩ := upEnd_stat (s := u) (e := d) (j := k) (fall := false) (degr := dg)
  obtain ⟨hst', -⟩ := upEnd_stat (s := u.upEnd d k false dg) (e := e) (j := j) (fall := false) (degr := dg)
  refine ⟨(fld_congr (hnear (x := 0x4) (by decide)) _).trans hst, (fld_congr (hpub (x := 0x4) hp' (by decide)) _).trans hst',
    (flag_congr (hnear (x := 0x70) (by decide)) _).trans upEnd_cause, (flag_congr (hpub (x := 0x70) hp' (by decide)) _).trans upEnd_cause,
    (flag_congr (hnear (x := 0x4) (by decide)) _).trans hfb, hfr.lines, hfr.grp, fun i hi => ⟨?_, ?_⟩⟩
  · have htx : u.rd (R.SEAM_LMAP_TX d k i) = mapWord (laneMap (s.roles d k) rxe) i := by
      rw [← hu, setMap_rd h.ends.symm, setMap_tx h.ends hi]
      · intro x hx
        rw [R.SEAM_LMAP_TX, R.SEAM_LMAP_TX, Nat.add_assoc, Nat.add_assoc]
        exact seam_ne (a := 0x10 + i * 4) (b := 0x10 + x * 4) (by omega) (by omega) hp hp' (.inl h.ends.ne)
      · exact fun x hx => lmapTx_ne_rx hi hx
      · exact (lmap_ne_stat hi).1
      · exact (lmap_ne_stat hi).1
    refine Eq.trans ?_ htx
    rw [R.SEAM_LMAP_TX, Nat.add_assoc, hnear (by omega), hmap (by omega) (by omega) (by omega)]
  · have hrx : u.rd (R.SEAM_LMAP_RX d k i) = mapWord (laneMap (s.roles d k) rxd) i := by
      rw [← hu, setMap_rx h.ends.symm hi]
    refine Eq.trans ?_ hrx
    rw [R.SEAM_LMAP_RX, Nat.add_assoc, hnear (by omega), hmap (by omega) (by omega) (by omega)]

/-! ### An attempt that fails (R360) -/

theorem attemptEnd_fails {d e : Fin 6} {k j : Fin 3} (h : Trains s d k e j) (hn : s.fld (R.SEAM_STAT d k) F.SEAM_STAT_ATTEMPT < 3)
    (hf : echo = false ∨ (lanesOf rxd).length < (s.roles d k).required ∨ (lanesOf rxe).length < (s.roles d k).required) :
    After (.attemptEnd d k rxd rxe echo) s (fun t => t = { s with regs := t.regs, seam := t.seam } ∧
      SameRegs [R.SEAM_STAT d k, R.SEAM_STAT e j] s t ∧ t.link d k = 1 ∧ t.link e j = 1 ∧
      t.fld (R.SEAM_STAT d k) F.SEAM_STAT_ATTEMPT = s.fld (R.SEAM_STAT d k) F.SEAM_STAT_ATTEMPT + 1) := by
  have hx : exec (.attemptEnd d k rxd rxe echo) s = .next (s.attemptFailed d k e j rxd rxe false) := by
    rw [exec_attemptEnd h, if_neg]
    simp only [Bool.and_eq_true, decide_eq_true_eq]
    rintro ⟨he, h1, h2⟩
    rcases hf with hf | hf | hf
    · rw [he] at hf
      exact absurd hf nofun
    · omega
    · omega
  generalize hn0 : s.fld (R.SEAM_STAT d k) F.SEAM_STAT_ATTEMPT = n at hn ⊢
  have hf2 : s.attemptFailed d k e j rxd rxe false = ((((s.setSeam d k (fun x => { x with acc := x.acc &&& rxd, same := x.same && !false })).setSeam
      e j (fun x => { x with acc := x.acc &&& rxe, same := x.same && !false })).setF (R.SEAM_STAT d k) F.SEAM_STAT_ATTEMPT (n + 1)).setF
        (R.SEAM_STAT e j) F.SEAM_STAT_ATTEMPT (n + 1)) := by
    unfold State.attemptFailed
    dsimp only
    rw [setSeam_fld, setSeam_fld, hn0, if_pos hn, bothEnds_eq h.ends]
  obtain ⟨ht1, ht2⟩ := h.train
  have hne := stat_ne h.ends
  rw [hf2] at hx
  obtain ⟨hfr, hr⟩ := ((((OnlySeam.refl [R.SEAM_STAT d k, R.SEAM_STAT e j] s).setSeam (d := d) (k := k)
    (f := fun x => { x with acc := x.acc &&& rxd, same := x.same && !false })).setSeam (d := e) (k := j)
    (f := fun x => { x with acc := x.acc &&& rxe, same := x.same && !false })).setF (a := R.SEAM_STAT d k) (f := F.SEAM_STAT_ATTEMPT)
      (x := n + 1) (by simp)).setF (a := R.SEAM_STAT e j) (f := F.SEAM_STAT_ATTEMPT) (x := n + 1) (by simp)
  refine ⟨_, hx, hfr, hr, ?_, ?_, ?_⟩
  · rw [State.link, State.setF_fld_other _ _ _ _ _ _ (.inl hne), State.setF_fld_other _ _ _ _ _ _ (.inr (by decide)), setSeam_fld, setSeam_fld]
    exact ht1
  · rw [State.link, State.setF_fld_other _ _ _ _ _ _ (.inr (by decide)), State.setF_fld_other _ _ _ _ _ _ (.inl hne.symm), setSeam_fld, setSeam_fld]
    exact ht2
  · rw [State.setF_fld_other _ _ _ _ _ _ (.inl hne), State.setF_fld_same _ _ _ _ (by decide)]
    exact Nat.mod_eq_of_lt (show n + 1 < 4 by omega)

end

/-- Settles O29: an end's training (`trainEnd`), a link that comes up (`linkUp_eq`), and an attempt that fails. -/
theorem seamLinksTrainAndComeUp : Obligations.SeamLinksTrainAndComeUp := by
  intro s d e k j hf
  refine ⟨seamRetrain_trains hf, fun rxd rxe echo hd he hhd hhe hr hl hl' => ?_⟩
  have h : Trains s d k e j := ⟨ends_of_farEnd hf, ⟨hd, he⟩, ⟨hhd, hhe⟩, hr, ⟨hl, hl'⟩⟩
  exact ⟨attemptEnd_up h, fun hx hn => attemptEnd_fails h hn hx⟩

end Sys2Proof.Machine
end

section
/-! Synthesisers, interrupt lines and GPIO banks (09_fabric.md R317, R318, R330 to R333, R339). -/
namespace Sys2Proof.Machine
variable {s t : State} {d : Fin 6} {k : Fin 2} {i j : Fin 16} {b : Fin 4} {en level : Bool}

/-! ### Bits of fields -/

/-- A field set to what it holds changes nothing. -/
theorem Fld.set_get (f : Fld) (v : Word) : f.set v (f.get v) = v := by
  refine BitVec.eq_of_getLsbD_eq fun i hi => ?_
  rw [Fld.testBit_set]
  split
  · next h =>
    rw [Fld.testBit_get, Nat.add_sub_cancel' h.1, decide_eq_true (show i - f.lo < f.w by omega), decide_eq_true hi]
    rfl
  · rfl

theorem fld_lt (a : Nat) (f : Fld) : s.fld a f < 2 ^ f.w := Fld.get_lt f _

/-- A field of one bit that is set holds 1. -/
theorem fld_of_flag {a : Nat} {f : Fld} (hw : f.w = 1) (h : s.flag a f = true) : s.fld a f = 1 := by
  have hl := fld_lt (s := s) a f
  have hn : s.fld a f ≠ 0 := bne_iff_ne.1 h
  rw [hw] at hl
  omega

theorem bitOf_or (n x y : Nat) : bitOf (n ||| 2 ^ x) y = (bitOf n y || decide (y = x)) := by
  rw [bitOf, bitOf, Nat.testBit_or, Nat.testBit_two_pow, decide_eq_decide.2 (eq_comm (a := x))]

/-- A bit that is set, taken off. -/
theorem bitOf_sub {n x : Nat} (y : Nat) (h : bitOf n x = true) : bitOf (n - 2 ^ x) y = (bitOf n y && decide (y ≠ x)) := by
  have hodd : n / 2 ^ x % 2 = 1 := by simpa [bitOf, Nat.testBit_eq_decide_div_mod_eq] using h
  have hq : n / 2 ^ x = 2 * (n / 2 ^ x / 2) + 1 := by omega
  have hr := Nat.mod_lt n (Nat.two_pow_pos x)
  have hn : n = 2 ^ (x + 1) * (n / 2 ^ x / 2) + (2 ^ x + n % 2 ^ x) := by
    conv_lhs => rw [← Nat.div_add_mod n (2 ^ x), hq]
    ring
  generalize n / 2 ^ x / 2 = q at hn
  generalize n % 2 ^ x = r at hn hr
  have hd : n - 2 ^ x = 2 ^ (x + 1) * q + r := by omega
  have hp : 2 ^ (x + 1) = 2 ^ x + 2 ^ x := by ring
  rw [hd, hn, bitOf, bitOf, Nat.testBit_two_pow_mul_add _ (by omega), Nat.testBit_two_pow_mul_add _ (by omega)]
  rcases Nat.lt_trichotomy y x with hy | rfl | hy
  · simp [show y < x + 1 by omega, show y ≠ x by omega, Nat.testBit_two_pow_add_gt hy]
  · simp [Nat.testBit_two_pow_add_eq, Nat.testBit_lt_two_pow hr]
  · simp [show ¬ y < x + 1 by omega, show y ≠ x by omega]

theorem or_two_pow_lt {n x w : Nat} (hn : n < 2 ^ w) (hx : x < w) : n ||| 2 ^ x < 2 ^ w :=
  Nat.or_lt_two_pow hn (Nat.pow_lt_pow_right (by omega) hx)

/-- What a field keeps of a value that it has room for. -/
theorem setF_fld_of_lt {a n : Nat} {f : Fld} (hf : f.lo + f.w ≤ 32) (hn : n < 2 ^ f.w) : (s.setF a f n).fld a f = n := by
  rw [State.setF_fld_same _ _ _ _ hf, Nat.mod_eq_of_lt hn]

/-! ### Synthesisers -/

theorem fcsCtrl_ne_stat : R.FAB_FCS_CTRL d k ≠ R.FAB_FCS_STAT d k := by unfold R.FAB_FCS_CTRL R.FAB_FCS_STAT; omega
theorem fcsStat_ne_cause : R.FAB_FCS_STAT d k ≠ R.FAB_CAUSE d := by unfold R.FAB_FCS_STAT R.FAB_CAUSE; omega
theorem fabStat_ne_cause : R.FAB_STAT d ≠ R.FAB_CAUSE d := by unfold R.FAB_STAT R.FAB_CAUSE; omega

theorem setB_flag_same {a : Nat} {f : Fld} (x : Bool) (hf : f.lo + f.w ≤ 32) (hw : f.w = 1) : (s.setB a f x).flag a f = x := by
  rw [State.flag, State.setB, setF_fld_of_lt hf (by rw [hw]; cases x <;> decide)]
  cases x <;> rfl

theorem setB_flag_other {a c : Nat} {f e : Fld} (x : Bool) (h : c ≠ a) : (s.setB a f x).flag c e = s.flag c e :=
  flag_congr (State.setF_rd_other _ _ _ _ _ h) _

/-- EN written, and LOCKED dropped where EN changes. -/
def Enables (d : Fin 6) (k : Fin 2) (en : Bool) (s t : State) : Prop := t = { s with regs := t.regs } ∧
  SameRegs [R.FAB_FCS_CTRL d k, R.FAB_FCS_STAT d k] s t ∧ t.flag (R.FAB_FCS_CTRL d k) F.FAB_FCS_CTRL_EN = en ∧
  t.flag (R.FAB_FCS_STAT d k) F.FAB_FCS_STAT_LOCKED =
    (s.flag (R.FAB_FCS_STAT d k) F.FAB_FCS_STAT_LOCKED && s.flag (R.FAB_FCS_CTRL d k) F.FAB_FCS_CTRL_EN == en)

theorem setFcs_enables : Enables d k en s (s.setFcs d k en) := by
  have hctrl : (s.setB (R.FAB_FCS_CTRL d k) F.FAB_FCS_CTRL_EN en).flag (R.FAB_FCS_CTRL d k) F.FAB_FCS_CTRL_EN = en :=
    setB_flag_same en (by decide) rfl
  have hstat : (s.setB (R.FAB_FCS_CTRL d k) F.FAB_FCS_CTRL_EN en).flag (R.FAB_FCS_STAT d k) F.FAB_FCS_STAT_LOCKED =
      s.flag (R.FAB_FCS_STAT d k) F.FAB_FCS_STAT_LOCKED := setB_flag_other en fcsCtrl_ne_stat.symm
  have honly : OnlyRegs [R.FAB_FCS_CTRL d k, R.FAB_FCS_STAT d k] s (s.setB (R.FAB_FCS_CTRL d k) F.FAB_FCS_CTRL_EN en) :=
    (OnlyRegs.refl _ s).setF (by simp)
  by_cases h : s.flag (R.FAB_FCS_CTRL d k) F.FAB_FCS_CTRL_EN = en
  · rw [State.setFcs, if_pos h]
    exact ⟨honly.1, honly.2, hctrl, by rw [hstat, h]; simp⟩
  · rw [State.setFcs, if_neg h]
    have hboth := honly.setF (a := R.FAB_FCS_STAT d k) (f := F.FAB_FCS_STAT_LOCKED) (x := b2n false) (by simp)
    refine ⟨hboth.1, hboth.2, (setB_flag_other false fcsCtrl_ne_stat).trans hctrl, ?_⟩
    rw [setB_flag_same false (by decide) rfl, beq_false_of_ne h, Bool.and_false]

/-- A synthesiser locked, with the time it locked at. -/
def State.lockedAt (s : State) (d : Fin 6) (k : Fin 2) : State :=
  (s.raise (R.FAB_FCS_STAT d k) F.FAB_FCS_STAT_LOCKED).setCfg (fun c => { c with
    locks := (2 * d.val + k.val, s.now) :: c.locks.filter (fun e => e.1 != 2 * d.val + k.val) })

theorem setCfg_rd (f : Config11 → Config11) (a : Nat) : (s.setCfg f).rd a = s.rd a := rfl

theorem setF_setCfg_frame {a x : Nat} {f : Fld} {g : Config11 → Config11} : (s.setF a f x).setCfg g =
    { s with regs := ((s.setF a f x).setCfg g).regs, cfg := ((s.setF a f x).setCfg g).cfg } := rfl

theorem lockedAt_rd (a : Nat) : (s.lockedAt d k).rd a = (s.setF (R.FAB_FCS_STAT d k) F.FAB_FCS_STAT_LOCKED 1).rd a :=
  setCfg_rd _ a

theorem lockedAt_lookup : (s.lockedAt d k).cfg.locks.lookup (2 * d.val + k.val) = some s.now := List.lookup_cons_self

theorem exec_fcsLock_locks (hen : s.flag (R.FAB_FCS_CTRL d k) F.FAB_FCS_CTRL_EN = true) :
    exec (.fcsLock d k true) s =
      .next (if s.flag (R.FAB_FCS_STAT d k) F.FAB_FCS_STAT_LOCKED then s else s.lockedAt d k) := by
  show execFcsLock d k true s = _
  rw [execFcsLock, if_pos rfl, hen]
  cases s.flag (R.FAB_FCS_STAT d k) F.FAB_FCS_STAT_LOCKED <;> rfl

theorem fcsLock_locks (hen : s.flag (R.FAB_FCS_CTRL d k) F.FAB_FCS_CTRL_EN = true) :
    After (.fcsLock d k true) s (fun t => t = { s with regs := t.regs, cfg := t.cfg } ∧
      Writes [(R.FAB_FCS_STAT d k, [(F.FAB_FCS_STAT_LOCKED, 1)])] s t ∧
      (s.flag (R.FAB_FCS_STAT d k) F.FAB_FCS_STAT_LOCKED = false →
        t.cfg.locks.lookup (2 * d.val + k.val) = some s.now)) := by
  refine ⟨_, exec_fcsLock_locks hen, ?_⟩
  cases h : s.flag (R.FAB_FCS_STAT d k) F.FAB_FCS_STAT_LOCKED
  · rw [if_neg nofun]
    refine ⟨setF_setCfg_frame, ⟨?_, fun a ha => ?_⟩, fun _ => lockedAt_lookup⟩
    · rintro e (_ | ⟨_, ⟨⟩⟩)
      exact (lockedAt_rd _).trans (State.setF_rd_same ..)
    · exact (lockedAt_rd a).trans (State.setF_rd_other _ _ _ _ _ (by simpa using ha))
  · rw [if_pos rfl]
    refine ⟨rfl, ⟨?_, SameRegs.refl _ s⟩, nofun⟩
    rintro e (_ | ⟨_, ⟨⟩⟩)
    have h1 := Fld.set_get F.FAB_FCS_STAT_LOCKED (s.rd (R.FAB_FCS_STAT d k))
    rw [show F.FAB_FCS_STAT_LOCKED.get (s.rd (R.FAB_FCS_STAT d k)) = 1 from fld_of_flag rfl h] at h1
    exact h1.symm

theorem exec_fcsLock_loses (h : s.flag (R.FAB_FCS_STAT d k) F.FAB_FCS_STAT_LOCKED = true) : exec (.fcsLock d k false) s =
    .next ((s.setF (R.FAB_FCS_STAT d k) F.FAB_FCS_STAT_LOCKED 0).setF (R.FAB_CAUSE d) F.FAB_CAUSE_FCSLOCK 1) := by
  show execFcsLock d k false s = _
  rw [execFcsLock, h]
  rfl

theorem onlyWrites_setF_setF {a c x y : Nat} {f e : Fld} (h : a ≠ c) :
    OnlyWrites [(a, [(f, x)]), (c, [(e, y)])] s ((s.setF a f x).setF c e y) := by
  have ho : OnlyRegs [a, c] s ((s.setF a f x).setF c e y) := ((OnlyRegs.refl _ s).setF (by simp)).setF (by simp)
  refine ⟨ho.1, ?_, ho.2⟩
  rintro e (_ | ⟨_, _ | ⟨_, ⟨⟩⟩⟩)
  · exact (State.setF_rd_other _ _ _ _ _ h).trans (State.setF_rd_same ..)
  · exact (State.setF_rd_same ..).trans (congrArg (Fld.set _ · y) (State.setF_rd_other _ _ _ _ _ h.symm))

theorem fcsLock_loses (h : s.flag (R.FAB_FCS_STAT d k) F.FAB_FCS_STAT_LOCKED = true) :
    After (.fcsLock d k false) s (OnlyWrites
      [(R.FAB_FCS_STAT d k, [(F.FAB_FCS_STAT_LOCKED, 0)]), (R.FAB_CAUSE d, [(F.FAB_CAUSE_FCSLOCK, 1)])] s) :=
  ⟨_, exec_fcsLock_loses h, onlyWrites_setF_setF fcsStat_ne_cause⟩

/-! ### Interrupt lines -/

/-- The lines with one of them at a level. -/
def lineSet (n : Nat) (i : Fin 16) (level : Bool) : Nat :=
  if level then n ||| 2 ^ i.val else n - (if bitOf n i then 2 ^ i.val else 0)

theorem lineSet_lt {n : Nat} (h : n < 2 ^ 16) : lineSet n i level < 2 ^ 16 := by
  cases level
  · exact lt_of_le_of_lt (Nat.sub_le _ _) h
  · exact or_two_pow_lt h i.2

theorem bitOf_lineSet (n : Nat) : bitOf (lineSet n i level) j = if j = i then level else bitOf n j := by
  have hij : (j.val = i.val) = (j = i) := propext Fin.ext_iff.symm
  cases level
  · rw [lineSet, if_neg nofun]
    cases h : bitOf n i
    · rw [if_neg nofun, Nat.sub_zero]
      split
      · next hj => rw [hj, h]
      · rfl
    · rw [if_pos rfl, bitOf_sub _ h]
      by_cases hj : j = i <;> simp [hj, hij]
  · rw [lineSet, if_pos rfl, bitOf_or]
    by_cases hj : j = i <;> simp [hj, hij]

/-- What an edge of a line leaves: the line at its level. -/
def State.lineAt (s : State) (d : Fin 6) (i : Fin 16) (level : Bool) : State :=
  s.setF (R.FAB_STAT d) F.FAB_STAT_IRQ (lineSet (s.fld (R.FAB_STAT d) F.FAB_STAT_IRQ) i level)

/-- A rising edge: counted, and its cause set. -/
def State.lineRisen (s : State) (d : Fin 6) (i : Fin 16) : State :=
  (s.tally d (0xB0 + i.val) 1).setF (R.FAB_CAUSE d) F.FAB_CAUSE_IRQ (s.fld (R.FAB_CAUSE d) F.FAB_CAUSE_IRQ ||| 2 ^ i.val)

theorem exec_fabricIrqEdge (h : s.lineLive d i = true) : exec (.fabricIrqEdge d i level) s =
    .next (if level && !bitOf (s.fld (R.FAB_STAT d) F.FAB_STAT_IRQ) i then (s.lineAt d i level).lineRisen d i
      else s.lineAt d i level) := by
  show execFabricIrqEdge d i level s = _
  rw [execFabricIrqEdge, h]
  rfl

theorem lineAt_irq : (s.lineAt d i level).fld (R.FAB_STAT d) F.FAB_STAT_IRQ =
    lineSet (s.fld (R.FAB_STAT d) F.FAB_STAT_IRQ) i level :=
  setF_fld_of_lt (by decide) (lineSet_lt (fld_lt _ F.FAB_STAT_IRQ))

theorem lineAt_only : OnlyRegs [R.FAB_STAT d, R.FAB_CAUSE d] s (s.lineAt d i level) := (OnlyRegs.refl _ s).setF (by simp)

theorem lineAt_cause : (s.lineAt d i level).fld (R.FAB_CAUSE d) F.FAB_CAUSE_IRQ = s.fld (R.FAB_CAUSE d) F.FAB_CAUSE_IRQ :=
  State.setF_fld_other _ _ _ _ _ _ (.inl fabStat_ne_cause.symm)

theorem frame_setF_mon {a x : Nat} {f : Fld} (h : t = { s with regs := t.regs, mon := t.mon }) :
    t.setF a f x = { s with regs := (t.setF a f x).regs, mon := (t.setF a f x).mon } := by
  rw [State.setF, State.wr, h]

theorem lineRisen_spec : s.lineRisen d i = { s with regs := (s.lineRisen d i).regs, mon := (s.lineRisen d i).mon } ∧
    SameRegs [R.FAB_CAUSE d] s (s.lineRisen d i) ∧
    (s.lineRisen d i).fld (R.FAB_CAUSE d) F.FAB_CAUSE_IRQ = (s.fld (R.FAB_CAUSE d) F.FAB_CAUSE_IRQ ||| 2 ^ i.val) := by
  obtain ⟨m, hm⟩ := tally_eq s d (0xB0 + i.val) 1
  rw [State.lineRisen, hm]
  refine ⟨frame_setF_mon rfl, fun a ha => State.setF_rd_other _ _ _ _ _ (by simpa using ha), ?_⟩
  exact setF_fld_of_lt (by decide) (or_two_pow_lt (fld_lt _ F.FAB_CAUSE_IRQ) i.2)

theorem fabricIrqEdge_shows (h : s.lineLive d i = true) :
    After (.fabricIrqEdge d i level) s (fun t => t = { s with regs := t.regs, mon := t.mon } ∧
      SameRegs [R.FAB_STAT d, R.FAB_CAUSE d] s t ∧
      (∀ j : Fin 16, bitOf (t.fld (R.FAB_STAT d) F.FAB_STAT_IRQ) j =
        if j = i then level else bitOf (s.fld (R.FAB_STAT d) F.FAB_STAT_IRQ) j) ∧
      (∀ j : Fin 16, bitOf (t.fld (R.FAB_CAUSE d) F.FAB_CAUSE_IRQ) j =
        (bitOf (s.fld (R.FAB_CAUSE d) F.FAB_CAUSE_IRQ) j ||
          decide (j = i) && level && !bitOf (s.fld (R.FAB_STAT d) F.FAB_STAT_IRQ) i))) := by
  refine ⟨_, exec_fabricIrqEdge h, ?_⟩
  have honly := lineAt_only (s := s) (d := d) (i := i) (level := level)
  have hirq := lineAt_irq (s := s) (d := d) (i := i) (level := level)
  have hcause := lineAt_cause (s := s) (d := d) (i := i) (level := level)
  generalize s.lineAt d i level = u at honly hirq hcause
  cases hr : (level && !bitOf (s.fld (R.FAB_STAT d) F.FAB_STAT_IRQ) i)
  · rw [if_neg nofun]
    refine ⟨?_, honly.2, fun j => by rw [hirq, bitOf_lineSet], fun j => ?_⟩
    · have h1 := honly.1
      generalize u.regs = r at h1
      rw [h1]
    · rw [hcause, Bool.and_assoc, hr, Bool.and_false, Bool.or_false]
  · rw [if_pos rfl]
    obtain ⟨hframe, hsame, hset⟩ := lineRisen_spec (s := u) (d := d) (i := i)
    refine ⟨?_, honly.2.trans (hsame.mono (by simp)), fun j => ?_, fun j => ?_⟩
    · have h1 := honly.1
      generalize u.regs = r at h1
      rw [h1] at hframe ⊢
      exact hframe
    · rw [fld_congr (hsame _ (by simpa using fabStat_ne_cause)), hirq, bitOf_lineSet]
    · rw [hset, hcause, bitOf_or, Bool.and_assoc, hr, Bool.and_true]
      exact congrArg (_ || ·) (decide_eq_decide.2 Fin.ext_iff.symm)

/-! ### Banks -/

theorem mem_insertOnce_self (x : Nat) (l : List Nat) : x ∈ insertOnce x l := by
  induction l with
  | nil => exact List.mem_singleton_self x
  | cons y r ih =>
    rw [insertOnce]
    split
    · next h => exact h ▸ List.mem_cons_self
    · split
      · exact List.mem_cons_self
      · exact List.mem_cons_of_mem _ ih

/-- The bank's outputs return to high-Z, where they are released. -/
def Fabric.bankOff (b : Fin 4) (x : Fabric) : Fabric :=
  { x with bankZ := if x.outrel then insertOnce b.val x.bankZ else x.bankZ }

/-- The bank's supply no longer matches. -/
def State.bankLost (s : State) (d : Fin 6) (b : Fin 4) : State :=
  (s.setF (R.FAB_STAT d) F.FAB_STAT_BANKOK (s.fld (R.FAB_STAT d) F.FAB_STAT_BANKOK - 2 ^ b.val)).setF
    (R.FAB_CAUSE d) F.FAB_CAUSE_BANKV 1

theorem exec_bankSupplyChange (hb : s.bankUsed d b = true) (hok : bitOf (s.fld (R.FAB_STAT d) F.FAB_STAT_BANKOK) b = true) :
    exec (.bankSupplyChange d b) s = .next ((s.bankLost d b).modFab d (Fabric.bankOff b)) := by
  show execBankSupplyChange d b s = _
  rw [execBankSupplyChange, hb, hok]
  rfl

theorem modFab_fabric_same (f : Fabric → Fabric) : (s.modFab d f).fabric d = f (s.fabric d) := by
  show (s.fab.set d.val (f s.fab[d]))[d.val] = _
  rw [Vector.getElem_set_self]
  rfl

theorem modFab_rd (f : Fabric → Fabric) (a : Nat) : (s.modFab d f).rd a = s.rd a := rfl

theorem modFab_frame (f : Fabric → Fabric) (h : t = { s with regs := t.regs }) :
    t.modFab d f = { s with regs := (t.modFab d f).regs, fab := (t.modFab d f).fab } := by
  rw [State.modFab, h]

theorem fabric_of_frame (h : t = { s with regs := t.regs }) : t.fabric d = s.fabric d := by
  have h1 : t.fab = s.fab := (congrArg State.fab h :)
  rw [State.fabric, State.fabric, h1]

theorem bitOf_bank (n : Nat) (j b : Fin 4) (h : bitOf n b = true) : bitOf (n - 2 ^ b.val) j = (bitOf n j && decide (j ≠ b)) := by
  rw [bitOf_sub _ h, decide_eq_decide.2 (show j.val ≠ b.val ↔ j ≠ b from Fin.val_ne_iff)]

theorem bankLost_spec : OnlyRegs [R.FAB_STAT d, R.FAB_CAUSE d] s (s.bankLost d b) ∧
    (s.bankLost d b).rd (R.FAB_CAUSE d) = F.FAB_CAUSE_BANKV.set (s.rd (R.FAB_CAUSE d)) 1 ∧
    (s.bankLost d b).fld (R.FAB_STAT d) F.FAB_STAT_BANKOK = s.fld (R.FAB_STAT d) F.FAB_STAT_BANKOK - 2 ^ b.val := by
  have hne := fabStat_ne_cause (d := d)
  rw [State.bankLost]
  generalize R.FAB_STAT d = a at hne ⊢
  generalize R.FAB_CAUSE d = c at hne ⊢
  refine ⟨((OnlyRegs.refl _ s).setF (by simp)).setF (by simp), ?_, ?_⟩
  · exact (State.setF_rd_same ..).trans (congrArg (Fld.set _ · 1) (State.setF_rd_other _ _ _ _ _ hne.symm))
  · refine (State.setF_fld_other _ _ _ _ _ _ (.inl hne)).trans (setF_fld_of_lt (by decide) ?_)
    exact lt_of_le_of_lt (Nat.sub_le _ _) (fld_lt _ F.FAB_STAT_BANKOK)

theorem bankSupplyChange_lost (hb : s.bankUsed d b = true) (hok : bitOf (s.fld (R.FAB_STAT d) F.FAB_STAT_BANKOK) b = true) :
    After (.bankSupplyChange d b) s (fun t => t = { s with regs := t.regs, fab := t.fab } ∧
      SameRegs [R.FAB_STAT d, R.FAB_CAUSE d] s t ∧
      t.rd (R.FAB_CAUSE d) = F.FAB_CAUSE_BANKV.set (s.rd (R.FAB_CAUSE d)) 1 ∧
      (∀ j : Fin 4, bitOf (t.fld (R.FAB_STAT d) F.FAB_STAT_BANKOK) j =
        (bitOf (s.fld (R.FAB_STAT d) F.FAB_STAT_BANKOK) j && decide (j ≠ b))) ∧
      ((s.fabric d).outrel = true → ∀ pin, t.gpioOff d b pin = true)) := by
  refine ⟨_, exec_bankSupplyChange hb hok, ?_⟩
  obtain ⟨honly, hcause, hbank⟩ := bankLost_spec (s := s) (d := d) (b := b)
  generalize s.bankLost d b = u at honly hcause hbank
  have hsame : ∀ a, (u.modFab d (Fabric.bankOff b)).rd a = u.rd a := modFab_rd _
  have hfab := fabric_of_frame (d := d) honly.1
  have hnew := modFab_fabric_same (s := u) (d := d) (Fabric.bankOff b)
  have hframe := modFab_frame (d := d) (Fabric.bankOff b) honly.1
  rw [hfab] at hnew
  generalize u.modFab d (Fabric.bankOff b) = v at hsame hnew hframe
  refine ⟨hframe, fun a ha => (hsame a).trans (honly.2 a ha), (hsame _).trans hcause, fun j => ?_, fun hout pin => ?_⟩
  · rw [fld_congr (hsame _), hbank, bitOf_bank _ _ _ hok]
  · rw [State.gpioOff, hnew, Fabric.bankOff, if_pos hout]
    have hmem := mem_insertOnce_self b.val (s.fabric d).bankZ
    simp [hmem]

theorem bankokRise_shows (hb : s.bankUsed d b = true) : After (.bankokRise d b) s (fun t => t = { s with regs := t.regs } ∧
    SameRegs [R.FAB_STAT d] s t ∧ ∀ j : Fin 4, bitOf (t.fld (R.FAB_STAT d) F.FAB_STAT_BANKOK) j =
      (bitOf (s.fld (R.FAB_STAT d) F.FAB_STAT_BANKOK) j || decide (j = b))) := by
  have ho : OnlyRegs [R.FAB_STAT d] s (s.setF (R.FAB_STAT d) F.FAB_STAT_BANKOK
      (s.fld (R.FAB_STAT d) F.FAB_STAT_BANKOK ||| 2 ^ b.val)) := (OnlyRegs.refl _ s).setF (by simp)
  refine ⟨_, if_pos hb, ho.1, ho.2, fun j => ?_⟩
  rw [setF_fld_of_lt (by decide) (or_two_pow_lt (fld_lt _ F.FAB_STAT_BANKOK) b.2), bitOf_or]
  exact congrArg (_ || ·) (decide_eq_decide.2 Fin.ext_iff.symm)

/-- Settles O31: each command of the synthesisers, the interrupt lines and the banks by the fields it writes. -/
theorem synthesisersLinesAndBanks : Obligations.SynthesisersLinesAndBanks := by
  intro s d k i b en level
  refine ⟨⟨_, rfl, setFcs_enables⟩, fcsLock_locks, fcsLock_loses, fabricIrqEdge_shows, fun h => ?_, bankSupplyChange_lost,
    bankokRise_shows, _, rfl, rfl, fun pin => rfl⟩
  exact if_pos (by rw [h]; rfl)

end Sys2Proof.Machine
end

section
/-! An edge of a global net that delivers a mask bit of a site the device does not have (05_fail_capture.md R161; 09_fabric.md R315,
R337; 11_configuration.md R399). -/
namespace Sys2Proof.Machine

/-- The number whose bit of the site masks of die 0 would stand at bit 0 of CFG_MDFENCE of die 0. -/
def straySite : Nat := 32 * ((R.CFG_MDFENCE 0 - R.FCD_SMASK 0 0) / 4)

/-- Die 0 runs; net 0 is clocked by its logic; region 0, where the user flags of group 0 come from, lies in meadow 0, which is not
fenced; and a mask bit of `straySite` is on its way. -/
def strayMaskBit : State :=
  (({ State.reset with cfgUp := State.reset.cfgUp.set 0 true } : State).modFab 0 (fun x => { x with
    sets := { FabricSets.none with net := [(0, .logic 40)] }
    meadows := [⟨true, 1, 0⟩] })).modC 0 (fun c => { c with maskTravel := [(straySite, 0)] })

/-- The user flags of group 0 after a command. -/
def flagsAfter (c : Instr) (s : State) : List (Nat × BitVec 8) := match exec c s with | .next t => (t.g 0).uf | _ => []

theorem strayMaskBit_edge : strayMaskBit.netEdge 0 0 = some 0 ∧ strayMaskBit.fdFenced 0 = false := by decide +kernel

theorem strayMaskBit_flags : flagsAfter (.globalNetRisingEdge 0 0 true [(0, 5)] [] [] []) strayMaskBit = [] := by decide +kernel

theorem ufChange_uf (x : Group) (now : Nat) (c : Nat × BitVec 8) : (x.ufChange now c).uf ≠ [] := by
  simp [Group.ufChange]

/-- Refutes O32: what falls due before the edge may write any register (`strayMaskBit`: the bit of a site the device does not have
fences the meadow of the group's user flags), so that flags that were not fenced before the edge are fenced at it and do not
change. -/
theorem not_globalNetEdgesClockTheLogic : ¬ Obligations.GlobalNetEdgesClockTheLogic := by
  intro h
  obtain ⟨hedge, hfenced⟩ := strayMaskBit_edge
  obtain ⟨-, -, -, -, -, hflags⟩ := (h strayMaskBit 0 0).2 0 hedge
  obtain ⟨t, ht, hg⟩ := hflags 0 5 0 rfl hfenced
  have hnone := strayMaskBit_flags
  rw [flagsAfter, ht] at hnone
  exact ufChange_uf _ _ _ ((congrArg Group.uf hg).symm.trans hnone)

end Sys2Proof.Machine
end

section
/-! A request at the target side of a fabric promenade port that nobody waits for any more (09_fabric.md R340, R345). -/
namespace Sys2Proof.Machine

/-- A write of one beat in flight in the fabric, of which nobody awaits the answer. -/
def orphan : FabReq := ⟨nobody, 0, 0, 1, true, false, [], false⟩

/-- The write is in flight at port 0 of die 0, whose clock is the fabric's own logic. -/
def orphanedWrite : State :=
  (State.reset.modFab 0 (fun x => { x with sets := { FabricSets.none with net := [(32, .logic 40)] } })).setFp 0 0
    { FabPort.reset with tgt := [orphan] }

/-- The answers that port 0 of die 0 has for requesters after a command. -/
def answersAfter (c : Instr) (s : State) : List (FabReq × Resp × List Nat) :=
  match exec c s with | .next t => (t.fp 0 0).tgtDone | _ => []

theorem orphanedWrite_edge : orphanedWrite.portEdge 0 0 = some 0 ∧ ((orphanedWrite.at_ 0).fp 0 0).tgt = [orphan] := by decide +kernel

theorem orphanedWrite_answers : answersAfter (.portWrsp 0 0 .target 0 0) orphanedWrite = [] := by decide +kernel

theorem fp_setFp {s : State} {d : Fin 6} {p : Fin 16} (x : FabPort) : (s.setFp d p x).fp d p = x := by
  unfold State.setFp State.fp
  simp

/-- Refutes O33: the answer to a request of which nobody awaits the answer (`orphanedWrite`) is not kept for its requester. -/
theorem not_fabricPortsCarryTransfers : ¬ Obligations.FabricPortsCarryTransfers := by
  intro h
  obtain ⟨hedge, htgt⟩ := orphanedWrite_edge
  obtain ⟨-, -, -, -, -, -, hends, -⟩ := (h orphanedWrite 0 0 ⟨0, 0, 0, false, false⟩ 0 0 0 0 false []).2 0 hedge
  obtain ⟨-, hwrsp, -⟩ := hends orphan [] .ok htgt rfl rfl
  obtain ⟨t, ht, hend⟩ := hwrsp rfl
  have hnone := orphanedWrite_answers
  rw [answersAfter, ht] at hnone
  have hkept : (t.fp 0 0).tgtDone = ((orphanedWrite.at_ 0).fp 0 0).tgtDone ++ [(orphan, .ok, [])] := by rw [hend, fp_setFp]
  exact List.append_ne_nil_of_right_ne_nil _ (List.cons_ne_nil _ _) (hkept.symm.trans hnone)

end Sys2Proof.Machine
end

section
/-! The settings that a die's frames choose, read again (09_fabric.md R328, R340); and a double flip of a settings frame
(11_configuration.md R405). -/
namespace Sys2Proof.Machine
variable {s t : State} {d e : Fin 6}

/-! ### What reading the settings again changes -/

theorem setF_fabric (a x : Nat) (f : Fld) (e : Fin 6) : (s.setF a f x).fabric e = s.fabric e := rfl

theorem regsFab_setF {a x : Nat} {c : Fld} (h : ∃ r f, t = { s with regs := r, fab := f }) :
    ∃ r f, t.setF a c x = { s with regs := r, fab := f } := by
  obtain ⟨r, f, rfl⟩ := h
  exact ⟨_, _, rfl⟩

/-- Only registers and a die's settings differ, and of the registers only the state of its promenade ports. -/
structure PortsOnly (d : Fin 6) (s t : State) : Prop where
  frame : ∃ r f, t = { s with regs := r, fab := f }
  sets : ∀ e, t.fabric e = { s.fabric e with sets := (t.fabric e).sets }
  others : ∀ e, e ≠ d → t.fabric e = s.fabric e
  rd : ∀ a, (∀ p, p < 16 → a ≠ R.FAB_PORT_STAT d p) → t.rd a = s.rd a

namespace PortsOnly

theorem refl (d : Fin 6) (s : State) : PortsOnly d s s := ⟨⟨_, _, rfl⟩, fun _ => rfl, fun _ _ => rfl, fun _ _ => rfl⟩

theorem setB {p : Nat} {f : Fld} {x : Bool} (hp : p < 16) (h : PortsOnly d s t) : PortsOnly d s (t.setB (R.FAB_PORT_STAT d p) f x) := by
  have hfab : ∀ e, (t.setB (R.FAB_PORT_STAT d p) f x).fabric e = t.fabric e := fun e => setF_fabric ..
  refine ⟨regsFab_setF h.frame, fun e => ?_, fun e he => (hfab e).trans (h.others e he),
    fun a ha => (State.setF_rd_other _ _ _ _ _ (ha p hp)).trans (h.rd a ha)⟩
  rw [hfab]
  exact h.sets e

theorem modSets {x : FabricSets} (h : PortsOnly d s t) : PortsOnly d s (t.modFab d (fun y => { y with sets := x })) := by
  have hself := modFab_fabric_same (s := t) (d := d) (fun y => { y with sets := x })
  have hother : ∀ e, e ≠ d → (t.modFab d (fun y => { y with sets := x })).fabric e = t.fabric e := fun e he => by
    show (t.fab.set d.val _)[e.val] = _
    rw [Vector.getElem_set_ne _ _ fun k => he (Fin.ext k.symm)]
    rfl
  refine ⟨?_, fun e => ?_, fun e he => (hother e he).trans (h.others e he), h.rd⟩
  · obtain ⟨r, f, rfl⟩ := h.frame
    exact ⟨_, _, rfl⟩
  · by_cases he : e = d
    · subst he
      rw [hself, h.sets]
    · rw [hother e he]
      exact h.sets e

end PortsOnly

theorem showPorts_only (h : PortsOnly d s t) : PortsOnly d s (t.showPorts d) := by
  rw [State.showPorts]
  exact forEach_induct h fun p hp u hu => hu.setB (List.mem_range.1 hp)

/-- The settings and the port sides, before the ports' ABSENT is shown. -/
def State.setsRead (s : State) (d : Fin 6) : State :=
  let sets := Config.fabricSets ((s.fabric d).frames.filter (fun e => [1, 3, 4, 6].contains (frameAddr e.1).typ))
  forEach (List.range 16) (fun p s =>
    let r := (sets.port.lookup p).getD (false, false, 32)
    (s.setB (R.FAB_PORT_STAT d p) F.FAB_PORT_STAT_INIT r.1).setB (R.FAB_PORT_STAT d p) F.FAB_PORT_STAT_TGT r.2.1)
    (s.modFab d (fun x => { x with sets := sets }))

theorem readSets_eq : s.readSets d = (s.setsRead d).showPorts d := rfl

theorem setsRead_only : PortsOnly d s (s.setsRead d) :=
  forEach_induct (PortsOnly.refl d s).modSets fun _ hp _ hu => (hu.setB (List.mem_range.1 hp)).setB (List.mem_range.1 hp)

theorem readSets_only : PortsOnly d s (s.readSets d) := by
  rw [readSets_eq]
  exact showPorts_only setsRead_only

/-! ### The first port of a die whose logic is not clocked yet -/

theorem portStat_ne_fabStat (p : Nat) : R.FAB_STAT d ≠ R.FAB_PORT_STAT d p := by unfold R.FAB_STAT R.FAB_PORT_STAT; omega

theorem fabPortStat_inj {p q : Nat} (h : p ≠ q) : R.FAB_PORT_STAT d p ≠ R.FAB_PORT_STAT d q := by unfold R.FAB_PORT_STAT; omega

theorem regionWren_low (r : Nat) (h : s.flag (R.FAB_STAT d) F.FAB_STAT_WREN = false) : s.regionWren d r = false := by
  rw [State.regionWren, h, Bool.false_and]

/-- Before WREN the target side of a port is absent. -/
theorem showPorts_absent (h : s.flag (R.FAB_STAT d) F.FAB_STAT_WREN = false) :
    (s.showPorts d).flag (R.FAB_PORT_STAT d 0) F.FAB_PORT_STAT_ABSENT = true := by
  rw [State.showPorts, show List.range 16 = 0 :: List.range' 1 15 from rfl, forEach_cons]
  refine forEach_induct (P := fun u : State => u.flag (R.FAB_PORT_STAT d 0) F.FAB_PORT_STAT_ABSENT = true) ?_ fun p hp u hu => ?_
  · rw [regionWren_low _ h, Bool.not_false, Bool.or_true]
    exact setB_flag_same true (by decide) rfl
  · rw [setB_flag_other _ (fabPortStat_inj (show 0 ≠ p from fun h0 => by simp [← h0] at hp))]
    exact hu

theorem readSets_absent (h : s.flag (R.FAB_STAT d) F.FAB_STAT_WREN = false) :
    (s.readSets d).flag (R.FAB_PORT_STAT d 0) F.FAB_PORT_STAT_ABSENT = true := by
  refine showPorts_absent ((flag_congr ?_ _).trans h)
  exact setsRead_only.rd _ fun p _ => portStat_ne_fabStat p

/-! ### A double flip of a settings frame -/

/-- A word of a frame with two flips, of a die that is not clocked: whatever the settings are, its first port shows ABSENT. -/
theorem scrubWord_absent {fa w flip : Nat} (hbad : (s.fabric d).badWords = [])
    (h0 : weight72 flip ≠ 0) (h1 : weight72 flip ≠ 1) (ht : (frameAddr fa).typ ≠ 0)
    (hw : s.flag (R.FAB_STAT d) F.FAB_STAT_WREN = false) :
    (s.scrubWord d fa w flip).flag (R.FAB_PORT_STAT d 0) F.FAB_PORT_STAT_ABSENT = true := by
  rw [State.scrubWord, hbad, List.contains_nil, if_neg (by simpa using h0), if_neg (by simpa using h1)]
  extract_lets first s1 s2 s3 s4
  have hs1 : s1.rd (R.FAB_STAT d) = s.rd (R.FAB_STAT d) := by
    refine (State.setF_rd_other _ _ _ _ _ ?_).trans (State.setF_rd_other _ _ _ _ _ ?_)
    · unfold R.FAB_STAT R.CFG_CAUSE fabBase cfgBase; omega
    · unfold R.FAB_STAT R.CFG_SCRUB_MBE fabBase cfgBase; omega
  have hs2 : s2.rd (R.FAB_STAT d) = s1.rd (R.FAB_STAT d) := by
    unfold s2
    split
    · exact State.wr_rd_other _ _ _ _ (by unfold R.FAB_STAT R.CFG_SCRUB_MBEADDR fabBase cfgBase; omega)
    · rfl
  have hs3 : s3.rd (R.FAB_STAT d) = s2.rd (R.FAB_STAT d) := modFab_rd _ _
  have hs4 : s4.flag (R.FAB_PORT_STAT d 0) F.FAB_PORT_STAT_ABSENT = true := by
    unfold s4
    rw [if_neg ht]
    exact readSets_absent ((flag_congr (hs3.trans (hs2.trans hs1)) _).trans hw)
  generalize s4 = u at hs4 ⊢
  split
  · split
    · split
      · exact hs4
      · exact (flag_congr (setCfg_rd _ _) _).trans hs4
    · exact hs4
  · exact hs4

/-- The first frame of the settings of the hampers of region 0 of die 0. -/
def settingsFrame : Word := 0x100000

/-- Die 0 is scrubbed, its logic is not clocked, and its port 0 does not show that it is absent. -/
def shownPort : State := (State.reset.setF (R.CFG_SCRUB_CTRL 0) F.CFG_SCRUB_CTRL_EN 1).setF (R.FAB_PORT_STAT 0 0) F.FAB_PORT_STAT_ABSENT 0

theorem shownPort_scrubbed : shownPort.power.slept = none ∧ shownPort.flag (R.CFG_SCRUB_CTRL 0) F.CFG_SCRUB_CTRL_EN = true ∧
    shownPort.flag (R.CFG_SCRUB_CTRL 0) F.CFG_SCRUB_CTRL_MBEFENCE = false ∧ addrValid settingsFrame.toNat = true ∧
    (frameAddr settingsFrame.toNat).die = 0 ∧ checkedType (frameAddr settingsFrame.toNat).typ = true ∧ shownPort.loading 0 = false ∧
    shownPort.meadowOf 0 (frameAddr settingsFrame.toNat).region = none ∧ (shownPort.fabric 0).badWords = [] := by decide +kernel

theorem shownPort_port : shownPort.flag (R.FAB_STAT 0) F.FAB_STAT_WREN = false ∧
    shownPort.flag (R.FAB_PORT_STAT 0 0) F.FAB_PORT_STAT_ABSENT = false ∧ (frameAddr settingsFrame.toNat).typ ≠ 0 := by decide +kernel

theorem scrubWord_clean {fa w : Nat} (hbad : (s.fabric d).badWords = []) : s.scrubWord d fa w 0 = s := by
  rw [State.scrubWord, hbad]
  exact if_pos rfl

theorem exec_scrubFrame {fa : Word} {flips : List (Nat × BitVec 72)} (hp : s.power.slept = none)
    (hen : s.flag (R.CFG_SCRUB_CTRL d) F.CFG_SCRUB_CTRL_EN = true) (hval : addrValid fa.toNat = true)
    (hdie : (frameAddr fa.toNat).die = d) (hty : checkedType (frameAddr fa.toNat).typ = true) (hl : s.loading d = false)
    (hm : s.meadowOf d (frameAddr fa.toNat).region = none) : exec (.scrubFrame d fa flips false) s =
      .next (forEach (List.range 72) (fun w s => s.scrubWord d fa.toNat w
        (flips.foldl (fun acc e => if e.1 = w then acc ^^^ e.2.toNat else acc) 0)) s) := by
  show execScrubFrame d fa flips false s = _
  simp [execScrubFrame, hp, hen, hval, hdie, hty, hl, hm]

theorem forEach_range_succ {σ : Type} (n : Nat) (f : Nat → σ → σ) (x : σ) :
    forEach (List.range (n + 1)) f x = f n (forEach (List.range n) f x) := by
  rw [forEach, List.range_succ, List.foldl_append]
  rfl

theorem forEach_range_last {σ : Type} (n : Nat) {f : Nat → σ → σ} {x : σ} (h : ∀ a, a < n → f a x = x) :
    forEach (List.range (n + 1)) f x = f n x := by
  rw [forEach_range_succ, forEach_id fun a ha => h a (List.mem_range.1 ha)]

/-- Flips in the last word of a frame. -/
theorem scrubWords_last {fa : Nat} {flip : BitVec 72} (hbad : (s.fabric d).badWords = []) :
    forEach (List.range 72) (fun w s => s.scrubWord d fa w
      ([(71, flip)].foldl (fun acc e => if e.1 = w then acc ^^^ e.2.toNat else acc) 0)) s =
    s.scrubWord d fa 71 ([(71, flip)].foldl (fun acc e => if e.1 = 71 then acc ^^^ e.2.toNat else acc) 0) := by
  refine forEach_range_last 71 fun w hw => ?_
  rw [List.foldl_cons, List.foldl_nil, if_neg hw.ne']
  exact scrubWord_clean hbad

/-- Refutes O37: after a double flip of a frame that holds settings they are read again, and the state of the die's promenade
ports is shown again, beside the registers of the scrubber (`shownPort`). -/
theorem not_meadowFencesAndScrubbing : ¬ Obligations.MeadowFencesAndScrubbing := by
  intro h
  obtain ⟨hp, hen, hmbe, hval, hdie, hty, hl, hm, hbad⟩ := shownPort_scrubbed
  obtain ⟨hwren, hshown, htyp⟩ := shownPort_port
  obtain ⟨-, -, -, hscrub, -⟩ := h shownPort 0 0
  obtain ⟨-, -, hdouble⟩ := hscrub settingsFrame 71 3 (by decide) hp hen hmbe hval hdie hty hl hm (by rw [hbad]; simp)
  obtain ⟨t, ht, -, hsame, -⟩ := hdouble (by decide)
  have hexec := exec_scrubFrame (s := shownPort) (d := 0) (fa := settingsFrame) (flips := [(71, 3)]) hp hen hval hdie hty hl hm
  rw [scrubWords_last hbad] at hexec
  have habsent := scrubWord_absent (s := shownPort) (d := 0) (fa := settingsFrame.toNat) (w := 71) (flip := 3) hbad
    (by decide) (by decide) htyp hwren
  rw [show shownPort.scrubWord 0 settingsFrame.toNat 71 3 = t from Host.Outcome.next.inj (hexec.symm.trans ht)] at habsent
  have hkept := flag_congr (hsame (R.FAB_PORT_STAT 0 0) (by decide)) F.FAB_PORT_STAT_ABSENT
  exact Bool.noConfusion (hshown.symm.trans (hkept.symm.trans habsent))

end Sys2Proof.Machine
end

section
/-! A cached load that finds the L1 data cache of its core full (15_control_cores_debug.md R496). -/
namespace Sys2Proof.Machine

/-- Core 0 runs, its PC at a load of x1 from address 0: its L1 instruction cache and the L2 hold line 0, and its L1 data cache the lines
named. -/
def loading (bits : Nat) (lines : List Nat) : State :=
  let s := ((State.reset.setF (R.CC_CTRL 0) F.CC_CTRL_RUN 1).setF (R.CC_STAT 0) F.CC_STAT_STATE 1).setF (R.CC_CWIN 0) F.CC_CWIN_SIZE 1
  ({ s with
    power := { s.power with up := true }
    dieDown := Vector.replicate 6 false }.setL2 0 ⟨[(0, (9, false))], none⟩).modCr 0
    (fun c => { c with l1i := [(0, BitVec.ofNat 512 bits)], pc := 0, l1d := lines })

/-- The L1 data cache is full of another line. -/
def fullDataCache : State := loading 0x00013083 (List.replicate 1024 1)

/-- The L1 instruction cache of core m holds line l, at an address that the core may execute. -/
def State.fetchHeld (s : State) (m : Fin 12) (a : Nat) (l : Line512) : Prop :=
  ¬ (2 ^ 40 ≤ a ∨ (!(s.cr m).pmpAllows (s.cr m).machine 2 a) = true) ∧ s.cached (m.val / 2) a = true ∧
    Sparse.find (s.cr m).l1i (a / 64) = some l

theorem fetchHalf_held {s : State} {m : Fin 12} {a : Nat} {l : Line512} (env : G6Env) (h : s.fetchHeld m a l) :
    s.fetchHalf m a env = (.ok (bitsOf l.toNat (8 * (a % 64)) 16), s) := by
  obtain ⟨hrange, hcached, hline⟩ := h
  rw [State.fetchHalf, if_neg hrange, if_pos hcached, hline]

/-- The fetch of an instruction of four bytes at address 0. -/
theorem fetchRv_held {s : State} {m : Fin 12} {l : Line512} {envs : List G6Env} (hpc : (s.cr m).pc = 0) (h0 : s.fetchHeld m 0 l)
    (h2 : s.fetchHeld m 2 l) (h4 : bitsOf l.toNat 0 16 % 4 = 3) :
    s.fetchRv m envs = (.ok (bitsOf l.toNat 0 16 + 65536 * bitsOf l.toNat 16 16), s) := by
  have hlo : ∀ env, s.fetchHalf m 0 env = (.ok (bitsOf l.toNat 0 16), s) := fun env => fetchHalf_held env h0
  have hhi : ∀ env, s.fetchHalf m 2 env = (.ok (bitsOf l.toNat 16 16), s) := fun env => fetchHalf_held env h2
  simp [State.fetchRv, hpc, hlo, hhi, h4]

theorem fullDataCache_runs : fullDataCache.coreRuns 0 = true := by decide +kernel

theorem fullDataCache_ready : (fullDataCache.cr 0).waiting = none ∧ (fullDataCache.cr 0).haltPend = none ∧
    (fullDataCache.cr 0).stepping = false ∧ fullDataCache.irqTaken 0 = none ∧
    fullDataCache.bpHit 0 F.DBG_BP_CTRL_X (fullDataCache.cr 0).pc.toNat = none := by decide +kernel

/-- The line that starts with the load. -/
def loadLine : Line512 := 0x00013083

theorem loadLine_bits : bitsOf loadLine.toNat 0 16 = 0x3083 ∧ bitsOf loadLine.toNat 16 16 = 1 := by decide +kernel

theorem fullDataCache_held : fullDataCache.fetchHeld 0 0 loadLine ∧ fullDataCache.fetchHeld 0 2 loadLine := by
  unfold State.fetchHeld
  decide +kernel

theorem fullDataCache_pc : (fullDataCache.cr 0).pc = 0 := by decide +kernel

theorem fullDataCache_fetch : fullDataCache.fetchRv 0 [] = (.ok 0x00013083, fullDataCache) := by
  obtain ⟨h0, h2⟩ := fullDataCache_held
  obtain ⟨hlo, hhi⟩ := loadLine_bits
  rw [fetchRv_held fullDataCache_pc h0 h2 (by rw [hlo]), hlo, hhi]

theorem fullDataCache_at : CoreAt fullDataCache 0 [] 0x00013083 := by
  obtain ⟨hwait, hhalt, hstep, hirq, hbp⟩ := fullDataCache_ready
  exact ⟨fullDataCache_runs, hwait, hhalt, hstep, hirq, hbp, fullDataCache_fetch⟩

theorem fullDataCache_load : fullDataCache.dataCheck 0 false 0 8 = none ∧ fullDataCache.cached 0 0 = true ∧
    fullDataCache.l2Line (coreDie 0) 0 = some (9, false) := by decide +kernel

/-- The choices that the spec leaves open, and that have been made, before and after a command. -/
def choicesAfter (c : Instr) (s : State) : Nat := match exec c s with | .next t => t.freeCtr | _ => s.freeCtr

theorem fullDataCache_choices : choicesAfter (.coreInstruction 0 [] []) fullDataCache = fullDataCache.freeCtr + 1 := by decide +kernel

/-- Refutes O45: a cached load that finds the L1 data cache full (`fullDataCache`) lets another line go, which takes one of the
model's open choices, so that not only the core and the monitor counters differ. -/
theorem not_coresExecuteInstructions : ¬ Obligations.CoresExecuteInstructions := by
  intro h
  obtain ⟨-, -, hload, -⟩ := h fullDataCache 0 [] 0x00013083 fullDataCache_at
  obtain ⟨hcheck, hcached, hline⟩ := fullDataCache_load
  obtain ⟨t, ht, ⟨hframe, -⟩, -⟩ := hload 3 1 2 0 (9, false) rfl (by decide) (by decide) hcheck hcached hline
  have hchoices := fullDataCache_choices
  rw [choicesAfter, ht] at hchoices
  have hkept : t.freeCtr = fullDataCache.freeCtr := (congrArg State.freeCtr hframe :)
  exact Nat.succ_ne_self _ (hchoices.symm.trans hkept)

end Sys2Proof.Machine
end

section
/-! The channels of the DMA engine: what each update of a channel leaves (14_dma.md R478 to R490). -/
namespace Sys2Proof.Machine
variable {s t u : State} {d e : Fin 6} {c k : Fin 32} {x : DmaCh} {v : BitVec 256}

/-! ### One channel -/

theorem setDm_eq : s.setDm d c x = { s with dma := s.dma.set d { s.dma[d] with ch := (s.dma[d]).ch.set c x } } := rfl

@[simp] theorem dm_setDm_same : (s.setDm d c x).dm d c = x := by simp [State.setDm, State.dm]

theorem dm_setDm_other (h : (e, k) ≠ (d, c)) : (s.setDm d c x).dm e k = s.dm e k := by
  unfold State.setDm State.dm
  by_cases hd : e = d
  · subst hd
    have hc : c ≠ k := fun hc => h (by rw [hc])
    simp [Fin.val_ne_of_ne hc]
  · simp [Fin.val_ne_of_ne (Ne.symm hd)]

@[simp] theorem dm_wr (a : Nat) (w : Word) : (s.wr a w).dm e k = s.dm e k := by rw [State.dm, State.wr_dma, State.dm]
@[simp] theorem dm_setF (a : Nat) (f : Fld) (n : Nat) : (s.setF a f n).dm e k = s.dm e k := by rw [State.dm, State.setF_dma, State.dm]
@[simp] theorem rd_setDm (a : Nat) : (s.setDm d c x).rd a = s.rd a := rfl
@[simp] theorem fld_setDm (a : Nat) (f : Fld) : (s.setDm d c x).fld a f = s.fld a f := rfl
@[simp] theorem dmaState_setDm : (s.setDm d c x).dmaState e k = s.dmaState e k := by rw [State.dmaState, fld_setDm, State.dmaState]
@[simp] theorem dmaCount_setDm : (s.setDm d c x).dmaCount e k = s.dmaCount e k := by rw [State.dmaCount, rd_setDm, State.dmaCount]
@[simp] theorem dm_setDmaState (n : Nat) : (s.setDmaState d c n).dm e k = s.dm e k := by rw [State.setDmaState, dm_setF]
@[simp] theorem dm_dmaBit (r : Nat) : (s.dmaBit r c).dm e k = s.dm e k := by rw [State.dmaBit, dm_wr]

@[simp] theorem dmaState_setDmaState {n : Nat} (h : n < 8) : (s.setDmaState d c n).dmaState d c = n :=
  setF_fld_of_lt (by decide) h

theorem rd_setDmaState {n a : Nat} (h : a ≠ R.DMA_CH_STAT d c) : (s.setDmaState d c n).rd a = s.rd a :=
  State.setF_rd_other _ _ _ _ _ h

theorem chStat_ne_count : R.DMA_CH_STAT d c ≠ R.DMA_CH_COUNT d c := by unfold R.DMA_CH_STAT R.DMA_CH_COUNT; omega

@[simp] theorem dmaCount_setDmaState {n : Nat} : (s.setDmaState d c n).dmaCount d c = s.dmaCount d c := by
  rw [State.dmaCount, rd_setDmaState chStat_ne_count.symm, State.dmaCount]

@[simp] theorem dmaCount_wr {n : Nat} : (s.wr (R.DMA_CH_COUNT d c) (BitVec.ofNat 32 n)).dmaCount d c = n % 2 ^ 32 := by
  rw [State.dmaCount, State.wr_rd_same, BitVec.toNat_ofNat]

@[simp] theorem dmaState_wr_count {w : Word} : (s.wr (R.DMA_CH_COUNT d c) w).dmaState d c = s.dmaState d c :=
  State.wr_fld_other _ _ _ _ _ chStat_ne_count

/-- A channel mask is apart from the channels' own registers. -/
theorem chMask_ne_channel {r : Nat} (h : r = R.DMA_DONE d ∨ r = R.DMA_ERR d ∨ r = R.DMA_ROVF d) :
    r ≠ R.DMA_CH_STAT d c ∧ r ≠ R.DMA_CH_COUNT d c := by
  unfold R.DMA_DONE R.DMA_ERR R.DMA_ROVF at h
  unfold R.DMA_CH_STAT R.DMA_CH_COUNT
  omega

theorem dmaState_dmaBit {r : Nat} (h : r ≠ R.DMA_CH_STAT d c) : (s.dmaBit r k).dmaState d c = s.dmaState d c :=
  State.wr_fld_other _ _ _ _ _ h.symm

theorem dmaBit_set {r : Nat} : ((s.dmaBit r c).rd r).getLsbD c = true := by
  rw [State.dmaBit, State.wr_rd_same, BitVec.getLsbD_or, BitVec.getLsbD_ofNat, Nat.testBit_two_pow_self]
  simp

/-! ### What else differs -/

/-- Only registers and channel c of die d differ. -/
structure OnlyDma (d : Fin 6) (c : Fin 32) (s t : State) : Prop where
  frame : t = { s with regs := t.regs, dma := t.dma }
  other : ∀ e k, (e, k) ≠ (d, c) → t.dm e k = s.dm e k

namespace OnlyDma

theorem refl : OnlyDma d c s s := ⟨rfl, fun _ _ _ => rfl⟩

theorem withRegs (h : t = { s with regs := t.regs, dma := t.dma }) (l : Sparse Word) :
    { t with regs := l } = { s with regs := l, dma := t.dma } := by rw [h]

theorem withDma (h : t = { s with regs := t.regs, dma := t.dma }) (l : Vector Dma 6) :
    { t with dma := l } = { s with regs := t.regs, dma := l } := by rw [h]

theorem wr (h : OnlyDma d c s t) {a : Nat} {w : Word} : OnlyDma d c s (t.wr a w) :=
  ⟨withRegs h.frame _, fun e k he => (dm_wr _ _).trans (h.other e k he)⟩

theorem setF (h : OnlyDma d c s t) {a : Nat} {f : Fld} {n : Nat} : OnlyDma d c s (t.setF a f n) := h.wr
theorem setDmaState (h : OnlyDma d c s t) {n : Nat} : OnlyDma d c s (t.setDmaState d c n) := h.wr
theorem dmaBit (h : OnlyDma d c s t) {r : Nat} : OnlyDma d c s (t.dmaBit r c) := h.wr

theorem setDm (h : OnlyDma d c s t) : OnlyDma d c s (t.setDm d c x) :=
  ⟨by rw [setDm_eq]; exact withDma h.frame _, fun e k he => (dm_setDm_other he).trans (h.other e k he)⟩

theorem channel (h : OnlyDma d c s t) (hk : k ≠ c) : t.dm d k = s.dm d k :=
  h.other d k (fun he => hk (congrArg Prod.snd he))

theorem dmaBurst (h : OnlyDma d c s t) : OnlyDma d c s (t.dmaBurst d c v) := by
  unfold State.dmaBurst
  dsimp only
  split <;> exact h.setDm.setDmaState

theorem dmaComplete (h : OnlyDma d c s t) : OnlyDma d c s (t.dmaComplete d c v) := by
  have hirq : OnlyDma d c s (if descIrq v then t.dmaBit (R.DMA_DONE d) c else t) := by
    split
    · exact h.dmaBit
    · exact h
  unfold State.dmaComplete
  dsimp only
  generalize (if descIrq v then t.dmaBit (R.DMA_DONE d) c else t) = u at hirq ⊢
  split <;> exact hirq.setDm.setDmaState

end OnlyDma

/-! ### The next burst, and the end of a descriptor (R480, R481, R488) -/

/-- A burst that is not paced begins at once. -/
theorem dmaBurst_unpaced (h : descPace v = false) : (s.dmaBurst d c v).dmaState d c = 1 ∧
    (s.dmaBurst d c v).dm d c = { s.dm d c with
      burst := some (descCount v - s.dmaCount d c, min (s.dmaCount d c) (descBurst v), 0, 0), paced := false } := by
  rw [State.dmaBurst, h]
  exact ⟨dmaState_setDmaState (by decide), by simp⟩

/-- A paced burst waits for its request. -/
theorem dmaBurst_paced (h : descPace v = true) : (s.dmaBurst d c v).dmaState d c = 2 ∧
    (s.dmaBurst d c v).dm d c = { s.dm d c with burst := none, paced := true } := by
  rw [State.dmaBurst, h]
  exact ⟨dmaState_setDmaState (by decide), by simp⟩

theorem dmaBurst_count : (s.dmaBurst d c v).dmaCount d c = s.dmaCount d c := by
  unfold State.dmaBurst
  dsimp only
  split <;> rw [dmaCount_setDmaState, dmaCount_setDm]

theorem dmaBurst_keeps : ((s.dmaBurst d c v).dm d c).fly = (s.dm d c).fly ∧ ((s.dmaBurst d c v).dm d c).stage = (s.dm d c).stage ∧
    ((s.dmaBurst d c v).dm d c).desc = (s.dm d c).desc ∧ ((s.dmaBurst d c v).dm d c).fetching = (s.dm d c).fetching := by
  cases h : descPace v with
  | false => rw [(dmaBurst_unpaced h).2]; exact ⟨rfl, rfl, rfl, rfl⟩
  | true => rw [(dmaBurst_paced h).2]; exact ⟨rfl, rfl, rfl, rfl⟩

/-- The completion of a descriptor, its interrupt set or not. -/
theorem dmaComplete_eq : s.dmaComplete d c v =
    let u := if descIrq v then s.dmaBit (R.DMA_DONE d) c else s
    if descLast v then (u.setDm d c { s.dm d c with desc := none, burst := none, stop := false }).setDmaState d c 4
    else (u.setDm d c { s.dm d c with desc := none, burst := none, descAt := descNext v, fetching := true }).setDmaState d c 1 := rfl

theorem dmaComplete_last (h : descLast v = true) : (s.dmaComplete d c v).dmaState d c = 4 ∧
    (s.dmaComplete d c v).dm d c = { s.dm d c with desc := none, burst := none, stop := false } := by
  rw [dmaComplete_eq, h]
  exact ⟨dmaState_setDmaState (by decide), by simp⟩

theorem dmaComplete_chain (h : descLast v = false) : (s.dmaComplete d c v).dmaState d c = 1 ∧
    (s.dmaComplete d c v).dm d c = { s.dm d c with desc := none, burst := none, descAt := descNext v, fetching := true } := by
  rw [dmaComplete_eq, h]
  exact ⟨dmaState_setDmaState (by decide), by simp⟩

theorem dmaComplete_keeps : ((s.dmaComplete d c v).dm d c).fly = (s.dm d c).fly ∧
    ((s.dmaComplete d c v).dm d c).stage = (s.dm d c).stage := by
  cases h : descLast v with
  | false => rw [(dmaComplete_chain h).2]; exact ⟨rfl, rfl⟩
  | true => rw [(dmaComplete_last h).2]; exact ⟨rfl, rfl⟩

theorem dmaComplete_count : (s.dmaComplete d c v).dmaCount d c = s.dmaCount d c := by
  have hbit : (s.dmaBit (R.DMA_DONE d) c).dmaCount d c = s.dmaCount d c := by
    rw [State.dmaCount, State.dmaBit, State.wr_rd_other _ _ _ _ (chMask_ne_channel (.inl rfl)).2.symm, State.dmaCount]
  unfold State.dmaComplete
  dsimp only
  split <;> split <;> simp [hbit]

theorem dmaComplete_irq (h : descIrq v = true) : ((s.dmaComplete d c v).rd (R.DMA_DONE d)).getLsbD c = true := by
  rw [dmaComplete_eq, h]
  dsimp only
  split <;> rw [rd_setDmaState (chMask_ne_channel (.inl rfl)).1, rd_setDm] <;> exact dmaBit_set

/-! ### Errors (R489, R490) -/

/-- The error log and the channel masks are apart from a channel's STAT. -/
theorem chStat_ne_errors : R.DMA_CH_STAT d c ≠ R.DMA_ERR d ∧ R.DMA_CH_STAT d c ≠ R.DMA_ERRLOG_ALO d ∧ R.DMA_CH_STAT d c ≠ R.DMA_ERRLOG_AHI d ∧
    R.DMA_CH_STAT d c ≠ R.DMA_ERRLOG_DLO d ∧ R.DMA_CH_STAT d c ≠ R.DMA_ERRLOG_DHI d ∧ R.DMA_CH_STAT d c ≠ R.DMA_ERRLOG_INFO d := by
  unfold R.DMA_CH_STAT R.DMA_ERR R.DMA_ERRLOG_ALO R.DMA_ERRLOG_AHI R.DMA_ERRLOG_DLO R.DMA_ERRLOG_DHI R.DMA_ERRLOG_INFO
  omega

/-- What DMA_ERR and DMA_ERRLOG take of an error. -/
def State.logError (s : State) (d : Fin 6) (c : Fin 32) (a desc kind resp : Nat) (done : Bool) : State :=
  let s := s.dmaBit (R.DMA_ERR d) c
  let s := s.wrPair (R.DMA_ERRLOG_ALO d) (R.DMA_ERRLOG_AHI d) (a % 2 ^ 48)
  let s := s.wrPair (R.DMA_ERRLOG_DLO d) (R.DMA_ERRLOG_DHI d) (desc % 2 ^ 48)
  s.wr (R.DMA_ERRLOG_INFO d) (BitVec.ofNat 32 (c.val + 32 * kind + 256 * resp + 2048 * b2n done))

theorem dmaErrEnd_some {a desc kind resp : Nat} {done : Bool} (h : (s.dm d c).err = some (a, desc, kind, resp, done))
    (hfly : (s.dm d c).fly = []) : s.dmaErrEnd d c = (s.setDm d c { s.dm d c with err := none }).logError d c a desc kind resp done := by
  rw [State.dmaErrEnd]
  simp only [h, hfly]
  rfl

theorem dmaErrEnd_none (h : (s.dm d c).err = none) : s.dmaErrEnd d c = s := by
  rw [State.dmaErrEnd]
  simp only [h]

theorem dmaErrEnd_flying (h : (s.dm d c).fly ≠ []) : s.dmaErrEnd d c = s := by
  rw [State.dmaErrEnd]
  split
  · rw [if_neg (by simpa using h)]
  · rfl

variable {a desc kind resp : Nat} {done : Bool}

theorem logError_state : (s.logError d c a desc kind resp done).dmaState d c = s.dmaState d c := by
  obtain ⟨herr, halo, hahi, hdlo, hdhi, hinfo⟩ := chStat_ne_errors (d := d) (c := c)
  unfold State.logError State.dmaState State.wrPair State.dmaBit
  dsimp only
  rw [State.wr_fld_other _ _ _ _ _ hinfo, State.wr_fld_other _ _ _ _ _ hdhi, State.wr_fld_other _ _ _ _ _ hdlo,
    State.wr_fld_other _ _ _ _ _ hahi, State.wr_fld_other _ _ _ _ _ halo, State.wr_fld_other _ _ _ _ _ herr]

@[simp] theorem dm_logError : (s.logError d c a desc kind resp done).dm e k = s.dm e k := by
  simp [State.logError, State.wrPair]

/-- The error log as it reads. -/
theorem logError_reads : ((s.logError d c a desc kind resp done).rd (R.DMA_ERR d)).getLsbD c = true ∧
    (s.logError d c a desc kind resp done).rd (R.DMA_ERRLOG_INFO d) =
      BitVec.ofNat 32 (c.val + 32 * kind + 256 * resp + 2048 * b2n done) ∧
    (s.logError d c a desc kind resp done).rdPair (R.DMA_ERRLOG_DLO d) (R.DMA_ERRLOG_DHI d) = desc % 2 ^ 48 := by
  have hne : R.DMA_ERR d ≠ R.DMA_ERRLOG_ALO d ∧ R.DMA_ERR d ≠ R.DMA_ERRLOG_AHI d ∧ R.DMA_ERR d ≠ R.DMA_ERRLOG_DLO d ∧
      R.DMA_ERR d ≠ R.DMA_ERRLOG_DHI d ∧ R.DMA_ERR d ≠ R.DMA_ERRLOG_INFO d ∧ R.DMA_ERRLOG_DLO d ≠ R.DMA_ERRLOG_DHI d ∧
      R.DMA_ERRLOG_DLO d ≠ R.DMA_ERRLOG_INFO d ∧ R.DMA_ERRLOG_DHI d ≠ R.DMA_ERRLOG_INFO d := by
    unfold R.DMA_ERR R.DMA_ERRLOG_ALO R.DMA_ERRLOG_AHI R.DMA_ERRLOG_DLO R.DMA_ERRLOG_DHI R.DMA_ERRLOG_INFO
    omega
  obtain ⟨halo, hahi, hdlo, hdhi, hinfo, hpair, hlo, hhi⟩ := hne
  unfold State.logError
  dsimp only
  refine ⟨?_, State.wr_rd_same _ _ _, ?_⟩
  · unfold State.wrPair
    rw [State.wr_rd_other _ _ _ _ hinfo, State.wr_rd_other _ _ _ _ hdhi, State.wr_rd_other _ _ _ _ hdlo,
      State.wr_rd_other _ _ _ _ hahi, State.wr_rd_other _ _ _ _ halo]
    exact dmaBit_set
  · rw [State.rdPair, State.wr_rd_other _ _ _ _ hlo, State.wr_rd_other _ _ _ _ hhi, ← State.rdPair]
    exact rdPair_wrPair hpair (by omega)

/-- The channel that an error stops. -/
def DmaCh.failed (x : DmaCh) (a desc kind resp : Nat) (done : Bool) : DmaCh :=
  { x with
    desc := none
    fetching := false
    burst := none
    stage := []
    stop := false
    fly := x.fly.map (fun b => { b with live := false })
    err := some (a, desc, kind, resp, done) }

theorem dmaError_eq (h : s.dmaState d c ≠ 5) : s.dmaError d c a desc kind resp =
    ((s.setDm d c ((s.dm d c).failed a desc kind resp (s.dmaCount d c == 0))).setDmaState d c 5).dmaErrEnd d c := if_neg h

/-- A channel that an error stops is in ERROR, with nothing staged and nothing of its beats wanted; the error is recorded once no
beat is in flight. -/
theorem dmaError_spec (h : s.dmaState d c ≠ 5) : (s.dmaError d c a desc kind resp).dmaState d c = 5 ∧
    ((s.dmaError d c a desc kind resp).dm d c).desc = none ∧ ((s.dmaError d c a desc kind resp).dm d c).stage = [] ∧
    (∀ b ∈ ((s.dmaError d c a desc kind resp).dm d c).fly, b.live = false) ∧
    ((s.dm d c).fly = [] → ∃ (u : State) (done : Bool), s.dmaError d c a desc kind resp = u.logError d c a desc kind resp done) := by
  rw [dmaError_eq h]
  generalize hu : (s.setDm d c ((s.dm d c).failed a desc kind resp (s.dmaCount d c == 0))).setDmaState d c 5 = u
  have hdm : u.dm d c = (s.dm d c).failed a desc kind resp (s.dmaCount d c == 0) := by rw [← hu]; simp
  have hst : u.dmaState d c = 5 := by rw [← hu]; exact dmaState_setDmaState (by decide)
  have hdead : ∀ b ∈ (u.dm d c).fly, b.live = false := by
    rw [hdm, DmaCh.failed]
    intro b hb
    obtain ⟨y, -, rfl⟩ := List.mem_map.mp hb
    rfl
  by_cases hfly : (u.dm d c).fly = []
  · rw [dmaErrEnd_some (by rw [hdm, DmaCh.failed]) hfly]
    refine ⟨?_, ?_, ?_, ?_, fun _ => ⟨_, _, rfl⟩⟩
    · rw [logError_state, dmaState_setDm, hst]
    · rw [dm_logError, dm_setDm_same, hdm, DmaCh.failed]
    · rw [dm_logError, dm_setDm_same, hdm, DmaCh.failed]
    · rw [dm_logError, dm_setDm_same]
      exact hdead
  · rw [dmaErrEnd_flying hfly]
    refine ⟨hst, by rw [hdm, DmaCh.failed], by rw [hdm, DmaCh.failed], hdead, fun hs => absurd ?_ hfly⟩
    rw [hdm, DmaCh.failed, hs]
    rfl

end Sys2Proof.Machine
end

section
/-! DMA channels copy beat by beat (14_dma.md R475 to R481, R485, R486, R489). -/
namespace Sys2Proof.Machine
variable {s t u : State} {d : Fin 6} {c k : Fin 32} {v : BitVec 256} {b : Beat} {envs : List G6Env}

/-! ### A descriptor arrives (R478 to R481) -/

theorem dmaTake_copy (h : descOp v ≠ 1) : s.dmaTake d c v =
    ((s.setDm d c { s.dm d c with desc := some v, fetching := false }).wr (R.DMA_CH_COUNT d c) (BitVec.ofNat 32 (descCount v))).dmaBurst d c v :=
  if_neg h

theorem descCount_lt : descCount v < 2 ^ 32 := by
  unfold descCount bitsOf
  exact Nat.mod_lt _ (by decide)

theorem dmaTake_spec (h : descOp v = 0) : OnlyDma d c s (s.dmaTake d c v) ∧ ((s.dmaTake d c v).dm d c).desc = some v ∧
    ((s.dmaTake d c v).dm d c).fetching = false ∧ (s.dmaTake d c v).dmaCount d c = descCount v ∧
    (descPace v = false → (s.dmaTake d c v).dmaState d c = 1 ∧
      ((s.dmaTake d c v).dm d c).burst = some (0, min (descCount v) (descBurst v), 0, 0)) ∧
    (descPace v = true → (s.dmaTake d c v).dmaState d c = 2 ∧ ((s.dmaTake d c v).dm d c).burst = none) := by
  rw [dmaTake_copy (by omega)]
  have honly : OnlyDma d c s
      ((s.setDm d c { s.dm d c with desc := some v, fetching := false }).wr (R.DMA_CH_COUNT d c) (BitVec.ofNat 32 (descCount v))) :=
    OnlyDma.refl.setDm.wr
  have hcount : ((s.setDm d c { s.dm d c with desc := some v, fetching := false }).wr (R.DMA_CH_COUNT d c)
      (BitVec.ofNat 32 (descCount v))).dmaCount d c = descCount v := dmaCount_wr.trans (Nat.mod_eq_of_lt descCount_lt)
  have hdm : ((s.setDm d c { s.dm d c with desc := some v, fetching := false }).wr (R.DMA_CH_COUNT d c)
      (BitVec.ofNat 32 (descCount v))).dm d c = { s.dm d c with desc := some v, fetching := false } := by simp
  generalize (s.setDm d c { s.dm d c with desc := some v, fetching := false }).wr (R.DMA_CH_COUNT d c)
    (BitVec.ofNat 32 (descCount v)) = u at honly hcount hdm ⊢
  obtain ⟨-, -, hdesc, hfetch⟩ := dmaBurst_keeps (s := u) (d := d) (c := c) (v := v)
  refine ⟨honly.dmaBurst, by rw [hdesc, hdm], by rw [hfetch, hdm], by rw [dmaBurst_count, hcount], fun hp => ?_, fun hp => ?_⟩
  · obtain ⟨hst, hch⟩ := dmaBurst_unpaced (s := u) (d := d) (c := c) hp
    exact ⟨hst, by rw [hch, hcount, Nat.sub_self]⟩
  · obtain ⟨hst, hch⟩ := dmaBurst_paced (s := u) (d := d) (c := c) hp
    exact ⟨hst, by rw [hch]⟩

theorem exec_descFetchDone (hf : (s.dm d c).fetching = true) {a : BusAns}
    (ha : s.access (readAcc (d.val * 128 + 0x18 + c.val) (s.dm d c).descAt 32 false) envs = a) (hr : a.resp = some .ok) :
    exec (.descFetchDone d c envs) s = .next (if descBad (BitVec.ofNat 256 (leOf a.data)) then
      a.st.dmaError d c (s.dm d c).descAt (s.dm d c).descAt 3 0 else a.st.dmaTake d c (BitVec.ofNat 256 (leOf a.data))) := by
  show execDescFetchDone d c envs s = _
  rw [execDescFetchDone, dmaSrc]
  dsimp only
  rw [if_pos hf, ha, hr]

/-! ### Beats leave (R475, R485, R486) -/

theorem nextWrite_desc (h : s.nextWrite d c = some b) : ∃ v, (s.dm d c).desc = some v := by
  unfold State.nextWrite at h
  dsimp only at h
  split at h
  · exact ⟨_, ‹_›⟩
  · nomatch h

theorem exec_beatIssue_read {wr : Bool} (hz : s.haltFrozen d F.DBG_FREEZE_DMA = false) (hn : s.dmaFlying d < 256)
    (hp : s.dmaPick d = some c) (hr : s.nextRead d c = some b) (hw : s.nextWrite d c = none) :
    exec (.beatIssue d wr) s = .next ((s.dmaServed d c).issueRead d c b) := by
  show execBeatIssue d wr s = _
  rw [execBeatIssue, if_neg (by simp [hz]; omega), hp]
  simp only [hr, hw]

theorem exec_beatIssue_write {wr : Bool} (hz : s.haltFrozen d F.DBG_FREEZE_DMA = false) (hn : s.dmaFlying d < 256)
    (hp : s.dmaPick d = some c) (hr : s.nextRead d c = none) (hw : s.nextWrite d c = some b) :
    exec (.beatIssue d wr) s = .next ((s.dmaServed d c).issueWrite d c b) := by
  show execBeatIssue d wr s = _
  rw [execBeatIssue, if_neg (by simp [hz]; omega), hp]
  simp only [hr, hw]

theorem dmaServed_eq : s.dmaServed d c = { s with dma := s.dma.set d { s.dma[d] with cur := c.val } } := rfl

@[simp] theorem dm_dmaServed : (s.dmaServed d c).dm d k = s.dm d k := by simp [dmaServed_eq, State.dm]
theorem cur_dmaServed : ((s.dmaServed d c).dma[d]).cur = c.val := by simp [dmaServed_eq]

theorem cur_setDm {x : DmaCh} : ((s.setDm d c x).dma[d]).cur = (s.dma[d]).cur := by simp [setDm_eq]

/-- The channel that has issued a read. -/
def DmaCh.asked (x : DmaCh) (b : Beat) : DmaCh :=
  { x with
    fly := x.fly ++ [b]
    burst := x.burst.map (fun t => (t.1, t.2.1, t.2.2.1 + b.len, t.2.2.2)) }

theorem issueRead_eq : s.issueRead d c b = s.setDm d c ((s.dm d c).asked b) := rfl

/-- The channel that has issued a write. -/
def DmaCh.wrote (x : DmaCh) (b : Beat) : DmaCh :=
  { x with
    fly := x.fly ++ [b]
    stage := x.stage.drop b.len
    burst := x.burst.map (fun t => (t.1, t.2.1, t.2.2.1, t.2.2.2 + b.len)) }

/-- A write has left, and COUNT has fallen. -/
def State.wroteBeat (s : State) (d : Fin 6) (c : Fin 32) (b : Beat) : State :=
  let u := s.setDm d c ((s.dm d c).wrote b)
  (u.wr (R.DMA_CH_COUNT d c) (BitVec.ofNat 32 (u.dmaCount d c - b.len))).tally d.val (0x80 + c.val) 1

theorem issueWrite_eq (hs : (s.dm d c).stop = false) (hv : (s.dm d c).desc = some v) : s.issueWrite d c b =
    if (s.wroteBeat d c b).dmaCount d c = 0 then (s.wroteBeat d c b).dmaComplete d c v
    else if ((s.dm d c).burst.map (fun t => t.2.2.2 + b.len)).getD 0 = ((s.dm d c).burst.map (fun t => t.2.1)).getD 0 then
      (s.wroteBeat d c b).dmaBurst d c v
    else s.wroteBeat d c b := by
  rw [State.issueWrite]
  dsimp only
  rw [if_neg (by simp [hs])]
  split
  next h => exact absurd (hv.symm.trans h) (Option.some_ne_none v)
  next y h =>
    obtain rfl := Option.some.inj (hv.symm.trans h)
    rfl

/-- What a write beat leaves before its burst or descriptor goes on. -/
theorem wroteBeat_spec :
    (∃ l n m, s.wroteBeat d c b = { s with regs := l, dma := n, mon := m }) ∧ (s.wroteBeat d c b).dm d c = (s.dm d c).wrote b ∧
    (∀ k, k ≠ c → (s.wroteBeat d c b).dm d k = s.dm d k) ∧ (s.wroteBeat d c b).dmaCount d c = s.dmaCount d c - b.len := by
  unfold State.wroteBeat
  dsimp only
  have honly : OnlyDma d c s ((s.setDm d c ((s.dm d c).wrote b)).wr (R.DMA_CH_COUNT d c)
      (BitVec.ofNat 32 ((s.setDm d c ((s.dm d c).wrote b)).dmaCount d c - b.len))) := OnlyDma.refl.setDm.wr
  have hcount : ((s.setDm d c ((s.dm d c).wrote b)).wr (R.DMA_CH_COUNT d c)
      (BitVec.ofNat 32 ((s.setDm d c ((s.dm d c).wrote b)).dmaCount d c - b.len))).dmaCount d c = s.dmaCount d c - b.len := by
    rw [dmaCount_wr, dmaCount_setDm]
    refine Nat.mod_eq_of_lt (Nat.lt_of_le_of_lt (Nat.sub_le _ _) ?_)
    exact (s.rd (R.DMA_CH_COUNT d c)).isLt
  have hdm : ((s.setDm d c ((s.dm d c).wrote b)).wr (R.DMA_CH_COUNT d c)
      (BitVec.ofNat 32 ((s.setDm d c ((s.dm d c).wrote b)).dmaCount d c - b.len))).dm d c = (s.dm d c).wrote b := by simp
  generalize (s.setDm d c ((s.dm d c).wrote b)).wr (R.DMA_CH_COUNT d c)
    (BitVec.ofNat 32 ((s.setDm d c ((s.dm d c).wrote b)).dmaCount d c - b.len)) = u at honly hcount hdm ⊢
  obtain ⟨m, hm⟩ := tally_eq u d.val (0x80 + c.val) 1
  rw [hm]
  exact ⟨⟨u.regs, u.dma, m, by rw [honly.frame]⟩, hdm, fun k hk => honly.channel hk, hcount⟩

/-- What a write beat leaves: COUNT falls by its bytes, and at the end of the descriptor that completes. -/
theorem issueWrite_spec (hs : (s.dm d c).stop = false) (hv : (s.dm d c).desc = some v) :
    let t := s.issueWrite d c b
    (∃ l n m, t = { s with regs := l, dma := n, mon := m }) ∧ (t.dm d c).fly = (s.dm d c).fly ++ [b] ∧
    (t.dm d c).stage = (s.dm d c).stage.drop b.len ∧ t.dmaCount d c = s.dmaCount d c - b.len ∧ (∀ k, k ≠ c → t.dm d k = s.dm d k) ∧
    (s.dmaCount d c = b.len → (descLast v = true → t.dmaState d c = 4 ∧ (t.dm d c).desc = none) ∧
      (descLast v = false → t.dmaState d c = 1 ∧ (t.dm d c).fetching = true ∧ (t.dm d c).descAt = descNext v) ∧
      (descIrq v = true → (t.rd (R.DMA_DONE d)).getLsbD c = true)) := by
  obtain ⟨⟨l, n, m, hframe⟩, hdm, hother, hcount⟩ := wroteBeat_spec (s := s) (d := d) (c := c) (b := b)
  have hfly : ((s.wroteBeat d c b).dm d c).fly = (s.dm d c).fly ++ [b] := by rw [hdm, DmaCh.wrote]
  have hstage : ((s.wroteBeat d c b).dm d c).stage = (s.dm d c).stage.drop b.len := by rw [hdm, DmaCh.wrote]
  rw [issueWrite_eq hs hv]
  generalize s.wroteBeat d c b = u at hframe hother hcount hfly hstage ⊢
  dsimp only
  have hafter : ∀ {t : State}, OnlyDma d c u t → ∃ l n m, t = { s with regs := l, dma := n, mon := m } := by
    intro t ht
    exact ⟨t.regs, t.dma, m, by rw [ht.frame, hframe]⟩
  have hkeep : ∀ {t : State}, OnlyDma d c u t → ∀ k, k ≠ c → t.dm d k = s.dm d k :=
    fun ht k hk => (ht.channel hk).trans (hother k hk)
  by_cases hzero : u.dmaCount d c = 0
  · rw [if_pos hzero]
    have hdone : OnlyDma d c u (u.dmaComplete d c v) := OnlyDma.refl.dmaComplete
    obtain ⟨hf, hg⟩ := dmaComplete_keeps (s := u) (d := d) (c := c) (v := v)
    refine ⟨hafter hdone, hf.trans hfly, hg.trans hstage, dmaComplete_count.trans hcount, hkeep hdone, fun _ => ⟨fun hl => ?_, fun hl => ?_,
      dmaComplete_irq⟩⟩
    · obtain ⟨hst, hch⟩ := dmaComplete_last (s := u) (d := d) (c := c) hl
      exact ⟨hst, by rw [hch]⟩
    · obtain ⟨hst, hch⟩ := dmaComplete_chain (s := u) (d := d) (c := c) hl
      exact ⟨hst, by rw [hch], by rw [hch]⟩
  · rw [if_neg hzero]
    have hmore : s.dmaCount d c ≠ b.len := fun h => hzero (by rw [hcount, h, Nat.sub_self])
    split
    · obtain ⟨hf, hg, -, -⟩ := dmaBurst_keeps (s := u) (d := d) (c := c) (v := v)
      exact ⟨hafter OnlyDma.refl.dmaBurst, hf.trans hfly, hg.trans hstage, dmaBurst_count.trans hcount, hkeep OnlyDma.refl.dmaBurst,
        fun h => absurd h hmore⟩
    · exact ⟨hafter OnlyDma.refl, hfly, hstage, hcount, hkeep OnlyDma.refl, fun h => absurd h hmore⟩

/-! ### Responses (R486, R489, R490) -/

/-- The answer to a beat of a channel in RUN: the beat is gone, and what a read has brought is staged. -/
theorem dmaAnswer_ok {data : List Nat} (hst : s.dmaState d c = 1) (herr : (s.dm d c).err = none) (hstop : (s.dm d c).stop = false)
    (hb : b.live = true) : s.dmaAnswer d c b .ok data = s.setDm d c { s.dm d c with
      fly := (s.dm d c).fly.erase b, stage := if b.write then (s.dm d c).stage else (s.dm d c).stage ++ data } := by
  rw [State.dmaAnswer]
  dsimp only
  rw [if_neg (by simp)]
  have hx : (if b.write = true ∨ (!b.live) = true ∨ Resp.ok ≠ Resp.ok then (s.dm d c).stage else (s.dm d c).stage ++ data) =
      if b.write then (s.dm d c).stage else (s.dm d c).stage ++ data := by simp [hb]
  rw [hx]
  generalize hu : s.setDm d c { s.dm d c with
    fly := (s.dm d c).fly.erase b, stage := if b.write then (s.dm d c).stage else (s.dm d c).stage ++ data } = u
  have hdm : (u.dm d c).err = none ∧ (u.dm d c).stop = false ∧ u.dmaState d c = 1 := by
    rw [← hu, dm_setDm_same, dmaState_setDm]
    exact ⟨herr, hstop, hst⟩
  obtain ⟨he, hs, hd⟩ := hdm
  have hfence : u.dmaFence d c = u := by
    unfold State.dmaFence
    split
    · rw [if_neg (by simp [hd])]
    · rfl
  rw [hfence, dmaErrEnd_none he]
  unfold State.dmaSettle
  rw [if_neg (by simp [hs])]

/-- An error response stops the channel. -/
theorem dmaAnswer_error {data : List Nat} {r : Resp} (hst : s.dmaState d c = 1) (hb : b.live = true) (hr : r ≠ .ok) :
    (s.dmaAnswer d c b r data).dmaState d c = 5 ∧ ((s.dmaAnswer d c b r data).dm d c).stage = [] ∧
      ((s.dmaAnswer d c b r data).dm d c).desc = none ∧ ∀ x ∈ ((s.dmaAnswer d c b r data).dm d c).fly, x.live = false := by
  rw [State.dmaAnswer, if_pos ⟨hr, hb⟩]
  obtain ⟨h5, hdesc, hstage, hfly, -⟩ := dmaError_spec (s := s.setDm d c { s.dm d c with
      fly := (s.dm d c).fly.erase b
      stage := if b.write ∨ !b.live ∨ r ≠ .ok then (s.dm d c).stage else (s.dm d c).stage ++ data })
    (d := d) (c := c) (a := b.addr) (desc := b.desc) (kind := b2n b.write) (resp := respCode r) (by rw [dmaState_setDm, hst]; decide)
  exact ⟨h5, hstage, hdesc, hfly⟩

theorem exec_readResponse (hb : (s.dm d c).fly.find? (fun b => !b.write) = some b) {a : BusAns} {r : Resp}
    (ha : s.beatAccess b (readAcc (d.val * 128 + 0x18 + c.val) b.addr b.len false) envs = a) (hr : a.resp = some r) :
    exec (.readResponse d c envs) s = .next (a.st.dmaAnswer d c b r a.data) := by
  show execReadResponse d c envs s = _
  rw [execReadResponse, hb, dmaSrc]
  dsimp only
  rw [ha, hr]

theorem exec_writeResponse (hb : (s.dm d c).fly.find? (fun b => b.write) = some b) {a : BusAns} {r : Resp}
    (ha : s.beatAccess b (writeAcc (d.val * 128 + 0x18 + c.val) b.addr b.data false) envs = a) (hr : a.resp = some r) :
    exec (.writeResponse d c envs) s = .next (a.st.dmaAnswer d c b r []) := by
  show execWriteResponse d c envs s = _
  rw [execWriteResponse, hb, dmaSrc]
  dsimp only
  rw [ha, hr]

theorem setDm_frame {x : DmaCh} : s.setDm d c x = { s with dma := (s.setDm d c x).dma } := by rw [setDm_eq]

theorem dm_setDm_channel {x : DmaCh} (h : k ≠ c) : (s.setDm d c x).dm d k = s.dm d k :=
  dm_setDm_other (fun he => h (congrArg Prod.snd he))

/-! ### The obligation -/

/-- A descriptor that breaks the rules ends in an error of kind 3 (R479, R489). -/
theorem descriptor_error {n : Nat} (h5 : s.dmaState d c ≠ 5) (hfly : (s.dm d c).fly = []) :
    (s.dmaError d c n n 3 0).dmaState d c = 5 ∧ ((s.dmaError d c n n 3 0).dm d c).desc = none ∧
    ((s.dmaError d c n n 3 0).rd (R.DMA_ERR d)).getLsbD c = true ∧
    bitsOf ((s.dmaError d c n n 3 0).rd (R.DMA_ERRLOG_INFO d)).toNat 5 3 = 3 ∧
    (s.dmaError d c n n 3 0).rdPair (R.DMA_ERRLOG_DLO d) (R.DMA_ERRLOG_DHI d) = n % 2 ^ 48 := by
  obtain ⟨hst, hdesc, -, -, hlog⟩ := dmaError_spec (a := n) (desc := n) (kind := 3) (resp := 0) h5
  obtain ⟨u, done, hu⟩ := hlog hfly
  obtain ⟨hbit, hinfo, hpair⟩ := logError_reads (s := u) (d := d) (c := c) (a := n) (desc := n) (kind := 3) (resp := 0) (done := done)
  refine ⟨hst, hdesc, by rw [hu]; exact hbit, ?_, by rw [hu]; exact hpair⟩
  rw [hu, hinfo, BitVec.toNat_ofNat]
  have hc := c.isLt
  have hd : b2n done ≤ 1 := by cases done <;> decide
  unfold bitsOf
  omega

/-- Settles O43: a channel goes on as the descriptor that arrives, the beat that leaves or the response that comes says. -/
theorem dmaChannelsCopyBeatByBeat : Obligations.DmaChannelsCopyBeatByBeat := by
  unfold Obligations.DmaChannelsCopyBeatByBeat
  intro s d c envs
  dsimp only
  refine ⟨fun hf => ⟨fun hr hgood hcopy => ?_, fun hr hbad h5 hfly => ?_⟩, fun hz hn wr hp => ⟨fun b hrd hwr => ?_, fun b hrd hwr hs _ => ?_⟩,
    fun b hb hlive => ⟨fun hgone => ?_, fun hgone hmap => ?_, fun hst herr hstop => ⟨fun hr => ?_, fun r hr hne => ?_⟩⟩,
    fun b hb hlive hst herr hstop => ⟨fun hr => ?_, fun r hr hne => ?_⟩⟩
  · refine ⟨_, exec_descFetchDone hf rfl hr, ?_⟩
    rw [hgood, if_neg (by decide)]
    obtain ⟨honly, hdesc, hfetch, hcount, hnow, hwait⟩ := dmaTake_spec (d := d) (c := c) hcopy
    exact ⟨honly.frame, hdesc, hfetch, hcount, hnow, hwait⟩
  · refine ⟨_, exec_descFetchDone hf rfl hr, ?_⟩
    rw [hbad, if_pos rfl]
    exact descriptor_error h5 hfly
  · refine ⟨_, exec_beatIssue_read hz hn hp hrd hwr, ?_⟩
    rw [issueRead_eq, dm_dmaServed]
    refine ⟨by rw [setDm_eq, dmaServed_eq], by rw [cur_setDm, cur_dmaServed], fun k hk => (dm_setDm_channel hk).trans dm_dmaServed, dm_setDm_same⟩
  · refine ⟨_, exec_beatIssue_write hz hn hp hrd hwr, ?_⟩
    obtain ⟨v, hv⟩ := nextWrite_desc hwr
    obtain ⟨⟨l, n, m, hframe⟩, hfly, hstage, hcount, hother, hlast⟩ := issueWrite_spec (s := s.dmaServed d c) (b := b)
      (by rw [dm_dmaServed]; exact hs) (by rw [dm_dmaServed]; exact hv)
    refine ⟨?_, ?_, ?_, hcount, fun k hk => (hother k hk).trans dm_dmaServed, fun w hw hc => ?_⟩
    · rw [hframe, dmaServed_eq]
    · rw [hfly, dm_dmaServed]
    · rw [hstage, dm_dmaServed]
    · obtain rfl := Option.some.inj (hv.symm.trans hw)
      exact hlast hc
  · rw [State.beatAccess, if_pos hgone]
    exact ⟨rfl, rfl⟩
  · rw [State.beatAccess, if_neg (by simp [hgone]), if_pos (.inl hmap)]
  · have hread : b.write = false := by simpa using List.find?_some hb
    refine ⟨_, exec_readResponse hb rfl hr, ?_⟩
    rw [dmaAnswer_ok hst herr hstop hlive, hread]
    exact ⟨setDm_frame, fun k hk => dm_setDm_channel hk, dm_setDm_same⟩
  · exact ⟨_, exec_readResponse hb rfl hr, dmaAnswer_error hst hlive hne⟩
  · have hwrite : b.write = true := by simpa using List.find?_some hb
    refine ⟨_, exec_writeResponse hb rfl hr, ?_⟩
    rw [dmaAnswer_ok hst herr hstop hlive, hwrite]
    exact ⟨setDm_frame, fun k hk => dm_setDm_channel hk, dm_setDm_same⟩
  · exact ⟨_, exec_writeResponse hb rfl hr, dmaAnswer_error hst hlive hne⟩

end Sys2Proof.Machine
end

section
/-! DMA channels start, stop and take requests (14_dma.md R480 to R484, R487, R488, R490). -/
namespace Sys2Proof.Machine
variable {s t u : State} {d e : Fin 6} {c k : Fin 32} {v : BitVec 256} {level : Bool}

theorem bitOf_bitsNat (l : List Bool) (i : Nat) : bitOf (bitsNat l) i = l.getD i false := by
  induction l generalizing i with
  | nil => simp [bitsNat, bitOf]
  | cons b l ih =>
    cases i with
    | zero => cases b <;> simp [bitsNat, bitOf, b2n, Nat.testBit_zero]
    | succ i =>
      have hdiv : (b2n b + 2 * bitsNat l) / 2 = bitsNat l := by cases b <;> simp [b2n]; omega
      rw [bitsNat, bitOf, Nat.testBit_succ, hdiv]
      exact ih i

theorem hostBits_pcie (x : Pcie) (d : Fin 6) : ({ s with pcie := x } : State).hostBits d = s.hostBits d := rfl
theorem gis_pcie (x : Pcie) : ({ s with pcie := x } : State).gis = s.gis := rfl

/-- The conditions of the vectors are those of the causes, not of what the endpoint holds. -/
theorem vecCond_pcie (x : Pcie) (n : Nat) : ({ s with pcie := x } : State).vecCond n = s.vecCond n := by
  unfold State.vecCond
  split
  · simp only [hostBits_pcie]
    rfl
  · simp only [gis_pcie]
    rfl

/-- A vector that has been reported stays so while its condition stands (18 R571). -/
theorem noteFalls_prev {n : Nat} (h : n < 64) : bitOf s.noteFalls.pcie.prev.toNat n = (bitOf s.pcie.prev.toNat n && s.noteFalls.vecCond n) := by
  rw [State.noteFalls, vecCond_pcie]
  show bitOf (BitVec.ofNat 64 _).toNat n = _
  rw [BitVec.toNat_ofNat, bitOf, Nat.testBit_mod_two_pow, decide_eq_true h, Bool.true_and, ← bitOf, bitOf_bitsNat]
  simp [h]

/-! ### Commands (R483, R484) -/

theorem dmaStart_eq (h : s.dmaState d c = 0 ∨ s.dmaState d c = 4) : s.dmaStart d c = (s.setDm d c { s.dm d c with
    desc := none, fetching := true, burst := none, stage := [], stop := false,
    descAt := s.rdPair (R.DMA_CH_DESC_LO d c) (R.DMA_CH_DESC_HI d c) }).setDmaState d c 1 := if_pos h

/-- What a channel's state register reads after a state is set. -/
theorem setDmaState_writes {n : Nat} {x : DmaCh} :
    Writes [(R.DMA_CH_STAT d c, [(F.DMA_CH_STAT_STATE, n)])] s ((s.setDm d c x).setDmaState d c n) := by
  refine ⟨fun e he => ?_, fun a ha => ?_⟩
  · obtain rfl := List.mem_singleton.mp he
    exact State.setF_rd_same _ _ _ _
  · exact rd_setDmaState (by simpa using ha)

theorem dmaStop_holds (hb : s.dmaBusy d c = true) (h : (s.dm d c).stage ≠ [] ∨ (s.dm d c).fly.any (fun b => !b.write) = true) :
    s.dmaStop d c = s.setDm d c { s.dm d c with stop := true } := by
  rw [State.dmaStop, if_pos hb]
  unfold State.dmaSettle
  dsimp only
  rw [dm_setDm_same]
  refine if_neg fun hc => ?_
  simp only [Bool.true_and, Bool.and_eq_true, List.isEmpty_iff, Bool.not_eq_true'] at hc
  rcases h with h | h
  · exact h hc.1
  · exact Bool.false_ne_true (hc.2.symm.trans h)

theorem dmaStop_ends (hb : s.dmaBusy d c = true) (hs : (s.dm d c).stage = []) (hf : (s.dm d c).fly.any (fun b => !b.write) = false) :
    s.dmaStop d c = ((s.setDm d c { s.dm d c with stop := true }).setDm d c { s.dm d c with
      stop := false, burst := none, desc := none, fetching := false }).setDmaState d c 0 := by
  rw [State.dmaStop, if_pos hb]
  unfold State.dmaSettle
  dsimp only
  rw [dm_setDm_same]
  exact if_pos (by simp [hs, hf])

theorem setDm_setDm_writes {n : Nat} {x y : DmaCh} :
    Writes [(R.DMA_CH_STAT d c, [(F.DMA_CH_STAT_STATE, n)])] s (((s.setDm d c x).setDm d c y).setDmaState d c n) := by
  refine ⟨fun e he => ?_, fun a ha => ?_⟩
  · obtain rfl := List.mem_singleton.mp he
    exact State.setF_rd_same _ _ _ _
  · exact rd_setDmaState (by simpa using ha)

/-- A register without one bit. -/
theorem getLsbD_without {w : Word} {i : Nat} (hi : i < 32) :
    (w &&& ~~~(BitVec.ofNat 32 (2 ^ c.val))).getLsbD i = (w.getLsbD i && decide (i ≠ c)) := by
  rw [BitVec.getLsbD_and, BitVec.getLsbD_not, BitVec.getLsbD_ofNat, Nat.testBit_two_pow, decide_eq_true hi, Bool.true_and, Bool.true_and,
    ← decide_not, decide_eq_decide.2 (not_congr (eq_comm (a := c.val)))]

theorem getLsbD_with {w : Word} {i : Nat} (hi : i < 32) :
    (w ||| BitVec.ofNat 32 (2 ^ c.val)).getLsbD i = (w.getLsbD i || decide (i = c)) := by
  rw [BitVec.getLsbD_or, BitVec.getLsbD_ofNat, Nat.testBit_two_pow, decide_eq_true hi, Bool.true_and,
    decide_eq_decide.2 (eq_comm (a := c.val))]

/-- The channel and the error mask after CLR, before the vectors' conditions are looked at. -/
def State.dmaCleared (s : State) (d : Fin 6) (c : Fin 32) : State :=
  let u := (s.setDm d c { s.dm d c with err := none }).setDmaState d c 0
  u.wr (R.DMA_ERR d) (u.rd (R.DMA_ERR d) &&& ~~~(BitVec.ofNat 32 (2 ^ c.val)))

theorem noteFalls_fld (a : Nat) (f : Fld) : s.noteFalls.fld a f = s.fld a f := by rw [State.fld, noteFalls_rd, State.fld]
theorem noteFalls_dm : s.noteFalls.dm e k = s.dm e k := by
  obtain ⟨x, hx⟩ := noteFalls_eq s
  rw [hx]
  rfl
theorem noteFalls_own : s.noteFalls = { s with pcie := { s.pcie with prev := s.noteFalls.pcie.prev } } := rfl

theorem clear_frame {w : State} (h : u = { s with regs := u.regs, dma := u.dma })
    (hn : w = { u with pcie := { u.pcie with prev := w.pcie.prev } }) :
    w = { s with regs := w.regs, dma := w.dma, pcie := { s.pcie with prev := w.pcie.prev } } := by
  have hregs : w.regs = u.regs := (congrArg State.regs hn :)
  have hdma : w.dma = u.dma := (congrArg State.dma hn :)
  have hpcie : u.pcie = s.pcie := (congrArg State.pcie h :)
  rw [hregs, hdma, ← hpcie]
  refine hn.trans ?_
  generalize w.pcie.prev = p
  generalize u.pcie = q
  rw [h]

theorem dmaClr_eq (h : s.dmaState d c = 5) : s.dmaClr d c = (s.dmaCleared d c).noteFalls := if_pos h

theorem dmaCleared_spec : OnlyDma d c s (s.dmaCleared d c) ∧ SameRegs [R.DMA_CH_STAT d c, R.DMA_ERR d] s (s.dmaCleared d c) ∧
    (s.dmaCleared d c).dmaState d c = 0 ∧ (s.dmaCleared d c).dmaPend d c = s.dmaPend d c ∧
    (s.dmaCleared d c).dm d c = { s.dm d c with err := none } ∧
    ∀ i < 32, ((s.dmaCleared d c).rd (R.DMA_ERR d)).getLsbD i = ((s.rd (R.DMA_ERR d)).getLsbD i && decide (i ≠ c)) := by
  have hne : R.DMA_CH_STAT d c ≠ R.DMA_ERR d := chStat_ne_errors.1
  unfold State.dmaCleared
  dsimp only
  rw [rd_setDmaState hne.symm, rd_setDm]
  refine ⟨OnlyDma.refl.setDm.setDmaState.wr, SameRegs.wr (SameRegs.setF (fun _ _ => rfl) (by simp)) (by simp), ?_, ?_, ?_, fun i hi => ?_⟩
  · rw [State.dmaState, State.wr_fld_other _ _ _ _ _ hne]
    exact dmaState_setDmaState (by decide)
  · rw [State.dmaPend, State.wr_fld_other _ _ _ _ _ hne]
    exact State.setF_fld_other _ _ _ _ _ _ (.inr (by decide))
  · rw [dm_wr, dm_setDmaState, dm_setDm_same]
  · rw [State.wr_rd_same, getLsbD_without hi]

/-! ### Pulses and the fabric request lines (R487) -/

theorem onlyWrites_setF (a n : Nat) (f : Fld) : OnlyWrites [(a, [(f, n)])] s (s.setF a f n) := by
  refine ⟨rfl, fun e he => ?_, (SameRegs.refl _ s).setF (by simp)⟩
  obtain rfl := List.mem_singleton.mp he
  exact State.setF_rd_same _ _ _ _

theorem dmaPulse_counts (h : s.dmaPend d c < 255) : s.dmaPulse d c = s.setF (R.DMA_CH_STAT d c) F.DMA_CH_STAT_PEND (s.dmaPend d c + 1) :=
  if_neg (by omega)

theorem dmaPulse_lost (h : s.dmaPend d c = 255) : s.dmaPulse d c = s.dmaBit (R.DMA_ROVF d) c := if_pos h

theorem dmaPend_setF {n : Nat} (h : n < 256) : (s.setF (R.DMA_CH_STAT d c) F.DMA_CH_STAT_PEND n).dmaPend d c = n :=
  setF_fld_of_lt (by decide) h

theorem dmaState_setPend (n : Nat) : (s.setF (R.DMA_CH_STAT d c) F.DMA_CH_STAT_PEND n).dmaState d c = s.dmaState d c :=
  State.setF_fld_other _ _ _ _ _ _ (.inr (by decide))

/-- The level that a request line shows, taken in the fabric of the die. -/
def State.reqTo (s : State) (d : Fin 6) (c : Fin 32) (v : Bool) : State :=
  s.modFab d (fun x => { x with
    reqs := if v then x.reqs ||| BitVec.ofNat 32 (2 ^ c.val) else x.reqs &&& ~~~BitVec.ofNat 32 (2 ^ c.val) })

theorem setReq_eq : s.setReq d c level =
    if (level && s.lineLive d (16 + c.val) && !s.dmaLine d c) = true ∧ (s.reqTo d c (level && s.lineLive d (16 + c.val))).dmaRsel d c = 13 then
      (s.reqTo d c (level && s.lineLive d (16 + c.val))).dmaPulse d c
    else s.reqTo d c (level && s.lineLive d (16 + c.val)) := rfl

variable {v : Bool}

theorem reqTo_fabric : (s.reqTo d c v).fabric d = { s.fabric d with
    reqs := if v then (s.fabric d).reqs ||| BitVec.ofNat 32 (2 ^ c.val) else (s.fabric d).reqs &&& ~~~BitVec.ofNat 32 (2 ^ c.val) } :=
  modFab_fabric_same _

theorem reqTo_other (h : e ≠ d) : (s.reqTo d c v).fabric e = s.fabric e := by
  show (s.fab.set d.val _)[e.val] = s.fab[e.val]
  exact Vector.getElem_set_ne _ _ (fun hd => h (Fin.ext hd.symm))

theorem reqTo_lineLive (n : Nat) : (s.reqTo d c v).lineLive d n = s.lineLive d n := by
  have hmeadow : ∀ m, (s.reqTo d c v).meadow d m = s.meadow d m := by
    intro m
    rw [State.meadow, reqTo_fabric, State.meadow]
  have hof : ∀ r, (s.reqTo d c v).meadowOf d r = s.meadowOf d r := by
    intro r
    simp only [State.meadowOf, hmeadow]
  unfold State.lineLive State.regionFenced
  rw [hof]
  rfl

theorem reqTo_dmaLine : (s.reqTo d c v).dmaLine d c = (v && s.lineLive d (16 + c.val)) := by
  rw [State.dmaLine, reqTo_lineLive, reqTo_fabric]
  have hbit : ∀ w : Word, bitOf w.toNat c = w.getLsbD c := fun _ => rfl
  rw [hbit]
  cases v
  · rw [if_neg (by decide), getLsbD_without c.isLt]
    simp
  · rw [if_pos rfl, getLsbD_with c.isLt]
    simp

/-- What a write of a register after two changes of request lines leaves. -/
theorem reqTo_setF_frame {w : Bool} (a n : Nat) (f : Fld) : ((s.reqTo d c v).reqTo d c w).setF a f n =
    { s with
      regs := (((s.reqTo d c v).reqTo d c w).setF a f n).regs
      fab := (((s.reqTo d c v).reqTo d c w).setF a f n).fab } := rfl

theorem reqTo_setF_same {w : Bool} (a n : Nat) (f : Fld) : SameRegs [a] s (((s.reqTo d c v).reqTo d c w).setF a f n) :=
  SameRegs.setF (fun _ _ => rfl) (by simp)

theorem reqTo_setF_fabric (a n : Nat) (f : Fld) : ((s.reqTo d c v).setF a f n).fabric e = (s.reqTo d c v).fabric e := rfl

theorem reqTo_setF_rd {w : Bool} (a n : Nat) (f : Fld) : (((s.reqTo d c v).reqTo d c w).setF a f n).rd a = f.set (s.rd a) n :=
  State.setF_rd_same _ _ _ _

theorem dmaLine_wr (a : Nat) (w : Word) (h : a ≠ R.CFG_MDFENCE d) : (s.wr a w).dmaLine d c = s.dmaLine d c := by
  have hfence : ∀ m, (s.wr a w).mdFenced d m = s.mdFenced d m := by
    intro m
    rw [State.mdFenced, State.wr_rd_other _ _ _ _ h.symm, State.mdFenced]
  unfold State.dmaLine State.lineLive State.regionFenced
  simp only [hfence]
  rfl

theorem ch_ne_fence : R.DMA_CH_STAT d c ≠ R.CFG_MDFENCE d ∧ R.DMA_ROVF d ≠ R.CFG_MDFENCE d := by
  unfold R.DMA_CH_STAT R.DMA_ROVF R.CFG_MDFENCE dmaBase cfgBase dieBase
  omega

/-- A pulse of a line whose region lives is counted. -/
theorem pulse_line (hsel : s.dmaRsel d c = 13) (hp : s.dmaPend d c < 255) (hlive : s.lineLive d (16 + c.val) = true) :
    (s.setReq d c false).setReq d c true =
      ((s.reqTo d c false).reqTo d c true).setF (R.DMA_CH_STAT d c) F.DMA_CH_STAT_PEND (s.dmaPend d c + 1) := by
  have hlow : s.setReq d c false = s.reqTo d c false := by rw [setReq_eq, Bool.false_and, if_neg (by simp)]
  rw [hlow, setReq_eq, reqTo_lineLive, hlive, Bool.true_and, Bool.true_and, reqTo_dmaLine, Bool.false_and, Bool.not_false,
    if_pos ⟨rfl, hsel⟩]
  exact dmaPulse_counts hp

/-- A line whose region is fenced, or not there, stays low. -/
theorem pulse_dead (hlive : s.lineLive d (16 + c.val) = false) :
    (s.setReq d c false).setReq d c true = (s.reqTo d c false).reqTo d c false := by
  have hlow : s.setReq d c false = s.reqTo d c false := by rw [setReq_eq, Bool.false_and, if_neg (by simp)]
  rw [hlow, setReq_eq, reqTo_lineLive, hlive, Bool.and_false, Bool.false_and, if_neg (by simp)]

theorem exec_pulse_line (h : s.dmaRsel d c = 13) : exec (.peripheralPulse d c) s = .next ((s.setReq d c false).setReq d c true) := by
  show execPeripheralPulse d c s = _
  rw [execPeripheralPulse]
  exact if_pos h

theorem exec_pulse_trigger {t0 : Nat} {rest : List (Nat × Nat × Nat)} (h : s.dmaRsel d c = 2) (ht : (s.c d).trigs = (t0, 1, c.val) :: rest) :
    exec (.peripheralPulse d c) s = .next (((s.at_ t0).modC d (fun k => { k with trigs := k.trigs.erase (t0, 1, c.val) })).dmaPulse d c) := by
  show execPeripheralPulse d c s = _
  rw [execPeripheralPulse, if_neg (by rw [h]; decide), if_pos (.inl h)]
  have hfind : (s.c d).trigs.find? (fun t => t.2.1 == (if s.dmaRsel d c = 2 then 1 else 3) && t.2.2 == c.val) = some (t0, 1, c.val) := by
    rw [ht, List.find?_cons_of_pos]
    simp [h]
  rw [hfind]

/-! ### A paced burst starts (R488) -/

/-- What a change of a request line leaves of the channel. -/
theorem setReq_channel : (s.setReq d c level).dm d c = s.dm d c ∧ (s.setReq d c level).dmaState d c = s.dmaState d c ∧
    (s.setReq d c level).dmaCount d c = s.dmaCount d c := by
  rw [setReq_eq]
  generalize hu : s.reqTo d c (level && s.lineLive d (16 + c.val)) = u
  have hdm : u.dm d c = s.dm d c := by rw [← hu]; rfl
  have hst : u.dmaState d c = s.dmaState d c := by rw [← hu]; rfl
  have hcount : u.dmaCount d c = s.dmaCount d c := by rw [← hu]; rfl
  obtain ⟨hstat, hcnt⟩ := chMask_ne_channel (d := d) (c := c) (r := R.DMA_ROVF d) (.inr (.inr rfl))
  split
  · unfold State.dmaPulse
    split
    · exact ⟨(dm_dmaBit _).trans hdm, (dmaState_dmaBit hstat).trans hst, by
        rw [State.dmaCount, State.dmaBit, State.wr_rd_other _ _ _ _ hcnt.symm, ← State.dmaCount, hcount]⟩
    · exact ⟨(dm_setF _ _ _).trans hdm, (dmaState_setPend _).trans hst, by
        rw [State.dmaCount, State.setF_rd_other _ _ _ _ _ chStat_ne_count.symm, ← State.dmaCount, hcount]⟩
  · exact ⟨hdm, hst, hcount⟩

theorem setReq_dmaLine : (s.setReq d c level).dmaLine d c = (level && s.lineLive d (16 + c.val)) := by
  rw [setReq_eq]
  have hline : (s.reqTo d c (level && s.lineLive d (16 + c.val))).dmaLine d c = (level && s.lineLive d (16 + c.val)) := by
    rw [reqTo_dmaLine, Bool.and_assoc, Bool.and_self]
  generalize s.reqTo d c (level && s.lineLive d (16 + c.val)) = u at hline ⊢
  split
  · unfold State.dmaPulse
    split
    · exact (dmaLine_wr _ _ (ch_ne_fence (c := c)).2).trans hline
    · exact (dmaLine_wr _ _ ch_ne_fence.1).trans hline
  · exact hline

/-- The channel x, which waits with descriptor v, begins its next burst. -/
def State.dmaGo (s : State) (d : Fin 6) (c : Fin 32) (v : BitVec 256) (x : DmaCh) : State :=
  (s.setDm d c { x with burst := some (descCount v - s.dmaCount d c, min (s.dmaCount d c) (descBurst v), 0, 0) }).setDmaState d c 1

theorem exec_paced {v : BitVec 256} (hd : ((s.setReq d c level).dm d c).desc = some v) (hst : (s.setReq d c level).dmaState d c = 2) :
    exec (.pacedBurstStart d c level) s =
      let u := s.setReq d c level
      let x := u.dm d c
      if u.dmaPend d c != 0 then .next ((u.setF (R.DMA_CH_STAT d c) F.DMA_CH_STAT_PEND (u.dmaPend d c - 1)).dmaGo d c v x)
      else if u.dmaLevel d c && !x.fly.any (fun b => !b.write) then .next (u.dmaGo d c v x) else .next u := by
  show execPacedBurstStart d c level s = _
  rw [execPacedBurstStart]
  generalize s.setReq d c level = u at hd hst ⊢
  dsimp only
  split
  next y h =>
    obtain rfl := Option.some.inj (hd.symm.trans h)
    rw [if_pos hst]
    rfl
  next h => exact absurd (hd.symm.trans h) (Option.some_ne_none v)

theorem dmaGo_spec {v : BitVec 256} {x : DmaCh} : OnlyDma d c s (s.dmaGo d c v x) ∧ (s.dmaGo d c v x).dmaState d c = 1 ∧
    SameRegs [R.DMA_CH_STAT d c] s (s.dmaGo d c v x) ∧ (s.dmaGo d c v x).dmaPend d c = s.dmaPend d c ∧
    (s.dmaGo d c v x).dm d c = { x with
      burst := some (descCount v - s.dmaCount d c, min (s.dmaCount d c) (descBurst v), 0, 0) } := by
  unfold State.dmaGo
  refine ⟨OnlyDma.refl.setDm.setDmaState, dmaState_setDmaState (by decide), SameRegs.setF (fun _ _ => rfl) (by simp), ?_, ?_⟩
  · exact State.setF_fld_other _ _ _ _ _ _ (.inr (by decide))
  · rw [dm_setDmaState, dm_setDm_same]

/-- The start of a burst from PEND, which falls by one. -/
theorem dmaGo_pend {v : BitVec 256} {x : DmaCh} :
    let t := (s.setF (R.DMA_CH_STAT d c) F.DMA_CH_STAT_PEND (s.dmaPend d c - 1)).dmaGo d c v x
    OnlyDma d c s t ∧ t.dmaState d c = 1 ∧ SameRegs [R.DMA_CH_STAT d c] s t ∧ t.dmaPend d c = s.dmaPend d c - 1 ∧
    t.dm d c = { x with burst := some (descCount v - s.dmaCount d c, min (s.dmaCount d c) (descBurst v), 0, 0) } := by
  have hpend := dmaPend_setF (s := s) (d := d) (c := c) (n := s.dmaPend d c - 1)
    (Nat.lt_of_le_of_lt (Nat.sub_le _ _) (fld_lt _ F.DMA_CH_STAT_PEND))
  have hcount : (s.setF (R.DMA_CH_STAT d c) F.DMA_CH_STAT_PEND (s.dmaPend d c - 1)).dmaCount d c = s.dmaCount d c := by
    rw [State.dmaCount, State.setF_rd_other _ _ _ _ _ chStat_ne_count.symm, State.dmaCount]
  have honly : OnlyDma d c s (s.setF (R.DMA_CH_STAT d c) F.DMA_CH_STAT_PEND (s.dmaPend d c - 1)) := OnlyDma.refl.setF
  have hsame : SameRegs [R.DMA_CH_STAT d c] s (s.setF (R.DMA_CH_STAT d c) F.DMA_CH_STAT_PEND (s.dmaPend d c - 1)) :=
    (SameRegs.refl _ s).setF (by simp)
  dsimp only
  generalize s.setF (R.DMA_CH_STAT d c) F.DMA_CH_STAT_PEND (s.dmaPend d c - 1) = u at hpend hcount honly hsame ⊢
  obtain ⟨hgo, hst, hregs, hkept, hdm⟩ := dmaGo_spec (s := u) (d := d) (c := c) (v := v) (x := x)
  refine ⟨⟨?_, fun e k he => (hgo.other e k he).trans (honly.other e k he)⟩, hst, hsame.trans hregs, hkept.trans hpend, by rw [hdm, hcount]⟩
  rw [hgo.frame, honly.frame]

/-! ### The obligation -/

/-- The commands to a channel. -/
theorem channel_commands (s : State) (d : Fin 6) (c : Fin 32) :
    let only (t : State) : Prop := t = { s with regs := t.regs, dma := t.dma } ∧ ∀ e k, (e, k) ≠ (d, c) → t.dm e k = s.dm e k
    let refused := OnlyWrites [(R.DMA_CAUSE d, [(F.DMA_CAUSE_CMDERR, 1)])] s
    ((s.dmaState d c = 0 ∨ s.dmaState d c = 4) → After (.dmaStart d c) s (fun t => only t ∧
      Writes [(R.DMA_CH_STAT d c, [(F.DMA_CH_STAT_STATE, 1)])] s t ∧ (t.dm d c).fetching = true ∧
      (t.dm d c).descAt = s.rdPair (R.DMA_CH_DESC_LO d c) (R.DMA_CH_DESC_HI d c) ∧ (t.dm d c).desc = none ∧
      (t.dm d c).burst = none ∧ (t.dm d c).stage = [] ∧ (t.dm d c).fly = (s.dm d c).fly)) ∧
    (s.dmaState d c ≠ 0 → s.dmaState d c ≠ 4 → After (.dmaStart d c) s refused) ∧
    (s.dmaBusy d c = true →
      (((s.dm d c).stage ≠ [] ∨ (s.dm d c).fly.any (fun b => !b.write) = true) → After (.dmaStop d c) s (fun t => only t ∧
        t.regs = s.regs ∧ t.dm d c = { s.dm d c with stop := true })) ∧
      ((s.dm d c).stage = [] → (s.dm d c).fly.any (fun b => !b.write) = false → After (.dmaStop d c) s (fun t => only t ∧
        Writes [(R.DMA_CH_STAT d c, [(F.DMA_CH_STAT_STATE, 0)])] s t ∧
        t.dm d c = { s.dm d c with stop := false, burst := none, desc := none, fetching := false }))) ∧
    (s.dmaBusy d c = false → After (.dmaStop d c) s refused) := by
  dsimp only
  refine ⟨fun h => ⟨_, rfl, ?_⟩, fun h0 h4 => ⟨_, rfl, ?_⟩, fun hb => ⟨fun h => ⟨_, rfl, ?_⟩, fun hs hf => ⟨_, rfl, ?_⟩⟩, fun hb => ⟨_, rfl, ?_⟩⟩
  · have honly : OnlyDma d c s (s.dmaStart d c) := by
      rw [dmaStart_eq h]
      exact OnlyDma.refl.setDm.setDmaState
    refine ⟨⟨honly.frame, honly.other⟩, ?_⟩
    rw [dmaStart_eq h, dm_setDmaState, dm_setDm_same]
    exact ⟨setDmaState_writes, rfl, rfl, rfl, rfl, rfl, rfl⟩
  · rw [State.dmaStart, if_neg (by simp [h0, h4])]
    exact onlyWrites_raise _ _
  · have honly : OnlyDma d c s (s.setDm d c { s.dm d c with stop := true }) := OnlyDma.refl.setDm
    rw [dmaStop_holds hb h]
    exact ⟨⟨honly.frame, honly.other⟩, rfl, dm_setDm_same⟩
  · have honly : OnlyDma d c s (s.dmaStop d c) := by
      rw [dmaStop_ends hb hs hf]
      exact OnlyDma.refl.setDm.setDm.setDmaState
    refine ⟨⟨honly.frame, honly.other⟩, ?_⟩
    rw [dmaStop_ends hb hs hf, dm_setDmaState, dm_setDm_same]
    exact ⟨setDm_setDm_writes, rfl⟩
  · rw [State.dmaStop, if_neg (by simp [hb])]
    exact onlyWrites_raise _ _

/-- CLR, and requests by software. -/
theorem channel_clear (s : State) (d : Fin 6) (c : Fin 32) :
    let refused := OnlyWrites [(R.DMA_CAUSE d, [(F.DMA_CAUSE_CMDERR, 1)])] s
    (s.dmaState d c = 5 → After (.dmaClr d c) s (fun t =>
      t = { s with regs := t.regs, dma := t.dma, pcie := { s.pcie with prev := t.pcie.prev } } ∧
      (∀ e k, (e, k) ≠ (d, c) → t.dm e k = s.dm e k) ∧ SameRegs [R.DMA_CH_STAT d c, R.DMA_ERR d] s t ∧
      (∀ v < 64, bitOf t.pcie.prev.toNat v = (bitOf s.pcie.prev.toNat v && t.vecCond v)) ∧
      t.dmaState d c = 0 ∧ t.dmaPend d c = s.dmaPend d c ∧ t.dm d c = { s.dm d c with err := none } ∧
      ∀ i < 32, (t.rd (R.DMA_ERR d)).getLsbD i = ((s.rd (R.DMA_ERR d)).getLsbD i && decide (i ≠ c)))) ∧
    (s.dmaState d c ≠ 5 → After (.dmaClr d c) s refused) ∧
    (s.dmaPend d c < 255 → After (.swreq d c) s
      (OnlyWrites [(R.DMA_CH_STAT d c, [(F.DMA_CH_STAT_PEND, s.dmaPend d c + 1)])] s)) ∧
    (s.dmaPend d c = 255 → After (.swreq d c) s (fun t => t = { s with regs := t.regs } ∧ SameRegs [R.DMA_ROVF d] s t ∧
      ∀ i < 32, (t.rd (R.DMA_ROVF d)).getLsbD i = ((s.rd (R.DMA_ROVF d)).getLsbD i || decide (i = c)))) := by
  dsimp only
  refine ⟨fun h => ⟨_, rfl, ?_⟩, fun h => ⟨_, rfl, ?_⟩, fun h => ⟨_, rfl, ?_⟩, fun h => ⟨_, rfl, ?_⟩⟩
  · obtain ⟨honly, hregs, hst, hpend, hdm, herr⟩ := dmaCleared_spec (s := s) (d := d) (c := c)
    rw [dmaClr_eq h]
    generalize s.dmaCleared d c = u at honly hregs hst hpend hdm herr ⊢
    have hpcie : u.pcie = s.pcie := (congrArg State.pcie honly.frame :)
    refine ⟨clear_frame honly.frame noteFalls_own, fun e k he => noteFalls_dm.trans (honly.other e k he), fun a ha => ?_, fun v hv => ?_, ?_, ?_,
      noteFalls_dm.trans hdm, fun i hi => ?_⟩
    · rw [noteFalls_rd, hregs a ha]
    · rw [noteFalls_prev hv, hpcie]
    · rw [State.dmaState, noteFalls_fld]
      exact hst
    · rw [State.dmaPend, noteFalls_fld]
      exact hpend
    · rw [noteFalls_rd, herr i hi]
  · rw [State.dmaClr, if_neg h]
    exact onlyWrites_raise _ _
  · rw [dmaPulse_counts h]
    exact onlyWrites_setF _ _ _
  · have honly : OnlyRegs [R.DMA_ROVF d] s (s.dmaBit (R.DMA_ROVF d) c) := (OnlyRegs.refl _ s).wr (by simp)
    rw [dmaPulse_lost h]
    exact ⟨honly.1, honly.2, fun i hi => by rw [State.dmaBit, State.wr_rd_same, getLsbD_with hi]⟩

/-- Settles O42: the commands and requests that a channel takes. -/
theorem dmaChannelsStartStopAndTakeRequests : Obligations.DmaChannelsStartStopAndTakeRequests := by
  unfold Obligations.DmaChannelsStartStopAndTakeRequests
  intro s d c
  obtain ⟨hstart, hnostart, hstop, hnostop⟩ := channel_commands s d c
  obtain ⟨hclr, hnoclr, hreq, hlost⟩ := channel_clear s d c
  refine ⟨hstart, hnostart, hstop, hnostop, hclr, hnoclr, hreq, hlost, fun hp => ⟨fun hsel hlive => ?_, fun hsel hlive => ?_,
    fun t0 k rest hsel ht hk => ?_⟩, fun v line => ⟨setReq_dmaLine, fun hd hst => ?_⟩⟩
  · refine ⟨_, exec_pulse_line hsel, ?_⟩
    rw [pulse_line hsel hp hlive]
    refine ⟨reqTo_setF_frame _ _ _, ⟨fun e he => ?_, reqTo_setF_same _ _ _⟩, ?_, fun e he => ?_⟩
    · obtain rfl := List.mem_singleton.mp he
      exact reqTo_setF_rd _ _ _
    · rw [State.setF, dmaLine_wr _ _ ch_ne_fence.1, reqTo_dmaLine, reqTo_lineLive, hlive]
      rfl
    · exact (reqTo_setF_fabric _ _ _).trans ((reqTo_other he).trans (reqTo_other he))
  · refine ⟨_, exec_pulse_line hsel, ?_⟩
    rw [pulse_dead hlive]
    exact ⟨rfl, by rw [reqTo_dmaLine, Bool.false_and]⟩
  · refine ⟨_, exec_pulse_trigger hsel ht, ?_⟩
    have hpend : ((s.at_ t0).modC d (fun k => { k with trigs := k.trigs.erase (t0, 1, c.val) })).dmaPend d c = s.dmaPend d c := by
      rw [State.dmaPend, State.modC_fld, State.atT_fld, State.dmaPend]
    rw [dmaPulse_counts (by rw [hpend]; exact hp), hpend]
    refine ⟨((OnlyCapture.refl d _ s).at_.modC).setF (by simp), hk.symm, dmaPend_setF (by omega), ?_⟩
    rw [State.setF_c_eq, State.modC_c_same, State.atT_c_eq, ht, List.erase_cons_head]
  · obtain ⟨hdm, hstate, hcount⟩ := setReq_channel (s := s) (d := d) (c := c) (level := line)
    have hexec := exec_paced (level := line) (by rw [hdm]; exact hd) (hstate.trans hst)
    dsimp only at hexec ⊢
    generalize s.setReq d c line = u at hdm hcount hexec ⊢
    rw [← hcount, ← hdm]
    refine ⟨fun hp => ?_, fun hp hlevel hfly => ?_⟩
    · obtain ⟨hgo, hs1, hregs, hpend, hch⟩ := dmaGo_pend (s := u) (d := d) (c := c) (v := v) (x := u.dm d c)
      rw [if_pos (by simpa using hp)] at hexec
      exact ⟨_, hexec, ⟨hgo.frame, hs1, hregs, hch⟩, hpend⟩
    · obtain ⟨hgo, hs1, hregs, hpend, hch⟩ := dmaGo_spec (s := u) (d := d) (c := c) (v := v) (x := u.dm d c)
      rw [if_neg (by simp [hp]), if_pos (by simp [hlevel, hfly])] at hexec
      exact ⟨_, hexec, ⟨hgo.frame, hs1, hregs, hch⟩, hpend.trans hp⟩

end Sys2Proof.Machine
end

section
/-! What the measurement DSP cores of a die have waited is counted when something reads or stops it (07_measurement_dsp.md R262,
R263). -/
namespace Sys2Proof.Machine
variable {s t u : State} {d : Nat}

/-- Only what the cores of die d have waited has been counted. -/
structure Settled (d : Nat) (s t : State) : Prop where
  frame : t = { s with regs := t.regs, mdsp := t.mdsp, mon := t.mon }
  regs : SameRegs ((List.range 4).map (fun c => R.MDSP_CYC (4 * d + c))) s t
  mon : ∀ k : Fin 6, k.val ≠ d → t.mon[k] = s.mon[k]
  snap : ∀ k : Fin 6, t.mon[k].snap = s.mon[k].snap

namespace Settled

theorem refl (d : Nat) (s : State) : Settled d s s := ⟨rfl, SameRegs.refl _ s, fun _ _ => rfl, fun _ => rfl⟩

theorem withRegs (h : t = { s with regs := t.regs, mdsp := t.mdsp, mon := t.mon }) (l : Sparse Word) :
    { t with regs := l } = { s with regs := l, mdsp := t.mdsp, mon := t.mon } := by rw [h]

theorem withMdsp (h : t = { s with regs := t.regs, mdsp := t.mdsp, mon := t.mon }) (l : Vector Mdsp 24) :
    { t with mdsp := l } = { s with regs := t.regs, mdsp := l, mon := t.mon } := by rw [h]

theorem withMon (h : t = { s with regs := t.regs, mdsp := t.mdsp, mon := t.mon }) (l : Vector Mon 6) :
    { t with mon := l } = { s with regs := t.regs, mdsp := t.mdsp, mon := l } := by rw [h]

theorem modMd (h : Settled d s t) {m : Fin 24} {f : Mdsp → Mdsp} : Settled d s (t.modMd m f) :=
  ⟨withMdsp h.frame _, h.regs, h.mon, h.snap⟩

theorem setF (h : Settled d s t) {a n : Nat} {f : Fld} (ha : a ∈ (List.range 4).map (fun c => R.MDSP_CYC (4 * d + c))) :
    Settled d s (t.setF a f n) := ⟨withRegs h.frame _, h.regs.setF ha, h.mon, h.snap⟩

theorem tally (h : Settled d s t) {code n : Nat} : Settled d s (t.tally d code n) := by
  unfold State.tally
  split
  case isTrue hd =>
    refine ⟨withMon h.frame _, h.regs, fun k hk => ?_, fun k => ?_⟩
    · exact (Vector.getElem_set_ne hd _ (fun e => hk e.symm)).trans (h.mon k hk)
    · refine Eq.trans ?_ (h.snap k)
      show ((t.mon.set d _ hd)[k.val]).snap = _
      rw [Vector.getElem_set]
      split
      case isTrue hk =>
        subst hk
        rfl
      case isFalse => rfl
  case isFalse => exact h

theorem mdSettle (h : Settled d s t) {m : Fin 24} (hm : m.val / 4 = d) : Settled d s (t.mdSettle m) := by
  have hcyc : R.MDSP_CYC m ∈ (List.range 4).map (fun c => R.MDSP_CYC (4 * d + c)) := by
    refine List.mem_map.mpr ⟨m.val % 4, by simp; omega, ?_⟩
    rw [show 4 * d + m.val % 4 = m.val by omega]
  unfold State.mdSettle
  split
  · exact h
  · split
    · exact h
    · split
      · exact h.modMd
      · unfold State.mdWaited
        rw [hm]
        exact ((h.setF hcyc).tally).modMd

theorem mdSettleDie (h : Settled d s t) : Settled d s (t.mdSettleDie d) :=
  forEach_induct h fun m hm _ hu => hu.mdSettle (by simpa using (List.mem_filter.mp hm).2)

theorem rd (h : Settled d s t) {a : Nat} (ha : ∀ c, c < 4 → a ≠ R.MDSP_CYC (4 * d + c)) : t.rd a = s.rd a :=
  h.regs a fun hm => by
    obtain ⟨c, hc, he⟩ := List.mem_map.mp hm
    exact ha c (List.mem_range.mp hc) he.symm

theorem cr (h : Settled d s t) (m : Fin 12) : t.cr m = s.cr m := by
  rw [State.cr, h.frame]
  rfl

end Settled

/-- Where no core of the die waits nothing is counted. -/
theorem mdSettle_still {m : Fin 24} (h : s.mdState m ≠ 2) : s.mdSettle m = s := by
  unfold State.mdSettle
  split
  · rfl
  · rw [if_pos h]

theorem mdSettleDie_still (h : ∀ m : Fin 24, m.val / 4 = d → s.mdState m ≠ 2) : s.mdSettleDie d = s :=
  forEach_induct (P := fun u => u = s) rfl fun m hm u hu => by
    rw [hu]
    exact mdSettle_still (h m (by simpa using (List.mem_filter.mp hm).2))

end Sys2Proof.Machine
end

section
/-! Control cores start, halt, resume and are watched (15_control_cores_debug.md R502 to R505, R511 to R516). -/
namespace Sys2Proof.Machine
variable {s t u : State} {m k : Fin 12}

/-! ### One core, and its registers -/

@[simp] theorem cr_modCr_same (f : Core → Core) : (s.modCr m f).cr m = f (s.cr m) := by simp [State.modCr, State.cr]
theorem cr_modCr_other (f : Core → Core) (h : k ≠ m) : (s.modCr m f).cr k = s.cr k := by
  simp [State.modCr, State.cr, Fin.val_ne_of_ne h.symm]
theorem cr_wr (a : Nat) (w : Word) : (s.wr a w).cr k = s.cr k := (rfl)
theorem cr_setF (a n : Nat) (f : Fld) : (s.setF a f n).cr k = s.cr k := (rfl)
theorem cr_setB (a : Nat) (f : Fld) (b : Bool) : (s.setB a f b).cr k = s.cr k := (rfl)
theorem cr_wrPair (a b n : Nat) : (s.wrPair a b n).cr k = s.cr k := (rfl)
theorem cr_setCc (n : Nat) : (s.setCc m n).cr k = s.cr k := cr_setF _ _ _
theorem now_wrPair (a b n : Nat) : (s.wrPair a b n).now = s.now := (rfl)
theorem now_setB (a : Nat) (f : Fld) (b : Bool) : (s.setB a f b).now = s.now := (rfl)
theorem modCr_rd (f : Core → Core) (a : Nat) : (s.modCr m f).rd a = s.rd a := (rfl)
theorem modCr_fld (f : Core → Core) (a : Nat) (e : Fld) : (s.modCr m f).fld a e = s.fld a e := (rfl)
theorem modCr_ccState (f : Core → Core) (n : Nat) : (s.modCr m f).ccState n = s.ccState n := modCr_fld _ _ _

/-- The registers of a core are apart from each other. -/
theorem core_ne (m : Fin 12) : R.CC_STAT m ≠ R.CC_CTRL m ∧ R.CC_STAT m ≠ R.DBG_STAT m ∧ R.CC_STAT m ≠ R.DBG_DPC_LO m ∧
    R.CC_STAT m ≠ R.DBG_DPC_HI m ∧ R.DBG_DPC_LO m ≠ R.DBG_DPC_HI m ∧ R.DBG_STAT m ≠ R.DBG_DPC_LO m ∧ R.DBG_STAT m ≠ R.DBG_DPC_HI m ∧
    R.CC_STAT m ≠ R.CC_CAUSE (m.val / 2) ∧ R.CC_STAT m ≠ R.CC_WDT_CNT m ∧ R.CC_CAUSE (m.val / 2) ≠ R.CC_WDT_CNT m := by
  unfold R.CC_STAT R.CC_CTRL R.DBG_STAT R.DBG_DPC_LO R.DBG_DPC_HI R.CC_CAUSE R.CC_WDT_CNT ccBase dbgBase ccdBase dieBase
  omega

/-- The registers of a die's cores lie above those of its measurement DSP cores. -/
theorem ne_cyc {a : Nat} (h : dieBase (m.val / 2) + 0x7000000 ≤ a ∧ a < dieBase (m.val / 2) + 0x8000000) :
    ∀ c, c < 4 → a ≠ R.MDSP_CYC (4 * (m.val / 2) + c) := by
  intro c hc
  unfold R.MDSP_CYC mdspBase
  rw [show (4 * (m.val / 2) + c) / 4 = m.val / 2 by omega]
  omega

theorem core_above (m : Fin 12) : ∀ a ∈ [R.CC_STAT m, R.CC_CTRL m, R.DBG_STAT m, R.DBG_DPC_LO m, R.DBG_DPC_HI m, R.DBG_CTRL m, R.CC_BOOT_LO m,
      R.CC_BOOT_HI m, R.CC_WDT_RELOAD m, R.CC_WDT_CTRL m, R.DBG_FREEZE (m.val / 2), R.CC_CAUSE (m.val / 2)],
    dieBase (m.val / 2) + 0x7000000 ≤ a ∧ a < dieBase (m.val / 2) + 0x8000000 := by
  unfold R.CC_STAT R.CC_CTRL R.DBG_STAT R.DBG_DPC_LO R.DBG_DPC_HI R.CC_BOOT_LO R.CC_BOOT_HI R.CC_WDT_RELOAD R.CC_WDT_CTRL R.DBG_CTRL R.DBG_FREEZE
    R.CC_CAUSE ccBase dbgBase dbgdBase ccdBase
  intro a ha
  simp only [List.mem_cons, List.not_mem_nil, or_false] at ha
  omega

theorem Settled.core_rd (h : Settled (m.val / 2) s t) {a : Nat} (ha : a ∈ [R.CC_STAT m, R.CC_CTRL m, R.DBG_STAT m, R.DBG_DPC_LO m,
      R.DBG_DPC_HI m, R.DBG_CTRL m, R.CC_BOOT_LO m, R.CC_BOOT_HI m, R.CC_WDT_RELOAD m, R.CC_WDT_CTRL m, R.DBG_FREEZE (m.val / 2),
      R.CC_CAUSE (m.val / 2)]) : t.rd a = s.rd a := h.rd (ne_cyc (core_above m a ha))

/-! ### A core halts and goes on (R511, R512) -/

/-- Only core m, the registers listed and what the die's measurement DSP cores have waited differ. -/
structure OnlyCr (m : Fin 12) (as : List Nat) (s t : State) : Prop where
  frame : t = { s with regs := t.regs, core := t.core, mdsp := t.mdsp, mon := t.mon }
  regs : SameRegs (as ++ (List.range 4).map (fun c => R.MDSP_CYC (4 * (m.val / 2) + c))) s t
  other : ∀ k, k ≠ m → t.cr k = s.cr k

namespace OnlyCr
variable {as : List Nat}

theorem of_settled (h : Settled (m.val / 2) s t) : OnlyCr m as s t where
  frame := by
    have hc : t.core = s.core := (congrArg State.core h.frame :)
    rw [hc]
    exact h.frame
  regs := h.regs.mono fun a ha => List.mem_append_right _ ha
  other := fun k _ => h.cr k

theorem withRegs (h : t = { s with regs := t.regs, core := t.core, mdsp := t.mdsp, mon := t.mon }) (l : Sparse Word) :
    { t with regs := l } = { s with regs := l, core := t.core, mdsp := t.mdsp, mon := t.mon } := by rw [h]

theorem withCore (h : t = { s with regs := t.regs, core := t.core, mdsp := t.mdsp, mon := t.mon }) (l : Vector Core 12) :
    { t with core := l } = { s with regs := t.regs, core := l, mdsp := t.mdsp, mon := t.mon } := by rw [h]

theorem wr (h : OnlyCr m as s t) {a : Nat} {w : Word} (ha : a ∈ as) : OnlyCr m as s (t.wr a w) :=
  ⟨withRegs h.frame _, h.regs.wr (List.mem_append_left _ ha), h.other⟩

theorem setF (h : OnlyCr m as s t) {a n : Nat} {f : Fld} (ha : a ∈ as) : OnlyCr m as s (t.setF a f n) := h.wr ha

theorem setB (h : OnlyCr m as s t) {a : Nat} {f : Fld} {b : Bool} (ha : a ∈ as) : OnlyCr m as s (t.setB a f b) := h.wr ha
theorem setCc (h : OnlyCr m as s t) {n : Nat} (ha : R.CC_STAT m ∈ as) : OnlyCr m as s (t.setCc m n) := h.wr ha
theorem wrPair (h : OnlyCr m as s t) {lo hi n : Nat} (hl : lo ∈ as) (hh : hi ∈ as) : OnlyCr m as s (t.wrPair lo hi n) := (h.wr hl).wr hh

theorem modCr (h : OnlyCr m as s t) {f : Core → Core} : OnlyCr m as s (t.modCr m f) :=
  ⟨withCore h.frame _, h.regs, fun k hk => (cr_modCr_other _ hk).trans (h.other k hk)⟩

end OnlyCr

theorem setCc_state {n : Nat} (h : n < 4) : (s.setCc m n).ccState m = n := setF_fld_of_lt (by decide) h

/-- A core halts, with its program counter in DBG_DPC and a cause. -/
theorem haltOne_spec (s : State) (m : Fin 12) {cause : Nat} (hc : cause < 8) :
    let t := s.haltOne m cause
    OnlyCr m [R.CC_STAT m, R.DBG_STAT m, R.DBG_DPC_LO m, R.DBG_DPC_HI m] s t ∧ t.ccState m = 2 ∧
    t.rdPair (R.DBG_DPC_LO m) (R.DBG_DPC_HI m) = (s.cr m).pc.toNat % 2 ^ 48 ∧ t.fld (R.DBG_STAT m) F.DBG_STAT_CAUSE = cause ∧
    t.flag (R.DBG_STAT m) F.DBG_STAT_HALTED = true ∧
    t.cr m = { s.cr m with resv := none, stepping := false, haltPend := none, haltAt := s.now } := by
  obtain ⟨-, hstat, hlo, hhi, hpair, hdlo, hdhi, -, -, -⟩ := core_ne m
  have hset : Settled (m.val / 2) s (s.mdSettleDie (m.val / 2)) := (Settled.refl _ s).mdSettleDie
  unfold State.haltOne
  dsimp only
  generalize s.mdSettleDie (m.val / 2) = u at hset ⊢
  have hcr : u.cr m = s.cr m := hset.cr m
  have hnow : u.now = s.now := (congrArg State.now hset.frame :)
  refine ⟨?_, ?_, ?_, ?_, ?_, ?_⟩
  · refine OnlyCr.modCr (OnlyCr.setCc (OnlyCr.setB (OnlyCr.setF (OnlyCr.wrPair (OnlyCr.of_settled hset) ?_ ?_) ?_) ?_) ?_) <;> simp
  · rw [modCr_ccState, setCc_state (by decide)]
  · rw [State.rdPair, modCr_rd, modCr_rd, State.setCc, State.setF_rd_other _ _ _ _ _ hlo.symm, State.setF_rd_other _ _ _ _ _ hhi.symm,
      State.setB_eq, State.setF_rd_other _ _ _ _ _ hdlo.symm, State.setF_rd_other _ _ _ _ _ hdhi.symm,
      State.setF_rd_other _ _ _ _ _ hdlo.symm, State.setF_rd_other _ _ _ _ _ hdhi.symm, ← State.rdPair, hcr]
    exact rdPair_wrPair hpair (by omega)
  · rw [modCr_fld, State.setCc, State.setF_fld_other _ _ _ _ _ _ (.inl hstat.symm), State.setB_eq,
      State.setF_fld_other _ _ _ _ _ _ (.inr (by decide))]
    exact setF_fld_of_lt (by decide) hc
  · rw [State.flag, modCr_fld, State.setCc, State.setF_fld_other _ _ _ _ _ _ (.inl hstat.symm), ← State.flag]
    exact setB_flag_same true (by decide) rfl
  · rw [cr_modCr_same]
    simp only [cr_setCc, cr_setB, cr_setF, cr_wrPair, now_setB, State.setF_now, now_wrPair, hcr, hnow]

/-- A core leaves HALT at DBG_DPC; its watchdog, where nothing freezes it, is left alone. -/
theorem releaseOne_spec (s : State) (m : Fin 12) (step : Bool) (hw : s.fld (R.DBG_FREEZE (m.val / 2)) F.DBG_FREEZE_WDT = 0) :
    let t := s.releaseOne m step
    OnlyCr m [R.CC_STAT m, R.DBG_STAT m] s t ∧ t.ccState m = 1 ∧ t.flag (R.DBG_STAT m) F.DBG_STAT_HALTED = false ∧
    t.cr m = { s.cr m with pc := w64 (s.rdPair (R.DBG_DPC_LO m) (R.DBG_DPC_HI m)), stepping := step, byPeer := false } := by
  obtain ⟨-, hstat, -, -, -, -, -, -, -, -⟩ := core_ne m
  have hset : Settled (m.val / 2) s (s.mdSettleDie (m.val / 2)) := (Settled.refl _ s).mdSettleDie
  unfold State.releaseOne
  dsimp only
  generalize s.mdSettleDie (m.val / 2) = u at hset ⊢
  have hcr : u.cr m = s.cr m := hset.cr m
  have hdpc : u.rdPair (R.DBG_DPC_LO m) (R.DBG_DPC_HI m) = s.rdPair (R.DBG_DPC_LO m) (R.DBG_DPC_HI m) := by
    rw [State.rdPair, hset.core_rd (by simp), hset.core_rd (by simp), State.rdPair]
  have hfreeze : R.DBG_FREEZE (m.val / 2) ≠ R.CC_STAT m ∧ R.DBG_FREEZE (m.val / 2) ≠ R.DBG_STAT m := by
    unfold R.DBG_FREEZE R.CC_STAT R.DBG_STAT dbgdBase ccBase dbgBase
    omega
  have honly : OnlyCr m [R.CC_STAT m, R.DBG_STAT m] s ((((u.modCr m (fun c => { c with
      pc := w64 (u.rdPair (R.DBG_DPC_LO m) (R.DBG_DPC_HI m)), stepping := step, byPeer := false })).setB (R.DBG_STAT m)
      F.DBG_STAT_HALTED false).setCc m 1)) := by
    refine OnlyCr.setCc (OnlyCr.setB (OnlyCr.modCr (OnlyCr.of_settled hset)) ?_) ?_ <;> simp
  rw [State.setCc, State.setB_eq, State.setF_fld_other _ _ _ _ _ _ (.inl hfreeze.1), State.setF_fld_other _ _ _ _ _ _ (.inl hfreeze.2),
    modCr_fld, State.fld, hset.core_rd (by simp), ← State.fld, hw, if_neg (by simp [bitOf]), ← State.setB_eq, ← State.setCc]
  refine ⟨honly, setCc_state (by decide), ?_, ?_⟩
  · rw [State.flag, State.setCc, State.setF_fld_other _ _ _ _ _ _ (.inl hstat.symm), ← State.flag]
    exact setB_flag_same false (by decide) rfl
  · rw [cr_setCc, cr_setB, cr_modCr_same, hcr, hdpc]

theorem haltReqCore_eq (hlive : s.ccLive m = true) (hw : (s.cr m).waiting = none)
    (hp : s.flag (R.DBG_FREEZE (m.val / 2)) F.DBG_FREEZE_PEER = false) : s.haltReqCore m = s.haltOne m 1 := by
  have hfreeze : (s.haltOne m 1).flag (R.DBG_FREEZE (m.val / 2)) F.DBG_FREEZE_PEER = false := by
    obtain ⟨honly, -⟩ := haltOne_spec s m (cause := 1) (by decide)
    have hne : ∀ c, c < 4 → R.DBG_FREEZE (m.val / 2) ≠ R.MDSP_CYC (4 * (m.val / 2) + c) := ne_cyc (core_above m _ (by simp))
    rw [State.flag, State.fld, honly.regs _ (by
      simp only [List.mem_append, List.mem_cons, List.not_mem_nil, or_false, List.mem_map, List.mem_range, not_or]
      refine ⟨?_, fun ⟨c, hc, he⟩ => hne c hc he.symm⟩
      unfold R.DBG_FREEZE R.CC_STAT R.DBG_STAT R.DBG_DPC_LO R.DBG_DPC_HI dbgdBase ccBase dbgBase
      omega), ← State.fld, ← State.flag, hp]
  rw [State.haltReqCore, if_pos hlive, hw, if_neg (by simp)]
  unfold State.haltCore
  dsimp only
  rw [hfreeze]
  rfl

theorem resumeCore_eq {step : Bool} (h2 : s.ccState m = 2) (hby : (s.cr (peer m)).byPeer = false) (hpend : (s.cr (peer m)).haltPend = none)
    (hpeer : (s.releaseOne m step).cr (peer m) = s.cr (peer m)) : s.resumeCore m step = s.releaseOne m step := by
  rw [State.resumeCore, if_pos h2]
  dsimp only
  rw [hpeer, hby, Bool.and_false, if_neg (by simp), hpend, if_neg (by simp)]

theorem peer_ne (m : Fin 12) : peer m ≠ m := by
  unfold peer
  split <;> exact Fin.ne_of_val_ne (by dsimp only; omega)

/-! ### Start and core reset (R502) -/

/-- The stored bits of CC_CTRL: RUN alone. -/
theorem ccCtrl_mask : ∀ m : Fin 12, (regAt (R.CC_CTRL m)).map (fun x => rwMask x.2.1.fields) = some 0x1#32 := by decide +kernel

/-- A write of a register stores the bits of its mask (00 R11). -/
theorem wrRW_of_mask {a : Nat} {k : Word} (v : Word) (h : (regAt a).map (fun x => rwMask x.2.1.fields) = some k) :
    s.wrRW a v = s.wr a ((s.rd a &&& ~~~k) ||| (v &&& k)) := by
  unfold State.wrRW
  split
  · next hn => simp [hn] at h
  · next b row ix hs =>
    simp only [hs, Option.map_some, Option.some.injEq] at h
    rw [h]

theorem wrRW_ccCtrl (m : Fin 12) (v : Word) : s.wrRW (R.CC_CTRL m) v =
    s.wr (R.CC_CTRL m) ((s.rd (R.CC_CTRL m) &&& ~~~0x1#32) ||| (v &&& 0x1#32)) :=
  wrRW_of_mask v (ccCtrl_mask m)

theorem flag_of_get {a : Nat} {f : Fld} {v : Word} (h : f.get (t.rd a) = f.get v) : t.flag a f = (f.get v != 0) := by
  rw [State.flag, State.fld, h]

/-- The write of CC_CTRL stores RUN, and nothing else. -/
theorem wrRW_run (m : Fin 12) (v : Word) : (s.wrRW (R.CC_CTRL m) v).flag (R.CC_CTRL m) F.CC_CTRL_RUN = (F.CC_CTRL_RUN.get v != 0) := by
  refine flag_of_get ?_
  rw [wrRW_ccCtrl, State.wr_rd_same, get_masked (f := F.CC_CTRL_RUN) _ _ (by decide)]

theorem bootCore_eq (h : s.flag (R.DBG_CTRL m) F.DBG_CTRL_HOR = false) : s.bootCore m =
    (s.modCr m (fun c => { c with pc := w64 (s.rdPair (R.CC_BOOT_LO m) (R.CC_BOOT_HI m)) })).setCc m 1 := by
  have hne : R.DBG_CTRL m ≠ R.CC_STAT m := by
    unfold R.DBG_CTRL R.CC_STAT dbgBase ccBase
    omega
  unfold State.bootCore
  dsimp only
  rw [if_neg]
  rw [State.setCc, State.flag, State.setF_fld_other _ _ _ _ _ _ (.inl hne), modCr_fld, ← State.flag, h]
  decide

theorem boot_ne (m : Fin 12) : ∀ a ∈ [R.CC_BOOT_LO m, R.CC_BOOT_HI m, R.DBG_CTRL m, R.CC_WDT_RELOAD m],
    a ≠ R.CC_CTRL m ∧ a ≠ R.CC_STAT m ∧ a ≠ R.DBG_STAT m ∧ a ≠ R.CC_CAUSE (m.val / 2) := by
  unfold R.CC_BOOT_LO R.CC_BOOT_HI R.DBG_CTRL R.CC_WDT_RELOAD R.CC_CTRL R.CC_STAT R.DBG_STAT R.CC_CAUSE ccBase dbgBase ccdBase
  intro a ha
  simp only [List.mem_cons, List.not_mem_nil, or_false] at ha
  omega

/-- A core as its reset leaves it. -/
def Core.restarted (c : Core) (boot : Nat) : Core :=
  { (c.setCsr 0x300 (c.csrRaw 0x300 &&& ~~~(w64 0x20008))).setCsr 0x342 0 with
    pc := w64 boot, machine := true, resv := none, l1i := [], l1d := [], stepping := false, byPeer := false, waiting := none,
    haltPend := none, flight := [] }

/-- A core reset, before the core begins again. -/
def State.stopCore (s : State) (m : Fin 12) (wdt : Bool) : State :=
  let u := (s.dropRequests (coreSrc m)).mdSettleDie (m.val / 2)
  (((u.modCr m (fun c => c.restarted (u.rdPair (R.CC_BOOT_LO m) (R.CC_BOOT_HI m)))).setB (R.DBG_STAT m) F.DBG_STAT_HALTED false).setB
    (R.CC_STAT m) F.CC_STAT_WDTRST wdt).setCc m 0

theorem coreReset_eq {wdt : Bool} : s.coreReset m wdt =
    if (s.stopCore m wdt).flag (R.CC_CTRL m) F.CC_CTRL_RUN then (s.stopCore m wdt).bootCore m else s.stopCore m wdt := rfl

theorem dropRequests_rd (n a : Nat) : (s.dropRequests n).rd a = s.rd a := (rfl)
theorem dropRequests_cr (n : Nat) : (s.dropRequests n).cr k = s.cr k := (rfl)

theorem stopCore_spec (s : State) (m : Fin 12) (wdt : Bool) :
    let t := s.stopCore m wdt
    OnlyCr m [R.CC_STAT m, R.DBG_STAT m] (s.dropRequests (coreSrc m)) t ∧ t.ccState m = 0 ∧ t.flag (R.CC_STAT m) F.CC_STAT_WDTRST = wdt ∧
    t.cr m = (s.cr m).restarted (s.rdPair (R.CC_BOOT_LO m) (R.CC_BOOT_HI m)) := by
  have hset : Settled (m.val / 2) (s.dropRequests (coreSrc m)) ((s.dropRequests (coreSrc m)).mdSettleDie (m.val / 2)) :=
    (Settled.refl _ _).mdSettleDie
  unfold State.stopCore
  dsimp only
  generalize (s.dropRequests (coreSrc m)).mdSettleDie (m.val / 2) = u at hset ⊢
  have hcr : u.cr m = s.cr m := (hset.cr m).trans (dropRequests_cr _)
  have hboot : u.rdPair (R.CC_BOOT_LO m) (R.CC_BOOT_HI m) = s.rdPair (R.CC_BOOT_LO m) (R.CC_BOOT_HI m) := by
    rw [State.rdPair, hset.core_rd (by simp), hset.core_rd (by simp), dropRequests_rd, dropRequests_rd, State.rdPair]
  refine ⟨?_, setCc_state (by decide), ?_, ?_⟩
  · refine OnlyCr.setCc (OnlyCr.setB (OnlyCr.setB (OnlyCr.modCr (OnlyCr.of_settled hset)) ?_) ?_) ?_ <;> simp
  · rw [State.flag, State.setCc, State.setF_fld_other _ _ _ _ _ _ (.inr (by decide)), ← State.flag]
    exact setB_flag_same wdt (by decide) rfl
  · rw [cr_setCc, cr_setB, cr_setB, cr_modCr_same, hcr, hboot]

/-- What a reset of a core leaves, where HOR does not halt it at once. -/
theorem coreReset_spec (s : State) (m : Fin 12) (wdt : Bool) (hhor : s.flag (R.DBG_CTRL m) F.DBG_CTRL_HOR = false) :
    let t := s.coreReset m wdt
    OnlyCr m [R.CC_STAT m, R.DBG_STAT m] (s.dropRequests (coreSrc m)) t ∧
    t.ccState m = (if s.flag (R.CC_CTRL m) F.CC_CTRL_RUN then 1 else 0) ∧ t.flag (R.CC_STAT m) F.CC_STAT_WDTRST = wdt ∧
    t.cr m = (s.cr m).restarted (s.rdPair (R.CC_BOOT_LO m) (R.CC_BOOT_HI m)) := by
  obtain ⟨honly, hst, hwdt, hcr⟩ := stopCore_spec s m wdt
  have hkeep : ∀ a ∈ [R.CC_BOOT_LO m, R.CC_BOOT_HI m, R.DBG_CTRL m, R.CC_CTRL m], (s.stopCore m wdt).rd a = s.rd a := by
    intro a ha
    rw [honly.regs a ?_, dropRequests_rd]
    have habove : ∀ c, c < 4 → a ≠ R.MDSP_CYC (4 * (m.val / 2) + c) := ne_cyc (core_above m a (by
      simp only [List.mem_cons, List.not_mem_nil, or_false] at ha ⊢
      rcases ha with h | h | h | h <;> simp [h]))
    have hne : a ≠ R.CC_STAT m ∧ a ≠ R.DBG_STAT m := by
      simp only [List.mem_cons, List.not_mem_nil, or_false] at ha
      rcases ha with rfl | rfl | rfl | rfl
      · exact ⟨(boot_ne m _ (by simp)).2.1, (boot_ne m _ (by simp)).2.2.1⟩
      · exact ⟨(boot_ne m _ (by simp)).2.1, (boot_ne m _ (by simp)).2.2.1⟩
      · exact ⟨(boot_ne m _ (by simp)).2.1, (boot_ne m _ (by simp)).2.2.1⟩
      · unfold R.CC_CTRL R.CC_STAT R.DBG_STAT ccBase dbgBase
        omega
    simp only [List.mem_append, List.mem_cons, List.not_mem_nil, or_false, List.mem_map, List.mem_range, not_or]
    exact ⟨hne, fun ⟨c, hc, he⟩ => habove c hc he.symm⟩
  have hrun : (s.stopCore m wdt).flag (R.CC_CTRL m) F.CC_CTRL_RUN = s.flag (R.CC_CTRL m) F.CC_CTRL_RUN := by
    rw [State.flag, State.fld, hkeep _ (by simp), ← State.fld, ← State.flag]
  have hhor' : (s.stopCore m wdt).flag (R.DBG_CTRL m) F.DBG_CTRL_HOR = false := by
    rw [State.flag, State.fld, hkeep _ (by simp), ← State.fld, ← State.flag, hhor]
  have hboot : (s.stopCore m wdt).rdPair (R.CC_BOOT_LO m) (R.CC_BOOT_HI m) = s.rdPair (R.CC_BOOT_LO m) (R.CC_BOOT_HI m) := by
    rw [State.rdPair, hkeep _ (by simp), hkeep _ (by simp), State.rdPair]
  rw [coreReset_eq, hrun]
  generalize s.stopCore m wdt = u at honly hst hwdt hcr hhor' hboot ⊢
  dsimp only
  cases s.flag (R.CC_CTRL m) F.CC_CTRL_RUN with
  | false => exact ⟨honly, hst, hwdt, hcr⟩
  | true =>
    rw [if_pos rfl, bootCore_eq hhor', hboot]
    refine ⟨OnlyCr.setCc (OnlyCr.modCr honly) (by simp), setCc_state (by decide), ?_, ?_⟩
    · rw [State.flag, State.setCc, State.setF_fld_other _ _ _ _ _ _ (.inr (by decide)), modCr_fld, ← State.flag, hwdt]
    · rw [cr_setCc, cr_modCr_same, hcr]
      rfl

theorem restarted_fields (c : Core) (boot : Nat) : (c.restarted boot).pc = w64 boot ∧ (c.restarted boot).machine = true ∧
    (c.restarted boot).resv = none ∧ (c.restarted boot).l1i = [] ∧ (c.restarted boot).l1d = [] ∧ (c.restarted boot).x = c.x :=
  ⟨rfl, rfl, rfl, rfl, rfl, rfl⟩

/-! ### Registers of a halted core (R515), and watchdogs (R503 to R505) -/

theorem reg_setReg {c : Core} {i : Nat} {v : BitVec 64} (h0 : 0 < i) (hi : i < 32) (j : Nat) :
    (c.setReg i v).reg j = if j = i then v else c.reg j := by
  rw [Core.setReg, if_neg (by omega)]
  unfold Core.reg
  by_cases hj : j = 0
  · rw [if_pos hj, if_pos hj, if_neg (by omega)]
  · rw [if_neg hj, if_neg hj]
    by_cases hlt : j < 32
    · simp [List.getD_eq_getElem?_getD, hlt]
    · simp [List.getD_eq_getElem?_getD, hlt, show j ≠ i by omega]

theorem dbgAcmd_not_halted {v : Word} (h : s.ccState m ≠ 2) : s.dbgAcmd m v = s.raise (R.DBG_STAT m) F.DBG_STAT_AERR := if_pos h

theorem dbgAcmd_write {v : Word} {i : Nat} (h : s.ccState m = 2) (hn : F.DBG_ACMD_REGNO.get v = 0x1000 + i) (hi : i < 32)
    (hw : F.DBG_ACMD_WRITE.get v = 1) :
    s.dbgAcmd m v = s.modCr m (fun c => c.setReg i (s.rd (R.DBG_DATA1 m) ++ s.rd (R.DBG_DATA0 m))) := by
  unfold State.dbgAcmd
  dsimp only
  rw [if_neg (by simp [h]), if_neg (by omega), if_pos (by omega), if_pos hw, hn, Nat.add_sub_cancel_left]

theorem dbgAcmd_read {v : Word} {i : Nat} (h : s.ccState m = 2) (hn : F.DBG_ACMD_REGNO.get v = 0x1000 + i) (hi : i < 32)
    (hw : F.DBG_ACMD_WRITE.get v = 0) : s.dbgAcmd m v =
      (s.wr (R.DBG_DATA0 m) (((s.cr m).reg i).setWidth 32)).wr (R.DBG_DATA1 m) (((s.cr m).reg i).extractLsb' 32 32) := by
  unfold State.dbgAcmd
  dsimp only
  rw [if_neg (by simp [h]), if_neg (by omega), if_pos (by omega), if_neg (by omega), hn, Nat.add_sub_cancel_left]

theorem append_halves (x : BitVec 64) : x.extractLsb' 32 32 ++ x.setWidth 32 = x := by
  refine BitVec.eq_of_getLsbD_eq fun i hi => ?_
  rw [BitVec.getLsbD_append]
  split
  · simp [*]
  · simp [show i - 32 < 32 by omega, show 32 + (i - 32) = i by omega]

theorem wdtLoad_spec (s : State) (m : Fin 12) : OnlyRegs [R.CC_WDT_CNT m] s (s.wdtLoad m) ∧
    ((s.wdtLoad m).rd (R.CC_WDT_CNT m)).toNat = max 1 (s.rd (R.CC_WDT_RELOAD m)).toNat := by
  refine ⟨(OnlyRegs.refl _ s).wr (by simp), ?_⟩
  rw [State.wdtLoad, State.wr_rd_same, BitVec.toNat_ofNat]
  exact Nat.mod_eq_of_lt (Nat.max_lt.mpr ⟨by decide, (s.rd (R.CC_WDT_RELOAD m)).isLt⟩)

/-! ### The obligation -/

theorem setF_core_frame (h : u = { s with regs := u.regs, core := u.core }) (a n : Nat) (e : Fld) :
    u.setF a e n = { s with regs := (u.setF a e n).regs, core := (u.setF a e n).core } := by
  rw [State.setF, State.wr]
  generalize Sparse.put resetOf u.regs a (e.set (u.rd a) n) = l
  exact congrArg (fun t : State => { t with regs := l }) h

theorem setCc_core_frame (h : u = { s with regs := u.regs, core := u.core }) (m : Fin 12) (n : Nat) :
    u.setCc m n = { s with regs := (u.setCc m n).regs, core := (u.setCc m n).core } := by
  rw [State.setCc]
  exact setF_core_frame h _ n _

theorem with_core_frame (h : u = { s with regs := u.regs }) (c : Vector Core 12) :
    { u with core := c } = { s with regs := u.regs, core := c } := by
  generalize u.regs = l at h
  rw [h]

theorem modCr_core_frame (h : u = { s with regs := u.regs }) (m : Fin 12) (f : Core → Core) :
    u.modCr m f = { s with regs := (u.modCr m f).regs, core := (u.modCr m f).core } := by
  simp only [State.modCr]
  exact with_core_frame h _

theorem cr_of_regs_frame {l : Sparse Word} (h : u = { s with regs := l }) (k : Fin 12) : u.cr k = s.cr k := by
  rw [h]
  rfl

theorem sameRegs_modCr {as : List Nat} (h : SameRegs as s u) (f : Core → Core) : SameRegs as s (u.modCr m f) := h

theorem sameRegs_setCc {as : List Nat} (h : SameRegs as s u) {n : Nat} (hm : R.CC_STAT m ∈ as) : SameRegs as s (u.setCc m n) := by
  rw [State.setCc]
  exact h.setF hm

/-- RUN starts a core in RESET. -/
theorem coreRun_spec (h0 : s.ccState m = 0) (hhor : s.flag (R.DBG_CTRL m) F.DBG_CTRL_HOR = false) :
    let t := s.ccCtrl m 1
    t = { s with regs := t.regs, core := t.core } ∧ SameRegs [R.CC_CTRL m, R.CC_STAT m] s t ∧ t.ccState m = 1 ∧
    t.flag (R.CC_CTRL m) F.CC_CTRL_RUN = true ∧
    t.cr m = { s.cr m with pc := BitVec.ofNat 64 (s.rdPair (R.CC_BOOT_LO m) (R.CC_BOOT_HI m)) } ∧ ∀ k, k ≠ m → t.cr k = s.cr k := by
  have hne : R.CC_STAT m ≠ R.CC_CTRL m := (core_ne m).1
  have honly : OnlyRegs [R.CC_CTRL m] s (s.wrRW (R.CC_CTRL m) 1) := by
    rw [wrRW_ccCtrl]
    exact (OnlyRegs.refl _ s).wr (by simp)
  have hrun : (s.wrRW (R.CC_CTRL m) 1).flag (R.CC_CTRL m) F.CC_CTRL_RUN = true := (wrRW_run m 1).trans (by decide)
  have hkeep : ∀ a ∈ [R.CC_BOOT_LO m, R.CC_BOOT_HI m, R.DBG_CTRL m, R.CC_WDT_RELOAD m], (s.wrRW (R.CC_CTRL m) 1).rd a = s.rd a :=
    fun a ha => honly.2 a (by simpa using (boot_ne m a ha).1)
  have hst : (s.wrRW (R.CC_CTRL m) 1).ccState m = 0 := by
    rw [State.ccState, State.fld, honly.2 _ (by simpa using hne), ← State.fld, ← State.ccState, h0]
  have hhor' : (s.wrRW (R.CC_CTRL m) 1).flag (R.DBG_CTRL m) F.DBG_CTRL_HOR = false := by
    rw [State.flag, State.fld, hkeep _ (by simp), ← State.fld, ← State.flag, hhor]
  have hboot : (s.wrRW (R.CC_CTRL m) 1).rdPair (R.CC_BOOT_LO m) (R.CC_BOOT_HI m) = s.rdPair (R.CC_BOOT_LO m) (R.CC_BOOT_HI m) := by
    rw [State.rdPair, hkeep _ (by simp), hkeep _ (by simp), State.rdPair]
  have hctrl : s.ccCtrl m 1 = (s.wrRW (R.CC_CTRL m) 1).bootCore m := by
    unfold State.ccCtrl
    dsimp only
    rw [if_neg (by decide), if_pos ⟨by decide, hst⟩]
  rw [hctrl, bootCore_eq hhor', hboot]
  have hcr := cr_of_regs_frame honly.1
  have hframe := honly.1
  have hsame := honly.2
  clear honly hhor' hboot hctrl hkeep hst
  generalize s.wrRW (R.CC_CTRL m) 1 = u at *
  refine ⟨?_, ?_, setCc_state (by decide), ?_, ?_, fun k hk => ?_⟩
  · exact setCc_core_frame (modCr_core_frame hframe m _) m 1
  · exact sameRegs_setCc (sameRegs_modCr (hsame.mono (by simp)) _) (by simp)
  · rw [State.flag, State.setCc, State.setF_fld_other _ _ _ _ _ _ (.inl hne.symm), modCr_fld, ← State.flag, hrun]
  · rw [cr_setCc, cr_modCr_same, hcr]
    rfl
  · rw [cr_setCc, cr_modCr_other _ hk, hcr]

end Sys2Proof.Machine
end

section
/-! Control cores from outside (15_control_cores_debug.md R502 to R505, R511 to R516): the obligation. -/
namespace Sys2Proof.Machine
variable {s t u : State} {m k : Fin 12}

/-- The registers of what the die's measurement DSP cores have waited. -/
def waitedRegs (m : Fin 12) : List Nat := (List.range 4).map (fun c => R.MDSP_CYC (4 * (m.val / 2) + c))

/-- RST resets a core, and RUN is as before. -/
theorem coreRst_spec (s : State) (m : Fin 12) (hhor : s.flag (R.DBG_CTRL m) F.DBG_CTRL_HOR = false) :
    let t := s.ccCtrl m (F.CC_CTRL_RST.set (s.rd (R.CC_CTRL m)) 1)
    t.ccState m = (if s.flag (R.CC_CTRL m) F.CC_CTRL_RUN then 1 else 0) ∧
    t.cr m = (s.cr m).restarted (s.rdPair (R.CC_BOOT_LO m) (R.CC_BOOT_HI m)) ∧
    t.flag (R.CC_STAT m) F.CC_STAT_WDTRST = false ∧ (∀ k, k ≠ m → t.cr k = s.cr k) ∧
    SameRegs ([R.CC_CTRL m, R.CC_STAT m, R.DBG_STAT m] ++ waitedRegs m) s t := by
  obtain ⟨v, hv⟩ : ∃ v, v = F.CC_CTRL_RST.set (s.rd (R.CC_CTRL m)) 1 := ⟨_, rfl⟩
  have hrst : F.CC_CTRL_RST.get v = 1 := by rw [hv, Fld.get_set_same _ _ _ (by decide)]; rfl
  have hrunv : F.CC_CTRL_RUN.get v = F.CC_CTRL_RUN.get (s.rd (R.CC_CTRL m)) := by rw [hv, Fld.get_set_other _ _ _ _ (by decide)]
  have honly : OnlyRegs [R.CC_CTRL m] s (s.wrRW (R.CC_CTRL m) v) := by
    rw [wrRW_ccCtrl]
    exact (OnlyRegs.refl _ s).wr (by simp)
  have hrun : (s.wrRW (R.CC_CTRL m) v).flag (R.CC_CTRL m) F.CC_CTRL_RUN = s.flag (R.CC_CTRL m) F.CC_CTRL_RUN := by
    rw [wrRW_run, hrunv, State.flag, State.fld]
  have hkeep : ∀ a ∈ [R.CC_BOOT_LO m, R.CC_BOOT_HI m, R.DBG_CTRL m, R.CC_WDT_RELOAD m], (s.wrRW (R.CC_CTRL m) v).rd a = s.rd a :=
    fun a ha => honly.2 a (by simpa using (boot_ne m a ha).1)
  have hcr := cr_of_regs_frame honly.1
  have hctrl : s.ccCtrl m v = (s.wrRW (R.CC_CTRL m) v).coreReset m false := by
    unfold State.ccCtrl
    dsimp only
    rw [if_pos hrst]
  rw [← hv, hctrl]
  have hsame := honly.2
  clear honly hctrl
  generalize s.wrRW (R.CC_CTRL m) v = u at *
  obtain ⟨hreset, hst, hwdt, hcrm⟩ := coreReset_spec u m false (by rw [State.flag, State.fld, hkeep _ (by simp), ← State.fld, ← State.flag, hhor])
  refine ⟨hst.trans (by rw [hrun]), ?_, hwdt, fun k hk => ((hreset.other k hk).trans (dropRequests_cr _)).trans (hcr k), fun a ha => ?_⟩
  · rw [hcrm, hcr, State.rdPair, hkeep _ (by simp), hkeep _ (by simp), ← State.rdPair]
  · simp only [List.mem_append, List.mem_cons, List.not_mem_nil, or_false, not_or] at ha
    obtain ⟨⟨hctl, hstat, hdbg⟩, hwait⟩ := ha
    rw [hreset.regs a (by simpa only [List.mem_append, List.mem_cons, List.not_mem_nil, or_false, not_or] using ⟨⟨hstat, hdbg⟩, hwait⟩),
      dropRequests_rd, hsame a (by simpa using hctl)]

/-- A watchdog that expires resets its core, and counts again from RELOAD. -/
theorem wdtExpiry_spec (s : State) (m : Fin 12) (hhor : s.flag (R.DBG_CTRL m) F.DBG_CTRL_HOR = false) :
    let t := ((s.coreReset m true).ccCause m F.CC_CAUSE_WDT).wdtLoad m
    t.ccState m = (if s.flag (R.CC_CTRL m) F.CC_CTRL_RUN then 1 else 0) ∧
    t.cr m = (s.cr m).restarted (s.rdPair (R.CC_BOOT_LO m) (R.CC_BOOT_HI m)) ∧
    t.flag (R.CC_STAT m) F.CC_STAT_WDTRST = true ∧ bitOf (t.fld (R.CC_CAUSE (m.val / 2)) F.CC_CAUSE_WDT) (m.val % 2) = true ∧
    (t.rd (R.CC_WDT_CNT m)).toNat = max 1 (s.rd (R.CC_WDT_RELOAD m)).toNat ∧ ∀ k, k ≠ m → t.cr k = s.cr k := by
  obtain ⟨-, -, -, -, -, -, -, hcause, hcnt, hcc⟩ := core_ne m
  obtain ⟨hreset, hst, hwdt, hcrm⟩ := coreReset_spec s m true hhor
  have hother : ∀ k, k ≠ m → (s.coreReset m true).cr k = s.cr k := fun k hk => (hreset.other k hk).trans (dropRequests_cr _)
  have hreload : (s.coreReset m true).rd (R.CC_WDT_RELOAD m) = s.rd (R.CC_WDT_RELOAD m) := by
    obtain ⟨-, hs, hd, -⟩ := boot_ne m (R.CC_WDT_RELOAD m) (by simp)
    have hcyc : ∀ c, c < 4 → R.CC_WDT_RELOAD m ≠ R.MDSP_CYC (4 * (m.val / 2) + c) := ne_cyc (core_above m _ (by simp))
    rw [hreset.regs _ (by
      simp only [List.mem_append, List.mem_cons, List.not_mem_nil, or_false, List.mem_map, List.mem_range, not_or]
      exact ⟨⟨hs, hd⟩, fun ⟨c, hc, he⟩ => hcyc c hc he.symm⟩), dropRequests_rd]
  obtain ⟨-, -, -, hreloadNe⟩ := boot_ne m (R.CC_WDT_RELOAD m) (by simp)
  clear hreset
  dsimp only
  generalize s.coreReset m true = u at *
  have hload := (wdtLoad_spec (u.ccCause m F.CC_CAUSE_WDT) m).2
  have hstat : ∀ e : Fld, ((u.ccCause m F.CC_CAUSE_WDT).wdtLoad m).fld (R.CC_STAT m) e = u.fld (R.CC_STAT m) e := fun e => by
    rw [State.wdtLoad, State.wr_fld_other _ _ _ _ _ hcnt, State.ccCause, State.setF_fld_other _ _ _ _ _ _ (.inl hcause)]
  have hcr : ∀ k, ((u.ccCause m F.CC_CAUSE_WDT).wdtLoad m).cr k = u.cr k := fun k => by
    rw [State.wdtLoad, cr_wr, State.ccCause, cr_setF]
  refine ⟨?_, ?_, ?_, ?_, ?_, fun k hk => (hcr k).trans (hother k hk)⟩
  · rw [State.ccState, hstat, ← State.ccState, hst]
  · rw [hcr, hcrm]
  · rw [State.flag, hstat, ← State.flag, hwdt]
  · have hlt : u.fld (R.CC_CAUSE (m.val / 2)) F.CC_CAUSE_WDT ||| 2 ^ (m.val % 2) < 2 ^ F.CC_CAUSE_WDT.w :=
      or_two_pow_lt (fld_lt _ _) (Nat.mod_lt _ (by decide))
    rw [State.wdtLoad, State.wr_fld_other _ _ _ _ _ hcc, State.ccCause, setF_fld_of_lt (by decide) hlt, bitOf_or]
    simp
  · rw [hload, State.ccCause, State.setF_rd_other _ _ _ _ _ hreloadNe, hreload]

theorem execWdtExpiry_eq (hr : s.wdtRuns m = true) (h0 : s.rd (R.CC_WDT_CNT m) = 0) :
    exec (.wdtExpiry m) s = .next (((s.coreReset m true).ccCause m F.CC_CAUSE_WDT).wdtLoad m) := by
  show execWdtExpiry m s = _
  rw [execWdtExpiry, hr, h0]
  rfl

theorem execWdtTick_eq (hr : s.wdtRuns m = true) (h0 : s.rd (R.CC_WDT_CNT m) ≠ 0) :
    exec (.wdtTick m) s = .next (s.wr (R.CC_WDT_CNT m) (s.rd (R.CC_WDT_CNT m) - 1)) := by
  show execWdtTick m s = _
  rw [execWdtTick, hr, if_pos (by simpa using h0)]

theorem execWdtTick_idle (hr : s.wdtRuns m = false) : exec (.wdtTick m) s = .next s := by
  show execWdtTick m s = _
  rw [execWdtTick, hr, if_neg (by simp)]

theorem toNat_pred {w : Word} (h : w ≠ 0) : (w - 1).toNat + 1 = w.toNat := by
  have hpos : w.toNat ≠ 0 := fun hz => h (BitVec.eq_of_toNat_eq hz)
  have hlt := w.isLt
  rw [BitVec.toNat_sub, show (1 : Word).toNat = 1 from rfl]
  omega

/-- A read of an integer register of a halted core fills DATA0 and DATA1. -/
theorem dataPair_spec (s : State) (m : Fin 12) (x : BitVec 64) :
    let t := (s.wr (R.DBG_DATA0 m) (x.setWidth 32)).wr (R.DBG_DATA1 m) (x.extractLsb' 32 32)
    OnlyRegs [R.DBG_DATA0 m, R.DBG_DATA1 m] s t ∧ t.rd (R.DBG_DATA1 m) ++ t.rd (R.DBG_DATA0 m) = x := by
  have hne : R.DBG_DATA0 m ≠ R.DBG_DATA1 m := by
    unfold R.DBG_DATA0 R.DBG_DATA1
    omega
  refine ⟨((OnlyRegs.refl _ s).wr (by simp)).wr (by simp), ?_⟩
  rw [State.wr_rd_same, State.wr_rd_other _ _ _ _ hne, State.wr_rd_same]
  exact append_halves x

theorem modCr_frame (s : State) (m : Fin 12) (f : Core → Core) : s.modCr m f = { s with core := (s.modCr m f).core } := (rfl)

/-- Settles O46: the model's halt, resume, reset and boot of a core, each reduced to what it leaves of the core and its registers. -/
theorem coresStartHaltResumeAndAreWatched : Obligations.CoresStartHaltResumeAndAreWatched := by
  unfold Obligations.CoresStartHaltResumeAndAreWatched
  intro s m boot waited
  refine ⟨fun h0 hhor => ⟨_, rfl, coreRun_spec h0 hhor⟩, fun hhor => ?_, fun hlive hw hp => ?_, fun hl => ?_, fun h2 hby hpend hfz => ?_,
    fun h2 => ?_, fun v => ⟨fun h2 => ?_, fun i h2 hn h0 hi => ⟨fun hwr => ?_, fun hrd => ?_⟩⟩, ?_, fun key hk => ?_, fun hr h0 => ?_,
    execWdtTick_idle, fun hr h0 hhor => ?_⟩
  · obtain ⟨hst, hcr, hwdt, hother, hregs⟩ := coreRst_spec s m hhor
    obtain ⟨hpc, hmach, hresv, hl1i, hl1d, hx⟩ := restarted_fields (s.cr m) (s.rdPair (R.CC_BOOT_LO m) (R.CC_BOOT_HI m))
    exact ⟨_, rfl, hst, by rw [hcr, hpc]; rfl, by rw [hcr, hmach], by rw [hcr, hresv], by rw [hcr, hl1i], by rw [hcr, hl1d],
      by rw [hcr, hx], hwdt, hother, hregs⟩
  · obtain ⟨honly, hst, hdpc, hcause, hhalted, hcr⟩ := haltOne_spec s m (cause := 1) (by decide)
    exact ⟨_, congrArg Host.Outcome.next (haltReqCore_eq hlive hw hp), honly.frame, hst, honly.regs, hdpc, hcause, hhalted, hcr, honly.other⟩
  · exact congrArg Host.Outcome.next (show s.haltReqCore m = s by rw [State.haltReqCore, if_neg (by simp [hl])])
  · obtain ⟨honly, hst, hhalted, hcr⟩ := releaseOne_spec s m (s.flag (R.DBG_CTRL m) F.DBG_CTRL_STEP) hfz
    exact ⟨_, congrArg Host.Outcome.next (resumeCore_eq h2 hby hpend (honly.other _ (peer_ne m))), honly.frame, honly.regs, hst, hhalted,
      honly.other, hcr⟩
  · exact congrArg Host.Outcome.next (show s.resumeCore m (s.flag (R.DBG_CTRL m) F.DBG_CTRL_STEP) = s by rw [State.resumeCore, if_neg h2])
  · exact ⟨_, congrArg Host.Outcome.next (dbgAcmd_not_halted h2), onlyWrites_raise _ _⟩
  · refine ⟨_, congrArg Host.Outcome.next (dbgAcmd_write h2 hn hi hwr), modCr_frame _ _ _, ?_, fun j hj => ?_, fun k hk => cr_modCr_other _ hk⟩
    · rw [cr_modCr_same, reg_setReg h0 hi, if_pos rfl]
    · rw [cr_modCr_same, reg_setReg h0 hi, if_neg hj]
  · obtain ⟨⟨hframe, hregs⟩, hval⟩ := dataPair_spec s m ((s.cr m).reg i)
    exact ⟨_, congrArg Host.Outcome.next (dbgAcmd_read h2 hn hi hrd), hframe, hregs, hval⟩
  · obtain ⟨⟨hframe, hregs⟩, hval⟩ := wdtLoad_spec s m
    exact ⟨_, congrArg Host.Outcome.next (if_pos rfl), hframe, hregs, hval⟩
  · exact ⟨_, congrArg Host.Outcome.next (if_neg hk), onlyWrites_raise _ _⟩
  · obtain ⟨hframe, hregs⟩ := (OnlyRegs.refl [R.CC_WDT_CNT m] s).wr (v := s.rd (R.CC_WDT_CNT m) - 1) (a := R.CC_WDT_CNT m) (by simp)
    exact ⟨_, execWdtTick_eq hr h0, hframe, hregs, by rw [State.wr_rd_same]; exact toNat_pred h0⟩
  · obtain ⟨hst, hcr, hwdt, hcause, hcnt, hother⟩ := wdtExpiry_spec s m hhor
    exact ⟨_, execWdtExpiry_eq hr h0, hst, by rw [hcr]; rfl, hwdt, hcause, hcnt, hother⟩

end Sys2Proof.Machine
end

section
/-! The interrupt tree, MSI-X and the monitor counters (18_interrupts_events.md R563 to R566, R570, R571, R575, R576). -/
namespace Sys2Proof.Machine
variable {s t u : State} {d : Fin 6}

/-! ### The tree -/

theorem dis_bit {n : Nat} (h : n < 32) : bitOf (s.dis d).toNat n = (s.disBits d).getD n false := by
  rw [State.dis, BitVec.toNat_ofNat, bitOf, Nat.testBit_mod_two_pow, decide_eq_true h, Bool.true_and, ← bitOf, bitOf_bitsNat]

/-- What GIS takes from a die (R566, R568). -/
theorem gis_die : bitOf s.gis.toNat d = (!s.isolated[d] && s.hostBits d != 0) := by
  rw [State.gis, BitVec.toNat_ofNat, bitOf, Nat.testBit_mod_two_pow, decide_eq_true (by omega), Bool.true_and, ← bitOf, bitOf_bitsNat,
    List.append_assoc, List.getD_append _ _ _ _ (by simp), List.getD_eq_getElem _ _ (by simp)]
  simp [State.cut]

theorem gis_sync : bitOf s.gis.toNat 9 = s.leafReq R.TSY_CAUSE R.TSY_CAUSE_EN := by
  rw [State.gis, BitVec.toNat_ofNat, bitOf, Nat.testBit_mod_two_pow, decide_eq_true (by omega), Bool.true_and, ← bitOf, bitOf_bitsNat]
  rfl

/-! ### MSI-X -/

/-- The message of a vector. -/
def State.vecMessage (s : State) (v : Nat) : Output :=
  .msix v ((s.msixWord (4 * v + 1)) ++ (s.msixWord (4 * v))) (s.msixWord (4 * v + 2))

/-- A vector's condition does not depend on what has been sent or is pending. -/
theorem vecCond_frame {o : List Output} {x : Pcie} (h : t = { s with out := o, pcie := x }) (n : Nat) : t.vecCond n = s.vecCond n := by
  rw [h]
  unfold State.vecCond
  split <;> rfl

/-- A message goes out, or its pending bit is set; the condition is noted. -/
theorem msixSend_spec (u : State) {v : Nat} (hv : v < 64) :
    let t := { u.sendVec v with pcie := { (u.sendVec v).pcie with prev := setBit64 (u.sendVec v).pcie.prev v true } }
    ((u.vecOpen v = true → t.out = u.vecMessage v :: u.out ∧ t.pcie.pba = u.pcie.pba) ∧
      (u.vecOpen v = false → t.out = u.out ∧ t.pcie.pba = u.pcie.pba ||| BitVec.ofNat 64 (2 ^ v))) ∧
    bitOf t.pcie.prev.toNat v = true ∧ t = { u with out := t.out, pcie := t.pcie } := by
  dsimp only
  cases ho : u.vecOpen v with
  | true =>
    rw [sendVec_of_open ho]
    exact ⟨⟨fun _ => ⟨rfl, rfl⟩, nofun⟩, (bitOf_setBit64_true _ hv).trans (by simp), rfl⟩
  | false =>
    rw [sendVec_of_masked ho]
    exact ⟨⟨nofun, fun _ => ⟨rfl, rfl⟩⟩, (bitOf_setBit64_true _ hv).trans (by simp), rfl⟩

theorem vecCond_above {v : Nat} (h : 53 ≤ v) : s.vecCond v = false := by
  obtain ⟨k, rfl⟩ := Nat.exists_eq_add_of_le' h
  unfold State.vecCond
  rw [dif_neg (by omega)]
  rfl

theorem exec_msixSend_idle {v : Fin 64} (h : (s.deliver s.now).vecCond v = false ∨ bitOf (s.deliver s.now).pcie.prev.toNat v = true) :
    exec (.msixSend v) s = .next (s.deliver s.now) := by
  show execMsixSend v s = _
  unfold execMsixSend
  exact if_neg (by rcases h with h | h <;> simp [h])

theorem exec_msixSend_rise {v : Fin 64} (h : (s.deliver s.now).vecCond v = true) (hp : bitOf (s.deliver s.now).pcie.prev.toNat v = false) :
    exec (.msixSend v) s = .next { (s.deliver s.now).sendVec v with
      pcie := { ((s.deliver s.now).sendVec v).pcie with prev := setBit64 ((s.deliver s.now).sendVec v).pcie.prev v true } } := by
  show execMsixSend v s = _
  unfold execMsixSend
  exact if_pos (by simp [h, hp])

/-- Of the vectors below n, those that are open have had their pending bit cleared, and been sent where their condition holds. -/
structure Flushed (n : Nat) (s t : State) : Prop where
  frame : t = { s with out := t.out, pcie := t.pcie }
  pcie : t.pcie = { s.pcie with pba := t.pcie.pba }
  pba : ∀ i, i < 64 → bitOf t.pcie.pba.toNat i = (bitOf s.pcie.pba.toNat i && !(decide (i < n) && s.vecOpen i))
  out : ∃ l, t.out = l ++ s.out ∧ ∀ o, o ∈ l ↔ ∃ i, i < n ∧ bitOf s.pcie.pba.toNat i = true ∧ s.vecOpen i = true ∧
    s.vecCond i = true ∧ o = s.vecMessage i

theorem bitOf_setBit64_false {k v : Nat} (m : BitVec 64) :
    bitOf (setBit64 m v false).toNat k = (bitOf m.toNat k && !(k == v)) := by
  rw [setBit64, if_neg (by simp), bitOf, bitOf, ← BitVec.getLsbD, ← BitVec.getLsbD, BitVec.getLsbD_and, BitVec.getLsbD_not]
  by_cases hk : k < 64
  · rw [decide_eq_true hk, Bool.true_and, BitVec.getLsbD_ofNat, decide_eq_true hk, Bool.true_and, Nat.testBit_two_pow]
    simp only [eq_comm (a := v), beq_eq_decide]
  · rw [BitVec.getLsbD_of_ge _ _ (by omega), Bool.false_and, Bool.false_and]

namespace Flushed
variable {n : Nat}

theorem zero (s : State) : Flushed 0 s s := ⟨rfl, rfl, fun i _ => by simp, [], by simp, by simp⟩

theorem vecOpen (h : Flushed n s t) (i : Nat) : t.vecOpen i = s.vecOpen i := by
  unfold State.vecOpen State.msixWord
  rw [h.pcie]

theorem vecMessage (h : Flushed n s t) (i : Nat) : t.vecMessage i = s.vecMessage i := by
  unfold State.vecMessage State.msixWord
  rw [h.pcie]

theorem bit (h : Flushed n s t) (hn : n < 64) : bitOf t.pcie.pba.toNat n = bitOf s.pcie.pba.toNat n := by
  rw [h.pba n hn]
  simp

/-- A vector that cannot be sent, or is not pending, stays as it is. -/
theorem skip (h : Flushed n s t) (hn : n < 64) (hskip : (bitOf t.pcie.pba.toNat n && t.vecOpen n) = false) : Flushed (n + 1) s t := by
  rw [h.bit hn, h.vecOpen] at hskip
  obtain ⟨l, hl, hmem⟩ := h.out
  refine ⟨h.frame, h.pcie, fun i hi => ?_, l, hl, fun o => (hmem o).trans ⟨fun ⟨i, hi, hx⟩ => ⟨i, by omega, hx⟩, fun ⟨i, hi, hb, ho, hx⟩ => ?_⟩⟩
  · rw [h.pba i hi]
    by_cases hin : i = n
    · subst hin
      revert hskip
      cases bitOf s.pcie.pba.toNat i <;> cases s.vecOpen i <;> simp
    · rw [decide_eq_decide.mpr (show i < n + 1 ↔ i < n by omega)]
  · refine ⟨i, ?_, hb, ho, hx⟩
    by_contra hle
    obtain rfl : i = n := by omega
    simp [hb, ho] at hskip

/-- A pending vector that is open: its bit is cleared, and its message goes where its condition holds. -/
theorem send (h : Flushed n s t) (hn : n < 64) (hsend : (bitOf t.pcie.pba.toNat n && t.vecOpen n) = true) :
    Flushed (n + 1) s (if (t.setPending n false).vecCond n then (t.setPending n false).sendVec n else t.setPending n false) := by
  obtain ⟨hbit, hopen⟩ := Bool.and_eq_true_iff.mp hsend
  have hcond : (t.setPending n false).vecCond n = s.vecCond n :=
    (vecCond_pcie (s := t) _ n).trans (vecCond_frame h.frame n)
  have hpend : (t.setPending n false).sendVec n = { t.setPending n false with out := s.vecMessage n :: t.out } :=
    (sendVec_of_open (s := t.setPending n false) hopen).trans
      (congrArg (fun o => (t.setPending n false).emit o) (h.vecMessage n) :)
  have hframe : t.setPending n false = { s with out := t.out, pcie := (t.setPending n false).pcie } :=
    (congrArg (fun x : State => { x with pcie := (t.setPending n false).pcie }) h.frame :)
  have hpcie : (t.setPending n false).pcie = { s.pcie with pba := setBit64 t.pcie.pba n false } := by
    show ({ t.pcie with pba := setBit64 t.pcie.pba n false } : Pcie) = _
    rw [h.pcie]
  have hpba : ∀ i, i < 64 → bitOf (setBit64 t.pcie.pba n false).toNat i =
      (bitOf s.pcie.pba.toNat i && !(decide (i < n + 1) && s.vecOpen i)) := by
    intro i hi
    rw [bitOf_setBit64_false _, h.pba i hi]
    by_cases hin : i = n
    · subst hin
      rw [← h.vecOpen, hopen]
      simp
    · have hdec : decide (i < n + 1) = decide (i < n) := decide_eq_decide.mpr (by omega)
      rw [hdec, beq_false_of_ne hin]
      simp
  rw [h.bit hn] at hbit
  rw [h.vecOpen] at hopen
  obtain ⟨l, hl, hmem⟩ := h.out
  rw [hcond, hpend]
  cases hc : s.vecCond n with
  | true =>
    refine ⟨?_, hpcie, hpba, s.vecMessage n :: l, congrArg (s.vecMessage n :: ·) hl, fun o => ?_⟩
    · exact (congrArg (fun x : State => { x with out := s.vecMessage n :: t.out }) hframe :)
    · rw [List.mem_cons, hmem]
      refine ⟨?_, fun ⟨i, hi, hb, ho, hx, he⟩ => ?_⟩
      · rintro (rfl | ⟨i, hi, hx⟩)
        · exact ⟨n, by omega, hbit, hopen, hc, rfl⟩
        · exact ⟨i, by omega, hx⟩
      · by_cases hin : i = n
        · exact .inl (hin ▸ he)
        · exact .inr ⟨i, by omega, hb, ho, hx, he⟩
  | false =>
    refine ⟨hframe, hpcie, hpba, l, hl, fun o => (hmem o).trans ⟨fun ⟨i, hi, hx⟩ => ⟨i, by omega, hx⟩, fun ⟨i, hi, hb, ho, hx, he⟩ => ?_⟩⟩
    refine ⟨i, ?_, hb, ho, hx, he⟩
    by_contra hle
    obtain rfl : i = n := by omega
    simp [hc] at hx

end Flushed

/-- What has become sendable is sent if its condition still holds (R571). -/
theorem flushPending_flushed (s : State) : Flushed 53 s s.flushPending := by
  have hall : ∀ n, n ≤ 53 → Flushed n s (forEach (List.range n) (fun v s =>
      if bitOf s.pcie.pba.toNat v && s.vecOpen v then
        let s := s.setPending v false
        if s.vecCond v then s.sendVec v else s
      else s) s) := by
    intro n
    induction n with
    | zero => exact fun _ => Flushed.zero s
    | succ n ih =>
      intro hn
      have hprev := ih (by omega)
      rw [forEach_range_succ]
      dsimp only
      split
      case isTrue h => exact hprev.send (by omega) h
      case isFalse h => exact hprev.skip (by omega) (by simpa using h)
  exact hall 53 (Nat.le_refl _)

/-! ### Monitor counters -/

theorem Settled.setMon (h : Settled d.val s t) {x : Mon} (hx : x.snap = t.mon[d].snap) : Settled d.val s (t.setMon d x) := by
  refine ⟨Settled.withMon h.frame _, h.regs, fun k hk => ?_, fun k => ?_⟩
  · exact (Vector.getElem_set_ne d.isLt _ (fun e => hk e.symm)).trans (h.mon k hk)
  · refine Eq.trans ?_ (h.snap k)
    show ((t.mon.set d.val x d.isLt)[k.val]).snap = _
    rw [Vector.getElem_set]
    split
    case isTrue hk =>
      obtain rfl : d = k := Fin.ext hk
      exact hx
    case isFalse => rfl

theorem tally_still (code n : Nat) (e : Nat) : (s.tally e code n).regs = s.regs ∧ (s.tally e code n).mdsp = s.mdsp := by
  unfold State.tally
  split <;> exact ⟨rfl, rfl⟩

theorem monSync_settled : Settled d.val s (s.monSync d) :=
  ((((Settled.refl _ s).mdSettleDie).tally.tally).tally).setMon rfl

/-- Where no measurement DSP core of the die waits, only the monitor's counters move. -/
theorem monSync_still (h : ∀ k : Fin 24, k.val / 4 = d.val → s.mdState k ≠ 2) :
    (s.monSync d).regs = s.regs ∧ (s.monSync d).mdsp = s.mdsp := by
  unfold State.monSync
  rw [mdSettleDie_still h]
  dsimp only [State.setMon]
  simp only [tally_still, and_self]

theorem setMon_same (x : Mon) : (s.setMon d x).mon[d] = x := Vector.getElem_set_self _

theorem monClr_spec (s : State) (d : Fin 6) (mask : BitVec 16) : Settled d.val s (s.monClr d mask) ∧
    ∀ i : Fin 16, (s.monClr d mask).mon[d].cnt[i] = if bitOf mask.toNat i then 0 else (s.monSync d).mon[d].cnt[i] := by
  refine ⟨monSync_settled.setMon rfl, fun i => ?_⟩
  rw [State.monClr, setMon_same]
  exact Vector.getElem_ofFn _

theorem monClr_still {mask : BitVec 16} (h : ∀ k : Fin 24, k.val / 4 = d.val → s.mdState k ≠ 2) :
    (s.monClr d mask).regs = s.regs ∧ (s.monClr d mask).mdsp = s.mdsp := monSync_still h

/-! ### The armed snapshot (R576) -/

theorem rdPair_wrPair_mod {lo hi : Nat} (n : Nat) (h : lo ≠ hi) : (s.wrPair lo hi n).rdPair lo hi = n % 2 ^ 64 := by
  unfold State.wrPair State.rdPair
  rw [State.wr_rd_same, State.wr_rd_other _ _ _ _ h, State.wr_rd_same, BitVec.toNat_ofNat, BitVec.toNat_ofNat]
  omega

theorem wrPair_rd_other {lo hi n a : Nat} (hl : a ≠ lo) (hh : a ≠ hi) : (s.wrPair lo hi n).rd a = s.rd a := by
  rw [State.wrPair, State.wr_rd_other _ _ _ _ hh, State.wr_rd_other _ _ _ _ hl]

/-- The snapshot registers of counter i take its value. -/
def State.snapOne (d : Fin 6) (i : Fin 16) (s : State) : State := s.wrPair (R.MON_SNAP_LO d i) (R.MON_SNAP_HI d i) (s.mon[d]).cnt[i]

theorem snap_ne (d : Fin 6) (i j : Fin 16) : R.MON_SNAP_LO d i ≠ R.MON_SNAP_HI d j ∧
    (i ≠ j → R.MON_SNAP_LO d i ≠ R.MON_SNAP_LO d j ∧ R.MON_SNAP_HI d i ≠ R.MON_SNAP_HI d j) ∧
    R.MON_SNAP_LO d i ≠ R.MON_CAUSE d ∧ R.MON_SNAP_HI d i ≠ R.MON_CAUSE d := by
  unfold R.MON_SNAP_LO R.MON_SNAP_HI R.MON_CAUSE
  refine ⟨by omega, fun h => ?_, by omega, by omega⟩
  have hne := Fin.val_ne_of_ne h
  omega

theorem wrPair_mon (lo hi n : Nat) : (s.wrPair lo hi n).mon = s.mon := (rfl)
theorem snapOne_mon (i : Fin 16) : (s.snapOne d i).mon = s.mon := wrPair_mon _ _ _

/-- A counter's snapshot registers are not written by another counter. -/
theorem snapOne_other {i j : Fin 16} (h : i ≠ j) : (s.snapOne d j).rdPair (R.MON_SNAP_LO d i) (R.MON_SNAP_HI d i) =
    s.rdPair (R.MON_SNAP_LO d i) (R.MON_SNAP_HI d i) := by
  obtain ⟨hlh, hne, -, -⟩ := snap_ne d i j
  obtain ⟨hhl, -, -, -⟩ := snap_ne d j i
  obtain ⟨hl, hh⟩ := hne h
  rw [State.rdPair, State.snapOne, wrPair_rd_other hl hlh, wrPair_rd_other hhl.symm hh, ← State.rdPair]

/-- Every counter's snapshot registers, after all have been written. -/
theorem snapAll_pair (l : List (Fin 16)) (i : Fin 16) : ∀ s : State,
    (forEach l (State.snapOne d) s).rdPair (R.MON_SNAP_LO d i) (R.MON_SNAP_HI d i) =
      if i ∈ l then s.mon[d].cnt[i] % 2 ^ 64 else s.rdPair (R.MON_SNAP_LO d i) (R.MON_SNAP_HI d i) := by
  induction l with
  | nil => exact fun s => (if_neg (by simp)).symm
  | cons j l ih =>
    intro s
    rw [forEach_cons, ih]
    by_cases hi : i ∈ l
    · rw [if_pos hi, if_pos (List.mem_cons_of_mem _ hi), snapOne_mon]
    · rw [if_neg hi]
      by_cases hij : i = j
      · subst hij
        rw [if_pos List.mem_cons_self, State.snapOne, rdPair_wrPair_mod _ (snap_ne d i i).1]
      · rw [if_neg (by simp [hij, hi]), snapOne_other hij]

/-- The registers that a snapshot of die d writes. -/
def snapRegs (d : Fin 6) : List Nat := (List.range 16).map (R.MON_SNAP_LO d ·) ++ (List.range 16).map (R.MON_SNAP_HI d ·)

theorem onlyRegs_snapAll : OnlyRegs (snapRegs d) s (forEach (List.finRange 16) (State.snapOne d) s) :=
  forEach_induct (OnlyRegs.refl _ s) fun i _ u hu => by
    have hlo : R.MON_SNAP_LO d i ∈ snapRegs d := List.mem_append_left _ (List.mem_map.mpr ⟨i, by simp, rfl⟩)
    have hhi : R.MON_SNAP_HI d i ∈ snapRegs d := List.mem_append_right _ (List.mem_map.mpr ⟨i, by simp, rfl⟩)
    exact (hu.wr hlo).wr hhi

theorem snapAll_mon : (forEach (List.finRange 16) (State.snapOne d) s).mon = s.mon :=
  forEach_induct (P := fun u : State => u.mon = s.mon) rfl fun i _ _ hu => (snapOne_mon i).trans hu

/-- A die's counters, snapshot and disarmed. -/
theorem takeSnap_eq : s.takeSnap d =
    ((forEach (List.finRange 16) (State.snapOne d) (s.monSync d)).setMon d
      { (forEach (List.finRange 16) (State.snapOne d) (s.monSync d)).mon[d] with snap := none }).setF (R.MON_CAUSE d) F.MON_CAUSE_SNAP 1 := rfl

/-- Counters, snapshot and cause registers alone differ. -/
theorem setMon_setF_frame (hw : t = { s with regs := t.regs, mdsp := t.mdsp, mon := t.mon }) (x : Mon) (a n : Nat) (f : Fld) :
    (t.setMon d x).setF a f n =
      { s with regs := ((t.setMon d x).setF a f n).regs, mdsp := t.mdsp, mon := ((t.setMon d x).setF a f n).mon } :=
  Settled.withRegs (t := t.setMon d x) (Settled.withMon hw _) _

theorem with_regs_frame {l : Sparse Word} (hu : u = { s with regs := u.regs, mdsp := u.mdsp, mon := u.mon }) (hw : t = { u with regs := l }) :
    t = { s with regs := t.regs, mdsp := t.mdsp, mon := t.mon } := by
  rw [hw]
  exact Settled.withRegs hu l

theorem setMon_rd (x : Mon) (a : Nat) : (s.setMon d x).rd a = s.rd a := (rfl)
theorem setF_mon (a n : Nat) (f : Fld) : (s.setF a f n).mon = s.mon := (rfl)
theorem setF_mdsp (a n : Nat) (f : Fld) : (s.setF a f n).mdsp = s.mdsp := (rfl)
theorem setMon_mdsp (x : Mon) : (s.setMon d x).mdsp = s.mdsp := (rfl)

/-- The armed snapshot of a die. -/
theorem takeSnap_spec (s : State) (d : Fin 6) :
    let t := s.takeSnap d
    t = { s with regs := t.regs, mdsp := t.mdsp, mon := t.mon } ∧
    ((∀ k : Fin 24, k.val / 4 = d.val → s.mdState k ≠ 2) → t.mdsp = s.mdsp) ∧ t.mon[d].snap = none ∧
    t.flag (R.MON_CAUSE d) F.MON_CAUSE_SNAP = true ∧
    (∀ i : Fin 16, t.rdPair (R.MON_SNAP_LO d i) (R.MON_SNAP_HI d i) = t.mon[d].cnt[i] % 2 ^ 64) ∧
    SameRegs (R.MON_CAUSE d :: snapRegs d ++ (List.range 4).map (fun c => R.MDSP_CYC (4 * d.val + c))) s t := by
  have hset : Settled d.val s (s.monSync d) := monSync_settled
  have hstill := fun h => (monSync_still (s := s) (d := d) h).2
  rw [takeSnap_eq]
  dsimp only
  generalize s.monSync d = u at hset hstill ⊢
  have hpair := fun i => snapAll_pair (d := d) (List.finRange 16) i u
  obtain ⟨hframe, hregs⟩ := onlyRegs_snapAll (s := u) (d := d)
  have hmon := snapAll_mon (s := u) (d := d)
  generalize forEach (List.finRange 16) (State.snapOne d) u = w at hpair hframe hregs hmon ⊢
  have hmdsp : w.mdsp = u.mdsp := by rw [hframe]
  have hw := with_regs_frame hset.frame hframe
  refine ⟨?_, fun h => ?_, ?_, ?_, fun i => ?_, fun a ha => ?_⟩
  · rw [setF_mdsp, setMon_mdsp]
    exact setMon_setF_frame hw _ _ _ _
  · rw [setF_mdsp, setMon_mdsp, hmdsp, hstill h]
  · rw [setF_mon, setMon_same]
  · exact State.raise_flag _ _ _ (by decide) rfl
  · obtain ⟨-, -, hlo, hhi⟩ := snap_ne d i i
    have hi := hpair i
    rw [if_pos (List.mem_finRange i)] at hi
    rw [setF_mon, setMon_same, State.rdPair, State.setF_rd_other _ _ _ _ _ hlo, State.setF_rd_other _ _ _ _ _ hhi, setMon_rd, setMon_rd,
      ← State.rdPair, hi, hmon]
  · simp only [List.mem_append, List.mem_cons, not_or] at ha
    obtain ⟨⟨hcause, hsnap⟩, hcyc⟩ := ha
    rw [State.setF_rd_other _ _ _ _ _ hcause, setMon_rd, hregs a hsnap, hset.regs a hcyc]

/-! ### The obligation -/

theorem disBits_group {k : Nat} (h : k < 4) : (s.disBits d).getD k false =
    (s.leafReq (R.VSQ_CAUSE (4 * d.val + k)) (R.VSQ_CAUSE_EN (4 * d.val + k)) ||
      s.leafReq (R.CH_CAUSE (4 * d.val + k)) (R.CH_CAUSE_EN (4 * d.val + k)) ||
      s.leafReq (R.FCU_CAUSE (4 * d.val + k)) (R.FCU_CAUSE_EN (4 * d.val + k))) :=
  match k, h with
  | 0, _ => rfl
  | 1, _ => rfl
  | 2, _ => rfl
  | 3, _ => rfl

theorem exec_monSnapshot_slept {n : Nat} (h : s.mon[d].snap = some n) (hp : s.power.slept ≠ none) :
    exec (.monSnapshot d) s = .next (s.at_ (n * ns)) := by
  show execMonSnapshot d s = _
  rw [execMonSnapshot, h]
  exact if_pos (Option.isSome_iff_ne_none.mpr hp)

theorem exec_monSnapshot_taken {n : Nat} (h : s.mon[d].snap = some n) (hp : s.power.slept = none) :
    exec (.monSnapshot d) s = .next ((s.at_ (n * ns)).takeSnap d) := by
  show execMonSnapshot d s = _
  rw [execMonSnapshot, h]
  exact if_neg (by simp [hp])

theorem exec_monSnapshot_none (h : s.mon[d].snap = none) : exec (.monSnapshot d) s = .next s := by
  show execMonSnapshot d s = _
  rw [execMonSnapshot, h]

theorem monArm_refused (h : s.mon[d].snap ≠ none ∨ s.rdPair (R.MON_SNAP_PT_LO d) (R.MON_SNAP_PT_HI d) < s.ptime + 1000) :
    s.monArm d = s.raise (R.MON_CAUSE d) F.MON_CAUSE_CMDERR := by
  refine if_pos (Bool.or_eq_true_iff.mpr ?_)
  exact h.imp Option.isSome_iff_ne_none.mpr decide_eq_true

theorem monArm_taken (h : s.mon[d].snap = none) (ht : s.ptime + 1000 ≤ s.rdPair (R.MON_SNAP_PT_LO d) (R.MON_SNAP_PT_HI d)) :
    s.monArm d = s.setMon d { s.mon[d] with snap := some (s.rdPair (R.MON_SNAP_PT_LO d) (R.MON_SNAP_PT_HI d)) } :=
  if_neg (by simp [show s.mon[d.val].snap = none from h, ht])

theorem takeSnap_after_at (b : Nat) {t : State} (h : t = { s.at_ b with regs := t.regs, mdsp := t.mdsp, mon := t.mon }) :
    t = { s with now := max s.now b, regs := t.regs, mdsp := t.mdsp, mon := t.mon } := h

/-- Settles O51: the summaries are the bits of `State.disBits` and `State.gis`, `Flushed` says what an unmask has sent, and
`Settled` what the monitor counts of the measurement DSP cores. -/
theorem interruptsReachTheHost : Obligations.InterruptsReachTheHost := by
  unfold Obligations.InterruptsReachTheHost
  intro s d v waited still leaf message isOpen sent
  refine ⟨fun k hk => (dis_bit (by omega)).trans (disBits_group hk), dis_bit (by decide), dis_bit (by decide), gis_die, gis_sync,
    ⟨fun hv => exec_msixSend_idle (.inl (vecCond_above hv)), exec_msixSend_idle, fun hc hp => ?_⟩, fun en fmask => ?_, fun mask => ?_,
    ⟨fun h => ?_, fun h ht => ?_⟩, ⟨_, rfl, rfl⟩, exec_monSnapshot_none, fun n h => ⟨fun hp => ?_, fun hp => ?_⟩⟩
  · exact ⟨_, exec_msixSend_rise hc hp, msixSend_spec _ v.isLt⟩
  · obtain ⟨hframe, hpcie, hpba, hout⟩ := flushPending_flushed { s with pcie := { s.pcie with en := en, fmask := fmask } }
    have hflush := flushPending_flushed { s with pcie := { s.pcie with en := en, fmask := fmask } }
    refine ⟨_, rfl, hframe, hpcie, fun n hn => ?_, ?_⟩
    · rw [hpba n (by omega), decide_eq_true hn, Bool.true_and, ← hflush.vecOpen]
      rfl
    · obtain ⟨l, hl, hmem⟩ := hout
      refine ⟨l, hl, fun o => (hmem o).trans ?_⟩
      simp only [vecCond_pcie]
      refine exists_congr fun i => and_congr_right fun _ => and_congr_right fun _ => and_congr_left fun _ => ?_
      rw [← hflush.vecOpen]
      rfl
  · obtain ⟨hset, hcnt⟩ := monClr_spec s d mask
    exact ⟨_, rfl, hset.frame, hset.regs, fun h => monClr_still h, fun k hk => hset.mon k (Fin.val_ne_of_ne hk), hset.snap d, hcnt⟩
  · exact ⟨_, congrArg Host.Outcome.next (monArm_refused h), onlyWrites_raise _ _⟩
  · exact ⟨_, congrArg Host.Outcome.next (monArm_taken h ht), rfl⟩
  · exact ⟨_, exec_monSnapshot_slept h hp, rfl⟩
  · obtain ⟨hframe, hmdsp, hsnap, hflag, hpair, hregs⟩ := takeSnap_spec (s.at_ (n * ns)) d
    exact ⟨_, exec_monSnapshot_taken h hp, takeSnap_after_at _ hframe, hmdsp, hsnap, hflag, hpair, hregs⟩

end Sys2Proof.Machine
end

section
/-! SLEEP and the wake (19_reset_clocks_power_pins.md R598 to R600; 16_security_lifecycle.md R542). -/
namespace Sys2Proof.Machine
variable {s t u : State}

/-! ### Loops -/

/-- What every step of a loop keeps, and what each brings about that the others keep. -/
theorem forEach_each {α σ : Type} {P : σ → Prop} {Q : α → σ → Prop} {f : α → σ → σ} (l : List α) {x : σ} (hx : P x)
    (hP : ∀ a y, P y → P (f a y) ∧ Q a (f a y)) (hQ : ∀ a b y, P y → Q a y → Q a (f b y)) :
    P (forEach l f x) ∧ ∀ a ∈ l, Q a (forEach l f x) := by
  induction l generalizing x with
  | nil => exact ⟨hx, nofun⟩
  | cons b l ih =>
    rw [forEach_cons]
    obtain ⟨hp, hq⟩ := ih (hP b x hx).1
    refine ⟨hp, fun a ha => ?_⟩
    rcases List.mem_cons.mp ha with rfl | ha
    · exact (forEach_induct (P := fun y => P y ∧ Q a y) (hP a x hx) fun c _ y hy => ⟨(hP c y hy.1).1, hQ a c y hy.1 hy.2⟩).2
    · exact hq a ha

/-! ### Keys go (16 R542; 13 R463) -/

theorem v_setV_same (v : Fin 64) (x : Vault) : (s.setV v x).v v = x := Vector.getElem_set_self _
theorem v_setV_other {v w : Fin 64} (h : w ≠ v) (x : Vault) : (s.setV v x).v w = s.v w :=
  Vector.getElem_set_ne v.isLt w.isLt fun e => h (Fin.ext e.symm)

theorem setV_frame {l : Vector Vault 64} (h : t = { s with vault := l }) (v : Fin 64) (x : Vault) :
    t.setV v x = { s with vault := (t.setV v x).vault } := by
  rw [h]
  rfl

/-- Only vault keys, what the keeper holds and a load's keys differ. -/
structure KeysGone (s t : State) : Prop where
  frame : t = { s with vault := t.vault, keeper := t.keeper, cfg := t.cfg }
  keeper : t.keeper = { s.keeper with nonceTap := none, nonceBox := none, thermos := none }
  keys : ∀ v, (t.v v).keys = []

theorem zeroKeys_gone (s : State) : KeysGone s s.zeroKeys := by
  have h := forEach_each (P := fun t : State => t = { s with vault := t.vault }) (Q := fun v t => (t.v v).keys = [])
    (f := fun v s => s.setV v { s.v v with keys := [] }) (List.finRange 64) (x := s) rfl
    (fun v y hy => ⟨setV_frame hy v _, by rw [v_setV_same]⟩)
    (fun v w y _ hv => by
      by_cases hvw : v = w
      · rw [hvw, v_setV_same]
      · rw [v_setV_other hvw, hv])
  have hrfl : s.zeroKeys = { forEach (List.finRange 64) (fun v s => s.setV v { s.v v with keys := [] }) s with
    keeper := s.zeroKeys.keeper, cfg := s.zeroKeys.cfg } := rfl
  have hkeeper : s.zeroKeys.keeper = { (forEach (List.finRange 64) (fun v s => s.setV v { s.v v with keys := [] }) s).keeper with
    nonceTap := none, nonceBox := none, thermos := none } := rfl
  obtain ⟨hframe, hkeys⟩ := h
  generalize s.zeroKeys = t at hrfl hkeeper ⊢
  generalize forEach (List.finRange 64) (fun v s => s.setV v { s.v v with keys := [] }) s = u at hframe hkeys hrfl hkeeper
  refine ⟨?_, ?_, fun v => ?_⟩
  · rw [hrfl, hframe]
  · rw [hkeeper, hframe]
  · rw [hrfl]
    exact hkeys v (List.mem_finRange v)

/-! ### Entry into SLEEP (R598) -/

/-- Where no measurement DSP core waits, the counters alone move. -/
theorem monSyncs_frame (h : ∀ k : Fin 24, s.mdState k ≠ 2) :
    ∃ x, forEach (List.finRange 6) (fun d s => s.monSync d) s = { s with mon := x } :=
  forEach_induct (P := fun u : State => ∃ x, u = { s with mon := x }) ⟨_, rfl⟩ fun d _ u ⟨x, hx⟩ => by
    have hu : ∀ k : Fin 24, u.mdState k ≠ 2 := fun k => by rw [hx]; exact h k
    have hset := monSync_settled (s := u) (d := d)
    obtain ⟨hregs, hmdsp⟩ := monSync_still (s := u) (d := d) fun k _ => hu k
    refine ⟨(u.monSync d).mon, ?_⟩
    rw [hset.frame, hregs, hmdsp, hx]

/-- Scrub passes end; registers of their dies and the passes alone differ. -/
structure ScrubsEnded (s t : State) : Prop where
  frame : t = { s with regs := t.regs, scrub := t.scrub }
  regs : ∀ a, (∀ d : Fin 6, a ≠ R.PROM_SCR_STAT d ∧ a ≠ R.PROM_CAUSE d) → t.rd a = s.rd a

theorem setScrub_rd (d : Fin 6) (x : Option Scrub) (a : Nat) : (s.setScrub d x).rd a = s.rd a := (rfl)

theorem scrub_frame (h : t = { s with regs := t.regs, scrub := t.scrub }) (l : Sparse Word) (x : Vector (Option Scrub) 6) :
    ({ t with regs := l, scrub := x } : State) = { s with regs := l, scrub := x } := by rw [h]

/-- A pass that ends, over abstract registers. -/
theorem setScrub_frame (h : t = { s with regs := t.regs, scrub := t.scrub }) (d : Fin 6) (a b c n m k : Nat) (e f g : Fld) :
    ((((t.setF a e n).setF b f m).setScrub d none).setF c g k) =
      { s with regs := ((((t.setF a e n).setF b f m).setScrub d none).setF c g k).regs, scrub := t.scrub.set d none } :=
  scrub_frame h _ _

theorem scrDone_eq (s : State) (d : Fin 6) (cut : Bool) : s.scrDone d cut = ((((s.setF (R.PROM_SCR_STAT d) F.PROM_SCR_STAT_BUSY 0).setF
    (R.PROM_SCR_STAT d) F.PROM_SCR_STAT_CUT (b2n cut)).setScrub d none).setF (R.PROM_CAUSE d) F.PROM_CAUSE_SCRDONE 1) := rfl

theorem setF_scrub (a n : Nat) (f : Fld) : (s.setF a f n).scrub = s.scrub := (rfl)
theorem setScrub_scrub (d : Fin 6) (x : Option Scrub) : (s.setScrub d x).scrub = s.scrub.set d x := (rfl)

theorem scrDone_ended {d : Fin 6} {cut : Bool} (h : ScrubsEnded s t) : ScrubsEnded s (t.scrDone d cut) ∧ (t.scrDone d cut).scrub = t.scrub.set d none := by
  rw [scrDone_eq]
  have hscrub : ((((t.setF (R.PROM_SCR_STAT d) F.PROM_SCR_STAT_BUSY 0).setF (R.PROM_SCR_STAT d) F.PROM_SCR_STAT_CUT (b2n cut)).setScrub d
      none).setF (R.PROM_CAUSE d) F.PROM_CAUSE_SCRDONE 1).scrub = t.scrub.set d none := by
    rw [setF_scrub, setScrub_scrub, setF_scrub, setF_scrub]
  refine ⟨⟨?_, fun a ha => ?_⟩, hscrub⟩
  · rw [hscrub]
    exact setScrub_frame h.frame d _ _ _ _ _ _ _ _ _
  · obtain ⟨hstat, hcause⟩ := ha d
    rw [State.setF_rd_other _ _ _ _ _ hcause, setScrub_rd, State.setF_rd_other _ _ _ _ _ hstat, State.setF_rd_other _ _ _ _ _ hstat, h.regs a ha]

theorem scrubsEnd (s : State) : ScrubsEnded s (forEach (List.finRange 6) (fun d s => if s.scrub[d].isSome then s.scrDone d true else s) s) ∧
    ∀ d : Fin 6, (forEach (List.finRange 6) (fun d s => if s.scrub[d].isSome then s.scrDone d true else s) s).scrub[d] = none := by
  have h := forEach_each (P := ScrubsEnded s) (Q := fun (d : Fin 6) t => t.scrub[d] = none)
    (f := fun (d : Fin 6) s => if s.scrub[d].isSome then s.scrDone d true else s) (List.finRange 6) (x := s) ⟨rfl, fun _ _ => rfl⟩
    (fun d y hy => by
      split
      case isTrue =>
        obtain ⟨hended, hscrub⟩ := scrDone_ended (d := d) (cut := true) hy
        exact ⟨hended, by simp [hscrub]⟩
      case isFalse hn => exact ⟨hy, by simpa using hn⟩)
    (fun d e y hy hd => by
      split
      case isTrue =>
        have hscrub := (scrDone_ended (d := e) (cut := true) hy).2
        have hd' : y.scrub[d.val] = none := hd
        simp [hscrub, Vector.getElem_set, hd']
      case isFalse => exact hd)
  exact ⟨h.1, fun d => h.2 d (List.mem_finRange d)⟩

/-- An entry looked for by its number. -/
theorem keyed_find {α : Type} {n : Nat} (p : Fin n → Prop) [DecidablePred p] (f : Fin n → α) (v : Fin n) (l : List (Fin n)) :
    ((l.filterMap (fun v => if p v then some (v.val, f v) else none)).find? (fun e => e.1 == v.val)).map (·.2) =
      if v ∈ l ∧ p v then some (f v) else none := by
  induction l with
  | nil => simp
  | cons w l ih =>
    by_cases hw : p w
    · rw [List.filterMap_cons]
      simp only [if_pos hw]
      by_cases hwv : w = v
      · subst hwv
        simp [hw]
      · rw [List.find?_cons_of_neg (by simpa using Fin.val_ne_of_ne hwv), ih]
        simp [show v ≠ w from fun e => hwv e.symm]
    · rw [List.filterMap_cons]
      simp only [if_neg hw]
      rw [ih]
      by_cases hwv : w = v
      · subst hwv
        simp [hw]
      · simp [show v ≠ w from fun e => hwv e.symm]

/-- The keys of the enabled vaults. -/
def State.thermosKeys (s : State) : List (Nat × List (Nat × BitVec 896)) :=
  (List.finRange 64).filterMap (fun v => if s.vctrl v.val F.VLT_V_CTRL_EN = 1 then some (v.val, (s.v v).keys) else none)

/-- What the thermos holds of a vault. -/
theorem thermos_find (s : State) (v : Fin 64) : (s.thermosKeys.find? (fun e => e.1 == v.val)).map (·.2) = if s.vctrl v.val F.VLT_V_CTRL_EN = 1 then some (s.v v).keys else none := by
  rw [State.thermosKeys, keyed_find]
  simp

theorem fillThermos_spec (s : State) : ∃ y, s.fillThermos.keeper.thermos = some y ∧ y.root = s.keeper.root ∧ y.dbg = s.dbgState ∧
    y.fails = s.fails ∧ (∀ v : Fin 64, (y.keys.find? (fun e => e.1 == v.val)).map (·.2) =
      if s.vctrl v.val F.VLT_V_CTRL_EN = 1 then some (s.v v).keys else none) ∧
    s.fillThermos.keeper.nonceTap = none ∧ s.fillThermos.keeper.nonceBox = none ∧ (∀ v, (s.fillThermos.v v).keys = []) ∧
    s.fillThermos = { s with vault := s.fillThermos.vault, keeper := s.fillThermos.keeper, cfg := s.fillThermos.cfg } := by
  obtain ⟨hframe, hkeeper, hkeys⟩ := zeroKeys_gone s
  have heq : s.fillThermos = { s.zeroKeys with keeper := { s.zeroKeys.keeper with
      thermos := some ⟨s.keeper.root, s.dbgState, s.fails, s.thermosKeys⟩, nonceTap := none, nonceBox := none } } := rfl
  rw [heq]
  generalize s.zeroKeys = u at hframe hkeys ⊢
  refine ⟨_, rfl, rfl, rfl, rfl, thermos_find s, rfl, rfl, hkeys, ?_⟩
  exact (congrArg (fun z : State => ({ z with keeper := _ } : State)) hframe :)

/-- A port of memory goes into self-refresh. -/
def State.selfRefresh (q : Nat) (s : State) : State :=
  if s.mstate q = 2 then (s.setF (R.MEMP_STAT q) F.MEMP_STAT_OWED 0).setF (R.MEMP_STAT q) F.MEMP_STAT_STATE 3 else s

theorem mempStat_inj {q r : Nat} (h : R.MEMP_STAT q = R.MEMP_STAT r) : q = r := by
  unfold R.MEMP_STAT mempBase dieBase at h
  omega

structure Refreshing (s t : State) : Prop where
  frame : t = { s with regs := t.regs }
  regs : ∀ a, (∀ q, a ≠ R.MEMP_STAT q) → t.rd a = s.rd a

theorem selfRefresh_same {q : Nat} (h : s.mstate q = 2) : (s.selfRefresh q).mstate q = 3 := by
  rw [State.selfRefresh, if_pos h]
  exact setF_fld_of_lt (by decide) (by decide)

theorem selfRefresh_other {q r : Nat} (h : r ≠ q) : (s.selfRefresh q).mstate r = s.mstate r := by
  have hne : R.MEMP_STAT r ≠ R.MEMP_STAT q := fun e => h (mempStat_inj e)
  unfold State.selfRefresh
  split
  · rw [State.mstate, State.setF_fld_other _ _ _ _ _ _ (.inl hne), State.setF_fld_other _ _ _ _ _ _ (.inl hne), State.mstate]
  · rfl

theorem regs_frame (h : t = { s with regs := t.regs }) (l : Sparse Word) : ({ t with regs := l } : State) = { s with regs := l } := by rw [h]

theorem setF_frame (h : t = { s with regs := t.regs }) (a n : Nat) (f : Fld) : t.setF a f n = { s with regs := (t.setF a f n).regs } :=
  regs_frame h _

theorem Refreshing.selfRefresh {q : Nat} (h : Refreshing s t) : Refreshing s (t.selfRefresh q) := by
  unfold State.selfRefresh
  split
  · exact ⟨setF_frame (setF_frame h.frame _ _ _) _ _ _, fun a ha => by
      rw [State.setF_rd_other _ _ _ _ _ (ha q), State.setF_rd_other _ _ _ _ _ (ha q), h.regs a ha]⟩
  · exact h

/-- Every port that was READY is in SELF_REFRESH. -/
theorem selfRefresh_all (s : State) : Refreshing s (forEach (List.range 24) State.selfRefresh s) ∧
    ∀ q, q < 24 → s.mstate q = 2 → (forEach (List.range 24) State.selfRefresh s).mstate q = 3 := by
  have h := forEach_each (P := fun t : State => Refreshing s t ∧ ∀ q, s.mstate q = 2 → t.mstate q = 2 ∨ t.mstate q = 3)
    (Q := fun q t => s.mstate q = 2 → t.mstate q = 3) (f := State.selfRefresh) (List.range 24) (x := s)
    ⟨⟨rfl, fun _ _ => rfl⟩, fun _ h => .inl h⟩
    (fun q y ⟨hy, hst⟩ => by
      have hq : s.mstate q = 2 → (y.selfRefresh q).mstate q = 3 := fun h2 => by
        rcases hst q h2 with h | h
        · exact selfRefresh_same h
        · rw [State.selfRefresh, if_neg (by rw [h]; decide), h]
      refine ⟨⟨hy.selfRefresh, fun r hr => ?_⟩, hq⟩
      by_cases hrq : r = q
      · subst hrq
        exact .inr (hq hr)
      · rw [selfRefresh_other hrq]
        exact hst r hr)
    (fun q r y _ hq h2 => by
      by_cases hqr : q = r
      · subst hqr
        rw [State.selfRefresh, if_neg (by rw [hq h2]; decide), hq h2]
      · rw [selfRefresh_other hqr, hq h2])
  exact ⟨h.1.1, fun q hq h2 => h.2 q (List.mem_range.mpr hq) h2⟩

end Sys2Proof.Machine
end

section
/-! Entry into SLEEP (19_reset_clocks_power_pins.md R598). -/
namespace Sys2Proof.Machine
variable {s t u : State}

/-! ### Tether ports go down -/

structure PortsDown (s t : State) : Prop where
  frame : t = { s with regs := t.regs, tsy := t.tsy }
  regs : ∀ a, a ≠ R.TSY_CAUSE → (∀ q, a ≠ R.TSY_PORT_STAT q) → t.rd a = s.rd a

theorem tsy_regs_frame (h : t = { s with regs := t.regs, tsy := t.tsy }) (l : Sparse Word) :
    ({ t with regs := l } : State) = { s with regs := l, tsy := t.tsy } := by rw [h]
theorem tsy_frame (h : t = { s with regs := t.regs, tsy := t.tsy }) (y : TimeSync) :
    ({ t with tsy := y } : State) = { s with regs := t.regs, tsy := y } := by rw [h]

theorem PortsDown.refl (s : State) : PortsDown s s := ⟨rfl, fun _ _ _ => rfl⟩

theorem PortsDown.setF {a n : Nat} {f : Fld} (h : PortsDown s t) (ha : a = R.TSY_CAUSE ∨ ∃ q, a = R.TSY_PORT_STAT q) :
    PortsDown s (t.setF a f n) := by
  refine ⟨tsy_regs_frame h.frame _, fun b hb hq => ?_⟩
  rw [State.setF_rd_other _ _ _ _ _ ?_, h.regs b hb hq]
  rcases ha with rfl | ⟨q, rfl⟩
  · exact hb
  · exact hq q

theorem PortsDown.modPort {p : Fin 12} {f : Tether → Tether} (h : PortsDown s t) : PortsDown s (t.modPort p f) :=
  ⟨tsy_frame h.frame _, h.regs⟩

theorem portStat_inj {p q : Nat} (h : R.TSY_PORT_STAT p = R.TSY_PORT_STAT q) : p = q := by
  unfold R.TSY_PORT_STAT at h
  omega

theorem portDown_eq (q : Nat) : s.portDown q = if s.pstate q == 3 then (s.setPstate q 0).setF R.TSY_CAUSE F.TSY_CAUSE_LINKDN 1
    else s.setPstate q 0 := rfl

theorem PortsDown.portDown {q : Nat} (h : PortsDown s t) : PortsDown s (t.portDown q) := by
  rw [portDown_eq]
  split
  · exact PortsDown.setF (PortsDown.setF h (.inr ⟨q, rfl⟩)) (.inl rfl)
  · exact PortsDown.setF h (.inr ⟨q, rfl⟩)

theorem portDown_same (s : State) (q : Nat) : (s.portDown q).pstate q = 0 := by
  have h0 : (s.setPstate q 0).pstate q = 0 := setF_fld_of_lt (by decide) (by decide)
  rw [portDown_eq]
  split
  · rw [State.pstate, State.setF_fld_other _ _ _ _ _ _ (.inl (portStat_ne_cause q)), ← State.pstate, h0]
  · exact h0

theorem portDown_other (s : State) {q r : Nat} (h : r ≠ q) : (s.portDown q).pstate r = s.pstate r := by
  have h0 : (s.setPstate q 0).pstate r = s.pstate r :=
    State.setF_fld_other _ _ _ _ _ _ (.inl fun e => h (portStat_inj e))
  rw [portDown_eq]
  split
  · rw [State.pstate, State.setF_fld_other _ _ _ _ _ _ (.inl (portStat_ne_cause r)), ← State.pstate, h0]
  · exact h0

/-- A port goes down, and what it has to send is lost. -/
def State.silence (p : Fin 12) (s : State) : State := (s.portDown p.val).modPort p (fun x => { x with outq := [] })

theorem silence_all (s : State) : PortsDown s (forEach (List.finRange 12) State.silence s) ∧
    ∀ q, q < 12 → (forEach (List.finRange 12) State.silence s).pstate q = 0 := by
  have h := forEach_each (P := PortsDown s) (Q := fun (p : Fin 12) t => t.pstate p = 0) (f := State.silence) (List.finRange 12)
    (PortsDown.refl s) (fun p y hy => ⟨hy.portDown.modPort, portDown_same y p⟩)
    (fun p r y _ hp => by
      show (y.portDown r.val).pstate p = 0
      by_cases hpr : p = r
      · rw [hpr, portDown_same]
      · rw [portDown_other y (Fin.val_ne_of_ne hpr), hp])
  exact ⟨h.1, fun q hq => h.2 ⟨q, hq⟩ (List.mem_finRange _)⟩

/-! ### The whole entry -/

/-- SLEEP as it stands after its entry from u. -/
def Slept (u t : State) : Prop :=
  t.pstate19 = 2 ∧ t.power.slept = some u.now ∧ (∀ v, (t.v v).keys = []) ∧
  (∃ y, t.keeper.thermos = some y ∧ y.root = u.keeper.root ∧ y.dbg = u.dbgState ∧ y.fails = u.fails ∧
    ∀ v : Fin 64, (y.keys.find? (fun e => e.1 == v.val)).map (·.2) =
      if u.vctrl v.val F.VLT_V_CTRL_EN = 1 then some (u.v v).keys else none) ∧
  t.keeper.nonceTap = none ∧ t.keeper.nonceBox = none ∧ (∀ q, q < 24 → u.mstate q = 2 → t.mstate q = 3) ∧
  (∀ q, q < 12 → t.pstate q = 0) ∧ (∀ e : Fin 6, t.scrub[e] = none) ∧ t.lines = u.lines ∧ t.core = u.core ∧ t.mdsp = u.mdsp

/-- The registers that scrub passes write are those of no vault, keeper or port of memory. -/
theorem scrub_regs_ne (d : Fin 6) : (∀ v : Fin 64, R.VLT_V_CTRL 0 v ≠ R.PROM_SCR_STAT d ∧ R.VLT_V_CTRL 0 v ≠ R.PROM_CAUSE d) ∧
    (R.KPR_STAT ≠ R.PROM_SCR_STAT d ∧ R.KPR_STAT ≠ R.PROM_CAUSE d) ∧
    ∀ q, q < 24 → R.MEMP_STAT q ≠ R.PROM_SCR_STAT d ∧ R.MEMP_STAT q ≠ R.PROM_CAUSE d := by
  unfold R.VLT_V_CTRL R.PROM_SCR_STAT R.PROM_CAUSE R.KPR_STAT R.MEMP_STAT vltBase promBase kprBase mempBase packageBase dieBase
  refine ⟨fun v => ?_, ?_, fun q hq => ?_⟩ <;> omega

theorem tree_regs_ne {q : Nat} (hq : q < 24) : R.MEMP_STAT q ≠ R.TSY_CAUSE ∧ (∀ p, R.MEMP_STAT q ≠ R.TSY_PORT_STAT p) ∧
    R.MEMP_STAT q ≠ R.TSY_STAT ∧ R.MEMP_STAT q ≠ R.PKG_PWR := by
  unfold R.MEMP_STAT R.TSY_CAUSE R.TSY_PORT_STAT R.TSY_STAT R.PKG_PWR mempBase tsyBase pkgBase packageBase dieBase
  refine ⟨?_, fun p => ?_, ?_, ?_⟩ <;> omega

theorem portStat_ne_pwr (p : Nat) (_ : p < 12) : R.TSY_PORT_STAT p ≠ R.PKG_PWR := by
  unfold R.TSY_PORT_STAT R.PKG_PWR tsyBase pkgBase
  omega

/-- SLEEP from now on. -/
def State.asleep (s : State) : State := { s with power := { s.power with slept := some s.now } }

theorem asleep_frame (s : State) (a b n m : Nat) (e f : Fld) : ((s.setF a e n).setF b f m).asleep =
    { s with regs := ((s.setF a e n).setF b f m).regs, power := { s.power with slept := some s.now } } := rfl
theorem asleep_rd (a : Nat) : s.asleep.rd a = s.rd a := (rfl)

/-- SLEEP is shown. -/
def State.sleeps (s : State) : State := (s.showTree.setPower 2).asleep

structure Sleeps (s t : State) : Prop where
  shown : t.pstate19 = 2
  frame : t = { s with regs := t.regs, power := { s.power with slept := some s.now } }
  regs : SameRegs [R.TSY_STAT, R.PKG_PWR] s t

theorem sleeps_spec (s : State) : Sleeps s s.sleeps := by
  obtain ⟨n, hn, -⟩ := showTree_eq s
  rw [State.sleeps, hn, State.setPower]
  refine ⟨?_, asleep_frame _ _ _ _ _ _ _, fun a ha => ?_⟩
  · rw [State.pstate19, State.fld, asleep_rd, ← State.fld]
    exact setF_fld_of_lt (by decide) (by decide)
  · obtain ⟨hstat, hpwr⟩ : a ≠ R.TSY_STAT ∧ a ≠ R.PKG_PWR := by simpa using ha
    rw [asleep_rd, State.setF_rd_other _ _ _ _ _ hpwr, State.setF_rd_other _ _ _ _ _ hstat]

/-- What the entry does before the ports of the tree go down. -/
def State.sleepMemory (s : State) : State :=
  forEach (List.range 24) State.selfRefresh (forEach (List.finRange 6)
    (fun d s => if s.scrub[d].isSome then s.scrDone d true else s) (forEach (List.finRange 6) (fun d s => s.monSync d) s)).fillThermos

theorem enterSleep_eq : s.enterSleep = (forEach (List.finRange 12) State.silence s.sleepMemory).sleeps := by
  unfold State.enterSleep State.sleeps State.asleep State.sleepMemory State.silence State.selfRefresh
  dsimp only

/-- Memory and keys as the entry leaves them. -/
structure MemorySlept (s t : State) : Prop where
  frame : t = { s with
    regs := t.regs, mon := t.mon, scrub := t.scrub, vault := t.vault, keeper := t.keeper, cfg := t.cfg }
  keys : ∀ v, (t.v v).keys = []
  thermos : ∃ y, t.keeper.thermos = some y ∧ y.root = s.keeper.root ∧ y.dbg = s.dbgState ∧ y.fails = s.fails ∧
    ∀ v : Fin 64, (y.keys.find? (fun e => e.1 == v.val)).map (·.2) =
      if s.vctrl v.val F.VLT_V_CTRL_EN = 1 then some (s.v v).keys else none
  nonceTap : t.keeper.nonceTap = none
  nonceBox : t.keeper.nonceBox = none
  ports : ∀ q, q < 24 → s.mstate q = 2 → t.mstate q = 3
  scrub : ∀ e : Fin 6, t.scrub[e] = none

theorem sleepMemory_slept (h : ∀ k : Fin 24, s.mdState k ≠ 2) : MemorySlept s s.sleepMemory := by
  obtain ⟨x, hx⟩ := monSyncs_frame h
  unfold State.sleepMemory
  rw [hx]
  obtain ⟨hended, hscrub⟩ := scrubsEnd ({ s with mon := x } : State)
  generalize forEach (List.finRange 6) (fun d s => if s.scrub[d].isSome then s.scrDone d true else s) ({ s with mon := x } : State) = u
    at hended hscrub ⊢
  obtain ⟨y, hy, hroot, hdbg, hfails, hfind, htap, hbox, hkeys, hframe⟩ := fillThermos_spec u
  generalize u.fillThermos = w at hy htap hbox hkeys hframe ⊢
  obtain ⟨hfresh, hports⟩ := selfRefresh_all w
  generalize forEach (List.range 24) State.selfRefresh w = t at hfresh hports ⊢
  have hwrd : ∀ a, (∀ d : Fin 6, a ≠ R.PROM_SCR_STAT d ∧ a ≠ R.PROM_CAUSE d) → w.rd a = s.rd a := fun a ha => by
    rw [hframe]
    exact hended.regs a ha
  have hurd : ∀ a, (∀ d : Fin 6, a ≠ R.PROM_SCR_STAT d ∧ a ≠ R.PROM_CAUSE d) → u.rd a = s.rd a := hended.regs
  have hkeeper : t.keeper = w.keeper := (congrArg State.keeper hfresh.frame :)
  have hvault : u.vault = s.vault := (congrArg State.vault hended.frame :)
  have hkpr : u.rd R.KPR_STAT = s.rd R.KPR_STAT := hurd _ fun d => (scrub_regs_ne d).2.1
  have hctrl : ∀ v : Fin 64, u.vctrl v F.VLT_V_CTRL_EN = s.vctrl v F.VLT_V_CTRL_EN := fun v =>
    fld_congr (hurd _ fun d => (scrub_regs_ne d).1 v) _
  refine ⟨?_, fun v => ?_, ⟨y, by rw [hkeeper, hy], ?_, ?_, ?_, fun v => ?_⟩, by rw [hkeeper, htap], by rw [hkeeper, hbox], fun q hq h2 => ?_, fun e => ?_⟩
  · rw [hfresh.frame, hframe, hended.frame]
  · rw [State.v, (congrArg State.vault hfresh.frame :)]
    exact hkeys v
  · exact hroot.trans (congrArg (fun z : State => z.keeper.root) hended.frame :)
  · rw [hdbg, State.dbgState, fld_congr hkpr, State.dbgState]
  · rw [hfails, State.fails, fld_congr hkpr, State.fails]
  · rw [hfind, hctrl, State.v, hvault, State.v]
  · refine hports q hq ?_
    rw [State.mstate, fld_congr (hwrd _ fun d => (scrub_regs_ne d).2.2 q hq), ← State.mstate, h2]
  · have hs : t.scrub = u.scrub := by
      rw [hfresh.frame, hframe]
    simpa [hs] using hscrub e

theorem enterSleep_slept (h : ∀ k : Fin 24, s.mdState k ≠ 2) : Slept s s.enterSleep := by
  rw [enterSleep_eq]
  obtain ⟨hframe, hkeys, hthermos, htap, hbox, hports, hscrub⟩ := sleepMemory_slept h
  generalize s.sleepMemory = u at *
  obtain ⟨⟨hdown, hregs⟩, hdowns⟩ := silence_all u
  generalize forEach (List.finRange 12) State.silence u = w at *
  obtain ⟨hstate, hlast, hsame⟩ := sleeps_spec w
  generalize w.sleeps = t at *
  have hnow : w.now = s.now := by rw [hdown, hframe]
  have ht : t = { s with
      regs := t.regs, mon := u.mon, scrub := u.scrub, vault := u.vault, keeper := u.keeper, cfg := u.cfg,
                      tsy := w.tsy, power := t.power } := by rw [hlast, hdown, hframe]
  have hrd : ∀ q, q < 24 → t.mstate q = u.mstate q := fun q hq => by
    obtain ⟨hc, hp, htree, hpwr⟩ := tree_regs_ne hq
    rw [State.mstate, fld_congr (hsame _ (by simp [htree, hpwr])), fld_congr (hregs _ hc hp), State.mstate]
  have hpow : t.power.slept = some w.now := (congrArg (fun z : State => z.power.slept) hlast :)
  have hkeeper : t.keeper = u.keeper := by rw [ht]
  have hvault : t.vault = u.vault := by rw [ht]
  have hscr : t.scrub = u.scrub := by rw [ht]
  refine ⟨hstate, by rw [hpow, hnow], fun v => ?_, by rw [hkeeper]; exact hthermos, by rw [hkeeper, htap], by rw [hkeeper, hbox],
    fun q hq h2 => by rw [hrd q hq, hports q hq h2], fun q hq => ?_, fun e => ?_, by rw [ht], by rw [ht], by rw [ht]⟩
  · rw [State.v, hvault]
    exact hkeys v
  · rw [State.pstate, fld_congr (hsame _ (by simp [portStat_ne_stat, portStat_ne_pwr q hq])), ← State.pstate, hdowns q hq]
  · simpa [hscr] using hscrub e

end Sys2Proof.Machine
end

section
/-! The wake from SLEEP (19_reset_clocks_power_pins.md R599, R600; 16_security_lifecycle.md R542). -/
namespace Sys2Proof.Machine
variable {s t u : State} {d : Fin 6}

/-! ### Vault stages from the thermos -/

/-- A vault's keys as the thermos holds them. -/
def Thermos.keysOf (x : Thermos) (v : Fin 64) (old : List (Nat × BitVec 896)) : List (Nat × BitVec 896) :=
  match x.keys.find? (fun e => e.1 == v.val) with
  | some e => e.2
  | none => old

/-- A vault's stage is reloaded. -/
def State.reload (x : Thermos) (v : Fin 64) (s : State) : State :=
  match x.keys.find? (fun e => e.1 == v.val) with
  | none => s
  | some e => s.setV v { s.v v with keys := e.2 }

theorem reload_keys (x : Thermos) (v : Fin 64) (s : State) : ((s.reload x v).v v).keys = x.keysOf v (s.v v).keys := by
  unfold State.reload Thermos.keysOf
  cases x.keys.find? (fun e => e.1 == v.val) with
  | none => rfl
  | some e => exact congrArg Vault.keys (v_setV_same v _)

theorem reload_other (x : Thermos) {v w : Fin 64} (h : w ≠ v) (s : State) : (s.reload x v).v w = s.v w := by
  unfold State.reload
  split
  · rfl
  · rw [v_setV_other h]

theorem reload_frame {l : Vector Vault 64} (x : Thermos) (v : Fin 64) (h : t = { s with vault := l }) : ∃ k, t.reload x v = { s with vault := k } := by
  unfold State.reload
  split
  · exact ⟨l, h⟩
  · exact ⟨_, setV_frame h v _⟩

theorem keysOf_idem (x : Thermos) (v : Fin 64) (old : List (Nat × BitVec 896)) : x.keysOf v (x.keysOf v old) = x.keysOf v old := by
  unfold Thermos.keysOf
  split <;> rfl

theorem reload_all (x : Thermos) (s : State) : (∃ k, forEach (List.finRange 64) (State.reload x) s = { s with vault := k }) ∧
    ∀ v, ((forEach (List.finRange 64) (State.reload x) s).v v).keys = x.keysOf v (s.v v).keys := by
  have h := forEach_each (P := fun t : State => (∃ k, t = { s with vault := k }) ∧
      ∀ v, (t.v v).keys = (s.v v).keys ∨ (t.v v).keys = x.keysOf v (s.v v).keys)
    (Q := fun v t => (t.v v).keys = x.keysOf v (s.v v).keys) (f := State.reload x) (List.finRange 64) (x := s) ⟨⟨_, rfl⟩, fun _ => .inl rfl⟩
    (fun v y ⟨⟨k, hk⟩, hold⟩ => by
      have hv : ((y.reload x v).v v).keys = x.keysOf v (s.v v).keys := by
        rw [reload_keys]
        rcases hold v with h | h
        · rw [h]
        · rw [h, keysOf_idem]
      refine ⟨⟨reload_frame x v hk, fun w => ?_⟩, hv⟩
      by_cases hwv : w = v
      · rw [hwv]
        exact .inr hv
      · rw [reload_other x hwv]
        exact hold w)
    (fun v w y _ hv => by
      by_cases hvw : v = w
      · rw [hvw] at hv ⊢
        rw [reload_keys, hv, keysOf_idem]
      · rw [reload_other x hvw, hv])
  exact ⟨h.1.1, fun v => h.2 v (List.mem_finRange v)⟩

/-- What the thermos gives back when every entry of it passes its check. -/
structure Reloaded (s t : State) : Prop where
  frame : t = { s with vault := t.vault, keeper := t.keeper }
  thermos : t.keeper.thermos = none
  keys : ∀ y, s.keeper.thermos = some y → ∀ v, (t.v v).keys = y.keysOf v (s.v v).keys

theorem emptyThermos_some {x : Thermos} (h : s.keeper.thermos = some x) :
    s.emptyThermos [] = (forEach (List.finRange 64) (State.reload x) s).modKeeper (fun k => { k with thermos := none }) := by
  have hone : (fun (v : Fin 64) (s : State) => match x.keys.find? (fun e => e.1 == v.val) with
      | none => s
      | some e => if ([] : List Nat).contains v.val then
          (s.setV v { s.v v with keys := e.2.map (fun k => (k.1, s.deriveKeys v k.1)) }).kprCause F.KPR_CAUSE_THERM
        else s.setV v { s.v v with keys := e.2 }) = State.reload x := by
    funext v s
    unfold State.reload
    split <;> rfl
  unfold State.emptyThermos
  rw [h]
  dsimp only
  rw [← hone]
  rfl

theorem emptyThermos_reloaded (s : State) : Reloaded s (s.emptyThermos []) := by
  cases h : s.keeper.thermos with
  | none =>
    have hs : s.emptyThermos [] = s := by
      unfold State.emptyThermos
      rw [h]
    rw [hs]
    exact ⟨rfl, h, fun y hy => absurd (h.symm.trans hy) nofun⟩
  | some x =>
    obtain ⟨⟨k, hk⟩, hkeys⟩ := reload_all x s
    rw [emptyThermos_some h]
    generalize forEach (List.finRange 64) (State.reload x) s = u at hk hkeys ⊢
    refine ⟨?_, rfl, fun y hy => ?_⟩
    · exact (congrArg (fun z : State => ({ z with keeper := (u.modKeeper (fun k => { k with thermos := none })).keeper } : State)) hk).trans
        (by rw [hk]; rfl)
    · obtain rfl : x = y := Option.some.inj (h.symm.trans hy)
      exact hkeys

/-! ### Snapshots, counters and ports of memory -/

/-- No register of a die's monitor, and not what its measurement DSP cores have waited. -/
def OffMonitor (a : Nat) : Prop := ∀ d : Fin 6, a ∉ R.MON_CAUSE d :: snapRegs d ++ (List.range 4).map (fun c => R.MDSP_CYC (4 * d.val + c))

/-- Snapshots whose time has passed have been taken. -/
structure Snapped (s t : State) : Prop where
  frame : t = { s with regs := t.regs, mdsp := t.mdsp, mon := t.mon }
  regs : ∀ a, OffMonitor a → t.rd a = s.rd a

theorem Snapped.takeSnap (h : Snapped s t) : Snapped s (t.takeSnap d) := by
  obtain ⟨hframe, -, -, -, -, hregs⟩ := takeSnap_spec t d
  generalize t.takeSnap d = u at hframe hregs
  refine ⟨?_, fun a ha => (hregs a (ha d)).trans (h.regs a ha)⟩
  rw [hframe, h.frame]

/-- A snapshot whose time has passed. -/
def State.lateSnap (d : Fin 6) (s : State) : State :=
  match (s.mon[d]).snap with
  | some t => if t * ns ≤ s.now then s.takeSnap d else s
  | none => s

theorem lateSnap_all (s : State) : Snapped s (forEach (List.finRange 6) State.lateSnap s) :=
  forEach_induct (P := Snapped s) ⟨rfl, fun _ _ => rfl⟩ fun d _ y hy => by
    unfold State.lateSnap
    split
    · split
      · exact hy.takeSnap
      · exact hy
    · exact hy

theorem mon_frame {l : Vector Mon 6} (h : t = { s with mon := l }) (k : Vector Mon 6) : ({ t with mon := k } : State) = { s with mon := k } := by
  rw [h]

theorem monGo_all (s : State) : ∃ l, forEach (List.finRange 6) (fun d s => s.monGo d) s = { s with mon := l } :=
  forEach_induct (P := fun t : State => ∃ l, t = { s with mon := l }) ⟨_, rfl⟩ fun _ _ _ ⟨_, hl⟩ => ⟨_, mon_frame hl _⟩

structure MemWoken (s t : State) : Prop where
  frame : t = { s with regs := t.regs, port := t.port }
  regs : ∀ a, (∀ q, a ≠ R.MEMP_STAT q) → t.rd a = s.rd a

theorem port_regs_frame (h : t = { s with regs := t.regs, port := t.port }) (l : Sparse Word) (p : Vector MemPort 24) :
    ({ t with regs := l, port := p } : State) = { s with regs := l, port := p } := by rw [h]

theorem setP_rd (q : Fin 24) (x : MemPort) (a : Nat) : (s.setP q x).rd a = s.rd a := (rfl)
theorem setP_mstate (q : Fin 24) (x : MemPort) (r : Nat) : (s.setP q x).mstate r = s.mstate r := (rfl)

theorem wakeMem_of_ready {q : Fin 24} (h : s.mstate q ≠ 3) : s.wakeMem q = s := if_neg h

theorem wakeMem_same {q : Fin 24} (h : s.mstate q = 3) : (s.wakeMem q).mstate q = 2 := by
  rw [State.wakeMem, if_pos h]
  dsimp only
  rw [setP_mstate]
  exact setF_fld_of_lt (by decide) (by decide)

theorem wakeMem_other {q : Fin 24} {r : Nat} (h : r ≠ q) : (s.wakeMem q).mstate r = s.mstate r := by
  unfold State.wakeMem
  split
  · dsimp only
    rw [setP_mstate, State.mstate, State.setF_fld_other _ _ _ _ _ _ (.inl fun e => h (mempStat_inj e)), State.mstate]
  · rfl

theorem setF_setP_frame (h : t = { s with regs := t.regs, port := t.port }) (a n : Nat) (f : Fld) (q : Fin 24) (x : MemPort) :
    (t.setF a f n).setP q x = { s with regs := ((t.setF a f n).setP q x).regs, port := ((t.setF a f n).setP q x).port } :=
  port_regs_frame h _ _

theorem MemWoken.wakeMem {q : Fin 24} (h : MemWoken s t) : MemWoken s (t.wakeMem q) := by
  unfold State.wakeMem
  split
  · exact ⟨setF_setP_frame h.frame _ _ _ _ _, fun a ha => by
      dsimp only
      rw [setP_rd, State.setF_rd_other _ _ _ _ _ (ha q), h.regs a ha]⟩
  · exact h

/-- Every port in SELF_REFRESH is READY again. -/
theorem wakeMem_all (s : State) : MemWoken s (forEach (List.finRange 24) (fun q s => s.wakeMem q) s) ∧
    ∀ q, q < 24 → s.mstate q = 3 → (forEach (List.finRange 24) (fun q s => s.wakeMem q) s).mstate q = 2 := by
  have h := forEach_each (P := fun t : State => MemWoken s t ∧ ∀ q : Fin 24, s.mstate q = 3 → t.mstate q = 3 ∨ t.mstate q = 2)
    (Q := fun (q : Fin 24) t => s.mstate q = 3 → t.mstate q = 2) (f := fun q s => s.wakeMem q) (List.finRange 24) (x := s)
    ⟨⟨rfl, fun _ _ => rfl⟩, fun _ h => .inl h⟩
    (fun q y ⟨hy, hst⟩ => by
      have hq : s.mstate q = 3 → (y.wakeMem q).mstate q = 2 := fun h3 => by
        rcases hst q h3 with h | h
        · exact wakeMem_same h
        · rw [wakeMem_of_ready (by rw [h]; decide), h]
      refine ⟨⟨hy.wakeMem, fun r hr => ?_⟩, hq⟩
      by_cases hrq : r = q
      · subst hrq
        exact .inr (hq hr)
      · rw [wakeMem_other (Fin.val_ne_of_ne hrq)]
        exact hst r hr)
    (fun q r y _ hq h3 => by
      by_cases hqr : q = r
      · subst hqr
        rw [wakeMem_of_ready (by rw [hq h3]; decide), hq h3]
      · rw [wakeMem_other (Fin.val_ne_of_ne hqr), hq h3])
  exact ⟨h.1.1, fun q hq h3 => h.2 ⟨q, hq⟩ (List.mem_finRange _) h3⟩

/-! ### Ports of the tether -/

structure Retrained (s t : State) : Prop where
  frame : t = { s with regs := t.regs, tsy := t.tsy }
  regs : ∀ a, a ≠ R.TSY_STAT → a ≠ R.PT_STAT → (∀ q, a ≠ R.TSY_PORT_STAT q) → t.rd a = s.rd a

theorem Retrained.portTo {p n : Nat} (h : Retrained s t) (hn : n < 4) : Retrained s (t.portTo p n) := by
  have hp := portTo_spec (s := t) (p := p) hn
  generalize t.portTo p n = u at hp ⊢
  have honly : u = { t with now := u.now, regs := u.regs, tsy := u.tsy } := hp.only
  refine ⟨?_, fun a hst hpt hq => ?_⟩
  · rw [hp.now] at honly
    rw [honly, h.frame]
  · rw [hp.regs a (by simp [hst, hpt, hq]), h.regs a hst hpt hq]

theorem retrainPorts_retrained (s : State) : Retrained s s.retrainPorts :=
  forEach_induct (P := Retrained s) ⟨rfl, fun _ _ _ _ => rfl⟩ fun p _ y hy => by
    split
    · exact hy.portTo (by decide)
    · exact hy

theorem Retrained.remeasure (h : Retrained s t) : Retrained s t.remeasure := by
  unfold State.remeasure
  dsimp only
  split
  · exact ⟨tsy_frame h.frame _, h.regs⟩
  · exact h

/-! ### The whole wake -/

/-- The machine as a wake to a power state leaves it. -/
def Woken (st : Nat) (u t : State) : Prop :=
  t.pstate19 = st ∧ t.power.slept = none ∧ t.keeper.thermos = none ∧
  (∀ q, q < 24 → u.mstate q = 3 → t.mstate q = 2) ∧ t.lines = u.lines ∧ t.core = u.core ∧
  ∀ y, u.keeper.thermos = some y → ∀ v : Fin 64, (t.v v).keys =
    (match y.keys.find? (fun e => e.1 == v.val) with | some e => e.2 | none => (u.v v).keys)

theorem mempStat_offMonitor (q : Nat) : OffMonitor (R.MEMP_STAT q) := by
  intro d
  simp only [snapRegs, List.mem_append, List.mem_cons, List.mem_map, List.mem_range, not_or, not_exists, not_and]
  unfold R.MEMP_STAT R.MON_CAUSE R.MON_SNAP_LO R.MON_SNAP_HI R.MDSP_CYC mempBase monBase mdspBase dieBase
  refine ⟨⟨?_, fun i hi => ?_, fun i hi => ?_⟩, fun c hc => ?_⟩ <;> omega

theorem pwr_ne : (∀ q, R.PKG_PWR ≠ R.MEMP_STAT q) ∧ R.PKG_PWR ≠ R.TSY_STAT ∧ R.PKG_PWR ≠ R.PT_STAT ∧ ∀ q, R.PKG_PWR ≠ R.TSY_PORT_STAT q := by
  unfold R.PKG_PWR R.MEMP_STAT R.TSY_STAT R.PT_STAT R.TSY_PORT_STAT pkgBase mempBase tsyBase ptBase packageBase dieBase
  refine ⟨fun q => ?_, ?_, ?_, fun q => ?_⟩ <;> omega

theorem mempStat_ne {q : Nat} (hq : q < 24) : R.MEMP_STAT q ≠ R.TSY_STAT ∧ R.MEMP_STAT q ≠ R.PT_STAT ∧ (∀ p, R.MEMP_STAT q ≠ R.TSY_PORT_STAT p) ∧
    R.MEMP_STAT q ≠ R.PKG_PWR := by
  unfold R.PKG_PWR R.MEMP_STAT R.TSY_STAT R.PT_STAT R.TSY_PORT_STAT pkgBase mempBase tsyBase ptBase packageBase dieBase
  refine ⟨?_, ?_, fun p => ?_, ?_⟩ <;> omega

/-- A wake up to the state shown. -/
def State.wakeShown (s : State) (st : Nat) : State :=
  State.setPower (forEach (List.finRange 6) (fun d s => s.monGo d)
    { forEach (List.finRange 6) State.lateSnap s with power := { (forEach (List.finRange 6) State.lateSnap s).power with slept := none } }) st

theorem wake_eq (st : Nat) : s.wake st [] =
    (forEach (List.finRange 24) (fun q s => s.wakeMem q) (s.wakeShown st)).retrainPorts.remeasure.emptyThermos [] := by
  unfold State.wake State.wakeShown State.lateSnap
  dsimp only <;> rfl

structure Awake (st : Nat) (s t : State) : Prop where
  shown : t.pstate19 = st
  frame : t = { s with
    regs := t.regs, mdsp := t.mdsp, mon := t.mon, power := { s.power with slept := none } }
  regs : ∀ a, OffMonitor a → a ≠ R.PKG_PWR → t.rd a = s.rd a

theorem setF_awake_frame {l : Vector Mdsp 24} {k : Vector Mon 6} {p : Power}
    (h : t = { s with regs := t.regs, mdsp := l, mon := k, power := p }) (a n : Nat) (f : Fld) :
    t.setF a f n = { s with regs := (t.setF a f n).regs, mdsp := l, mon := k, power := p } := by
  generalize hr : (t.setF a f n).regs = r
  have hset : t.setF a f n = { t with regs := r } := by rw [← hr]; rfl
  rw [hset, h]

theorem wakeShown_awake {st : Nat} (h : st < 4) : Awake st s (s.wakeShown st) := by
  unfold State.wakeShown
  obtain ⟨hframe, hregs⟩ := lateSnap_all s
  generalize forEach (List.finRange 6) State.lateSnap s = u at hframe hregs ⊢
  obtain ⟨l, hl⟩ := monGo_all { u with power := { u.power with slept := none } }
  rw [hl]
  have hw : ({ ({ u with power := { u.power with slept := none } } : State) with mon := l } : State) = { s with
      regs := u.regs, mdsp := u.mdsp, mon := l, power := { s.power with slept := none } } := by rw [hframe]
  have hwr : ∀ a, ({ ({ u with power := { u.power with slept := none } } : State) with mon := l } : State).rd a = u.rd a := fun _ => rfl
  generalize ({ ({ u with power := { u.power with slept := none } } : State) with mon := l } : State) = w at hw hwr ⊢
  have hset := setF_awake_frame (t := w) (by rw [hw]) R.PKG_PWR st F.PKG_PWR_STATE
  refine ⟨setF_fld_of_lt (by decide) h, ?_, fun a ha hp => ?_⟩
  · rw [State.setPower, hset]
  · rw [State.setPower, State.setF_rd_other _ _ _ _ _ hp, hwr, hregs a ha]

theorem wake_woken {st : Nat} (h : st < 4) : Woken st s (s.wake st []) ∧ (s.wake st []).now = s.now := by
  rw [wake_eq]
  obtain ⟨hshown, hawake, hregs⟩ := wakeShown_awake (s := s) h
  generalize s.wakeShown st = u at *
  obtain ⟨⟨hmem, hmregs⟩, hready⟩ := wakeMem_all u
  generalize forEach (List.finRange 24) (fun q s => s.wakeMem q) u = w at *
  obtain ⟨htree, htregs⟩ := (retrainPorts_retrained w).remeasure
  generalize w.retrainPorts.remeasure = x at *
  obtain ⟨hre, hthermos, hkeys⟩ := emptyThermos_reloaded x
  generalize x.emptyThermos [] = t at *
  have hx : x = { s with
      regs := x.regs, mdsp := u.mdsp, mon := u.mon, port := w.port, tsy := x.tsy, power := { s.power with slept := none } } := by
    rw [htree, hmem, hawake]
  have ht : t = { x with vault := t.vault, keeper := t.keeper } := hre
  obtain ⟨hpm, hps, hpt, hpp⟩ := pwr_ne
  have hrd : ∀ a, t.rd a = x.rd a := fun a => by
    rw [ht]
    rfl
  have hpow : t.power = x.power := by rw [ht]
  have hnow : t.now = x.now := by rw [ht]
  have hlines : t.lines = x.lines := by rw [ht]
  have hcore : t.core = x.core := by rw [ht]
  refine ⟨⟨?_, ?_, hthermos, fun q hq h3 => ?_, ?_, ?_, fun y hy v => ?_⟩, ?_⟩
  · rw [State.pstate19, fld_congr (hrd _), fld_congr (htregs _ hps hpt hpp), fld_congr (hmregs _ hpm), ← State.pstate19, hshown]
  · rw [hpow, hx]
  · obtain ⟨hqs, hqt, hqp, hqw⟩ := mempStat_ne hq
    have hu : u.mstate q = 3 := by
      rw [State.mstate, fld_congr (hregs _ (mempStat_offMonitor q) hqw), ← State.mstate, h3]
    rw [State.mstate, fld_congr (hrd _), fld_congr (htregs _ hqs hqt hqp), ← State.mstate, hready q hq hu]
  · rw [hlines, hx]
  · rw [hcore, hx]
  · have hk : x.keeper.thermos = some y := by rw [hx, hy]
    have hv : x.v v = s.v v := by rw [State.v, (congrArg State.vault hx :), State.v]
    rw [hkeys y hk, hv]
    rfl
  · rw [hnow, hx]

end Sys2Proof.Machine
end

section
/-! Power states, the reference, temperature and the board controller (19_reset_clocks_power_pins.md R591 to R615). -/
namespace Sys2Proof.Machine
variable {s t u : State} {d : Fin 6}

/-! ### Writes of fields, one after another -/

namespace OnlyWrites
variable {l : List (Nat × List (Fld × Nat))} {fs : List (Fld × Nat)} {a n : Nat} {f : Fld}

/-- A field of another register is written too. -/
theorem next (h : OnlyWrites l s t) (ha : a ∉ l.map (·.1)) : OnlyWrites (l ++ [(a, [(f, n)])]) s (t.setF a f n) := by
  obtain ⟨hframe, hval, hsame⟩ := h
  refine ⟨regs_frame hframe _, fun e he => ?_, ?_⟩
  · rcases List.mem_append.mp he with he | he
    · have hne : e.1 ≠ a := fun h => ha (List.mem_map.mpr ⟨e, he, h⟩)
      rw [State.setF_rd_other _ _ _ _ _ hne, hval e he]
    · obtain rfl := List.mem_singleton.mp he
      exact (State.setF_rd_same _ _ _ _).trans (by rw [hsame _ ha]; rfl)
  · rw [List.map_append]
    exact (hsame.mono fun b hb => List.mem_append_left _ hb).setF (List.mem_append_right _ (List.mem_singleton_self _))

/-- Another field of the one register is written too. -/
theorem more (h : OnlyWrites [(a, fs)] s t) : OnlyWrites [(a, fs ++ [(f, n)])] s (t.setF a f n) := by
  obtain ⟨hframe, hval, hsame⟩ := h
  refine ⟨regs_frame hframe _, fun e he => ?_, hsame.setF (by simp)⟩
  obtain rfl := List.mem_singleton.mp he
  exact (State.setF_rd_same _ _ _ _).trans (by rw [hval (a, fs) (List.mem_singleton_self _), List.foldl_append]; rfl)

/-- A field that is set to what it holds is as before. -/
theorem keep (h : OnlyWrites [(a, fs)] s t) (hn : n = t.fld a f) : OnlyWrites [(a, fs ++ [(f, n)])] s t := by
  obtain ⟨hframe, hval, hsame⟩ := h
  refine ⟨hframe, fun e he => ?_, hsame⟩
  obtain rfl := List.mem_singleton.mp he
  have hv := hval (a, fs) (List.mem_singleton_self _)
  show t.rd a = (fs ++ [(f, n)]).foldl (fun v f => f.1.set v f.2) (s.rd a)
  rw [List.foldl_append, ← hv, hn]
  exact (Fld.set_get f _).symm

end OnlyWrites

/-! ### Power requests -/

/-- A request that is refused sets PWRERR. -/
theorem pwrErr_refused (r : Resp) (data : List Nat) : s.pwrErr.answer r data = { s with
      regs := (s.pwrErr.answer r data).regs, reply := (s.pwrErr.answer r data).reply } ∧
    Writes [(R.PKG_EVT, [(F.PKG_EVT_PWRERR, 1)])] s (s.pwrErr.answer r data) := by
  have h : OnlyWrites [(R.PKG_EVT, [(F.PKG_EVT_PWRERR, 1)])] s s.pwrErr := onlyWrites_raise _ _
  generalize s.pwrErr = u at h ⊢
  exact ⟨(congrArg (fun z : State => z.answer r data) h.1 :), h.2⟩

/-- The power state is shown, with an answer. -/
theorem setPower_taken (n : Nat) : (s.setPower n).answer .ok [] = { s with
      regs := ((s.setPower n).answer .ok []).regs, reply := ⟨some .ok, []⟩ } ∧
    Writes [(R.PKG_PWR, [(F.PKG_PWR_STATE, n)])] s ((s.setPower n).answer .ok []) := by
  have h : OnlyWrites [(R.PKG_PWR, [(F.PKG_PWR_STATE, n)])] s (s.setPower n) := onlyWrites_setF _ _ _
  generalize s.setPower n = u at h ⊢
  exact ⟨(congrArg (fun z : State => z.answer .ok []) h.1 :), h.2⟩

section Requests
variable {src : BitVec 10} {n : Nat} {therm : List Nat}

theorem pwrWrite_halted (h : s.haltReq = true) : s.pwrWrite src n therm = s.pwrErr.answer .errDenied [] := if_pos h

theorem pwrWrite_outside (h : s.haltReq = false) (hf : s.pwrFrom src = false) : s.pwrWrite src n therm = s := by
  rw [State.pwrWrite, if_neg (by simp [h]), if_neg (by simp [hf])]

theorem pwrWrite_taken (h : s.haltReq = false) (hf : s.pwrFrom src = true) : s.pwrWrite src n therm = (s.pwrReq n therm).answer .ok [] := by
  rw [State.pwrWrite, if_neg (by simp [h]), if_pos hf]

/-- Outside an integrity halt a request is decided by the state that holds. -/
def State.pwrGo (s : State) (n st : Nat) (therm : List Nat) : State :=
  match n, st with
  | 0, 1 => s.setPower 0
  | 0, 2 => s.wake 0 therm
  | 1, 0 => if s.parkOk then s.setPower 1 else s.pwrErr
  | 1, 2 => s.wake 1 therm
  | 2, _ => if s.sleepOk then s.enterSleep else s.pwrErr
  | 3, _ => s
  | _, _ => s.pwrErr

theorem pwrReq_eq (h : s.haltReq = false) : s.pwrReq n therm = s.pwrGo n s.pstate19 therm := if_neg (by simp [h])

theorem pwrReq_wake {st : Nat} (h : s.haltReq = false) (hn : st = 0 ∨ st = 1) (hs : s.pstate19 = 2) : s.pwrReq st therm = s.wake st therm := by
  rw [pwrReq_eq h, hs]
  rcases hn with rfl | rfl
  · exact State.pwrGo.eq_2 _ _
  · exact State.pwrGo.eq_4 _ _

theorem pwrReq_park (h : s.haltReq = false) (hs : s.pstate19 = 0) : s.pwrReq 1 therm = if s.parkOk then s.setPower 1 else s.pwrErr := by
  rw [pwrReq_eq h, hs]
  exact State.pwrGo.eq_3 _ _

theorem pwrReq_run (h : s.haltReq = false) (hs : s.pstate19 = 1) : s.pwrReq 0 therm = s.setPower 0 := by
  rw [pwrReq_eq h, hs]
  exact State.pwrGo.eq_1 _ _

theorem pwrReq_sleep (h : s.haltReq = false) : s.pwrReq 2 therm = if s.sleepOk then s.enterSleep else s.pwrErr := by
  rw [pwrReq_eq h]
  exact State.pwrGo.eq_5 _ _ _

end Requests

/-- In the conditions of SLEEP no measurement DSP core waits. -/
theorem mdState_of_sleepOk (h : s.sleepOk = true) (k : Fin 24) : s.mdState k ≠ 2 := by
  simp only [State.sleepOk, Bool.and_eq_true, List.all_eq_true, List.mem_range] at h
  obtain ⟨⟨⟨-, hmd⟩, -⟩, -⟩ := h
  have hk := hmd k k.isLt
  rw [State.mdState]
  intro h2
  simp [h2] at hk

theorem sleepOk_parked (h : s.pstate19 ≠ 1) : s.sleepOk = false := by
  rw [State.sleepOk, beq_false_of_ne h]
  simp

/-! ### Temperature -/

/-- A reading, and the largest one. -/
theorem sense_writes (s : State) (d : Fin 6) (x : BitVec 11) :
    OnlyWrites [(R.DCR_TEMP d, [(F.DCR_TEMP_NOW, x.toNat), (F.DCR_TEMP_MAX,
      if signedOf 11 (s.fld (R.DCR_TEMP d) F.DCR_TEMP_MAX) < signedOf 11 x.toNat then x.toNat
        else s.fld (R.DCR_TEMP d) F.DCR_TEMP_MAX)])] s (s.sense d x) := by
  have hmax : (s.setF (R.DCR_TEMP d) F.DCR_TEMP_NOW x.toNat).fld (R.DCR_TEMP d) F.DCR_TEMP_MAX = s.fld (R.DCR_TEMP d) F.DCR_TEMP_MAX :=
    State.setF_fld_other _ _ _ _ _ _ (.inr (by decide))
  have hnow : OnlyWrites [(R.DCR_TEMP d, [(F.DCR_TEMP_NOW, x.toNat)])] s (s.setF (R.DCR_TEMP d) F.DCR_TEMP_NOW x.toNat) :=
    onlyWrites_setF _ _ _
  unfold State.sense
  dsimp only
  rw [hmax]
  split
  · exact hnow.more
  · exact hnow.keep hmax.symm

theorem temp_ne (d : Fin 6) : R.DCR_TWARN d ≠ R.DCR_TEMP d ∧ R.DCR_EVT d ≠ R.DCR_TEMP d := by
  unfold R.DCR_TWARN R.DCR_TEMP R.DCR_EVT
  omega

theorem execTwarn_eq (d : Fin 6) (x : BitVec 11) : exec (.twarn d x) s =
    .next (if signedOf 11 (s.fld (R.DCR_TWARN d) F.DCR_TWARN_LIMIT) ≤ signedOf 11 x.toNat then (s.sense d x).raise (R.DCR_EVT d) F.DCR_EVT_TWARN
      else s.sense d x) := by
  have hlimit : (s.sense d x).fld (R.DCR_TWARN d) F.DCR_TWARN_LIMIT = s.fld (R.DCR_TWARN d) F.DCR_TWARN_LIMIT :=
    fld_congr ((sense_writes s d x).2.2 _ (by simpa using (temp_ne d).1)) _
  show execTwarn d x s = _
  rw [execTwarn, hlimit]

/-- The largest of a list of readings. -/
theorem foldl_max_spec (l : List Int) (a : Int) : (a ≤ l.foldl max a ∧ ∀ x ∈ l, x ≤ l.foldl max a) ∧ (l.foldl max a = a ∨ l.foldl max a ∈ l) := by
  induction l generalizing a with
  | nil => exact ⟨⟨le_refl _, nofun⟩, .inl rfl⟩
  | cons b l ih =>
    obtain ⟨⟨hle, hall⟩, hmem⟩ := ih (max a b)
    rw [List.foldl_cons]
    refine ⟨⟨(le_max_left a b).trans hle, fun x hx => ?_⟩, ?_⟩
    · rcases List.mem_cons.mp hx with rfl | hx
      · exact (le_max_right a x).trans hle
      · exact hall x hx
    · rcases hmem with h | h
      · rcases max_choice a b with hab | hab
        · exact .inl (h.trans hab)
        · exact .inr (by rw [h, hab]; exact List.mem_cons_self)
      · exact .inr (List.mem_cons_of_mem _ h)

theorem foldl_max_head (l : List Int) : (∀ x ∈ l, x ≤ l.foldl max (l.headD 0)) ∧ (l ≠ [] → l.foldl max (l.headD 0) ∈ l) := by
  obtain ⟨⟨-, hall⟩, hmem⟩ := foldl_max_spec l (l.headD 0)
  refine ⟨hall, fun hne => ?_⟩
  rcases hmem with h | h
  · rw [h]
    cases l with
    | nil => exact absurd rfl hne
    | cons b l => exact List.mem_cons_self
  · exact h

/-- The readings of the dies that can be read. -/
def State.temps (s : State) : List Int := ((List.range 6).filter (fun d => !s.cut d)).map (fun d => signedOf 11 (s.fld (R.DCR_TEMP d) F.DCR_TEMP_NOW))

theorem cut_eq (d : Fin 6) : s.cut d = s.isolated[d] := by simp [State.cut]

theorem mem_temps {x : Int} : x ∈ s.temps ↔ ∃ k : Fin 6, s.isolated[k] = false ∧ signedOf 11 (s.fld (R.DCR_TEMP k) F.DCR_TEMP_NOW) = x := by
  simp only [State.temps, List.mem_map, List.mem_filter, List.mem_range, Bool.not_eq_true']
  refine ⟨fun ⟨k, ⟨hk, hc⟩, hx⟩ => ⟨⟨k, hk⟩, (cut_eq ⟨k, hk⟩).symm.trans hc, hx⟩, fun ⟨k, hc, hx⟩ => ⟨k, ⟨k.isLt, (cut_eq k).trans hc⟩, hx⟩⟩

/-! ### The board controller -/

theorem bitOf_of_div {w k : Nat} {b : Bool} (h : w / 2 ^ k % 2 = b2n b) : bitOf w k = b := by
  rw [bitOf, Nat.testBit_eq_decide_div_mod_eq, h]
  cases b <;> rfl

theorem b2n_le (b : Bool) : b2n b ≤ 1 := by cases b <;> decide

theorem smb_eq (h : s.power.porLow = false) (w : Nat) : s.smb w = s.answer .ok (leBytes 2 w) := if_neg (by simp [h])

/-- What STATUS shows (R612). -/
theorem smbStatus_bits (s : State) : s.smbStatus < 2 ^ 14 ∧
    bitOf s.smbStatus 0 = s.flag (R.CFG_STAT 0) F.CFG_STAT_DONE ∧ bitOf s.smbStatus 1 = s.flag (R.CFG_STAT 0) F.CFG_STAT_INITB ∧
    bitOf s.smbStatus 2 = s.flag R.PKG_RSTCAUSE F.PKG_RSTCAUSE_BISTFAIL ∧
    bitsOf s.smbStatus 3 3 = s.fld R.PKG_RSTCAUSE F.PKG_RSTCAUSE_DIE ∧
    bitsOf s.smbStatus 6 2 = s.pstate19 ∧ bitOf s.smbStatus 8 = s.flag R.PKG_REF F.PKG_REF_HOLD ∧
    bitOf s.smbStatus 9 = !s.flag R.PKG_REF F.PKG_REF_REFOK ∧
    bitOf s.smbStatus 11 = s.power.hot ∧ bitOf s.smbStatus 12 = s.power.safe ∧ bitOf s.smbStatus 13 = s.haltReq := by
  have hdone := b2n_le (s.flag (R.CFG_STAT 0) F.CFG_STAT_DONE)
  have hinit := b2n_le (s.flag (R.CFG_STAT 0) F.CFG_STAT_INITB)
  have hbist := b2n_le (s.flag R.PKG_RSTCAUSE F.PKG_RSTCAUSE_BISTFAIL)
  have hdie : s.fld R.PKG_RSTCAUSE F.PKG_RSTCAUSE_DIE < 2 ^ 3 := fld_lt _ _
  have hstate : s.pstate19 < 2 ^ 2 := fld_lt _ _
  have hhold := b2n_le (s.flag R.PKG_REF F.PKG_REF_HOLD)
  have href := b2n_le (!s.flag R.PKG_REF F.PKG_REF_REFOK)
  have hwarn := b2n_le ((List.range 6).any (fun d => s.flag (R.DCR_EVT d) F.DCR_EVT_TWARN))
  have hhot := b2n_le s.power.hot
  have hsafe := b2n_le s.power.safe
  have hhalt := b2n_le s.haltReq
  unfold State.smbStatus
  refine ⟨by omega, bitOf_of_div ?_, bitOf_of_div ?_, bitOf_of_div ?_, ?_, ?_, bitOf_of_div ?_, bitOf_of_div ?_, bitOf_of_div ?_,
    bitOf_of_div ?_, bitOf_of_div ?_⟩
  case refine_4 => unfold bitsOf; omega
  case refine_5 => unfold bitsOf; omega
  all_goals omega

end Sys2Proof.Machine
end

section
/-! Power states, the reference, temperature and the board controller: the obligation. -/
namespace Sys2Proof.Machine
variable {s t u : State} {d : Fin 6}

theorem ref_ne : R.PT_STAT ≠ R.PKG_REF ∧ R.PKG_EVT ≠ R.PKG_REF ∧ R.PKG_EVT ≠ R.PT_STAT := by
  unfold R.PT_STAT R.PKG_REF R.PKG_EVT ptBase pkgBase
  omega

/-- The cleaner holds over, its input lost. -/
theorem refLoss_writes (h : s.flag R.PKG_REF F.PKG_REF_SRC = false) : After .refLoss s (OnlyWrites [(R.PKG_REF, [(F.PKG_REF_REFOK, 0),
    (F.PKG_REF_LOCKED, 0), (F.PKG_REF_HOLD, 1)]), (R.PT_STAT, [(F.PT_STAT_HOLD, 1)]), (R.PKG_EVT, [(F.PKG_EVT_CLKLOSS, 1)])] s) := by
  obtain ⟨hpt, hevt, hep⟩ := ref_ne
  refine ⟨(s.setB R.PKG_REF F.PKG_REF_REFOK false).holdover, ?_, ?_⟩
  · show execRefLoss s = _
    rw [execRefLoss, if_neg (by simp [h])]
  · exact ((((onlyWrites_setF _ _ _).more).more).next (by simpa using hpt)).next (by simpa using ⟨hevt, hep⟩)

/-- The cleaner has locked to its input again. -/
theorem refReturn_writes (h : s.flag R.TSY_CTRL F.TSY_CTRL_REFSRC = false) : After .refReturn s (OnlyWrites [(R.PKG_REF,
    [(F.PKG_REF_REFOK, 1), (F.PKG_REF_LOCKED, 1), (F.PKG_REF_HOLD, 0)]), (R.PT_STAT, [(F.PT_STAT_HOLD, 0)])] s) := by
  obtain ⟨hpt, -, -⟩ := ref_ne
  refine ⟨(((s.raise R.PKG_REF F.PKG_REF_REFOK).raise R.PKG_REF F.PKG_REF_LOCKED).setB R.PKG_REF F.PKG_REF_HOLD false).setB R.PT_STAT
    F.PT_STAT_HOLD false, ?_, ?_⟩
  · show execRefReturn s = _
    rw [execRefReturn, h]
    rfl
  · exact (((onlyWrites_setF _ _ _).more).more).next (by simpa using hpt)

/-- Without a recovered clock there is nothing to lock to. -/
theorem refReturn_held (h : s.flag R.TSY_CTRL F.TSY_CTRL_REFSRC = true) (hp : ∀ p, p < 11 → s.activeUp p = true → s.pstate p ≠ 3) :
    exec .refReturn s = .next s := by
  have hrec : s.recovered = false := by
    rw [State.recovered, List.any_eq_false]
    intro p hm
    have hne := hp p (List.mem_range.mp hm)
    cases hup : s.activeUp p with
    | false => simp
    | true => simpa using hne hup
  show execRefReturn s = _
  rw [execRefReturn, h, hrec]
  rfl

theorem wakePt_wakes (h2 : s.pstate19 = 2) (hw : s.flag R.PKG_PWR F.PKG_PWR_WAKEPT = true) : After (.wakePt []) s (fun t => Woken 1 s t ∧
    max s.now (s.rdPair R.PKG_WAKE_PT_LO R.PKG_WAKE_PT_HI * ns) ≤ t.now) := by
  obtain ⟨hwoken, hnow⟩ := wake_woken (s := s.at_ (s.rdPair R.PKG_WAKE_PT_LO R.PKG_WAKE_PT_HI * ns)) (st := 1) (by decide)
  refine ⟨(s.at_ (s.rdPair R.PKG_WAKE_PT_LO R.PKG_WAKE_PT_HI * ns)).wake 1 [], ?_, hwoken, le_of_eq hnow.symm⟩
  show execWakePt [] s = _
  rw [execWakePt, if_pos ⟨h2, hw⟩]

theorem answer_slept (r : Resp) (data : List Nat) (h : Slept u s) : Slept u (s.answer r data) := h
theorem answer_woken (st : Nat) (r : Resp) (data : List Nat) (h : Woken st u s) : Woken st u (s.answer r data) := h

/-- A request to leave SLEEP. -/
theorem after_wake {n : Nat} {src : BitVec 10} (h : s.haltReq = false) (hf : s.pwrFrom src = true) (hn : n = 0 ∨ n = 1) (h2 : s.pstate19 = 2) :
    Woken n s (s.pwrWrite src n []) := by
  rw [pwrWrite_taken h hf, pwrReq_wake h hn h2]
  exact answer_woken _ _ _ (wake_woken (by omega)).1

/-- A request that the keeper of the power state refuses. -/
def Refused19 (s t : State) : Prop := t = { s with regs := t.regs, reply := t.reply } ∧ Writes [(R.PKG_EVT, [(F.PKG_EVT_PWRERR, 1)])] s t

theorem pwrWrite_sleep_refused {src : BitVec 10} (h : s.haltReq = false) (hf : s.pwrFrom src = true) (hok : s.sleepOk = false) :
    Refused19 s (s.pwrWrite src 2 []) := by
  rw [pwrWrite_taken h hf, pwrReq_sleep h, if_neg (by simp [hok])]
  exact pwrErr_refused _ _

theorem pwrWrite_slept {src : BitVec 10} (h : s.haltReq = false) (hf : s.pwrFrom src = true) (hok : s.sleepOk = true) :
    Slept s (s.pwrWrite src 2 []) := by
  rw [pwrWrite_taken h hf, pwrReq_sleep h, if_pos hok]
  exact answer_slept _ _ (enterSleep_slept (mdState_of_sleepOk hok))

theorem pwrWrite_park {src : BitVec 10} (h : s.haltReq = false) (hf : s.pwrFrom src = true) (h0 : s.pstate19 = 0) :
    s.pwrWrite src 1 [] = (if s.parkOk then s.setPower 1 else s.pwrErr).answer .ok [] := by
  rw [pwrWrite_taken h hf, pwrReq_park h h0]

theorem pwrWrite_run {src : BitVec 10} (h : s.haltReq = false) (hf : s.pwrFrom src = true) (h1 : s.pstate19 = 1) :
    s.pwrWrite src 0 [] = (s.setPower 0).answer .ok [] := by
  rw [pwrWrite_taken h hf, pwrReq_run h h1]

theorem smbPwrReq_wakes (h : s.haltReq = false) (hr : s.inReset = false) (h2 : s.pstate19 = 2) :
    After (.smbPwrReq 0 true []) s (Woken 0 s) := by
  refine ⟨s.pwrReq 0 [], ?_, ?_⟩
  · show execSmbPwrReq 0 true [] s = _
    rw [execSmbPwrReq, hr]
    rfl
  · rw [pwrReq_wake h (.inl rfl) h2]
    exact (wake_woken (by decide)).1

/-- A reading on request. -/
theorem tempDie_reads {x : BitVec 11} (hp : s.power.porLow = false) (hi : s.isolated[d] = false) :
    exec (.tempDie d x) s = .next ((s.sense d x).answer .ok (leBytes 2 (temp16 x.toNat))) := by
  have hpor : (s.sense d x).power.porLow = false := by
    rw [(sense_writes s d x).1, hp]
  show execTempDie d x s = _
  rw [execTempDie, cut_eq, hi, if_neg (by simp), smb_eq hpor]

theorem tempDie_cut {x : BitVec 11} (hp : s.power.porLow = false) (hi : s.isolated[d] = true) :
    exec (.tempDie d x) s = .next (s.answer .ok (leBytes 2 0x8000)) := by
  show execTempDie d x s = _
  rw [execTempDie, cut_eq, hi, if_pos rfl, smb_eq hp]

theorem answer_frame {r : Resp} {data : List Nat} (h : t = { s with regs := t.regs }) :
    t.answer r data = { s with regs := (t.answer r data).regs, reply := (t.answer r data).reply } := by
  generalize hr : (t.answer r data).regs = l
  have hl : t.regs = l := hr
  rw [hl] at h
  rw [h]
  rfl

/-- Settles O56: SLEEP and the wake through `enterSleep_slept` and `wake_woken`, the rest by what each command writes. -/
theorem powerStatesAndBoardController : Obligations.PowerStatesAndBoardController := by
  unfold Obligations.PowerStatesAndBoardController
  intro s src d x refused slept woken
  refine ⟨fun hh => ?_, fun hh => ⟨fun hf => ?_, fun hf => ?_, smbPwrReq_wakes hh, fun v => ⟨s, rfl, rfl⟩⟩, wakePt_wakes, fun hw => ?_,
    refLoss_writes, refReturn_writes, refReturn_held, ?_, fun hp => ⟨⟨_, congrArg Host.Outcome.next (smb_eq hp _), s.smbStatus, rfl,
      smbStatus_bits s⟩, fun c mv => ⟨fun hc => ?_, fun hc => ?_, ⟨_, congrArg Host.Outcome.next (smb_eq hp _), rfl⟩⟩, ?_, ?_⟩, fun hup => ?_⟩
  · simp only [List.mem_cons, List.not_mem_nil, or_false, forall_eq_or_imp, forall_eq]
    have hall : ∀ n, refused (s.pwrWrite src n []) ∧ (s.pwrWrite src n []).reply = ⟨some .errDenied, []⟩ := fun n => by
      rw [pwrWrite_halted hh]
      exact ⟨pwrErr_refused _ _, rfl⟩
    exact ⟨⟨_, rfl, hall 1⟩, ⟨_, rfl, hall 0⟩, ⟨_, rfl, hall 2⟩⟩
  · simp only [List.mem_cons, List.not_mem_nil, or_false, forall_eq_or_imp, forall_eq]
    have hall : ∀ n, s.pwrWrite src n [] = s := fun n => pwrWrite_outside hh hf
    exact ⟨congrArg Host.Outcome.next (hall 1), congrArg Host.Outcome.next (hall 0), congrArg Host.Outcome.next (hall 2)⟩
  · refine ⟨fun h0 hok => ⟨_, congrArg Host.Outcome.next (pwrWrite_park hh hf h0), ?_⟩,
      fun h0 hok => ⟨_, congrArg Host.Outcome.next (pwrWrite_park hh hf h0), ?_⟩,
      fun h1 => ⟨_, congrArg Host.Outcome.next (pwrWrite_run hh hf h1), setPower_taken 0⟩,
      fun h1 => ⟨_, rfl, pwrWrite_sleep_refused hh hf (sleepOk_parked h1)⟩, fun hok => ⟨_, rfl, pwrWrite_sleep_refused hh hf hok⟩,
      fun hok => ⟨_, rfl, pwrWrite_slept hh hf hok⟩,
      fun h2 => ⟨⟨_, rfl, after_wake hh hf (.inl rfl) h2⟩, ⟨_, rfl, after_wake hh hf (.inr rfl) h2⟩⟩⟩
    · rw [if_pos hok]
      exact setPower_taken 1
    · rw [if_neg (by simp [hok])]
      exact pwrErr_refused _ _
  · show execWakePt [] s = _
    rw [execWakePt, if_neg (by simp [hw])]
  · have hsense := sense_writes s d x
    refine ⟨fun hl => ⟨_, (execTwarn_eq d x).trans (congrArg Host.Outcome.next (if_neg (by omega))), hsense⟩,
      fun hl => ⟨_, (execTwarn_eq d x).trans (congrArg Host.Outcome.next (if_pos hl)), hsense.next (by simpa using (temp_ne d).2)⟩,
      fun hp hi => ⟨_, tempDie_reads hp hi, rfl, answer_frame hsense.1, hsense.2⟩, fun hp hi => ⟨_, tempDie_cut hp hi, rfl⟩,
      fun hlt => ⟨s.sense d x, ?_, hsense⟩, ⟨_, rfl, onlyWrites_setF _ _ _⟩⟩
    show execThermalTrip d x s = _
    rw [execThermalTrip, if_neg (by omega)]
  · refine ⟨s.answer .ok (leBytes 2 mv.toNat), ?_, rfl⟩
    show execRail c mv s = _
    rw [execRail, railCode, decide_eq_true hc, if_pos rfl, smb_eq hp]
  · refine ⟨{ s with reply := ⟨none, []⟩ }, ?_, rfl⟩
    show execRail c mv s = _
    rw [execRail, railCode, decide_eq_false hc, if_neg (by simp)]
  · refine ⟨s.answer .ok (leBytes 1 (s.rd R.PKG_RSTCAUSE).toNat), ?_, rfl⟩
    show execRstcause s = _
    rw [execRstcause, if_neg (by simp [hp])]
  · obtain ⟨hle, hmem⟩ := foldl_max_head s.temps
    refine ⟨s.answer .ok (leBytes 2 (unsignedOf 16 (s.temps.foldl max (s.temps.headD 0)))), congrArg Host.Outcome.next (smb_eq hp _),
      _, rfl, fun k hk => hle _ (mem_temps.mpr ⟨k, hk, rfl⟩), fun ⟨k, hk⟩ => mem_temps.mp (hmem ?_)⟩
    exact List.ne_nil_of_mem (mem_temps.mpr ⟨k, hk, rfl⟩)
  · have hexec : ∀ o, exec (.addressResolutionProtocol o) s = execAddressResolutionProtocol o s := fun _ => rfl
    refine ⟨⟨s.answer .ok (leBytes 8 (s.rdPair R.KPR_SERIAL_LO R.KPR_SERIAL_HI)), ?_, rfl⟩, fun a => ⟨{ s.answer .ok (leBytes 8
      (s.rdPair R.KPR_SERIAL_LO R.KPR_SERIAL_HI)) with power := { s.power with smb := a } }, ?_, rfl, rfl, rfl⟩⟩
    · rw [hexec, execAddressResolutionProtocol, hup]
      rfl
    · rw [hexec, execAddressResolutionProtocol, hup]
      rfl

end Sys2Proof.Machine
end

section
/-! What the clearing of a die leaves (11_configuration.md R371, R391, R393). -/
namespace Sys2Proof.Machine
variable {s t u : State} {d e : Fin 6}

/-- The registers that the clearing of a die writes. -/
def ClearRegs (d : Fin 6) (a : Nat) : Prop :=
  (∃ e j, j < 3 ∧ a = R.SEAM_STAT e j) ∨ a = R.FAB_STAT d ∨ a = R.CFG_MDDEF d ∨ a = R.CFG_MDFENCE d ∨ a = R.CFG_DSTAT d ∨
    ∃ p, p < 16 ∧ a = R.FAB_PORT_STAT d p

/-- Groups, registers, the fabric, its ports and what waits of the die differ. -/
structure Cleared (d : Fin 6) (s t : State) : Prop where
  frame : t = { s with
    regs := t.regs, grp := t.grp, fab := s.fab.set d Fabric.reset, cfgUp := s.cfgUp.set d false, fport := t.fport, cfg := t.cfg }
  regs : ∀ a, ¬ ClearRegs d a → t.rd a = s.rd a
  cfg : t.cfg = { s.cfg with
    fences := t.cfg.fences, unfence := t.cfg.unfence, orders := t.cfg.orders }

/-- Groups and link registers alone differ. -/
structure Idled (s t : State) : Prop where
  frame : ∃ l g, t = { s with regs := l, grp := g }
  regs : ∀ a, (∀ e j, j < 3 → a ≠ R.SEAM_STAT e j) → t.rd a = s.rd a

theorem Idled.modG {g : Fin 24} {f : Group → Group} (h : Idled s t) : Idled s (t.modG g f) := by
  obtain ⟨⟨l, k, hl⟩, hr⟩ := h
  refine ⟨⟨l, (t.modG g f).grp, ?_⟩, hr⟩
  rw [hl]
  rfl

theorem Idled.setB {a : Nat} {f : Fld} {b : Bool} (h : Idled s t) (ha : ∃ e j, j < 3 ∧ a = R.SEAM_STAT e j) : Idled s (t.setB a f b) := by
  obtain ⟨⟨l, k, hl⟩, hr⟩ := h
  refine ⟨⟨(t.setB a f b).regs, k, ?_⟩, fun c hc => ?_⟩
  · rw [hl]
    rfl
  · obtain ⟨e, j, hj, rfl⟩ := ha
    rw [State.setB_eq, State.setF_rd_other _ _ _ _ _ (hc e j hj), hr c hc]

theorem withdraw_idled (s : State) (d : Nat) : Idled s (s.withdraw d) :=
  forEach_induct ⟨⟨_, _, rfl⟩, fun _ _ => rfl⟩ fun k hk u hu => by
    have hk3 : k < 3 := by simp at hk; omega
    unfold State.bothEnds farEnd
    cases neighbour d k with
    | none => exact hu
    | some e =>
      refine (hu.setB ⟨d, k, hk3, rfl⟩).setB ⟨e, facing k, ?_, rfl⟩
      unfold facing
      split_ifs <;> omega

theorem Idled.idleAt {g : Fin 24} {n : Nat} (h : Idled s t) : Idled s (t.idleAt g n) := by
  unfold State.idleAt
  exact h.modG

/-- The groups of the die take their idle state. -/
theorem idle_idled (s : State) (d : Fin 6) :
    Idled s (forEach (groupsOf d) (fun g s => (s.idleAt g s.now).modG g (fun x => x.ufStop s.now)) (s.withdraw d)) :=
  forEach_induct (withdraw_idled s d) fun _ _ _ hu => (Idled.idleAt hu).modG

/-- The die's logic and registers, cleared. -/
def State.wipeRegs (s : State) (d : Fin 6) : State :=
  ((((s.modFab d (fun _ => Fabric.reset)).wr (R.FAB_STAT d) 1).wr (R.CFG_MDDEF d) 0).wr (R.CFG_MDFENCE d) 0).wr (R.CFG_DSTAT d) 0

/-- The die is not started, its ports let go, and what waits of it is dropped. -/
def State.wipeRest (s : State) (d : Fin 6) : State :=
  { s with
    cfgUp := s.cfgUp.set d false
    fport := Vector.ofFn (fun i => if i.val / 16 = d.val then s.fport[i].cut else s.fport[i])
    cfg := { s.cfg with fences := s.cfg.fences.filter (fun e => e.1 != d.val)
                        unfence := s.cfg.unfence.filter (fun u => !u.dies.contains d.val)
                        orders := s.cfg.orders.filter (fun e => e.1 != d.val) } }

theorem wr_fab_frame {f : Vector Fabric 6} (h : ∃ l, t = { s with regs := l, fab := f }) (a : Nat) (v : Word) :
    ∃ l, t.wr a v = { s with regs := l, fab := f } := by
  obtain ⟨l, rfl⟩ := h
  exact ⟨_, rfl⟩

theorem modFab_ex (f : Fabric → Fabric) : ∃ l, s.modFab d f = { s with regs := l, fab := s.fab.set d (f s.fab[d]) } := ⟨_, rfl⟩

theorem wipeRegs_frame (s : State) (d : Fin 6) : ∃ l, s.wipeRegs d = { s with regs := l, fab := s.fab.set d Fabric.reset } :=
  wr_fab_frame (wr_fab_frame (wr_fab_frame (wr_fab_frame (modFab_ex _) _ _) _ _) _ _) _ _

theorem wipeRest_rd (a : Nat) : (s.wipeRest d).rd a = s.rd a := (rfl)

theorem clearDie_eq : s.clearDie d = forEach (List.range 16) (fun p s => s.wr (R.FAB_PORT_STAT d p) 4)
    (State.wipeRest (State.wipeRegs (forEach (groupsOf d) (fun g s => (s.idleAt g s.now).modG g (fun x => x.ufStop s.now)) (s.withdraw d)) d) d) := by
  unfold State.clearDie State.wipeRest State.wipeRegs
  dsimp only

theorem wr_fab_cfg_frame {f : Vector Fabric 6} {c : Vector Bool 6} {p : Vector FabPort 96} {y : Config11}
    (h : t = { s with regs := t.regs, fab := f, cfgUp := c, fport := p, cfg := y }) (a : Nat) (v : Word) :
    t.wr a v = { s with regs := (t.wr a v).regs, fab := f, cfgUp := c, fport := p, cfg := y } := by
  generalize hr : (t.wr a v).regs = l
  have hw : t.wr a v = { t with regs := l } := by rw [← hr]; rfl
  rw [hw, h]

/-- The die's port registers, after its clearing. -/
theorem ports_cleared {f : Vector Fabric 6} {c : Vector Bool 6} {p : Vector FabPort 96} {y : Config11}
    (h : t = { s with regs := t.regs, fab := f, cfgUp := c, fport := p, cfg := y }) :
    let v := forEach (List.range 16) (fun p s => s.wr (R.FAB_PORT_STAT d p) 4) t
    v = { s with regs := v.regs, fab := f, cfgUp := c, fport := p, cfg := y } ∧ ∀ a, ¬ ClearRegs d a → v.rd a = t.rd a :=
  forEach_induct (P := fun v : State => v = { s with regs := v.regs, fab := f, cfgUp := c, fport := p, cfg := y } ∧
    ∀ a, ¬ ClearRegs d a → v.rd a = t.rd a) ⟨h, fun _ _ => rfl⟩ fun q hq v ⟨hv, hr⟩ =>
    ⟨wr_fab_cfg_frame hv _ _, fun a ha => (State.wr_rd_other _ _ _ _ fun e => ha (by
      exact .inr (.inr (.inr (.inr (.inr ⟨q, List.mem_range.mp hq, e⟩)))))).trans (hr a ha)⟩

theorem wipeRegs_rd {a : Nat} (h : ¬ ClearRegs d a) : (s.wipeRegs d).rd a = s.rd a := by
  simp only [ClearRegs, not_or] at h
  obtain ⟨-, h1, h2, h3, h4, -⟩ := h
  rw [State.wipeRegs, State.wr_rd_other _ _ _ _ h4, State.wr_rd_other _ _ _ _ h3, State.wr_rd_other _ _ _ _ h2,
    State.wr_rd_other _ _ _ _ h1, modFab_rd]

theorem clearDie_cleared (s : State) (d : Fin 6) : Cleared d s (s.clearDie d) := by
  rw [clearDie_eq]
  obtain ⟨⟨l, g, hu⟩, hr⟩ := idle_idled s d
  generalize forEach (groupsOf d) (fun g s => (s.idleAt g s.now).modG g (fun x => x.ufStop s.now)) (s.withdraw d) = u at hu hr ⊢
  obtain ⟨k, hk⟩ := wipeRegs_frame u d
  have hrd := fun a => wipeRegs_rd (s := u) (d := d) (a := a)
  generalize u.wipeRegs d = x at hk hrd ⊢
  have hw : x.wipeRest d = { u with
      regs := (x.wipeRest d).regs, fab := u.fab.set d Fabric.reset, cfgUp := u.cfgUp.set d false,
      fport := (x.wipeRest d).fport, cfg := (x.wipeRest d).cfg } := by
    rw [hk]
    rfl
  have hc : (x.wipeRest d).cfg = { u.cfg with
      fences := (x.wipeRest d).cfg.fences, unfence := (x.wipeRest d).cfg.unfence, orders := (x.wipeRest d).cfg.orders } := by
    rw [hk]
    rfl
  have hwr : ∀ a, (x.wipeRest d).rd a = x.rd a := wipeRest_rd
  generalize x.wipeRest d = w at hw hc hwr ⊢
  obtain ⟨hv, hvr⟩ := ports_cleared (d := d) hw
  generalize forEach (List.range 16) (fun p s => s.wr (R.FAB_PORT_STAT d p) 4) w = v at hv hvr ⊢
  refine ⟨?_, fun a ha => ?_, ?_⟩
  · rw [hv, hu]
  · rw [hvr a ha, hwr, hrd a ha, hr a fun e j hj h => ha (.inl ⟨e, j, hj, h⟩)]
  · have hvc : v.cfg = w.cfg := by rw [hv]
    rw [hvc, hc, hu]

end Sys2Proof.Machine
end

section
/-! The command stream of a leg, and its legs (11_configuration.md R381 to R385, R388, R389). -/
namespace Sys2Proof.Machine
variable {s t u : State} {d e : Fin 6} {l : Load} {code : Nat}

/-! ### Registers of the configuration logic -/

theorem cfg_not_cleared (d : Fin 6) : ¬ ClearRegs d (R.CFG_ERR 0) ∧ ¬ ClearRegs d (R.CFG_STAT 0) ∧ (∀ n, ¬ ClearRegs d (R.CFG_CAUSE n)) := by
  unfold ClearRegs R.SEAM_STAT R.FAB_STAT R.CFG_MDDEF R.CFG_MDFENCE R.CFG_DSTAT R.FAB_PORT_STAT R.CFG_ERR R.CFG_STAT R.CFG_CAUSE seamBase fabBase
    cfgBase dieBase
  refine ⟨?_, ?_, fun n => ?_⟩ <;>
  · rintro (⟨e, j, hj, h⟩ | h | h | h | h | ⟨p, hp, h⟩) <;> omega

theorem cfgErr_ne : R.CFG_ERR 0 ≠ R.CFG_STAT 0 ∧ (∀ n, R.CFG_ERR 0 ≠ R.CFG_CAUSE n) ∧ (∀ n, R.CFG_ERR 0 ≠ R.CFG_DSTAT n) ∧
    ∀ (d : Fin 6) p, p < 16 → R.CFG_ERR 0 ≠ R.FAB_PORT_STAT d p := by
  unfold R.CFG_ERR R.CFG_STAT R.CFG_CAUSE R.CFG_DSTAT R.FAB_PORT_STAT fabBase cfgBase dieBase
  refine ⟨?_, fun n => ?_, fun n => ?_, fun d p hp => ?_⟩ <;> omega

/-! ### A load that fails (R389) -/

/-- No load runs, and CFG_ERR shows why. -/
structure LoadEnded (w : Word) (t : State) : Prop where
  load : t.cfg.load = none
  err : t.rd (R.CFG_ERR 0) = w

namespace LoadEnded
variable {w : Word}

theorem setF {a n : Nat} {f : Fld} (h : LoadEnded w t) (ha : R.CFG_ERR 0 ≠ a) : LoadEnded w (t.setF a f n) :=
  ⟨h.load, (State.setF_rd_other _ _ _ _ _ ha).trans h.err⟩

theorem clearDie (h : LoadEnded w t) : LoadEnded w (t.clearDie d) := by
  obtain ⟨hframe, hregs, hcfg⟩ := clearDie_cleared t d
  refine ⟨?_, (hregs _ (cfg_not_cleared d).1).trans h.err⟩
  rw [hcfg, h.load]

theorem modFab {f : Fabric → Fabric} (h : LoadEnded w t) : LoadEnded w (t.modFab d f) := ⟨h.load, h.err⟩

theorem readSets (h : LoadEnded w t) : LoadEnded w (t.readSets d) := by
  obtain ⟨⟨r, f, hf⟩, -, -, hrd⟩ := readSets_only (s := t) (d := d)
  refine ⟨?_, (hrd _ (cfgErr_ne.2.2.2 d)).trans h.err⟩
  rw [hf]
  exact h.load

theorem clearMeadow {m : Nat} (h : LoadEnded w t) : LoadEnded w (t.clearMeadow d m) := h.modFab.readSets

end LoadEnded

/-- The word that CFG_ERR shows of a failure. -/
def errWord (l : Load) (code : Nat) : Word :=
  BitVec.ofNat 32 (code + l.src * 16 + l.slot * 64 + l.die * 256 + l.leg % 65536 * 65536)

theorem errWord_code (h : code < 16) : F.CFG_ERR_CODE.get (errWord l code) = code := by
  unfold Fld.get errWord F.CFG_ERR_CODE
  rw [BitVec.ushiftRight_zero, BitVec.toNat_ofNat]
  dsimp only
  omega

/-- CFG_ERR is written, and nothing of the load is left. -/
def State.dropLoad (s : State) (l : Load) (code : Nat) : State :=
  (s.cfgErr code l).setCfg (fun c => { c with load := none, startup := none, started := none, doneAt := none })

theorem dropLoad_ended : LoadEnded (errWord l code) (s.dropLoad l code) := ⟨rfl, State.wr_rd_same _ _ _⟩

/-- A DIELOAD that fails clears its die. -/
theorem loadFail_die (h : l.kind = 1) : s.loadFail l code = ((if h : l.die < 6 then (s.dropLoad l code).clearDie ⟨l.die, h⟩
    else s.dropLoad l code).setBusy false).cfgErr0 F.CFG_CAUSE_LOADERR := by
  unfold State.loadFail
  rw [h]
  rfl

/-- What a partial load that fails does to its meadow. -/
def State.dropMeadow (s : State) (d : Fin 6) (l : Load) : State :=
  let s := s.setB (R.CFG_DSTAT d) F.CFG_DSTAT_LOADING false
  let s := if !l.header.isEmpty && s.mdFenced d (hdrMeadow l.header) then s.clearMeadow d (hdrMeadow l.header) else s
  s.raise (R.CFG_CAUSE d) F.CFG_CAUSE_PLOADERR

theorem loadFail_part (h0 : l.kind ≠ 0) (h1 : l.kind ≠ 1) : s.loadFail l code =
    if h : hdrDie l.header < 6 then ((s.dropLoad l code).setBusy false).dropMeadow ⟨hdrDie l.header, h⟩ l
    else ((s.dropLoad l code).setBusy false).raise (R.CFG_CAUSE 0) F.CFG_CAUSE_PLOADERR := by
  unfold State.loadFail
  split
  · exact absurd ‹_› h0
  · exact absurd ‹_› h1
  · rfl

/-- A load other than a full one that fails has ended. -/
theorem loadFail_ended (h0 : l.kind ≠ 0) : LoadEnded (errWord l code) (s.loadFail l code) := by
  obtain ⟨hstat, hcause, hdstat, -⟩ := cfgErr_ne
  have hdrop := dropLoad_ended (s := s) (l := l) (code := code)
  by_cases h1 : l.kind = 1
  · rw [loadFail_die h1]
    refine LoadEnded.setF (LoadEnded.setF ?_ hstat) (hcause 0)
    split
    · exact hdrop.clearDie
    · exact hdrop
  · rw [loadFail_part h0 h1]
    split
    · refine LoadEnded.setF ?_ (hcause _)
      have hbusy : LoadEnded (errWord l code) ((s.dropLoad l code).setBusy false) := LoadEnded.setF hdrop hstat
      split
      · exact (LoadEnded.setF hbusy (hdstat _)).clearMeadow
      · exact LoadEnded.setF hbusy (hdstat _)
    · exact LoadEnded.setF (LoadEnded.setF hdrop hstat) (hcause _)

theorem trySlots_none {n : Nat} (h : s.cfg.load = none) : s.trySlots n = s := by
  cases n with
  | zero => rfl
  | succ n => rw [State.trySlots, h]

theorem trySlots_taken {n : Nat} (h : s.cfg.load = some l) (hh : l.header ≠ []) : s.trySlots n = s := by
  cases n with
  | zero => rfl
  | succ n =>
    rw [State.trySlots, h]
    exact if_neg (by simp [hh])

/-- A load other than a full one fails, and nothing is tried after it. -/
theorem loadFail_tried (h0 : l.kind ≠ 0) (hc : code < 16) : ((s.loadFail l code).trySlots 5).cfg.load = none ∧
    ((s.loadFail l code).trySlots 5).fld (R.CFG_ERR 0) F.CFG_ERR_CODE = code := by
  have h := loadFail_ended (s := s) (code := code) h0
  rw [trySlots_none h.load]
  exact ⟨h.load, by rw [State.fld, h.err, errWord_code hc]⟩

/-! ### Commands of the stream -/

section Steps
variable {op : Nat} {f : Load → State → State} (hl : s.cfg.load = some l) (hr : l.ready = true) (hu : s.unreachable 0 l.die = false)
include hl hr hu

theorem streamStep_bad (hb : l.badCmd = true) : s.streamStep op f = (s.loadFail l 7).trySlots 5 := by
  rw [State.streamStep, hl]
  exact (if_neg (by simp [hr, hu])).trans (if_pos hb)

theorem streamStep_taken (hb : l.badCmd = false) (ho : l.opcode = op) : s.streamStep op f = (f l s).trySlots 5 := by
  rw [State.streamStep, hl]
  exact ((if_neg (by simp [hr, hu])).trans (if_neg (by simp [hb]))).trans (if_pos ho)

end Steps

/-- A load that goes on with its header taken. -/
theorem putLoad_tried {n : Nat} (hh : l.header ≠ []) : (s.putLoad l).trySlots n = s.putLoad l := trySlots_taken (l := l) rfl hh

/-- A frame that is written whole. -/
theorem writeFrames_one {fa : Nat} (hd : l.die = d) (hfw : l.fw = some (fa, 1)) (hlen : 144 ≤ l.words.length) (hok : s.faOk l fa = true) :
    s.writeFrames 1 l = (s.modFab d (fun x => { (x.setFrame fa (BitVec.ofNat 4608 ((l.words.take 144).foldr
        (fun w acc => w.toNat + 4294967296 * acc) 0))) with badWords := x.badWords.filter (fun b => b / 128 != fa) })).putLoad
      { l with words := l.words.drop 144, written := fa :: l.written, fw := none } := by
  rw [State.writeFrames, hfw]
  dsimp only
  rw [if_neg (by omega), hok, if_neg (by simp), if_pos rfl, dif_pos (hd ▸ d.isLt)]
  simp only [show (⟨l.die, hd ▸ d.isLt⟩ : Fin 6) = d from Fin.ext hd]
  rfl

theorem modFab_fabric_other {f : Fabric → Fabric} (h : e ≠ d) : (s.modFab d f).fabric e = s.fabric e :=
  Vector.getElem_set_ne d.isLt e.isLt fun k => h (Fin.ext k.symm)

section Commands
variable (hl : s.cfg.load = some l) (hh : l.header ≠ []) (hr : l.ready = true) (hu : s.unreachable 0 l.die = false)
include hl hh hr hu

theorem cmdNop_taken (hb : l.badCmd = false) (ho : l.opcode = 0) : exec .cmdNop s =
    .next (s.putLoad { l with words := l.words.drop 1, crcLast := false }) := by
  show execCmdNop s = _
  rw [execCmdNop, streamStep_taken hl hr hu hb ho]
  exact congrArg Host.Outcome.next (putLoad_tried hh)

theorem dend_taken (hb : l.badCmd = false) (ho : l.opcode = 3) : exec .dend s =
    .next (s.putLoad { l with words := l.words.drop 1, crcLast := false, ended := true, endAt := s.now }) := by
  show execDend s = _
  rw [execDend, streamStep_taken hl hr hu hb ho]
  exact congrArg Host.Outcome.next (putLoad_tried hh)

/-- FWRITE of one frame. -/
theorem fwrite_taken {w0 w1 : Word} {ws : List Word} (hb : l.badCmd = false) (ho : l.opcode = 1) (hfw : l.fw = none)
    (hw : l.words = w0 :: w1 :: ws) (ha : l.arg = 1) (hlen : 144 ≤ ws.length) (hd : l.die = d) (hok : s.faOk l w1.toNat = true) :
    exec .fwrite s = .next ((s.modFab d (fun x => { (x.setFrame w1.toNat (BitVec.ofNat 4608 ((ws.take 144).foldr
        (fun w acc => w.toNat + 4294967296 * acc) 0))) with badWords := x.badWords.filter (fun b => b / 128 != w1.toNat) })).putLoad
      { l with words := ws.drop 144, written := w1.toNat :: l.written, fw := none, crcLast := false }) := by
  show execFwrite s = _
  rw [execFwrite, streamStep_taken hl hr hu hb ho, hfw]
  dsimp only
  rw [ha, hw]
  have hone := writeFrames_one (l := { l with fw := some (w1.toNat, 1), words := ws, crcLast := false }) hd rfl hlen hok
  exact congrArg Host.Outcome.next ((congrArg (State.trySlots · 5) hone).trans (putLoad_tried hh))

/-- DCRC where the frames are as the stream says. -/
theorem dcrc_taken {w0 w1 : Word} {ws : List Word} (hb : l.badCmd = false) (ho : l.opcode = 2) (hw : l.words = w0 :: w1 :: ws) (hd : l.die = d)
    (hc : crcFrames (l.written.reverse.map (fun fa => (s.fabric d).frame fa)) = w1.toNat) :
    exec .dcrc s = .next (s.putLoad { l with words := ws, written := [], crcLast := true }) := by
  show execDcrc s = _
  rw [execDcrc, streamStep_taken hl hr hu hb ho, dif_pos (hd ▸ d.isLt)]
  simp only [show (⟨l.die, hd ▸ d.isLt⟩ : Fin 6) = d from Fin.ext hd, hw]
  exact congrArg Host.Outcome.next ((congrArg (State.trySlots · 5) (if_pos hc)).trans (putLoad_tried hh))

omit hh in
theorem dcrc_failed {w0 w1 : Word} {ws : List Word} (hb : l.badCmd = false) (ho : l.opcode = 2) (hw : l.words = w0 :: w1 :: ws) (hd : l.die = d)
    (hc : crcFrames (l.written.reverse.map (fun fa => (s.fabric d).frame fa)) ≠ w1.toNat) :
    exec .dcrc s = .next ((s.loadFail l 9).trySlots 5) := by
  show execDcrc s = _
  rw [execDcrc, streamStep_taken hl hr hu hb ho, dif_pos (hd ▸ d.isLt)]
  simp only [show (⟨l.die, hd ▸ d.isLt⟩ : Fin 6) = d from Fin.ext hd, hw]
  exact congrArg Host.Outcome.next (congrArg (State.trySlots · 5) (if_neg hc))

end Commands

/-! ### The end of a leg -/

section Legs
variable {dn : LegDone} (hl : s.cfg.load = some l) (hdn : l.done = some dn) (hr : l.ready = false)
include hl hdn hr

theorem legEnd_bad (hg : dn.good = false) : exec .legEnd s = .next ((s.loadFail l 6).trySlots 5) := by
  show execLegEnd s = _
  rw [execLegEnd, hl]
  dsimp only
  rw [hdn]
  dsimp only
  rw [hr, if_neg (by simp), hg, if_pos (by rfl)]

/-- The next leg waits for its bytes. -/
theorem legEnd_next (hh : l.header ≠ []) (hg : dn.good = true) (hlast : dn.last = false) (he : l.ended = false) (hsrc : l.src = 2)
    (hin : l.inbuf = []) :
    exec .legEnd s = .next (s.putLoad { l with key := dn.key, iv := dn.iv, hash := dn.hash, done := none, leg := l.leg + 1 }) := by
  show execLegEnd s = _
  rw [execLegEnd, hl]
  dsimp only
  rw [hdn]
  dsimp only
  rw [hr, if_neg (by simp), hg, if_neg (by simp), hlast, if_neg (by simp), if_neg (by simp [he])]
  have htake : s.takeLeg { l with key := dn.key, iv := dn.iv, hash := dn.hash, done := none, leg := l.leg + 1 } =
      s.putLoad { l with key := dn.key, iv := dn.iv, hash := dn.hash, done := none, leg := l.leg + 1 } := by
    unfold State.takeLeg
    dsimp only
    rw [if_neg (by simp [hh]), hin, if_pos (by simp), if_pos hsrc]
  rw [htake]
  exact congrArg Host.Outcome.next (putLoad_tried hh)

theorem legEnd_last (hg : dn.good = true) (hlast : dn.last = true) (he : l.ended = true) (hw : l.words = []) (hfw : l.fw = none)
    (hs : l.stored = hdrLength l.header l.die) : exec .legEnd s = .next ((s.endSection { l with key := 0, done := none }).trySlots 5) := by
  show execLegEnd s = _
  rw [execLegEnd, hl]
  dsimp only
  rw [hdn]
  dsimp only
  rw [hr, if_neg (by simp), hg, if_neg (by simp), hlast, if_pos rfl, if_neg (by simp [he, hw, hfw]), if_neg (by simp [hs])]

end Legs

/-- A partial load's start-up begins. -/
theorem endSection_part (hk : l.kind = 2) (hd : l.die < 6) : s.endSection l =
    State.beginStartup ((s.setB (R.CFG_DSTAT l.die) F.CFG_DSTAT_LOADING false).readSets ⟨l.die, hd⟩) l := by
  unfold State.endSection
  dsimp only
  rw [dif_pos hd, if_neg (by simp [hk])]

theorem beginStartup_part (hk : l.kind = 2) : (s.beginStartup l).cfg.load = none ∧
    (s.beginStartup l).cfg.startup = some ⟨[l.die], some (hdrMeadow l.header), hdrStartup l.header, 0, wholeUs (l.endAt + 2000 * ns), 2⟩ ∧
    (s.beginStartup l).regs = s.regs ∧ (s.beginStartup l).fab = s.fab := by
  unfold State.beginStartup
  rw [hk]
  exact ⟨rfl, rfl, rfl, rfl⟩

theorem setB_fabric (a : Nat) (f : Fld) (b : Bool) (e : Fin 6) : (s.setB a f b).fabric e = s.fabric e := (rfl)
theorem putLoad_fabric (e : Fin 6) : (s.putLoad l).fabric e = s.fabric e := (rfl)

/-- A frame that has been written, and the frames beside it. -/
theorem frame_setFrame (x : Fabric) (fa fb : Nat) (v : Frame) (b : List Nat) :
    ({ x.setFrame fa v with badWords := b } : Fabric).frame fb = if fb = fa then v else x.frame fb :=
  Sparse.get_put _ _ _ _ _

/-- The end of a partial load's last leg. -/
theorem partEnd_spec {hd : l.die < 6} (hk : l.kind = 2) : let t := s.endSection l
    t.cfg.load = none ∧ t.cfg.startup = some ⟨[l.die], some (hdrMeadow l.header), hdrStartup l.header, 0, wholeUs (l.endAt + 2000 * ns), 2⟩ ∧
    t.flag (R.CFG_DSTAT l.die) F.CFG_DSTAT_LOADING = false ∧ ∀ e, t.fabric e = { s.fabric e with sets := (t.fabric e).sets } := by
  rw [endSection_part hk hd]
  have hports := readSets_only (s := s.setB (R.CFG_DSTAT l.die) F.CFG_DSTAT_LOADING false) (d := ⟨l.die, hd⟩)
  have hloading : (s.setB (R.CFG_DSTAT l.die) F.CFG_DSTAT_LOADING false).flag (R.CFG_DSTAT l.die) F.CFG_DSTAT_LOADING = false :=
    setB_flag_same false (by decide) rfl
  have hrd := hports.rd (R.CFG_DSTAT l.die) fun p hp => by
    show R.CFG_DSTAT l.die ≠ R.FAB_PORT_STAT l.die p
    unfold R.CFG_DSTAT R.FAB_PORT_STAT fabBase cfgBase
    omega
  have hfab := hports.sets
  generalize (s.setB (R.CFG_DSTAT l.die) F.CFG_DSTAT_LOADING false).readSets ⟨l.die, hd⟩ = u at hrd hfab ⊢
  obtain ⟨hload, hstart, hregs, hsame⟩ := beginStartup_part (s := u) hk
  generalize u.beginStartup l = t at hload hstart hregs hsame ⊢
  refine ⟨hload, hstart, ?_, fun e => ?_⟩
  · have ht : t.rd (R.CFG_DSTAT l.die) = u.rd (R.CFG_DSTAT l.die) := by rw [State.rd, hregs, State.rd]
    rw [flag_congr ht, flag_congr hrd, hloading]
  · have ht : t.fabric e = u.fabric e := by rw [State.fabric, hsame, State.fabric]
    rw [ht, hfab e, setB_fabric]

/-- Settles O35: each command of the stream is taken, or ends the load through `loadFail_ended`; a leg's end by its cases. -/
theorem streamCommandsAndLegs : Obligations.StreamCommandsAndLegs := by
  unfold Obligations.StreamCommandsAndLegs
  intro s l hl hh
  refine ⟨fun hr hu hb hfw => ⟨fun ho => ⟨_, cmdNop_taken hl hh hr hu hb ho, rfl⟩, fun w0 w1 ws d hw ho ha hlen hd hok => ?_,
    fun w0 w1 ws d hw ho hd => ⟨fun hc => ⟨_, dcrc_taken hl hh hr hu hb ho hw hd hc, rfl⟩,
      fun hc h0 => ⟨_, dcrc_failed hl hr hu hb ho hw hd hc, loadFail_tried h0 (by decide)⟩⟩,
    fun ho => ⟨_, dend_taken hl hh hr hu hb ho, rfl⟩⟩, fun hr hu hb h0 => ?_, fun dn hdn hr => ⟨fun hg h0 => ?_, fun hg hlast he hsrc hin => ?_,
    fun hg hlast he hw hfw hs hk hd => ?_⟩⟩
  · refine ⟨_, fwrite_taken hl hh hr hu hb ho hfw hw ha hlen hd hok, rfl, fun e he => (putLoad_fabric e).trans (modFab_fabric_other he), fun fa => ?_, ?_, rfl⟩
    · rw [putLoad_fabric, modFab_fabric_same, frame_setFrame]
    · rw [putLoad_fabric, modFab_fabric_same]
      rfl
  · simp only [List.mem_cons, List.not_mem_nil, or_false, forall_eq_or_imp, forall_eq]
    have hend := loadFail_tried (s := s) (l := l) (code := 7) h0 (by decide)
    have hstep : ∀ op f, s.streamStep op f = (s.loadFail l 7).trySlots 5 := fun op f => streamStep_bad hl hr hu hb
    exact ⟨⟨_, congrArg Host.Outcome.next (hstep _ _), hend⟩, ⟨_, congrArg Host.Outcome.next (hstep _ _), hend⟩,
      ⟨_, congrArg Host.Outcome.next (hstep _ _), hend⟩, ⟨_, congrArg Host.Outcome.next (hstep _ _), hend⟩⟩
  · exact ⟨_, legEnd_bad hl hdn hr hg, loadFail_tried h0 (by decide)⟩
  · exact ⟨_, legEnd_next hl hdn hr hh hg hlast he hsrc hin, rfl⟩
  · obtain ⟨hload, hrest⟩ := partEnd_spec (s := s) (l := { l with key := 0, done := none }) (hd := hd) hk
    refine ⟨_, legEnd_last hl hdn hr hg hlast he hw hfw hs, ?_⟩
    rw [trySlots_none hload]
    exact ⟨hload, hrest⟩

end Sys2Proof.Machine
end

section
/-! Start-up steps (11_configuration.md R391, R394 to R397, R403). -/
namespace Sys2Proof.Machine
variable {s t w : State} {d e : Fin 6} {u : Startup}

/-! ### Loops over dies -/

/-- What a loop over some places leaves at each of them, where a step changes its own place alone. -/
theorem forEach_at {α σ β : Type} [DecidableEq α] {P : σ → Prop} {f : α → σ → σ} {obs : σ → α → β} {v : α → β} (l : List α) {x : σ}
    (hx : P x) (hP : ∀ a y, P y → P (f a y)) (hsame : ∀ a y, P y → obs (f a y) a = v a)
    (hother : ∀ a b y, P y → b ≠ a → obs (f a y) b = obs y b) : P (forEach l f x) ∧ ∀ b, obs (forEach l f x) b = if b ∈ l then v b else obs x b := by
  induction l generalizing x with
  | nil => exact ⟨hx, fun b => (if_neg (by simp)).symm⟩
  | cons a l ih =>
    rw [forEach_cons]
    obtain ⟨hp, hobs⟩ := ih (hP a x hx)
    refine ⟨hp, fun b => ?_⟩
    rw [hobs]
    by_cases hb : b ∈ l
    · rw [if_pos hb, if_pos (List.mem_cons_of_mem _ hb)]
    · rw [if_neg hb]
      by_cases hba : b = a
      · rw [hba, hsame a x hx, if_pos List.mem_cons_self]
      · rw [hother a b x hx hba, if_neg (by simp [hba, hb])]

/-- The dies of a start-up, in order. -/
def Startup.here (u : Startup) : List (Fin 6) := (List.finRange 6).filter (fun d => u.dies.contains d.val)

theorem mem_here : d ∈ u.here ↔ u.dies.contains d.val = true := by simp [Startup.here]

/-- The clock, the configuration logic and the dies that are up. -/
def Kept36 (s t : State) : Prop := t.now = s.now ∧ t.cfg = s.cfg ∧ t.cfgUp = s.cfgUp

theorem Kept36.refl (s : State) : Kept36 s s := ⟨rfl, rfl, rfl⟩
theorem Kept36.setF {a n : Nat} {f : Fld} (h : Kept36 s t) : Kept36 s (t.setF a f n) := h
theorem Kept36.modFab {f : Fabric → Fabric} (h : Kept36 s t) : Kept36 s (t.modFab d f) := h

/-! ### A start-up moves on (R391, R394) -/

theorem setF_up_frame {l : Sparse Word} {c : Vector Bool 6} (h : t = { s with regs := l, cfgUp := c }) (a n : Nat) (f : Fld) :
    ∃ k, t.setF a f n = { s with regs := k, cfgUp := c } := by
  rw [h]
  exact ⟨_, rfl⟩

/-- Registers that show which dies are up, and the dies that are. -/
structure Raised (c : Vector Bool 6) (s t : State) : Prop where
  frame : ∃ l, t = { s with regs := l, cfgUp := c }
  regs : ∀ a, (∀ n, a ≠ R.CFG_DSTAT n) → t.rd a = s.rd a

/-- The dies have passed their last step; CFG_DSTAT shows it. -/
theorem diesUp_spec (s : State) (ds : List Nat) : Raised (Vector.ofFn fun d : Fin 6 => s.cfgUp[d] || ds.contains d.val) s (s.diesUp ds) := by
  unfold State.diesUp
  dsimp only
  generalize Vector.ofFn (fun d : Fin 6 => s.cfgUp[d] || ds.contains d.val) = c
  refine forEach_induct (P := Raised c s) ⟨⟨_, rfl⟩, fun _ _ => rfl⟩ fun n _ t ht => ⟨?_, fun a ha => ?_⟩
  · obtain ⟨l, hl⟩ := ht.frame
    exact setF_up_frame hl _ _ _
  · rw [State.raise_eq, State.setF_rd_other _ _ _ _ _ (ha n), ht.regs a ha]

/-- A start-up that moves on to the next step, or to its end. -/
structure Advanced (u : Startup) (time : Nat) (s t : State) : Prop where
  now : t.now = s.now
  fab : t.fab = s.fab
  regs : ∀ a, (∀ n, a ≠ R.CFG_DSTAT n) → t.rd a = s.rd a
  next : u.step < 3 → t.cfg = { s.cfg with startup := some { u with step := u.step + 1, time := time } } ∧ t.cfgUp = s.cfgUp
  last : 3 ≤ u.step → t.cfg = { s.cfg with startup := none, doneAt := some (time, u.kind, u.dies) } ∧
    ∀ d : Fin 6, t.cfgUp[d] = (s.cfgUp[d] || u.dies.contains d.val)

theorem advance_next {time : Nat} (h : u.step < 3) (hk : u.kind < 2) :
    s.advance u time = s.setCfg (fun c => { c with startup := some { u with step := u.step + 1, time := time } }) := by
  rw [State.advance, if_pos h]
  exact if_neg (by omega)

theorem advance_last {time : Nat} (h : 3 ≤ u.step) (hk : u.kind < 2) (hm : u.meadow = none) :
    s.advance u time = (s.diesUp u.dies).setCfg (fun c => { c with startup := none, doneAt := some (time, u.kind, u.dies) }) := by
  rw [State.advance, if_neg (by omega), if_neg (by omega), hm]
  rfl

theorem advance_spec {time : Nat} (hk : u.kind < 2) (hm : u.meadow = none) : Advanced u time s (s.advance u time) := by
  by_cases h : u.step < 3
  · rw [advance_next h hk]
    exact ⟨rfl, rfl, fun _ _ => rfl, fun _ => ⟨rfl, rfl⟩, fun h3 => absurd h (by omega)⟩
  · rw [advance_last (by omega) hk hm]
    obtain ⟨⟨l, hl⟩, hr⟩ := diesUp_spec s u.dies
    generalize s.diesUp u.dies = v at hl hr ⊢
    refine ⟨?_, ?_, hr, fun h3 => absurd h3 h, fun _ => ⟨?_, fun d => ?_⟩⟩
    · rw [hl]
      rfl
    · rw [hl]
      rfl
    · rw [hl]
      rfl
    · rw [hl]
      exact Vector.getElem_ofFn _

/-- A step of a start-up over whole dies. -/
theorem startupStep_eq {code : Nat} {die : Fin 6 → State → State} {md : Fin 6 → Nat → State → State} (hs : s.cfg.startup = some u)
    (hm : u.meadow = none) (hc : stepCode u.order u.step = code) :
    s.startupStep code die md = (forEach u.here die (s.at_ u.time)).advance u (u.time + 1000 * ns) := by
  rw [State.startupStep, State.nextStartup, hs]
  dsimp only
  rw [if_pos hc]
  dsimp only
  rw [hm]
  rfl

/-- What every step over whole dies leaves of the start-up. -/
def Moved36 (u : Startup) (s t : State) : Prop := t.now = max s.now u.time ∧
  (u.step < 3 → let n := u.step + 1; let at_ := u.time + 1000 * ns
    t.cfg = { s.cfg with startup := some { u with step := n, time := at_ } } ∧ t.cfgUp = s.cfgUp) ∧
  (3 ≤ u.step → t.cfg = { s.cfg with startup := none, doneAt := some (u.time + 1000 * ns, u.kind, u.dies) } ∧
    ∀ d : Fin 6, t.cfgUp[d] = (s.cfgUp[d] || u.dies.contains d.val))

theorem moved_of_kept (hk : Kept36 (s.at_ u.time) w) (ha : Advanced u (u.time + 1000 * ns) w t) : Moved36 u s t := by
  obtain ⟨hnow, hcfg, hup⟩ := hk
  refine ⟨ha.now.trans hnow, fun h => ?_, fun h => ?_⟩
  · obtain ⟨hc, hu⟩ := ha.next h
    exact ⟨by rw [hc, hcfg]; rfl, by rw [hu, hup]; rfl⟩
  · obtain ⟨hc, hu⟩ := ha.last h
    refine ⟨by rw [hc, hcfg]; rfl, fun d => ?_⟩
    rw [hu]
    simp only [hup]
    rfl

/-! ### OUTREL, SETREL and WREN of a die -/

theorem fabStat_ne (h : e ≠ d) : R.FAB_STAT e ≠ R.FAB_STAT d := by
  have hne := Fin.val_ne_of_ne h
  unfold R.FAB_STAT fabBase dieBase
  omega

theorem fabStat_ne_dstat (d : Fin 6) (n : Nat) : R.FAB_STAT d ≠ R.CFG_DSTAT n := by
  unfold R.FAB_STAT R.CFG_DSTAT fabBase cfgBase dieBase
  omega

theorem outrelDie_fab (s : State) (d : Fin 6) : ((s.outrelDie d).fabric d).outrel = true ∧ (∀ e, e ≠ d → (s.outrelDie d).fabric e = s.fabric e) ∧
    Kept36 s (s.outrelDie d) := by
  unfold State.outrelDie
  dsimp only
  split
  · refine ⟨?_, fun e he => modFab_fabric_other he, (Kept36.refl s).modFab⟩
    rw [modFab_fabric_same]
  · refine ⟨?_, fun e he => (setF_fabric _ _ _ _).trans (modFab_fabric_other he), (Kept36.refl s).modFab.setF⟩
    rw [State.raise_eq, setF_fabric, modFab_fabric_same]

theorem kept_trans {a b c : State} (h : Kept36 a b) (k : Kept36 b c) : Kept36 a c :=
  ⟨k.1.trans h.1, k.2.1.trans h.2.1, k.2.2.trans h.2.2⟩

/-- OUTREL over the dies of a start-up. -/
theorem outrel_all (l : List (Fin 6)) (s : State) : Kept36 s (forEach l (fun d s => s.outrelDie d) s) ∧
    ∀ d, ((forEach l (fun d s => s.outrelDie d) s).fabric d).outrel = if d ∈ l then true else (s.fabric d).outrel :=
  forEach_at (P := Kept36 s) (obs := fun t d => (t.fabric d).outrel) (v := fun _ => true) l ⟨rfl, rfl, rfl⟩
    (fun d _ hy => kept_trans hy (outrelDie_fab _ d).2.2) (fun d y _ => (outrelDie_fab y d).1)
    (fun d e y _ he => congrArg Fabric.outrel ((outrelDie_fab y d).2.1 e he))

/-- SETREL of a die. -/
def State.setrelDie (d : Fin 6) (s : State) : State :=
  (s.setB (R.FAB_STAT d) F.FAB_STAT_GSR false).modFab d (fun x => { x with ff := [] })

theorem setrelDie_same : (s.setrelDie d).flag (R.FAB_STAT d) F.FAB_STAT_GSR = false ∧ ((s.setrelDie d).fabric d).ff = [] ∧ Kept36 s (s.setrelDie d) := by
  refine ⟨?_, ?_, (Kept36.refl s).setF.modFab⟩
  · rw [State.setrelDie, flag_congr (modFab_rd _ _)]
    exact setB_flag_same false (by decide) rfl
  · rw [State.setrelDie, modFab_fabric_same]

theorem setrelDie_other (he : e ≠ d) : (s.setrelDie d).flag (R.FAB_STAT e) F.FAB_STAT_GSR = s.flag (R.FAB_STAT e) F.FAB_STAT_GSR ∧
    ((s.setrelDie d).fabric e).ff = (s.fabric e).ff := by
  refine ⟨?_, ?_⟩
  · rw [State.setrelDie, flag_congr (modFab_rd _ _), setB_flag_other _ (fabStat_ne he)]
  · rw [State.setrelDie, modFab_fabric_other he, setB_fabric]

theorem setrel_all (l : List (Fin 6)) (s : State) : Kept36 s (forEach l State.setrelDie s) ∧
    (∀ d : Fin 6, (forEach l State.setrelDie s).flag (R.FAB_STAT d) F.FAB_STAT_GSR = if d ∈ l then false else s.flag (R.FAB_STAT d) F.FAB_STAT_GSR) ∧
    ∀ d, ((forEach l State.setrelDie s).fabric d).ff = if d ∈ l then [] else (s.fabric d).ff := by
  obtain ⟨hkept, hgsr⟩ := forEach_at (P := Kept36 s) (f := State.setrelDie) (obs := fun t d => t.flag (R.FAB_STAT d) F.FAB_STAT_GSR)
    (v := fun _ => false) l (x := s) ⟨rfl, rfl, rfl⟩ (fun _ _ hy => kept_trans hy setrelDie_same.2.2) (fun _ _ _ => setrelDie_same.1)
    (fun _ _ _ _ he => (setrelDie_other he).1)
  exact ⟨hkept, hgsr, (forEach_at (P := Kept36 s) (f := State.setrelDie) (obs := fun t d => (t.fabric d).ff) (v := fun _ => []) l (x := s)
    ⟨rfl, rfl, rfl⟩ (fun _ _ hy => kept_trans hy setrelDie_same.2.2) (fun _ _ _ => setrelDie_same.2.1)
    (fun _ _ _ _ he => (setrelDie_other he).2)).2⟩

/-- WREN of a die. -/
def State.wrenDie (d : Fin 6) (s : State) : State :=
  ((s.raise (R.FAB_STAT d) F.FAB_STAT_WREN).modFab d (fun x => { x with wrenAt := some s.now })).showPorts d

theorem fabStat_ne_port (d e : Fin 6) (p : Nat) (hp : p < 16) : R.FAB_STAT e ≠ R.FAB_PORT_STAT d p := by
  unfold R.FAB_STAT R.FAB_PORT_STAT fabBase dieBase
  omega

theorem portsOnly_kept (h : PortsOnly d s t) : Kept36 s t := by
  obtain ⟨r, f, hf⟩ := h.frame
  exact ⟨by rw [hf], by rw [hf], by rw [hf]⟩

theorem wrenDie_same : (s.wrenDie d).flag (R.FAB_STAT d) F.FAB_STAT_WREN = true ∧ ((s.wrenDie d).fabric d).wrenAt = some s.now ∧
    Kept36 s (s.wrenDie d) := by
  have hports := showPorts_only (PortsOnly.refl d ((s.raise (R.FAB_STAT d) F.FAB_STAT_WREN).modFab d (fun x => { x with wrenAt := some s.now })))
  refine ⟨?_, ?_, kept_trans (Kept36.refl s).setF.modFab (portsOnly_kept hports)⟩
  · rw [State.wrenDie, flag_congr (hports.rd _ (fabStat_ne_port d d)), flag_congr (modFab_rd _ _)]
    exact State.raise_flag _ _ _ (by decide) rfl
  · rw [State.wrenDie, hports.sets, modFab_fabric_same]

theorem wrenDie_other (he : e ≠ d) : (s.wrenDie d).flag (R.FAB_STAT e) F.FAB_STAT_WREN = s.flag (R.FAB_STAT e) F.FAB_STAT_WREN ∧
    ((s.wrenDie d).fabric e).wrenAt = (s.fabric e).wrenAt := by
  have hports := showPorts_only (PortsOnly.refl d ((s.raise (R.FAB_STAT d) F.FAB_STAT_WREN).modFab d (fun x => { x with wrenAt := some s.now })))
  refine ⟨?_, ?_⟩
  · rw [State.wrenDie, flag_congr (hports.rd _ (fabStat_ne_port d e)), flag_congr (modFab_rd _ _), State.raise_eq,
      flag_congr (State.setF_rd_other _ _ _ _ _ (fabStat_ne he))]
  · rw [State.wrenDie, hports.others e he, modFab_fabric_other he, State.raise_eq, setF_fabric]

theorem wren_all (l : List (Fin 6)) (s : State) : Kept36 s (forEach l State.wrenDie s) ∧
    (∀ d : Fin 6, (forEach l State.wrenDie s).flag (R.FAB_STAT d) F.FAB_STAT_WREN = if d ∈ l then true else s.flag (R.FAB_STAT d) F.FAB_STAT_WREN) ∧
    ∀ d, ((forEach l State.wrenDie s).fabric d).wrenAt = if d ∈ l then some s.now else (s.fabric d).wrenAt := by
  obtain ⟨hkept, hwren⟩ := forEach_at (P := Kept36 s) (f := State.wrenDie) (obs := fun t d => t.flag (R.FAB_STAT d) F.FAB_STAT_WREN)
    (v := fun _ => true) l (x := s) ⟨rfl, rfl, rfl⟩ (fun _ _ hy => kept_trans hy wrenDie_same.2.2) (fun _ _ _ => wrenDie_same.1)
    (fun _ _ _ _ he => (wrenDie_other he).1)
  exact ⟨hkept, hwren, (forEach_at (P := Kept36 s) (f := State.wrenDie) (obs := fun t d => (t.fabric d).wrenAt) (v := fun _ => some s.now) l
    (x := s) ⟨rfl, rfl, rfl⟩ (fun _ _ hy => kept_trans hy wrenDie_same.2.2) (fun _ y hy => by rw [wrenDie_same.2.1, hy.1])
    (fun _ _ _ _ he => (wrenDie_other he).2)).2⟩

end Sys2Proof.Machine
end

section
/-! LOCK, the end of a load, and the obligation on start-up (11_configuration.md R394 to R397, R403). -/
namespace Sys2Proof.Machine
variable {s t w : State} {d e : Fin 6} {u : Startup} {l : Load} {code : Nat}

/-! ### LOCK (R396) -/

section Lock
variable (hs : s.cfg.startup = some u) (hc : stepCode u.order u.step = 0)
include hs hc

theorem nextStartup_lock : s.nextStartup 0 = some u := by
  rw [State.nextStartup, hs]
  exact if_pos hc

theorem lockStep_locked (h3 : u.step < 3) (hk : u.kind < 2) (hall : u.dies.all s.fcsLocked = true)
    (hlast : s.lastLock u.dies ≤ u.time + 1000000 * ns) : exec .lockStep s = .next ((s.at_ u.time).setCfg (fun c => { c with
      startup := some { u with step := u.step + 1, time := max (u.time + 1000 * ns) (wholeUs (s.lastLock u.dies)) } })) := by
  show execLockStep s = _
  rw [execLockStep, nextStartup_lock hs hc]
  refine (if_pos ?_).trans (congrArg Host.Outcome.next (advance_next h3 hk))
  exact Bool.and_eq_true_iff.mpr ⟨hall, decide_eq_true (.inr hlast)⟩

theorem lockStep_waits (hall : u.dies.all s.fcsLocked = false) (hnow : s.now < u.time + 1000000 * ns) :
    exec .lockStep s = .next (s.at_ u.time) := by
  show execLockStep s = _
  rw [execLockStep, nextStartup_lock hs hc]
  refine (if_neg ?_).trans (if_neg ?_)
  · intro h
    exact absurd ((Bool.and_eq_true_iff.mp h).1.symm.trans hall) nofun
  · rintro ⟨-, h | h⟩
    · exact absurd (h.symm.trans hall) nofun
    · have hle : u.time + 1000000 * ns ≤ max s.now u.time := h
      have hpos : 0 < ns := by decide
      omega

theorem lockStep_fails (hk : u.kind < 2) (h : u.dies.all s.fcsLocked = false ∧ u.time + 1000000 * ns ≤ s.now ∨
    u.dies.all s.fcsLocked = true ∧ u.time + 1000000 * ns < s.lastLock u.dies) :
    exec .lockStep s = .next (((s.at_ u.time).startupFail u 0xB).trySlots 5) := by
  show execLockStep s = _
  rw [execLockStep, nextStartup_lock hs hc]
  refine (if_neg ?_).trans (if_pos ⟨by omega, ?_⟩)
  · intro hand
    obtain ⟨hall, hdec⟩ := Bool.and_eq_true_iff.mp hand
    have hlast : u.kind = 3 ∨ s.lastLock u.dies ≤ u.time + 1000000 * ns := of_decide_eq_true hdec
    rcases h with ⟨hf, -⟩ | ⟨-, hlt⟩
    · exact absurd (hall.symm.trans hf) nofun
    · omega
  · rcases h with ⟨-, hle⟩ | ⟨hall, -⟩
    · exact .inr (hle.trans (le_max_left _ _))
    · exact .inl hall

end Lock

/-- A DIELOAD's failure, with its cause. -/
theorem loadFail_die_spec (h : l.kind = 1) (hc : code < 16) : (s.loadFail l code).cfg.load = none ∧ (s.loadFail l code).cfg.startup = none ∧
    (s.loadFail l code).fld (R.CFG_ERR 0) F.CFG_ERR_CODE = code ∧
    (s.loadFail l code).flag (R.CFG_CAUSE 0) F.CFG_CAUSE_LOADERR = true := by
  have hended := loadFail_ended (s := s) (l := l) (code := code) (by omega)
  refine ⟨hended.load, ?_, by rw [State.fld, hended.err, errWord_code hc], ?_⟩
  · rw [loadFail_die h]
    show (if h : l.die < 6 then (s.dropLoad l code).clearDie ⟨l.die, h⟩ else s.dropLoad l code).cfg.startup = none
    split
    · rw [(clearDie_cleared _ _).cfg]
      rfl
    · rfl
  · rw [loadFail_die h]
    exact State.raise_flag _ _ _ (by decide) rfl

theorem startupFail_die (hk : u.kind = 1) (hm : u.meadow = none) : ∃ l : Load, l.kind = 1 ∧ s.startupFail u code = s.loadFail l code := by
  refine ⟨{ s.cfg.started.getD (loadOf u.kind 0 0 0 (u.dies.headD 0) [] []) with kind := u.kind }, hk, ?_⟩
  rw [State.startupFail, hm]

/-! ### The load is done (R397) -/

section Done
variable {n kind : Nat} {ds : List Nat}

/-- The clock and the configuration logic at the end of a load. -/
def State.loadDone (s : State) (n : Nat) : State := (s.at_ n).setCfg (fun c => { c with doneAt := none })

theorem doneRise_full (h : s.cfg.doneAt = some (n, 0, ds)) : exec .doneRise s = .next ((((((s.loadDone n).setF (R.CFG_STAT 0) F.CFG_STAT_DONE 1).setF
      (R.CFG_STAT 0) F.CFG_STAT_STATE 4).wr (R.CFG_DESIGNID 0) (BitVec.ofNat 32 (hdrDesign s.cfg.header))).setF R.KPR_RBCNT
        F.KPR_RBCNT_LOADED (hdr s.cfg.header 8 1)).setF (R.CFG_CAUSE 0) F.CFG_CAUSE_LOADOK 1) := by
  show execDoneRise s = _
  unfold execDoneRise
  rw [h]
  rfl

theorem doneRise_die (h : s.cfg.doneAt = some (n, 1, ds)) : exec .doneRise s = .next (((s.loadDone n).setF (R.CFG_STAT 0) F.CFG_STAT_BUSY 0).setF
    (R.CFG_CAUSE 0) F.CFG_CAUSE_LOADOK 1) := by
  show execDoneRise s = _
  unfold execDoneRise
  rw [h]
  rfl

theorem doneRise_part (hk : 2 ≤ kind) (h : s.cfg.doneAt = some (n, kind, ds)) : exec .doneRise s =
    .next (((s.loadDone n).setF (R.CFG_STAT 0) F.CFG_STAT_BUSY 0).setF (R.CFG_CAUSE (ds.headD 0)) F.CFG_CAUSE_PLOADOK 1) := by
  obtain ⟨k, rfl⟩ := Nat.exists_eq_add_of_le' hk
  show execDoneRise s = _
  unfold execDoneRise
  rw [h]
  rfl

end Done

theorem cfgStat_ne : (∀ n, R.CFG_STAT 0 ≠ R.CFG_CAUSE n) ∧ R.CFG_STAT 0 ≠ R.CFG_DESIGNID 0 ∧ R.CFG_STAT 0 ≠ R.KPR_RBCNT ∧
    R.CFG_DESIGNID 0 ≠ R.KPR_RBCNT ∧ R.CFG_DESIGNID 0 ≠ R.CFG_CAUSE 0 := by
  unfold R.CFG_STAT R.CFG_CAUSE R.CFG_DESIGNID R.KPR_RBCNT cfgBase kprBase packageBase dieBase
  refine ⟨fun n => ?_, ?_, ?_, ?_, ?_⟩ <;> omega

/-- Clock, registers and the end of a load. -/
def DoneFrame (s : State) (n : Nat) (t : State) : Prop := t = { s with now := max s.now n, regs := t.regs, cfg := { s.cfg with doneAt := none } }

theorem DoneFrame.wr {n a : Nat} {v : Word} (h : DoneFrame s n t) : DoneFrame s n (t.wr a v) := by
  unfold DoneFrame at h ⊢
  generalize t.regs = l at h
  rw [h]
  rfl
theorem DoneFrame.setF {n a x : Nat} {f : Fld} (h : DoneFrame s n t) : DoneFrame s n (t.setF a f x) := h.wr

theorem loadDone_frame (n : Nat) : DoneFrame s n (s.loadDone n) := rfl
theorem loadDone_rd (n a : Nat) : (s.loadDone n).rd a = s.rd a := (rfl)

/-- A busy load ends, with a cause. -/
theorem busyEnd_spec (n c : Nat) (f : Fld) : let t := ((s.loadDone n).setF (R.CFG_STAT 0) F.CFG_STAT_BUSY 0).setF (R.CFG_CAUSE c) f 1
    DoneFrame s n t ∧ Writes [(R.CFG_STAT 0, [(F.CFG_STAT_BUSY, 0)]), (R.CFG_CAUSE c, [(f, 1)])] s t :=
  ⟨(loadDone_frame n).setF.setF, (onlyWrites_setF_setF (s := s.loadDone n) (cfgStat_ne.1 c)).2⟩

/-- A full load ends: DONE, the design's number and LOADOK. -/
theorem fullEnd_spec (n : Nat) (id : Word) (k : Nat) : let t := (((((s.loadDone n).setF (R.CFG_STAT 0) F.CFG_STAT_DONE 1).setF
      (R.CFG_STAT 0) F.CFG_STAT_STATE 4).wr (R.CFG_DESIGNID 0) id).setF R.KPR_RBCNT F.KPR_RBCNT_LOADED k).setF (R.CFG_CAUSE 0) F.CFG_CAUSE_LOADOK 1
    DoneFrame s n t ∧ t.flag (R.CFG_STAT 0) F.CFG_STAT_DONE = true ∧ t.fld (R.CFG_STAT 0) F.CFG_STAT_STATE = 4 ∧ t.rd (R.CFG_DESIGNID 0) = id ∧
    t.flag (R.CFG_CAUSE 0) F.CFG_CAUSE_LOADOK = true ∧ SameRegs [R.CFG_STAT 0, R.CFG_DESIGNID 0, R.KPR_RBCNT, R.CFG_CAUSE 0] s t := by
  obtain ⟨hcause, hid, hkpr, hidk, hidc⟩ := cfgStat_ne
  have hstat : ∀ f : Fld, ((((((s.loadDone n).setF (R.CFG_STAT 0) F.CFG_STAT_DONE 1).setF (R.CFG_STAT 0) F.CFG_STAT_STATE 4).wr (R.CFG_DESIGNID 0)
      id).setF R.KPR_RBCNT F.KPR_RBCNT_LOADED k).setF (R.CFG_CAUSE 0) F.CFG_CAUSE_LOADOK 1).fld (R.CFG_STAT 0) f =
      (((s.loadDone n).setF (R.CFG_STAT 0) F.CFG_STAT_DONE 1).setF (R.CFG_STAT 0) F.CFG_STAT_STATE 4).fld (R.CFG_STAT 0) f := fun f => by
    rw [State.setF_fld_other _ _ _ _ _ _ (.inl (hcause 0)), State.setF_fld_other _ _ _ _ _ _ (.inl hkpr), State.wr_fld_other _ _ _ _ _ hid]
  refine ⟨(loadDone_frame n).setF.setF.wr.setF.setF, ?_, ?_, ?_, ?_, fun a ha => ?_⟩
  · rw [State.flag, hstat, State.setF_fld_other _ _ _ _ _ _ (.inr (by decide)), setF_fld_of_lt (by decide) (by decide)]
    rfl
  · rw [hstat, setF_fld_of_lt (by decide) (by decide)]
  · rw [State.setF_rd_other _ _ _ _ _ hidc, State.setF_rd_other _ _ _ _ _ hidk, State.wr_rd_same]
  · exact State.raise_flag _ _ _ (by decide) rfl
  · obtain ⟨h1, h2, h3, h4⟩ : a ≠ R.CFG_STAT 0 ∧ a ≠ R.CFG_DESIGNID 0 ∧ a ≠ R.KPR_RBCNT ∧ a ≠ R.CFG_CAUSE 0 := by simpa using ha
    rw [State.setF_rd_other _ _ _ _ _ h4, State.setF_rd_other _ _ _ _ _ h3, State.wr_rd_other _ _ _ _ h2, State.setF_rd_other _ _ _ _ _ h1,
      State.setF_rd_other _ _ _ _ _ h1, loadDone_rd]

/-! ### The obligation -/

theorem outrel_here (ha : Advanced u n w t) (h : ∀ d, (w.fabric d).outrel = if d ∈ u.here then true else (s.fabric d).outrel) (d : Fin 6) :
    (t.fabric d).outrel = ((s.fabric d).outrel || u.dies.contains d.val) := by
  have hf : t.fabric d = w.fabric d := by rw [State.fabric, ha.fab, State.fabric]
  rw [hf, h]
  by_cases hd : d ∈ u.here
  · rw [if_pos hd, mem_here.mp hd, Bool.or_true]
  · rw [if_neg hd, Bool.eq_false_iff.mpr fun h => hd (mem_here.mpr h), Bool.or_false]

theorem fabric_advanced (ha : Advanced u n w t) (d : Fin 6) : t.fabric d = w.fabric d := by rw [State.fabric, ha.fab, State.fabric]

theorem fabStat_advanced (ha : Advanced u n w t) (d : Fin 6) (f : Fld) : t.flag (R.FAB_STAT d) f = w.flag (R.FAB_STAT d) f :=
  flag_congr (ha.regs _ (fabStat_ne_dstat d)) f

/-- SETREL and WREN of the dies of a start-up, as their flags and logic show it. -/
theorem setrel_here (ha : Advanced u n w t)
    (hg : ∀ d : Fin 6, w.flag (R.FAB_STAT d) F.FAB_STAT_GSR = if d ∈ u.here then false else s.flag (R.FAB_STAT d) F.FAB_STAT_GSR)
    (hf : ∀ d, (w.fabric d).ff = if d ∈ u.here then [] else (s.fabric d).ff) (d : Fin 6) :
    t.flag (R.FAB_STAT d) F.FAB_STAT_GSR = (s.flag (R.FAB_STAT d) F.FAB_STAT_GSR && !u.dies.contains d.val) ∧
    (u.dies.contains d.val = true → (t.fabric d).ff = []) := by
  rw [fabStat_advanced ha, hg, fabric_advanced ha, hf]
  by_cases hd : d ∈ u.here
  · rw [if_pos hd, if_pos hd, mem_here.mp hd]
    exact ⟨by simp, fun _ => rfl⟩
  · rw [if_neg hd, Bool.eq_false_iff.mpr fun h => hd (mem_here.mpr h)]
    exact ⟨by simp, nofun⟩

theorem wren_here {m : Nat} (ha : Advanced u n w t)
    (hg : ∀ d : Fin 6, w.flag (R.FAB_STAT d) F.FAB_STAT_WREN = if d ∈ u.here then true else s.flag (R.FAB_STAT d) F.FAB_STAT_WREN)
    (hf : ∀ d, (w.fabric d).wrenAt = if d ∈ u.here then some m else (s.fabric d).wrenAt) (d : Fin 6) :
    t.flag (R.FAB_STAT d) F.FAB_STAT_WREN = (s.flag (R.FAB_STAT d) F.FAB_STAT_WREN || u.dies.contains d.val) ∧
    (u.dies.contains d.val = true → (t.fabric d).wrenAt = some m) := by
  rw [fabStat_advanced ha, hg, fabric_advanced ha, hf]
  by_cases hd : d ∈ u.here
  · rw [if_pos hd, if_pos hd, mem_here.mp hd]
    exact ⟨by simp, fun _ => rfl⟩
  · rw [if_neg hd, Bool.eq_false_iff.mpr fun h => hd (mem_here.mpr h)]
    exact ⟨by simp, nofun⟩

/-- Settles O36: `startupStep_eq` gives a step as a loop over its dies and `advance_spec` what follows it. -/
theorem startupStepsInOrder : Obligations.StartupStepsInOrder := by
  unfold Obligations.StartupStepsInOrder
  intro s u hs hm hk moved
  have hadv : ∀ w : State, Advanced u (u.time + 1000 * ns) w (w.advance u (u.time + 1000 * ns)) := fun w => advance_spec hk hm
  refine ⟨fun hc => ⟨_, congrArg Host.Outcome.next (startupStep_eq hs hm hc), ?_⟩, fun hc => ⟨_, congrArg Host.Outcome.next (startupStep_eq hs hm hc), ?_⟩,
    fun hc => ⟨_, congrArg Host.Outcome.next (startupStep_eq hs hm hc), ?_⟩, fun hc h3 => ⟨fun hall hlast => ⟨_, lockStep_locked hs hc h3 hk hall hlast, rfl, rfl⟩,
      fun hall hnow => ⟨_, lockStep_waits hs hc hall hnow, rfl⟩, fun h h1 => ?_⟩, fun v n kind ds hd => ?_⟩
  · obtain ⟨hkept, hout⟩ := outrel_all u.here (s.at_ u.time)
    exact ⟨moved_of_kept hkept (hadv _), outrel_here (hadv _) hout⟩
  · obtain ⟨hkept, hgsr, hff⟩ := setrel_all u.here (s.at_ u.time)
    exact ⟨moved_of_kept hkept (hadv _), setrel_here (hadv _) hgsr hff⟩
  · obtain ⟨hkept, hwren, hat⟩ := wren_all u.here (s.at_ u.time)
    exact ⟨moved_of_kept hkept (hadv _), wren_here (hadv _) hwren hat⟩
  · obtain ⟨l, hl, hfail⟩ := startupFail_die (s := s.at_ u.time) (code := 0xB) h1 hm
    obtain ⟨hload, hstart, hcode, herr⟩ := loadFail_die_spec (s := s.at_ u.time) (code := 0xB) hl (by decide)
    refine ⟨_, lockStep_fails hs hc hk h, ?_⟩
    rw [hfail, trySlots_none hload]
    exact ⟨hstart, hcode, herr⟩
  · match kind, hd with
    | 0, hd =>
      obtain ⟨hframe, hdone, hstate, hid, hok, hsame⟩ := fullEnd_spec (s := v) n (BitVec.ofNat 32 (hdrDesign v.cfg.header)) (hdr v.cfg.header 8 1)
      exact ⟨_, doneRise_full hd, hframe, fun _ => ⟨hdone, hstate, by rw [hid, BitVec.toNat_ofNat], hok, hsame⟩, nofun, fun h => absurd h (by omega)⟩
    | 1, hd =>
      obtain ⟨hframe, hwrites⟩ := busyEnd_spec (s := v) n 0 F.CFG_CAUSE_LOADOK
      exact ⟨_, doneRise_die hd, hframe, nofun, fun _ => hwrites, fun h => absurd h (by omega)⟩
    | k + 2, hd =>
      obtain ⟨hframe, hwrites⟩ := busyEnd_spec (s := v) n (ds.headD 0) F.CFG_CAUSE_PLOADOK
      exact ⟨_, doneRise_part (by omega) hd, hframe, nofun, fun h => absurd h (by omega), fun _ => hwrites⟩

end Sys2Proof.Machine
end

section
/-! The boot search (11_configuration.md R372 to R375). -/
namespace Sys2Proof.Machine
variable {s t u : State} {d e : Fin 6} {l : Load} {code : Nat} {flash : List Nat} {o : Bool}

/-! ### What the taking of a header leaves -/

/-- The flash, the load and what CFG_STAT shows of the search stay. -/
structure Steady (s t : State) : Prop where
  flash : t.cfg.flash = s.cfg.flash
  load : t.cfg.load = s.cfg.load
  stat : ∀ f ∈ [F.CFG_STAT_OCTAL, F.CFG_STAT_STATE, F.CFG_STAT_INITB], t.fld (R.CFG_STAT 0) f = s.fld (R.CFG_STAT 0) f

namespace Steady

theorem refl (s : State) : Steady s s := ⟨rfl, rfl, fun _ _ => rfl⟩

theorem trans (h : Steady s t) (k : Steady t u) : Steady s u :=
  ⟨k.flash.trans h.flash, k.load.trans h.load, fun f hf => (k.stat f hf).trans (h.stat f hf)⟩

theorem of_rd (hc : t.cfg.flash = s.cfg.flash) (hl : t.cfg.load = s.cfg.load) (hr : t.rd (R.CFG_STAT 0) = s.rd (R.CFG_STAT 0)) : Steady s t :=
  ⟨hc, hl, fun f _ => fld_congr hr f⟩

theorem wr {a : Nat} {v : Word} (ha : R.CFG_STAT 0 ≠ a) (h : Steady s t) : Steady s (t.wr a v) :=
  h.trans (of_rd rfl rfl (State.wr_rd_other _ _ _ _ ha))

theorem setF {a n : Nat} {f : Fld} (ha : R.CFG_STAT 0 ≠ a) (h : Steady s t) : Steady s (t.setF a f n) := h.wr ha

theorem setB {a : Nat} {f : Fld} {b : Bool} (ha : R.CFG_STAT 0 ≠ a) (h : Steady s t) : Steady s (t.setB a f b) := h.wr ha

theorem modFab {f : Fabric → Fabric} (h : Steady s t) : Steady s (t.modFab d f) := ⟨h.flash, h.load, h.stat⟩

theorem setSeam {n k : Nat} {f : SeamEnd → SeamEnd} (h : Steady s t) : Steady s (t.setSeam n k f) := by
  refine h.trans (of_rd ?_ ?_ (setSeam_rd f _)) <;>
  · obtain ⟨x, hx⟩ := setSeam_eq (s := t) (d := n) (k := k) f
    rw [hx]

theorem encSeen (h : Steady s t) : Steady s (t.raise (R.CFG_STAT 0) F.CFG_STAT_ENCSEEN) :=
  h.trans ⟨rfl, rfl, fun f hf => by
    rw [State.raise_eq, State.setF_fld_other _ _ _ _ _ _ (.inr (by
      revert f
      decide))]⟩

end Steady

theorem cfgStat_ne_setup : (∀ n k, R.CFG_STAT 0 ≠ R.SEAM_ROLE n k) ∧ (∀ (n k w : Nat), k < 3 → w < 24 → R.CFG_STAT 0 ≠ R.SEAM_FVAL n k w) ∧
    (∀ n k, k < 2 → R.CFG_STAT 0 ≠ R.FAB_FCS_CTRL n k) ∧ (∀ n k, k < 2 → R.CFG_STAT 0 ≠ R.FAB_FCS_STAT n k) ∧
    (∀ n, R.CFG_STAT 0 ≠ R.CFG_MDDEF n) ∧ ∀ n, R.CFG_STAT 0 ≠ R.CFG_DSTAT n := by
  unfold R.CFG_STAT R.SEAM_ROLE R.SEAM_FVAL R.FAB_FCS_CTRL R.FAB_FCS_STAT R.CFG_MDDEF R.CFG_DSTAT seamBase fabBase cfgBase dieBase
  refine ⟨fun n k => ?_, fun n k w _ _ => ?_, fun n k _ => ?_, fun n k _ => ?_, fun n => ?_, fun n => ?_⟩ <;> omega

theorem giveRoles_steady (h : List Nat) (n : Nat) : Steady s (s.giveRoles h n) := by
  unfold State.giveRoles
  have hroles := forEach_induct (P := Steady s) (l := [0, 1, 2]) (f := fun k s =>
    match headerLinks.findIdx? (fun l => l == (n, k) || farEnd l.1 l.2 == some (n, k)) with
    | none => s
    | some i => s.wr (R.SEAM_ROLE n k) (hdrRoles h i).word) (Steady.refl s) fun k _ t ht => by
      split
      · exact ht
      · exact ht.wr (cfgStat_ne_setup.1 n k)
  exact ⟨hroles.flash, hroles.load, hroles.stat⟩

theorem setFcs_steady {k : Nat} {b : Bool} (hk : k < 2) (h : Steady s t) : Steady s (t.setFcs d k b) := by
  obtain ⟨-, -, hctrl, hstat, -⟩ := cfgStat_ne_setup
  unfold State.setFcs
  dsimp only
  split
  · exact h.setB (hctrl d k hk)
  · exact (h.setB (hctrl d k hk)).setB (hstat d k hk)

theorem loadDie_steady (h : List Nat) (n : Fin 6) (hs : Steady s t) : Steady s (t.loadDie h n) := by
  obtain ⟨-, hfval, hctrl, -, hmd, -⟩ := cfgStat_ne_setup
  unfold State.loadDie
  dsimp only
  refine Steady.modFab (Steady.wr (hmd n) (forEach_induct (forEach_induct hs fun k hk u hu => ?_) fun k hk u hu => ?_))
  · split
    · refine forEach_induct hu.setSeam fun w hw v hv => hv.wr (hfval n k w ?_ (List.mem_range.mp hw))
      simp at hk
      omega
    · exact hu
  · have hk2 : k < 2 := by simp at hk; omega
    exact setFcs_steady hk2 (hu.setF (hctrl n k hk2))

/-- What a header's acceptance sets up, for a full load. -/
theorem setup_steady (h : List Nat) : Steady s (forEach (List.finRange 6) (fun n s => s.loadDie h n) (s.loadRoles h)) :=
  forEach_induct (forEach_induct (Steady.refl s) fun n _ _ ht => ht.trans (giveRoles_steady h n)) fun n _ _ ht => loadDie_steady h n ht

/-! ### The clearing of every die -/

/-- Every die is clear; the registers of the configuration and its load stay. -/
structure AllClear (s t : State) : Prop where
  flash : t.cfg.flash = s.cfg.flash
  load : t.cfg.load = s.cfg.load
  stat : t.rd (R.CFG_STAT 0) = s.rd (R.CFG_STAT 0)
  fabric : ∀ d, t.fabric d = Fabric.reset

theorem fabric_eq : s.fabric d = s.fab[d] := rfl

theorem clearDie_fabric (s : State) (d e : Fin 6) : (s.clearDie d).fabric e = if e = d then Fabric.reset else s.fabric e := by
  rw [fabric_eq, (clearDie_cleared s d).frame]
  split
  case isTrue h =>
    subst h
    exact Vector.getElem_set_self e.isLt
  case isFalse h => exact Vector.getElem_set_ne d.isLt e.isLt fun k => h (Fin.ext k.symm)

theorem clearAll_clear (s : State) : AllClear s s.clearAll := by
  obtain ⟨⟨hf, hl, hr⟩, hfab⟩ := forEach_at (P := fun t : State => t.cfg.flash = s.cfg.flash ∧ t.cfg.load = s.cfg.load ∧
      t.rd (R.CFG_STAT 0) = s.rd (R.CFG_STAT 0)) (f := fun d s => s.clearDie d) (obs := State.fabric) (v := fun _ => Fabric.reset)
    (List.finRange 6) (x := s) ⟨rfl, rfl, rfl⟩
    (fun d t ⟨hf, hl, hr⟩ => by
      obtain ⟨-, hregs, hcfg⟩ := clearDie_cleared t d
      refine ⟨?_, ?_, (hregs _ (cfg_not_cleared d).2.1).trans hr⟩ <;> rw [hcfg] <;> assumption)
    (fun d t _ => (clearDie_fabric t d d).trans (if_pos rfl)) (fun d e t _ hne => (clearDie_fabric t d e).trans (if_neg hne))
  exact ⟨hf, hl, hr, fun d => (hfab d).trans (if_pos (List.mem_finRange d))⟩

/-! ### The search goes from slot to slot -/

/-- A full load from the flash, of which the header may not be taken yet. -/
def FromFlash (l : Load) : Prop := l.kind = 0 ∧ l.src ≠ 2

/-- The search waits for the host, or a load from the flash is under way. -/
structure Booting (flash : List Nat) (o : Bool) (t : State) : Prop where
  flash : t.cfg.flash = flash
  octal : t.flag (R.CFG_STAT 0) F.CFG_STAT_OCTAL = o
  phase : t.cfg.load = none ∧ t.fld (R.CFG_STAT 0) F.CFG_STAT_STATE = 5 ∧ t.flag (R.CFG_STAT 0) F.CFG_STAT_INITB = false ∨
    ∃ l, t.cfg.load = some l ∧ FromFlash l ∧ t.fld (R.CFG_STAT 0) F.CFG_STAT_STATE = 2 ∧ t.flag (R.CFG_STAT 0) F.CFG_STAT_INITB = true

/-- What CFG_STAT shows while a load is under way. -/
structure Shown (flash : List Nat) (o : Bool) (t : State) : Prop where
  flash : t.cfg.flash = flash
  octal : t.flag (R.CFG_STAT 0) F.CFG_STAT_OCTAL = o
  state : t.fld (R.CFG_STAT 0) F.CFG_STAT_STATE = 2
  initb : t.flag (R.CFG_STAT 0) F.CFG_STAT_INITB = true

theorem flag_of_fld {a : Nat} {f : Fld} (h : t.fld a f = s.fld a f) : t.flag a f = s.flag a f := by
  rw [State.flag, h, State.flag]

theorem Shown.steady (h : Shown flash o s) (k : Steady s t) : Shown flash o t :=
  ⟨k.flash.trans h.flash, (flag_of_fld (k.stat _ (by decide))).trans h.octal, (k.stat _ (by decide)).trans h.state,
    (flag_of_fld (k.stat _ (by decide))).trans h.initb⟩

theorem putLoad_booting (h : Shown flash o s) (hl : FromFlash l) : Booting flash o (s.putLoad l) :=
  ⟨h.flash, h.octal, .inr ⟨l, rfl, hl, h.state, h.initb⟩⟩

theorem nextSlot_nil_rd {src : Nat} (a : Nat) : (s.nextSlot src []).rd a = (s.setF (R.CFG_STAT 0) F.CFG_STAT_STATE 5).rd a := (rfl)

theorem nextSlot_cons_rd {src : Nat} {e : Nat × Nat} {r : List (Nat × Nat)} (a : Nat) :
    (s.nextSlot src (e :: r)).rd a = ((s.setF (R.CFG_STAT 0) F.CFG_STAT_STATE 2).setB (R.CFG_STAT 0) F.CFG_STAT_INITB true).rd a := (rfl)

/-- The next slot, or none. -/
theorem nextSlot_booting {src : Nat} {slots : List (Nat × Nat)} (hsrc : src ≠ 2) (hf : s.cfg.flash = flash)
    (ho : s.flag (R.CFG_STAT 0) F.CFG_STAT_OCTAL = o) (hi : slots = [] → s.flag (R.CFG_STAT 0) F.CFG_STAT_INITB = false) :
    Booting flash o (s.nextSlot src slots) := by
  cases slots with
  | nil =>
    have hrd := nextSlot_nil_rd (s := s) (src := src) (R.CFG_STAT 0)
    refine ⟨hf, ?_, .inl ⟨rfl, ?_, ?_⟩⟩
    · rw [flag_congr hrd, State.flag, State.setF_fld_other _ _ _ _ _ _ (.inr (by decide)), ← State.flag, ho]
    · rw [fld_congr hrd, State.setF_fld_same _ _ _ _ (by decide)]
      rfl
    · rw [flag_congr hrd, State.flag, State.setF_fld_other _ _ _ _ _ _ (.inr (by decide)), ← State.flag, hi rfl]
  | cons e r =>
    have hrd := nextSlot_cons_rd (s := s) (src := src) (e := e) (r := r) (R.CFG_STAT 0)
    refine ⟨hf, ?_, .inr ⟨_, rfl, ⟨rfl, hsrc⟩, ?_, ?_⟩⟩
    · rw [flag_congr hrd, State.flag, State.setB_eq, State.setF_fld_other _ _ _ _ _ _ (.inr (by decide)), State.setF_fld_other _ _ _ _ _ _ (.inr (by decide)), ← State.flag, ho]
    · rw [fld_congr hrd, State.setB_eq, State.setF_fld_other _ _ _ _ _ _ (.inr (by decide)), State.setF_fld_same _ _ _ _ (by decide)]
      rfl
    · rw [flag_congr hrd, setB_flag_same true (by decide) (by decide)]

/-- A load from the flash that fails goes on with the next slot. -/
theorem loadFail_full (hk : l.kind = 0) : s.loadFail l code = ((((s.dropLoad l code).clearAll.setB (R.CFG_STAT 0) F.CFG_STAT_DONE false).setB
    (R.CFG_STAT 0) F.CFG_STAT_INITB false).cfgErr0 F.CFG_CAUSE_LOADERR).nextSlot l.src l.slots := by
  unfold State.loadFail
  rw [hk]
  rfl

theorem loadFail_booting (hl : FromFlash l) (hf : s.cfg.flash = flash) (ho : s.flag (R.CFG_STAT 0) F.CFG_STAT_OCTAL = o) :
    Booting flash o (s.loadFail l code) := by
  rw [loadFail_full hl.1]
  obtain ⟨hflash, -, hstat, -⟩ := clearAll_clear (s.dropLoad l code)
  have hdrop : (s.dropLoad l code).rd (R.CFG_STAT 0) = s.rd (R.CFG_STAT 0) := State.wr_rd_other _ _ _ _ cfgErr_ne.1.symm
  have hcause := cfgStat_ne.1 0
  refine nextSlot_booting hl.2 (hflash.trans hf) ?_ fun _ => ?_
  · refine (flag_of_fld ?_).trans ho
    rw [State.cfgErr0, State.raise_eq, State.setF_fld_other _ _ _ _ _ _ (.inl hcause), State.setB_eq, State.setF_fld_other _ _ _ _ _ _ (.inr (by decide)),
      State.setB_eq, State.setF_fld_other _ _ _ _ _ _ (.inr (by decide))]
    exact fld_congr (hstat.trans hdrop) _
  · rw [State.cfgErr0, State.raise_eq]
    exact (flag_of_fld (State.setF_fld_other _ _ _ _ _ _ (.inl hcause))).trans (setB_flag_same false (by decide) (by decide))

theorem takeLeg_booting (h : Shown flash o s) (hl : FromFlash l) : Booting flash o (s.takeLeg l) := by
  have hfail : Booting flash o (s.loadFail l 6) := loadFail_booting hl h.flash h.octal
  unfold State.takeLeg
  dsimp only
  split_ifs
  · exact putLoad_booting h hl
  · exact putLoad_booting h hl
  · exact hfail
  · exact hfail
  · exact putLoad_booting h hl
  · exact hfail
  · exact putLoad_booting h hl

theorem beginSection_booting {n : Nat} (h : Shown flash o s) (hl : FromFlash l) : Booting flash o (s.beginSection l n) := by
  obtain ⟨-, -, -, -, -, hdstat⟩ := cfgStat_ne_setup
  unfold State.beginSection
  split
  · exact loadFail_booting hl h.flash h.octal
  · refine takeLeg_booting (h.steady ((Steady.refl s).setF (hdstat n))) ?_
    by_cases h2 : l.src = 2
    · exact absurd h2 hl.2
    · rw [if_neg h2]
      exact hl

theorem headerEffect_booting (h : Shown flash o s) (hl : FromFlash l) : Booting flash o (s.headerEffect l) := by
  have henc : Shown flash o (if hdrEnc l.header then s.raise (R.CFG_STAT 0) F.CFG_STAT_ENCSEEN else s) := by
    split
    · exact h.steady (Steady.refl s).encSeen
    · exact h
  unfold State.headerEffect
  rw [hl.1]
  exact beginSection_booting (henc.steady (setup_steady _)) hl

theorem takeHeader_booting (h : Shown flash o s) (hl : FromFlash l) : Booting flash o (s.takeHeader l) := by
  unfold State.takeHeader
  have hkind : (if l.kind = 2 then 1 else 0) = 0 := if_neg (by rw [hl.1]; decide)
  rw [hkind]
  dsimp only
  split_ifs
  · exact takeLeg_booting h hl
  · exact putLoad_booting h hl
  · exact loadFail_booting hl h.flash h.octal
  · exact loadFail_booting hl h.flash h.octal
  · exact loadFail_booting hl h.flash h.octal
  · exact loadFail_booting hl h.flash h.octal
  · exact headerEffect_booting h hl

theorem trySlots_booting (n : Nat) (h : Booting flash o s) : Booting flash o (s.trySlots n) := by
  induction n generalizing s with
  | zero => exact h
  | succ n ih =>
    rw [State.trySlots]
    rcases h.phase with ⟨hn, -⟩ | ⟨l, hl, hfl, hs, hi⟩
    · rw [hn]
      exact h
    · rw [hl]
      dsimp only
      split
      · exact ih (takeHeader_booting ⟨h.flash, h.octal, hs, hi⟩ hfl)
      · exact h

end Sys2Proof.Machine
end

section
/-! Loads that begin and loads that are given up (11_configuration.md R376, R389, R393, R401, R402). -/
namespace Sys2Proof.Machine
variable {s t u : State} {d e : Fin 6} {l : Load} {code : Nat}

/-! ### What a register write leaves -/

section Write
variable {a n : Nat} {f : Fld} {b : Bool}

theorem setF_cfg : (s.setF a f n).cfg = s.cfg := (rfl)
theorem setB_cfg : (s.setB a f b).cfg = s.cfg := (rfl)
theorem setF_now : (s.setF a f n).now = s.now := (rfl)
theorem setB_now : (s.setB a f b).now = s.now := (rfl)
theorem setF_fab : (s.setF a f n).fab = s.fab := (rfl)
theorem setB_fab : (s.setB a f b).fab = s.fab := (rfl)
theorem setB_up : (s.setB a f b).cfgUp = s.cfgUp := (rfl)
theorem putLoad_load : (s.putLoad l).cfg.load = some l := (rfl)
theorem setCfg_cfg (f : Config11 → Config11) : (s.setCfg f).cfg = f s.cfg := (rfl)
theorem setCfg_fabric (f : Config11 → Config11) (e : Fin 6) : (s.setCfg f).fabric e = s.fabric e := (rfl)
theorem putLoad_rd (a : Nat) : (s.putLoad l).rd a = s.rd a := (rfl)
theorem putLoad_up : (s.putLoad l).cfgUp = s.cfgUp := (rfl)
theorem dropLoad_fab : (s.dropLoad l code).fab = s.fab := (rfl)
theorem dropLoad_now : (s.dropLoad l code).now = s.now := (rfl)
theorem fabric_congr (h : t.fab = s.fab) (e : Fin 6) : t.fabric e = s.fabric e := by rw [fabric_eq, h, ← fabric_eq]

end Write

/-! ### The boot search -/

/-- The state in which the search begins: every die clear, INITB, the flash at hand. -/
def State.searchStart (s : State) (flash : List Nat) : State :=
  ((s.clearAll.cfgState 1).setB (R.CFG_STAT 0) F.CFG_STAT_INITB true).setCfg (fun c => { c with flash := flash })

theorem searchStart_spec (s : State) (flash : List Nat) : (s.searchStart flash).cfg.flash = flash ∧ (s.searchStart flash).cfg.load = s.cfg.load ∧
    ∀ d, (s.searchStart flash).fabric d = Fabric.reset := by
  obtain ⟨-, hl, -, hfab⟩ := clearAll_clear s
  unfold State.searchStart State.cfgState
  refine ⟨?_, ?_, fun d => ?_⟩
  · rw [setCfg_cfg]
  · rw [setCfg_cfg]
    dsimp only
    rw [setB_cfg, setF_cfg, hl]
  · rw [setCfg_fabric]
    exact (fabric_congr (s := s.clearAll) (setB_fab.trans setF_fab) d).trans (hfab d)

section Search
variable {dir1 dir8 again flash : List Nat} (hl : s.cfg.load = none)
  (hst : s.fld (R.CFG_STAT 0) F.CFG_STAT_STATE = 0 ∨ s.fld (R.CFG_STAT 0) F.CFG_STAT_STATE = 1)
include hl hst

theorem bootSearch_begins : exec (.bootSearch dir1 dir8 again flash) s =
    if dirOk dir1 then
      let src := if bitOf (hdr dir1 4 1) 0 && again == dir1 then 1 else 0
      let s := (s.searchStart flash).setF (R.CFG_STAT 0) F.CFG_STAT_OCTAL src
      .next (if dirSlots dir1 = [] then (s.setB (R.CFG_STAT 0) F.CFG_STAT_INITB false).nextSlot src [] else (s.nextSlot src (dirSlots dir1)).trySlots 5)
    else if dirOk dir8 then
      let s := (s.searchStart flash).setF (R.CFG_STAT 0) F.CFG_STAT_OCTAL 1
      .next (if dirSlots dir8 = [] then (s.setB (R.CFG_STAT 0) F.CFG_STAT_INITB false).nextSlot 1 [] else (s.nextSlot 1 (dirSlots dir8)).trySlots 5)
    else .next (((s.searchStart flash).setF (R.CFG_ERR 0) F.CFG_ERR_CODE 1).cfgState 5) := by
  show execBootSearch dir1 dir8 again flash s = _
  unfold execBootSearch
  exact if_pos ⟨hst, hl⟩

end Search

/-- The search from the first slot of a directory. -/
def State.searchSlots (s : State) (src : Nat) (slots : List (Nat × Nat)) : State :=
  let s := s.setF (R.CFG_STAT 0) F.CFG_STAT_OCTAL src
  if slots = [] then (s.setB (R.CFG_STAT 0) F.CFG_STAT_INITB false).nextSlot src [] else (s.nextSlot src slots).trySlots 5

theorem octal_set {src : Nat} (h : src < 2) : (s.setF (R.CFG_STAT 0) F.CFG_STAT_OCTAL src).flag (R.CFG_STAT 0) F.CFG_STAT_OCTAL = (src == 1) := by
  rw [State.flag, setF_fld_of_lt (by decide) (by exact h)]
  interval_cases src <;> rfl

theorem searchSlots_booting {src : Nat} {slots : List (Nat × Nat)} (h : src < 2) :
    Booting s.cfg.flash (src == 1) (s.searchSlots src slots) := by
  have hoct := octal_set (s := s) h
  unfold State.searchSlots
  split
  · refine nextSlot_booting (by omega) rfl ?_ fun _ => setB_flag_same false (by decide) (by decide)
    rw [State.setB_eq, State.flag, State.setF_fld_other _ _ _ _ _ _ (.inr (by decide)), ← State.flag, hoct]
  · exact trySlots_booting 5 (nextSlot_booting (by omega) rfl hoct fun hn => absurd hn ‹_›)

/-- A directory with no image: the device waits for the host. -/
theorem searchSlots_none {src : Nat} (h : src < 2) : let t := s.searchSlots src []
    t.fld (R.CFG_STAT 0) F.CFG_STAT_STATE = 5 ∧ t.cfg.load = none ∧ t.flag (R.CFG_STAT 0) F.CFG_STAT_OCTAL = (src == 1) := by
  obtain ⟨-, ho, -⟩ := searchSlots_booting (s := s) (slots := []) h
  refine ⟨?_, rfl, ho⟩
  show State.fld (State.nextSlot _ src []) _ _ = 5
  rw [fld_congr (nextSlot_nil_rd _), State.setF_fld_same _ _ _ _ (by decide)]
  rfl

theorem sourceBit (b : Bool) : (if b then 1 else 0) < 2 ∧ ((if b then 1 else 0) == 1) = b := by
  cases b <;> decide

section Search
variable {dir1 dir8 again flash : List Nat} (hl : s.cfg.load = none)
  (hst : s.fld (R.CFG_STAT 0) F.CFG_STAT_STATE = 0 ∨ s.fld (R.CFG_STAT 0) F.CFG_STAT_STATE = 1)
include hl hst

theorem bootSearch_first (h1 : dirOk dir1 = true) : exec (.bootSearch dir1 dir8 again flash) s =
    .next ((s.searchStart flash).searchSlots (if bitOf (hdr dir1 4 1) 0 && again == dir1 then 1 else 0) (dirSlots dir1)) := by
  rw [bootSearch_begins hl hst, if_pos h1]
  rfl

theorem bootSearch_second (h1 : dirOk dir1 = false) (h8 : dirOk dir8 = true) : exec (.bootSearch dir1 dir8 again flash) s =
    .next ((s.searchStart flash).searchSlots 1 (dirSlots dir8)) := by
  rw [bootSearch_begins hl hst, if_neg (by simp [h1]), if_pos h8]
  rfl

theorem bootSearch_nowhere (h1 : dirOk dir1 = false) (h8 : dirOk dir8 = false) : After (.bootSearch dir1 dir8 again flash) s (fun t =>
    t.fld (R.CFG_STAT 0) F.CFG_STAT_STATE = 5 ∧ t.fld (R.CFG_ERR 0) F.CFG_ERR_CODE = 1 ∧ t.cfg.flash = flash ∧
    t.cfg.load = none ∧ ∀ d, t.fabric d = Fabric.reset) := by
  obtain ⟨hf, hload, hfab⟩ := searchStart_spec s flash
  refine ⟨_, (bootSearch_begins hl hst).trans ((if_neg (by simp [h1])).trans (if_neg (by simp [h8]))), ?_, ?_, ?_, ?_, fun d => ?_⟩
  · rw [State.cfgState, State.setF_fld_same _ _ _ _ (by decide)]
    rfl
  · rw [State.cfgState, State.setF_fld_other _ _ _ _ _ _ (.inl cfgErr_ne.1), State.setF_fld_same _ _ _ _ (by decide)]
    rfl
  · rw [State.cfgState, setF_cfg, setF_cfg, hf]
  · rw [State.cfgState, setF_cfg, setF_cfg, hload, hl]
  · exact (fabric_congr (setF_fab.trans setF_fab) d).trans (hfab d)

theorem bootSearch_empty (h1 : dirOk dir1 = true) (hs : dirSlots dir1 = []) : After (.bootSearch dir1 dir8 again flash) s (fun t =>
    t.fld (R.CFG_STAT 0) F.CFG_STAT_STATE = 5 ∧ t.cfg.load = none ∧
    t.flag (R.CFG_STAT 0) F.CFG_STAT_OCTAL = (bitOf (hdr dir1 4 1) 0 && again == dir1)) := by
  obtain ⟨hlt, hbit⟩ := sourceBit (bitOf (hdr dir1 4 1) 0 && again == dir1)
  have hspec := searchSlots_none (s := s.searchStart flash) hlt
  rw [hbit] at hspec
  exact ⟨_, (bootSearch_first hl hst h1).trans (by rw [hs]), hspec⟩

/-- What a search that found a directory comes to. -/
theorem bootSearch_found (h : dirOk dir1 = true ∨ dirOk dir8 = true) : After (.bootSearch dir1 dir8 again flash) s
    (Booting flash (if dirOk dir1 then bitOf (hdr dir1 4 1) 0 && again == dir1 else true)) := by
  have hf := (searchStart_spec s flash).1
  by_cases h1 : dirOk dir1 = true
  · obtain ⟨hlt, hbit⟩ := sourceBit (bitOf (hdr dir1 4 1) 0 && again == dir1)
    have hboot := searchSlots_booting (s := s.searchStart flash) (slots := dirSlots dir1) hlt
    rw [hbit, hf] at hboot
    refine ⟨_, bootSearch_first hl hst h1, ?_⟩
    rw [if_pos h1]
    exact hboot
  · have hboot := searchSlots_booting (s := s.searchStart flash) (slots := dirSlots dir8) (src := 1) (by decide)
    rw [hf] at hboot
    refine ⟨_, bootSearch_second hl hst (by simpa using h1) (h.resolve_left h1), ?_⟩
    rw [if_neg h1]
    exact hboot

end Search

/-! ### CFG_DATA (R376) -/

theorem cfgData_refused {bytes : List Nat} (h : s.takesData = false) : exec (.cfgDataWrite bytes) s =
    .next ((s.setF (R.CFG_CAUSE 0) F.CFG_CAUSE_CMDERR 1).answer .errDenied []) := by
  show execCfgDataWrite bytes s = _
  rw [execCfgDataWrite, if_neg (by simp [h])]
  rfl

/-- Bytes of a header that is not whole yet. -/
theorem cfgData_kept {bytes : List Nat} (hl : s.cfg.load = some l) (hsrc : l.src = 2) (hh : l.header = []) (hn : l.inbuf.length + bytes.length < 8192) :
    exec (.cfgDataWrite bytes) s = .next ((s.putLoad { l with inbuf := l.inbuf ++ bytes }).answer .ok []) := by
  show execCfgDataWrite bytes s = _
  have htake : s.takeHeader { l with inbuf := l.inbuf ++ bytes } = s.putLoad { l with inbuf := l.inbuf ++ bytes } := by
    unfold State.takeHeader
    rw [if_neg (by simp [hh]), if_pos (by rw [List.length_append]; exact hn)]
    exact if_pos hsrc
  rw [execCfgDataWrite, if_pos (by rw [State.takesData, hl]; simp [hsrc]), hl]
  exact congrArg (fun u : State => Host.Outcome.next (u.answer .ok [])) htake

theorem answer_writes {a n : Nat} {f : Fld} {r : Resp} {b : List Nat} : let t := (s.setF a f n).answer r b
    t = { s with regs := t.regs, reply := ⟨some r, b⟩ } ∧ Writes [(a, [(f, n)])] s t :=
  ⟨rfl, (onlyWrites_setF a n f).2⟩

/-! ### Commands that begin a load (R393, R401, R404) -/

section Busy
variable (h : s.loadBusy = true)
include h

theorem reload_busy : exec .reload s = .next (s.setF (R.CFG_CAUSE 0) F.CFG_CAUSE_CMDERR 1) := by
  show execReload s = _
  rw [execReload, if_pos h]
  rfl

theorem hostload_busy : exec .hostload s = .next (s.setF (R.CFG_CAUSE 0) F.CFG_CAUSE_CMDERR 1) := by
  show execHostload s = _
  rw [execHostload, if_pos h]
  rfl

theorem pload_busy : exec .pload s = .next (s.setF (R.CFG_CAUSE 0) F.CFG_CAUSE_CMDERR 1) := by
  show execPload s = _
  rw [execPload, if_pos (by simp [h])]
  rfl

end Busy

/-- DIE and DSRC of CFG_CTRL. -/
def State.nameDie (s : State) (die : Fin 6) : State :=
  (s.setF (R.CFG_CTRL 0) F.CFG_CTRL_DIE die).setB (R.CFG_CTRL 0) F.CFG_CTRL_DSRC true

theorem die_bits (die : Fin 6) : (BitVec.ofNat 3 die).toNat = die := by revert die; decide

theorem dieload_busy (h : s.loadBusy = true) : exec (.dieload (BitVec.ofNat 3 d) true) s =
    .next ((s.nameDie d).raise (R.CFG_CAUSE 0) F.CFG_CAUSE_CMDERR) := by
  show execDieload _ _ s = _
  unfold execDieload
  dsimp only
  rw [die_bits]
  exact if_pos h

theorem dieload_taken (h : s.loadBusy = false) : exec (.dieload (BitVec.ofNat 3 d) true) s =
    .next ((((s.nameDie d).clearDie d).setBusy true).putLoad (loadOf 1 2 0 0 d [] [])) := by
  show execDieload _ _ s = _
  unfold execDieload
  dsimp only
  simp only [die_bits]
  refine (if_neg ?_).trans ((dif_pos d.isLt).trans (if_pos trivial))
  exact fun hb => absurd (h.symm.trans hb) nofun

theorem nameDie_only (d : Fin 6) : OnlyRegs [R.CFG_CAUSE 0, R.CFG_CTRL 0] s (((s.nameDie d)).raise (R.CFG_CAUSE 0) F.CFG_CAUSE_CMDERR) :=
  (((OnlyRegs.refl _ s).setF (by simp)).setF (by simp)).setF (by simp)

section Idle
variable (h : s.loadBusy = false)
include h

theorem reload_taken : exec .reload s = .next (((s.clearAll.setB (R.CFG_STAT 0) F.CFG_STAT_DONE false).setB (R.CFG_STAT 0) F.CFG_STAT_INITB true).cfgState 1) := by
  show execReload s = _
  exact if_neg (by simp [h])

theorem hostload_taken : exec .hostload s = .next (((s.clearAll.setB (R.CFG_STAT 0) F.CFG_STAT_DONE false).setB (R.CFG_STAT 0) F.CFG_STAT_INITB true).cfgState 5) := by
  show execHostload s = _
  exact if_neg (by simp [h])

theorem pload_taken (h4 : s.fld (R.CFG_STAT 0) F.CFG_STAT_STATE = 4) : exec .pload s =
    .next ((s.setF (R.CFG_STAT 0) F.CFG_STAT_BUSY 1).putLoad (loadOf 2 2 0 0 0 [] [])) := by
  show execPload s = _
  exact if_neg (by simp [h, h4])

end Idle

/-- Every die clear, DONE low, and the state that follows. -/
theorem cleared_state {n : Nat} (hn : n < 8) : let t := ((s.clearAll.setB (R.CFG_STAT 0) F.CFG_STAT_DONE false).setB (R.CFG_STAT 0) F.CFG_STAT_INITB true).cfgState n
    t.fld (R.CFG_STAT 0) F.CFG_STAT_STATE = n ∧ t.flag (R.CFG_STAT 0) F.CFG_STAT_DONE = false ∧ ∀ d, t.fabric d = Fabric.reset := by
  refine ⟨setF_fld_of_lt (by decide) (by exact hn), ?_, fun d => (fabric_congr (setF_fab.trans (setB_fab.trans setB_fab)) d).trans ((clearAll_clear s).fabric d)⟩
  rw [State.flag, State.cfgState, State.setF_fld_other _ _ _ _ _ _ (.inr (by decide)), State.setB_eq, State.setF_fld_other _ _ _ _ _ _ (.inr (by decide)),
    ← State.flag, setB_flag_same false (by decide) (by decide)]

theorem dieload_spec (d : Fin 6) : let t := (((s.nameDie d).clearDie d).setBusy true).putLoad l
    t.fabric d = Fabric.reset ∧ t.cfgUp[d] = false ∧ (∀ e, e ≠ d → t.fabric e = s.fabric e) ∧ t.flag (R.CFG_STAT 0) F.CFG_STAT_BUSY = true ∧
    t.cfg.load = some l := by
  have hfab := clearDie_fabric (s.nameDie d) d
  have hup : ((s.nameDie d).clearDie d).cfgUp[d] = false := by
    rw [(clearDie_cleared _ _).frame]
    exact Vector.getElem_set_self d.isLt
  refine ⟨?_, by rw [putLoad_up, State.setBusy, setB_up, hup], fun e he => ?_, (flag_congr (putLoad_rd _) _).trans (setB_flag_same true (by decide) (by decide)),
    putLoad_load⟩
  · rw [putLoad_fabric, State.setBusy, setB_fabric, hfab, if_pos rfl]
  · rw [putLoad_fabric, State.setBusy, setB_fabric, hfab, if_neg he, State.nameDie, setB_fabric]
    rfl

/-! ### A partial load that is given up (R402) -/

theorem mdfence_ne : R.CFG_MDFENCE d ≠ R.CFG_ERR 0 ∧ R.CFG_MDFENCE d ≠ R.CFG_STAT 0 ∧ R.CFG_MDFENCE d ≠ R.CFG_DSTAT d ∧
    (∀ n, R.CFG_MDFENCE d ≠ R.CFG_CAUSE n) ∧ ∀ p, p < 16 → R.CFG_MDFENCE d ≠ R.FAB_PORT_STAT d p := by
  unfold R.CFG_MDFENCE R.CFG_ERR R.CFG_STAT R.CFG_DSTAT R.CFG_CAUSE R.FAB_PORT_STAT fabBase cfgBase dieBase
  refine ⟨?_, ?_, ?_, fun n => ?_, fun p hp => ?_⟩ <;> omega

theorem dstat_ne : R.CFG_STAT 0 ≠ R.CFG_DSTAT d ∧ (∀ n, R.CFG_DSTAT d ≠ R.CFG_CAUSE n) ∧ (∀ p, p < 16 → R.CFG_DSTAT d ≠ R.FAB_PORT_STAT d p) ∧
    (∀ p, p < 16 → R.CFG_STAT 0 ≠ R.FAB_PORT_STAT d p) := by
  unfold R.CFG_STAT R.CFG_DSTAT R.CFG_CAUSE R.FAB_PORT_STAT fabBase cfgBase dieBase
  refine ⟨?_, fun n => ?_, fun p hp => ?_, fun p hp => ?_⟩ <;> omega

theorem mdFenced_congr {m : Nat} (h : t.rd (R.CFG_MDFENCE d) = s.rd (R.CFG_MDFENCE d)) : t.mdFenced d m = s.mdFenced d m := by
  rw [State.mdFenced, h, State.mdFenced]

/-- A meadow's frames cleared: the other dies, and the frames outside its regions, stay. -/
structure MeadowCleared (d : Fin 6) (m : Nat) (s t : State) : Prop where
  cfg : t.cfg = s.cfg
  now : t.now = s.now
  others : ∀ e, e ≠ d → t.fabric e = s.fabric e
  frames : ∀ fa, (t.fabric d).frame fa = if bitOf (s.meadow d m).mask.toNat (frameAddr fa).region then 0 else (s.fabric d).frame fa
  rd : ∀ a, (∀ p, p < 16 → a ≠ R.FAB_PORT_STAT d p) → t.rd a = s.rd a

theorem clearMeadow_cleared (s : State) (d : Fin 6) (m : Nat) : MeadowCleared d m s (s.clearMeadow d m) := by
  unfold State.clearMeadow
  obtain ⟨⟨r, f, hf⟩, hsets, hothers, hrd⟩ :=
    readSets_only (s := s.modFab d (fun x => x.clearRegions (s.meadow d m).mask.toNat)) (d := d)
  refine ⟨?_, ?_, fun e he => (hothers e he).trans (modFab_fabric_other he), fun fa => ?_, fun a ha => (hrd a ha).trans (modFab_rd _ _)⟩
  · rw [hf]
    rfl
  · rw [hf]
    rfl
  · rw [hsets d, modFab_fabric_same]
    show Sparse.get _ (Sparse.keep (fun fa => !bitOf (s.meadow d m).mask.toNat (frameAddr fa).region) (s.fabric d).frames) fa = _
    rw [get_keep]
    by_cases hb : bitOf (s.meadow d m).mask.toNat (frameAddr fa).region = true <;> simp [hb, Fabric.frame]

/-- What a partial load that is given up leaves. -/
structure Gone (d : Fin 6) (m code : Nat) (s t : State) : Prop where
  load : t.cfg.load = none
  err : t.fld (R.CFG_ERR 0) F.CFG_ERR_CODE = code
  busy : t.flag (R.CFG_STAT 0) F.CFG_STAT_BUSY = false
  cause : t.flag (R.CFG_CAUSE d) F.CFG_CAUSE_PLOADERR = true
  loading : t.flag (R.CFG_DSTAT d) F.CFG_DSTAT_LOADING = false
  fenced : t.mdFenced d m = true
  others : ∀ e, e ≠ d → t.fabric e = s.fabric e
  frames : ∀ fa, (t.fabric d).frame fa = if bitOf (s.meadow d m).mask.toNat (frameAddr fa).region then 0 else (s.fabric d).frame fa
  now : t.now = s.now

/-- The load dropped, BUSY and LOADING low: before the meadow is cleared. -/
def State.letGo (s : State) (d : Fin 6) (l : Load) (code : Nat) : State :=
  ((s.dropLoad l code).setBusy false).setB (R.CFG_DSTAT d) F.CFG_DSTAT_LOADING false

theorem letGo_same : (s.letGo d l code).fab = s.fab ∧ (s.letGo d l code).now = s.now :=
  ⟨setB_fab.trans (setB_fab.trans dropLoad_fab), setB_now.trans (setB_now.trans dropLoad_now)⟩

theorem letGo_mdFenced (m : Nat) : (s.letGo d l code).mdFenced d m = s.mdFenced d m := by
  obtain ⟨herr, hstat, hdstat, -⟩ := mdfence_ne (d := d)
  refine mdFenced_congr ?_
  rw [State.letGo, State.setB_eq, State.setF_rd_other _ _ _ _ _ hdstat, State.setBusy, State.setB_eq, State.setF_rd_other _ _ _ _ _ hstat]
  exact State.wr_rd_other _ _ _ _ herr

theorem letGo_flags : (s.letGo d l code).flag (R.CFG_DSTAT d) F.CFG_DSTAT_LOADING = false ∧
    (s.letGo d l code).flag (R.CFG_STAT 0) F.CFG_STAT_BUSY = false := by
  refine ⟨setB_flag_same false (by decide) (by decide), ?_⟩
  rw [State.letGo, setB_flag_other _ dstat_ne.1]
  exact setB_flag_same false (by decide) (by decide)

theorem loadFail_gone_eq (hk : l.kind = 2) (hh : l.header ≠ []) (hd : hdrDie l.header = d) (hf : s.mdFenced d (hdrMeadow l.header) = true) :
    s.loadFail l code = ((s.letGo d l code).clearMeadow d (hdrMeadow l.header)).raise (R.CFG_CAUSE d) F.CFG_CAUSE_PLOADERR := by
  have hlt : hdrDie l.header < 6 := hd ▸ d.isLt
  have hfin : (⟨hdrDie l.header, hlt⟩ : Fin 6) = d := Fin.ext hd
  rw [loadFail_part (by omega) (by omega), dif_pos hlt, hfin, State.dropMeadow]
  show State.raise (if (!l.header.isEmpty && (s.letGo d l code).mdFenced d (hdrMeadow l.header)) = true then _ else _) _ _ = _
  rw [if_pos (by rw [letGo_mdFenced, hf]; simp [hh])]
  rfl

theorem loadFail_gone (hk : l.kind = 2) (hh : l.header ≠ []) (hd : hdrDie l.header = d) (hf : s.mdFenced d (hdrMeadow l.header) = true)
    (hc : code < 16) : Gone d (hdrMeadow l.header) code s ((s.loadFail l code).trySlots 5) := by
  obtain ⟨hload, herr⟩ := loadFail_tried (s := s) (l := l) (code := code) (by omega) hc
  have hend := loadFail_ended (s := s) (l := l) (code := code) (by omega)
  refine ⟨hload, herr, ?_, ?_, ?_, ?_, ?_, ?_, ?_⟩ <;>
    rw [trySlots_none hend.load, loadFail_gone_eq hk hh hd hf]
  all_goals
    obtain ⟨hcfg, hnow, hothers, hframes, hrd⟩ := clearMeadow_cleared (s.letGo d l code) d (hdrMeadow l.header)
    obtain ⟨hloading, hbusy⟩ := letGo_flags (s := s) (d := d) (l := l) (code := code)
    obtain ⟨-, hdcause, hdport, hsport⟩ := dstat_ne (d := d)
  · rw [State.raise_eq, State.flag, State.setF_fld_other _ _ _ _ _ _ (.inl (cfgStat_ne.1 d)), ← State.flag, flag_congr (hrd _ hsport), hbusy]
  · exact State.raise_flag _ _ _ (by decide) rfl
  · rw [State.raise_eq, State.flag, State.setF_fld_other _ _ _ _ _ _ (.inl (hdcause d)), ← State.flag, flag_congr (hrd _ hdport), hloading]
  · obtain ⟨-, -, -, hmc, hmp⟩ := mdfence_ne (d := d)
    rw [State.raise_eq, mdFenced_congr (State.setF_rd_other _ _ _ _ _ (hmc d)), mdFenced_congr (hrd _ hmp), letGo_mdFenced, hf]
  · rw [State.raise_eq]
    exact fun e he => (fabric_congr setF_fab e).trans ((hothers e he).trans (fabric_congr letGo_same.1 e))
  · have hfab : (s.letGo d l code).fabric d = s.fabric d := fabric_congr letGo_same.1 d
    have hm : (s.letGo d l code).meadow d (hdrMeadow l.header) = s.meadow d (hdrMeadow l.header) := by rw [State.meadow, hfab, State.meadow]
    rw [hm, hfab] at hframes
    rw [State.raise_eq, fabric_congr setF_fab]
    exact hframes
  · rw [State.raise_eq, setF_now, hnow, letGo_same.2]

section Given
variable (hl : s.cfg.load = some l)
include hl

theorem cfgAbort_load : exec .cfgAbort s = .next ((s.loadFail l 0xD).trySlots 5) := by
  show execCfgAbort s = _
  rw [execCfgAbort, hl]

theorem dieAbsent_load (hh : l.header ≠ []) (hu : s.unreachable 0 l.die = true) : exec .dieAbsentTimeout s =
    .next (((s.at_ (l.turn + 100000000 * ns)).loadFail l 0xA).trySlots 5) := by
  show execDieAbsentTimeout s = _
  rw [execDieAbsentTimeout, hl]
  exact if_pos (by simp [hh, hu])

end Given

/-- Settles O34: the search keeps `Booting` from slot to slot, a clearing is `clearAll_clear`, and `loadFail_gone` is the end of a partial load. -/
theorem loadsBeginAndAreGivenUp : Obligations.LoadsBeginAndAreGivenUp := by
  unfold Obligations.LoadsBeginAndAreGivenUp
  intro s
  refine ⟨fun dir1 dir8 again flash hl hst => ⟨bootSearch_nowhere hl hst, bootSearch_empty hl hst, fun h => ?_⟩, fun dir1 dir8 again flash => ?_,
    fun bytes => ⟨fun h => ⟨_, cfgData_refused h, answer_writes⟩, fun l hl hsrc hh hn => ⟨_, cfgData_kept hl hsrc hh hn, rfl, rfl⟩⟩,
    fun die => ⟨fun h => ⟨⟨_, reload_busy h, onlyWrites_setF _ _ _⟩, ⟨_, hostload_busy h, onlyWrites_setF _ _ _⟩, ⟨_, pload_busy h, onlyWrites_setF _ _ _⟩,
      ⟨_, dieload_busy h, State.raise_flag _ _ _ (by decide) rfl, nameDie_only die⟩⟩, fun h => ⟨⟨_, reload_taken h, cleared_state (by decide)⟩,
      ⟨_, hostload_taken h, cleared_state (by decide)⟩, fun h4 => ⟨_, pload_taken h h4, rfl, (onlyWrites_setF _ _ _).2, rfl⟩,
      ⟨_, dieload_taken h, dieload_spec die⟩⟩⟩, ?_⟩
  · obtain ⟨t, ht, hflash, hoct, hphase⟩ := bootSearch_found (again := again) (flash := flash) hl hst h
    refine ⟨t, ht, hflash, hoct, hphase.imp id ?_⟩
    rintro ⟨l, hl', -, hstate, hinit⟩
    exact ⟨by rw [hl']; rfl, hstate, hinit⟩
  · obtain ⟨t, ht, -⟩ := everyCommandCompletes (.bootSearch dir1 dir8 again flash) s
    exact ⟨t, ht⟩
  · intro l d hl hk hh hd _ hf gone
    refine ⟨?_, fun hu => ?_⟩
    · obtain ⟨h1, h2, h3, h4, h5, h6, h7, h8, -⟩ := loadFail_gone (code := 0xD) hk hh hd hf (by decide)
      exact ⟨_, cfgAbort_load hl, h1, h2, h3, h4, h5, h6, h7, h8⟩
    · obtain ⟨h1, h2, h3, h4, h5, h6, h7, h8, h9⟩ :=
        loadFail_gone (s := s.at_ (l.turn + 100000000 * ns)) (code := 0xA) hk hh hd hf (by decide)
      exact ⟨_, dieAbsent_load hl hh hu, ⟨h1, h2, h3, h4, h5, h6, h7, h8⟩, h9⟩

end Sys2Proof.Machine
end

section
/-! Ports train, zero and refresh, and scrub passes (12_memory_system.md R426 to R444). -/
namespace Sys2Proof.Machine
variable {s t u : State} {q : Fin 24} {d : Fin 6}

/-! ### Writes of fields of a port -/

theorem memp_ne (q : Nat) : R.MEMP_STAT q ≠ R.MEMP_CAUSE q ∧ R.MEMP_CTRL q ≠ R.MEMP_STAT q := by
  unfold R.MEMP_STAT R.MEMP_CAUSE R.MEMP_CTRL
  omega

/-- Two fields of a register, and a bit of another. -/
theorem onlyWrites_two {a c x y z : Nat} {f g e : Fld} (h : a ≠ c) :
    OnlyWrites [(a, [(f, x), (g, y)]), (c, [(e, z)])] s (((s.setF a f x).setF a g y).setF c e z) := by
  have ho : OnlyRegs [a, c] s (((s.setF a f x).setF a g y).setF c e z) := (((OnlyRegs.refl _ s).setF (by simp)).setF (by simp)).setF (by simp)
  refine ⟨ho.1, ?_, ho.2⟩
  rintro e (_ | ⟨_, _ | ⟨_, ⟨⟩⟩⟩)
  · rw [State.setF_rd_other _ _ _ _ _ h, State.setF_rd_same, State.setF_rd_same]
    rfl
  · rw [State.setF_rd_same, State.setF_rd_other _ _ _ _ _ h.symm, State.setF_rd_other _ _ _ _ _ h.symm]
    rfl

/-! ### Training (R426) -/

theorem mempInit_starts (h : s.mstate q = 0 ∨ s.mstate q = 4) : exec (.mempInit q) s = .next (s.setF (R.MEMP_STAT q) F.MEMP_STAT_STATE 1) := by
  show execMempInit q s = _
  exact if_pos h

theorem mempInit_again (h : s.mstate q = 2) : exec (.mempInit q) s = .next ((s.endAccepted q).setF (R.MEMP_STAT q) F.MEMP_STAT_STATE 1) := by
  show execMempInit q s = _
  exact (if_neg (by omega)).trans (if_pos h)

theorem mempInit_refused (h : s.mstate q = 1) : exec (.mempInit q) s = .next (s.raise (R.MEMP_CAUSE q) F.MEMP_CAUSE_CMDERR) := by
  show execMempInit q s = _
  exact (if_neg (by omega)).trans (if_neg (by omega))

theorem mempZero_starts (h : s.mstate q = 2) : exec (.mempZero q) s = .next (s.setF (R.MEMP_STAT q) F.MEMP_STAT_STATE 5) := by
  show execMempZero q s = _
  exact if_pos h

theorem mempZero_refused (h : s.mstate q = 1) : exec (.mempZero q) s = .next (s.raise (R.MEMP_CAUSE q) F.MEMP_CAUSE_CMDERR) := by
  show execMempZero q s = _
  exact if_neg (by omega)

/-- What the port had accepted is gone. -/
theorem endAccepted_fly (k : Fin 6) (c : Fin 32) : ((s.endAccepted q).dm k c).fly = (s.dm k c).fly.map (fun b =>
    if b.addr < 2 ^ 40 ∧ (s.place b.addr).map (fun x => portOf x.1) = some q.val then { b with gone := true } else b) := by
  unfold State.dm State.endAccepted
  dsimp only
  simp only [Fin.getElem_fin, Vector.getElem_ofFn, Bool.and_eq_true, decide_eq_true_eq, beq_iff_eq]
  rfl

theorem endAccepted_frame : ∃ x, s.endAccepted q = { s with dma := x } := ⟨_, rfl⟩

theorem endAccepted_init : let t := (s.endAccepted q).setF (R.MEMP_STAT q) F.MEMP_STAT_STATE 1
    t = { s with regs := t.regs, dma := t.dma } ∧ Writes [(R.MEMP_STAT q, [(F.MEMP_STAT_STATE, 1)])] s t := by
  obtain ⟨x, hx⟩ := endAccepted_frame (s := s) (q := q)
  rw [hx]
  exact ⟨rfl, (onlyWrites_setF (s := { s with dma := x }) _ _ _).2⟩

section Train
variable {dens : BitVec 2} {ok : Bool} (h : s.mstate q = 1)
include h

theorem train_ready (hg : ok = true ∧ dens.toNat = s.fld (R.MEMP_CTRL q) F.MEMP_CTRL_EXPD ∧ dens ≠ 0) : exec (.mempTrainDone q dens ok) s =
    .next (((s.setF (R.MEMP_STAT q) F.MEMP_STAT_DENS dens.toNat).setF (R.MEMP_STAT q) F.MEMP_STAT_STATE 2).setF (R.MEMP_CAUSE q) F.MEMP_CAUSE_READY 1) := by
  obtain ⟨hok, hd, h0⟩ := hg
  have hpos : dens.toNat ≠ 0 := fun hz => h0 (BitVec.eq_of_toNat_eq hz)
  show execMempTrainDone q dens ok s = _
  refine (if_pos h).trans (if_pos ?_)
  rw [State.setF_fld_other _ _ _ _ _ _ (.inl (memp_ne q).2), ← hd]
  simp [hok, hpos]

theorem train_failed (hg : ¬(ok = true ∧ dens.toNat = s.fld (R.MEMP_CTRL q) F.MEMP_CTRL_EXPD ∧ dens ≠ 0)) : exec (.mempTrainDone q dens ok) s =
    .next (((s.setF (R.MEMP_STAT q) F.MEMP_STAT_DENS dens.toNat).setF (R.MEMP_STAT q) F.MEMP_STAT_STATE 4).setF (R.MEMP_CAUSE q) F.MEMP_CAUSE_TRAINERR 1) := by
  show execMempTrainDone q dens ok s = _
  refine (if_pos h).trans (if_neg fun hc => hg ?_)
  rw [State.setF_fld_other _ _ _ _ _ _ (.inl (memp_ne q).2), Bool.and_eq_true, Bool.and_eq_true, beq_iff_eq, bne_iff_ne] at hc
  obtain ⟨⟨hok, hd⟩, h0⟩ := hc
  refine ⟨hok, hd, fun hz => h0 ?_⟩
  rw [← hd, hz]
  rfl

end Train

/-! ### Zeroing (R428) -/

theorem zeroDone_done (h : s.mstate q = 5) : exec (.zeroDone q) s = .next ((((s.dropLines q).setP q { s.p q with zeroed := true }).setF
    (R.MEMP_STAT q) F.MEMP_STAT_STATE 2).setF (R.MEMP_CAUSE q) F.MEMP_CAUSE_READY 1) := by
  show execZeroDone q s = _
  exact if_pos h

/-- A port as its lines see it: zeroed or not. -/
theorem lineDefault_eq (k : Nat) : s.lineDefault k = if (s.port.toList.getD (portOf (k / 33554432)) MemPort.reset).zeroed then some GLine.zero else none := rfl

theorem zeroed_line (k : Nat) : ((s.dropLines q).setP q { s.p q with zeroed := true }).line k =
    if portOf (k / 2 ^ 25) = q then some GLine.zero else s.line k := by
  have hport : ((s.dropLines q).setP q { s.p q with zeroed := true }).port.toList.getD (portOf (k / 33554432)) MemPort.reset =
      if portOf (k / 33554432) = q then { s.p q with zeroed := true } else s.port.toList.getD (portOf (k / 33554432)) MemPort.reset := by
    show (s.port.set q { s.p q with zeroed := true }).toList.getD _ _ = _
    rw [List.getD_eq_getElem?_getD, List.getD_eq_getElem?_getD, Vector.toList_set, List.getElem?_set]
    by_cases hq : q.val = portOf (k / 33554432)
    · rw [if_pos hq, if_pos hq.symm, if_pos (by simp)]
      rfl
    · rw [if_neg hq, if_neg (Ne.symm hq)]
  show Sparse.get _ (Sparse.keep (fun k => portOf (k / 33554432) != q) s.lines) k = _
  rw [get_keep, lineDefault_eq, hport]
  show _ = if portOf (k / 33554432) = q then _ else _
  by_cases hq : portOf (k / 33554432) = q
  · rw [if_neg (by simp [hq]), if_pos hq, if_pos hq, if_pos rfl]
  · rw [if_pos (by simpa using hq), if_neg hq]
    rw [State.line, Sparse.get, Sparse.get]
    cases Sparse.find s.lines k with
    | some l => rfl
    | none => rw [lineDefault_eq, lineDefault_eq, hport, if_neg hq]

theorem line_setF {a n k : Nat} {f : Fld} : (s.setF a f n).line k = s.line k := (rfl)

theorem regs_lines_frame {l : Sparse (Option GLine)} {x : Vector MemPort 24} (h : t = { ({ s with lines := l, port := x } : State) with regs := t.regs }) :
    t = { s with lines := t.lines, port := t.port, regs := t.regs } := by
  generalize t.regs = r at h ⊢
  rw [h]

theorem zeroDone_spec : let t := (((s.dropLines q).setP q { s.p q with zeroed := true }).setF
      (R.MEMP_STAT q) F.MEMP_STAT_STATE 2).setF (R.MEMP_CAUSE q) F.MEMP_CAUSE_READY 1
    t = { s with lines := t.lines, port := t.port, regs := t.regs } ∧
    Writes [(R.MEMP_STAT q, [(F.MEMP_STAT_STATE, 2)]), (R.MEMP_CAUSE q, [(F.MEMP_CAUSE_READY, 1)])] s t ∧
    ∀ k, t.line k = if portOf (k / 2 ^ 25) = q then some GLine.zero else s.line k := by
  obtain ⟨hframe, hwrites⟩ := onlyWrites_setF_setF (s := (s.dropLines q).setP q { s.p q with zeroed := true }) (f := F.MEMP_STAT_STATE)
    (e := F.MEMP_CAUSE_READY) (x := 2) (y := 1) (memp_ne q).1
  exact ⟨regs_lines_frame hframe, hwrites, fun k => by rw [line_setF, line_setF, zeroed_line]⟩

/-! ### Refresh and the windows of row hammer (R430 to R434) -/

section Refresh
variable {waiting : Bool} (h : s.mstate q = 2) (hm : s.fld (R.MEMP_CTRL q) F.MEMP_CTRL_REFMODE = 0)
include h hm

theorem refresh_postponed (hw : waiting = true ∧ s.fld (R.MEMP_STAT q) F.MEMP_STAT_OWED < min 8 (s.fld (R.MEMP_CTRL q) F.MEMP_CTRL_POSTPONE)) :
    exec (.refreshDue q waiting) s = .next (s.setF (R.MEMP_STAT q) F.MEMP_STAT_OWED (s.fld (R.MEMP_STAT q) F.MEMP_STAT_OWED + 1)) := by
  obtain ⟨hwait, hlt⟩ := hw
  show execRefreshDue q waiting s = _
  refine (if_pos ⟨h, hm⟩).trans (if_pos ?_)
  rw [hwait, decide_eq_true hlt]
  rfl

theorem refresh_made (hw : ¬(waiting = true ∧ s.fld (R.MEMP_STAT q) F.MEMP_STAT_OWED < min 8 (s.fld (R.MEMP_CTRL q) F.MEMP_CTRL_POSTPONE))) :
    exec (.refreshDue q waiting) s = .next ((s.setF (R.MEMP_STAT q) F.MEMP_STAT_OWED 0).tally (q.val / 4) (0x4C + q.val % 4)
      (s.fld (R.MEMP_STAT q) F.MEMP_STAT_OWED + 1)) := by
  show execRefreshDue q waiting s = _
  refine (if_pos ⟨h, hm⟩).trans (if_neg fun hc => hw ?_)
  simpa using hc

end Refresh

theorem tally_frame {k code n : Nat} (h : t = { s with regs := t.regs }) : let v := t.tally k code n
    v = { s with regs := v.regs, mon := v.mon } ∧ v.regs = t.regs := by
  obtain ⟨m, hm⟩ := tally_eq t k code n
  rw [hm]
  refine ⟨?_, rfl⟩
  show { t with mon := m } = { s with regs := t.regs, mon := m }
  generalize t.regs = r at h
  rw [h]

theorem refresh_spec {a n k code m : Nat} {f : Fld} : let t := (s.setF a f n).tally k code m
    t = { s with regs := t.regs, mon := t.mon } ∧ Writes [(a, [(f, n)])] s t := by
  obtain ⟨hframe, hwrites⟩ := onlyWrites_setF (s := s) a n f
  obtain ⟨hf, hr⟩ := tally_frame (k := k) (code := code) (n := m) hframe
  refine ⟨hf, fun e he => ?_, fun c hc => ?_⟩
  · rw [tally_rd]
    exact hwrites.1 e he
  · rw [tally_rd]
    exact hwrites.2 c hc

theorem bankRefresh_counts {bank : Fin 16} (h : s.mstate q = 2) (hm : s.fld (R.MEMP_CTRL q) F.MEMP_CTRL_REFMODE = 1) :
    exec (.bankRefresh q bank) s = .next (s.tally (q.val / 4) (0x4C + q.val % 4) 1) := by
  show execBankRefresh q bank s = _
  exact if_pos ⟨h, hm⟩

theorem rhLen_pos (q : Nat) : 0 < s.rhLen q := by
  unfold State.rhLen rhWin ns
  split
  · omega
  · split <;> omega

/-- The window that starts. -/
def State.nextWindow (s : State) (q : Fin 24) : Nat := if (s.p q).win = s.now / s.rhLen q then s.now / s.rhLen q + 1 else s.now / s.rhLen q

theorem rhWindow_eq : exec (.rhWindow q) s = .next ((s.at_ (s.nextWindow q * s.rhLen q)).setP q
    { s.p q with rh := [], throttled := [], win := s.nextWindow q }) := by
  show execRhWindow q s = _
  rfl

theorem rhWindow_now : let w := s.rhLen q
    let n := max s.now (s.nextWindow q * w)
    ((s.p q).win = s.now / w → n = (s.now / w + 1) * w) ∧ ((s.p q).win ≠ s.now / w → n = s.now) ∧ s.nextWindow q = n / w := by
  have hpos := rhLen_pos (s := s) q
  unfold State.nextWindow
  generalize s.rhLen q = w at hpos ⊢
  have hlow : s.now / w * w ≤ s.now := Nat.div_mul_le_self _ _
  have hhigh : s.now < (s.now / w + 1) * w := by
    rw [Nat.add_mul, Nat.one_mul]
    exact Nat.lt_div_mul_add hpos
  dsimp only
  by_cases hw : (s.p q).win = s.now / w
  · rw [if_pos hw, Nat.max_eq_right hhigh.le]
    exact ⟨fun _ => rfl, fun h => absurd hw h, (Nat.mul_div_cancel _ hpos).symm⟩
  · rw [if_neg hw, Nat.max_eq_left hlow]
    exact ⟨fun h => absurd h hw, fun _ => rfl, rfl⟩

theorem setP_p (k : Fin 24) (x : MemPort) (h : k ≠ q) : ((s.setP q x).p k) = s.p k := State.setP_p_other s q k x h

theorem rhWindow_spec : After (.rhWindow q) s (fun t => t = { s with now := t.now, port := t.port } ∧ (t.p q).rh = [] ∧ (t.p q).throttled = [] ∧
    (t.p q).zeroed = (s.p q).zeroed ∧ (∀ k, k ≠ q → t.p k = s.p k) ∧
    (let w := s.rhLen q; ((s.p q).win = s.now / w → t.now = (s.now / w + 1) * w) ∧ ((s.p q).win ≠ s.now / w → t.now = s.now) ∧
      (t.p q).win = t.now / w)) := by
  obtain ⟨hin, hpast, hwin⟩ := rhWindow_now (s := s) (q := q)
  refine ⟨_, rhWindow_eq, rfl, ?_, ?_, ?_, fun k hk => setP_p k _ hk, hin, hpast, ?_⟩
  · rw [State.setP_p_same]
  · rw [State.setP_p_same]
  · rw [State.setP_p_same]
  · rw [State.setP_p_same]
    exact hwin

end Sys2Proof.Machine
end

section
/-! Scrub passes, and the obligation on the G6 ports (12_memory_system.md R442 to R444). -/
namespace Sys2Proof.Machine
variable {s t u : State} {d : Fin 6} {p : Scrub}

/-- The registers of a pass, and those beside them. -/
theorem scr_ne (d : Nat) : R.PROM_SCR_STAT d ≠ R.PROM_CAUSE d ∧
    (∀ a ∈ [R.PROM_SCR_CHK d, R.PROM_SCR_COR d, R.PROM_SCR_UNC d, R.PROM_SCR_FIRST_LO d, R.PROM_SCR_FIRST_HI d, R.PROM_SCR_LAST_LO d,
      R.PROM_SCR_LAST_HI d, R.PROM_SCR_CTRL d], a ≠ R.PROM_SCR_STAT d ∧ a ≠ R.PROM_CAUSE d) ∧
    (∀ a ∈ [R.PROM_SCR_CHK d, R.PROM_SCR_COR d, R.PROM_SCR_UNC d, R.PROM_SCR_CTRL d, R.PROM_SCR_STAT d], a ≠ R.PROM_SCR_FIRST_LO d ∧
      a ≠ R.PROM_SCR_FIRST_HI d ∧ a ≠ R.PROM_SCR_LAST_LO d ∧ a ≠ R.PROM_SCR_LAST_HI d) ∧
    (∀ a ∈ [R.PROM_SCR_CTRL d, R.PROM_SCR_STAT d], a ≠ R.PROM_SCR_CHK d ∧ a ≠ R.PROM_SCR_COR d ∧ a ≠ R.PROM_SCR_UNC d) ∧
    R.PROM_SCR_CHK d ≠ R.PROM_SCR_COR d ∧ R.PROM_SCR_CHK d ≠ R.PROM_SCR_UNC d ∧ R.PROM_SCR_COR d ≠ R.PROM_SCR_UNC d ∧
    R.PROM_SCR_LAST_LO d ≠ R.PROM_SCR_LAST_HI d := by
  unfold R.PROM_SCR_STAT R.PROM_CAUSE R.PROM_SCR_CHK R.PROM_SCR_COR R.PROM_SCR_UNC R.PROM_SCR_FIRST_LO R.PROM_SCR_FIRST_HI R.PROM_SCR_LAST_LO
    R.PROM_SCR_LAST_HI R.PROM_SCR_CTRL
  simp only [List.mem_cons, List.not_mem_nil, or_false]
  refine ⟨by omega, fun a ha => by omega, fun a ha => by omega, fun a ha => by omega, by omega, by omega, by omega, by omega⟩

/-- Where a pass begins and ends is none of the registers that it writes. -/
theorem scr_bounds_ne (d : Nat) : ∀ a ∈ [R.PROM_SCR_START_LO d, R.PROM_SCR_START_HI d, R.PROM_SCR_END_LO d, R.PROM_SCR_END_HI d],
    ∀ b ∈ [R.PROM_SCR_CTRL d, R.PROM_SCR_CHK d, R.PROM_SCR_COR d, R.PROM_SCR_UNC d, R.PROM_SCR_FIRST_LO d, R.PROM_SCR_FIRST_HI d,
      R.PROM_SCR_LAST_LO d, R.PROM_SCR_LAST_HI d, R.PROM_SCR_STAT d], a ≠ b := by
  unfold R.PROM_SCR_START_LO R.PROM_SCR_START_HI R.PROM_SCR_END_LO R.PROM_SCR_END_HI R.PROM_SCR_STAT R.PROM_SCR_CHK R.PROM_SCR_COR R.PROM_SCR_UNC
    R.PROM_SCR_FIRST_LO R.PROM_SCR_FIRST_HI R.PROM_SCR_LAST_LO R.PROM_SCR_LAST_HI R.PROM_SCR_CTRL
  simp only [List.mem_cons, List.not_mem_nil, or_false]
  intro a ha b hb
  omega

/-! ### A pass starts -/

/-- The registers of a pass as it starts. -/
def State.scrClear (s : State) (d : Nat) (fix : Bool) : State :=
  let s := ((((s.setB (R.PROM_SCR_CTRL d) F.PROM_SCR_CTRL_FIX fix).wr (R.PROM_SCR_CHK d) 0).wr (R.PROM_SCR_COR d) 0).wr (R.PROM_SCR_UNC d) 0)
  let s := (s.wrPair (R.PROM_SCR_FIRST_LO d) (R.PROM_SCR_FIRST_HI d) 0).wrPair (R.PROM_SCR_LAST_LO d) (R.PROM_SCR_LAST_HI d) 0
  (s.setB (R.PROM_SCR_STAT d) F.PROM_SCR_STAT_BUSY true).setB (R.PROM_SCR_STAT d) F.PROM_SCR_STAT_CUT false

/-- The registers that the start of a pass writes. -/
def scrRegs (d : Nat) : List Nat := [R.PROM_SCR_CTRL d, R.PROM_SCR_CHK d, R.PROM_SCR_COR d, R.PROM_SCR_UNC d, R.PROM_SCR_FIRST_LO d,
  R.PROM_SCR_FIRST_HI d, R.PROM_SCR_LAST_LO d, R.PROM_SCR_LAST_HI d, R.PROM_SCR_STAT d]

theorem OnlyRegs.wrPair {as : List Nat} {lo hi v : Nat} (h : OnlyRegs as s t) (hlo : lo ∈ as) (hhi : hi ∈ as) : OnlyRegs as s (t.wrPair lo hi v) :=
  (h.wr hlo).wr hhi

theorem scrClear_only (fix : Bool) (n : Nat) : OnlyRegs (scrRegs n) s (s.scrClear n fix) := by
  have hmem : ∀ b ∈ scrRegs n, b ∈ scrRegs n := fun _ h => h
  unfold State.scrClear
  exact (((((((OnlyRegs.refl (scrRegs n) s).setF (by simp [scrRegs])).wr (by simp [scrRegs])).wr (by simp [scrRegs])).wr (by simp [scrRegs])).wrPair
    (by simp [scrRegs]) (by simp [scrRegs])).wrPair (by simp [scrRegs]) (by simp [scrRegs])).setF (by simp [scrRegs]) |>.setF (by simp [scrRegs])

theorem scr_bounds {n : Nat} (h : OnlyRegs (scrRegs n) s t) : t.scrStart n = s.scrStart n ∧ t.scrEnd n = s.scrEnd n := by
  have hsame : ∀ a ∈ [R.PROM_SCR_START_LO n, R.PROM_SCR_START_HI n, R.PROM_SCR_END_LO n, R.PROM_SCR_END_HI n], t.rd a = s.rd a := fun a ha =>
    h.2 a fun hb => scr_bounds_ne n a ha a hb rfl
  unfold State.scrStart State.scrEnd
  rw [fld_congr (hsame _ (by simp)), fld_congr (hsame _ (by simp)), fld_congr (hsame _ (by simp)), fld_congr (hsame _ (by simp))]
  exact ⟨rfl, rfl⟩

theorem scrClear_rd {a : Nat} (fix : Bool) (n : Nat) (hl : a ≠ R.PROM_SCR_FIRST_LO n ∧ a ≠ R.PROM_SCR_FIRST_HI n ∧ a ≠ R.PROM_SCR_LAST_LO n ∧
    a ≠ R.PROM_SCR_LAST_HI n) (hs : a ≠ R.PROM_SCR_STAT n) : (s.scrClear n fix).rd a =
    ((((s.setB (R.PROM_SCR_CTRL n) F.PROM_SCR_CTRL_FIX fix).wr (R.PROM_SCR_CHK n) 0).wr (R.PROM_SCR_COR n) 0).wr (R.PROM_SCR_UNC n) 0).rd a := by
  obtain ⟨h1, h2, h3, h4⟩ := hl
  rw [State.scrClear, State.setB_eq, State.setF_rd_other _ _ _ _ _ hs, State.setB_eq, State.setF_rd_other _ _ _ _ _ hs, wrPair_rd_other h3 h4,
    wrPair_rd_other h1 h2]

/-- FIX, BUSY and the counts of a pass that starts. -/
theorem scrClear_shows (fix : Bool) (n : Nat) : let t := s.scrClear n fix
    t.flag (R.PROM_SCR_CTRL n) F.PROM_SCR_CTRL_FIX = fix ∧ t.flag (R.PROM_SCR_STAT n) F.PROM_SCR_STAT_BUSY = true ∧ t.rd (R.PROM_SCR_CHK n) = 0 ∧
    t.rd (R.PROM_SCR_COR n) = 0 ∧ t.rd (R.PROM_SCR_UNC n) = 0 := by
  obtain ⟨-, hstat, hpair, hcnt, hcc, hcu, hou, -⟩ := scr_ne n
  have hctrl := hcnt (R.PROM_SCR_CTRL n) (by simp)
  refine ⟨?_, ?_, ?_, ?_, ?_⟩
  · rw [flag_congr (scrClear_rd fix n (hpair _ (by simp)) (hstat _ (by simp)).1), State.flag, State.wr_fld_other _ _ _ _ _ hctrl.2.2,
      State.wr_fld_other _ _ _ _ _ hctrl.2.1, State.wr_fld_other _ _ _ _ _ hctrl.1, ← State.flag, setB_flag_same fix (by decide) (by decide)]
  · rw [State.scrClear, State.setB_eq, State.flag, State.setF_fld_other _ _ _ _ _ _ (.inr (by decide)), ← State.flag,
      setB_flag_same true (by decide) (by decide)]
  · rw [scrClear_rd fix n (hpair _ (by simp)) (hstat _ (by simp)).1, State.wr_rd_other _ _ _ _ hcu, State.wr_rd_other _ _ _ _ hcc, State.wr_rd_same]
  · rw [scrClear_rd fix n (hpair _ (by simp)) (hstat _ (by simp)).1, State.wr_rd_other _ _ _ _ hou, State.wr_rd_same]
  · rw [scrClear_rd fix n (hpair _ (by simp)) (hstat _ (by simp)).1, State.wr_rd_same]

theorem scrGo_eq {fix : Bool} (hn : s.scrub[d] = none) (hlt : s.scrStart d < s.scrEnd d) : exec (.promScrGo d fix) s =
    .next (((s.scrClear d fix).scrNext d (s.scrStart d)).setScrub d (some ⟨s.scrStart d, s.scrEnd d⟩)) := by
  have hset : OnlyRegs (scrRegs d) s (s.setB (R.PROM_SCR_CTRL d) F.PROM_SCR_CTRL_FIX fix) := (OnlyRegs.refl _ s).setF (by simp [scrRegs])
  obtain ⟨hs1, he1⟩ := scr_bounds hset
  obtain ⟨hs2, he2⟩ := scr_bounds (scrClear_only (s := s) fix d)
  show execPromScrGo d fix s = _
  unfold execPromScrGo
  have hscrub : (s.setB (R.PROM_SCR_CTRL d) F.PROM_SCR_CTRL_FIX fix).scrub = s.scrub := setF_scrub _ _ _
  dsimp only
  rw [hs1, he1, hscrub, hn, if_neg (by simp; omega)]
  show Host.Outcome.next (((s.scrClear d fix).scrNext d ((s.scrClear d fix).scrStart d)).setScrub d (some
    ⟨(s.scrClear d fix).scrStart d, (s.scrClear d fix).scrEnd d⟩)) = _
  rw [hs2, he2]

theorem newScrub_frame {x : Option Scrub} (h : t = { s with regs := t.regs }) : let v := t.setScrub d x
    v = { s with regs := v.regs, scrub := v.scrub } ∧ v.scrub[d] = x := by
  refine ⟨?_, Vector.getElem_set_self _⟩
  unfold State.setScrub
  generalize t.regs = r at h ⊢
  rw [h]

theorem scrGo_spec {fix : Bool} (hn : s.scrub[d] = none) (hlt : s.scrStart d < s.scrEnd d) : After (.promScrGo d fix) s (fun t =>
    t.scrub[d] = some ⟨s.scrStart d, s.scrEnd d⟩ ∧ t.flag (R.PROM_SCR_CTRL d) F.PROM_SCR_CTRL_FIX = fix ∧
    t.flag (R.PROM_SCR_STAT d) F.PROM_SCR_STAT_BUSY = true ∧ t.rd (R.PROM_SCR_CHK d) = 0 ∧ t.rd (R.PROM_SCR_COR d) = 0 ∧
    t.rd (R.PROM_SCR_UNC d) = 0 ∧ t = { s with regs := t.regs, scrub := t.scrub }) := by
  obtain ⟨hfix, hbusy, hchk, hcor, hunc⟩ := scrClear_shows (s := s) fix d
  obtain ⟨hframe, hscrub⟩ := newScrub_frame (s := s) (d := d) (x := some ⟨s.scrStart d, s.scrEnd d⟩)
    ((scrClear_only (s := s) fix d).setF (a := R.PROM_SCR_STAT d) (f := F.PROM_SCR_STAT_NEXT) (x := s.scrStart d / 64 % 67108864) (by simp [scrRegs])).1
  have hstat := (scr_ne d).2.1
  have hrd : ∀ a, a ≠ R.PROM_SCR_STAT d → (((s.scrClear d fix).scrNext d (s.scrStart d)).setScrub d (some ⟨s.scrStart d, s.scrEnd d⟩)).rd a =
      (s.scrClear d fix).rd a := fun a ha => (setScrub_rd _ _ _).trans (State.setF_rd_other _ _ _ _ _ ha)
  refine ⟨_, scrGo_eq hn hlt, hscrub, ?_, ?_, ?_, ?_, ?_, hframe⟩
  · rw [flag_congr (hrd _ (hstat _ (by simp)).1), hfix]
  · rw [flag_congr (setScrub_rd _ _ _), State.flag, State.scrNext, State.setF_fld_other _ _ _ _ _ _ (.inr (by decide)), ← State.flag, hbusy]
  · rw [hrd _ (hstat _ (by simp)).1, hchk]
  · rw [hrd _ (hstat _ (by simp)).1, hcor]
  · rw [hrd _ (hstat _ (by simp)).1, hunc]

/-! ### A pass ends -/

theorem regs_scrub (h : t = { s with regs := t.regs }) : t = { s with regs := t.regs, scrub := t.scrub } := by
  generalize t.regs = r at h ⊢
  rw [h]

theorem scrDone_frame {cut : Bool} (h : t = { s with regs := t.regs }) : let v := t.scrDone d cut
    v = { s with regs := v.regs, scrub := v.scrub } ∧ v.scrub[d] = none := by
  have hscrub : (t.scrDone d cut).scrub = t.scrub.set d none := by
    rw [scrDone_eq, setF_scrub, setScrub_scrub, setF_scrub, setF_scrub]
  refine ⟨?_, ?_⟩
  · rw [hscrub, scrDone_eq]
    exact setScrub_frame (regs_scrub h) d _ _ _ _ _ _ _ _ _
  · rw [hscrub]
    exact Vector.getElem_set_self _

theorem scrDone_rd {cut : Bool} {a : Nat} (hs : a ≠ R.PROM_SCR_STAT d) (hc : a ≠ R.PROM_CAUSE d) : (s.scrDone d cut).rd a = s.rd a := by
  rw [State.scrDone, State.raise_eq, State.setF_rd_other _ _ _ _ _ hc, setScrub_rd, State.setB_eq, State.setF_rd_other _ _ _ _ _ hs, State.setB_eq,
    State.setF_rd_other _ _ _ _ _ hs]

theorem scrStop_eq (h : s.scrub[d] = some p) : exec (.promScrStop d) s = .next (s.scrDone d true) := by
  show execPromScrStop d s = _
  exact if_pos (by rw [h]; rfl)

theorem scrDone_writes : Writes [(R.PROM_SCR_STAT d, [(F.PROM_SCR_STAT_BUSY, 0), (F.PROM_SCR_STAT_CUT, 1)]),
    (R.PROM_CAUSE d, [(F.PROM_CAUSE_SCRDONE, 1)])] s (s.scrDone d true) := by
  obtain ⟨hw, hsame⟩ := (onlyWrites_two (s := s) (f := F.PROM_SCR_STAT_BUSY) (g := F.PROM_SCR_STAT_CUT) (e := F.PROM_CAUSE_SCRDONE) (x := 0) (y := 1)
    (z := 1) (scr_ne d).1).2
  have hrd : ∀ a, (s.scrDone d true).rd a = (((s.setF (R.PROM_SCR_STAT d) F.PROM_SCR_STAT_BUSY 0).setF (R.PROM_SCR_STAT d)
      F.PROM_SCR_STAT_CUT 1).setF (R.PROM_CAUSE d) F.PROM_CAUSE_SCRDONE 1).rd a := fun a => by
    rw [State.scrDone, State.raise_eq]
    by_cases ha : a = R.PROM_CAUSE d
    · rw [ha, State.setF_rd_same, State.setF_rd_same, setScrub_rd]
      rfl
    · rw [State.setF_rd_other _ _ _ _ _ ha, State.setF_rd_other _ _ _ _ _ ha, setScrub_rd]
      rfl
  exact ⟨fun e he => (hrd _).trans (hw e he), fun a ha => (hrd _).trans (hsame a ha)⟩

/-! ### A line of a pass -/

/-- The pass goes on, or ends. -/
def State.scrPass (s : State) (d : Fin 6) (p : Scrub) : State :=
  let s := s.scrNext d (p.next + 64)
  if p.stop ≤ p.next + 64 then s.scrDone d false else s.setScrub d (some ⟨p.next + 64, p.stop⟩)

theorem scrPass_rd {a : Nat} (hs : a ≠ R.PROM_SCR_STAT d) (hc : a ≠ R.PROM_CAUSE d) : (s.scrPass d p).rd a = s.rd a := by
  have hn : (s.scrNext d (p.next + 64)).rd a = s.rd a := State.setF_rd_other _ _ _ _ _ hs
  unfold State.scrPass
  dsimp only
  split
  · rw [scrDone_rd hs hc, hn]
  · rw [setScrub_rd, hn]

theorem scrNext_frame {n : Nat} : s.scrNext d n = { s with regs := (s.scrNext d n).regs } :=
  ((OnlyRegs.refl [R.PROM_SCR_STAT d] s).setF (by simp)).1

theorem scrPass_frame : let t := s.scrPass d p
    t = { s with regs := t.regs, scrub := t.scrub } ∧ t.scrub[d] = if p.next + 64 < p.stop then some ⟨p.next + 64, p.stop⟩ else none := by
  unfold State.scrPass
  dsimp only
  by_cases h : p.stop ≤ p.next + 64
  · rw [if_pos h, if_neg (by omega)]
    exact scrDone_frame scrNext_frame
  · rw [if_neg h, if_pos (by omega)]
    exact newScrub_frame scrNext_frame

theorem scrPass_lines : (s.scrPass d p).lines = s.lines ∧ ∀ k, (s.scrPass d p).line k = s.line k := by
  rw [scrPass_frame.1]
  exact ⟨rfl, fun _ => rfl⟩

section Line
variable {env : G6Env} (hp : s.scrub[d] = some p)
include hp

theorem scrubLine_nowhere (h : s.place p.next = none) : exec (.scrubLine d env) s = .next (s.scrPass d p) := by
  show execScrubLine d env s = _
  unfold execScrubLine
  rw [hp]
  dsimp only
  rw [h]
  unfold State.scrPass
  dsimp only
  split <;> rfl

theorem scrubLine_read {ch line : Nat} {q : Fin 24} (h : s.place p.next = some (ch, line)) (hd : ch / 8 = d.val) (hm : s.mstate (portOf ch) = 2)
    (hh : s.haltOn[d] = false) (hq : portOf ch = q.val) : exec (.scrubLine d env) s = .next ((s.scrRead d q ch line p.next env).scrPass d p) := by
  have hlt : portOf ch < 24 := hq ▸ q.isLt
  have hfin : (⟨portOf ch, hlt⟩ : Fin 24) = q := Fin.ext hq
  show execScrubLine d env s = _
  unfold execScrubLine
  rw [hp]
  dsimp only
  rw [h]
  dsimp only
  rw [dif_pos ⟨hd, hm, hh⟩, hfin]
  unfold State.scrPass
  dsimp only
  split <;> rfl

end Line

/-! ### The check of a line -/

section Check
variable {q : Fin 24} {key a : Nat} {l : GLine}

theorem line_tally (k code n key : Nat) : (s.tally k code n).line key = s.line key := by
  obtain ⟨m, hm⟩ := tally_eq s k code n
  rw [hm]
  rfl

theorem line_wr (b k : Nat) (v : Word) : (s.wr b v).line k = s.line k := (rfl)
theorem setLine_rd (k b : Nat) (x : Option GLine) : (s.setLine k x).rd b = s.rd b := (rfl)

theorem keepMarks_rd (k b : Nat) (e : List Ecc) : (s.keepMarks k e).rd b = s.rd b := by
  unfold State.keepMarks
  split
  · rw [setLine_rd]
  · rfl

theorem lineRead_of_some (hl : s.line key = some l) : s.lineRead key = s := by
  unfold State.lineRead
  rw [hl]

/-- The line as the check finds it, before its errors count. -/
theorem scrCheck_eq (hl : s.line key = some l) (hc : l.conds [] = [.ce, .clean, .clean, .clean])
    (hfix : ((((s.keepMarks key []).countCe q 1).scrNote d a 1 0).flag (R.PROM_SCR_CTRL d) F.PROM_SCR_CTRL_FIX) = true) :
    s.scrCheck d q key a G6Env.none_ = (((s.keepMarks key []).countCe q 1).scrNote d a 1 0).setLine key (some l.clean) := by
  have hcs : countWords (l.conds []) [0, 1, 2, 3] .ce = 1 ∧ countWords (l.conds []) [0, 1, 2, 3] .ue = 0 := by
    rw [hc]
    decide
  obtain ⟨hce, hue⟩ := hcs
  unfold State.scrCheck
  dsimp only [G6Env.none_]
  rw [lineFound_of_some hl, hce, hue, lineRead_of_some hl]
  have h0 : ((s.keepMarks key []).countCe q 1).countUe q 0 a 3 (128 * d.val + 0x52) = (s.keepMarks key []).countCe q 1 := if_pos rfl
  rw [h0, if_pos (by rw [hfix]; rfl)]

theorem countCe_one : s.countCe q 1 = ((s.tally (q / 4) (0x50 + q % 4) 1).bump (R.MEMP_CE_CNT q) F.MEMP_CE_CNT_COUNT 1).raise (R.MEMP_CAUSE q)
    F.MEMP_CAUSE_CECC := if_neg (by decide)

/-- What a note of one corrected word writes. -/
theorem scrNote_one : s.scrNote d a 1 0 = let first := (s.rd (R.PROM_SCR_COR d)).toNat == 0 && (s.rd (R.PROM_SCR_UNC d)).toNat == 0
    let u := ((s.bump (R.PROM_SCR_CHK d) F.PROM_SCR_CHK_COUNT 4).bump (R.PROM_SCR_COR d) F.PROM_SCR_COR_COUNT 1).bump (R.PROM_SCR_UNC d)
      F.PROM_SCR_UNC_COUNT 0
    (if first then u.wrPair (R.PROM_SCR_FIRST_LO d) (R.PROM_SCR_FIRST_HI d) a else u).wrPair (R.PROM_SCR_LAST_LO d) (R.PROM_SCR_LAST_HI d) a := by
  unfold State.scrNote
  dsimp only
  exact if_neg (by decide)

theorem line_scrNote (k : Nat) : (s.scrNote d a 1 0).line k = s.line k := by
  rw [scrNote_one]
  dsimp only
  rw [State.wrPair, line_wr, line_wr]
  split
  · rw [State.wrPair, line_wr, line_wr, State.bump_eq, line_setF, State.bump_eq, line_setF, State.bump_eq, line_setF]
  · rw [State.bump_eq, line_setF, State.bump_eq, line_setF, State.bump_eq, line_setF]

theorem line_countCe (k : Nat) : (s.countCe q 1).line k = s.line k := by
  rw [countCe_one, State.raise_eq, line_setF, State.bump_eq, line_setF, line_tally]

/-- A count of 32 bits that rises by n. -/
theorem bump_word {b n : Nat} : ((s.bump b ⟨0, 32⟩ n).rd b).toNat = min ((s.rd b).toNat + n) (2 ^ 32 - 1) := by
  have hfld : ∀ v : Word, (⟨0, 32⟩ : Fld).get v = v.toNat := fun v => by
    unfold Fld.get
    simp
    omega
  have h := State.setF_fld_same s b ⟨0, 32⟩ (min (s.fld b ⟨0, 32⟩ + n) (2 ^ 32 - 1)) (by decide)
  rw [State.fld, hfld] at h
  rw [State.bump_eq, h, State.fld, hfld]
  exact Nat.mod_eq_of_lt (show min _ (2 ^ 32 - 1) < 2 ^ 32 by omega)

theorem scrNote_rd {b : Nat} (h : b ≠ R.PROM_SCR_FIRST_LO d ∧ b ≠ R.PROM_SCR_FIRST_HI d ∧ b ≠ R.PROM_SCR_LAST_LO d ∧ b ≠ R.PROM_SCR_LAST_HI d) :
    (s.scrNote d a 1 0).rd b = (((s.bump (R.PROM_SCR_CHK d) F.PROM_SCR_CHK_COUNT 4).bump (R.PROM_SCR_COR d) F.PROM_SCR_COR_COUNT 1).bump
      (R.PROM_SCR_UNC d) F.PROM_SCR_UNC_COUNT 0).rd b := by
  obtain ⟨h1, h2, h3, h4⟩ := h
  rw [scrNote_one]
  dsimp only
  rw [wrPair_rd_other h3 h4]
  split
  · rw [wrPair_rd_other h1 h2]
  · rfl

theorem scrNote_rd_other {b : Nat} (h : b ≠ R.PROM_SCR_FIRST_LO d ∧ b ≠ R.PROM_SCR_FIRST_HI d ∧ b ≠ R.PROM_SCR_LAST_LO d ∧ b ≠ R.PROM_SCR_LAST_HI d)
    (hc : b ≠ R.PROM_SCR_CHK d ∧ b ≠ R.PROM_SCR_COR d ∧ b ≠ R.PROM_SCR_UNC d) : (s.scrNote d a 1 0).rd b = s.rd b := by
  rw [scrNote_rd h, State.bump_eq, State.setF_rd_other _ _ _ _ _ hc.2.2, State.bump_eq, State.setF_rd_other _ _ _ _ _ hc.2.1, State.bump_eq,
    State.setF_rd_other _ _ _ _ _ hc.1]

theorem countCe_rd {b : Nat} (h1 : b ≠ R.MEMP_CE_CNT q) (h2 : b ≠ R.MEMP_CAUSE q) : (s.countCe q 1).rd b = s.rd b := by
  rw [countCe_one, State.raise_eq, State.setF_rd_other _ _ _ _ _ h2, State.bump_eq, State.setF_rd_other _ _ _ _ _ h1, tally_rd]

/-- What a pass shows of a line with one corrected word. -/
structure Noted (d : Fin 6) (q : Fin 24) (a : Nat) (s t : State) : Prop where
  chk : (t.rd (R.PROM_SCR_CHK d)).toNat = min ((s.rd (R.PROM_SCR_CHK d)).toNat + 4) (2 ^ 32 - 1)
  cor : (t.rd (R.PROM_SCR_COR d)).toNat = min ((s.rd (R.PROM_SCR_COR d)).toNat + 1) (2 ^ 32 - 1)
  last : t.rdPair (R.PROM_SCR_LAST_LO d) (R.PROM_SCR_LAST_HI d) = a % 2 ^ 64
  cause : t.flag (R.MEMP_CAUSE q) F.MEMP_CAUSE_CECC = true

theorem memp_scr_ne (d q : Nat) : (∀ b ∈ [R.PROM_SCR_CHK d, R.PROM_SCR_COR d, R.PROM_SCR_CTRL d], b ≠ R.MEMP_CE_CNT q ∧ b ≠ R.MEMP_CAUSE q) ∧
    (∀ b ∈ [R.PROM_SCR_CHK d, R.PROM_SCR_COR d, R.PROM_SCR_UNC d, R.PROM_SCR_FIRST_LO d, R.PROM_SCR_FIRST_HI d, R.PROM_SCR_LAST_LO d,
      R.PROM_SCR_LAST_HI d, R.PROM_SCR_STAT d, R.PROM_CAUSE d], R.MEMP_CAUSE q ≠ b) := by
  unfold R.PROM_SCR_STAT R.PROM_CAUSE R.PROM_SCR_CHK R.PROM_SCR_COR R.PROM_SCR_UNC R.PROM_SCR_FIRST_LO R.PROM_SCR_FIRST_HI R.PROM_SCR_LAST_LO
    R.PROM_SCR_LAST_HI R.PROM_SCR_CTRL R.MEMP_CE_CNT R.MEMP_CAUSE promBase mempBase dieBase
  simp only [List.mem_cons, List.not_mem_nil, or_false]
  exact ⟨fun b hb => by omega, fun b hb => by omega⟩

theorem noted_counts : Noted d q a s ((s.countCe q 1).scrNote d a 1 0) := by
  obtain ⟨-, -, hpair, -, hcc, hcu, hou, hlast⟩ := scr_ne d
  obtain ⟨hscr, hcause⟩ := memp_scr_ne d q
  have hchk := hscr (R.PROM_SCR_CHK d) (by simp)
  have hcor := hscr (R.PROM_SCR_COR d) (by simp)
  refine ⟨?_, ?_, ?_, ?_⟩
  · rw [scrNote_rd (hpair _ (by simp)), State.bump_eq (f := F.PROM_SCR_UNC_COUNT), State.setF_rd_other _ _ _ _ _ hcu,
      State.bump_eq (f := F.PROM_SCR_COR_COUNT), State.setF_rd_other _ _ _ _ _ hcc, F.PROM_SCR_CHK_COUNT, bump_word, countCe_rd hchk.1 hchk.2]
  · rw [scrNote_rd (hpair _ (by simp)), State.bump_eq (f := F.PROM_SCR_UNC_COUNT), State.setF_rd_other _ _ _ _ _ hou, F.PROM_SCR_COR_COUNT, bump_word,
      State.bump_eq, State.setF_rd_other _ _ _ _ _ hcc.symm, countCe_rd hcor.1 hcor.2]
  · rw [scrNote_one]
    exact rdPair_wrPair_mod _ hlast
  · rw [flag_congr (scrNote_rd_other ⟨hcause _ (by simp), hcause _ (by simp), hcause _ (by simp), hcause _ (by simp)⟩
      ⟨hcause _ (by simp), hcause _ (by simp), hcause _ (by simp)⟩), countCe_one]
    exact State.raise_flag _ _ _ (by decide) rfl

theorem Noted.congr {x y : State} (h : Noted d q a s t)
    (hx : ∀ b ∈ [R.PROM_SCR_CHK d, R.PROM_SCR_COR d], s.rd b = x.rd b)
    (hy : ∀ b ∈ [R.PROM_SCR_CHK d, R.PROM_SCR_COR d, R.PROM_SCR_LAST_LO d, R.PROM_SCR_LAST_HI d, R.MEMP_CAUSE q], y.rd b = t.rd b) :
    Noted d q a x y := by
  obtain ⟨hchk, hcor, hlast, hcause⟩ := h
  refine ⟨?_, ?_, ?_, ?_⟩
  · rw [hy _ (by simp), hchk, hx _ (by simp)]
  · rw [hy _ (by simp), hcor, hx _ (by simp)]
  · rw [State.rdPair, hy _ (by simp), hy _ (by simp), ← State.rdPair, hlast]
  · rw [flag_congr (hy _ (by simp)), hcause]

theorem scrRead_none {ch line : Nat} : s.scrRead d q ch line a G6Env.none_ =
    (s.tally d (0x40 + q.val % 4) 1).scrCheck d q (lineKey ch line) a G6Env.none_ := by
  unfold State.scrRead State.activate State.edcRetry
  rfl

/-- A line with one corrected word, written back. -/
theorem scrCheck_noted (hl : s.line key = some l) (hc : l.conds [] = [.ce, .clean, .clean, .clean])
    (hfix : s.flag (R.PROM_SCR_CTRL d) F.PROM_SCR_CTRL_FIX = true) : let t := s.scrCheck d q key a G6Env.none_
    (∀ k, t.line k = if k = key then some l.clean else s.line k) ∧ Noted d q a s t := by
  obtain ⟨-, -, hpair, hcnt, -⟩ := scr_ne d
  have hctrl := (memp_scr_ne d q).1 (R.PROM_SCR_CTRL d) (by simp)
  have hrd : (((s.keepMarks key []).countCe q 1).scrNote d a 1 0).rd (R.PROM_SCR_CTRL d) = s.rd (R.PROM_SCR_CTRL d) := by
    rw [scrNote_rd_other (hpair _ (by simp)) (hcnt _ (by simp)), countCe_rd hctrl.1 hctrl.2, keepMarks_rd]
  dsimp only
  rw [scrCheck_eq hl hc ((flag_congr hrd _).trans hfix)]
  refine ⟨fun k => ?_, noted_counts.congr (fun b _ => keepMarks_rd _ _ _) fun b _ => setLine_rd _ _ _⟩
  rw [line_setLine, line_scrNote, line_countCe, line_keepMarks_nil]

end Check

/-- A line of a pass with one corrected word (R442, R443). -/
theorem scrubLine_fixed {env : G6Env} {ch line : Nat} {l : GLine} (hp : s.scrub[d] = some p) (h : s.place p.next = some (ch, line))
    (hd : ch / 8 = d.val) (hm : s.mstate (portOf ch) = 2) (hh : s.haltOn[d] = false) (hl : s.line (lineKey ch line) = some l)
    (henv : env = G6Env.none_) (hc : l.conds [] = [.ce, .clean, .clean, .clean]) (hfix : s.flag (R.PROM_SCR_CTRL d) F.PROM_SCR_CTRL_FIX = true) :
    After (.scrubLine d env) s (fun t =>
      (∀ k, t.line k = if k = lineKey ch line then some ⟨l.data, l.tag, .clean, .clean, .clean, .clean⟩ else s.line k) ∧
      (t.rd (R.PROM_SCR_CHK d)).toNat = min ((s.rd (R.PROM_SCR_CHK d)).toNat + 4) (2 ^ 32 - 1) ∧
      (t.rd (R.PROM_SCR_COR d)).toNat = min ((s.rd (R.PROM_SCR_COR d)).toNat + 1) (2 ^ 32 - 1) ∧
      t.rdPair (R.PROM_SCR_LAST_LO d) (R.PROM_SCR_LAST_HI d) = p.next % 2 ^ 64 ∧
      t.flag (R.MEMP_CAUSE (portOf ch)) F.MEMP_CAUSE_CECC = true) := by
  have hlt : portOf ch < 24 := by
    have := d.isLt
    unfold portOf
    omega
  subst henv
  obtain ⟨hlines, hnoted⟩ := scrCheck_noted (s := s.tally d (0x40 + portOf ch % 4) 1) (d := d) (q := ⟨portOf ch, hlt⟩) (a := p.next)
    ((line_tally _ _ _ _).trans hl) hc ((flag_congr (tally_rd _ _ _ _) _).trans hfix)
  obtain ⟨-, hstat, -⟩ := scr_ne d
  have hcause := (memp_scr_ne d (portOf ch)).2
  refine ⟨_, scrubLine_read (q := ⟨portOf ch, hlt⟩) hp h hd hm hh rfl, ?_⟩
  rw [scrRead_none]
  have hall : Noted d ⟨portOf ch, hlt⟩ p.next s (((s.tally d (0x40 + portOf ch % 4) 1).scrCheck d (⟨portOf ch, hlt⟩ : Fin 24) (lineKey ch line)
      p.next G6Env.none_).scrPass d p) := by
    refine hnoted.congr (fun b _ => tally_rd _ _ _ _) fun b hb => ?_
    simp only [List.mem_cons, List.not_mem_nil, or_false] at hb
    rcases hb with rfl | rfl | rfl | rfl | rfl
    · exact scrPass_rd (hstat _ (by simp)).1 (hstat _ (by simp)).2
    · exact scrPass_rd (hstat _ (by simp)).1 (hstat _ (by simp)).2
    · exact scrPass_rd (hstat _ (by simp)).1 (hstat _ (by simp)).2
    · exact scrPass_rd (hstat _ (by simp)).1 (hstat _ (by simp)).2
    · exact scrPass_rd (hcause _ (by simp)) (hcause _ (by simp))
  obtain ⟨hchk, hcor, hlast, hflag⟩ := hall
  refine ⟨fun k => ?_, hchk, hcor, hlast, hflag⟩
  rw [scrPass_lines.2, hlines, line_tally]
  rfl

/-- Settles O40: one lemma per command, and `scrCheck_noted` for the line that a pass corrects. -/
theorem portsTrainZeroRefreshAndScrub : Obligations.PortsTrainZeroRefreshAndScrub := by
  unfold Obligations.PortsTrainZeroRefreshAndScrub
  intro s q d
  refine ⟨fun h => ⟨_, mempInit_starts h, onlyWrites_setF _ _ _⟩,
    fun h => ⟨_, mempInit_again h, endAccepted_init.1, endAccepted_init.2, fun k c => by rw [dm_setF, endAccepted_fly]⟩,
    fun h => ⟨_, mempZero_starts h, onlyWrites_setF _ _ _⟩, fun h c hc => ?_,
    fun dens ok h => ⟨fun hg => ⟨_, train_ready h hg, onlyWrites_two (memp_ne q).1⟩, fun hg => ⟨_, train_failed h hg, onlyWrites_two (memp_ne q).1⟩⟩,
    fun h => ⟨_, zeroDone_done h, zeroDone_spec⟩,
    fun waiting h hm => ⟨fun hw => ⟨_, refresh_postponed h hm hw, onlyWrites_setF _ _ _⟩, fun hw => ⟨_, refresh_made h hm hw, refresh_spec⟩⟩,
    fun bank h hm => ⟨_, bankRefresh_counts h hm, rfl⟩, rhWindow_spec, fun fix hn hlt => scrGo_spec hn hlt, fun p hp =>
      ⟨⟨_, scrStop_eq hp, ?_, ?_, scrDone_writes⟩, fun env h => ⟨_, scrubLine_nowhere hp h, scrPass_lines.1, scrPass_frame⟩,
        fun env ch line l h hd hm hh hl henv hc hfix => scrubLine_fixed hp h hd hm hh hl henv hc hfix⟩⟩
  · simp only [List.mem_cons, List.not_mem_nil, or_false] at hc
    rcases hc with rfl | rfl
    · exact ⟨_, mempInit_refused h, onlyWrites_raise _ _⟩
    · exact ⟨_, mempZero_refused h, onlyWrites_raise _ _⟩
  · exact (scrDone_frame (s := s) rfl).2
  · exact (scrDone_frame (s := s) rfl).1

end Sys2Proof.Machine
end

section
/-! What a halt of dies leaves: their groups stop, their tether ports go down, and every key is zeroised (13_vaults.md R463). -/
namespace Sys2Proof.Machine
variable {s t u : State} {g : Fin 24} {d : Fin 6}

/-! ### Groups stop -/

/-- The registers that the stop of a group writes. -/
def StopReg (g : Fin 24) (a : Nat) : Prop :=
  a = R.VSQ_STAT g ∨ a = R.VSQ_CAUSE g ∨ a = R.VSQ_FAULT g ∨ a = R.FCU_STAT g ∨ a = R.CH_GSTAT g

/-- The registers that a halt writes. -/
def HaltReg (a : Nat) : Prop := (∃ g, StopReg g a) ∨ a = R.TSY_CAUSE ∨ ∃ q, q < 12 ∧ a = R.TSY_PORT_STAT q

/-- Groups may have stopped and ports gone down; nothing has started. -/
structure Halting (s t : State) : Prop where
  frame : t = { s with now := t.now, regs := t.regs, grp := t.grp, tsy := t.tsy, haltReq := t.haltReq, haltOn := t.haltOn }
  regs : ∀ a, ¬ HaltReg a → t.rd a = s.rd a
  act : ∀ k : Fin 24, t.active k = true → s.active k = true

theorem halting_frame (h : t = { s with now := t.now, regs := t.regs, grp := t.grp, tsy := t.tsy, haltReq := t.haltReq, haltOn := t.haltOn })
    {n : Nat} {l : Sparse Word} {x : Vector Group 24} {y : TimeSync} {b : Bool} {c : Vector Bool 6} :
    ({ t with now := n, regs := l, grp := x, tsy := y, haltReq := b, haltOn := c } : State) =
      { s with now := n, regs := l, grp := x, tsy := y, haltReq := b, haltOn := c } := by rw [h]

theorem halting_setF (h : t = { s with now := t.now, regs := t.regs, grp := t.grp, tsy := t.tsy, haltReq := t.haltReq, haltOn := t.haltOn })
    (a n : Nat) (f : Fld) : t.setF a f n = { s with
      now := (t.setF a f n).now, regs := (t.setF a f n).regs, grp := (t.setF a f n).grp, tsy := (t.setF a f n).tsy,
      haltReq := (t.setF a f n).haltReq, haltOn := (t.setF a f n).haltOn } := halting_frame h

theorem vstat_of_rd {k : Nat} (h : t.rd (R.VSQ_STAT k) = s.rd (R.VSQ_STAT k)) : t.vstat k = s.vstat k := fld_congr h _

theorem active_of_rd {k : Nat} (h : t.rd (R.VSQ_STAT k) = s.rd (R.VSQ_STAT k)) : t.active k = s.active k := by
  rw [State.active, vstat_of_rd h, State.active]

theorem inactive_of_six {k : Nat} (h : s.vstat k = 6) : s.active k = false := by
  rw [State.active, h]
  rfl

theorem vsqStat_ne (k : Fin 24) : R.VSQ_STAT k ≠ R.TSY_CAUSE ∧ (∀ q, q < 12 → R.VSQ_STAT k ≠ R.TSY_PORT_STAT q) ∧
    ∀ g : Fin 24, R.VSQ_STAT k ≠ R.VSQ_CAUSE g ∧ R.VSQ_STAT k ≠ R.VSQ_FAULT g ∧ R.VSQ_STAT k ≠ R.FCU_STAT g ∧ R.VSQ_STAT k ≠ R.CH_GSTAT g ∧
      (k ≠ g → R.VSQ_STAT k ≠ R.VSQ_STAT g) := by
  have hk := k.isLt
  unfold R.VSQ_STAT R.TSY_CAUSE R.TSY_PORT_STAT R.VSQ_CAUSE R.VSQ_FAULT R.FCU_STAT R.CH_GSTAT vsqBase fcuBase tsyBase packageBase dieBase
  refine ⟨by omega, fun q hq => by omega, fun g => ?_⟩
  have hg := g.isLt
  refine ⟨by omega, by omega, by omega, by omega, fun h => ?_⟩
  have hne : k.val ≠ g.val := fun e => h (Fin.ext e)
  omega

namespace Halting

theorem refl (s : State) : Halting s s := ⟨rfl, fun _ _ => rfl, fun _ h => h⟩

theorem modG {f : Group → Group} (h : Halting s t) : Halting s (t.modG g f) := ⟨halting_frame h.frame, h.regs, h.act⟩

theorem modPort {p : Fin 12} {f : Tether → Tether} (h : Halting s t) : Halting s (t.modPort p f) := ⟨halting_frame h.frame, h.regs, h.act⟩

theorem at_ {n : Nat} (h : Halting s t) : Halting s (t.at_ n) := ⟨halting_frame h.frame, h.regs, h.act⟩

/-- A register other than a group's state. -/
theorem wr {a : Nat} {v : Word} (h : Halting s t) (ha : HaltReg a) (hs : ∀ k : Fin 24, R.VSQ_STAT k ≠ a) : Halting s (t.wr a v) := by
  refine ⟨halting_frame h.frame, fun b hb => ?_, fun k hk => h.act k ?_⟩
  · rw [State.wr_rd_other _ _ _ _ (by rintro rfl; exact hb ha), h.regs b hb]
  · rwa [active_of_rd (State.wr_rd_other _ _ _ _ (hs k))] at hk

theorem setF {a n : Nat} {f : Fld} (h : Halting s t) (ha : HaltReg a) (hs : ∀ k : Fin 24, R.VSQ_STAT k ≠ a) : Halting s (t.setF a f n) := h.wr ha hs

/-- A group that shows its fault. -/
theorem toSix (h : Halting s t) : Halting s (t.setF (R.VSQ_STAT g) F.VSQ_STAT_STATE 6) := by
  have hreg : HaltReg (R.VSQ_STAT g) := .inl ⟨g, .inl rfl⟩
  refine ⟨halting_setF h.frame _ _ _, fun b hb => ?_, fun k hk => h.act k ?_⟩
  · rw [State.setF_rd_other _ _ _ _ _ (by rintro rfl; exact hb hreg), h.regs b hb]
  · by_cases hkg : k = g
    · rw [hkg, inactive_of_six (vstat_setStat (by decide))] at hk
      cases hk
    · rwa [active_of_rd (State.setF_rd_other _ _ _ _ _ ((vsqStat_ne k).2.2 g |>.2.2.2.2 hkg))] at hk

theorem setFault {code : Nat} {l : Loc} (h : Halting s t) : Halting s (t.setFault g code l) :=
  (h.wr (.inl ⟨g, .inr (.inr (.inl rfl))⟩) fun k => ((vsqStat_ne k).2.2 g).2.1).setF (.inl ⟨g, .inr (.inl rfl)⟩) fun k => ((vsqStat_ne k).2.2 g).1

theorem tellGang {n k : Nat} (h : Halting s t) : Halting s (t.tellGang g n k) := by
  unfold State.tellGang
  split
  · have hm : Halting s (Sys2Proof.forEach ((t.members g).filter (fun m => m != g && t.active m)) (fun m s =>
        s.modG m (fun x => { x with lostAt := some (match x.lostAt with
          | none => n + t.latency g true
          | some u => min u (n + t.latency g true)) })) t) := forEach_induct h fun _ _ _ hu => hu.modG
    dsimp only
    split
    · unfold State.sendLost State.sendDown State.sendUp State.toPort
      dsimp only
      split <;> exact forEach_induct hm fun _ _ _ hu => hu.modPort
    · exact hm
  · exact h

theorem fcu {f : Fld} {b : Bool} (h : Halting s t) : Halting s (t.setB (R.FCU_STAT g) f b) :=
  h.setF (.inl ⟨g, .inr (.inr (.inr (.inl rfl)))⟩) fun k => ((vsqStat_ne k).2.2 g).2.2.1

theorem judgeSig {b : Bool} (h : Halting s t) : Halting s (t.judgeSig g b) := by
  unfold State.judgeSig
  exact h.fcu.fcu.fcu

theorem emptyFd (h : Halting s t) : Halting s (t.emptyFd g) := by
  unfold State.emptyFd State.showFd
  exact h.modG.setF (.inl ⟨g, .inr (.inr (.inr (.inr rfl)))⟩) fun k => ((vsqStat_ne k).2.2 g).2.2.2.1

theorem endQuiet {code n : Nat} {l : Loc} (h : Halting s t) (hc : code ≠ 0) : Halting s (t.endQuiet g 6 code l n) := by
  have hidle : Halting s ((t.at_ n).idleAt g n) := by
    unfold State.idleAt
    exact h.at_.modG
  have hended : ((t.at_ n).idleAt g n |>.emptyFd g).ended g 6 code l =
      (((t.at_ n).idleAt g n |>.emptyFd g).setF (R.VSQ_STAT g) F.VSQ_STAT_STATE 6).setFault g code l := if_neg hc
  rw [endQuiet_eq, hended]
  exact hidle.emptyFd.toSix.setFault.judgeSig.modG

theorem stopNow {code : Nat} (h : Halting s t) (hc : code ≠ 0) : Halting s (t.stopNow g 6 code) := by
  rw [State.stopNow, stopQuiet_eq]
  refine tellGang ?_
  split
  · exact h.toSix.setFault
  · exact h.endQuiet hc

theorem portDown {q : Nat} (h : Halting s t) (hq : q < 12) : Halting s (t.portDown q) := by
  rw [portDown_eq]
  have hport : Halting s (t.setPstate q 0) := h.setF (.inr (.inr ⟨q, hq, rfl⟩)) fun k => (vsqStat_ne k).2.1 q hq
  split
  · exact hport.setF (.inr (.inl rfl)) fun k => (vsqStat_ne k).1
  · exact hport

end Halting

theorem stopNow_inactive {code : Nat} (hc : code < 256) : (s.stopNow g 6 code).active g = false := inactive_of_six (stopNow_shows hc).stat

theorem inactive_later (h : ∀ k : Fin 24, t.active k = true → s.active k = true) {k : Fin 24} (hk : s.active k = false) : t.active k = false := by
  cases ht : t.active k with
  | false => rfl
  | true => exact absurd ((h k ht).symm.trans hk) nofun

/-- Groups that stop one after the other. -/
theorem stopEach {f : Fin 24 → State → State} (l : List (Fin 24)) (hf : ∀ g y, Halting s y → Halting s (f g y))
    (hstep : ∀ g y, Halting y (f g y)) (hoff : ∀ g y, (f g y).active g = false) (h : Halting s t) :
    Halting s (forEach l f t) ∧ ∀ g ∈ l, (forEach l f t).active g = false :=
  forEach_each (P := Halting s) (Q := fun (g : Fin 24) y => y.active g = false) l h (fun g y hy => ⟨hf g y hy, hoff g y⟩)
    fun _ r y _ hp => inactive_later (hstep r y).act hp

/-! ### Dies halt -/

/-- A group that runs stops. -/
def State.stopActive (code : Nat) (g : Fin 24) (s : State) : State := if s.active g then s.stopNow g 6 code else s

theorem Halting.stopActive {code : Nat} (hc : code ≠ 0) (h : Halting s t) : Halting s (State.stopActive code g t) := by
  unfold State.stopActive
  split
  · exact h.stopNow hc
  · exact h

theorem stopActive_inactive {code : Nat} (hc : code < 256) : (State.stopActive code g s).active g = false := by
  unfold State.stopActive
  split
  · exact stopNow_inactive hc
  · exact Bool.eq_false_iff.mpr ‹_›

section Codes
variable {code : Nat} (hc : code ≠ 0) (hlt : code < 256)
include hc hlt

theorem stopGroups (l : List (Fin 24)) (h : Halting s t) : Halting s (forEach l (State.stopActive code) t) ∧
    ∀ g ∈ l, (forEach l (State.stopActive code) t).active g = false :=
  stopEach l (fun _ _ hy => hy.stopActive hc) (fun _ _ => (Halting.refl _).stopActive hc) (fun _ _ => stopActive_inactive hlt) h

end Codes

/-- A die has halted: its groups have stopped and its ports are down. -/
structure DieHalted (d : Fin 6) (t : State) : Prop where
  on : t.haltOn[d] = true
  groups : ∀ g ∈ groupsOf d, t.active g = false
  even : t.pstate (2 * d.val) = 0
  odd : t.pstate (2 * d.val + 1) = 0

theorem halting_haltOn (h : Halting s t) {c : Vector Bool 6} : Halting s { t with haltOn := c } := ⟨halting_frame h.frame, h.regs, h.act⟩
theorem halting_haltReq (h : Halting s t) {b : Bool} : Halting s { t with haltReq := b } := ⟨halting_frame h.frame, h.regs, h.act⟩

/-- Stopping a group leaves which dies are halted. -/
theorem stopGroups_haltOn {f : Fin 24 → State → State} (l : List (Fin 24)) (hf : ∀ g y, (f g y).haltOn = y.haltOn) :
    (forEach l f s).haltOn = s.haltOn :=
  forEach_induct (P := fun y : State => y.haltOn = s.haltOn) rfl fun g _ y hy => (hf g y).trans hy

theorem tellGang_haltOn (n k : Nat) : (s.tellGang g n k).haltOn = s.haltOn := by
  have hg : ∀ (l : List (Fin 24)) (f : Group → Group), (Sys2Proof.forEach l (fun m s => s.modG m f) s).haltOn = s.haltOn := fun l f =>
    forEach_induct (P := fun y : State => y.haltOn = s.haltOn) rfl fun _ _ _ hu => hu
  unfold State.tellGang
  split
  · dsimp only
    split
    · unfold State.sendLost State.sendDown State.sendUp State.toPort
      dsimp only
      split <;> exact forEach_induct (P := fun y : State => y.haltOn = s.haltOn) (hg _ _) fun _ _ _ hu => hu
    · exact hg _ _
  · rfl

theorem setF_haltOn (a n : Nat) (f : Fld) : (s.setF a f n).haltOn = s.haltOn := (rfl)
theorem modG_haltOn (f : Group → Group) : (s.modG g f).haltOn = s.haltOn := (rfl)
theorem wr_haltOn (a : Nat) (v : Word) : (s.wr a v).haltOn = s.haltOn := (rfl)
theorem at_haltOn (n : Nat) : (s.at_ n).haltOn = s.haltOn := (rfl)

theorem setFault_haltOn (code : Nat) (l : Loc) : (s.setFault g code l).haltOn = s.haltOn := by
  unfold State.setFault
  dsimp only
  rw [State.raise_eq, setF_haltOn, wr_haltOn]

theorem judgeSig_haltOn (b : Bool) : (s.judgeSig g b).haltOn = s.haltOn := by
  unfold State.judgeSig
  dsimp only
  rw [State.setB_eq, setF_haltOn, State.setB_eq, setF_haltOn, State.setB_eq, setF_haltOn]

theorem emptyFd_haltOn : (s.emptyFd g).haltOn = s.haltOn := by
  rw [State.emptyFd, State.showFd, setF_haltOn, modG_haltOn]

theorem ended_haltOn (st code : Nat) (l : Loc) : (s.ended g st code l).haltOn = s.haltOn := by
  unfold State.ended
  dsimp only
  split <;> split <;> simp only [setFault_haltOn, State.raise_eq, setF_haltOn]

theorem stopNow_haltOn (st code : Nat) : (s.stopNow g st code).haltOn = s.haltOn := by
  rw [State.stopNow, tellGang_haltOn, stopQuiet_eq]
  split
  · rw [State.stopArmed, setFault_haltOn, setF_haltOn]
  · rw [endQuiet_eq, modG_haltOn, judgeSig_haltOn, ended_haltOn, emptyFd_haltOn, State.idleAt, modG_haltOn, at_haltOn]

theorem portDown_haltOn (q : Nat) : (s.portDown q).haltOn = s.haltOn := by
  rw [portDown_eq]
  split
  · rw [setF_haltOn, State.setPstate, setF_haltOn]
  · rw [State.setPstate, setF_haltOn]

/-- The end of a die's halt: its two ports go down. -/
theorem portsDown_halted (hon : s.haltOn[d] = true) (hg : ∀ g ∈ groupsOf d, s.active g = false) (h : Halting u s) :
    Halting u ((s.portDown (2 * d.val)).portDown (2 * d.val + 1)) ∧ DieHalted d ((s.portDown (2 * d.val)).portDown (2 * d.val + 1)) := by
  have hd := d.isLt
  have h1 : Halting s ((s.portDown (2 * d.val)).portDown (2 * d.val + 1)) := ((Halting.refl s).portDown (by omega)).portDown (by omega)
  refine ⟨(h.portDown (by omega)).portDown (by omega), ?_, fun g hm => inactive_later h1.act (hg g hm), ?_, portDown_same _ _⟩
  · rw [portDown_haltOn, portDown_haltOn, hon]
  · rw [portDown_other _ (by omega), portDown_same]

/-- A group that another command stops, as DieHalted's invariant needs it. -/
theorem haltDie_eq (code : Nat) : s.haltDie code d =
    ((forEach (groupsOf d) (State.stopActive code) { s with haltOn := s.haltOn.set d true }).portDown (2 * d.val)).portDown (2 * d.val + 1) := rfl

theorem stopActive_haltOn (code : Nat) (g : Fin 24) (s : State) : (State.stopActive code g s).haltOn = s.haltOn := by
  unfold State.stopActive
  split
  · exact stopNow_haltOn _ _
  · rfl

theorem haltDie_halted {code : Nat} (hc : code ≠ 0) (hlt : code < 256) (h : Halting u s) : Halting u (s.haltDie code d) ∧
    DieHalted d (s.haltDie code d) := by
  rw [haltDie_eq]
  obtain ⟨hstop, hoff⟩ := stopGroups hc hlt (groupsOf d) (halting_haltOn (c := s.haltOn.set d true) h)
  refine portsDown_halted ?_ hoff hstop
  rw [stopGroups_haltOn _ (stopActive_haltOn code)]
  exact Vector.getElem_set_self _

/-! ### Every die halts -/

/-- What a halt of the whole device leaves. -/
structure AllHalted (s t : State) : Prop where
  frame : t = { s with
    now := t.now, regs := t.regs, grp := t.grp, tsy := t.tsy, haltReq := t.haltReq, haltOn := t.haltOn, vault := t.vault,
    keeper := t.keeper, cfg := t.cfg }
  regs : ∀ a, ¬ HaltReg a → a ≠ R.VLT_CAUSE 0 → t.rd a = s.rd a
  keeper : t.keeper = { s.keeper with nonceTap := none, nonceBox := none, thermos := none }
  keys : ∀ v, (t.v v).keys = []
  on : ∀ d : Fin 6, t.haltOn[d] = true
  groups : ∀ g : Fin 24, t.active g = false

/-- A die that halts leaves the others halted. -/
theorem haltDie_on {code : Nat} (e : Fin 6) : (s.haltDie code d).haltOn[e] = if e = d then true else s.haltOn[e] := by
  rw [haltDie_eq, portDown_haltOn, portDown_haltOn, stopGroups_haltOn _ (stopActive_haltOn code)]
  by_cases h : e = d
  · rw [if_pos h, h]
    exact Vector.getElem_set_self _
  · rw [if_neg h]
    exact Vector.getElem_set_ne d.isLt e.isLt fun k => h (Fin.ext k.symm)

/-- What the whole halt relies on of a die that has halted. -/
def Quiet1 (d : Fin 6) (t : State) : Prop := t.haltOn[d] = true ∧ ∀ g ∈ groupsOf d, t.active g = false

theorem haltDies {code : Nat} (hc : code ≠ 0) (hlt : code < 256) (h : Halting u s) :
    Halting u (forEach (List.finRange 6) (fun d s => s.haltDie code d) s) ∧
    ∀ d ∈ List.finRange 6, Quiet1 d (forEach (List.finRange 6) (fun d s => s.haltDie code d) s) :=
  forEach_each (P := Halting u) (Q := Quiet1) (List.finRange 6) h
    (fun d y hy => by
      obtain ⟨hhalt, hon, hg, -⟩ := haltDie_halted (d := d) hc hlt hy
      exact ⟨hhalt, hon, hg⟩)
    fun e d y _ ⟨hon, hg⟩ => by
      refine ⟨?_, fun g hm => inactive_later (haltDie_halted (d := d) hc hlt (Halting.refl y)).1.act (hg g hm)⟩
      rw [haltDie_on]
      split
      · rfl
      · exact hon

theorem mem_groupsOf (g : Fin 24) : g ∈ groupsOf (dieOf g) := by
  have hg := g.isLt
  unfold groupsOf dieOf
  simp only [List.mem_cons, Fin.ext_iff, List.not_mem_nil, or_false]
  omega

/-- The dies halted, before any key goes. -/
def State.haltEvery (s : State) (code : Nat) : State :=
  forEach (List.finRange 6) (fun d s => s.haltDie code d) { s with haltReq := true }

theorem haltEvery_spec {code : Nat} (hc : code ≠ 0) (hlt : code < 256) : Halting s (s.haltEvery code) ∧
    (∀ d : Fin 6, (s.haltEvery code).haltOn[d] = true) ∧ ∀ g : Fin 24, (s.haltEvery code).active g = false := by
  obtain ⟨hhalt, hall⟩ := haltDies hc hlt (halting_haltReq (b := true) (Halting.refl s))
  exact ⟨hhalt, fun d => (hall d (List.mem_finRange d)).1, fun g => (hall (dieOf g) (List.mem_finRange _)).2 g (mem_groupsOf g)⟩

theorem zeroKeys_frame (h : Halting s t) : let v := t.zeroKeys
    v = { s with
      now := v.now, regs := v.regs, grp := v.grp, tsy := v.tsy, haltReq := v.haltReq, haltOn := v.haltOn, vault := v.vault,
      keeper := v.keeper, cfg := v.cfg } ∧ v.regs = t.regs ∧ v.haltOn = t.haltOn ∧
    v.keeper = { s.keeper with nonceTap := none, nonceBox := none, thermos := none } ∧ ∀ k, (v.v k).keys = [] := by
  obtain ⟨hf, hk, hkeys⟩ := zeroKeys_gone t
  have hframe := h.frame
  have hkeeper : t.keeper = s.keeper := by rw [hframe]
  dsimp only
  generalize t.zeroKeys = v at hf hk hkeys ⊢
  refine ⟨?_, by rw [hf], by rw [hf], by rw [hk, hkeeper], hkeys⟩
  rw [hf, hframe]

theorem raise_all_frame (h : t = { s with
      now := t.now, regs := t.regs, grp := t.grp, tsy := t.tsy, haltReq := t.haltReq, haltOn := t.haltOn, vault := t.vault,
      keeper := t.keeper, cfg := t.cfg }) (l : Sparse Word) : ({ t with regs := l } : State) = { s with
      now := t.now, regs := l, grp := t.grp, tsy := t.tsy, haltReq := t.haltReq, haltOn := t.haltOn, vault := t.vault,
      keeper := t.keeper, cfg := t.cfg } := by rw [h]

theorem setF_all_frame (h : t = { s with
      now := t.now, regs := t.regs, grp := t.grp, tsy := t.tsy, haltReq := t.haltReq, haltOn := t.haltOn, vault := t.vault,
      keeper := t.keeper, cfg := t.cfg }) (a n : Nat) (f : Fld) : let v := t.setF a f n
    v = { s with
      now := v.now, regs := v.regs, grp := v.grp, tsy := v.tsy, haltReq := v.haltReq, haltOn := v.haltOn, vault := v.vault,
      keeper := v.keeper, cfg := v.cfg } := raise_all_frame h _

theorem setF_keeper (a n : Nat) (f : Fld) : (s.setF a f n).keeper = s.keeper := (rfl)
theorem setF_v (a n : Nat) (f : Fld) (v : Fin 64) : (s.setF a f n).v v = s.v v := (rfl)

theorem haltAll_halted {code : Nat} (hc : code ≠ 0) (hlt : code < 256) : AllHalted s (s.haltAll code) ∧
    (s.haltAll code).flag (R.VLT_CAUSE 0) F.VLT_CAUSE_HALT = true := by
  obtain ⟨hhalt, hon, hoff⟩ := haltEvery_spec (s := s) hc hlt
  obtain ⟨hframe, hregs, hhon, hkeeper, hkeys⟩ := zeroKeys_frame hhalt
  have heq : s.haltAll code = (s.haltEvery code).zeroKeys.setF (R.VLT_CAUSE 0) F.VLT_CAUSE_HALT 1 := by
    rw [← State.raise_eq]
    rfl
  have hrd : ∀ a, (s.haltEvery code).zeroKeys.rd a = (s.haltEvery code).rd a := fun a => by rw [State.rd, hregs, State.rd]
  have hvlt : ∀ k : Fin 24, R.VSQ_STAT k ≠ R.VLT_CAUSE 0 := fun k => by
    have hk := k.isLt
    unfold R.VSQ_STAT R.VLT_CAUSE vsqBase vltBase dieBase
    omega
  rw [heq]
  generalize (s.haltEvery code).zeroKeys = v at hframe hhon hkeeper hkeys hrd
  refine ⟨⟨setF_all_frame hframe _ _ _, fun a ha hne => ?_, by rw [setF_keeper, hkeeper], fun k => by rw [setF_v, hkeys], fun d => ?_, fun g => ?_⟩, ?_⟩
  · rw [State.setF_rd_other _ _ _ _ _ hne, hrd, hhalt.regs a ha]
  · rw [setF_haltOn, hhon, hon]
  · rw [active_of_rd (State.setF_rd_other _ _ _ _ _ (hvlt g)), active_of_rd (hrd _), hoff]
  · rw [← State.raise_eq]
    exact State.raise_flag _ _ _ (by decide) rfl

end Sys2Proof.Machine
end

section
/-! A group number that no group has: `active` of 24 reads a register that nothing writes, so that no halt makes it false. -/
namespace Sys2Proof.Machine
variable {s t u : State} {a : Nat}

/-- The register that shows RUN of a group 24, which the device does not have (00 R8). -/
def strayStat : Nat := R.VSQ_STAT 24

theorem stray_not_halt : ¬ HaltReg strayStat ∧ strayStat ≠ R.VLT_CAUSE 0 := by
  unfold HaltReg StopReg strayStat R.VSQ_STAT R.VSQ_CAUSE R.VSQ_FAULT R.FCU_STAT R.CH_GSTAT R.TSY_CAUSE R.TSY_PORT_STAT R.VLT_CAUSE vsqBase fcuBase
    vltBase tsyBase packageBase dieBase
  refine ⟨?_, by omega⟩
  rintro (⟨g, h⟩ | h | ⟨q, hq, h⟩)
  · have hg := g.isLt
    omega
  · omega
  · omega

theorem stray_kept {code : Nat} (hc : code ≠ 0) (hlt : code < 256) : (s.haltAll code).rd strayStat = s.rd strayStat :=
  (haltAll_halted hc hlt).1.regs _ stray_not_halt.1 stray_not_halt.2

theorem stray_ne : strayStat ≠ R.KPR_CAUSE ∧ strayStat ≠ R.KPR_MBOX_STAT ∧ (∀ i, i < 64 → strayStat ≠ R.KPR_MBOX_DATA i) ∧ strayStat ≠ R.CFG_STAT 0 ∧
    strayStat ≠ R.BIST_CAUSE 0 ∧ (∀ d : Fin 6, strayStat ≠ R.BIST_CAUSE d ∧ strayStat ≠ R.BIST_STAT d ∧ strayStat ≠ R.BIST_FAILINFO d ∧
      strayStat ≠ R.BIST_HOLD_LO d ∧ strayStat ≠ R.BIST_HOLD_HI d) ∧ strayStat ≠ R.DCR_CLKSTAT 0 ∧ strayStat ≠ R.DCR_EVT 0 := by
  unfold strayStat R.VSQ_STAT R.KPR_CAUSE R.KPR_MBOX_STAT R.KPR_MBOX_DATA R.CFG_STAT R.BIST_CAUSE R.BIST_STAT R.BIST_FAILINFO R.BIST_HOLD_LO
    R.BIST_HOLD_HI R.DCR_CLKSTAT R.DCR_EVT vsqBase kprBase cfgBase bistBase dcrBase packageBase dieBase
  refine ⟨?_, ?_, fun i hi => ?_, ?_, ?_, fun d => ?_, ?_, ?_⟩ <;> omega

/-- A state whose stray register shows RUN. -/
def strayState : State := State.reset.wr strayStat 2

theorem active_of_stray (h : t.rd strayStat = 2) : t.active 24 = true := by
  rw [State.active, State.vstat, State.fld, show R.VSQ_STAT 24 = strayStat from rfl, h]
  rfl

theorem strayState_rd : strayState.rd strayStat = 2 := State.wr_rd_same _ _ _

/-! ### The device's safe state (17 R560) -/

theorem power_rd (x : Power) (a : Nat) : ({ s with power := x } : State).rd a = s.rd a := (rfl)
theorem modKeeper_rd (f : Keeper → Keeper) (a : Nat) : (s.modKeeper f).rd a = s.rd a := (rfl)

theorem safeState_stray : s.safeState.rd strayStat = s.rd strayStat := by
  obtain ⟨-, -, -, hcfg, hcause, -⟩ := stray_ne
  unfold State.safeState
  dsimp only
  rw [power_rd, State.raise_eq, State.setF_rd_other _ _ _ _ _ hcause, State.setB_eq, State.setF_rd_other _ _ _ _ _ hcfg, stray_kept (by decide) (by decide)]

/-- Refutes O55: a loss of die 0's PLL stops every group that there is, but the clause names every number, and the register that a
group 24 would have keeps what it held. -/
theorem not_resetsClearTheirScope : ¬ Obligations.ResetsClearTheirScope := by
  intro h
  obtain ⟨-, -, -, -, -, -, -, -, -, -, -, hpll, -⟩ := h strayState 0 []
  obtain ⟨t, ht, -, -, hoff, -⟩ := hpll 0
  obtain ⟨-, -, -, -, -, -, hclk, hevt⟩ := stray_ne
  have hrd : t.rd strayStat = 2 := by
    rw [← Host.Outcome.next.inj ht, safeState_stray, State.raise_eq, State.setF_rd_other _ _ _ _ _ hevt, State.setF_rd_other _ _ _ _ _ hclk,
      State.setF_rd_other _ _ _ _ _ hclk, strayState_rd]
  exact absurd ((active_of_stray hrd).symm.trans (hoff 24)) nofun

/-! ### ZEROISE (16 R547) -/

theorem mboxDone_stray {r : KprAns} : (s.mboxDone r).rd strayStat = r.st.rd strayStat := by
  obtain ⟨hcause, hstat, hdata, -⟩ := stray_ne
  unfold State.mboxDone
  dsimp only
  rw [State.kprCause, State.raise_eq, State.setF_rd_other _ _ _ _ _ hcause, modKeeper_rd]
  generalize R.KPR_MBOX_STAT = b at hstat
  have hwr : (r.st.wr b (BitVec.ofNat 32 (256 * r.code + 65536 * r.out.length))).rd strayStat = r.st.rd strayStat := State.wr_rd_other _ _ _ _ hstat
  exact forEach_induct (P := fun t : State => t.rd strayStat = r.st.rd strayStat) hwr fun i hi t ht =>
    (State.wr_rd_other _ _ _ _ (hdata i (List.mem_range.mp hi))).trans ht

/-- A state in which ZEROISE is about to end. -/
def zeroising : State := { strayState with keeper := { strayState.keeper with cmd := some (6, 0) } }

/-- Refutes O48: ZEROISE stops every group that there is, but the clause names every number, and the register that a group 24
would have keeps what it held. -/
theorem not_keeperCommandsRunInTheMailbox : ¬ Obligations.KeeperCommandsRunInTheMailbox := by
  intro h
  obtain ⟨-, -, hcmd⟩ := h zeroising 0 0 false false []
  obtain ⟨-, -, -, -, -, -, -, hzero, -⟩ := hcmd 6 0 rfl
  obtain ⟨t, ht, -, -, -, -, -, -, -, -, -, -, -, -, hoff⟩ := hzero rfl rfl
  have hrd : t.rd strayStat = 2 := by
    rw [← Host.Outcome.next.inj ht]
    rw [stray_kept (by decide) (by decide), State.kprCause, State.raise_eq, State.setF_rd_other _ _ _ _ _ stray_ne.1, mboxDone_stray]
    exact strayState_rd
  exact absurd ((active_of_stray hrd).symm.trans (hoff 24)) nofun

/-! ### A slice of the keeper that fails (17 R560) -/

theorem setBist_rd (d : Fin 6) (x : Bist) (a : Nat) : (s.setBist d x).rd a = s.rd a := (rfl)

theorem safeOf_package {d : Fin 6} {t seg : Nat} (h : 0x20 ≤ t) : s.safeOf d t seg = s.safeState := by
  unfold State.safeOf
  rw [if_neg (by omega), if_neg (by omega), if_neg (by omega), if_neg (by omega), if_pos h]

theorem sliceFail_stray {t seg : Nat} {r : SliceResult} (h : 0x20 ≤ t) : (s.sliceFail 0 t seg r).rd strayStat = s.rd strayStat := by
  obtain ⟨hcause, hstat, hinfo, hlo, hhi⟩ := stray_ne.2.2.2.2.2.1 (0 : Fin 6)
  unfold State.sliceFail
  dsimp only
  rw [safeOf_package h, safeState_stray, State.setB_eq, State.setF_rd_other _ _ _ _ _ hstat, setBist_rd, if_neg (by simp; omega), State.setHold,
    wrPair_rd_other hlo hhi, State.raise_eq, State.setF_rd_other _ _ _ _ _ hcause, State.wr_rd_other _ _ _ _ hinfo]

/-- A slice of a target of the package is under way. -/
def keeperSlice : State := strayState.setBist 0 { strayState.bist[(0 : Fin 6)] with run := some (0x21, 0, 0) }

theorem keeperSlice_run : keeperSlice.bist[(0 : Fin 6)].run = some (0x21, 0, 0) :=
  congrArg Bist.run (Vector.getElem_set_self _)

theorem keeperSlice_eligible : keeperSlice.eligible 0 0x21 = true := by decide +kernel

/-- Refutes O50: a slice of the keeper that fails stops every group that there is, but the clause names every number, and the
register that a group 24 would have keeps what it held. -/
theorem not_slicesStartEndAndFail : ¬ Obligations.SlicesStartEndAndFail := by
  intro h
  obtain ⟨-, -, -, -, -, hrun, -⟩ := h keeperSlice 0
  obtain ⟨-, -, hend⟩ := hrun 0x21 0 0 keeperSlice_run
  obtain ⟨-, hfail, -⟩ := hend keeperSlice_eligible
  obtain ⟨t, ht, -, -, -, -, -, -, -, -, -, hsafe⟩ := hfail .compare (by decide) (by decide) (by decide)
  obtain ⟨-, -, hoff, -⟩ := hsafe (by decide)
  obtain ⟨-, hstat, -⟩ := stray_ne.2.2.2.2.2.1 (0 : Fin 6)
  have he : exec (.sliceEnd 0 .compare 0) keeperSlice = .next ((keeperSlice.sliceOver 0).sliceFail 0 0x21 0 .compare) := by
    show execSliceEnd 0 .compare 0 keeperSlice = _
    rw [execSliceEnd, keeperSlice_run]
    exact (if_neg (by rw [keeperSlice_eligible]; decide)).trans rfl
  have hrd : t.rd strayStat = 2 := by
    rw [← Host.Outcome.next.inj (he.symm.trans ht)]
    rw [sliceFail_stray (by decide), State.sliceOver, State.setB_eq, State.setF_rd_other _ _ _ _ _ hstat, setBist_rd]
    exact strayState_rd
  exact absurd ((active_of_stray hrd).symm.trans (hoff 24)) nofun

end Sys2Proof.Machine
end

section
/-! Vaults are enabled, disabled and rekeyed (13_vaults.md R451, R466 to R473). -/
namespace Sys2Proof.Machine
variable {s t u : State} {v : Fin 64}

/-! ### What a command of a vault writes -/

theorem vlt_ne (v : Fin 64) : R.VLT_V_CTRL 0 v ≠ R.VLT_V_STAT 0 v ∧ R.VLT_V_CTRL 0 v ≠ R.VLT_CAUSE 0 ∧ R.VLT_V_STAT 0 v ≠ R.VLT_CAUSE 0 := by
  unfold R.VLT_V_CTRL R.VLT_V_STAT R.VLT_CAUSE
  omega

theorem vlt_pairs_ne (v : Fin 64) : ∀ a ∈ [R.VLT_V_RKPTR_LO 0 v, R.VLT_V_RKPTR_HI 0 v],
    R.VLT_V_CTRL 0 v ≠ a ∧ R.VLT_V_STAT 0 v ≠ a ∧ R.VLT_CAUSE 0 ≠ a ∧ R.VLT_V_WCNT_LO 0 v ≠ a ∧ R.VLT_V_WCNT_HI 0 v ≠ a := by
  unfold R.VLT_V_CTRL R.VLT_V_STAT R.VLT_CAUSE R.VLT_V_RKPTR_LO R.VLT_V_RKPTR_HI R.VLT_V_WCNT_LO R.VLT_V_WCNT_HI
  simp only [List.mem_cons, List.not_mem_nil, or_false]
  omega

theorem vlt_wcnt_ne (v : Fin 64) : ∀ a ∈ [R.VLT_V_WCNT_LO 0 v, R.VLT_V_WCNT_HI 0 v],
    R.VLT_V_CTRL 0 v ≠ a ∧ R.VLT_V_STAT 0 v ≠ a ∧ a ≠ R.VLT_V_STAT 0 v := by
  unfold R.VLT_V_CTRL R.VLT_V_STAT R.VLT_V_WCNT_LO R.VLT_V_WCNT_HI
  simp only [List.mem_cons, List.not_mem_nil, or_false]
  omega

/-- The registers that the commands and the engine of a vault write. -/
def vaultRegs (v : Fin 64) : List Nat := [R.VLT_V_CTRL 0 v, R.VLT_V_STAT 0 v, R.VLT_CAUSE 0, R.VLT_V_RKPTR_LO 0 v, R.VLT_V_RKPTR_HI 0 v,
  R.VLT_V_WCNT_LO 0 v, R.VLT_V_WCNT_HI 0 v]

/-- What the keys and the extent of a vault come from is none of them. -/
theorem not_vaultRegs (v : Fin 64) : ∀ a ∈ [R.VLT_V_BASE 0 v, R.VLT_V_SIZE 0 v, R.VLT_V_SALT 0 v, R.KPR_STAT], a ∉ vaultRegs v := by
  unfold vaultRegs R.VLT_V_CTRL R.VLT_V_STAT R.VLT_CAUSE R.VLT_V_RKPTR_LO R.VLT_V_RKPTR_HI R.VLT_V_WCNT_LO R.VLT_V_WCNT_HI R.VLT_V_BASE
    R.VLT_V_SIZE R.VLT_V_SALT R.KPR_STAT kprBase vltBase dieBase packageBase
  simp only [List.mem_cons, List.not_mem_nil, or_false]
  omega

/-- Only one vault and the registers listed differ. -/
structure OnlyVault (v : Fin 64) (as : List Nat) (s t : State) : Prop where
  frame : t = { s with regs := t.regs, vault := t.vault }
  regs : SameRegs as s t
  other : ∀ k, k ≠ v → t.v k = s.v k

theorem vault_frame (h : t = { s with regs := t.regs, vault := t.vault }) (l : Sparse Word) (x : Vector Vault 64) :
    ({ t with regs := l, vault := x } : State) = { s with regs := l, vault := x } := by rw [h]

theorem setV_rd (v : Fin 64) (x : Vault) (a : Nat) : (s.setV v x).rd a = s.rd a := (rfl)
theorem wr_v (a : Nat) (w : Word) (k : Fin 64) : (s.wr a w).v k = s.v k := (rfl)
theorem wrPair_v (a b n : Nat) (k : Fin 64) : (s.wrPair a b n).v k = s.v k := (rfl)

namespace OnlyVault
variable {as : List Nat}

theorem refl (s : State) : OnlyVault v as s s := ⟨rfl, .refl _ _, fun _ _ => rfl⟩

theorem wr {a : Nat} {w : Word} (h : OnlyVault v as s t) (ha : a ∈ as) : OnlyVault v as s (t.wr a w) :=
  ⟨vault_frame h.frame _ _, h.regs.wr ha, fun k hk => (wr_v a w k).trans (h.other k hk)⟩

theorem setF {a n : Nat} {f : Fld} (h : OnlyVault v as s t) (ha : a ∈ as) : OnlyVault v as s (t.setF a f n) := h.wr ha

theorem wrPair {a b n : Nat} (h : OnlyVault v as s t) (ha : a ∈ as) (hb : b ∈ as) : OnlyVault v as s (t.wrPair a b n) := (h.wr ha).wr hb

theorem setV {x : Vault} (h : OnlyVault v as s t) : OnlyVault v as s (t.setV v x) :=
  ⟨vault_frame h.frame _ _, fun a ha => (setV_rd v x a).trans (h.regs a ha), fun k hk => (v_setV_other hk x).trans (h.other k hk)⟩

theorem keeper (h : OnlyVault v as s t) : t.keeper = s.keeper := by rw [h.frame]

end OnlyVault

theorem deriveKeys_congr (hk : t.keeper = s.keeper) (h : t.rd R.KPR_STAT = s.rd R.KPR_STAT) (hv : t.rd (R.VLT_V_SALT 0 v) = s.rd (R.VLT_V_SALT 0 v))
    (g : Nat) : t.deriveKeys v g = s.deriveKeys v g := by
  rw [State.deriveKeys, State.keySource, fld_congr h, fld_congr h, hk, hv, State.deriveKeys, State.keySource]

theorem vctrl_congr (h : t.rd (R.VLT_V_CTRL 0 v) = s.rd (R.VLT_V_CTRL 0 v)) (f : Fld) : t.vctrl v f = s.vctrl v f := fld_congr h f

namespace OnlyVault
variable (h : OnlyVault v (vaultRegs v) s t)
include h

theorem deriveKeys (g : Nat) : t.deriveKeys v g = s.deriveKeys v g :=
  deriveKeys_congr h.keeper (h.regs _ (not_vaultRegs v _ (by simp))) (h.regs _ (not_vaultRegs v _ (by simp))) g

theorem vbase : t.vbase v = s.vbase v := by rw [State.vbase, fld_congr (h.regs _ (not_vaultRegs v _ (by simp))), State.vbase]
theorem vsize : t.vsize v = s.vsize v := by rw [State.vsize, fld_congr (h.regs _ (not_vaultRegs v _ (by simp))), State.vsize]

theorem setPtr {a : Nat} : OnlyVault v (vaultRegs v) s (t.setPtr v a) := h.setV.wrPair (by simp [vaultRegs]) (by simp [vaultRegs])
theorem setVstate {n : Nat} : OnlyVault v (vaultRegs v) s (t.setVstate v n) := h.setF (by simp [vaultRegs])
theorem vltCause {f : Fld} : OnlyVault v (vaultRegs v) s (t.vltCause f) := h.setF (by simp [vaultRegs])

end OnlyVault

theorem setPtr_v (a : Nat) : (s.setPtr v a).v v = { s.v v with ptr := a } := by
  rw [State.setPtr, wrPair_v, v_setV_same]

theorem setPtr_rd {a b : Nat} (hl : b ≠ R.VLT_V_RKPTR_LO 0 v) (hh : b ≠ R.VLT_V_RKPTR_HI 0 v) : (s.setPtr v a).rd b = s.rd b := by
  rw [State.setPtr, State.wrPair, State.wr_rd_other _ _ _ _ hh, State.wr_rd_other _ _ _ _ hl, setV_rd]

theorem setPtr_rd' {a b : Nat} (h : ∀ c ∈ [R.VLT_V_RKPTR_LO 0 v, R.VLT_V_RKPTR_HI 0 v], b ≠ c) : (s.setPtr v a).rd b = s.rd b :=
  setPtr_rd (h _ (by simp)) (h _ (by simp))

theorem setVstate_v (n : Nat) : (s.setVstate v n).v v = s.v v := (rfl)
theorem setVstate_vstate {n : Nat} (h : n < 8) : (s.setVstate v n).vstate v = n := by
  rw [State.vstate, State.setVstate]
  exact setF_fld_of_lt (by decide) h
theorem setVstate_rd (n : Nat) {a : Nat} (h : a ≠ R.VLT_V_STAT 0 v) : (s.setVstate v n).rd a = s.rd a := State.setF_rd_other _ _ _ _ _ h
theorem setVstate_pend (n : Nat) : (s.setVstate v n).flag (R.VLT_V_STAT 0 v) F.VLT_V_STAT_RKPEND = s.flag (R.VLT_V_STAT 0 v) F.VLT_V_STAT_RKPEND := by
  rw [State.flag, State.setVstate, State.setF_fld_other _ _ _ _ _ _ (.inr (by decide)), State.flag]

theorem vltCause_v (f : Fld) (k : Fin 64) : (s.vltCause f).v k = s.v k := by rw [State.vltCause, State.raise_eq, setF_v]
theorem vltCause_rd (f : Fld) {a : Nat} (h : a ≠ R.VLT_CAUSE 0) : (s.vltCause f).rd a = s.rd a := by
  rw [State.vltCause, State.raise_eq, State.setF_rd_other _ _ _ _ _ h]
theorem vstate_congr (h : t.rd (R.VLT_V_STAT 0 v) = s.rd (R.VLT_V_STAT 0 v)) : t.vstate v = s.vstate v := fld_congr h _
theorem vltCause_vstate (f : Fld) : (s.vltCause f).vstate v = s.vstate v := vstate_congr (vltCause_rd f (vlt_ne v).2.2)

/-! ### Enabling -/

theorem wrRW_vault (w : Word) : OnlyVault v (vaultRegs v) s (s.wrRW (R.VLT_V_CTRL 0 v) w) := by
  unfold State.wrRW
  split
  · exact .refl s
  · exact (OnlyVault.refl s).wr (by simp [vaultRegs])

/-- The vault's word is stored and its keys are derived. -/
def State.keyVault (s : State) (v : Fin 64) (w : Word) : State :=
  let s := s.wrRW (R.VLT_V_CTRL 0 v) w
  let gen := s.vctrl v F.VLT_V_CTRL_GEN
  s.setV v ⟨[(gen, s.deriveKeys v gen)], (s.v v).ptr, false, none⟩

theorem enableVault_eq (w : Word) : s.enableVault v w = let s := s.keyVault v w
    if s.vctrl v F.VLT_V_CTRL_ADOPT = 0 ∧ s.vctrl v F.VLT_V_CTRL_MODE ≠ 0 then
      ((s.setV v { s.v v with init := true }).setPtr v (s.vbase v)).setVstate v 1
    else s.setVstate v 2 := rfl

theorem keyVault_only (w : Word) : OnlyVault v (vaultRegs v) s (s.keyVault v w) := (wrRW_vault w).setV

theorem keyVault_keys (w : Word) : let g := (s.keyVault v w).vctrl v F.VLT_V_CTRL_GEN
    ((s.keyVault v w).v v).keys = [(g, s.deriveKeys v g)] := by
  have honly := wrRW_vault (s := s) (v := v) w
  unfold State.keyVault
  generalize s.wrRW (R.VLT_V_CTRL 0 v) w = u at honly
  dsimp only
  rw [v_setV_same, vctrl_congr (setV_rd v _ _), honly.deriveKeys]

/-- What enabling a vault leaves. -/
structure Enabled (v : Fin 64) (s t : State) : Prop where
  only : OnlyVault v (vaultRegs v) s t
  keys : (t.v v).keys = [(t.vctrl v F.VLT_V_CTRL_GEN, s.deriveKeys v (t.vctrl v F.VLT_V_CTRL_GEN))]
  state : t.vstate v = if t.vctrl v F.VLT_V_CTRL_ADOPT = 0 ∧ t.vctrl v F.VLT_V_CTRL_MODE ≠ 0 then 1 else 2
  ptr : t.vstate v = 1 → (t.v v).ptr = s.vbase v

theorem enableVault_enabled (w : Word) : Enabled v s (s.enableVault v w) := by
  have honly := keyVault_only (s := s) (v := v) w
  have hkeys := keyVault_keys (s := s) (v := v) w
  rw [enableVault_eq]
  generalize s.keyVault v w = u at honly hkeys
  have hcr := (vlt_ne v).1
  dsimp only at hkeys ⊢
  split
  case isTrue h =>
    have hc : (((u.setV v { u.v v with init := true }).setPtr v (u.vbase v)).setVstate v 1).rd (R.VLT_V_CTRL 0 v) = u.rd (R.VLT_V_CTRL 0 v) := by
      rw [setVstate_rd _ hcr, setPtr_rd' fun a ha => (vlt_pairs_ne v a ha).1, setV_rd]
    refine ⟨honly.setV.setPtr.setVstate, ?_, ?_, fun _ => ?_⟩
    · rw [vctrl_congr hc, setVstate_v, setPtr_v, v_setV_same, hkeys]
    · rw [vctrl_congr hc, vctrl_congr hc, if_pos h, setVstate_vstate (by decide)]
    · rw [setVstate_v, setPtr_v, honly.vbase]
  case isFalse h =>
    have hc : (u.setVstate v 2).rd (R.VLT_V_CTRL 0 v) = u.rd (R.VLT_V_CTRL 0 v) := setVstate_rd _ hcr
    refine ⟨honly.setVstate, ?_, ?_, fun h1 => ?_⟩
    · rw [vctrl_congr hc, setVstate_v, hkeys]
    · rw [vctrl_congr hc, vctrl_congr hc, if_neg h, setVstate_vstate (by decide)]
    · rw [setVstate_vstate (by decide)] at h1
      cases h1

theorem exec_vaultEnable {w : Word} (h : s.vctrl v F.VLT_V_CTRL_EN = 0) : exec (.vaultEnable v w) s =
    if s.enableOk v (F.VLT_V_CTRL_EN.set w 1) then
      .next (if F.VLT_V_CTRL_RKGO.get (F.VLT_V_CTRL_EN.set w 1) = 1 then (s.enableVault v (F.VLT_V_CTRL_EN.set w 1)).rkgo v
        else s.enableVault v (F.VLT_V_CTRL_EN.set w 1))
    else .next (s.vltCause F.VLT_CAUSE_CMDERR) := by
  have hen : F.VLT_V_CTRL_EN.get (F.VLT_V_CTRL_EN.set w 1) = 1 := Fld.get_set_same _ _ _ (by decide)
  show execVaultEnable v w s = _
  rw [execVaultEnable, State.vaultCtrl]
  dsimp only
  rw [if_pos h, if_pos hen]
  split <;> rfl

theorem vaultEnable_refused {w : Word} (h : s.vctrl v F.VLT_V_CTRL_EN = 0) (hok : s.enableOk v (F.VLT_V_CTRL_EN.set w 1) = false) :
    exec (.vaultEnable v w) s = .next (s.raise (R.VLT_CAUSE 0) F.VLT_CAUSE_CMDERR) := by
  rw [exec_vaultEnable h, hok]
  rfl

theorem vaultEnable_done {w : Word} (h : s.vctrl v F.VLT_V_CTRL_EN = 0) (hok : s.enableOk v (F.VLT_V_CTRL_EN.set w 1) = true)
    (hr : F.VLT_V_CTRL_RKGO.get w = 0) : exec (.vaultEnable v w) s = .next (s.enableVault v (F.VLT_V_CTRL_EN.set w 1)) := by
  have hrk : ¬ F.VLT_V_CTRL_RKGO.get (F.VLT_V_CTRL_EN.set w 1) = 1 := by
    rw [Fld.get_set_other _ _ _ _ (by decide), hr]
    decide
  rw [exec_vaultEnable h, if_pos hok, if_neg hrk]

/-! ### Disabling -/

theorem storeRights_only (w : Word) : OnlyVault v [R.VLT_V_CTRL 0 v, R.VLT_V_STAT 0 v] s (s.storeRights v w) := by
  unfold State.storeRights
  exact ((((OnlyVault.refl s).setF (by simp)).setF (by simp)).setF (by simp)).setF (by simp)

theorem vaultDisable_refused (h : s.vctrl v F.VLT_V_CTRL_EN = 1) (hb : s.vstate v = 1 ∨ s.vstate v = 3) :
    exec (.vaultDisable v) s = .next (s.raise (R.VLT_CAUSE 0) F.VLT_CAUSE_CMDERR) := by
  have hen : ¬ F.VLT_V_CTRL_EN.get (F.VLT_V_CTRL_EN.set (s.rd (R.VLT_V_CTRL 0 v)) 0) = 1 := by
    rw [Fld.get_set_same _ _ _ (by decide)]
    decide
  show execVaultDisable v s = _
  rw [execVaultDisable, State.vaultCtrl]
  dsimp only
  rw [if_neg (by rw [h]; decide), if_neg hen, if_pos hb]
  rfl

/-- A write that clears EN alone moves neither MODE nor GEN. -/
theorem vaultMoved_same : s.vaultMoved v (F.VLT_V_CTRL_EN.set (s.rd (R.VLT_V_CTRL 0 v)) 0) = s := by
  rw [State.vaultMoved, Fld.get_set_other _ _ _ _ (by decide), Fld.get_set_other _ _ _ _ (by decide), State.vctrl, State.vctrl, State.fld, State.fld]
  simp

theorem vaultDisable_eq (h : s.vctrl v F.VLT_V_CTRL_EN = 1) (h1 : s.vstate v ≠ 1) (h3 : s.vstate v ≠ 3)
    (hr : F.VLT_V_CTRL_RKGO.get (s.rd (R.VLT_V_CTRL 0 v)) = 0) : exec (.vaultDisable v) s =
    .next ((s.storeRights v (F.VLT_V_CTRL_EN.set (s.rd (R.VLT_V_CTRL 0 v)) 0)).disableVault v) := by
  have hen : ¬ F.VLT_V_CTRL_EN.get (F.VLT_V_CTRL_EN.set (s.rd (R.VLT_V_CTRL 0 v)) 0) = 1 := by
    rw [Fld.get_set_same _ _ _ (by decide)]
    decide
  have hrk : ¬ F.VLT_V_CTRL_RKGO.get (F.VLT_V_CTRL_EN.set (s.rd (R.VLT_V_CTRL 0 v)) 0) = 1 := by
    rw [Fld.get_set_other _ _ _ _ (by decide), hr]
    decide
  show execVaultDisable v s = _
  rw [execVaultDisable, State.vaultCtrl]
  dsimp only
  rw [if_neg (by rw [h]; decide), if_neg hen, if_neg (by simp [h1, h3]), if_neg hrk, vaultMoved_same]

/-- The vault leaves no key. -/
theorem disableVault_spec (u : State) : OnlyVault v [R.VLT_V_CTRL 0 v, R.VLT_V_STAT 0 v] u (u.disableVault v) ∧
    (u.disableVault v).vctrl v F.VLT_V_CTRL_EN = 0 ∧ (u.disableVault v).vstate v = 0 ∧ ((u.disableVault v).v v).keys = [] := by
  have hcs := (vlt_ne v).1
  rw [State.disableVault, State.setB_eq, State.setB_eq]
  dsimp only
  refine ⟨(((OnlyVault.refl u).setF (by simp)).setV.setF (by simp)).setF (by simp), ?_, setVstate_vstate (by decide), ?_⟩
  · rw [vctrl_congr (setVstate_rd _ hcs), vctrl_congr (State.setF_rd_other _ _ _ _ _ hcs), vctrl_congr (setV_rd v _ _), State.vctrl,
      State.setF_fld_same _ _ _ _ (by decide)]
    rfl
  · rw [setVstate_v, setF_v, v_setV_same]

theorem OnlyVault.trans {as : List Nat} (h : OnlyVault v as s t) (k : OnlyVault v as t u) : OnlyVault v as s u := by
  refine ⟨?_, h.regs.trans k.regs, fun x hx => (k.other x hx).trans (h.other x hx)⟩
  rw [k.frame]
  exact vault_frame h.frame _ _

/-! ### Rekeying -/

/-- What a rekey that starts at generation g leaves. -/
structure Rekeying (v : Fin 64) (g : Nat) (s t : State) : Prop where
  only : OnlyVault v (vaultRegs v) s t
  last : g = 65535 → t.vstate v = 5 ∧ t.flag (R.VLT_CAUSE 0) F.VLT_CAUSE_GENEND = true ∧ (t.v v).keys = (s.v v).keys
  next : g ≠ 65535 → t.vstate v = 3 ∧ (t.v v).keys = (s.v v).keys ++ [(g + 1, s.deriveKeys v (g + 1))] ∧ (t.v v).ptr = s.vbase v ∧
    t.rdPair (R.VLT_V_WCNT_LO 0 v) (R.VLT_V_WCNT_HI 0 v) = 0

/-- Nothing is due for the vault any more. -/
def State.dueGone (s : State) (v : Fin 64) : State :=
  (s.setV v { s.v v with dueAt := none }).setF (R.VLT_V_STAT 0 v) F.VLT_V_STAT_RKPEND 0

theorem startRekey_eq : s.startRekey v = if s.vctrl v F.VLT_V_CTRL_GEN = 65535 then ((s.dueGone v).setVstate v 5).vltCause F.VLT_CAUSE_GENEND
    else
      let g := s.vctrl v F.VLT_V_CTRL_GEN
      let s := (s.dueGone v).wrPair (R.VLT_V_WCNT_LO 0 v) (R.VLT_V_WCNT_HI 0 v) 0
      let s := s.setV v { s.v v with keys := (s.v v).keys ++ [(g + 1, s.deriveKeys v (g + 1))], init := false }
      (s.setPtr v (s.vbase v)).setVstate v 3 := by
  rw [State.startRekey, State.setB_eq]
  rfl

theorem dueGone_only : OnlyVault v (vaultRegs v) s (s.dueGone v) := (OnlyVault.refl s).setV.setF (by simp [vaultRegs])
theorem dueGone_keys : ((s.dueGone v).v v).keys = (s.v v).keys := by rw [State.dueGone, setF_v, v_setV_same]

theorem startRekey_rekeying : Rekeying v (s.vctrl v F.VLT_V_CTRL_GEN) s (s.startRekey v) := by
  have honly := dueGone_only (s := s) (v := v)
  have hkeys := dueGone_keys (s := s) (v := v)
  rw [startRekey_eq]
  generalize s.dueGone v = u at honly hkeys
  generalize s.vctrl v F.VLT_V_CTRL_GEN = g
  split
  case isTrue h =>
    refine ⟨honly.setVstate.vltCause, fun _ => ⟨?_, State.raise_flag _ _ _ (by decide) rfl, ?_⟩, fun hn => absurd h hn⟩
    · rw [vltCause_vstate, setVstate_vstate (by decide)]
    · rw [vltCause_v, setVstate_v, hkeys]
  case isFalse h =>
    have hw : OnlyVault v (vaultRegs v) s (u.wrPair (R.VLT_V_WCNT_LO 0 v) (R.VLT_V_WCNT_HI 0 v) 0) :=
      honly.wrPair (by simp [vaultRegs]) (by simp [vaultRegs])
    have hwk : ((u.wrPair (R.VLT_V_WCNT_LO 0 v) (R.VLT_V_WCNT_HI 0 v) 0).v v).keys = (s.v v).keys := by rw [wrPair_v, hkeys]
    have hwc : (u.wrPair (R.VLT_V_WCNT_LO 0 v) (R.VLT_V_WCNT_HI 0 v) 0).rdPair (R.VLT_V_WCNT_LO 0 v) (R.VLT_V_WCNT_HI 0 v) = 0 :=
      rdPair_wrPair (by unfold R.VLT_V_WCNT_LO R.VLT_V_WCNT_HI; omega) (by decide)
    generalize u.wrPair (R.VLT_V_WCNT_LO 0 v) (R.VLT_V_WCNT_HI 0 v) 0 = x at hw hwk hwc
    dsimp only
    refine ⟨hw.setV.setPtr.setVstate, fun he => absurd he h, fun _ => ⟨setVstate_vstate (by decide), ?_, ?_, ?_⟩⟩
    · rw [setVstate_v, setPtr_v, v_setV_same, hwk, hw.deriveKeys]
    · rw [setVstate_v, setPtr_v, hw.setV.vbase]
    · have hl := vlt_wcnt_ne v
      refine Eq.trans ?_ hwc
      rw [State.rdPair, State.rdPair, setVstate_rd _ (hl _ (by simp)).2.2, setVstate_rd _ (hl _ (by simp)).2.2,
        setPtr_rd' fun a ha => (vlt_pairs_ne v a ha).2.2.2.1, setPtr_rd' fun a ha => (vlt_pairs_ne v a ha).2.2.2.2, setV_rd, setV_rd]

theorem rkgo_starts (h : s.vstate v = 2) : exec (.rkgo v) s = .next (s.startRekey v) := by
  show execRkgo v s = _
  rw [execRkgo, State.rkgo, if_pos h]

theorem rkgo_refused (h : s.vstate v = 0 ∨ s.vstate v = 1 ∨ s.vstate v = 3 ∨ s.vstate v = 5) :
    exec (.rkgo v) s = .next (s.raise (R.VLT_CAUSE 0) F.VLT_CAUSE_CMDERR) := by
  show execRkgo v s = _
  rw [execRkgo, State.rkgo, if_neg (by omega), if_neg (by omega), State.vltCause]

theorem rekeyStart_starts {b : Nat} (h : s.vstate v = 2) (hb : (s.v v).dueAt = some b) :
    exec (.rekeyStart v) s = .next ((s.at_ b).startRekey v) := by
  show execRekeyStart v s = _
  rw [execRekeyStart, hb]
  exact if_pos h

theorem Rekeying.frame_now {b g : Nat} (h : Rekeying v g (s.at_ b) t) : t = { s with now := max s.now b, regs := t.regs, vault := t.vault } :=
  h.only.frame

theorem Rekeying.frame_same {g : Nat} (h : Rekeying v g s t) : t = { s with now := s.now, regs := t.regs, vault := t.vault } :=
  h.only.frame

end Sys2Proof.Machine
end

section
/-! The engine of die 0 turns the lines of a vault (13_vaults.md R467, R468, R472), and the integrity halt of a die (R463). -/
namespace Sys2Proof.Machine
variable {s t u : State} {v : Fin 64} {q : Fin 24} {d : Fin 6} {ch key a : Nat} {l : GLine}

/-! ### The way of an access of the engine leaves what it finds -/

/-- What the engine meets at a line is as before: registers, keys, lines, the halt request. -/
structure Met (s t : State) : Prop extends SameSeal s t where
  rd : ∀ a, t.rd a = s.rd a
  halt : t.haltReq = s.haltReq
  line : ∀ k, t.line k = s.line k

namespace Met

theorem refl (s : State) : Met s s := ⟨.refl s, fun _ => rfl, rfl, fun _ => rfl⟩

theorem tally {k code n : Nat} (h : Met s t) : Met s (t.tally k code n) := by
  have hs := h.toSameSeal.trans (Beside.refl t).tally.toSameSeal (u := t.tally k code n)
  refine ⟨hs, fun a => (tally_rd k code n a).trans (h.rd a), ?_, fun x => (line_tally k code n x).trans (h.line x)⟩
  obtain ⟨m, hm⟩ := tally_eq t k code n
  rw [hm]
  exact h.halt

theorem setSeam {k i : Nat} {f : SeamEnd → SeamEnd} (h : Met s t) : Met s (t.setSeam k i f) := by
  have hs := (Beside.refl t).setSeam (d := k) (k := i) (f := f)
  obtain ⟨x, hx⟩ := setSeam_eq (s := t) (d := k) (k := i) f
  refine ⟨h.toSameSeal.trans hs.toSameSeal, fun a => (setSeam_rd f a).trans (h.rd a), ?_, fun y => (hs.line y).trans (h.line y)⟩
  rw [hx]
  exact h.halt

theorem sendFlit (fuel : Nat) : ∀ {t : State} {k path : Nat}, Met s t → Met s (t.sendFlit fuel k path) := by
  induction fuel with
  | zero => exact fun h => h
  | succ n ih =>
    intro t k path h
    rw [State.sendFlit]
    split
    · exact h
    · split
      · exact h
      · exact ih h.setSeam.tally

theorem carry {a b : Nat} (h : Met s t) : Met s (t.carry a b) := by
  unfold State.carry
  split
  · exact h
  · exact h.sendFlit 4

theorem roundTrip {a b : Nat} (h : Met s t) : Met s (t.roundTrip a b) := by
  unfold State.roundTrip
  split
  · exact h
  · exact h.carry.carry

theorem keepMarks {k : Nat} (h : Met s t) : Met s (t.keepMarks k []) := by
  refine ⟨sameSeal_keepMarks h.toSameSeal, fun a => (keepMarks_rd k a []).trans (h.rd a), ?_, fun x => (line_keepMarks_nil k x).trans (h.line x)⟩
  unfold State.keepMarks
  split
  · exact h.halt
  · exact h.halt

theorem vctrl (h : Met s t) (f : Fld) : t.vctrl v f = s.vctrl v f := fld_congr (h.rd _) f
theorem vstate_eq (h : Met s t) : t.vstate v = s.vstate v := fld_congr (h.rd _) _
theorem vbase (h : Met s t) : t.vbase v = s.vbase v := by rw [State.vbase, fld_congr (h.rd _), State.vbase]
theorem vsize (h : Met s t) : t.vsize v = s.vsize v := by rw [State.vsize, fld_congr (h.rd _), State.vsize]
theorem pend (h : Met s t) : t.flag (R.VLT_V_STAT 0 v) F.VLT_V_STAT_RKPEND = s.flag (R.VLT_V_STAT 0 v) F.VLT_V_STAT_RKPEND := flag_congr (h.rd _) _

theorem sealGen (h : Met s t) (g a : Nat) (x : Line512) : t.sealGen v g a x = s.sealGen v g a x := by
  rw [State.sealGen, h.vctrl, h.toSameSeal.keyOf, State.sealGen]

end Met

theorem engineAt_none (ev : Nat) : s.engineAt q ch ev G6Env.none_ = (s.roundTrip 0 (ch / 8)).tally (q.val / 4) (ev + q.val % 4) 1 := by
  unfold State.engineAt State.activate State.edcRetry
  rfl

theorem engineAt_met (ev : Nat) : Met s (s.engineAt q ch ev G6Env.none_) := by
  rw [engineAt_none]
  exact (Met.refl s).roundTrip.tally

/-! ### The engine goes on -/

theorem OnlyVault.line {as : List Nat} (h : OnlyVault v as s t) (k : Nat) : t.line k = s.line k := by
  rw [h.frame]
  rfl

/-- The end of a rekey, before one that is pending starts. -/
def State.rekeyOver (s : State) (v : Fin 64) : State :=
  let g := s.vctrl v F.VLT_V_CTRL_GEN
  let s := (s.setF (R.VLT_V_CTRL 0 v) F.VLT_V_CTRL_GEN (g + 1)).setVstate v 2
  let s := s.setV v { s.v v with keys := (s.v v).keys.filter (fun k => k.1 != g) }
  s.vltCause F.VLT_CAUSE_RKDONE

theorem rekeyEnd_eq : s.rekeyEnd v = if (s.rekeyOver v).flag (R.VLT_V_STAT 0 v) F.VLT_V_STAT_RKPEND then (s.rekeyOver v).startRekey v
    else s.rekeyOver v := rfl

theorem rekeyOver_only : OnlyVault v (vaultRegs v) s (s.rekeyOver v) :=
  ((OnlyVault.refl s).setF (by simp [vaultRegs])).setVstate.setV.vltCause

theorem rekeyEnd_only : OnlyVault v (vaultRegs v) s (s.rekeyEnd v) := by
  rw [rekeyEnd_eq]
  split
  · exact rekeyOver_only.trans startRekey_rekeying.only
  · exact rekeyOver_only

/-- The new generation is current (R470). -/
theorem rekeyEnd_done (hg : s.vctrl v F.VLT_V_CTRL_GEN < 65535) (hp : s.flag (R.VLT_V_STAT 0 v) F.VLT_V_STAT_RKPEND = false) :
    let t := s.rekeyEnd v
    t.vctrl v F.VLT_V_CTRL_GEN = s.vctrl v F.VLT_V_CTRL_GEN + 1 ∧ t.vstate v = 2 ∧
      (t.v v).keys = (s.v v).keys.filter (fun k => k.1 != s.vctrl v F.VLT_V_CTRL_GEN) ∧ t.flag (R.VLT_CAUSE 0) F.VLT_CAUSE_RKDONE = true := by
  obtain ⟨hcs, hcc, hsc⟩ := vlt_ne v
  have hpend : (s.rekeyOver v).flag (R.VLT_V_STAT 0 v) F.VLT_V_STAT_RKPEND = false := by
    rw [State.rekeyOver]
    dsimp only
    rw [flag_congr (vltCause_rd _ hsc), flag_congr (setV_rd _ _ _), setVstate_pend, flag_congr (State.setF_rd_other _ _ _ _ _ hcs.symm), hp]
  dsimp only
  rw [rekeyEnd_eq, hpend, if_neg (by decide), State.rekeyOver]
  generalize s.vctrl v F.VLT_V_CTRL_GEN = g at hg
  dsimp only
  refine ⟨?_, ?_, ?_, State.raise_flag _ _ _ (by decide) rfl⟩
  · rw [vctrl_congr (vltCause_rd _ hcc), vctrl_congr (setV_rd _ _ _), vctrl_congr (setVstate_rd _ hcs)]
    exact setF_fld_of_lt (by decide) (Nat.succ_lt_succ hg)
  · rw [vltCause_vstate, vstate_congr (setV_rd _ _ _), setVstate_vstate (by decide)]
  · rw [vltCause_v, v_setV_same, setVstate_v, setF_v]

/-- The initialisation of a vault has ended. -/
def State.initEnd (s : State) (v : Fin 64) : State :=
  ((s.setV v { s.v v with init := false }).setVstate v 2).vltCause F.VLT_CAUSE_INITDONE

theorem engineNext_eq : s.engineNext v = let t := s.setPtr v ((s.v v).ptr + 64)
    if (s.v v).ptr + 64 < s.vbase v + s.vsize v then t else if s.vstate v = 1 then t.initEnd v else t.rekeyEnd v := by
  have honly : OnlyVault v (vaultRegs v) s (s.setPtr v ((s.v v).ptr + 64)) := (OnlyVault.refl s).setPtr
  have hst : (s.setPtr v ((s.v v).ptr + 64)).vstate v = s.vstate v := vstate_congr (setPtr_rd' fun a ha => (vlt_pairs_ne v a ha).2.1)
  rw [← honly.vbase, ← honly.vsize, ← hst]
  rfl

theorem engineNext_only : OnlyVault v (vaultRegs v) s (s.engineNext v) := by
  have honly : OnlyVault v (vaultRegs v) s (s.setPtr v ((s.v v).ptr + 64)) := (OnlyVault.refl s).setPtr
  rw [engineNext_eq]
  dsimp only
  split
  · exact honly
  · split
    · exact honly.setV.setVstate.vltCause
    · exact honly.trans rekeyEnd_only

theorem engineNext_on (h : (s.v v).ptr + 64 < s.vbase v + s.vsize v) : ((s.engineNext v).v v).ptr = (s.v v).ptr + 64 ∧
    (s.engineNext v).vstate v = s.vstate v := by
  rw [engineNext_eq]
  dsimp only
  rw [if_pos h]
  exact ⟨by rw [setPtr_v], vstate_congr (setPtr_rd' fun a ha => (vlt_pairs_ne v a ha).2.1)⟩

theorem engineNext_initialised (h : s.vbase v + s.vsize v ≤ (s.v v).ptr + 64) (h1 : s.vstate v = 1) : (s.engineNext v).vstate v = 2 ∧
    (s.engineNext v).flag (R.VLT_CAUSE 0) F.VLT_CAUSE_INITDONE = true := by
  rw [engineNext_eq]
  dsimp only
  rw [if_neg (by omega), if_pos h1, State.initEnd]
  refine ⟨?_, State.raise_flag _ _ _ (by decide) rfl⟩
  rw [vltCause_vstate, setVstate_vstate (by decide)]

theorem engineNext_rekeyed (h : s.vbase v + s.vsize v ≤ (s.v v).ptr + 64) (h3 : s.vstate v = 3) (hg : s.vctrl v F.VLT_V_CTRL_GEN < 65535)
    (hp : s.flag (R.VLT_V_STAT 0 v) F.VLT_V_STAT_RKPEND = false) : let t := s.engineNext v
    t.vctrl v F.VLT_V_CTRL_GEN = s.vctrl v F.VLT_V_CTRL_GEN + 1 ∧ t.vstate v = 2 ∧
      (t.v v).keys = (s.v v).keys.filter (fun k => k.1 != s.vctrl v F.VLT_V_CTRL_GEN) ∧ t.flag (R.VLT_CAUSE 0) F.VLT_CAUSE_RKDONE = true := by
  have hrd : ∀ b, (∀ c ∈ [R.VLT_V_RKPTR_LO 0 v, R.VLT_V_RKPTR_HI 0 v], b ≠ c) → (s.setPtr v ((s.v v).ptr + 64)).rd b = s.rd b :=
    fun b hb => setPtr_rd' hb
  have hctrl := vctrl_congr (hrd (R.VLT_V_CTRL 0 v) fun c hc => (vlt_pairs_ne v c hc).1) F.VLT_V_CTRL_GEN
  have hstat := flag_congr (hrd (R.VLT_V_STAT 0 v) fun c hc => (vlt_pairs_ne v c hc).2.1) F.VLT_V_STAT_RKPEND
  have hdone := rekeyEnd_done (hctrl.trans_lt hg) (hstat.trans hp)
  rw [engineNext_eq]
  dsimp only at hdone ⊢
  rw [if_neg (by omega), if_neg (by omega)]
  rw [hctrl, setPtr_v] at hdone
  exact hdone

/-! ### A line of an initialisation -/

theorem initLine_eq {line : Nat} (h1 : s.vstate v = 1) (hr : s.engineRefuse (s.v v).ptr = none) (hp : s.place (s.v v).ptr = some (ch, line))
    (hq : portOf ch < 24) {env : G6Env} : exec (.initLine v env) s = .next (s.initAt v ⟨portOf ch, hq⟩ ch (lineKey ch line) (s.v v).ptr env) := by
  show execInitLine v env s = _
  rw [execInitLine, if_pos h1]
  dsimp only
  rw [hr, hp]
  exact dif_pos hq

theorem initAt_none : ∃ b, Met s b ∧ s.initAt v q ch key a G6Env.none_ =
    (b.setLine key (some (s.sealGen v (s.vctrl v F.VLT_V_CTRL_GEN) a 0))).engineNext v := by
  have hmet := engineAt_met (s := s) (q := q) (ch := ch) 0x44
  refine ⟨_, hmet, ?_⟩
  rw [← hmet.sealGen, ← hmet.vctrl]
  rfl

/-- The state in which the engine goes on from a line it has written. -/
theorem setLine_reads (h : Met s t) (x : Option GLine) : let w := t.setLine key x
    w.vbase v = s.vbase v ∧ w.vsize v = s.vsize v ∧ w.vstate v = s.vstate v ∧ (w.v v).ptr = (s.v v).ptr ∧ (w.v v).keys = (s.v v).keys ∧
    w.vctrl v F.VLT_V_CTRL_GEN = s.vctrl v F.VLT_V_CTRL_GEN ∧
    w.flag (R.VLT_V_STAT 0 v) F.VLT_V_STAT_RKPEND = s.flag (R.VLT_V_STAT 0 v) F.VLT_V_STAT_RKPEND :=
  ⟨h.vbase, h.vsize, h.vstate_eq, h.ptr v, h.keys v, h.vctrl _, h.pend⟩

/-- The line written stays, and no other changes, when the engine goes on. -/
theorem engineNext_line (h : Met s t) (x : GLine) : ((t.setLine key (some x)).engineNext v).line key = some x ∧
    ∀ k, k ≠ key → ((t.setLine key (some x)).engineNext v).line k = s.line k := by
  refine ⟨?_, fun k hk => ?_⟩
  · rw [engineNext_only.line, line_setLine, if_pos rfl]
  · rw [engineNext_only.line, line_setLine, if_neg hk, h.line]

section Line
variable {line : Nat} (hr : s.engineRefuse (s.v v).ptr = none) (hp : s.place (s.v v).ptr = some (ch, line)) (hq : portOf ch < 24)
include hr hp hq

theorem initLine_on (h1 : s.vstate v = 1) (h : (s.v v).ptr + 64 < s.vbase v + s.vsize v) : After (.initLine v G6Env.none_) s (fun t =>
    t.line (lineKey ch line) = some (s.sealGen v (s.vctrl v F.VLT_V_CTRL_GEN) (s.v v).ptr 0) ∧
    (∀ k, k ≠ lineKey ch line → t.line k = s.line k) ∧ (t.v v).ptr = (s.v v).ptr + 64 ∧ t.vstate v = 1) := by
  obtain ⟨b, hmet, heq⟩ := initAt_none (s := s) (v := v) (q := ⟨portOf ch, hq⟩) (ch := ch) (key := lineKey ch line) (a := (s.v v).ptr)
  obtain ⟨hb, hz, hst, hptr, -⟩ := setLine_reads (v := v) (key := lineKey ch line) hmet (some (s.sealGen v (s.vctrl v F.VLT_V_CTRL_GEN) (s.v v).ptr 0))
  obtain ⟨hsame, hother⟩ := engineNext_line (v := v) (key := lineKey ch line) hmet (s.sealGen v (s.vctrl v F.VLT_V_CTRL_GEN) (s.v v).ptr 0)
  refine ⟨_, (initLine_eq h1 hr hp hq).trans (congrArg _ heq), hsame, hother, ?_⟩
  obtain ⟨hnext, hstay⟩ := engineNext_on (v := v) (by rw [hptr, hb, hz]; exact h)
  exact ⟨hnext.trans (by rw [hptr]), hstay.trans (hst.trans h1)⟩

theorem initLine_last (h1 : s.vstate v = 1) (h : s.vbase v + s.vsize v ≤ (s.v v).ptr + 64) : After (.initLine v G6Env.none_) s (fun t =>
    t.vstate v = 2 ∧ t.flag (R.VLT_CAUSE 0) F.VLT_CAUSE_INITDONE = true) := by
  obtain ⟨b, hmet, heq⟩ := initAt_none (s := s) (v := v) (q := ⟨portOf ch, hq⟩) (ch := ch) (key := lineKey ch line) (a := (s.v v).ptr)
  obtain ⟨hb, hz, hst, hptr, -⟩ := setLine_reads (v := v) (key := lineKey ch line) hmet (some (s.sealGen v (s.vctrl v F.VLT_V_CTRL_GEN) (s.v v).ptr 0))
  exact ⟨_, (initLine_eq h1 hr hp hq).trans (congrArg _ heq), engineNext_initialised (by rw [hptr, hb, hz]; exact h) (hst.trans h1)⟩

end Line

/-! ### A line of a rekey -/

theorem rekeyLine_eq {line : Nat} (h3 : s.vstate v = 3) (hr : s.engineRefuse (s.v v).ptr = none) (hp : s.place (s.v v).ptr = some (ch, line))
    (hq : portOf ch < 24) {env : G6Env} : exec (.rekeyLine v env) s = .next (s.rekeyAt v ⟨portOf ch, hq⟩ ch (lineKey ch line) (s.v v).ptr env) := by
  show execRekeyLine v env s = _
  rw [execRekeyLine, if_pos h3]
  dsimp only
  rw [hr, hp]
  exact dif_pos hq

/-- The line as the engine reads it. -/
def State.engineRead (s : State) (q : Fin 24) (ch key : Nat) : State := (s.engineAt q ch 0x40 G6Env.none_).keepMarks key []

theorem engineRead_met : Met s (s.engineRead q ch key) := (engineAt_met 0x40).keepMarks

theorem rekeyAt_clean (hl : s.line key = some l) (hc : l.conds [] = [.clean, .clean, .clean, .clean]) : s.rekeyAt v q ch key a G6Env.none_ =
    let s := s.engineRead q ch key
    if s.tagOk (some v) a l then
      let b := (s.roundTrip 0 (ch / 8)).tally (q.val / 4) (0x44 + q.val % 4) 1
      (b.setLine key (some (b.sealGen v (b.vctrl v F.VLT_V_CTRL_GEN + 1) a (b.open_ (some v) a l.data)))).engineNext v
    else s.tagFailure v a 5 0x51 := by
  have hmet := engineAt_met (s := s) (q := q) (ch := ch) 0x40
  have hl' : (s.engineAt q ch 0x40 G6Env.none_).line key = some l := (hmet.line key).trans hl
  have hrt : ∀ b : State, Met b ((b.roundTrip 0 (ch / 8)).tally (q.val / 4) (0x44 + q.val % 4) 1) := fun b => (Met.refl b).roundTrip.tally
  unfold State.engineRead
  rw [State.rekeyAt]
  dsimp only
  generalize s.engineAt q ch 0x40 G6Env.none_ = u at hl'
  rw [lineFound_of_some hl', lineRead_of_some hl', show G6Env.none_.ecc = [] from rfl, hc, countWords_clean _ (by decide),
    countWords_clean _ (by decide), State.countUe, if_pos rfl, State.countCe, if_pos rfl, ← (hrt _).vctrl]
  rfl

theorem rekeyAt_written (hl : s.line key = some l) (hc : l.conds [] = [.clean, .clean, .clean, .clean]) (ht : s.tagOk (some v) a l = true) :
    ∃ b, Met s b ∧ s.rekeyAt v q ch key a G6Env.none_ =
      (b.setLine key (some (s.sealGen v (s.vctrl v F.VLT_V_CTRL_GEN + 1) a (s.open_ (some v) a l.data)))).engineNext v := by
  have hread := engineRead_met (s := s) (q := q) (ch := ch) (key := key)
  have hmet : Met s (((s.engineRead q ch key).roundTrip 0 (ch / 8)).tally (q.val / 4) (0x44 + q.val % 4) 1) := hread.roundTrip.tally
  refine ⟨_, hmet, ?_⟩
  rw [rekeyAt_clean hl hc]
  dsimp only
  rw [if_pos ((hread.toSameSeal.tagOk _ _ _).trans ht), hmet.sealGen, hmet.vctrl, hmet.toSameSeal.open_]

theorem raised_line (b c : Nat) (x y : Word) (f : Fld) (k : Nat) : (((s.wr b x).wr c y).raise (R.VLT_CAUSE 0) f).line k = s.line k := by
  rw [State.raise_eq, line_setF, line_wr, line_wr]

/-- A tag that fails starts the halt and leaves the lines. -/
theorem tagFailure_halts {n k src : Nat} (h : s.haltReq = false) : let t := s.tagFailure n a k src
    t.haltReq = true ∧ t.flag (R.VLT_CAUSE 0) F.VLT_CAUSE_HALT = true ∧ ∀ x, t.line x = s.line x := by
  have hw : ∀ (b c : Nat) (x y : Word) (f : Fld), (∀ k, ({ ((s.wr b x).wr c y).raise (R.VLT_CAUSE 0) f with haltReq := true } : State).line k = s.line k) ∧
      ({ ((s.wr b x).wr c y).raise (R.VLT_CAUSE 0) f with haltReq := true } : State).flag (R.VLT_CAUSE 0) f =
        (((s.wr b x).wr c y).raise (R.VLT_CAUSE 0) f).flag (R.VLT_CAUSE 0) f := fun b c x y f => ⟨fun k => (raised_line b c x y f k :), rfl⟩
  dsimp only
  rw [State.tagFailure, if_neg (by rw [h]; decide)]
  exact ⟨rfl, (hw _ _ _ _ _).2.trans (State.raise_flag _ _ _ (by decide) rfl), (hw _ _ _ _ _).1⟩

section Line
variable {line : Nat} (hr : s.engineRefuse (s.v v).ptr = none) (hp : s.place (s.v v).ptr = some (ch, line)) (hq : portOf ch < 24)
  (h3 : s.vstate v = 3) (hl : s.line (lineKey ch line) = some l) (hc : l.conds [] = [.clean, .clean, .clean, .clean])
include hr hp hq h3 hl hc

theorem rekeyLine_written (ht : s.tagOk (some v) (s.v v).ptr l = true) : let g := s.vctrl v F.VLT_V_CTRL_GEN
    After (.rekeyLine v G6Env.none_) s (fun t =>
      t.line (lineKey ch line) = some (s.sealGen v (g + 1) (s.v v).ptr (s.open_ (some v) (s.v v).ptr l.data)) ∧
      (∀ k, k ≠ lineKey ch line → t.line k = s.line k) ∧
      ((s.v v).ptr + 64 < s.vbase v + s.vsize v → (t.v v).ptr = (s.v v).ptr + 64 ∧ t.vstate v = 3) ∧
      (s.vbase v + s.vsize v ≤ (s.v v).ptr + 64 → g < 65535 → s.flag (R.VLT_V_STAT 0 v) F.VLT_V_STAT_RKPEND = false →
        t.vctrl v F.VLT_V_CTRL_GEN = g + 1 ∧ t.vstate v = 2 ∧ (t.v v).keys = (s.v v).keys.filter (fun k => k.1 != g) ∧
        t.flag (R.VLT_CAUSE 0) F.VLT_CAUSE_RKDONE = true)) := by
  obtain ⟨b, hmet, heq⟩ := rekeyAt_written (v := v) (q := ⟨portOf ch, hq⟩) (ch := ch) hl hc ht
  dsimp only
  generalize hx : s.sealGen v (s.vctrl v F.VLT_V_CTRL_GEN + 1) (s.v v).ptr (s.open_ (some v) (s.v v).ptr l.data) = x at heq
  obtain ⟨hb, hz, hst, hptr, hkeys, hgen, hpend⟩ := setLine_reads (v := v) (key := lineKey ch line) hmet (some x)
  obtain ⟨hsame, hother⟩ := engineNext_line (v := v) (key := lineKey ch line) hmet x
  refine ⟨_, (rekeyLine_eq h3 hr hp hq).trans (congrArg _ heq), hsame, hother, fun h => ?_, fun h hg hpd => ?_⟩
  · obtain ⟨hnext, hstay⟩ := engineNext_on (v := v) (by rw [hptr, hb, hz]; exact h)
    exact ⟨hnext.trans (by rw [hptr]), hstay.trans (hst.trans h3)⟩
  · have hdone := engineNext_rekeyed (by rw [hptr, hb, hz]; exact h) (hst.trans h3) (hgen.trans_lt hg) (hpend.trans hpd)
    rw [hgen, hkeys] at hdone
    exact hdone

theorem rekeyLine_failed (ht : s.tagOk (some v) (s.v v).ptr l = false) (hh : s.haltReq = false) :
    After (.rekeyLine v G6Env.none_) s (fun t => t.haltReq = true ∧ t.flag (R.VLT_CAUSE 0) F.VLT_CAUSE_HALT = true ∧ ∀ k, t.line k = s.line k) := by
  have hread := engineRead_met (s := s) (q := ⟨portOf ch, hq⟩) (ch := ch) (key := lineKey ch line)
  have heq : s.rekeyAt v ⟨portOf ch, hq⟩ ch (lineKey ch line) (s.v v).ptr G6Env.none_ =
      (s.engineRead ⟨portOf ch, hq⟩ ch (lineKey ch line)).tagFailure v (s.v v).ptr 5 0x51 := by
    rw [rekeyAt_clean hl hc]
    dsimp only
    rw [if_neg (by rw [hread.toSameSeal.tagOk, ht]; decide)]
  obtain ⟨hreq, hflag, hlines⟩ := tagFailure_halts (n := v) (a := (s.v v).ptr) (k := 5) (src := 0x51) (hread.halt.trans hh)
  exact ⟨_, (rekeyLine_eq h3 hr hp hq).trans (congrArg _ heq), hreq, hflag, fun k => (hlines k).trans (hread.line k)⟩

end Line

/-! ### The integrity halt of a die -/

theorem integStop_eq (g : Fin 24) (y : State) : y.integStop g = State.stopActive 0x0F g y := by
  have hact : y.active g = true ↔ (y.vstat g = 1 ∨ y.vstat g = 2 ∨ y.vstat g = 3) := by
    rw [State.active]
    simp [or_assoc]
  rw [State.integStop, State.stopActive]
  by_cases h : y.active g = true
  · rw [if_pos (hact.mp h), if_pos h]
  · rw [if_neg (fun k => h (hact.mpr k)), if_neg h]

theorem integrityHalt_eq (hr : s.haltReq = true) (ho : s.haltOn[d] = false) : exec (.integrityHalt d) s = .next (s.haltDie 0x0F d).zeroKeys := by
  have hf : (fun g y => State.integStop y g) = State.stopActive 0x0F := funext fun g => funext fun y => integStop_eq g y
  show execIntegrityHalt d s = _
  rw [execIntegrityHalt, haltDie_eq, ← hf]
  dsimp only
  rw [if_pos (by rw [hr, ho]; rfl)]

theorem integrityHalt_spec (hr : s.haltReq = true) (ho : s.haltOn[d] = false) : After (.integrityHalt d) s (fun t => t.haltOn[d] = true ∧
    (∀ g ∈ groupsOf d, t.active g = false) ∧ (∀ k, (t.v k).keys = []) ∧ t.pstate (2 * d.val) = 0 ∧
    t.pstate (2 * d.val + 1) = 0 ∧ t.keeper.nonceTap = none ∧ t.keeper.nonceBox = none ∧ t.lines = s.lines) := by
  obtain ⟨hhalt, hon, hgroups, heven, hodd⟩ := haltDie_halted (code := 0x0F) (d := d) (by decide) (by decide) (Halting.refl s)
  obtain ⟨hframe, hregs, hhon, hkeeper, hkeys⟩ := zeroKeys_frame hhalt
  have hrd : ∀ a, (s.haltDie 0x0F d).zeroKeys.rd a = (s.haltDie 0x0F d).rd a := fun a => by rw [State.rd, hregs, State.rd]
  refine ⟨_, integrityHalt_eq hr ho, ?_, fun g hg => (active_of_rd (hrd _)).trans (hgroups g hg), hkeys, (fld_congr (hrd _) _).trans heven,
    (fld_congr (hrd _) _).trans hodd, ?_, ?_, ?_⟩
  · rw [hhon, hon]
  · rw [hkeeper]
  · rw [hkeeper]
  · rw [hframe]

/-! ### Settled -/

/-- Settles O41: each command has its equation; the engine's way to a line leaves what it seals with, and a halt of a die is the stop of its
groups and ports followed by the clearing of the keys. -/
theorem vaultsRekeyAndHalt : Obligations.VaultsRekeyAndHalt := by
  intro s v d
  refine ⟨fun w => ?_, fun h => ⟨fun hb => ?_, fun h1 h3 hr => ?_⟩, ?_, fun hr ho => integrityHalt_spec hr ho⟩
  · intro w' h
    refine ⟨fun hok => ⟨_, vaultEnable_refused h hok, onlyWrites_raise _ _⟩, fun hok hr => ⟨_, vaultEnable_done h hok hr, ?_⟩⟩
    obtain ⟨honly, hkeys, hstate, hptr⟩ := enableVault_enabled (s := s) (v := v) (F.VLT_V_CTRL_EN.set w 1)
    exact ⟨honly.frame, honly.other, hkeys, hstate, hptr⟩
  · exact ⟨_, vaultDisable_refused h hb, onlyWrites_raise _ _⟩
  · have hrights := storeRights_only (s := s) (v := v) (F.VLT_V_CTRL_EN.set (s.rd (R.VLT_V_CTRL 0 v)) 0)
    obtain ⟨honly, hen, hst, hkeys⟩ := disableVault_spec (v := v) (s.storeRights v (F.VLT_V_CTRL_EN.set (s.rd (R.VLT_V_CTRL 0 v)) 0))
    have hall := hrights.trans honly
    exact ⟨_, vaultDisable_eq h h1 h3 hr, hall.frame, hall.regs, hen, hst, hkeys, hall.other⟩
  · intro g started
    refine ⟨fun h2 => ⟨⟨_, rkgo_starts h2, ?_⟩, fun b hb => ⟨_, rekeyStart_starts h2 hb, ?_⟩⟩, fun h => ⟨_, rkgo_refused h, onlyWrites_raise _ _⟩,
      fun ch line l hr hp hq => ⟨initLine_on hr hp hq, initLine_last hr hp hq, fun h3 hl hc ht => rekeyLine_written hr hp hq h3 hl hc ht,
        fun h3 hl hc ht hh => rekeyLine_failed hr hp hq h3 hl hc ht hh⟩⟩
    · have hstart := startRekey_rekeying (s := s) (v := v)
      exact ⟨hstart.frame_same, hstart.only.other, hstart.last, hstart.next⟩
    · have hstart := startRekey_rekeying (s := s.at_ b) (v := v)
      exact ⟨hstart.frame_now, hstart.only.other, hstart.last, hstart.next⟩

end Sys2Proof.Machine
end

section
/-! The bus: accesses of any requester, timeouts and late responses, transactions with other devices (12_memory_system.md R446, R447;
20_register_map.md R617 to R629). -/
namespace Sys2Proof.Machine
variable {s t u : State} {d : Fin 6} {c : Fin 32} {envs : List G6Env}

/-! ### Accesses -/

/-- An access whose bytes cross a 4 KB boundary is not performed. -/
theorem access_crossing {acc : Access} (h : 4096 < acc.addr % 4096 + acc.size) : s.access acc envs = ⟨some .errDecode, [], s⟩ := by
  rw [State.access, if_pos (.inr h)]

/-- An access that names nothing. -/
theorem access_nowhere {acc : Access} (h : placeOf acc.addr = .none_) : ∃ m, s.access acc envs = ⟨some .errDecode, [], { s with mon := m }⟩ := by
  have hat : s.accessAt acc envs = ⟨some .errDecode, [], s⟩ := by rw [State.accessAt, h]
  have hwait : s.mustWait acc = false := by rw [State.mustWait, State.fullAt, h, Bool.and_false]
  have hserve : s.servingDie acc.addr = none := by rw [State.servingDie, h]
  rw [State.access, hwait, hserve, h, hat]
  split
  · exact ⟨s.mon, rfl⟩
  · rw [if_neg Bool.false_ne_true]
    dsimp only
    split
    · obtain ⟨m, hm⟩ := tally_eq s (srcDie acc.src) 0x68 1
      exact ⟨m, by rw [hm]⟩
    · exact ⟨s.mon, rfl⟩

theorem exec_latchRead (src : BitVec 10) (addr : BitVec 48) (size : Nat) (dbg : Bool) : let a := s.access (readAcc src.toNat addr.toNat size dbg) envs
    exec (.latchRead src addr size dbg envs) s = .next { a.st with reply := ⟨a.resp, a.data⟩ } := rfl

theorem exec_registerWrite (src : BitVec 10) (addr : BitVec 48) (data : List Nat) (dbg : Bool) :
    let a := s.access (writeAcc src.toNat addr.toNat data dbg) envs
    exec (.registerWrite src addr data dbg envs) s = .next { a.st with reply := ⟨a.resp, a.data⟩ } := rfl

/-! ### PCI Express -/

theorem exec_pcieInbound_access {off size : Nat} {write : Bool} {data : List Nat} {r : Resp} (h : off < 0x600000000)
    (hr : (s.access (if write then writeAcc 0x60 (0x100000000000 + off) (data.take size) false
      else readAcc 0x60 (0x100000000000 + off) size false) envs).resp = some r) :
    let a := s.access (if write then writeAcc 0x60 (0x100000000000 + off) (data.take size) false
      else readAcc 0x60 (0x100000000000 + off) size false) envs
    exec (.pcieInbound 0 off write size data envs) s = .next (a.st.pcieEnd write r a.data) := by
  have hbar : s.barAddr 0 off = some (0x100000000000 + off) := by rw [State.barAddr, if_pos rfl, if_pos h]
  show execPcieInbound 0 off write size data envs s = _
  rw [execPcieInbound, if_neg (by decide), hbar]
  dsimp only at hr ⊢
  rw [hr]

theorem exec_pcieInbound_gap {off size : Nat} {data : List Nat} (h : 0x600000000 ≤ off) (h' : off < 0x700000000) :
    exec (.pcieInbound 0 off false size data envs) s = .next { s with reply := ⟨some .errDecode, []⟩ } := by
  have hbar : s.barAddr 0 off = none := by rw [State.barAddr, if_pos rfl, if_neg (by omega), if_neg (by omega)]
  show execPcieInbound 0 off false size data envs s = _
  rw [execPcieInbound, if_neg (by decide), hbar]
  rfl

/-- A write that is posted leaves its error with the endpoint. -/
theorem aerNote_spec (r : Resp) : s.aerNote r = { s with pcie := (s.aerNote r).pcie } ∧
    (s.aerNote r).pcie.aerUr = (s.pcie.aerUr || r == .errDecode) ∧
    (s.aerNote r).pcie.aerCa = (s.pcie.aerCa || (r != .ok && r != .errDecode)) := by
  cases r <;> exact ⟨rfl, by simp [State.aerNote], by simp [State.aerNote]⟩

/-! ### What a timeout leaves -/

/-- A register of a die's bus block. -/
def BusReg (d : Fin 6) (a : Nat) : Prop := promBase d ≤ a ∧ a < promBase d + 0x1c

/-- Requests have been ended: registers of the bus block are as before, and no transaction has been sent. -/
structure Ended (d : Fin 6) (s t : State) : Prop where
  frame : t = { s with
    regs := t.regs, dma := t.dma, fport := t.fport, remoteOut := t.remoteOut, remoteDone := t.remoteDone, bridge := t.bridge,
    freeCtr := t.freeCtr }
  regs : ∀ a, BusReg d a → t.rd a = s.rd a
  sent : ∀ x ∈ (t.bridgeAt d).sent, x ∈ (s.bridgeAt d).sent

theorem ended_frame (h : t = { s with
      regs := t.regs, dma := t.dma, fport := t.fport, remoteOut := t.remoteOut, remoteDone := t.remoteDone, bridge := t.bridge,
      freeCtr := t.freeCtr })
    (l : Sparse Word) (x : Vector Dma 6) (y : Vector FabPort 96) (o : List Access) (e : List (Access × Resp × List Nat)) (b : Vector Bridge 6)
    (n : Nat) : ({ t with regs := l, dma := x, fport := y, remoteOut := o, remoteDone := e, bridge := b, freeCtr := n } : State) =
      { s with regs := l, dma := x, fport := y, remoteOut := o, remoteDone := e, bridge := b, freeCtr := n } := by rw [h]

theorem bridgeAt_setBridge (d : Fin 6) (k : Nat) (f : Bridge → Bridge) :
    (s.setBridge k f).bridgeAt d = if d.val = k then f (s.bridgeAt d) else s.bridgeAt d := by
  have hat : ∀ x : Vector Bridge 6, x.toList.getD d Bridge.reset = x[d] := fun x => by simp [List.getD_eq_getElem?_getD]
  rw [State.bridgeAt, hat, State.bridgeAt, hat, State.setBridge]
  simp

namespace Ended

theorem refl (s : State) : Ended d s s := ⟨rfl, fun _ _ => rfl, fun _ h => h⟩

theorem wr {a : Nat} {w : Word} (h : Ended d s t) (ha : ¬ BusReg d a) : Ended d s (t.wr a w) :=
  ⟨ended_frame h.frame _ _ _ _ _ _ _, fun b hb => by rw [State.wr_rd_other _ _ _ _ (by rintro rfl; exact ha hb), h.regs b hb], h.sent⟩

theorem setF {a n : Nat} {f : Fld} (h : Ended d s t) (ha : ¬ BusReg d a) : Ended d s (t.setF a f n) := h.wr ha

theorem wrPair {a b n : Nat} (h : Ended d s t) (ha : ¬ BusReg d a) (hb : ¬ BusReg d b) : Ended d s (t.wrPair a b n) := (h.wr ha).wr hb

theorem setDm {e : Fin 6} {x : DmaCh} (h : Ended d s t) : Ended d s (t.setDm e c x) :=
  ⟨ended_frame h.frame _ _ _ _ _ _ _, h.regs, h.sent⟩

theorem setFp {e : Fin 6} {p : Fin 16} {x : FabPort} (h : Ended d s t) : Ended d s (t.setFp e p x) :=
  ⟨ended_frame h.frame _ _ _ _ _ _ _, h.regs, h.sent⟩

theorem usedN {n : Nat} (h : Ended d s t) : Ended d s (t.usedN n) :=
  ⟨ended_frame h.frame _ _ _ _ _ _ _, h.regs, h.sent⟩

theorem ports {y : Vector FabPort 96} {o : List Access} {e : List (Access × Resp × List Nat)} (h : Ended d s t) :
    Ended d s { t with fport := y, remoteOut := o, remoteDone := e } :=
  ⟨ended_frame h.frame _ _ _ _ _ _ _, h.regs, h.sent⟩

/-- Transactions are dropped from a bridge. -/
theorem drop {k : Nat} {p : SeamTxn → Bool} (h : Ended d s t) : Ended d s (t.setBridge k (fun b => { b with sent := b.sent.filter p })) := by
  refine ⟨ended_frame h.frame _ _ _ _ _ _ _, h.regs, fun x hx => ?_⟩
  rw [bridgeAt_setBridge] at hx
  split at hx
  · exact h.sent x (List.mem_filter.mp hx).1
  · exact h.sent x hx

end Ended

/-- The registers of the DMA engine and of the fabric ports are not of the bus block. -/
theorem not_busReg_chStat : ¬ BusReg d (R.DMA_CH_STAT d c) := by
  have hc := c.isLt
  unfold BusReg R.DMA_CH_STAT dmaBase promBase
  omega

theorem not_busReg_dma : ∀ a ∈ [R.DMA_DONE d, R.DMA_ERR d, R.DMA_ERRLOG_ALO d, R.DMA_ERRLOG_AHI d, R.DMA_ERRLOG_DLO d, R.DMA_ERRLOG_DHI d,
    R.DMA_ERRLOG_INFO d], ¬ BusReg d a := by
  unfold BusReg R.DMA_DONE R.DMA_ERR R.DMA_ERRLOG_ALO R.DMA_ERRLOG_AHI R.DMA_ERRLOG_DLO R.DMA_ERRLOG_DHI R.DMA_ERRLOG_INFO dmaBase promBase
  simp only [List.mem_cons, List.not_mem_nil, or_false]
  omega

theorem not_busReg_port {p : Fin 16} : ¬ BusReg d (R.FAB_PORT_STAT d p) := by
  unfold BusReg R.FAB_PORT_STAT fabBase promBase
  omega

namespace Ended

theorem dmaErrEnd (h : Ended d s t) : Ended d s (t.dmaErrEnd d c) := by
  have hn := not_busReg_dma (d := d)
  unfold State.dmaErrEnd
  dsimp only
  split
  · split
    · exact (((h.setDm.wr (hn _ (by simp))).wrPair (hn _ (by simp)) (hn _ (by simp))).wrPair (hn _ (by simp)) (hn _ (by simp))).wr (hn _ (by simp))
    · exact h
  · exact h

theorem dmaError {a desc kind resp : Nat} (h : Ended d s t) : Ended d s (t.dmaError d c a desc kind resp) := by
  unfold State.dmaError
  split
  · exact h.dmaErrEnd
  · exact (h.setDm.setF not_busReg_chStat).dmaErrEnd

theorem dmaAnswer_error {b : Beat} (h : Ended d s t) : Ended d s (t.dmaAnswer d c b .errTimeout []) := by
  have hcomplete : ∀ {y : State} (v : BitVec 256), Ended d s y → Ended d s (y.dmaComplete d c v) := fun {y} v hy => by
    have hirq : Ended d s (if descIrq v then y.dmaBit (R.DMA_DONE d) c else y) := by
      split
      · exact hy.wr (not_busReg_dma _ (by simp))
      · exact hy
    unfold State.dmaComplete
    dsimp only
    generalize (if descIrq v then y.dmaBit (R.DMA_DONE d) c else y) = z at hirq
    split <;> exact hirq.setDm.setF not_busReg_chStat
  have hfence : ∀ {y : State}, Ended d s y → Ended d s (y.dmaFence d c) := fun {y} hy => by
    unfold State.dmaFence
    split
    · split
      · exact hcomplete _ hy
      · exact hy
    · exact hy
  have hsettle : ∀ {y : State}, Ended d s y → Ended d s (y.dmaSettle d c) := fun {y} hy => by
    unfold State.dmaSettle
    dsimp only
    split
    · exact hy.setDm.setF not_busReg_chStat
    · exact hy
  unfold State.dmaAnswer
  dsimp only
  split
  · exact h.setDm.dmaError
  · exact hsettle (hfence h.setDm).dmaErrEnd

variable {src addr : Nat}

theorem timeoutWaits (h : Ended d s t) : Ended d s (t.timeoutWaits src addr) := by
  unfold State.timeoutWaits
  dsimp only
  split
  · exact h.ports
  · exact h.ports

theorem dropAnswer (h : Ended d s t) : Ended d s (t.dropAnswer src addr) := h.drop.ports

theorem timeoutDma (h : Ended d s t) : Ended d s (t.timeoutDma d src addr) := by
  unfold State.timeoutDma
  split
  · exact h
  · split
    · exact h
    · exact h.dropAnswer.dmaAnswer_error

theorem timeoutFabric (h : Ended d s t) : Ended d s (t.timeoutFabric d src addr) := by
  unfold State.timeoutFabric
  split
  · dsimp only
    split
    · exact h
    · exact (h.dropAnswer.setFp.usedN).setF not_busReg_port
  · exact h

end Ended

/-! ### A timeout is counted and recorded -/

theorem prom_ne (d : Fin 6) : R.PROM_TMO_CNT d ≠ R.PROM_TSRC d ∧ R.PROM_TMO_CNT d ≠ R.PROM_TADDR_LO d ∧ R.PROM_TMO_CNT d ≠ R.PROM_TADDR_HI d ∧
    R.PROM_TMO_CNT d ≠ R.PROM_CAUSE d ∧ R.PROM_TSRC d ≠ R.PROM_TADDR_LO d ∧ R.PROM_TSRC d ≠ R.PROM_TADDR_HI d ∧ R.PROM_TSRC d ≠ R.PROM_CAUSE d ∧
    R.PROM_TADDR_LO d ≠ R.PROM_TADDR_HI d ∧ R.PROM_TADDR_LO d ≠ R.PROM_CAUSE d ∧ R.PROM_TADDR_HI d ≠ R.PROM_CAUSE d := by
  unfold R.PROM_TMO_CNT R.PROM_TSRC R.PROM_TADDR_LO R.PROM_TADDR_HI R.PROM_CAUSE
  omega

theorem busReg_prom (d : Fin 6) : ∀ a ∈ [R.PROM_TMO_CNT d, R.PROM_TSRC d, R.PROM_TADDR_LO d, R.PROM_TADDR_HI d, R.PROM_CAUSE d], BusReg d a := by
  unfold BusReg R.PROM_TMO_CNT R.PROM_TSRC R.PROM_TADDR_LO R.PROM_TADDR_HI R.PROM_CAUSE
  simp only [List.mem_cons, List.not_mem_nil, or_false]
  omega

/-- The clock at a timeout. -/
def State.timeoutNow (s : State) (d : Fin 6) (src addr : Nat) : State :=
  match s.issuedAt d src addr with
  | none => s
  | some t => s.at_ (t + s.timeoutLen d)

/-- The bridge has let the transaction go. -/
def State.timeoutGone (s : State) (d : Fin 6) (src addr : Nat) : State :=
  (s.timeoutNow d src addr).setBridge d (fun b => { b with sent := b.sent.filter (fun x => !(x.acc.src == src && x.acc.addr == addr)) })

/-- The timeout is in the die's registers. -/
def State.timeoutShown (s : State) (d : Fin 6) (src addr : Nat) : State :=
  let s := s.bump (R.PROM_TMO_CNT d) F.PROM_TMO_CNT_COUNT 1
  let s := s.wr (R.PROM_TSRC d) (BitVec.ofNat 32 src)
  let s := s.wrPair (R.PROM_TADDR_LO d) (R.PROM_TADDR_HI d) addr
  s.raise (R.PROM_CAUSE d) F.PROM_CAUSE_TMO

/-- The timeout is counted, and its late response will be known. -/
def State.timeoutKept (s : State) (d : Fin 6) (src addr : Nat) : State :=
  let s := ((s.timeoutGone d src addr).timeoutShown d src addr).tally d 0x69 1
  { s with txns := s.txns ++ [⟨d.val, src, addr⟩] }

theorem exec_transactionTimeout (src : BitVec 10) (addr : BitVec 48) : exec (.transactionTimeout d src addr) s =
    .next (((((s.timeoutKept d src.toNat addr.toNat).timeoutWaits src.toNat addr.toNat).timeoutDma d src.toNat addr.toNat).timeoutFabric
      d src.toNat addr.toNat).answer .errTimeout []) := rfl

theorem timeoutNow_frame (src addr : Nat) : s.timeoutNow d src addr = { s with now := (s.timeoutNow d src addr).now } := by
  unfold State.timeoutNow
  split <;> rfl

theorem timeoutNow_now {src addr n : Nat} (h : s.issuedAt d src addr = some n) : (s.timeoutNow d src addr).now = max s.now (n + s.timeoutLen d) := by
  rw [State.timeoutNow, h]
  rfl

theorem timeoutGone_sent (src addr : Nat) : ∀ x ∈ ((s.timeoutGone d src addr).bridgeAt d).sent, x ∈ (s.bridgeAt d).sent ∧
    (x.acc.src ≠ src ∨ x.acc.addr ≠ addr) := by
  intro x hx
  rw [State.timeoutGone, bridgeAt_setBridge, if_pos rfl, timeoutNow_frame] at hx
  obtain ⟨hmem, hne⟩ := List.mem_filter.mp hx
  exact ⟨hmem, by simpa [not_and_or, imp_iff_not_or] using hne⟩

/-- What shows of a timeout in the registers. -/
structure TimeoutReads (d : Fin 6) (src addr : Nat) (s t : State) : Prop where
  count : t.fld (R.PROM_TMO_CNT d) F.PROM_TMO_CNT_COUNT =
    min (s.fld (R.PROM_TMO_CNT d) F.PROM_TMO_CNT_COUNT + 1) (2 ^ F.PROM_TMO_CNT_COUNT.w - 1)
  cause : t.flag (R.PROM_CAUSE d) F.PROM_CAUSE_TMO = true
  source : t.rd (R.PROM_TSRC d) = BitVec.ofNat 32 src
  address : t.rdPair (R.PROM_TADDR_LO d) (R.PROM_TADDR_HI d) = addr

theorem TimeoutReads.congr {src addr : Nat} (h : TimeoutReads d src addr s t)
    (hrd : ∀ a ∈ [R.PROM_TMO_CNT d, R.PROM_TSRC d, R.PROM_TADDR_LO d, R.PROM_TADDR_HI d, R.PROM_CAUSE d], u.rd a = t.rd a) :
    TimeoutReads d src addr s u := by
  refine ⟨(fld_congr (hrd _ (by simp)) _).trans h.count, (flag_congr (hrd _ (by simp)) _).trans h.cause, (hrd _ (by simp)).trans h.source, ?_⟩
  rw [State.rdPair, hrd _ (by simp), hrd _ (by simp), ← State.rdPair]
  exact h.address

theorem timeoutShown_reads {src addr : Nat} (ha : addr < 2 ^ 64) : TimeoutReads d src addr s (s.timeoutShown d src addr) := by
  obtain ⟨h1, h2, h3, h4, h5, h6, h7, h8, h9, h10⟩ := prom_ne d
  unfold State.timeoutShown
  dsimp only
  refine ⟨?_, State.raise_flag _ _ _ (by decide) rfl, ?_, ?_⟩
  · rw [State.raise_eq, State.setF_fld_other _ _ _ _ _ _ (.inl h4), State.wrPair, State.wr_fld_other _ _ _ _ _ h3, State.wr_fld_other _ _ _ _ _ h2,
      State.wr_fld_other _ _ _ _ _ h1, State.bump_eq]
    exact setF_fld_of_lt (by decide) (lt_of_le_of_lt (min_le_right _ _) (by decide))
  · rw [State.raise_eq, State.setF_rd_other _ _ _ _ _ h7, State.wrPair, State.wr_rd_other _ _ _ _ h6, State.wr_rd_other _ _ _ _ h5, State.wr_rd_same]
  · rw [State.raise_eq, State.rdPair, State.setF_rd_other _ _ _ _ _ h9, State.setF_rd_other _ _ _ _ _ h10, ← State.rdPair, rdPair_wrPair h8 ha]

theorem timeoutShown_frame (src addr : Nat) : s.timeoutShown d src addr = { s with regs := (s.timeoutShown d src addr).regs } := by
  have h : OnlyRegs [R.PROM_TMO_CNT d, R.PROM_TSRC d, R.PROM_TADDR_LO d, R.PROM_TADDR_HI d, R.PROM_CAUSE d] s (s.timeoutShown d src addr) := by
    rw [State.timeoutShown, State.bump_eq, State.raise_eq]
    exact ((((OnlyRegs.refl _ s).setF (by simp)).wr (by simp)).wrPair (by simp) (by simp)).setF (by simp)
  exact h.1

/-- All that has happened before the waiting requesters are answered. -/
structure TimeoutKept (d : Fin 6) (src addr : Nat) (s t : State) : Prop extends TimeoutReads d src addr s t where
  frame : t = { s with now := t.now, regs := t.regs, bridge := t.bridge, mon := t.mon, txns := s.txns ++ [⟨d.val, src, addr⟩] }
  clock : t.now = (s.timeoutNow d src addr).now
  sent : ∀ x ∈ (t.bridgeAt d).sent, x ∈ (s.bridgeAt d).sent ∧ (x.acc.src ≠ src ∨ x.acc.addr ≠ addr)

theorem timeoutGone_frame (src addr : Nat) : s.timeoutGone d src addr = { s with
    now := (s.timeoutNow d src addr).now, bridge := (s.timeoutGone d src addr).bridge } := by
  rw [State.timeoutGone]
  generalize hn : s.timeoutNow d src addr = u
  have hu := timeoutNow_frame (s := s) (d := d) src addr
  rw [hn] at hu
  rw [hu]
  rfl

theorem kept_frame {w : State} {n : Nat} {b : Vector Bridge 6} {r : Sparse Word} {m : Vector Mon 6} {l : List Txn}
    (hu : u = { s with now := n, bridge := b }) (hw : w = { u with regs := r }) : let v := ({ w with mon := m, txns := w.txns ++ l } : State)
    v = { s with now := v.now, regs := v.regs, bridge := v.bridge, mon := v.mon, txns := s.txns ++ l } ∧ v.now = n ∧ v.bridgeAt d = u.bridgeAt d ∧
      ∀ a, v.rd a = w.rd a := by
  subst hu hw
  exact ⟨rfl, rfl, rfl, fun _ => rfl⟩

theorem timeoutKept_eq (src addr : Nat) : ∃ m, s.timeoutKept d src addr = { (s.timeoutGone d src addr).timeoutShown d src addr with
    mon := m, txns := ((s.timeoutGone d src addr).timeoutShown d src addr).txns ++ [⟨d.val, src, addr⟩] } := by
  rw [State.timeoutKept]
  generalize (s.timeoutGone d src addr).timeoutShown d src addr = w
  obtain ⟨m, hm⟩ := tally_eq w d 0x69 1
  exact ⟨m, by rw [hm]⟩

theorem timeoutKept_kept {src addr : Nat} (ha : addr < 2 ^ 64) : TimeoutKept d src addr s (s.timeoutKept d src addr) := by
  have hgone := timeoutGone_frame (s := s) (d := d) src addr
  have hreads := timeoutShown_reads (s := s.timeoutGone d src addr) (d := d) (src := src) ha
  have hshown := timeoutShown_frame (s := s.timeoutGone d src addr) (d := d) src addr
  have hfld : (s.timeoutGone d src addr).fld (R.PROM_TMO_CNT d) F.PROM_TMO_CNT_COUNT = s.fld (R.PROM_TMO_CNT d) F.PROM_TMO_CNT_COUNT := by
    rw [hgone]
    rfl
  have hsent := timeoutGone_sent (s := s) (d := d) src addr
  obtain ⟨m, hm⟩ := timeoutKept_eq (s := s) (d := d) src addr
  obtain ⟨hframe, hnow, hbridge, hrd⟩ := kept_frame (d := d) (m := m) (l := [⟨d.val, src, addr⟩]) hgone hshown
  have hcongr := hreads.congr fun a _ => hrd a
  rw [hm]
  exact ⟨⟨hcongr.count.trans (by rw [hfld]), hcongr.cause, hcongr.source, hcongr.address⟩, hframe, hnow, fun x hx => hsent x (by rw [← hbridge]; exact hx)⟩

/-- What the end of the waiting requests leaves of it. -/
theorem Ended.timeout {src addr : Nat} (h : TimeoutKept d src addr s t) (he : Ended d t u) : TimeoutReads d src addr s u ∧
    u.txns = s.txns ++ [⟨d.val, src, addr⟩] ∧ u.now = (s.timeoutNow d src addr).now ∧ u.lines = s.lines ∧ u.grp = s.grp ∧
    ∀ x ∈ (u.bridgeAt d).sent, x ∈ (s.bridgeAt d).sent ∧ (x.acc.src ≠ src ∨ x.acc.addr ≠ addr) := by
  have hf := he.frame
  have hk := h.frame
  refine ⟨h.toTimeoutReads.congr fun a ha => he.regs a (busReg_prom d a ha), ?_, ?_, ?_, ?_, fun x hx => h.sent x (he.sent x hx)⟩
  · rw [hf, hk]
  · rw [← h.clock, hf]
  · rw [hf, hk]
  · rw [hf, hk]

/-- A transaction that times out (R447). -/
theorem transactionTimeout_spec (src : BitVec 10) (addr : BitVec 48) : After (.transactionTimeout d src addr) s (fun t => t.reply = ⟨some .errTimeout, []⟩ ∧
    t.txns = s.txns ++ [⟨d.val, src.toNat, addr.toNat⟩] ∧
    (∀ u, s.issuedAt d src.toNat addr.toNat = some u → t.now = max s.now (u + s.timeoutLen d)) ∧
    (∀ x ∈ (t.bridgeAt d).sent, x ∈ (s.bridgeAt d).sent ∧ (x.acc.src ≠ src.toNat ∨ x.acc.addr ≠ addr.toNat)) ∧
    t.fld (R.PROM_TMO_CNT d) F.PROM_TMO_CNT_COUNT =
      min (s.fld (R.PROM_TMO_CNT d) F.PROM_TMO_CNT_COUNT + 1) (2 ^ F.PROM_TMO_CNT_COUNT.w - 1) ∧
    t.flag (R.PROM_CAUSE d) F.PROM_CAUSE_TMO = true ∧ t.rd (R.PROM_TSRC d) = BitVec.ofNat 32 src.toNat ∧
    t.rdPair (R.PROM_TADDR_LO d) (R.PROM_TADDR_HI d) = addr.toNat ∧ t.lines = s.lines ∧ t.grp = s.grp) := by
  have hkept := timeoutKept_kept (s := s) (d := d) (src := src.toNat) (addr := addr.toNat) (by omega)
  have hend := (Ended.refl (d := d) (s.timeoutKept d src.toNat addr.toNat)).timeoutWaits (src := src.toNat) (addr := addr.toNat)
    |>.timeoutDma (src := src.toNat) (addr := addr.toNat) |>.timeoutFabric (src := src.toNat) (addr := addr.toNat)
  have hnow : ∀ n, s.issuedAt d src.toNat addr.toNat = some n → (s.timeoutNow d src.toNat addr.toNat).now = max s.now (n + s.timeoutLen d) :=
    fun n hn => timeoutNow_now hn
  refine ⟨_, exec_transactionTimeout src addr, rfl, ?_⟩
  generalize (((s.timeoutKept d src.toNat addr.toNat).timeoutWaits src.toNat addr.toNat).timeoutDma d src.toNat addr.toNat).timeoutFabric
      d src.toNat addr.toNat = u at hend
  obtain ⟨hreads, htx, hclock, hlines, hgrp, hsent⟩ := hend.timeout hkept
  exact ⟨htx, fun n hn => hclock.trans (hnow n hn), hsent, hreads.count, hreads.cause, hreads.source, hreads.address, hlines, hgrp⟩

/-! ### Late responses -/

theorem exec_lateResponse {src : BitVec 10} {addr : BitVec 48} (h : ⟨d.val, src.toNat, addr.toNat⟩ ∈ s.txns) : exec (.lateResponse d src addr) s =
    .next (({ s with txns := s.txns.erase ⟨d.val, src.toNat, addr.toNat⟩ } : State).raise (R.PROM_CAUSE d) F.PROM_CAUSE_LATE) :=
  if_pos (by rw [List.contains_iff_mem]; exact h)

theorem raise_txns {l : List Txn} (a : Nat) (f : Fld) : let t := ({ s with txns := l } : State).raise a f
    t = { s with regs := t.regs, txns := l } ∧ Writes [(a, [(f, 1)])] s t := by
  obtain ⟨hframe, hwrites⟩ := onlyWrites_raise (s := { s with txns := l }) a f
  exact ⟨hframe, hwrites⟩

/-! ### Transactions with other devices -/

/-- A transaction that is not refused leaves by a port. -/
theorem pathTo_of_accepted {src dev off : Nat} (h : s.remoteRefuse src dev off = none) : ∃ q, s.pathTo dev = some q := by
  rw [State.remoteRefuse] at h
  cases hq : s.pathTo dev with
  | some q => exact ⟨q, rfl⟩
  | none =>
    rw [hq] at h
    split at h
    · cases h
    · rw [if_pos (.inr (.inl rfl))] at h
      cases h

/-- A port with flits more to send, their contents free values from number c on. -/
def Tether.moreFlits (x : Tether) (c n : Nat) : Tether :=
  { x with
    flitq := x.flitq ++ (List.range n).map (fun i => ⟨x.nextFlit + i, BitVec.ofNat 512 (Config.freeValue (c + i)), 0⟩)
    nextFlit := x.nextFlit + n }

theorem putFlits_eq (p : Fin 12) (n : Nat) : s.putFlits p n = (s.modPort p (fun x => x.moreFlits s.freeCtr n)).usedN n := rfl

theorem usedN_tport (n : Nat) (p : Fin 12) : (s.usedN n).tport p = s.tport p := (rfl)

theorem putFlits_spec (p : Fin 12) (n : Nat) : let t := s.putFlits p n
    t = { s with tsy := { s.tsy with port := t.tsy.port }, freeCtr := t.freeCtr } ∧ (∀ k, k ≠ p → t.tport k = s.tport k) ∧
    (t.tport p).flitq.length = (s.tport p).flitq.length + n := by
  rw [putFlits_eq]
  refine ⟨rfl, fun k hk => ?_, ?_⟩
  · rw [usedN_tport, modPort_tport_other _ hk]
  · rw [usedN_tport, modPort_tport_same]
    simp [Tether.moreFlits]

theorem remoteSend_refused {x : Access} {dev off : Nat} {resp r : Resp} {data : List Nat} (h : placeOf x.addr = .remote dev off)
    (hr : s.remoteRefuse x.src dev off = some r) : exec (.remoteTransaction (.send x resp data)) s = .next { s with reply := ⟨some r, []⟩ } := by
  show Host.Outcome.next (s.remoteSend x resp data) = _
  rw [State.remoteSend, h]
  dsimp only
  rw [hr]
  rfl

theorem remoteFlits_frame {v w : State} (h : w = { v with tsy := { v.tsy with port := w.tsy.port }, freeCtr := w.freeCtr })
    {o : List Output} (hv : v = { s with out := o, freeCtr := v.freeCtr }) {l : List Access} {e : List (Access × Resp × List Nat)} :
    let t := ({ w with remoteOut := l, remoteDone := e } : State)
    t = { s with out := o, remoteOut := l, remoteDone := e, tsy := { s.tsy with port := t.tsy.port }, freeCtr := t.freeCtr } ∧
      w.remoteOut = s.remoteOut ∧ w.remoteDone = s.remoteDone := by
  generalize w.tsy.port = x at h
  generalize w.freeCtr = n at h
  generalize v.freeCtr = m at hv
  subst h hv
  exact ⟨rfl, rfl, rfl⟩

/-- The state of a transaction that leaves, its flits at the port. -/
def State.sentOn (s : State) (dev off : Nat) (x : Access) (q : Fin 12) : State :=
  ((s.emit (.remote dev off { x with debug := false })).used).putFlits q (1 + (if x.write then (x.size + 63) / 64 else 0))

/-- The answer of a transaction that leaves is kept for the requester that waits. -/
def State.remoteKept (s : State) (x : Access) (resp : Resp) (data : List Nat) : State :=
  if s.remoteOut.contains x then { s with remoteOut := s.remoteOut.erase x, remoteDone := s.remoteDone ++ [(x, resp, data)] }
  else s.answer resp data

theorem remoteSend_leaves {x : Access} {dev off : Nat} {q : Fin 12} {resp : Resp} {data : List Nat} (h : placeOf x.addr = .remote dev off)
    (hr : s.remoteRefuse x.src dev off = none) (hx : x ∈ s.remoteOut) (hq : s.pathTo dev = some q) :
    exec (.remoteTransaction (.send x resp data)) s = .next { s.sentOn dev off x q with
      remoteOut := s.remoteOut.erase x, remoteDone := s.remoteDone ++ [(x, resp, data)] } := by
  have hpath : (s.emit (.remote dev off { x with debug := false })).pathTo dev = some q := hq
  obtain ⟨hframe, -⟩ := putFlits_spec (s := (s.emit (.remote dev off { x with debug := false })).used) q
    (1 + (if x.write then (x.size + 63) / 64 else 0))
  obtain ⟨-, hout, hdone⟩ := remoteFlits_frame (s := s) (l := []) (e := []) hframe rfl
  show Host.Outcome.next (s.remoteSend x resp data) = _
  rw [State.remoteSend, h]
  dsimp only
  rw [hr]
  dsimp only
  rw [State.remoteFlits, hpath]
  change Host.Outcome.next ((s.sentOn dev off x q).remoteKept x resp data) = _
  rw [← State.sentOn] at hout hdone
  rw [State.remoteKept, hout, hdone, if_pos (by rw [List.contains_iff_mem]; exact hx)]

theorem sentOn_spec {x : Access} {dev off : Nat} {q : Fin 12} (l : List Access) (e : List (Access × Resp × List Nat)) :
    let t := ({ s.sentOn dev off x q with remoteOut := l, remoteDone := e } : State)
    t = { s with
      out := Output.remote dev off { x with debug := false } :: s.out, remoteOut := l, remoteDone := e, tsy := { s.tsy with port := t.tsy.port }
      freeCtr := t.freeCtr } ∧ (∀ k, k ≠ q → t.tport k = s.tport k) ∧
    (t.tport q).flitq.length = (s.tport q).flitq.length + 1 + (if x.write then (x.size + 63) / 64 else 0) := by
  obtain ⟨hframe, hother, hlen⟩ := putFlits_spec (s := (s.emit (.remote dev off { x with debug := false })).used) q
    (1 + (if x.write then (x.size + 63) / 64 else 0))
  obtain ⟨hall, -, -⟩ := remoteFlits_frame (l := l) (e := e) hframe rfl
  exact ⟨hall, hother, hlen.trans (Nat.add_assoc _ _ _).symm⟩

theorem remoteRecv_eq {x : Access} {off loc : Nat} (h : remoteLocal off = some loc) :
    let a := s.access { x with src := 0x61, addr := loc, debug := false } envs
    exec (.remoteTransaction (.recv off x envs)) s = .next { a.st with reply := ⟨a.resp, a.data⟩ } := by
  show s.remoteRecv off x envs = _
  rw [State.remoteRecv, h]
  rfl

/-! ### Settled -/

/-- Settles O44: each command is the access it makes, with its answer; a timeout writes only the bus block and ends what waits. -/
theorem busAccessesAndTimeouts : Obligations.BusAccessesAndTimeouts := by
  intro s src addr size data dbg envs d
  refine ⟨⟨_, exec_latchRead src addr size dbg, rfl, fun h => ?_⟩, ⟨_, exec_registerWrite src addr data dbg, rfl, fun h => ?_, fun h => ?_⟩,
    fun off write hoff => ?_, fun off h h' => ⟨_, exec_pcieInbound_gap h h', rfl⟩, transactionTimeout_spec src addr, fun h => ⟨_, exec_lateResponse h, raise_txns _ _⟩,
    fun x dev off resp hp => ⟨fun r hr => ⟨_, remoteSend_refused hp hr, rfl⟩, fun hr hx => ?_⟩, fun x off loc h => ⟨_, remoteRecv_eq h, rfl⟩⟩
  · rw [access_crossing (acc := readAcc src.toNat addr.toNat size dbg) h]
  · obtain ⟨m, hm⟩ := access_nowhere (s := s) (envs := envs) (acc := writeAcc src.toNat addr.toNat data dbg) h
    rw [hm]
    exact ⟨rfl, rfl⟩
  · rw [access_crossing (acc := writeAcc src.toNat addr.toNat data dbg) h]
  · intro a r hr
    refine ⟨_, exec_pcieInbound_access hoff hr, fun hw => ?_, fun hw => ?_⟩
    · subst hw
      rfl
    · obtain ⟨hframe, hur, hca⟩ := aerNote_spec (s := a.st) r
      rw [State.pcieEnd, if_pos hw]
      exact ⟨congrArg (fun z : State => ({ z with reply := ⟨none, []⟩ } : State)) hframe, hur, hca⟩
  · obtain ⟨q, hq⟩ := pathTo_of_accepted hr
    obtain ⟨hframe, hother, hlen⟩ := sentOn_spec (s := s) (x := x) (dev := dev) (off := off) (q := q) (s.remoteOut.erase x)
      (s.remoteDone ++ [(x, resp, data)])
    exact ⟨_, remoteSend_leaves hp hr hx hq, hframe, q, hq, hother, hlen⟩

end Sys2Proof.Machine
end

section
/-! The debug state leaves FULL: halted cores resume and breakpoints are disarmed (16_security_lifecycle.md R540). -/
namespace Sys2Proof.Machine
variable {s t u : State} {m k : Fin 12}

/-! ### Cores resume -/

/-- The registers that the release of a core writes. -/
def ReleaseReg (a : Nat) : Prop :=
  (∃ m : Fin 12, a = R.CC_STAT m ∨ a = R.DBG_STAT m ∨ a = R.CC_WDT_CNT m) ∨ ∃ q, q < 24 ∧ a = R.MDSP_CYC q

theorem ccStat_ne (m k : Fin 12) : R.CC_STAT m ≠ R.DBG_STAT k ∧ R.CC_STAT m ≠ R.CC_WDT_CNT k ∧ (m ≠ k → R.CC_STAT m ≠ R.CC_STAT k) ∧
    ∀ q, q < 24 → R.CC_STAT m ≠ R.MDSP_CYC q := by
  have hm := m.isLt
  have hk := k.isLt
  unfold R.CC_STAT R.DBG_STAT R.CC_WDT_CNT R.MDSP_CYC ccBase dbgBase mdspBase dieBase
  refine ⟨by omega, by omega, fun h => ?_, fun q hq => by omega⟩
  have hne : m.val ≠ k.val := fun e => h (Fin.ext e)
  omega

theorem not_releaseReg_debug (m : Fin 12) : ¬ ReleaseReg (R.DBG_CTRL m) ∧ ∀ b, b < 8 → ¬ ReleaseReg (R.DBG_BP_CTRL m b) := by
  have hm := m.isLt
  refine ⟨?_, fun b hb => ?_⟩
  · rintro (⟨k, h⟩ | ⟨q, hq, h⟩)
    · have hk := k.isLt
      unfold R.CC_STAT R.DBG_STAT R.CC_WDT_CNT R.DBG_CTRL ccBase dbgBase dieBase at h
      omega
    · unfold R.DBG_CTRL R.MDSP_CYC dbgBase mdspBase dieBase at h
      omega
  · rintro (⟨k, h⟩ | ⟨q, hq, h⟩)
    · have hk := k.isLt
      unfold R.CC_STAT R.DBG_STAT R.CC_WDT_CNT R.DBG_BP_CTRL ccBase dbgBase dieBase at h
      omega
    · unfold R.DBG_BP_CTRL R.MDSP_CYC dbgBase mdspBase dieBase at h
      omega

theorem not_releaseReg_keeper : ¬ ReleaseReg R.KPR_STAT ∧ ¬ ReleaseReg R.KPR_CAUSE := by
  unfold ReleaseReg R.CC_STAT R.DBG_STAT R.CC_WDT_CNT R.MDSP_CYC R.KPR_STAT R.KPR_CAUSE ccBase dbgBase mdspBase dieBase kprBase packageBase
  refine ⟨?_, ?_⟩
  · rintro (⟨m, h⟩ | ⟨q, hq, h⟩)
    · have hm := m.isLt
      omega
    · omega
  · rintro (⟨m, h⟩ | ⟨q, hq, h⟩)
    · have hm := m.isLt
      omega
    · omega

/-- Cores may have been released; what else differs is what measurement DSP cores have waited. -/
structure Released (s t : State) : Prop where
  frame : t = { s with regs := t.regs, core := t.core, mdsp := t.mdsp, mon := t.mon }
  regs : ∀ a, ¬ ReleaseReg a → t.rd a = s.rd a
  state : ∀ m : Fin 12, t.ccState m = s.ccState m ∨ t.ccState m = 1

theorem released_frame (h : t = { s with regs := t.regs, core := t.core, mdsp := t.mdsp, mon := t.mon })
    (l : Sparse Word) (c : Vector Core 12) (x : Vector Mdsp 24) (y : Vector Mon 6) :
    ({ t with regs := l, core := c, mdsp := x, mon := y } : State) = { s with regs := l, core := c, mdsp := x, mon := y } := by rw [h]

theorem released_setF (h : t = { s with regs := t.regs, core := t.core, mdsp := t.mdsp, mon := t.mon }) (a n : Nat) (f : Fld) :
    t.setF a f n = { s with regs := (t.setF a f n).regs, core := (t.setF a f n).core, mdsp := (t.setF a f n).mdsp, mon := (t.setF a f n).mon } :=
  released_frame h _ _ _ _

theorem ccState_congr (h : t.rd (R.CC_STAT m) = s.rd (R.CC_STAT m)) : t.ccState m = s.ccState m := fld_congr h _

namespace Released

theorem refl (s : State) : Released s s := ⟨rfl, fun _ _ => rfl, fun _ => .inl rfl⟩

theorem modCr {f : Core → Core} (h : Released s t) : Released s (t.modCr m f) :=
  ⟨released_frame h.frame _ _ _ _, h.regs, h.state⟩

theorem wr {a : Nat} {w : Word} (h : Released s t) (ha : ReleaseReg a) (hs : ∀ k : Fin 12, R.CC_STAT k ≠ a) : Released s (t.wr a w) := by
  refine ⟨released_frame h.frame _ _ _ _, fun b hb => ?_, fun k => ?_⟩
  · rw [State.wr_rd_other _ _ _ _ (by rintro rfl; exact hb ha), h.regs b hb]
  · rw [ccState_congr (State.wr_rd_other _ _ _ _ (hs k))]
    exact h.state k

theorem setF {a n : Nat} {f : Fld} (h : Released s t) (ha : ReleaseReg a) (hs : ∀ k : Fin 12, R.CC_STAT k ≠ a) : Released s (t.setF a f n) := h.wr ha hs

/-- A core goes on. -/
theorem run (h : Released s t) : Released s (t.setCc m 1) := by
  have ha : ReleaseReg (R.CC_STAT m) := .inl ⟨m, .inl rfl⟩
  have hother : ∀ k : Fin 12, k ≠ m → (t.setF (R.CC_STAT m) F.CC_STAT_STATE 1).ccState k = t.ccState k := fun k hk =>
    ccState_congr (State.setF_rd_other _ _ _ _ _ ((ccStat_ne k m).2.2.1 hk))
  have hsame : (t.setF (R.CC_STAT m) F.CC_STAT_STATE 1).ccState m = 1 := setF_fld_of_lt (by decide) (by decide)
  rw [State.setCc]
  refine ⟨released_setF h.frame _ _ _, fun b hb => ?_, fun k => ?_⟩
  · rw [State.setF_rd_other _ _ _ _ _ (by rintro rfl; exact hb ha), h.regs b hb]
  · by_cases hk : k = m
    · rw [hk]
      exact .inr (setCc_state (by decide))
    · rw [ccState_congr (State.setF_rd_other _ _ _ _ _ ((ccStat_ne k m).2.2.1 hk))]
      exact h.state k

theorem settle {d : Nat} (hd : d < 6) (h : Released s t) : Released s (t.mdSettleDie d) := by
  have hset : Settled d t (t.mdSettleDie d) := (Settled.refl d t).mdSettleDie
  generalize t.mdSettleDie d = v at hset
  have hcore : v.core = t.core := (congrArg State.core hset.frame :)
  refine ⟨?_, fun a ha => ?_, fun k => ?_⟩
  · rw [hset.frame]
    exact released_frame h.frame v.regs t.core v.mdsp v.mon
  · rw [hset.rd fun c hc e => ha (.inr ⟨4 * d + c, by omega, e⟩), h.regs a ha]
  · rw [ccState_congr (hset.rd fun c hc => (ccStat_ne k k).2.2.2 _ (by omega))]
    exact h.state k

theorem releaseOne {step : Bool} (h : Released s t) : Released s (t.releaseOne m step) := by
  have hm := m.isLt
  have hstat : ReleaseReg (R.DBG_STAT m) := .inl ⟨m, .inr (.inl rfl)⟩
  have hcnt : ReleaseReg (R.CC_WDT_CNT m) := .inl ⟨m, .inr (.inr rfl)⟩
  have hgo := (((h.settle (d := m.val / 2) (by omega)).modCr (m := m) (f := fun c => { c with
    pc := w64 ((t.mdSettleDie (m.val / 2)).rdPair (R.DBG_DPC_LO m) (R.DBG_DPC_HI m)), stepping := step, byPeer := false })).setF
    (f := F.DBG_STAT_HALTED) (n := 0) hstat fun k => (ccStat_ne k m).1).run (m := m)
  unfold State.releaseOne
  dsimp only
  rw [State.setB_eq]
  split
  · exact hgo.wr hcnt fun k => (ccStat_ne k m).2.1
  · exact hgo

theorem resumeCore {step : Bool} (h : Released s t) : Released s (t.resumeCore m step) := by
  unfold State.resumeCore
  split
  · dsimp only
    split
    · exact h.releaseOne.releaseOne
    · split
      · exact h.releaseOne.modCr
      · exact h.releaseOne
  · exact h

end Released

/-- A core that has been released runs. -/
theorem releaseOne_runs {step : Bool} : (s.releaseOne m step).ccState m = 1 := by
  unfold State.releaseOne
  dsimp only
  rw [State.setB_eq]
  split
  · rw [ccState_congr (State.wr_rd_other _ _ _ _ (ccStat_ne m m).2.1), setCc_state (by decide)]
  · exact setCc_state (by decide)

theorem resumeCore_runs {step : Bool} : (s.resumeCore m step).ccState m ≠ 2 := by
  have hone : ∀ {y z : State}, y.ccState m = 1 → Released y z → z.ccState m ≠ 2 := fun hy h => by
    rcases h.state m with e | e
    · rw [e, hy]
      decide
    · rw [e]
      decide
  unfold State.resumeCore
  split
  · dsimp only
    split
    · exact hone releaseOne_runs (Released.refl _).releaseOne
    · split
      · exact hone releaseOne_runs (Released.refl _).modCr
      · exact hone releaseOne_runs (Released.refl _)
  · assumption

/-- Every halted core has resumed. -/
def State.resumeAll (s : State) : State := forEach (List.finRange 12) (fun m s => s.resumeCore m false) s

theorem resumeAll_spec : Released s s.resumeAll ∧ ∀ m : Fin 12, s.ccState m = 2 → s.resumeAll.ccState m = 1 := by
  obtain ⟨hrel, hrun⟩ := forEach_each (P := Released s) (Q := fun (m : Fin 12) y => y.ccState m ≠ 2) (f := fun m s => s.resumeCore m false)
    (List.finRange 12) (Released.refl s) (fun _ _ hy => ⟨hy.resumeCore, resumeCore_runs⟩) fun m k y _ hm => by
      rcases ((Released.refl y).resumeCore (m := k) (step := false)).state m with e | e
      · rwa [e]
      · rw [e]
        decide
  refine ⟨hrel, fun m h2 => ?_⟩
  rcases hrel.state m with e | e
  · exact absurd (e.trans h2) (hrun m (List.mem_finRange m))
  · exact e

/-! ### Breakpoints are disarmed -/

theorem debug_ne (m k : Fin 12) : (m ≠ k → R.DBG_CTRL m ≠ R.DBG_CTRL k) ∧ (∀ b, b < 8 → R.DBG_CTRL m ≠ R.DBG_BP_CTRL k b ∧ R.CC_STAT m ≠ R.DBG_BP_CTRL k b) ∧
    (∀ b c, b < 8 → c < 8 → (m ≠ k ∨ b ≠ c) → R.DBG_BP_CTRL m b ≠ R.DBG_BP_CTRL k c) ∧ R.CC_STAT m ≠ R.DBG_CTRL k := by
  have hm := m.isLt
  have hk := k.isLt
  unfold R.DBG_CTRL R.DBG_BP_CTRL R.CC_STAT ccBase dbgBase dieBase
  refine ⟨fun h => ?_, fun b hb => by omega, fun b c hb hc h => ?_, by omega⟩
  · have hne : m.val ≠ k.val := fun e => h (Fin.ext e)
    omega
  · rcases h with h | h
    · have hne : m.val ≠ k.val := fun e => h (Fin.ext e)
      omega
    · omega

/-- A register of the breakpoints' controls or of DBG_CTRL. -/
def DisarmReg (a : Nat) : Prop := ∃ m : Fin 12, a = R.DBG_CTRL m ∨ ∃ b, b < 8 ∧ a = R.DBG_BP_CTRL m b

theorem not_disarmReg_keeper : ¬ DisarmReg R.KPR_STAT ∧ ¬ DisarmReg R.KPR_CAUSE := by
  unfold DisarmReg R.DBG_CTRL R.DBG_BP_CTRL R.KPR_STAT R.KPR_CAUSE dbgBase dieBase kprBase packageBase
  refine ⟨?_, ?_⟩
  · rintro ⟨m, h | ⟨b, hb, h⟩⟩ <;> have hm := m.isLt <;> omega
  · rintro ⟨m, h | ⟨b, hb, h⟩⟩ <;> have hm := m.isLt <;> omega

theorem not_disarmReg_ccStat (m : Fin 12) : ¬ DisarmReg (R.CC_STAT m) := by
  rintro ⟨k, h | ⟨b, hb, h⟩⟩
  · exact (debug_ne m k).2.2.2 h
  · exact ((debug_ne m k).2.1 b hb).2 h

/-- Some breakpoints may have been disarmed. -/
structure Disarming (s t : State) : Prop where
  frame : t = { s with regs := t.regs }
  ctrl : ∀ m : Fin 12, t.rd (R.DBG_CTRL m) = s.rd (R.DBG_CTRL m) ∨ t.rd (R.DBG_CTRL m) = s.rd (R.DBG_CTRL m) &&& 0xFFFFFF8F#32
  bp : ∀ (m : Fin 12) (b : Nat), b < 8 → t.rd (R.DBG_BP_CTRL m b) = s.rd (R.DBG_BP_CTRL m b) ∨
    t.rd (R.DBG_BP_CTRL m b) = s.rd (R.DBG_BP_CTRL m b) &&& 0xFFFFFFF8#32
  other : ∀ a, ¬ DisarmReg a → t.rd a = s.rd a

def State.disarmBp (m : Fin 12) (b : Nat) (s : State) : State := s.wr (R.DBG_BP_CTRL m b) (s.rd (R.DBG_BP_CTRL m b) &&& 0xFFFFFFF8#32)
def State.disarmCtrl (m : Fin 12) (s : State) : State := s.wr (R.DBG_CTRL m) (s.rd (R.DBG_CTRL m) &&& 0xFFFFFF8F#32)
def State.disarmCore (m : Fin 12) (s : State) : State := (forEach (List.range 8) (State.disarmBp m) s).disarmCtrl m

theorem masked {x y k : Word} (h : x = y ∨ x = y &&& k) : x &&& k = y &&& k := by
  rcases h with h | h
  · rw [h]
  · rw [h, BitVec.and_assoc, BitVec.and_self]

namespace Disarming

theorem refl (s : State) : Disarming s s := ⟨rfl, fun _ => .inl rfl, fun _ _ _ => .inl rfl, fun _ _ => rfl⟩

theorem disarmBp {b : Nat} (hb : b < 8) (h : Disarming s t) : Disarming s (t.disarmBp m b) ∧
    (t.disarmBp m b).rd (R.DBG_BP_CTRL m b) = s.rd (R.DBG_BP_CTRL m b) &&& 0xFFFFFFF8#32 := by
  have hsame : (t.disarmBp m b).rd (R.DBG_BP_CTRL m b) = s.rd (R.DBG_BP_CTRL m b) &&& 0xFFFFFFF8#32 := by
    rw [State.disarmBp, State.wr_rd_same, masked (h.bp m b hb)]
  refine ⟨⟨regs_frame h.frame _, fun k => ?_, fun k c hc => ?_, fun a ha => ?_⟩, hsame⟩
  · rw [State.disarmBp, State.wr_rd_other _ _ _ _ ((debug_ne k m).2.1 b hb).1]
    exact h.ctrl k
  · by_cases hk : k = m ∧ c = b
    · obtain ⟨rfl, rfl⟩ := hk
      exact .inr hsame
    · rw [State.disarmBp, State.wr_rd_other _ _ _ _ ((debug_ne k m).2.2.1 c b hc hb (by tauto))]
      exact h.bp k c hc
  · rw [State.disarmBp, State.wr_rd_other _ _ _ _ fun e => ha ⟨m, .inr ⟨b, hb, e⟩⟩, h.other a ha]

theorem disarmCtrl (h : Disarming s t) : Disarming s (t.disarmCtrl m) ∧
    (t.disarmCtrl m).rd (R.DBG_CTRL m) = s.rd (R.DBG_CTRL m) &&& 0xFFFFFF8F#32 := by
  have hsame : (t.disarmCtrl m).rd (R.DBG_CTRL m) = s.rd (R.DBG_CTRL m) &&& 0xFFFFFF8F#32 := by
    rw [State.disarmCtrl, State.wr_rd_same, masked (h.ctrl m)]
  refine ⟨⟨regs_frame h.frame _, fun k => ?_, fun k c hc => ?_, fun a ha => ?_⟩, hsame⟩
  · by_cases hk : k = m
    · rw [hk]
      exact .inr hsame
    · rw [State.disarmCtrl, State.wr_rd_other _ _ _ _ ((debug_ne k m).1 hk)]
      exact h.ctrl k
  · rw [State.disarmCtrl, State.wr_rd_other _ _ _ _ ((debug_ne m k).2.1 c hc).1.symm]
    exact h.bp k c hc
  · rw [State.disarmCtrl, State.wr_rd_other _ _ _ _ fun e => ha ⟨m, .inl e⟩, h.other a ha]

/-- A register that has been masked stays masked. -/
theorem ctrl_stays {k : Fin 12} {x : Word} (h : Disarming s t) (hx : s.rd (R.DBG_CTRL k) = x &&& 0xFFFFFF8F#32) :
    t.rd (R.DBG_CTRL k) = x &&& 0xFFFFFF8F#32 := by
  rcases h.ctrl k with e | e
  · rw [e, hx]
  · rw [e, hx, BitVec.and_assoc, BitVec.and_self]

theorem bp_stays {k : Fin 12} {b : Nat} {x : Word} (hb : b < 8) (h : Disarming s t) (hx : s.rd (R.DBG_BP_CTRL k b) = x &&& 0xFFFFFFF8#32) :
    t.rd (R.DBG_BP_CTRL k b) = x &&& 0xFFFFFFF8#32 := by
  rcases h.bp k b hb with e | e
  · rw [e, hx]
  · rw [e, hx, BitVec.and_assoc, BitVec.and_self]

theorem disarmBps (h : Disarming s t) : Disarming s (forEach (List.range 8) (State.disarmBp m) t) ∧
    ∀ b ∈ (List.range 8), (forEach (List.range 8) (State.disarmBp m) t).rd (R.DBG_BP_CTRL m b) = s.rd (R.DBG_BP_CTRL m b) &&& 0xFFFFFFF8#32 := by
  have hin : ∀ (l : List Nat), (∀ b ∈ l, b < 8) → ∀ y, Disarming s y → Disarming s (forEach l (State.disarmBp m) y) ∧
      ∀ b ∈ l, (forEach l (State.disarmBp m) y).rd (R.DBG_BP_CTRL m b) = s.rd (R.DBG_BP_CTRL m b) &&& 0xFFFFFFF8#32 := by
    intro l
    induction l with
    | nil => exact fun _ y hy => ⟨hy, nofun⟩
    | cons b l ih =>
      intro hl y hy
      obtain ⟨hstep, hset⟩ := hy.disarmBp (m := m) (hl b (by simp))
      obtain ⟨hrest, hbits⟩ := ih (fun c hc => hl c (by simp [hc])) _ hstep
      rw [forEach_cons]
      refine ⟨hrest, fun c hc => ?_⟩
      rcases List.mem_cons.mp hc with rfl | hc
      · have hall : Disarming (y.disarmBp m c) (forEach l (State.disarmBp m) (y.disarmBp m c)) :=
          forEach_induct (P := Disarming (y.disarmBp m c)) (.refl _) fun d hd z hz => (hz.disarmBp (hl d (by simp [hd]))).1
        exact hall.bp_stays (hl c (by simp)) hset
      · exact hbits c hc
  exact hin _ (fun b hb => List.mem_range.mp hb) t h

theorem disarmCore (h : Disarming s t) : Disarming s (t.disarmCore m) ∧
    (t.disarmCore m).rd (R.DBG_CTRL m) = s.rd (R.DBG_CTRL m) &&& 0xFFFFFF8F#32 ∧
    ∀ b, b < 8 → (t.disarmCore m).rd (R.DBG_BP_CTRL m b) = s.rd (R.DBG_BP_CTRL m b) &&& 0xFFFFFFF8#32 := by
  obtain ⟨hall, hbps⟩ := h.disarmBps (m := m)
  obtain ⟨hfull, hctrl⟩ := hall.disarmCtrl (m := m)
  refine ⟨hfull, hctrl, fun b hb => ?_⟩
  rw [State.disarmCore, State.disarmCtrl, State.wr_rd_other _ _ _ _ ((debug_ne m m).2.1 b hb).1.symm]
  exact hbps b (List.mem_range.mpr hb)

end Disarming

/-- Every breakpoint has been disarmed. -/
def State.disarmAll (s : State) : State := forEach (List.finRange 12) State.disarmCore s

theorem disarmAll_spec : Disarming s s.disarmAll ∧ ∀ m : Fin 12, s.disarmAll.rd (R.DBG_CTRL m) = s.rd (R.DBG_CTRL m) &&& 0xFFFFFF8F#32 ∧
    ∀ b, b < 8 → s.disarmAll.rd (R.DBG_BP_CTRL m b) = s.rd (R.DBG_BP_CTRL m b) &&& 0xFFFFFFF8#32 := by
  obtain ⟨hall, hset⟩ := forEach_each (P := Disarming s) (Q := fun (m : Fin 12) y => y.rd (R.DBG_CTRL m) = s.rd (R.DBG_CTRL m) &&& 0xFFFFFF8F#32 ∧
      ∀ b, b < 8 → y.rd (R.DBG_BP_CTRL m b) = s.rd (R.DBG_BP_CTRL m b) &&& 0xFFFFFFF8#32) (f := State.disarmCore) (List.finRange 12) (Disarming.refl s)
    (fun m y hy => hy.disarmCore) fun m k y _ hm => by
      have hstep := ((Disarming.refl y).disarmCore (m := k)).1
      exact ⟨hstep.ctrl_stays hm.1, fun b hb => hstep.bp_stays hb (hm.2 b hb)⟩
  exact ⟨hall, fun m => hset m (List.mem_finRange m)⟩

theorem leaveFull_eq : s.leaveFull = s.resumeAll.disarmAll := rfl

/-- What leaving FULL does (R540). -/
structure LeftFull (s t : State) : Prop where
  frame : t = { s with regs := t.regs, core := t.core, mdsp := t.mdsp, mon := t.mon }
  stat : t.rd R.KPR_STAT = s.rd R.KPR_STAT
  cause : t.rd R.KPR_CAUSE = s.rd R.KPR_CAUSE
  runs : ∀ m : Fin 12, s.ccState m = 2 → t.ccState m = 1
  ctrl : ∀ m : Fin 12, t.rd (R.DBG_CTRL m) = s.rd (R.DBG_CTRL m) &&& 0xFFFFFF8F#32
  bp : ∀ (m : Fin 12) (b : Nat), b < 8 → t.rd (R.DBG_BP_CTRL m b) = s.rd (R.DBG_BP_CTRL m b) &&& 0xFFFFFFF8#32

theorem leaveFull_left : LeftFull s s.leaveFull := by
  obtain ⟨hrel, hrun⟩ := resumeAll_spec (s := s)
  obtain ⟨hdis, hset⟩ := disarmAll_spec (s := s.resumeAll)
  rw [leaveFull_eq]
  generalize s.resumeAll = u at hrel hrun hdis hset
  generalize u.disarmAll = t at hdis hset
  have hcore : t.core = u.core := (congrArg State.core hdis.frame :)
  refine ⟨?_, ?_, ?_, fun m h => ?_, fun m => ?_, fun m b hb => ?_⟩
  · rw [hdis.frame]
    exact released_frame hrel.frame t.regs u.core u.mdsp u.mon
  · rw [hdis.other _ not_disarmReg_keeper.1, hrel.regs _ not_releaseReg_keeper.1]
  · rw [hdis.other _ not_disarmReg_keeper.2, hrel.regs _ not_releaseReg_keeper.2]
  · rw [ccState_congr (hdis.other _ (not_disarmReg_ccStat m)), hrun m h]
  · rw [(hset m).1, hrel.regs _ (not_releaseReg_debug m).1]
  · rw [(hset m).2 b hb, hrel.regs _ ((not_releaseReg_debug m).2 b hb)]

theorem flags_off (x : Word) : F.DBG_CTRL_HOR.get (x &&& 0xFFFFFF8F#32) = 0 ∧ F.DBG_CTRL_EBREAKM.get (x &&& 0xFFFFFF8F#32) = 0 ∧
    F.DBG_CTRL_EBREAKU.get (x &&& 0xFFFFFF8F#32) = 0 := by
  have hbit : ∀ i, (0xFFFFFF8F#32).getLsbD i = false → (⟨i, 1⟩ : Fld).get (x &&& 0xFFFFFF8F#32) = 0 := fun i hi => by
    rw [Fld.get, pow_one, Nat.mod_two_eq_zero_iff_testBit_zero, BitVec.testBit_toNat, BitVec.getLsbD_ushiftRight, BitVec.getLsbD_and, Nat.add_zero,
      hi, Bool.and_false]
  exact ⟨hbit 4 (by decide), hbit 5 (by decide), hbit 6 (by decide)⟩

end Sys2Proof.Machine
end

section
/-! Debug authorisation: words, messages and their answers, nonces and the lockout (16_security_lifecycle.md R533 to R541). -/
namespace Sys2Proof.Machine
variable {s t u : State} {w : Word} {ws out : List Word} {code level l : Nat}

/-! ### Words and messages in the queue -/

theorem push_eq (h : s.tapAuth = true) : exec (.dbgauthPush w) s = .next { s with keeper := { s.keeper with
    inq := if s.keeper.inq.length < 64 then s.keeper.inq ++ [w] else s.keeper.inq } } := by
  show execDbgauthPush w s = _
  rw [execDbgauthPush, h, Bool.true_and]
  by_cases hl : s.keeper.inq.length < 64
  · rw [if_pos (decide_eq_true hl), if_pos hl]
    rfl
  · rw [if_neg (by simpa using hl), if_neg hl]

theorem pop_eq (h : s.tapAuth = true) : exec .dbgauthPop s = .next { s with keeper := { s.keeper with outq := s.keeper.outq.drop 1 } } := if_pos h
theorem flush_eq (h : s.tapAuth = true) : exec .dbgauthFlush s = .next { s with keeper := { s.keeper with inq := [] } } := if_pos h

theorem tap_closed (h : s.tapAuth = false) : ∀ c ∈ [Instr.dbgauthPush w, .dbgauthPop, .dbgauthFlush], exec c s = .next s := by
  intro c hc
  simp only [List.mem_cons, List.not_mem_nil, or_false] at hc
  rcases hc with rfl | rfl | rfl
  · exact if_neg (by rw [h, Bool.false_and]; decide)
  · exact if_neg (by rw [h]; decide)
  · exact if_neg (by rw [h]; decide)

theorem byte_high (w : Word) : bitsOf w.toNat 24 8 = w.toNat / 2 ^ 24 := Nat.mod_eq_of_lt (by omega)

theorem takeMessage_taken {rest : List Word} (hq : s.keeper.inq = w :: rest) (hc : w.toNat / 2 ^ 24 = code) (hl : messageLen code ≤ rest.length)
    (hm : s.keeper.msg = none) : s.takeMessage code = { s with keeper := { s.keeper with
      msg := some (w, rest.take (messageLen code)), inq := rest.drop (messageLen code) } } := by
  have hready : s.messageReady code = true := by
    rw [State.messageReady, hq]
    dsimp only
    rw [byte_high, hc, beq_self_eq_true, decide_eq_true hl]
    rfl
  rw [State.takeMessage, hm, hready, hq]
  rfl

theorem takeMessage_short {rest : List Word} (hq : s.keeper.inq = w :: rest) (hl : rest.length < messageLen code) : s.takeMessage code = s := by
  have hready : s.messageReady code = false := by
    rw [State.messageReady, hq]
    simp [hl]
  rw [State.takeMessage, hready, Bool.and_false]
  rfl

theorem takeMessage_held (hm : s.keeper.msg ≠ none) : s.takeMessage code = s := by
  have hnone : s.keeper.msg.isNone = false := by simpa [Option.isSome_iff_ne_none] using hm
  rw [State.takeMessage, hnone, Bool.false_and]
  rfl

/-- The commands that take up a message, with its code and the words it needs. -/
theorem message_commands : ∀ e ∈ [(Instr.openPwd, 1, 8), (.chal, 2, 0), (.openSig, 3, 48), (.dbgLock, 4, 0), (.authStatus, 5, 0)],
    (∀ s, exec e.1 s = .next (s.takeMessage e.2.1)) ∧ messageLen e.2.1 = e.2.2 := by
  intro e he
  simp only [List.mem_cons, List.not_mem_nil, or_false] at he
  rcases he with rfl | rfl | rfl | rfl | rfl <;> exact ⟨fun _ => rfl, rfl⟩

/-! ### Answers -/

/-- The answer of a message is queued. -/
def State.answerMsg (s : State) (code : Nat) (out : List Word) : State :=
  s.modKeeper (fun k => { k with msg := none, outq := if s.dbgState = 3 then [] else k.outq ++ (s.statusWord code :: out) })

theorem messageEnd_eq (hm : s.keeper.msg = some (w, ws)) (hfit : s.keeper.outq.length + ((s.message w ws).out.length + 1) ≤ 16) :
    exec .dbgauthMessageEnd s = .next ((s.message w ws).st.answerMsg (s.message w ws).code (s.message w ws).out) := by
  have hheld : s.keeper.msg ≠ none := by rw [hm]; exact nofun
  have hunknown : s.takeUnknown = s := by
    unfold State.takeUnknown
    split
    · split
      · rfl
      · exact takeMessage_held hheld
    · rfl
  show execDbgauthMessageEnd s = _
  rw [execDbgauthMessageEnd, hunknown]
  dsimp only
  rw [hm]
  exact if_pos hfit

/-- A message has been answered with a code and words. -/
def AuthAnswered (s : State) (code : Nat) (out : List Word) (t : State) : Prop :=
  t.keeper.msg = none ∧ t.keeper.inq = s.keeper.inq ∧ t.life = s.life ∧ ∃ st : Word, t.keeper.outq = s.keeper.outq ++ st :: out ∧
    st.toNat = code + 256 * t.dbgState + 4096 * t.life + 65536 * t.fails

/-- Nothing but the answer has changed. -/
def Unmoved (s t : State) : Prop := t = { s with keeper := { s.keeper with msg := none, outq := t.keeper.outq } }

/-- The debug state has become l. -/
def Changed (s : State) (l : Nat) (t : State) : Prop := t.dbgState = l ∧ t.fails = s.fails ∧
  (l ≠ s.dbgState → t.flag R.KPR_CAUSE F.KPR_CAUSE_DBGCHG = true) ∧
  (s.dbgState ≠ 2 → SameRegs [R.KPR_STAT, R.KPR_CAUSE] s t) ∧
  (s.dbgState = 2 → l ≠ 2 → ∀ m : Fin 12, (s.ccState m = 2 → t.ccState m = 1) ∧
    t.flag (R.DBG_CTRL m) F.DBG_CTRL_HOR = false ∧ t.flag (R.DBG_CTRL m) F.DBG_CTRL_EBREAKM = false ∧
    t.flag (R.DBG_CTRL m) F.DBG_CTRL_EBREAKU = false ∧
    ∀ b, b < 8 → t.rd (R.DBG_BP_CTRL m b) = s.rd (R.DBG_BP_CTRL m b) &&& 0xFFFFFFF8#32)

/-- A proof has failed. -/
def Failed (s t : State) : Prop := AuthAnswered s 4 [] t ∧ t.dbgState = s.dbgState ∧ t.fails = min 16 (s.fails + 1) ∧
  t.flag R.KPR_STAT F.KPR_STAT_LOCKOUT = true ∧ t.keeper.lockUntil = s.now + 100000000 * ns ∧
  t.flag R.KPR_CAUSE F.KPR_CAUSE_AUTHFAIL = true ∧ SameRegs [R.KPR_STAT, R.KPR_CAUSE] s t

theorem statusWord_toNat (hc : code < 256) : (s.statusWord code).toNat = code + 256 * s.dbgState + 4096 * s.life + 65536 * s.fails := by
  have hd : s.dbgState < 4 := fld_lt _ _
  have hl : s.life < 16 := fld_lt _ _
  have hf : s.fails < 32 := fld_lt _ _
  rw [State.statusWord, BitVec.toNat_ofNat]
  exact Nat.mod_eq_of_lt (by omega)

theorem answerMsg_rd (a : Nat) : (s.answerMsg code out).rd a = s.rd a := modKeeper_rd _ _
theorem answerMsg_dbgState : (s.answerMsg code out).dbgState = s.dbgState := fld_congr (answerMsg_rd _) _
theorem answerMsg_fails : (s.answerMsg code out).fails = s.fails := fld_congr (answerMsg_rd _) _
theorem answerMsg_life : (s.answerMsg code out).life = s.life := fld_congr (answerMsg_rd _) _

theorem answerMsg_answered (hi : u.keeper.inq = s.keeper.inq) (ho : u.keeper.outq = s.keeper.outq) (hl : u.life = s.life) (hd : u.dbgState < 3)
    (hc : code < 256) : AuthAnswered s code out (u.answerMsg code out) := by
  refine ⟨rfl, hi, answerMsg_life.trans hl, u.statusWord code, ?_, ?_⟩
  · have hq : (u.answerMsg code out).keeper.outq = if u.dbgState = 3 then [] else u.keeper.outq ++ (u.statusWord code :: out) := rfl
    rw [hq, if_neg (by omega), ho]
  · rw [statusWord_toNat hc, answerMsg_dbgState, answerMsg_life, answerMsg_fails]

/-- A message that only gets an answer. -/
theorem answerMsg_unmoved (hd : s.dbgState < 3) (hc : code < 256) : AuthAnswered s code out (s.answerMsg code out) ∧ Unmoved s (s.answerMsg code out) :=
  ⟨answerMsg_answered rfl rfl rfl hd hc, rfl⟩

theorem Changed.answer (h : Changed s l u) : Changed s l (u.answerMsg code out) := by
  obtain ⟨hd, hf, hflag, hregs, hfull⟩ := h
  refine ⟨answerMsg_dbgState.trans hd, answerMsg_fails.trans hf, fun hl => (flag_congr (answerMsg_rd _) _).trans (hflag hl),
    fun h2 a ha => (answerMsg_rd a).trans (hregs h2 a ha), fun h2 hl m => ?_⟩
  obtain ⟨hrun, h4, h5, h6, hbp⟩ := hfull h2 hl m
  exact ⟨fun hs => (fld_congr (answerMsg_rd _) _).trans (hrun hs), (flag_congr (answerMsg_rd _) _).trans h4, (flag_congr (answerMsg_rd _) _).trans h5,
    (flag_congr (answerMsg_rd _) _).trans h6, fun b hb => (answerMsg_rd _).trans (hbp b hb)⟩

/-! ### The debug state changes -/

theorem keeper_ne : R.KPR_STAT ≠ R.KPR_CAUSE := by
  unfold R.KPR_STAT R.KPR_CAUSE
  omega

/-- The debug state is stored and its change is noted. -/
def State.markDebug (s : State) (n : Nat) : State := (s.setF R.KPR_STAT F.KPR_STAT_DBG n).setF R.KPR_CAUSE F.KPR_CAUSE_DBGCHG 1

theorem setDebug_same (n : Nat) (h : s.dbgState = n) : s.setDebug n = s := by
  rw [State.setDebug]
  exact if_pos h

theorem setDebug_eq (n : Nat) (h : s.dbgState ≠ n) : s.setDebug n =
    let t := if s.dbgState = 2 then (s.markDebug n).leaveFull else s.markDebug n
    if n = 3 then t.enterScan else t := by
  rw [State.setDebug]
  dsimp only
  rw [if_neg h, State.kprCause, State.raise_eq]
  rfl

theorem markDebug_only (n : Nat) : OnlyRegs [R.KPR_STAT, R.KPR_CAUSE] s (s.markDebug n) :=
  ((OnlyRegs.refl _ s).setF (by simp)).setF (by simp)

theorem markDebug_stat {n : Nat} (hn : n < 4) : (s.markDebug n).dbgState = n ∧ (s.markDebug n).fails = s.fails ∧ (s.markDebug n).life = s.life := by
  have hrd : (s.markDebug n).rd R.KPR_STAT = (s.setF R.KPR_STAT F.KPR_STAT_DBG n).rd R.KPR_STAT := State.setF_rd_other _ _ _ _ _ keeper_ne
  refine ⟨(fld_congr hrd _).trans (setF_fld_of_lt (by decide) hn), (fld_congr hrd _).trans ?_, (fld_congr hrd _).trans ?_⟩
  · exact State.setF_fld_other _ _ _ _ _ _ (.inr (by decide))
  · exact State.setF_fld_other _ _ _ _ _ _ (.inr (by decide))

theorem markDebug_flag (n : Nat) : (s.markDebug n).flag R.KPR_CAUSE F.KPR_CAUSE_DBGCHG = true := by
  rw [State.markDebug, ← State.raise_eq]
  exact State.raise_flag _ _ _ (by decide) rfl

/-- The registers of the cores that leaving FULL touches are not the keeper's. -/
theorem not_keeperReg_cores (m : Fin 12) : R.CC_STAT m ∉ [R.KPR_STAT, R.KPR_CAUSE] ∧ R.DBG_CTRL m ∉ [R.KPR_STAT, R.KPR_CAUSE] ∧
    ∀ b, b < 8 → R.DBG_BP_CTRL m b ∉ [R.KPR_STAT, R.KPR_CAUSE] := by
  have hm := m.isLt
  unfold R.CC_STAT R.DBG_CTRL R.DBG_BP_CTRL R.KPR_STAT R.KPR_CAUSE ccBase dbgBase dieBase kprBase packageBase
  simp only [List.mem_cons, List.not_mem_nil, or_false]
  exact ⟨by omega, by omega, fun b hb => by omega⟩

/-- What a change of the debug state to anything but SCAN leaves. -/
theorem setDebug_changed {n : Nat} (hn : n < 3) : Changed s n (s.setDebug n) ∧ (s.setDebug n).life = s.life ∧ (s.setDebug n).keeper = s.keeper := by
  by_cases h : s.dbgState = n
  · rw [setDebug_same n h]
    exact ⟨⟨h, rfl, fun e => absurd h.symm e, fun _ _ _ => rfl, fun h2 he => absurd (h.symm.trans h2) he⟩, rfl, rfl⟩
  · obtain ⟨hd, hf, hl⟩ := markDebug_stat (s := s) (n := n) (by omega)
    obtain ⟨hframe, hregs⟩ := markDebug_only (s := s) n
    have hflag := markDebug_flag (s := s) n
    have hkeeper : (s.markDebug n).keeper = s.keeper := by rw [hframe]
    rw [setDebug_eq n h]
    dsimp only
    rw [if_neg (by omega : n ≠ 3)]
    have hne := not_keeperReg_cores
    generalize s.markDebug n = u at hd hf hl hregs hflag hkeeper
    split
    case isTrue h2 =>
      have hleft := leaveFull_left (s := u)
      refine ⟨⟨(fld_congr hleft.stat _).trans hd, (fld_congr hleft.stat _).trans hf, fun _ => (flag_congr hleft.cause _).trans hflag,
        fun h3 => absurd h2 h3, fun _ _ m => ?_⟩, (fld_congr hleft.stat _).trans hl, ?_⟩
      · obtain ⟨hcc, hctrl, hbp⟩ := hne m
        have hoff : ∀ f : Fld, f.get (u.leaveFull.rd (R.DBG_CTRL m)) = 0 → u.leaveFull.flag (R.DBG_CTRL m) f = false := fun f hf => by
          rw [State.flag, State.fld, hf]
          rfl
        obtain ⟨h4, h5, h6⟩ := flags_off (u.rd (R.DBG_CTRL m))
        rw [← hleft.ctrl m] at h4 h5 h6
        refine ⟨fun hs => hleft.runs m ((ccState_congr (hregs _ hcc)).trans hs), hoff _ h4, hoff _ h5, hoff _ h6, fun b hb => ?_⟩
        rw [hleft.bp m b hb, hregs _ (hbp b hb)]
      · rw [hleft.frame, hkeeper]
    case isFalse h2 =>
      exact ⟨⟨hd, hf, fun _ => hflag, fun _ => hregs, fun h3 => absurd h3 h2⟩, hl, hkeeper⟩

end Sys2Proof.Machine
end

section
/-! The messages of debug authorisation, and what settles their obligation (16_security_lifecycle.md R535 to R541). -/
namespace Sys2Proof.Machine
variable {s t u : State} {w : Word} {ws out : List Word} {code level l : Nat}

/-! ### A message by its word -/

/-- The first word of a message: its code and its level. -/
theorem message_bits (h : w.toNat = code * 16777216 + level * 65536) (hl : level < 256) :
    bitsOf w.toNat 24 8 = code ∧ bitsOf w.toNat 16 8 = level ∧ bitsOf w.toNat 0 16 = 0 := by
  unfold bitsOf
  rw [h]
  omega

theorem message_lock (h : w.toNat = 4 * 16777216 + 0 * 65536) : s.message w ws = ⟨0, [], s.setDebug 0⟩ := by
  obtain ⟨hc, hl, h0⟩ := message_bits h (by decide)
  rw [State.message, hc, hl, h0]
  rfl

theorem message_status (h : w.toNat = 5 * 16777216 + 0 * 65536) : s.message w ws = ⟨0, [], s⟩ := by
  obtain ⟨hc, hl, h0⟩ := message_bits h (by decide)
  rw [State.message, hc, hl, h0]
  rfl

theorem message_unknown (h : 6 ≤ w.toNat / 2 ^ 24) : s.message w ws = ⟨1, [], s⟩ := by
  have hc : 6 ≤ bitsOf w.toNat 24 8 := by rwa [byte_high]
  rw [State.message]
  dsimp only
  generalize bitsOf w.toNat 24 8 = c at hc
  split
  · rfl
  · split
    · omega
    · omega
    · split
      · rfl
      · split
        · omega
        · omega
        · omega
        · rfl

section Level
variable (hl : 0 < level ∧ level < 4)
include hl

theorem message_openPwd (h : w.toNat = 1 * 16777216 + level * 65536) : s.message w ws =
    ⟨(s.openPwd level ws).1, [], if (s.openPwd level ws).1 = 0 then (s.openPwd level ws).2.setDebug level else (s.openPwd level ws).2⟩ := by
  obtain ⟨hc, hlev, h0⟩ := message_bits h (by omega)
  rw [State.message, hc, hlev, h0]
  exact (if_neg (by decide)).trans (if_neg (by omega))

theorem message_openSig (h : w.toNat = 3 * 16777216 + level * 65536) : s.message w ws =
    ⟨(s.openSig level ws).1, [], if (s.openSig level ws).1 = 0 then (s.openSig level ws).2.setDebug level else (s.openSig level ws).2⟩ := by
  obtain ⟨hc, hlev, h0⟩ := message_bits h (by omega)
  rw [State.message, hc, hlev, h0]
  exact (if_neg (by decide)).trans (if_neg (by omega))

theorem message_chal (h : w.toNat = 2 * 16777216 + level * 65536) : s.message w ws =
    if level = 3 ∧ s.scanOk = false then ⟨2, [], s⟩ else if level ≠ 3 ∧ s.ceiling < level then ⟨3, [], s⟩
    else ⟨0, (s.issueNonce false).1, (s.issueNonce false).2⟩ := by
  obtain ⟨hc, hlev, h0⟩ := message_bits h (by omega)
  rw [State.message, hc, hlev, h0]
  exact (if_neg (by decide)).trans (if_neg (by omega))

end Level

/-! ### What the checks give -/

theorem ceiling_field (h : s.life = 0 ∨ s.life = 1) : s.ceiling = 2 := by
  rw [State.ceiling]
  rcases h with h | h
  · rw [h]
    rfl
  · rw [h]
    rfl

theorem openRefuse_level (h4 : s.life ≠ 4) (hl : l ≠ 3) : s.openRefuse l = if s.ceiling < l then some 3 else none := by
  rw [State.openRefuse, if_neg h4, if_neg hl]

theorem openPwd_field (h0 : s.life = 0) (hl : l = 1 ∨ l = 2) : s.openPwd l ws = (0, s) := by
  have hc := ceiling_field (s := s) (.inl h0)
  rw [State.openPwd, if_neg (by omega), openRefuse_level (by omega) (by omega), if_neg (by omega)]
  exact if_pos h0

theorem openPwd_late (h : 1 < s.life ∨ (s.life = 1 ∧ s.policy 5 = true)) : s.openPwd l ws = (2, s) := by
  rw [State.openPwd, if_pos h]

/-- The password check, where the state and the ceiling let it be made. -/
theorem openPwd_develop (h1 : s.life = 1) (hp : s.policy 5 = false) (hr : s.openRefuse l = none) : s.openPwd l ws =
    if s.lockedOut then (6, s)
    else if s.fuseLocked 2 && Config.sha384 (keyBytes (ws.take 8)) == s.keeper.fuses.pwdhash then (0, s) else (4, s.authFail) := by
  rw [State.openPwd, if_neg (by simp [hp, h1]), hr]
  exact if_neg (by omega)

theorem openRefuse_develop (h1 : s.life = 1) (hl : l = 1 ∨ l = 2) : s.openRefuse l = none := by
  have hc := ceiling_field (s := s) (.inr h1)
  rw [openRefuse_level (by omega) (by omega), if_neg (by omega)]

theorem openSig_above (h4 : s.life < 4) (hl : l = 1 ∨ l = 2) (hc : s.ceiling < l) : s.openSig l ws = (3, s) := by
  rw [State.openSig, openRefuse_level (by omega) (by omega), if_pos hc]

theorem openSig_within (h0 : 0 < s.life) (h4 : s.life < 4) (hl : l = 1 ∨ l = 2) (hc : l ≤ s.ceiling) : s.openSig l ws = s.proof false ws 1 l := by
  rw [State.openSig, openRefuse_level (by omega) (by omega), if_neg (by omega)]
  exact if_neg (by omega)

theorem proof_locked (h : s.lockedOut = true) : s.proof false ws 1 l = (6, s) := by
  rw [State.proof, if_pos h]

theorem proof_none (hu : s.lockedOut = false) (h : s.validNonce s.keeper.nonceTap = none) : s.proof false ws 1 l = (5, s) := by
  rw [State.proof, if_neg (by rw [hu]; decide), if_neg (by decide), h]

/-- The nonce of the TAP is used up. -/
def State.nonceUsed (s : State) : State := s.modKeeper (fun k => { k with nonceTap := none })

theorem proof_some {n : Nonce} (hu : s.lockedOut = false) (h : s.validNonce s.keeper.nonceTap = some n) : s.proof false ws 1 l =
    if s.signatureOk n.val ws 1 l then (0, s.nonceUsed) else (4, s.nonceUsed.authFail) := by
  rw [State.proof, if_neg (by rw [hu]; decide), if_neg (by decide), h]
  rfl

theorem validNonce_late {n : Nonce} (h : n.time + 60000000000 * ns ≤ s.now) : s.validNonce (some n) = none := by
  rw [State.validNonce, Option.filter_some, decide_eq_false (by omega)]
  rfl

theorem validNonce_fresh {n : Nonce} (h : s.now < n.time + 60000000000 * ns) : s.validNonce (some n) = some n := by
  rw [State.validNonce, Option.filter_some, decide_eq_true h]
  rfl

/-! ### A proof that fails -/

/-- The registers after a proof has failed. -/
def State.authMark (s : State) : State :=
  ((s.setF R.KPR_STAT F.KPR_STAT_FAILS (min 16 (s.fails + 1))).setB R.KPR_STAT F.KPR_STAT_LOCKOUT true).raise R.KPR_CAUSE F.KPR_CAUSE_AUTHFAIL

theorem authFail_eq : s.authFail = s.authMark.modKeeper (fun k => { k with lockUntil := s.authMark.now + 100000000 * ns }) := rfl

theorem authMark_only : OnlyRegs [R.KPR_STAT, R.KPR_CAUSE] s s.authMark := by
  rw [State.authMark, State.setB_eq, State.raise_eq]
  exact (((OnlyRegs.refl _ s).setF (by simp)).setF (by simp)).setF (by simp)

theorem authMark_stat : s.authMark.fails = min 16 (s.fails + 1) ∧ s.authMark.dbgState = s.dbgState ∧ s.authMark.life = s.life ∧
    s.authMark.flag R.KPR_STAT F.KPR_STAT_LOCKOUT = true ∧ s.authMark.flag R.KPR_CAUSE F.KPR_CAUSE_AUTHFAIL = true := by
  have hrd : s.authMark.rd R.KPR_STAT = ((s.setF R.KPR_STAT F.KPR_STAT_FAILS (min 16 (s.fails + 1))).setB R.KPR_STAT F.KPR_STAT_LOCKOUT true).rd
      R.KPR_STAT := by
    rw [State.authMark, State.raise_eq, State.setF_rd_other _ _ _ _ _ keeper_ne]
  have hf : min 16 (s.fails + 1) < 2 ^ F.KPR_STAT_FAILS.w := lt_of_le_of_lt (min_le_left _ _) (by decide)
  have hother : ∀ f : Fld, F.KPR_STAT_LOCKOUT.lo + F.KPR_STAT_LOCKOUT.w ≤ f.lo ∨ f.lo + f.w ≤ F.KPR_STAT_LOCKOUT.lo →
      s.authMark.fld R.KPR_STAT f = (s.setF R.KPR_STAT F.KPR_STAT_FAILS (min 16 (s.fails + 1))).fld R.KPR_STAT f := fun f hd => by
    rw [fld_congr hrd, State.setB_eq]
    exact State.setF_fld_other _ _ _ _ _ _ (.inr hd)
  refine ⟨(hother _ (by decide)).trans (setF_fld_of_lt (by decide) hf), (hother _ (by decide)).trans ?_, (hother _ (by decide)).trans ?_,
    (flag_congr hrd _).trans (setB_flag_same true (by decide) rfl), State.raise_flag _ _ _ (by decide) rfl⟩
  · exact State.setF_fld_other _ _ _ _ _ _ (.inr (by decide))
  · exact State.setF_fld_other _ _ _ _ _ _ (.inr (by decide))

/-- A proof that fails is counted, locks out and is answered with AUTH. -/
theorem authFail_failed {n : Option Nonce} (hd : s.dbgState < 3) :
    Failed s ((s.modKeeper (fun k => { k with nonceTap := n })).authFail.answerMsg 4 []) ∧
    ((s.modKeeper (fun k => { k with nonceTap := n })).authFail.answerMsg 4 []).keeper.nonceTap = n := by
  have hbase : ∀ f a, (s.modKeeper f).fld a = s.fld a := fun _ _ => rfl
  have hnow : (s.modKeeper (fun k => { k with nonceTap := n })).now = s.now := rfl
  have hk : (s.modKeeper (fun k => { k with nonceTap := n })).keeper = { s.keeper with nonceTap := n } := rfl
  have hrd : ∀ a, (s.modKeeper (fun k => { k with nonceTap := n })).rd a = s.rd a := modKeeper_rd _
  generalize s.modKeeper (fun k => { k with nonceTap := n }) = u at hnow hk hrd
  have hfu : u.fails = s.fails := fld_congr (hrd _) _
  have hdu : u.dbgState = s.dbgState := fld_congr (hrd _) _
  have hlu : u.life = s.life := fld_congr (hrd _) _
  obtain ⟨hframe, hregs⟩ := authMark_only (s := u)
  obtain ⟨hf, hdbg, hlife, hlock, hauth⟩ := authMark_stat (s := u)
  rw [authFail_eq]
  have hmk : u.authMark.keeper = { s.keeper with nonceTap := n } := by rw [hframe]; exact hk
  have hmn : u.authMark.now = s.now := by rw [hframe]; exact hnow
  generalize u.authMark = v at hregs hf hdbg hlife hlock hauth hmk hmn
  rw [hmn]
  have hzr : ∀ a, (v.modKeeper (fun k => { k with lockUntil := s.now + 100000000 * ns })).rd a = v.rd a := modKeeper_rd _
  have hzk : (v.modKeeper (fun k => { k with lockUntil := s.now + 100000000 * ns })).keeper = { s.keeper with
      nonceTap := n, lockUntil := s.now + 100000000 * ns } := by rw [State.modKeeper, hmk]
  generalize v.modKeeper (fun k => { k with lockUntil := s.now + 100000000 * ns }) = z at hzr hzk
  have hzd : z.dbgState = s.dbgState := (fld_congr (hzr _) _).trans (hdbg.trans hdu)
  have hzl : z.life = s.life := (fld_congr (hzr _) _).trans (hlife.trans hlu)
  have hzf : z.fails = min 16 (s.fails + 1) := (fld_congr (hzr _) _).trans (hf.trans (by rw [hfu]))
  have hans : (z.answerMsg 4 []).keeper.lockUntil = z.keeper.lockUntil ∧ (z.answerMsg 4 []).keeper.nonceTap = z.keeper.nonceTap := ⟨rfl, rfl⟩
  refine ⟨⟨answerMsg_answered (by rw [hzk]) (by rw [hzk]) hzl (by omega) (by decide), answerMsg_dbgState.trans hzd, answerMsg_fails.trans hzf,
    (flag_congr (answerMsg_rd _) _).trans ((flag_congr (hzr _) _).trans hlock), ?_, (flag_congr (answerMsg_rd _) _).trans ((flag_congr (hzr _) _).trans hauth),
    fun a ha => (answerMsg_rd a).trans ((hzr a).trans ((hregs a ha).trans (hrd a)))⟩, ?_⟩
  · rw [hans.1, hzk]
  · rw [hans.2, hzk]

/-! ### SCAN -/

theorem not_haltReg_keeper : ¬ HaltReg R.KPR_STAT := by
  unfold HaltReg StopReg R.VSQ_STAT R.VSQ_CAUSE R.VSQ_FAULT R.FCU_STAT R.CH_GSTAT R.TSY_CAUSE R.TSY_PORT_STAT R.KPR_STAT vsqBase fcuBase tsyBase
    kprBase dieBase packageBase
  rintro (⟨g, h⟩ | h | ⟨q, hq, h⟩)
  · have hg := g.isLt
    omega
  · omega
  · omega

theorem vltCause_ne_keeper : R.KPR_STAT ≠ R.VLT_CAUSE 0 := by
  unfold R.KPR_STAT R.VLT_CAUSE kprBase vltBase dieBase packageBase
  omega

/-- SCAN is entered with no key, no nonce and no word left. -/
structure Scanned (t : State) : Prop where
  state : t.dbgState = 3
  root : t.keeper.root = none
  thermos : t.keeper.thermos = none
  tap : t.keeper.nonceTap = none
  box : t.keeper.nonceBox = none
  keys : ∀ v, (t.v v).keys = []

theorem modKeeper_v (f : Keeper → Keeper) (v : Fin 64) : (s.modKeeper f).v v = s.v v := (rfl)

theorem dbgState_congr (h : t.rd R.KPR_STAT = s.rd R.KPR_STAT) : t.dbgState = s.dbgState := fld_congr h _

theorem enterScan_scanned (h : u.dbgState = 3) : Scanned u.enterScan := by
  have hall := (haltAll_halted (s := u) (code := 0x0F) (by decide) (by decide)).1
  rw [State.enterScan]
  generalize u.haltAll 0x0F = z at hall
  exact ⟨(dbgState_congr (modKeeper_rd _ _)).trans ((dbgState_congr (hall.regs _ not_haltReg_keeper vltCause_ne_keeper)).trans h), rfl, rfl, rfl, rfl, fun v => by rw [modKeeper_v, hall.keys]⟩

theorem setDebug_scan (h : s.dbgState = 2) : Scanned (s.setDebug 3) := by
  rw [setDebug_eq 3 (by omega)]
  dsimp only
  rw [if_pos h, if_pos rfl]
  have hmark := (markDebug_stat (s := s) (n := 3) (by decide)).1
  generalize s.markDebug 3 = u at hmark
  exact enterScan_scanned ((dbgState_congr leaveFull_left.stat).trans hmark)

theorem Scanned.answer (h : Scanned u) : Scanned (u.answerMsg code out) ∧ (u.answerMsg code out).keeper.outq = [] :=
  ⟨⟨answerMsg_dbgState.trans h.state, h.root, h.thermos, h.tap, h.box, h.keys⟩, if_pos h.state⟩

/-! ### The answers of the messages -/

/-- The state in which a message is answered: one is in hand, its answer fits, and the TAP does not serve scan. -/
structure AtMessage (s : State) (w : Word) (ws : List Word) : Prop where
  msg : s.keeper.msg = some (w, ws)
  room : s.keeper.outq.length + 11 ≤ 16
  open_ : s.dbgState < 3

namespace AtMessage
variable (h : AtMessage s w ws)
include h

theorem ends {u : State} (hm : s.message w ws = ⟨code, out, u⟩) (hout : out.length ≤ 10) :
    exec .dbgauthMessageEnd s = .next (u.answerMsg code out) := by
  have hroom := h.room
  have heq := messageEnd_eq (s := s) h.msg (by rw [hm]; dsimp only; omega)
  rw [hm] at heq
  exact heq

/-- A message that changes nothing. -/
theorem unmoved (hm : s.message w ws = ⟨code, [], s⟩) (hc : code < 256) :
    After .dbgauthMessageEnd s (fun t => AuthAnswered s code [] t ∧ Unmoved s t) :=
  ⟨_, h.ends hm (by decide), answerMsg_unmoved h.open_ hc⟩

/-- A message that sets the debug state. -/
theorem changed (hm : s.message w ws = ⟨0, [], s.setDebug l⟩) (hl : l < 3) :
    After .dbgauthMessageEnd s (fun t => AuthAnswered s 0 [] t ∧ Changed s l t) := by
  obtain ⟨hch, hlife, hk⟩ := setDebug_changed (s := s) hl
  refine ⟨_, h.ends hm (by decide), answerMsg_answered (by rw [hk]) (by rw [hk]) hlife ?_ (by decide), hch.answer⟩
  rw [hch.1]
  exact hl

/-- An accepted signature sets the debug state and uses the nonce up. -/
theorem signed (hm : s.message w ws = ⟨0, [], s.nonceUsed.setDebug l⟩) (hl : l < 3) :
    After .dbgauthMessageEnd s (fun t => AuthAnswered s 0 [] t ∧ Changed s l t ∧ t.keeper.nonceTap = none) := by
  obtain ⟨hch, hlife, hk⟩ := setDebug_changed (s := s.nonceUsed) hl
  have hans : ((s.nonceUsed.setDebug l).answerMsg 0 []).keeper.nonceTap = (s.nonceUsed.setDebug l).keeper.nonceTap := rfl
  refine ⟨_, h.ends hm (by decide), answerMsg_answered (by rw [hk]; rfl) (by rw [hk]; rfl) hlife ?_ (by decide), hch.answer, ?_⟩
  · rw [hch.1]
    exact hl
  · rw [hans, hk]
    rfl

/-- OPEN_PWD (R536). -/
theorem openPwd (hl : l = 1 ∨ l = 2) (hw : w.toNat = 0x01000000 + l * 0x10000) :
    (s.life = 0 → After .dbgauthMessageEnd s (fun t => AuthAnswered s 0 [] t ∧ Changed s l t)) ∧
    (2 ≤ s.life → After .dbgauthMessageEnd s (fun t => AuthAnswered s 2 [] t ∧ Unmoved s t)) ∧
    (s.life = 1 → s.policy 5 = true → After .dbgauthMessageEnd s (fun t => AuthAnswered s 2 [] t ∧ Unmoved s t)) ∧
    (s.life = 1 → s.policy 5 = false → s.lockedOut = true → After .dbgauthMessageEnd s (fun t => AuthAnswered s 6 [] t ∧ Unmoved s t)) ∧
    (s.life = 1 → s.policy 5 = false → s.lockedOut = false → s.fuseLocked 2 = true →
      (Config.sha384 (keyBytes (ws.take 8)) = s.keeper.fuses.pwdhash →
        After .dbgauthMessageEnd s (fun t => AuthAnswered s 0 [] t ∧ Changed s l t)) ∧
      (Config.sha384 (keyBytes (ws.take 8)) ≠ s.keeper.fuses.pwdhash → After .dbgauthMessageEnd s (Failed s))) := by
  have hmsg := message_openPwd (s := s) (w := w) (ws := ws) (level := l) (by omega) hw
  refine ⟨fun h0 => h.changed ?_ (by omega), fun h2 => h.unmoved (code := 2) ?_ (by decide), fun h1 hp => h.unmoved (code := 2) ?_ (by decide),
    fun h1 hp hk => h.unmoved (code := 6) ?_ (by decide), fun h1 hp hk hf => ⟨fun hs => h.changed ?_ (by omega), fun hs => ?_⟩⟩
  · rw [hmsg, openPwd_field h0 hl]
    rfl
  · rw [hmsg, openPwd_late (.inl (by omega))]
    rfl
  · rw [hmsg, openPwd_late (.inr ⟨h1, hp⟩)]
    rfl
  · rw [hmsg, openPwd_develop h1 hp (openRefuse_develop h1 hl), if_pos hk]
    rfl
  · rw [hmsg, openPwd_develop h1 hp (openRefuse_develop h1 hl), if_neg (by rw [hk]; decide), if_pos (by rw [hf, hs, beq_self_eq_true]; rfl)]
    rfl
  · refine ⟨_, h.ends (code := 4) (out := []) (u := s.authFail) ?_ (by decide), (authFail_failed (n := s.keeper.nonceTap) h.open_).1⟩
    rw [hmsg, openPwd_develop h1 hp (openRefuse_develop h1 hl), if_neg (by rw [hk]; decide), if_neg (by rw [hf, Bool.true_and, beq_iff_eq]; exact hs)]
    rfl

/-- CHAL (R537, R538). -/
theorem chal (hl : l = 1 ∨ l = 2) (hw : w.toNat = 0x02000000 + l * 0x10000) :
    (s.ceiling < l → After .dbgauthMessageEnd s (fun t => AuthAnswered s 3 [] t ∧ Unmoved s t)) ∧
    (l ≤ s.ceiling → After .dbgauthMessageEnd s (fun t => ∃ v : BitVec 256,
      AuthAnswered s 0 (keyWords 8 v.toNat ++ [s.rd R.KPR_SERIAL_LO, s.rd R.KPR_SERIAL_HI]) t ∧
      t = { s with keeper := { s.keeper with msg := none, outq := t.keeper.outq, nonceTap := some ⟨v, s.now⟩ }, freeCtr := s.freeCtr + 1 })) := by
  have hmsg := message_chal (s := s) (w := w) (ws := ws) (level := l) (by omega) hw
  refine ⟨fun hc => h.unmoved (code := 3) ?_ (by decide), fun hc => ?_⟩
  · rw [hmsg, if_neg (by omega), if_pos (by omega)]
  · refine ⟨_, h.ends (code := 0) (out := (s.issueNonce false).1) (u := (s.issueNonce false).2) ?_ ?_, BitVec.ofNat 256 s.freeVal,
      answerMsg_answered rfl rfl rfl h.open_ (by decide), rfl⟩
    · rw [hmsg, if_neg (by omega), if_neg (by omega)]
    · simp [State.issueNonce, keyWords]

/-- OPEN_SIG (R537, R538). -/
theorem openSig (hl : l = 1 ∨ l = 2) (hw : w.toNat = 0x03000000 + l * 0x10000) (h0 : 0 < s.life) (h4 : s.life < 4) :
    (s.ceiling < l → After .dbgauthMessageEnd s (fun t => AuthAnswered s 3 [] t ∧ Unmoved s t)) ∧
    (l ≤ s.ceiling → s.lockedOut = true → After .dbgauthMessageEnd s (fun t => AuthAnswered s 6 [] t ∧ Unmoved s t)) ∧
    (l ≤ s.ceiling → s.lockedOut = false →
      (s.keeper.nonceTap = none → After .dbgauthMessageEnd s (fun t => AuthAnswered s 5 [] t ∧ Unmoved s t)) ∧
      (∀ n, s.keeper.nonceTap = some n → n.time + 60000000000 * ns ≤ s.now →
        After .dbgauthMessageEnd s (fun t => AuthAnswered s 5 [] t ∧ Unmoved s t)) ∧
      (∀ n, s.keeper.nonceTap = some n → s.now < n.time + 60000000000 * ns →
        (s.signatureOk n.val ws 1 l = true →
          After .dbgauthMessageEnd s (fun t => AuthAnswered s 0 [] t ∧ Changed s l t ∧ t.keeper.nonceTap = none)) ∧
        (s.signatureOk n.val ws 1 l = false → After .dbgauthMessageEnd s (fun t => Failed s t ∧ t.keeper.nonceTap = none)))) := by
  have hmsg := message_openSig (s := s) (w := w) (ws := ws) (level := l) (by omega) hw
  refine ⟨fun hc => h.unmoved (code := 3) ?_ (by decide), fun hc hk => h.unmoved (code := 6) ?_ (by decide), fun hc hk =>
    ⟨fun hn => h.unmoved (code := 5) ?_ (by decide), fun n hn ht => h.unmoved (code := 5) ?_ (by decide), fun n hn ht =>
      ⟨fun hs => h.signed ?_ (by omega), fun hs => ?_⟩⟩⟩
  · rw [hmsg, openSig_above h4 hl hc]
    rfl
  · rw [hmsg, openSig_within h0 h4 hl hc, proof_locked hk]
    rfl
  · rw [hmsg, openSig_within h0 h4 hl hc, proof_none hk (by rw [hn]; rfl)]
    rfl
  · rw [hmsg, openSig_within h0 h4 hl hc, proof_none hk (by rw [hn]; exact validNonce_late ht)]
    rfl
  · rw [hmsg, openSig_within h0 h4 hl hc, proof_some hk (by rw [hn]; exact validNonce_fresh ht), if_pos hs]
    rfl
  · refine ⟨_, h.ends (code := 4) (out := []) (u := s.nonceUsed.authFail) ?_ (by decide), authFail_failed (n := none) h.open_⟩
    rw [hmsg, openSig_within h0 h4 hl hc, proof_some hk (by rw [hn]; exact validNonce_fresh ht), if_neg (by rw [hs]; decide)]
    rfl

/-- OPEN_PWD with SCAN (R541). -/
theorem scan (hw : w.toNat = 0x01030000) (h2 : s.dbgState = 2) (h1 : s.life = 1) (hp4 : s.policy 4 = false) (hp : s.policy 5 = false)
    (hk : s.lockedOut = false) (hf : s.fuseLocked 2 = true) (hs : Config.sha384 (keyBytes (ws.take 8)) = s.keeper.fuses.pwdhash) :
    After .dbgauthMessageEnd s (fun t => t.dbgState = 3 ∧ t.keeper.root = none ∧ t.keeper.thermos = none ∧ t.keeper.nonceTap = none ∧
      t.keeper.nonceBox = none ∧ t.keeper.outq = [] ∧ ∀ v, (t.v v).keys = []) := by
  have hmsg := message_openPwd (s := s) (w := w) (ws := ws) (level := 3) (by decide) hw
  have hok : s.openRefuse 3 = none := by
    rw [State.openRefuse, if_neg (by omega), if_pos rfl, State.scanOk, h2, h1, hp4]
    rfl
  have hm : s.message w ws = ⟨0, [], s.setDebug 3⟩ := by
    rw [hmsg, openPwd_develop h1 hp hok, if_neg (by rw [hk]; decide), if_pos (by rw [hf, hs, beq_self_eq_true]; rfl)]
    rfl
  obtain ⟨⟨hst, hroot, hth, htap, hbox, hkeys⟩, hq⟩ := (setDebug_scan h2).answer (code := 0) (out := [])
  exact ⟨_, h.ends hm (by decide), hst, hroot, hth, htap, hbox, hq, hkeys⟩

end AtMessage

/-! ### Nonces and the lockout end -/

theorem nonceExpiry_some {box : Bool} {x : Nonce} (h : (if box then s.keeper.nonceBox else s.keeper.nonceTap) = some x) : exec (.nonceExpiry box) s =
    .next ((s.at_ (x.time + 60000000000 * ns)).modKeeper (fun k => if box then { k with nonceBox := none } else { k with nonceTap := none })) := by
  show execNonceExpiry box s = _
  rw [execNonceExpiry, h]

theorem nonceExpiry_none {box : Bool} (h : (if box then s.keeper.nonceBox else s.keeper.nonceTap) = none) : exec (.nonceExpiry box) s = .next s := by
  show execNonceExpiry box s = _
  rw [execNonceExpiry, h]

theorem lockoutExpiry_eq : exec .lockoutExpiry s =
    .next (if s.fails = 16 then s.at_ s.keeper.lockUntil else (s.at_ s.keeper.lockUntil).setF R.KPR_STAT F.KPR_STAT_LOCKOUT 0) := by
  show execLockoutExpiry s = _
  rw [execLockoutExpiry, State.setB_eq]
  rfl

/-! ### Settled -/

/-- Settles O49: a message is answered with what its checks give; the debug state changes through `setDebug` alone, which leaves FULL by resuming
the cores and masking the breakpoints. -/
theorem debugAuthorisationOpensAndCloses : Obligations.DebugAuthorisationOpensAndCloses := by
  intro s w ws
  refine ⟨fun h => ⟨⟨_, push_eq h, rfl⟩, ⟨_, pop_eq h, rfl⟩, ⟨_, flush_eq h, rfl⟩⟩, tap_closed, fun e he => ?_, fun hm hroom hopen => ?_, fun box => ?_, ?_⟩
  · obtain ⟨hexec, hlen⟩ := message_commands e he
    refine ⟨fun rest hq hc hl hn => ⟨_, (hexec s).trans (congrArg Host.Outcome.next (takeMessage_taken hq hc (by rw [hlen]; exact hl) hn)), ?_⟩,
      fun rest hq hl => (hexec s).trans (congrArg Host.Outcome.next (takeMessage_short hq (by rw [hlen]; exact hl))),
      fun hn => (hexec s).trans (congrArg Host.Outcome.next (takeMessage_held hn))⟩
    rw [hlen]
  · have hat : AtMessage s w ws := ⟨hm, hroom, hopen⟩
    intro c answered unmoved changed failed
    refine ⟨fun hw => hat.unmoved (message_status (by rw [hw]; rfl)) (by decide), fun hw => hat.changed (message_lock (by rw [hw]; rfl)) (by decide),
      fun hw => hat.unmoved (message_unknown hw) (by decide), fun l hl => ⟨fun hw => hat.openPwd hl hw, fun hw => hat.chal hl hw,
        fun hw h0 h4 => hat.openSig hl hw h0 h4⟩, fun hw h2 h1 hp4 hp hk hf hs => hat.scan hw h2 h1 hp4 hp hk hf hs⟩
  · intro n
    refine ⟨fun hn => nonceExpiry_none hn, fun x hn => ⟨_, nonceExpiry_some hn, ?_⟩⟩
    cases box
    · exact ⟨rfl, rfl, rfl, rfl, rfl, rfl⟩
    · exact ⟨rfl, rfl, rfl, rfl, rfl, rfl⟩
  · intro b
    refine ⟨fun h => ⟨_, lockoutExpiry_eq.trans (congrArg Host.Outcome.next (if_pos h)), rfl⟩,
      fun h => ⟨_, lockoutExpiry_eq.trans (congrArg Host.Outcome.next (if_neg h)), ?_⟩⟩
    exact onlyWrites_setF (s := s.at_ s.keeper.lockUntil) R.KPR_STAT 0 F.KPR_STAT_LOCKOUT

end Sys2Proof.Machine
end

section
/-! A measurement DSP core fetches an instruction and goes on: what every instruction shares (07_measurement_dsp.md R231, R232, R252). -/
namespace Sys2Proof.Machine
variable {s t u : State} {m k : Fin 24} {w a n r v : Nat} {as : List Nat}

/-! ### Registers and memories of a core -/

theorem md_modMd_same (f : Mdsp → Mdsp) : (s.modMd m f).md m = f (s.md m) := by simp [State.modMd, State.md]
theorem md_modMd_other (f : Mdsp → Mdsp) (h : k ≠ m) : (s.modMd m f).md k = s.md k := by
  simp [State.modMd, State.md, Fin.val_ne_of_ne h.symm]
theorem modMd_rd (f : Mdsp → Mdsp) (a : Nat) : (s.modMd m f).rd a = s.rd a := (rfl)
theorem mset_rd_same : (s.mset m r v).rd (R.MDSP_REG m r) = BitVec.ofNat 32 (v % 65536) := State.wr_rd_same _ _ _
theorem setF_md (a n : Nat) (f : Fld) : (s.setF a f n).md k = s.md k := (rfl)
theorem wr_md (a : Nat) (x : Word) : (s.wr a x).md k = s.md k := (rfl)
theorem mset_md : (s.mset m r v).md k = s.md k := wr_md _ _

/-- A core that stays as it was. -/
theorem modMd_self {f : Mdsp → Mdsp} (h : f (s.md m) = s.md m) : s.modMd m f = s := by
  have hset : s.mdsp.set m.val (f s.mdsp[m]) m.isLt = s.mdsp := (congrArg (fun x => s.mdsp.set m.val x m.isLt) h).trans (Vector.set_getElem_self _)
  unfold State.modMd
  rw [hset]

theorem mreg_congr (h : t.rd (R.MDSP_REG m r) = s.rd (R.MDSP_REG m r)) : t.mreg m r = s.mreg m r := by rw [State.mreg, h, State.mreg]
theorem sr_congr (h : t.rd (R.MDSP_REG m 0x3C) = s.rd (R.MDSP_REG m 0x3C)) (i : Nat) : t.sr m i = s.sr m i := by rw [State.sr, mreg_congr h, State.sr]
theorem mdState_congr (h : t.rd (R.MDSP_STAT m) = s.rd (R.MDSP_STAT m)) : t.mdState m = s.mdState m := fld_congr h _
theorem mdPc_congr (h : t.rd (R.MDSP_PC m) = s.rd (R.MDSP_PC m)) : t.mdPc m = s.mdPc m := fld_congr h _

theorem mreg_lt (m : Fin 24) (r : Nat) : s.mreg m r < 65536 := Nat.mod_lt _ (by decide)
theorem mreg_mset_same : (s.mset m r v).mreg m r = v % 65536 := by
  rw [State.mreg, mset_rd_same, BitVec.toNat_ofNat]
  omega

theorem mdspReg_ne {x y : Nat} (h : x ≠ y) : R.MDSP_REG m x ≠ R.MDSP_REG m y := by
  unfold R.MDSP_REG
  omega

theorem mreg_mset_other {x : Nat} (h : x ≠ r) : (s.mset m r v).mreg m x = s.mreg m x := mreg_congr (State.wr_rd_other _ _ _ _ (mdspReg_ne h))

/-! ### What an instruction may write itself -/

/-- A register of a core that is not one of those that show its progress. -/
def EffReg (m : Fin 24) (a : Nat) : Prop := a ≠ R.MDSP_PC m ∧ a ≠ R.MDSP_STAT m ∧ a ≠ R.MDSP_CYC m

theorem effReg_reg (m : Fin 24) (r : Nat) : EffReg m (R.MDSP_REG m r) := by
  unfold EffReg R.MDSP_REG R.MDSP_PC R.MDSP_STAT R.MDSP_CYC
  omega

theorem effReg_signal (m : Fin 24) : EffReg m (R.MDSP_SCODE m) ∧ EffReg m (R.MDSP_CAUSE m) ∧ ∀ i, EffReg m (R.MDSP_EVPEND m i) := by
  unfold EffReg R.MDSP_SCODE R.MDSP_CAUSE R.MDSP_EVPEND R.MDSP_PC R.MDSP_STAT R.MDSP_CYC
  exact ⟨by omega, by omega, fun i => by omega⟩

/-- What an instruction has done before its cycles are counted: registers listed, its own core's data. -/
structure MdEffect (m : Fin 24) (as : List Nat) (s u : State) : Prop where
  frame : u = { s with regs := u.regs, mdsp := u.mdsp }
  other : ∀ k, k ≠ m → u.md k = s.md k
  regs : SameRegs as s u

theorem mdEffect_frame (h : u = { s with regs := u.regs, mdsp := u.mdsp }) (l : Sparse Word) (x : Vector Mdsp 24) :
    ({ u with regs := l, mdsp := x } : State) = { s with regs := l, mdsp := x } := by rw [h]

namespace MdEffect

theorem refl (s : State) : MdEffect m as s s := ⟨rfl, fun _ _ => rfl, .refl _ _⟩

theorem wr {x : Word} (h : MdEffect m as s u) (ha : a ∈ as) : MdEffect m as s (u.wr a x) :=
  ⟨mdEffect_frame h.frame _ _, fun k hk => (wr_md a x).trans (h.other k hk), h.regs.wr ha⟩

theorem setF {f : Fld} (h : MdEffect m as s u) (ha : a ∈ as) : MdEffect m as s (u.setF a f n) := h.wr ha
theorem mset (h : MdEffect m as s u) (ha : R.MDSP_REG m r ∈ as) : MdEffect m as s (u.mset m r v) := h.wr ha

theorem modMd {f : Mdsp → Mdsp} (h : MdEffect m as s u) : MdEffect m as s (u.modMd m f) :=
  ⟨mdEffect_frame h.frame _ _, fun k hk => (md_modMd_other f hk).trans (h.other k hk), h.regs⟩

end MdEffect

/-! ### The core goes on -/

/-- The registers that show a core's progress. -/
def mdProgress (m : Fin 24) : List Nat := [R.MDSP_PC m, R.MDSP_STAT m, R.MDSP_CYC m, R.MDSP_REG m 0x3E]

theorem mdProgress_ne (m : Fin 24) : R.MDSP_PC m ≠ R.MDSP_STAT m ∧ R.MDSP_PC m ≠ R.MDSP_CYC m ∧ R.MDSP_STAT m ≠ R.MDSP_CYC m ∧
    R.MDSP_PC m ≠ R.MDSP_REG m 0x3E ∧ R.MDSP_STAT m ≠ R.MDSP_REG m 0x3E ∧ R.MDSP_CYC m ≠ R.MDSP_REG m 0x3E := by
  unfold R.MDSP_PC R.MDSP_STAT R.MDSP_CYC R.MDSP_REG
  omega

/-- A core has gone on to an address after some cycles; its data have not changed. -/
structure Moved (m : Fin 24) (next n : Nat) (u t : State) : Prop where
  frame : t = { u with regs := t.regs, mon := t.mon }
  state : t.mdState m = u.mdState m
  pc : t.mdPc m = next
  cyc : (t.rd (R.MDSP_CYC m)).toNat = min ((u.rd (R.MDSP_CYC m)).toNat + n) (2 ^ 32 - 1)
  regs : SameRegs (mdProgress m) u t
  left : t.mreg m 0x3E = ((u.md m).reps.head?.map (·.left)).getD 0 % 65536

theorem mdShow_eq (u : State) : u.mdShow m = (((u.setF (R.MDSP_STAT m) F.MDSP_STAT_DEPTH (u.md m).stack.length).setF (R.MDSP_STAT m)
    F.MDSP_STAT_RDEPTH (u.md m).reps.length).setF (R.MDSP_STAT m) F.MDSP_STAT_CACHED (b2n (u.md m).cached)).mset m 0x3E
    (((u.md m).reps.head?.map (·.left)).getD 0) := by
  rw [State.mdShow, State.setB_eq]

theorem mdShow_frame : u.mdShow m = { u with regs := (u.mdShow m).regs } := by
  have h : OnlyRegs [R.MDSP_STAT m, R.MDSP_REG m 0x3E] u (u.mdShow m) := by
    rw [mdShow_eq]
    exact ((((OnlyRegs.refl _ u).setF (by simp)).setF (by simp)).setF (by simp)).wr (by simp)
  exact h.1

theorem mdShow_rd (hs : a ≠ R.MDSP_STAT m) (hr : a ≠ R.MDSP_REG m 0x3E) : (u.mdShow m).rd a = u.rd a := by
  rw [mdShow_eq, State.mset, State.wr_rd_other _ _ _ _ hr, State.setF_rd_other _ _ _ _ _ hs, State.setF_rd_other _ _ _ _ _ hs,
    State.setF_rd_other _ _ _ _ _ hs]

theorem mdShow_state : (u.mdShow m).mdState m = u.mdState m := by
  have hne := (mdProgress_ne m).2.2.2.2.1
  rw [State.mdState, mdShow_eq, State.mset, State.wr_fld_other _ _ _ _ _ hne, State.setF_fld_other _ _ _ _ _ _ (.inr (by decide)),
    State.setF_fld_other _ _ _ _ _ _ (.inr (by decide)), State.setF_fld_other _ _ _ _ _ _ (.inr (by decide)), State.mdState]

theorem mdShow_left : (u.mdShow m).mreg m 0x3E = ((u.md m).reps.head?.map (·.left)).getD 0 % 65536 := by
  rw [mdShow_eq, mreg_mset_same]

theorem mdCycles_eq (u : State) (m n : Nat) : ∃ x, u.mdCycles m n = { u.bump (R.MDSP_CYC m) F.MDSP_CYC_COUNT n with mon := x } := by
  rw [State.mdCycles]
  generalize u.bump (R.MDSP_CYC m) F.MDSP_CYC_COUNT n = z
  exact tally_eq z _ _ _

theorem mdCycles_rd (h : a ≠ R.MDSP_CYC m) : (u.mdCycles m n).rd a = u.rd a := by
  rw [State.mdCycles, tally_rd, State.bump_eq, State.setF_rd_other _ _ _ _ _ h]

theorem mdCycles_cyc : ((u.mdCycles m n).rd (R.MDSP_CYC m)).toNat = min ((u.rd (R.MDSP_CYC m)).toNat + n) (2 ^ 32 - 1) := by
  rw [State.mdCycles, tally_rd]
  exact bump_word

theorem bumped_frame (b c : Nat) (f : Fld) : u.bump b f c = { u with regs := (u.bump b f c).regs } := by
  rw [State.bump_eq]
  exact setF_frame (s := u) rfl _ _ _

theorem monitored_frame {y z : State} {x : Vector Mon 6} (hy : y = { z with mon := x }) (hz : z = { u with regs := z.regs }) :
    y = { u with regs := y.regs, mon := y.mon } := by
  generalize z.regs = r at hz
  subst hz hy
  rfl

theorem mdCycles_frame : u.mdCycles m n = { u with regs := (u.mdCycles m n).regs, mon := (u.mdCycles m n).mon } := by
  obtain ⟨x, hx⟩ := mdCycles_eq u m n
  exact monitored_frame hx (bumped_frame _ _ _)

theorem mdCycles_md : (u.mdCycles m n).md k = u.md k := by
  have h := mdCycles_frame (u := u) (m := m) (n := n)
  generalize u.mdCycles m n = y at h
  rw [h]
  rfl

theorem moved_frame (h : t = { u with regs := t.regs, mon := t.mon }) (l : Sparse Word) : ({ t with regs := l } : State) = { u with regs := l, mon := t.mon } := by
  rw [h]

theorem moved_setF (h : t = { u with regs := t.regs, mon := t.mon }) (b c : Nat) (f : Fld) :
    t.setF b f c = { u with regs := (t.setF b f c).regs, mon := (t.setF b f c).mon } := moved_frame h _

theorem moved_mdShow (h : t = { u with regs := t.regs, mon := t.mon }) : t.mdShow m = { u with regs := (t.mdShow m).regs, mon := (t.mdShow m).mon } := by
  have hs := mdShow_frame (u := t) (m := m)
  generalize t.mdShow m = x at hs
  rw [hs]
  exact moved_frame h _

/-- The address and the cycles of an instruction, before the core shows where it stands. -/
structure Paced (m : Fin 24) (next n : Nat) (u y : State) : Prop where
  frame : y = { u with regs := y.regs, mon := y.mon }
  data : y.md m = u.md m
  stat : y.rd (R.MDSP_STAT m) = u.rd (R.MDSP_STAT m)
  pc : y.mdPc m = next
  cyc : (y.rd (R.MDSP_CYC m)).toNat = min ((u.rd (R.MDSP_CYC m)).toNat + n) (2 ^ 32 - 1)
  regs : ∀ a, a ≠ R.MDSP_PC m → a ≠ R.MDSP_CYC m → y.rd a = u.rd a

theorem Paced.shown {next : Nat} {y : State} (h : Paced m next n u y) : Moved m next n u (y.mdShow m) := by
  obtain ⟨hps, hpc, hsc, hpr, hsr, hcr⟩ := mdProgress_ne m
  refine ⟨moved_mdShow h.frame, mdShow_state.trans (mdState_congr h.stat), (mdPc_congr (mdShow_rd hps hpr)).trans h.pc, ?_, fun a ha => ?_, ?_⟩
  · rw [mdShow_rd hsc.symm hcr, h.cyc]
  · simp only [mdProgress, List.mem_cons, List.not_mem_nil, or_false, not_or] at ha
    obtain ⟨h1, h2, h3, h4⟩ := ha
    rw [mdShow_rd h2 h4, h.regs a h1 h3]
  · rw [mdShow_left, h.data]

section Pace
variable {next : Nat} (hn : next < 32768)
include hn

theorem paced_after : Paced m next n u ((u.mdCycles m n).setF (R.MDSP_PC m) F.MDSP_PC_ADDR next) := by
  obtain ⟨hps, hpc, hsc, -, -, -⟩ := mdProgress_ne m
  refine ⟨moved_setF mdCycles_frame _ _ _, (setF_md _ _ _).trans mdCycles_md, ?_, setF_fld_of_lt (by decide) hn, ?_, fun a h1 h2 => ?_⟩
  · rw [State.setF_rd_other _ _ _ _ _ hps.symm, mdCycles_rd hsc]
  · rw [State.setF_rd_other _ _ _ _ _ hpc.symm, mdCycles_cyc]
  · rw [State.setF_rd_other _ _ _ _ _ h1, mdCycles_rd h2]

theorem paced_before : Paced m next n u ((u.setF (R.MDSP_PC m) F.MDSP_PC_ADDR next).mdCycles m n) := by
  obtain ⟨hps, hpc, hsc, -, -, -⟩ := mdProgress_ne m
  have hset : u.setF (R.MDSP_PC m) F.MDSP_PC_ADDR next = { u with regs := (u.setF (R.MDSP_PC m) F.MDSP_PC_ADDR next).regs, mon := u.mon } :=
    setF_frame (s := u) rfl _ _ _
  refine ⟨?_, mdCycles_md.trans (setF_md _ _ _), ?_, ?_, ?_, fun a h1 h2 => ?_⟩
  · have hf := mdCycles_frame (u := u.setF (R.MDSP_PC m) F.MDSP_PC_ADDR next) (m := m) (n := n)
    generalize (u.setF (R.MDSP_PC m) F.MDSP_PC_ADDR next).mdCycles m n = y at hf
    generalize u.setF (R.MDSP_PC m) F.MDSP_PC_ADDR next = z at hf hset
    rw [hf, hset]
  · rw [mdCycles_rd hsc, State.setF_rd_other _ _ _ _ _ hps.symm]
  · rw [mdPc_congr (mdCycles_rd hpc)]
    exact setF_fld_of_lt (by decide) hn
  · rw [mdCycles_cyc, State.setF_rd_other _ _ _ _ _ hpc.symm]
  · rw [mdCycles_rd h2, State.setF_rd_other _ _ _ _ _ h1]

theorem moved_mdJump : Moved m next n u (u.mdJump m next n) := (paced_before hn).shown

end Pace

theorem mdNext_eq (h : (u.md m).reps = []) (a : Nat) : u.mdNext m a = (u.setF (R.MDSP_PC m) F.MDSP_PC_ADDR ((a + 1) % 32768)).mdShow m := by
  rw [State.mdNext, h]
  have hself : u.modMd m (fun c => { c with reps := [], held := (u.md m).held }) = u := modMd_self (by rw [← h])
  exact congrArg (fun x : State => (x.setF (R.MDSP_PC m) F.MDSP_PC_ADDR ((a + 1) % 32768)).mdShow m) hself

theorem moved_mdNext (h : (u.md m).reps = []) (a : Nat) : Moved m ((a + 1) % 32768) n u ((u.mdCycles m n).mdNext m a) := by
  rw [mdNext_eq (mdCycles_md.symm ▸ h)]
  exact (paced_after (Nat.mod_lt _ (by decide))).shown

theorem moved_mdSeq (h : (u.md m).reps = []) (a : Nat) : Moved m ((a + 1) % 32768) 1 u (u.mdSeq m a) := moved_mdNext h a

/-! ### An instruction completes -/

section Done
variable {next : Nat} (h : MdEffect m as s u) (ha : ∀ a ∈ as, EffReg m a) (hm : Moved m next n u t)
include h ha hm

/-- What an instruction writes, and the core's progress, are all that differs. -/
theorem mdspDone_of (hs : s.mdState m = 1) : MdspDone m next n as s t := by
  have hstat : u.rd (R.MDSP_STAT m) = s.rd (R.MDSP_STAT m) := h.regs _ fun hin => (ha _ hin).2.1 rfl
  have hcyc : u.rd (R.MDSP_CYC m) = s.rd (R.MDSP_CYC m) := h.regs _ fun hin => (ha _ hin).2.2 rfl
  have hmd : t.mdsp = u.mdsp := by rw [hm.frame]
  refine ⟨?_, fun k hk => ?_, ?_, hm.pc, ?_, fun a hn => ?_⟩
  · rw [hm.frame]
    exact (congrArg (fun y : State => ({ y with regs := t.regs, mon := t.mon } : State)) h.frame :)
  · rw [← h.other k hk, State.md, hmd, State.md]
  · rw [hm.state, mdState_congr hstat, hs]
  · rw [hm.cyc, hcyc]
  · simp only [List.mem_cons, not_or] at hn
    obtain ⟨h1, h2, h3, h4, h5⟩ := hn
    rw [hm.regs a (by simp [mdProgress, h1, h2, h3, h4]), h.regs a h5]

end Done

namespace Moved
variable {next : Nat} (hm : Moved m next n u t)
include hm

theorem mdsp : t.mdsp = u.mdsp := by rw [hm.frame]
theorem md (k : Fin 24) : t.md k = u.md k := by rw [State.md, hm.mdsp, State.md]

theorem mreg (h : r ≠ 0x3E) : t.mreg m r = u.mreg m r :=
  mreg_congr (hm.regs _ (by
    have hne := mdspReg_ne (m := m) h
    obtain ⟨h1, h2, h3⟩ := effReg_reg m r
    simp [mdProgress, h1, h2, h3, hne]))

theorem sr (i : Nat) : t.sr m i = u.sr m i := by rw [State.sr, hm.mreg (by decide), State.sr]

theorem eff (h : EffReg m a) (hr : a ≠ R.MDSP_REG m 0x3E) : t.rd a = u.rd a :=
  hm.regs _ (by
    obtain ⟨h1, h2, h3⟩ := h
    simp [mdProgress, h1, h2, h3, hr])

end Moved

/-! ### The fetch -/

section Fetch
variable (h : MdspAt s m w)
include h

theorem mdStep_at {mine : Nat → Bool} {body : Nat → Nat → State → State} (hm : mine w = true) : s.mdStep m [] mine body = body (s.mdPc m) w s := by
  obtain ⟨hst, hfrz, hreps, hue, hw⟩ := h
  have hcached : (s.md m).cached = false := by rw [Mdsp.cached, hreps]
  have hclean : s.mdEcc m 2 (s.mdPc m) .clean = .clean := by rw [State.mdEcc, hue]; rfl
  have hnth : (nth ([] : List Ecc) 0 .clean) = .clean := rfl
  rw [State.mdStep, if_neg (by rw [hst, hfrz]; decide), hcached]
  dsimp only
  rw [hw, hnth, if_neg (by rw [Bool.not_false, if_pos rfl, hclean]; decide), if_pos hm, if_neg (by decide)]

end Fetch

theorem mdFault_ne (m : Fin 24) : R.MDSP_STAT m ≠ R.MDSP_CAUSE m ∧ R.MDSP_STAT m ≠ R.MDSP_FAULT m ∧ R.MDSP_CAUSE m ≠ R.MDSP_FAULT m := by
  unfold R.MDSP_STAT R.MDSP_CAUSE R.MDSP_FAULT
  omega

theorem mdFault_faults (code : Nat) : MdspFaults m code s (s.mdFault m code (s.mdPc m)) := by
  obtain ⟨hsc, hsf, hcf⟩ := mdFault_ne m
  have heq : s.mdFault m code (s.mdPc m) = (((s.setF (R.MDSP_STAT m) F.MDSP_STAT_STATE 3).setF (R.MDSP_CAUSE m) F.MDSP_CAUSE_FAULT 1).setF
      (R.MDSP_FAULT m) F.MDSP_FAULT_CODE code).setF (R.MDSP_FAULT m) F.MDSP_FAULT_ADDR (s.mdPc m) := by
    rw [State.mdFault, State.raise_eq]
    rfl
  have honly : OnlyRegs [R.MDSP_STAT m, R.MDSP_CAUSE m, R.MDSP_FAULT m] s (s.mdFault m code (s.mdPc m)) := by
    rw [heq]
    exact ((((OnlyRegs.refl _ s).setF (by simp)).setF (by simp)).setF (by simp)).setF (by simp)
  refine ⟨honly.1, fun e he => ?_, honly.2⟩
  simp only [List.mem_cons, List.not_mem_nil, or_false] at he
  rw [heq]
  rcases he with rfl | rfl | rfl
  · rw [State.setF_rd_other _ _ _ _ _ hsf, State.setF_rd_other _ _ _ _ _ hsf, State.setF_rd_other _ _ _ _ _ hsc, State.setF, State.wr_rd_same]
    rfl
  · rw [State.setF_rd_other _ _ _ _ _ hcf, State.setF_rd_other _ _ _ _ _ hcf, State.setF, State.wr_rd_same, State.setF_rd_other _ _ _ _ _ hsc.symm]
    rfl
  · rw [State.setF, State.wr_rd_same, State.setF, State.wr_rd_same, State.setF_rd_other _ _ _ _ _ hcf.symm, State.setF_rd_other _ _ _ _ _ hsf.symm]
    rfl

end Sys2Proof.Machine
end

section
/-! The control format of a measurement DSP core: decoding, flow and repeat blocks (07_measurement_dsp.md R249 to R253). -/
namespace Sys2Proof.Machine
variable {s t u : State} {m k : Fin 24} {w a n r v x cop mask : Nat} {as : List Nat}

/-! ### Fields of a word -/

theorem bitOf_eq (v i : Nat) : bitOf v i = decide (v / 2 ^ i % 2 = 1) := Nat.testBit_eq_decide_div_mod_eq

/-- A zone of bits that are all 0. -/
theorem and_zone {j b : Nat} (h : x / 2 ^ j % 2 ^ b = 0) : x &&& ((2 ^ b - 1) * 2 ^ j) = 0 := by
  refine Nat.eq_of_testBit_eq fun i => ?_
  rw [Nat.testBit_and, Nat.testBit_mul_two_pow, Nat.testBit_two_pow_sub_one, Nat.zero_testBit]
  by_cases hj : j ≤ i
  · by_cases hb : i - j < b
    · have hz : (x / 2 ^ j % 2 ^ b).testBit (i - j) = false := by rw [h, Nat.zero_testBit]
      rw [Nat.testBit_mod_two_pow, Nat.testBit_div_two_pow, decide_eq_true hb, Bool.true_and, Nat.sub_add_cancel hj] at hz
      rw [hz, Bool.false_and]
    · rw [decide_eq_false hb, Bool.and_false, Bool.and_false]
  · rw [decide_eq_false hj, Bool.false_and, Bool.and_false]

theorem and_zones {y z : Nat} (hy : x &&& y = 0) (hz : x &&& z = 0) : x &&& (y ||| z) = 0 := by
  rw [Nat.and_or_distrib_left, hy, hz, Nat.or_zero]

/-- A control-format word by its code and its other bits. -/
theorem ctl_fields (hw : w = 2 ^ 31 + cop * 2 ^ 26 + x) (hc : cop < 32) (hx : x < 2 ^ 26) :
    bitOf w 31 = true ∧ bitsOf w 26 5 = cop ∧ bitsOf w 0 26 = x := by
  refine ⟨?_, ?_, ?_⟩
  · rw [bitOf_eq, decide_eq_true]
    omega
  · unfold bitsOf
    omega
  · unfold bitsOf
    omega

/-- A control-format instruction whose reserved bits are 0 acts. -/
theorem mdCtl_at (h : MdspAt s m w) (hw : w = 2 ^ 31 + cop * 2 ^ 26 + x) (hc : cop < 32) (hx : x < 2 ^ 26) (hz : x &&& (67108863 ^^^ mask) = 0)
    {body : Nat → Nat → State → State} : s.mdCtl m [] cop mask body = body (s.mdPc m) w s := by
  obtain ⟨h31, hcop, hbits⟩ := ctl_fields hw hc hx
  rw [State.mdCtl, mdStep_at h (by rw [h31, hcop, beq_self_eq_true]; rfl), hbits, hz]
  rfl

/-! ### In sequence, and to an address -/

section Complete
variable (h : MdspAt s m w)
include h

theorem at_state : s.mdState m = 1 := h.1
theorem at_reps : (s.md m).reps = [] := h.2.2.1
theorem at_ue : (s.md m).ue = [] := h.2.2.2.1

theorem at_cached : (s.md m).cached = false := by rw [Mdsp.cached, at_reps h]

/-- An instruction that goes on in sequence. -/
theorem seq_done (he : MdEffect m as s u) (ha : ∀ a ∈ as, EffReg m a) (hr : (u.md m).reps = []) :
    MdspDone m ((s.mdPc m + 1) % 32768) n as s ((u.mdCycles m n).mdNext m (s.mdPc m)) :=
  mdspDone_of he ha (moved_mdNext hr _) (at_state h)

/-- An instruction that goes on at an address. -/
theorem jump_done (he : MdEffect m [] s u) (ha : a < 32768) : MdspDone m a n [] s (u.mdJump m a n) :=
  mdspDone_of he (by simp) (moved_mdJump ha) (at_state h)

theorem mdFlow_at (y : State) (pc : Nat) : s.mdFlow m pc y = y := by
  rw [State.mdFlow, at_reps h]
  rfl

end Complete

/-- An instruction that does nothing else. -/
theorem seq_alone (h : MdspAt s m w) : MdspDone m ((s.mdPc m + 1) % 32768) 1 [] s (s.mdSeq m (s.mdPc m)) ∧ (s.mdSeq m (s.mdPc m)).md m = s.md m :=
  ⟨seq_done h (.refl s) (by simp) (at_reps h), (moved_mdSeq (at_reps h) _).md m⟩

theorem jump_alone (h : MdspAt s m w) (ha : a < 32768) : MdspDone m a n [] s (s.mdJump m a n) ∧ (s.mdJump m a n).md m = s.md m :=
  ⟨jump_done h (.refl s) ha, (moved_mdJump ha).md m⟩

/-! ### HALT and the end of a run -/

theorem sameMd_of_frame {x : Sparse Word} (h : t = { u with regs := x }) : t.md k = u.md k := by
  subst h
  rfl

theorem mdShow_md : (u.mdShow m).md k = u.md k := sameMd_of_frame mdShow_frame

/-- A core that ends its run leaves its stacks behind. -/
structure RunEnded (m : Fin 24) (q y : State) : Prop where
  frame : y = { q with regs := y.regs, mdsp := y.mdsp }
  state : y.mdState m = 0
  pc : y.mdPc m = q.mdPc m
  data : y.md m = { q.md m with stack := [], reps := [], waitEv := none }
  other : ∀ k, k ≠ m → y.md k = q.md k
  regs : SameRegs [R.MDSP_STAT m, R.MDSP_REG m 0x3E] q y

/-- Showing where a core stands changes registers only. -/
theorem runEnded_mdShow {q z : State} (heff : MdEffect m [R.MDSP_STAT m] q z) (hst : z.mdState m = 0)
    (hdata : z.md m = { q.md m with stack := [], reps := [], waitEv := none }) : RunEnded m q (z.mdShow m) := by
  obtain ⟨hps, -, -, hpr, -, -⟩ := mdProgress_ne m
  refine ⟨?_, mdShow_state.trans hst, ?_, mdShow_md.trans hdata, fun k hk => mdShow_md.trans (heff.other k hk), fun a ha => ?_⟩
  · have hs := mdShow_frame (u := z) (m := m)
    generalize z.mdShow m = y at hs
    rw [hs]
    exact mdEffect_frame heff.frame _ _
  · rw [mdPc_congr (mdShow_rd hps hpr), mdPc_congr (heff.regs _ (by simp [hps]))]
  · simp only [List.mem_cons, List.not_mem_nil, or_false, not_or] at ha
    rw [mdShow_rd ha.1 ha.2, heff.regs a (by simp [ha.1])]

theorem runEnded_of (q : State) : RunEnded m q ((q.setMdState m 0).mdDiscard m) := by
  rw [State.setMdState, State.mdDiscard]
  have hset : MdEffect m [R.MDSP_STAT m] q (q.setF (R.MDSP_STAT m) F.MDSP_STAT_STATE 0) := (MdEffect.refl q).setF (by simp)
  have hst : (q.setF (R.MDSP_STAT m) F.MDSP_STAT_STATE 0).mdState m = 0 := setF_fld_of_lt (by decide) (by decide)
  have hmd : (q.setF (R.MDSP_STAT m) F.MDSP_STAT_STATE 0).md m = q.md m := setF_md _ _ _
  generalize q.setF (R.MDSP_STAT m) F.MDSP_STAT_STATE 0 = z at hset hst hmd
  exact runEnded_mdShow hset.modMd ((mdState_congr (modMd_rd _ _)).trans hst) (by rw [md_modMd_same, hmd])

theorem exec_mdHalt (h : MdspAt s m w) (hw : w = 2 ^ 31 + 0 * 2 ^ 26 + 0) (stop : Bool) : exec (.mdHalt m stop []) s =
    .next (if stop then (((s.mdCycles m 1).setF (R.MDSP_PC m) F.MDSP_PC_ADDR ((s.mdPc m + 1) % 32768)).setMdState m 0).mdDiscard m
      else ((((s.mdCycles m 1).setF (R.MDSP_PC m) F.MDSP_PC_ADDR ((s.mdPc m + 1) % 32768)).setMdState m 0).mdDiscard m).raise (R.MDSP_CAUSE m)
        F.MDSP_CAUSE_HALT) := by
  show execMdHalt m stop [] s = _
  rw [execMdHalt, mdCtl_at h hw (by decide) (by decide) (Nat.zero_and _)]

theorem halt_spec (h : MdspAt s m w) (hw : w = 2 ^ 31 + 0 * 2 ^ 26 + 0) (stop : Bool) : After (.mdHalt m stop []) s (fun t => t.mdState m = 0 ∧
    t.mdPc m = (s.mdPc m + 1) % 32768 ∧ (t.md m).stack = [] ∧ (stop = false → t.flag (R.MDSP_CAUSE m) F.MDSP_CAUSE_HALT = true) ∧
    (stop = true → t.rd (R.MDSP_CAUSE m) = s.rd (R.MDSP_CAUSE m)) ∧
    SameRegs [R.MDSP_PC m, R.MDSP_STAT m, R.MDSP_CYC m, R.MDSP_REG m 0x3E, R.MDSP_CAUSE m] s t) := by
  have hpace : Paced m ((s.mdPc m + 1) % 32768) 1 s ((s.mdCycles m 1).setF (R.MDSP_PC m) F.MDSP_PC_ADDR ((s.mdPc m + 1) % 32768)) :=
    paced_after (Nat.mod_lt _ (by decide))
  refine ⟨_, exec_mdHalt h hw stop, ?_⟩
  generalize (s.mdCycles m 1).setF (R.MDSP_PC m) F.MDSP_PC_ADDR ((s.mdPc m + 1) % 32768) = p at hpace
  have hend := runEnded_of (m := m) p
  generalize (p.setMdState m 0).mdDiscard m = y at hend
  obtain ⟨hcp, hcs, hcc⟩ := (effReg_signal m).2.1
  have hcr : R.MDSP_CAUSE m ≠ R.MDSP_REG m 0x3E := by
    unfold R.MDSP_CAUSE R.MDSP_REG
    omega
  have hregs : ∀ b, b ∉ [R.MDSP_PC m, R.MDSP_STAT m, R.MDSP_CYC m, R.MDSP_REG m 0x3E] → y.rd b = s.rd b := fun b hb => by
    simp only [List.mem_cons, List.not_mem_nil, or_false, not_or] at hb
    obtain ⟨h1, h2, h3, h4⟩ := hb
    rw [hend.regs b (by simp [h2, h4]), hpace.regs b h1 h3]
  cases stop with
  | true =>
    refine ⟨hend.state, hend.pc.trans hpace.pc, by rw [if_pos rfl, hend.data], nofun, fun _ => hregs _ (by simp [hcp, hcs, hcc, hcr]), fun b hb => hregs b ?_⟩
    simp only [List.mem_cons, List.not_mem_nil, or_false, not_or] at hb ⊢
    tauto
  | false =>
    rw [if_neg (by decide), State.raise_eq]
    refine ⟨(mdState_congr (State.setF_rd_other _ _ _ _ _ hcs.symm)).trans hend.state,
      (mdPc_congr (State.setF_rd_other _ _ _ _ _ hcp.symm)).trans (hend.pc.trans hpace.pc), by rw [setF_md, hend.data], fun _ => ?_, nofun, fun b hb => ?_⟩
    · rw [← State.raise_eq]
      exact State.raise_flag _ _ _ (by decide) rfl
    · simp only [List.mem_cons, List.not_mem_nil, or_false, not_or] at hb
      obtain ⟨h1, h2, h3, h4, h5⟩ := hb
      rw [State.setF_rd_other _ _ _ _ _ h5, hregs b (by simp [h1, h2, h3, h4])]

/-! ### Jumps and calls -/

section Flow
variable (h : MdspAt s m w) (ha : a < 32768)
include h ha

theorem jmp_spec (hw : w = 2 ^ 31 + 1 * 2 ^ 26 + a) : After (.mdJmp m []) s (fun t => MdspDone m a 2 [] s t ∧ t.md m = s.md m) := by
  have hf : bitsOf w 0 15 = a := by unfold bitsOf; omega
  refine ⟨s.mdJump m a 2, ?_, jump_alone h ha⟩
  show execMdJmp m [] s = _
  rw [execMdJmp, mdCtl_at h hw (by decide) (by omega) (show a &&& ((2 ^ 11 - 1) * 2 ^ 15) = 0 from and_zone (by omega)), mdFlow_at h, hf]

theorem exec_mdCall (hw : w = 2 ^ 31 + 3 * 2 ^ 26 + a) : exec (.mdCall m []) s = .next (if 8 ≤ (s.md m).stack.length then s.mdFault m 3 (s.mdPc m)
    else (s.modMd m (fun c => { c with stack := ((s.mdPc m + 1) % 32768) :: c.stack })).mdJump m a 2) := by
  have hf : bitsOf w 0 15 = a := by unfold bitsOf; omega
  show execMdCall m [] s = _
  rw [execMdCall, mdCtl_at h hw (by decide) (by omega) (show a &&& ((2 ^ 11 - 1) * 2 ^ 15) = 0 from and_zone (by omega)), mdFlow_at h, hf]

theorem call_spec (hw : w = 2 ^ 31 + 3 * 2 ^ 26 + a) (hl : (s.md m).stack.length < 8) : After (.mdCall m []) s (fun t => MdspDone m a 2 [] s t ∧
    (t.md m).stack = (s.mdPc m + 1) % 32768 :: (s.md m).stack) := by
  refine ⟨_, (exec_mdCall h ha hw).trans (congrArg _ (if_neg (by omega))), jump_done h (MdEffect.refl s).modMd ha, ?_⟩
  rw [(moved_mdJump ha).md, md_modMd_same]

theorem call_full (hw : w = 2 ^ 31 + 3 * 2 ^ 26 + a) (hl : 8 ≤ (s.md m).stack.length) : After (.mdCall m []) s (MdspFaults m 3 s) :=
  ⟨_, (exec_mdCall h ha hw).trans (congrArg _ (if_pos hl)), mdFault_faults 3⟩

/-- What JCC does with a condition (R250). -/
theorem exec_mdJcc {c : Nat} (hc : c < 16) (hw : w = 2 ^ 31 + 2 * 2 ^ 26 + (c * 2 ^ 16 + a)) : exec (.mdJcc m []) s = .next (
    if 8 < c then s.mdFault m 1 (s.mdPc m) else if s.jccHolds m c then s.mdJump m a 2 else s.mdSeq m (s.mdPc m)) := by
  have hf : bitsOf w 0 15 = a := by unfold bitsOf; omega
  have hcc : bitsOf w 16 4 = c := by unfold bitsOf; omega
  have hz : (c * 2 ^ 16 + a) &&& ((2 ^ 1 - 1) * 2 ^ 15 ||| (2 ^ 6 - 1) * 2 ^ 20) = 0 := and_zones (and_zone (by omega)) (and_zone (by omega))
  show execMdJcc m [] s = _
  rw [execMdJcc, mdCtl_at h hw (by decide) (by omega) hz, hcc, hf, mdFlow_at h]

theorem jcc_spec {c : Nat} (hc : c < 16) (hw : w = 2 ^ 31 + 2 * 2 ^ 26 + (c * 2 ^ 16 + a)) :
    let holds := [true, s.sr m 9, !s.sr m 9, s.sr m 10, !s.sr m 10, s.sr m 2, !s.sr m 2, s.sr m 8, !s.sr m 8]
    (holds[c]? = some true → After (.mdJcc m []) s (fun t => MdspDone m a 2 [] s t ∧ t.md m = s.md m)) ∧
    (holds[c]? = some false → After (.mdJcc m []) s (fun t => MdspDone m ((s.mdPc m + 1) % 32768) 1 [] s t ∧ t.md m = s.md m)) ∧
    (holds[c]? = none → After (.mdJcc m []) s (MdspFaults m 1 s)) := by
  intro holds
  have hexec := exec_mdJcc h ha hc hw
  have hval : ∀ b, holds[c]? = some b → c ≤ 8 ∧ s.jccHolds m c = b := fun b hb => by
    have hlt : c < 9 := by
      obtain ⟨hl, -⟩ := List.getElem?_eq_some_iff.mp hb
      exact hl
    refine ⟨by omega, Option.some.inj (Eq.trans ?_ hb)⟩
    have hall : ∀ i : Fin 9, some (s.jccHolds m i) = holds[i.val]? := by
      intro i
      fin_cases i <;> rfl
    exact hall ⟨c, hlt⟩
  refine ⟨fun hb => ?_, fun hb => ?_, fun hb => ?_⟩
  · obtain ⟨h8, hj⟩ := hval _ hb
    rw [if_neg (by omega), hj] at hexec
    exact ⟨_, hexec, jump_alone h ha⟩
  · obtain ⟨h8, hj⟩ := hval _ hb
    rw [if_neg (by omega), hj] at hexec
    exact ⟨_, hexec, seq_alone h⟩
  · have h8 : 8 < c := by
      have hl := List.getElem?_eq_none_iff.mp hb
      exact hl
    rw [if_pos h8] at hexec
    exact ⟨_, hexec, mdFault_faults 1⟩

end Flow

theorem exec_mdRet (h : MdspAt s m w) (hw : w = 2 ^ 31 + 4 * 2 ^ 26 + 0) : exec (.mdRet m []) s = .next (match (s.md m).stack with
    | [] => s.mdFault m 3 (s.mdPc m)
    | a :: r => (s.modMd m (fun c => { c with stack := r })).mdJump m a 2) := by
  show execMdRet m [] s = _
  rw [execMdRet, mdCtl_at h hw (by decide) (by decide) (Nat.zero_and _), mdFlow_at h] <;> rfl

theorem ret_spec (h : MdspAt s m w) (hw : w = 2 ^ 31 + 4 * 2 ^ 26 + 0) :
    (∀ a rest, (s.md m).stack = a :: rest → a < 32768 → After (.mdRet m []) s (fun t => MdspDone m a 2 [] s t ∧ (t.md m).stack = rest)) ∧
    ((s.md m).stack = [] → After (.mdRet m []) s (MdspFaults m 3 s)) := by
  refine ⟨fun a rest hst ha => ?_, fun hst => ?_⟩
  · refine ⟨(s.modMd m (fun c => { c with stack := rest })).mdJump m a 2, ?_, jump_done h (MdEffect.refl s).modMd ha, ?_⟩
    · rw [exec_mdRet h hw, hst]
    · rw [(moved_mdJump ha).md, md_modMd_same]
  · refine ⟨s.mdFault m 3 (s.mdPc m), ?_, mdFault_faults 3⟩
    rw [exec_mdRet h hw, hst]

/-! ### Repeat blocks -/

section Repeat
variable (h : MdspAt s m w)
include h

omit h in
theorem mdRepeat_back {count last : Nat} (hl : last < s.mdPc m + 1) : s.mdRepeat m (s.mdPc m) count last = s.mdFault m 2 (s.mdPc m) := by
  rw [State.mdRepeat]
  exact if_pos (.inl hl)

theorem mdRepeat_ahead {count last : Nat} (hl : s.mdPc m + 1 ≤ last) : s.mdRepeat m (s.mdPc m) count last =
    if count = 0 then s.mdSeq m last
    else (s.modMd m (fun c => { c with reps := ⟨s.mdPc m + 1, last, count, c.held != some (s.mdPc m + 1, last)⟩ :: c.reps })).mdJump m (s.mdPc m + 1) 1 := by
  have hno : ¬ (last < s.mdPc m + 1 ∨ 3 ≤ (s.md m).reps.length ∨ (s.md m).reps.any (fun b => decide (b.last < last) || b.last == s.mdPc m) = true) := by
    rw [at_reps h]
    simp
    omega
  rw [State.mdRepeat]
  exact if_neg hno

/-- A block of count iterations begins. -/
theorem block_begins {count last : Nat} (hl : s.mdPc m + 1 ≤ last) (hlast : last < 32768) (hc : count < 65536) (h0 : count ≠ 0) :
    let t := s.mdRepeat m (s.mdPc m) count last
    MdspDone m (s.mdPc m + 1) 1 [] s t ∧ (t.md m).reps = [⟨s.mdPc m + 1, last, count, (s.md m).held != some (s.mdPc m + 1, last)⟩] ∧
    t.mreg m 0x3E = count := by
  intro t
  have ht : t = (s.modMd m (fun c => { c with reps := ⟨s.mdPc m + 1, last, count, c.held != some (s.mdPc m + 1, last)⟩ :: c.reps })).mdJump m
      (s.mdPc m + 1) 1 := (mdRepeat_ahead h hl).trans (if_neg h0)
  have hmove := moved_mdJump (m := m) (n := 1) (u := s.modMd m (fun c => { c with
    reps := ⟨s.mdPc m + 1, last, count, c.held != some (s.mdPc m + 1, last)⟩ :: c.reps })) (next := s.mdPc m + 1) (by omega)
  rw [← ht] at hmove
  refine ⟨?_, ?_, ?_⟩
  · rw [ht]
    exact jump_done h (MdEffect.refl s).modMd (by omega)
  · rw [hmove.md, md_modMd_same, at_reps h]
  · rw [hmove.left, md_modMd_same]
    exact Nat.mod_eq_of_lt hc

variable (ha : a < 32768)
include ha

theorem rep_spec (hn : n < 1024) (hw : w = 2 ^ 31 + 5 * 2 ^ 26 + (n * 2 ^ 15 + a)) :
    (n = 0 → After (.mdRep m []) s (MdspFaults m 1 s)) ∧
    (0 < n → a < s.mdPc m + 1 → After (.mdRep m []) s (MdspFaults m 2 s)) ∧
    (0 < n → s.mdPc m + 1 ≤ a → After (.mdRep m []) s (fun t => MdspDone m (s.mdPc m + 1) 1 [] s t ∧
      (t.md m).reps = [⟨s.mdPc m + 1, a, n, (s.md m).held != some (s.mdPc m + 1, a)⟩] ∧ t.mreg m 0x3E = n)) := by
  have hf : bitsOf w 0 15 = a := by unfold bitsOf; omega
  have hnn : bitsOf w 15 10 = n := by unfold bitsOf; omega
  have hexec : exec (.mdRep m []) s = .next (if n = 0 then s.mdFault m 1 (s.mdPc m) else s.mdRepeat m (s.mdPc m) n a) := by
    show execMdRep m [] s = _
    rw [execMdRep, mdCtl_at h hw (by decide) (by omega) (show (n * 2 ^ 15 + a) &&& ((2 ^ 1 - 1) * 2 ^ 25) = 0 from and_zone (by omega)), hnn, hf]
  refine ⟨fun h0 => ?_, fun h0 hl => ?_, fun h0 hl => ?_⟩
  · rw [if_pos h0] at hexec
    exact ⟨_, hexec, mdFault_faults 1⟩
  · rw [if_neg (by omega), mdRepeat_back hl] at hexec
    exact ⟨_, hexec, mdFault_faults 2⟩
  · rw [if_neg (by omega)] at hexec
    exact ⟨_, hexec, block_begins h hl ha (by omega) (by omega)⟩

theorem repr_spec {d : Nat} (hd : d < 16) (hw : w = 2 ^ 31 + 6 * 2 ^ 26 + (d * 2 ^ 15 + a)) (hl : s.mdPc m + 1 ≤ a) :
    (s.mreg m d = 0 → After (.mdRepr m []) s (fun t => MdspDone m ((a + 1) % 32768) 1 [] s t ∧ (t.md m).reps = [])) ∧
    (s.mreg m d ≠ 0 → After (.mdRepr m []) s (fun t => MdspDone m (s.mdPc m + 1) 1 [] s t ∧
      (t.md m).reps = [⟨s.mdPc m + 1, a, s.mreg m d, (s.md m).held != some (s.mdPc m + 1, a)⟩])) := by
  have hf : bitsOf w 0 15 = a := by unfold bitsOf; omega
  have hdd : bitsOf w 15 4 = d := by unfold bitsOf; omega
  have hexec : exec (.mdRepr m []) s = .next (s.mdRepeat m (s.mdPc m) (s.mreg m d) a) := by
    show execMdRepr m [] s = _
    rw [execMdRepr, mdCtl_at h hw (by decide) (by omega) (show (d * 2 ^ 15 + a) &&& ((2 ^ 7 - 1) * 2 ^ 19) = 0 from and_zone (by omega)), hdd, hf]
  refine ⟨fun h0 => ?_, fun h0 => ?_⟩
  · rw [mdRepeat_ahead h hl, if_pos h0] at hexec
    have hmove := moved_mdSeq (at_reps h) a
    exact ⟨_, hexec, mdspDone_of (.refl s) (by simp) hmove (at_state h), by rw [hmove.md, at_reps h]⟩
  · obtain ⟨hdone, hreps, -⟩ := block_begins h hl ha (mreg_lt m d) h0
    exact ⟨_, hexec, hdone, hreps⟩

end Repeat

/-- A reserved code faults (R249). -/
theorem reserved_spec (h : MdspAt s m w) (hn : 0xF ≤ n) (hn' : n < 32) (hx : x < 2 ^ 26) (hw : w = 2 ^ 31 + n * 2 ^ 26 + x) :
    After (.mdNop m []) s (MdspFaults m 1 s) := by
  obtain ⟨h31, hcop, -⟩ := ctl_fields hw hn' hx
  refine ⟨s.mdFault m 1 (s.mdPc m), ?_, mdFault_faults 1⟩
  show execMdNop m [] s = _
  rw [execMdNop, mdStep_at h (by rw [h31, hcop, decide_eq_true hn, Bool.and_true, Bool.or_true]), h31]
  rfl

end Sys2Proof.Machine
end

section
/-! The memories and the status register of a measurement DSP core (07_measurement_dsp.md R223, R227 to R229, R238). -/
namespace Sys2Proof.Machine
variable {s t u : State} {m k : Fin 24} {w a n r v x i j : Nat} {as : List Nat} {c : Mdsp} {b : Bool}

/-! ### The words of the memories -/

theorem mdMem_lt (c : Mdsp) (k w : Nat) : c.read k w < 2 ^ 32 := (Sparse.get (fun _ => (0 : Word)) (c.mem k) w).isLt

theorem mem_write {k : Nat} (hk : k < 3) (y : Nat) (hy : y < 3) (w v : Nat) : (c.write k w v).mem y =
    if y = k then Sparse.put (fun _ => (0 : Word)) (c.mem k) w (BitVec.ofNat 32 v) else c.mem y := by
  match k, hk, y, hy with
  | 0, _, 0, _ => rfl
  | 0, _, 1, _ => rfl
  | 0, _, 2, _ => rfl
  | 1, _, 0, _ => rfl
  | 1, _, 1, _ => rfl
  | 1, _, 2, _ => rfl
  | 2, _, 0, _ => rfl
  | 2, _, 1, _ => rfl
  | 2, _, 2, _ => rfl

theorem read_write_same {k : Nat} (hk : k < 3) (hv : v < 2 ^ 32) : (c.write k w v).read k w = v := by
  rw [Mdsp.read, mem_write hk k hk, if_pos rfl, Sparse.get_put_same, BitVec.toNat_ofNat, Nat.mod_eq_of_lt hv]

theorem read_write_other {k y z : Nat} (hk : k < 3) (hy : y < 3) (h : (y, z) ≠ (k, w)) : (c.write k w v).read y z = c.read y z := by
  rw [Mdsp.read, mem_write hk y hy, Mdsp.read]
  by_cases hyk : y = k
  · subst hyk
    rw [if_pos rfl, Sparse.get_put_other _ _ _ _ _ fun hz => h (by rw [hz])]
  · rw [if_neg hyk]

theorem write_marks {k : Nat} : (c.write k w v).ue = c.ue ∧ (c.write k w v).reps = c.reps := by
  match k with
  | 0 => exact ⟨rfl, rfl⟩
  | 1 => exact ⟨rfl, rfl⟩
  | _ + 2 => exact ⟨rfl, rfl⟩

/-- A clean access to a core without marks meets no error. -/
theorem mdTouch_clean {l : List (Nat × Nat × Ecc)} (hue : (s.md m).ue = []) (hl : ∀ e ∈ l, e.2.2 = .clean) : s.mdTouch m l = (false, s) := by
  have hecc : ∀ e ∈ l, s.mdEcc m e.1 e.2.1 e.2.2 = .clean := fun e he => by
    rw [State.mdEcc, hue, hl e he]
    rfl
  have hmark : forEach l (fun e s => s.mdMark m e.1 e.2.1 e.2.2) s = s :=
    forEach_induct (P := fun y => y = s) rfl fun e he y hy => by rw [hy, State.mdMark, hl e he, if_neg (by decide)]
  have hbad : l.any (fun e => s.mdEcc m e.1 e.2.1 e.2.2 == .ue) = false := List.any_eq_false.mpr fun e he => by rw [hecc e he]; decide
  have hce : l.any (fun e => e.2.2 == .ce) = false := List.any_eq_false.mpr fun e he => by rw [hl e he]; decide
  rw [State.mdTouch, hmark, hbad, hce, if_neg (by decide)]

/-! ### Bits of the status register -/

theorem testBit_add_two_pow (h : v.testBit i = false) : (v + 2 ^ i).testBit j = (decide (j = i) || v.testBit j) := by
  have hlow : v % 2 ^ i < 2 ^ i := Nat.mod_lt _ (Nat.two_pow_pos i)
  have hev : v / 2 ^ i % 2 = 0 := by
    rw [Nat.testBit_eq_decide_div_mod_eq] at h
    have := of_decide_eq_false h
    omega
  have hsum : v + 2 ^ i = 2 ^ i * (v / 2 ^ i + 1) + v % 2 ^ i := by
    have := Nat.div_add_mod v (2 ^ i)
    rw [Nat.mul_add, Nat.mul_one]
    omega
  have hself : v.testBit j = (2 ^ i * (v / 2 ^ i) + v % 2 ^ i).testBit j := by rw [Nat.div_add_mod]
  rw [hsum, hself, Nat.testBit_two_pow_mul_add _ hlow, Nat.testBit_two_pow_mul_add _ hlow]
  by_cases hj : j < i
  · rw [if_pos hj, if_pos hj, decide_eq_false (by omega), Bool.false_or]
  · rw [if_neg hj, if_neg hj]
    obtain ⟨d, rfl⟩ : ∃ d, j = i + d := ⟨j - i, by omega⟩
    rw [Nat.add_sub_cancel_left]
    cases d with
    | zero =>
      rw [Nat.testBit_zero, Nat.testBit_zero, decide_eq_true (by omega), decide_eq_true (by omega), Bool.true_or]
    | succ d =>
      rw [Nat.testBit_succ, Nat.testBit_succ, decide_eq_false (by omega), Bool.false_or]
      congr 1
      omega

theorem testBit_sub_two_pow (h : v.testBit i = true) : (v - 2 ^ i).testBit j = (!decide (j = i) && v.testBit j) := by
  have hodd : v / 2 ^ i % 2 = 1 := by
    rw [Nat.testBit_eq_decide_div_mod_eq] at h
    exact of_decide_eq_true h
  have hle : 2 ^ i ≤ v := Nat.ge_two_pow_of_testBit h
  have hoff : (v - 2 ^ i).testBit i = false := by
    have hdiv : (v - 2 ^ i) / 2 ^ i = v / 2 ^ i - 1 := by simpa using Nat.sub_mul_div v (2 ^ i) 1
    rw [Nat.testBit_eq_decide_div_mod_eq, hdiv]
    exact decide_eq_false (by omega)
  have hsum := testBit_add_two_pow (j := j) hoff
  rw [Nat.sub_add_cancel hle] at hsum
  rw [hsum]
  by_cases hj : j = i
  · rw [hj, hoff, decide_eq_true rfl]
    rfl
  · rw [decide_eq_false hj]
    rfl

theorem sr_mset (v : Nat) (h : i < 16) : (s.mset m 0x3C v).sr m i = v.testBit i := by
  rw [State.sr, mreg_mset_same, bitOf, show (65536 : Nat) = 2 ^ 16 from rfl, Nat.testBit_mod_two_pow, decide_eq_true h, Bool.true_and]

theorem sr_setSr (b : Bool) (hj : j < 16) : (s.setSr m i b).sr m j = if j = i then b else s.sr m j := by
  rw [State.setSr, sr_mset _ hj, State.sr]
  generalize s.mreg m 0x3C = v
  unfold bitOf
  cases b with
  | true =>
    rw [if_pos rfl]
    split
    · next h =>
      split
      · next hji => rw [hji, h]
      · rfl
    · next h =>
      rw [testBit_add_two_pow (Bool.eq_false_iff.mpr h)]
      by_cases hji : j = i <;> simp [hji]
  | false =>
    rw [if_neg (by decide)]
    split
    · next h =>
      rw [testBit_sub_two_pow h]
      by_cases hji : j = i <;> simp [hji]
    · next h =>
      split
      · next hji => rw [hji, Bool.eq_false_iff.mpr h]
      · rfl

theorem sr_orSr (b : Bool) (hj : j < 16) : (s.orSr m i b).sr m j = if j = i then (s.sr m j || b) else s.sr m j := by
  rw [State.orSr]
  cases b with
  | true =>
    rw [if_pos rfl, sr_setSr _ hj, Bool.or_true]
  | false =>
    rw [if_neg (by decide), Bool.or_false, ite_self]

theorem setSr_mset (b : Bool) : ∃ v, s.setSr m i b = s.mset m 0x3C v := ⟨_, rfl⟩

theorem orSr_cases (b : Bool) : s.orSr m i b = s ∨ ∃ v, s.orSr m i b = s.mset m 0x3C v := by
  cases b with
  | true => exact .inr (setSr_mset _)
  | false => exact .inl rfl

theorem setSr_rd (b : Bool) (h : a ≠ R.MDSP_REG m 0x3C) : (s.setSr m i b).rd a = s.rd a := by
  obtain ⟨v, hv⟩ := setSr_mset (s := s) (m := m) (i := i) b
  rw [hv]
  exact State.wr_rd_other _ _ _ _ h

theorem orSr_rd (b : Bool) (h : a ≠ R.MDSP_REG m 0x3C) : (s.orSr m i b).rd a = s.rd a := by
  cases b with
  | true => exact setSr_rd _ h
  | false => rfl

theorem orSr_mreg (b : Bool) (h : r ≠ 0x3C) : (s.orSr m i b).mreg m r = s.mreg m r := mreg_congr (orSr_rd b (mdspReg_ne h))
theorem setSr_mreg (b : Bool) (h : r ≠ 0x3C) : (s.setSr m i b).mreg m r = s.mreg m r := mreg_congr (setSr_rd b (mdspReg_ne h))

namespace MdEffect

theorem setSr (h : MdEffect m as s u) (b : Bool) (ha : R.MDSP_REG m 0x3C ∈ as) : MdEffect m as s (u.setSr m i b) := by
  obtain ⟨v, hv⟩ := setSr_mset (s := u) (m := m) (i := i) b
  rw [hv]
  exact h.mset ha

theorem orSr (h : MdEffect m as s u) (b : Bool) (ha : R.MDSP_REG m 0x3C ∈ as) : MdEffect m as s (u.orSr m i b) := by
  cases b with
  | true => exact h.setSr true ha
  | false => exact h

end MdEffect

theorem orSr_md (b : Bool) : (s.orSr m i b).md k = s.md k := by
  rcases orSr_cases (s := s) (m := m) (i := i) b with h | ⟨v, h⟩
  · rw [h]
  · rw [h, mset_md]

end Sys2Proof.Machine
end

section
/-! The control format of a measurement DSP core: registers, memories, events, signals and histogram counts (07_measurement_dsp.md R249, R251, R254 to R256). -/
namespace Sys2Proof.Machine
variable {s t u : State} {m k : Fin 24} {w a n r v x y i j : Nat} {as : List Nat}

/-! ### Writes of registers -/

/-- An instruction that writes registers only goes on in sequence. -/
theorem regs_done (h : MdspAt s m w) (he : MdEffect m as s u) (ha : ∀ a ∈ as, EffReg m a) (hmd : u.md m = s.md m) :
    let t := (u.mdCycles m n).mdNext m (s.mdPc m)
    (MdspDone m ((s.mdPc m + 1) % 32768) n as s t ∧ t.md m = s.md m) ∧ Moved m ((s.mdPc m + 1) % 32768) n u t := by
  have hr : (u.md m).reps = [] := by rw [hmd, at_reps h]
  have hmove := moved_mdNext (n := n) hr (s.mdPc m)
  exact ⟨⟨seq_done h he ha hr, (hmove.md m).trans hmd⟩, hmove⟩

theorem mwrite_low (hr : r < 0x30) : s.mwrite m r v = s.mset m r v := if_pos hr

theorem mwrite_bx : s.mwrite m 0x3D v = s.mset m 0x3D (v % 16) := rfl
theorem mwrite_sr : s.mwrite m 0x3C v = s.mset m 0x3C (srWritten (s.mreg m 0x3C) v) := rfl
theorem mwrite_lc : s.mwrite m 0x3E v = s := rfl

/-- A write of the middle part of an accumulator sets all of it (R229). -/
theorem mwrite_acc (hn : n < 4) : s.mwrite m (0x31 + 3 * n) v =
    ((s.mset m (0x31 + 3 * n) v).mset m (0x30 + 3 * n) (if bitOf v 15 then 65535 else 0)).mset m (0x32 + 3 * n) 0 := by
  match n, hn with
  | 0, _ => rfl
  | 1, _ => rfl
  | 2, _ => rfl
  | 3, _ => rfl

theorem acc_eq (n : Nat) : s.acc m n = signedOf 40 (s.mreg m (0x32 + 3 * n) + 65536 * s.mreg m (0x31 + 3 * n) + 4294967296 * (s.mreg m (0x30 + 3 * n) % 256)) := rfl

theorem signedOf_mid (hv : v < 65536) : signedOf 40 (65536 * v + 4294967296 * ((if bitOf v 15 then 65535 else 0) % 256)) = 65536 * signedOf 16 v := by
  unfold signedOf
  rw [bitOf_eq]
  by_cases h : v / 2 ^ 15 % 2 = 1
  · rw [decide_eq_true h, if_pos (rfl : true = true), if_neg (by omega), if_neg (by omega)]
    omega
  · rw [decide_eq_false h, if_neg Bool.false_ne_true, if_pos (by omega), if_pos (by omega)]
    omega

theorem acc_mwrite (hn : n < 4) (hv : v < 65536) : (s.mwrite m (0x31 + 3 * n) v).acc m n = 65536 * signedOf 16 v := by
  rw [mwrite_acc hn, acc_eq, mreg_mset_same, mreg_mset_other (by omega), mreg_mset_other (by omega), mreg_mset_same, mreg_mset_other (by omega),
    mreg_mset_same, ← signedOf_mid hv, Nat.mod_eq_of_lt hv]
  congr 1
  split <;> omega

theorem acc_congr (h : ∀ r, r ≠ 0x3C → r ≠ 0x3E → t.mreg m r = s.mreg m r) (hn : n < 4) : t.acc m n = s.acc m n := by
  rw [acc_eq, acc_eq, h _ (by omega) (by omega), h _ (by omega) (by omega), h _ (by omega) (by omega)]

theorem exec_mdLdi (h : MdspAt s m w) (hr : r < 64) (hv : v < 65536) (hw : w = 2 ^ 31 + 7 * 2 ^ 26 + (r * 2 ^ 16 + v)) : exec (.mdLdi m []) s =
    .next (if r = 0x3F then s.mdFault m 1 (s.mdPc m) else (s.mwrite m r v).mdSeq m (s.mdPc m)) := by
  have hrr : bitsOf w 16 6 = r := by unfold bitsOf; omega
  have hvv : bitsOf w 0 16 = v := by unfold bitsOf; omega
  show execMdLdi m [] s = _
  rw [execMdLdi, mdCtl_at h hw (by decide) (by omega) (show (r * 2 ^ 16 + v) &&& ((2 ^ 4 - 1) * 2 ^ 22) = 0 from and_zone (by omega)), hrr, hvv]

/-- A register written by code. -/
theorem mset_done (h : MdspAt s m w) (v : Nat) (hr : r ≠ 0x3E) :
    let t := ((s.mset m r v).mdCycles m n).mdNext m (s.mdPc m)
    (MdspDone m ((s.mdPc m + 1) % 32768) n [R.MDSP_REG m r] s t ∧ t.md m = s.md m) ∧ t.mreg m r = v % 65536 := by
  obtain ⟨hdone, hmove⟩ := regs_done (n := n) (as := [R.MDSP_REG m r]) h ((MdEffect.refl s).mset (r := r) (v := v) (by simp)) (by simp [effReg_reg]) mset_md
  exact ⟨hdone, (hmove.mreg hr).trans mreg_mset_same⟩

theorem srWritten_bit (old v : Nat) : (srWritten old v % 65536).testBit i = if i < 6 then v.testBit i else (old % 65536).testBit i := by
  have hsplit : srWritten old v % 65536 = 2 ^ 6 * (old / 64 % 1024) + v % 2 ^ 6 := by
    unfold srWritten
    omega
  rw [hsplit, Nat.testBit_two_pow_mul_add _ (Nat.mod_lt _ (by decide))]
  by_cases hi : i < 6
  · rw [if_pos hi, if_pos hi, Nat.testBit_mod_two_pow, decide_eq_true hi, Bool.true_and]
  · rw [if_neg hi, if_neg hi, show (1024 : Nat) = 2 ^ 10 from rfl, show (64 : Nat) = 2 ^ 6 from rfl, show (65536 : Nat) = 2 ^ 16 from rfl,
      Nat.testBit_mod_two_pow, Nat.testBit_div_two_pow, Nat.testBit_mod_two_pow, Nat.sub_add_cancel (by omega)]
    congr 1
    exact decide_eq_decide.mpr (by omega)

theorem sr_mod (s : State) (m : Fin 24) (i : Nat) : (s.mreg m 0x3C % 65536).testBit i = s.sr m i := by
  rw [Nat.mod_eq_of_lt (mreg_lt _ _), State.sr, bitOf]

theorem ldi_spec (h : MdspAt s m w) (hr : r < 64) (hv : v < 65536) (hw : w = 2 ^ 31 + 7 * 2 ^ 26 + (r * 2 ^ 16 + v)) :
    let done (n : Nat) (as : List Nat) (t : State) : Prop := MdspDone m ((s.mdPc m + 1) % 32768) n as s t ∧ t.md m = s.md m
    (r < 0x30 → After (.mdLdi m []) s (fun t => done 1 [R.MDSP_REG m r] t ∧ t.mreg m r = v)) ∧
    (r = 0x3D → After (.mdLdi m []) s (fun t => done 1 [R.MDSP_REG m r] t ∧ t.mreg m r = v % 16)) ∧
    (r = 0x3C → After (.mdLdi m []) s (fun t => done 1 [R.MDSP_REG m r] t ∧ (∀ i, i < 6 → t.sr m i = bitOf v i) ∧
      ∀ i, 6 ≤ i → t.sr m i = s.sr m i)) ∧
    (r = 0x3E → After (.mdLdi m []) s (done 1 [])) ∧
    (∀ n, n < 4 → r = 0x31 + 3 * n → After (.mdLdi m []) s (fun t => done 1 [R.MDSP_REG m r, R.MDSP_REG m (r - 1), R.MDSP_REG m (r + 1)] t ∧
      t.acc m n = 65536 * signedOf 16 v)) ∧
    (r = 0x3F → After (.mdLdi m []) s (MdspFaults m 1 s)) := by
  have hexec := exec_mdLdi h hr hv hw
  refine ⟨fun hl => ?_, fun hb => ?_, fun hc => ?_, fun hl => ?_, fun n hn hnr => ?_, fun hf => ?_⟩
  · rw [if_neg (by omega), mwrite_low hl] at hexec
    obtain ⟨hdone, hreg⟩ := mset_done (n := 1) (r := r) h v (by omega)
    exact ⟨_, hexec, hdone, hreg.trans (Nat.mod_eq_of_lt hv)⟩
  · subst hb
    rw [if_neg (by decide), mwrite_bx] at hexec
    obtain ⟨hdone, hreg⟩ := mset_done (n := 1) (r := 0x3D) h (v % 16) (by decide)
    exact ⟨_, hexec, hdone, hreg.trans (Nat.mod_eq_of_lt (by omega))⟩
  · subst hc
    rw [if_neg (by decide), mwrite_sr] at hexec
    obtain ⟨hdone, hreg⟩ := mset_done (n := 1) (r := 0x3C) h (srWritten (s.mreg m 0x3C) v) (by decide)
    refine ⟨_, hexec, hdone, fun i hi => ?_, fun i hi => ?_⟩
    · rw [State.sr, State.mdSeq, hreg, bitOf, srWritten_bit, if_pos hi, bitOf]
    · rw [State.sr, State.mdSeq, hreg, bitOf, srWritten_bit, if_neg (by omega), sr_mod]
  · subst hl
    rw [if_neg (by decide), mwrite_lc] at hexec
    exact ⟨_, hexec, seq_alone h⟩
  · subst hnr
    rw [if_neg (by omega)] at hexec
    have heff : MdEffect m [R.MDSP_REG m (0x31 + 3 * n), R.MDSP_REG m (0x31 + 3 * n - 1), R.MDSP_REG m (0x31 + 3 * n + 1)] s (s.mwrite m (0x31 + 3 * n) v) := by
      rw [mwrite_acc hn, show 0x31 + 3 * n - 1 = 0x30 + 3 * n by omega, show 0x31 + 3 * n + 1 = 0x32 + 3 * n by omega]
      exact (((MdEffect.refl s).mset (by simp)).mset (by simp)).mset (by simp)
    have hmd : (s.mwrite m (0x31 + 3 * n) v).md m = s.md m := by rw [mwrite_acc hn, mset_md, mset_md, mset_md]
    have hacc : (s.mwrite m (0x31 + 3 * n) v).acc m n = 65536 * signedOf 16 v := acc_mwrite hn hv
    obtain ⟨hdone, hmove⟩ := regs_done (n := 1) h heff (by simp [effReg_reg]) hmd
    exact ⟨_, hexec, hdone, (acc_congr (fun r _ hr => hmove.mreg hr) hn).trans hacc⟩
  · rw [if_pos hf] at hexec
    exact ⟨_, hexec, mdFault_faults 1⟩

theorem move_spec (h : MdspAt s m w) (hx : x < 0x30) (hy : y < 0x3F) (hw : w = 2 ^ 31 + 8 * 2 ^ 26 + (x * 2 ^ 6 + y)) :
    After (.mdMove m []) s (fun t => (MdspDone m ((s.mdPc m + 1) % 32768) 1 [R.MDSP_REG m x] s t ∧ t.md m = s.md m) ∧ t.mreg m x = s.mreg m y) := by
  have hxx : bitsOf w 6 6 = x := by unfold bitsOf; omega
  have hyy : bitsOf w 0 6 = y := by unfold bitsOf; omega
  obtain ⟨hdone, hreg⟩ := mset_done (n := 1) (r := x) h (s.mreg m y) (by omega)
  refine ⟨(s.mset m x (s.mreg m y)).mdSeq m (s.mdPc m), ?_, hdone, hreg.trans (Nat.mod_eq_of_lt (mreg_lt _ _))⟩
  show execMdMove m [] s = _
  rw [execMdMove, mdCtl_at h hw (by decide) (by omega) (show (x * 2 ^ 6 + y) &&& ((2 ^ 14 - 1) * 2 ^ 12) = 0 from and_zone (by omega)), hxx, hyy,
    if_neg (by omega), mwrite_low hx]

/-! ### Memory operands -/

section Memory
variable {half : Nat} (h : MdspAt s m w) (hh : half < 2) (hr : r < 0x30) (ha : a < 65536)
include h hh hr ha

theorem ld_spec {k : Nat} (hk : k < 3) (hw : w = 2 ^ 31 + 9 * 2 ^ 26 + (k * 2 ^ 24 + half * 2 ^ 23 + r * 2 ^ 16 + a)) : After (.mdLd m []) s (fun t =>
    (MdspDone m ((s.mdPc m + 1) % 32768) (if k = 2 then 2 else 1) [R.MDSP_REG m r] s t ∧ t.md m = s.md m) ∧
    t.mreg m r = (s.md m).read k (if k = 2 then a % 32768 else a) / 65536 ^ half % 65536) := by
  have hkk : bitsOf w 24 2 = k := by unfold bitsOf; omega
  have hrr : bitsOf w 16 6 = r := by unfold bitsOf; omega
  have haa : bitsOf w 0 16 = a := by unfold bitsOf; omega
  have hhh : bitOf w 23 = decide (half = 1) := by
    rw [bitOf_eq]
    exact decide_eq_decide.mpr (by omega)
  have hcyc : (if k = 2 ∧ (!(s.md m).cached) = true then 2 else 1) = if k = 2 then 2 else 1 := by simp [at_cached h]
  obtain ⟨hdone, hreg⟩ := mset_done (n := if k = 2 then 2 else 1) (r := r) h (if decide (half = 1) then (s.md m).read k (ldWord k a) / 65536
    else (s.md m).read k (ldWord k a) % 65536) (by omega)
  refine ⟨_, ?_, hdone, hreg.trans ?_⟩
  · show execMdLd m [] s = _
    rw [execMdLd, mdCtl_at h hw (by decide) (by omega) (show (k * 2 ^ 24 + half * 2 ^ 23 + r * 2 ^ 16 + a) &&& ((2 ^ 1 - 1) * 2 ^ 22) = 0 from
      and_zone (by omega))]
    dsimp only
    rw [hkk, hrr, haa, hhh, if_neg (by omega), mdTouch_clean (at_ue h) (fun e he => by rw [List.mem_singleton.mp he]; rfl), if_neg Bool.false_ne_true, hcyc, mwrite_low hr]
  · rw [ldWord]
    rcases (show half = 0 ∨ half = 1 by omega) with rfl | rfl
    · rw [decide_eq_false (by decide), if_neg (by decide), pow_zero, Nat.div_one, Nat.mod_mod]
    · rw [decide_eq_true rfl, if_pos rfl, pow_one]

omit h hr ha in
/-- One half of a word replaced, the other kept. -/
theorem halves {old v : Nat} (hold : old < 2 ^ 32) (hv : v < 65536) : let z := if decide (half = 1) then old % 65536 + 65536 * v else old / 65536 * 65536 + v
    z < 2 ^ 32 ∧ z / 65536 ^ half % 65536 = v ∧ z / 65536 ^ (1 - half) % 65536 = old / 65536 ^ (1 - half) % 65536 := by
  intro z
  rcases (show half = 0 ∨ half = 1 by omega) with rfl | rfl
  · have hz : z = old / 65536 * 65536 + v := rfl
    omega
  · have hz : z = old % 65536 + 65536 * v := rfl
    omega

theorem st_spec {k : Nat} (hk : k < 2) (hw : w = 2 ^ 31 + 0xA * 2 ^ 26 + (k * 2 ^ 24 + half * 2 ^ 23 + r * 2 ^ 16 + a)) : After (.mdSt m []) s (fun t =>
    MdspDone m ((s.mdPc m + 1) % 32768) 1 [] s t ∧ (t.md m).read k a / 65536 ^ half % 65536 = s.mreg m r ∧
    (t.md m).read k a / 65536 ^ (1 - half) % 65536 = (s.md m).read k a / 65536 ^ (1 - half) % 65536 ∧
    ∀ k', k' < 3 → ∀ b, (k', b) ≠ (k, a) → (t.md m).read k' b = (s.md m).read k' b) := by
  have hkk : bitsOf w 24 1 = k := by unfold bitsOf; omega
  have hrr : bitsOf w 16 6 = r := by unfold bitsOf; omega
  have haa : bitsOf w 0 16 = a := by unfold bitsOf; omega
  have hhh : bitOf w 23 = decide (half = 1) := by
    rw [bitOf_eq]
    exact decide_eq_decide.mpr (by omega)
  obtain ⟨hlt, hset, hkeep⟩ := halves hh (mdMem_lt (s.md m) k a) (mreg_lt (s := s) m r)
  have hreps : ((s.modMd m (fun c => c.write k a (if decide (half = 1) then (s.md m).read k a % 65536 + 65536 * s.mreg m r
      else (s.md m).read k a / 65536 * 65536 + s.mreg m r))).md m).reps = [] := by rw [md_modMd_same, write_marks.2, at_reps h]
  have hmove := moved_mdSeq hreps (s.mdPc m)
  refine ⟨_, ?_, seq_done h (MdEffect.refl s).modMd (by simp) hreps, ?_, ?_, fun k' hk' b hb => ?_⟩
  · show execMdSt m [] s = _
    rw [execMdSt, mdCtl_at h hw (by decide) (by omega) (show (k * 2 ^ 24 + half * 2 ^ 23 + r * 2 ^ 16 + a) &&& ((2 ^ 1 - 1) * 2 ^ 22 ||| (2 ^ 1 - 1) * 2 ^ 25) = 0 from
      and_zones (and_zone (by omega)) (and_zone (by omega)))]
    dsimp only
    rw [hkk, hrr, haa, hhh, if_neg (by omega), mdTouch_clean (at_ue h) (fun e he => by rw [List.mem_singleton.mp he]; rfl), if_neg Bool.false_ne_true]
    rfl
  · rw [← State.mdSeq, hmove.md, md_modMd_same, read_write_same (by omega) hlt, hset]
  · rw [← State.mdSeq, hmove.md, md_modMd_same, read_write_same (by omega) hlt, hkeep]
  · rw [← State.mdSeq, hmove.md, md_modMd_same, read_write_other (by omega) hk' hb]

end Memory

/-! ### Bits of SR -/

theorem srm_bits {old mask set_ : Nat} (hold : old < 65536) (hs : set_ < 2) :
    ((if decide (set_ = 1) then old ||| mask % 64 else old &&& (65535 ^^^ mask % 64)) % 65536).testBit i =
      if i < 6 ∧ bitOf mask i = true then set_ == 1 else old.testBit i := by
  have hhigh : 16 ≤ i → old.testBit i = false := fun hi =>
    Nat.testBit_lt_two_pow (lt_of_lt_of_le hold (Nat.pow_le_pow_right (n := 2) (by decide) hi))
  rw [show (65536 : Nat) = 2 ^ 16 from rfl, Nat.testBit_mod_two_pow, show (64 : Nat) = 2 ^ 6 from rfl, show (65535 : Nat) = 2 ^ 16 - 1 from rfl, bitOf]
  rcases (show set_ = 0 ∨ set_ = 1 by omega) with rfl | rfl
  · rw [show decide ((0 : Nat) = 1) = false from rfl, if_neg Bool.false_ne_true, Nat.testBit_and, Nat.testBit_xor, Nat.testBit_two_pow_sub_one, Nat.testBit_mod_two_pow]
    by_cases hi : i < 16
    · by_cases h6 : i < 6 <;> cases hm : mask.testBit i <;> simp [hi, h6]
    · simp [hi, hhigh (by omega), show ¬ i < 6 by omega]
  · rw [show decide ((1 : Nat) = 1) = true from rfl, if_pos rfl, Nat.testBit_or, Nat.testBit_mod_two_pow]
    by_cases hi : i < 16
    · by_cases h6 : i < 6 <;> cases hm : mask.testBit i <;> simp [hi, h6]
    · simp [hi, hhigh (by omega), show ¬ i < 6 by omega]

theorem srm_spec {set_ mask : Nat} (h : MdspAt s m w) (hs : set_ < 2) (hm : mask < 65536) (hw : w = 2 ^ 31 + 0xB * 2 ^ 26 + (set_ * 2 ^ 16 + mask)) :
    After (.mdSrm m []) s (fun t => (MdspDone m ((s.mdPc m + 1) % 32768) 1 [R.MDSP_REG m 0x3C] s t ∧ t.md m = s.md m) ∧
      ∀ i, t.sr m i = if i < 6 ∧ bitOf mask i = true then set_ == 1 else s.sr m i) := by
  have hbit : bitOf w 16 = decide (set_ = 1) := by
    rw [bitOf_eq]
    exact decide_eq_decide.mpr (by omega)
  have hmask : bitsOf w 0 6 = mask % 64 := by unfold bitsOf; omega
  obtain ⟨hdone, hreg⟩ := mset_done (n := 1) (r := 0x3C) h (if decide (set_ = 1) then s.mreg m 0x3C ||| mask % 64 else s.mreg m 0x3C &&& (65535 ^^^ mask % 64)) (by decide)
  refine ⟨_, ?_, hdone, fun i => ?_⟩
  · show execMdSrm m [] s = _
    rw [execMdSrm, mdCtl_at h hw (by decide) (by omega) (show (set_ * 2 ^ 16 + mask) &&& ((2 ^ 9 - 1) * 2 ^ 17) = 0 from and_zone (by omega)), hbit, hmask]
    rfl
  · rw [State.sr, hreg, bitOf, srm_bits (mreg_lt _ _) hs, State.sr, bitOf, bitOf]

end Sys2Proof.Machine
end

section
/-! Events, signals and histogram counts of a measurement DSP core (07_measurement_dsp.md R254 to R256). -/
namespace Sys2Proof.Machine
variable {s t u : State} {m k : Fin 24} {w a n e r v x y i j : Nat} {as : List Nat}

/-! ### Events -/

theorem evpend_ne_lc (m : Fin 24) (i : Nat) (hi : i < 8) : R.MDSP_EVPEND m i ≠ R.MDSP_REG m 0x3E := by
  unfold R.MDSP_EVPEND R.MDSP_REG
  omega

theorem evSet_rd_same (b : Bool) : (s.evSet m e b).rd (R.MDSP_EVPEND m (e / 32)) =
    if b then s.rd (R.MDSP_EVPEND m (e / 32)) ||| (1#32 <<< (e % 32)) else s.rd (R.MDSP_EVPEND m (e / 32)) &&& ~~~ (1#32 <<< (e % 32)) :=
  State.wr_rd_same _ _ _

theorem evSet_rd_other (b : Bool) (h : a ≠ R.MDSP_EVPEND m (e / 32)) : (s.evSet m e b).rd a = s.rd a := State.wr_rd_other _ _ _ _ h

theorem evSet_md (b : Bool) : (s.evSet m e b).md k = s.md k := wr_md _ _

/-- A core in RUN that waits for its event: the next instruction is chosen (R254). -/
structure WaitBegun (m : Fin 24) (e : Nat) (s t : State) : Prop where
  state : t.mdState m = 2
  pc : t.mdPc m = (s.mdPc m + 1) % 32768
  data : t.md m = { s.md m with waitEv := some (e, s.now) }
  regs : SameRegs [R.MDSP_PC m, R.MDSP_STAT m, R.MDSP_CYC m, R.MDSP_REG m 0x3E] s t

theorem wait_begun {f : Mdsp → Mdsp} (hf : f (s.md m) = { s.md m with waitEv := some (e, s.now) }) (hm : Moved m ((s.mdPc m + 1) % 32768) 1 s u) :
    WaitBegun m e s ((u.setMdState m 2).modMd m f) := by
  rw [State.setMdState]
  obtain ⟨hps, -, -, -, -, -⟩ := mdProgress_ne m
  refine ⟨?_, ?_, ?_, fun a ha => ?_⟩
  · rw [mdState_congr (modMd_rd _ _)]
    exact setF_fld_of_lt (by decide) (by decide)
  · rw [mdPc_congr (modMd_rd _ _), mdPc_congr (State.setF_rd_other _ _ _ _ _ hps), hm.pc]
  · rw [md_modMd_same, setF_md, hm.md, hf]
  · simp only [List.mem_cons, List.not_mem_nil, or_false, not_or] at ha
    obtain ⟨h1, h2, h3, h4⟩ := ha
    rw [modMd_rd, State.setF_rd_other _ _ _ _ _ h2, hm.regs a (by simp [mdProgress, h1, h2, h3, h4])]

theorem exec_mdWaite (h : MdspAt s m w) (he : e < 256) (hw : w = 2 ^ 31 + 0xC * 2 ^ 26 + e) : exec (.mdWaite m []) s = .next (
    if s.evPending m e then (s.evSet m e false).mdSeq m (s.mdPc m)
    else ((s.mdSeq m (s.mdPc m)).setMdState m 2).modMd m (fun c => { c with waitEv := some (e, s.now) })) := by
  have hee : bitsOf w 0 8 = e := by unfold bitsOf; omega
  show execMdWaite m [] s = _
  rw [execMdWaite, mdCtl_at h hw (by decide) (by omega) (show e &&& ((2 ^ 18 - 1) * 2 ^ 8) = 0 from and_zone (by omega)), hee]

theorem waite_spec (h : MdspAt s m w) (he : e < 256) (hw : w = 2 ^ 31 + 0xC * 2 ^ 26 + e) :
    (s.evPending m e = true → After (.mdWaite m []) s (fun t =>
      (MdspDone m ((s.mdPc m + 1) % 32768) 1 [R.MDSP_EVPEND m (e / 32)] s t ∧ t.md m = s.md m) ∧
      t.rd (R.MDSP_EVPEND m (e / 32)) = s.rd (R.MDSP_EVPEND m (e / 32)) &&& ~~~ (1#32 <<< (e % 32)))) ∧
    (s.evPending m e = false → After (.mdWaite m []) s (WaitBegun m e s)) := by
  have hexec := exec_mdWaite h he hw
  refine ⟨fun hp => ?_, fun hp => ?_⟩
  · rw [if_pos hp] at hexec
    have heff : MdEffect m [R.MDSP_EVPEND m (e / 32)] s (s.evSet m e false) := (MdEffect.refl s).wr (by simp)
    have hreg := (effReg_signal m).2.2 (e / 32)
    obtain ⟨hdone, hmove⟩ := regs_done (n := 1) h heff (fun a ha => List.mem_singleton.mp ha ▸ hreg) (evSet_md false)
    exact ⟨_, hexec, hdone, (hmove.eff hreg (evpend_ne_lc m _ (by omega))).trans (evSet_rd_same false)⟩
  · rw [hp, if_neg Bool.false_ne_true] at hexec
    exact ⟨_, hexec, wait_begun rfl (moved_mdSeq (at_reps h) _)⟩

/-! ### Signals -/

theorem signal_ne (m : Fin 24) : R.MDSP_SCODE m ≠ R.MDSP_CAUSE m ∧ R.MDSP_SCODE m ≠ R.MDSP_REG m 0x3E ∧ R.MDSP_CAUSE m ≠ R.MDSP_REG m 0x3E := by
  unfold R.MDSP_SCODE R.MDSP_CAUSE R.MDSP_REG
  omega

theorem exec_mdSig {c : Nat} (h : MdspAt s m w) (hc : c < 4) (hv : v < 65536) (hw : w = 2 ^ 31 + 0xD * 2 ^ 26 + (c * 2 ^ 16 + v)) :
    exec (.mdSig m []) s = .next (match c with
      | 0 => ((s.setF (R.MDSP_SCODE m) F.MDSP_SCODE_CODE v).raise (R.MDSP_CAUSE m) F.MDSP_CAUSE_SIG).mdSeq m (s.mdPc m)
      | 1 => (s.modC ⟨m.val / 4, by omega⟩ (fun c => { c with trigs := c.trigs ++ [(s.now, 3, v % 32)] })).mdSeq m (s.mdPc m)
      | _ => s.mdFault m 1 (s.mdPc m)) := by
  have hcc : bitsOf w 16 2 = c := by unfold bitsOf; omega
  have hvv : bitsOf w 0 16 = v := by unfold bitsOf; omega
  have h5 : bitsOf w 0 5 = v % 32 := by unfold bitsOf; omega
  show execMdSig m [] s = _
  rw [execMdSig, mdCtl_at h hw (by decide) (by omega) (show (c * 2 ^ 16 + v) &&& ((2 ^ 8 - 1) * 2 ^ 18) = 0 from and_zone (by omega)), hcc, hvv, h5] <;> rfl

theorem sig_code (h : MdspAt s m w) (hv : v < 65536) (hw : w = 2 ^ 31 + 0xD * 2 ^ 26 + v) : After (.mdSig m []) s (fun t =>
    (MdspDone m ((s.mdPc m + 1) % 32768) 1 [R.MDSP_SCODE m, R.MDSP_CAUSE m] s t ∧ t.md m = s.md m) ∧
    t.fld (R.MDSP_SCODE m) F.MDSP_SCODE_CODE = v ∧ t.flag (R.MDSP_CAUSE m) F.MDSP_CAUSE_SIG = true) := by
  have hexec := exec_mdSig (c := 0) h (by decide) hv (by omega)
  obtain ⟨hsc, hsr, hcr⟩ := signal_ne m
  obtain ⟨hes, hec, -⟩ := effReg_signal m
  have heff : MdEffect m [R.MDSP_SCODE m, R.MDSP_CAUSE m] s ((s.setF (R.MDSP_SCODE m) F.MDSP_SCODE_CODE v).raise (R.MDSP_CAUSE m) F.MDSP_CAUSE_SIG) :=
    ((MdEffect.refl s).setF (by simp)).setF (by simp)
  have hmd : ((s.setF (R.MDSP_SCODE m) F.MDSP_SCODE_CODE v).raise (R.MDSP_CAUSE m) F.MDSP_CAUSE_SIG).md m = s.md m := by
    rw [State.raise_eq, setF_md, setF_md]
  have hcode : ((s.setF (R.MDSP_SCODE m) F.MDSP_SCODE_CODE v).raise (R.MDSP_CAUSE m) F.MDSP_CAUSE_SIG).fld (R.MDSP_SCODE m) F.MDSP_SCODE_CODE = v := by
    rw [State.raise_eq, State.setF_fld_other _ _ _ _ _ _ (.inl hsc)]
    exact setF_fld_of_lt (by decide) hv
  have hsig : ((s.setF (R.MDSP_SCODE m) F.MDSP_SCODE_CODE v).raise (R.MDSP_CAUSE m) F.MDSP_CAUSE_SIG).flag (R.MDSP_CAUSE m) F.MDSP_CAUSE_SIG = true :=
    State.raise_flag _ _ _ (by decide) rfl
  generalize (s.setF (R.MDSP_SCODE m) F.MDSP_SCODE_CODE v).raise (R.MDSP_CAUSE m) F.MDSP_CAUSE_SIG = u at hexec heff hmd hcode hsig
  obtain ⟨hdone, hmove⟩ := regs_done (n := 1) h heff (by simp [hes, hec]) hmd
  exact ⟨_, hexec, hdone, (fld_congr (hmove.eff hes hsr) _).trans hcode, (flag_congr (hmove.eff hec hcr) _).trans hsig⟩

theorem moved_c {next : Nat} (hm : Moved m next n u t) (d : Fin 6) : t.c d = u.c d := by
  have hf := hm.frame
  generalize t.regs = l, t.mon = z at hf
  subst hf
  rfl

theorem sig_trigger (h : MdspAt s m w) (hv : v < 65536) (die : Fin 6) (hd : die.val = m.val / 4) (hw : w = 2 ^ 31 + 0xD * 2 ^ 26 + (2 ^ 16 + v)) :
    After (.mdSig m []) s (fun t => (t.c die).trigs = (s.c die).trigs ++ [(s.now, 3, v % 32)] ∧ t.mdPc m = (s.mdPc m + 1) % 32768) := by
  have hexec := exec_mdSig (c := 1) h (by decide) hv (by omega)
  rw [show (⟨m.val / 4, by omega⟩ : Fin 6) = die from Fin.ext hd.symm] at hexec
  change exec (.mdSig m []) s = .next ((s.modC die (fun c => { c with trigs := c.trigs ++ [(s.now, 3, v % 32)] })).mdSeq m (s.mdPc m)) at hexec
  have hreps : ((s.modC die (fun c => { c with trigs := c.trigs ++ [(s.now, 3, v % 32)] })).md m).reps = [] := at_reps h
  have hmove := moved_mdSeq hreps (s.mdPc m)
  exact ⟨_, hexec, by rw [moved_c hmove, State.modC_c_same], hmove.pc⟩

theorem sig_fault (h : MdspAt s m w) (hv : v < 65536) (hw : w = 2 ^ 31 + 0xD * 2 ^ 26 + (2 ^ 17 + v)) : After (.mdSig m []) s (MdspFaults m 1 s) :=
  ⟨_, exec_mdSig (c := 2) h (by decide) hv (by omega), mdFault_faults 1⟩

/-! ### Histogram counts -/

/-- The word a histogram count goes to (R256). -/
def histWord (s : State) (m : Fin 24) (n d : Nat) : Nat :=
  unsignedOf 16 ((s.mreg m (0x20 + n) : Int) + if s.mreg m (0x28 + n) = 0 then s.dreg m d - signedOf 16 (s.mreg m (0x18 + n))
    else max 0 (min ((s.mreg m (0x28 + n) : Int) - 1) (s.dreg m d - signedOf 16 (s.mreg m (0x18 + n)))))

/-- A histogram word counts up to all ones, and then marks the overflow. -/
def histCount (s : State) (m : Fin 24) (k a : Nat) : State :=
  if (s.md m).read k a = 4294967295 then s.orSr m 5 true else s.modMd m (fun c => c.write k a ((s.md m).read k a + 1))

theorem histCount_effect {k : Nat} : MdEffect m [R.MDSP_REG m 0x3C] s (histCount s m k a) := by
  rw [histCount]
  split
  · exact (MdEffect.refl s).orSr true (by simp)
  · exact (MdEffect.refl s).modMd

theorem histCount_reps {k : Nat} : ((histCount s m k a).md m).reps = (s.md m).reps := by
  rw [histCount]
  split
  · rw [orSr_md]
  · rw [md_modMd_same, write_marks.2]

theorem histCount_word {k : Nat} (hk : k < 3) : ((histCount s m k a).md m).read k a = min ((s.md m).read k a + 1) (2 ^ 32 - 1) := by
  have hlt := mdMem_lt (s.md m) k a
  rw [histCount]
  split
  · rw [orSr_md]
    omega
  · rw [md_modMd_same, read_write_same hk (by omega)]
    omega

theorem histCount_other {k k' b : Nat} (hk : k < 3) (hk' : k' < 3) (h : (k', b) ≠ (k, a)) : ((histCount s m k a).md m).read k' b = (s.md m).read k' b := by
  rw [histCount]
  split
  · rw [orSr_md]
  · rw [md_modMd_same, read_write_other hk hk' h]

theorem histCount_overflow {k : Nat} : (histCount s m k a).sr m 5 = true ↔ s.sr m 5 = true ∨ (s.md m).read k a = 2 ^ 32 - 1 := by
  rw [histCount]
  split
  · next h => simp [sr_orSr, h]
  · next h => rw [sr_congr (modMd_rd _ _)]; simp [h]

theorem hinc_spec {k d : Nat} (h : MdspAt s m w) (hk : k < 2) (hn : n < 8) (hd : d < 16)
    (hw : w = 2 ^ 31 + 0xE * 2 ^ 26 + (k * 2 ^ 24 + n * 2 ^ 19 + d * 2 ^ 15)) : After (.mdHinc m []) s (fun t =>
    MdspDone m ((s.mdPc m + 1) % 32768) 1 [R.MDSP_REG m 0x3C] s t ∧
    (t.md m).read k (histWord s m n d) = min ((s.md m).read k (histWord s m n d) + 1) (2 ^ 32 - 1) ∧
    (t.sr m 5 = true ↔ s.sr m 5 = true ∨ (s.md m).read k (histWord s m n d) = 2 ^ 32 - 1) ∧
    ∀ k', k' < 3 → ∀ b, (k', b) ≠ (k, histWord s m n d) → (t.md m).read k' b = (s.md m).read k' b) := by
  have hkk : bitsOf w 24 1 = k := by unfold bitsOf; omega
  have hnn : bitsOf w 19 3 = n := by unfold bitsOf; omega
  have hdd : bitsOf w 15 4 = d := by unfold bitsOf; omega
  have hexec : exec (.mdHinc m []) s = .next ((histCount s m k (histWord s m n d)).mdSeq m (s.mdPc m)) := by
    show execMdHinc m [] s = _
    rw [execMdHinc, mdCtl_at h hw (by decide) (by omega) (show (k * 2 ^ 24 + n * 2 ^ 19 + d * 2 ^ 15) &&&
      ((2 ^ 15 - 1) * 2 ^ 0 ||| ((2 ^ 2 - 1) * 2 ^ 22 ||| (2 ^ 1 - 1) * 2 ^ 25)) = 0 from
      and_zones (and_zone (by omega)) (and_zones (and_zone (by omega)) (and_zone (by omega))))]
    dsimp only
    rw [hkk, hnn, hdd, mdTouch_clean (at_ue h) (fun e he => by rw [List.mem_singleton.mp he]; rfl), if_neg Bool.false_ne_true]
    rfl
  have hreps : ((histCount s m k (histWord s m n d)).md m).reps = [] := histCount_reps.trans (at_reps h)
  have hmove := moved_mdSeq hreps (s.mdPc m)
  refine ⟨_, hexec, seq_done h histCount_effect (by simp [effReg_reg]) hreps, ?_, ?_, fun k' hk' b hb => ?_⟩
  · rw [hmove.md, histCount_word (by omega)]
  · rw [hmove.sr, histCount_overflow]
  · rw [hmove.md, histCount_other (by omega) hk' hb]

end Sys2Proof.Machine
end

section
/-! Runs of a measurement DSP core: START, STOP, events from outside and the end of a wait (07_measurement_dsp.md R254, R257 to R259, R262). -/
namespace Sys2Proof.Machine
variable {s t u q : State} {m k : Fin 24} {w a n e r v : Nat} {as : List Nat}

/-! ### START -/

/-- The registers that START writes. -/
theorem start_ne (m : Fin 24) : R.MDSP_PC m ≠ R.MDSP_FAULT m ∧ R.MDSP_STAT m ≠ R.MDSP_FAULT m ∧ R.MDSP_FAULT m ≠ R.MDSP_CYC m ∧
    ∀ r, R.MDSP_PC m ≠ R.MDSP_REG m r ∧ R.MDSP_STAT m ≠ R.MDSP_REG m r ∧ R.MDSP_FAULT m ≠ R.MDSP_REG m r ∧ R.MDSP_CYC m ≠ R.MDSP_REG m r := by
  unfold R.MDSP_PC R.MDSP_STAT R.MDSP_FAULT R.MDSP_CYC R.MDSP_REG
  exact ⟨by omega, by omega, by omega, fun r => ⟨by omega, by omega, by omega, by omega⟩⟩

/-- The state of a run at its start, before it is shown. -/
def runBegun (s : State) (m : Fin 24) : State :=
  ((((((s.modMd m (fun c => { c with stack := [], reps := [], held := none, waitEv := none })).setF (R.MDSP_PC m) F.MDSP_PC_ADDR
    (s.fld (R.MDSP_ENTRY m) F.MDSP_ENTRY_ADDR)).mset m 0x3C 1).mset m 0x3D 15).wr (R.MDSP_FAULT m) 0).wr (R.MDSP_CYC m) 0).setF (R.MDSP_STAT m)
    F.MDSP_STAT_STATE 1

/-- The registers of a fresh run, beside LC. -/
def freshRegs (m : Fin 24) : List Nat := [R.MDSP_PC m, R.MDSP_STAT m, R.MDSP_FAULT m, R.MDSP_CYC m, R.MDSP_REG m 0x3C, R.MDSP_REG m 0x3D]

theorem runBegun_effect : MdEffect m (freshRegs m) s (runBegun s m) := by
  unfold runBegun freshRegs
  exact ((((((MdEffect.refl s).modMd.setF (by simp)).mset (by simp)).mset (by simp)).wr (by simp)).wr (by simp)).setF (by simp)

theorem runBegun_data : (runBegun s m).md m = { s.md m with stack := [], reps := [], held := none, waitEv := none } := by
  rw [runBegun, setF_md, wr_md, wr_md, mset_md, mset_md, setF_md, md_modMd_same]

theorem runBegun_state : (runBegun s m).mdState m = 1 := setF_fld_of_lt (by decide) (by decide)

theorem runBegun_pc : (runBegun s m).mdPc m = s.fld (R.MDSP_ENTRY m) F.MDSP_ENTRY_ADDR := by
  obtain ⟨hps, hpc, -, -, -, -⟩ := mdProgress_ne m
  obtain ⟨hpf, -, -, hreg⟩ := start_ne m
  rw [runBegun, mdPc_congr (State.setF_rd_other _ _ _ _ _ hps), mdPc_congr (State.wr_rd_other _ _ _ _ hpc), mdPc_congr (State.wr_rd_other _ _ _ _ hpf),
    State.mset, State.mset, mdPc_congr (State.wr_rd_other _ _ _ _ (hreg 0x3D).1), mdPc_congr (State.wr_rd_other _ _ _ _ (hreg 0x3C).1)]
  exact setF_fld_of_lt (by decide) (fld_lt _ _)

theorem runBegun_mreg {r : Nat} : (runBegun s m).mreg m r = (((s.modMd m (fun c => { c with stack := [], reps := [], held := none, waitEv := none })).setF
    (R.MDSP_PC m) F.MDSP_PC_ADDR (s.fld (R.MDSP_ENTRY m) F.MDSP_ENTRY_ADDR)).mset m 0x3C 1 |>.mset m 0x3D 15).mreg m r := by
  obtain ⟨-, -, -, hreg⟩ := start_ne m
  obtain ⟨-, hs, hf, hc⟩ := hreg r
  rw [runBegun, mreg_congr (State.setF_rd_other _ _ _ _ _ hs.symm), mreg_congr (State.wr_rd_other _ _ _ _ hc.symm), mreg_congr (State.wr_rd_other _ _ _ _ hf.symm)]

theorem runBegun_sr_bx : (runBegun s m).mreg m 0x3C = 1 ∧ (runBegun s m).mreg m 0x3D = 15 := by
  rw [runBegun_mreg, runBegun_mreg, mreg_mset_same, mreg_mset_other (by decide), mreg_mset_same]
  decide

theorem runBegun_fault_cyc : (runBegun s m).rd (R.MDSP_FAULT m) = 0 ∧ (runBegun s m).rd (R.MDSP_CYC m) = 0 := by
  obtain ⟨-, -, hsc, -, -, -⟩ := mdProgress_ne m
  obtain ⟨-, hsf, hfc, -⟩ := start_ne m
  rw [runBegun, State.setF_rd_other _ _ _ _ _ hsf.symm, State.wr_rd_other _ _ _ _ hfc, State.wr_rd_same, State.setF_rd_other _ _ _ _ _ hsc.symm, State.wr_rd_same]
  exact ⟨rfl, rfl⟩

namespace MdEffect

theorem mdShow (h : MdEffect m as s u) (hs : R.MDSP_STAT m ∈ as) (hr : R.MDSP_REG m 0x3E ∈ as) : MdEffect m as s (u.mdShow m) := by
  have hf := mdShow_frame (u := u) (m := m)
  have hk : ∀ k, (u.mdShow m).md k = u.md k := fun k => mdShow_md
  have hrd : ∀ a, a ∉ as → (u.mdShow m).rd a = u.rd a := fun a ha => mdShow_rd (fun h => ha (h ▸ hs)) (fun h => ha (h ▸ hr))
  generalize u.mdShow m = y at hf hk hrd
  refine ⟨?_, fun k hne => (hk k).trans (h.other k hne), fun a ha => (hrd a ha).trans (h.regs a ha)⟩
  rw [hf]
  exact mdEffect_frame h.frame _ _

theorem mono {bs : List Nat} (h : MdEffect m as s u) (hb : ∀ a ∈ as, a ∈ bs) : MdEffect m bs s u := ⟨h.frame, h.other, h.regs.mono hb⟩

end MdEffect

theorem start_busy (h : s.mdState m = 1 ∨ s.mdState m = 2) : After (.mdspStart m) s (OnlyWrites [(R.MDSP_CAUSE m, [(F.MDSP_CAUSE_CMDERR, 1)])] s) := by
  refine ⟨_, ?_, onlyWrites_raise _ _⟩
  show execMdspStart m s = _
  rw [execMdspStart]
  exact if_pos (by tauto)

theorem start_spec (h : s.mdState m = 0 ∨ s.mdState m = 3) (hh : s.coreHeld m = false) : After (.mdspStart m) s (fun t => t.mdState m = 1 ∧
    t = { s with regs := t.regs, mdsp := t.mdsp } ∧ (∀ k, k ≠ m → t.md k = s.md k) ∧
    t.mdPc m = s.fld (R.MDSP_ENTRY m) F.MDSP_ENTRY_ADDR ∧ t.mreg m 0x3C = 1 ∧ t.mreg m 0x3D = 15 ∧
    t.rd (R.MDSP_FAULT m) = 0 ∧ t.rd (R.MDSP_CYC m) = 0 ∧
    t.md m = (fun c : Mdsp => { c with stack := [], reps := [], held := none, waitEv := none }) (s.md m) ∧
    SameRegs [R.MDSP_PC m, R.MDSP_STAT m, R.MDSP_FAULT m, R.MDSP_CYC m, R.MDSP_REG m 0x3C, R.MDSP_REG m 0x3D, R.MDSP_REG m 0x3E] s t) := by
  obtain ⟨hps, hpc, hsc, hpr, hsr, hcr⟩ := mdProgress_ne m
  obtain ⟨hpf, hsf, hfc, hreg⟩ := start_ne m
  have heff : MdEffect m [R.MDSP_PC m, R.MDSP_STAT m, R.MDSP_FAULT m, R.MDSP_CYC m, R.MDSP_REG m 0x3C, R.MDSP_REG m 0x3D, R.MDSP_REG m 0x3E] s
      ((runBegun s m).mdShow m) := (runBegun_effect.mono (by simp +contextual [freshRegs])).mdShow (by simp) (by simp)
  refine ⟨(runBegun s m).mdShow m, ?_, mdShow_state.trans runBegun_state, heff.frame, heff.other, ?_, ?_, ?_, ?_, ?_, mdShow_md.trans runBegun_data, heff.regs⟩
  · show execMdspStart m s = _
    rw [execMdspStart]
    refine if_neg ?_
    rintro (hc | hc | hc)
    · omega
    · omega
    · exact Bool.false_ne_true (hh.symm.trans hc)
  · rw [mdPc_congr (mdShow_rd hps hpr), runBegun_pc]
  · rw [mreg_congr (mdShow_rd (hreg _).2.1.symm (mdspReg_ne (by decide))), runBegun_sr_bx.1]
  · rw [mreg_congr (mdShow_rd (hreg _).2.1.symm (mdspReg_ne (by decide))), runBegun_sr_bx.2]
  · rw [mdShow_rd hsf.symm (hreg _).2.2.1, runBegun_fault_cyc.1]
  · rw [mdShow_rd hsc.symm hcr, runBegun_fault_cyc.2]

/-! ### What a core has waited -/

/-- The cycles a core has waited are counted. -/
structure WaitCounted (m : Fin 24) (s t : State) : Prop where
  data : ∃ x, t.md m = { s.md m with waitEv := x }
  other : ∀ k, k ≠ m → t.md k = s.md k
  regs : SameRegs [R.MDSP_CYC m] s t

theorem tally_md (d c n : Nat) : (s.tally d c n).md k = s.md k := by
  obtain ⟨x, hx⟩ := tally_eq s d c n
  rw [hx]
  rfl

theorem mdWaited_md : (s.mdWaited m n).md k = s.md k := by rw [State.mdWaited, tally_md, State.bump_eq, setF_md]

theorem mdWaited_rd (h : a ≠ R.MDSP_CYC m) : (s.mdWaited m n).rd a = s.rd a := by
  rw [State.mdWaited, tally_rd, State.bump_eq, State.setF_rd_other _ _ _ _ _ h]

theorem waitCounted : WaitCounted m s (s.mdSettle m) := by
  rw [State.mdSettle]
  split
  · exact ⟨⟨_, rfl⟩, fun _ _ => rfl, .refl _ _⟩
  · next e at_ _ =>
    split
    · exact ⟨⟨_, rfl⟩, fun _ _ => rfl, .refl _ _⟩
    · split
      · exact ⟨⟨some (e, s.now), md_modMd_same _⟩, fun k hk => md_modMd_other _ hk, .refl _ _⟩
      · refine ⟨⟨some (e, at_ + 6400 * ((s.now - at_) / 6400)), ?_⟩, fun k hk => ?_, fun a ha => ?_⟩
        · rw [md_modMd_same, mdWaited_md]
        · rw [md_modMd_other _ hk, mdWaited_md]
        · rw [modMd_rd, mdWaited_rd (by simpa using ha)]

/-! ### STOP -/

theorem stop_running (h : s.mdState m = 1) : After (.mdspStop m) s (fun t => t.mdState m = 0 ∧ t.mdPc m = s.mdPc m ∧
    t = { s with regs := t.regs, mdsp := t.mdsp } ∧ t.md m = (fun c : Mdsp => { c with stack := [], reps := [], waitEv := none }) (s.md m) ∧
    (∀ k, k ≠ m → t.md k = s.md k) ∧ SameRegs [R.MDSP_STAT m, R.MDSP_REG m 0x3E] s t) := by
  have hend := runEnded_of (m := m) s
  refine ⟨_, ?_, hend.state, hend.pc, hend.frame, hend.data, hend.other, hend.regs⟩
  show execMdspStop m s = _
  rw [execMdspStop, if_pos h]

theorem stop_waiting (h : s.mdState m = 2) : After (.mdspStop m) s (fun t => t.mdState m = 0 ∧ t.mdPc m = s.mdPc m ∧
    t.md m = (fun c : Mdsp => { c with stack := [], reps := [], waitEv := none }) (s.md m) ∧
    (∀ k, k ≠ m → t.md k = s.md k) ∧ SameRegs [R.MDSP_STAT m, R.MDSP_CYC m, R.MDSP_REG m 0x3E] s t) := by
  have hexec : exec (.mdspStop m) s = .next (((s.mdSettle m).setMdState m 0).mdDiscard m) := by
    show execMdspStop m s = _
    rw [execMdspStop, if_neg (by omega), if_pos h]
  obtain ⟨-, hpc, -, -, -, -⟩ := mdProgress_ne m
  obtain ⟨⟨x, hdata⟩, hother, hregs⟩ := waitCounted (s := s) (m := m)
  generalize s.mdSettle m = q at hexec hdata hother hregs
  have hend := runEnded_of (m := m) q
  refine ⟨_, hexec, hend.state, hend.pc.trans (mdPc_congr (hregs _ (by simp [hpc]))), by rw [hend.data, hdata], fun k hk => (hend.other k hk).trans (hother k hk),
    fun a ha => ?_⟩
  simp only [List.mem_cons, List.not_mem_nil, or_false, not_or] at ha
  rw [hend.regs a (by simp [ha.1, ha.2.2]), hregs a (by simp [ha.2.1])]

theorem stop_idle (h : s.mdState m = 0 ∨ s.mdState m = 3) : exec (.mdspStop m) s = .next s := by
  show execMdspStop m s = _
  rw [execMdspStop, if_neg (by omega), if_neg (by omega)]

/-! ### Events from outside -/

theorem eventAt_pending (h : s.evPending m e = true) : s.eventAt m e = s.raise (R.MDSP_CAUSE m) F.MDSP_CAUSE_EVOVF := if_pos h
theorem eventAt_new (h : s.evPending m e = false) : s.eventAt m e = s.evSet m e true := if_neg (by simp [h])

theorem evSet_c (b : Bool) (d : Fin 6) : (s.evSet m e b).c d = s.c d := State.wr_c_eq _ _ _ _
theorem evSet_now (b : Bool) : (s.evSet m e b).now = s.now := State.wr_now _ _ _

theorem evset_spec (e : Fin 256) :
    (s.evPending m e = true → After (.mdspEvset m e) s (OnlyWrites [(R.MDSP_CAUSE m, [(F.MDSP_CAUSE_EVOVF, 1)])] s)) ∧
    (s.evPending m e = false → After (.mdspEvset m e) s (fun t => OnlyRegs [R.MDSP_EVPEND m (e / 32)] s t ∧
      t.rd (R.MDSP_EVPEND m (e / 32)) = s.rd (R.MDSP_EVPEND m (e / 32)) ||| (1#32 <<< (e.val % 32)))) := by
  refine ⟨fun h => ⟨_, congrArg (fun x => (.next x : Out)) (eventAt_pending h), onlyWrites_raise _ _⟩, fun h => ⟨_, congrArg (fun x => (.next x : Out)) (eventAt_new h), ?_, ?_⟩⟩
  · exact (OnlyRegs.refl _ s).wr (by simp)
  · exact (evSet_rd_same true).trans (if_pos rfl)

/-- A bit that has been set reads 1. -/
theorem bitOf_or_shifted (x : Word) {i : Nat} (hi : i < 32) : bitOf (x ||| (1#32 <<< i)).toNat i = true := by
  rw [bitOf, BitVec.testBit_toNat, BitVec.getLsbD_or, BitVec.getLsbD_shiftLeft, Nat.sub_self]
  simp [hi]

theorem trig_event {at_ code : Nat} {rest : List (Nat × Nat × Nat)} (die : Fin 6) (hd : die.val = m.val / 4) (ht : (s.c die).trigs = (at_, 2, code) :: rest)
    (hc : code % 4 = m.val % 4) (he : s.evPending m (code / 256 % 256) = false) : After (.mdspTrigEvent m) s (fun t => (t.c die).trigs = rest ∧
    t.now = max s.now at_ ∧ bitOf (t.rd (R.MDSP_EVPEND m (code / 256 % 256 / 32))).toNat (code / 256 % 256 % 32) = true ∧
    SameRegs [R.MDSP_EVPEND m (code / 256 % 256 / 32)] s t) := by
  have hdie : (⟨m.val / 4, by omega⟩ : Fin 6) = die := Fin.ext hd.symm
  have hfind : ((s.c die).trigs.find? (fun t => t.2.1 == 2 && t.2.2 % 4 == m.val % 4)) = some (at_, 2, code) := by
    rw [ht]
    exact List.find?_cons_of_pos (by simp [hc])
  have hexec : exec (.mdspTrigEvent m) s = .next (((s.at_ at_).modC die (fun c => { c with trigs := c.trigs.erase (at_, 2, code) })).eventAt m (code / 256 % 256)) := by
    show execMdspTrigEvent m s = _
    rw [execMdspTrigEvent]
    rw [hdie, hfind]
  have hq : ((s.at_ at_).modC die (fun c => { c with trigs := c.trigs.erase (at_, 2, code) })).evPending m (code / 256 % 256) = false := he
  have htrigs : (((s.at_ at_).modC die (fun c => { c with trigs := c.trigs.erase (at_, 2, code) })).c die).trigs = rest := by
    rw [State.modC_c_same]
    show (s.c die).trigs.erase (at_, 2, code) = rest
    rw [ht, List.erase_cons_head]
  have hnow : ((s.at_ at_).modC die (fun c => { c with trigs := c.trigs.erase (at_, 2, code) })).now = max s.now at_ := rfl
  have hrd : ∀ a, ((s.at_ at_).modC die (fun c => { c with trigs := c.trigs.erase (at_, 2, code) })).rd a = s.rd a := fun _ => rfl
  generalize (s.at_ at_).modC die (fun c => { c with trigs := c.trigs.erase (at_, 2, code) }) = q at hexec hq htrigs hnow hrd
  rw [eventAt_new hq] at hexec
  refine ⟨_, hexec, by rw [evSet_c, htrigs], by rw [evSet_now, hnow], ?_, fun a ha => (evSet_rd_other true (by simpa using ha)).trans (hrd a)⟩
  rw [evSet_rd_same, if_pos rfl]
  exact bitOf_or_shifted _ (Nat.mod_lt _ (by decide))

theorem trig_none (die : Fin 6) (hd : die.val = m.val / 4) (ht : (s.c die).trigs = []) : exec (.mdspTrigEvent m) s = .next s := by
  have hdie : (⟨m.val / 4, by omega⟩ : Fin 6) = die := Fin.ext hd.symm
  show execMdspTrigEvent m s = _
  rw [execMdspTrigEvent]
  rw [hdie, ht]
  rfl

/-! ### The end of a wait -/

theorem evpend_ne (m : Fin 24) (i : Nat) : R.MDSP_EVPEND m i ≠ R.MDSP_CYC m ∧ R.MDSP_EVPEND m i ≠ R.MDSP_STAT m ∧ R.MDSP_EVPEND m i ≠ R.MDSP_PC m := by
  obtain ⟨h1, h2, h3⟩ := (effReg_signal m).2.2 i
  exact ⟨h3, h2, h1⟩

theorem exec_waitWake {b : Nat} (h : (s.md m).waitEv = some (e, b)) (hs : s.mdState m = 2) (hf : s.mdFrozen m = false) : exec (.waitWake m) s = .next (
    if s.evPending m e then (((s.mdSettle m).evSet m e false).setMdState m 1).modMd m (fun c => { c with waitEv := none }) else s) := by
  show execWaitWake m s = _
  rw [execWaitWake, h]
  cases hp : s.evPending m e <;> simp [hs, hf, hp]

theorem wake_spec {b : Nat} (h : (s.md m).waitEv = some (e, b)) (hs : s.mdState m = 2) (hf : s.mdFrozen m = false) :
    (s.evPending m e = true → After (.waitWake m) s (fun t => t.mdState m = 1 ∧ t.mdPc m = s.mdPc m ∧
      t.md m = (fun c : Mdsp => { c with waitEv := none }) (s.md m) ∧
      t.rd (R.MDSP_EVPEND m (e / 32)) = s.rd (R.MDSP_EVPEND m (e / 32)) &&& ~~~ (1#32 <<< (e % 32)) ∧
      SameRegs [R.MDSP_EVPEND m (e / 32), R.MDSP_STAT m, R.MDSP_CYC m] s t)) ∧
    (s.evPending m e = false → exec (.waitWake m) s = .next s) := by
  have hexec := exec_waitWake h hs hf
  refine ⟨fun hp => ?_, fun hp => by rw [hexec, hp, if_neg Bool.false_ne_true]⟩
  rw [if_pos hp] at hexec
  obtain ⟨⟨x, hdata⟩, -, hregs⟩ := waitCounted (s := s) (m := m)
  obtain ⟨hec, hes, hep⟩ := evpend_ne m (e / 32)
  obtain ⟨hps, hpc, hsc, -, -, -⟩ := mdProgress_ne m
  rw [State.setMdState] at hexec
  generalize s.mdSettle m = q at hexec hdata hregs
  refine ⟨_, hexec, ?_, ?_, ?_, ?_, fun a ha => ?_⟩
  · rw [mdState_congr (modMd_rd _ _)]
    exact setF_fld_of_lt (by decide) (by decide)
  · rw [mdPc_congr (modMd_rd _ _), mdPc_congr (State.setF_rd_other _ _ _ _ _ hps), mdPc_congr (evSet_rd_other false hep.symm),
      mdPc_congr (hregs _ (by simp [hpc]))]
  · rw [md_modMd_same, setF_md, evSet_md, hdata]
  · rw [modMd_rd, State.setF_rd_other _ _ _ _ _ hes, evSet_rd_same, hregs _ (by simp [hec]), if_neg Bool.false_ne_true]
  · simp only [List.mem_cons, List.not_mem_nil, or_false, not_or] at ha
    obtain ⟨h1, h2, h3⟩ := ha
    rw [modMd_rd, State.setF_rd_other _ _ _ _ _ h2, evSet_rd_other false h1, hregs a (by simp [h3])]

end Sys2Proof.Machine
end

section
/-! The memories of a measurement DSP core from the promenade, and its control format as a whole (07_measurement_dsp.md R224 to R227, R249). -/
namespace Sys2Proof.Machine
variable {s t u : State} {m k : Fin 24} {w a n r v x i j off len : Nat} {data : List Nat} {c : Mdsp}

/-! ### Bytes of the window -/

/-- The memory and the byte that an offset of the window names (R224). -/
def bytePlace (o : Nat) : Nat × Nat := if o < 0x40000 then (0, o) else if o < 0x80000 then (1, o - 0x40000) else (2, o - 0x80000)

theorem mdPlace_eq (h : x < 0xA0000) : mdPlace x = some (bytePlace x) := by
  unfold mdPlace bytePlace
  by_cases h1 : x < 0x40000
  · rw [if_pos h1, if_pos h1]
  · rw [if_neg h1, if_neg h1]
    by_cases h2 : x < 0x80000
    · rw [if_pos h2, if_pos h2]
    · rw [if_neg h2, if_neg h2, if_pos h]

/-- A place names its offset. -/
theorem bytePlace_eq (o : Nat) : (bytePlace o).1 < 3 ∧ 0x40000 * (bytePlace o).1 + (bytePlace o).2 = o := by
  unfold bytePlace
  by_cases h1 : o < 0x40000
  · rw [if_pos h1]
    dsimp only
    omega
  · rw [if_neg h1]
    by_cases h2 : o < 0x80000
    · rw [if_pos h2]
      dsimp only
      omega
    · rw [if_neg h2]
      dsimp only
      omega

theorem bytePlace_lt (o : Nat) : (bytePlace o).1 < 3 := (bytePlace_eq o).1

theorem bytePlace_inj (h : bytePlace x = bytePlace v) : x = v := by rw [← (bytePlace_eq x).2, h, (bytePlace_eq v).2]

theorem byte_replaced {z b : Nat} (hz : z < 2 ^ 32) (hb : b < 256) (hj : j < 4) (hi : i < 4) :
    z - bitsOf z (8 * j) 8 * 2 ^ (8 * j) + b * 2 ^ (8 * j) < 2 ^ 32 ∧
    bitsOf (z - bitsOf z (8 * j) 8 * 2 ^ (8 * j) + b * 2 ^ (8 * j)) (8 * i) 8 = if i = j then b else bitsOf z (8 * i) 8 := by
  unfold bitsOf
  interval_cases j <;> interval_cases i <;> simp <;> omega

/-- A byte written to a word of a memory. -/
theorem byte_putByte {k k' : Nat} (hk : k < 3) (hk' : k' < 3) (a a' : Nat) :
    (c.putByte k a v).byte k' a' = if (k', a') = (k, a) then v % 256 else c.byte k' a' := by
  have hw := byte_replaced (z := c.read k (a / 4)) (b := v % 256) (mdMem_lt _ _ _) (Nat.mod_lt _ (by decide)) (Nat.mod_lt a (by decide : 0 < 4))
    (Nat.mod_lt a' (by decide : 0 < 4))
  rw [Mdsp.byte, Mdsp.putByte, Mdsp.byte]
  by_cases hsame : (k', a' / 4) = (k, a / 4)
  · obtain ⟨rfl, ha⟩ := Prod.mk.injEq .. ▸ hsame
    rw [ha, read_write_same hk hw.1, hw.2]
    have hiff : a' % 4 = a % 4 ↔ (k', a') = (k', a) := by
      rw [Prod.mk.injEq]
      omega
    simp only [hiff]
  · rw [read_write_other hk hk' hsame, if_neg]
    rintro h
    obtain ⟨rfl, rfl⟩ := Prod.mk.injEq .. ▸ h
    exact hsame rfl

theorem byte_putWin {o : Nat} (hx : x < 0xA0000) :
    (c.putWin x v).byte (bytePlace o).1 (bytePlace o).2 = if o = x then v % 256 else c.byte (bytePlace o).1 (bytePlace o).2 := by
  rw [Mdsp.putWin, mdPlace_eq hx]
  show (c.putByte (bytePlace x).1 (bytePlace x).2 v).byte (bytePlace o).1 (bytePlace o).2 = _
  rw [byte_putByte (bytePlace_lt x) (bytePlace_lt o)]
  by_cases h : o = x
  · rw [if_pos (by rw [h]), if_pos h]
  · rw [if_neg fun he => h (bytePlace_inj he), if_neg h]

theorem putWin_ue : (c.putWin x v).ue = c.ue := by
  unfold Mdsp.putWin Mdsp.putByte
  split
  · rfl
  · exact write_marks.1

/-- The window after a write of n bytes from an offset on. -/
def putBytes (c : Mdsp) (off : Nat) (data : List Nat) (n : Nat) : Mdsp := (List.range n).foldl (fun c i => c.putWin (off + i) (nth data i 0)) c

theorem putBytes_succ : putBytes c off data (n + 1) = (putBytes c off data n).putWin (off + n) (nth data n 0) := by
  rw [putBytes, List.range_succ, List.foldl_append, putBytes]
  rfl

theorem putBytes_ue : (putBytes c off data n).ue = c.ue := by
  induction n with
  | zero => rfl
  | succ n ih => rw [putBytes_succ, putWin_ue, ih]

theorem byte_putBytes {o : Nat} (hd : ∀ b ∈ data, b < 256) (hn : n ≤ data.length) (hoff : off + n ≤ 0xA0000) :
    (putBytes c off data n).byte (bytePlace o).1 (bytePlace o).2 =
      if off ≤ o ∧ o < off + n then nth data (o - off) 0 else c.byte (bytePlace o).1 (bytePlace o).2 := by
  induction n with
  | zero => rw [if_neg (by omega)]; rfl
  | succ n ih =>
    have hbyte : nth data n 0 < 256 := by
      unfold nth
      rw [List.getD_eq_getElem _ _ (by omega)]
      exact hd _ (List.getElem_mem _)
    rw [putBytes_succ, byte_putWin (by omega), ih (by omega) (by omega)]
    by_cases he : o = off + n
    · rw [if_pos he, if_pos (by omega), he, Nat.add_sub_cancel_left, Nat.mod_eq_of_lt hbyte]
    · rw [if_neg he]
      exact if_congr (by omega) rfl rfl

theorem unmarked_filter {f : Nat → Bool} (h : c.ue = []) : { c with ue := c.ue.filter f } = c := by rw [h, List.filter_nil, ← h]

/-! ### Accesses -/

section Access
variable (hue : (s.md m).ue = [])
include hue

theorem mdEcc_clean (k a i : Nat) : s.mdEcc m k a (nth [] i .clean) = .clean := by
  rw [State.mdEcc, hue]
  rfl

omit hue in
theorem mdMark_clean (k a i : Nat) : s.mdMark m k a (nth [] i .clean) = s := rfl

theorem granules_good (l : List Nat) (f : Nat → Nat × Nat) (h : Nat → Nat) :
    l.any (fun g => s.mdEcc m (f g).1 (f g).2 (nth [] (h g) .clean) == .ue) = false :=
  List.any_eq_false.mpr fun g _ => by rw [mdEcc_clean hue]; decide

omit hue in
theorem granules_unmarked (l : List Nat) (f : Nat → Nat × Nat) (h : Nat → Nat) :
    forEach l (fun g s => s.mdMark m (f g).1 (f g).2 (nth [] (h g) .clean)) s = s :=
  forEach_induct (P := fun y => y = s) rfl fun g _ y hy => by rw [hy, mdMark_clean]

omit hue in
theorem access_outside (write : Bool) (h : 0xA0000 < off + if write then data.length else len) :
    exec (.mdspMemAccess m off len write data []) s = .next (s.answer .errDecode []) := by
  show execMdspMemAccess m off len write data [] s = _
  exact if_pos h

omit hue in
theorem access_denied (write : Bool) (h1 : (off + if write then data.length else len) ≤ 0xA0000) (h2 : 0x80000 < off + if write then data.length else len)
    (hs : s.mdState m = 1 ∨ s.mdState m = 2) : exec (.mdspMemAccess m off len write data []) s = .next (s.answer .errDenied []) := by
  show execMdspMemAccess m off len write data [] s = _
  exact (if_neg (by omega)).trans (if_pos ⟨h2, hs⟩)

theorem access_read (h1 : off + len ≤ 0xA0000) (hs : 0x80000 < off + len → s.mdState m = 0 ∨ s.mdState m = 3) :
    exec (.mdspMemAccess m off len false data []) s = .next (s.answer .ok ((List.range len).map (fun i =>
      bitsOf ((s.md m).read (bytePlace (off + i)).1 ((bytePlace (off + i)).2 / 4)) (8 * ((bytePlace (off + i)).2 % 4)) 8))) := by
  have hbytes : (List.range len).map (fun i => (s.md m).winByte (off + i)) = (List.range len).map (fun i =>
      bitsOf ((s.md m).read (bytePlace (off + i)).1 ((bytePlace (off + i)).2 / 4)) (8 * ((bytePlace (off + i)).2 % 4)) 8) :=
    List.map_congr_left fun i hi => by
      have hlt := List.mem_range.mp hi
      rw [Mdsp.winByte, mdPlace_eq (by omega)]
      rfl
  show execMdspMemAccess m off len false data [] s = _
  rw [execMdspMemAccess]
  simp only [Bool.false_eq_true, if_false]
  rw [if_neg (by omega), if_neg (by rintro ⟨h, h'⟩; have := hs h; omega), granules_unmarked, granules_good hue, if_neg Bool.false_ne_true, hbytes]

theorem access_write (h1 : off + data.length ≤ 0xA0000) (hs : 0x80000 < off + data.length → s.mdState m = 0 ∨ s.mdState m = 3) :
    exec (.mdspMemAccess m off len true data []) s = .next ((s.modMd m (fun c => putBytes c off data data.length)).answer .ok []) := by
  have hnone : ((granules off data.length).any fun g => !covered off data.length g &&
      s.mdEcc m (mdWinGran g).1 (mdWinGran g).2 (nth [] (g - off / 8) .clean) == .ue) = false :=
    List.any_eq_false.mpr fun g _ => by
      rw [mdEcc_clean hue, show (Ecc.clean == Ecc.ue) = false from rfl, Bool.and_false]
      decide
  show execMdspMemAccess m off len true data [] s = _
  rw [execMdspMemAccess]
  simp only [if_true]
  rw [if_neg (by omega), if_neg (by rintro ⟨h, h'⟩; have := hs h; omega), granules_unmarked, hnone, if_neg Bool.false_ne_true]
  refine congrArg (fun y : State => (.next (y.answer .ok []) : Out)) ?_
  refine modMd_self ?_
  have hnil : ((s.modMd m (fun c => putBytes c off data data.length)).md m).ue = [] := by rw [md_modMd_same, putBytes_ue, hue]
  exact unmarked_filter hnil

end Access

end Sys2Proof.Machine
namespace Sys2Proof
open Machine

/-- Settles O54: a core's own effect beside its progress (MdEffect, Moved), one lemma for each instruction of R249's table. -/
theorem mdspControlAndRun : Obligations.MdspControlAndRun := by
  intro s m
  refine ⟨fun w h => ⟨fun hw stop => halt_spec h hw stop, fun a ha => ⟨fun hw => jmp_spec h ha hw, fun hw hl => call_spec h ha hw hl,
      fun hw hl => call_full h ha hw hl, fun c hc hw => jcc_spec h ha hc hw, fun n hn hw => rep_spec h ha hn hw, fun d hd hw hl => repr_spec h ha hd hw hl⟩,
      fun hw => ret_spec h hw, fun r v hr hv hw => ldi_spec h hr hv hw, fun x y hx hy hw => move_spec h hx hy hw,
      fun k half r a hk hh hr ha => ⟨fun hw _ => ld_spec h hh hr ha hk hw, fun hk2 hw => st_spec h hh hr ha hk2 hw⟩,
      fun set_ mask hs hm hw => srm_spec h hs hm hw, fun e he hw => ?_, fun v hv => ⟨fun hw => sig_code h hv hw, fun die hd hw => sig_trigger h hv die hd hw,
      fun hw => sig_fault h hv hw⟩, fun k n d hk hn hd hw => hinc_spec h hk hn hd hw, fun n hn hn' x hx hw => reserved_spec h hn hn' hx hw⟩,
    fun h => start_busy h, fun h hh => start_spec h hh, fun h => stop_running h, fun h => stop_waiting h, fun h => stop_idle h, fun e => evset_spec e,
    fun die at_ code rest hd ht hc he => trig_event die hd ht hc he, fun die hd ht => trig_none die hd ht, fun e b hb hs hf _ => wake_spec hb hs hf,
    fun off len write data hue => ⟨fun h => ⟨_, access_outside write h, rfl⟩, fun h1 h2 hs => ⟨_, access_denied write h1 h2 hs, rfl⟩, fun h1 hs => ⟨fun hw => ?_, fun hw hd => ?_⟩⟩⟩
  · obtain ⟨hseen, hwait⟩ := waite_spec h he hw
    refine ⟨hseen, fun hp => ?_⟩
    obtain ⟨t, ht, hb⟩ := hwait hp
    exact ⟨t, ht, hb.state, hb.pc, hb.data, hb.regs⟩
  · subst hw
    exact ⟨_, access_read hue h1 hs, rfl, rfl, rfl⟩
  · subst hw
    refine ⟨_, access_write hue h1 hs, rfl, fun j hj => ?_, fun o _ => ?_⟩
    · show (s.modMd m (fun c => putBytes c off data data.length)).md j = _
      exact md_modMd_other _ hj
    show ((s.modMd m (fun c => putBytes c off data data.length)).md m).byte (bytePlace o).1 (bytePlace o).2 = _
    rw [md_modMd_same]
    exact byte_putBytes hd le_rfl h1

end Sys2Proof
end

section
/-! The accumulators of a measurement DSP core and the flags of a result (07_measurement_dsp.md R228, R229, R238, R239). -/
namespace Sys2Proof.Machine
variable {s t u : State} {m k : Fin 24} {w a n r x i j : Nat} {as : List Nat} {v : Int} {sat : Bool}

/-! ### 40-bit values -/

theorem signed_unsigned (h : -(2 : Int) ^ 39 ≤ v ∧ v < 2 ^ 39) : signedOf 40 (unsignedOf 40 v) = v := by
  unfold signedOf unsignedOf
  split <;> omega

theorem signedOf_range (x : Nat) : -(2 : Int) ^ 39 ≤ signedOf 40 x ∧ signedOf 40 x < 2 ^ 39 := by
  unfold signedOf
  split <;> omega

theorem accLimit_range (sat : Bool) (v : Int) : -(2 : Int) ^ 39 ≤ (accLimit sat v).1 ∧ (accLimit sat v).1 < 2 ^ 39 := by
  unfold accLimit
  split
  · dsimp only
    omega
  · split
    · dsimp only
      split <;> omega
    · exact signedOf_range _

/-- What an overflow leaves (R238). -/
theorem accLimit_held : ((-(2 : Int) ^ 39 ≤ v ∧ v < 2 ^ 39) → (accLimit sat v).1 = v) ∧
    (¬ (-(2 : Int) ^ 39 ≤ v ∧ v < 2 ^ 39) → sat = true → (accLimit sat v).1 = if v < 0 then -(2 : Int) ^ 39 else 2 ^ 39 - 1) ∧
    (¬ (-(2 : Int) ^ 39 ≤ v ∧ v < 2 ^ 39) → sat = false → (accLimit sat v).1 = signedOf 40 (unsignedOf 40 v)) := by
  unfold accLimit
  refine ⟨fun h => ?_, fun h hs => ?_, fun h hs => ?_⟩
  · rw [if_pos (by omega)]
  · rw [if_neg (by omega), if_pos hs]
    dsimp only
    split <;> split <;> omega
  · rw [if_neg (by omega), hs, if_neg Bool.false_ne_true]

theorem accLimit_over : (accLimit sat v).2 = true ↔ ¬ (-(2 : Int) ^ 39 ≤ v ∧ v < 2 ^ 39) := by
  unfold accLimit
  by_cases h : -(2 : Int) ^ 39 ≤ v ∧ v < 2 ^ 39
  · rw [if_pos (by omega)]
    exact iff_of_false Bool.false_ne_true (not_not_intro h)
  · rw [if_neg (by omega)]
    refine iff_of_true ?_ h
    split <;> rfl

/-- The guard bits of an extended value differ (R239). -/
theorem extended_iff (h : -(2 : Int) ^ 39 ≤ v ∧ v < 2 ^ 39) :
    (unsignedOf 40 v / 2 ^ 31 != 0 && unsignedOf 40 v / 2 ^ 31 != 511) = true ↔ ¬ (-(2 : Int) ^ 31 ≤ v ∧ v < 2 ^ 31) := by
  rw [Bool.and_eq_true, bne_iff_ne, bne_iff_ne]
  unfold unsignedOf
  omega

theorem sext8_mod (h : x < 256) : sext8 x % 65536 % 256 = x := by
  unfold sext8 signedOf unsignedOf
  split <;> omega

/-! ### An accumulator that is written -/

theorem mreg_setAcc_other (h0 : r ≠ 0x30 + 3 * n) (h1 : r ≠ 0x31 + 3 * n) (h2 : r ≠ 0x32 + 3 * n) : (s.setAcc m n v).mreg m r = s.mreg m r := by
  rw [State.setAcc, mreg_mset_other h0, mreg_mset_other h1, mreg_mset_other h2]

theorem acc_setAcc_same (h : -(2 : Int) ^ 39 ≤ v ∧ v < 2 ^ 39) : (s.setAcc m n v).acc m n = v := by
  have hlt : unsignedOf 40 v < 2 ^ 40 := unsignedOf_lt 40 v
  have hback := signed_unsigned h
  rw [acc_eq, State.setAcc, mreg_mset_other (by omega), mreg_mset_other (by omega), mreg_mset_same, mreg_mset_other (by omega), mreg_mset_same,
    mreg_mset_same]
  generalize unsignedOf 40 v = z at hlt hback
  rw [sext8_mod (by omega), ← hback]
  congr 1
  omega

theorem acc_setAcc_other {k : Nat} (h : k ≠ n) : (s.setAcc m n v).acc m k = s.acc m k := by
  rw [acc_eq, acc_eq, mreg_setAcc_other (by omega) (by omega) (by omega), mreg_setAcc_other (by omega) (by omega) (by omega),
    mreg_setAcc_other (by omega) (by omega) (by omega)]

theorem sr_setAcc (hn : n < 4) : (s.setAcc m n v).sr m i = s.sr m i := by
  rw [State.sr, mreg_setAcc_other (by omega) (by omega) (by omega), State.sr]

theorem acc_orSr (b : Bool) (hn : n < 4) : (s.orSr m i b).acc m n = s.acc m n := acc_congr (fun _ h _ => orSr_mreg b h) hn
theorem acc_setSr (b : Bool) (hn : n < 4) : (s.setSr m i b).acc m n = s.acc m n := acc_congr (fun _ h _ => setSr_mreg b h) hn

theorem setAcc_md : (s.setAcc m n v).md k = s.md k := by rw [State.setAcc, mset_md, mset_md, mset_md]
theorem setSr_md (b : Bool) : (s.setSr m i b).md k = s.md k := by
  obtain ⟨x, hx⟩ := setSr_mset (s := s) (m := m) (i := i) b
  rw [hx, mset_md]

theorem MdEffect.trans {q : State} (h : MdEffect m as s u) (h' : MdEffect m as u q) : MdEffect m as s q := by
  refine ⟨?_, fun k hk => (h'.other k hk).trans (h.other k hk), h.regs.trans h'.regs⟩
  rw [h'.frame]
  exact mdEffect_frame h.frame _ _

/-- The registers of the accumulators. -/
def accRegs (m : Fin 24) : List Nat := (List.range 12).map (fun i => R.MDSP_REG m (0x30 + i))

theorem accRegs_mem (h1 : 0x30 ≤ r) (h2 : r < 0x3C) : R.MDSP_REG m r ∈ accRegs m :=
  List.mem_map.mpr ⟨r - 0x30, List.mem_range.mpr (by omega), by rw [show 0x30 + (r - 0x30) = r by omega]⟩

theorem MdEffect.setAcc (h : MdEffect m as s u) (hn : n < 4) (ha : ∀ a ∈ accRegs m, a ∈ as) : MdEffect m as s (u.setAcc m n v) := by
  rw [State.setAcc]
  exact ((h.mset (ha _ (accRegs_mem (by omega) (by omega)))).mset (ha _ (accRegs_mem (by omega) (by omega)))).mset (ha _ (accRegs_mem (by omega) (by omega)))

/-! ### The accumulators of a result -/

/-- Accumulators written one after another, with AV. -/
structure AccsWritten (m : Fin 24) (l : List (Nat × Int × Bool)) (s u : State) : Prop where
  effect : MdEffect m (R.MDSP_REG m 0x3C :: accRegs m) s u
  data : ∀ k, u.md k = s.md k
  value : ∀ e ∈ l, u.acc m e.1 = e.2.1
  other : ∀ n, n < 4 → (∀ e ∈ l, e.1 ≠ n) → u.acc m n = s.acc m n
  av : u.sr m 2 = (s.sr m 2 || l.any (·.2.2))
  sr : ∀ i, i < 16 → i ≠ 2 → u.sr m i = s.sr m i

/-- Writes of different accumulators: each keeps what it was given. -/
theorem accsWritten : ∀ {l : List (Nat × Int × Bool)} {s : State}, (∀ e ∈ l, e.1 < 4 ∧ -(2 : Int) ^ 39 ≤ e.2.1 ∧ e.2.1 < 2 ^ 39) → (l.map (·.1)).Nodup →
    AccsWritten m l s (forEach l (fun e s => (s.setAcc m e.1 e.2.1).orSr m 2 e.2.2) s)
  | [], s, _, _ => ⟨.refl s, fun _ => rfl, nofun, fun _ _ _ => rfl, by rw [List.any_nil, Bool.or_false]; rfl, fun _ _ _ => rfl⟩
  | (n, v, b) :: l, s, hl, hd => by
    obtain ⟨hn, hv⟩ := hl _ (List.mem_cons_self ..)
    obtain ⟨hnew, hd⟩ := List.nodup_cons.mp hd
    have hfirst : MdEffect m (R.MDSP_REG m 0x3C :: accRegs m) s ((s.setAcc m n v).orSr m 2 b) :=
      ((MdEffect.refl s).setAcc hn fun a ha => List.mem_cons_of_mem _ ha).orSr b (List.mem_cons_self ..)
    have ih := accsWritten (s := (s.setAcc m n v).orSr m 2 b) (fun e he => hl e (List.mem_cons_of_mem _ he)) hd
    have hfresh : ∀ e ∈ l, e.1 ≠ n := fun e he heq => hnew (List.mem_map.mpr ⟨e, he, heq⟩)
    rw [forEach_cons]
    refine ⟨hfirst.trans ih.effect, fun k => ?_, fun e he => ?_, fun k hk hne => ?_, ?_, fun i hi hne => ?_⟩
    · rw [ih.data, orSr_md, setAcc_md]
    · rcases List.mem_cons.mp he with rfl | he
      · rw [ih.other n hn hfresh, acc_orSr _ hn, acc_setAcc_same hv]
      · exact ih.value e he
    · rw [ih.other k hk fun e he => hne e (List.mem_cons_of_mem _ he), acc_orSr _ hk, acc_setAcc_other (hne _ (List.mem_cons_self ..)).symm]
    · rw [ih.av, sr_orSr _ (by decide), if_pos rfl, sr_setAcc hn, List.any_cons, Bool.or_assoc]
    · rw [ih.sr i hi hne, sr_orSr _ hi, if_neg hne, sr_setAcc hn]

/-! ### The flags of a result -/

/-- What an operation gave its accumulators, with its flags (R238, R239). -/
structure AccsPut (m : Fin 24) (l : List (Nat × Int)) (s u : State) : Prop where
  effect : MdEffect m (R.MDSP_REG m 0x3C :: accRegs m) s u
  data : ∀ k, u.md k = s.md k
  value : ∀ e ∈ l, u.acc m e.1 = (accLimit (s.sr m 0) e.2).1
  other : ∀ n, n < 4 → (∀ e ∈ l, e.1 ≠ n) → u.acc m n = s.acc m n
  av : u.sr m 2 = true ↔ s.sr m 2 = true ∨ ∃ e ∈ l, ¬ (-(2 : Int) ^ 39 ≤ e.2 ∧ e.2 < 2 ^ 39)
  ae : u.sr m 8 = true ↔ ∃ e ∈ l, ¬ (-(2 : Int) ^ 31 ≤ u.acc m e.1 ∧ u.acc m e.1 < 2 ^ 31)
  sign : ∀ e, l.head? = some e → (u.sr m 9 = true ↔ u.acc m e.1 = 0) ∧ (u.sr m 10 = true ↔ u.acc m e.1 < 0)
  sr : ∀ i, i ∈ [0, 1, 3, 4, 5] → u.sr m i = s.sr m i

/-- The values as they are stored. -/
def limited (sat : Bool) (l : List (Nat × Int)) : List (Nat × Int × Bool) := l.map (fun e => (e.1, accLimit sat e.2))

theorem mem_limited {l : List (Nat × Int)} {e : Nat × Int} (h : e ∈ l) : (e.1, accLimit sat e.2) ∈ limited sat l := List.mem_map.mpr ⟨e, h, rfl⟩

/-- AE, Z and N of a result. -/
def withFlags (q : State) (m : Fin 24) (z : Nat) (ext : Bool) : State :=
  ((q.setSr m 8 ext).setSr m 9 (q.acc m z == 0)).setSr m 10 (decide (q.acc m z < 0))

section Flags
variable {q : State} {z : Nat} {ext : Bool}

theorem acc_withFlags (hn : n < 4) : (withFlags q m z ext).acc m n = q.acc m n := by rw [withFlags, acc_setSr _ hn, acc_setSr _ hn, acc_setSr _ hn]
theorem withFlags_md : (withFlags q m z ext).md k = q.md k := by rw [withFlags, setSr_md, setSr_md, setSr_md]

theorem sr_withFlags (hi : i < 16) : (withFlags q m z ext).sr m i =
    if i = 10 then decide (q.acc m z < 0) else if i = 9 then q.acc m z == 0 else if i = 8 then ext else q.sr m i := by
  rw [withFlags, sr_setSr _ hi, sr_setSr _ hi, sr_setSr _ hi]

theorem MdEffect.withFlags (h : MdEffect m as s q) (ha : R.MDSP_REG m 0x3C ∈ as) : MdEffect m as s (withFlags q m z ext) :=
  ((h.setSr _ ha).setSr _ ha).setSr _ ha

end Flags

/-- A limited value lies outside 32 bits. -/
def extended (l : List (Nat × Int × Bool)) : Bool := l.any (fun e => unsignedOf 40 e.2.1 / 2 ^ 31 != 0 && unsignedOf 40 e.2.1 / 2 ^ 31 != 511)

theorem extended_limited (l : List (Nat × Int)) : extended (limited sat l) = true ↔
    ∃ e ∈ l, ¬ (-(2 : Int) ^ 31 ≤ (accLimit sat e.2).1 ∧ (accLimit sat e.2).1 < 2 ^ 31) := by
  rw [extended, limited, List.any_map, List.any_eq_true]
  exact exists_congr fun e => and_congr_right fun _ => extended_iff (accLimit_range _ _)

theorem over_limited (l : List (Nat × Int)) : (limited sat l).any (·.2.2) = true ↔ ∃ e ∈ l, ¬ (-(2 : Int) ^ 39 ≤ e.2 ∧ e.2 < 2 ^ 39) := by
  rw [limited, List.any_map, List.any_eq_true]
  exact exists_congr fun e => and_congr_right fun _ => accLimit_over

theorem putAccs_eq {r : AluRes} {z : Nat} (hz : r.zn = some z) : s.putAccs m r =
    withFlags (forEach (limited (s.sr m 0) r.accs) (fun e s => (s.setAcc m e.1 e.2.1).orSr m 2 e.2.2) s) m z (extended (limited (s.sr m 0) r.accs)) := by
  rw [State.putAccs, hz]
  rfl

/-- The accumulators and the flags as the rules say, from the values that were limited. -/
theorem accsPut_of {l : List (Nat × Int)} {q : State} (hput : AccsWritten m (limited (s.sr m 0) l) s q) (hl : ∀ e ∈ l, e.1 < 4) {e : Nat × Int}
    (he : l.head? = some e) : AccsPut m l s (withFlags q m e.1 (extended (limited (s.sr m 0) l))) := by
  have hin : e ∈ l := List.mem_of_mem_head? he
  have hval : ∀ x ∈ l, q.acc m x.1 = (accLimit (s.sr m 0) x.2).1 := fun x hx => hput.value (x.1, accLimit (s.sr m 0) x.2) (mem_limited hx)
  refine ⟨hput.effect.withFlags (by simp), fun k => withFlags_md.trans (hput.data k), fun x hx => (acc_withFlags (hl x hx)).trans (hval x hx),
    fun n hn hne => ?_, ?_, ?_, fun x hx => ?_, fun i hi => ?_⟩
  · refine (acc_withFlags hn).trans (hput.other n hn fun x hx => ?_)
    obtain ⟨y, hy, rfl⟩ := List.mem_map.mp hx
    exact hne y hy
  · rw [sr_withFlags (by decide), if_neg (by decide), if_neg (by decide), if_neg (by decide), hput.av, Bool.or_eq_true, over_limited]
  · rw [sr_withFlags (by decide), if_neg (by decide), if_neg (by decide), if_pos rfl, extended_limited]
    refine exists_congr fun x => and_congr_right fun hx => ?_
    rw [acc_withFlags (hl x hx), hval x hx]
  · obtain rfl : e = x := Option.some.inj (he.symm.trans hx)
    rw [acc_withFlags (hl _ hin), sr_withFlags (by decide), sr_withFlags (by decide), if_neg (by decide), if_pos rfl, if_pos rfl]
    exact ⟨beq_iff_eq, decide_eq_true_iff⟩
  · simp only [List.mem_cons, List.not_mem_nil, or_false] at hi
    rw [sr_withFlags (by omega), if_neg (by omega), if_neg (by omega), if_neg (by omega), hput.sr i (by omega) (by omega)]

theorem accsPut {l : List (Nat × Int)} {r : AluRes} (hr : r.accs = l) (hl : ∀ e ∈ l, e.1 < 4) (hd : (l.map (·.1)).Nodup) {e : Nat × Int}
    (he : l.head? = some e) (hz : r.zn = some e.1) : AccsPut m l s (s.putAccs m r) := by
  have hrange : ∀ x ∈ limited (s.sr m 0) l, x.1 < 4 ∧ -(2 : Int) ^ 39 ≤ x.2.1 ∧ x.2.1 < 2 ^ 39 := fun x hx => by
    obtain ⟨y, hy, rfl⟩ := List.mem_map.mp hx
    exact ⟨hl y hy, accLimit_range _ _⟩
  have hdiff : ((limited (s.sr m 0) l).map (·.1)).Nodup := by
    rw [limited, List.map_map]
    exact hd
  rw [putAccs_eq hz, hr]
  exact accsPut_of (accsWritten hrange hdiff) hl he

end Sys2Proof.Machine
end

section
/-! The arithmetic format of a measurement DSP core: decoding and the operations (07_measurement_dsp.md R234 to R242). -/
namespace Sys2Proof.Machine
variable {s t u q : State} {m k : Fin 24} {w n r i aop d a b o : Nat} {as : List Nat} {l : List (Nat × Int)}
  {alu : State → Fin 24 → AFld → AluRes} {c : Instr}

/-! ### Decoding -/

/-- The fields of a word without moves. -/
def plainFields (d a b o : Nat) : AFld := ⟨0, d, a, b, decide (o = 1), 0, 0, false, 0, 0, 0, false, 0⟩

/-- A word without moves: the operation, D, A, B and OPT. -/
def plainWord (aop d a b o : Nat) : Nat := aop * 2 ^ 27 + d * 2 ^ 23 + a * 2 ^ 20 + b * 2 ^ 17 + o * 2 ^ 16

/-- Fields that fit (R234). -/
structure PlainFit (d a b o : Nat) : Prop where
  d : d < 4
  a : a < 8
  b : b < 8
  o : o < 2

theorem aFields_plain (hf : PlainFit d a b o) (hw : w = plainWord aop d a b o) : aFields w = plainFields d a b o := by
  obtain ⟨hd, ha, hb, ho⟩ := hf
  unfold plainWord at hw
  unfold aFields plainFields
  rw [bitOf_eq, bitOf_eq, bitOf_eq]
  unfold bitsOf
  congr 1
  · omega
  · omega
  · omega
  · omega
  · exact decide_eq_decide.mpr (by omega)
  · omega
  · omega
  · exact decide_eq_false (by omega)
  · omega
  · omega
  · omega
  · exact decide_eq_false (by omega)
  · omega

theorem plain_aop (hf : PlainFit d a b o) (hw : w = plainWord aop d a b o) : w / 2 ^ 27 = aop := by
  obtain ⟨hd, ha, hb, ho⟩ := hf
  unfold plainWord at hw
  omega

/-- A word without moves breaks no rule about moves. -/
theorem movesLegal_plain : movesLegal aop (plainFields d a b o) = true := by
  simp [movesLegal, plainFields]

theorem mdArith_at (h : MdspAt s m w) (ha : aop < 16) (hw : w / 2 ^ 27 = aop) : s.mdArith m [] aop alu = s.arithBody m [] aop alu (s.mdPc m) w := by
  have h31 : bitOf w 31 = false := by
    rw [bitOf_eq]
    exact decide_eq_false (by omega)
  have hop : bitsOf w 27 4 = aop := by unfold bitsOf; omega
  rw [State.mdArith, mdStep_at h (by rw [aopIs, h31, hop, beq_self_eq_true]; rfl)]

theorem exec_mdNop (h : MdspAt s m w) (hw : w / 2 ^ 27 = 0) : exec (.mdNop m []) s = .next (s.arithBody m [] 0 aluNop (s.mdPc m) w) := by
  have h31 : bitOf w 31 = false := by
    rw [bitOf_eq]
    exact decide_eq_false (by omega)
  have hop : bitsOf w 27 4 = 0 := by unfold bitsOf; omega
  show execMdNop m [] s = _
  rw [execMdNop, mdStep_at h (by rw [aopIs, h31, hop]; rfl), h31, if_neg Bool.false_ne_true]

theorem arithBody_illegal {pc : Nat} (h : aluLegal aop (aFields w) = false ∨ movesLegal aop (aFields w) = false) :
    s.arithBody m [] aop alu pc w = s.mdFault m 1 pc := by
  refine if_pos ?_
  rcases h with h | h
  · rw [h]
    rfl
  · rw [h, Bool.not_false, Bool.or_true]

/-- A form that R236 or R248 excludes faults. -/
theorem illegal_spec (hexec : exec c s = .next (s.arithBody m [] aop alu (s.mdPc m) w))
    (hl : aluLegal aop (aFields w) = false ∨ movesLegal aop (aFields w) = false) : After c s (MdspFaults m 1 s) :=
  ⟨_, hexec, by rw [arithBody_illegal hl]; exact mdFault_faults 1⟩

/-- What an operation leaves beside its moves. -/
def resultOf (s : State) (m : Fin 24) (r : AluRes) : State :=
  let n := match r.bx with | none => s.putAccs m r | some b => (s.putAccs m r).mset m 0x3D b
  match r.dreg with | none => n | some d => n.mset m d.1 d.2

theorem arithBody_plain (h : MdspAt s m w) (hf : PlainFit d a b o) (hw : w = plainWord aop d a b o) (hl : aluLegal aop (plainFields d a b o) = true) :
    s.arithBody m [] aop alu (s.mdPc m) w = ((resultOf s m (alu s m (plainFields d a b o))).mdCycles m 1).mdNext m (s.mdPc m) := by
  have htouch : s.mdTouch m (s.arithTouch m (plainFields d a b o) []) = (false, s) := mdTouch_clean (at_ue h) nofun
  rw [State.arithBody, aFields_plain hf hw]
  dsimp only
  rw [hl, movesLegal_plain, if_neg (by decide), htouch, if_neg Bool.false_ne_true]
  rfl

/-! ### The results -/

/-- A value as an accumulator holds it (R238). -/
def HeldAs (sat : Bool) (v r : Int) : Prop :=
  ((-(2 : Int) ^ 39 ≤ v ∧ v < 2 ^ 39) → r = v) ∧
  (¬ (-(2 : Int) ^ 39 ≤ v ∧ v < 2 ^ 39) → sat = true → r = if v < 0 then -(2 : Int) ^ 39 else 2 ^ 39 - 1) ∧
  (¬ (-(2 : Int) ^ 39 ≤ v ∧ v < 2 ^ 39) → sat = false → r = signedOf 40 (unsignedOf 40 v))

/-- An operation that writes accumulators completes, with their flags. -/
def AccsDone (s : State) (m : Fin 24) (l : List (Nat × Int)) (as : List Nat) (t : State) : Prop :=
  MdspDone m ((s.mdPc m + 1) % 32768) 1 (R.MDSP_REG m 0x3C :: accRegs m ++ as) s t ∧ t.mdsp = s.mdsp ∧
  (∀ e ∈ l, HeldAs (s.sr m 0) e.2 (t.acc m e.1)) ∧ (∀ n, n < 4 → (∀ e ∈ l, e.1 ≠ n) → t.acc m n = s.acc m n) ∧
  (t.sr m 2 = true ↔ s.sr m 2 = true ∨ ∃ e ∈ l, ¬ (-(2 : Int) ^ 39 ≤ e.2 ∧ e.2 < 2 ^ 39)) ∧
  (t.sr m 8 = true ↔ ∃ e ∈ l, ¬ (-(2 : Int) ^ 31 ≤ t.acc m e.1 ∧ t.acc m e.1 < 2 ^ 31)) ∧
  (∀ e, l.head? = some e → (t.sr m 9 = true ↔ t.acc m e.1 = 0) ∧ (t.sr m 10 = true ↔ t.acc m e.1 < 0)) ∧
  ∀ i, i ∈ [0, 1, 3, 4, 5] → t.sr m i = s.sr m i

theorem mdsp_of_md (h : ∀ k, t.md k = s.md k) : t.mdsp = s.mdsp := Vector.ext fun i hi => h ⟨i, hi⟩

theorem mdsp_of_done {next : Nat} (h : MdspDone m next n as s t) (hm : t.md m = s.md m) : t.mdsp = s.mdsp := by
  obtain ⟨-, hother, -⟩ := h
  refine mdsp_of_md fun k => ?_
  by_cases hk : k = m
  · rw [hk, hm]
  · exact hother k hk

/-- The accumulators and flags of a result stand when the core has gone on. -/
theorem accsDone_of (h : MdspAt s m w) (hl : ∀ e ∈ l, e.1 < 4) (hput : AccsPut m l s u) (he : MdEffect m (R.MDSP_REG m 0x3C :: accRegs m ++ as) s q)
    (ha : ∀ a ∈ as, EffReg m a) (hmd : q.md m = u.md m) (hreg : ∀ r, 0x30 ≤ r → q.mreg m r = u.mreg m r) :
    AccsDone s m l as ((q.mdCycles m 1).mdNext m (s.mdPc m)) := by
  have heff : ∀ a ∈ R.MDSP_REG m 0x3C :: accRegs m ++ as, EffReg m a := fun a hin => by
    rw [List.mem_append, List.mem_cons] at hin
    rcases hin with (rfl | hin) | hin
    · exact effReg_reg m _
    · obtain ⟨i, -, rfl⟩ := List.mem_map.mp hin
      exact effReg_reg m _
    · exact ha a hin
  obtain ⟨⟨hdone, hdata⟩, hmove⟩ := regs_done (n := 1) h he heff (hmd.trans (hput.data m))
  generalize (q.mdCycles m 1).mdNext m (s.mdPc m) = t at hdone hdata hmove
  have hacc : ∀ n, n < 4 → t.acc m n = u.acc m n := fun n hn => by
    rw [acc_congr (fun r _ hr => hmove.mreg hr) hn, acc_eq, acc_eq, hreg _ (by omega), hreg _ (by omega), hreg _ (by omega)]
  have hsr : ∀ i, t.sr m i = u.sr m i := fun i => by rw [hmove.sr, State.sr, hreg _ (by decide), State.sr]
  refine ⟨hdone, mdsp_of_done hdone hdata, fun e hin => ?_, fun n hn hne => (hacc n hn).trans (hput.other n hn hne), by rw [hsr, hput.av], ?_, fun e hin => ?_,
    fun i hi => (hsr i).trans (hput.sr i hi)⟩
  · rw [hacc _ (hl e hin), hput.value e hin]
    exact accLimit_held
  · rw [hsr, hput.ae]
    exact exists_congr fun e => and_congr_right fun hin => by rw [hacc _ (hl e hin)]
  · rw [hsr, hsr, hacc _ (hl e (List.mem_of_mem_head? hin))]
    exact hput.sign e hin

/-- The accumulators of a result: those of a pair, one, or all four. -/
structure AccsList (l : List (Nat × Int)) (e : Nat × Int) : Prop where
  lt : ∀ e ∈ l, e.1 < 4
  diff : (l.map (·.1)).Nodup
  first : l.head? = some e

theorem accsList_pair {x y : Int} (hd : d < 2) : AccsList [(2 * d, x), (2 * d + 1, y)] (2 * d, x) := by
  refine ⟨?_, by simp, rfl⟩
  simp only [List.forall_mem_cons, List.not_mem_nil]
  exact ⟨by omega, by omega, nofun⟩

theorem accsList_one {x : Int} (hd : d < 4) : AccsList [(d, x)] (d, x) := ⟨List.forall_mem_singleton.mpr hd, by simp, rfl⟩

theorem accsList_four {x y z v : Int} : AccsList [(0, x), (1, y), (2, z), (3, v)] (0, x) := ⟨by simp, by simp, rfl⟩

section Operation
variable (h : MdspAt s m w) (hf : PlainFit d a b o)
include h hf

theorem plain_exec (hop : aop < 16) (hw : w = plainWord aop d a b o) (hc : exec c s = .next (s.mdArith m [] aop alu)) (hl : aluLegal aop (plainFields d a b o) = true) :
    exec c s = .next (((resultOf s m (alu s m (plainFields d a b o))).mdCycles m 1).mdNext m (s.mdPc m)) := by
  rw [hc, mdArith_at h hop (plain_aop hf hw), arithBody_plain h hf hw hl]

/-- An operation with a result in accumulators only. -/
theorem accs_spec {e : Nat × Int} (hop : aop < 16) (hw : w = plainWord aop d a b o) (hc : exec c s = .next (s.mdArith m [] aop alu))
    (hl : aluLegal aop (plainFields d a b o) = true) (hlist : AccsList l e) (hr : alu s m (plainFields d a b o) = ⟨l, none, none, some e.1⟩) :
    After c s (AccsDone s m l []) := by
  have hexec := plain_exec h hf hop hw hc hl
  rw [hr] at hexec
  have hput : AccsPut m l s (s.putAccs m ⟨l, none, none, some e.1⟩) := accsPut rfl hlist.lt hlist.diff hlist.first rfl
  refine ⟨_, hexec, accsDone_of h hlist.lt hput ?_ (by simp) rfl fun r _ => rfl⟩
  rw [List.append_nil]
  exact hput.effect

/-- An operation with a result in accumulators and in a D register. -/
theorem accs_dreg_spec {e : Nat × Int} {x : Nat} (hop : aop < 16) (hw : w = plainWord aop d a b o) (hc : exec c s = .next (s.mdArith m [] aop alu))
    (hl : aluLegal aop (plainFields d a b o) = true) (hlist : AccsList l e) (hr : alu s m (plainFields d a b o) = ⟨l, some (r, x), none, some e.1⟩)
    (hx : x < 65536) (hreg : r < 16) : After c s (fun t => t.mreg m r = x ∧ AccsDone s m l [R.MDSP_REG m r] t) := by
  have hexec := plain_exec h hf hop hw hc hl
  rw [hr] at hexec
  have hput : AccsPut m l s (s.putAccs m ⟨l, some (r, x), none, some e.1⟩) := accsPut rfl hlist.lt hlist.diff hlist.first rfl
  have hres : resultOf s m ⟨l, some (r, x), none, some e.1⟩ = (s.putAccs m ⟨l, some (r, x), none, some e.1⟩).mset m r x := rfl
  rw [hres] at hexec
  generalize s.putAccs m ⟨l, some (r, x), none, some e.1⟩ = u at hexec hput
  have heff : MdEffect m (R.MDSP_REG m 0x3C :: accRegs m ++ [R.MDSP_REG m r]) s (u.mset m r x) :=
    (hput.effect.mono fun a ha => List.mem_append_left _ ha).mset (by simp)
  have hdata : ((u.mset m r x).md m).reps = [] := by rw [mset_md, hput.data, at_reps h]
  refine ⟨_, hexec, ?_, accsDone_of h hlist.lt hput heff (by simp [effReg_reg]) mset_md fun i hi => mreg_mset_other (by omega)⟩
  rw [(moved_mdNext hdata _).mreg (by omega), mreg_mset_same, Nat.mod_eq_of_lt hx]

/-- An operation with a result in one register. -/
theorem reg_spec {x : Nat} (hop : aop < 16) (hw : w = plainWord aop d a b o) (hc : exec c s = .next (s.mdArith m [] aop alu))
    (hl : aluLegal aop (plainFields d a b o) = true) (hr : resultOf s m (alu s m (plainFields d a b o)) = s.mset m r x) (hx : x < 65536) (hne : r ≠ 0x3E) :
    After c s (fun t => MdspDone m ((s.mdPc m + 1) % 32768) 1 [R.MDSP_REG m r] s t ∧ t.mdsp = s.mdsp ∧ t.mreg m r = x) := by
  have hexec := plain_exec h hf hop hw hc hl
  rw [hr] at hexec
  obtain ⟨⟨hdone, hmd⟩, hreg⟩ := mset_done (n := 1) h x hne
  exact ⟨_, hexec, hdone, mdsp_of_done hdone hmd, hreg.trans (Nat.mod_eq_of_lt hx)⟩

end Operation

theorem nop_spec (h : MdspAt s m w) (hw : w = 0) : After (.mdNop m []) s (fun t => MdspDone m ((s.mdPc m + 1) % 32768) 1 [] s t ∧ t.mdsp = s.mdsp) := by
  have hexec := exec_mdNop h (by omega)
  rw [arithBody_plain h (d := 0) (a := 0) (b := 0) (o := 0) ⟨by decide, by decide, by decide, by decide⟩ (by rw [hw]; rfl) (by decide)] at hexec
  obtain ⟨hdone, hmd⟩ := seq_alone h
  exact ⟨_, hexec, hdone, mdsp_of_done hdone hmd⟩

end Sys2Proof.Machine
end

section
/-! The parallel moves of a measurement DSP core (07_measurement_dsp.md R241, R243 to R248). -/
namespace Sys2Proof.Machine
variable {s t u q : State} {m k : Fin 24} {w n r i j mode v a : Nat} {as : List Nat} {f : AFld} {b : Bool}

/-! ### Pointers -/

theorem reverse16_bound (v n : Nat) (hn : n ≤ 16) :
    (List.range n).foldl (fun acc i => acc + b2n (bitOf v i) * 2 ^ (15 - i)) 0 + 2 ^ (16 - n) ≤ 2 ^ 16 := by
  induction n with
  | zero => rw [List.range_zero, List.foldl_nil, Nat.zero_add, Nat.sub_zero]
  | succ n ih =>
    have hb : b2n (bitOf v n) * 2 ^ (15 - n) ≤ 2 ^ (15 - n) := by
      calc b2n (bitOf v n) * 2 ^ (15 - n) ≤ 1 * 2 ^ (15 - n) := Nat.mul_le_mul_right _ (b2n_le _)
        _ = 2 ^ (15 - n) := Nat.one_mul _
    have hpow : 2 ^ (16 - n) = 2 ^ (15 - n) + 2 ^ (15 - n) := by rw [show 16 - n = (15 - n) + 1 by omega, pow_succ]; omega
    have := ih (by omega)
    rw [List.range_succ, List.foldl_append, List.foldl_cons, List.foldl_nil, show 16 - (n + 1) = 15 - n by omega]
    generalize (2 : Nat) ^ 16 = z at this ⊢
    omega

theorem reverse16_lt (v : Nat) : reverse16 v < 65536 := Nat.lt_of_succ_le (reverse16_bound v 16 le_rfl)

/-- The step of a pointer, and whether it found its pointer outside its buffer (R243 to R245). -/
def ptrNext (s : State) (m : Fin 24) (n mode : Nat) : Nat × Bool :=
  if mode = 3 then (reverseAdd (s.mreg m (0x10 + n)) (s.mreg m (0x18 + n)), false)
  else pointerStep (s.mreg m (0x10 + n)) (s.mreg m (0x20 + n)) (s.mreg m (0x28 + n)) (if mode = 1 then 1 else signedOf 16 (s.mreg m (0x18 + n)))

theorem pointerStep_lt (p b l : Nat) (d : Int) : (pointerStep p b l d).1 < 65536 := by
  unfold pointerStep
  split
  · exact unsignedOf_lt 16 _
  · split
    · exact Nat.mod_lt _ (by decide)
    · exact unsignedOf_lt 16 _

theorem ptrNext_lt : (ptrNext s m n mode).1 < 65536 := by
  unfold ptrNext
  split
  · exact reverse16_lt _
  · exact pointerStep_lt _ _ _ _

theorem movePtr_eq : u.movePtr m n mode s = (u.mset m (0x10 + n) (ptrNext s m n mode).1).orSr m 4 (ptrNext s m n mode).2 := by
  rw [State.movePtr, ptrNext]
  split <;> rfl

theorem natCast_unsigned (x : Int) : (unsignedOf 16 x : Int) = x % 65536 := by
  unfold unsignedOf
  omega

/-- A pointer after a move, with its flag, as R244 and R245 say. -/
def Stepped (s : State) (m : Fin 24) (n mode : Nat) (t : State) : Prop :=
  let P := s.mreg m (0x10 + n)
  let M := s.mreg m (0x18 + n)
  let B := s.mreg m (0x20 + n)
  let L := s.mreg m (0x28 + n)
  let step : Int := if mode = 1 then 1 else signedOf 16 M
  let inside := B ≤ P ∧ P < B + L
  (mode = 3 → t.mreg m (0x10 + n) = reverse16 ((reverse16 P + reverse16 M) % 65536)) ∧
  (mode < 3 → L ≠ 0 → inside → ((t.mreg m (0x10 + n) : Int) = ((B : Int) + ((P : Int) - B + step) % L) % 65536)) ∧
  (mode < 3 → (L = 0 ∨ ¬ inside) → (t.mreg m (0x10 + n) : Int) = ((P : Int) + step) % 65536) ∧
  (t.sr m 4 = true ↔ s.sr m 4 = true ∨ mode < 3 ∧ L ≠ 0 ∧ ¬ inside)

theorem pointerStep_cases (p b l : Nat) (d : Int) :
    (l ≠ 0 → (b ≤ p ∧ p < b + l) → ((pointerStep p b l d).1 : Int) = ((b : Int) + ((p : Int) - b + d) % l) % 65536) ∧
    ((l = 0 ∨ ¬ (b ≤ p ∧ p < b + l)) → ((pointerStep p b l d).1 : Int) = ((p : Int) + d) % 65536) ∧
    ((pointerStep p b l d).2 = true ↔ l ≠ 0 ∧ ¬ (b ≤ p ∧ p < b + l)) := by
  unfold pointerStep
  by_cases hl : l = 0
  · rw [if_pos hl]
    exact ⟨fun h => absurd hl h, fun _ => natCast_unsigned _, iff_of_false Bool.false_ne_true fun h => h.1 hl⟩
  · rw [if_neg hl]
    by_cases hin : b ≤ p ∧ p < b + l
    · have hpos : 0 ≤ ((p : Int) - b + d) % (l : Int) := Int.emod_nonneg _ (by omega)
      rw [if_pos (by omega)]
      refine ⟨fun _ _ => ?_, fun h => absurd (h.resolve_left hl) (not_not_intro hin), iff_of_false Bool.false_ne_true fun h => h.2 hin⟩
      generalize ((p : Int) - b + d) % (l : Int) = z at hpos
      dsimp only
      omega
    · rw [if_neg (by omega)]
      exact ⟨fun _ h => absurd h hin, fun _ => natCast_unsigned _, iff_of_true rfl ⟨hl, hin⟩⟩

theorem stepped_of (hm : mode < 4) (hv : t.mreg m (0x10 + n) = (ptrNext s m n mode).1) (hs : t.sr m 4 = (s.sr m 4 || (ptrNext s m n mode).2)) :
    Stepped s m n mode t := by
  unfold ptrNext at hv hs
  by_cases h3 : mode = 3
  · rw [if_pos h3] at hv hs
    refine ⟨fun _ => hv, fun h => absurd h (by omega), fun h => absurd h (by omega), ?_⟩
    rw [hs, Bool.or_false]
    exact ⟨.inl, fun h => h.resolve_right (by omega)⟩
  · rw [if_neg h3] at hv hs
    obtain ⟨hin, hout, hflag⟩ := pointerStep_cases (s.mreg m (0x10 + n)) (s.mreg m (0x20 + n)) (s.mreg m (0x28 + n))
      (if mode = 1 then 1 else signedOf 16 (s.mreg m (0x18 + n)))
    have hlt : mode < 3 := by omega
    refine ⟨fun h => absurd h h3, fun _ hl hi => by rw [hv]; exact hin hl hi, fun _ ho => by rw [hv]; exact hout ho, ?_⟩
    rw [hs, Bool.or_eq_true, hflag]
    exact or_congr Iff.rfl ⟨fun h => ⟨hlt, h⟩, fun h => h.2⟩

section Pointer
variable (hn : n < 8)
include hn

theorem movePtr_value : (u.movePtr m n mode s).mreg m (0x10 + n) = (ptrNext s m n mode).1 := by
  rw [movePtr_eq, orSr_mreg _ (by omega), mreg_mset_same, Nat.mod_eq_of_lt ptrNext_lt]

theorem movePtr_sr (hi : i < 16) : (u.movePtr m n mode s).sr m i = if i = 4 then (u.sr m i || (ptrNext s m n mode).2) else u.sr m i := by
  have hsr : ∀ x, (u.mset m (0x10 + n) x).sr m i = u.sr m i := fun x => by rw [State.sr, mreg_mset_other (by omega), State.sr]
  rw [movePtr_eq, sr_orSr _ hi, hsr]

omit hn in
theorem movePtr_mreg (h1 : r ≠ 0x10 + n) (h2 : r ≠ 0x3C) : (u.movePtr m n mode s).mreg m r = u.mreg m r := by
  rw [movePtr_eq, orSr_mreg _ h2, mreg_mset_other h1]

omit hn in
theorem movePtr_md : (u.movePtr m n mode s).md k = u.md k := by rw [movePtr_eq, orSr_md, mset_md]

omit hn in
theorem MdEffect.movePtr (h : MdEffect m as q u) (ha : R.MDSP_REG m (0x10 + n) ∈ as) (hs : R.MDSP_REG m 0x3C ∈ as) : MdEffect m as q (u.movePtr m n mode s) := by
  rw [movePtr_eq]
  exact (h.mset ha).orSr _ hs

end Pointer

/-! ### An instruction that moves only -/

/-- The moves of an instruction without an operation. -/
def movesOf (s : State) (m : Fin 24) (f : AFld) : State :=
  ((s.moveXY m 0 f.xp f.xm f.xs f.xr s).moveXY m 1 (4 + f.yp) f.ym f.ys f.yr s).moveP m f.pmv s

theorem arithTouch_clean : ∀ e ∈ s.arithTouch m f [], e.2.2 = .clean := by
  intro e he
  rw [State.arithTouch, List.mem_append, List.mem_append] at he
  rcases he with (he | he) | he
  · split at he
    · exact absurd he List.not_mem_nil
    · rw [List.mem_singleton.mp he]
      rfl
  · split at he
    · exact absurd he List.not_mem_nil
    · rw [List.mem_singleton.mp he]
      rfl
  · split at he
    · exact absurd he List.not_mem_nil
    · rw [List.mem_singleton.mp he]
      rfl

theorem exec_moves (h : MdspAt s m w) (hw : w / 2 ^ 27 = 0) (hf : aFields w = f) (hl : aluLegal 0 f = true) (hm : movesLegal 0 f = true) :
    exec (.mdNop m []) s = .next (((movesOf s m f).mdCycles m (if f.pmv ≠ 0 then 2 else 1)).mdNext m (s.mdPc m)) := by
  rw [exec_mdNop h hw, State.arithBody, hf]
  dsimp only
  rw [hl, hm, if_neg (by decide), mdTouch_clean (at_ue h) arithTouch_clean, if_neg Bool.false_ne_true, at_cached h]
  simp only [Bool.not_false, and_true]
  rfl

/-- The fields of a word with an X move only, a Y move only, a P move only. -/
def xFields (mode n r : Nat) (store : Bool) : AFld := ⟨0, 0, 0, 0, false, mode, n, store, r, 0, 0, false, 0⟩
def yFields (mode n r : Nat) (store : Bool) : AFld := ⟨0, 0, 0, 0, false, 0, 0, false, 0, mode, n, store, r⟩
def pFields (mode : Nat) : AFld := ⟨mode, 0, 0, 0, false, 0, 0, false, 0, 0, 0, false, 0⟩

section Words
variable (hm : mode < 4)
include hm

theorem aFields_x (hn : n < 4) (hr : r < 8) (st : Bool) (hw : w = mode * 2 ^ 14 + n * 2 ^ 12 + b2n st * 2 ^ 11 + r * 2 ^ 8) : aFields w = xFields mode n r st := by
  have hb := b2n_le st
  have hst : st = decide (b2n st = 1) := by cases st <;> rfl
  unfold aFields xFields
  rw [bitOf_eq, bitOf_eq, bitOf_eq]
  unfold bitsOf
  congr 1
  · omega
  · omega
  · omega
  · omega
  · exact decide_eq_false (by omega)
  · omega
  · omega
  · exact (decide_eq_decide.mpr (by omega)).trans hst.symm
  · omega
  · omega
  · omega
  · exact decide_eq_false (by omega)
  · omega

theorem aFields_y (hn : n < 4) (hr : r < 8) (st : Bool) (hw : w = mode * 2 ^ 6 + n * 2 ^ 4 + b2n st * 2 ^ 3 + r) : aFields w = yFields mode n r st := by
  have hb := b2n_le st
  have hst : st = decide (b2n st = 1) := by cases st <;> rfl
  unfold aFields yFields
  rw [bitOf_eq, bitOf_eq, bitOf_eq]
  unfold bitsOf
  congr 1
  · omega
  · omega
  · omega
  · omega
  · exact decide_eq_false (by omega)
  · omega
  · omega
  · exact decide_eq_false (by omega)
  · omega
  · omega
  · omega
  · exact (decide_eq_decide.mpr (by omega)).trans hst.symm
  · omega

theorem aFields_p (hw : w = mode * 2 ^ 25) : aFields w = pFields mode := by
  unfold aFields pFields
  rw [bitOf_eq, bitOf_eq, bitOf_eq]
  unfold bitsOf
  congr 1
  · omega
  · omega
  · omega
  · omega
  · exact decide_eq_false (by omega)
  · omega
  · omega
  · exact decide_eq_false (by omega)
  · omega
  · omega
  · omega
  · exact decide_eq_false (by omega)
  · omega

end Words

section Legal
variable (h0 : 0 < mode)
include h0

theorem legal_x (st : Bool) : aluLegal 0 (xFields mode n r st) = true ∧ movesLegal 0 (xFields mode n r st) = true := by
  have : mode ≠ 0 := by omega
  exact ⟨rfl, by simp [movesLegal, xFields, this]⟩

theorem legal_y (st : Bool) : aluLegal 0 (yFields mode n r st) = true ∧ movesLegal 0 (yFields mode n r st) = true := by
  have : mode ≠ 0 := by omega
  exact ⟨rfl, by simp [movesLegal, yFields, this]⟩

omit h0 in
theorem legal_p : aluLegal 0 (pFields mode) = true ∧ movesLegal 0 (pFields mode) = true := ⟨rfl, by simp [movesLegal, pFields]⟩

end Legal

theorem moveXY_none {st : Bool} {k : Nat} : u.moveXY m k n 0 st r s = u := if_pos rfl
theorem moveP_none : u.moveP m 0 s = u := if_pos rfl

theorem movesOf_x (st : Bool) : movesOf s m (xFields mode n r st) = s.moveXY m 0 n mode st r s := by
  show ((s.moveXY m 0 n mode st r s).moveXY m 1 (4 + 0) 0 false 0 s).moveP m 0 s = _
  rw [moveP_none, moveXY_none]

theorem movesOf_y (st : Bool) : movesOf s m (yFields mode n r st) = s.moveXY m 1 (4 + n) mode st r s := by
  show ((s.moveXY m 0 0 0 false 0 s).moveXY m 1 (4 + n) mode st r s).moveP m 0 s = _
  rw [moveP_none, moveXY_none]

theorem movesOf_p : movesOf s m (pFields mode) = s.moveP m mode s := by
  show ((s.moveXY m 0 0 0 false 0 s).moveXY m 1 (4 + 0) 0 false 0 s).moveP m mode s = _
  rw [moveXY_none, moveXY_none]

/-- A word with one X move. -/
theorem exec_moveX (h : MdspAt s m w) (h0 : 0 < mode) (hm : mode < 4) (hr : r < 8) (st : Bool) (hn : n < 4)
    (hw : w = mode * 2 ^ 14 + n * 2 ^ 12 + b2n st * 2 ^ 11 + r * 2 ^ 8) :
    exec (.mdNop m []) s = .next (((s.moveXY m 0 n mode st r s).mdCycles m 1).mdNext m (s.mdPc m)) := by
  have hb := b2n_le st
  have hpmv : ¬ (xFields mode n r st).pmv ≠ 0 := fun h => h rfl
  rw [exec_moves h (by omega) (aFields_x hm hn hr st hw) (legal_x h0 st).1 (legal_x h0 st).2, if_neg hpmv, movesOf_x]

/-- A word with one Y move. -/
theorem exec_moveY (h : MdspAt s m w) (h0 : 0 < mode) (hm : mode < 4) (hr : r < 8) (st : Bool) (hn : 4 ≤ n) (hn' : n < 8)
    (hw : w = mode * 2 ^ 6 + (n - 4) * 2 ^ 4 + b2n st * 2 ^ 3 + r) :
    exec (.mdNop m []) s = .next (((s.moveXY m 1 n mode st r s).mdCycles m 1).mdNext m (s.mdPc m)) := by
  have hb := b2n_le st
  have hpmv : ¬ (yFields mode (n - 4) r st).pmv ≠ 0 := fun h => h rfl
  rw [exec_moves h (by omega) (aFields_y hm (by omega) hr st hw) (legal_y h0 st).1 (legal_y h0 st).2, if_neg hpmv, movesOf_y, show 4 + (n - 4) = n by omega]

/-! ### Loads -/

theorem loadC_mreg {v : Nat} (hv : v < 2 ^ 32) : (s.loadC m r v).mreg m (2 * r) = v % 65536 ∧ (s.loadC m r v).mreg m (2 * r + 1) = v / 65536 := by
  rw [State.loadC, mreg_mset_other (by omega), mreg_mset_same, mreg_mset_same]
  omega

theorem loadC_sr (hr : r < 8) : (s.loadC m r v).sr m i = s.sr m i := by
  rw [State.sr, State.loadC, mreg_mset_other (by omega), mreg_mset_other (by omega), State.sr]

theorem loadC_md : (s.loadC m r v).md k = s.md k := by rw [State.loadC, mset_md, mset_md]

theorem MdEffect.loadC (h : MdEffect m as s u) (h1 : R.MDSP_REG m (2 * r) ∈ as) (h2 : R.MDSP_REG m (2 * r + 1) ∈ as) : MdEffect m as s (u.loadC m r v) :=
  (h.mset h1).mset h2

/-- A load moves a word into a complex register and steps its pointer. -/
theorem load_done (h : MdspAt s m w) (hm : mode < 4) (hn : n < 8) (hr : r < 8) (hv : v < 2 ^ 32) {cyc : Nat} :
    let t := (((s.loadC m r v).movePtr m n mode s).mdCycles m cyc).mdNext m (s.mdPc m)
    MdspDone m ((s.mdPc m + 1) % 32768) cyc [R.MDSP_REG m (2 * r), R.MDSP_REG m (2 * r + 1), R.MDSP_REG m (0x10 + n), R.MDSP_REG m 0x3C] s t ∧
    t.mdsp = s.mdsp ∧ t.mreg m (2 * r) = v % 65536 ∧ t.mreg m (2 * r + 1) = v / 65536 ∧ Stepped s m n mode t := by
  intro t
  obtain ⟨hlo, hhi⟩ := loadC_mreg (s := s) (m := m) (r := r) hv
  have heff : MdEffect m [R.MDSP_REG m (2 * r), R.MDSP_REG m (2 * r + 1), R.MDSP_REG m (0x10 + n), R.MDSP_REG m 0x3C] s
      ((s.loadC m r v).movePtr m n mode s) := ((MdEffect.refl s).loadC (by simp) (by simp)).movePtr (by simp) (by simp)
  obtain ⟨⟨hdone, hmd⟩, hmove⟩ := regs_done (n := cyc) h heff (by simp [effReg_reg]) (movePtr_md.trans loadC_md)
  refine ⟨hdone, mdsp_of_done hdone hmd, ?_, ?_, stepped_of hm ?_ ?_⟩
  · rw [hmove.mreg (by omega), movePtr_mreg (by omega) (by omega), hlo]
  · rw [hmove.mreg (by omega), movePtr_mreg (by omega) (by omega), hhi]
  · rw [hmove.mreg (by omega), movePtr_value hn]
  · rw [hmove.sr, movePtr_sr hn (by decide), if_pos rfl, loadC_sr hr]

theorem load_spec (h : MdspAt s m w) (h0 : 0 < mode) (hm : mode < 4) (hn : n < 8) (hr : r < 8) {k : Nat}
    (hexec : exec (.mdNop m []) s = .next (((s.moveXY m k n mode false r s).mdCycles m 1).mdNext m (s.mdPc m))) :
    After (.mdNop m []) s (fun t => MdspDone m ((s.mdPc m + 1) % 32768) 1 [R.MDSP_REG m (2 * r), R.MDSP_REG m (2 * r + 1), R.MDSP_REG m (0x10 + n),
      R.MDSP_REG m 0x3C] s t ∧ t.mdsp = s.mdsp ∧ (s.md m).read k (s.mreg m (0x10 + n)) = (s.md m).read k (s.mreg m (0x10 + n)) ∧
      t.mreg m (2 * r) = (s.md m).read k (s.mreg m (0x10 + n)) % 65536 ∧ t.mreg m (2 * r + 1) = (s.md m).read k (s.mreg m (0x10 + n)) / 65536 ∧
      Stepped s m n mode t) := by
  have hmove : s.moveXY m k n mode false r s = (s.loadC m r ((s.md m).read k (s.mreg m (0x10 + n)))).movePtr m n mode s := by
    rw [State.moveXY, if_neg (by omega)]
    rfl
  obtain ⟨hdone, hsame, hlo, hhi, hstep⟩ := load_done h hm hn hr (mdMem_lt (s.md m) k (s.mreg m (0x10 + n))) (cyc := 1)
  rw [hmove] at hexec
  exact ⟨_, hexec, hdone, hsame, rfl, hlo, hhi, hstep⟩

theorem pmove_spec (h : MdspAt s m w) (h0 : 0 < mode) (hm : mode < 4) (hw : w = mode * 2 ^ 25) :
    After (.mdNop m []) s (fun t => Stepped s m 7 mode t ∧
      MdspDone m ((s.mdPc m + 1) % 32768) 2 [R.MDSP_REG m 14, R.MDSP_REG m 15, R.MDSP_REG m 0x17, R.MDSP_REG m 0x3C] s t ∧
      t.mreg m 14 + 65536 * t.mreg m 15 = (s.md m).read 2 (s.mreg m 0x17 % 32768)) := by
  have hexec := exec_moves h (by omega) (aFields_p hm hw) legal_p.1 legal_p.2
  have hmoves : movesOf s m (pFields mode) = (s.loadC m 7 ((s.md m).read 2 (s.mreg m 0x17 % 32768))).movePtr m 7 mode s :=
    movesOf_p.trans (if_neg (by omega))
  rw [hmoves, if_pos (show (pFields mode).pmv ≠ 0 by show mode ≠ 0; omega)] at hexec
  obtain ⟨hdone, -, hlo, hhi, hstep⟩ := load_done h hm (n := 7) (r := 7) (by decide) (by decide) (mdMem_lt (s.md m) 2 (s.mreg m 0x17 % 32768)) (cyc := 2)
  refine ⟨_, hexec, hstep, hdone, ?_⟩
  generalize (s.md m).read 2 (s.mreg m 0x17 % 32768) = v at hlo hhi ⊢
  exact (congrArg₂ (fun x y => x + 65536 * y) hlo hhi).trans (by omega)

end Sys2Proof.Machine
end

section
/-! Stores of a measurement DSP core (07_measurement_dsp.md R241, R242, R246). -/
namespace Sys2Proof.Machine
variable {s t u q : State} {m k : Fin 24} {w n r i j mode a : Nat} {as : List Nat} {b : Bool} {v : Int}

/-! ### The word a store writes -/

/-- The part of an accumulator that a store takes. -/
def storedPart (v : Int) : Int := max (-32768) (min 32767 ((v + 2 ^ 15) / 2 ^ 16))

theorem storePart_value : (storePart v).1 = storedPart v := by
  unfold storePart storedPart
  dsimp only
  split
  · dsimp only; omega
  · split
    · dsimp only; omega
    · dsimp only; omega

theorem storePart_flag : (storePart v).2 = true ↔ storedPart v ≠ (v + 2 ^ 15) / 2 ^ 16 := by
  unfold storePart storedPart
  dsimp only
  split
  · exact iff_of_true rfl (by omega)
  · split
    · exact iff_of_true rfl (by omega)
    · exact iff_of_false Bool.false_ne_true (by omega)

theorem storeWord_reg (h : r < 6) : s.storeWord m r = (s.mreg m (2 * r) + 65536 * s.mreg m (2 * r + 1), false, []) := if_pos h

/-- The two halves that a store of accumulators takes. -/
def storedHalf (s : State) (m : Fin 24) (r i : Nat) : Nat := unsignedOf 16 (storedPart (s.acc m (2 * (r - 6) + i)))

theorem storedHalf_lt : storedHalf s m r i < 65536 := unsignedOf_lt 16 _

theorem storeWord_acc (h : 6 ≤ r) : s.storeWord m r = (storedHalf s m r 0 + 65536 * storedHalf s m r 1,
    (storePart (s.acc m (2 * (r - 6)))).2 || (storePart (s.acc m (2 * (r - 6) + 1))).2, [rsb (storedHalf s m r 0), rsb (storedHalf s m r 1)]) := by
  unfold storedHalf
  rw [State.storeWord, if_neg (by omega)]
  dsimp only
  rw [storePart_value, storePart_value]
  rfl

theorem storeWord_lt : (s.storeWord m r).1 < 2 ^ 32 := by
  by_cases h : r < 6
  · have h0 := mreg_lt (s := s) m (2 * r)
    have h1 := mreg_lt (s := s) m (2 * r + 1)
    rw [storeWord_reg h]
    dsimp only
    omega
  · have h0 := storedHalf_lt (s := s) (m := m) (r := r) (i := 0)
    have h1 := storedHalf_lt (s := s) (m := m) (r := r) (i := 1)
    rw [storeWord_acc (by omega)]
    dsimp only
    omega

theorem foldl_min_le (l : List Nat) (x : Nat) : l.foldl min x ≤ x := by
  induction l generalizing x with
  | nil => exact le_refl _
  | cons y l ih => exact (ih (min x y)).trans (Nat.min_le_left _ _)

/-! ### The move -/

/-- A store: the word, the limit flag and BX, before its pointer steps. -/
def storedState (s : State) (m : Fin 24) (k n r : Nat) : State :=
  let u := (s.modMd m (fun c => c.write k (s.mreg m (0x10 + n)) (s.storeWord m r).1)).orSr m 3 (s.storeWord m r).2.1
  if s.sr m 1 then u.mset m 0x3D ((s.storeWord m r).2.2.foldl min (u.mreg m 0x3D)) else u

theorem moveXY_store {k : Nat} (h0 : 0 < mode) : s.moveXY m k n mode true r s = (storedState s m k n r).movePtr m n mode s := by
  rw [State.moveXY, if_neg (by omega)]
  rfl

/-- What a store leaves before its pointer steps. -/
structure StoreFacts (s : State) (m : Fin 24) (k n r : Nat) (u : State) : Prop where
  effect : MdEffect m [R.MDSP_REG m 0x3D, R.MDSP_REG m 0x3C] s u
  data : u.md m = (s.md m).write k (s.mreg m (0x10 + n)) (s.storeWord m r).1
  bx : u.mreg m 0x3D = if s.sr m 1 then (s.storeWord m r).2.2.foldl min (s.mreg m 0x3D) else s.mreg m 0x3D
  sr : ∀ i, i < 16 → u.sr m i = if i = 3 then (s.sr m i || (s.storeWord m r).2.1) else s.sr m i

theorem storeFacts {k : Nat} : StoreFacts s m k n r (storedState s m k n r) := by
  rw [storedState]
  have heff : MdEffect m [R.MDSP_REG m 0x3D, R.MDSP_REG m 0x3C] s
      ((s.modMd m (fun c => c.write k (s.mreg m (0x10 + n)) (s.storeWord m r).1)).orSr m 3 (s.storeWord m r).2.1) :=
    (MdEffect.refl s).modMd.orSr _ (by simp)
  have hdata : ((s.modMd m (fun c => c.write k (s.mreg m (0x10 + n)) (s.storeWord m r).1)).orSr m 3 (s.storeWord m r).2.1).md m =
      (s.md m).write k (s.mreg m (0x10 + n)) (s.storeWord m r).1 := by rw [orSr_md, md_modMd_same]
  have hbx : ((s.modMd m (fun c => c.write k (s.mreg m (0x10 + n)) (s.storeWord m r).1)).orSr m 3 (s.storeWord m r).2.1).mreg m 0x3D = s.mreg m 0x3D := by
    rw [orSr_mreg _ (by decide), mreg_congr (modMd_rd _ _)]
  have hsr : ∀ i, i < 16 → ((s.modMd m (fun c => c.write k (s.mreg m (0x10 + n)) (s.storeWord m r).1)).orSr m 3 (s.storeWord m r).2.1).sr m i =
      if i = 3 then (s.sr m i || (s.storeWord m r).2.1) else s.sr m i := fun i hi => by rw [sr_orSr _ hi, sr_congr (modMd_rd _ _)]
  generalize (s.modMd m (fun c => c.write k (s.mreg m (0x10 + n)) (s.storeWord m r).1)).orSr m 3 (s.storeWord m r).2.1 = u at heff hdata hbx hsr
  by_cases hon : s.sr m 1 = true
  · rw [if_pos hon]
    refine ⟨heff.mset (by simp), by rw [mset_md, hdata], ?_, fun i hi => ?_⟩
    · have hle := foldl_min_le (s.storeWord m r).2.2 (s.mreg m 0x3D)
      have hlt := mreg_lt (s := s) m 0x3D
      rw [if_pos hon, mreg_mset_same, hbx, Nat.mod_eq_of_lt (by omega)]
    · rw [← hsr i hi, State.sr, mreg_mset_other (by decide), State.sr]
  · rw [if_neg hon]
    exact ⟨heff, hdata, by rw [if_neg hon, hbx], hsr⟩

/-- What a store has done when the core has gone on (R241, R246). -/
def StoreDone (s : State) (m : Fin 24) (k n mode r : Nat) (t : State) : Prop :=
  MdspDone m ((s.mdPc m + 1) % 32768) 1 [R.MDSP_REG m 0x3D, R.MDSP_REG m (0x10 + n), R.MDSP_REG m 0x3C] s t ∧ Stepped s m n mode t ∧
  (∀ k', k' < 3 → ∀ a, (k', a) ≠ (k, s.mreg m (0x10 + n)) → (t.md m).read k' a = (s.md m).read k' a) ∧
  (r < 6 → (t.md m).read k (s.mreg m (0x10 + n)) = s.mreg m (2 * r) + 65536 * s.mreg m (2 * r + 1) ∧ t.mreg m 0x3D = s.mreg m 0x3D ∧ t.sr m 3 = s.sr m 3) ∧
  (6 ≤ r → (t.md m).read k (s.mreg m (0x10 + n)) = storedHalf s m r 0 + 65536 * storedHalf s m r 1 ∧
    (t.sr m 3 = true ↔ s.sr m 3 = true ∨ ∃ i, i < 2 ∧ storedPart (s.acc m (2 * (r - 6) + i)) ≠ (s.acc m (2 * (r - 6) + i) + 2 ^ 15) / 2 ^ 16) ∧
    t.mreg m 0x3D = if s.sr m 1 then min (min (s.mreg m 0x3D) (rsb (storedHalf s m r 0))) (rsb (storedHalf s m r 1)) else s.mreg m 0x3D)

theorem exists_lt_two {p : Nat → Prop} : (∃ i, i < 2 ∧ p i) ↔ p 0 ∨ p 1 := by
  refine ⟨fun ⟨i, hi, hp⟩ => ?_, fun h => h.elim (fun h => ⟨0, by decide, h⟩) fun h => ⟨1, by decide, h⟩⟩
  match i, hi with
  | 0, _ => exact .inl hp
  | 1, _ => exact .inr hp

theorem store_spec (h : MdspAt s m w) (h0 : 0 < mode) (hm : mode < 4) (hn : n < 8) {k : Nat} (hk : k < 2)
    (hexec : exec (.mdNop m []) s = .next (((s.moveXY m k n mode true r s).mdCycles m 1).mdNext m (s.mdPc m))) :
    After (.mdNop m []) s (StoreDone s m k n mode r) := by
  have hf := storeFacts (s := s) (m := m) (k := k) (n := n) (r := r)
  rw [moveXY_store h0] at hexec
  generalize storedState s m k n r = u at hexec hf
  have heff : MdEffect m [R.MDSP_REG m 0x3D, R.MDSP_REG m (0x10 + n), R.MDSP_REG m 0x3C] s (u.movePtr m n mode s) :=
    (hf.effect.mono (by simp)).movePtr (by simp) (by simp)
  have hreps : ((u.movePtr m n mode s).md m).reps = [] := by rw [movePtr_md, hf.data, write_marks.2, at_reps h]
  have hmove := moved_mdNext (n := 1) hreps (s.mdPc m)
  have hdone := seq_done (n := 1) h heff (by simp [effReg_reg]) hreps
  generalize ((u.movePtr m n mode s).mdCycles m 1).mdNext m (s.mdPc m) = t at hexec hmove hdone
  have hdata : t.md m = (s.md m).write k (s.mreg m (0x10 + n)) (s.storeWord m r).1 := by rw [hmove.md, movePtr_md, hf.data]
  have hbx : t.mreg m 0x3D = if s.sr m 1 then (s.storeWord m r).2.2.foldl min (s.mreg m 0x3D) else s.mreg m 0x3D := by
    rw [hmove.mreg (by decide), movePtr_mreg (by omega) (by decide), hf.bx]
  have hlim : t.sr m 3 = (s.sr m 3 || (s.storeWord m r).2.1) := by
    rw [hmove.sr, movePtr_sr hn (by decide), if_neg (by decide), hf.sr 3 (by decide), if_pos rfl]
  have hword : (t.md m).read k (s.mreg m (0x10 + n)) = (s.storeWord m r).1 := by rw [hdata, read_write_same (by omega) storeWord_lt]
  refine ⟨t, hexec, hdone, stepped_of hm ?_ ?_, fun k' hk' a ha => ?_, fun hr => ?_, fun hr => ?_⟩
  · rw [hmove.mreg (by omega), movePtr_value hn]
  · rw [hmove.sr, movePtr_sr hn (by decide), if_pos rfl, hf.sr 4 (by decide), if_neg (by decide)]
  · rw [hdata, read_write_other (by omega) hk' ha]
  · rw [hword, hbx, hlim, storeWord_reg hr, List.foldl_nil, ite_self, Bool.or_false]
    exact ⟨rfl, rfl, rfl⟩
  · rw [hword, hbx, hlim, storeWord_acc hr, Bool.or_eq_true, Bool.or_eq_true, storePart_flag, storePart_flag, exists_lt_two]
    exact ⟨rfl, Iff.rfl, rfl⟩

end Sys2Proof.Machine
end

section
/-! The arithmetic format of a measurement DSP core as a whole (07_measurement_dsp.md R234 to R248). -/
namespace Sys2Proof.Machine
variable {s : State} {m : Fin 24} {w aop d a b o : Nat}

/-! ### Products -/

/-- The complex product of two registers, the first conjugated or not (R237). -/
def reProd (s : State) (m : Fin 24) (a b o : Nat) : Int :=
  if o = 1 then 2 * s.dreg m (2 * a) * s.dreg m (2 * b) + 2 * s.dreg m (2 * a + 1) * s.dreg m (2 * b + 1)
  else 2 * s.dreg m (2 * a) * s.dreg m (2 * b) - 2 * s.dreg m (2 * a + 1) * s.dreg m (2 * b + 1)
def imProd (s : State) (m : Fin 24) (a b o : Nat) : Int :=
  if o = 1 then 2 * s.dreg m (2 * a + 1) * s.dreg m (2 * b) - 2 * s.dreg m (2 * a) * s.dreg m (2 * b + 1)
  else 2 * s.dreg m (2 * a) * s.dreg m (2 * b + 1) + 2 * s.dreg m (2 * a + 1) * s.dreg m (2 * b)

/-- The two real products, straight or crossed (R235). -/
def loProd (s : State) (m : Fin 24) (a b o : Nat) : Int := 2 * s.dreg m (2 * a) * (if o = 1 then s.dreg m (2 * b + 1) else s.dreg m (2 * b))
def hiProd (s : State) (m : Fin 24) (a b o : Nat) : Int := 2 * s.dreg m (2 * a + 1) * (if o = 1 then s.dreg m (2 * b) else s.dreg m (2 * b + 1))

/-- The factor of CADD and CLD. -/
def gainOf (o : Nat) : Int := if o = 1 then -65536 else 65536

/-- BADD's half. -/
def halfOf (o : Nat) (v : Int) : Int := if o = 1 then (v + 1) / 2 else v

theorem cmul_plain : s.cmul m (plainFields d a b o) = (reProd s m a b o, imProd s m a b o) := by
  unfold State.cmul State.cre State.cim prod plainFields reProd imProd
  by_cases ho : o = 1
  · simp only [ho, decide_true, if_true]
  · simp only [ho, decide_false, if_false, Bool.false_eq_true]

theorem dmul_plain : s.dmul m (plainFields d a b o) = (loProd s m a b o, hiProd s m a b o) := by
  unfold State.dmul State.cre State.cim prod plainFields loProd hiProd
  by_cases ho : o = 1
  · simp only [ho, decide_true, if_true]
  · simp only [ho, decide_false, if_false, Bool.false_eq_true]

theorem opt_plain {α : Type} (x y : α) : (if (plainFields d a b o).opt = true then x else y) = if o = 1 then x else y :=
  if_congr decide_eq_true_iff rfl rfl

theorem b2n_opt (ho : o < 2) : b2n (plainFields d a b o).opt = o := by
  rcases (show o = 0 ∨ o = 1 by omega) with rfl | rfl <;> rfl

/-! ### Forms that are allowed (R235, R236) -/

theorem legal_product (h1 : 1 ≤ aop) (h6 : aop ≤ 6) (hd : d < 2) : aluLegal aop (plainFields d a b o) = true := by
  simp [aluLegal, plainFields, hd, h1, h6, show aop ≠ 0 by omega, show aop ≠ 0xA by omega, show aop ≠ 0xB by omega, show aop < 0xC by omega,
    show aop ≠ 9 by omega, show aop ≠ 0xF by omega]

theorem legal_single (h : aop = 7 ∨ aop = 8) (hd : d < 2) : aluLegal aop (plainFields d a 0 o) = true := by
  rcases h with rfl | rfl <;> simp [aluLegal, plainFields, hd]

theorem legal_clr (hd : d < 2) : aluLegal 9 (plainFields d 0 0 0) = true := by simp [aluLegal, plainFields, hd]
theorem legal_badd : aluLegal 0xA (plainFields 0 a 0 o) = true := rfl
theorem legal_bexp : aluLegal 0xB (plainFields 0 a 0 0) = true := rfl
theorem legal_acc (h : aop = 0xC ∨ aop = 0xD ∨ aop = 0xE) : aluLegal aop (plainFields d a 0 o) = true := by
  rcases h with rfl | rfl | rfl <;> rfl
theorem legal_rnd : aluLegal 0xF (plainFields d 0 0 0) = true := rfl

/-! ### The operations -/

section Pair
variable {c : Instr} {alu : State → Fin 24 → AFld → AluRes} {x y : Int}

/-- An operation on the accumulator pair of D. -/
theorem pair_spec (h : MdspAt s m w) (hf : PlainFit d a b o) (hd : d < 2) (hop : aop < 16) (hl : aluLegal aop (plainFields d a b o) = true)
    (hc : exec c s = .next (s.mdArith m [] aop alu)) (hr : alu s m (plainFields d a b o) = pairRes (plainFields d a b o) x y)
    (hw : w = plainWord aop d a b o) : After c s (AccsDone s m [(2 * d, x), (2 * d + 1, y)] []) :=
  accs_spec h hf hop hw hc hl (accsList_pair hd) hr

/-- An operation on accumulator D alone. -/
theorem one_spec (h : MdspAt s m w) (hf : PlainFit d a b o) (hop : aop < 16) (hl : aluLegal aop (plainFields d a b o) = true)
    (hc : exec c s = .next (s.mdArith m [] aop alu)) (hr : alu s m (plainFields d a b o) = oneRes (plainFields d a b o) x none)
    (hw : w = plainWord aop d a b o) : After c s (AccsDone s m [(d, x)] []) :=
  accs_spec h hf hop hw hc hl (accsList_one hf.d) hr

end Pair

section Operations
variable (h : MdspAt s m w) (hf : PlainFit d a b o)
include h hf

section Products
variable (hd : d < 2)
include hd

theorem cmpy_spec (hw : w = plainWord 1 d a b o) : After (.mdCmpy m []) s (AccsDone s m [(2 * d, reProd s m a b o), (2 * d + 1, imProd s m a b o)] []) :=
  pair_spec h hf hd (by decide) (legal_product (by decide) (by decide) hd) rfl (by rw [aluCmpy, cmul_plain]) hw

theorem cmac_spec (hw : w = plainWord 2 d a b o) : After (.mdCmac m []) s
    (AccsDone s m [(2 * d, s.acc m (2 * d) + reProd s m a b o), (2 * d + 1, s.acc m (2 * d + 1) + imProd s m a b o)] []) :=
  pair_spec h hf hd (by decide) (legal_product (by decide) (by decide) hd) rfl (by rw [aluCmac, cmul_plain]; rfl) hw

theorem cmsu_spec (hw : w = plainWord 3 d a b o) : After (.mdCmsu m []) s
    (AccsDone s m [(2 * d, s.acc m (2 * d) - reProd s m a b o), (2 * d + 1, s.acc m (2 * d + 1) - imProd s m a b o)] []) :=
  pair_spec h hf hd (by decide) (legal_product (by decide) (by decide) hd) rfl (by rw [aluCmsu, cmul_plain]; rfl) hw

theorem dmpy_spec (hw : w = plainWord 4 d a b o) : After (.mdDmpy m []) s (AccsDone s m [(2 * d, loProd s m a b o), (2 * d + 1, hiProd s m a b o)] []) :=
  pair_spec h hf hd (by decide) (legal_product (by decide) (by decide) hd) rfl (by rw [aluDmpy, dmul_plain]) hw

theorem dmac_spec (hw : w = plainWord 5 d a b o) : After (.mdDmac m []) s
    (AccsDone s m [(2 * d, s.acc m (2 * d) + loProd s m a b o), (2 * d + 1, s.acc m (2 * d + 1) + hiProd s m a b o)] []) :=
  pair_spec h hf hd (by decide) (legal_product (by decide) (by decide) hd) rfl (by rw [aluDmac, dmul_plain]; rfl) hw

theorem dmsu_spec (hw : w = plainWord 6 d a b o) : After (.mdDmsu m []) s
    (AccsDone s m [(2 * d, s.acc m (2 * d) - loProd s m a b o), (2 * d + 1, s.acc m (2 * d + 1) - hiProd s m a b o)] []) :=
  pair_spec h hf hd (by decide) (legal_product (by decide) (by decide) hd) rfl (by rw [aluDmsu, dmul_plain]; rfl) hw

theorem cadd_spec (hb : b = 0) (hw : w = plainWord 7 d a b o) : After (.mdCadd m []) s
    (AccsDone s m [(2 * d, s.acc m (2 * d) + gainOf o * s.dreg m (2 * a)), (2 * d + 1, s.acc m (2 * d + 1) + gainOf o * s.dreg m (2 * a + 1))] []) := by
  subst hb
  exact pair_spec h hf hd (by decide) (legal_single (.inl rfl) hd) rfl (by rw [aluCadd, opt_plain]; rfl) hw

theorem cld_spec (hb : b = 0) (hw : w = plainWord 8 d a b o) : After (.mdCld m []) s
    (AccsDone s m [(2 * d, gainOf o * s.dreg m (2 * a)), (2 * d + 1, gainOf o * s.dreg m (2 * a + 1))] []) := by
  subst hb
  exact pair_spec h hf hd (by decide) (legal_single (.inr rfl) hd) rfl (by rw [aluCld, opt_plain]; rfl) hw

theorem clr_spec (ha : a = 0) (hb : b = 0) (ho : o = 0) (hw : w = plainWord 9 d a b o) : After (.mdClr m []) s
    (AccsDone s m [(2 * d, 0), (2 * d + 1, 0)] []) := by
  subst ha hb ho
  exact pair_spec h hf hd (by decide) (legal_clr hd) rfl rfl hw

end Products

theorem badd_spec (hd : d = 0) (hb : b = 0) (hw : w = plainWord 0xA d a b o) : After (.mdBadd m []) s
    (AccsDone s m [(0, halfOf o (65536 * s.dreg m (2 * a) + s.acc m 2)), (1, halfOf o (65536 * s.dreg m (2 * a + 1) + s.acc m 3)),
      (2, halfOf o (65536 * s.dreg m (2 * a) - s.acc m 2)), (3, halfOf o (65536 * s.dreg m (2 * a + 1) - s.acc m 3))] []) := by
  subst hd hb
  refine accs_spec h hf (by decide) hw rfl legal_badd accsList_four ?_
  rw [aluBadd]
  simp only [opt_plain]
  rfl

theorem ash_spec (hb : b = 0) (hw : w = plainWord 0xE d a b o) : After (.mdAsh m []) s
    (AccsDone s m [(d, shiftRound (s.acc m d) (max (-39) (min 39 (s.dreg m (2 * a + o)))))] []) := by
  subst hb
  exact one_spec h hf (by decide) (legal_acc (.inr (.inr rfl))) rfl (by rw [aluAsh, b2n_opt hf.o]; rfl) hw

theorem rnd_spec (ha : a = 0) (hb : b = 0) (ho : o = 0) (hw : w = plainWord 0xF d a b o) : After (.mdRnd m []) s
    (AccsDone s m [(d, (s.acc m d + 2 ^ 15) / 2 ^ 16 * 2 ^ 16)] []) := by
  subst ha hb ho
  exact one_spec h hf (by decide) legal_rnd rfl rfl hw

theorem norm_spec (hb : b = 0) (hw : w = plainWord 0xD d a b o) : After (.mdNorm m []) s (fun t => t.mreg m (2 * a + o) = unsignedOf 16 (expOf (s.acc m d)) ∧
    AccsDone s m [(d, shiftRound (s.acc m d) (expOf (s.acc m d)))] [R.MDSP_REG m (2 * a + o)] t) := by
  subst hb
  have ha := hf.a
  have ho := hf.o
  refine accs_dreg_spec h hf (by decide) hw rfl (legal_acc (.inr (.inl rfl))) (accsList_one hf.d) ?_ (unsignedOf_lt 16 _) (by omega)
  rw [aluNorm, oneRes, b2n_opt ho]
  rfl

theorem exp_spec (hb : b = 0) (hw : w = plainWord 0xC d a b o) : After (.mdExp m []) s (fun t =>
    MdspDone m ((s.mdPc m + 1) % 32768) 1 [R.MDSP_REG m (2 * a + o)] s t ∧ t.mdsp = s.mdsp ∧ t.mreg m (2 * a + o) = unsignedOf 16 (expOf (s.acc m d))) := by
  subst hb
  have ha := hf.a
  have ho := hf.o
  refine reg_spec h hf (by decide) hw rfl (legal_acc (.inl rfl)) ?_ (unsignedOf_lt 16 _) (by omega)
  rw [aluExp, b2n_opt ho]
  rfl

theorem bexp_spec (hd : d = 0) (hb : b = 0) (ho : o = 0) (hw : w = plainWord 0xB d a b o) : After (.mdBexp m []) s (fun t =>
    MdspDone m ((s.mdPc m + 1) % 32768) 1 [R.MDSP_REG m 0x3D] s t ∧ t.mdsp = s.mdsp ∧
    t.mreg m 0x3D = min (s.mreg m 0x3D) (min (rsb (s.mreg m (2 * a))) (rsb (s.mreg m (2 * a + 1))))) := by
  subst hd hb ho
  refine reg_spec h hf (by decide) hw rfl legal_bexp rfl ?_ (by decide)
  have := mreg_lt (s := s) m 0x3D
  omega

end Operations

/-! ### Forms that fault (R236, R248) -/

section Excluded
variable {c : Instr} {alu : State → Fin 24 → AFld → AluRes}

theorem excluded_spec (h : MdspAt s m w) (hop : aop < 16) (hc : exec c s = .next (s.mdArith m [] aop alu)) (hw : w / 2 ^ 27 = aop)
    (hl : aluLegal aop (aFields w) = false ∨ movesLegal aop (aFields w) = false) : After c s (MdspFaults m 1 s) :=
  illegal_spec (hc.trans (congrArg (fun x => (.next x : Out)) (mdArith_at h hop hw))) hl

end Excluded

theorem b2n_false : b2n false = 0 := rfl
theorem b2n_true : b2n true = 1 := rfl

/-- The operations and their codes (R235). -/
def arithCodes (m : Fin 24) : List (Instr × Nat) :=
  [(.mdNop m [], 0), (.mdCmpy m [], 1), (.mdCmac m [], 2), (.mdCmsu m [], 3), (.mdDmpy m [], 4), (.mdDmac m [], 5), (.mdDmsu m [], 6), (.mdCadd m [], 7),
    (.mdCld m [], 8), (.mdClr m [], 9), (.mdBadd m [], 0xA), (.mdBexp m [], 0xB), (.mdExp m [], 0xC), (.mdNorm m [], 0xD), (.mdAsh m [], 0xE), (.mdRnd m [], 0xF)]

theorem runs_arith {c : Instr} {n : Nat} {alu : State → Fin 24 → AFld → AluRes} (hn : n < 16) (hc : exec c s = .next (s.mdArith m [] n alu)) :
    (c, n).2 < 16 ∧ ∃ alu, exec (c, n).1 s = .next (s.mdArith m [] (c, n).2 alu) := ⟨hn, alu, hc⟩

/-- Each of them but NOP runs its operation. -/
theorem exec_arith {e : Instr × Nat} (he : e ∈ arithCodes m) : (e = (.mdNop m [], 0)) ∨ (e.2 < 16 ∧ ∃ alu, exec e.1 s = .next (s.mdArith m [] e.2 alu)) := by
  simp only [arithCodes, List.mem_cons, List.not_mem_nil, or_false] at he
  rcases he with rfl | he
  · exact .inl rfl
  · refine .inr ?_
    rcases he with rfl | rfl | rfl | rfl | rfl | rfl | rfl | rfl | rfl | rfl | rfl | rfl | rfl | rfl | rfl
    · exact runs_arith (alu := aluCmpy) (by decide) rfl
    · exact runs_arith (alu := aluCmac) (by decide) rfl
    · exact runs_arith (alu := aluCmsu) (by decide) rfl
    · exact runs_arith (alu := aluDmpy) (by decide) rfl
    · exact runs_arith (alu := aluDmac) (by decide) rfl
    · exact runs_arith (alu := aluDmsu) (by decide) rfl
    · exact runs_arith (alu := aluCadd) (by decide) rfl
    · exact runs_arith (alu := aluCld) (by decide) rfl
    · exact runs_arith (alu := aluClr) (by decide) rfl
    · exact runs_arith (alu := aluBadd) (by decide) rfl
    · exact runs_arith (alu := aluBexp) (by decide) rfl
    · exact runs_arith (alu := aluExp) (by decide) rfl
    · exact runs_arith (alu := aluNorm) (by decide) rfl
    · exact runs_arith (alu := aluAsh) (by decide) rfl
    · exact runs_arith (alu := aluRnd) (by decide) rfl

theorem fault_spec (h : MdspAt s m w) {e : Instr × Nat} (he : e ∈ arithCodes m) (hw : w / 2 ^ 27 = e.2)
    (hl : aluLegal e.2 (aFields w) = false ∨ movesLegal e.2 (aFields w) = false) : After e.1 s (MdspFaults m 1 s) := by
  rcases exec_arith (s := s) he with rfl | ⟨hop, alu, hc⟩
  · exact illegal_spec (exec_mdNop h hw) hl
  · exact excluded_spec h hop hc hw hl

end Sys2Proof.Machine
namespace Sys2Proof
open Machine

/-- Settles O53: the result of each operation, its accumulators and flags (AccsDone), and the moves with their pointer (Stepped). -/
theorem mdspArithmeticAndMoves : Obligations.MdspArithmeticAndMoves := by
  intro s m w h
  refine ⟨fun d a b o hd ha hb ho => ?_, fun hw => nop_spec h hw, fun e he hw hl => fault_spec h he hw hl, fun n mode r h0 hm hr => ?_⟩
  · have hf : PlainFit d a b o := ⟨hd, ha, hb, ho⟩
    refine ⟨fun hd2 => ?_, fun hd2 hb0 => ?_, fun hd2 ha0 hb0 ho0 hw => clr_spec h hf hd2 ha0 hb0 ho0 hw, fun hd0 hb0 hw => badd_spec h hf hd0 hb0 hw,
      fun hb0 hw => norm_spec h hf hb0 hw, fun hb0 hw => ash_spec h hf hb0 hw, fun ha0 hb0 ho0 hw => rnd_spec h hf ha0 hb0 ho0 hw,
      fun hd0 hb0 ho0 hw => bexp_spec h hf hd0 hb0 ho0 hw, fun hb0 hw => exp_spec h hf hb0 hw⟩
    · refine List.forall_mem_cons.mpr ⟨fun hw => cmpy_spec h hf hd2 hw, List.forall_mem_cons.mpr ⟨fun hw => cmac_spec h hf hd2 hw,
        List.forall_mem_cons.mpr ⟨fun hw => cmsu_spec h hf hd2 hw, List.forall_mem_cons.mpr ⟨fun hw => dmpy_spec h hf hd2 hw,
        List.forall_mem_cons.mpr ⟨fun hw => dmac_spec h hf hd2 hw, List.forall_mem_cons.mpr ⟨fun hw => dmsu_spec h hf hd2 hw, List.forall_mem_nil _⟩⟩⟩⟩⟩⟩
    · refine List.forall_mem_cons.mpr ⟨fun hw => cadd_spec h hf hd2 hb0 hw, List.forall_mem_cons.mpr ⟨fun hw => cld_spec h hf hd2 hb0 hw, List.forall_mem_nil _⟩⟩
  · refine ⟨fun hn hw => ?_, fun hn hw => ?_, fun hn hn' hw => ?_, fun hn hn' hw => ?_, fun hn _ hw => ?_⟩
    · exact load_spec h h0 hm (by omega) hr (exec_moveX h h0 hm hr false hn (by rw [hw, b2n_false, Nat.zero_mul, Nat.add_zero]))
    · exact store_spec h h0 hm (by omega) (by decide) (exec_moveX h h0 hm hr true hn (by rw [hw, b2n_true, Nat.one_mul]))
    · exact load_spec h h0 hm hn' hr (exec_moveY h h0 hm hr false hn hn' (by rw [hw, b2n_false, Nat.zero_mul, Nat.add_zero]))
    · exact store_spec h h0 hm hn' (by decide) (exec_moveY h h0 hm hr true hn hn' (by rw [hw, b2n_true, Nat.one_mul]))
    · subst hn
      exact pmove_spec h h0 hm hw

end Sys2Proof
end
